-- ==== Sys2Proof/Word.lean ====
section
/-!
DEFINITION. The word types of the device. All registers are words of 32 bits (spec/00_scope.md, "Registers and access
codes"); vectors, accumulators and 64-bit registers have their own widths.
-/
namespace Sys2Proof

/-- A register word (spec/00_scope.md). -/
abbrev Word := BitVec 32

/-- A byte of an addressed memory. -/
abbrev Byte := BitVec 8

end Sys2Proof
end

