-- ==== Sys2Proof/Syntax.lean ====
section
/-!
DEFINITION. The commands of the device: one constructor per row of spec/opcode_table.json, in the table's order, with
the operands that the row's rules name. Data that reaches the device from outside (samples, edges, host memory that a
command makes the device read, received frames) stands in the operands.
-/
namespace Sys2Proof

/-- Host memory read by the device: the bytes, or none when the host does not answer (R439, R463). -/
abbrev HostRead := Option (List (BitVec 8))

/-- A command ring entry (Table 12-2). -/
structure CmdEntry where
  opcode : BitVec 16
  flags : BitVec 16
  tag : BitVec 16
  rsv : BitVec 16
  params : List (BitVec 64)
deriving DecidableEq, Repr

/-- A fetched command: its entry, the host memory that it makes the device read, in the order of its parameters, and
what the hardware it drives measures. -/
structure Fetch where
  entry : CmdEntry
  reads : List HostRead
  env : List (BitVec 32)
deriving DecidableEq, Repr

/-- What a boot stage finds (Table 17-3): the crystal, the LOCKA voltages in millivolts at 0.2 ms and 1.5 ms (R599),
and the images read from flash, in the order in which the stage reads them. -/
structure BootData where
  crystalOk : Bool
  locka02 : Nat
  locka15 : Nat
  images : List (List (BitVec 8))
deriving DecidableEq, Repr

/-- The trims that a measurement of a sub-converter implies (Table 3-1), as codes. -/
structure TrimSet where
  ofs : Int
  gain : Int
  skew : Nat
  bw : Nat
deriving DecidableEq, Repr

/-- An error that a read finds in a capture-memory sector (R404 to R406): the sector's place in the burst, the
corrected symbol (127: uncorrectable, 128: a correction by the stack itself) and, when uncorrectable, the data as read. -/
structure SecErr where
  at_ : Nat
  symbol : Nat
  data : List (BitVec 8)
deriving DecidableEq, Repr

/-- A carriage as it arrives on a Beldor link (Table 9-6), with the number of its codeword on the link and the symbols of that
codeword that arrived wrong (R331, R332). -/
structure Carriage where
  cw : BitVec 32
  errs : Nat
  type_ : BitVec 8
  flags : BitVec 8
  seq : BitVec 16
  payload : BitVec 192
  crc : BitVec 32
deriving DecidableEq, Repr

/-- What the steps of link training find (Tables 9-8 and R337): the first step that fails (0: none), the peer's role and
device number, the child lane on the parent, the measured delay in 2^-16 ns before CL_LINKk_ASYM, and the rms in ps. -/
structure TrainResult where
  failStep : Nat
  peerRole : Nat
  peerDev : BitVec 16
  peerLane : Nat
  delay : Int
  spread : Nat
deriving DecidableEq, Repr


/-- The commands of the device. -/
inductive Instr where
  /-- REGISTER_WRITE (R4): a host write of `size` bytes at a BAR0 offset; `full`: all byte enables set. -/
  | registerWrite (pf : Fin 2) (off : BitVec 24) (size : Fin 65) (full : Bool) (data : BitVec 64)
  /-- RC_READ (R7): a host read of `size` bytes at a BAR0 offset. -/
  | rcRead (pf : Fin 2) (off : BitVec 24) (size : Fin 65) (full : Bool)
  /-- LOW_WORD_READ (R420): a 4-byte read of the low word of a 64-bit register. -/
  | lowWordRead (pf : Fin 2) (off : BitVec 24)
  /-- HIGH_WORD_READ (R420): a 4-byte read of the high word of a 64-bit register. -/
  | highWordRead (pf : Fin 2) (off : BitVec 24)
  /-- LOW_WORD_WRITE (R421): a 4-byte write to the low word of a 64-bit register. -/
  | lowWordWrite (pf : Fin 2) (off : BitVec 24) (data : BitVec 32)
  /-- HIGH_WORD_WRITE (R421): a 4-byte write to the high word of a 64-bit register. -/
  | highWordWrite (pf : Fin 2) (off : BitVec 24) (data : BitVec 32)
  /-- BLOCK_REQUEST (R19): a request to fence block `b`; `answered`: the block answers it in this action. -/
  | blockRequest (b : Fin 256) (tag : BitVec 16) (epoch : BitVec 8) (answered : Bool)
  /-- REPLY_RECEIVED (R25): a reply of block `b` reaches its receiver. -/
  | replyReceived (b : Fin 256) (tag : BitVec 16) (epoch : BitVec 8)
  /-- FENCE_EXIT (R26): the block is ready to leave FENCED or OFFLINE. -/
  | fenceExit (b : Fin 256)
  /-- DOMAIN_READY (R507): power domain `d` reports register readiness. -/
  | domainReady (d : Fin 96)
  /-- CAPTURE_WRITER_RESTART (R29): the alignment tick after the capture writer's reset. -/
  | captureWriterRestart
  /-- PORST_N (R30): a power-on reset. -/
  | porstN
  /-- WARM_N (R561): WARM_N low for `ns` nanoseconds. -/
  | warmN (ns : Nat)
  /-- WATCHDOG_EXPIRY (R563): the watchdog of R563 expires. -/
  | watchdogExpiry
  /-- WDOG_KICK (R563): a write of ID_WDOG. -/
  | wdogKick (pf : Fin 2) (v : BitVec 32)
  /-- BOOT_STAGE (R565): the present boot stage ends. -/
  | bootStage (d : BootData)
  /-- HOST_BOOT_GO (R567): a write of ID_BOOT_CTRL.GO, with the image at the host address. -/
  | hostBootGo (pf : Fin 2) (image : HostRead)
  /-- BLOCK_RESET (R571): a write of ID_BRESET with GO. -/
  | blockReset (pf : Fin 2) (v : BitVec 32)
  /-- RETUNE (R36): the command on ring `k`. -/
  | retune (k : Fin 16) (f : Fetch)
  /-- BANDSCAN (R37): the command on ring `k`; `env`: the 64 measured band words. -/
  | bandscan (k : Fin 16) (f : Fetch)
  /-- RELOCK_QUALIFIED (R38): LOCKED has read 1 for 5 ms after a relock. -/
  | relockQualified
  /-- RELOCK_TIMEOUT (R600): 100 ms after relock began without qualification. -/
  | relockTimeout
  /-- CLOCK_STAGE_QUALIFIED (R44): the clock stage of the boot qualifies or times out. -/
  | clockStageQualified
  /-- LOCKED_RISE (R41): LOCKA rises above 1.0 V. -/
  | lockedRise
  /-- LOCK_LOSS (R42): LOCKA falls below 0.7 V. -/
  | lockLoss
  /-- REFIN_EDGE (R46): a REFIN edge, `k` root cycles into the control cycle. -/
  | refinEdge (k : Fin 160)
  /-- PPSIN_EDGE (R61): a PPSIN edge, `k` root cycles into the control cycle. -/
  | ppsinEdge (k : Fin 160)
  /-- TRACKER_INTERVAL_CLOSE (R49): an interval closes; `meas`: the measured frequency offset in units of 2^-44. -/
  | trackerIntervalClose (meas : Int)
  /-- PTIME_INCREMENT (R56): a control cycle passes. -/
  | ptimeIncrement
  /-- TB_MODE_CHANGE (R58): the alignment tick after a write of TB_CTRL.MODE. -/
  | tbModeChange
  /-- LOAD (R59): a write setting TB_CTRL.LOAD. -/
  | load (pf : Fin 2)
  /-- SNAP (R60): a write setting TB_CTRL.SNAP. -/
  | snap (pf : Fin 2)
  /-- PPSOUT_PULSE (R62): a second boundary plus TB_PPSOUT_OFS. -/
  | ppsoutPulse
  /-- CHANNEL_SAMPLES (R66): the 16 codes of input channel `n` in fabric cycle `sub` of the control cycle. -/
  | channelSamples (n : Fin 8) (sub : Fin 5) (codes : List (BitVec 12))
  /-- ADC_EN_WRITE (R69): a write of ADCn_CTRL that changes EN. -/
  | adcEnWrite (pf : Fin 2) (n : Fin 8) (v : BitVec 32)
  /-- DCOR_APPLY (R65): the alignment tick after a write of ADCn_DCOR. -/
  | dcorApply (n : Fin 8)
  /-- ROTATION_STEP_START (R71): a 5 ms step start. -/
  | rotationStepStart (n : Fin 8)
  /-- PLAUSIBILITY_DECISION (R73): the first window ends: its slot samples' codes of the spare wheel, and those of the outgoing
  sub-converter. -/
  | plausibilityDecision (n : Fin 8) (spare outgoing : List (BitVec 12))
  /-- PLAUSIBILITY_RETRY (R74): a repeated window ends. -/
  | plausibilityRetry (n : Fin 8) (spare outgoing : List (BitVec 12))
  /-- MEASUREMENT_COMPARE (R78): both measurements are done. -/
  | measurementCompare (n : Fin 8) (m1 m2 : TrimSet)
  /-- HAND_BACK (R71): the settle run ends. -/
  | handBack (n : Fin 8)
  /-- ROT_HOLD (R83): a write of ADCn_CTRL that changes ROT_HOLD. -/
  | rotHold (pf : Fin 2) (n : Fin 8) (v : BitVec 32)
  /-- TRIM_WRITE (R84): a write of ADCn_TRIMk or ADCn_SKEWk. -/
  | trimWrite (pf : Fin 2) (n : Fin 8) (k : Fin 33) (skew : Bool) (v : BitVec 32)
  /-- FP_RUN (R85): a write of ADCn_CTRL with FP_RUN. -/
  | fpRun (pf : Fin 2) (n : Fin 8) (v : BitVec 32)
  /-- FIRST_PASS_DONE (R87): the first pass ends: for each of the 33 sub-converters, the two measurements of each of its tries. -/
  | firstPassDone (n : Fin 8) (res : List (List (TrimSet × TrimSet)))
  /-- LOOPBACK_SWITCH (R99): the alignment tick after a change of LOOP_EN or LOOP_SRC. -/
  | loopbackSwitch (n : Fin 8)
  /-- DAC_ENABLE (R95): a write of DACn_CTRL with EN = 1. -/
  | dacEnable (pf : Fin 2) (n : Fin 4) (v : BitVec 32)
  /-- DAC_START (R95): the start of output `n` falls due. -/
  | dacStart (n : Fin 4)
  /-- DAC_PREFETCH_READY (R602): an alignment tick with at least 98,304 B prefetched. -/
  | dacPrefetchReady (n : Fin 4)
  /-- DAC_STOP (R97): the alignment tick after STOP or EN = 0. -/
  | dacStop (n : Fin 4)
  /-- DAC_SOURCE_CHANGE (R98): the alignment tick after a write of SRC or DACn_GAIN. -/
  | dacSourceChange (n : Fin 4)
  /-- NCO_FTW_APPLY (R94): the alignment tick after a write of a frequency word. -/
  | ncoFtwApply (n : Fin 4) (t : Fin 2)
  /-- DAC_SAMPLE_DUE (R91): an output sample falls due. -/
  | dacSampleDue (n : Fin 4)
  /-- SYNTH_RECORD (R604): the samples of a SYNTH record. -/
  | synthRecord (n : Fin 4) (samples : List (BitVec 16))
  /-- FCH_COMMIT (R126): a write of FCHn_CTRL with COMMIT. -/
  | fchCommit (pf : Fin 2) (n : Fin 16) (v : BitVec 32)
  /-- FCH_CHECKS_DONE (R126): the checks of chain `n` end. -/
  | fchChecksDone (n : Fin 16)
  /-- FCH_CANCEL (R133): a write of FCHn_CTRL with CANCEL. -/
  | fchCancel (pf : Fin 2) (n : Fin 16) (v : BitVec 32)
  /-- FCH_ENABLE (R137): a write of FCHn_CTRL with EN = 1. -/
  | fchEnable (pf : Fin 2) (n : Fin 16) (v : BitVec 32)
  /-- FCH_START (R137): the alignment tick after the enable checks. -/
  | fchStart (n : Fin 16)
  /-- FCH_DISABLE (R138): a write of FCHn_CTRL with EN = 0. -/
  | fchDisable (pf : Fin 2) (n : Fin 16) (v : BitVec 32)
  /-- FCH_HAND_OVER (R129): the hand-over boundary of chain `n`. -/
  | fchHandOver (n : Fin 16)
  /-- CHAIN_OUTPUT (R115): chain `n` completes an output sample. -/
  | chainOutput (n : Fin 16)
  /-- FRAME_CUT (R145): context `c`. -/
  | frameCut (c : Fin 3072)
  /-- LOCAL_TAKE (R150): forge `f`. -/
  | localTake (f : Fin 32)
  /-- STEAL_PROBE (R151): anvil `a` of forge `f`; `lost`: the chosen rack serves another thief in that cycle. -/
  | stealProbe (f a : Fin 32) (lost : Bool)
  /-- PIN_SEGMENT (R178): context `c`. -/
  | pinSegment (c : Fin 3072)
  /-- HOME_MOVE (R142): context `c` to forge `f`. -/
  | homeMove (c : Fin 3072) (f : Fin 32)
  /-- FAB_BUDGET_WRITE (R166): a write of FAB_G_BUDGET, or of FAB_CTRL when `radius`. -/
  | fabBudgetWrite (pf : Fin 2) (radius : Bool) (v : BitVec 32)
  /-- NOP (R196): anvil `a` of forge `f`. -/
  | nop (f a : Fin 32)
  /-- REP (R212): anvil `a` of forge `f`. -/
  | rep (f a : Fin 32)
  /-- REPS (R213): anvil `a` of forge `f`. -/
  | reps (f a : Fin 32)
  /-- BR (R195): anvil `a` of forge `f`. -/
  | br (f a : Fin 32)
  /-- BNZ (R196): anvil `a` of forge `f`. -/
  | bnz (f a : Fin 32)
  /-- BZ (R196): anvil `a` of forge `f`. -/
  | bz (f a : Fin 32)
  /-- SLI (R196): anvil `a` of forge `f`. -/
  | sli (f a : Fin 32)
  /-- SLUI (R196): anvil `a` of forge `f`. -/
  | slui (f a : Fin 32)
  /-- SADD (R196): anvil `a` of forge `f`. -/
  | sadd (f a : Fin 32)
  /-- SSUB (R196): anvil `a` of forge `f`. -/
  | ssub (f a : Fin 32)
  /-- SADDI (R196): anvil `a` of forge `f`. -/
  | saddi (f a : Fin 32)
  /-- SLOG (R196): anvil `a` of forge `f`. -/
  | slog (f a : Fin 32)
  /-- SSH (R196): anvil `a` of forge `f`. -/
  | ssh (f a : Fin 32)
  /-- AIMM (R196): anvil `a` of forge `f`. -/
  | aimm (f a : Fin 32)
  /-- OIMM (R196): anvil `a` of forge `f`. -/
  | oimm (f a : Fin 32)
  /-- LIMM (R196): anvil `a` of forge `f`. -/
  | limm (f a : Fin 32)
  /-- AMOV (R196): anvil `a` of forge `f`. -/
  | amov (f a : Fin 32)
  /-- SMOVA (R196): anvil `a` of forge `f`. -/
  | smova (f a : Fin 32)
  /-- RDSAT (R196): anvil `a` of forge `f`. -/
  | rdsat (f a : Fin 32)
  /-- VLD (R196): anvil `a` of forge `f`. -/
  | vld (f a : Fin 32)
  /-- VST (R196): anvil `a` of forge `f`. -/
  | vst (f a : Fin 32)
  /-- VLD2 (R196): anvil `a` of forge `f`. -/
  | vld2 (f a : Fin 32)
  /-- SLD (R196): anvil `a` of forge `f`. -/
  | sld (f a : Fin 32)
  /-- SST (R196): anvil `a` of forge `f`. -/
  | sst (f a : Fin 32)
  /-- ALD (R197): anvil `a` of forge `f`. -/
  | ald (f a : Fin 32)
  /-- AST (R197): anvil `a` of forge `f`. -/
  | ast (f a : Fin 32)
  /-- VADD (R196): anvil `a` of forge `f`. -/
  | vadd (f a : Fin 32)
  /-- VSUB (R196): anvil `a` of forge `f`. -/
  | vsub (f a : Fin 32)
  /-- VMUL (R196): anvil `a` of forge `f`. -/
  | vmul (f a : Fin 32)
  /-- VMAC (R196): anvil `a` of forge `f`. -/
  | vmac (f a : Fin 32)
  /-- VMAX (R196): anvil `a` of forge `f`. -/
  | vmax (f a : Fin 32)
  /-- VMIN (R196): anvil `a` of forge `f`. -/
  | vmin (f a : Fin 32)
  /-- VSHR (R196): anvil `a` of forge `f`. -/
  | vshr (f a : Fin 32)
  /-- VSHL (R196): anvil `a` of forge `f`. -/
  | vshl (f a : Fin 32)
  /-- VLOG (R196): anvil `a` of forge `f`. -/
  | vlog (f a : Fin 32)
  /-- VSWAP (R196): anvil `a` of forge `f`. -/
  | vswap (f a : Fin 32)
  /-- ACLR (R196): anvil `a` of forge `f`. -/
  | aclr (f a : Fin 32)
  /-- ARND (R196): anvil `a` of forge `f`. -/
  | arnd (f a : Fin 32)
  /-- VBCAST (R196): anvil `a` of forge `f`. -/
  | vbcast (f a : Fin 32)
  /-- VLANE (R196): anvil `a` of forge `f`. -/
  | vlane (f a : Fin 32)
  /-- CMUL (R198): anvil `a` of forge `f`. -/
  | cmul (f a : Fin 32)
  /-- CMAC (R198): anvil `a` of forge `f`. -/
  | cmac (f a : Fin 32)
  /-- BFLY4 (R199): anvil `a` of forge `f`. -/
  | bfly4 (f a : Fin 32)
  /-- BFLY2 (R200): anvil `a` of forge `f`. -/
  | bfly2 (f a : Fin 32)
  /-- WIN (R201): anvil `a` of forge `f`. -/
  | win (f a : Fin 32)
  /-- MAG2 (R202): anvil `a` of forge `f`. -/
  | mag2 (f a : Fin 32)
  /-- MAG2_DB (R202): anvil `a` of forge `f`. -/
  | mag2Db (f a : Fin 32)
  /-- LOG2A (R203): anvil `a` of forge `f`. -/
  | log2a (f a : Fin 32)
  /-- VMAXI (R204): anvil `a` of forge `f`. -/
  | vmaxi (f a : Fin 32)
  /-- VMINI (R204): anvil `a` of forge `f`. -/
  | vmini (f a : Fin 32)
  /-- HIST (R205): anvil `a` of forge `f`. -/
  | hist (f a : Fin 32)
  /-- MOVE (R206): anvil `a` of forge `f`. -/
  | move (f a : Fin 32)
  /-- MOVE_COMPLETE (R206): anvil `a` of forge `f`; fc beyond 4 + ⌈n ÷ 32⌉, and errors found in capture memory. -/
  | moveComplete (f a : Fin 32) (wait : Nat) (errs : List SecErr)
  /-- TLOAD (R208): anvil `a` of forge `f`. -/
  | tload (f a : Fin 32)
  /-- BDONE (R209): anvil `a` of forge `f`. -/
  | bdone (f a : Fin 32)
  /-- BRK (R236): anvil `a` of forge `f`. -/
  | brk (f a : Fin 32)
  /-- PUBLISH_COPY_END (R159): anvil `a` of forge `f`. -/
  | publishCopyEnd (f a : Fin 32)
  /-- RUNAWAY (R216): anvil `a` of forge `f`. -/
  | runaway (f a : Fin 32)
  /-- MACHINE_CHECK (R227): anvil `a` of forge `f`, KIND of Table 6-12, micro-address. -/
  | machineCheck (f a : Fin 32) (kind : Fin 4) (uaddr : Fin 8192)
  /-- FORGE_RELOAD_STEP (R225): forge `f`; what the check of the slice finds. -/
  | forgeReloadStep (f : Fin 32) (ok : Bool)
  /-- DEBUG_HALT (R231): a write of FRGf_DBG_HALT. -/
  | debugHalt (pf : Fin 2) (f : Fin 32) (v : BitVec 32)
  /-- HALT_APPLIED (R231): anvil `a` of forge `f`. -/
  | haltApplied (f a : Fin 32)
  /-- DEBUG_RELEASE (R233): a write of FRGf_DBG_RELEASE. -/
  | debugRelease (pf : Fin 2) (f : Fin 32) (v : BitVec 32)
  /-- DBG_SDATA_READ (R233): a read of FRGf_DBG_SDATA. -/
  | dbgSdataRead (pf : Fin 2) (f : Fin 32)
  /-- NOP_COMMAND (R432): the command on ring `k`. -/
  | nopCommand (k : Fin 16) (f : Fetch)
  /-- CANCEL (R442): the command on ring `k`. -/
  | cancel (k : Fin 16) (f : Fetch)
  /-- CAL_SWEEP (R85): the command on ring `k`. -/
  | calSweep (k : Fin 16) (f : Fetch)
  /-- KERNEL_LOAD (R218): the command on ring `k`. -/
  | kernelLoad (k : Fin 16) (f : Fetch)
  /-- UCODE_LOAD (R226): the command on ring `k`. -/
  | ucodeLoad (k : Fin 16) (f : Fetch)
  /-- FORGE_RELOAD (R605): the command on ring `k`. -/
  | forgeReload (k : Fin 16) (f : Fetch)
  /-- FORGE_OFFLINE (R27): the command on ring `k`. -/
  | forgeOffline (k : Fin 16) (f : Fetch)
  /-- CTX_START (R271): the command on ring `k`; reads: window table, limit tables. -/
  | ctxStart (k : Fin 16) (f : Fetch)
  /-- CTX_STOP (R272): the command on ring `k`. -/
  | ctxStop (k : Fin 16) (f : Fetch)
  /-- CTX_MODIFY (R274): the command on ring `k`; reads: configuration image, limit tables. -/
  | ctxModify (k : Fin 16) (f : Fetch)
  /-- DENS_CLEAR (R256): the command on ring `k`. -/
  | densClear (k : Fin 16) (f : Fetch)
  /-- MEM_CLEAR (R411): the command on ring `k`. -/
  | memClear (k : Fin 16) (f : Fetch)
  /-- CL_ARM (R342): the command on ring `k`. -/
  | clArm (k : Fin 16) (f : Fetch)
  /-- CL_ARM_TIMEOUT (R342): ACT_PTIME arrives without all acknowledgements. -/
  | clArmTimeout
  /-- CFG_SWITCH (R554): the command on ring `k`. -/
  | cfgSwitch (k : Fin 16) (f : Fetch)
  /-- CFG_REVERT (R554): the command on ring `k`. -/
  | cfgRevert (k : Fin 16) (f : Fetch)
  /-- CFG_SAVE (R553): the command on ring `k`; the first word of `env`: steps of the flash write. -/
  | cfgSave (k : Fin 16) (f : Fetch)
  /-- CFG_ANSWER_DEADLINE (R352): PTIME reaches ACT_PTIME minus CL_HORIZON. -/
  | cfgAnswerDeadline
  /-- CFG_ACTIVATE (R556): PTIME reaches ACT_PTIME. -/
  | cfgActivate
  /-- IMAGE_VERIFY (R546): the command on ring `k`; the first word of `env`: steps of the engine. -/
  | imageVerify (k : Fin 16) (f : Fetch)
  /-- ATTEST (R551): the command on ring `k`; the first word of `env`: steps of the engine. -/
  | attest (k : Fin 16) (f : Fetch)
  /-- SEC_ASSIGN (R537): the command on ring `k`. -/
  | secAssign (k : Fin 16) (f : Fetch)
  /-- SEC_REGION (R541): the command on ring `k`. -/
  | secRegion (k : Fin 16) (f : Fetch)
  /-- KEY_REVOKE (R549): the command on ring `k`. -/
  | keyRevoke (k : Fin 16) (f : Fetch)
  /-- PWR_STATE (R512): the command on ring `k`. -/
  | pwrState (k : Fin 16) (f : Fetch)
  /-- TRIGIN_EDGE (R280): an edge on TRIGINi, `k` root cycles into the control cycle. -/
  | triginEdge (t : Fin 4) (rising : Bool) (k : Fin 160)
  /-- EVENT_ARRIVAL (R291): the oldest event of unit `u` that is on its way reaches the combiner. -/
  | eventArrival (u : Fin 32)
  /-- TERM_EVALUATE (R292): the evaluation time of term `t`'s candidate. -/
  | termEvaluate (t : Fin 16)
  /-- TRG_COMMIT (R295): a write of TRG_CTRL with COMMIT. -/
  | trgCommit (pf : Fin 2) (v : BitVec 32)
  /-- TRG_CANCEL (R296): a write of TRG_CTRL with CANCEL. -/
  | trgCancel (pf : Fin 2) (v : BitVec 32)
  /-- TRG_HAND_OVER (R297): an alignment tick with a trigger commit pending. -/
  | trgHandOver
  /-- TRG_IO_APPLY (R298): the alignment tick after a write of TRGIN_CFGi or TRGOUT_CFGo. -/
  | trgIoApply
  /-- ACQ_ARM (R300): a write of ACQs_CTRL with ARM. -/
  | acqArm (pf : Fin 2) (n : Fin 64) (v : BitVec 32)
  /-- ACQ_WRITE_START (R300): the alignment tick after a slot's arm. -/
  | acqWriteStart (n : Fin 64)
  /-- PREFILL_COMPLETE (R299): PRE units have been written. -/
  | prefillComplete (n : Fin 64)
  /-- WINDOW_COMPLETE (R305): the window of slot `n` is written and released. -/
  | windowComplete (n : Fin 64)
  /-- REARM_DONE (R306): 258 fc after completion. -/
  | rearmDone (n : Fin 64)
  /-- ACQ_STOP (R314): a write of ACQs_CTRL with STOP. -/
  | acqStop (pf : Fin 2) (n : Fin 64) (v : BitVec 32)
  /-- TP_QUERY (R321): TPV and TPQ take these levels. -/
  | tpQuery (v : Bool) (q : Fin 64)
  /-- ANSWER_UPDATE (R318): an update of entry `e` by a publish (0), a detector (1) or the host (2). -/
  | answerUpdate (e : Fin 64) (src : Fin 3) (value : BitVec 16)
  /-- ACCEPT (R326): ACCEPT on TPC at a TPCLK edge `k` root cycles into the control cycle. -/
  | accept (k : Fin 160)
  /-- REJECT (R326): REJECT on TPC. -/
  | reject (k : Fin 160)
  /-- TP_ARM (R327): ARM on TPC. -/
  | tpArm (k : Fin 160)
  /-- MARK (R328): MARK on TPC. -/
  | mark (k : Fin 160)
  /-- TP_RESERVED_COMMAND (R325): a reserved code on TPC. -/
  | tpReservedCommand (code : Fin 16)
  /-- TPCLK_LOSS (R316): no TPCLK edge for 1 µs. -/
  | tpclkLoss
  /-- LINK_TRAIN (R336): training of link `k` and what its steps find. -/
  | linkTrain (k : Fin 16) (r : TrainResult)
  /-- LINK_LOS (R336): codeword lock of link `k` is lost. -/
  | linkLos (k : Fin 16)
  /-- LINK_AUTO_RETRAIN (R336): 1 ms in FAULT with AUTO. -/
  | linkAutoRetrain (k : Fin 16)
  /-- TIME_CARRIAGE (R339): a TIME carriage, arriving at PTIME `trx`. -/
  | timeCarriage (k : Fin 16) (c : Carriage) (trx : BitVec 128)
  /-- ARM_CARRIAGE (R344): an ARM carriage. -/
  | armCarriage (k : Fin 16) (c : Carriage)
  /-- ARM_ACTIVATE (R344): PTIME reaches ACT_PTIME of an arm. -/
  | armActivate
  /-- FIRE_UP (R347): a FIRE with DOWN = 0 arrives. -/
  | fireUp (k : Fin 16) (c : Carriage)
  /-- FIRE_DOWN (R348): a FIRE with DOWN = 1 arrives. -/
  | fireDown (k : Fin 16) (c : Carriage)
  /-- CFGSW_PREPARE (R351): a CFGSW carriage with PHASE 0. -/
  | cfgswPrepare (k : Fin 16) (c : Carriage)
  /-- CFGSW_COMMIT (R352): a CFGSW carriage with PHASE 1. -/
  | cfgswCommit (k : Fin 16) (c : Carriage)
  /-- CFGSW_ABORT (R352): a CFGSW carriage with PHASE 2. -/
  | cfgswAbort (k : Fin 16) (c : Carriage)
  /-- CFG_PREPARE_EXPIRY (R353): ACT_PTIME plus CL_HORIZON of a held PREPARE. -/
  | cfgPrepareExpiry
  /-- DATA_CARRIAGE (R335): a DATA carriage from a child, or the sending of the next one to the parent (`k` the parent lane); `parity`: a queue word was read with bad parity. -/
  | dataCarriage (k : Fin 16) (c : Carriage) (parity : Bool)
  /-- CREDIT (R335): a CREDIT carriage. -/
  | credit (k : Fin 16) (c : Carriage)
  /-- ACK (R334): an ACK carriage. -/
  | ack (k : Fin 16) (c : Carriage)
  /-- ACK_TIMEOUT (R334): no ACK in time. -/
  | ackTimeout (k : Fin 16)
  /-- TIN_EDGE (R355): an edge on timing input `c` in phase bin `k` of the control cycle (16 bins to an F_T cycle), with the vernier count `n`. -/
  | tinEdge (c : Fin 16) (falling : Bool) (k : Fin 160) (n : Fin 64)
  /-- TDC_ENABLE (R358): a write of TDCc_CFG with the EN bit that `v` gives. -/
  | tdcEnable (pf : Fin 2) (c : Fin 16) (v : BitVec 32)
  /-- TDC_POP (R366): a read of TDCc_POP0. -/
  | tdcPop (pf : Fin 2) (c : Fin 16)
  /-- TDC_BATCH_EMIT (R365): BATCH entries are gathered, or TMO has passed. -/
  | tdcBatchEmit (c : Fin 16)
  /-- GATE_END (R371): the frequency gate ends. -/
  | gateEnd (c : Fin 16)
  /-- TDC_TEMP_UPDATE (R361): the die temperature sensor nearest the timing block, Q8.8 °C. -/
  | tdcTempUpdate (t : BitVec 16)
  /-- PTP_RX (R373): a received PTP message: the frame with its FCS, whether it lay in a codeword that the PHY could not correct, and the PTIME at which port `p` saw its time-stamp point. -/
  | ptpRx (p : Fin 16) (frame : List (BitVec 8)) (uncorr : Bool) (arr : BitVec 128)
  /-- ETH_RX_FRAME (R474): another received frame on port `p`. -/
  | ethRxFrame (p : Fin 16) (frame : List (BitVec 8)) (uncorr : Bool) (arr : BitVec 128)
  /-- TIMED_LAUNCH (R377): the timed frame at the head of queue `q`: `dev` − 262,144 is the deviation of its first bit from LAUNCH in 2^-16 ns, `tx` the PTIME at which the port saw its time-stamp point. -/
  | timedLaunch (q : Fin 32) (dev : Fin 524289) (tx : BitVec 128)
  /-- TXTS_READ (R376): a read of NT_TXTS0. -/
  | txtsRead (pf : Fin 2)
  /-- NT_INCR_WRITE (R379): a committed write of NT_INCR. -/
  | ntIncrWrite (pf : Fin 2) (v : BitVec 64)
  /-- NT_STEP_WRITE (R380): a committed write of NT_STEP. -/
  | ntStepWrite (pf : Fin 2) (v : BitVec 64)
  /-- NT_STEP_APPLY (R380): the alignment tick after a committed write of NT_STEP. -/
  | ntStepApply
  /-- SERVO_WATCHDOG (R382): NT_WDOG ms without a servo write. -/
  | servoWatchdog
  /-- MEM_INIT_DONE (R386): the zero fill of capture memory ends. -/
  | memInitDone
  /-- PORT_REQUEST (R385): a burst of port `p` is served: the oldest staged burst of P0; on P3 the playback of chain `client`, or where it plays nothing the stamp queue of timing channel `client`; the prefetch of output `client` on P4; `wait`: F_M cycles it waited under panic. -/
  | portRequest (p : Fin 6) (client : Fin 16) (wait : Nat) (errs : List SecErr)
  /-- WRITE_QUEUE_DRAIN (R401): controller `m` drains its oldest entry. -/
  | writeQueueDrain (m : Fin 2)
  /-- REFRESH_DUE (R393): tREFI has passed. -/
  | refreshDue
  /-- OWED_REFRESH_ISSUE (R395): a burst boundary without panic. -/
  | owedRefreshIssue
  /-- FORCED_REFRESH_START (R396): a burst boundary while a forced refresh waits. -/
  | forcedRefreshStart
  /-- FORCED_REFRESH_TIMEOUT (R396): 6.0 µs after the fifth refresh fell due. -/
  | forcedRefreshTimeout
  /-- STACK_TEMPERATURE (R393): stack `m` reports a temperature, signed Q8.8 °C. -/
  | stackTemperature (m : Fin 2) (t : BitVec 16)
  /-- SCRUB_READ (R409): the scrubber's next read on controller `m`. -/
  | scrubRead (m : Fin 2) (errs : List SecErr)
  /-- PERST_N (R417): PERST_N takes a level. -/
  | perstN (low : Bool)
  /-- HOT_RESET (R417): a hot reset on the PCIe link. -/
  | hotReset
  /-- FLR (R417): a Function Level Reset of a function. -/
  | flr (pf : Fin 2)
  /-- CMD_TAIL (R426): a write of CMD_TAIL on the page of ring `k`. -/
  | cmdTail (pf : Fin 2) (k : Fin 16) (v : BitVec 32)
  /-- CPL_HEAD (R426): a write of CPL_HEAD on the page of ring `k`. -/
  | cplHead (pf : Fin 2) (k : Fin 16) (v : BitVec 32)
  /-- RING_ENABLE (R424): a write of HI_RINGk_CTRL with EN. -/
  | ringEnable (pf : Fin 2) (k : Fin 16) (v : BitVec 32)
  /-- RING_DISABLE (R440): a write of HI_RINGk_CTRL without EN. -/
  | ringDisable (pf : Fin 2) (k : Fin 16) (v : BitVec 32)
  /-- COACHMAN_ROUND (R432): one step of each long command. -/
  | coachmanRound
  /-- COACH_DOORBELL (R446): a write of the doorbell of coach `c`. -/
  | coachDoorbell (pf : Fin 2) (c : Fin 64) (v : BitVec 32)
  /-- COACH_ENABLE (R445): a write of CEc_CTRL with EN. -/
  | coachEnable (pf : Fin 2) (c : Fin 64) (v : BitVec 32)
  /-- DESCRIPTOR_PROCESS (R448): coach `c` has read the descriptor at HEAD. -/
  | descriptorProcess (c : Fin 64) (desc : HostRead)
  /-- COACH_BURST_GRANT (R457): a grant; `data`: the host bytes that a coach of kind MEM_IN or SQ_IN reads, `errs`: errors that the memory finds, `parity`: a queue word has bad parity. -/
  | coachBurstGrant (data : HostRead) (errs : List SecErr) (parity : Bool)
  /-- READ_BACK_RETURN (R451): the read-back of coach `c` returns, or its read fails. -/
  | readBackReturn (c : Fin 64) (ok : Bool)
  /-- DESCRIPTOR_CLOSE_TIMEOUT (R453): the queue of coach `c` has stayed empty for CLOSE_US. -/
  | descriptorCloseTimeout (c : Fin 64)
  /-- SQ_IN_PACKET_ENTER (R454): the packet of coach `c` may find room. -/
  | sqInPacketEnter (c : Fin 64)
  /-- COACH_STOP (R458): a write of CEc_CTRL with STOP. -/
  | coachStop (pf : Fin 2) (c : Fin 64) (v : BitVec 32)
  /-- COACH_START (R458): a write of CEc_CTRL with START. -/
  | coachStart (pf : Fin 2) (c : Fin 64) (v : BitVec 32)
  /-- COACH_RESET (R459): a write of CEc_CTRL with RESET. -/
  | coachReset (pf : Fin 2) (c : Fin 64) (v : BitVec 32)
  /-- COACH_DISABLE (R461): a write of CEc_CTRL without EN. -/
  | coachDisable (pf : Fin 2) (c : Fin 64) (v : BitVec 32)
  /-- SQ_PACKET_WRITE (R468): a producer of Table 13-4 offers a whole packet to queue `q`. -/
  | sqPacketWrite (q : Fin 32) (producer : Fin 5) (poison : Bool) (index : BitVec 64) (body : List (BitVec 8))
  /-- SQ_ENABLE (R473): a write of SQq_CTRL with EN. -/
  | sqEnable (pf : Fin 2) (q : Fin 32) (v : BitVec 32)
  /-- SQ_FLUSH (R472): a write of SQq_CTRL with FLUSH. -/
  | sqFlush (pf : Fin 2) (q : Fin 32) (v : BitVec 32)
  /-- FLUSH_ACT (R472): the flush of queue `q` may act. -/
  | flushAct (q : Fin 32)
  /-- ETH_EGRESS (R481): port `p` may send the next queue packet; `bad`: the part in which a queue word has bad parity, `tx`: the PTIME at which the port saw the time-stamp point of the frame. -/
  | ethEgress (p : Fin 16) (bad : Option (Fin 256)) (tx : BitVec 128)
  /-- CONTEXT_PACKET (R479): a context packet of queue `q` may be due. -/
  | contextPacket (q : Fin 32)
  /-- HPD_CHANGE (R485): the plug state, and whether an IRQ pulse arrived. -/
  | hpdChange (plugged irq : Bool)
  /-- RS_TRAIN (R484): link training ends. -/
  | rsTrain (ok : Bool)
  /-- RS_ENABLE (R502): a write of RS_CTRL with EN. -/
  | rsEnable (pf : Fin 2) (v : BitVec 32)
  /-- RS_COMMIT (R497): a write of RS_CTRL with COMMIT. -/
  | rsCommit (pf : Fin 2) (v : BitVec 32)
  /-- RS_CANCEL (R497): a write of RS_CTRL with CANCEL. -/
  | rsCancel (pf : Fin 2) (v : BitVec 32)
  /-- MODESET (R503): a write of RS_CTRL with MODESET. -/
  | modeset (pf : Fin 2) (v : BitVec 32)
  /-- SAMPLE_INSTANT (R498): the first pixel clock of the vertical blanking. -/
  | sampleInstant
  /-- FRONT_PORCH_END (R500): the front porch ends. -/
  | frontPorchEnd
  /-- DENS_MAP_START (R491): the oldest DENS record reaches the colour mapper. -/
  | densMapStart
  /-- MAPPER_DONE (R491): 262,144 fabric cycles after a mapping began. -/
  | mapperDone
  /-- CRC_CHECK (R504): the last pixel of check rectangle `k`. -/
  | crcCheck (k : Fin 4)
  /-- AUX_TRANSACTION (R483): a write of RS_AUX_CTRL with GO, and the sink's reply, none when it does not answer. -/
  | auxTransaction (pf : Fin 2) (v : BitVec 32) (reply : Option (List (BitVec 8)))
  /-- P1_IDLE_GATE (R509): the idle time of domain `d` has run in P1. -/
  | p1IdleGate (d : Fin 96)
  /-- PAD_RELEASE (R511): a write of PWR_PADREL. -/
  | padRelease (pf : Fin 2) (v : BitVec 32)
  /-- DOMCTRL (R519): a write of PWR_DOMCTRL. -/
  | domctrl (pf : Fin 2) (v : BitVec 32)
  /-- WAKE_AT (R520): PTIME reaches PWR_WAKE_AT. -/
  | wakeAt
  /-- AVS_TIMEOUT (R521): three repeats of an AVSBus write bring no good response. -/
  | avsTimeout
  /-- PMBUS_POLL (R523): a poll: VOUT, IOUT and STATUS_WORD of each rail, none for a rail that fails to acknowledge three times in a row. -/
  | pmbusPoll (rails : List (Option (BitVec 16 × BitVec 16 × BitVec 16)))
  /-- PM_ALERT (R523): PM_ALERT_N is low: the rail that answers and its STATUS_WORD. -/
  | pmAlert (rail : Option (Fin 8 × BitVec 16))
  /-- HK_SEQUENCE_TICK (R525): a sequence tick. -/
  | hkSequenceTick
  /-- HK_CONVERSION (R527): the conversion of converter `x` (0 HKA, 1 HKB) ends with a raw code. -/
  | hkConversion (x : Fin 2) (code : BitVec 12)
  /-- HK_INJECT (R526): a write of HK_INJx. -/
  | hkInject (pf : Fin 2) (x : Fin 2) (v : BitVec 32)
  /-- HK_CAL_REQUEST (R530): the calibration period of converter `x`. -/
  | hkCalRequest (x : Fin 2)
  /-- HK_CAL_DONE (R529): a self-calibration ends: sums of 4 codes of zero and reference in its two runs. -/
  | hkCalDone (x : Fin 2) (z1 : Fin 16384) (r1 : Fin 16384) (z2 : Fin 16384) (r2 : Fin 16384)
  /-- THERMTRIP (R533): a comparator trips at 115 °C. -/
  | thermtrip (sensor : Fin 12)
  /-- TPCLK_EDGE (R319): a rising TPCLK edge. -/
  | tpclkEdge (k : Fin 160)
  /-- TPCLK_MEASUREMENT (R316): the frequency measured over 10 µs. -/
  | tpclkMeasurement (hz : BitVec 27)
  /-- ETH_LINK_CHANGE (R474): a change on the line of port `p`: whether it is up, and whether auto-negotiation has ended well. -/
  | ethLinkChange (p : Fin 16) (line an : Bool)
  /-- BAD_OPCODE (R196): anvil `a` of forge `f`. -/
  | badOpcode (f a : Fin 32)
  /-- HOST_READ_COMPLETION (R463): a completion or an error for a read of a command of ring `n` (0), of a descriptor of coach `n` (1), or of data for coach `n` (2). -/
  | hostReadCompletion (what : Fin 3) (n : Fin 64) (data : HostRead)
  /-- PCIE_LINK_TRAINING (R414): training of the PCIe link and what it finds. -/
  | pcieLinkTraining (up : Bool) (gen : Fin 16) (width : Fin 32) (reversed : Bool) (flit : Bool)
  /-- VDD_AON_LOSS (R583): VDD_AON falls below 0.70 V. -/
  | vddAonLoss
deriving DecidableEq, Repr

end Sys2Proof
end

