-- ==== Sys2Proof/Config.lean ====
section
/-!
DEFINITION. What an implementation of the PX-1024 fixes and the spec does not: values of fuses and flash, and the
free values that the spec leaves open. Each is an opaque constant, so no proof can use a value of it; notes/assumptions
names each one.
-/
namespace Sys2Proof

/-- The value loaded from one-time-programmable memory or flash into the register word at a BAR0 offset
(spec/00_scope.md, "fuse"; log entry 3). -/
opaque Config.fuseWord : Nat → BitVec 32

/-- The value of TB_STEER that the tracker's proportional-integral loop writes, from its present value, the phase
error in 2^-16 ns, the loop bandwidth in 0.01 Hz and the measured frequency offset in 2^-44 (spec/02, R47, R48 give
the bandwidth and no gains). -/
opaque Config.loopSteer : Int → Int → Nat → Int → Int

/-- Whether the product of an amplitude and the sine of a phase that is not exact rounds up (spec/03, R93, and spec/04, R105: neither
gives a rounding of its product). -/
opaque Config.sineUp : Int → Nat → Bool

/-- What the converters add to the code of a looped sample (spec/03, R99 gives the scale and neither noise nor quantisation). -/
opaque Config.loopError : Nat → Int

/-- The half-band coefficients at the odd distances 1, 3, …, 21 from the centre (R106 names the data file HB47, which
the spec does not hold; the twelfth follows from the sum that R106 states). -/
opaque Config.hbCoef : Nat → Int

/-- The next value of a controller's LFSR (spec/11, R399 gives no polynomial). -/
opaque Config.lfsrNext : Nat → Nat

/-- A seed drawn from the security engine's random source (R399). -/
opaque Config.randomSeed : Nat → Nat

/-- How many activates a burst causes, up to one for each of its pieces (R398 gives no page policy). -/
opaque Config.activates : Nat → Nat

/-- A byte that the spec leaves undefined (R412). -/
opaque Config.freeByte : Nat → BitVec 8

/-- Whether the edge counter misses an edge that follows another by less than 1.25 ns (R356 says that it may). -/
opaque Config.edgeMissed : Nat → Bool

/-- Whether a quotient that is not exact rounds up in the last of the 16 fraction bits of an average (R251 gives no
rounding). -/
opaque Config.roundUp : Int → Nat → Bool

/-- A word of a header or of an entry for which the spec states no value (notes/assumptions names each use). -/
opaque Config.freeWord : Nat → BitVec 128

/-- Whether an SLH-DSA-SHAKE-256s signature verifies (FIPS 205; R545): public key, signed bytes, signature. -/
opaque Config.sigOk : List (BitVec 8) → List (BitVec 8) → List (BitVec 8) → Bool

/-- The fused hash of the public key of a key slot (R546), and of the identity certificate (R551). -/
opaque Config.keyHash : Nat → List (BitVec 8)
opaque Config.certHash : List (BitVec 8)

/-- The signature of the identity key over a report (R551). -/
opaque Config.identitySig : List (BitVec 8) → List (BitVec 8)

/-- Scratch address of the 16-segment area of a pinned anvil (R178 gives none). -/
opaque Config.pinBase : Nat

/-- A slot of the configuration store as the flash was delivered (R552): register words by BAR0 offset, contexts that
run, slots that are armed, and whether the digest matches. -/
opaque Config.flashSlot : Nat → List (Nat × BitVec 32) × List Nat × List Nat × Bool

/-- The kernel-store base at which the boot loads image `i` of the kernel bundle (spec/17, Table 17-3 gives none). -/
opaque Config.bundleBase : Nat → Nat

/-- The 20-bit header of codeword `n` since training on link `k` (R331 names it and states no contents). -/
opaque Config.cwHeader : Nat → Nat → BitVec 20

/-- The micro-PC after a sequencer microword that jumps (spec/06, Table 6-10 names jumps, loops, calls and returns and states neither their
targets nor their conditions): microword, instruction word, free-value number. -/
opaque Config.microNext : BitVec 41 → Nat → Nat → Nat

/-- What the microwords before a failing one have left in the registers and in scratch (spec/06, R227 says that their effects remain, and no
rule says what a microword does): writes of a register cell and a value, and of a scratch address and a byte. -/
opaque Config.partialRegs : Nat → List (Nat × Nat)
opaque Config.partialBytes : Nat → List (Nat × BitVec 8)

/-- SPACE, and whether the entry is enabled, as SEC_REGION writes them for an entry, a base and a size (spec/16, R541:
Table 12-4 gives the command no parameter for either). -/
opaque Config.regionSpace : Nat → Nat → Nat → Nat × Bool

end Sys2Proof
end

