-- ==== Sys2Proof/Machine/Operands.lean ====
section
/-!
DEFINITION. Bit fields, signed readings, byte order and the other plain forms in which the commands' operands are read
(R2, R3 of spec/00_scope.md).
-/
namespace Sys2Proof.Machine

/-- Bits `lo` to `lo + wd - 1` of a word (R3). -/
def bitsOf (n lo wd : Nat) : Nat := n / 2 ^ lo % 2 ^ wd

/-- Bit `i` of a word. -/
def bitOf (n i : Nat) : Bool := n / 2 ^ i % 2 == 1

/-- A word with bits `lo` to `lo + wd - 1` replaced by `v`. -/
def putBits (n lo wd v : Nat) : Nat :=
  n - bitsOf n lo wd * 2 ^ lo + v % 2 ^ wd * 2 ^ lo

/-- The two's complement reading of a `wd`-bit word. -/
def sext (wd n : Nat) : Int := if n % 2 ^ wd < 2 ^ (wd - 1) then (n % 2 ^ wd : Int) else (n % 2 ^ wd : Int) - 2 ^ wd

/-- The `wd`-bit two's complement word of an integer. -/
def wrapInt (wd : Nat) (i : Int) : Nat := (i % 2 ^ wd).toNat

/-- The little-endian value of a list of bytes (R2). -/
def leNat : List (BitVec 8) → Nat
  | [] => 0
  | b :: bs => b.toNat + 256 * leNat bs

/-- The `n` little-endian bytes of a value (R2). -/
def leBytes : Nat → Nat → List (BitVec 8)
  | 0, _ => []
  | n + 1, v => BitVec.ofNat 8 v :: leBytes n (v / 256)

/-- The little-endian value of `n` bytes at offset `o` of a byte list; bytes past its end read as 0. -/
def leAt (bs : List (BitVec 8)) (o n : Nat) : Nat := leNat ((bs.drop o).take n)

/-- Rounding to nearest of `num / den`, ties away from zero. -/
def roundDiv (num den : Int) : Int :=
  if den = 0 then 0
  else if 0 ≤ num then (2 * num + den) / (2 * den) else - ((2 * (-num) + den) / (2 * den))

/-- Rounding to nearest of `num / den`, ties toward positive infinity. -/
def roundDivUp (num den : Int) : Int := if den = 0 then 0 else (2 * num + den) / (2 * den)

/-- The integer ceiling of `a / b`. -/
def ceilDiv (a b : Nat) : Nat := if b = 0 then 0 else (a + b - 1) / b

/-- A value held between two limits. -/
def clampNat (lo hi v : Nat) : Nat := if v < lo then lo else if hi < v then hi else v

/-- The bits set in a `wd`-bit mask, lowest first. -/
def setBits (wd m : Nat) : List Nat := (List.range wd).filter (fun i => bitOf m i)

/-- The integer square root by `fuel` halvings of the interval from `lo` to `hi`. -/
def isqrtAux : Nat → Nat → Nat → Nat → Nat
  | 0, lo, _, _ => lo
  | fuel + 1, lo, hi, n =>
    if hi ≤ lo + 1 then lo
    else
      let mid := (lo + hi) / 2
      if mid * mid ≤ n then isqrtAux fuel mid hi n else isqrtAux fuel lo mid n

/-- The integer square root of a number below 2^256. -/
def isqrt (n : Nat) : Nat := isqrtAux 200 0 (2 ^ 128) n

/-- The base-2 logarithm rounded down of a positive number below 2^`fuel`. -/
def ilog2Aux : Nat → Nat → Nat
  | 0, _ => 0
  | fuel + 1, n => if n < 2 then 0 else ilog2Aux fuel (n / 2) + 1

/-- The base-2 logarithm, rounded down, of a positive number below 2^128. -/
def ilog2 (n : Nat) : Nat := ilog2Aux 128 n

/-- π in units of 2^-64. -/
def pi64 : Int := 57952155664616982739

/-- The sine of a quarter turn's part `r`, 0 to 2^46 units of 2π/2^48, in units of 2^-64, by its series to the 27th power. -/
def quarterSine (r : Nat) : Int :=
  if r = 2 ^ 46 then 2 ^ 64
  else
    let x : Int := r * pi64 / 2 ^ 47
    let x2 := x * x / 2 ^ 64
    let term := fun (acc : Int) (k : Nat) => 2 ^ 64 - x2 * acc / 2 ^ 64 / ((28 - 2 * k) * (29 - 2 * k) : Nat)
    x * ((List.range 14).foldl term (2 ^ 64)) / 2 ^ 64

/-- The sine of a phase in units of 2π/2^48, in units of 2^-64. -/
def sine64 (phase : Nat) : Int :=
  let q := phase / 2 ^ 46 % 4
  let r := phase % 2 ^ 46
  let v := quarterSine (if q % 2 == 0 then r else 2 ^ 46 - r)
  if q < 2 then v else -v

/-- One step of the CRC-32 of IEEE 802.3 on a byte, bits in transmission order. -/
def crcByte (c : Nat) (b : BitVec 8) : Nat :=
  (List.range 8).foldl (fun (x : Nat) _ => if x % 2 == 1 then (x / 2) ^^^ 0xEDB88320 else x / 2) (c ^^^ b.toNat)

/-- The CRC-32 of IEEE 802.3 over bytes. -/
def crc32 (bs : List (BitVec 8)) : Nat := bs.foldl crcByte 0xFFFFFFFF ^^^ 0xFFFFFFFF

/-- Sum and difference of complex values. -/
def cadd (a b : Int × Int) : Int × Int := (a.1 + b.1, a.2 + b.2)
def csub (a b : Int × Int) : Int × Int := (a.1 - b.1, a.2 - b.2)

end Sys2Proof.Machine
end

