-- ==== Sys2Proof/Machine/Flags.lean ====
section
/-!
DEFINITION. Saturation, counters and the flag words of records: how a result that leaves its range is held and marked.
-/
namespace Sys2Proof.Machine

/-- Saturation to signed `wd` bits. -/
def satS (wd : Nat) (i : Int) : Int :=
  if i < -(2 ^ (wd - 1) : Int) then -(2 ^ (wd - 1) : Int)
  else if (2 ^ (wd - 1) : Int) - 1 < i then (2 ^ (wd - 1) : Int) - 1 else i

/-- Saturation to plus or minus (2^(wd-1) - 1), as R34 and R51 state it. -/
def satSym (wd : Nat) (i : Int) : Int :=
  if i < -((2 ^ (wd - 1) : Int) - 1) then -((2 ^ (wd - 1) : Int) - 1)
  else if (2 ^ (wd - 1) : Int) - 1 < i then (2 ^ (wd - 1) : Int) - 1 else i

/-- Saturation to unsigned `wd` bits. -/
def satU (wd : Nat) (i : Int) : Nat := if i < 0 then 0 else if (2 ^ wd : Int) ≤ i then 2 ^ wd - 1 else i.toNat

/-- Whether an integer lies outside signed `wd` bits. -/
def outS (wd : Nat) (i : Int) : Bool := satS wd i != i

/-- An amplitude times the sine of a phase in units of 2π/2^48, as an integer: one of the two next to an inexact product. -/
def timesSine (a : Int) (phase : Nat) : Int :=
  let p := a * sine64 phase
  p / 2 ^ 64 + (if p % 2 ^ 64 != 0 && Config.sineUp a phase then 1 else 0)

/-- The product of a sample and e^(-j2πφ/2^48), φ in units of 2π/2^48 (R105): the cosine is the sine a quarter turn on. -/
def mixer (x : Int) (phase : Nat) : Int × Int := (timesSine x (phase + 2 ^ 46), timesSine (-x) phase)

/-! ## Record flags (Table 7-8), as bit values -/

def fUNSETTLED : Nat := 2 ^ 0
def fLATE : Nat := 2 ^ 1
def fGAP : Nat := 2 ^ 2
def fSHED : Nat := 2 ^ 3
def fTRANSIENT : Nat := 2 ^ 4
def fEPOCH : Nat := 2 ^ 5
def fCAL : Nat := 2 ^ 6
def fSATURATED : Nat := 2 ^ 7
def fPOISON : Nat := 2 ^ 8
def fHOLDOVER : Nat := 2 ^ 9
def fDEGRADED : Nat := 2 ^ 10
def fPRE_SHORT : Nat := 2 ^ 11
def fPRE_LOST : Nat := 2 ^ 12
def fOVERRUN : Nat := 2 ^ 13
def fINVALID : Nat := 2 ^ 14
def fDROPPED : Nat := 2 ^ 15

/-- A flag word when a condition holds. -/
def flagIf (b : Bool) (f : Nat) : Nat := if b then f else 0

end Sys2Proof.Machine
end

