-- ==== Sys2Proof/Machine/RegMap.lean ====
section
/-!
DEFINITION. The register map: for every word of BAR0 that a register of the spec occupies, its reset value and the
bits that each access code of Table 0-3 (R4) covers. Rows are transcribed from the field tables of spec/01 to spec/17
and placed by spec/18_register_index.md (R576, R577).
-/
namespace Sys2Proof.Machine

/-- A row of the register map: a word, or a family of words of two indices. `fuse` marks the bits loaded from
one-time-programmable memory or flash before the first host access; `half` is 1 for the low and 2 for the high word
of a 64-bit register. -/
structure WordSpec where
  base : Nat
  c1 : Nat := 1
  s1 : Nat := 0
  c2 : Nat := 1
  s2 : Nat := 0
  rst : Nat := 0
  fuse : Nat := 0
  rw : Nat := 0
  rwl : Nat := 0
  w1c : Nat := 0
  w1s : Nat := 0
  rc : Nat := 0
  wo : Nat := 0
  ro : Nat := 0
  half : Nat := 0
deriving DecidableEq, Repr

def rowsOfBlock00 : List WordSpec := [
  { base := 0x100, c1 := 56, s1 := 0x4, ro := 0xFFFFFFFF },
  { base := 0x200, c1 := 7, s1 := 0x4, ro := 0xFFFFFFFF },
  { base := 0x240, rc := 0xFFFFFFFF },
  { base := 0x0, fuse := 0xFFFFFFFF, ro := 0xFFFFFFFF },
  { base := 0x4, rst := 0x1, ro := 0xF },
  { base := 0x10, rst := 0x1, fuse := 0x100, w1c := 0x200, ro := 0xFF00011F },
  { base := 0x18, rw := 0xFFFFFFFF, half := 1 },
  { base := 0x1C, rw := 0xFFFFFFFF, half := 2 },
  { base := 0x20, rw := 0x7FFFFF },
  { base := 0x24, w1s := 0x1 },
  { base := 0x28, ro := 0xFFFFFFFF, half := 1 },
  { base := 0x2C, ro := 0xFFFFFFFF, half := 2 },
  { base := 0x30, wo := 0xFFFFFFFF },
  { base := 0x250, wo := 0x1FF },
  { base := 0x254, w1c := 0x2, ro := 0xFF01 },
  { base := 0x260, rw := 0xFF00 },
  { base := 0x264, ro := 0xFFFFFFFF },
  { base := 0x268, rc := 0xFFFFFFFF },
  { base := 0x1000, c1 := 4096, s1 := 0x4, ro := 0xFFFFFFFF }]

def rowsOfBlock01Part0 : List WordSpec := [
  { base := 0x10000, rw := 0x7F },
  { base := 0x10004, rst := 0x199, rwl := 0x1FF },
  { base := 0x10008, rst := 0x9999999A, rwl := 0xFFFFFFFF },
  { base := 0x1000C, w1c := 0x36, ro := 0x1FC9 },
  { base := 0x10010, ro := 0xFFFFFFFF },
  { base := 0x10100, c1 := 64, s1 := 0x4, fuse := 0xFFFFFFFF, rwl := 0xFFFFFFFF },
  { base := 0x11000, rw := 0x17F, w1s := 0x280 },
  { base := 0x11004, rst := 0x989680, rw := 0x1FFFFFFF },
  { base := 0x11008, rst := 0x64, rw := 0x3FFF },
  { base := 0x1100C, rst := 0xA004E20, rw := 0xFF0FFFFF },
  { base := 0x11010, rst := 0x10000, rw := 0xFFFFFFFF },
  { base := 0x11014, rst := 0x64, rw := 0xFFFF },
  { base := 0x11018, fuse := 0xFFFFFFFF, rw := 0xFFFFFFFF },
  { base := 0x1101C, rst := 0x10, w1c := 0x100, ro := 0x27F },
  { base := 0x11020, ro := 0xFFFFFFFF },
  { base := 0x11024, ro := 0xFFFFFFFF },
  { base := 0x11028, ro := 0xFFFFFFFF },
  { base := 0x1102C, ro := 0xFFFFFFFF },
  { base := 0x11030, ro := 0xFFFFFFFF, half := 1 },
  { base := 0x11034, ro := 0xFFFFFFFF, half := 2 },
  { base := 0x11038, ro := 0xFFFFFFFF, half := 1 },
  { base := 0x1103C, ro := 0xFFFFFFFF, half := 2 },
  { base := 0x11040, rst := 0x64, rw := 0xFFFF },
  { base := 0x11044, rw := 0xFFFFFFFF }]

def rowsOfBlock01Part1 : List WordSpec := [
  { base := 0x11080, c1 := 4, s1 := 0x4, rw := 0xFFFFFFFF },
  { base := 0x110A0, c1 := 6, s1 := 0x4, ro := 0xFFFFFFFF },
  { base := 0x110C0, c1 := 4, s1 := 0x4, ro := 0xFFFFFFFF }]

def rowsOfBlock01 : List WordSpec := rowsOfBlock01Part0 ++ rowsOfBlock01Part1

def rowsOfBlock02Part0 : List WordSpec := [
  { base := 0x20000, fuse := 0xFFFF, ro := 0xFFFF },
  { base := 0x20004, ro := 0xFFFF },
  { base := 0x21000, c1 := 16, s1 := 0x400, rw := 0xFFFF003D },
  { base := 0x21004, c1 := 16, s1 := 0x400, w1c := 0xC, ro := 0x3 },
  { base := 0x21008, c1 := 16, s1 := 0x400, rst := 0x64100000, rw := 0xFF1FF1F3 },
  { base := 0x2100C, c1 := 16, s1 := 0x400, ro := 0x1FFF },
  { base := 0x21010, c1 := 16, s1 := 0x400, rw := 0xFFFFFFFF, half := 1 },
  { base := 0x21014, c1 := 16, s1 := 0x400, rw := 0x7, half := 2 },
  { base := 0x21018, c1 := 16, s1 := 0x400, rw := 0xFFFFFFFF, half := 1 },
  { base := 0x2101C, c1 := 16, s1 := 0x400, rw := 0x7, half := 2 },
  { base := 0x21020, c1 := 16, s1 := 0x400, ro := 0xFFFFFFFF, half := 1 },
  { base := 0x21024, c1 := 16, s1 := 0x400, ro := 0xFFFFFFFF, half := 2 },
  { base := 0x21028, c1 := 16, s1 := 0x400, rc := 0xFFFFFFFF },
  { base := 0x2102C, c1 := 16, s1 := 0x400, rc := 0xFFFFFFFF },
  { base := 0x21030, c1 := 16, s1 := 0x400, rc := 0xFFFFFFFF },
  { base := 0x21038, c1 := 16, s1 := 0x400, ro := 0xFFFFFFFF, half := 1 },
  { base := 0x2103C, c1 := 16, s1 := 0x400, ro := 0xFFFFFFFF, half := 2 },
  { base := 0x21040, c1 := 16, s1 := 0x400, rc := 0xFFFFFFFF },
  { base := 0x21044, c1 := 16, s1 := 0x400, c2 := 3, s2 := 0x4, ro := 0xFFFFFFFF },
  { base := 0x21050, c1 := 16, s1 := 0x400, rw := 0x1F3 },
  { base := 0x21058, c1 := 16, s1 := 0x400, rst := 0xF4240, rwl := 0xFFFFFFFF, half := 1 },
  { base := 0x2105C, c1 := 16, s1 := 0x400, rwl := 0xFF, half := 2 },
  { base := 0x21060, c1 := 16, s1 := 0x400, c2 := 4, s2 := 0x4, rwl := 0xFFFFFFFF },
  { base := 0x21070, c1 := 16, s1 := 0x400, ro := 0xFFFFFFFF, half := 1 }]

def rowsOfBlock02Part1 : List WordSpec := [
  { base := 0x21074, c1 := 16, s1 := 0x400, ro := 0xFFFFFFFF, half := 2 },
  { base := 0x21078, c1 := 16, s1 := 0x400, ro := 0xFFFFFFFF, half := 1 },
  { base := 0x2107C, c1 := 16, s1 := 0x400, ro := 0xFFFFFFFF, half := 2 },
  { base := 0x21080, c1 := 16, s1 := 0x400, ro := 0xFFFFFFFF },
  { base := 0x21084, c1 := 16, s1 := 0x400, ro := 0xFFFFFFFF },
  { base := 0x21088, c1 := 16, s1 := 0x400, ro := 0xFFFFFFFF },
  { base := 0x2108C, c1 := 16, s1 := 0x400, ro := 0xFF0F },
  { base := 0x21100, c1 := 16, s1 := 0x400, fuse := 0xFFFFFFFF, ro := 0xFFFFFFFF },
  { base := 0x21104, c1 := 16, s1 := 0x400, fuse := 0xFFFF, ro := 0xFFFF },
  { base := 0x21108, c1 := 16, s1 := 0x400, fuse := 0xFFFFFFFF, ro := 0xFFFFFFFF },
  { base := 0x21140, c1 := 16, s1 := 0x400, c2 := 16, s2 := 0x4, fuse := 0xFFFF, ro := 0xFFFF },
  { base := 0x21200, c1 := 16, s1 := 0x400, c2 := 64, s2 := 0x4, fuse := 0xFFFF, ro := 0xFFFF }]

def rowsOfBlock02 : List WordSpec := rowsOfBlock02Part0 ++ rowsOfBlock02Part1

def rowsOfBlock03 : List WordSpec := [
  { base := 0x30000, rw := 0x1F13 },
  { base := 0x30004, w1c := 0x1B, ro := 0x60 },
  { base := 0x30008, rst := 0xFFFFFF06, rw := 0xFFFFFFFF, half := 1 },
  { base := 0x3000C, rst := 0x3E7FF, rw := 0xFFFFFF, half := 2 },
  { base := 0x30010, rwl := 0xFFFFFFFF, half := 1 },
  { base := 0x30014, rwl := 0xFFFFFFFF, half := 2 },
  { base := 0x30018, ro := 0xFFFFFFFF, half := 1 },
  { base := 0x3001C, ro := 0xFFFFFFFF, half := 2 },
  { base := 0x30020, rst := 0xFA0, rw := 0xFFFF },
  { base := 0x30028, rc := 0xFFFFFFFF },
  { base := 0x3002C, ro := 0xFFFFFFFF },
  { base := 0x30030, rc := 0xFFFFFFFF },
  { base := 0x30040, rc := 0x80FFFFFF },
  { base := 0x30044, c1 := 4, s1 := 0x4, ro := 0xFFFFFFFF },
  { base := 0x30100, c1 := 16, s1 := 0x20, rw := 0xF },
  { base := 0x30104, c1 := 16, s1 := 0x20, fuse := 0xFFFFFFFF, ro := 0xFFFFFFFF },
  { base := 0x30108, c1 := 16, s1 := 0x20, fuse := 0xFFFFFFFF, ro := 0xFFFFFFFF },
  { base := 0x3010C, c1 := 16, s1 := 0x20, rw := 0xFFFFFFFF }]

def rowsOfBlock04 : List WordSpec := [
  { base := 0x40000, rst := 0x18, rw := 0xFFF },
  { base := 0x41000, c1 := 8, s1 := 0x1000, rst := 0x3, rw := 0xEB, w1s := 0x10 },
  { base := 0x41004, c1 := 8, s1 := 0x1000, rst := 0x3F0000, w1c := 0xE0, ro := 0xFF3F3F1F },
  { base := 0x41008, c1 := 8, s1 := 0x1000, rst := 0x40000000, rw := 0xFFFFFFFF },
  { base := 0x41010, c1 := 8, s1 := 0x1000, ro := 0xFFFFFFFF, half := 1 },
  { base := 0x41014, c1 := 8, s1 := 0x1000, ro := 0xFFFFFFFF, half := 2 },
  { base := 0x41018, c1 := 8, s1 := 0x1000, ro := 0xFFFFFFFF },
  { base := 0x4101C, c1 := 8, s1 := 0x1000, ro := 0xFFFFFFFF },
  { base := 0x41020, c1 := 8, s1 := 0x1000, ro := 0xFFFFFFFF },
  { base := 0x41030, c1 := 8, s1 := 0x1000, c2 := 4, s2 := 0x4, ro := 0xFFFFFFFF },
  { base := 0x41040, c1 := 8, s1 := 0x1000, rc := 0xFFFFFFFF },
  { base := 0x41100, c1 := 8, s1 := 0x1000, c2 := 33, s2 := 0x4, fuse := 0x3FFFFFF, rwl := 0x3FFFFFF, ro := 0x34000000 },
  { base := 0x41200, c1 := 8, s1 := 0x1000, c2 := 33, s2 := 0x4, fuse := 0xFFF, rwl := 0xFFF }]

def rowsOfBlock05 : List WordSpec := [
  { base := 0x50000, c1 := 4, s1 := 0x1000, rw := 0x2F, w1s := 0x10 },
  { base := 0x50004, c1 := 4, s1 := 0x1000, w1c := 0xF8, ro := 0xFF03 },
  { base := 0x50008, c1 := 4, s1 := 0x1000, rst := 0x4000, rw := 0xFFFF },
  { base := 0x50010, c1 := 4, s1 := 0x1000, c2 := 4, s2 := 0x4, rw := 0xFFFFFFFF },
  { base := 0x50020, c1 := 4, s1 := 0x1000, c2 := 2, s2 := 0x10, rw := 0xFFFFFFFF, half := 1 },
  { base := 0x50024, c1 := 4, s1 := 0x1000, c2 := 2, s2 := 0x10, rw := 0xFFFF, half := 2 },
  { base := 0x50028, c1 := 4, s1 := 0x1000, c2 := 2, s2 := 0x10, rw := 0xFFFFFFFF },
  { base := 0x50040, c1 := 4, s1 := 0x1000, rw := 0xFFFFFFFF, half := 1 },
  { base := 0x50044, c1 := 4, s1 := 0x1000, rw := 0x7, half := 2 },
  { base := 0x50048, c1 := 4, s1 := 0x1000, rw := 0xFFFFFFFF, half := 1 },
  { base := 0x5004C, c1 := 4, s1 := 0x1000, rw := 0x7, half := 2 },
  { base := 0x50050, c1 := 4, s1 := 0x1000, rc := 0xFFFFFFFF },
  { base := 0x50054, c1 := 4, s1 := 0x1000, rc := 0xFFFFFFFF },
  { base := 0x50058, c1 := 4, s1 := 0x1000, rc := 0xFFFFFFFF }]

def rowsOfBlock06Part0 : List WordSpec := [
  { base := 0x60000, rst := 0x3, rw := 0xFF13, w1s := 0xC },
  { base := 0x60004, w1c := 0xE, ro := 0x310 },
  { base := 0x60008, rst := 0x3E8, rw := 0xFFFFF },
  { base := 0x6000C, rst := 0xE0E, rw := 0x3F3F },
  { base := 0x60010, rc := 0xFFFFFFFF },
  { base := 0x60100, c1 := 2, s1 := 0x20, rst := 0x3020100, rw := 0x1F1F1F1F },
  { base := 0x60104, c1 := 2, s1 := 0x20, rst := 0x7060504, rw := 0x1F1F1F1F },
  { base := 0x60108, c1 := 2, s1 := 0x20, rst := 0xB0A0908, rw := 0x1F1F1F1F },
  { base := 0x6010C, rst := 0xD0C, rw := 0x1F1F1F1F },
  { base := 0x6012C, rst := 0x1615, rw := 0x1F1F1F1F },
  { base := 0x60100, c1 := 2, s1 := 0x20, c2 := 8, s2 := 0x4, rw := 0x1F1F1F1F },
  { base := 0x60200, c1 := 2, s1 := 0x4, wo := 0x1F },
  { base := 0x60210, c1 := 2, s1 := 0x4, ro := 0xFF1FFFFF },
  { base := 0x60300, rst := 0x1E, rw := 0xFFFF },
  { base := 0x60304, rc := 0xFFFFFFFF },
  { base := 0x60308, rst := 0x3C, rw := 0xFFFF },
  { base := 0x60310, c1 := 2, s1 := 0x8, ro := 0xFFFFFFFF },
  { base := 0x60314, c1 := 2, s1 := 0x8, ro := 0xFFFFFFFF },
  { base := 0x60320, c1 := 2, s1 := 0x10, c2 := 4, s2 := 0x4, ro := 0xFFFFFFFF },
  { base := 0x60340, rst := 0x64005F00, rw := 0xFFFFFFFF },
  { base := 0x60344, rst := 0x300, rw := 0xFFFF },
  { base := 0x60348, ro := 0xFFFFF },
  { base := 0x60400, c1 := 32, s1 := 0x4, fuse := 0xFFFFFFFF, rw := 0xFFFFFFFF },
  { base := 0x60500, c1 := 32, s1 := 0x4, ro := 0xFFFF }]

def rowsOfBlock06Part1 : List WordSpec := [
  { base := 0x60600, ro := 0xFFFFFFFF },
  { base := 0x60604, rc := 0xFFFFFFFF }]

def rowsOfBlock06 : List WordSpec := rowsOfBlock06Part0 ++ rowsOfBlock06Part1

def rowsOfBlock07 : List WordSpec := [
  { base := 0x70000, c1 := 16384, s1 := 0x4, ro := 0xFFFFFFFF }]

def rowsOfBlock08Part0 : List WordSpec := [
  { base := 0x80000, c1 := 16, s1 := 0x1000, rw := 0xD, w1s := 0x12 },
  { base := 0x80004, c1 := 16, s1 := 0x1000, w1c := 0xB8, ro := 0xFF45 },
  { base := 0x80008, c1 := 16, s1 := 0x1000, ro := 0xFFFF },
  { base := 0x8000C, c1 := 16, s1 := 0x1000, rst := 0x1000, rwl := 0xFFFFFF },
  { base := 0x80010, c1 := 16, s1 := 0x1000, c2 := 4, s2 := 0x4, rwl := 0xFFFFFFFF },
  { base := 0x80020, c1 := 16, s1 := 0x1000, ro := 0xFFFFFFFF, half := 1 },
  { base := 0x80024, c1 := 16, s1 := 0x1000, ro := 0xFFFF, half := 2 },
  { base := 0x80028, c1 := 16, s1 := 0x1000, rc := 0xFFFFFFFF },
  { base := 0x8002C, c1 := 16, s1 := 0x1000, rc := 0xFFFFFFFF },
  { base := 0x80030, c1 := 16, s1 := 0x1000, ro := 0xFFFFFFFF, half := 1 },
  { base := 0x80034, c1 := 16, s1 := 0x1000, ro := 0xFFFFFFFF, half := 2 },
  { base := 0x80038, c1 := 16, s1 := 0x1000, rst := 0x100001, ro := 0x1F1FFFF },
  { base := 0x80040, c1 := 16, s1 := 0x1000, ro := 0x1FFFFFF },
  { base := 0x80044, c1 := 16, s1 := 0x1000, ro := 0x1FFFFFF },
  { base := 0x80048, c1 := 16, s1 := 0x1000, ro := 0x1FFFFFF },
  { base := 0x80100, c1 := 16, s1 := 0x1000, rwl := 0xF },
  { base := 0x80108, c1 := 16, s1 := 0x1000, rwl := 0xFFFFFFFF, half := 1 },
  { base := 0x8010C, c1 := 16, s1 := 0x1000, rwl := 0xFFFF, half := 2 },
  { base := 0x80110, c1 := 16, s1 := 0x1000, rwl := 0xFFFF0003 },
  { base := 0x80114, c1 := 16, s1 := 0x1000, rst := 0x1, rwl := 0x3FFFFF },
  { base := 0x80118, c1 := 16, s1 := 0x1000, rst := 0x100001, rwl := 0x1F1FFFF },
  { base := 0x8011C, c1 := 16, s1 := 0x1000, rst := 0x801, rwl := 0xFFF },
  { base := 0x80120, c1 := 16, s1 := 0x1000, rst := 0x1000, rwl := 0xFFFF },
  { base := 0x80124, c1 := 16, s1 := 0x1000, rst := 0x800C0C, rwl := 0xFF1F1F }]

def rowsOfBlock08Part1 : List WordSpec := [
  { base := 0x80128, c1 := 16, s1 := 0x1000, rwl := 0xFFFFFFFF, half := 1 },
  { base := 0x8012C, c1 := 16, s1 := 0x1000, rwl := 0x7, half := 2 },
  { base := 0x80130, c1 := 16, s1 := 0x1000, rwl := 0xFFFFFFFF, half := 1 },
  { base := 0x80134, c1 := 16, s1 := 0x1000, rwl := 0x7, half := 2 },
  { base := 0x80200, c1 := 16, s1 := 0x1000, ro := 0xF },
  { base := 0x80208, c1 := 16, s1 := 0x1000, ro := 0xFFFFFFFF, half := 1 },
  { base := 0x8020C, c1 := 16, s1 := 0x1000, ro := 0xFFFF, half := 2 },
  { base := 0x80210, c1 := 16, s1 := 0x1000, ro := 0xFFFFFFFF },
  { base := 0x80214, c1 := 16, s1 := 0x1000, rst := 0x1, ro := 0x3FFFFF },
  { base := 0x80218, c1 := 16, s1 := 0x1000, rst := 0x100001, ro := 0x1FFFFFF },
  { base := 0x8021C, c1 := 16, s1 := 0x1000, rst := 0x801, ro := 0xFFF },
  { base := 0x80220, c1 := 16, s1 := 0x1000, rst := 0x1000, ro := 0xFFFF },
  { base := 0x80224, c1 := 16, s1 := 0x1000, rst := 0x800C0C, ro := 0xFFFFFF },
  { base := 0x80228, c1 := 16, s1 := 0x1000, ro := 0xFFFFFFFF, half := 1 },
  { base := 0x8022C, c1 := 16, s1 := 0x1000, ro := 0x7, half := 2 },
  { base := 0x80230, c1 := 16, s1 := 0x1000, ro := 0xFFFFFFFF, half := 1 },
  { base := 0x80234, c1 := 16, s1 := 0x1000, ro := 0x7, half := 2 },
  { base := 0x80400, c1 := 16, s1 := 0x1000, rst := 0x10000, rwl := 0x3FFFF },
  { base := 0x80400, c1 := 16, s1 := 0x1000, c2 := 256, s2 := 0x4, rwl := 0x3FFFF },
  { base := 0x80800, c1 := 16, s1 := 0x1000, rst := 0x10000, ro := 0x3FFFF },
  { base := 0x80800, c1 := 16, s1 := 0x1000, c2 := 512, s2 := 0x4, ro := 0x3FFFF }]

def rowsOfBlock08 : List WordSpec := rowsOfBlock08Part0 ++ rowsOfBlock08Part1

def rowsOfBlock09 : List WordSpec := [
  { base := 0x90000, ro := 0xFFFFFFFF }]

def rowsOfBlock10Part0 : List WordSpec := [
  { base := 0x100000, c1 := 32, s1 := 0x4000, ro := 0x10F31FF },
  { base := 0x100008, c1 := 32, s1 := 0x4000, ro := 0xFFFFFFFF, half := 1 },
  { base := 0x10000C, c1 := 32, s1 := 0x4000, ro := 0xFFFFFFFF, half := 2 },
  { base := 0x100010, c1 := 32, s1 := 0x4000, rst := 0x3F0000, ro := 0x7FFFFF },
  { base := 0x100018, c1 := 32, s1 := 0x4000, ro := 0xFFFFFFFF, half := 1 },
  { base := 0x10001C, c1 := 32, s1 := 0x4000, ro := 0xFFFFFFFF, half := 2 },
  { base := 0x100020, c1 := 32, s1 := 0x4000, ro := 0xFFFFFFFF, half := 1 },
  { base := 0x100024, c1 := 32, s1 := 0x4000, ro := 0xFFFFFFFF, half := 2 },
  { base := 0x100028, c1 := 32, s1 := 0x4000, ro := 0xFFFFFFFF, half := 1 },
  { base := 0x10002C, c1 := 32, s1 := 0x4000, ro := 0xFFFFFFFF, half := 2 },
  { base := 0x100030, c1 := 32, s1 := 0x4000, ro := 0xFFFFFFFF },
  { base := 0x100034, c1 := 32, s1 := 0x4000, ro := 0xFFFFFFFF },
  { base := 0x102000, c1 := 32, s1 := 0x4000, c2 := 256, s2 := 0x20, ro := 0xFFFFFFFF, half := 1 },
  { base := 0x102004, c1 := 32, s1 := 0x4000, c2 := 256, s2 := 0x20, ro := 0xFFFFFFFF, half := 2 },
  { base := 0x102008, c1 := 32, s1 := 0x4000, c2 := 256, s2 := 0x20, ro := 0xFFFFFFFF, half := 1 },
  { base := 0x10200C, c1 := 32, s1 := 0x4000, c2 := 256, s2 := 0x20, ro := 0xFFFFFFFF, half := 2 },
  { base := 0x102010, c1 := 32, s1 := 0x4000, c2 := 256, s2 := 0x20, ro := 0xFFFFFFFF, half := 1 },
  { base := 0x102014, c1 := 32, s1 := 0x4000, c2 := 256, s2 := 0x20, ro := 0xFFFFFFFF, half := 2 },
  { base := 0x102018, c1 := 32, s1 := 0x4000, c2 := 256, s2 := 0x20, ro := 0xFFFFFFFF, half := 1 },
  { base := 0x10201C, c1 := 32, s1 := 0x4000, c2 := 256, s2 := 0x20, ro := 0xFFFFFFFF, half := 2 },
  { base := 0x100400, c1 := 32, s1 := 0x4000, w1c := 0x400, ro := 0xFF00031F },
  { base := 0x100410, c1 := 32, s1 := 0x4000, ro := 0x1FFFFFF },
  { base := 0x100414, c1 := 32, s1 := 0x4000, ro := 0x3FFFFF },
  { base := 0x100418, c1 := 32, s1 := 0x4000, ro := 0x3FFFF }]

def rowsOfBlock10Part1 : List WordSpec := [
  { base := 0x10041C, c1 := 32, s1 := 0x4000, ro := 0xFFFFFFFF },
  { base := 0x100420, c1 := 32, s1 := 0x4000, ro := 0xFFFFFFFF },
  { base := 0x100424, c1 := 32, s1 := 0x4000, ro := 0xFFFFFFFF },
  { base := 0x100428, c1 := 32, s1 := 0x4000, ro := 0xFFFFFFFF },
  { base := 0x10042C, c1 := 32, s1 := 0x4000, ro := 0xFFFFFFFF },
  { base := 0x100440, c1 := 32, s1 := 0x4000, ro := 0x7FFFFF },
  { base := 0x100444, c1 := 32, s1 := 0x4000, ro := 0xFFF },
  { base := 0x100448, c1 := 32, s1 := 0x4000, ro := 0xFFFFFFFF },
  { base := 0x10044C, c1 := 32, s1 := 0x4000, ro := 0xFFFFFFFF },
  { base := 0x100450, c1 := 32, s1 := 0x4000, rc := 0xFFFFFFFF },
  { base := 0x100500, c1 := 32, s1 := 0x4000, w1s := 0xFFFFFFFF },
  { base := 0x100504, c1 := 32, s1 := 0x4000, ro := 0xFFFFFFFF },
  { base := 0x100508, c1 := 32, s1 := 0x4000, w1s := 0xFFFFFFFF },
  { base := 0x10050C, c1 := 32, s1 := 0x4000, rw := 0xFFFFFFFF },
  { base := 0x100510, c1 := 32, s1 := 0x4000, ro := 0xFF00 },
  { base := 0x100514, c1 := 32, s1 := 0x4000, rw := 0x1F },
  { base := 0x100600, c1 := 32, s1 := 0x4000, c2 := 163, s2 := 0x4, ro := 0xFFFFFFFF },
  { base := 0x100A00, c1 := 32, s1 := 0x4000, rw := 0xFFFC },
  { base := 0x100A04, c1 := 32, s1 := 0x4000, ro := 0xFFFFFFFF },
  { base := 0x100B00, c1 := 32, s1 := 0x4000, rw := 0x1FFF },
  { base := 0x100B08, c1 := 32, s1 := 0x4000, ro := 0xFFFFFFFF, half := 1 },
  { base := 0x100B0C, c1 := 32, s1 := 0x4000, ro := 0x1FF, half := 2 },
  { base := 0x100B10, c1 := 32, s1 := 0x4000, rw := 0xFF },
  { base := 0x100B14, c1 := 32, s1 := 0x4000, ro := 0xFFFF }]

def rowsOfBlock10Part2 : List WordSpec := [
  { base := 0x100B18, c1 := 32, s1 := 0x4000, rw := 0x3FFF },
  { base := 0x100B1C, c1 := 32, s1 := 0x4000, ro := 0xFFFFFFFF },
  { base := 0x100B20, c1 := 32, s1 := 0x4000, ro := 0xFFFFFFFF },
  { base := 0x100C00, c1 := 32, s1 := 0x4000, c2 := 64, s2 := 0x4, ro := 0x9FFFFFFF }]

def rowsOfBlock10 : List WordSpec := rowsOfBlock10Part0 ++ rowsOfBlock10Part1 ++ rowsOfBlock10Part2

def rowsOfBlock18 : List WordSpec := [
  { base := 0x180000, rst := 0x204, rw := 0x1F1F },
  { base := 0x180004, rst := 0xC000, rw := 0xFFFF },
  { base := 0x180008, rst := 0x10, rw := 0xFFFF },
  { base := 0x18000C, rst := 0xC0, rw := 0xFF },
  { base := 0x180010, w1c := 0x5, ro := 0x30 },
  { base := 0x180018, rst := 0x2D000000, ro := 0xFFFFFFFF, half := 1 },
  { base := 0x18001C, rst := 0x131, ro := 0xFFFFFFFF, half := 2 },
  { base := 0x180020, ro := 0xFFFFFFFF, half := 1 },
  { base := 0x180024, ro := 0xFFFFFFFF, half := 2 },
  { base := 0x180028, ro := 0xFFFFFFFF, half := 1 },
  { base := 0x18002C, ro := 0xFFFFFFFF, half := 2 },
  { base := 0x180030, ro := 0xFFFFFFFF, half := 1 },
  { base := 0x180034, ro := 0xFFFFFFFF, half := 2 },
  { base := 0x180038, ro := 0xFFFFFFFF, half := 1 },
  { base := 0x18003C, ro := 0xFFFFFFFF, half := 2 },
  { base := 0x180040, ro := 0xF1F0FFF },
  { base := 0x180044, rc := 0xFFFFFFFF },
  { base := 0x180048, rst := 0x100E0C, rw := 0x1F1F1F }]

def rowsOfBlock20Part0 : List WordSpec := [
  { base := 0x200000, c1 := 3072, s1 := 0x200, rwl := 0x3F15FF0F },
  { base := 0x200004, c1 := 3072, s1 := 0x200, rwl := 0xFFFF0F1F },
  { base := 0x200008, c1 := 3072, s1 := 0x200, rwl := 0xE01FFFFF },
  { base := 0x20000C, c1 := 3072, s1 := 0x200, rwl := 0x7FFFFFFF },
  { base := 0x200010, c1 := 3072, s1 := 0x200, rwl := 0xFFFF },
  { base := 0x200014, c1 := 3072, s1 := 0x200, rwl := 0x1FFFF },
  { base := 0x200018, c1 := 3072, s1 := 0x200, rwl := 0x1FFFF },
  { base := 0x20001C, c1 := 3072, s1 := 0x200, rwl := 0xFFFFFFFF },
  { base := 0x200020, c1 := 3072, s1 := 0x200, rwl := 0xF },
  { base := 0x200024, c1 := 3072, s1 := 0x200, rwl := 0xFFFFFFFF },
  { base := 0x200028, c1 := 3072, s1 := 0x200, rwl := 0xFFFF },
  { base := 0x20002C, c1 := 3072, s1 := 0x200, rwl := 0x3FFF },
  { base := 0x200030, c1 := 3072, s1 := 0x200, rwl := 0x3F0F1F },
  { base := 0x200034, c1 := 3072, s1 := 0x200, rwl := 0x1FFFFF },
  { base := 0x200038, c1 := 3072, s1 := 0x200, rwl := 0xFFFFFF },
  { base := 0x20003C, c1 := 3072, s1 := 0x200, rwl := 0xFFFF },
  { base := 0x200040, c1 := 3072, s1 := 0x200, rwl := 0xFFFFF },
  { base := 0x200044, c1 := 3072, s1 := 0x200, rwl := 0xFFFFFFFF },
  { base := 0x200048, c1 := 3072, s1 := 0x200, rwl := 0x1FFFFF },
  { base := 0x20004C, c1 := 3072, s1 := 0x200, rwl := 0xFFFFFF },
  { base := 0x200050, c1 := 3072, s1 := 0x200, rwl := 0xFFFFFFFF },
  { base := 0x200054, c1 := 3072, s1 := 0x200, rwl := 0x1 },
  { base := 0x200058, c1 := 3072, s1 := 0x200, c2 := 2, s2 := 0x4, rwl := 0xFFFFF },
  { base := 0x200060, c1 := 3072, s1 := 0x200, c2 := 2, s2 := 0x4, rwl := 0xFFFFF }]

def rowsOfBlock20Part1 : List WordSpec := [
  { base := 0x200068, c1 := 3072, s1 := 0x200, rwl := 0x7 },
  { base := 0x20006C, c1 := 3072, s1 := 0x200, rwl := 0x1F07 },
  { base := 0x200070, c1 := 3072, s1 := 0x200, rwl := 0xFFFF },
  { base := 0x200080, c1 := 3072, s1 := 0x200, c2 := 16, s2 := 0x4, rwl := 0xFF07 },
  { base := 0x2000C0, c1 := 3072, s1 := 0x200, c2 := 2, s2 := 0x8, rwl := 0xFFFFFFFF, half := 1 },
  { base := 0x2000C4, c1 := 3072, s1 := 0x200, c2 := 2, s2 := 0x8, rwl := 0x7, half := 2 },
  { base := 0x2000D0, c1 := 3072, s1 := 0x200, c2 := 2, s2 := 0x8, rwl := 0xFFFFFFFF, half := 1 },
  { base := 0x2000D4, c1 := 3072, s1 := 0x200, c2 := 2, s2 := 0x8, rwl := 0x7, half := 2 },
  { base := 0x2000E0, c1 := 3072, s1 := 0x200, c2 := 4, s2 := 0x4, rwl := 0xFFFFFFFF },
  { base := 0x200100, c1 := 3072, s1 := 0x200, w1c := 0x8, ro := 0xFFF37 },
  { base := 0x200104, c1 := 3072, s1 := 0x200, ro := 0x1F1FFFFF },
  { base := 0x200108, c1 := 3072, s1 := 0x200, ro := 0x1FFFFF },
  { base := 0x20010C, c1 := 3072, s1 := 0x200, ro := 0xFFFFFFFF },
  { base := 0x200110, c1 := 3072, s1 := 0x200, ro := 0xFFFFFFFF },
  { base := 0x200114, c1 := 3072, s1 := 0x200, ro := 0xFFFFFFFF },
  { base := 0x200118, c1 := 3072, s1 := 0x200, ro := 0xFFFFFFFF, half := 1 },
  { base := 0x20011C, c1 := 3072, s1 := 0x200, ro := 0xFFFFFFFF, half := 2 },
  { base := 0x200120, c1 := 3072, s1 := 0x200, ro := 0xFFFFFFFF, half := 1 },
  { base := 0x200124, c1 := 3072, s1 := 0x200, ro := 0xFFFFFFFF, half := 2 },
  { base := 0x200128, c1 := 3072, s1 := 0x200, ro := 0xFFFFFFFF, half := 1 },
  { base := 0x20012C, c1 := 3072, s1 := 0x200, ro := 0xFFFFFFFF, half := 2 },
  { base := 0x200130, c1 := 3072, s1 := 0x200, ro := 0xFFFFFFFF, half := 1 },
  { base := 0x200134, c1 := 3072, s1 := 0x200, ro := 0xFFFFFFFF, half := 2 },
  { base := 0x200138, c1 := 3072, s1 := 0x200, ro := 0xFFFFFFFF, half := 1 }]

def rowsOfBlock20Part2 : List WordSpec := [
  { base := 0x20013C, c1 := 3072, s1 := 0x200, ro := 0xFFFFFFFF, half := 2 },
  { base := 0x200140, c1 := 3072, s1 := 0x200, ro := 0xFFFFFFFF, half := 1 },
  { base := 0x200144, c1 := 3072, s1 := 0x200, ro := 0xFFFFFFFF, half := 2 },
  { base := 0x200148, c1 := 3072, s1 := 0x200, ro := 0xFFFFFFFF, half := 1 },
  { base := 0x20014C, c1 := 3072, s1 := 0x200, ro := 0xFFFFFFFF, half := 2 },
  { base := 0x200150, c1 := 3072, s1 := 0x200, ro := 0xFFFFFFFF }]

def rowsOfBlock20 : List WordSpec := rowsOfBlock20Part0 ++ rowsOfBlock20Part1 ++ rowsOfBlock20Part2

def rowsOfBlock40Part0 : List WordSpec := [
  { base := 0x400000, rw := 0x4, w1s := 0xA },
  { base := 0x400004, w1c := 0x3C, ro := 0xFF01 },
  { base := 0x400008, ro := 0xFFFF },
  { base := 0x400010, c1 := 4, s1 := 0x4, rwl := 0xFFFFFFFF },
  { base := 0x400020, rc := 0xFFFFFFFF },
  { base := 0x400040, c1 := 4, s1 := 0x4, rw := 0x1 },
  { base := 0x400050, c1 := 4, s1 := 0x4, rst := 0x83F, rw := 0xFFFF7F },
  { base := 0x400100, rst := 0x4E20, rwl := 0xFFFFF },
  { base := 0x404100, rst := 0x4E20, ro := 0xFFFFF },
  { base := 0x401000, c1 := 32, s1 := 0x40, rwl := 0xBFFF0F0F },
  { base := 0x401004, c1 := 32, s1 := 0x40, rwl := 0xFFFFFFFF },
  { base := 0x401008, c1 := 32, s1 := 0x40, rwl := 0x1B },
  { base := 0x40100C, c1 := 32, s1 := 0x40, rwl := 0xFFFFFFFF },
  { base := 0x401010, c1 := 32, s1 := 0x40, rwl := 0xFFFFFFFF },
  { base := 0x401014, c1 := 32, s1 := 0x40, rwl := 0xFFFFFFFF },
  { base := 0x405000, c1 := 32, s1 := 0x40, ro := 0xBFFF0F0F },
  { base := 0x405004, c1 := 32, s1 := 0x40, ro := 0xFFFFFFFF },
  { base := 0x405008, c1 := 32, s1 := 0x40, ro := 0x1B },
  { base := 0x40500C, c1 := 32, s1 := 0x40, ro := 0xFFFFFFFF },
  { base := 0x405010, c1 := 32, s1 := 0x40, ro := 0xFFFFFFFF },
  { base := 0x405014, c1 := 32, s1 := 0x40, ro := 0xFFFFFFFF },
  { base := 0x402000, c1 := 16, s1 := 0x20, rwl := 0xFFFFFFFF },
  { base := 0x402004, c1 := 16, s1 := 0x20, rwl := 0x803F3F03 },
  { base := 0x402008, c1 := 16, s1 := 0x20, rwl := 0xFFFFFF }]

def rowsOfBlock40Part1 : List WordSpec := [
  { base := 0x406000, c1 := 16, s1 := 0x20, ro := 0xFFFFFFFF },
  { base := 0x406004, c1 := 16, s1 := 0x20, ro := 0x803F3F03 },
  { base := 0x406008, c1 := 16, s1 := 0x20, ro := 0xFFFFFF },
  { base := 0x403000, c1 := 32, s1 := 0x20, ro := 0xFFFFFFFF },
  { base := 0x403004, c1 := 32, s1 := 0x20, rc := 0xFFFFFFFF },
  { base := 0x403008, c1 := 32, s1 := 0x20, rc := 0xFFFFFFFF },
  { base := 0x40300C, c1 := 32, s1 := 0x20, ro := 0xFF },
  { base := 0x403010, c1 := 32, s1 := 0x20, ro := 0xFFFFFFFF, half := 1 },
  { base := 0x403014, c1 := 32, s1 := 0x20, ro := 0xFFFFFFFF, half := 2 },
  { base := 0x403800, c1 := 16, s1 := 0x10, ro := 0xFFFFFFFF },
  { base := 0x403808, c1 := 16, s1 := 0x10, ro := 0xFFFFFFFF, half := 1 },
  { base := 0x40380C, c1 := 16, s1 := 0x10, ro := 0xFFFFFFFF, half := 2 }]

def rowsOfBlock40 : List WordSpec := rowsOfBlock40Part0 ++ rowsOfBlock40Part1

def rowsOfBlock41 : List WordSpec := [
  { base := 0x410000, c1 := 64, s1 := 0x100, w1s := 0x3 },
  { base := 0x410004, c1 := 64, s1 := 0x100, w1c := 0xF0000, ro := 0xFFF0FF07 },
  { base := 0x410008, c1 := 64, s1 := 0x100, rwl := 0x1F3FFFF3 },
  { base := 0x41000C, c1 := 64, s1 := 0x100, rwl := 0x1FFFFFF },
  { base := 0x410010, c1 := 64, s1 := 0x100, rwl := 0xFFFFFFF },
  { base := 0x410014, c1 := 64, s1 := 0x100, rwl := 0x13F },
  { base := 0x410018, c1 := 64, s1 := 0x100, rwl := 0xFFFFFFFF, half := 1 },
  { base := 0x41001C, c1 := 64, s1 := 0x100, rwl := 0x7, half := 2 },
  { base := 0x410020, c1 := 64, s1 := 0x100, rwl := 0xFFFFFFFF, half := 1 },
  { base := 0x410024, c1 := 64, s1 := 0x100, rwl := 0x7, half := 2 },
  { base := 0x410028, c1 := 64, s1 := 0x100, rwl := 0xFFFFFFFF, half := 1 },
  { base := 0x41002C, c1 := 64, s1 := 0x100, rwl := 0xFFFF, half := 2 },
  { base := 0x410030, c1 := 64, s1 := 0x100, rwl := 0xFFFFFFFF, half := 1 },
  { base := 0x410034, c1 := 64, s1 := 0x100, rwl := 0xFFFF, half := 2 },
  { base := 0x410038, c1 := 64, s1 := 0x100, ro := 0xFFFFFFFF, half := 1 },
  { base := 0x41003C, c1 := 64, s1 := 0x100, ro := 0xFFFFFFFF, half := 2 },
  { base := 0x410040, c1 := 64, s1 := 0x100, rc := 0xFFFFFFFF },
  { base := 0x410044, c1 := 64, s1 := 0x100, rc := 0xFFFFFFFF },
  { base := 0x410048, c1 := 64, s1 := 0x100, ro := 0xFFFFFFFF },
  { base := 0x41004C, c1 := 64, s1 := 0x100, ro := 0xFFFFFFFF },
  { base := 0x410050, c1 := 64, s1 := 0x100, ro := 0xFFFFFFFF },
  { base := 0x410080, c1 := 64, s1 := 0x100, c2 := 32, s2 := 0x4, ro := 0xFFFFFFFF }]

def rowsOfBlock42 : List WordSpec := [
  { base := 0x420000, c1 := 8, s1 := 0x4000, c2 := 4096, s2 := 0x4, rst := 0x7FFF8000, rwl := 0xFFFFFFFF }]

def rowsOfBlock48 : List WordSpec := [
  { base := 0x480000, rw := 0x7 },
  { base := 0x480004, w1c := 0x1E, ro := 0x1 },
  { base := 0x480008, ro := 0x7FFFFFF },
  { base := 0x48000C, rw := 0xFFFFFF },
  { base := 0x480010, rw := 0x11F },
  { base := 0x480018, rw := 0xFFFFFFFF, half := 1 },
  { base := 0x48001C, rw := 0xFFFFFFFF, half := 2 },
  { base := 0x480020, ro := 0xFFFFFFFF },
  { base := 0x480024, ro := 0xFFFFFFFF },
  { base := 0x480028, ro := 0xFFFFFFFF },
  { base := 0x48002C, ro := 0xFFFFFFFF },
  { base := 0x480030, rc := 0xFFFFFFFF },
  { base := 0x480034, rc := 0xFFFFFFFF },
  { base := 0x480038, rc := 0xFFFFFFFF },
  { base := 0x48003C, rc := 0xFFFFFFFF },
  { base := 0x480040, c1 := 16, s1 := 0x4, rst := 0x3F, rw := 0x3F },
  { base := 0x480100, c1 := 64, s1 := 0x8, rw := 0x3F03 },
  { base := 0x480104, c1 := 64, s1 := 0x8, rw := 0xFFFF, ro := 0xFF0000 }]

def rowsOfBlock4CPart0 : List WordSpec := [
  { base := 0x4C0000, rwl := 0xF3 },
  { base := 0x4C0004, w1c := 0xF0, ro := 0xFFFF000D },
  { base := 0x4C0008, rwl := 0xFFFF },
  { base := 0x4C000C, rst := 0x1388, rw := 0xFFFFF },
  { base := 0x4C0010, ro := 0xFFFFFFFF },
  { base := 0x4C0014, ro := 0xFFFFFFFF },
  { base := 0x4C0018, rw := 0xFFFFFFFF },
  { base := 0x4C001C, rst := 0x64, rw := 0xFFFF },
  { base := 0x4C0020, rw := 0xFFFFFFFF, half := 1 },
  { base := 0x4C0024, rw := 0xFFFFFFFF, half := 2 },
  { base := 0x4C0028, rw := 0xFFFF },
  { base := 0x4C002C, ro := 0xFFFFFFFF },
  { base := 0x4C0030, ro := 0xFFFFFFFF },
  { base := 0x4C0034, ro := 0xFFFFFFFF },
  { base := 0x4C0038, rc := 0xFFFFFFFF },
  { base := 0x4C003C, rc := 0xFFFFFFFF },
  { base := 0x4C0040, rc := 0xFFFFFFFF },
  { base := 0x4C0044, rc := 0xFFFFFFFF },
  { base := 0x4C0048, ro := 0xFFFFFFFF },
  { base := 0x4C0050, c1 := 4, s1 := 0x4, ro := 0xFFFFFFFF },
  { base := 0x4C0100, c1 := 16, s1 := 0x40, rst := 0x100, rw := 0x103, w1s := 0x10 },
  { base := 0x4C0104, c1 := 16, s1 := 0x40, ro := 0xFFFFFF07 },
  { base := 0x4C0108, c1 := 16, s1 := 0x40, ro := 0xFFFFFFFF },
  { base := 0x4C010C, c1 := 16, s1 := 0x40, rw := 0xFFFFFFFF }]

def rowsOfBlock4CPart1 : List WordSpec := [
  { base := 0x4C0110, c1 := 16, s1 := 0x40, ro := 0xFFFF },
  { base := 0x4C0114, c1 := 16, s1 := 0x40, ro := 0xFFFFFFFF },
  { base := 0x4C0118, c1 := 16, s1 := 0x40, ro := 0xFFFFFFFF, half := 1 },
  { base := 0x4C011C, c1 := 16, s1 := 0x40, ro := 0xFFFFFFFF, half := 2 },
  { base := 0x4C0120, c1 := 16, s1 := 0x40, rc := 0xFFFFFFFF },
  { base := 0x4C0124, c1 := 16, s1 := 0x40, rc := 0xFFFFFFFF },
  { base := 0x4C0128, c1 := 16, s1 := 0x40, rc := 0xFFFFFFFF },
  { base := 0x4C012C, c1 := 16, s1 := 0x40, rc := 0xFFFFFFFF }]

def rowsOfBlock4C : List WordSpec := rowsOfBlock4CPart0 ++ rowsOfBlock4CPart1

def rowsOfBlock50Part0 : List WordSpec := [
  { base := 0x500000, rst := 0xA03, rw := 0x1F03 },
  { base := 0x500004, rst := 0x1, w1c := 0x70000, ro := 0x377 },
  { base := 0x500008, rst := 0x4182448, rw := 0xFFFFFFF },
  { base := 0x500010, rst := 0x15180, rw := 0xFFFFFFFF },
  { base := 0x500020, rc := 0xFFFFFFFF },
  { base := 0x501000, c1 := 2, s1 := 0x1000, ro := 0xFFFF },
  { base := 0x501008, c1 := 2, s1 := 0x1000, ro := 0xFFFFFFFF, half := 1 },
  { base := 0x50100C, c1 := 2, s1 := 0x1000, ro := 0xFFFFFFFF, half := 2 },
  { base := 0x501010, c1 := 2, s1 := 0x1000, ro := 0xFFFFFFFF },
  { base := 0x501014, c1 := 2, s1 := 0x1000, ro := 0xFFFFFFFF },
  { base := 0x501018, c1 := 2, s1 := 0x1000, ro := 0xFFFFFFFF },
  { base := 0x501020, c1 := 2, s1 := 0x1000, ro := 0xFFFFFFFF, half := 1 },
  { base := 0x501024, c1 := 2, s1 := 0x1000, ro := 0xFFFFFFFF, half := 2 },
  { base := 0x501028, c1 := 2, s1 := 0x1000, ro := 0xFFFFFFFF },
  { base := 0x50102C, c1 := 2, s1 := 0x1000, ro := 0xFFFFFFFF },
  { base := 0x501030, c1 := 2, s1 := 0x1000, ro := 0xFFFFFFFF },
  { base := 0x501038, c1 := 2, s1 := 0x1000, ro := 0xFFFFFFC0, half := 1 },
  { base := 0x50103C, c1 := 2, s1 := 0x1000, ro := 0x7, half := 2 },
  { base := 0x501040, c1 := 2, s1 := 0x1000, ro := 0x77F03 },
  { base := 0x501044, c1 := 2, s1 := 0x1000, rc := 0xFF00, ro := 0xFF },
  { base := 0x501048, c1 := 2, s1 := 0x1000, ro := 0xFFFFFFFF, half := 1 },
  { base := 0x50104C, c1 := 2, s1 := 0x1000, ro := 0xFFFFFFFF, half := 2 },
  { base := 0x501050, c1 := 2, s1 := 0x1000, ro := 0xFFFFFFFF },
  { base := 0x501058, c1 := 2, s1 := 0x1000, ro := 0xFFFFFFC0, half := 1 }]

def rowsOfBlock50Part1 : List WordSpec := [
  { base := 0x50105C, c1 := 2, s1 := 0x1000, ro := 0x7, half := 2 },
  { base := 0x501060, c1 := 2, s1 := 0x1000, ro := 0xFFFFFFFF },
  { base := 0x501064, c1 := 2, s1 := 0x1000, ro := 0xFFFFFFFF },
  { base := 0x503000, c1 := 6, s1 := 0x40, ro := 0xFFFFFFFF, half := 1 },
  { base := 0x503004, c1 := 6, s1 := 0x40, ro := 0xFFFFFFFF, half := 2 },
  { base := 0x503008, c1 := 6, s1 := 0x40, ro := 0xFFFFFFFF, half := 1 },
  { base := 0x50300C, c1 := 6, s1 := 0x40, ro := 0xFFFFFFFF, half := 2 },
  { base := 0x503010, c1 := 6, s1 := 0x40, rc := 0xFFFFFFFF },
  { base := 0x503014, c1 := 6, s1 := 0x40, ro := 0x1FFFFF }]

def rowsOfBlock50 : List WordSpec := rowsOfBlock50Part0 ++ rowsOfBlock50Part1

def rowsOfBlock58Part0 : List WordSpec := [
  { base := 0x580000, ro := 0xFFFFFFFF, half := 1 },
  { base := 0x580004, ro := 0xFFFFFFFF, half := 2 },
  { base := 0x581000, c1 := 64, s1 := 0x40, rst := 0x40, rw := 0x1, rwl := 0xFF70, w1s := 0xE },
  { base := 0x581004, c1 := 64, s1 := 0x40, rst := 0xC840000, rwl := 0xFFFF0007 },
  { base := 0x581008, c1 := 64, s1 := 0x40, w1c := 0x1F0000, ro := 0xFF07 },
  { base := 0x58100C, c1 := 64, s1 := 0x40, ro := 0xFFFFFFFF },
  { base := 0x581010, c1 := 64, s1 := 0x40, rwl := 0xFFFFFFFF, half := 1 },
  { base := 0x581014, c1 := 64, s1 := 0x40, rwl := 0xFFFFFFFF, half := 2 },
  { base := 0x581018, c1 := 64, s1 := 0x40, ro := 0xFFFF },
  { base := 0x581020, c1 := 64, s1 := 0x40, ro := 0xFFFFFFFF, half := 1 },
  { base := 0x581024, c1 := 64, s1 := 0x40, ro := 0xFFFFFFFF, half := 2 },
  { base := 0x581028, c1 := 64, s1 := 0x40, ro := 0xFFFFFFFF, half := 1 },
  { base := 0x58102C, c1 := 64, s1 := 0x40, ro := 0xFFFFFFFF, half := 2 },
  { base := 0x581030, c1 := 64, s1 := 0x40, rc := 0xFFFFFFFF },
  { base := 0x581038, c1 := 64, s1 := 0x40, ro := 0xFFFFFFFF, half := 1 },
  { base := 0x58103C, c1 := 64, s1 := 0x40, ro := 0xFFFFFFFF, half := 2 },
  { base := 0x584000, c1 := 32, s1 := 0x40, rst := 0x5F000000, rwl := 0x7FFFFF77 },
  { base := 0x584004, c1 := 32, s1 := 0x40, rw := 0x1, w1s := 0x2 },
  { base := 0x584008, c1 := 32, s1 := 0x40, w1c := 0x38, ro := 0xFF07 },
  { base := 0x58400C, c1 := 32, s1 := 0x40, ro := 0x1FFF1FFF },
  { base := 0x584010, c1 := 32, s1 := 0x40, rwl := 0xFFFF },
  { base := 0x584014, c1 := 32, s1 := 0x40, rc := 0x1FFF },
  { base := 0x584018, c1 := 32, s1 := 0x40, ro := 0xFFFFFFFF, half := 1 },
  { base := 0x58401C, c1 := 32, s1 := 0x40, ro := 0xFFFFFFFF, half := 2 }]

def rowsOfBlock58Part1 : List WordSpec := [
  { base := 0x584020, c1 := 32, s1 := 0x40, rc := 0xFFFFFFFF },
  { base := 0x584024, c1 := 32, s1 := 0x40, rc := 0xFFFFFFFF },
  { base := 0x584028, c1 := 32, s1 := 0x40, rc := 0xFFFFFFFF }]

def rowsOfBlock58 : List WordSpec := rowsOfBlock58Part0 ++ rowsOfBlock58Part1

def rowsOfBlock60 : List WordSpec := [
  { base := 0x600000, ro := 0x207FF },
  { base := 0x600004, rst := 0x106, rw := 0x1FF, w1s := 0x1000 },
  { base := 0x600008, w1c := 0x1 },
  { base := 0x60000C, ro := 0xFFFFFF },
  { base := 0x600010, ro := 0x1FF000F },
  { base := 0x601000, c1 := 16, s1 := 0x40, rw := 0x1, rwl := 0xFF02 },
  { base := 0x601004, c1 := 16, s1 := 0x40, rst := 0x404, rwl := 0xF0F },
  { base := 0x601008, c1 := 16, s1 := 0x40, w1c := 0x90000, ro := 0x2FF07 },
  { base := 0x60100C, c1 := 16, s1 := 0x40, ro := 0xFFF0FFF },
  { base := 0x601010, c1 := 16, s1 := 0x40, ro := 0xFFF1FFF },
  { base := 0x601018, c1 := 16, s1 := 0x40, rwl := 0xFFFFFFFF, half := 1 },
  { base := 0x60101C, c1 := 16, s1 := 0x40, rwl := 0xFFFFFFFF, half := 2 },
  { base := 0x601020, c1 := 16, s1 := 0x40, rwl := 0xFFFFFFFF, half := 1 },
  { base := 0x601024, c1 := 16, s1 := 0x40, rwl := 0xFFFFFFFF, half := 2 }]

def rowsOfBlock68 : List WordSpec := [
  { base := 0x680000, rw := 0x1F01 },
  { base := 0x680004, rw := 0xFFFFFF },
  { base := 0x680008, rst := 0x25, rw := 0xFFFFFFFF },
  { base := 0x680010, c1 := 4, s1 := 0x4, rwl := 0x1 },
  { base := 0x680100, c1 := 16, s1 := 0x40, rst := 0x24000000, rw := 0x1, rwl := 0x3FFF01FE },
  { base := 0x680104, c1 := 16, s1 := 0x40, ro := 0xFF03 },
  { base := 0x680108, c1 := 16, s1 := 0x40, ro := 0xFFFFFFFF, half := 1 },
  { base := 0x68010C, c1 := 16, s1 := 0x40, ro := 0xFFFFFFFF, half := 2 },
  { base := 0x680110, c1 := 16, s1 := 0x40, ro := 0xFFFFFFFF, half := 1 },
  { base := 0x680114, c1 := 16, s1 := 0x40, ro := 0xFFFFFFFF, half := 2 },
  { base := 0x680118, c1 := 16, s1 := 0x40, ro := 0xFFFFFFFF, half := 1 },
  { base := 0x68011C, c1 := 16, s1 := 0x40, ro := 0xFFFFFFFF, half := 2 },
  { base := 0x680120, c1 := 16, s1 := 0x40, rc := 0xFFFFFFFF },
  { base := 0x680124, c1 := 16, s1 := 0x40, rc := 0xFFFFFFFF },
  { base := 0x680128, c1 := 16, s1 := 0x40, rc := 0xFFFFFFFF },
  { base := 0x68012C, c1 := 16, s1 := 0x40, rc := 0xFFFFFFFF },
  { base := 0x680130, c1 := 16, s1 := 0x40, rc := 0xFFFFFFFF },
  { base := 0x681000, c1 := 32, s1 := 0x100, rwl := 0xF7F },
  { base := 0x681004, c1 := 32, s1 := 0x100, rwl := 0xFFFFFFFF },
  { base := 0x681008, c1 := 32, s1 := 0x100, rwl := 0xFFFF },
  { base := 0x68100C, c1 := 32, s1 := 0x100, rst := 0x64, rwl := 0xFFFF },
  { base := 0x681040, c1 := 32, s1 := 0x100, c2 := 32, s2 := 0x4, rwl := 0xFFFFFFFF }]

def rowsOfBlock70Part0 : List WordSpec := [
  { base := 0x700000, rw := 0xFF07, w1s := 0x78 },
  { base := 0x700004, w1c := 0xE98, ro := 0xFF0167 },
  { base := 0x700008, rst := 0x24, rw := 0x37 },
  { base := 0x70000C, rst := 0x3C, rw := 0x3FF },
  { base := 0x700010, rst := 0xAA00A00, rw := 0xFFF0FFF },
  { base := 0x700014, rst := 0x200030, rw := 0x8FFF0FFF },
  { base := 0x700018, rst := 0x6CF0640, rw := 0x3FFF07FF },
  { base := 0x70001C, rst := 0x32506, rw := 0xBFFFFFFF },
  { base := 0x700020, rst := 0x9018, rw := 0xFFFF },
  { base := 0x700808, rst := 0x24, ro := 0x37 },
  { base := 0x70080C, rst := 0x3C, ro := 0x3FF },
  { base := 0x700810, rst := 0xAA00A00, ro := 0xFFF0FFF },
  { base := 0x700814, rst := 0x200030, ro := 0x8FFF0FFF },
  { base := 0x700818, rst := 0x6CF0640, ro := 0x3FFF07FF },
  { base := 0x70081C, rst := 0x32506, ro := 0xBFFFFFFF },
  { base := 0x700820, rst := 0x9018, ro := 0xFFFF },
  { base := 0x700030, ro := 0x3FFF3FFF },
  { base := 0x700034, ro := 0x3FFF },
  { base := 0x700038, ro := 0xFFFFFFFF, half := 1 },
  { base := 0x70003C, ro := 0xFFFFFFFF, half := 2 },
  { base := 0x700040, rc := 0xFFFFFFFF },
  { base := 0x700050, rw := 0xFF, w1s := 0x80000000, ro := 0xFF00 },
  { base := 0x700054, rw := 0xFFFFF },
  { base := 0x700060, c1 := 4, s1 := 0x4, rw := 0xFFFFFFFF }]

def rowsOfBlock70Part1 : List WordSpec := [
  { base := 0x700100, c1 := 4, s1 := 0x10, ro := 0xFFFFFFFF },
  { base := 0x700104, c1 := 4, s1 := 0x10, rc := 0xFFFFFFFF },
  { base := 0x700108, c1 := 4, s1 := 0x10, w1s := 0x1 },
  { base := 0x700200, c1 := 16, s1 := 0x8, ro := 0xFFFFFFFF },
  { base := 0x700204, c1 := 16, s1 := 0x8, rc := 0xFFFFFFFF },
  { base := 0x701000, rwl := 0x1 },
  { base := 0x701004, rwl := 0x1 },
  { base := 0x701100, c1 := 16, s1 := 0x10, rwl := 0xF7 },
  { base := 0x701104, c1 := 16, s1 := 0x10, rwl := 0xFFF0FFF },
  { base := 0x701108, c1 := 16, s1 := 0x10, rwl := 0xFFF0FFF },
  { base := 0x70110C, c1 := 16, s1 := 0x10, rwl := 0x3FFFFFF },
  { base := 0x701200, c1 := 4, s1 := 0x10, rwl := 0x8FFF0FFF },
  { base := 0x701204, c1 := 4, s1 := 0x10, rwl := 0xFFF0FFF },
  { base := 0x701208, c1 := 4, s1 := 0x10, rwl := 0xFFFFFFFF },
  { base := 0x701400, c1 := 256, s1 := 0x4, rwl := 0xFFFFFFFF },
  { base := 0x702000, ro := 0x1 },
  { base := 0x702004, ro := 0x1 },
  { base := 0x702100, c1 := 16, s1 := 0x10, ro := 0xFF },
  { base := 0x702104, c1 := 16, s1 := 0x10, ro := 0xFFFFFFF },
  { base := 0x702108, c1 := 16, s1 := 0x10, ro := 0xFFFFFFF },
  { base := 0x70210C, c1 := 16, s1 := 0x10, ro := 0x3FFFFFF },
  { base := 0x702200, c1 := 4, s1 := 0x10, ro := 0xFFFFFFFF },
  { base := 0x702204, c1 := 4, s1 := 0x10, ro := 0xFFFFFFF },
  { base := 0x702208, c1 := 4, s1 := 0x10, ro := 0xFFFFFFFF }]

def rowsOfBlock70Part2 : List WordSpec := [
  { base := 0x702400, c1 := 256, s1 := 0x4, ro := 0xFFFFFFFF }]

def rowsOfBlock70 : List WordSpec := rowsOfBlock70Part0 ++ rowsOfBlock70Part1 ++ rowsOfBlock70Part2

def rowsOfBlock78 : List WordSpec := [
  { base := 0x780000, rw := 0xFF00 },
  { base := 0x780004, w1c := 0x3000, ro := 0xFF070FF7 },
  { base := 0x780008, ro := 0xFFFF0F7F },
  { base := 0x78000C, rst := 0x1, ro := 0x7F00FF },
  { base := 0x780010, c1 := 4, s1 := 0x4, ro := 0xFFFFFFFF },
  { base := 0x780020, rst := 0x12, rw := 0x7F },
  { base := 0x780030, c1 := 4, s1 := 0x4, rw := 0xFFFFFFFF },
  { base := 0x780040, c1 := 6, s1 := 0x4, ro := 0xFFFFFFFF },
  { base := 0x780060, rst := 0x3E8, rw := 0xFFFFF },
  { base := 0x780064, rst := 0x1FBFF8, rw := 0x1FBFF8 },
  { base := 0x780068, c1 := 2, s1 := 0x4, rst := 0xFFFFFFFF, rw := 0xFFFFFFFF },
  { base := 0x780070, wo := 0x17F },
  { base := 0x780074, w1s := 0x1FF },
  { base := 0x780078, ro := 0x1FF },
  { base := 0x78007C, w1c := 0x80000000, ro := 0xF },
  { base := 0x780080, rst := 0x2260000, fuse := 0xFFFF, rw := 0xFFFF0000, ro := 0xFFFF },
  { base := 0x780084, ro := 0xFFFFFFFF },
  { base := 0x780088, rst := 0x64, rw := 0xFFFF },
  { base := 0x780100, c1 := 8, s1 := 0x10, rw := 0xC000FF7F },
  { base := 0x780104, c1 := 8, s1 := 0x10, ro := 0xFFFFFFFF },
  { base := 0x780108, c1 := 8, s1 := 0x10, ro := 0xFFFF }]

def rowsOfBlock7C : List WordSpec := [
  { base := 0x7C0000, fuse := 0xF7F01, ro := 0xF7F31 },
  { base := 0x7C0010, c1 := 4, s1 := 0x4, fuse := 0x1F, ro := 0x1F },
  { base := 0x7C0020, c1 := 7, s1 := 0x4, ro := 0xFFFFFFFF },
  { base := 0x7C003C, ro := 0xFFFF },
  { base := 0x7C0040, c1 := 2, s1 := 0x4, ro := 0xFFFFFFFF },
  { base := 0x7C0050, rc := 0xFFFFFFFF },
  { base := 0x7C0054, ro := 0xF },
  { base := 0x7C0100, c1 := 16, s1 := 0x10, ro := 0xFFF, half := 1 },
  { base := 0x7C0104, c1 := 16, s1 := 0x10, ro := 0xFFFFFFFF, half := 2 },
  { base := 0x7C0108, c1 := 16, s1 := 0x10, ro := 0xFFFFFFFF, half := 1 },
  { base := 0x7C010C, c1 := 16, s1 := 0x10, ro := 0xFFFFFFFF, half := 2 },
  { base := 0x7C0400, c1 := 64, s1 := 0x20, ro := 0xF },
  { base := 0x7C0408, c1 := 64, s1 := 0x20, ro := 0xFFFFF000, half := 1 },
  { base := 0x7C040C, c1 := 64, s1 := 0x20, ro := 0x7, half := 2 },
  { base := 0x7C0410, c1 := 64, s1 := 0x20, ro := 0xFFFFF000, half := 1 },
  { base := 0x7C0414, c1 := 64, s1 := 0x20, ro := 0x7, half := 2 },
  { base := 0x7C1000, c1 := 16, s1 := 0x4, ro := 0xFFFFFFFF },
  { base := 0x7C1040, c1 := 16, s1 := 0x4, ro := 0xFFFFFFFF },
  { base := 0x7C1080, c1 := 16, s1 := 0x4, fuse := 0xFFFFFFFF, ro := 0xFFFFFFFF },
  { base := 0x7C10C0, fuse := 0xFFFFFFFF, ro := 0xFFFFFFFF, half := 1 },
  { base := 0x7C10C4, fuse := 0xFFFFFFFF, ro := 0xFFFFFFFF, half := 2 }]

def rowsOfBlock7E : List WordSpec := [
  { base := 0x7E0000, w1c := 0x300, ro := 0xFF },
  { base := 0x7E0004, ro := 0xFFFFFFFF },
  { base := 0x7E0008, ro := 0xFFFFFFFF },
  { base := 0x7E0010, c1 := 4, s1 := 0x4, fuse := 0xFFFFFFFF, ro := 0xFFFFFFFF },
  { base := 0x7E0020, c1 := 4, s1 := 0x4, ro := 0xFFFFFFFF },
  { base := 0x7E0030, ro := 0xFFFFFFF },
  { base := 0x7E0034, ro := 0xFFFFFFFF },
  { base := 0x7E0038, rw := 0x7 }]

/-- The rows that may hold a word of the 64 KiB block `b` of BAR0. -/
def rowsOfBlock (b : Nat) : List WordSpec :=
  match b with
  | 0x00 => rowsOfBlock00
  | 0x01 => rowsOfBlock01
  | 0x02 => rowsOfBlock02
  | 0x03 => rowsOfBlock03
  | 0x04 => rowsOfBlock04
  | 0x05 => rowsOfBlock05
  | 0x06 => rowsOfBlock06
  | 0x07 => rowsOfBlock07
  | 0x08 => rowsOfBlock08
  | 0x09 => rowsOfBlock09
  | 0x10 => rowsOfBlock10
  | 0x11 => rowsOfBlock10
  | 0x12 => rowsOfBlock10
  | 0x13 => rowsOfBlock10
  | 0x14 => rowsOfBlock10
  | 0x15 => rowsOfBlock10
  | 0x16 => rowsOfBlock10
  | 0x17 => rowsOfBlock10
  | 0x18 => rowsOfBlock18
  | 0x20 => rowsOfBlock20
  | 0x21 => rowsOfBlock20
  | 0x22 => rowsOfBlock20
  | 0x23 => rowsOfBlock20
  | 0x24 => rowsOfBlock20
  | 0x25 => rowsOfBlock20
  | 0x26 => rowsOfBlock20
  | 0x27 => rowsOfBlock20
  | 0x28 => rowsOfBlock20
  | 0x29 => rowsOfBlock20
  | 0x2A => rowsOfBlock20
  | 0x2B => rowsOfBlock20
  | 0x2C => rowsOfBlock20
  | 0x2D => rowsOfBlock20
  | 0x2E => rowsOfBlock20
  | 0x2F => rowsOfBlock20
  | 0x30 => rowsOfBlock20
  | 0x31 => rowsOfBlock20
  | 0x32 => rowsOfBlock20
  | 0x33 => rowsOfBlock20
  | 0x34 => rowsOfBlock20
  | 0x35 => rowsOfBlock20
  | 0x36 => rowsOfBlock20
  | 0x37 => rowsOfBlock20
  | 0x40 => rowsOfBlock40
  | 0x41 => rowsOfBlock41
  | 0x42 => rowsOfBlock42
  | 0x43 => rowsOfBlock42
  | 0x48 => rowsOfBlock48
  | 0x4C => rowsOfBlock4C
  | 0x50 => rowsOfBlock50
  | 0x58 => rowsOfBlock58
  | 0x60 => rowsOfBlock60
  | 0x68 => rowsOfBlock68
  | 0x70 => rowsOfBlock70
  | 0x78 => rowsOfBlock78
  | 0x7C => rowsOfBlock7C
  | 0x7E => rowsOfBlock7E
  | _ => []

/-- Whether the row covers the word at `off`. -/
def WordSpec.covers (w : WordSpec) (off : Nat) : Bool :=
  let d := off - w.base
  let i := if w.s1 = 0 then 0 else d / w.s1
  let d1 := d - i * w.s1
  let j := if w.s2 = 0 then 0 else d1 / w.s2
  decide (w.base ≤ off) && decide (i < w.c1) && decide (j < w.c2) && decide (d1 - j * w.s2 = 0)

/-- The map's row for the word at BAR0 offset `off`; none for an unassigned offset (R6, R577). -/
def wordSpec (off : Nat) : Option WordSpec := (rowsOfBlock (off / 0x10000)).find? (fun w => w.covers off)

/-- The bits of the word at `off` that belong to a field; the others are reserved and read 0 (R5). -/
def fieldBits (off : Nat) : Nat :=
  match wordSpec off with
  | none => 0
  | some w => w.rw ||| w.rwl ||| w.w1c ||| w.w1s ||| w.rc ||| w.wo ||| w.ro

/-- The reset value of the word at `off` (the Reset column; fuse and flash bits from `Config.fuseWord`). -/
def resetWord (off : Nat) : BitVec 32 :=
  match wordSpec off with
  | none => 0
  | some w => if w.fuse = 0 then BitVec.ofNat 32 w.rst
      else BitVec.ofNat 32 w.rst ||| (Config.fuseWord off &&& BitVec.ofNat 32 w.fuse)

end Sys2Proof.Machine
end

