-- ==== Sys2Proof/Machine/RegNames.lean ====
section
/-!
DEFINITION. The names of the device's registers and of their fields, as the register tables of spec/01 to spec/17
give them: each is the BAR0 offset of its word, its lowest bit and its width (spec/18_register_index.md, R576).
-/
namespace Sys2Proof.Machine

/-- A register field: BAR0 byte offset of the register's first word, lowest bit, width in bits. -/
structure Fld where
  off : Nat
  lo : Nat
  wd : Nat
deriving DecidableEq, Repr

def R.ID_EPOCH (n : Nat) : Fld := ⟨0x100 + 0x4 * n, 0, 32⟩
def R.ID_EPOCH_EPOCH_HI (n : Nat) : Fld := ⟨0x100 + 0x4 * n, 24, 8⟩
def R.ID_EPOCH_EPOCH_MH (n : Nat) : Fld := ⟨0x100 + 0x4 * n, 16, 8⟩
def R.ID_EPOCH_EPOCH_ML (n : Nat) : Fld := ⟨0x100 + 0x4 * n, 8, 8⟩
def R.ID_EPOCH_EPOCH_LO (n : Nat) : Fld := ⟨0x100 + 0x4 * n, 0, 8⟩
def R.ID_FENCE (n : Nat) : Fld := ⟨0x200 + 0x4 * n, 0, 32⟩
def R.ID_STALE_DROPS : Fld := ⟨0x240, 0, 32⟩
def R.CLK_CTRL : Fld := ⟨0x10000, 0, 32⟩
def R.CLK_CTRL_BAND : Fld := ⟨0x10000, 1, 6⟩
def R.CLK_CTRL_BAND_MAN : Fld := ⟨0x10000, 0, 1⟩
def R.CLK_NINT : Fld := ⟨0x10004, 0, 32⟩
def R.CLK_NINT_NINT : Fld := ⟨0x10004, 0, 9⟩
def R.CLK_NFRAC : Fld := ⟨0x10008, 0, 32⟩
def R.CLK_STATUS : Fld := ⟨0x1000C, 0, 32⟩
def R.CLK_STATUS_LOCKA_NET : Fld := ⟨0x1000C, 12, 1⟩
def R.CLK_STATUS_BAND_ACT : Fld := ⟨0x1000C, 6, 6⟩
def R.CLK_STATUS_CFG_BUSY : Fld := ⟨0x1000C, 5, 1⟩
def R.CLK_STATUS_NOBAND : Fld := ⟨0x1000C, 4, 1⟩
def R.CLK_STATUS_BUSY : Fld := ⟨0x1000C, 3, 1⟩
def R.CLK_STATUS_CHATTER : Fld := ⟨0x1000C, 2, 1⟩
def R.CLK_STATUS_LOCK_LOST : Fld := ⟨0x1000C, 1, 1⟩
def R.CLK_STATUS_LOCKED : Fld := ⟨0x1000C, 0, 1⟩
def R.CLK_LOCKLOSS : Fld := ⟨0x10010, 0, 32⟩
def R.CLK_BAND (n : Nat) : Fld := ⟨0x10100 + 0x4 * n, 0, 32⟩
def R.CLK_BAND_F_HI (n : Nat) : Fld := ⟨0x10100 + 0x4 * n, 16, 16⟩
def R.CLK_BAND_F_LO (n : Nat) : Fld := ⟨0x10100 + 0x4 * n, 0, 16⟩
def R.TB_CTRL : Fld := ⟨0x11000, 0, 32⟩
def R.TB_CTRL_SNAP : Fld := ⟨0x11000, 9, 1⟩
def R.TB_CTRL_LOAD_AT_PPS : Fld := ⟨0x11000, 8, 1⟩
def R.TB_CTRL_LOAD : Fld := ⟨0x11000, 7, 1⟩
def R.TB_CTRL_PPSOUT_EN : Fld := ⟨0x11000, 6, 1⟩
def R.TB_CTRL_REGAIN : Fld := ⟨0x11000, 4, 2⟩
def R.TB_CTRL_SRC : Fld := ⟨0x11000, 2, 2⟩
def R.TB_CTRL_MODE : Fld := ⟨0x11000, 0, 2⟩
def R.TB_REF_HZ : Fld := ⟨0x11004, 0, 32⟩
def R.TB_REF_HZ_HZ : Fld := ⟨0x11004, 0, 29⟩
def R.TB_BW : Fld := ⟨0x11008, 0, 32⟩
def R.TB_BW_BW : Fld := ⟨0x11008, 0, 14⟩
def R.TB_QUAL : Fld := ⟨0x1100C, 0, 32⟩
def R.TB_QUAL_QUAL_N : Fld := ⟨0x1100C, 24, 8⟩
def R.TB_QUAL_WIN_PPB : Fld := ⟨0x1100C, 0, 20⟩
def R.TB_PBO_THR : Fld := ⟨0x11010, 0, 32⟩
def R.TB_SLEW : Fld := ⟨0x11014, 0, 32⟩
def R.TB_SLEW_PPB : Fld := ⟨0x11014, 0, 16⟩
def R.TB_AGE : Fld := ⟨0x11018, 0, 32⟩
def R.TB_STATE : Fld := ⟨0x1101C, 0, 32⟩
def R.TB_STATE_BAD_REF : Fld := ⟨0x1101C, 9, 1⟩
def R.TB_STATE_JUMP : Fld := ⟨0x1101C, 8, 1⟩
def R.TB_STATE_SLEWING : Fld := ⟨0x1101C, 6, 1⟩
def R.TB_STATE_STEER_LIMIT : Fld := ⟨0x1101C, 5, 1⟩
def R.TB_STATE_HOLDOVER : Fld := ⟨0x1101C, 4, 1⟩
def R.TB_STATE_PPS_OK : Fld := ⟨0x1101C, 3, 1⟩
def R.TB_STATE_REF_OK : Fld := ⟨0x1101C, 2, 1⟩
def R.TB_STATE_STATE : Fld := ⟨0x1101C, 0, 2⟩
def R.TB_STEER : Fld := ⟨0x11020, 0, 32⟩
def R.TB_PHERR : Fld := ⟨0x11024, 0, 32⟩
def R.TB_JUMP : Fld := ⟨0x11028, 0, 32⟩
def R.TB_EVENTS : Fld := ⟨0x1102C, 0, 32⟩
def R.TB_EVENTS_JUMPS : Fld := ⟨0x1102C, 16, 16⟩
def R.TB_EVENTS_COASTS : Fld := ⟨0x1102C, 0, 16⟩
def R.TB_PBO : Fld := ⟨0x11030, 0, 64⟩
def R.TB_JUMP_FULL : Fld := ⟨0x11038, 0, 64⟩
def R.TB_PPSOUT : Fld := ⟨0x11040, 0, 32⟩
def R.TB_PPSOUT_WIDTH : Fld := ⟨0x11040, 0, 16⟩
def R.TB_PPSOUT_OFS : Fld := ⟨0x11044, 0, 32⟩
def R.TB_SET (n : Nat) : Fld := ⟨0x11080 + 0x4 * n, 0, 32⟩
def R.TB_SNAP (n : Nat) : Fld := ⟨0x110A0 + 0x4 * n, 0, 32⟩
def R.TB_PPSIN (n : Nat) : Fld := ⟨0x110C0 + 0x4 * n, 0, 32⟩
def R.ADC_PLAUS_LIM : Fld := ⟨0x40000, 0, 32⟩
def R.ADC_PLAUS_LIM_LIM : Fld := ⟨0x40000, 0, 12⟩
def R.ADC_CTRL (n : Nat) : Fld := ⟨0x41000 + 0x1000 * n, 0, 32⟩
def R.ADC_CTRL_LOOP_SRC (n : Nat) : Fld := ⟨0x41000 + 0x1000 * n, 6, 2⟩
def R.ADC_CTRL_LOOP_EN (n : Nat) : Fld := ⟨0x41000 + 0x1000 * n, 5, 1⟩
def R.ADC_CTRL_FP_RUN (n : Nat) : Fld := ⟨0x41000 + 0x1000 * n, 4, 1⟩
def R.ADC_CTRL_ROT_HOLD (n : Nat) : Fld := ⟨0x41000 + 0x1000 * n, 3, 1⟩
def R.ADC_CTRL_ROT_EN (n : Nat) : Fld := ⟨0x41000 + 0x1000 * n, 1, 1⟩
def R.ADC_CTRL_EN (n : Nat) : Fld := ⟨0x41000 + 0x1000 * n, 0, 1⟩
def R.ADC_STATUS (n : Nat) : Fld := ⟨0x41004 + 0x1000 * n, 0, 32⟩
def R.ADC_STATUS_RESULT (n : Nat) : Fld := ⟨0x41004 + 0x1000 * n, 24, 8⟩
def R.ADC_STATUS_SPARE_SLOT (n : Nat) : Fld := ⟨0x41004 + 0x1000 * n, 16, 6⟩
def R.ADC_STATUS_RETIRED (n : Nat) : Fld := ⟨0x41004 + 0x1000 * n, 8, 6⟩
def R.ADC_STATUS_TRIM_BUSY (n : Nat) : Fld := ⟨0x41004 + 0x1000 * n, 7, 1⟩
def R.ADC_STATUS_OVR (n : Nat) : Fld := ⟨0x41004 + 0x1000 * n, 6, 1⟩
def R.ADC_STATUS_FP_REJ (n : Nat) : Fld := ⟨0x41004 + 0x1000 * n, 5, 1⟩
def R.ADC_STATUS_HELD (n : Nat) : Fld := ⟨0x41004 + 0x1000 * n, 4, 1⟩
def R.ADC_STATUS_DEGRADED (n : Nat) : Fld := ⟨0x41004 + 0x1000 * n, 3, 1⟩
def R.ADC_STATUS_FIRST (n : Nat) : Fld := ⟨0x41004 + 0x1000 * n, 2, 1⟩
def R.ADC_STATUS_SETTLED (n : Nat) : Fld := ⟨0x41004 + 0x1000 * n, 1, 1⟩
def R.ADC_STATUS_STEP (n : Nat) : Fld := ⟨0x41004 + 0x1000 * n, 0, 1⟩
def R.ADC_DCOR (n : Nat) : Fld := ⟨0x41008 + 0x1000 * n, 0, 32⟩
def R.ADC_DCOR_GAIN (n : Nat) : Fld := ⟨0x41008 + 0x1000 * n, 16, 16⟩
def R.ADC_DCOR_OFS (n : Nat) : Fld := ⟨0x41008 + 0x1000 * n, 0, 16⟩
def R.ADC_CAL_OK (n : Nat) : Fld := ⟨0x41010 + 0x1000 * n, 0, 64⟩
def R.ADC_CAL_REJ (n : Nat) : Fld := ⟨0x41018 + 0x1000 * n, 0, 32⟩
def R.ADC_CAL_ABORT (n : Nat) : Fld := ⟨0x4101C + 0x1000 * n, 0, 32⟩
def R.ADC_CAL_SKIP (n : Nat) : Fld := ⟨0x41020 + 0x1000 * n, 0, 32⟩
def R.ADC_CAL_PTIME (n : Nat) (i : Nat) : Fld := ⟨0x41030 + 0x1000 * n + 0x4 * i, 0, 32⟩
def R.ADC_OVR_COUNT (n : Nat) : Fld := ⟨0x41040 + 0x1000 * n, 0, 32⟩
def R.ADC_TRIM (n : Nat) (i : Nat) : Fld := ⟨0x41100 + 0x1000 * n + 0x4 * i, 0, 32⟩
def R.ADC_TRIM_ABRUN (n : Nat) (i : Nat) : Fld := ⟨0x41100 + 0x1000 * n + 0x4 * i, 28, 2⟩
def R.ADC_TRIM_RET (n : Nat) (i : Nat) : Fld := ⟨0x41100 + 0x1000 * n + 0x4 * i, 26, 1⟩
def R.ADC_TRIM_BW (n : Nat) (i : Nat) : Fld := ⟨0x41100 + 0x1000 * n + 0x4 * i, 20, 6⟩
def R.ADC_TRIM_GAIN (n : Nat) (i : Nat) : Fld := ⟨0x41100 + 0x1000 * n + 0x4 * i, 10, 10⟩
def R.ADC_TRIM_OFS (n : Nat) (i : Nat) : Fld := ⟨0x41100 + 0x1000 * n + 0x4 * i, 0, 10⟩
def R.ADC_SKEW (n : Nat) (i : Nat) : Fld := ⟨0x41200 + 0x1000 * n + 0x4 * i, 0, 32⟩
def R.ADC_SKEW_SKEW (n : Nat) (i : Nat) : Fld := ⟨0x41200 + 0x1000 * n + 0x4 * i, 0, 12⟩
def R.DAC_CTRL (n : Nat) : Fld := ⟨0x50000 + 0x1000 * n, 0, 32⟩
def R.DAC_CTRL_LOOP (n : Nat) : Fld := ⟨0x50000 + 0x1000 * n, 5, 1⟩
def R.DAC_CTRL_STOP (n : Nat) : Fld := ⟨0x50000 + 0x1000 * n, 4, 1⟩
def R.DAC_CTRL_TIMED (n : Nat) : Fld := ⟨0x50000 + 0x1000 * n, 3, 1⟩
def R.DAC_CTRL_SRC (n : Nat) : Fld := ⟨0x50000 + 0x1000 * n, 1, 2⟩
def R.DAC_CTRL_EN (n : Nat) : Fld := ⟨0x50000 + 0x1000 * n, 0, 1⟩
def R.DAC_STATUS (n : Nat) : Fld := ⟨0x50004 + 0x1000 * n, 0, 32⟩
def R.DAC_STATUS_RESULT (n : Nat) : Fld := ⟨0x50004 + 0x1000 * n, 8, 8⟩
def R.DAC_STATUS_SYNTH_OVR (n : Nat) : Fld := ⟨0x50004 + 0x1000 * n, 7, 1⟩
def R.DAC_STATUS_LATE_START (n : Nat) : Fld := ⟨0x50004 + 0x1000 * n, 6, 1⟩
def R.DAC_STATUS_CLIP (n : Nat) : Fld := ⟨0x50004 + 0x1000 * n, 5, 1⟩
def R.DAC_STATUS_STARVE (n : Nat) : Fld := ⟨0x50004 + 0x1000 * n, 4, 1⟩
def R.DAC_STATUS_UNDERRUN (n : Nat) : Fld := ⟨0x50004 + 0x1000 * n, 3, 1⟩
def R.DAC_STATUS_START_PEND (n : Nat) : Fld := ⟨0x50004 + 0x1000 * n, 1, 1⟩
def R.DAC_STATUS_RUNNING (n : Nat) : Fld := ⟨0x50004 + 0x1000 * n, 0, 1⟩
def R.DAC_GAIN (n : Nat) : Fld := ⟨0x50008 + 0x1000 * n, 0, 32⟩
def R.DAC_GAIN_GAIN (n : Nat) : Fld := ⟨0x50008 + 0x1000 * n, 0, 16⟩
def R.DAC_START (n : Nat) (i : Nat) : Fld := ⟨0x50010 + 0x1000 * n + 0x4 * i, 0, 32⟩
def R.DAC_NCO_FTW (n : Nat) (i : Nat) : Fld := ⟨0x50020 + 0x1000 * n + 0x10 * i, 0, 64⟩
def R.DAC_NCO_FTW_FTW (n : Nat) (i : Nat) : Fld := ⟨0x50020 + 0x1000 * n + 0x10 * i, 0, 48⟩
def R.DAC_NCO_PA (n : Nat) (i : Nat) : Fld := ⟨0x50028 + 0x1000 * n + 0x10 * i, 0, 32⟩
def R.DAC_NCO_PA_PHASE (n : Nat) (i : Nat) : Fld := ⟨0x50028 + 0x1000 * n + 0x10 * i, 16, 16⟩
def R.DAC_NCO_PA_AMP (n : Nat) (i : Nat) : Fld := ⟨0x50028 + 0x1000 * n + 0x10 * i, 0, 16⟩
def R.DAC_PB_BASE (n : Nat) : Fld := ⟨0x50040 + 0x1000 * n, 0, 64⟩
def R.DAC_PB_BASE_ADDR (n : Nat) : Fld := ⟨0x50040 + 0x1000 * n, 0, 35⟩
def R.DAC_PB_LEN (n : Nat) : Fld := ⟨0x50048 + 0x1000 * n, 0, 64⟩
def R.DAC_PB_LEN_LEN (n : Nat) : Fld := ⟨0x50048 + 0x1000 * n, 0, 35⟩
def R.DAC_UNDERRUN_COUNT (n : Nat) : Fld := ⟨0x50050 + 0x1000 * n, 0, 32⟩
def R.DAC_STARVE_COUNT (n : Nat) : Fld := ⟨0x50054 + 0x1000 * n, 0, 32⟩
def R.DAC_SYNTH_DROP (n : Nat) : Fld := ⟨0x50058 + 0x1000 * n, 0, 32⟩
def R.FCH_LOAD : Fld := ⟨0x90000, 0, 32⟩
def R.FCH_CTRL (n : Nat) : Fld := ⟨0x80000 + 0x1000 * n, 0, 32⟩
def R.FCH_CTRL_CANCEL (n : Nat) : Fld := ⟨0x80000 + 0x1000 * n, 4, 1⟩
def R.FCH_CTRL_FLUSH (n : Nat) : Fld := ⟨0x80000 + 0x1000 * n, 3, 1⟩
def R.FCH_CTRL_AT_PTIME (n : Nat) : Fld := ⟨0x80000 + 0x1000 * n, 2, 1⟩
def R.FCH_CTRL_COMMIT (n : Nat) : Fld := ⟨0x80000 + 0x1000 * n, 1, 1⟩
def R.FCH_CTRL_EN (n : Nat) : Fld := ⟨0x80000 + 0x1000 * n, 0, 1⟩
def R.FCH_STATUS (n : Nat) : Fld := ⟨0x80004 + 0x1000 * n, 0, 32⟩
def R.FCH_STATUS_RESULT (n : Nat) : Fld := ⟨0x80004 + 0x1000 * n, 8, 8⟩
def R.FCH_STATUS_UNDERRUN (n : Nat) : Fld := ⟨0x80004 + 0x1000 * n, 7, 1⟩
def R.FCH_STATUS_GD_UNDEF (n : Nat) : Fld := ⟨0x80004 + 0x1000 * n, 6, 1⟩
def R.FCH_STATUS_LATE_HO (n : Nat) : Fld := ⟨0x80004 + 0x1000 * n, 5, 1⟩
def R.FCH_STATUS_CLIP (n : Nat) : Fld := ⟨0x80004 + 0x1000 * n, 4, 1⟩
def R.FCH_STATUS_SHADOW_BUSY (n : Nat) : Fld := ⟨0x80004 + 0x1000 * n, 3, 1⟩
def R.FCH_STATUS_PENDING (n : Nat) : Fld := ⟨0x80004 + 0x1000 * n, 2, 1⟩
def R.FCH_STATUS_RUNNING (n : Nat) : Fld := ⟨0x80004 + 0x1000 * n, 0, 1⟩
def R.FCH_EPOCH (n : Nat) : Fld := ⟨0x80008 + 0x1000 * n, 0, 32⟩
def R.FCH_EPOCH_EPOCH (n : Nat) : Fld := ⟨0x80008 + 0x1000 * n, 0, 16⟩
def R.FCH_ALIGN (n : Nat) : Fld := ⟨0x8000C + 0x1000 * n, 0, 32⟩
def R.FCH_ALIGN_ALIGN (n : Nat) : Fld := ⟨0x8000C + 0x1000 * n, 0, 24⟩
def R.FCH_HO_PTIME (n : Nat) (i : Nat) : Fld := ⟨0x80010 + 0x1000 * n + 0x4 * i, 0, 32⟩
def R.FCH_GDELAY (n : Nat) : Fld := ⟨0x80020 + 0x1000 * n, 0, 64⟩
def R.FCH_GDELAY_GDELAY (n : Nat) : Fld := ⟨0x80020 + 0x1000 * n, 0, 48⟩
def R.FCH_CLIP_COUNT (n : Nat) : Fld := ⟨0x80028 + 0x1000 * n, 0, 32⟩
def R.FCH_PB_UNDERRUN (n : Nat) : Fld := ⟨0x8002C + 0x1000 * n, 0, 32⟩
def R.FCH_HO_INDEX (n : Nat) : Fld := ⟨0x80030 + 0x1000 * n, 0, 64⟩
def R.FCH_MN_ACT (n : Nat) : Fld := ⟨0x80038 + 0x1000 * n, 0, 32⟩
def R.FCH_MN_ACT_N (n : Nat) : Fld := ⟨0x80038 + 0x1000 * n, 20, 5⟩
def R.FCH_MN_ACT_M (n : Nat) : Fld := ⟨0x80038 + 0x1000 * n, 0, 17⟩
def R.FCH_DET_PK (n : Nat) : Fld := ⟨0x80040 + 0x1000 * n, 0, 32⟩
def R.FCH_DET_PK_PART (n : Nat) : Fld := ⟨0x80040 + 0x1000 * n, 24, 1⟩
def R.FCH_DET_PK_SEQ (n : Nat) : Fld := ⟨0x80040 + 0x1000 * n, 16, 8⟩
def R.FCH_DET_PK_VALUE (n : Nat) : Fld := ⟨0x80040 + 0x1000 * n, 0, 16⟩
def R.FCH_DET_RMS (n : Nat) : Fld := ⟨0x80044 + 0x1000 * n, 0, 32⟩
def R.FCH_DET_RMS_PART (n : Nat) : Fld := ⟨0x80044 + 0x1000 * n, 24, 1⟩
def R.FCH_DET_RMS_SEQ (n : Nat) : Fld := ⟨0x80044 + 0x1000 * n, 16, 8⟩
def R.FCH_DET_RMS_VALUE (n : Nat) : Fld := ⟨0x80044 + 0x1000 * n, 0, 16⟩
def R.FCH_DET_ENV (n : Nat) : Fld := ⟨0x80048 + 0x1000 * n, 0, 32⟩
def R.FCH_DET_ENV_PART (n : Nat) : Fld := ⟨0x80048 + 0x1000 * n, 24, 1⟩
def R.FCH_DET_ENV_SEQ (n : Nat) : Fld := ⟨0x80048 + 0x1000 * n, 16, 8⟩
def R.FCH_DET_ENV_VALUE (n : Nat) : Fld := ⟨0x80048 + 0x1000 * n, 0, 16⟩
def R.FCH_SRC (n : Nat) : Fld := ⟨0x80100 + 0x1000 * n, 0, 32⟩
def R.FCH_SRC_SRC (n : Nat) : Fld := ⟨0x80100 + 0x1000 * n, 0, 4⟩
def R.FCH_FTW (n : Nat) : Fld := ⟨0x80108 + 0x1000 * n, 0, 64⟩
def R.FCH_FTW_FTW (n : Nat) : Fld := ⟨0x80108 + 0x1000 * n, 0, 48⟩
def R.FCH_NCO (n : Nat) : Fld := ⟨0x80110 + 0x1000 * n, 0, 32⟩
def R.FCH_NCO_POFS (n : Nat) : Fld := ⟨0x80110 + 0x1000 * n, 16, 16⟩
def R.FCH_NCO_INVERT (n : Nat) : Fld := ⟨0x80110 + 0x1000 * n, 1, 1⟩
def R.FCH_NCO_CONT (n : Nat) : Fld := ⟨0x80110 + 0x1000 * n, 0, 1⟩
def R.FCH_DEC (n : Nat) : Fld := ⟨0x80114 + 0x1000 * n, 0, 32⟩
def R.FCH_DEC_MAN (n : Nat) : Fld := ⟨0x80114 + 0x1000 * n, 21, 1⟩
def R.FCH_DEC_D (n : Nat) : Fld := ⟨0x80114 + 0x1000 * n, 0, 21⟩
def R.FCH_MN (n : Nat) : Fld := ⟨0x80118 + 0x1000 * n, 0, 32⟩
def R.FCH_MN_N_MAN (n : Nat) : Fld := ⟨0x80118 + 0x1000 * n, 20, 5⟩
def R.FCH_MN_M_MAN (n : Nat) : Fld := ⟨0x80118 + 0x1000 * n, 0, 17⟩
def R.FCH_FIR (n : Nat) : Fld := ⟨0x8011C + 0x1000 * n, 0, 32⟩
def R.FCH_FIR_GD_COMP (n : Nat) : Fld := ⟨0x8011C + 0x1000 * n, 11, 1⟩
def R.FCH_FIR_MIN (n : Nat) : Fld := ⟨0x8011C + 0x1000 * n, 10, 1⟩
def R.FCH_FIR_TAPS (n : Nat) : Fld := ⟨0x8011C + 0x1000 * n, 0, 10⟩
def R.FCH_GAIN (n : Nat) : Fld := ⟨0x80120 + 0x1000 * n, 0, 32⟩
def R.FCH_GAIN_GAIN (n : Nat) : Fld := ⟨0x80120 + 0x1000 * n, 0, 16⟩
def R.FCH_DETCFG (n : Nat) : Fld := ⟨0x80124 + 0x1000 * n, 0, 32⟩
def R.FCH_DETCFG_DEC_A (n : Nat) : Fld := ⟨0x80124 + 0x1000 * n, 20, 4⟩
def R.FCH_DETCFG_ATT_A (n : Nat) : Fld := ⟨0x80124 + 0x1000 * n, 16, 4⟩
def R.FCH_DETCFG_RMS_K (n : Nat) : Fld := ⟨0x80124 + 0x1000 * n, 8, 5⟩
def R.FCH_DETCFG_PK_K (n : Nat) : Fld := ⟨0x80124 + 0x1000 * n, 0, 5⟩
def R.FCH_PB_BASE (n : Nat) : Fld := ⟨0x80128 + 0x1000 * n, 0, 64⟩
def R.FCH_PB_BASE_ADDR (n : Nat) : Fld := ⟨0x80128 + 0x1000 * n, 0, 35⟩
def R.FCH_PB_LEN (n : Nat) : Fld := ⟨0x80130 + 0x1000 * n, 0, 64⟩
def R.FCH_PB_LEN_LEN (n : Nat) : Fld := ⟨0x80130 + 0x1000 * n, 0, 35⟩
def R.FCH_COEF (n : Nat) (i : Nat) : Fld := ⟨0x80400 + 0x1000 * n + 0x4 * i, 0, 32⟩
def R.FCH_COEF_H (n : Nat) (i : Nat) : Fld := ⟨0x80400 + 0x1000 * n + 0x4 * i, 0, 18⟩
def R.FAB_CTRL : Fld := ⟨0x180000, 0, 32⟩
def R.FAB_CTRL_STEAL_MIN : Fld := ⟨0x180000, 8, 5⟩
def R.FAB_CTRL_STEAL_RADIUS : Fld := ⟨0x180000, 0, 5⟩
def R.FAB_G_BUDGET : Fld := ⟨0x180004, 0, 32⟩
def R.FAB_G_BUDGET_BUDGET : Fld := ⟨0x180004, 0, 16⟩
def R.FAB_LATE_LIMIT : Fld := ⟨0x180008, 0, 32⟩
def R.FAB_LATE_LIMIT_LIMIT : Fld := ⟨0x180008, 0, 16⟩
def R.FAB_RACK_HWM : Fld := ⟨0x18000C, 0, 32⟩
def R.FAB_RACK_HWM_HWM : Fld := ⟨0x18000C, 0, 8⟩
def R.FAB_STATUS : Fld := ⟨0x180010, 0, 32⟩
def R.FAB_STATUS_THROTTLE : Fld := ⟨0x180010, 4, 2⟩
def R.FAB_STATUS_G_LOST : Fld := ⟨0x180010, 2, 1⟩
def R.FAB_STATUS_LIMIT_REFUSED : Fld := ⟨0x180010, 0, 1⟩
def R.FAB_CAPACITY : Fld := ⟨0x180018, 0, 64⟩
def R.FAB_G_LOAD : Fld := ⟨0x180020, 0, 64⟩
def R.FAB_E_LOAD : Fld := ⟨0x180028, 0, 64⟩
def R.FAB_B_LOAD : Fld := ⟨0x180030, 0, 64⟩
def R.FAB_FC : Fld := ⟨0x180038, 0, 64⟩
def R.FAB_FAULT : Fld := ⟨0x180040, 0, 32⟩
def R.FAB_FAULT_CAUSE : Fld := ⟨0x180040, 24, 4⟩
def R.FAB_FAULT_FORGE : Fld := ⟨0x180040, 16, 5⟩
def R.FAB_FAULT_CONTEXT : Fld := ⟨0x180040, 0, 12⟩
def R.FAB_FAULT_COUNT : Fld := ⟨0x180044, 0, 32⟩
def R.FRG_STATUS (n : Nat) : Fld := ⟨0x100000 + 0x4000 * n, 0, 32⟩
def R.FRG_STATUS_ABOVE_HWM (n : Nat) : Fld := ⟨0x100000 + 0x4000 * n, 24, 1⟩
def R.FRG_STATUS_PINNED (n : Nat) : Fld := ⟨0x100000 + 0x4000 * n, 16, 4⟩
def R.FRG_STATUS_STATE (n : Nat) : Fld := ⟨0x100000 + 0x4000 * n, 12, 2⟩
def R.FRG_STATUS_LEVEL (n : Nat) : Fld := ⟨0x100000 + 0x4000 * n, 0, 9⟩
def R.FRG_G_HOME (n : Nat) : Fld := ⟨0x100008 + 0x4000 * n, 0, 64⟩
def R.FRG_HEARTH_FREE (n : Nat) : Fld := ⟨0x100010 + 0x4000 * n, 0, 32⟩
def R.FRG_HEARTH_FREE_BYTES (n : Nat) : Fld := ⟨0x100010 + 0x4000 * n, 0, 23⟩
def R.FRG_BILLETS (n : Nat) : Fld := ⟨0x100018 + 0x4000 * n, 0, 64⟩
def R.FRG_STOLEN (n : Nat) : Fld := ⟨0x100020 + 0x4000 * n, 0, 64⟩
def R.FRG_LOST (n : Nat) : Fld := ⟨0x100028 + 0x4000 * n, 0, 64⟩
def R.FRG_ABANDON (n : Nat) : Fld := ⟨0x100030 + 0x4000 * n, 0, 32⟩
def R.FRG_PIN_OVR (n : Nat) : Fld := ⟨0x100034 + 0x4000 * n, 0, 32⟩
def R.FRG_RACK (n : Nat) (i : Nat) : Fld := ⟨0x102000 + 0x4000 * n + 0x20 * i, 0, 256⟩
def R.FAB_REP_LIMIT : Fld := ⟨0x180048, 0, 32⟩
def R.FAB_REP_LIMIT_B_LOG2 : Fld := ⟨0x180048, 16, 5⟩
def R.FAB_REP_LIMIT_E_LOG2 : Fld := ⟨0x180048, 8, 5⟩
def R.FAB_REP_LIMIT_G_LOG2 : Fld := ⟨0x180048, 0, 5⟩
def R.FRG_MC_STATUS (n : Nat) : Fld := ⟨0x100400 + 0x4000 * n, 0, 32⟩
def R.FRG_MC_STATUS_COUNT (n : Nat) : Fld := ⟨0x100400 + 0x4000 * n, 24, 8⟩
def R.FRG_MC_STATUS_RELOAD_FAIL (n : Nat) : Fld := ⟨0x100400 + 0x4000 * n, 10, 1⟩
def R.FRG_MC_STATUS_QUARANTINE (n : Nat) : Fld := ⟨0x100400 + 0x4000 * n, 9, 1⟩
def R.FRG_MC_STATUS_RELOADING (n : Nat) : Fld := ⟨0x100400 + 0x4000 * n, 8, 1⟩
def R.FRG_MC_STATUS_LAST_ANVIL (n : Nat) : Fld := ⟨0x100400 + 0x4000 * n, 0, 5⟩
def R.FRG_MC_LOG (n : Nat) : Fld := ⟨0x100410 + 0x4000 * n, 0, 256⟩
def R.FRG_MC_LOG_ANVIL (n : Nat) : Fld := ⟨0x100410 + 0x4000 * n, 0, 5⟩
def R.FRG_MC_LOG_FORGE (n : Nat) : Fld := ⟨0x100410 + 0x4000 * n, 5, 5⟩
def R.FRG_MC_LOG_KIND (n : Nat) : Fld := ⟨0x100410 + 0x4000 * n, 10, 2⟩
def R.FRG_MC_LOG_UADDR (n : Nat) : Fld := ⟨0x100410 + 0x4000 * n, 12, 13⟩
def R.FRG_MC_LOG_OPCODE (n : Nat) : Fld := ⟨0x100410 + 0x4000 * n, 32, 8⟩
def R.FRG_MC_LOG_PC (n : Nat) : Fld := ⟨0x100410 + 0x4000 * n, 40, 14⟩
def R.FRG_MC_LOG_CONTEXT (n : Nat) : Fld := ⟨0x100410 + 0x4000 * n, 64, 12⟩
def R.FRG_MC_LOG_HOME (n : Nat) : Fld := ⟨0x100410 + 0x4000 * n, 76, 5⟩
def R.FRG_MC_LOG_STOLEN (n : Nat) : Fld := ⟨0x100410 + 0x4000 * n, 81, 1⟩
def R.FRG_MC_LOG_SEQ (n : Nat) : Fld := ⟨0x100410 + 0x4000 * n, 96, 32⟩
def R.FRG_MC_LOG_PTIME (n : Nat) : Fld := ⟨0x100410 + 0x4000 * n, 128, 128⟩
def R.FRG_KFAULT (n : Nat) : Fld := ⟨0x100440 + 0x4000 * n, 0, 128⟩
def R.FRG_KFAULT_CAUSE (n : Nat) : Fld := ⟨0x100440 + 0x4000 * n, 0, 4⟩
def R.FRG_KFAULT_ANVIL (n : Nat) : Fld := ⟨0x100440 + 0x4000 * n, 4, 5⟩
def R.FRG_KFAULT_PC (n : Nat) : Fld := ⟨0x100440 + 0x4000 * n, 9, 14⟩
def R.FRG_KFAULT_CONTEXT (n : Nat) : Fld := ⟨0x100440 + 0x4000 * n, 32, 12⟩
def R.FRG_KFAULT_SEQ (n : Nat) : Fld := ⟨0x100440 + 0x4000 * n, 64, 32⟩
def R.FRG_KFAULT_DETAIL (n : Nat) : Fld := ⟨0x100440 + 0x4000 * n, 96, 32⟩
def R.FRG_KF_COUNT (n : Nat) : Fld := ⟨0x100450 + 0x4000 * n, 0, 32⟩
def R.FRG_DBG_HALT (n : Nat) : Fld := ⟨0x100500 + 0x4000 * n, 0, 32⟩
def R.FRG_DBG_HALTED (n : Nat) : Fld := ⟨0x100504 + 0x4000 * n, 0, 32⟩
def R.FRG_DBG_RELEASE (n : Nat) : Fld := ⟨0x100508 + 0x4000 * n, 0, 32⟩
def R.FRG_DBG_BRK_EN (n : Nat) : Fld := ⟨0x10050C + 0x4000 * n, 0, 32⟩
def R.FRG_DBG_STATUS (n : Nat) : Fld := ⟨0x100510 + 0x4000 * n, 0, 32⟩
def R.FRG_DBG_STATUS_RESULT (n : Nat) : Fld := ⟨0x100510 + 0x4000 * n, 8, 8⟩
def R.FRG_DBG_SEL (n : Nat) : Fld := ⟨0x100514 + 0x4000 * n, 0, 32⟩
def R.FRG_DBG_SEL_ANVIL (n : Nat) : Fld := ⟨0x100514 + 0x4000 * n, 0, 5⟩
def R.FRG_DBG_REG (n : Nat) (i : Nat) : Fld := ⟨0x100600 + 0x4000 * n + 0x4 * i, 0, 32⟩
def R.FRG_DBG_SADDR (n : Nat) : Fld := ⟨0x100A00 + 0x4000 * n, 0, 32⟩
def R.FRG_DBG_SADDR_ADDR (n : Nat) : Fld := ⟨0x100A00 + 0x4000 * n, 2, 14⟩
def R.FRG_DBG_SDATA (n : Nat) : Fld := ⟨0x100A04 + 0x4000 * n, 0, 32⟩
def R.FRG_CS_ADDR (n : Nat) : Fld := ⟨0x100B00 + 0x4000 * n, 0, 32⟩
def R.FRG_CS_ADDR_ADDR (n : Nat) : Fld := ⟨0x100B00 + 0x4000 * n, 0, 13⟩
def R.FRG_CS_DATA (n : Nat) : Fld := ⟨0x100B08 + 0x4000 * n, 0, 64⟩
def R.FRG_CS_DATA_WORD (n : Nat) : Fld := ⟨0x100B08 + 0x4000 * n, 0, 41⟩
def R.FRG_DT_ADDR (n : Nat) : Fld := ⟨0x100B10 + 0x4000 * n, 0, 32⟩
def R.FRG_DT_ADDR_ADDR (n : Nat) : Fld := ⟨0x100B10 + 0x4000 * n, 0, 8⟩
def R.FRG_DT_DATA (n : Nat) : Fld := ⟨0x100B14 + 0x4000 * n, 0, 32⟩
def R.FRG_DT_DATA_ENTRY (n : Nat) : Fld := ⟨0x100B14 + 0x4000 * n, 0, 16⟩
def R.FRG_KS_ADDR (n : Nat) : Fld := ⟨0x100B18 + 0x4000 * n, 0, 32⟩
def R.FRG_KS_ADDR_ADDR (n : Nat) : Fld := ⟨0x100B18 + 0x4000 * n, 0, 14⟩
def R.FRG_KS_DATA (n : Nat) : Fld := ⟨0x100B1C + 0x4000 * n, 0, 32⟩
def R.FRG_UCODE_ID (n : Nat) : Fld := ⟨0x100B20 + 0x4000 * n, 0, 32⟩
def R.FRG_KDIR (n : Nat) (i : Nat) : Fld := ⟨0x100C00 + 0x4000 * n + 0x4 * i, 0, 32⟩
def R.FRG_KDIR_VALID (n : Nat) (i : Nat) : Fld := ⟨0x100C00 + 0x4000 * n + 0x4 * i, 31, 1⟩
def R.FRG_KDIR_LEN (n : Nat) (i : Nat) : Fld := ⟨0x100C00 + 0x4000 * n + 0x4 * i, 14, 15⟩
def R.FRG_KDIR_BASE (n : Nat) (i : Nat) : Fld := ⟨0x100C00 + 0x4000 * n + 0x4 * i, 0, 14⟩
def R.CTX_SRC (n : Nat) : Fld := ⟨0x200000 + 0x200 * n, 0, 32⟩
def R.CTX_SRC_SRC_CHAIN (n : Nat) : Fld := ⟨0x200000 + 0x200 * n, 0, 4⟩
def R.CTX_SRC_CLASS (n : Nat) : Fld := ⟨0x200000 + 0x200 * n, 8, 2⟩
def R.CTX_SRC_PIN (n : Nat) : Fld := ⟨0x200000 + 0x200 * n, 10, 1⟩
def R.CTX_SRC_HOME_SET (n : Nat) : Fld := ⟨0x200000 + 0x200 * n, 11, 1⟩
def R.CTX_SRC_HOME (n : Nat) : Fld := ⟨0x200000 + 0x200 * n, 12, 5⟩
def R.CTX_SRC_START_AT (n : Nat) : Fld := ⟨0x200000 + 0x200 * n, 18, 1⟩
def R.CTX_SRC_LT_CM (n : Nat) : Fld := ⟨0x200000 + 0x200 * n, 20, 1⟩
def R.CTX_SRC_LT_GROUPS (n : Nat) : Fld := ⟨0x200000 + 0x200 * n, 24, 6⟩
def R.CTX_WIN (n : Nat) : Fld := ⟨0x200004 + 0x200 * n, 0, 32⟩
def R.CTX_WIN_LOG2L (n : Nat) : Fld := ⟨0x200004 + 0x200 * n, 0, 5⟩
def R.CTX_WIN_WINDOW (n : Nat) : Fld := ⟨0x200004 + 0x200 * n, 8, 4⟩
def R.CTX_WIN_WPARAM (n : Nat) : Fld := ⟨0x200004 + 0x200 * n, 16, 16⟩
def R.CTX_HOP (n : Nat) : Fld := ⟨0x200008 + 0x200 * n, 0, 32⟩
def R.CTX_HOP_HOP (n : Nat) : Fld := ⟨0x200008 + 0x200 * n, 0, 21⟩
def R.CTX_HOP_OVL (n : Nat) : Fld := ⟨0x200008 + 0x200 * n, 29, 2⟩
def R.CTX_HOP_OVL_MODE (n : Nat) : Fld := ⟨0x200008 + 0x200 * n, 31, 1⟩
def R.CTX_DEADLINE (n : Nat) : Fld := ⟨0x20000C + 0x200 * n, 0, 32⟩
def R.CTX_DEADLINE_DEADLINE (n : Nat) : Fld := ⟨0x20000C + 0x200 * n, 0, 31⟩
def R.CTX_RING (n : Nat) : Fld := ⟨0x200010 + 0x200 * n, 0, 32⟩
def R.CTX_RING_RING_DEPTH (n : Nat) : Fld := ⟨0x200010 + 0x200 * n, 0, 16⟩
def R.CTX_PIN (n : Nat) : Fld := ⟨0x200014 + 0x200 * n, 0, 32⟩
def R.CTX_PIN_PIN_STRIDE (n : Nat) : Fld := ⟨0x200014 + 0x200 * n, 0, 17⟩
def R.CTX_REP (n : Nat) : Fld := ⟨0x200018 + 0x200 * n, 0, 32⟩
def R.CTX_REP_REP_LIMIT (n : Nat) : Fld := ⟨0x200018 + 0x200 * n, 0, 17⟩
def R.CTX_IMAGE (n : Nat) : Fld := ⟨0x20001C + 0x200 * n, 0, 32⟩
def R.CTX_ENTRY (n : Nat) : Fld := ⟨0x200020 + 0x200 * n, 0, 32⟩
def R.CTX_ENTRY_ENTRY (n : Nat) : Fld := ⟨0x200020 + 0x200 * n, 0, 4⟩
def R.CTX_KARG (n : Nat) : Fld := ⟨0x200024 + 0x200 * n, 0, 32⟩
def R.CTX_PRODUCTS (n : Nat) : Fld := ⟨0x200028 + 0x200 * n, 0, 32⟩
def R.CTX_PRODUCTS_PRODUCTS (n : Nat) : Fld := ⟨0x200028 + 0x200 * n, 0, 16⟩
def R.CTX_IQ (n : Nat) : Fld := ⟨0x20002C + 0x200 * n, 0, 32⟩
def R.CTX_IQ_IQ_BLOCK (n : Nat) : Fld := ⟨0x20002C + 0x200 * n, 0, 14⟩
def R.CTX_SPEC (n : Nat) : Fld := ⟨0x200030 + 0x200 * n, 0, 32⟩
def R.CTX_SPEC_SPEC_DET (n : Nat) : Fld := ⟨0x200030 + 0x200 * n, 0, 2⟩
def R.CTX_SPEC_SPEC_DB (n : Nat) : Fld := ⟨0x200030 + 0x200 * n, 2, 1⟩
def R.CTX_SPEC_AVG (n : Nat) : Fld := ⟨0x200030 + 0x200 * n, 3, 2⟩
def R.CTX_SPEC_BINS_LOG2 (n : Nat) : Fld := ⟨0x200030 + 0x200 * n, 8, 4⟩
def R.CTX_SPEC_SPEC_SH (n : Nat) : Fld := ⟨0x200030 + 0x200 * n, 16, 6⟩
def R.CTX_AVGN (n : Nat) : Fld := ⟨0x200034 + 0x200 * n, 0, 32⟩
def R.CTX_AVGN_AVG_N (n : Nat) : Fld := ⟨0x200034 + 0x200 * n, 0, 21⟩
def R.CTX_EMIT (n : Nat) : Fld := ⟨0x200038 + 0x200 * n, 0, 32⟩
def R.CTX_EMIT_EMIT (n : Nat) : Fld := ⟨0x200038 + 0x200 * n, 0, 24⟩
def R.CTX_SG (n : Nat) : Fld := ⟨0x20003C + 0x200 * n, 0, 32⟩
def R.CTX_SG_SG_DEC (n : Nat) : Fld := ⟨0x20003C + 0x200 * n, 0, 16⟩
def R.CTX_COLF (n : Nat) : Fld := ⟨0x200040 + 0x200 * n, 0, 32⟩
def R.CTX_COLF_COL_FIRST (n : Nat) : Fld := ⟨0x200040 + 0x200 * n, 0, 20⟩
def R.CTX_COLS (n : Nat) : Fld := ⟨0x200044 + 0x200 * n, 0, 32⟩
def R.CTX_DECAY (n : Nat) : Fld := ⟨0x200048 + 0x200 * n, 0, 32⟩
def R.CTX_DECAY_DECAY_SH (n : Nat) : Fld := ⟨0x200048 + 0x200 * n, 16, 5⟩
def R.CTX_DECAY_DECAY_K (n : Nat) : Fld := ⟨0x200048 + 0x200 * n, 0, 16⟩
def R.CTX_DENS (n : Nat) : Fld := ⟨0x20004C + 0x200 * n, 0, 32⟩
def R.CTX_DENS_DENS_EMIT (n : Nat) : Fld := ⟨0x20004C + 0x200 * n, 0, 24⟩
def R.CTX_LEVEL (n : Nat) : Fld := ⟨0x200050 + 0x200 * n, 0, 32⟩
def R.CTX_LEVEL_STEP (n : Nat) : Fld := ⟨0x200050 + 0x200 * n, 16, 16⟩
def R.CTX_LEVEL_REF (n : Nat) : Fld := ⟨0x200050 + 0x200 * n, 0, 16⟩
def R.CTX_MASK (n : Nat) : Fld := ⟨0x200054 + 0x200 * n, 0, 32⟩
def R.CTX_MASK_MASK_ALL (n : Nat) : Fld := ⟨0x200054 + 0x200 * n, 0, 1⟩
def R.CTX_BAND (n : Nat) (i : Nat) : Fld := ⟨0x200058 + 0x200 * n + 0x4 * i, 0, 32⟩
def R.CTX_BAND_B (n : Nat) (i : Nat) : Fld := ⟨0x200058 + 0x200 * n + 0x4 * i, 0, 20⟩
def R.CTX_CH (n : Nat) (i : Nat) : Fld := ⟨0x200060 + 0x200 * n + 0x4 * i, 0, 32⟩
def R.CTX_CH_B (n : Nat) (i : Nat) : Fld := ⟨0x200060 + 0x200 * n + 0x4 * i, 0, 20⟩
def R.CTX_DET (n : Nat) : Fld := ⟨0x200068 + 0x200 * n, 0, 32⟩
def R.CTX_DET_DET_EN (n : Nat) : Fld := ⟨0x200068 + 0x200 * n, 0, 3⟩
def R.CTX_SYNTH (n : Nat) : Fld := ⟨0x20006C + 0x200 * n, 0, 32⟩
def R.CTX_SYNTH_MON_SQ (n : Nat) : Fld := ⟨0x20006C + 0x200 * n, 8, 5⟩
def R.CTX_SYNTH_SYNTH_MON (n : Nat) : Fld := ⟨0x20006C + 0x200 * n, 2, 1⟩
def R.CTX_SYNTH_SYNTH_OUT (n : Nat) : Fld := ⟨0x20006C + 0x200 * n, 0, 2⟩
def R.CTX_RASTER (n : Nat) : Fld := ⟨0x200070 + 0x200 * n, 0, 32⟩
def R.CTX_RASTER_REGION (n : Nat) : Fld := ⟨0x200070 + 0x200 * n, 8, 8⟩
def R.CTX_RASTER_COMPOSER (n : Nat) : Fld := ⟨0x200070 + 0x200 * n, 0, 8⟩
def R.CTX_ROUTE (n : Nat) (i : Nat) : Fld := ⟨0x200080 + 0x200 * n + 0x4 * i, 0, 32⟩
def R.CTX_ROUTE_TARGET (n : Nat) (i : Nat) : Fld := ⟨0x200080 + 0x200 * n + 0x4 * i, 8, 8⟩
def R.CTX_ROUTE_KIND (n : Nat) (i : Nat) : Fld := ⟨0x200080 + 0x200 * n + 0x4 * i, 0, 3⟩
def R.CTX_CM (n : Nat) (i : Nat) : Fld := ⟨0x2000C0 + 0x200 * n + 0x8 * i, 0, 64⟩
def R.CTX_CM_V (n : Nat) (i : Nat) : Fld := ⟨0x2000C0 + 0x200 * n + 0x8 * i, 0, 35⟩
def R.CTX_LT (n : Nat) (i : Nat) : Fld := ⟨0x2000D0 + 0x200 * n + 0x8 * i, 0, 64⟩
def R.CTX_LT_V (n : Nat) (i : Nat) : Fld := ⟨0x2000D0 + 0x200 * n + 0x8 * i, 0, 35⟩
def R.CTX_START_PTIME (n : Nat) (i : Nat) : Fld := ⟨0x2000E0 + 0x200 * n + 0x4 * i, 0, 32⟩
def R.CTX_STATE (n : Nat) : Fld := ⟨0x200100 + 0x200 * n, 0, 32⟩
def R.CTX_STATE_FAULT_CAUSE (n : Nat) : Fld := ⟨0x200100 + 0x200 * n, 16, 4⟩
def R.CTX_STATE_RESULT (n : Nat) : Fld := ⟨0x200100 + 0x200 * n, 8, 8⟩
def R.CTX_STATE_MOD_PEND (n : Nat) : Fld := ⟨0x200100 + 0x200 * n, 5, 1⟩
def R.CTX_STATE_GAPLESS (n : Nat) : Fld := ⟨0x200100 + 0x200 * n, 4, 1⟩
def R.CTX_STATE_CFG_BUSY (n : Nat) : Fld := ⟨0x200100 + 0x200 * n, 3, 1⟩
def R.CTX_STATE_STATE (n : Nat) : Fld := ⟨0x200100 + 0x200 * n, 0, 3⟩
def R.CTX_ACT (n : Nat) : Fld := ⟨0x200104 + 0x200 * n, 0, 32⟩
def R.CTX_ACT_PIN_ANVIL (n : Nat) : Fld := ⟨0x200104 + 0x200 * n, 24, 5⟩
def R.CTX_ACT_HOME_ACT (n : Nat) : Fld := ⟨0x200104 + 0x200 * n, 16, 5⟩
def R.CTX_ACT_CX_EPOCH (n : Nat) : Fld := ⟨0x200104 + 0x200 * n, 0, 16⟩
def R.CTX_HOPACT (n : Nat) : Fld := ⟨0x200108 + 0x200 * n, 0, 32⟩
def R.CTX_HOPACT_HOP_ACT (n : Nat) : Fld := ⟨0x200108 + 0x200 * n, 0, 21⟩
def R.CTX_WIN_CG (n : Nat) : Fld := ⟨0x20010C + 0x200 * n, 0, 32⟩
def R.CTX_WIN_ENBW (n : Nat) : Fld := ⟨0x200110 + 0x200 * n, 0, 32⟩
def R.CTX_NEXT_SEQ (n : Nat) : Fld := ⟨0x200114 + 0x200 * n, 0, 32⟩
def R.CTX_COMPLETED (n : Nat) : Fld := ⟨0x200118 + 0x200 * n, 0, 64⟩
def R.CTX_LATE (n : Nat) : Fld := ⟨0x200120 + 0x200 * n, 0, 64⟩
def R.CTX_SHED (n : Nat) : Fld := ⟨0x200128 + 0x200 * n, 0, 64⟩
def R.CTX_CYCLES (n : Nat) : Fld := ⟨0x200130 + 0x200 * n, 0, 64⟩
def R.CTX_RECORDS (n : Nat) : Fld := ⟨0x200138 + 0x200 * n, 0, 64⟩
def R.CTX_DROPPED (n : Nat) : Fld := ⟨0x200140 + 0x200 * n, 0, 64⟩
def R.CTX_LOAD (n : Nat) : Fld := ⟨0x200148 + 0x200 * n, 0, 64⟩
def R.CTX_WITHDRAWN (n : Nat) : Fld := ⟨0x200150 + 0x200 * n, 0, 32⟩
def R.TRG_CTRL : Fld := ⟨0x400000, 0, 32⟩
def R.TRG_CTRL_CANCEL : Fld := ⟨0x400000, 3, 1⟩
def R.TRG_CTRL_AT_PTIME : Fld := ⟨0x400000, 2, 1⟩
def R.TRG_CTRL_COMMIT : Fld := ⟨0x400000, 1, 1⟩
def R.TRG_STATUS : Fld := ⟨0x400004, 0, 32⟩
def R.TRG_STATUS_RESULT : Fld := ⟨0x400004, 8, 8⟩
def R.TRG_STATUS_EVT_OVF : Fld := ⟨0x400004, 5, 1⟩
def R.TRG_STATUS_ALIGN_LATE : Fld := ⟨0x400004, 4, 1⟩
def R.TRG_STATUS_SHADOW_BUSY : Fld := ⟨0x400004, 3, 1⟩
def R.TRG_STATUS_LATE_HO : Fld := ⟨0x400004, 2, 1⟩
def R.TRG_STATUS_PENDING : Fld := ⟨0x400004, 0, 1⟩
def R.TRG_EPOCH : Fld := ⟨0x400008, 0, 32⟩
def R.TRG_EPOCH_EPOCH : Fld := ⟨0x400008, 0, 16⟩
def R.TRG_HO_PTIME (n : Nat) : Fld := ⟨0x400010 + 0x4 * n, 0, 32⟩
def R.TRG_LATE_EVENTS : Fld := ⟨0x400020, 0, 32⟩
def R.TRGIN_CFG (n : Nat) : Fld := ⟨0x400040 + 0x4 * n, 0, 32⟩
def R.TRGIN_CFG_POL (n : Nat) : Fld := ⟨0x400040 + 0x4 * n, 0, 1⟩
def R.TRGOUT_CFG (n : Nat) : Fld := ⟨0x400050 + 0x4 * n, 0, 32⟩
def R.TRGOUT_CFG_WIDTH (n : Nat) : Fld := ⟨0x400050 + 0x4 * n, 8, 16⟩
def R.TRGOUT_CFG_POL (n : Nat) : Fld := ⟨0x400050 + 0x4 * n, 6, 1⟩
def R.TRGOUT_CFG_SEL (n : Nat) : Fld := ⟨0x400050 + 0x4 * n, 0, 6⟩
def R.TRG_ALIGN : Fld := ⟨0x400100, 0, 32⟩
def R.TRG_ALIGN_NS : Fld := ⟨0x400100, 0, 20⟩
def R.TRG_SRC (n : Nat) : Fld := ⟨0x401000 + 0x40 * n, 0, 32⟩
def R.TRG_SRC_EN (n : Nat) : Fld := ⟨0x401000 + 0x40 * n, 31, 1⟩
def R.TRG_SRC_DSEL (n : Nat) : Fld := ⟨0x401000 + 0x40 * n, 28, 2⟩
def R.TRG_SRC_CTX (n : Nat) : Fld := ⟨0x401000 + 0x40 * n, 16, 12⟩
def R.TRG_SRC_INDEX (n : Nat) : Fld := ⟨0x401000 + 0x40 * n, 8, 4⟩
def R.TRG_SRC_KIND (n : Nat) : Fld := ⟨0x401000 + 0x40 * n, 0, 4⟩
def R.TRG_LEVEL (n : Nat) : Fld := ⟨0x401004 + 0x40 * n, 0, 32⟩
def R.TRG_LEVEL_HYST (n : Nat) : Fld := ⟨0x401004 + 0x40 * n, 16, 16⟩
def R.TRG_LEVEL_LEVEL (n : Nat) : Fld := ⟨0x401004 + 0x40 * n, 0, 16⟩
def R.TRG_EDGE (n : Nat) : Fld := ⟨0x401008 + 0x40 * n, 0, 32⟩
def R.TRG_EDGE_PW_MODE (n : Nat) : Fld := ⟨0x401008 + 0x40 * n, 4, 1⟩
def R.TRG_EDGE_PW_EN (n : Nat) : Fld := ⟨0x401008 + 0x40 * n, 3, 1⟩
def R.TRG_EDGE_SLOPE (n : Nat) : Fld := ⟨0x401008 + 0x40 * n, 0, 2⟩
def R.TRG_HOLDOFF (n : Nat) : Fld := ⟨0x40100C + 0x40 * n, 0, 32⟩
def R.TRG_PW_MIN (n : Nat) : Fld := ⟨0x401010 + 0x40 * n, 0, 32⟩
def R.TRG_PW_MAX (n : Nat) : Fld := ⟨0x401014 + 0x40 * n, 0, 32⟩
def R.TRM_MEMBERS (n : Nat) : Fld := ⟨0x402000 + 0x20 * n, 0, 32⟩
def R.TRM_CFG (n : Nat) : Fld := ⟨0x402004 + 0x20 * n, 0, 32⟩
def R.TRM_CFG_EN (n : Nat) : Fld := ⟨0x402004 + 0x20 * n, 31, 1⟩
def R.TRM_CFG_REF_EN (n : Nat) : Fld := ⟨0x402004 + 0x20 * n, 21, 1⟩
def R.TRM_CFG_REF_UNIT (n : Nat) : Fld := ⟨0x402004 + 0x20 * n, 16, 5⟩
def R.TRM_CFG_K (n : Nat) : Fld := ⟨0x402004 + 0x20 * n, 8, 6⟩
def R.TRM_CFG_OP (n : Nat) : Fld := ⟨0x402004 + 0x20 * n, 0, 2⟩
def R.TRM_W (n : Nat) : Fld := ⟨0x402008 + 0x20 * n, 0, 32⟩
def R.TRM_W_W (n : Nat) : Fld := ⟨0x402008 + 0x20 * n, 0, 24⟩
def R.TRG_EVENTS (n : Nat) : Fld := ⟨0x403000 + 0x20 * n, 0, 32⟩
def R.TRG_MERGED (n : Nat) : Fld := ⟨0x403004 + 0x20 * n, 0, 32⟩
def R.TRG_OVERFLOW (n : Nat) : Fld := ⟨0x403008 + 0x20 * n, 0, 32⟩
def R.TRG_LAST_FRAC (n : Nat) : Fld := ⟨0x40300C + 0x20 * n, 0, 32⟩
def R.TRG_LAST_FRAC_FRAC (n : Nat) : Fld := ⟨0x40300C + 0x20 * n, 0, 8⟩
def R.TRG_LAST (n : Nat) : Fld := ⟨0x403010 + 0x20 * n, 0, 64⟩
def R.TRM_FIRES (n : Nat) : Fld := ⟨0x403800 + 0x10 * n, 0, 32⟩
def R.TRM_LAST (n : Nat) : Fld := ⟨0x403808 + 0x10 * n, 0, 64⟩
def R.ACQ_CTRL (n : Nat) : Fld := ⟨0x410000 + 0x100 * n, 0, 32⟩
def R.ACQ_CTRL_STOP (n : Nat) : Fld := ⟨0x410000 + 0x100 * n, 1, 1⟩
def R.ACQ_CTRL_ARM (n : Nat) : Fld := ⟨0x410000 + 0x100 * n, 0, 1⟩
def R.ACQ_STATUS (n : Nat) : Fld := ⟨0x410004 + 0x100 * n, 0, 32⟩
def R.ACQ_STATUS_SEG (n : Nat) : Fld := ⟨0x410004 + 0x100 * n, 20, 12⟩
def R.ACQ_STATUS_DROPPED (n : Nat) : Fld := ⟨0x410004 + 0x100 * n, 19, 1⟩
def R.ACQ_STATUS_CFG_BUSY (n : Nat) : Fld := ⟨0x410004 + 0x100 * n, 18, 1⟩
def R.ACQ_STATUS_OVERRUN (n : Nat) : Fld := ⟨0x410004 + 0x100 * n, 17, 1⟩
def R.ACQ_STATUS_VIOL (n : Nat) : Fld := ⟨0x410004 + 0x100 * n, 16, 1⟩
def R.ACQ_STATUS_RESULT (n : Nat) : Fld := ⟨0x410004 + 0x100 * n, 8, 8⟩
def R.ACQ_STATUS_STATE (n : Nat) : Fld := ⟨0x410004 + 0x100 * n, 0, 3⟩
def R.ACQ_MODE (n : Nat) : Fld := ⟨0x410008 + 0x100 * n, 0, 32⟩
def R.ACQ_MODE_SQ (n : Nat) : Fld := ⟨0x410008 + 0x100 * n, 24, 5⟩
def R.ACQ_MODE_ROUTE_EN (n : Nat) : Fld := ⟨0x410008 + 0x100 * n, 21, 1⟩
def R.ACQ_MODE_MASK_STOP (n : Nat) : Fld := ⟨0x410008 + 0x100 * n, 20, 1⟩
def R.ACQ_MODE_ENV (n : Nat) : Fld := ⟨0x410008 + 0x100 * n, 17, 3⟩
def R.ACQ_MODE_MASK_EN (n : Nat) : Fld := ⟨0x410008 + 0x100 * n, 16, 1⟩
def R.ACQ_MODE_STREAM (n : Nat) : Fld := ⟨0x410008 + 0x100 * n, 15, 1⟩
def R.ACQ_MODE_PREFILL (n : Nat) : Fld := ⟨0x410008 + 0x100 * n, 14, 1⟩
def R.ACQ_MODE_REARM (n : Nat) : Fld := ⟨0x410008 + 0x100 * n, 12, 2⟩
def R.ACQ_MODE_TERM (n : Nat) : Fld := ⟨0x410008 + 0x100 * n, 8, 4⟩
def R.ACQ_MODE_INDEX (n : Nat) : Fld := ⟨0x410008 + 0x100 * n, 4, 4⟩
def R.ACQ_MODE_KIND (n : Nat) : Fld := ⟨0x410008 + 0x100 * n, 0, 2⟩
def R.ACQ_MMK (n : Nat) : Fld := ⟨0x41000C + 0x100 * n, 0, 32⟩
def R.ACQ_MMK_K (n : Nat) : Fld := ⟨0x41000C + 0x100 * n, 0, 25⟩
def R.ACQ_COUNTS (n : Nat) : Fld := ⟨0x410010 + 0x100 * n, 0, 32⟩
def R.ACQ_COUNTS_SEGS (n : Nat) : Fld := ⟨0x410010 + 0x100 * n, 16, 12⟩
def R.ACQ_COUNTS_AUTO_N (n : Nat) : Fld := ⟨0x410010 + 0x100 * n, 0, 16⟩
def R.ACQ_DRAIN (n : Nat) : Fld := ⟨0x410014 + 0x100 * n, 0, 32⟩
def R.ACQ_DRAIN_KIND (n : Nat) : Fld := ⟨0x410014 + 0x100 * n, 8, 1⟩
def R.ACQ_DRAIN_NUM (n : Nat) : Fld := ⟨0x410014 + 0x100 * n, 0, 6⟩
def R.ACQ_BASE (n : Nat) : Fld := ⟨0x410018 + 0x100 * n, 0, 64⟩
def R.ACQ_BASE_ADDR (n : Nat) : Fld := ⟨0x410018 + 0x100 * n, 0, 35⟩
def R.ACQ_SIZE (n : Nat) : Fld := ⟨0x410020 + 0x100 * n, 0, 64⟩
def R.ACQ_SIZE_LEN (n : Nat) : Fld := ⟨0x410020 + 0x100 * n, 0, 35⟩
def R.ACQ_PRE (n : Nat) : Fld := ⟨0x410028 + 0x100 * n, 0, 64⟩
def R.ACQ_PRE_UNITS (n : Nat) : Fld := ⟨0x410028 + 0x100 * n, 0, 48⟩
def R.ACQ_POST (n : Nat) : Fld := ⟨0x410030 + 0x100 * n, 0, 64⟩
def R.ACQ_POST_UNITS (n : Nat) : Fld := ⟨0x410030 + 0x100 * n, 0, 48⟩
def R.ACQ_ARM_UNIT (n : Nat) : Fld := ⟨0x410038 + 0x100 * n, 0, 64⟩
def R.ACQ_MISSED_REARM (n : Nat) : Fld := ⟨0x410040 + 0x100 * n, 0, 32⟩
def R.ACQ_MISSED_PREFILL (n : Nat) : Fld := ⟨0x410044 + 0x100 * n, 0, 32⟩
def R.ACQ_VIOL_COUNT (n : Nat) : Fld := ⟨0x410048 + 0x100 * n, 0, 32⟩
def R.ACQ_DONE_COUNT (n : Nat) : Fld := ⟨0x41004C + 0x100 * n, 0, 32⟩
def R.ACQ_DROP_COUNT (n : Nat) : Fld := ⟨0x410050 + 0x100 * n, 0, 32⟩
def R.ACQ_LAST (n : Nat) (i : Nat) : Fld := ⟨0x410080 + 0x100 * n + 0x4 * i, 0, 32⟩
def R.ACQ_ENV (n : Nat) (i : Nat) : Fld := ⟨0x420000 + 0x4000 * n + 0x4 * i, 0, 32⟩
def R.ACQ_ENV_UPPER (n : Nat) (i : Nat) : Fld := ⟨0x420000 + 0x4000 * n + 0x4 * i, 16, 16⟩
def R.ACQ_ENV_LOWER (n : Nat) (i : Nat) : Fld := ⟨0x420000 + 0x4000 * n + 0x4 * i, 0, 16⟩
def R.TP_CTRL : Fld := ⟨0x480000, 0, 32⟩
def R.TP_CTRL_ARM_CL : Fld := ⟨0x480000, 2, 1⟩
def R.TP_CTRL_ACC_FIRE : Fld := ⟨0x480000, 1, 1⟩
def R.TP_CTRL_EN : Fld := ⟨0x480000, 0, 1⟩
def R.TP_STATUS : Fld := ⟨0x480004, 0, 32⟩
def R.TP_STATUS_ANS_WR_DROP : Fld := ⟨0x480004, 4, 1⟩
def R.TP_STATUS_ANS_DROP : Fld := ⟨0x480004, 3, 1⟩
def R.TP_STATUS_PRIM_MERGE : Fld := ⟨0x480004, 2, 1⟩
def R.TP_STATUS_BAD_CMD : Fld := ⟨0x480004, 1, 1⟩
def R.TP_STATUS_CLK_OK : Fld := ⟨0x480004, 0, 1⟩
def R.TP_CLK_HZ : Fld := ⟨0x480008, 0, 32⟩
def R.TP_CLK_HZ_HZ : Fld := ⟨0x480008, 0, 27⟩
def R.TP_DEC_LAT : Fld := ⟨0x48000C, 0, 32⟩
def R.TP_DEC_LAT_NS : Fld := ⟨0x48000C, 0, 24⟩
def R.TP_REC : Fld := ⟨0x480010, 0, 32⟩
def R.TP_REC_ROUTE_EN : Fld := ⟨0x480010, 8, 1⟩
def R.TP_REC_SQ : Fld := ⟨0x480010, 0, 5⟩
def R.TP_ARM_SLOTS : Fld := ⟨0x480018, 0, 64⟩
def R.TP_ACCEPTS : Fld := ⟨0x480020, 0, 32⟩
def R.TP_REJECTS : Fld := ⟨0x480024, 0, 32⟩
def R.TP_MARKS : Fld := ⟨0x480028, 0, 32⟩
def R.TP_ARMS : Fld := ⟨0x48002C, 0, 32⟩
def R.TP_BAD_CMDS : Fld := ⟨0x480030, 0, 32⟩
def R.TP_PRIM_MERGED : Fld := ⟨0x480034, 0, 32⟩
def R.TP_ANS_OVERWR : Fld := ⟨0x480038, 0, 32⟩
def R.TP_ANS_DROPS : Fld := ⟨0x48003C, 0, 32⟩
def R.TP_PSEL (n : Nat) : Fld := ⟨0x480040 + 0x4 * n, 0, 32⟩
def R.TP_PSEL_SEL (n : Nat) : Fld := ⟨0x480040 + 0x4 * n, 0, 6⟩
def R.TP_ANS_CFG (n : Nat) : Fld := ⟨0x480100 + 0x8 * n, 0, 32⟩
def R.TP_ANS_CFG_DSEL (n : Nat) : Fld := ⟨0x480100 + 0x8 * n, 12, 2⟩
def R.TP_ANS_CFG_CHAIN (n : Nat) : Fld := ⟨0x480100 + 0x8 * n, 8, 4⟩
def R.TP_ANS_CFG_SRC (n : Nat) : Fld := ⟨0x480100 + 0x8 * n, 0, 2⟩
def R.TP_ANS_VAL (n : Nat) : Fld := ⟨0x480104 + 0x8 * n, 0, 32⟩
def R.TP_ANS_VAL_SEQ (n : Nat) : Fld := ⟨0x480104 + 0x8 * n, 16, 8⟩
def R.TP_ANS_VAL_VALUE (n : Nat) : Fld := ⟨0x480104 + 0x8 * n, 0, 16⟩
def R.CL_CTRL : Fld := ⟨0x4C0000, 0, 32⟩
def R.CL_CTRL_UP_LANE : Fld := ⟨0x4C0000, 4, 4⟩
def R.CL_CTRL_ROLE : Fld := ⟨0x4C0000, 0, 2⟩
def R.CL_STATUS : Fld := ⟨0x4C0004, 0, 32⟩
def R.CL_STATUS_DEV : Fld := ⟨0x4C0004, 16, 16⟩
def R.CL_STATUS_CFG_BUSY : Fld := ⟨0x4C0004, 7, 1⟩
def R.CL_STATUS_CFG_MISS : Fld := ⟨0x4C0004, 6, 1⟩
def R.CL_STATUS_CFG_LATE : Fld := ⟨0x4C0004, 5, 1⟩
def R.CL_STATUS_FIRE_LATE : Fld := ⟨0x4C0004, 4, 1⟩
def R.CL_STATUS_UP_HOLDOVER : Fld := ⟨0x4C0004, 3, 1⟩
def R.CL_STATUS_UP_OK : Fld := ⟨0x4C0004, 2, 1⟩
def R.CL_STATUS_ARMED : Fld := ⟨0x4C0004, 0, 1⟩
def R.CL_LANES : Fld := ⟨0x4C0008, 0, 32⟩
def R.CL_LANES_LANES : Fld := ⟨0x4C0008, 0, 16⟩
def R.CL_HORIZON : Fld := ⟨0x4C000C, 0, 32⟩
def R.CL_HORIZON_NS : Fld := ⟨0x4C000C, 0, 20⟩
def R.CL_HZ_MIN : Fld := ⟨0x4C0010, 0, 32⟩
def R.CL_PATH : Fld := ⟨0x4C0014, 0, 32⟩
def R.CL_FIRE_UNITS : Fld := ⟨0x4C0018, 0, 32⟩
def R.CL_MERGE : Fld := ⟨0x4C001C, 0, 32⟩
def R.CL_MERGE_NS : Fld := ⟨0x4C001C, 0, 16⟩
def R.CL_ARM_SLOTS : Fld := ⟨0x4C0020, 0, 64⟩
def R.CL_ARM_CFG : Fld := ⟨0x4C0028, 0, 32⟩
def R.CL_ARM_CFG_FIRES_MAX : Fld := ⟨0x4C0028, 0, 16⟩
def R.CL_ARM_ID : Fld := ⟨0x4C002C, 0, 32⟩
def R.CL_FIRES_SENT : Fld := ⟨0x4C0030, 0, 32⟩
def R.CL_FIRES_RCVD : Fld := ⟨0x4C0034, 0, 32⟩
def R.CL_MERGED : Fld := ⟨0x4C0038, 0, 32⟩
def R.CL_FIRES_DROPPED : Fld := ⟨0x4C003C, 0, 32⟩
def R.CL_LATE_FIRES : Fld := ⟨0x4C0040, 0, 32⟩
def R.CL_CFG_LATE : Fld := ⟨0x4C0044, 0, 32⟩
def R.CL_FIRE_NUM : Fld := ⟨0x4C0048, 0, 32⟩
def R.CL_FIRE_NUM_ORIGIN : Fld := ⟨0x4C0048, 16, 16⟩
def R.CL_FIRE_NUM_NUM : Fld := ⟨0x4C0048, 0, 16⟩
def R.CL_LAST_FIRE (n : Nat) : Fld := ⟨0x4C0050 + 0x4 * n, 0, 32⟩
def R.CL_LINK_CTRL (n : Nat) : Fld := ⟨0x4C0100 + 0x40 * n, 0, 32⟩
def R.CL_LINK_CTRL_AUTO (n : Nat) : Fld := ⟨0x4C0100 + 0x40 * n, 8, 1⟩
def R.CL_LINK_CTRL_TRAIN (n : Nat) : Fld := ⟨0x4C0100 + 0x40 * n, 4, 1⟩
def R.CL_LINK_CTRL_RATE (n : Nat) : Fld := ⟨0x4C0100 + 0x40 * n, 0, 2⟩
def R.CL_LINK_STATUS (n : Nat) : Fld := ⟨0x4C0104 + 0x40 * n, 0, 32⟩
def R.CL_LINK_STATUS_FAIL (n : Nat) : Fld := ⟨0x4C0104 + 0x40 * n, 24, 8⟩
def R.CL_LINK_STATUS_PEER (n : Nat) : Fld := ⟨0x4C0104 + 0x40 * n, 8, 16⟩
def R.CL_LINK_STATUS_STATE (n : Nat) : Fld := ⟨0x4C0104 + 0x40 * n, 0, 3⟩
def R.CL_LINK_DELAY (n : Nat) : Fld := ⟨0x4C0108 + 0x40 * n, 0, 32⟩
def R.CL_LINK_ASYM (n : Nat) : Fld := ⟨0x4C010C + 0x40 * n, 0, 32⟩
def R.CL_LINK_SPREAD (n : Nat) : Fld := ⟨0x4C0110 + 0x40 * n, 0, 32⟩
def R.CL_LINK_SPREAD_PS (n : Nat) : Fld := ⟨0x4C0110 + 0x40 * n, 0, 16⟩
def R.CL_LINK_OFFSET (n : Nat) : Fld := ⟨0x4C0114 + 0x40 * n, 0, 32⟩
def R.CL_LINK_FEC_CORR (n : Nat) : Fld := ⟨0x4C0118 + 0x40 * n, 0, 64⟩
def R.CL_LINK_FEC_UNCORR (n : Nat) : Fld := ⟨0x4C0120 + 0x40 * n, 0, 32⟩
def R.CL_LINK_CRC_ERR (n : Nat) : Fld := ⟨0x4C0124 + 0x40 * n, 0, 32⟩
def R.CL_LINK_RETX (n : Nat) : Fld := ⟨0x4C0128 + 0x40 * n, 0, 32⟩
def R.CL_LINK_DATA_DROP (n : Nat) : Fld := ⟨0x4C012C + 0x40 * n, 0, 32⟩
def R.TDC_CAL_TEMP : Fld := ⟨0x20000, 0, 32⟩
def R.TDC_CAL_TEMP_CAL : Fld := ⟨0x20000, 0, 16⟩
def R.TDC_TEMP : Fld := ⟨0x20004, 0, 32⟩
def R.TDC_TEMP_TEMP : Fld := ⟨0x20004, 0, 16⟩
def R.TDC_CFG (n : Nat) : Fld := ⟨0x21000 + 0x400 * n, 0, 32⟩
def R.TDC_CFG_PRESC (n : Nat) : Fld := ⟨0x21000 + 0x400 * n, 16, 16⟩
def R.TDC_CFG_IO (n : Nat) : Fld := ⟨0x21000 + 0x400 * n, 4, 2⟩
def R.TDC_CFG_EDGE (n : Nat) : Fld := ⟨0x21000 + 0x400 * n, 2, 2⟩
def R.TDC_CFG_EN (n : Nat) : Fld := ⟨0x21000 + 0x400 * n, 0, 1⟩
def R.TDC_STATUS (n : Nat) : Fld := ⟨0x21004 + 0x400 * n, 0, 32⟩
def R.TDC_STATUS_FAST (n : Nat) : Fld := ⟨0x21004 + 0x400 * n, 3, 1⟩
def R.TDC_STATUS_CFG_BUSY (n : Nat) : Fld := ⟨0x21004 + 0x400 * n, 2, 1⟩
def R.TDC_STATUS_QFULL (n : Nat) : Fld := ⟨0x21004 + 0x400 * n, 1, 1⟩
def R.TDC_STATUS_RUNNING (n : Nat) : Fld := ⟨0x21004 + 0x400 * n, 0, 1⟩
def R.TDC_QCFG (n : Nat) : Fld := ⟨0x21008 + 0x400 * n, 0, 32⟩
def R.TDC_QCFG_TMO (n : Nat) : Fld := ⟨0x21008 + 0x400 * n, 24, 8⟩
def R.TDC_QCFG_BATCH (n : Nat) : Fld := ⟨0x21008 + 0x400 * n, 12, 9⟩
def R.TDC_QCFG_SQ (n : Nat) : Fld := ⟨0x21008 + 0x400 * n, 4, 5⟩
def R.TDC_QCFG_DRAIN (n : Nat) : Fld := ⟨0x21008 + 0x400 * n, 0, 2⟩
def R.TDC_QLEVEL (n : Nat) : Fld := ⟨0x2100C + 0x400 * n, 0, 32⟩
def R.TDC_QLEVEL_LEVEL (n : Nat) : Fld := ⟨0x2100C + 0x400 * n, 0, 13⟩
def R.TDC_QBASE (n : Nat) : Fld := ⟨0x21010 + 0x400 * n, 0, 64⟩
def R.TDC_QBASE_ADDR (n : Nat) : Fld := ⟨0x21010 + 0x400 * n, 0, 35⟩
def R.TDC_QSIZE (n : Nat) : Fld := ⟨0x21018 + 0x400 * n, 0, 64⟩
def R.TDC_QSIZE_LEN (n : Nat) : Fld := ⟨0x21018 + 0x400 * n, 0, 35⟩
def R.TDC_QWCOUNT (n : Nat) : Fld := ⟨0x21020 + 0x400 * n, 0, 64⟩
def R.TDC_MISSED (n : Nat) : Fld := ⟨0x21028 + 0x400 * n, 0, 32⟩
def R.TDC_QOVF (n : Nat) : Fld := ⟨0x2102C + 0x400 * n, 0, 32⟩
def R.TDC_DROP (n : Nat) : Fld := ⟨0x21030 + 0x400 * n, 0, 32⟩
def R.TDC_EVENTS (n : Nat) : Fld := ⟨0x21038 + 0x400 * n, 0, 64⟩
def R.TDC_POP0 (n : Nat) : Fld := ⟨0x21040 + 0x400 * n, 0, 32⟩
def R.TDC_POP (n : Nat) (i : Nat) : Fld := ⟨0x21044 + 0x400 * n + 0x4 * i, 0, 32⟩
def R.TDC_FCFG (n : Nat) : Fld := ⟨0x21050 + 0x400 * n, 0, 32⟩
def R.TDC_FCFG_SQ (n : Nat) : Fld := ⟨0x21050 + 0x400 * n, 4, 5⟩
def R.TDC_FCFG_ROUTE_EN (n : Nat) : Fld := ⟨0x21050 + 0x400 * n, 1, 1⟩
def R.TDC_FCFG_FEN (n : Nat) : Fld := ⟨0x21050 + 0x400 * n, 0, 1⟩
def R.TDC_GATE (n : Nat) : Fld := ⟨0x21058 + 0x400 * n, 0, 64⟩
def R.TDC_GATE_NS (n : Nat) : Fld := ⟨0x21058 + 0x400 * n, 0, 40⟩
def R.TDC_GSTART (n : Nat) (i : Nat) : Fld := ⟨0x21060 + 0x400 * n + 0x4 * i, 0, 32⟩
def R.TDC_FREQ (n : Nat) : Fld := ⟨0x21070 + 0x400 * n, 0, 64⟩
def R.TDC_FEVENT (n : Nat) : Fld := ⟨0x21078 + 0x400 * n, 0, 64⟩
def R.TDC_FPHASE (n : Nat) : Fld := ⟨0x21080 + 0x400 * n, 0, 32⟩
def R.TDC_FRESID (n : Nat) : Fld := ⟨0x21084 + 0x400 * n, 0, 32⟩
def R.TDC_FCOUNT (n : Nat) : Fld := ⟨0x21088 + 0x400 * n, 0, 32⟩
def R.TDC_FSTAT (n : Nat) : Fld := ⟨0x2108C + 0x400 * n, 0, 32⟩
def R.TDC_FSTAT_SEQ (n : Nat) : Fld := ⟨0x2108C + 0x400 * n, 8, 8⟩
def R.TDC_FSTAT_CAUSE (n : Nat) : Fld := ⟨0x2108C + 0x400 * n, 0, 4⟩
def R.TDC_DLY (n : Nat) : Fld := ⟨0x21100 + 0x400 * n, 0, 32⟩
def R.TDC_TCO (n : Nat) : Fld := ⟨0x21104 + 0x400 * n, 0, 32⟩
def R.TDC_TCO_FS (n : Nat) : Fld := ⟨0x21104 + 0x400 * n, 0, 16⟩
def R.TDC_VPER (n : Nat) : Fld := ⟨0x21108 + 0x400 * n, 0, 32⟩
def R.TDC_BIN (n : Nat) (i : Nat) : Fld := ⟨0x21140 + 0x400 * n + 0x4 * i, 0, 32⟩
def R.TDC_BIN_FS (n : Nat) (i : Nat) : Fld := ⟨0x21140 + 0x400 * n + 0x4 * i, 0, 16⟩
def R.TDC_VNL (n : Nat) (i : Nat) : Fld := ⟨0x21200 + 0x400 * n + 0x4 * i, 0, 32⟩
def R.TDC_VNL_FS (n : Nat) (i : Nat) : Fld := ⟨0x21200 + 0x400 * n + 0x4 * i, 0, 16⟩
def R.NT_CTRL : Fld := ⟨0x30000, 0, 32⟩
def R.NT_CTRL_RX_SQ : Fld := ⟨0x30000, 8, 5⟩
def R.NT_CTRL_RX_EN : Fld := ⟨0x30000, 4, 1⟩
def R.NT_CTRL_LATE_POL : Fld := ⟨0x30000, 1, 1⟩
def R.NT_CTRL_SERVO_OK : Fld := ⟨0x30000, 0, 1⟩
def R.NT_STATUS : Fld := ⟨0x30004, 0, 32⟩
def R.NT_STATUS_TXTS : Fld := ⟨0x30004, 6, 1⟩
def R.NT_STATUS_STEP_PEND : Fld := ⟨0x30004, 5, 1⟩
def R.NT_STATUS_STEP_BUSY : Fld := ⟨0x30004, 4, 1⟩
def R.NT_STATUS_WDOG : Fld := ⟨0x30004, 3, 1⟩
def R.NT_STATUS_MODE_DROP : Fld := ⟨0x30004, 1, 1⟩
def R.NT_STATUS_INCR_CLAMP : Fld := ⟨0x30004, 0, 1⟩
def R.NT_INCR : Fld := ⟨0x30008, 0, 64⟩
def R.NT_INCR_INCR : Fld := ⟨0x30008, 0, 56⟩
def R.NT_STEP : Fld := ⟨0x30010, 0, 64⟩
def R.NT_STEP_LAST : Fld := ⟨0x30018, 0, 64⟩
def R.NT_WDOG : Fld := ⟨0x30020, 0, 32⟩
def R.NT_WDOG_MS : Fld := ⟨0x30020, 0, 16⟩
def R.NT_LAUNCH_LATE : Fld := ⟨0x30028, 0, 32⟩
def R.NT_STEPS : Fld := ⟨0x3002C, 0, 32⟩
def R.NT_TXTS_OVF : Fld := ⟨0x30030, 0, 32⟩
def R.NT_TXTS0 : Fld := ⟨0x30040, 0, 32⟩
def R.NT_TXTS0_VALID : Fld := ⟨0x30040, 31, 1⟩
def R.NT_TXTS0_STATUS : Fld := ⟨0x30040, 20, 4⟩
def R.NT_TXTS0_PORT : Fld := ⟨0x30040, 16, 4⟩
def R.NT_TXTS0_TAG : Fld := ⟨0x30040, 0, 16⟩
def R.NT_TXTS (n : Nat) : Fld := ⟨0x30044 + 0x4 * n, 0, 32⟩
def R.NT_PORT_CTRL (n : Nat) : Fld := ⟨0x30100 + 0x20 * n, 0, 32⟩
def R.NT_PORT_CTRL_UDP6 (n : Nat) : Fld := ⟨0x30100 + 0x20 * n, 3, 1⟩
def R.NT_PORT_CTRL_UDP4 (n : Nat) : Fld := ⟨0x30100 + 0x20 * n, 2, 1⟩
def R.NT_PORT_CTRL_L2 (n : Nat) : Fld := ⟨0x30100 + 0x20 * n, 1, 1⟩
def R.NT_PORT_CTRL_TS_EN (n : Nat) : Fld := ⟨0x30100 + 0x20 * n, 0, 1⟩
def R.NT_PORT_TXLAT (n : Nat) : Fld := ⟨0x30104 + 0x20 * n, 0, 32⟩
def R.NT_PORT_RXLAT (n : Nat) : Fld := ⟨0x30108 + 0x20 * n, 0, 32⟩
def R.NT_PORT_ASYM (n : Nat) : Fld := ⟨0x3010C + 0x20 * n, 0, 32⟩
def R.MC_CTRL : Fld := ⟨0x500000, 0, 32⟩
def R.MC_CTRL_PNR_K : Fld := ⟨0x500000, 8, 5⟩
def R.MC_CTRL_PNR_EN : Fld := ⟨0x500000, 1, 1⟩
def R.MC_CTRL_SCRUB_EN : Fld := ⟨0x500000, 0, 1⟩
def R.MC_STATUS : Fld := ⟨0x500004, 0, 32⟩
def R.MC_STATUS_CE : Fld := ⟨0x500004, 18, 1⟩
def R.MC_STATUS_UE : Fld := ⟨0x500004, 17, 1⟩
def R.MC_STATUS_P0_OVF : Fld := ⟨0x500004, 16, 1⟩
def R.MC_STATUS_P4_PANIC : Fld := ⟨0x500004, 9, 1⟩
def R.MC_STATUS_P0_PANIC : Fld := ⟨0x500004, 8, 1⟩
def R.MC_STATUS_OWED : Fld := ⟨0x500004, 4, 3⟩
def R.MC_STATUS_FORCING : Fld := ⟨0x500004, 2, 1⟩
def R.MC_STATUS_HOT : Fld := ⟨0x500004, 1, 1⟩
def R.MC_STATUS_INIT : Fld := ⟨0x500004, 0, 1⟩
def R.MC_WEIGHT : Fld := ⟨0x500008, 0, 32⟩
def R.MC_WEIGHT_CLR : Fld := ⟨0x500008, 24, 4⟩
def R.MC_WEIGHT_P5 : Fld := ⟨0x500008, 20, 4⟩
def R.MC_WEIGHT_P4 : Fld := ⟨0x500008, 16, 4⟩
def R.MC_WEIGHT_P3 : Fld := ⟨0x500008, 12, 4⟩
def R.MC_WEIGHT_P2 : Fld := ⟨0x500008, 8, 4⟩
def R.MC_WEIGHT_P1 : Fld := ⟨0x500008, 4, 4⟩
def R.MC_WEIGHT_P0 : Fld := ⟨0x500008, 0, 4⟩
def R.MC_SCRUB_PERIOD : Fld := ⟨0x500010, 0, 32⟩
def R.MC_P0_OVF : Fld := ⟨0x500020, 0, 32⟩
def R.MCM_TEMP (n : Nat) : Fld := ⟨0x501000 + 0x1000 * n, 0, 32⟩
def R.MCM_TEMP_TEMP (n : Nat) : Fld := ⟨0x501000 + 0x1000 * n, 0, 16⟩
def R.MCM_REFRESHES (n : Nat) : Fld := ⟨0x501008 + 0x1000 * n, 0, 64⟩
def R.MCM_POSTPONED (n : Nat) : Fld := ⟨0x501010 + 0x1000 * n, 0, 32⟩
def R.MCM_FORCED (n : Nat) : Fld := ⟨0x501014 + 0x1000 * n, 0, 32⟩
def R.MCM_LATE_FORCED (n : Nat) : Fld := ⟨0x501018 + 0x1000 * n, 0, 32⟩
def R.MCM_PNR (n : Nat) : Fld := ⟨0x501020 + 0x1000 * n, 0, 64⟩
def R.MCM_CE_INNER (n : Nat) : Fld := ⟨0x501028 + 0x1000 * n, 0, 32⟩
def R.MCM_CE (n : Nat) : Fld := ⟨0x50102C + 0x1000 * n, 0, 32⟩
def R.MCM_UE (n : Nat) : Fld := ⟨0x501030 + 0x1000 * n, 0, 32⟩
def R.MCM_ERR_ADDR (n : Nat) : Fld := ⟨0x501038 + 0x1000 * n, 0, 64⟩
def R.MCM_ERR_ADDR_SECTOR (n : Nat) : Fld := ⟨0x501038 + 0x1000 * n, 6, 29⟩
def R.MCM_ERR_INFO (n : Nat) : Fld := ⟨0x501040 + 0x1000 * n, 0, 32⟩
def R.MCM_ERR_INFO_PORT (n : Nat) : Fld := ⟨0x501040 + 0x1000 * n, 16, 3⟩
def R.MCM_ERR_INFO_SYMBOL (n : Nat) : Fld := ⟨0x501040 + 0x1000 * n, 8, 7⟩
def R.MCM_ERR_INFO_SCRUB (n : Nat) : Fld := ⟨0x501040 + 0x1000 * n, 1, 1⟩
def R.MCM_ERR_INFO_UE (n : Nat) : Fld := ⟨0x501040 + 0x1000 * n, 0, 1⟩
def R.MCM_WQ (n : Nat) : Fld := ⟨0x501044 + 0x1000 * n, 0, 32⟩
def R.MCM_WQ_PEAK (n : Nat) : Fld := ⟨0x501044 + 0x1000 * n, 8, 8⟩
def R.MCM_WQ_LEVEL (n : Nat) : Fld := ⟨0x501044 + 0x1000 * n, 0, 8⟩
def R.MCM_FWD (n : Nat) : Fld := ⟨0x501048 + 0x1000 * n, 0, 64⟩
def R.MCM_FWD_WAIT (n : Nat) : Fld := ⟨0x501050 + 0x1000 * n, 0, 32⟩
def R.MCM_SCRUB_ADDR (n : Nat) : Fld := ⟨0x501058 + 0x1000 * n, 0, 64⟩
def R.MCM_SCRUB_ADDR_SECTOR (n : Nat) : Fld := ⟨0x501058 + 0x1000 * n, 6, 29⟩
def R.MCM_SCRUB_PASSES (n : Nat) : Fld := ⟨0x501060 + 0x1000 * n, 0, 32⟩
def R.MCM_SCRUB_SKIP (n : Nat) : Fld := ⟨0x501064 + 0x1000 * n, 0, 32⟩
def R.MC_P_BYTES (n : Nat) : Fld := ⟨0x503000 + 0x40 * n, 0, 64⟩
def R.MC_P_PANIC_WAIT (n : Nat) : Fld := ⟨0x503008 + 0x40 * n, 0, 64⟩
def R.MC_P_POISON (n : Nat) : Fld := ⟨0x503010 + 0x40 * n, 0, 32⟩
def R.MC_P_LEVEL (n : Nat) : Fld := ⟨0x503014 + 0x40 * n, 0, 32⟩
def R.MC_P_LEVEL_BYTES (n : Nat) : Fld := ⟨0x503014 + 0x40 * n, 0, 21⟩
def R.HI_LINK : Fld := ⟨0x600000, 0, 32⟩
def R.HI_LINK_UP : Fld := ⟨0x600000, 17, 1⟩
def R.HI_LINK_FLIT : Fld := ⟨0x600000, 10, 1⟩
def R.HI_LINK_REVERSED : Fld := ⟨0x600000, 9, 1⟩
def R.HI_LINK_WIDTH : Fld := ⟨0x600000, 4, 5⟩
def R.HI_LINK_GEN : Fld := ⟨0x600000, 0, 4⟩
def R.HI_LINK_CFG : Fld := ⟨0x600004, 0, 32⟩
def R.HI_LINK_CFG_RETRAIN : Fld := ⟨0x600004, 12, 1⟩
def R.HI_LINK_CFG_MAX_WIDTH : Fld := ⟨0x600004, 4, 5⟩
def R.HI_LINK_CFG_MAX_GEN : Fld := ⟨0x600004, 0, 4⟩
def R.HI_STATUS : Fld := ⟨0x600008, 0, 32⟩
def R.HI_STATUS_BAD_ACCESS : Fld := ⟨0x600008, 0, 1⟩
def R.HI_BAD_ADDR : Fld := ⟨0x60000C, 0, 32⟩
def R.HI_BAD_ADDR_OFFSET : Fld := ⟨0x60000C, 0, 24⟩
def R.HI_WORK : Fld := ⟨0x600010, 0, 32⟩
def R.HI_WORK_DEFERRED : Fld := ⟨0x600010, 16, 9⟩
def R.HI_WORK_LONG : Fld := ⟨0x600010, 0, 4⟩
def R.HI_RING_CTRL (n : Nat) : Fld := ⟨0x601000 + 0x40 * n, 0, 32⟩
def R.HI_RING_CTRL_VEC (n : Nat) : Fld := ⟨0x601000 + 0x40 * n, 8, 8⟩
def R.HI_RING_CTRL_WORLD (n : Nat) : Fld := ⟨0x601000 + 0x40 * n, 1, 1⟩
def R.HI_RING_CTRL_EN (n : Nat) : Fld := ⟨0x601000 + 0x40 * n, 0, 1⟩
def R.HI_RING_SIZE (n : Nat) : Fld := ⟨0x601004 + 0x40 * n, 0, 32⟩
def R.HI_RING_SIZE_CPL_LOG2 (n : Nat) : Fld := ⟨0x601004 + 0x40 * n, 8, 4⟩
def R.HI_RING_SIZE_CMD_LOG2 (n : Nat) : Fld := ⟨0x601004 + 0x40 * n, 0, 4⟩
def R.HI_RING_STATUS (n : Nat) : Fld := ⟨0x601008 + 0x40 * n, 0, 32⟩
def R.HI_RING_STATUS_CFG_BUSY (n : Nat) : Fld := ⟨0x601008 + 0x40 * n, 19, 1⟩
def R.HI_RING_STATUS_CPL_FULL (n : Nat) : Fld := ⟨0x601008 + 0x40 * n, 17, 1⟩
def R.HI_RING_STATUS_BAD_DB (n : Nat) : Fld := ⟨0x601008 + 0x40 * n, 16, 1⟩
def R.HI_RING_STATUS_CAUSE (n : Nat) : Fld := ⟨0x601008 + 0x40 * n, 8, 8⟩
def R.HI_RING_STATUS_STATE (n : Nat) : Fld := ⟨0x601008 + 0x40 * n, 0, 3⟩
def R.HI_RING_PTR (n : Nat) : Fld := ⟨0x60100C + 0x40 * n, 0, 32⟩
def R.HI_RING_PTR_TAIL (n : Nat) : Fld := ⟨0x60100C + 0x40 * n, 16, 12⟩
def R.HI_RING_PTR_HEAD (n : Nat) : Fld := ⟨0x60100C + 0x40 * n, 0, 12⟩
def R.HI_RING_CPTR (n : Nat) : Fld := ⟨0x601010 + 0x40 * n, 0, 32⟩
def R.HI_RING_CPTR_CHEAD (n : Nat) : Fld := ⟨0x601010 + 0x40 * n, 16, 12⟩
def R.HI_RING_CPTR_PHASE (n : Nat) : Fld := ⟨0x601010 + 0x40 * n, 12, 1⟩
def R.HI_RING_CPTR_CTAIL (n : Nat) : Fld := ⟨0x601010 + 0x40 * n, 0, 12⟩
def R.HI_RING_BASE (n : Nat) : Fld := ⟨0x601018 + 0x40 * n, 0, 64⟩
def R.HI_RING_CBASE (n : Nat) : Fld := ⟨0x601020 + 0x40 * n, 0, 64⟩
def R.CE_HALTED : Fld := ⟨0x580000, 0, 64⟩
def R.CE_CTRL (n : Nat) : Fld := ⟨0x581000 + 0x40 * n, 0, 32⟩
def R.CE_CTRL_VEC (n : Nat) : Fld := ⟨0x581000 + 0x40 * n, 8, 8⟩
def R.CE_CTRL_RB_AUTO (n : Nat) : Fld := ⟨0x581000 + 0x40 * n, 6, 1⟩
def R.CE_CTRL_PRIO (n : Nat) : Fld := ⟨0x581000 + 0x40 * n, 4, 2⟩
def R.CE_CTRL_RESET (n : Nat) : Fld := ⟨0x581000 + 0x40 * n, 3, 1⟩
def R.CE_CTRL_START (n : Nat) : Fld := ⟨0x581000 + 0x40 * n, 2, 1⟩
def R.CE_CTRL_STOP (n : Nat) : Fld := ⟨0x581000 + 0x40 * n, 1, 1⟩
def R.CE_CTRL_EN (n : Nat) : Fld := ⟨0x581000 + 0x40 * n, 0, 1⟩
def R.CE_CFG (n : Nat) : Fld := ⟨0x581004 + 0x40 * n, 0, 32⟩
def R.CE_CFG_CLOSE_US (n : Nat) : Fld := ⟨0x581004 + 0x40 * n, 21, 11⟩
def R.CE_CFG_LOG2 (n : Nat) : Fld := ⟨0x581004 + 0x40 * n, 16, 5⟩
def R.CE_CFG_KIND (n : Nat) : Fld := ⟨0x581004 + 0x40 * n, 0, 3⟩
def R.CE_STATUS (n : Nat) : Fld := ⟨0x581008 + 0x40 * n, 0, 32⟩
def R.CE_STATUS_LOSS (n : Nat) : Fld := ⟨0x581008 + 0x40 * n, 20, 1⟩
def R.CE_STATUS_POISON (n : Nat) : Fld := ⟨0x581008 + 0x40 * n, 19, 1⟩
def R.CE_STATUS_CFG_BUSY (n : Nat) : Fld := ⟨0x581008 + 0x40 * n, 18, 1⟩
def R.CE_STATUS_BAD_DB (n : Nat) : Fld := ⟨0x581008 + 0x40 * n, 17, 1⟩
def R.CE_STATUS_NOTOWN (n : Nat) : Fld := ⟨0x581008 + 0x40 * n, 16, 1⟩
def R.CE_STATUS_CAUSE (n : Nat) : Fld := ⟨0x581008 + 0x40 * n, 8, 8⟩
def R.CE_STATUS_STATE (n : Nat) : Fld := ⟨0x581008 + 0x40 * n, 0, 3⟩
def R.CE_PTR (n : Nat) : Fld := ⟨0x58100C + 0x40 * n, 0, 32⟩
def R.CE_PTR_TAIL (n : Nat) : Fld := ⟨0x58100C + 0x40 * n, 16, 16⟩
def R.CE_PTR_HEAD (n : Nat) : Fld := ⟨0x58100C + 0x40 * n, 0, 16⟩
def R.CE_RING_BASE (n : Nat) : Fld := ⟨0x581010 + 0x40 * n, 0, 64⟩
def R.CE_FAULT_IDX (n : Nat) : Fld := ⟨0x581018 + 0x40 * n, 0, 32⟩
def R.CE_FAULT_IDX_INDEX (n : Nat) : Fld := ⟨0x581018 + 0x40 * n, 0, 16⟩
def R.CE_BYTES (n : Nat) : Fld := ⟨0x581020 + 0x40 * n, 0, 64⟩
def R.CE_DESCS (n : Nat) : Fld := ⟨0x581028 + 0x40 * n, 0, 64⟩
def R.CE_NOTOWN (n : Nat) : Fld := ⟨0x581030 + 0x40 * n, 0, 32⟩
def R.CE_LOST (n : Nat) : Fld := ⟨0x581038 + 0x40 * n, 0, 64⟩
def R.SQ_CFG (n : Nat) : Fld := ⟨0x584000 + 0x40 * n, 0, 32⟩
def R.SQ_CFG_RAW_GROUPS (n : Nat) : Fld := ⟨0x584000 + 0x40 * n, 22, 9⟩
def R.SQ_CFG_REMOTE_Q (n : Nat) : Fld := ⟨0x584000 + 0x40 * n, 17, 5⟩
def R.SQ_CFG_COACH (n : Nat) : Fld := ⟨0x584000 + 0x40 * n, 11, 6⟩
def R.SQ_CFG_DRAIN (n : Nat) : Fld := ⟨0x584000 + 0x40 * n, 8, 3⟩
def R.SQ_CFG_CHAN (n : Nat) : Fld := ⟨0x584000 + 0x40 * n, 4, 3⟩
def R.SQ_CFG_SRC (n : Nat) : Fld := ⟨0x584000 + 0x40 * n, 0, 3⟩
def R.SQ_CTRL (n : Nat) : Fld := ⟨0x584004 + 0x40 * n, 0, 32⟩
def R.SQ_CTRL_FLUSH (n : Nat) : Fld := ⟨0x584004 + 0x40 * n, 1, 1⟩
def R.SQ_CTRL_EN (n : Nat) : Fld := ⟨0x584004 + 0x40 * n, 0, 1⟩
def R.SQ_STATUS (n : Nat) : Fld := ⟨0x584008 + 0x40 * n, 0, 32⟩
def R.SQ_STATUS_RESULT (n : Nat) : Fld := ⟨0x584008 + 0x40 * n, 8, 8⟩
def R.SQ_STATUS_CFG_BUSY (n : Nat) : Fld := ⟨0x584008 + 0x40 * n, 5, 1⟩
def R.SQ_STATUS_DROP (n : Nat) : Fld := ⟨0x584008 + 0x40 * n, 4, 1⟩
def R.SQ_STATUS_POISON (n : Nat) : Fld := ⟨0x584008 + 0x40 * n, 3, 1⟩
def R.SQ_STATUS_FLUSHING (n : Nat) : Fld := ⟨0x584008 + 0x40 * n, 2, 1⟩
def R.SQ_STATUS_FULL (n : Nat) : Fld := ⟨0x584008 + 0x40 * n, 1, 1⟩
def R.SQ_STATUS_RUNNING (n : Nat) : Fld := ⟨0x584008 + 0x40 * n, 0, 1⟩
def R.SQ_PTR (n : Nat) : Fld := ⟨0x58400C + 0x40 * n, 0, 32⟩
def R.SQ_PTR_RPTR (n : Nat) : Fld := ⟨0x58400C + 0x40 * n, 16, 13⟩
def R.SQ_PTR_WPTR (n : Nat) : Fld := ⟨0x58400C + 0x40 * n, 0, 13⟩
def R.SQ_PORTS (n : Nat) : Fld := ⟨0x584010 + 0x40 * n, 0, 32⟩
def R.SQ_PORTS_PORTS (n : Nat) : Fld := ⟨0x584010 + 0x40 * n, 0, 16⟩
def R.SQ_PEAK (n : Nat) : Fld := ⟨0x584014 + 0x40 * n, 0, 32⟩
def R.SQ_PEAK_LINES (n : Nat) : Fld := ⟨0x584014 + 0x40 * n, 0, 13⟩
def R.SQ_PKTS (n : Nat) : Fld := ⟨0x584018 + 0x40 * n, 0, 64⟩
def R.SQ_DROPS (n : Nat) : Fld := ⟨0x584020 + 0x40 * n, 0, 32⟩
def R.SQ_POISON (n : Nat) : Fld := ⟨0x584024 + 0x40 * n, 0, 32⟩
def R.SQ_FLUSHED (n : Nat) : Fld := ⟨0x584028 + 0x40 * n, 0, 32⟩
def R.ETH_CTRL : Fld := ⟨0x680000, 0, 32⟩
def R.ETH_CTRL_RX_SQ : Fld := ⟨0x680000, 8, 5⟩
def R.ETH_CTRL_RX_ALL : Fld := ⟨0x680000, 0, 1⟩
def R.ETH_VRT_OUI : Fld := ⟨0x680004, 0, 32⟩
def R.ETH_VRT_OUI_OUI : Fld := ⟨0x680004, 0, 24⟩
def R.ETH_UTC_OFS : Fld := ⟨0x680008, 0, 32⟩
def R.ETH_QUAD_CFG (n : Nat) : Fld := ⟨0x680010 + 0x4 * n, 0, 32⟩
def R.ETH_QUAD_CFG_MODE (n : Nat) : Fld := ⟨0x680010 + 0x4 * n, 0, 1⟩
def R.ETH_PORT_CFG (n : Nat) : Fld := ⟨0x680100 + 0x40 * n, 0, 32⟩
def R.ETH_PORT_CFG_MAX_FRAME (n : Nat) : Fld := ⟨0x680100 + 0x40 * n, 16, 14⟩
def R.ETH_PORT_CFG_PAUSE (n : Nat) : Fld := ⟨0x680100 + 0x40 * n, 8, 1⟩
def R.ETH_PORT_CFG_AN (n : Nat) : Fld := ⟨0x680100 + 0x40 * n, 7, 1⟩
def R.ETH_PORT_CFG_FEC (n : Nat) : Fld := ⟨0x680100 + 0x40 * n, 5, 2⟩
def R.ETH_PORT_CFG_PHY (n : Nat) : Fld := ⟨0x680100 + 0x40 * n, 1, 4⟩
def R.ETH_PORT_CFG_EN (n : Nat) : Fld := ⟨0x680100 + 0x40 * n, 0, 1⟩
def R.ETH_PORT_STATUS (n : Nat) : Fld := ⟨0x680104 + 0x40 * n, 0, 32⟩
def R.ETH_PORT_STATUS_FAIL (n : Nat) : Fld := ⟨0x680104 + 0x40 * n, 8, 8⟩
def R.ETH_PORT_STATUS_PAUSED (n : Nat) : Fld := ⟨0x680104 + 0x40 * n, 1, 1⟩
def R.ETH_PORT_STATUS_UP (n : Nat) : Fld := ⟨0x680104 + 0x40 * n, 0, 1⟩
def R.ETH_PORT_TX_FRAMES (n : Nat) : Fld := ⟨0x680108 + 0x40 * n, 0, 64⟩
def R.ETH_PORT_TX_BYTES (n : Nat) : Fld := ⟨0x680110 + 0x40 * n, 0, 64⟩
def R.ETH_PORT_RX_FRAMES (n : Nat) : Fld := ⟨0x680118 + 0x40 * n, 0, 64⟩
def R.ETH_PORT_RX_FCS_ERR (n : Nat) : Fld := ⟨0x680120 + 0x40 * n, 0, 32⟩
def R.ETH_PORT_RX_DISCARD (n : Nat) : Fld := ⟨0x680124 + 0x40 * n, 0, 32⟩
def R.ETH_PORT_STOMPED (n : Nat) : Fld := ⟨0x680128 + 0x40 * n, 0, 32⟩
def R.ETH_PORT_TX_DISCARD (n : Nat) : Fld := ⟨0x68012C + 0x40 * n, 0, 32⟩
def R.ETH_PORT_FEC_UNCORR (n : Nat) : Fld := ⟨0x680130 + 0x40 * n, 0, 32⟩
def R.ETH_SQ_HDR (n : Nat) : Fld := ⟨0x681000 + 0x100 * n, 0, 32⟩
def R.ETH_SQ_HDR_UDP_CSUM (n : Nat) : Fld := ⟨0x681000 + 0x100 * n, 11, 1⟩
def R.ETH_SQ_HDR_L3 (n : Nat) : Fld := ⟨0x681000 + 0x100 * n, 9, 2⟩
def R.ETH_SQ_HDR_VLAN (n : Nat) : Fld := ⟨0x681000 + 0x100 * n, 8, 1⟩
def R.ETH_SQ_HDR_TPL_LEN (n : Nat) : Fld := ⟨0x681000 + 0x100 * n, 0, 7⟩
def R.ETH_SQ_SID (n : Nat) : Fld := ⟨0x681004 + 0x100 * n, 0, 32⟩
def R.ETH_SQ_CLASS (n : Nat) : Fld := ⟨0x681008 + 0x100 * n, 0, 32⟩
def R.ETH_SQ_CLASS_INFO (n : Nat) : Fld := ⟨0x681008 + 0x100 * n, 0, 16⟩
def R.ETH_SQ_CTXP (n : Nat) : Fld := ⟨0x68100C + 0x100 * n, 0, 32⟩
def R.ETH_SQ_CTXP_MS (n : Nat) : Fld := ⟨0x68100C + 0x100 * n, 0, 16⟩
def R.ETH_SQ_TPL (n : Nat) (i : Nat) : Fld := ⟨0x681040 + 0x100 * n + 0x4 * i, 0, 32⟩
def R.RS_CTRL : Fld := ⟨0x700000, 0, 32⟩
def R.RS_CTRL_VEC : Fld := ⟨0x700000, 8, 8⟩
def R.RS_CTRL_TRAIN : Fld := ⟨0x700000, 6, 1⟩
def R.RS_CTRL_MODESET : Fld := ⟨0x700000, 5, 1⟩
def R.RS_CTRL_CANCEL : Fld := ⟨0x700000, 4, 1⟩
def R.RS_CTRL_COMMIT : Fld := ⟨0x700000, 3, 1⟩
def R.RS_CTRL_AUTO : Fld := ⟨0x700000, 2, 1⟩
def R.RS_CTRL_ADAPTIVE : Fld := ⟨0x700000, 1, 1⟩
def R.RS_CTRL_EN : Fld := ⟨0x700000, 0, 1⟩
def R.RS_STATUS : Fld := ⟨0x700004, 0, 32⟩
def R.RS_STATUS_RESULT : Fld := ⟨0x700004, 16, 8⟩
def R.RS_STATUS_LATE_WR : Fld := ⟨0x700004, 11, 1⟩
def R.RS_STATUS_CRC_MISS : Fld := ⟨0x700004, 10, 1⟩
def R.RS_STATUS_LINK_FAIL : Fld := ⟨0x700004, 9, 1⟩
def R.RS_STATUS_LINK_UP : Fld := ⟨0x700004, 8, 1⟩
def R.RS_STATUS_HPD_IRQ : Fld := ⟨0x700004, 7, 1⟩
def R.RS_STATUS_HPD : Fld := ⟨0x700004, 6, 1⟩
def R.RS_STATUS_MODESET_PEND : Fld := ⟨0x700004, 5, 1⟩
def R.RS_STATUS_MODE_SWITCHED : Fld := ⟨0x700004, 4, 1⟩
def R.RS_STATUS_SHADOW_BUSY : Fld := ⟨0x700004, 3, 1⟩
def R.RS_STATUS_VBLANK : Fld := ⟨0x700004, 2, 1⟩
def R.RS_STATUS_PENDING : Fld := ⟨0x700004, 1, 1⟩
def R.RS_STATUS_RUNNING : Fld := ⟨0x700004, 0, 1⟩
def R.RS_LINK : Fld := ⟨0x700008, 0, 32⟩
def R.RS_LINK_RATE : Fld := ⟨0x700008, 4, 2⟩
def R.RS_LINK_LANES : Fld := ⟨0x700008, 0, 3⟩
def R.RS_PIXDIV : Fld := ⟨0x70000C, 0, 32⟩
def R.RS_PIXDIV_D_PIX : Fld := ⟨0x70000C, 0, 10⟩
def R.RS_HTIM : Fld := ⟨0x700010, 0, 32⟩
def R.RS_HTIM_HTOTAL : Fld := ⟨0x700010, 16, 12⟩
def R.RS_HTIM_HACT : Fld := ⟨0x700010, 0, 12⟩
def R.RS_HSYNC : Fld := ⟨0x700014, 0, 32⟩
def R.RS_HSYNC_HPOL : Fld := ⟨0x700014, 31, 1⟩
def R.RS_HSYNC_HWIDTH : Fld := ⟨0x700014, 16, 12⟩
def R.RS_HSYNC_HSTART : Fld := ⟨0x700014, 0, 12⟩
def R.RS_VTIM : Fld := ⟨0x700018, 0, 32⟩
def R.RS_VTIM_VTOTAL : Fld := ⟨0x700018, 16, 14⟩
def R.RS_VTIM_VACT : Fld := ⟨0x700018, 0, 11⟩
def R.RS_VBL : Fld := ⟨0x70001C, 0, 32⟩
def R.RS_VBL_VPOL : Fld := ⟨0x70001C, 31, 1⟩
def R.RS_VBL_VFP_MIN : Fld := ⟨0x70001C, 16, 14⟩
def R.RS_VBL_VBP : Fld := ⟨0x70001C, 8, 8⟩
def R.RS_VBL_VSYNC : Fld := ⟨0x70001C, 0, 8⟩
def R.RS_VRATE : Fld := ⟨0x700020, 0, 32⟩
def R.RS_VRATE_VMAX_HZ : Fld := ⟨0x700020, 8, 8⟩
def R.RS_VRATE_VMIN_HZ : Fld := ⟨0x700020, 0, 8⟩
def R.RS_FP_LIM : Fld := ⟨0x700030, 0, 32⟩
def R.RS_FP_LIM_FP_MAX : Fld := ⟨0x700030, 16, 14⟩
def R.RS_FP_LIM_FP_MIN : Fld := ⟨0x700030, 0, 14⟩
def R.RS_LAST_FP : Fld := ⟨0x700034, 0, 32⟩
def R.RS_LAST_FP_LINES : Fld := ⟨0x700034, 0, 14⟩
def R.RS_FRAMES : Fld := ⟨0x700038, 0, 64⟩
def R.RS_WR_DROPS : Fld := ⟨0x700040, 0, 32⟩
def R.RS_AUX_CTRL : Fld := ⟨0x700050, 0, 32⟩
def R.RS_AUX_CTRL_GO : Fld := ⟨0x700050, 31, 1⟩
def R.RS_AUX_CTRL_RESULT : Fld := ⟨0x700050, 8, 8⟩
def R.RS_AUX_CTRL_LENM1 : Fld := ⟨0x700050, 4, 4⟩
def R.RS_AUX_CTRL_CMD : Fld := ⟨0x700050, 0, 4⟩
def R.RS_AUX_ADDR : Fld := ⟨0x700054, 0, 32⟩
def R.RS_AUX_ADDR_ADDR : Fld := ⟨0x700054, 0, 20⟩
def R.RS_AUX_DATA (n : Nat) : Fld := ⟨0x700060 + 0x4 * n, 0, 32⟩
def R.RS_CRC_VAL (n : Nat) : Fld := ⟨0x700100 + 0x10 * n, 0, 32⟩
def R.RS_CRC_MISMATCH (n : Nat) : Fld := ⟨0x700104 + 0x10 * n, 0, 32⟩
def R.RS_CRC_CTRL (n : Nat) : Fld := ⟨0x700108 + 0x10 * n, 0, 32⟩
def R.RS_CRC_CTRL_LEARN (n : Nat) : Fld := ⟨0x700108 + 0x10 * n, 0, 1⟩
def R.RS_REG_FRAMES (n : Nat) : Fld := ⟨0x700200 + 0x8 * n, 0, 32⟩
def R.RS_REG_LATE (n : Nat) : Fld := ⟨0x700204 + 0x8 * n, 0, 32⟩
def R.RS_FB_SEL : Fld := ⟨0x701000, 0, 32⟩
def R.RS_FB_SEL_SEL : Fld := ⟨0x701000, 0, 1⟩
def R.RS_OVL : Fld := ⟨0x701004, 0, 32⟩
def R.RS_OVL_EN : Fld := ⟨0x701004, 0, 1⟩
def R.RS_REG_CFG (n : Nat) : Fld := ⟨0x701100 + 0x10 * n, 0, 32⟩
def R.RS_REG_CFG_SYM1 (n : Nat) : Fld := ⟨0x701100 + 0x10 * n, 6, 2⟩
def R.RS_REG_CFG_SXM1 (n : Nat) : Fld := ⟨0x701100 + 0x10 * n, 4, 2⟩
def R.RS_REG_CFG_SYNC (n : Nat) : Fld := ⟨0x701100 + 0x10 * n, 2, 1⟩
def R.RS_REG_CFG_KIND (n : Nat) : Fld := ⟨0x701100 + 0x10 * n, 0, 2⟩
def R.RS_REG_POS (n : Nat) : Fld := ⟨0x701104 + 0x10 * n, 0, 32⟩
def R.RS_REG_POS_Y (n : Nat) : Fld := ⟨0x701104 + 0x10 * n, 16, 12⟩
def R.RS_REG_POS_X (n : Nat) : Fld := ⟨0x701104 + 0x10 * n, 0, 12⟩
def R.RS_REG_SIZE (n : Nat) : Fld := ⟨0x701108 + 0x10 * n, 0, 32⟩
def R.RS_REG_SIZE_H (n : Nat) : Fld := ⟨0x701108 + 0x10 * n, 16, 12⟩
def R.RS_REG_SIZE_W (n : Nat) : Fld := ⟨0x701108 + 0x10 * n, 0, 12⟩
def R.RS_REG_TBL (n : Nat) : Fld := ⟨0x70110C + 0x10 * n, 0, 32⟩
def R.RS_REG_TBL_ADDR (n : Nat) : Fld := ⟨0x70110C + 0x10 * n, 0, 26⟩
def R.RS_CRC_POS (n : Nat) : Fld := ⟨0x701200 + 0x10 * n, 0, 32⟩
def R.RS_CRC_POS_EN (n : Nat) : Fld := ⟨0x701200 + 0x10 * n, 31, 1⟩
def R.RS_CRC_POS_Y (n : Nat) : Fld := ⟨0x701200 + 0x10 * n, 16, 12⟩
def R.RS_CRC_POS_X (n : Nat) : Fld := ⟨0x701200 + 0x10 * n, 0, 12⟩
def R.RS_CRC_SIZE (n : Nat) : Fld := ⟨0x701204 + 0x10 * n, 0, 32⟩
def R.RS_CRC_SIZE_H (n : Nat) : Fld := ⟨0x701204 + 0x10 * n, 16, 12⟩
def R.RS_CRC_SIZE_W (n : Nat) : Fld := ⟨0x701204 + 0x10 * n, 0, 12⟩
def R.RS_CRC_EXP (n : Nat) : Fld := ⟨0x701208 + 0x10 * n, 0, 32⟩
def R.RS_PAL (n : Nat) : Fld := ⟨0x701400 + 0x4 * n, 0, 32⟩
def R.PWR_CTRL : Fld := ⟨0x780000, 0, 32⟩
def R.PWR_CTRL_VEC : Fld := ⟨0x780000, 8, 8⟩
def R.PWR_STATUS : Fld := ⟨0x780004, 0, 32⟩
def R.PWR_STATUS_DRESULT : Fld := ⟨0x780004, 24, 8⟩
def R.PWR_STATUS_RESUME : Fld := ⟨0x780004, 16, 3⟩
def R.PWR_STATUS_PM_FAULT : Fld := ⟨0x780004, 13, 1⟩
def R.PWR_STATUS_AVS_FAULT : Fld := ⟨0x780004, 12, 1⟩
def R.PWR_STATUS_PEND : Fld := ⟨0x780004, 11, 1⟩
def R.PWR_STATUS_PEND_TGT : Fld := ⟨0x780004, 8, 3⟩
def R.PWR_STATUS_BUSY : Fld := ⟨0x780004, 7, 1⟩
def R.PWR_STATUS_TARGET : Fld := ⟨0x780004, 4, 3⟩
def R.PWR_STATUS_STATE : Fld := ⟨0x780004, 0, 3⟩
def R.PWR_REFUSAL : Fld := ⟨0x780008, 0, 32⟩
def R.PWR_REFUSAL_DETAIL : Fld := ⟨0x780008, 16, 16⟩
def R.PWR_REFUSAL_REASON : Fld := ⟨0x780008, 8, 4⟩
def R.PWR_REFUSAL_DOMAIN : Fld := ⟨0x780008, 0, 7⟩
def R.PWR_LASTWAKE : Fld := ⟨0x78000C, 0, 32⟩
def R.PWR_LASTWAKE_DETAIL : Fld := ⟨0x78000C, 16, 7⟩
def R.PWR_LASTWAKE_CODE : Fld := ⟨0x78000C, 0, 8⟩
def R.PWR_LASTWAKE_PTIME (n : Nat) : Fld := ⟨0x780010 + 0x4 * n, 0, 32⟩
def R.PWR_WAKE_EN : Fld := ⟨0x780020, 0, 32⟩
def R.PWR_WAKE_EN_SRC : Fld := ⟨0x780020, 0, 7⟩
def R.PWR_WAKE_AT (n : Nat) : Fld := ⟨0x780030 + 0x4 * n, 0, 32⟩
def R.PWR_DOMSTATE (n : Nat) : Fld := ⟨0x780040 + 0x4 * n, 0, 32⟩
def R.PWR_IDLE : Fld := ⟨0x780060, 0, 32⟩
def R.PWR_IDLE_US : Fld := ⟨0x780060, 0, 20⟩
def R.PWR_P1_MASK0 : Fld := ⟨0x780064, 0, 32⟩
def R.PWR_P1_MASK0_DOMS_B : Fld := ⟨0x780064, 15, 6⟩
def R.PWR_P1_MASK0_DOMS_A : Fld := ⟨0x780064, 3, 11⟩
def R.PWR_P1_MASK12 (n : Nat) : Fld := ⟨0x780068 + 0x4 * n, 0, 32⟩
def R.PWR_DOMCTRL : Fld := ⟨0x780070, 0, 32⟩
def R.PWR_DOMCTRL_GATE : Fld := ⟨0x780070, 8, 1⟩
def R.PWR_DOMCTRL_DOMAIN : Fld := ⟨0x780070, 0, 7⟩
def R.PWR_PADREL : Fld := ⟨0x780074, 0, 32⟩
def R.PWR_PADREL_GROUPS : Fld := ⟨0x780074, 0, 9⟩
def R.PWR_PADHOLD : Fld := ⟨0x780078, 0, 32⟩
def R.PWR_PADHOLD_GROUPS : Fld := ⟨0x780078, 0, 9⟩
def R.PWR_TRIP : Fld := ⟨0x78007C, 0, 32⟩
def R.PWR_TRIP_TRIPPED : Fld := ⟨0x78007C, 31, 1⟩
def R.PWR_TRIP_SENSOR : Fld := ⟨0x78007C, 0, 4⟩
def R.PWR_VCORE : Fld := ⟨0x780080, 0, 32⟩
def R.PWR_VCORE_RET_MV : Fld := ⟨0x780080, 16, 16⟩
def R.PWR_VCORE_RUN_MV : Fld := ⟨0x780080, 0, 16⟩
def R.PWR_AVS_STAT : Fld := ⟨0x780084, 0, 32⟩
def R.PWR_AVS_STAT_FAULTS : Fld := ⟨0x780084, 16, 16⟩
def R.PWR_AVS_STAT_RETRIES : Fld := ⟨0x780084, 0, 16⟩
def R.PWR_POLL : Fld := ⟨0x780088, 0, 32⟩
def R.PWR_POLL_MS : Fld := ⟨0x780088, 0, 16⟩
def R.PWR_RAIL_CFG (n : Nat) : Fld := ⟨0x780100 + 0x10 * n, 0, 32⟩
def R.PWR_RAIL_CFG_EN (n : Nat) : Fld := ⟨0x780100 + 0x10 * n, 31, 1⟩
def R.PWR_RAIL_CFG_OFF (n : Nat) : Fld := ⟨0x780100 + 0x10 * n, 30, 1⟩
def R.PWR_RAIL_CFG_PAGE (n : Nat) : Fld := ⟨0x780100 + 0x10 * n, 8, 8⟩
def R.PWR_RAIL_CFG_ADDR (n : Nat) : Fld := ⟨0x780100 + 0x10 * n, 0, 7⟩
def R.PWR_RAIL_VAL (n : Nat) : Fld := ⟨0x780104 + 0x10 * n, 0, 32⟩
def R.PWR_RAIL_VAL_IOUT (n : Nat) : Fld := ⟨0x780104 + 0x10 * n, 16, 16⟩
def R.PWR_RAIL_VAL_VOUT (n : Nat) : Fld := ⟨0x780104 + 0x10 * n, 0, 16⟩
def R.PWR_RAIL_STAT (n : Nat) : Fld := ⟨0x780108 + 0x10 * n, 0, 32⟩
def R.PWR_RAIL_STAT_STATUS_WORD (n : Nat) : Fld := ⟨0x780108 + 0x10 * n, 0, 16⟩
def R.HK_CTRL : Fld := ⟨0x60000, 0, 32⟩
def R.HK_CTRL_VEC : Fld := ⟨0x60000, 8, 8⟩
def R.HK_CTRL_MIRROR : Fld := ⟨0x60000, 4, 1⟩
def R.HK_CTRL_CAL_B : Fld := ⟨0x60000, 3, 1⟩
def R.HK_CTRL_CAL_A : Fld := ⟨0x60000, 2, 1⟩
def R.HK_CTRL_EN_B : Fld := ⟨0x60000, 1, 1⟩
def R.HK_CTRL_EN_A : Fld := ⟨0x60000, 0, 1⟩
def R.HK_STATUS : Fld := ⟨0x60004, 0, 32⟩
def R.HK_STATUS_THROTTLE : Fld := ⟨0x60004, 8, 2⟩
def R.HK_STATUS_SUSPECT : Fld := ⟨0x60004, 4, 1⟩
def R.HK_STATUS_PLAUS_FAULT : Fld := ⟨0x60004, 3, 1⟩
def R.HK_STATUS_CAL_REJ : Fld := ⟨0x60004, 2, 1⟩
def R.HK_STATUS_INJ_DROP : Fld := ⟨0x60004, 1, 1⟩
def R.HK_SEQ_PERIOD : Fld := ⟨0x60008, 0, 32⟩
def R.HK_SEQ_PERIOD_US : Fld := ⟨0x60008, 0, 20⟩
def R.HK_SEQ_LEN : Fld := ⟨0x6000C, 0, 32⟩
def R.HK_SEQ_LEN_LEN_B : Fld := ⟨0x6000C, 8, 6⟩
def R.HK_SEQ_LEN_LEN_A : Fld := ⟨0x6000C, 0, 6⟩
def R.HK_SEQ_SKIP : Fld := ⟨0x60010, 0, 32⟩
def R.HK_SEQ (n : Nat) (i : Nat) : Fld := ⟨0x60100 + 0x20 * n + 0x4 * i, 0, 32⟩
def R.HK_SEQ_E3 (n : Nat) (i : Nat) : Fld := ⟨0x60100 + 0x20 * n + 0x4 * i, 24, 5⟩
def R.HK_SEQ_E2 (n : Nat) (i : Nat) : Fld := ⟨0x60100 + 0x20 * n + 0x4 * i, 16, 5⟩
def R.HK_SEQ_E1 (n : Nat) (i : Nat) : Fld := ⟨0x60100 + 0x20 * n + 0x4 * i, 8, 5⟩
def R.HK_SEQ_E0 (n : Nat) (i : Nat) : Fld := ⟨0x60100 + 0x20 * n + 0x4 * i, 0, 5⟩
def R.HK_INJ (n : Nat) : Fld := ⟨0x60200 + 0x4 * n, 0, 32⟩
def R.HK_INJ_INPUT (n : Nat) : Fld := ⟨0x60200 + 0x4 * n, 0, 5⟩
def R.HK_INJ_RES (n : Nat) : Fld := ⟨0x60210 + 0x4 * n, 0, 32⟩
def R.HK_INJ_RES_SEQ (n : Nat) : Fld := ⟨0x60210 + 0x4 * n, 24, 8⟩
def R.HK_INJ_RES_INPUT (n : Nat) : Fld := ⟨0x60210 + 0x4 * n, 16, 5⟩
def R.HK_INJ_RES_VALUE (n : Nat) : Fld := ⟨0x60210 + 0x4 * n, 0, 16⟩
def R.HK_PLAUS_LIM : Fld := ⟨0x60300, 0, 32⟩
def R.HK_PLAUS_LIM_LIM : Fld := ⟨0x60300, 0, 16⟩
def R.HK_PLAUS_COUNT : Fld := ⟨0x60304, 0, 32⟩
def R.HK_CAL_PERIOD : Fld := ⟨0x60308, 0, 32⟩
def R.HK_CAL_PERIOD_S : Fld := ⟨0x60308, 0, 16⟩
def R.HK_CAL_OK (n : Nat) : Fld := ⟨0x60310 + 0x8 * n, 0, 32⟩
def R.HK_CAL_REJ (n : Nat) : Fld := ⟨0x60314 + 0x8 * n, 0, 32⟩
def R.HK_CAL_PTIME (n : Nat) (i : Nat) : Fld := ⟨0x60320 + 0x10 * n + 0x4 * i, 0, 32⟩
def R.HK_THERM : Fld := ⟨0x60340, 0, 32⟩
def R.HK_THERM_T2 : Fld := ⟨0x60340, 16, 16⟩
def R.HK_THERM_T1 : Fld := ⟨0x60340, 0, 16⟩
def R.HK_THERM_HYST : Fld := ⟨0x60344, 0, 32⟩
def R.HK_THERM_HYST_HYST : Fld := ⟨0x60344, 0, 16⟩
def R.HK_TMAX : Fld := ⟨0x60348, 0, 32⟩
def R.HK_TMAX_SENSOR : Fld := ⟨0x60348, 16, 4⟩
def R.HK_TMAX_T : Fld := ⟨0x60348, 0, 16⟩
def R.HK_COR (n : Nat) : Fld := ⟨0x60400 + 0x4 * n, 0, 32⟩
def R.HK_COR_GAIN (n : Nat) : Fld := ⟨0x60400 + 0x4 * n, 16, 16⟩
def R.HK_COR_OFS (n : Nat) : Fld := ⟨0x60400 + 0x4 * n, 0, 16⟩
def R.HK_LAST (n : Nat) : Fld := ⟨0x60500 + 0x4 * n, 0, 32⟩
def R.HK_LAST_VALUE (n : Nat) : Fld := ⟨0x60500 + 0x4 * n, 0, 16⟩
def R.HK_BUF_HEAD : Fld := ⟨0x60600, 0, 32⟩
def R.HK_BUF_HEAD_WRAPS : Fld := ⟨0x60600, 12, 20⟩
def R.HK_BUF_HEAD_INDEX : Fld := ⟨0x60600, 0, 12⟩
def R.HK_MIRROR_LOST : Fld := ⟨0x60604, 0, 32⟩
def R.HK_BUF (n : Nat) : Fld := ⟨0x70000 + 0x4 * n, 0, 32⟩
def R.SEC_STATUS : Fld := ⟨0x7C0000, 0, 32⟩
def R.SEC_STATUS_REVOKED : Fld := ⟨0x7C0000, 16, 4⟩
def R.SEC_STATUS_SVN : Fld := ⟨0x7C0000, 8, 7⟩
def R.SEC_STATUS_BOOT_SLOT : Fld := ⟨0x7C0000, 4, 2⟩
def R.SEC_STATUS_PF1_EN : Fld := ⟨0x7C0000, 0, 1⟩
def R.SEC_KEYS (n : Nat) : Fld := ⟨0x7C0010 + 0x4 * n, 0, 32⟩
def R.SEC_KEYS_USE (n : Nat) : Fld := ⟨0x7C0010 + 0x4 * n, 2, 3⟩
def R.SEC_KEYS_REVOKED (n : Nat) : Fld := ⟨0x7C0010 + 0x4 * n, 1, 1⟩
def R.SEC_KEYS_VALID (n : Nat) : Fld := ⟨0x7C0010 + 0x4 * n, 0, 1⟩
def R.SEC_WORLD (n : Nat) : Fld := ⟨0x7C0020 + 0x4 * n, 0, 32⟩
def R.SEC_RINGW : Fld := ⟨0x7C003C, 0, 32⟩
def R.SEC_RINGW_SECURE : Fld := ⟨0x7C003C, 0, 16⟩
def R.SEC_CTXW (n : Nat) : Fld := ⟨0x7C0040 + 0x4 * n, 0, 32⟩
def R.SEC_REF_COUNT : Fld := ⟨0x7C0050, 0, 32⟩
def R.SEC_REFLOG_HEAD : Fld := ⟨0x7C0054, 0, 32⟩
def R.SEC_REFLOG_HEAD_INDEX : Fld := ⟨0x7C0054, 0, 4⟩
def R.SEC_REFLOG (n : Nat) : Fld := ⟨0x7C0100 + 0x10 * n, 0, 128⟩
def R.SEC_REFLOG_ADDRESS (n : Nat) : Fld := ⟨0x7C0100 + 0x10 * n, 64, 64⟩
def R.SEC_REFLOG_NS (n : Nat) : Fld := ⟨0x7C0100 + 0x10 * n, 32, 32⟩
def R.SEC_REFLOG_WRITE (n : Nat) : Fld := ⟨0x7C0100 + 0x10 * n, 11, 1⟩
def R.SEC_REFLOG_KIND (n : Nat) : Fld := ⟨0x7C0100 + 0x10 * n, 8, 3⟩
def R.SEC_REFLOG_SOURCE (n : Nat) : Fld := ⟨0x7C0100 + 0x10 * n, 0, 8⟩
def R.SEC_REGION_CFG (n : Nat) : Fld := ⟨0x7C0400 + 0x20 * n, 0, 32⟩
def R.SEC_REGION_CFG_SPACE (n : Nat) : Fld := ⟨0x7C0400 + 0x20 * n, 2, 2⟩
def R.SEC_REGION_CFG_WORLD (n : Nat) : Fld := ⟨0x7C0400 + 0x20 * n, 1, 1⟩
def R.SEC_REGION_CFG_EN (n : Nat) : Fld := ⟨0x7C0400 + 0x20 * n, 0, 1⟩
def R.SEC_REGION_BASE (n : Nat) : Fld := ⟨0x7C0408 + 0x20 * n, 0, 64⟩
def R.SEC_REGION_BASE_ADDR (n : Nat) : Fld := ⟨0x7C0408 + 0x20 * n, 12, 23⟩
def R.SEC_REGION_SIZE (n : Nat) : Fld := ⟨0x7C0410 + 0x20 * n, 0, 64⟩
def R.SEC_REGION_SIZE_LEN (n : Nat) : Fld := ⟨0x7C0410 + 0x20 * n, 12, 23⟩
def R.SEC_MEAS_FW (n : Nat) : Fld := ⟨0x7C1000 + 0x4 * n, 0, 32⟩
def R.SEC_MEAS_UC (n : Nat) : Fld := ⟨0x7C1040 + 0x4 * n, 0, 32⟩
def R.SEC_IDPK (n : Nat) : Fld := ⟨0x7C1080 + 0x4 * n, 0, 32⟩
def R.SEC_SERIAL : Fld := ⟨0x7C10C0, 0, 64⟩
def R.CFG_STATUS : Fld := ⟨0x7E0000, 0, 32⟩
def R.CFG_STATUS_CFG_BUSY : Fld := ⟨0x7E0000, 9, 1⟩
def R.CFG_STATUS_APPLY_FAIL : Fld := ⟨0x7E0000, 8, 1⟩
def R.CFG_STATUS_PEND_SLOT : Fld := ⟨0x7E0000, 6, 2⟩
def R.CFG_STATUS_PENDING : Fld := ⟨0x7E0000, 5, 1⟩
def R.CFG_STATUS_PREV_VALID : Fld := ⟨0x7E0000, 4, 1⟩
def R.CFG_STATUS_PREV : Fld := ⟨0x7E0000, 2, 2⟩
def R.CFG_STATUS_ACTIVE : Fld := ⟨0x7E0000, 0, 2⟩
def R.CFG_VERSION : Fld := ⟨0x7E0004, 0, 32⟩
def R.CFG_PEND_VERSION : Fld := ⟨0x7E0008, 0, 32⟩
def R.CFG_SLOT_VER (n : Nat) : Fld := ⟨0x7E0010 + 0x4 * n, 0, 32⟩
def R.CFG_ACT_PTIME (n : Nat) : Fld := ⟨0x7E0020 + 0x4 * n, 0, 32⟩
def R.CFG_FAIL : Fld := ⟨0x7E0030, 0, 32⟩
def R.CFG_FAIL_CONTEXT : Fld := ⟨0x7E0030, 16, 12⟩
def R.CFG_FAIL_BLOCK : Fld := ⟨0x7E0030, 8, 8⟩
def R.CFG_FAIL_CODE : Fld := ⟨0x7E0030, 0, 8⟩
def R.CFG_SWITCHES : Fld := ⟨0x7E0034, 0, 32⟩
def R.CFG_BOOT : Fld := ⟨0x7E0038, 0, 32⟩
def R.CFG_BOOT_EN : Fld := ⟨0x7E0038, 2, 1⟩
def R.CFG_BOOT_SLOT : Fld := ⟨0x7E0038, 0, 2⟩
def R.ID_PART : Fld := ⟨0x0, 0, 32⟩
def R.ID_PART_PART : Fld := ⟨0x0, 16, 16⟩
def R.ID_PART_STEP : Fld := ⟨0x0, 0, 16⟩
def R.ID_RESET_CAUSE : Fld := ⟨0x4, 0, 32⟩
def R.ID_RESET_CAUSE_CAUSE : Fld := ⟨0x4, 0, 4⟩
def R.ID_BOOT : Fld := ⟨0x10, 0, 32⟩
def R.ID_BOOT_CAUSE : Fld := ⟨0x10, 24, 8⟩
def R.ID_BOOT_EARLY_WR : Fld := ⟨0x10, 9, 1⟩
def R.ID_BOOT_MODE : Fld := ⟨0x10, 8, 1⟩
def R.ID_BOOT_COPY : Fld := ⟨0x10, 4, 1⟩
def R.ID_BOOT_STAGE : Fld := ⟨0x10, 0, 4⟩
def R.ID_BOOT_ADDR : Fld := ⟨0x18, 0, 64⟩
def R.ID_BOOT_LEN : Fld := ⟨0x20, 0, 32⟩
def R.ID_BOOT_LEN_LEN : Fld := ⟨0x20, 0, 23⟩
def R.ID_BOOT_CTRL : Fld := ⟨0x24, 0, 32⟩
def R.ID_BOOT_CTRL_GO : Fld := ⟨0x24, 0, 1⟩
def R.ID_WARM_INDEX : Fld := ⟨0x28, 0, 64⟩
def R.ID_WDOG : Fld := ⟨0x30, 0, 32⟩
def R.ID_BRESET : Fld := ⟨0x250, 0, 32⟩
def R.ID_BRESET_GO : Fld := ⟨0x250, 8, 1⟩
def R.ID_BRESET_BLOCK : Fld := ⟨0x250, 0, 8⟩
def R.ID_BRESET_STATUS : Fld := ⟨0x254, 0, 32⟩
def R.ID_BRESET_STATUS_RESULT : Fld := ⟨0x254, 8, 8⟩
def R.ID_BRESET_STATUS_DROP : Fld := ⟨0x254, 1, 1⟩
def R.ID_BRESET_STATUS_BUSY : Fld := ⟨0x254, 0, 1⟩
def R.ID_ERRLOG_CTRL : Fld := ⟨0x260, 0, 32⟩
def R.ID_ERRLOG_CTRL_VEC : Fld := ⟨0x260, 8, 8⟩
def R.ID_ERRLOG_HEAD : Fld := ⟨0x264, 0, 32⟩
def R.ID_ERRLOG_HEAD_WRAPS : Fld := ⟨0x264, 8, 24⟩
def R.ID_ERRLOG_HEAD_INDEX : Fld := ⟨0x264, 0, 8⟩
def R.ID_ERRLOG_LOST : Fld := ⟨0x268, 0, 32⟩
def R.ID_ERRLOG (n : Nat) : Fld := ⟨0x1000 + 0x4 * n, 0, 32⟩

end Sys2Proof.Machine
end

