-- ==== Sys2Proof/Machine/Table.lean ====
section
/-!
DEFINITION. Sparse tables: the one form in which the state holds memories and families of like items. A table is a list
of key and value pairs with keys strictly rising and no value equal to what an unlisted key reads as, so equal contents
are equal data.
-/
namespace Sys2Proof.Machine

/-- A sparse table from natural keys: keys strictly rising, no entry at its default. -/
abbrev Tbl (α : Type) := List (Nat × α)

/-- The value at key `k`; an unlisted key reads as `d k`. -/
def tget {α : Type} (d : Nat → α) : Tbl α → Nat → α
  | [], k => d k
  | (k', v) :: t, k => if k = k' then v else tget d t k

/-- The table with every entry at key `k` left out. -/
def tdel {α : Type} (t : Tbl α) (k : Nat) : Tbl α := t.filter (fun p => p.1 != k)

/-- The table with `(k, v)` put before the first larger key. -/
def tins {α : Type} : Tbl α → Nat → α → Tbl α
  | [], k, v => [(k, v)]
  | (k', v') :: t, k, v => if k < k' then (k, v) :: (k', v') :: t else (k', v') :: tins t k v

/-- The table with `v` at key `k`, kept in canonical form: writing the default removes the entry. -/
def tset {α : Type} [DecidableEq α] (d : Nat → α) (t : Tbl α) (k : Nat) (v : α) : Tbl α :=
  if v = d k then tdel t k else tins (tdel t k) k v

/-- The canonical form: keys strictly rising from above `lo`, and no entry at its default. -/
def twfFrom {α : Type} [DecidableEq α] (d : Nat → α) : Nat → Tbl α → Bool
  | _, [] => true
  | lo, (k, v) :: t => decide (lo ≤ k) && decide (v ≠ d k) && twfFrom d (k + 1) t

/-- The canonical form of a table. -/
def twf {α : Type} [DecidableEq α] (d : Nat → α) (t : Tbl α) : Bool := twfFrom d 0 t

/-- `n` consecutive values from key `k`. -/
def tgetN {α : Type} (d : Nat → α) (t : Tbl α) : Nat → Nat → List α
  | _, 0 => []
  | k, n + 1 => tget d t k :: tgetN d t (k + 1) n

/-- Consecutive values written from key `k`. -/
def tsetN {α : Type} [DecidableEq α] (d : Nat → α) : Tbl α → Nat → List α → Tbl α
  | t, _, [] => t
  | t, k, v :: vs => tsetN d (tset d t k v) (k + 1) vs

/-- The table with the keys from `lo` up to `hi` (excluded) back at their defaults. -/
def tclear {α : Type} (t : Tbl α) (lo hi : Nat) : Tbl α := t.filter (fun p => decide (p.1 < lo) || decide (hi ≤ p.1))

end Sys2Proof.Machine
end

