-- ==== Sys2Proof/Machine/State.lean ====
section
/-!
DEFINITION. The state of the device, as plain data: the register file, the state that stands behind it, the memories,
what the device has sent, and the queue of waiting commands; and the state after reset. Each field's docstring cites the
rule of spec/ that names it; INVENTORY.md lists every item with its reset value.
-/
namespace Sys2Proof.Machine

/-- The state of a fence block (spec/01_architecture.md, "Block epochs and fencing"). -/
inductive BlkState where
  | running | fenced | offline | gated | waking
deriving DecidableEq, Repr

/-- A request to a fence block with its tag and the epoch it carries or was accepted under (R19). -/
structure BlkReq where
  block : Nat
  tag : BitVec 16
  epoch : Nat
deriving DecidableEq, Repr

/-- A register access that waits for its block to wake (R23, R507). -/
structure HeldAccess where
  block : Nat
  write : Bool
  pf : Nat
  off : Nat
  size : Nat
  data : Nat
deriving DecidableEq, Repr

/-- The fence blocks: states, requests and replies (R19 to R26). -/
structure FenceSt where
  st : Tbl BlkState := []
  accepted : List BlkReq := []      -- accepted and not yet answered (R21)
  held : List BlkReq := []          -- held while the block wakes (R23)
  heldAcc : List HeldAccess := []   -- register accesses held while the block wakes (R507)
  replies : List (BlkReq × Nat) := []  -- emitted replies in flight, with their status
  outstanding : List BlkReq := []   -- requests whose requester still waits (R25)
  leaving : Tbl Bool := []          -- by block: ready to leave FENCED or OFFLINE once its replies are out (R26)
  breset : Option Nat := none       -- block whose reset through ID_BRESET runs (R571)
deriving DecidableEq, Repr

/-- A span of channel samples that carries record flags (R42, R68, R77, R81, R87). -/
structure Mark where
  lo : Nat
  hi : Nat
  flags : Nat
deriving DecidableEq, Repr

/-- Which relock is running (R36 to R39, R600). -/
inductive Relock where
  | idle | retune | bandscan | restore
deriving DecidableEq, Repr

/-- The root synthesiser, the reference tracker and PTIME. Times are in units of 2^-48 ns. -/
structure ClkSt where
  nint : Nat := 409                 -- settings in use (R32)
  nfrac : Nat := 0x9999999A
  savedNint : Nat := 0              -- settings and band table before the command (R600)
  savedNfrac : Nat := 0
  savedBand : Nat := 0
  savedTable : List (BitVec 32) := []
  relock : Relock := .idle
  relockAt : Nat := 0               -- elapsed time at which the relock began (R38)
  lockedAt : Nat := 0               -- elapsed time of the last rise of LOCKED
  lockChanges : List Nat := []      -- elapsed times of the latest changes of LOCKED (R43)
  released : Bool := false          -- dividers released (R12)
  releaseDue : Bool := false        -- they release at the next alignment tick (R12, R39)
  dropWindow : Bool := false        -- LOCKED read 0 within the present interval (R42)
  mode : Nat := 0                   -- time-base mode in force (R58)
  qual : Nat := 0                   -- consecutive qualified intervals (Table 2-1)
  near : Nat := 0                   -- consecutive intervals with the error below TB_PBO_THR
  phaseSet : Bool := false
  slew : Int := 0                   -- phase still to slew, 2^-16 ns / 1,000 (R53)
  slewTerm : Int := 0               -- what the slew adds to TB_STEER at present (R53)
  refEdges : Nat := 0               -- REFIN edges in the present interval (R47)
  refSum : Int := 0                 -- sum of the link's phase errors in the present interval (R339)
  refErr : Int := 0                 -- phase error of the last reference edge, 2^-16 ns (R46)
  ppsEdges : Nat := 0
  ppsErr : Int := 0
  ptime : Nat := 0                  -- PTIME with its accumulator, 2^-48 ns (R55, R56)
  elapsed : Nat := 0                -- time since PORST_N without steps, 2^-48 ns
  cycles : Nat := 0                 -- control cycles since the dividers released
  sampleIdx : Nat := 0              -- index of the first sample of this control cycle (R60)
  incr : Nat := 0x3E7FFFFFFFF06     -- NT_INCR in force in SW (R379)
  incrPend : Option Nat := none     -- NT_INCR that waits for the next alignment tick (R379)
  servoAt : Nat := 0                -- elapsed time of the last servo write or entry to SW (R382)
  steps : Nat := 0                  -- PTIME steps so far, and PTIME before and after each of them, newest first (R383)
  stepLog : List (Nat × Nat) := []
  holdMarks : List Mark := []       -- sample indices that passed while HOLDOVER was 1 (R52)
  unlockMarks : List Mark := []     -- sample indices that passed while LOCKED read 0 (R42)
  rates : List (Nat × Nat × Nat) := []  -- control cycles at which PTIME or its increment left the line of the one before: first
                                        -- sample index, PTIME, increment; newest first (R57)
  ppsAt : Option Nat := none        -- first sample index of the control cycle of the last PPSOUT pulse (R62)
deriving DecidableEq, Repr

/-- A long command in progress (R432 to R434). -/
structure LongCmd where
  ring : Nat
  entry : CmdEntry
  steps : Nat := 1
  phase : Nat := 0                  -- stage of the command, by its chapter
  pos : Nat := 0                    -- progress measure of Table 12-4
  aux : List Nat := []              -- what the command keeps between steps
  reads : List HostRead := []
  env : List (BitVec 32) := []
  stopped : Bool := false           -- its ring was disabled: completion is discarded (R440)
deriving DecidableEq, Repr

/-- A deferred command in progress (R434); `target` is what it waits for. -/
structure DefCmd where
  ring : Nat
  entry : CmdEntry
  target : Nat
  aux : List Nat := []
  stopped : Bool := false
deriving DecidableEq, Repr

/-- A completion that waits for room in its ring (R430). -/
structure WaitCpl where
  ring : Nat
  tag : BitVec 16
  irq : Bool
  status : Nat
  steps : Nat
  result : Nat
deriving DecidableEq, Repr

/-- The host interface: commands in progress, read snapshots, held low words, MSI-X (spec/12). -/
structure HostSt where
  longs : List LongCmd := []
  defs : List DefCmd := []
  waiting : List WaitCpl := []
  snaps : Tbl (Option (BitVec 32)) := []    -- key function × 2^24 + offset of the high word (R420)
  heldLow : Tbl (Option (BitVec 32)) := []  -- key function × 2^24 + offset of the low word (R421)
  msix : Tbl (BitVec 32) := []              -- key function × 4096 + offset in the MSI-X table (R416)
  pba : Tbl Bool := []                      -- key function × 256 + vector (R416)
  cancelled : List (Nat × Nat) := []        -- announced entries that CANCEL ended before they started: ring and index (R442)
deriving DecidableEq, Repr

/-- Security state behind the SEC_ registers (spec/16). -/
structure SecSt where
  refMs : Tbl Nat := []                     -- per source: millisecond of its last logged refusal, plus 1 (R544)
  errMs : Tbl Nat := []                     -- per type and block: millisecond of the last limited entry, plus 1 (R575)
  keccak : Option (Nat × BitVec 16) := none -- holder of the Keccak engine: ring and tag (R550)
  certOk : Bool := false                    -- identity certificate checked at boot (R551)
  cert : List (BitVec 8) := []
deriving DecidableEq, Repr

/-- What the device sends to the outside: PCIe, Ethernet, Beldor links, pins. -/
inductive Msg where
  | readReply (pf off size data : Nat)                       -- completion of a host read (R418)
  | unsupported (pf off : Nat)                               -- Unsupported Request (R418)
  | hostWrite (addr : Nat) (bytes : List (BitVec 8))         -- a posted write to host memory
  | msix (pf vec addr data : Nat)                            -- an MSI-X message (R416)
  | ppsOut (ptime widthUs : Nat)                             -- a PPSOUT pulse (R62)
  | trigOut (o ptime widthFc : Nat) (activeLow : Bool)       -- a TRIGOUT pulse (R287, R288)
  | codeword (link : Nat) (header : BitVec 20) (slots : List (BitVec 256))  -- a codeword on a Beldor link, its slots from slot 0 on (R331)
  | frame (port : Nat) (bytes : List (BitVec 8)) (ptime : Nat)  -- an Ethernet frame with its FCS, and the PTIME of its first bit
  | pmbusOff (rail addr page : Nat)                          -- PMBus OPERATION with the value off (R517)
  | avsWrite (mv : Nat)                                      -- an AVSBus write of VDD_CORE (R521)
deriving DecidableEq, Repr


/-- An entry of a controller's write queue: one sector with its byte mask (R401). -/
structure WqEntry where
  sector : Nat
  data : List (BitVec 8)
  mask : List Bool
  poison : Bool := false
deriving DecidableEq, Repr

/-- A memory controller behind its registers (spec/11). -/
structure McSt where
  wq : List WqEntry := []             -- oldest first
  drainFirst : Bool := false          -- writes have priority over reads (R401)
  lfsr : Nat := 1                     -- R399
  scrub : Option WqEntry := none      -- a scrubber's write-back not yet made (R410)
  selfRefresh : Bool := false         -- the stack is in self-refresh (R412, R413, R387)
deriving DecidableEq, Repr

/-- A burst in the capture staging (R388). -/
structure StageSeg where
  addr : Nat
  bytes : List (BitVec 8)
  poison : Bool := false
  closed : Bool := false              -- nothing will join it
deriving DecidableEq, Repr

/-- The memories and the capture-memory controllers. -/
structure MemSt where
  bytes : Tbl (BitVec 8) := []        -- key space × 2^40 + address; the spaces are those of R540
  tag : Tbl Nat := []                 -- TAG of each capture-memory sector (R404)
  mc : Tbl McSt := []                 -- by controller
  stage : List StageSeg := []         -- capture staging, oldest first
  outPanic : Tbl Bool := []           -- by output channel (R390)
  forcedAt : Nat := 0                 -- elapsed time at which a fifth refresh fell due (R396)
  turn : Nat := 0                     -- port whose turn it is in the round, and the bytes that its grant has left (R389)
  left : Nat := 0
  panicLast : Nat := 4                -- which of P0 and P4 was served last under panic (R391)
deriving DecidableEq, Repr

/-- Where a rotation step of an input channel stands (Table 3-2, R74). -/
inductive RotPhase where
  | idle | plaus | deferred | measure | settle
deriving DecidableEq, Repr

/-- An input channel behind its registers (spec/03, R63 to R88). -/
structure AdcSt where
  slots : List Nat := List.range 32   -- the sub-converter that serves each slot (R63)
  nextStep : Nat := 0                 -- next rotation step: slot 0 to 31, 32 the spare wheel's own
  phase : RotPhase := .idle
  slot : Nat := 0                     -- the step's slot
  outgoing : Nat := 0                 -- the sub-converter that served it at the step's start
  attempt : Nat := 0                  -- plausibility attempts made (R74)
  fpWait : Bool := false              -- a first pass waits for the step's end (R85)
  undo : Option (BitVec 32 × BitVec 32 × Nat × Nat × Nat) := none  -- until the step ends: its trim and skew words, CAL_PTIME, CAL_OK and CAL_REJ
                                      -- before the comparison (R603)
  trimWait : List (Nat × BitVec 32 × BitVec 32) := []  -- sub-converters whose written trims wait for the alignment tick, with the words in
                                      -- force until then (R84)
  dcor : BitVec 32 := 0x40000000      -- correction in force (R65)
  loopEn : Bool := false              -- loopback in force (R99)
  loopSrc : Nat := 0
  degradedAt : Option Nat := none     -- sample index of the take-over of R76 (R77)
  marks : List Mark := []             -- newest first
  bus : List Int := []                -- the last 16 corrected samples on the channel bus
  busIdx : Nat := 0                   -- index of the first of them
deriving DecidableEq, Repr

/-- What an output channel waits for before it starts or changes source (R95, R602). -/
inductive DacWait where
  | none | tick | prefetch | timed
deriving DecidableEq, Repr

/-- An output channel behind its registers (spec/03, R89 to R98, R602, R604). -/
structure DacSt where
  start : DacWait := .none            -- a start waits
  change : DacWait := .none           -- a change of source or gain waits
  stop : Bool := false                -- a stop waits for the next alignment tick (R97)
  gainDue : Bool := false             -- a write of DACn_GAIN waits for the next alignment tick (R98)
  src : Nat := 0                      -- source and gain in force
  gain : Nat := 0x4000
  pbBase : Nat := 0                   -- playback region taken (R90)
  pbLen : Nat := 0
  fetchPos : Nat := 0                 -- bytes of the region fetched in this pass
  playPos : Nat := 0                  -- samples of the region played or lost in this pass
  filling : Bool := false             -- the prefetch runs (R602)
  prefetch : List (BitVec 16) := []   -- 128 KiB at most
  skip : Nat := 0                     -- lost samples whose data has yet to arrive (R91)
  phase0 : Nat := 0                   -- tone phases, 2π/2^48 (R93)
  phase1 : Nat := 0
  ftw0 : Nat := 0                     -- frequency words in force (R94)
  ftw1 : Nat := 0
  synth : List (BitVec 16) := []      -- output sample buffer, oldest first (R604)
  code : Nat := 0                     -- the 14-bit code at the converter
  sent : Nat := 0                     -- samples converted since the start
  idx : Nat := 0                      -- sample index of the next output sample (R95, R103)
  recent : List (BitVec 14) := []     -- the last 16 codes at the converter, oldest first (R99)
deriving DecidableEq, Repr


/-- What a chain's checks run for (R126, R137). -/
inductive ChkKind where
  | none | commit | enable
deriving DecidableEq, Repr

/-- One chain output sample as its consumers see it (R114, R115, R118, R131). -/
structure ChainOut where
  j : Nat := 0                        -- output index
  e : Nat := 0                        -- emit index (R115)
  ptE : Nat := 0                      -- PTIME(E_j) (R57)
  time : Nat := 0                     -- PTIME under R118
  i : Int := 0
  q : Int := 0
  flags : Nat := 0                    -- record flags that the sample carries
  epoch : Nat := 0                    -- chain epoch
deriving DecidableEq, Repr

/-- A filter chain behind its registers (spec/04). -/
structure FchSt where
  chk : ChkKind := .none              -- checks in progress
  atPtime : Bool := false             -- values taken at the write of COMMIT (R128, R132)
  flush : Bool := false
  align : Nat := 1
  hoPtime : Nat := 0
  startWait : Bool := false           -- checks passed; the chain starts at the next alignment tick (R137)
  nextE : Nat := 0                    -- emit index of the next output
  fifo : List (Nat × Int) := []       -- input samples not yet taken, with their indices
  nextIdx : Nat := 0                  -- index of the next input sample to take
  phase : Nat := 0                    -- NCO phase in continuous mode (R104)
  hb : List (Int × Int) := []         -- half-band history, newest first
  ints : List (Int × Int) := []       -- the five integrators of the CIC
  combs : List (Int × Int) := []      -- the five combs
  fir : List (Int × Int) := []        -- FIR history, newest first
  lefts : List (Nat × Nat) := []      -- outputs that still carry TRANSIENT or UNSETTLED, newest bank first (R131, R132, R137)
  handed : Bool := false              -- a hand-over stood in the present control cycle; PENDING clears at its end (R130)
  late : Bool := false                -- the hand-over takes place at the next output (R134)
  shadowIn : List (Nat × Int) := []   -- samples of the shadow bank's source, while it differs, from the next sample to take on
  srcs : List (Nat × Nat) := []       -- first index and source of the samples taken, newest first (R116)
  pkMax : Nat := 0                    -- peak window in progress
  pkCount : Nat := 0
  rmsSum : Nat := 0                   -- RMS window in progress
  rmsCount : Nat := 0
  env : Nat := 0                      -- envelope, 16 fraction bits (R122)
  pb : List (BitVec 16 × Bool) := []  -- playback samples delivered by port P3, and whether poisoned (R102, R408)
  pbMarks : List Mark := []           -- input samples taken from poisoned sectors (R408)
  pbPos : Nat := 0                    -- bytes of the region read so far
  pbSkip : Nat := 0                   -- lost samples whose data has yet to arrive (R102)
  last : ChainOut := {}               -- the latest output
deriving DecidableEq, Repr

/-- A kernel image in the master directory (Table 6-8): what its header and entry table declare. -/
structure KImage where
  id : Nat
  version : Nat
  base : Nat                          -- kernel-store base
  words : Nat                         -- code words
  ucodeMin : Nat
  work : Nat                          -- WORK_BYTES
  repMax : Nat
  entries : List (Nat × Nat × Nat)    -- entry offset, products, declared cost
  tables : List (BitVec 8)            -- table section
  meas : List (BitVec 8)              -- measurement (R547)
deriving DecidableEq, Repr

/-- What a record needs of the frames that it folds (R264 to R266). -/
structure FoldInfo where
  newest : Nat := 0                   -- SEQ of the newest frame
  oldest : Nat := 0                   -- SEQ of the oldest, with the time and the index of its first output
  time : Nat := 0
  sidx : Nat := 0
  flags : Nat := 0
  chEpoch : Nat := 0
  lateFc : Nat := 0
  skipE : Nat := 0                    -- frames thinned and shed before its frames (SKIPPED of Table 5-2), summed
  skipB : Nat := 0
deriving DecidableEq, Repr

/-- A billet (Table 5-2), with the record data of its frame. -/
structure Billet where
  ctx : Nat
  home : Nat
  cls : Nat
  reissue : Bool := false
  stolen : Bool := false
  stage : Nat := 0
  last : Bool := true
  deadline : Nat
  created : Nat
  segOfs : Nat := 0
  segLines : Nat := 0
  kentry : Nat
  chEpoch : Nat := 0
  seq : Nat
  cxEpoch : Nat
  group : Nat := 0
  skipped : Nat := 0
  part : Nat := 0                     -- its number within its stage
  first : Nat := 0                    -- first chain output of its frame
  ring : Nat := 0                     -- its context's segment ring and work area in the home hearth, with their lengths
  ringLen : Nat := 0
  work : Nat := 0
  workLen : Nat := 0
  gen : Nat := 0                      -- home moves of its context before its cut (R278)
  info : FoldInfo := {}
deriving DecidableEq, Repr

/-- A segment of a pinned anvil, with its place in the 16-segment area and the billet of its frame (R178, R179). -/
structure Seg where
  place : Nat
  billet : Billet
deriving DecidableEq, Repr

/-- A transfer by the mover (R206, R208). -/
structure MoveSt where
  load : Bool                         -- TLOAD
  out : Bool := false                 -- from scratch
  cm : Bool := false                  -- capture memory
  addr : Nat                          -- hearth or capture-memory address
  sa : Nat                            -- scratch address
  n : Nat
  tag : Nat := 0
deriving DecidableEq, Repr

/-- An anvil (Table 6-1) and what it is doing. -/
structure AnvSt where
  v : Tbl (BitVec 16) := []           -- 8 × register + lane
  acc : Tbl (BitVec 40) := []         -- 8 × group + lane
  sr : Tbl (BitVec 32) := []
  a : Tbl (BitVec 16) := []
  o : Tbl (BitVec 16) := []
  l : Tbl (BitVec 16) := []
  br : Tbl Bool := []
  pc : Nat := 0
  upc : Nat := 0                      -- micro-PC (R222)
  sat : Bool := false
  ttag : Option (Nat × Nat × Nat) := none  -- identifier, first scratch address, bytes (R208)
  scratch : Tbl (BitVec 8) := []
  run : Option Billet := none         -- the billet that it runs
  kLo : Nat := 0                      -- code range of its image (R217)
  kHi : Nat := 0
  repLimit : Nat := 0
  rep : Nat := 0                      -- executions of the repeated instruction still to come (R212)
  cyc : Nat := 0                      -- cycles of this billet
  move : Option MoveSt := none        -- it waits for the mover
  copying : Bool := false             -- its publish list is being copied (R209)
  poison : Bool := false              -- the billet read poisoned data (R408)
  probe : Nat := 0                    -- ring distance last probed (R151)
  pin : Option Nat := none            -- the PIN context that owns it (R177)
  gone : Bool := false                -- its billet is abandoned, and not re-issued, at the end of its instruction (R173, R212)
  segs : List Seg := []               -- unconsumed segments, oldest first (R179)
  segNext : Nat := 0                  -- place from which the next segment looks for a free one
  segBusy : Bool := false             -- the oldest of them is being processed
  haltCtx : Nat := 0                  -- context of the billet that a halt abandoned (FRGf_DBG_REGk)
deriving DecidableEq, Repr

/-- A group of billets of a long transform (R148, R243). -/
structure GroupSt where
  seq : Nat
  stage : Nat
  left : Nat                          -- billets of the stage not yet complete
  proto : Billet                      -- descriptor that its billets share
deriving DecidableEq, Repr

/-- An average in progress: SPEC or STAT exponential or block, or an SGRAM row (R251, R253, R258). -/
structure AvgSt where
  product : Nat
  epoch : Nat                         -- context epoch of its frames (R276)
  block : Nat := 0                    -- block or row number
  n : Nat := 0                        -- frames folded since it started
  since : Nat := 0                    -- frames folded since the last emission
  firstSeq : Nat := 0
  acc : List Nat := []                -- exponential: with 16 fraction bits; block: sums; SGRAM: maxima
  prefix_ : List (BitVec 8) := []     -- prefix of the newest payload
  tail : List (BitVec 8) := []        -- rest of the newest STAT payload
  fold : FoldInfo := {}
deriving DecidableEq, Repr

/-- A modification that waits for the next cut (R275). -/
structure ModSt where
  cfg : List (BitVec 32)
  limits : Option (List (BitVec 8))
  window : Option (List (BitVec 8))
deriving DecidableEq, Repr

/-- A publish that waits for a home move (R278): billet, completion in cycles past its deadline, SAT, poison, list. -/
structure WaitPub where
  billet : Billet
  lateFc : Nat
  sat : Bool
  poison : Bool
  list : List (BitVec 8)
deriving DecidableEq, Repr

/-- An analysis context behind its entry (spec/05, spec/07). -/
structure CtxSt where
  cutting : Bool := false             -- the cutter runs
  kentry : Nat := 0                   -- kernel entry and image in use
  kLo : Nat := 0
  kHi : Nat := 0
  imageId : Nat := 0
  cost : Nat := 0
  ring : Nat := 0                     -- hearth byte addresses and lengths of its allocations
  ringLen : Nat := 0
  plane : Nat := 0
  planeLen : Nat := 0
  work : Nat := 0
  workLen : Nat := 0
  oldAlloc : List (Nat × Nat × Nat × Nat) := []  -- allocations in former homes: moves before it, forge, base, length (R142)
  gen : Nat := 0                      -- home moves so far
  moveTo : Option (Nat × Nat × Nat) := none  -- a move to be made at the next cut: forge, and the ring and work area reserved there
  l : Nat := 0                        -- L and H in use, in chain outputs
  h : Nat := 1
  j0 : Option Nat := none             -- first output of frame 0 (R240)
  nextJ : Nat := 0                    -- output after the newest in the ring
  nextSeq : Nat := 0
  marks : List Mark := []             -- flags of the outputs, newest first
  epochs : List (Nat × Nat) := []     -- first output and chain epoch of each bank seen, newest first
  starts : List (Nat × Nat × Nat × Nat) := []  -- frames begun and not cut: first output, time, sample index, HOLDOVER flag
  cfgs : List (Nat × List (BitVec 32)) := []   -- settings by context epoch, newest first (R275)
  pend : Option ModSt := none
  limits : List (BitVec 8) := []      -- mask limits (R257)
  window : List (BitVec 8) := []      -- user window (Table 7-3)
  skipE : Nat := 0                    -- frames thinned and shed since the last record (R174)
  skipB : Nat := 0
  skipPrev : Nat := 0                 -- frames skipped since the previous billet, and how many of them were shed
  skipShed : Nat := 0
  lateRun : Nat := 0                  -- late G billets in a row (R168)
  fault : Option (Nat × Nat × List Nat) := none  -- cause, forge, detail words of a fault that drains (R176)
  avgs : List AvgSt := []
  densFold : Option FoldInfo := none  -- frames folded since the last snapshot
  densN : Nat := 0
  decayN : Nat := 0                   -- frames since the last decay
  decays : Nat := 0                   -- decays since start
  groups : List GroupSt := []
  epochDue : List (Nat × Nat) := []   -- by context epoch: products whose first record has yet to leave (R276)
  lost : Nat := 0                     -- products whose last record was dropped (R269)
  cmPos : Nat := 0                    -- place in the record region (R267)
  frames : Nat := 0                   -- display frames of its composer (R489)
  waitPub : List WaitPub := []
  det : List Nat := [0, 0, 0]         -- values of publish entries of type 6, by slot
  seg : List (BitVec 8) := []         -- PIN: outputs of the segment in progress
  segInfo : FoldInfo := {}
  segN : Nat := 0                     -- PIN: segments since the start
  segDue : List (List (BitVec 8) × FoldInfo) := []  -- segments on their way to the anvil
deriving DecidableEq, Repr

/-- The compute fabric behind its registers (spec/05, spec/06). -/
structure FabSt where
  rack : Tbl (List Billet) := []      -- by forge, in deadline order
  anv : Tbl AnvSt := []               -- 32 × forge + anvil
  taken : Tbl Nat := []               -- by forge: anvil last served by its own rack, plus 1 (R150)
  served : Tbl Nat := []              -- 32 × rack + thief's forge: anvil last served, plus 1 (R153)
  stole : Tbl (List Nat) := []        -- by rack: its last steal: control cycle, forge, anvil, and where its forge's order began
  ks : Tbl (BitVec 33) := []          -- kernel stores, 16,384 × forge + word; bit 32 is the parity bit (R221)
  cs : Tbl (BitVec 41) := []          -- control stores, 8,192 × forge + word
  dt : Tbl (BitVec 16) := []          -- dispatch tables, 256 × forge + opcode
  master : Tbl (BitVec 32) := []      -- master kernel store
  images : List KImage := []          -- master directory
  golden : List (BitVec 8) := []      -- golden microcode image
  goldenMeas : List (BitVec 8) := []  -- measurement of the golden image (R547)
  goldenSum : List (BitVec 8) := []   -- SHAKE256 measurements that a reload checks: of the golden copy and of the master (R225)
  masterSum : List (BitVec 8) := []
  ucode : Nat := 0                    -- version of the golden copy
  checks : Tbl (List Nat) := []       -- by forge: times of its machine checks, by the clock that no load moves (R230)
  reload : Tbl Nat := []              -- by forge: slices of the reload still to run, plus 1; 1 while it waits to run again (R225)
  drain : Tbl Nat := []               -- by forge: it leaves service; billets moved so far, plus 1 (R183)
deriving DecidableEq, Repr


/-- A trigger event (R279): unit, stamp (index × 256 + fraction), its PTIME when reported, and what became of it. -/
structure TrgEv where
  unit : Nat
  stamp : Nat
  pt : Nat
  due : Nat                           -- PTIME at which it reaches the combiner (R290)
  arrived : Bool := false             -- it has reached the combiner on time (R291)
  used : List Nat := []               -- terms that have used it (R292)
deriving DecidableEq, Repr

/-- An open pulse (R285): the stamp of the edge that opened it and its direction. -/
structure Pulse where
  stamp : Nat
  rising : Bool
  told : Bool := false                -- reported while open
deriving DecidableEq, Repr

/-- A trigger unit behind its registers (R281 to R287). -/
structure TrgUnit where
  primR : Bool := false
  primF : Bool := false
  prev : Option (Int × Int) := none   -- the last value and its place in 1/256 input samples
  pulses : List Pulse := []           -- open pulses, at most one of each direction (R285)
  lastRep : Option Nat := none        -- stamp of the last reported event (R284)
  repFc : Option Nat := none          -- fabric cycle of the last edge taken (R283)
  fastR : Bool := false               -- the fast decision (R287)
  fastF : Bool := false
  fastPrev : Option Int := none
  fastRep : Option Nat := none        -- fabric cycle of its last pulse
deriving DecidableEq, Repr

/-- The trigger engine behind its registers (R286 to R298). -/
structure TrgSt where
  units : Tbl TrgUnit := []
  store : List TrgEv := []            -- reported events, oldest first
  hist : List (Nat × List (BitVec 32)) := []  -- PTIME until which a former bank held, and its term words (R297)
  atPtime : Bool := false             -- value in the write that set COMMIT (R295)
  late : Bool := false                -- its TRG_HO_PTIME had passed (R134, R296)
  pendCyc : Nat := 0                  -- control cycle in which PENDING was set (R295)
  handed : Bool := false              -- a hand-over stood in the present control cycle; PENDING clears at its end (R296)
  since : Int := 0                    -- place, in 1/256 input samples, from which the units take values (R297)
  evals : Tbl Nat := []               -- by term: PTIME at which it evaluated its last candidate (R293)
  inPol : List Nat := [0, 0, 0, 0]    -- TRGIN and TRGOUT settings in force (R298)
  outCfg : List (BitVec 32) := [0x83F, 0x83F, 0x83F, 0x83F]
  outBusy : Tbl Nat := []             -- elapsed time at which the pulse of a TRIGOUT ends (R288)
  prims : List (Nat × Nat) := []      -- events for TPP: selector and elapsed time from which an edge may launch them (R324)
deriving DecidableEq, Repr

/-- An accepted trigger of a slot (R302, R304). -/
structure AcqTrig where
  unit : Nat                          -- n_T
  stamp : Nat
  pt : Nat
  start : Nat                         -- nominal window start, not below u_arm
  short : Bool
  lost : Bool := false                -- the window opened late (R305)
  epoch : Nat                         -- TRG_EPOCH under which the term evaluated
  term : Nat
deriving DecidableEq, Repr

/-- Units of a slot whose chain kept its decimation and its delay: the number of the first, the index of its output, D, the delay in
2^-16 input samples that its unit times take off, and the response span (R116, R282, R302). -/
structure AcqBank where
  first : Nat
  j0 : Nat
  d : Nat
  g : Nat
  span : Nat
deriving DecidableEq, Repr

/-- The drain of a STREAM slot (R310, R311). -/
structure AcqDrain where
  rd : Nat                            -- next unit that the drain reads
  freed : Nat                         -- next unit whose place may not be overwritten yet
  stop : Option Nat := none           -- last unit written, plus 1, once writing has stopped
deriving DecidableEq, Repr

/-- An acquisition slot behind its registers (R299 to R315). -/
structure AcqSt where
  starting : Bool := false            -- armed; writing starts at the next alignment tick
  stopReq : Bool := false             -- STOP waits for the next alignment tick
  uArm : Nat := 0
  w : Nat := 0                        -- next unit to write
  trig : Option AcqTrig := none
  number : Nat := 0                   -- acquisition number since the arm
  windows : Nat := 0                  -- windows complete since the arm
  missR : Nat := 0                    -- missed triggers since the previous record
  missP : Nat := 0
  dropped : Bool := false             -- the previous record was dropped
  rearmAt : Nat := 0                  -- index of the first sample after the re-arm
  banks : List AcqBank := []          -- chain source: the banks that its units came from, newest first (R302)
  mmMin : Int := 0                    -- min/max interval in progress
  mmMax : Int := 0
  mmOn : Bool := false
  marks : List Mark := []             -- flags of the units written
  epochs : List (Nat × Nat) := []     -- chain source: first unit and chain epoch of each bank seen
  drain : Option AcqDrain := none
deriving DecidableEq, Repr


/-- A carriage on its way out of a link; a control carriage has its number once it is sent (R333, R334). -/
structure CtlCarriage where
  seq : Nat
  type_ : Nat
  flags : Nat
  payload : Nat
deriving DecidableEq, Repr

/-- A child packet being assembled from DATA carriages (R335, R471). -/
structure DataAsm where
  queue : Nat
  next : Nat := 0                     -- next carriage number
  bytes : List (BitVec 8) := []
  bad : Bool := false                 -- a gap was seen; the packet is discarded
  last : Bool := false                -- its queue was disabled while it came; it still enters (R473)
deriving DecidableEq, Repr

/-- A Beldor link behind its registers (R331 to R349). -/
structure LinkSt where
  txSeq : Nat := 0                    -- next control number to send
  rxSeq : Nat := 0                    -- next control number expected
  unacked : List CtlCarriage := []    -- control carriages sent, oldest first, at most 64
  again : List CtlCarriage := []      -- those of them that go out again (R334)
  waiting : List CtlCarriage := []    -- carriages of every type that wait for a slot (R333)
  repeats : Nat := 0
  sentAt : Nat := 0                   -- elapsed time of the last ACK, or of the send that has waited longest since (R334)
  cwNum : Nat := 0                    -- number of the next codeword since training ended (R333)
  cwStart : Nat := 0                  -- elapsed time at which training ended
  rxCw : Option (BitVec 32) := none   -- the last received codeword whose errors are counted (R332)
  path : Nat := 0                     -- largest PATH_NS that the subtree has reported
  asm : List DataAsm := []            -- packets from this child
  outNum : Nat := 0                   -- DATA carriage number within the packet being sent
  faultAt : Nat := 0                  -- elapsed time at which FAULT began (R336)
  credit : Tbl Nat := []              -- carriages that the parent has granted, by queue (R335)
  granted : Tbl Nat := []             -- carriages granted to this child and not yet received, by queue (R471)
  timeTrack : Bool := false           -- TRACK bit of the last TIME carriage
deriving DecidableEq, Repr

/-- An ARM that the device holds (R342 to R344). -/
structure ArmSt where
  act : Nat                           -- ACT_PTIME
  id : Nat
  firesMax : Nat
  disarm : Bool
  due : Bool := true                  -- its ACT_PTIME has not been reached yet
  seq : Nat := 0                      -- SEQ under which the parent sent it
  acks : List Nat := []               -- child lanes that have acknowledged
  acked : Bool := false               -- acknowledged to the parent, or completed
deriving DecidableEq, Repr

/-- A configuration switch under way in the cluster (R351 to R353). -/
structure PrepSt where
  act : Nat
  version : Nat
  revert : Bool
  seq : Nat := 0
  answers : List (Nat × Nat × Nat) := []  -- child lane, status, failing device
  own : Nat := 0                      -- this device's answer
  answered : Bool := false
  commit : Bool := false
deriving DecidableEq, Repr

/-- The Trigger Port behind its registers (R316 to R328). -/
structure TpSt where
  tpv : Bool := false                 -- pins
  tpq : Nat := 0
  tpa : Nat := 0
  tpp : Nat := 0
  half0 : Tbl Nat := []               -- the two halves of the answer entries (R319)
  half1 : Tbl Nat := []
  sel : Tbl Bool := []
  fresh : Tbl Nat := []               -- elapsed time, plus 1, at which an update not yet selected reaches the table (R319, R320)
  decisions : Nat := 0                -- decision records since PORST_N (R326)
  lostA : Bool := false               -- the previous ACCEPT, REJECT record was dropped (R269)
  lostR : Bool := false
  edgeAt : Nat := 0                   -- elapsed time of the last TPCLK edge (R316)
  armPend : Option Nat := none        -- ARM acts at the next alignment tick: its T_c (R327)
deriving DecidableEq, Repr

/-- The cluster behind its registers (R329 to R353). -/
structure ClSt where
  link : Tbl LinkSt := []
  arms : List ArmSt := []             -- arms received or issued, oldest first
  armId : Nat := 0                    -- last ARM_ID given out
  inForce : Option ArmSt := none
  fires : Nat := 0                    -- FIREs broadcast under the arm in force
  recent : List Nat := []             -- PTIMEs of the last 64 FIREs broadcast, newest first
  prep : Option PrepSt := none
deriving DecidableEq, Repr


/-- A frequency gate in progress (R367 to R370): sums over its stamps relative to its start, in 2^-32 ns, and over
their event numbers relative to the first. -/
structure GateSt where
  k : Nat                             -- gate number
  start : Nat                         -- its start, PTIME
  steps : Nat                         -- PTIME steps before the channel's gates began (R383)
  n : Nat := 0                        -- stamps
  n0 : Nat := 0                       -- event number of the first
  sn : Int := 0
  st : Int := 0
  snn : Int := 0
  snt : Int := 0
  stt : Int := 0
  fast : Bool := false
  flags : Nat := 0                    -- HOLDOVER and UNSETTLED over its stamps
deriving DecidableEq, Repr

/-- A timing channel behind its registers (R354 to R371). -/
structure TdcSt where
  io : Nat := 0                       -- input standard in force (R354)
  lastEdge : Option Nat := none       -- elapsed time, 2^-48 ns, of the last edge of the selected polarity
  lastStamp : Option Nat := none      -- elapsed time of the last stamped edge (R357)
  lost : Nat := 0                     -- edges not stamped since the previous entry
  qovf : Bool := false
  steps : Nat := 0                    -- PTIME steps up to its last stamp (R383)
  queue : List (Nat × Nat) := []      -- entries of Table 10-2, oldest first, each with the elapsed time of its arrival
  seq : Nat := 0                      -- records so far (R365)
  recLost : Bool := false             -- the previous stamp record was dropped (R269)
  freqLost : Bool := false            -- the previous frequency record was dropped
  gate : Option GateSt := none
deriving DecidableEq, Repr

/-- An entry of the egress stamp FIFO (R376): tag, port, status, PTIME. -/
structure TxStamp where
  tag : Nat
  port : Nat
  status : Nat
  pt : Nat
deriving DecidableEq, Repr


/-- A packet in a stream queue: its header fields (Table 13-3), its body, and what its sender needs of it. -/
structure SqPkt where
  kind : Nat
  poison : Bool := false
  tcb : Bool := false
  num : Nat := 0
  index : Nat := 0
  body : List (BitVec 8)
  time : Nat := 0                     -- PTIME of its first sample, unit or record (R477)
  flags : Nat := 0                    -- record flags of its data (R480)
deriving DecidableEq, Repr

/-- A stream queue behind its registers (spec/13, R466 to R473), with its Ethernet stream (R477 to R480). -/
structure SqSt where
  pkts : List SqPkt := []             -- oldest first
  taken : Nat := 0                    -- bytes of the oldest packet that the drain has taken
  num : Nat := 0                      -- PKT_NUM of the next packet
  raw : List Int := []                -- samples of the raw packet being packed
  rawIdx : Nat := 0                   -- index of the first of them
  rawTime : Nat := 0
  rawFlags : Nat := 0
  rawOn : Bool := false               -- the raw packer runs
  rawWait : Bool := false             -- it starts with the next alignment tick
  emptyAt : Nat := 0                  -- elapsed time since which the queue has been empty
  ident : Nat := 0                    -- IPv4 identification of the next frame (R475)
  countData : Nat := 0                -- VITA packet counts (R477)
  countCtx : Nat := 0
  countExt : Nat := 0
  ctxDue : Bool := false              -- a context packet is due (R479)
  ctxAt : Nat := 0                    -- elapsed time of the last one
  ctxInd : Nat := 0                   -- the indicators that it carried
  ctxRate : Nat := 0                  -- and its Sample Rate, for a raw stream
  sat : Bool := false                 -- a saturated sample since then
  loss : Bool := false                -- a dropped packet since then
  sentFlags : Nat := 0                -- record flags of the data sent since then (R480)
  timed : Nat := 0                    -- timed frame at the head: 0 not judged, 1 waits for LAUNCH, 2 late and to be sent (R378)
  timedSteps : Nat := 0               -- PTIME steps when it was last found before LAUNCH
deriving DecidableEq, Repr

/-- An Ethernet port behind its registers (R474 to R482). -/
structure EthSt where
  busyUntil : Nat := 0                -- elapsed time at which its last frame leaves the wire
  pausedUntil : Nat := 0              -- elapsed time at which a received PAUSE ends
  last : Nat := 31                    -- queue served last (R481)
deriving DecidableEq, Repr


/-- A descriptor that a coach works on (Table 13-2). -/
structure CoDesc where
  idx : Nat                           -- ring index
  host : Nat
  len : Nat
  ctl : Nat                           -- bits [31:0] of byte 0x0C
  dev : Nat
  done : Nat := 0                     -- bytes moved
  poison : Bool := false
  pktEnd : Bool := false
  loss : Bool := false
deriving DecidableEq, Repr

/-- A coach behind its registers (R444 to R465). -/
structure CoSt where
  cur : Option CoDesc := none         -- the descriptor in progress
  links : Nat := 0                    -- consecutive pure links followed (R462)
  readBack : Bool := false            -- a read-back is pending (R451)
  stop : Bool := false                -- STOP waits for the descriptor boundary (R458)
  disabling : Bool := false           -- EN = 0 returns the owned descriptors (R461)
  lossNext : Bool := false            -- the restarted descriptor carries LOSS (R460)
  sqin : List (BitVec 8) := []        -- SQ_IN packet being assembled (R454)
  sqDescs : List CoDesc := []         -- its descriptors, not yet written back
  sqReady : Bool := false             -- it is complete and waits for room
  sqLast : Bool := false              -- its queue was disabled while it came; it still enters (R473)
  resetAt : Option Nat := none        -- control cycle of its last RESET (R459)
deriving DecidableEq, Repr

/-- The arbitration of the coaches (R457). -/
structure ArbSt where
  grant : Nat := 0                    -- number of the next grant, 0 to 15
  last : List Nat := [63, 63, 63, 63] -- coach that each level served last
deriving DecidableEq, Repr

/-- What the timing generator of the raster output is doing (R495 to R503). -/
inductive RsPhase where
  | off | training | porch | blank | active | idle
deriving DecidableEq, Repr

/-- A DENS record on its way to the colour mapper, or in it (R491). -/
structure MapRec where
  region : Nat
  cells : List (BitVec 8)
deriving DecidableEq, Repr

/-- A raster write of a composer (R488): the context and epoch of its frame, the region, the offset in it, its data and END. -/
structure RasterPut where
  ctx : Nat
  epoch : Nat
  info : FoldInfo
  region : Nat
  off : Nat
  secure : Bool
  data : List (BitVec 8)
  end_ : Bool
deriving DecidableEq, Repr

/-- The raster output behind its registers (spec/14). Times are in root cycles. -/
structure RsSt where
  phase : RsPhase := .off
  at_ : Nat := 0                      -- root cycle at which the phase began
  adaptive : Bool := false            -- mode in use
  first : Bool := false               -- front porch before the first picture (R502)
  copied : Bool := false              -- the shadow bank was copied at S
  commitAt : Nat := 0                 -- control cycle in which the pending commit was accepted
  host : Bool := false                -- the pending commit is the host's
  training : Bool := false            -- link training runs
  resume : RsPhase := .off            -- what follows the training: porch after an enable or MODESET, off for a retraining
  crcDone : Nat := 0                  -- check rectangles compared in this frame
  maps : List MapRec := []            -- records on their way to the mapper, oldest first
  map : Option MapRec := none         -- record in the mapper
  mapAt : Nat := 0                    -- root cycle at which it began
  mapCells : Nat := 0                 -- its cells mapped so far, one each fabric cycle
  mapLost : Bool := false             -- part of it fell in a pending commit (R492)
  frameLost : Nat := 0                -- regions whose display frame lost a write (R492)
  held : List RasterPut := []         -- writes held while the block wakes, oldest first (R493)
  checked : Option (Nat × Bool) := none  -- timing that MODESET has checked: RS_LINK to RS_VRATE, and the mode (R503)
  done : Nat := 0                     -- SYNC regions that completed a display frame since the last copy (R501)
deriving DecidableEq, Repr


/-- A housekeeping converter behind its registers (R525 to R530). -/
structure HkConv where
  active : Bool := false              -- its regular sequence runs
  pos : Nat := 0                      -- next entry: 0 HK31, then its table
  inj : List Nat := []                -- injected conversions, oldest first, at most 4
  cal : Bool := false                 -- a self-calibration waits or runs
  calAfter : Nat := 0                 -- injected conversions that go before it (R530)
  zero : Nat := 0                     -- sums of 8 codes of the zero and of the reference in force (R529)
  ref : Nat := 0
  calibrated : Bool := false
  hk31 : Option Int := none           -- corrected HK31 of this sequence
deriving DecidableEq, Repr

/-- The housekeeping behind its registers (R525 to R532). -/
structure HkSt where
  conv : Tbl HkConv := []             -- 0 HKA, 1 HKB
  tmax : Option (Int × Nat) := none   -- highest temperature of this sequence, and its input
  faults : Nat := 0                   -- consecutive plausibility faults
  noCmp : Bool := false               -- a converter calibrated in this sequence
  written : Nat := 0                  -- buffer entries written since PORST_N
  read : Nat := 0                     -- entries that coach 63 has copied (R528)
deriving DecidableEq, Repr

/-- What a power request is doing (R514 to R518). -/
inductive PwrPhase where
  | idle | ask | undo | gate | off | raise
deriving DecidableEq, Repr

/-- The power controller behind its registers (spec/15, R505 to R523, R533). -/
structure PwrSt where
  phase : PwrPhase := .idle
  todo : List Nat := []               -- domains still to ask, to restart or to start, in order
  agreed : List Nat := []             -- domains that have agreed, latest first
  askAt : Option Nat := none          -- elapsed time of the ask that waits for a write queue
  hold : Bool := false                -- LINKP holds the coaches (R514)
  l1 : Bool := false                  -- LINKP is in L1 (R516)
  toP1 : Option Nat := none           -- domain whose access during P2 entry moves the device to P1 (R510)
  lastUse : Tbl Nat := []             -- by domain: elapsed time of its last access or refusal condition in P1 (R509)
  gateWait : List Nat := []           -- domains that are stopped and gate once their replies are out (R26)
  domAsk : Option (Nat × Nat) := none -- a memory domain asked through PWR_DOMCTRL, and the elapsed time (R519)
  padRel : Nat := 0                   -- pad groups released at the next alignment tick (R511)
  avs : Option (Nat × Nat) := none    -- AVSBus write in progress: voltage requested, voltage before (R521)
  vcore : Nat := 750                  -- VDD_CORE as last set, in mV; the regulator starts at 0.75 V (R580)
  thermtrip : Bool := false           -- THERMTRIP_N is low (R533)
  waking : Bool := false              -- a wake from P3 is under way (R520, R522)
  dark : Bool := false                -- every domain except AON is off until PORST_N: a thermal trip, or P4 (R533, R517)
deriving DecidableEq, Repr

/-- The boot behind ID_BOOT (spec/17, R560 to R569). -/
structure BootSt where
  kick : Nat := 0                     -- elapsed time of the last write of ID_WDOG, or of READY (R563)
  kickPt : Nat := 0                   -- PTIME of the last write of ID_WDOG
  warm : Bool := false                -- this boot follows a warm reset (R562)
  resume : Bool := false              -- this boot resumes from P3 (R569)
  svn : Nat := 0                      -- SVN and BURN of the running firmware (R548)
  burn : Bool := false
  fwId : Nat := 0                     -- IMAGE_ID, VERSION and SVN's measurement owner of the running firmware (R551)
  fwVersion : Nat := 0
  halted : Bool := false              -- the boot holds in stage 1 or 3 until PORST_N or a warm reset (R44, R599)
deriving DecidableEq, Repr

/-- A configuration image: the register words of the items, and the contexts that run, the slots that are armed (R552). -/
structure CfgImage where
  regs : Tbl (BitVec 32) := []        -- by BAR0 offset; unlisted words are at their reset values
  run : List Nat := []                -- contexts that run
  armed : List Nat := []              -- slots that are armed
  limits : Tbl (List (BitVec 8)) := []   -- mask limits and user windows by context
  window : Tbl (List (BitVec 8)) := []
deriving DecidableEq, Repr

/-- A slot of the configuration store (R552). -/
structure CfgSlot where
  version : Nat := 0
  image : CfgImage := {}
  ok : Bool := true                   -- its digest matches
deriving DecidableEq, Repr

/-- An item of Table 16-5. -/
inductive CfgItem where
  | slot (n : Nat) | trig | ctx (c : Nat) | chain (n : Nat) | queue (q : Nat) | raster
deriving DecidableEq, Repr

/-- Where an item of a switch stands: its stop is due, its change is due, its change is under way. -/
inductive CfgStage where
  | stop | change | wait
deriving DecidableEq, Repr

/-- The configuration store and a switch on this device (R552 to R559). -/
structure CfgSt where
  slots : Tbl (Option CfgSlot) := []  -- by slot; none: as the flash was delivered
  save : Option (Nat × CfgSlot) := none  -- slot and image that CFG_SAVE writes
  slot : Nat := 0                     -- slot that the switch in progress targets
  secure : Bool := false              -- world of the ring that issued it
  image : CfgImage := {}              -- its target
  items : List (CfgItem × CfgStage) := []  -- items that differ and have not changed over
  acting : Bool := false              -- ACT_PTIME has passed
  failed : Bool := false              -- CFG_FAIL holds the first item that failed in this switch
deriving DecidableEq, Repr

/-- The whole state of the device. -/
structure State where
  regs : Tbl (BitVec 32) := []      -- register words by BAR0 offset; default: the reset value (R576)
  fence : FenceSt := {}
  clk : ClkSt := {}
  host : HostSt := {}
  sec : SecSt := {}
  mem : MemSt := {}
  adc : Tbl AdcSt := []             -- by input channel
  dac : Tbl DacSt := []             -- by output channel
  fch : Tbl FchSt := []             -- by filter chain
  fab : FabSt := {}
  ctx : Tbl CtxSt := []             -- by analysis context
  trg : TrgSt := {}
  acq : Tbl AcqSt := []             -- by acquisition slot
  tp : TpSt := {}
  cl : ClSt := {}
  tdc : Tbl TdcSt := []             -- by timing input
  txts : List TxStamp := []         -- egress stamp FIFO, oldest first (R376)
  rxLost : Tbl Bool := []           -- the previous received-frame record was dropped, by 16 × PRODUCT + port (R269)
  eth : Tbl EthSt := []             -- by Ethernet port
  sq : Tbl SqSt := []               -- by stream queue
  co : Tbl CoSt := []               -- by coach
  arb : ArbSt := {}
  rs : RsSt := {}
  hk : HkSt := {}
  pwr : PwrSt := {}
  boot : BootSt := {}
  cfg : CfgSt := {}
  out : List Msg := []              -- what has left the device, oldest first
  sets : Tbl Nat := []              -- by word offset: bits that the device has set in the present control cycle (R9)
  freeCtr : Nat := 0                -- the model's own: index of the next free value
  pending : List Instr := []        -- the commands that wait, first in first out
deriving DecidableEq, Repr

/-- Why the device stops with a fault. -/
inductive Fault where
  /-- Raised by no command of this model: the spec gives the device no state in which it stops. Safe. -/
  | halted
deriving DecidableEq, Repr

/-- Why a command has no meaning. -/
inductive Refusal where
  /-- The command of the table with this mnemonic is not modelled yet; raised by its arm in Dispatch. Safe. -/
  | notModelled (mnemonic : String)
deriving DecidableEq, Repr

/-- The device right after PORST_N: every register at its reset value, every memory and queue empty. -/
def State.reset : State := {}

/-- The outcome of a command. -/
abbrev Out := Host.Outcome State Fault Refusal

end Sys2Proof.Machine
end

