-- ==== Sys2Proof/Machine/Ops.lean ====
section
/-!
DEFINITION. The named operations that every family uses: register words and fields, counters, PTIME, messages, free
values, fence blocks and epochs, worlds and refused accesses, the error log, MSI-X vectors.
-/
namespace Sys2Proof.Machine

/-! ## Registers -/

/-- The register word at a BAR0 offset. -/
def State.word (s : State) (off : Nat) : BitVec 32 := tget resetWord s.regs off

/-- The state with the register word at `off` replaced. -/
def State.setWord (s : State) (off : Nat) (w : BitVec 32) : State := { s with regs := tset resetWord s.regs off w }

/-- The value of `n` words from `off`, the first the least significant (R2). -/
def State.wordsAt (s : State) (off : Nat) : Nat → Nat
  | 0 => 0
  | n + 1 => (s.word off).toNat + 2 ^ 32 * State.wordsAt s (off + 4) n

/-- The state with `n` words from `off` holding the value `v`. -/
def State.setWordsAt (s : State) (off : Nat) : Nat → Nat → State
  | 0, _ => s
  | n + 1, v => State.setWordsAt (s.setWord off (BitVec.ofNat 32 v)) (off + 4) n (v / 2 ^ 32)

/-- The first word that the field touches. -/
def Fld.base (x : Fld) : Nat := x.off + 4 * (x.lo / 32)

/-- The number of words that the field touches. -/
def Fld.words (x : Fld) : Nat := (x.lo % 32 + x.wd + 31) / 32

/-- The same field at an offset `d` further on: an active mirror or another instance (R8). -/
def Fld.shift (x : Fld) (d : Nat) : Fld := { x with off := x.off + d }

/-- Bit `i` of a field, as a field. -/
def Fld.bit (x : Fld) (i : Nat) : Fld := { off := x.off, lo := x.lo + i, wd := 1 }

/-- The value of a register field (R3). -/
def State.f (s : State) (x : Fld) : Nat := bitsOf (s.wordsAt x.base x.words) (x.lo % 32) x.wd

/-- The state with a register field set; the word's other bits keep their values. -/
def State.setF (s : State) (x : Fld) (v : Nat) : State :=
  s.setWordsAt x.base x.words (putBits (s.wordsAt x.base x.words) (x.lo % 32) x.wd v)

/-- A one-bit field, or whether a field is not zero. -/
def State.flag (s : State) (x : Fld) : Bool := s.f x != 0

/-- Notes that the device sets a bit in the present control cycle, so that a clear of it that the host writes in the same cycle
has no effect (R9). -/
def State.noteSet (s : State) (x : Fld) : State :=
  { s with sets := tset (fun _ => 0) s.sets x.base (tget (fun _ => 0) s.sets x.base ||| 2 ^ (x.lo % 32)) }

/-- The state with a one-bit field set or cleared by the device. -/
def State.setB (s : State) (x : Fld) (b : Bool) : State := if b then (s.setF x 1).noteSet x else s.setF x 0

/-- The signed value of a field. -/
def State.fi (s : State) (x : Fld) : Int := sext x.wd (s.f x)

/-- The state with a field set to the two's complement of an integer. -/
def State.setFi (s : State) (x : Fld) (i : Int) : State := s.setF x (wrapInt x.wd i)

/-- A counter field that saturates. -/
def State.addSat (s : State) (x : Fld) (k : Nat) : State := s.setF x (min (s.f x + k) (2 ^ x.wd - 1))

/-- A counter field that saturates, one up. -/
def State.incSat (s : State) (x : Fld) : State := s.addSat x 1

/-- A counter field that wraps. -/
def State.addWrap (s : State) (x : Fld) (k : Nat) : State := s.setF x ((s.f x + k) % 2 ^ x.wd)

/-- The state with the words from offset `lo` up to `hi` back at their reset values. -/
def State.resetRegs (s : State) (lo hi : Nat) : State := { s with regs := tclear s.regs lo hi }

/-! ## Status codes (Table 12-5, R443) -/

def stOk : Nat := 0x00
def stPartial : Nat := 0x01
def stSuperseded : Nat := 0x02
def stBadOpcode : Nat := 0x10
def stBadParam : Nat := 0x11
def stBadWorld : Nat := 0x12
def stRefusedCapacity : Nat := 0x20
def stRefusedSize : Nat := 0x21
def stRefusedBusy : Nat := 0x22
def stRefusedPower : Nat := 0x23
def stTargetReset : Nat := 0x30
def stTargetOffline : Nat := 0x31
def stTimeout : Nat := 0x40
def stLinkLoop : Nat := 0x41
def stHostNoresp : Nat := 0x42
def stOverrun : Nat := 0x43
def stPoison : Nat := 0x50
def stMachineCheck : Nat := 0x51
def stSigInvalid : Nat := 0x60
def stRollbackDenied : Nat := 0x61
def stCancelled : Nat := 0x70

/-! ## Messages and free values -/

/-- Whether the PCIe endpoint is gated or wakes, so that nothing leaves for the host (R517). -/
def State.hostOff (s : State) : Bool :=
  match tget (fun _ => BlkState.running) s.fence.st 0x66 with
  | .gated | .waking => true
  | _ => false

/-- Whether the pads that a message would leave by are held (R511, Table 15-3), or the endpoint is gated. -/
def State.padHeld (s : State) : Msg → Bool
  | .ppsOut _ _ => bitOf (s.f R.PWR_PADHOLD_GROUPS) 8
  | .trigOut _ _ _ _ => bitOf (s.f R.PWR_PADHOLD_GROUPS) 1
  | .codeword k _ _ => bitOf (s.f R.PWR_PADHOLD_GROUPS) (4 + k / 4)
  | .frame p _ _ => bitOf (s.f R.PWR_PADHOLD_GROUPS) (4 + p / 4)
  | .readReply _ _ _ _ | .unsupported _ _ | .hostWrite _ _ | .msix _ _ _ _ => s.hostOff
  | _ => false

/-- The state after the device sends a message; held pads and a gated endpoint send nothing. -/
def State.emit (s : State) (m : Msg) : State := if s.padHeld m then s else { s with out := s.out ++ [m] }

/-- The index of a fresh free value. -/
def State.fresh (s : State) : Nat := s.freeCtr

/-- The state with its free value used up. -/
def State.next (s : State) : State := { s with freeCtr := s.freeCtr + 1 }

/-! ## PTIME (R55, R56) -/

/-- One nanosecond in units of 2^-48 ns. -/
def nsUnit : Nat := 2 ^ 48

/-- One second in units of 2^-48 ns. -/
def secUnit : Nat := 1000000000 * 2 ^ 48

/-- The span of PTIME: its seconds field has 64 bits. -/
def ptimeSpan : Nat := 2 ^ 64 * secUnit

/-- Seconds, nanoseconds and fraction of a PTIME in 2^-48 ns. -/
def ptSec (t : Nat) : Nat := t / secUnit % 2 ^ 64
def ptNs (t : Nat) : Nat := t / nsUnit % 1000000000
def ptFrac (t : Nat) : Nat := t % nsUnit / 2 ^ 16

/-- A PTIME from its fields. -/
def ptMake (sec ns frac : Nat) : Nat := (sec * secUnit + ns * nsUnit + frac * 2 ^ 16) % ptimeSpan

/-- PTIME as its 128-bit word: seconds, nanoseconds, fraction. -/
def pt128 (t : Nat) : Nat := ptSec t * 2 ^ 64 + ptNs t * 2 ^ 32 + ptFrac t

/-- A PTIME from its 128-bit word. -/
def ptOf128 (w : Nat) : Nat := ptMake (w / 2 ^ 64 % 2 ^ 64) (w / 2 ^ 32 % 2 ^ 32) (w % 2 ^ 32)

/-- The device's PTIME. -/
def State.now (s : State) : Nat := s.clk.ptime

/-- Whether the present control cycle begins with an alignment tick: every second one since the dividers released (R12, Table
1-2). -/
def State.atTick (s : State) : Bool := s.clk.released && s.clk.cycles % 2 == 0

/-- The PTIME millisecond that contains a time. -/
def ptMs (t : Nat) : Nat := t / (1000000 * nsUnit)

/-- Four registers that hold a PTIME: fraction, nanoseconds, seconds low and high. -/
def State.ptimeAt (s : State) (off : Nat) : Nat := ptOf128 (s.wordsAt off 4)

/-- The state with a PTIME written to four registers. -/
def State.setPtimeAt (s : State) (off : Nat) (t : Nat) : State := s.setWordsAt off 4 (pt128 t)

/-- A PTIME step by a signed number of 2^-48 ns (R383). -/
def State.stepPtime (s : State) (d : Int) : State :=
  let p := (((s.clk.ptime : Int) + d) % (ptimeSpan : Int)).toNat
  { s with clk := { s.clk with ptime := p, steps := s.clk.steps + 1, stepLog := (s.clk.ptime, p) :: s.clk.stepLog } }

/-! ## Ownership and worlds (R534 to R539, Table 16-1) -/

/-- What a register belongs to. -/
inductive Owner where
  | block (b : Nat) | ring (k : Nat) | group (g : Nat)
deriving DecidableEq, Repr

/-- The owner of the BAR0 register at an offset (Table 16-1). -/
def ownerOf (off : Nat) : Owner :=
  if off < 0x10000 then .block 0x00
  else if off < 0x20000 then .block 0x01
  else if off < 0x30000 then .block 0x0E
  else if off < 0x40000 then .block 0x01
  else if off < 0x41000 then .block 0x02
  else if off < 0x50000 then .block (0x02 + (off - 0x41000) / 0x1000 % 8)
  else if off < 0x60000 then .block (0x0A + (off - 0x50000) / 0x1000 % 4)
  else if off < 0x80000 then .block 0x0F
  else if off < 0x90000 then .block (0x10 + (off - 0x80000) / 0x1000)
  else if off < 0x100000 then .block 0x00
  else if off < 0x180000 then .block (0x20 + (off - 0x100000) / 0x4000)
  else if off < 0x200000 then .block 0x20
  else if off < 0x400000 then .group ((off - 0x200000) / 0x200 / 64)
  else if off < 0x410000 then .block 0x60
  else if off < 0x480000 then .block 0x61
  else if off < 0x4C0000 then .block 0x62
  else if off < 0x4C0100 then .block 0x67
  else if off < 0x500000 then .block (0x67 + (off - 0x4C0100) / 0x100 % 4)
  else if off < 0x501000 then .block 0x64
  else if off < 0x502000 then .block 0x64
  else if off < 0x503000 then .block 0x65
  else if off < 0x580000 then .block 0x64
  else if off < 0x581000 then .block 0x00
  else if off < 0x584000 then .block (0x80 + (off - 0x581000) / 0x40 % 64)
  else if off < 0x600000 then .block (0xC0 + (off - 0x584000) / 0x40 % 32)
  else if off < 0x601000 then .block 0x00
  else if off < 0x601400 then .ring ((off - 0x601000) / 0x40)
  else if off < 0x680000 then .block 0x00
  else if off < 0x680010 then .block 0x67
  else if off < 0x680020 then .block (0x67 + (off - 0x680010) / 4)
  else if off < 0x680100 then .block 0x67
  else if off < 0x681000 then .block (0x67 + (off - 0x680100) / 0x100 % 4)
  else if off < 0x700000 then .block (0xC0 + (off - 0x681000) / 0x100 % 32)
  else if off < 0x780000 then .block 0x6B
  else if off < 0x7C0004 then .block 0x00
  else if off < 0x7C1000 then .block 0x6C
  else if 0x1080000 ≤ off && off < 0x1090000 then .block (0x10 + (off - 0x1080000) / 0x1000)
  else .block 0x00

/-- Whether fence block `b` belongs to the secure world (R535, R538). -/
def State.blockSecure (s : State) (b : Nat) : Bool :=
  s.flag R.SEC_STATUS_PF1_EN && (b == 0x6C || s.flag ((R.SEC_WORLD (b / 32)).bit (b % 32)))

/-- Whether ring `k` belongs to the secure world. -/
def State.ringSecure (s : State) (k : Nat) : Bool := s.flag (R.HI_RING_CTRL_WORLD k)

/-- Whether context `c` belongs to the secure world. -/
def State.ctxSecure (s : State) (c : Nat) : Bool := s.flag ((R.SEC_CTXW (c / 64 / 32)).bit (c / 64 % 32))

/-- Whether an object belongs to the secure world. -/
def State.ownerSecure (s : State) : Owner → Bool
  | .block b => s.blockSecure b
  | .ring k => s.ringSecure k
  | .group g => s.ctxSecure (64 * g)

/-- Whether an access through function `pf` to a register is refused by world (R538). -/
def State.worldRefused (s : State) (pf off : Nat) : Bool := pf == 0 && s.ownerSecure (ownerOf off)

/-! ## MSI-X (R416, R431) -/

/-- The reset value of the MSI-X table word at key `function × 4096 + offset`: every vector masked. -/
def msixReset (k : Nat) : BitVec 32 := if k % 16 = 12 then 1 else 0

/-- The word of an MSI-X table. -/
def State.msixWord (s : State) (fn off : Nat) : BitVec 32 := tget msixReset s.host.msix (fn * 4096 + off)

/-- Signals a vector in a function: a message, or the pending bit while the vector is masked (R416). -/
def State.raise (s : State) (fn vec : Nat) : State :=
  if (s.msixWord fn (16 * vec + 12)).getLsbD 0 then
    { s with host := { s.host with pba := tset (fun _ => false) s.host.pba (fn * 256 + vec) true } }
  else
    s.emit (.msix fn vec ((s.msixWord fn (16 * vec)).toNat + 2 ^ 32 * (s.msixWord fn (16 * vec + 4)).toNat)
      (s.msixWord fn (16 * vec + 8)).toNat)

/-- Signals a vector in the function of a block's world (R416). -/
def State.raiseBlk (s : State) (b vec : Nat) : State := s.raise (if s.blockSecure b then 1 else 0) vec

/-! ## Fence blocks (R19 to R30) -/

/-- The state of a fence block. -/
def State.blk (s : State) (b : Nat) : BlkState := tget (fun _ => .running) s.fence.st b

/-- Sets the state of a fence block. -/
def State.setBlk (s : State) (b : Nat) (v : BlkState) : State :=
  { s with fence := { s.fence with st := tset (fun _ => .running) s.fence.st b v } }

/-- The epoch field of a fence block (ID_EPOCHn). -/
def epochFld (b : Nat) : Fld := { off := 0x100 + 4 * (b / 4), lo := 8 * (b % 4), wd := 8 }

/-- The epoch of a fence block. -/
def State.epoch (s : State) (b : Nat) : Nat := s.f (epochFld b)

/-- Whether a number names a block of Table 1-7. -/
def isBlock (b : Nat) : Bool := decide (b ≤ 0x6C) || (decide (0x80 ≤ b) && decide (b ≤ 0xDF))

/-- Answers every accepted request of a block with a status, tagged with the block's present epoch (R21). -/
def State.answerAll (s : State) (b status : Nat) : State :=
  { s with fence := { s.fence with
      accepted := s.fence.accepted.filter (fun r => r.block != b)
      replies := s.fence.replies ++ (s.fence.accepted.filter (fun r => r.block == b)).map (fun r => (r, status)) } }

/-- Fence entry (R20, R21): the accepted requests are answered TARGET_RESET with the old epoch, the block enters
FENCED or OFFLINE, and its epoch goes up by one modulo 256. At entry to OFFLINE the status is TARGET_RESET too: the exception of R20
is that of R22, which speaks of requests that arrive later. -/
def State.fenceEnter (s : State) (b : Nat) (st : BlkState) : State :=
  let s1 := (s.answerAll b stTargetReset).setBlk b st
  ({ s1 with fence := { s1.fence with leaving := tset (fun _ => false) s1.fence.leaving b false } } : State).addWrap (epochFld b) 1

/-- Whether replies tagged with an earlier epoch of a block are in flight (R26). -/
def State.repliesOut (s : State) (b : Nat) : Bool := s.fence.replies.any (fun r => r.1.block == b && r.1.epoch != s.epoch b)

/-- The block reset of block `b` that ID_BRESET asked for ends with a status (R571). -/
def State.bresetEnd (s : State) (b status : Nat) : State :=
  if s.fence.breset == some b then
    (({ s with fence := { s.fence with breset := none } } : State).setB R.ID_BRESET_STATUS_BUSY false).setF R.ID_BRESET_STATUS_RESULT status
  else s

/-- A block becomes RUNNING again. -/
def State.blkLeft (s : State) (b : Nat) : State := (s.setBlk b .running).bresetEnd b stOk

/-- A block leaves FENCED or OFFLINE, or is marked to leave once its replies are out (R26). -/
def State.fenceLeave (s : State) (b : Nat) : State :=
  let out := s.repliesOut b
  let s1 := { s with fence := { s.fence with leaving := tset (fun _ => false) s.fence.leaving b out } }
  if out then s1 else s1.blkLeft b

/-- Fence entry and exit in one action, for a reset that completes within the command that asks for it (R20, R26). -/
def State.fencePulse (s : State) (b : Nat) : State := (s.fenceEnter b .fenced).fenceLeave b

/-- Whether a block serves requests. -/
def State.isRunning (s : State) (b : Nat) : Bool := s.blk b == .running

/-- What an event inside block `b` does: nothing while the block does not run (R20, R506). -/
def State.whileRunning (s : State) (b : Nat) (t : State) : Out := .next (if s.isRunning b then t else s)

/-- Whether a block is FENCED or OFFLINE. -/
def State.isFenced (s : State) (b : Nat) : Bool := s.blk b == .fenced || s.blk b == .offline

/-- Whether a block may not leave FENCED yet, with replies of an earlier epoch out (R26). -/
def State.unsettled (s : State) (b : Nat) : Bool := s.isFenced b && s.repliesOut b

/-! ## Error log (R573 to R575) -/

/-- Writes an entry to the error log ring (Table 17-6), unless the entry is limited under R575. -/
def State.errLog (s : State) (type sev block code : Nat) (detail : List Nat) : State :=
  let key := type * 256 + block
  let ms := ptMs s.now + 1
  if sev < 2 && tget (fun _ => 0) s.sec.errMs key == ms then s.incSat R.ID_ERRLOG_LOST
  else
    let n := s.f R.ID_ERRLOG_HEAD_INDEX
    let seq := s.f R.ID_ERRLOG_HEAD
    let base := 0x1000 + 64 * n
    let s1 := s.setWordsAt base 1 (type + 2 ^ 8 * sev + 2 ^ 16 * block + 2 ^ 24 * s.epoch block)
    let s2 := s1.setPtimeAt (base + 8) s.now
    let s3 := s2.setWordsAt (base + 24) 2 code
    let s4 := s3.setWordsAt (base + 32) 8 ((detail.take 8).foldr (fun d acc => d % 2 ^ 32 + 2 ^ 32 * acc) 0)
    let s5 := s4.setWordsAt (base + 4) 1 seq
    let s6 := s5.setF R.ID_ERRLOG_HEAD ((seq + 1) % 2 ^ 32)
    let s7 := if 256 ≤ seq then s6.incSat R.ID_ERRLOG_LOST else s6
    let s8 := if sev < 2 then { s7 with sec := { s7.sec with errMs := tset (fun _ => 0) s7.sec.errMs key ms } } else s7
    if 2 ≤ sev then s8.raiseBlk 0 (s8.f R.ID_ERRLOG_CTRL_VEC) else s8

/-- Counts and logs a refused access (R544): source, kind (0 register, 1 to 4 the spaces), direction, address. -/
def State.logRefused (s : State) (src kind : Nat) (write : Bool) (addr : Nat) : State :=
  let i := s.f R.SEC_REFLOG_HEAD_INDEX
  let low := src + 2 ^ 8 * kind + 2 ^ 11 * (if write then 1 else 0)
  let entry := low + 2 ^ 32 * ptNs s.now + 2 ^ 64 * addr
  let s1 := (s.incSat R.SEC_REF_COUNT).setWordsAt (0x7C0100 + 16 * i) 4 entry
  let s2 := s1.setF R.SEC_REFLOG_HEAD_INDEX ((i + 1) % 16)
  let ms := ptMs s.now + 1
  if tget (fun _ => 0) s.sec.refMs src == ms then s2
  else
    let s3 := { s2 with sec := { s2.sec with refMs := tset (fun _ => 0) s2.sec.refMs src ms } }
    s3.errLog 0x05 1 0x6C 0 [low, ptNs s.now, addr % 2 ^ 32, addr / 2 ^ 32]

/-! ## Memory regions (R540) -/

/-- Whether entry `e` of the region table is enabled, covers space `sp` and marks its bytes secure. -/
def State.secureEntry (s : State) (sp e : Nat) : Bool :=
  s.flag (R.SEC_REGION_CFG_EN e) && s.f (R.SEC_REGION_CFG_SPACE e) == sp && s.flag (R.SEC_REGION_CFG_WORLD e)

/-- Base and end of entry `e` of the region table, in bytes. A SIZE is never zero (R540), so LEN 0 is the whole of the capture
memory, one unit more than the field can show. -/
def State.entryBase (s : State) (e : Nat) : Nat := 4096 * s.f (R.SEC_REGION_BASE_ADDR e)
def State.entryEnd (s : State) (e : Nat) : Nat := s.entryBase e + (if s.f (R.SEC_REGION_SIZE_LEN e) == 0 then 2 ^ 35 else 4096 * s.f (R.SEC_REGION_SIZE_LEN e))

/-- Whether some byte of a range is secure. -/
def State.rangeSecure (s : State) (sp base len : Nat) : Bool :=
  (List.range 64).any (fun e => s.secureEntry sp e && decide (s.entryBase e < base + len) && decide (base < s.entryEnd e))

/-- Whether a byte is secure (R540): a byte that no enabled entry covers is not. -/
def State.byteSecure (s : State) (sp a : Nat) : Bool := s.rangeSecure sp a 1

/-- The number of bytes of a range that enabled secure entries cover; enabled entries do not overlap (R541). -/
def State.secureBytes (s : State) (sp base len : Nat) : Nat :=
  (List.range 64).foldl (fun n e =>
    if s.secureEntry sp e then n + (min (s.entryEnd e) (base + len) - max (s.entryBase e) base) else n) 0

/-- Whether some byte of a range is non-secure. -/
def State.rangeOpen (s : State) (sp base len : Nat) : Bool := decide (s.secureBytes sp base len < len)

/-! ## Marks -/

/-- Adds a mark, joined to the latest when it follows it with the same flags. -/
def addMark (m : Mark) : List Mark → List Mark
  | [] => [m]
  | h :: t => if h.flags == m.flags && h.hi + 1 == m.lo then { h with hi := m.hi } :: t else m :: h :: t

/-- The flags that a list of marks gives to a span. -/
def marksFlags (ms : List Mark) (lo hi : Nat) : Nat :=
  ms.foldl (fun acc x => if x.lo ≤ hi && lo ≤ x.hi then acc ||| x.flags else acc) 0

/-! ## What is in use -/

/-- The contexts that are not STOPPED (Table 7-2); an unlisted state word reads STOPPED. -/
def State.busyCtxs (s : State) : List Nat :=
  s.regs.filterMap (fun p =>
    if 0x200000 ≤ p.1 && p.1 < 0x380000 && p.1 % 0x200 == 0x100 && p.2.toNat % 8 != 0
    then some ((p.1 - 0x200000) / 0x200) else none)

/-- The STATE of a context (Table 7-2): 0 STOPPED, 1 STARTING, 2 RUNNING, 3 STOPPING, 4 FAULT. -/
def State.ctxState (s : State) (c : Nat) : Nat := s.f (R.CTX_STATE_STATE c)

/-- The contexts that are STARTING, RUNNING or STOPPING. -/
def State.liveCtxs (s : State) : List Nat := s.busyCtxs.filter (fun c => s.ctxState c != 4)

/-- An acquisition slot. -/
def State.acqN (s : State) (n : Nat) : AcqSt := tget (fun _ => {}) s.acq n

/-- Whether acquisition slot `n` is pending: armed and about to start, or in any state except IDLE, DONE and STOPPED
(R301). -/
def State.slotPending (s : State) (n : Nat) : Bool :=
  let st := s.f (R.ACQ_STATUS_STATE n)
  (1 ≤ st && st ≤ 4) || (s.acqN n).starting

end Sys2Proof.Machine
end

