-- ==== Sys2Proof/Machine/Domains.lean ====
section
/-!
DEFINITION. Power domains and their fence blocks (Table 15-2), and the wake of a gated domain on access
(spec/15_power_and_health.md, R506 to R510; spec/01, R23).
-/
namespace Sys2Proof.Machine

/-- The fence blocks of a domain (Table 15-2). -/
def domBlocks (d : Nat) : List Nat :=
  if d == 1 then [0x00, 0x0F, 0x6C] ++ (List.range 32).map (· + 0xC0)
  else if d == 2 then [0x01]
  else if 3 ≤ d && d ≤ 6 then [2 * d - 4, 2 * d - 3]
  else if d == 7 then [0x0A, 0x0B, 0x0C, 0x0D]
  else if 8 ≤ d && d ≤ 11 then (List.range 4).map (· + (4 * d - 16))
  else if d == 12 || d == 13 then [0x58 + d]
  else if d == 14 then 0x66 :: (List.range 64).map (· + 0x80)
  else if 15 ≤ d && d ≤ 18 then [0x58 + d]
  else if d == 19 then [0x6B]
  else if d == 20 then [0x0E, 0x60, 0x61, 0x62, 0x63]
  else if 32 ≤ d && d ≤ 63 then [d]
  else if 64 ≤ d && d ≤ 95 then [d]
  else []

/-- The domains that a target below P1 turns off, and that DOMCTRL and P1 may gate, in the order of R514: all but AON,
CTRL, CLK and LINKP. -/
def domOrder : List Nat :=
  [19] ++ (List.range 64).map (· + 32) ++ [8, 9, 10, 11, 7, 20, 3, 4, 5, 6, 15, 16, 17, 18, 12, 13]

/-- The domain of a fence block; 0 for a number that names none. -/
def domOf (b : Nat) : Nat := ((List.range 96).find? (fun d => (domBlocks d).contains b)).getD 0

/-- PWR_DOMSTATEn of a domain: 0 ON, 1 GATED, 2 WAKING, 3 STOPPED. -/
def domFld (d : Nat) : Fld := { off := 0x780040 + 4 * (d / 16), lo := 2 * (d % 16), wd := 2 }

def dOn : Nat := 0
def dGated : Nat := 1
def dWaking : Nat := 2
def dStopped : Nat := 3

/-- The state of a domain. -/
def State.domState (s : State) (d : Nat) : Nat := s.f (domFld d)

/-- Sets the state of a domain. -/
def State.setDom (s : State) (d v : Nat) : State := s.setF (domFld d) v

/-- Records a wake source (R520, Table 15-4). -/
def State.lastWake (s : State) (code detail : Nat) : State :=
  ((s.setF R.PWR_LASTWAKE_CODE code).setF R.PWR_LASTWAKE_DETAIL detail).setPtimeAt (R.PWR_LASTWAKE_PTIME 0).off s.now

/-- The blocks of a domain take a state; a forge out of service stays OFFLINE. -/
def State.moveBlks (s : State) (d : Nat) (b : BlkState) : State :=
  (domBlocks d).foldl (fun (t : State) x => if t.blk x == .offline then t else t.setBlk x b) s

/-- The blocks of a domain run again; a FENCED one once its replies are out (R26), and a forge out of service stays OFFLINE. -/
def State.runBlks (s : State) (d : Nat) : State :=
  (domBlocks d).foldl (fun (t : State) x =>
    if t.blk x == .offline then t else if t.blk x == .fenced then t.fenceLeave x else t.setBlk x .running) s

/-- A gated domain starts to power up (R23, R507). -/
def State.startDomain (s : State) (d : Nat) : State :=
  if s.domState d == dGated && !s.pwr.dark then (s.setDom d dWaking).moveBlks d .waking else s

/-- An access reaches a domain: a gated one wakes, and in P2 the device moves to P1 once no entry runs (R507, R509,
R510). -/
def State.wakeDomain (s : State) (d : Nat) : State :=
  let used := { s with pwr := { s.pwr with lastUse := tset (fun _ => 0) s.pwr.lastUse d s.clk.elapsed } }
  if s.domState d != dGated || s.pwr.dark then used
  else
    let s1 := used.startDomain d
    let st := s.f R.PWR_STATUS_STATE
    if s.pwr.phase != .idle && s.f R.PWR_STATUS_TARGET == 2 then { s1 with pwr := { s1.pwr with toP1 := some d } }
    else if st == 1 then s1.lastWake 3 d
    else if st == 2 then
      let s2 := (s1.lastWake 3 d).setF R.PWR_STATUS_STATE 1
      { s2 with pwr := { s2.pwr with hold := false, l1 := false } }
    else s1

/-- An access reaches a fence block. -/
def State.wakeBlk (s : State) (b : Nat) : State := s.wakeDomain (domOf b)

end Sys2Proof.Machine
end

