-- ==== Sys2Proof/Machine/HostOps.lean ====
section
/-!
DEFINITION. Command rings: fetching and starting a command, completion entries, deferred and long commands
(spec/12_host_interface_and_commands.md, R423 to R443).
-/
namespace Sys2Proof.Machine

/-- States of HI_RINGk_STATUS.STATE. -/
def ringDisabled : Nat := 0
def ringRunning : Nat := 1
def ringHalted : Nat := 2
def ringDraining : Nat := 3

/-- The number of command entries of a ring (R423). -/
def State.cmdSize (s : State) (k : Nat) : Nat := 2 ^ s.f (R.HI_RING_SIZE_CMD_LOG2 k)

/-- The number of completion entries of a ring (R423). -/
def State.cplSize (s : State) (k : Nat) : Nat := 2 ^ s.f (R.HI_RING_SIZE_CPL_LOG2 k)

/-- Whether the completion ring has no free entry (R430). -/
def State.cplFull (s : State) (k : Nat) : Bool :=
  (s.f (R.HI_RING_CPTR_CTAIL k) + 1) % s.cplSize k == s.f (R.HI_RING_CPTR_CHEAD k)

end Sys2Proof.Machine

namespace Sys2Proof

open Sys2Proof.Machine

/-- The flags of a command entry (Table 12-2). -/
def CmdEntry.irq (e : CmdEntry) : Bool := e.flags.getLsbD 0
def CmdEntry.progress (e : CmdEntry) : Bool := e.flags.getLsbD 1
def CmdEntry.order (e : CmdEntry) : Bool := e.flags.getLsbD 2
def CmdEntry.plog2 (e : CmdEntry) : Nat := bitsOf e.flags.toNat 4 4

/-- Parameter `i` of a command entry; unused words are 0. -/
def CmdEntry.param (e : CmdEntry) (i : Nat) : Nat := ((e.params[i]?).getD 0).toNat

/-- The entry's reserved bits are zero: FLAGS outside Table 12-2, the reserved word, and parameter bits outside the
masks that Table 12-4 gives the command (R438). -/
def CmdEntry.clean (e : CmdEntry) (masks : List Nat) : Bool :=
  e.flags &&& 0xFF08 == 0 && e.rsv == 0
  && (List.range 7).all (fun i => e.param i &&& (2 ^ 64 - 1 - (masks[i]?).getD 0) == 0)

/-- Host memory that the `i`-th pointer parameter of a command reads. -/
def Fetch.read (f : Fetch) (i : Nat) : HostRead := (f.reads[i]?).getD none

end Sys2Proof

namespace Sys2Proof.Machine

/-- Writes one completion entry as its two posted writes and signals the vector (R429, R431, Table 12-3). -/
def State.writeCpl (s : State) (k : Nat) (w : WaitCpl) : State :=
  let ct := s.f (R.HI_RING_CPTR_CTAIL k)
  let ph := s.f (R.HI_RING_CPTR_PHASE k)
  let a := s.f (R.HI_RING_CBASE k) + 16 * ct
  let steps := min w.steps 0xFFFF
  let hi := leBytes 2 steps ++ leBytes 2 (s.f (R.HI_RING_PTR_HEAD k)) ++ leBytes 8 w.result
  let lo := leBytes 2 w.tag.toNat ++ leBytes 1 w.status ++ leBytes 1 ph
  let ct' := (ct + 1) % s.cplSize k
  let s1 := (s.emit (.hostWrite (a + 4) hi)).emit (.hostWrite a lo)
  let s2 := (s1.setF (R.HI_RING_CPTR_CTAIL k) ct').setF (R.HI_RING_CPTR_PHASE k) (if ct' = 0 then 1 - ph else ph)
  if w.irq then s2.raise (if s2.ringSecure k then 1 else 0) (s2.f (R.HI_RING_CTRL_VEC k)) else s2

/-- Writes a completion of ring `k`: discarded when the ring is disabled (R440), kept waiting with CPL_FULL when the
ring of entries is full and the entry final, dropped when it is full and the entry PARTIAL (R430). -/
def State.complete (s : State) (k : Nat) (tag : BitVec 16) (irq : Bool) (status steps result : Nat) : State :=
  let w : WaitCpl := { ring := k, tag := tag, irq := irq, status := status, steps := steps, result := result }
  let st := s.f (R.HI_RING_STATUS_STATE k)
  if st == ringDisabled || st == ringDraining then s
  else if s.cplFull k || s.host.waiting.any (fun x => x.ring == k) then
    if status == stPartial then s
    else ({ s with host := { s.host with waiting := s.host.waiting ++ [w] } } : State).setB (R.HI_RING_STATUS_CPL_FULL k) true
  else s.writeCpl k w

/-- Writes the waiting completions of ring `k` while there is room (R430). -/
def State.drainCpl (s : State) (k : Nat) : Nat → State
  | 0 => s
  | n + 1 =>
    match s.host.waiting.find? (fun x => x.ring == k) with
    | none => s.setB (R.HI_RING_STATUS_CPL_FULL k) false
    | some w =>
      if s.cplFull k then s
      else State.drainCpl (({ s with host := { s.host with waiting := s.host.waiting.erase w } } : State).writeCpl k w) k n

/-- HI_WORK shows the commands in progress (R434). -/
def State.syncWork (s : State) : State :=
  (s.setF R.HI_WORK_LONG s.host.longs.length).setF R.HI_WORK_DEFERRED s.host.defs.length

/-- Whether any started command of ring `k` is still in progress. -/
def State.ringBusy (s : State) (k : Nat) : Bool :=
  s.host.longs.any (fun c => c.ring == k) || s.host.defs.any (fun c => c.ring == k)

/-- A DRAINING ring becomes DISABLED once none of its commands remain (R440). -/
def State.drainRing (s : State) (k : Nat) : State :=
  if s.f (R.HI_RING_STATUS_STATE k) == ringDraining && !s.ringBusy k
  then s.setF (R.HI_RING_STATUS_STATE k) ringDisabled else s

/-- Ends a long command with its final completion. -/
def State.finishLong (s : State) (c : LongCmd) (status result : Nat) : State :=
  let rest := s.host.longs.filter (fun x => !(x.ring == c.ring && x.entry.tag == c.entry.tag))
  let s1 := { s with host := { s.host with longs := rest } }
  let s2 := if c.stopped then s1 else s1.complete c.ring c.entry.tag c.entry.irq status c.steps result
  (s2.syncWork).drainRing c.ring

/-- Replaces the record of a long command in progress. -/
def State.putLong (s : State) (c : LongCmd) : State :=
  let upd := s.host.longs.map (fun x => if x.ring == c.ring && x.entry.tag == c.entry.tag then c else x)
  { s with host := { s.host with longs := upd } }

/-- Ends a deferred command with its completion; STEPS is 1 (Table 12-3). -/
def State.finishDef (s : State) (c : DefCmd) (status result : Nat) : State :=
  let rest := s.host.defs.filter (fun x => !(x.ring == c.ring && x.entry.tag == c.entry.tag))
  let s1 := { s with host := { s.host with defs := rest } }
  let s2 := if c.stopped then s1 else s1.complete c.ring c.entry.tag c.entry.irq status 1 result
  (s2.syncWork).drainRing c.ring

/-- Ends the deferred commands of an opcode that wait for a target. -/
def State.finishDefs (s : State) (opcode target status result : Nat) : State :=
  (s.host.defs.filter (fun c => c.entry.opcode.toNat == opcode && c.target == target)).foldl
    (fun t c => t.finishDef c status result) s

/-- The long command in progress with an opcode, the first started if there are several. -/
def State.longOf (s : State) (opcode : Nat) : Option LongCmd :=
  s.host.longs.find? (fun c => c.entry.opcode.toNat == opcode)

/-- Ends the first long command of an opcode, if one is in progress. -/
def State.finishOp (s : State) (opcode status result : Nat) : State :=
  match s.longOf opcode with
  | none => s
  | some c => s.finishLong c status result

/-- What the start of a command does: it completes, or it goes on as a deferred or a long command. -/
structure CmdRes where
  st : State
  kind : Nat := 0          -- 0 completed, 1 deferred, 2 long
  status : Nat := 0
  result : Nat := 0
  target : Nat := 0
  phase : Nat := 0
  pos : Nat := 0
  aux : List Nat := []

/-- A command that completes in its step with a status and a RESULT. -/
def resDone (s : State) (status : Nat) (result : Nat := 0) : CmdRes := { st := s, status := status, result := result }

/-- Whether the head command of ring `k` can start (R430, R433, R434): the ring runs, an entry is announced, no final
completion waits, an ORDER command finds no earlier command in progress, and a long command finds fewer than eight. -/
def State.canStart (s : State) (k : Nat) (e : CmdEntry) (long : Bool) : Bool :=
  s.f (R.HI_RING_STATUS_STATE k) == ringRunning && s.isRunning 0x00
  && s.f (R.HI_RING_PTR_HEAD k) != s.f (R.HI_RING_PTR_TAIL k)
  && !s.flag (R.HI_RING_STATUS_CPL_FULL k)
  && (!e.order || !s.ringBusy k)
  && (!long || decide (s.host.longs.length < 8))

/-- HEAD passes the announced entries that CANCEL has ended (R442). -/
def State.skipCancelled (s : State) (k : Nat) : Nat → State
  | 0 => s
  | n + 1 =>
    let h := s.f (R.HI_RING_PTR_HEAD k)
    if h == s.f (R.HI_RING_PTR_TAIL k) || !s.host.cancelled.contains (k, h) then s
    else
      let s1 : State := { s with host := { s.host with cancelled := s.host.cancelled.filter (fun p => p != (k, h)) } }
      State.skipCancelled (s1.setF (R.HI_RING_PTR_HEAD k) ((h + 1) % s.cmdSize k)) k n

/-- Advances HEAD past the fetched entry (R433). -/
def State.fetchCmd (s : State) (k : Nat) : State :=
  (s.setF (R.HI_RING_PTR_HEAD k) ((s.f (R.HI_RING_PTR_HEAD k) + 1) % s.cmdSize k)).skipCancelled k s.host.cancelled.length

/-- A PARTIAL entry of a long command after a step, every 2^PLOG2 steps (R441). -/
def State.partialEntry (s : State) (c : LongCmd) : State :=
  if c.entry.progress && !c.stopped && c.steps % 2 ^ c.entry.plog2 == 0
  then s.complete c.ring c.entry.tag c.entry.irq stPartial c.steps c.pos else s

/-- Starts the head command of a ring: the checks of R438, then the command's own start. -/
def State.startCmd (s : State) (k : Nat) (f : Fetch) (opcode : Nat) (long secure : Bool) (masks : List Nat)
    (body : State → CmdRes) : State :=
  if !s.canStart k f.entry long then s
  else
    let e := { f.entry with opcode := BitVec.ofNat 16 opcode }
    let s1 := s.fetchCmd k
    if secure && !s1.ringSecure k then s1.complete k e.tag e.irq stBadWorld 1 0
    else if !e.clean masks then s1.complete k e.tag e.irq stBadParam 1 0
    else
      let r := body s1
      if r.kind == 0 then r.st.complete k e.tag e.irq r.status 1 r.result
      else if r.kind == 1 then
        if 256 ≤ s1.host.defs.length then s1.complete k e.tag e.irq stRefusedBusy 1 0
        else
          let c : DefCmd := { ring := k, entry := e, target := r.target, aux := r.aux }
          ({ r.st with host := { r.st.host with defs := r.st.host.defs ++ [c] } } : State).syncWork
      else
        let c : LongCmd := ⟨k, e, 1, r.phase, r.pos, r.aux, f.reads, f.env, false⟩
        (({ r.st with host := { r.st.host with longs := r.st.host.longs ++ [c] } } : State).syncWork).partialEntry c

end Sys2Proof.Machine
end

