-- ==== Sys2Proof/Machine/Clock.lean ====
section
/-!
DEFINITION. Clock synthesis and the time base (spec/02_clocks_and_time_base.md): RETUNE and BANDSCAN, the lock
indication, the reference tracker, PTIME and the time-base modes.
-/
namespace Sys2Proof.Machine

/-- The states of TB_STATE.STATE (Table 2-1). -/
def tbAcquire : Nat := 0
def tbTrack : Nat := 1
def tbCoast : Nat := 2
def tbRegain : Nat := 3

/-- The divide ratio in units of 2^-32 (R32). -/
def ratioOf (nint nfrac : Nat) : Nat := nint * 2 ^ 32 + nfrac

/-- The ratio lies between 360.0 and 440.0 inclusive (R33). -/
def ratioOk (r : Nat) : Bool := decide (360 * 2 ^ 32 ≤ r) && decide (r ≤ 440 * 2 ^ 32)

/-- F_R, the root frequency, in units of 2^-76 Hz (R32, R34): the programmed frequency times 1 + (TB_AGE + TB_STEER) × 2^-44. The
crystal is at its nominal 100 MHz. -/
def State.rootHz (s : State) : Nat :=
  (100000000 * (ratioOf s.clk.nint s.clk.nfrac : Int) * (2 ^ 44 + satSym 32 (s.fi R.TB_AGE) + satSym 32 (s.fi R.TB_STEER))).toNat

/-- I_nom, the PTIME increment of a control cycle in 2^-48 ns: 1,600 ns over the divide ratio, rounded (R56). -/
def iNom (nint nfrac : Nat) : Nat := (roundDiv (1600 * 2 ^ 80) (ratioOf nint nfrac)).toNat

/-- The increment of PTIME at a control cycle: I_nom, or NT_INCR in mode SW (R56). -/
def State.increment (s : State) : Nat :=
  if s.clk.mode == 2 then s.clk.incr else iNom s.clk.nint s.clk.nfrac

/-- The PTIME of the instant `k` root cycles into the present control cycle. -/
def State.timeIn (s : State) (k : Nat) : Nat := (s.now + k * s.increment / 160) % ptimeSpan

/-- The PTIME of sample `k` of the present control cycle (R57). -/
def State.sampleTime (s : State) (k : Nat) : Nat := (s.now + k * s.increment / 80) % ptimeSpan

/-- The line of PTIME against the sample index that holds at an index: its first index, the PTIME there and the increment. For a
control cycle that has passed it is the line that held in that cycle (R57). -/
def State.lineAt (s : State) (idx : Nat) : Nat × Nat × Nat :=
  if s.clk.sampleIdx ≤ idx then (s.clk.sampleIdx, s.now, s.increment)
  else (s.clk.rates.find? (fun r => decide (r.1 ≤ idx))).getD (s.clk.sampleIdx, s.now, s.increment)

/-- The PTIME of a stamp, 256 × sample index + fraction, under R57. -/
def State.stampTime (s : State) (stamp : Nat) : Nat :=
  let r := s.lineAt (stamp / 256)
  (((r.2.1 : Int) + ((stamp : Int) - 256 * r.1) * r.2.2 / 20480) % (ptimeSpan : Int)).toNat

/-- The PTIME of the sample with an index (R57). -/
def State.idxTime (s : State) (k : Nat) : Nat := s.stampTime (256 * k)

/-- Whether the newest line predicts the present control cycle. -/
def State.onLine (s : State) : Bool :=
  match s.clk.rates with
  | [] => false
  | (i, p, inc) :: _ =>
    inc == s.increment && decide (i ≤ s.clk.sampleIdx) && (p + (s.clk.sampleIdx - i) / 80 * inc) % ptimeSpan == s.now

/-- Keeps the line of the present control cycle for later (R57). -/
def State.noteRate (s : State) : State :=
  if s.onLine then s
  else { s with clk := { s.clk with rates := (s.clk.sampleIdx, s.now, s.increment) :: s.clk.rates } }

/-- Whether band `n` meets the test of R35 for a divide ratio. -/
def State.bandFits (s : State) (ratio n : Nat) : Bool :=
  decide (s.f (R.CLK_BAND_F_LO n) * 2 ^ 44 ≤ 100 * ratio * (2 ^ 12 - 1))
  && decide (100 * ratio * (2 ^ 12 + 1) ≤ s.f (R.CLK_BAND_F_HI n) * 2 ^ 44)

/-- The band that the root PLL uses (R35): CLK_CTRL.BAND in manual mode, else the lowest that fits. -/
def State.bandFor (s : State) (ratio : Nat) : Option Nat :=
  if s.flag R.CLK_CTRL_BAND_MAN then some (s.f R.CLK_CTRL_BAND)
  else (List.range 64).find? (fun n => s.bandFits ratio n)

/-- HOLDOVER: 1 in every tracker state except TRACK (R52, R341), and in SW while SERVO_OK is 0 (R382). -/
def State.syncHoldover (s : State) : State :=
  s.setB R.TB_STATE_HOLDOVER
    (if s.clk.mode == 2 then !s.flag R.NT_CTRL_SERVO_OK
     else s.f R.TB_STATE_STATE != tbTrack || (s.clk.mode == 1 && s.flag R.CL_STATUS_UP_HOLDOVER))

/-- Moves the tracker to a state and shows it. -/
def State.setTracker (s : State) (st : Nat) : State := (s.setF R.TB_STATE_STATE st).syncHoldover

/-- Writes TB_STEER, saturated under R34. -/
def State.setSteer (s : State) (v : Int) : State :=
  (s.setFi R.TB_STEER (satSym 32 v)).setB R.TB_STATE_STEER_LIMIT (decide (2 ^ 31 - 1 ≤ (satSym 32 v).natAbs))

/-- TB_STEER without what a slew adds to it. -/
def State.steerBase (s : State) : Int := s.fi R.TB_STEER - s.clk.slewTerm

/-- Writes TB_STEER as the loop's value and what the slew adds to it (R53), under the limit of R34. -/
def State.steerWith (s : State) (base term : Int) : State :=
  ({ s with clk := { s.clk with slewTerm := satSym 32 (base + term) - base } } : State).setSteer (base + term)

/-- ±TB_SLEW ppb in units of 2^-44, against the error that is left (R53); 0 acts as 1. -/
def State.slewSteer (s : State) (left : Int) : Int :=
  let v := roundDiv ((max 1 (s.f R.TB_SLEW_PPB) * 2 ^ 44 : Nat) : Int) 1000000000
  if left == 0 then 0 else if 0 < left then -v else v

/-- The slew has so much phase left to remove, and its term follows. -/
def State.slewSet (s : State) (left : Int) : State :=
  (({ s with clk := { s.clk with slew := left } } : State).steerWith s.steerBase (s.slewSteer left)).setB R.TB_STATE_SLEWING (left != 0)

/-- Ends a slew and takes its term out of the steering. -/
def State.endSlew (s : State) : State := if s.clk.slew == 0 then s else s.slewSet 0

/-- The tracker enters ACQUIRE (R50): its counts restart and TB_PBO clears (R54). -/
def State.enterAcquire (s : State) : State :=
  let s0 := s.endSlew
  let s1 := { s0 with clk := { s0.clk with qual := 0, near := 0, phaseSet := false } }
  (s1.setF R.TB_PBO 0).setTracker tbAcquire

/-- The tracker enters COAST: any slew ends, and COASTS counts the entry (Table 2-1, TB_EVENTS); the entry is logged
(Table 17-7, type 0x0A). -/
def State.enterCoast (s : State) : State :=
  if s.f R.TB_STATE_STATE == tbCoast then s
  else
    let s0 := s.endSlew
    let s1 := { s0 with clk := { s0.clk with qual := 0, near := 0 } }
    let s2 := (s1.incSat R.TB_EVENTS_COASTS).setTracker tbCoast
    s2.errLog 0x0A 1 0x01 0 [s2.f R.CLK_LOCKLOSS, s2.f R.TB_STATE]

/-- Sets CLK_STATUS.LOCKED and keeps the changes of the last millisecond for CHATTER (R43). -/
def State.setLocked (s : State) (b : Bool) : State :=
  if s.flag R.CLK_STATUS_LOCKED == b then s
  else
    let t := s.clk.elapsed
    let recent := t :: s.clk.lockChanges.filter (fun u => decide (t < u + 1000000 * nsUnit))
    let s1 := { s with clk := { s.clk with lockChanges := recent, lockedAt := t, dropWindow := s.clk.dropWindow || !b } }
    let s2 := s1.setB R.CLK_STATUS_LOCKED b
    if 4 < recent.length && !s.flag R.CLK_STATUS_LOCKA_NET then s2.setB R.CLK_STATUS_CHATTER true else s2

/-- Remembers the settings and the band table in use (R600). -/
def State.saveClock (s : State) : State :=
  let table := (List.range 64).map (fun n => s.word (0x10100 + 4 * n))
  { s with clk := { s.clk with savedNint := s.clk.nint, savedNfrac := s.clk.nfrac, savedBand := s.f R.CLK_STATUS_BAND_ACT, savedTable := table } }

/-- The root PLL unlocks for a command: LOCKA is discharged, the dividers stop, PTIME runs on the crystal and the
tracker coasts (R38, R39). -/
def State.unlockClock (s : State) (r : Relock) : State :=
  let s1 := (s.setLocked false).setB R.CLK_STATUS_BUSY true
  let s2 := { s1 with clk := { s1.clk with relock := r, released := false, releaseDue := false } }
  s2.enterCoast

/-- Relock to a ratio and band begins (R36, R38). -/
def State.relockTo (s : State) (r : Relock) (nint nfrac band : Nat) : State :=
  let s1 := s.setLocked false
  let s2 := { s1 with clk := { s1.clk with relock := r, relockAt := s1.clk.elapsed, nint := nint, nfrac := nfrac, released := false, releaseDue := false } }
  s2.setF R.CLK_STATUS_BAND_ACT band

/-- The settings in use before the command return to the registers and the relock to them begins (R600). -/
def State.restoreClock (s : State) : State :=
  let s1 := (s.setF R.CLK_NINT_NINT s.clk.savedNint).setF R.CLK_NFRAC s.clk.savedNfrac
  s1.relockTo .restore s.clk.savedNint s.clk.savedNfrac s.clk.savedBand

/-- The band table that stood before the command returns (R600). -/
def State.restoreTable (s : State) : State :=
  s.setWordsAt 0x10100 64 (s.clk.savedTable.foldr (fun w acc => w.toNat + 2 ^ 32 * acc) 0)

/-- What makes RETUNE and BANDSCAN refuse (R37): a running context, a pending slot, an enabled chain or output, a
flex lane that is up, or another command that holds the clocks (R436). -/
def State.clockInUse (s : State) : Bool :=
  !s.liveCtxs.isEmpty
  || (List.range 64).any (fun n => s.slotPending n)
  || (List.range 16).any (fun n => s.flag (R.FCH_CTRL_EN n))
  || (List.range 4).any (fun n => s.flag (R.DAC_CTRL_EN n))
  || (List.range 16).any (fun p => s.flag (R.ETH_PORT_STATUS_UP p) || s.f (R.CL_LINK_STATUS_STATE p) == 2)
  || s.clk.relock != .idle

/-- RETUNE at its start (R36 to R38). -/
def retuneStart (s : State) : CmdRes :=
  let ratio := ratioOf (s.f R.CLK_NINT_NINT) (s.f R.CLK_NFRAC)
  if s.clockInUse then resDone s stRefusedBusy
  else if !ratioOk ratio then resDone s stBadParam
  else
    match s.bandFor ratio with
    | none => resDone (s.setB R.CLK_STATUS_NOBAND true) stBadParam
    | some b =>
      { st := (s.saveClock.unlockClock .retune).relockTo .retune (s.f R.CLK_NINT_NINT) (s.f R.CLK_NFRAC) b, kind := 2 }

/-- BANDSCAN at its start: the PLL unlocks and the measurement of the 64 bands begins (R36 to R38). -/
def bandscanStart (s : State) : CmdRes :=
  let ratio := ratioOf (s.f R.CLK_NINT_NINT) (s.f R.CLK_NFRAC)
  if s.clockInUse then resDone s stRefusedBusy
  else if !ratioOk ratio then resDone s stBadParam
  else { st := s.saveClock.unlockClock .bandscan, kind := 2 }

/-- The bands that a scan found: those whose upper edge lies above the lower. -/
def bandsFound (env : List (BitVec 32)) : Nat :=
  (env.take 64).countP (fun w => decide (bitsOf w.toNat 0 16 < bitsOf w.toNat 16 16))

/-- A step of BANDSCAN: it measures one band; after the last it applies the test of R35 to the measured table and
relocks, or completes BAD_PARAM, keeps the table and relocks to the settings before it (R37, R600). -/
def bandscanStep (c : LongCmd) (s : State) : State :=
  if c.phase != 0 then s
  else
    let c1 := { c with steps := c.steps + 1, pos := c.pos + 1 }
    let s1 := s.setWord (0x10100 + 4 * c.pos) ((c.env[c.pos]?).getD 0)
    if c1.pos < 64 then (s1.putLong c1).partialEntry c1
    else
      match s1.bandFor (ratioOf (s1.f R.CLK_NINT_NINT) (s1.f R.CLK_NFRAC)) with
      | none => (((s1.setB R.CLK_STATUS_NOBAND true).putLong c1).finishLong c1 stBadParam 0).restoreClock
      | some b =>
        let c2 := { c1 with phase := 1 }
        ((s1.putLong c2).partialEntry c2).relockTo .bandscan (s1.f R.CLK_NINT_NINT) (s1.f R.CLK_NFRAC) b

/-- CANCEL of a BANDSCAN before its relock (Table 12-4): the band table returns and the PLL relocks to the settings
before the command. -/
def bandscanCancel (c : LongCmd) (s : State) : State :=
  (s.finishLong c stCancelled (bandsFound (c.env.take c.pos))).restoreTable.restoreClock

/-- The RETUNE command (R36). -/
def execRetune (k : Fin 16) (f : Fetch) (s : State) : Out := .next (s.startCmd k f 0x10 true false [] retuneStart)

/-- The BANDSCAN command (R37). -/
def execBandscan (k : Fin 16) (f : Fetch) (s : State) : Out := .next (s.startCmd k f 0x11 true false [] bandscanStart)

/-- The capacity K: 1,024 fabric clocks at the programmed root frequency (R161, FAB_CAPACITY). -/
def capacityOf (nint nfrac : Nat) : Nat := 32 * 100000000 * ratioOf nint nfrac / 2 ^ 32

/-- The dividers release together at an alignment tick, the first of the control cycles to come, and PTIME returns to counting
control cycles (R12, R39). -/
def State.releaseDividers (s : State) : State :=
  let s1 := { s with clk := { s.clk with released := true, releaseDue := false, cycles := 0 } }
  s1.setF R.FAB_FC 0

/-- The root PLL counts as relocked: FAB_CAPACITY follows the programmed frequency, and the dividers release at the next alignment
tick (R12, R39, R600). -/
def State.relockDone (s : State) : State :=
  (({ s with clk := { s.clk with releaseDue := true, relock := .idle } } : State).setB R.CLK_STATUS_BUSY false).setF
    R.FAB_CAPACITY (capacityOf s.clk.nint s.clk.nfrac)

/-- Whether LOCKED has read 1 for 5 ms. -/
def State.lockQualified (s : State) : Bool :=
  s.flag R.CLK_STATUS_LOCKED && decide (s.clk.lockedAt + 5000000 * nsUnit ≤ s.clk.elapsed)

/-- Whether the 5 ms of the present lock end within the 100 ms that R38 and R44 allow. -/
def State.lockInTime (s : State) : Bool :=
  s.flag R.CLK_STATUS_LOCKED && decide (s.clk.lockedAt + 5000000 * nsUnit ≤ s.clk.relockAt + 100000000 * nsUnit)

/-- Whether a relock has begun: not while BANDSCAN still measures, with LOCKA held at 0 V (R38). -/
def State.relocking (s : State) : Bool :=
  match s.clk.relock with
  | .idle => false
  | .bandscan => (match s.longOf 0x11 with
    | some c => c.phase == 1
    | none => true)
  | _ => true

/-- A relock qualifies within its 100 ms (R38), or, of the restored settings, at any time (R600): the command completes OK and the
dividers release at the next alignment tick. -/
def relockQualified (s : State) : State :=
  if !s.relocking || !s.lockQualified || !(s.clk.relock == .restore || s.lockInTime) then s
  else
    let found := match s.longOf 0x11 with
      | some c => bandsFound c.env
      | none => 0
    let s1 := match s.clk.relock with
      | .retune => s.finishOp 0x10 stOk (s.f R.CLK_STATUS_BAND_ACT)
      | .bandscan => s.finishOp 0x11 stOk found
      | _ => s
    s1.relockDone

def execRelockQualified (s : State) : Out := .next (relockQualified s)

/-- A relock fails to qualify within 100 ms (R38, R600): the command completes TIMEOUT, the settings and the band
table before it return and the PLL relocks to them. A restoring relock keeps trying. -/
def relockTimeout (s : State) : State :=
  if !s.relocking || s.lockInTime || decide (s.clk.elapsed < s.clk.relockAt + 100000000 * nsUnit) then s
  else
    match s.clk.relock with
    | .retune => (s.finishOp 0x10 stTimeout 0).restoreTable.restoreClock
    | .bandscan => (s.finishOp 0x11 stTimeout 0).restoreTable.restoreClock
    | _ => s

def execRelockTimeout (s : State) : Out := .next (relockTimeout s)

/-- LOCKA rises above 1.0 V (R41); with LOCKA_NET set, LOCKED keeps reading 0 (R599), as it does while BANDSCAN holds
LOCKA at 0 V (R38). -/
def lockedRise (s : State) : State :=
  if s.flag R.CLK_STATUS_LOCKA_NET || (s.clk.relock == .bandscan && !s.relocking) then s else s.setLocked true

def execLockedRise (s : State) : Out := .next (lockedRise s)

/-- LOCKA falls below 0.7 V (R41 to R43). -/
def lockLoss (s : State) : State :=
  if !s.flag R.CLK_STATUS_LOCKED then s
  else
    let s1 := s.setLocked false
    if s.clk.relock != .idle then s1
    else
      let s2 := (s1.setB R.CLK_STATUS_LOCK_LOST true).incSat R.CLK_LOCKLOSS
      s2.errLog 0x0A 1 0x01 0 [s2.f R.CLK_LOCKLOSS, s2.f R.TB_STATE]

def execLockLoss (s : State) : Out := .next (lockLoss s)

/-- The phase error of an edge at time `t` against the nearest of `hz` expected edges a second, shifted by the
accumulated build-out, in 2^-16 ns, positive when late (R46, R53). -/
def phaseErr (t hz : Nat) (pbo : Int) : Int :=
  let u := (((t : Int) - pbo * 2 ^ 32) % (secUnit : Int)).toNat
  let n := (2 * u * hz + secUnit) / (2 * secUnit)
  roundDiv ((u : Int) * hz - n * secUnit) (hz * 2 ^ 32)

/-- Whether SRC makes the tracker use REFIN, and PPSIN (R45); 3 acts as 0. -/
def State.usesRefin (s : State) : Bool := s.f R.TB_CTRL_SRC != 1 && !s.flag R.TB_STATE_BAD_REF
def State.usesPps (s : State) : Bool := s.f R.TB_CTRL_SRC == 1 || s.f R.TB_CTRL_SRC == 2

/-- A REFIN edge (R45, R46); in LINK the TIME carriages take its place (R339). -/
def refinEdge (k : Nat) (s : State) : State :=
  if !s.usesRefin || s.clk.mode == 1 then s
  else
    let e := phaseErr (s.timeIn k) (s.f R.TB_REF_HZ_HZ) (s.fi R.TB_PBO)
    { s with clk := { s.clk with refEdges := s.clk.refEdges + 1, refErr := e } }

def execRefinEdge (k : Fin 160) (s : State) : Out := .next (refinEdge k s)

/-- The PTIME that TB_SET0 to TB_SET3 hold. -/
def State.loadValue (s : State) : Nat := s.ptimeAt 0x11080

/-- PTIME takes a loaded value, which is a step (R383); TB_PBO clears and LOAD reads 0 (R54, R59). -/
def State.loadPtime (s : State) (t : Nat) : State :=
  let p := t % ptimeSpan
  let s1 := { s with clk := { s.clk with ptime := p, steps := s.clk.steps + 1, stepLog := (s.clk.ptime, p) :: s.clk.stepLog } }
  (s1.setF R.TB_PBO 0).setB R.TB_CTRL_LOAD false

/-- A PPSIN edge (R46, R59, R61): a load that waits for it applies, so that PTIME at the edge is the loaded value; the
edge is stamped, and the tracker measures it. -/
def ppsinEdge (k : Nat) (s : State) : State :=
  let lead := k * s.increment / 160
  let s1 := if s.flag R.TB_CTRL_LOAD && s.flag R.TB_CTRL_LOAD_AT_PPS
    then s.loadPtime (s.loadValue + ptimeSpan - lead) else s
  let t := s1.timeIn k
  let s2 := s1.setPtimeAt 0x110C0 t
  if !s2.usesPps then s2
  else
    let e := phaseErr t 1 (s2.fi R.TB_PBO)
    { s2 with clk := { s2.clk with ppsEdges := s2.clk.ppsEdges + 1, ppsErr := e } }

def execPpsinEdge (k : Fin 160) (s : State) : Out := .next (ppsinEdge k s)

/-- TB_QUAL.QUAL_N; 0 acts as 1. -/
def State.qualN (s : State) : Nat := max 1 (s.f R.TB_QUAL_QUAL_N)

/-- The loop bandwidth in 0.01 Hz, clamped (R48). -/
def State.loopBw (s : State) : Nat :=
  clampNat 1 (if s.f R.TB_CTRL_SRC == 1 && s.clk.mode == 0 then 10 else 10000) (s.f R.TB_BW_BW)

/-- The loop updates TB_STEER. -/
def State.updateSteer (s : State) (err meas : Int) : State :=
  s.steerWith (Config.loopSteer s.steerBase err s.loopBw meas) (s.slewSteer s.clk.slew)

/-- Records a phase step or regain error in TB_JUMP_FULL and TB_JUMP (R51, R53). -/
def State.recordJump (s : State) (e : Int) : State :=
  (s.setFi R.TB_JUMP_FULL e).setFi R.TB_JUMP (satSym 32 e)

/-- The regain decision on the error E (R53, Table 2-2); BUILD_OUT acts as SLEW in LINK (R341). -/
def State.regain (s : State) (e : Int) : State :=
  let s1 := s.recordJump e
  if (e.natAbs : Nat) < s.f R.TB_PBO_THR then s1
  else
    let s2 := (s1.incSat R.TB_EVENTS_JUMPS).setB R.TB_STATE_JUMP true
    if s.f R.TB_CTRL_REGAIN == 1 || (s.f R.TB_CTRL_REGAIN == 0 && s.clk.mode == 1) then
      s2.slewSet (1000 * e)
    else if s.f R.TB_CTRL_REGAIN == 2 then s2.stepPtime (-(e * 2 ^ 32))
    else s2.setFi R.TB_PBO (s2.fi R.TB_PBO + e)

/-- Continues a slew over one interval of `ms` milliseconds at TB_SLEW ppb (R53); 0 acts as 1. -/
def State.slewOn (s : State) (ms : Nat) : State :=
  if s.clk.slew == 0 then s
  else
    let move : Int := max 1 (s.f R.TB_SLEW_PPB) * ms * 65536
    let left : Int := if (s.clk.slew.natAbs : Int) ≤ move then 0
      else if 0 < s.clk.slew then s.clk.slew - move else s.clk.slew + move
    s.slewSet left

/-- The time between TIME carriages of a link in ns (R333, Table 9-5); RATE 3 acts as 0. -/
def State.timePeriod (s : State) (k : Nat) : Nat :=
  let r := s.f (R.CL_LINK_CTRL_RATE k)
  if r == 1 then 2040 else if r == 2 then 4080 else 1020

/-- Whether enough edges arrived in an interval (R47); in LINK, 90 % of the TIME carriages expected in it (R339). -/
def State.enoughEdges (s : State) (edges : Nat) : Bool :=
  if s.clk.mode == 1 then decide (9 * 1000000 ≤ 10 * edges * s.timePeriod (s.f R.CL_CTRL_UP_LANE)) else decide (0 < edges)

/-- Whether the interval that closes is qualified (R42, R47): an edge arrived, the measured frequency lies within the
window, and LOCKED read 1 throughout. -/
def State.intervalOk (s : State) (edges : Nat) (meas : Int) : Bool :=
  s.enoughEdges edges && decide (meas.natAbs * 1000000000 ≤ s.f R.TB_QUAL_WIN_PPB * 2 ^ 44)
  && s.flag R.CLK_STATUS_LOCKED && !s.clk.dropWindow

/-- The tracker's move at the close of an interval (Table 2-1). In REGAIN the intervals below TB_PBO_THR count from the end of a
slew (the example after Table 2-3: 35 ms of slew, then 10 intervals). -/
def State.trackerMove (s : State) (ok : Bool) (err stepErr meas : Int) (ms : Nat) : State :=
  let st := s.f R.TB_STATE_STATE
  let qual := if ok then s.clk.qual + 1 else 0
  let near := if ok && (err.natAbs : Nat) < s.f R.TB_PBO_THR && s.clk.slew == 0 then s.clk.near + 1 else 0
  let s1 : State := { s with clk := { s.clk with qual := qual, near := near } }
  if st == tbAcquire then
    if !ok then s1
    else if !s.clk.phaseSet then
      if qual < s.qualN then s1
      else
        let s2 := ((s1.setSteer meas).recordJump (-stepErr)).setB R.TB_STATE_JUMP true
        let s3 : State := { s2 with clk := { s2.clk with phaseSet := true, near := 0 } }
        s3.stepPtime (-(stepErr * 2 ^ 32))
    else if s.qualN ≤ near then (s1.updateSteer err meas).setTracker tbTrack
    else s1.updateSteer err meas
  else if st == tbTrack then
    if ok then s1.updateSteer err meas else s1.enterCoast
  else if st == tbCoast then
    if ok && s.qualN ≤ qual then
      let s2 : State := { s1 with clk := { s1.clk with near := 0 } }
      (s2.regain err).setTracker tbRegain
    else s1
  else
    if !ok then s1.enterCoast
    else if s.qualN ≤ near then s1.setTracker tbTrack
    else (s1.updateSteer err meas).slewOn ms

/-- The tracker closes a measurement interval (R47, R49): in HW_REF on the selected reference, in LINK on the upstream
link's phase errors (R339); in SW, and while the root PLL is unlocked for a command (R39), it makes no move. With SRC = 2 and no
PPSIN edge in the present second, the step of ACQUIRE is the REFIN error alone and the phase counts as set. -/
def intervalClose (meas : Int) (s : State) : State :=
  let pps := s.f R.TB_CTRL_SRC == 1 && s.clk.mode == 0
  let edges := if pps then s.clk.ppsEdges else s.clk.refEdges
  let err := if pps then s.clk.ppsErr else s.clk.refErr
  let stepErr := if s.usesPps && s.clk.mode == 0 && decide (0 < s.clk.ppsEdges) then s.clk.ppsErr else err
  let ok := s.intervalOk edges meas
  let second := decide (ptNs s.now < 1000000)
  let s1 := (s.setB R.TB_STATE_REF_OK ok).setFi R.TB_PHERR (satSym 32 err)
  let s2 := if s.usesPps && (pps || second)
    then s1.setB R.TB_STATE_PPS_OK (decide (0 < s.clk.ppsEdges) && ok) else s1
  let s3 := if s.clk.mode == 2 || s.clk.relock != .idle then s2
    else s2.trackerMove ok err stepErr meas (if pps then 1000 else 1)
  let s4 := if s.clk.mode == 1 && decide (0 < edges)
    then s3.setFi (R.CL_LINK_OFFSET (s.f R.CL_CTRL_UP_LANE)) (roundDiv s.clk.refSum edges) else s3
  { s4 with clk := { s4.clk with refSum := 0, refEdges := 0, dropWindow := !s4.flag R.CLK_STATUS_LOCKED, ppsEdges := if pps || second then 0 else s4.clk.ppsEdges } }

def execTrackerIntervalClose (meas : Int) (s : State) : Out := .next (intervalClose meas s)

/-- While the dividers are stopped, PTIME moves on the crystal counter in steps of 10 ns × (1 + TB_AGE × 2^-44) (R39). -/
def State.crystalStep (s : State) : State :=
  let d := (10 * nsUnit * (2 ^ 44 + satSym 32 (s.fi R.TB_AGE)) / 2 ^ 44).toNat
  { s with clk := { s.clk with ptime := (s.now + d) % ptimeSpan, elapsed := s.clk.elapsed + d } }

/-- The samples of the present control cycle, for a list of marks. -/
def State.cycleMark (s : State) (on : Bool) (flags : Nat) (ms : List Mark) : List Mark :=
  if on then addMark ⟨s.clk.sampleIdx, s.clk.sampleIdx + 79, flags⟩ ms else ms

/-- What later samples must know of the control cycle that ends: its line of PTIME (R57), whether HOLDOVER was 1 in it (R52) and
whether LOCKED read 0 (R42). -/
def State.cycleNotes (s : State) : State :=
  let s1 := s.noteRate
  { s1 with clk := { s1.clk with
      holdMarks := s.cycleMark (s.flag R.TB_STATE_HOLDOVER) fHOLDOVER s1.clk.holdMarks
      unlockMarks := s.cycleMark (!s.flag R.CLK_STATUS_LOCKED) fUNSETTLED s1.clk.unlockMarks } }

/-- PTIME advances by the increment, or takes the value of a waiting load; the sample index and FAB_FC advance by the cycle's 80
samples and 5 fabric cycles (R56, R59). -/
def State.cycleStep (s : State) : State :=
  let d := s.increment
  let s1 : State := { s with clk := { s.clk with ptime := (s.now + d) % ptimeSpan, elapsed := s.clk.elapsed + d, cycles := s.clk.cycles + 1, sampleIdx := (s.clk.sampleIdx + 80) % 2 ^ 64 } }
  let s2 := if s.flag R.TB_CTRL_LOAD && !s.flag R.TB_CTRL_LOAD_AT_PPS then s1.loadPtime s.loadValue else s1
  s2.addWrap R.FAB_FC 5

/-- A control cycle passes (R39, R56, R59): a step of the crystal counter while the dividers are stopped, the last of them at the
alignment tick at which they release; else a cycle of the time base. A W1C bit that is set from here on is set in a later cycle
than before (R9). -/
def ptimeIncrement (s : State) : State :=
  let s0 : State := { s with sets := [] }
  if !s.clk.released then
    if s.clk.releaseDue then s0.crystalStep.releaseDividers else s0.crystalStep
  else s0.cycleNotes.cycleStep

/-- The HOLDOVER flag of a record whose first input sample has an index (R52). -/
def State.holdFlag (s : State) (idx : Nat) : Nat :=
  if s.clk.sampleIdx ≤ idx then flagIf (s.flag R.TB_STATE_HOLDOVER) fHOLDOVER else marksFlags s.clk.holdMarks idx idx

/-- UNSETTLED of an input span in which LOCKED read 0 (R42). -/
def State.unlockFlag (s : State) (lo hi : Nat) : Nat :=
  marksFlags s.clk.unlockMarks lo hi ||| flagIf (decide (s.clk.sampleIdx ≤ hi) && !s.flag R.CLK_STATUS_LOCKED) fUNSETTLED

/-- A new time-base mode takes effect at an alignment tick (R50, R58): on entry to SW, TB_STEER is removed, NT_INCR takes the
increment that keeps the rate and SERVO_OK clears (R382); on entry to HW_REF the tracker restarts; on entry to LINK it goes on from
the state it is in. -/
def tbModeChange (s : State) : State :=
  let m := s.f R.TB_CTRL_MODE
  if !s.atTick || m == s.clk.mode || m == 3 then s
  else
    let s1 : State := { s with clk := { s.clk with mode := m, refEdges := 0, ppsEdges := 0 } }
    if m == 2 then
      let a := satSym 32 (s.fi R.TB_AGE)
      let st := s.fi R.TB_STEER
      let inc := (roundDiv (iNom s.clk.nint s.clk.nfrac * (2 ^ 44 + a + st)) (2 ^ 44 + a)).toNat
      let s2 := (({ s1 with clk := { s1.clk with slew := 0, slewTerm := 0 } } : State).setB R.TB_STATE_SLEWING false).setSteer 0
      let s3 := s2.setF R.NT_INCR_INCR inc
      (({ s3 with clk := { s3.clk with incr := inc, servoAt := s3.clk.elapsed } } : State).setB R.NT_CTRL_SERVO_OK false).syncHoldover
    else if m == 0 then s1.enterAcquire
    else s1.syncHoldover

def execTbModeChange (s : State) : Out := .next (tbModeChange s)

/-- TB_CTRL.SNAP latches PTIME and the sample index (R60). -/
def State.snap (s : State) : State :=
  (s.setPtimeAt 0x110A0 s.now).setWordsAt 0x110B0 2 s.clk.sampleIdx

/-- The F_T edge of the present control cycle, 0 to 9, that lies nearest to a second boundary plus TB_PPSOUT_OFS, when it is one of
this cycle's (R62; F_T has 10 edges in a control cycle). -/
def State.ppsEdge (s : State) : Option Nat :=
  let u := (s.fi R.TB_PPSOUT_OFS * nsUnit - s.now) % (secUnit : Int)
  let d : Int := if (secUnit : Int) < 2 * u then u - secUnit else u
  let j := roundDiv (10 * d) s.increment
  if 0 ≤ j && j < 10 then some j.toNat else none

/-- A PPSOUT pulse leaves at a second boundary plus TB_PPSOUT_OFS, on the nearest F_T edge (R62), unless its pads are held (R511);
a control cycle has one pulse at most. -/
def ppsoutPulse (s : State) : State :=
  if !s.clk.released || !s.flag R.TB_CTRL_PPSOUT_EN || s.flag (R.PWR_PADHOLD_GROUPS.bit 8) || s.clk.ppsAt == some s.clk.sampleIdx then s
  else
    match s.ppsEdge with
    | none => s
    | some j =>
      ({ s with clk := { s.clk with ppsAt := some s.clk.sampleIdx } } : State).emit
        (.ppsOut ((s.now + j * s.increment / 10) % ptimeSpan) (max 1 (s.f R.TB_PPSOUT_WIDTH)))

def execPpsoutPulse (s : State) : Out := .next (ppsoutPulse s)

end Sys2Proof.Machine
end

