-- ==== Sys2Proof/Machine/Adc.lean ====
section
/-!
DEFINITION. Input channels (spec/03_converters.md, R63 to R88, R99, R603): digital correction, the spare-wheel rotation,
trims, the first pass and loopback.
-/
namespace Sys2Proof.Machine

/-- An input channel. -/
def State.adcN (s : State) (n : Nat) : AdcSt := tget (fun _ => {}) s.adc n

/-- Replaces an input channel. -/
def State.setAdc (s : State) (n : Nat) (a : AdcSt) : State := { s with adc := tset (fun _ => {}) s.adc n a }

/-- Marks channel samples `lo` to `hi` of a channel. -/
def State.markChan (s : State) (n lo hi flags : Nat) : State :=
  if flags == 0 then s else s.setAdc n { s.adcN n with marks := addMark ⟨lo, hi, flags⟩ (s.adcN n).marks }

/-- The flags of the channel samples `lo` to `hi` (R42, R68, R77, R81, R87). -/
def State.chanFlags (s : State) (n lo hi : Nat) : Nat :=
  let a := s.adcN n
  let m := a.marks.foldl (fun acc x => if x.lo ≤ hi && lo ≤ x.hi then acc ||| x.flags else acc) 0
  match a.degradedAt with
  | none => m
  | some k => m ||| flagIf (decide (k ≤ hi)) fDEGRADED

/-- The first sample index at or after the present one that slot `slot` takes. -/
def State.nextSlotSample (s : State) (slot : Nat) : Nat :=
  s.clk.sampleIdx + (slot + 32 - s.clk.sampleIdx % 32) % 32

/-- The corrected sample and whether it is saturated (R64, R67). -/
def correctSample (dcor : BitVec 32) (x : BitVec 12) : Int × Bool :=
  let g := bitsOf dcor.toNat 16 16
  let o := sext 16 (bitsOf dcor.toNat 0 16)
  let y := roundDiv (16 * x.toInt * g) (2 ^ 14) + o
  (satS 16 y, x.toInt == -2048 || x.toInt == 2047 || outS 16 y)

/-- The flags of the samples of one block, in order. -/
def State.markBlock (s : State) (n idx base : Nat) : List (Int × Bool) → State
  | [] => s
  | y :: ys => State.markBlock (s.markChan n idx idx (base ||| flagIf y.2 fSATURATED)) n (idx + 1) base ys

/-- A channel delivers 16 samples: the correction of R64, the overrange count of R67, the zeros of the first pass
(R86), and the flags that each sample carries. -/
def State.channelBus (s : State) (n sub : Nat) (codes : List (BitVec 12)) : State :=
  let a := s.adcN n
  let idx := (s.clk.sampleIdx + 16 * sub) % 2 ^ 64
  let first := s.flag (R.ADC_STATUS_FIRST n)
  let ys := codes.map (fun x => if first then (0, false) else correctSample a.dcor x)
  let sat := ys.countP (fun p => p.2)
  let s1 := s.setAdc n { a with bus := ys.map (fun p => p.1), busIdx := idx }
  let s2 := if sat == 0 then s1 else (s1.addSat (R.ADC_OVR_COUNT n) sat).setB (R.ADC_STATUS_OVR n) true
  s2.markBlock n idx (flagIf (first || !s.flag R.CLK_STATUS_LOCKED) fUNSETTLED) ys

/-- The first pass starts (R85 to R87). -/
def State.firstPassStart (s : State) (n : Nat) : State :=
  let s1 := s.setAdc n { s.adcN n with fpWait := false }
  (s1.setB (R.ADC_STATUS_FIRST n) true).setB (R.ADC_STATUS_SETTLED n) false

/-- HELD shows a rotation held or stopped while no step is in progress (R83, R84). -/
def State.showHeld (s : State) (n : Nat) : State :=
  if (s.flag (R.ADC_CTRL_ROT_HOLD n) || !s.flag (R.ADC_CTRL_ROT_EN n)) && !s.flag (R.ADC_STATUS_STEP n)
  then s.setB (R.ADC_STATUS_HELD n) true else s

/-- A rotation step ends; a first pass that waits for it starts (R83, R85). -/
def State.stepEnd (s : State) (n : Nat) : State :=
  let a := s.adcN n
  let s1 := s.setAdc n { a with phase := .idle, nextStep := (a.slot + 1) % 33, undo := none }
  let s2 := (s1.setB (R.ADC_STATUS_STEP n) false).showHeld n
  if a.fpWait then s2.firstPassStart n else s2

/-- The spare wheel takes the step's slot from the next slot sample, with its CAL event (R71, R81). -/
def State.handOver (s : State) (n : Nat) : State :=
  let a := s.adcN n
  let k := s.nextSlotSample a.slot
  let s1 := (s.setAdc n { a with slots := a.slots.set a.slot 32, phase := .measure }).markChan n k k fCAL
  s1.setF (R.ADC_STATUS_SPARE_SLOT n) a.slot

/-- The third abort in a row retires the sub-converter: the spare wheel takes its slot for good (R76). -/
def State.retire (s : State) (n : Nat) : State :=
  let a := s.adcN n
  let k := s.nextSlotSample a.slot
  let s1 := (s.setAdc n { a with slots := a.slots.set a.slot 32, phase := .idle, degradedAt := some k }).markChan n k k fCAL
  let s2 := (s1.setF (R.ADC_STATUS_SPARE_SLOT n) a.slot).setB (R.ADC_STATUS_DEGRADED n) true
  let s3 := (s2.setF (R.ADC_STATUS_RETIRED n) a.outgoing).setB (R.ADC_TRIM_RET n a.outgoing) true
  let s4 := (s3.setB (R.ADC_STATUS_STEP n) false).setB (R.ADC_STATUS_HELD n) true
  let s5 := s4.errLog 0x0F 2 (0x02 + n) 0 [n, a.outgoing]
  if a.fpWait then s5.firstPassStart n else s5

/-- The decision at the end of a plausibility window (R73 to R76). -/
def State.plausDecide (s : State) (n count sum : Nat) : State :=
  let a := s.adcN n
  let lim := max 1 (s.f R.ADC_PLAUS_LIM_LIM)
  if count < 2048 then
    if 3 ≤ a.attempt then (s.incSat (R.ADC_CAL_SKIP n)).stepEnd n
    else s.setAdc n { a with phase := .deferred }
  else if sum < lim * count then s.handOver n
  else
    let s1 := (s.incSat (R.ADC_CAL_ABORT n)).incSat (R.ADC_TRIM_ABRUN n a.outgoing)
    if 3 ≤ s1.f (R.ADC_TRIM_ABRUN n a.outgoing) then s1.retire n else s1.stepEnd n

/-- A rotation step starts at its 5 ms instant (R71, R72, R83, R84, R87, R603). -/
def rotationStepStart (n : Nat) (s : State) : State :=
  let a := s.adcN n
  if !s.flag (R.ADC_CTRL_EN n) || s.flag (R.ADC_CTRL_ROT_HOLD n) || !s.flag (R.ADC_CTRL_ROT_EN n)
    || s.flag (R.ADC_STATUS_DEGRADED n) || !s.flag (R.ADC_STATUS_SETTLED n) || s.flag (R.ADC_STATUS_STEP n) then s
  else
    let own := a.nextStep == 32
    let out := if own then 32 else (a.slots[a.nextStep]?).getD a.nextStep
    let a1 := { a with slot := a.nextStep, outgoing := out, attempt := 1, phase := if own then RotPhase.measure else RotPhase.plaus }
    ((s.setAdc n a1).setB (R.ADC_STATUS_STEP n) true).setB (R.ADC_STATUS_HELD n) false

def execRotationStepStart (n : Fin 8) (s : State) : Out := s.whileRunning (2 + n) (rotationStepStart n s)

/-- Whether a code is neither end of the range (R73). -/
def codeCounts (x : BitVec 12) : Bool := x.toInt != -2048 && x.toInt != 2047

/-- The samples of a window that count, and the sum of |x_spare - x_out| over them (R73). Each pair is the code of the spare wheel and
that of the outgoing sub-converter. -/
def plausFigure (window : List (BitVec 12 × BitVec 12)) : Nat × Nat :=
  window.foldl (fun acc p =>
    if codeCounts p.1 && codeCounts p.2 then (acc.1 + 1, acc.2 + (p.1.toInt - p.2.toInt).natAbs) else acc) (0, 0)

/-- The first plausibility window of a step ends (R73). -/
def plausibilityDecision (n : Nat) (window : List (BitVec 12 × BitVec 12)) (s : State) : State :=
  let w := plausFigure window
  if (s.adcN n).phase == .plaus then s.plausDecide n w.1 w.2 else s

def execPlausibilityDecision (n : Fin 8) (spare outgoing : List (BitVec 12)) (s : State) : Out :=
  s.whileRunning (2 + n) (plausibilityDecision n (spare.zip outgoing) s)

/-- A deferred window has been repeated (R74). -/
def plausibilityRetry (n : Nat) (window : List (BitVec 12 × BitVec 12)) (s : State) : State :=
  let a := s.adcN n
  let w := plausFigure window
  if a.phase == .deferred then
    (s.setAdc n { a with phase := .plaus, attempt := a.attempt + 1 }).plausDecide n w.1 w.2
  else s

def execPlausibilityRetry (n : Fin 8) (spare outgoing : List (BitVec 12)) (s : State) : Out :=
  s.whileRunning (2 + n) (plausibilityRetry n (spare.zip outgoing) s)

/-- The mean of two codes, ties going to the second (R78). -/
def meanTie (a b : Int) : Int := if (a + b) % 2 = 0 then (a + b) / 2 else if a < b then (a + b + 1) / 2 else (a + b - 1) / 2

/-- Two measurements agree within the tolerances of Table 3-1 (R78). -/
def TrimAgree (m1 m2 : TrimSet) : Bool :=
  decide ((m1.ofs - m2.ofs).natAbs ≤ 2) && decide ((m1.gain - m2.gain).natAbs ≤ 2)
  && decide (((m1.skew : Int) - m2.skew).natAbs ≤ 4) && decide (((m1.bw : Int) - m2.bw).natAbs ≤ 1)

/-- The mean of two measurements (R78). -/
def trimMean (m1 m2 : TrimSet) : TrimSet :=
  ⟨meanTie m1.ofs m2.ofs, meanTie m1.gain m2.gain, (meanTie m1.skew m2.skew).toNat, (meanTie m1.bw m2.bw).toNat⟩

/-- Writes the trims of a sub-converter (Table 3-1). -/
def State.setTrims (s : State) (n k : Nat) (m : TrimSet) : State :=
  let s1 := ((s.setFi (R.ADC_TRIM_OFS n k) m.ofs).setFi (R.ADC_TRIM_GAIN n k) m.gain).setF (R.ADC_TRIM_BW n k) m.bw
  s1.setF (R.ADC_SKEW_SKEW n k) m.skew

/-- What the comparison of a step may have to give back: the words of the sub-converter's trims, CAL_PTIME and the two counters
(R603). -/
def State.stepSave (s : State) (n k : Nat) : BitVec 32 × BitVec 32 × Nat × Nat × Nat :=
  (s.word (R.ADC_TRIM n k).off, s.word (R.ADC_SKEW n k).off, s.wordsAt (R.ADC_CAL_PTIME n 0).off 4, s.f (R.ADC_CAL_OK n),
    s.f (R.ADC_CAL_REJ n))

/-- The comparison of the two measurements of a step (R72, R78, R79). -/
def measurementCompare (n : Nat) (m1 m2 : TrimSet) (s : State) : State :=
  let a := s.adcN n
  if a.phase != .measure then s
  else
    let s1 :=
      if TrimAgree m1 m2 then
        let t := (s.setTrims n a.outgoing (trimMean m1 m2)).addWrap (R.ADC_CAL_OK n) 1
        (t.setF (R.ADC_TRIM_ABRUN n a.outgoing) 0).setPtimeAt (R.ADC_CAL_PTIME n 0).off s.now
      else s.incSat (R.ADC_CAL_REJ n)
    if a.slot == 32 then s1.stepEnd n
    else s1.setAdc n { s1.adcN n with phase := .settle, undo := some (s.stepSave n a.outgoing) }

def execMeasurementCompare (n : Fin 8) (m1 m2 : TrimSet) (s : State) : Out := s.whileRunning (2 + n) (measurementCompare n m1 m2 s)

/-- Hand-back: the returning sub-converter serves its slot again from the next slot sample (R71, R81). -/
def handBack (n : Nat) (s : State) : State :=
  let a := s.adcN n
  if a.phase != .settle then s
  else
    let k := s.nextSlotSample a.slot
    let s1 := (s.setAdc n { a with slots := a.slots.set a.slot a.outgoing }).markChan n k k fCAL
    (s1.setF (R.ADC_STATUS_SPARE_SLOT n) 63).stepEnd n

def execHandBack (n : Fin 8) (s : State) : Out := s.whileRunning (2 + n) (handBack n s)

/-- What the comparison of the step in progress wrote is taken back: its trims, CAL_PTIME and its counter (R603, R80). -/
def State.stepUndo (s : State) (n : Nat) : State :=
  let a := s.adcN n
  match a.undo with
  | none => s
  | some (trim, skew, pt, ok, rej) =>
    let s1 := (s.setWord (R.ADC_TRIM n a.outgoing).off trim).setWord (R.ADC_SKEW n a.outgoing).off skew
    ((s1.setWordsAt (R.ADC_CAL_PTIME n 0).off 4 pt).setF (R.ADC_CAL_OK n) ok).setF (R.ADC_CAL_REJ n) rej

/-- A step ended by EN = 0 or a block reset (R603): its slot returns, its measurements are discarded, it counts as skipped, and it
makes no CAL event. -/
def State.stepKill (s0 : State) (n : Nat) : State :=
  let s := s0.stepUndo n
  let a := s.adcN n
  if !s.flag (R.ADC_STATUS_STEP n) then s0
  else
    let slots := if a.slot == 32 then a.slots else a.slots.set a.slot a.outgoing
    let s1 := (s.setAdc n { a with slots := slots }).incSat (R.ADC_CAL_SKIP n)
    let s2 := if s.flag (R.ADC_STATUS_DEGRADED n) then s1 else s1.setF (R.ADC_STATUS_SPARE_SLOT n) 63
    s2.stepEnd n

/-- Whether a consumer names input channel `n` (R69): an enabled chain, by its active source or a pending one, a
pending raw or min/max slot, an enabled raw unit, or a running raw stream. -/
def State.channelNamed (s : State) (n : Nat) : Bool :=
  (List.range 16).any (fun c => s.flag (R.FCH_CTRL_EN c)
    && (s.f ((R.FCH_SRC_SRC c).shift 0x100) == n || (s.flag (R.FCH_STATUS_PENDING c) && s.f (R.FCH_SRC_SRC c) == n)))
  || (List.range 64).any (fun a => s.slotPending a && s.f (R.ACQ_MODE_KIND a) != 1 && s.f (R.ACQ_MODE_INDEX a) == n)
  || (List.range 32).any (fun u => s.flag ((R.TRG_SRC_EN u).shift 0x4000)
    && s.f ((R.TRG_SRC_KIND u).shift 0x4000) == 1 && s.f ((R.TRG_SRC_INDEX u).shift 0x4000) == n)
  || (List.range 32).any (fun q => s.flag (R.SQ_STATUS_RUNNING q) && s.f (R.SQ_CFG_SRC q) == 1 && s.f (R.SQ_CFG_CHAN q) == n)

/-- What a write of ADCn_CTRL does beyond its fields (R69, R83 to R85, R603). `old` is the register before it. -/
def adcCtrlWritten (n old v : Nat) (s : State) : State :=
  let s1 :=
    if bitOf v 0 then s.setF (R.ADC_STATUS_RESULT n) stOk
    else if bitOf old 0 && s.channelNamed n then (s.setB (R.ADC_CTRL_EN n) true).setF (R.ADC_STATUS_RESULT n) stRefusedBusy
    else (s.setF (R.ADC_STATUS_RESULT n) stOk).stepKill n
  if bitOf v 4 && !s1.flag (R.ADC_STATUS_FIRST n) then
    if s1.flag (R.ADC_STATUS_STEP n) then s1.setAdc n { s1.adcN n with fpWait := true } else s1.firstPassStart n
  else s1

/-- The control cycle after a write of ROT_HOLD or ROT_EN: HELD shows a rotation held with no step in progress (R83). -/
def State.heldTick (s : State) : State := (List.range 8).foldl State.showHeld s

/-- Whether writes of the trims of a channel are dropped (R84). -/
def State.trimsPending (s : State) (n : Nat) : Bool :=
  s.flag (R.ADC_CTRL_ROT_EN n) || s.flag (R.ADC_STATUS_STEP n) || s.flag (R.ADC_STATUS_FIRST n)

/-- The sub-converter's factory trims (R70, R86). -/
def State.factoryTrims (s : State) (n k : Nat) : State :=
  let w := (resetWord (R.ADC_TRIM n k).off).toNat
  let old := s.f (R.ADC_TRIM_ABRUN n k)
  let ret := s.f (R.ADC_TRIM_RET n k)
  let s1 := ((s.setWord (R.ADC_TRIM n k).off (BitVec.ofNat 32 w)).setF (R.ADC_TRIM_ABRUN n k) old).setF (R.ADC_TRIM_RET n k) ret
  s1.setWord (R.ADC_SKEW n k).off (resetWord (R.ADC_SKEW n k).off)

/-- The first of a sub-converter's tries, at most 4, whose two measurements agree (R78, R86). -/
def firstAgree (tries : List (TrimSet × TrimSet)) : Option TrimSet :=
  ((tries.take 4).find? (fun p => TrimAgree p.1 p.2)).map (fun p => trimMean p.1 p.2)

/-- One sub-converter at the end of a first pass: its new trims, or its factory trims and FP_REJ. An accepted calibration resets
ABRUN (R75). -/
def State.firstPassOne (s : State) (n k : Nat) (tries : List (TrimSet × TrimSet)) : State :=
  match firstAgree tries with
  | some m => (s.setTrims n k m).setF (R.ADC_TRIM_ABRUN n k) 0
  | none => (s.factoryTrims n k).setB (R.ADC_STATUS_FP_REJ n) true

/-- The first pass of a channel ends (R86, R87): every sub-converter takes its trims; a retired one is not measured. A CAL_SWEEP
that waits only for this channel completes (R85). `res` holds the tries of each sub-converter. -/
def firstPassDone (n : Nat) (res : List (List (TrimSet × TrimSet))) (s : State) : State :=
  if !s.flag (R.ADC_STATUS_FIRST n) then s
  else
    let measured := (List.range 33).filter (fun k => !s.flag (R.ADC_TRIM_RET n k))
    let s1 := measured.foldl (fun (t : State) k => t.firstPassOne n k ((res[k]?).getD [])) s
    let s2 := ((s1.setB (R.ADC_STATUS_FIRST n) false).setB (R.ADC_STATUS_SETTLED n) true).setB (R.ADC_CTRL_FP_RUN n) false
    let s3 := s2.setAdc n { s2.adcN n with nextStep := 0, phase := .idle }
    match s3.longOf 0x20 with
    | none => s3
    | some c =>
      let mask := c.entry.param 0
      let left := (setBits 8 mask).any (fun i => s3.flag (R.ADC_STATUS_FIRST i) || (s3.adcN i).fpWait)
      let rej := ((setBits 8 mask).filter (fun i => s3.flag (R.ADC_STATUS_FP_REJ i))).foldl (fun acc i => acc + 2 ^ i) 0
      if left then s3 else s3.finishLong c stOk rej

def execFirstPassDone (n : Fin 8) (res : List (List (TrimSet × TrimSet))) (s : State) : Out := s.whileRunning (2 + n) (firstPassDone n res s)

/-- CAL_SWEEP at its start: the first pass of every channel of its mask (R85, Table 12-4); a channel that another
CAL_SWEEP holds makes it REFUSED_BUSY (R436). -/
def calSweepStart (mask : Nat) (s : State) : CmdRes :=
  if s.host.longs.any (fun c => c.entry.opcode == 0x20 && (c.entry.param 0 &&& mask) != 0) then resDone s stRefusedBusy
  else if mask == 0 then resDone s stOk 0
  else
    let run := fun (t : State) (n : Nat) =>
      let t1 := t.setB (R.ADC_CTRL_FP_RUN n) true
      if t1.flag (R.ADC_STATUS_FIRST n) then t1
      else if t1.flag (R.ADC_STATUS_STEP n) then t1.setAdc n { t1.adcN n with fpWait := true } else t1.firstPassStart n
    { st := (setBits 8 mask).foldl run s, kind := 2 }

def execCalSweep (k : Fin 16) (f : Fetch) (s : State) : Out :=
  .next (s.startCmd k f 0x20 true false [0xFF] (calSweepStart (f.entry.param 0)))

/-- A new correction takes effect for both fields together (R65). -/
def dcorApply (n : Nat) (s : State) : State := if !s.atTick then s else s.setAdc n { s.adcN n with dcor := s.word (R.ADC_DCOR n).off }

def execDcorApply (n : Fin 8) (s : State) : Out := s.whileRunning (2 + n) (dcorApply n s)

/-- The trims of sub-converter `k` in force: the registers, or, until the alignment tick after a write, the words before it (R84). -/
def State.trimsInForce (s : State) (n k : Nat) : BitVec 32 × BitVec 32 :=
  match (s.adcN n).trimWait.find? (fun p => p.1 == k) with
  | some p => p.2
  | none => (s.word (R.ADC_TRIM n k).off, s.word (R.ADC_SKEW n k).off)

/-- A write of the trims of a sub-converter waits for the next alignment tick, with the words before it in force until then (R84). -/
def State.trimsHeld (s : State) (n k : Nat) (trim skew : BitVec 32) : State :=
  let a := s.adcN n
  if a.trimWait.any (fun p => p.1 == k) then s else s.setAdc n { a with trimWait := (k, trim, skew) :: a.trimWait }

/-- A word of ADCn_TRIMk or ADCn_SKEWk has been written; `old` is the word before it. -/
def trimWritten (n off old v : Nat) (s : State) : State :=
  let skew := decide (0x200 ≤ off % 0x1000)
  let k := (off % 0x1000 - (if skew then 0x200 else 0x100)) / 4
  if old == v || 33 ≤ k then s
  else if skew then s.trimsHeld n k (s.word (R.ADC_TRIM n k).off) (BitVec.ofNat 32 old)
  else s.trimsHeld n k (BitVec.ofNat 32 old) (s.word (R.ADC_SKEW n k).off)

/-- The alignment tick: written trims are in force (R84). -/
def State.trimTick (s : State) : State :=
  (List.range 8).foldl (fun (t : State) n =>
    if (t.adcN n).trimWait.isEmpty then t else t.setAdc n { t.adcN n with trimWait := [] }) s

/-- The channel input switches (R99). -/
def loopbackSwitch (n : Nat) (s : State) : State :=
  if !s.atTick then s else s.setAdc n { s.adcN n with loopEn := s.flag (R.ADC_CTRL_LOOP_EN n), loopSrc := s.f (R.ADC_CTRL_LOOP_SRC n) }

def execLoopbackSwitch (n : Fin 8) (s : State) : Out := s.whileRunning (2 + n) (loopbackSwitch n s)

/-- A channel whose converter domain powers up or whose block resets: its trims reload (R70), a DEGRADED channel keeps
its retirement (R77), and the first pass runs (R85). -/
def State.adcRestart (s : State) (n : Nat) : State :=
  let a := s.adcN n
  let deg := s.flag (R.ADC_STATUS_DEGRADED n)
  let s1 := s.stepKill n
  let trims := (List.range 33).foldl (fun (t : State) k => (t.factoryTrims n k).setF (R.ADC_TRIM_ABRUN n k) 0) s1
  let a1 : AdcSt := { a with phase := .idle, nextStep := 0, fpWait := false, trimWait := [], slots := if deg then a.slots else List.range 32 }
  let s2 := (trims.setAdc n a1).setB (R.ADC_STATUS_STEP n) false
  (if deg then s2 else s2.setF (R.ADC_STATUS_SPARE_SLOT n) 63).firstPassStart n

end Sys2Proof.Machine
end

