-- ==== Sys2Proof/Machine/Dac.lean ====
section
/-!
DEFINITION. Output channels (spec/03_converters.md, R89 to R98, R602, R604): playback with its prefetch, tones, the
SYNTH sample buffer, starts, stops and source changes.
-/
namespace Sys2Proof.Machine

/-- An output channel. -/
def State.dacN (s : State) (n : Nat) : DacSt := tget (fun _ => {}) s.dac n

/-- Replaces an output channel. -/
def State.setDac (s : State) (n : Nat) (d : DacSt) : State := { s with dac := tset (fun _ => {}) s.dac n d }

/-- The playback region of R90: the base a multiple of 256 B, the length a non-zero multiple of 256 B. -/
def State.pbRegionOk (s : State) (n : Nat) : Bool :=
  s.f (R.DAC_PB_BASE_ADDR n) % 256 == 0 && s.f (R.DAC_PB_LEN_LEN n) % 256 == 0 && s.f (R.DAC_PB_LEN_LEN n) != 0

/-- The fixed output latency L_O of 92 fc + 0.625 ns, in 2^-48 ns (R95). -/
def State.outLatency (s : State) : Nat := 92 * s.increment / 5 + 625 * nsUnit / 1000

/-- The prefetch takes the playback region and starts to fill (R90, R602). -/
def State.prefetchStart (s : State) (n : Nat) : State :=
  s.setDac n { s.dacN n with pbBase := s.f (R.DAC_PB_BASE_ADDR n), pbLen := s.f (R.DAC_PB_LEN_LEN n), fetchPos := 0, playPos := 0, filling := true, prefetch := [], skip := 0 }

/-- A write of EN = 1 to an output channel that is neither running nor waiting (R90, R95, R96, R602). -/
def State.dacEnable (s : State) (n : Nat) : State :=
  let src := s.f (R.DAC_CTRL_SRC n)
  if src == 1 && !s.pbRegionOk n then
    (s.setB (R.DAC_CTRL_EN n) false).setF (R.DAC_STATUS_RESULT n) stBadParam
  else
    let at_ := s.ptimeAt (R.DAC_START n 0).off
    let timed := s.flag (R.DAC_CTRL_TIMED n)
    let late := timed && decide (at_ < s.now + 1000 * nsUnit)
    let wait := if timed && !late then DacWait.timed else if src == 1 && !timed then DacWait.prefetch else DacWait.tick
    let s1 := if src == 1 then s.prefetchStart n else s
    let s2 := (s1.setDac n { s1.dacN n with start := wait, stop := false }).setF (R.DAC_STATUS_RESULT n) stOk
    let s3 := if late then s2.setB (R.DAC_STATUS_LATE_START n) true else s2
    if wait == DacWait.tick then s3 else s3.setB (R.DAC_STATUS_START_PEND n) true

/-- What a write of DACn_CTRL does beyond its fields (R90, R95 to R98). `old` is the register before it. -/
def dacCtrlWritten (n old v : Nat) (s : State) : State :=
  let d := s.dacN n
  let active := s.flag (R.DAC_STATUS_RUNNING n) || s.flag (R.DAC_STATUS_START_PEND n) || d.start != .none
  let s0 := s.setB (R.DAC_CTRL_STOP n) false
  if bitOf v 4 || !bitOf v 0 then
    let s1 := s0.setB (R.DAC_CTRL_EN n) false
    let s2 := if bitOf v 4 then s1 else s1.setF (R.DAC_STATUS_RESULT n) stOk
    if active then s2.setDac n { d with stop := true } else s2
  else if !active then s0.dacEnable n
  else
    let src := bitsOf v 1 2
    let s1 := s0.setF (R.DAC_STATUS_RESULT n) stOk
    if src == bitsOf old 1 2 then s1
    else if src == 1 then
      if s1.pbRegionOk n then
        let s2 := s1.prefetchStart n
        s2.setDac n { s2.dacN n with change := .prefetch }
      else (s1.setF (R.DAC_CTRL_SRC n) (bitsOf old 1 2)).setF (R.DAC_STATUS_RESULT n) stBadParam
    else s1.setDac n { d with change := .tick, start := if d.start == .prefetch then .tick else d.start }

/-- What a write of DACn_GAIN does: the new gain takes effect at the next alignment tick (R98). -/
def dacGainWritten (n : Nat) (s : State) : State :=
  if s.flag (R.DAC_STATUS_RUNNING n) then s.setDac n { s.dacN n with gainDue := true } else s

/-- The channel starts with the sample of an index (R94, R95, R604): its source and gain are taken, the tone phases load, the sample
buffer is empty. -/
def State.dacBegin (s : State) (n first : Nat) : State :=
  let d := s.dacN n
  let d1 : DacSt := { d with start := .none, change := .none, gainDue := false, src := s.f (R.DAC_CTRL_SRC n), gain := s.f (R.DAC_GAIN_GAIN n), filling := d.filling && s.f (R.DAC_CTRL_SRC n) == 1, phase0 := s.f (R.DAC_NCO_PA_PHASE n 0) * 2 ^ 32, phase1 := s.f (R.DAC_NCO_PA_PHASE n 1) * 2 ^ 32, idx := first, ftw0 := s.f (R.DAC_NCO_FTW_FTW n 0), ftw1 := s.f (R.DAC_NCO_FTW_FTW n 1), synth := [], sent := 0 }
  ((s.setDac n d1).setB (R.DAC_STATUS_RUNNING n) true).setB (R.DAC_STATUS_START_PEND n) false

/-- The first sample of the present control cycle whose instant at the balls is at or after DACn_START (R95). -/
def State.timedSample (s : State) (n : Nat) : Option Nat :=
  (List.range 80).find? (fun k => decide (s.ptimeAt (R.DAC_START n 0).off ≤ s.sampleTime k + s.outLatency))

/-- A timed start whose first sample lies in the present control cycle, or before it (R95). -/
def State.dacTimed (s : State) (n : Nat) : State :=
  if (s.dacN n).start != .timed || !s.clk.released then s
  else
    match s.timedSample n with
    | some k => s.dacBegin n (s.clk.sampleIdx + k)
    | none => s

/-- The control cycle of a timed start launches its first sample. -/
def State.dacTick (s : State) : State := (List.range 4).foldl State.dacTimed s

/-- A start falls due: at the next alignment tick, or with the sample whose instant at the balls is the first at or
after DACn_START (R95). -/
def dacStart (n : Nat) (s : State) : State :=
  match (s.dacN n).start with
  | .tick => if s.atTick then s.dacBegin n s.clk.sampleIdx else s
  | .timed => s.dacTimed n
  | _ => s

def execDacStart (n : Fin 4) (s : State) : Out := .next (dacStart n s)

/-- A change of source takes effect (R98). -/
def State.dacChange (s : State) (n : Nat) : State :=
  let d := s.dacN n
  let stopFill := s.f (R.DAC_CTRL_SRC n) != 1
  s.setDac n { d with change := .none, src := s.f (R.DAC_CTRL_SRC n), filling := d.filling && !stopFill }

/-- An alignment tick with at least 98,304 B prefetched (R602). -/
def dacPrefetchReady (n : Nat) (s : State) : State :=
  let d := s.dacN n
  if !s.atTick || 2 * d.prefetch.length < 98304 then s
  else if d.start == .prefetch then s.dacBegin n s.clk.sampleIdx
  else if d.change == .prefetch then s.dacChange n
  else s

def execDacPrefetchReady (n : Fin 4) (s : State) : Out := .next (dacPrefetchReady n s)

/-- The output ends: it outputs 0, RUNNING and START_PEND clear, the buffers empty (R97, R604). -/
def State.dacHalt (s : State) (n : Nat) : State :=
  let d := s.dacN n
  let d1 : DacSt := { d with start := .none, change := .none, stop := false, gainDue := false, src := 0, filling := false, prefetch := [], skip := 0, synth := [], code := 0, recent := [] }
  ((s.setDac n d1).setB (R.DAC_STATUS_RUNNING n) false).setB (R.DAC_STATUS_START_PEND n) false

/-- The alignment tick after STOP or EN = 0 (R97). -/
def dacStop (n : Nat) (s : State) : State := if s.atTick && (s.dacN n).stop then s.dacHalt n else s

def execDacStop (n : Fin 4) (s : State) : Out := .next (dacStop n s)

/-- The alignment tick after a write of SRC or DACn_GAIN while running (R98). -/
def dacSourceChange (n : Nat) (s : State) : State :=
  let d := s.dacN n
  let s1 := if d.gainDue then s.setDac n { d with gain := s.f (R.DAC_GAIN_GAIN n), gainDue := false } else s
  if !s.atTick then s else if d.change == .tick then s1.dacChange n else s1

def execDacSourceChange (n : Fin 4) (s : State) : Out := .next (dacSourceChange n s)

/-- A new frequency word takes effect without a phase jump (R94). -/
def ncoFtwApply (n i : Nat) (s : State) : State :=
  let d := s.dacN n
  if !s.atTick then s
  else if i == 0 then s.setDac n { d with ftw0 := s.f (R.DAC_NCO_FTW_FTW n 0) }
  else s.setDac n { d with ftw1 := s.f (R.DAC_NCO_FTW_FTW n 1) }

def execNcoFtwApply (n : Fin 4) (i : Fin 2) (s : State) : Out := .next (ncoFtwApply n i s)

/-- One sample of the playback source: the oldest prefetched, or 0 with an underrun (R91); after the last sample of a
region without LOOP, 0 and RUNNING clears (R90). -/
def State.playSample (s : State) (n : Nat) : State × Int :=
  let d := s.dacN n
  let len := d.pbLen / 2
  if len ≤ d.playPos then ((s.setDac n { d with filling := false }).setB (R.DAC_STATUS_RUNNING n) false, 0)
  else
    let pos := if d.playPos + 1 == len && s.flag (R.DAC_CTRL_LOOP n) then 0 else d.playPos + 1
    match d.prefetch with
    | x :: rest => (s.setDac n { d with prefetch := rest, playPos := pos }, x.toInt)
    | [] =>
      let s1 := (s.setDac n { d with playPos := pos, skip := d.skip + 1 }).incSat (R.DAC_UNDERRUN_COUNT n)
      (s1.setB (R.DAC_STATUS_UNDERRUN n) true, 0)

/-- One sample of the two tones (R93): A0·sin(φ0) + A1·sin(φ1) with amplitudes in signed Q1.15, so that 1.0 is the full scale of the
container. -/
def State.toneSample (s : State) (n : Nat) : State × Int :=
  let d := s.dacN n
  let v := satS 16 (timesSine (s.fi (R.DAC_NCO_PA_AMP n 0)) d.phase0 + timesSine (s.fi (R.DAC_NCO_PA_AMP n 1)) d.phase1)
  (s.setDac n { d with phase0 := (d.phase0 + d.ftw0) % 2 ^ 48, phase1 := (d.phase1 + d.ftw1) % 2 ^ 48 }, v)

/-- One sample of the SYNTH stream, or 0 with a starve (R92, R604). -/
def State.synthSample (s : State) (n : Nat) : State × Int :=
  let d := s.dacN n
  match d.synth with
  | x :: rest => (s.setDac n { d with synth := rest }, x.toInt)
  | [] => ((s.incSat (R.DAC_STARVE_COUNT n)).setB (R.DAC_STATUS_STARVE n) true, 0)

/-- The value z applied to the channel (R89). -/
def dacValue (v : Int) (gain : Nat) : Int := satS 16 (roundDiv (v * gain) (2 ^ 14))

/-- The last `k` entries of a list. -/
def lastN {α : Type} (k : Nat) (l : List α) : List α := l.drop (l.length - k)

/-- The sample index of the output sample that falls due: one a sample period, and none of a control cycle that has passed. -/
def State.dueIdx (s : State) (n : Nat) : Nat := max (s.dacN n).idx s.clk.sampleIdx

/-- The value z of the output sample that falls due, and the state after its source has given it (R89 to R93); 0 while the output does
not run, or before the first sample of a timed start (R95). -/
def State.dueSample (s : State) (n : Nat) : State × Int :=
  let d := s.dacN n
  if !s.flag (R.DAC_STATUS_RUNNING n) then (s, 0)
  else
    let p := if d.src == 1 then s.playSample n
      else if d.src == 2 then s.toneSample n
      else if d.src == 3 then s.synthSample n
      else (s, 0)
    let z := dacValue p.2 d.gain
    let s1 := if outS 16 (roundDiv (p.2 * d.gain) (2 ^ 14)) then p.1.setB (R.DAC_STATUS_CLIP n) true else p.1
    (s1.setDac n { s1.dacN n with sent := d.sent + 1 }, z)

/-- An output sample falls due: its value goes to the converter as a 14-bit code. -/
def dacSampleDue (n : Nat) (s : State) : State :=
  let p := s.dueSample n
  let code := BitVec.ofNat 14 (wrapInt 16 p.2 / 4)
  let d := p.1.dacN n
  p.1.setDac n { d with code := code.toNat, idx := s.dueIdx n + 1, recent := lastN 16 (d.recent ++ [code]) }

/-- A SYNTH record enters the sample buffer whole, the oldest samples giving way (R604); while the output does not run
its buffer stays empty. -/
def State.synthRecord (s : State) (n : Nat) (xs : List (BitVec 16)) : State :=
  if !s.flag (R.DAC_STATUS_RUNNING n) then s
  else
    let d := s.dacN n
    let all := d.synth ++ xs
    let drop := all.length - 4096
    let s1 := s.setDac n { d with synth := lastN 4096 all }
    if drop == 0 then s1 else (s1.addSat (R.DAC_SYNTH_DROP n) drop).setB (R.DAC_STATUS_SYNTH_OVR n) true

def execSynthRecord (n : Fin 4) (samples : List (BitVec 16)) (s : State) : Out := .next (s.synthRecord n samples)

/-- Prefetched data arrive through port P4 (R91, R602): data of lost samples are passed over; the read position wraps
with LOOP. -/
def State.prefetchArrive (s : State) (n : Nat) (xs : List (BitVec 16)) : State :=
  let d := s.dacN n
  let pos := d.fetchPos + 2 * xs.length
  let pos' := if d.pbLen ≤ pos && s.flag (R.DAC_CTRL_LOOP n) then pos - d.pbLen else pos
  s.setDac n { d with prefetch := (d.prefetch ++ xs.drop d.skip).take 65536, skip := d.skip - xs.length, fetchPos := pos' }

end Sys2Proof.Machine
end

