-- ==== Sys2Proof/Machine/Chain.lean ====
section
/-!
DEFINITION. Filter chains and detectors (spec/04_filter_chains.md, R101 to R138): the checks, banks and hand-overs, and
the arithmetic of an output sample.
-/
namespace Sys2Proof.Machine

/-- A filter chain. -/
def State.fchN (s : State) (n : Nat) : FchSt := tget (fun _ => {}) s.fch n

/-- Replaces a filter chain. -/
def State.setFch (s : State) (n : Nat) (c : FchSt) : State := { s with fch := tset (fun _ => {}) s.fch n c }

/-- A field of the active bank: the shadow field's mirror (R125). -/
def act (x : Fld) : Fld := x.shift 0x100

/-! ## Factoring and checks -/

/-- M and N for a bank of settings (R111, R112), or none where the commit completes BAD_PARAM. -/
def factorMN (man : Bool) (d mMan nMan : Nat) : Option (Nat × Nat) :=
  if man then
    if 1 ≤ mMan && mMan ≤ 65536 && 1 ≤ nMan && nMan ≤ 16 then some (mMan, nMan) else none
  else if d < 1 || 1048576 < d then none
  else
    match ((List.range 17).reverse).find? (fun n => 1 ≤ n && d % n == 0 && d / n ≤ 65536) with
    | some n => some (d / n, n)
    | none => none

/-- M and N of the shadow bank. -/
def State.shadowMN (s : State) (n : Nat) : Option (Nat × Nat) :=
  factorMN (s.flag (R.FCH_DEC_MAN n)) (s.f (R.FCH_DEC_D n)) (s.f (R.FCH_MN_M_MAN n)) (s.f (R.FCH_MN_N_MAN n))

/-- The total decimation in use (R111, FCHn_MN_ACT). -/
def State.actD (s : State) (n : Nat) : Nat := s.f (R.FCH_MN_ACT_M n) * s.f (R.FCH_MN_ACT_N n)

/-- Whether a chain is enabled: it runs, or its enable has passed its checks. -/
def State.fchOn (s : State) (n : Nat) : Bool := s.flag (R.FCH_STATUS_RUNNING n) || (s.fchN n).startWait

/-- The decimation at which the check of R14 counts an enabled chain: the smaller of active and pending (Table 4-4). -/
def State.loadD (s : State) (n : Nat) : Nat :=
  if s.flag (R.FCH_STATUS_PENDING n) then
    match s.shadowMN n with
    | some mn => min (s.actD n) (mn.1 * mn.2)
    | none => s.actD n
  else s.actD n

/-- A sum of reciprocals as a fraction. -/
def recipSum : List Nat → Nat × Nat
  | [] => (0, 1)
  | d :: ds => let r := recipSum ds; (r.1 * d + r.2, r.2 * d)

/-- Whether R14 holds with chain `n` counted at decimation `d` (Table 4-4, check 5). -/
def State.loadOk (s : State) (n d : Nat) : Bool :=
  let others := ((List.range 16).filter (fun i => i != n && s.fchOn i)).map s.loadD
  let mine := if s.fchOn n then min (s.actD n) d else d
  let r := recipSum (mine :: others)
  decide (r.1 ≤ 8 * r.2)

/-- FCH_LOAD shows the sum over the enabled chains. -/
def State.syncLoad (s : State) : State :=
  let r := recipSum (((List.range 16).filter s.fchOn).map s.actD)
  s.setF R.FCH_LOAD (2 ^ 28 * r.1 / r.2)

/-- T_max of R108. -/
def tMax (d : Nat) : Nat := min 512 (32 * d)

/-- The fence block of a chain source (Table 1-7), if a block feeds it. -/
def srcBlock (src : Nat) : Option Nat :=
  if src ≤ 7 then some (0x02 + src) else if 9 ≤ src && src ≤ 12 then some (0x0A + src - 9) else none

/-- R539: a secure source may not feed a non-secure chain; the playback region counts as a source. -/
def State.sourceCrosses (s : State) (n : Nat) : Bool :=
  let src := s.f (R.FCH_SRC_SRC n)
  let sec := match srcBlock src with
    | some b => s.blockSecure b
    | none => src == 8 && s.rangeSecure 0 (s.f (R.FCH_PB_BASE_ADDR n)) (s.f (R.FCH_PB_LEN_LEN n))
  sec && !s.blockSecure (0x10 + n)

/-- The code of the first check of Table 4-4 that fails, after that of R539; OK when all pass. -/
def State.fchChecks (s : State) (n : Nat) (capacity : Bool) : Nat :=
  let src := s.f (R.FCH_SRC_SRC n)
  let base := s.f (R.FCH_PB_BASE_ADDR n)
  let len := s.f (R.FCH_PB_LEN_LEN n)
  if s.sourceCrosses n then stBadWorld
  else if 13 ≤ src then stBadParam
  else if src == 8 && (base % 256 != 0 || len % 256 != 0 || len == 0) then stBadParam
  else
    match s.shadowMN n with
    | none => stBadParam
    | some mn =>
      let d := mn.1 * mn.2
      let t := s.f (R.FCH_FIR_TAPS n)
      if t < 1 || tMax d < t then stBadParam
      else if capacity && !s.loadOk n d then stRefusedCapacity
      else stOk

/-! ## Coefficients, group delay and spans -/

/-- Where the shadow coefficient `k` of a chain is kept: at its address for the slots below 256; the addresses that
spec/04 gives the slots 256 to 511 are those of the active mirrors, so these slots stand past the end of BAR0. -/
def coefOff (n k : Nat) : Nat := (if k < 256 then 0x80400 else 0x1080400) + 0x1000 * n + 4 * k

/-- The FIR coefficients of the active bank over its taps (R109, R110). -/
def State.firTaps (s : State) (n : Nat) : List Int :=
  let t := s.f (act (R.FCH_FIR_TAPS n))
  let h := fun i => s.fi ((R.FCH_COEF_H n i).shift 0x400)
  if s.flag (act (R.FCH_FIR_MIN n)) then (List.range t).map h
  else (List.range t).map (fun i => h (min i (t - 1 - i)))

/-- Group delay in 2^-16 input samples and whether GD_UNDEF is set (R117). -/
def groupDelay (m : Nat) (min : Bool) (taps : List Int) : Nat × Bool :=
  let t := taps.length
  let sum : Int := taps.foldl (· + ·) 0
  let wsum : Int := (taps.zipIdx).foldl (fun a p => a + p.1 * p.2) 0
  let base := 5 * (m - 1) * 65536
  let dflt := base + m * (t - 1) * 65536
  if sum == 0 then (dflt, true)
  else if !min then (dflt, false)
  else
    let num := if sum < 0 then -wsum else wsum
    let den := if sum < 0 then -sum else sum
    if num < 0 || ((t : Int) - 1) * den < num then (dflt, true)
    else ((roundDiv (base * den + 2 * m * num * 65536) den).toNat, false)

/-- The response span S of an output (R116). -/
def spanS (m t : Nat) : Nat := 46 + 10 * (m - 1) + 2 * m * (t - 1)

/-- S of the active bank. -/
def State.actSpan (s : State) (n : Nat) : Nat := spanS (s.f (R.FCH_MN_ACT_M n)) (s.f (act (R.FCH_FIR_TAPS n)))

/-- FCHn_GDELAY and GD_UNDEF follow the active bank (R117, R119). -/
def State.syncDelay (s : State) (n : Nat) : State :=
  let g := groupDelay (s.f (R.FCH_MN_ACT_M n)) (s.flag (act (R.FCH_FIR_MIN n))) (s.firTaps n)
  (s.setF (R.FCH_GDELAY_GDELAY n) g.1).setB (R.FCH_STATUS_GD_UNDEF n) g.2

/-- `k` register words copied, from the offsets `src` to the offsets `dst`. -/
def State.copyWords (s : State) (dst src : Nat → Nat) (k : Nat) : State :=
  (List.range k).foldl (fun (t : State) i => t.setWord (dst i) (t.word (src i))) s

/-- M and N in use follow the shadow bank (R111). -/
def State.takeMN (s : State) (n : Nat) : State :=
  match s.shadowMN n with
  | some mn => (s.setF (R.FCH_MN_ACT_M n) mn.1).setF (R.FCH_MN_ACT_N n) mn.2
  | none => s

/-- The shadow bank copied whole into the active bank (R129); M and N in use follow it. -/
def State.copyBank (s : State) (n : Nat) : State :=
  let b := 0x80000 + 0x1000 * n
  let s1 := s.copyWords (fun i => b + 0x200 + 4 * i) (fun i => b + 0x100 + 4 * i) 14
  let s2 := s1.copyWords (fun i => b + 0x800 + 4 * i) (fun i => coefOff n i) 512
  ((s2.takeMN n).syncDelay n).syncLoad

/-- Outputs of the active bank that carry TRANSIENT or UNSETTLED after a change (R131, R137). -/
def State.settleCount (s : State) (n : Nat) : Nat := ceilDiv (s.actSpan n) (2 * s.actD n)

/-- The smallest multiple of `g` at or above `k`. -/
def alignUp (k g : Nat) : Nat := ceilDiv k g * g

/-! ## Commit, cancel, enable and disable -/

/-- Whether the shadow bank of a chain takes no write: its checks run or a commit is pending (R127, R137). -/
def State.shadowHeld (s : State) (n : Nat) : Bool := s.flag (R.FCH_CTRL_COMMIT n) || s.flag (R.FCH_STATUS_PENDING n)

/-- What makes the write of EN = 0 refuse (R138): a running context, a pending slot, an enabled trigger unit or a
Trigger Port answer that names the chain. -/
def State.chainNamed (s : State) (n : Nat) : Bool :=
  s.liveCtxs.any (fun c => s.f (R.CTX_SRC_SRC_CHAIN c) == n)
  || (List.range 64).any (fun a => s.slotPending a && s.f (R.ACQ_MODE_KIND a) == 1 && s.f (R.ACQ_MODE_INDEX a) == n)
  || (List.range 32).any (fun u => s.flag ((R.TRG_SRC_EN u).shift 0x4000)
    && 2 ≤ s.f ((R.TRG_SRC_KIND u).shift 0x4000) && s.f ((R.TRG_SRC_KIND u).shift 0x4000) ≤ 4
    && s.f ((R.TRG_SRC_INDEX u).shift 0x4000) == n)
  || (List.range 64).any (fun q => s.f (R.TP_ANS_CFG_SRC q) == 1 && s.f (R.TP_ANS_CFG_CHAIN q) == n)

/-- A detector window in progress ends without a result (R123). -/
def dropWindows (c : FchSt) : FchSt := { c with pkMax := 0, pkCount := 0, rmsSum := 0, rmsCount := 0 }

/-- The histories and the envelope cleared to zero (R132, R137). -/
def clearHist (c : FchSt) : FchSt := { c with hb := [], ints := [], combs := [], fir := [], env := 0 }

/-- A commit or checks in progress end without a hand-over (R133, R138). -/
def State.endCommit (s : State) (n : Nat) : State :=
  ((s.setFch n { s.fchN n with chk := .none, late := false, handed := false }).setB (R.FCH_CTRL_COMMIT n) false).setB (R.FCH_STATUS_PENDING n) false

/-- The chain stops (R138). -/
def State.fchStop (s : State) (n : Nat) : State :=
  let c := dropWindows { s.fchN n with startWait := false, fifo := [], shadowIn := [], lefts := [] }
  ((s.setFch n c).setB (R.FCH_STATUS_RUNNING n) false).syncLoad

/-- The write of EN = 0 (R138). -/
def State.fchDisable (s : State) (n : Nat) : State :=
  if s.chainNamed n then (s.setB (R.FCH_CTRL_EN n) true).setF (R.FCH_STATUS_RESULT n) stRefusedBusy
  else
    let pend := s.flag (R.FCH_STATUS_PENDING n) || (s.fchN n).chk == .commit
    let s1 := ((s.endCommit n).fchStop n).setB (R.FCH_CTRL_EN n) false
    s1.setF (R.FCH_STATUS_RESULT n) (if pend then stCancelled else stOk)

/-- Whether the next output is at or after FCHn_HO_PTIME (R128): its emit index has been reached, and has that PTIME. -/
def State.boundaryTime (s : State) (n : Nat) : Bool :=
  let c := s.fchN n
  decide (c.nextE < s.clk.sampleIdx + 80) && decide (c.hoPtime ≤ s.idxTime c.nextE)

/-- The next output is the hand-over boundary of a pending commit (R128, R134). -/
def State.handOverDue (s : State) (n : Nat) : Bool :=
  let c := s.fchN n
  s.flag (R.FCH_STATUS_PENDING n) && s.flag (R.FCH_STATUS_RUNNING n) && !c.handed
  && (if c.atPtime then c.late || s.boundaryTime n else c.nextE / (2 * s.actD n) % c.align == 0)

/-- Whether the hand-over stands against a CANCEL of the present control cycle: it has taken place in it, or the boundary's last
sample falls in it (R133). -/
def State.handOverStands (s : State) (n : Nat) : Bool :=
  (s.fchN n).handed || (s.handOverDue n && decide ((s.fchN n).nextE + 23 < s.clk.sampleIdx + 80))

/-- A CANCEL ends a pending commit (R133). -/
def State.fchCancel (s : State) (n : Nat) : State :=
  if s.flag (R.FCH_STATUS_PENDING n) && !s.handOverStands n then
    ((s.setFch n { s.fchN n with late := false }).setB (R.FCH_STATUS_PENDING n) false).setF (R.FCH_STATUS_RESULT n) stCancelled
  else s

/-- What a write of FCHn_CTRL does beyond its fields. `old` is the register before it. Where one write asks for several things the
model takes them in this order: CANCEL; then a change of EN, beside which COMMIT is ignored; then COMMIT. An enable while the checks
of a commit to the disabled chain run takes their place. -/
def fchCtrlWritten (n old v : Nat) (s : State) : State :=
  let s0 := (s.setB (R.FCH_CTRL_CANCEL n) false).setB (R.FCH_CTRL_COMMIT n) (bitOf old 1)
  let s1 := if bitOf v 4 then s0.fchCancel n else s0
  if !bitOf v 0 && bitOf old 0 then s1.fchDisable n
  else if bitOf v 0 && !bitOf old 0 then (s1.setFch n { s1.fchN n with chk := .enable }).setB (R.FCH_CTRL_COMMIT n) true
  else if bitOf v 1 then
    if s1.shadowHeld n then s1.setB (R.FCH_STATUS_SHADOW_BUSY n) true
    else
      let c : FchSt := { s1.fchN n with chk := .commit, atPtime := bitOf v 2, flush := bitOf v 3, align := max 1 (s1.f (R.FCH_ALIGN_ALIGN n)), hoPtime := s1.ptimeAt (R.FCH_HO_PTIME n 0).off }
      (s1.setFch n c).setB (R.FCH_CTRL_COMMIT n) true
  else s1

/-- The checks of an enable or a commit end (R126, R134, R136, R137). -/
def fchChecksDone (n : Nat) (s : State) : State :=
  let c := s.fchN n
  let s1 := (s.setFch n { c with chk := .none }).setB (R.FCH_CTRL_COMMIT n) false
  match c.chk with
  | .none => s
  | .enable =>
    let r := s.fchChecks n true
    let s2 := s1.setF (R.FCH_STATUS_RESULT n) r
    if r != stOk then s2.setB (R.FCH_CTRL_EN n) false
    else
      let s3 := ((s2.copyBank n).addWrap (R.FCH_EPOCH_EPOCH n) 1)
      (s3.setFch n (dropWindows (clearHist { s3.fchN n with startWait := true, fifo := [] }))).syncLoad
  | .commit =>
    let on := s.fchOn n
    let r := s.fchChecks n on
    let s2 := s1.setF (R.FCH_STATUS_RESULT n) r
    if r != stOk then s2
    else if !on then s2.copyBank n
    else
      let late := c.atPtime && decide (c.hoPtime < s.now)
      let s3 := (s2.setFch n { s2.fchN n with late := late }).setB (R.FCH_STATUS_PENDING n) true
      if late then s3.setB (R.FCH_STATUS_LATE_HO n) true else s3

def execFchChecksDone (n : Fin 16) (s : State) : Out := .next (fchChecksDone n s)

/-- The chain starts at the alignment tick after its enable checks (R137). -/
def fchStart (n : Nat) (s : State) : State :=
  let c := s.fchN n
  if !c.startWait || !s.atTick then s
  else
    let k0 := s.clk.sampleIdx
    let c1 : FchSt := { c with startWait := false, nextIdx := k0, nextE := alignUp k0 (2 * s.actD n), phase := s.f (act (R.FCH_NCO_POFS n)) * 2 ^ 32, lefts := [(s.settleCount n, fUNSETTLED)], srcs := [(k0, s.f (act (R.FCH_SRC_SRC n)))], fifo := [], shadowIn := [], handed := false, pb := [], pbPos := 0, pbSkip := 0 }
    ((s.setFch n c1).setB (R.FCH_STATUS_RUNNING n) true).syncLoad

def execFchStart (n : Fin 16) (s : State) : Out := .next (fchStart n s)

/-! ## Detectors -/

/-- A detector result as the trigger units and the answer table see it: detector (0 peak, 1 RMS, 2 envelope), value,
PART, and the output that ends its window (R123, R124). -/
structure DetRes where
  det : Nat
  value : Nat
  part : Bool
  out : ChainOut
deriving DecidableEq, Repr

/-- The square root of `a / b` rounded to nearest. -/
def rootRound (a b : Nat) : Nat :=
  let r := isqrt (a / b)
  if b * (2 * r + 1) * (2 * r + 1) ≤ 4 * a then r + 1 else r

/-- |x| of an output (R121). -/
def magOf (i q : Int) : Nat := rootRound (i * i + q * q).toNat 1

/-- The window exponent; values above 20 act as 20 (R121). -/
def winK (k : Nat) : Nat := min 20 k

/-- A detector result enters its register (R124). -/
def State.detResult (s : State) (n : Nat) (d : DetRes) : State :=
  let b := if d.det == 0 then R.FCH_DET_PK n else if d.det == 1 then R.FCH_DET_RMS n else R.FCH_DET_ENV n
  let seq := (bitsOf (s.f b) 16 8 + 1) % 256
  s.setF b (min d.value 65535 + 2 ^ 16 * seq + (if d.part then 2 ^ 24 else 0))

/-- The results of the windows in progress when a hand-over cuts them (R123). -/
def State.cutWindows (s : State) (n : Nat) : List DetRes :=
  let c := s.fchN n
  let pk := if c.pkCount == 0 then [] else [⟨0, c.pkMax, true, c.last⟩]
  let k := winK (s.f (act (R.FCH_DETCFG_RMS_K n)))
  if c.rmsCount == 0 then pk else pk ++ [⟨1, rootRound c.rmsSum (2 ^ k), true, c.last⟩]

/-- The detectors take an output (R121 to R123). -/
def State.detOutput (s : State) (n : Nat) (o : ChainOut) : FchSt × List DetRes :=
  let c := s.fchN n
  let kp := winK (s.f (act (R.FCH_DETCFG_PK_K n)))
  let kr := winK (s.f (act (R.FCH_DETCFG_RMS_K n)))
  let x := magOf o.i o.q
  let mx := max c.pkMax x
  let sum := c.rmsSum + (o.i * o.i + o.q * o.q).toNat
  let pkEnd := (o.j + 1) % 2 ^ kp == 0
  let rmsEnd := (o.j + 1) % 2 ^ kr == 0
  let a := if c.env < x * 65536 then s.f (act (R.FCH_DETCFG_ATT_A n)) else s.f (act (R.FCH_DETCFG_DEC_A n))
  let env := (roundDiv (c.env * 2 ^ a + x * 65536 - c.env) (2 ^ a)).toNat
  let pk := if pkEnd then [⟨0, mx, decide (c.pkCount + 1 < 2 ^ kp), o⟩] else []
  let rms := if rmsEnd then [⟨1, rootRound sum (2 ^ kr), decide (c.rmsCount + 1 < 2 ^ kr), o⟩] else []
  let c1 : FchSt := { c with pkMax := if pkEnd then 0 else mx, pkCount := if pkEnd then 0 else c.pkCount + 1, rmsSum := if rmsEnd then 0 else sum, rmsCount := if rmsEnd then 0 else c.rmsCount + 1, env := env, last := o }
  (c1, pk ++ rms ++ [⟨2, ((env + 32768) / 65536 : Nat), false, o⟩])

/-! ## Hand-over -/

/-- The samples that a new source gives from index `k` on: those that have come since it stood in the shadow bank; an earlier sample
counts as 0. -/
def newInput (k now : Nat) (xs : List (Nat × Int)) : List (Nat × Int) :=
  let ys := xs.filter (fun p => decide (k ≤ p.1))
  let upto := match ys with
    | [] => now
    | y :: _ => y.1
  (List.range (upto - k)).map (fun i => (k + i, (0 : Int))) ++ ys

/-- The chain's input after a hand-over: a new source from the sample after the last that an output of the old bank used (R128, R129).
A hand-over that leaves SRC = 8 takes its region from the start. -/
def FchSt.newSource (c : FchSt) (old new now : Nat) : FchSt :=
  if new == 8 then { c with fifo := [], shadowIn := [], pb := [], pbPos := 0, pbSkip := 0, srcs := (c.nextIdx, new) :: c.srcs }
  else if new == old then { c with shadowIn := [] }
  else { c with fifo := newInput c.nextIdx now c.shadowIn, shadowIn := [], pb := [], pbPos := 0, pbSkip := 0, srcs := (c.nextIdx, new) :: c.srcs }

/-- The hand-over (R119, R123, R128 to R132): the results of cut windows, then the new bank; PENDING clears at the end of the control
cycle (R130). -/
def State.chainHandOver (s : State) (n : Nat) : State × List DetRes :=
  let cut := s.cutWindows n
  let s1 := cut.foldl (fun (t : State) d => t.detResult n d) s
  let eh := (s1.fchN n).nextE
  let s3 := ((s1.copyBank n).addWrap (R.FCH_EPOCH_EPOCH n) 1).setF (R.FCH_HO_INDEX n) eh
  let c := s3.fchN n
  let mark := (s3.settleCount n, if c.flush then fUNSETTLED else fTRANSIENT)
  let c1 := dropWindows { c with nextE := alignUp eh (2 * s3.actD n), lefts := mark :: c.lefts, handed := true, late := false }
  let c2 := c1.newSource (s.f (act (R.FCH_SRC_SRC n))) (s3.f (act (R.FCH_SRC_SRC n))) s.clk.sampleIdx
  let c3 := if c.flush then clearHist c2 else c2
  let s4 := if c.flush then s3.setB (R.FCH_CTRL_FLUSH n) false else s3
  (s4.setFch n c3, cut)

/-- The control cycle after a hand-over: PENDING reads 0 (R130). -/
def State.fchTick (s : State) : State :=
  (List.range 16).foldl (fun (t : State) n =>
    if (t.fchN n).handed then (t.setFch n { t.fchN n with handed := false }).setB (R.FCH_STATUS_PENDING n) false else t) s

/-! ## The arithmetic of an output -/

/-- The NCO phase of input sample `k` (R104). -/
def State.ncoPhase (s : State) (n k cont : Nat) : Nat :=
  let ftw := s.f (act (R.FCH_FTW_FTW n))
  if s.flag (act (R.FCH_NCO_CONT n)) then cont
  else (ftw * k + s.f (act (R.FCH_NCO_POFS n)) * 2 ^ 32) % 2 ^ 48

/-- Complex sums and scalings. -/
def cscale (k : Int) (a : Int × Int) : Int × Int := (k * a.1, k * a.2)
def cround (a : Int × Int) (den : Int) : Int × Int := (roundDiv a.1 den, roundDiv a.2 den)

/-- Half-band coefficient g_i, i = 0 to 46 (R106). -/
def hbTap (i : Nat) : Int :=
  let d := if i ≤ 23 then 23 - i else i - 23
  if d == 0 then 2 ^ 18
  else if d % 2 == 0 then 0
  else if d == 23 then 2 ^ 17 - (List.range 11).foldl (fun a m => a + Config.hbCoef m) 0
  else Config.hbCoef (d / 2)

/-- The sum of products of taps and history. -/
def cdot : List Int → List (Int × Int) → Int × Int
  | h :: hs, u :: us => cadd (cscale h u) (cdot hs us)
  | _, _ => (0, 0)

/-- The five integrators take a sample; the second part is the last integrator's output. -/
def integrate : List (Int × Int) → Int × Int → List (Int × Int) × (Int × Int)
  | [], x => ([], x)
  | a :: as, x => let y := cadd a x; let r := integrate as y; (y :: r.1, r.2)

/-- The five combs take a sample of the last integrator. -/
def comb : List (Int × Int) → Int × Int → List (Int × Int) × (Int × Int)
  | [], x => ([], x)
  | a :: as, x => let r := comb as (csub x a); (x :: r.1, r.2)

/-- A list held at five entries. -/
def five (l : List (Int × Int)) : List (Int × Int) := if l.length == 5 then l else List.replicate 5 (0, 0)

/-- ⌈log2 M⌉. -/
def clog2 (m : Nat) : Nat := if m ≤ 1 then 0 else ilog2 (m - 1) + 1

/-- The CIC output from the exact output of its last comb (R107). -/
def cicScale (m : Nat) (w : Int × Int) : Int × Int :=
  let e := 2 ^ (5 * clog2 m + 17)
  cround (cscale (roundDiv e ((m : Int) ^ 5)) w) e

/-- Settings that the arithmetic of a sample uses, read once. -/
structure ChainSet where
  m : Nat
  d : Nat
  taps : List Int
  invert : Bool
  ftw : Nat
  gain : Nat
  hb : List Int

/-- The settings of the active bank. -/
def State.chainSet (s : State) (n : Nat) : ChainSet :=
  { m := s.f (R.FCH_MN_ACT_M n), d := s.actD n, taps := s.firTaps n, invert := s.flag (act (R.FCH_NCO_INVERT n)), ftw := s.f (act (R.FCH_FTW_FTW n)), gain := s.f (act (R.FCH_GAIN_GAIN n)), hb := (List.range 47).map hbTap }

/-- The chain takes one input sample: mixer, half-band, CIC (R104 to R107). In both modes of the NCO its phase is kept, for a hand-over
to continuous mode goes on from the last value (R104). -/
def State.takeSample (s : State) (n : Nat) (cs : ChainSet) (c : FchSt) (k : Nat) (x : Int) : FchSt :=
  let phase := s.ncoPhase n k c.phase
  let mixed := mixer x phase
  let p := if cs.invert then (mixed.1, -mixed.2) else mixed
  let c1 : FchSt := { c with hb := (p :: c.hb).take 47, phase := (phase + cs.ftw) % 2 ^ 48, nextIdx := k + 1 }
  if k % 2 == 0 || k < 23 then c1
  else
    let e := k - 23
    let v := cround (cdot cs.hb c1.hb) (2 ^ 19)
    let ig := integrate (five c1.ints) v
    let c2 := { c1 with ints := ig.1 }
    if e % (2 * cs.m) != 0 then c2
    else
      let cb := comb (five c2.combs) ig.2
      let u := if cs.m == 1 then v else cicScale cs.m cb.2
      { c2 with combs := cb.1, fir := (u :: c2.fir).take 512 }

/-- The input sample at the head of the playback buffer, or 0 with an underrun (R102); a sample of a poisoned sector
leaves its mark (R408). -/
def State.playbackIn (s : State) (n : Nat) (c : FchSt) : State × FchSt × Int :=
  match c.pb with
  | (x, bad) :: rest =>
    let c1 := { c with pb := rest }
    (s, if bad then { c1 with pbMarks := addMark ⟨c.nextIdx, c.nextIdx, fPOISON⟩ c.pbMarks } else c1, x.toInt)
  | [] => ((s.incSat (R.FCH_PB_UNDERRUN n)).setB (R.FCH_STATUS_UNDERRUN n) true, { c with pbSkip := c.pbSkip + 1 }, 0)

/-- Takes playback samples until the one that completes the next output. -/
def State.takePlayback (n : Nat) (cs : ChainSet) : Nat → State × FchSt → State × FchSt
  | 0, p => p
  | fuel + 1, (s, c) =>
    let r := s.playbackIn n c
    State.takePlayback n cs fuel (r.1, r.1.takeSample n cs r.2.1 c.nextIdx r.2.2)

/-- Takes the queued input samples up to an index. -/
def State.takeQueued (s : State) (n : Nat) (cs : ChainSet) (upto : Nat) : List (Nat × Int) → FchSt → FchSt
  | [], c => { c with fifo := [] }
  | (k, x) :: rest, c =>
    if upto < k then { c with fifo := (k, x) :: rest }
    else State.takeQueued s n cs upto rest (s.takeSample n cs c k x)

/-- Whether the sample that completes the next output has arrived: of playback, its sample period has (R102). -/
def State.inputReady (s : State) (n : Nat) : Bool :=
  let c := s.fchN n
  if s.f (act (R.FCH_SRC_SRC n)) == 8 then decide (c.nextE + 23 < s.clk.sampleIdx + 80)
  else c.fifo.any (fun p => decide (c.nextE + 23 ≤ p.1))

/-- The flags of the samples `lo` to `hi` of one source (R42, R68, R77, R81, R87, R408). -/
def State.srcFlags (s : State) (n src lo hi : Nat) : Nat :=
  if src ≤ 7 then s.chanFlags src lo hi else marksFlags (s.fchN n).pbMarks lo hi ||| s.unlockFlag lo hi

/-- The flags of a span, from the sources that the chain took its samples from (R116). -/
def State.spanFlags (s : State) (n lo : Nat) : List (Nat × Nat) → Nat → Nat
  | [], _ => 0
  | (k, src) :: rest, hi =>
    (if k ≤ hi then s.srcFlags n src (max lo k) hi else 0) ||| (if lo < k then State.spanFlags s n lo rest (min hi (k - 1)) else 0)

/-- The flags that the banks in `lefts` give an output, and what is left of them. -/
def leftFlags (ls : List (Nat × Nat)) : Nat := ls.foldl (fun acc p => if 0 < p.1 then acc ||| p.2 else acc) 0
def leftNext (ls : List (Nat × Nat)) : List (Nat × Nat) := (ls.filter (fun p => decide (1 < p.1))).map (fun p => (p.1 - 1, p.2))

/-- The time of the output with emit index `e` under R118. -/
def State.outTime (s : State) (n e : Nat) : Nat :=
  let gd := if s.flag (act (R.FCH_FIR_GD_COMP n)) then roundDiv (s.f (R.FCH_GDELAY_GDELAY n) * (s.lineAt e).2.2) (80 * 65536) else 0
  (((s.idxTime e : Int) - gd) % (ptimeSpan : Int)).toNat

/-- The chain completes its next output: the new state, the output and the detector results (R109, R113 to R118, R121). -/
def State.emitOutput (s : State) (n : Nat) : State × ChainOut × List DetRes :=
  let c := s.fchN n
  let cs := s.chainSet n
  let src := s.f (act (R.FCH_SRC_SRC n))
  let upto := c.nextE + 23
  let p := if src == 8 then State.takePlayback n cs (upto + 1 - c.nextIdx) (s, c)
    else (s, s.takeQueued n cs upto c.fifo c)
  let c1 := p.2
  let s1 := p.1.setFch n c1
  let v := cround (cdot cs.taps c1.fir) (2 ^ 16)
  let gi := roundDiv (v.1 * cs.gain) (2 ^ 12)
  let gq := roundDiv (v.2 * cs.gain) (2 ^ 12)
  let clip := outS 16 gi || outS 16 gq
  let e := c1.nextE
  let sp := s.actSpan n
  let chan := s1.spanFlags n (e + 23 - sp) c1.srcs (e + 23)
  let o : ChainOut := { j := e / (2 * cs.d), e := e, ptE := s.idxTime e, time := s.outTime n e, i := satS 16 gi, q := satS 16 gq, flags := chan ||| flagIf clip fSATURATED ||| leftFlags c1.lefts, epoch := s.f (R.FCH_EPOCH_EPOCH n) }
  let s2 := if clip then (s1.setB (R.FCH_STATUS_CLIP n) true).incSat (R.FCH_CLIP_COUNT n) else s1
  let s3 := s2.setFch n { c1 with nextE := e + 2 * cs.d, lefts := leftNext c1.lefts }
  let d := s3.detOutput n o
  let s4 := d.2.foldl (fun (t : State) r => t.detResult n r) (s3.setFch n d.1)
  (s4, o, d.2)

/-- A chain output (R115, R128): a due hand-over first, then the output if its last sample has arrived. -/
def State.chainOutput (s : State) (n : Nat) : State × Option ChainOut × List DetRes :=
  if !s.flag (R.FCH_STATUS_RUNNING n) then (s, none, [])
  else
    let h := if s.handOverDue n then s.chainHandOver n else (s, [])
    if !h.1.inputReady n then (h.1, none, h.2)
    else
      let r := h.1.emitOutput n
      (r.1, some r.2.1, h.2 ++ r.2.2)

/-- An input sample reaches a chain's crossbar (R101, R103): from the source in use, or from the one that its shadow bank names. -/
def State.chainIn (s : State) (n : Nat) (active : Bool) (k : Nat) (x : Int) : State :=
  let c := s.fchN n
  if !s.flag (R.FCH_STATUS_RUNNING n) || k < c.nextIdx then s
  else if active then s.setFch n { c with fifo := c.fifo ++ [(k, x)] }
  else s.setFch n { c with shadowIn := (c.shadowIn ++ [(k, x)]).filter (fun p => decide (c.nextIdx ≤ p.1)) }

/-- Samples of a source go to the chains that take it (R101). -/
def State.feedChains (s : State) (src : Nat) (xs : List (Nat × Int)) : State :=
  (List.range 16).foldl (fun (t : State) n =>
    let active := t.f (act (R.FCH_SRC_SRC n)) == src
    if active || t.f (R.FCH_SRC_SRC n) == src then xs.foldl (fun (u : State) p => u.chainIn n active p.1 p.2) t else t) s

/-- The shadow bank names another source: what was kept of the one before goes. -/
def State.shadowSource (s : State) (n : Nat) : State :=
  if (s.fchN n).shadowIn.isEmpty then s else s.setFch n { s.fchN n with shadowIn := [] }

/-- Playback data arrive through port P3 (R102); data of lost samples are passed over. -/
def State.chainPlayback (s : State) (n : Nat) (xs : List (BitVec 16 × Bool)) : State :=
  let c := s.fchN n
  let len := s.f (act (R.FCH_PB_LEN_LEN n))
  let pos := c.pbPos + 2 * xs.length
  s.setFch n { c with pb := c.pb ++ xs.drop c.pbSkip, pbSkip := c.pbSkip - xs.length, pbPos := if len == 0 then pos else pos % len }

/-- A block reset of a chain (R26, R133, R137): a commit ends as by CANCEL, windows give no result, and an enabled chain
restarts at the next alignment tick with a new epoch. The checks of an enable go on. -/
def State.fchReset (s : State) (n : Nat) : State :=
  let pend := s.flag (R.FCH_STATUS_PENDING n) || (s.fchN n).chk == .commit
  let enabling := (s.fchN n).chk == .enable
  let on := s.fchOn n
  let s1 := (s.endCommit n).fchStop n
  let s2 := if pend then s1.setF (R.FCH_STATUS_RESULT n) stCancelled else s1
  let s3 := if enabling then (s2.setFch n { s2.fchN n with chk := .enable }).setB (R.FCH_CTRL_COMMIT n) true else s2
  if on then
    let s4 := s3.addWrap (R.FCH_EPOCH_EPOCH n) 1
    (s4.setFch n (clearHist { s4.fchN n with startWait := true })).syncLoad
  else s3

end Sys2Proof.Machine
end

