-- ==== Sys2Proof/Machine/Memory.lean ====
section
/-!
DEFINITION. The memories of the device and the two capture-memory controllers (spec/11_capture_memory.md, R384 to R413,
R601; the world checks of R543): sectors, write queues and forwarding, poison, ports and panic, refresh, scrubbing.
-/
namespace Sys2Proof.Machine

/-! ## Bytes of the four spaces -/

/-- Every byte reads 0 until it is written (R386 for capture memory). -/
def byteDflt (_ : Nat) : BitVec 8 := 0

/-- Key of a byte: space (R540) and address. -/
def memKey (sp a : Nat) : Nat := sp * 2 ^ 40 + a

/-- `n` bytes of a space from an address. -/
def State.bytesAt (s : State) (sp a n : Nat) : List (BitVec 8) := tgetN byteDflt s.mem.bytes (memKey sp a) n

/-- The state with bytes of a space replaced. -/
def State.putBytes (s : State) (sp a : Nat) (bs : List (BitVec 8)) : State :=
  { s with mem := { s.mem with bytes := tsetN byteDflt s.mem.bytes (memKey sp a) bs } }

/-- New bytes over old ones where a mask is set. -/
def maskBytes : List Bool → List (BitVec 8) → List (BitVec 8) → List (BitVec 8)
  | m :: ms, n :: ns, o :: os => (if m then n else o) :: maskBytes ms ns os
  | _, _, os => os

/-- Whether any entry of the region table makes bytes secure. -/
def State.hasSecure (s : State) (sp : Nat) : Bool := (List.range 64).any (fun e => s.secureEntry sp e)

/-- The bytes of a range that a requester may reach (R543). -/
def State.openMask (s : State) (secure : Bool) (sp a n : Nat) : List Bool :=
  if secure || !s.hasSecure sp then List.replicate n true
  else (List.range n).map (fun i => !s.byteSecure sp (a + i))

/-- Logs an access of which some bytes were refused (R543, R544): the first such byte stands for it. -/
def State.logMask (s : State) (src sp : Nat) (write : Bool) (a : Nat) (mask : List Bool) : State :=
  match mask.zipIdx.find? (fun p => !p.1) with
  | some p => s.logRefused src (sp + 1) write (a + p.2)
  | none => s

/-- A write of a space other than capture memory by a block of a world (R543). -/
def State.spaceWrite (s : State) (src : Nat) (secure : Bool) (sp a : Nat) (bs : List (BitVec 8)) : State :=
  let mask := s.openMask secure sp a bs.length
  (s.logMask src sp true a mask).putBytes sp a (maskBytes mask bs (s.bytesAt sp a bs.length))

/-- A read of a space other than capture memory by a block of a world (R543). -/
def State.spaceRead (s : State) (src : Nat) (secure : Bool) (sp a n : Nat) : State × List (BitVec 8) :=
  let mask := s.openMask secure sp a n
  (s.logMask src sp false a mask, maskBytes mask (s.bytesAt sp a n) (List.replicate n 0))

/-! ## Sectors and write queues -/

/-- A controller. -/
def State.mcN (s : State) (m : Nat) : McSt := tget (fun _ => {}) s.mem.mc m

/-- Replaces a controller. -/
def State.setMc (s : State) (m : Nat) (c : McSt) : State :=
  { s with mem := { s.mem with mc := tset (fun _ => {}) s.mem.mc m c } }

/-- The controller of a sector: bit 13 of its address (Table 11-1). -/
def ctlOf (sector : Nat) : Nat := sector / 128 % 2

/-- The sectors that a range touches. -/
def sectorsOf (a n : Nat) : List Nat := if n = 0 then [] else (List.range ((a + n - 1) / 64 + 1 - a / 64)).map (· + a / 64)

/-- TAG values (R404). -/
def tagData : Nat := 0x00
def tagPoison : Nat := 0x5A

/-- The TAG of a sector. -/
def State.tagOf (s : State) (sector : Nat) : Nat := tget (fun _ => tagData) s.mem.tag sector

/-- Sets the TAG of a sector. -/
def State.setTag (s : State) (sector t : Nat) : State :=
  { s with mem := { s.mem with tag := tset (fun _ => tagData) s.mem.tag sector t } }

/-- MCm_WQ shows the level and the peak (R401). -/
def State.syncWq (s : State) (m : Nat) : State :=
  let n := (s.mcN m).wq.length
  (s.setF (R.MCM_WQ_LEVEL m) n).setF (R.MCM_WQ_PEAK m) (max n (s.f (R.MCM_WQ_PEAK m)))

/-- A queue entry enters the stack (R401, R407): a full write stores data with TAG 0x00, a partial one keeps the TAG. -/
def State.storeEntry (s : State) (e : WqEntry) : State :=
  let old := s.bytesAt 0 (64 * e.sector) 64
  let s1 := s.putBytes 0 (64 * e.sector) (maskBytes e.mask e.data old)
  if e.poison then s1.setTag e.sector tagPoison
  else if e.mask.all id then s1.setTag e.sector tagData else s1

/-- Whether a controller's domain is gated or waking. -/
def State.mcOff (s : State) : Bool := [0x64, 0x65].any (fun b => s.blk b == .gated || s.blk b == .waking)

/-- Whether requests are held: the initialisation runs (R386), or a controller's domain is gated or waking (R23). -/
def State.mcHeld (s : State) : Bool := s.flag R.MC_STATUS_INIT || s.mcOff

/-- A request reaches the controllers: gated domains start to wake (R23, R507). -/
def State.memWake (s : State) : State := (s.wakeDomain 12).wakeDomain 13

/-- The oldest entry of a controller drains (R401): writes keep priority from 96 entries down to 32. -/
def State.drainOne (s : State) (m : Nat) : State :=
  let c := s.mcN m
  match c.wq with
  | [] => s
  | e :: rest => ((s.storeEntry e).setMc m { c with wq := rest, drainFirst := c.drainFirst && decide (32 < rest.length) }).syncWq m

/-- Every entry of a controller drains (R412). -/
def State.drainAll (s : State) (m : Nat) : Nat → State
  | 0 => s
  | n + 1 => if (s.mcN m).wq.isEmpty then s else State.drainAll (s.drainOne m) m n

/-- Entries drain until none of a sector is left (R402). -/
def State.drainSector (s : State) (m sector : Nat) : Nat → State
  | 0 => s
  | n + 1 => if (s.mcN m).wq.any (fun e => e.sector == sector) then State.drainSector (s.drainOne m) m sector n else s

/-- Writes go before reads: a queue that has held 96 entries drains to 32 (R401). -/
def State.writesFirst (s : State) (m : Nat) : State :=
  if (s.mcN m).drainFirst then s.drainAll m ((s.mcN m).wq.length - 32) else s

/-- The whole queue of a controller drains. -/
def State.drainQueue (s : State) (m : Nat) : State := s.drainAll m (s.mcN m).wq.length

/-- A sector write enters its controller's queue (R401): when the queue is full, the oldest entry drains first. A
scrubber's write-back of the sector is dropped (R410). -/
def State.wqPush (s : State) (e : WqEntry) : State :=
  let m := ctlOf e.sector
  let s1 := if 128 ≤ (s.mcN m).wq.length && !s.mcHeld then s.drainOne m else s
  let c := s1.mcN m
  let hit := match c.scrub with
    | some x => x.sector == e.sector
    | none => false
  let s2 := if hit then s1.incSat (R.MCM_SCRUB_SKIP m) else s1
  let wq := c.wq ++ [e]
  (s2.setMc m { c with wq := wq, drainFirst := c.drainFirst || decide (96 ≤ wq.length), scrub := if hit then none else c.scrub }).syncWq m

/-- The part of a masked write that falls into a sector. -/
def sectorEntry (a : Nat) (bs : List (BitVec 8)) (mask : List Bool) (poison : Bool) (sector : Nat) : WqEntry :=
  let lo := 64 * sector
  let pick := fun (i : Nat) => if a ≤ lo + i && lo + i < a + bs.length then (mask[lo + i - a]?).getD false else false
  { sector := sector, data := (List.range 64).map (fun i => if a ≤ lo + i then (bs[lo + i - a]?).getD 0 else 0), mask := (List.range 64).map pick, poison := poison }

/-- Whether a range touches a controller that is FENCED (R412). -/
def State.mcFenced (s : State) (a n : Nat) : Bool :=
  (sectorsOf a n).any (fun x => s.isFenced (0x64 + ctlOf x))


/-! ## The round of the ports (R389, R391) -/

/-- The weight of a port: P5 has weight CLR while a MEM_CLEAR runs (R411), and a weight of 0 acts as 1 (MC_WEIGHT). -/
def State.portWeight (s : State) (p : Nat) : Nat :=
  max 1 (s.f (match p with
    | 0 => R.MC_WEIGHT_P0
    | 1 => R.MC_WEIGHT_P1
    | 2 => R.MC_WEIGHT_P2
    | 3 => R.MC_WEIGHT_P3
    | 4 => R.MC_WEIGHT_P4
    | _ => if s.host.longs.any (fun c => c.entry.opcode == 0x50) then R.MC_WEIGHT_CLR else R.MC_WEIGHT_P5))

/-- The bytes that a port is granted in a round (R389). -/
def State.portGrant (s : State) (p : Nat) : Nat := 256 * s.portWeight p

/-- A port uses `n` bytes of its grant (R389): a port that the round reaches has its own grant and what the port before it left unused;
past the last port a new round begins, and nothing is left over. -/
def State.useGrant (s : State) (p n : Nat) : State :=
  let m := s.mem
  if p == m.turn && n ≤ m.left then { s with mem := { m with left := m.left - n } }
  else { s with mem := { m with turn := p, left := s.portGrant p + (if m.turn < p then m.left else 0) - n } }

/-- A burst of a port: its bytes count, its activates draw for neighbour refreshes (R398 to R400), and a stack in
self-refresh wakes (R413). -/
def State.portBurst (s : State) (p a n : Nat) : State :=
  let s0 := ((s.useGrant p n).addSat (R.MC_P_BYTES p) n).memWake
  let wake := fun (t : State) (m : Nat) => if t.isRunning (0x64 + m) then t.setMc m { t.mcN m with selfRefresh := false } else t
  let s1 := wake (wake s0 0) 1
  let pieces := (a + n + 255) / 256 - a / 256
  let k := clampNat 6 16 (s.f R.MC_CTRL_PNR_K)
  let acts := Config.activates s.fresh % (pieces + 1)
  let step := fun (t : State) (i : Nat) =>
    let m := (a / 8192 + i / 32) % 2
    let v := Config.lfsrNext (t.mcN m).lfsr
    let t1 := t.setMc m { t.mcN m with lfsr := v }
    if s.flag R.MC_CTRL_PNR_EN && v % 2 ^ k == 0 then t1.incSat (R.MCM_PNR m) else t1
  (List.range acts).foldl step s1.next

/-- A write to capture memory through a port (R401, R412, R543); the second part says whether it completed. -/
def State.mcWrite (s : State) (p src : Nat) (secure : Bool) (a : Nat) (bs : List (BitVec 8)) (poison : Bool) : State × Bool :=
  let mask := s.openMask secure 0 a bs.length
  let s1 := (s.logMask src 0 true a mask).portBurst p a bs.length
  if !s1.mcFenced a bs.length then
    ((sectorsOf a bs.length).foldl (fun (t : State) x => t.wqPush (sectorEntry a bs mask poison x)) s1, true)
  else
    let free := (List.range bs.length).map (fun i => Config.freeByte (s1.fresh * 2 ^ 32 + i))
    let other := (sectorsOf a bs.length).filter (fun x => !s1.isFenced (0x64 + ctlOf x))
    (other.foldl (fun (t : State) x => t.wqPush (sectorEntry a free mask poison x)) s1.next, false)

/-- The error of sector number `i` of a burst, if one was found. -/
def errOf (errs : List SecErr) (i : Nat) : Option SecErr := errs.find? (fun e => e.at_ == i)

/-- The error registers record a sector (R405, R406). -/
def State.mcRecord (s : State) (m p sector symbol : Nat) (scrub ue : Bool) : State :=
  let s1 := (s.setF (R.MCM_ERR_ADDR_SECTOR m) sector).setF (R.MCM_ERR_INFO_PORT m) p
  let s2 := (s1.setF (R.MCM_ERR_INFO_SYMBOL m) symbol).setB (R.MCM_ERR_INFO_SCRUB m) scrub
  s2.setB (R.MCM_ERR_INFO_UE m) ue

/-- A read of one sector (R402, R405, R406): forwarding, then the stack with its errors; the data, and whether they are
poisoned. A scrubber's write-back waits beside the queue (R410). -/
def State.readSector (s : State) (p sector : Nat) (err : Option SecErr) (scrub : Bool) : State × List (BitVec 8) × Bool :=
  let m := ctlOf sector
  let hits := (s.mcN m).wq.filter (fun e => e.sector == sector)
  if !hits.isEmpty && hits.all (fun e => e.mask.all id) then
    match hits.getLast? with
    | some e => (s.incSat (R.MCM_FWD m), e.data, e.poison)
    | none => (s, [], false)
  else
    let s1 := if hits.isEmpty then s else (s.incSat (R.MCM_FWD_WAIT m)).drainSector m sector (s.mcN m).wq.length
    let data := s1.bytesAt 0 (64 * sector) 64
    let poisoned := s1.tagOf sector != tagData
    match err with
    | none => (s1, data, poisoned)
    | some e =>
      if e.symbol == 128 then (s1.incSat (R.MCM_CE_INNER m), data, poisoned)
      else if e.symbol == 127 then
        let bad := (e.data ++ data.drop e.data.length).take 64
        let w : WqEntry := { sector := sector, data := bad, mask := List.replicate 64 true, poison := true }
        let s2 := ((s1.incSat (R.MCM_UE m)).setB R.MC_STATUS_UE true).mcRecord m p sector 127 scrub true
        let s3 := s2.errLog 0x04 2 (0x64 + m) 0 [m, sector, p]
        (if scrub then s3.setMc m { s3.mcN m with scrub := some w } else s3.wqPush w, bad, true)
      else
        let w : WqEntry := { sector := sector, data := data, mask := List.replicate 64 true, poison := poisoned }
        let s2 := ((s1.incSat (R.MCM_CE m)).setB R.MC_STATUS_CE true).mcRecord m p sector e.symbol scrub false
        (if scrub then s2.setMc m { s2.mcN m with scrub := some w } else s2.wqPush w, data, poisoned)

/-- The sectors of a read, with their data and poison. -/
def State.readSectors (s : State) (p : Nat) (errs : List SecErr) : Nat → List Nat → State × List (List (BitVec 8) × Bool)
  | _, [] => (s, [])
  | i, x :: xs =>
    let r := s.readSector p x (errOf errs i) false
    let s1 := if r.2.2 then r.1.incSat (R.MC_P_POISON p) else r.1
    let rest := State.readSectors s1 p errs (i + 1) xs
    (rest.1, r.2 :: rest.2)

/-- What a read of capture memory gives. -/
structure MemRead where
  st : State
  ok : Bool                       -- false: TARGET_RESET (R412)
  bytes : List (BitVec 8)
  poison : List Bool              -- by sector

/-- A read of capture memory through a port (R402, R403, R406, R412, R543). -/
def State.mcRead (s : State) (p src : Nat) (secure : Bool) (a n : Nat) (errs : List SecErr) : MemRead :=
  let mask := s.openMask secure 0 a n
  let s1 := (s.logMask src 0 false a mask).portBurst p a n
  if s1.mcFenced a n then { st := s1, ok := false, bytes := [], poison := [] }
  else
    let r := ((s1.writesFirst 0).writesFirst 1).readSectors p errs 0 (sectorsOf a n)
    let all := ((r.2.map (fun x => x.1)).flatten.drop (a % 64)).take n
    { st := r.1, ok := true, bytes := maskBytes mask all (List.replicate n 0), poison := r.2.map (fun x => x.2) }

/-! ## Staging, prefetch and panic (R390, R391, R397) -/

/-- The bytes that the capture staging holds; a sector that is to be poisoned holds none (R397). -/
def State.stageLevel (s : State) : Nat := s.mem.stage.foldl (fun n x => if x.poison then n else n + x.bytes.length) 0

/-- Whether an output counts as a running playback: from the write that enables it with SRC = 1, or changes SRC to 1, until it stops
or leaves that source (R602). -/
def State.playing (s : State) (n : Nat) : Bool := (s.dacN n).filling

/-- Whether output `n` raises panic now (R390). -/
def State.outputPanic (s : State) (n : Nat) : Bool :=
  let held := 2 * (s.dacN n).prefetch.length
  s.playing n && (held ≤ 32768 || (tget (fun _ => false) s.mem.outPanic n && held ≤ 65536))

/-- The panic flags and the levels follow the buffers (R390). -/
def State.syncPanic (s : State) : State :=
  let lv := s.stageLevel
  let p0 := 786432 ≤ lv || (s.flag R.MC_STATUS_P0_PANIC && 524288 ≤ lv)
  let ps := (List.range 4).map s.outputPanic
  let tbl := (List.range 4).foldl (fun (t : Tbl Bool) n => tset (fun _ => false) t n ((ps[n]?).getD false)) s.mem.outPanic
  let held := ((List.range 4).filter s.playing).map (fun n => 2 * (s.dacN n).prefetch.length)
  let low := match held with
    | [] => 0
    | h :: t => t.foldl min h
  let s1 := { s with mem := { s.mem with outPanic := tbl } }
  let s2 := (s1.setB R.MC_STATUS_P0_PANIC p0).setB R.MC_STATUS_P4_PANIC (ps.any id)
  (s2.setF (R.MC_P_LEVEL_BYTES 0) lv).setF (R.MC_P_LEVEL_BYTES 4) low

/-- Whether any panic is raised. -/
def State.panic (s : State) : Bool := s.flag R.MC_STATUS_P0_PANIC || s.flag R.MC_STATUS_P4_PANIC

/-- Bytes join the staged burst that they continue, or start one. -/
def stageAdd (a : Nat) (bs : List (BitVec 8)) : List StageSeg → List StageSeg
  | [] => [{ addr := a, bytes := bs }]
  | x :: rest =>
    if x.addr + x.bytes.length == a && !x.poison && !x.closed then { x with bytes := x.bytes ++ bs } :: rest
    else x :: stageAdd a bs rest

/-- The capture writer stages bytes for capture memory; without room in the 1 MiB staging it discards them and writes
their sectors poisoned, with data that the spec leaves open (R397). -/
def State.captureWrite (s : State) (a : Nat) (bs : List (BitVec 8)) : State :=
  if bs.isEmpty then s
  else if 1048576 < s.stageLevel + bs.length then
    let xs := sectorsOf a bs.length
    let data := fun (x : Nat) => (List.range 64).map (fun i => Config.freeByte (s.fresh * 2 ^ 32 + 64 * (x - a / 64) + i))
    let poison := xs.map (fun x => ({ addr := 64 * x, bytes := data x, poison := true, closed := true } : StageSeg))
    let s1 : State := { s with mem := { s.mem with stage := s.mem.stage ++ poison } }
    ((s1.addSat R.MC_P0_OVF xs.length).setB R.MC_STATUS_P0_OVF true).syncPanic.next
  else ({ s with mem := { s.mem with stage := stageAdd a bs s.mem.stage } } : State).syncPanic

/-- Nothing more joins the bursts staged so far. -/
def State.closeStage (s : State) : State :=
  { s with mem := { s.mem with stage := s.mem.stage.map (fun x => { x with closed := true }) } }

/-- The length of the next burst of a region read: at most 2 KiB, not across a 2 KiB boundary or the region's end. -/
def burstLen (a left : Nat) : Nat := min left (2048 - a % 2048)

/-- 16-bit containers from bytes. -/
def containers : List (BitVec 8) → List (BitVec 16)
  | a :: b :: rest => BitVec.ofNat 16 (a.toNat + 256 * b.toNat) :: containers rest
  | _ => []

/-- The bytes of at most `most` that a staged burst can give at once: to its last sector boundary, or all of it once it is closed. -/
def stageReady (most : Nat) (x : StageSeg) : Nat :=
  let whole := (x.addr + x.bytes.length) / 64 * 64 - x.addr
  min (burstLen x.addr (if whole == 0 && x.closed then x.bytes.length else whole)) (most - x.addr % 64)

/-- Takes the first ready bytes out of the staging. -/
def stageTake (most : Nat) : List StageSeg → Option (StageSeg × List StageSeg)
  | [] => none
  | x :: rest =>
    let n := stageReady most x
    if n == 0 then
      match stageTake most rest with
      | none => none
      | some p => some (p.1, x :: p.2)
    else
      let left := { x with addr := x.addr + n, bytes := x.bytes.drop n }
      some ({ x with bytes := x.bytes.take n }, if left.bytes.isEmpty then rest else left :: rest)

/-- A burst of the capture writer (P0): the oldest staged bytes enter the write queues. -/
def State.serveStage (s : State) : State :=
  match stageTake (s.portGrant 0) s.mem.stage with
  | none => s
  | some (x, left) =>
    let s1 : State := { s with mem := { s.mem with stage := left } }
    ((s1.mcWrite 0 0x63 (s1.blockSecure 0x63) x.addr x.bytes x.poison).1).syncPanic

/-- A burst of a chain's playback (P3, R102, R408). -/
def State.serveChain (s : State) (n : Nat) (errs : List SecErr) : State :=
  if !s.flag (R.FCH_STATUS_RUNNING n) || s.f (act (R.FCH_SRC_SRC n)) != 8 then s
  else
    let c := s.fchN n
    let base := s.f (act (R.FCH_PB_BASE_ADDR n))
    let len := s.f (act (R.FCH_PB_LEN_LEN n))
    let k := min (s.portGrant 3) (burstLen (base + c.pbPos) (len - c.pbPos))
    let r := s.mcRead 3 (0x10 + n) (s.blockSecure (0x10 + n)) (base + c.pbPos) k errs
    if !r.ok then r.st
    else
      let off := (base + c.pbPos) % 64
      r.st.chainPlayback n ((containers r.bytes).zipIdx.map (fun p => (p.1, (r.poison[(off + 2 * p.2) / 64]?).getD false)))

/-- The length of the burst that an output's prefetch asks for, 0 while it asks for none (R602). -/
def State.outputAsks (s : State) (n : Nat) : Nat :=
  let d := s.dacN n
  if !d.filling || d.pbLen ≤ d.fetchPos then 0
  else
    let k := min (s.portGrant 4) (burstLen (d.pbBase + d.fetchPos) (d.pbLen - d.fetchPos))
    if 131072 < 2 * d.prefetch.length + k then 0 else k

/-- A burst of an output's prefetch (P4, R91, R408, R602): a poisoned sector plays as zeros. -/
def State.serveOutput (s : State) (n : Nat) (errs : List SecErr) : State :=
  let d := s.dacN n
  let k := s.outputAsks n
  if k == 0 then s
  else
    let r := s.mcRead 4 (0x0A + n) (s.blockSecure (0x0A + n)) (d.pbBase + d.fetchPos) k errs
    if !r.ok then r.st
    else
      let off := (d.pbBase + d.fetchPos) % 64
      let xs := (containers r.bytes).zipIdx.map (fun p => if (r.poison[(off + 2 * p.2) / 64]?).getD false then 0 else p.1)
      (r.st.prefetchArrive n xs).syncPanic

/-- The lengths of the bursts that the two real-time ports ask for: the capture writer's oldest, and each output's. -/
def State.asks (s : State) : Nat → List Nat
  | 0 => match stageTake (s.portGrant 0) s.mem.stage with
    | some x => [x.1.bytes.length]
    | none => []
  | 4 => ((List.range 4).map s.outputAsks).filter (fun k => k != 0)
  | _ => []

/-- Whether a burst of `n` bytes of port `p` waits for port `q` (R389, R391). Under panic P0 and P4 go first, and in turn when both ask.
Else the round reaches `q` first: it has the turn and a burst that its grant still covers, or it stands between the port that has the
turn and `p`. DESIGN CHOICE (log entry 133): the state holds the requests of P0 and P4; those of the other ports stand in their commands. -/
def State.goesFirst (s : State) (p n q : Nat) : Bool :=
  let m := s.mem
  let dist := fun (x : Nat) => (x + 5 - m.turn) % 6 + 1
  let mine := if p == m.turn && n ≤ m.left then 0 else dist p
  let its := if q == m.turn && (s.asks q).any (fun k => decide (k ≤ m.left)) then 0 else dist q
  if p == q || (s.asks q).isEmpty then false
  else if s.panic then (p != 0 && p != 4) || m.panicLast == p
  else decide (its < mine)

/-- The length of the burst that a client of a port would be granted now. -/
def State.burstAsked (s : State) (p client : Nat) : Nat :=
  match p with
  | 4 => s.outputAsks client
  | 3 => min (s.portGrant 3) (burstLen (s.f (act (R.FCH_PB_BASE_ADDR client)) + (s.fchN client).pbPos) (s.f (act (R.FCH_PB_LEN_LEN client)) - (s.fchN client).pbPos))
  | _ => (s.asks p).headD 0

/-! ## The stamp queues of the timing channels (R365) -/

/-- A timing channel. -/
def State.tdcN (s : State) (c : Nat) : TdcSt := tget (fun _ => {}) s.tdc c

/-- Replaces a timing channel. -/
def State.setTdc (s : State) (c : Nat) (x : TdcSt) : State := { s with tdc := tset (fun _ => {}) s.tdc c x }

/-- LEVEL and QFULL follow the queue. -/
def State.syncTdc (s : State) (c : Nat) : State :=
  let n := (s.tdcN c).queue.length
  (s.setF (R.TDC_QLEVEL_LEVEL c) n).setB (R.TDC_STATUS_QFULL c) (n == 4096)

/-- The oldest entry leaves for capture memory through port P3 (R365). -/
def State.tdcToMemory (s : State) (c : Nat) : State :=
  let x := s.tdcN c
  let size := s.f (R.TDC_QSIZE_LEN c)
  match x.queue with
  | [] => s
  | e :: rest =>
    if size == 0 || s.f (R.TDC_QCFG_DRAIN c) != 1 then s
    else if s.mcHeld then s.memWake
    else
      let a := s.f (R.TDC_QBASE_ADDR c) + 16 * s.f (R.TDC_QWCOUNT c) % size
      let r := s.mcWrite 3 0x0E (s.blockSecure 0x0E) a (leBytes 16 e.1) false
      ((r.1.setTdc c { x with queue := rest }).incSat (R.TDC_QWCOUNT c)).syncTdc c

/-- A burst of port P3: a chain's playback, or the stamp queue of the timing channel with that number (Table 11-2). -/
def State.serveP3 (s : State) (n : Nat) (errs : List SecErr) : State :=
  if s.flag (R.FCH_STATUS_RUNNING n) && s.f (act (R.FCH_SRC_SRC n)) == 8 then s.serveChain n errs else s.tdcToMemory n

/-- A port burst is granted and served (R385, R388, R389, R391), unless a real-time port goes first. The other ports' requests are served
within the commands that make them. -/
def portRequest (p client wait : Nat) (errs : List SecErr) (s : State) : State :=
  if s.mcHeld then s.memWake
  else if p == 0 || p == 4 then
    if s.goesFirst p (s.burstAsked p client) (4 - p) then s
    else
      let s1 := if s.panic then { s with mem := { s.mem with panicLast := p } } else s
      if p == 0 then s1.serveStage else if client < 4 then s1.serveOutput client errs else s1
  else
    let s1 := s.addSat (R.MC_P_PANIC_WAIT p) wait
    if p == 3 && !s.goesFirst 3 (s.burstAsked 3 client) 0 && !s.goesFirst 3 (s.burstAsked 3 client) 4 then s1.serveP3 client errs else s1

def execPortRequest (p : Fin 6) (client : Fin 16) (wait : Nat) (errs : List SecErr) (s : State) : Out :=
  .next (portRequest p client wait errs s)

/-- Capture memory filled with zero data and valid check fields (R386). -/
def State.clearCapture (s : State) : State :=
  { s with mem := { s.mem with bytes := tclear s.mem.bytes 0 (2 ^ 40), tag := [] } }

/-- The zero fill ends (R386). -/
def memInitDone (s : State) : State :=
  if s.flag R.MC_STATUS_INIT then s.clearCapture.setB R.MC_STATUS_INIT false else s

def execMemInitDone (s : State) : Out := .next (memInitDone s)

/-- The controller drains its oldest entry; a scrubber's write-back that waits enters the queue (R401, R405, R410). -/
def writeQueueDrain (m : Nat) (s : State) : State :=
  let s1 := if s.mcHeld then s else s.drainOne m
  let c := s1.mcN m
  match c.scrub with
  | none => s1
  | some w => (s1.setMc m { c with scrub := none }).wqPush w

def execWriteQueueDrain (m : Fin 2) (s : State) : Out := .next (writeQueueDrain m s)

/-! ## Refresh (R393 to R396) -/

/-- `k` refreshes issued on both controllers. -/
def State.refreshes (s : State) (k : Nat) : State :=
  (s.addSat (R.MCM_REFRESHES 0) k).addSat (R.MCM_REFRESHES 1) k

/-- A refresh falls due (R393 to R396). -/
def refreshDue (s : State) : State :=
  let owed := s.f R.MC_STATUS_OWED
  let forcing := s.flag R.MC_STATUS_FORCING
  if s.mcOff then s
  else if !s.panic && !forcing then s.refreshes 1
  else if forcing || owed < 4 then
    ((s.setF R.MC_STATUS_OWED (min 4 (owed + 1))).incSat (R.MCM_POSTPONED 0)).incSat (R.MCM_POSTPONED 1)
  else
    let s1 := (s.setB R.MC_STATUS_FORCING true).setF R.MC_STATUS_OWED 0
    { s1 with mem := { s1.mem with forcedAt := s.clk.elapsed } }

def execRefreshDue (s : State) : Out := .next (refreshDue s)

/-- An owed refresh is issued at a burst boundary without panic (R395). -/
def owedRefreshIssue (s : State) : State :=
  if s.panic || s.flag R.MC_STATUS_FORCING || s.f R.MC_STATUS_OWED == 0 then s
  else (s.setF R.MC_STATUS_OWED (s.f R.MC_STATUS_OWED - 1)).refreshes 1

def execOwedRefreshIssue (s : State) : Out := .next (owedRefreshIssue s)

/-- The five refreshes run back to back (R396). -/
def State.forcedRefresh (s : State) : State :=
  (((s.setB R.MC_STATUS_FORCING false).refreshes 5).incSat (R.MCM_FORCED 0)).incSat (R.MCM_FORCED 1)

/-- The buffers meet the start conditions of a forced refresh (R396). -/
def State.forcedReady (s : State) : Bool :=
  decide (s.stageLevel ≤ 458752)
  && ((List.range 4).filter s.playing).all (fun n => decide (98304 ≤ 2 * (s.dacN n).prefetch.length))

/-- A burst boundary while a forced refresh waits (R396). -/
def forcedRefreshStart (s : State) : State :=
  if s.flag R.MC_STATUS_FORCING && s.forcedReady then s.forcedRefresh else s

def execForcedRefreshStart (s : State) : Out := .next (forcedRefreshStart s)

/-- 6.0 µs after the fifth refresh fell due (R396). -/
def forcedRefreshTimeout (s : State) : State :=
  if s.flag R.MC_STATUS_FORCING && decide (s.mem.forcedAt + 6000 * nsUnit ≤ s.clk.elapsed) then
    ((s.forcedRefresh).incSat (R.MCM_LATE_FORCED 0)).incSat (R.MCM_LATE_FORCED 1)
  else s

def execForcedRefreshTimeout (s : State) : Out := .next (forcedRefreshTimeout s)

/-- A stack temperature report (R393): hot above 85 °C on either stack, until both read 83 °C or below. -/
def stackTemperature (m : Nat) (t : BitVec 16) (s : State) : State :=
  let s1 := s.setF (R.MCM_TEMP_TEMP m) t.toNat
  let hot := (List.range 2).any (fun i => decide (85 * 256 < s1.fi (R.MCM_TEMP_TEMP i)))
  let cool := (List.range 2).all (fun i => decide (s1.fi (R.MCM_TEMP_TEMP i) ≤ 83 * 256))
  if hot then s1.setB R.MC_STATUS_HOT true else if cool then s1.setB R.MC_STATUS_HOT false else s1

def execStackTemperature (m : Fin 2) (t : BitVec 16) (s : State) : Out := .next (stackTemperature m t s)

/-! ## Scrubbing and clearing (R409 to R411) -/

/-- The first sector of controller `m` at or above a sector; past the last one, none. -/
def scrubSector (m sector : Nat) : Option Nat :=
  let x := if ctlOf sector == m then sector else (sector / 128 + 1) * 128
  if x < 2 ^ 29 then some x else none

/-- The scrubber reads its next sector on controller `m`; at the end of the stack a new pass begins (R409). -/
def scrubRead (m : Nat) (errs : List SecErr) (s : State) : State :=
  if !s.flag R.MC_CTRL_SCRUB_EN || s.mcHeld || !s.isRunning (0x64 + m) then s
  else
    match scrubSector m (s.f (R.MCM_SCRUB_ADDR_SECTOR m)) with
    | none => (s.incSat (R.MCM_SCRUB_PASSES m)).setF (R.MCM_SCRUB_ADDR_SECTOR m) 0
    | some x =>
      let r := (s.portBurst 5 (64 * x) 64).readSector 5 x (errOf errs 0) true
      let s1 := if r.2.2 then r.1.incSat (R.MC_P_POISON 5) else r.1
      match scrubSector m (x + 1) with
      | some y => s1.setF (R.MCM_SCRUB_ADDR_SECTOR m) y
      | none => (s1.incSat (R.MCM_SCRUB_PASSES m)).setF (R.MCM_SCRUB_ADDR_SECTOR m) 0

def execScrubRead (m : Fin 2) (errs : List SecErr) (s : State) : Out := .next (scrubRead m errs s)

/-- A scrubber's write-back of a sector in a range that is being written is dropped (R410). -/
def State.dropScrub (s : State) (m a n : Nat) : State :=
  match (s.mcN m).scrub with
  | some w =>
    if a ≤ 64 * w.sector && 64 * w.sector < a + n then (s.setMc m { s.mcN m with scrub := none }).incSat (R.MCM_SCRUB_SKIP m) else s
  | none => s

/-- Zero data with TAG 0x00 over a range of whole sectors (R411); secure bytes keep their data for a requester of the
other world (R543). -/
def State.clearRange (s : State) (secure : Bool) (a n : Nat) : State :=
  let s1 := (((s.drainQueue 0).drainQueue 1).dropScrub 0 a n).dropScrub 1 a n
  let keep := fun (x : Nat) => x < a || a + n ≤ x || (!secure && s1.byteSecure 0 x)
  let s2 := { s1 with mem := { s1.mem with bytes := s1.mem.bytes.filter (fun p => keep p.1), tag := s1.mem.tag.filter (fun p => keep (64 * p.1)) } }
  let s3 := if !secure && s2.rangeSecure 0 a n then s2.logRefused 0x00 1 true a else s2
  (s3.useGrant 5 (min n (s3.portGrant 5))).addSat (R.MC_P_BYTES 5) n

/-- Two ranges share a byte. -/
def overlaps (a n b m : Nat) : Bool := decide (a < b + m) && decide (b < a + n)

/-- Whether a pending slot or a running playback has a region that overlaps a range (R411). -/
def State.rangeInUse (s : State) (a n : Nat) : Bool :=
  (List.range 64).any (fun i => s.slotPending i && overlaps a n (s.f (R.ACQ_BASE_ADDR i)) (s.f (R.ACQ_SIZE_LEN i)))
  || (List.range 4).any (fun i => s.playing i && overlaps a n (s.dacN i).pbBase (s.dacN i).pbLen)
  || (List.range 16).any (fun i => s.fchOn i && s.f (act (R.FCH_SRC_SRC i)) == 8
      && overlaps a n (s.f (act (R.FCH_PB_BASE_ADDR i))) (s.f (act (R.FCH_PB_LEN_LEN i))))

/-- MEM_CLEAR's next piece of at most 1 MiB; after the last it completes with the bytes cleared (R411). -/
def memClearStep (c : LongCmd) (s : State) : State :=
  let base := c.entry.param 0
  let len := c.entry.param 1
  let n := min (1024 * 1024) (len - c.pos)
  if s.mcHeld then s.memWake else
  let c1 := { c with pos := c.pos + n, steps := c.steps + 1 }
  let s1 := (s.clearRange (s.ringSecure c.ring) (base + c.pos) n).putLong c1
  if len ≤ c1.pos then s1.finishLong c1 stOk len else s1.partialEntry c1

/-- MEM_CLEAR at its start: the checks of R411 and R436, and its first piece. -/
def memClearStart (secure : Bool) (base len : Nat) (s : State) : CmdRes :=
  if base % 256 != 0 || len % 256 != 0 || len == 0 || 2 ^ 35 < base + len then resDone s stBadParam
  else if s.rangeInUse base len
    || s.host.longs.any (fun c => c.entry.opcode == 0x50 && overlaps base len (c.entry.param 0) (c.entry.param 1)) then
    resDone s stRefusedBusy
  else if s.mcFenced base (min len 16384) then resDone s stTargetReset
  else if s.mcHeld then { st := s.memWake, kind := 2, pos := 0 }
  else
    let n := min (1024 * 1024) len
    let s1 := s.clearRange secure base n
    if len ≤ n then resDone s1 stOk len else { st := s1, kind := 2, pos := n }

def execMemClear (k : Fin 16) (f : Fetch) (s : State) : Out :=
  .next (s.startCmd k f 0x50 true false [0x7FFFFFFFF, 0xFFFFFFFFF] (memClearStart (s.ringSecure k) (f.entry.param 0) (f.entry.param 1)))

/-- A controller enters FENCED: it drains its queue and its stack goes to self-refresh with its contents kept (R412). -/
def State.mcFence (s : State) (m : Nat) : State :=
  let s1 := s.drainQueue m
  s1.setMc m { s1.mcN m with selfRefresh := true, scrub := none }

end Sys2Proof.Machine
end

