-- ==== Sys2Proof/Machine/Stream.lean ====
section
/-!
DEFINITION. Stream queues (spec/13_coaches_and_streams.md, R466 to R473): packets, producers, enabling and flushing, and
the raw packer.
-/
namespace Sys2Proof.Machine

/-- A stream queue. -/
def State.sqN (s : State) (q : Nat) : SqSt := tget (fun _ => {}) s.sq q

/-- Replaces a stream queue. -/
def State.setSq (s : State) (q : Nat) (x : SqSt) : State := { s with sq := tset (fun _ => {}) s.sq q x }

/-- The lines that a packet takes: header and body padded to 64 B (R468). -/
def SqPkt.lines (p : SqPkt) : Nat := (16 + p.body.length + 63) / 64

/-- The packet as its bytes: header (Table 13-3), body, padding. -/
def SqPkt.bytes (p : SqPkt) : List (BitVec 8) :=
  let w := p.body.length + 2 ^ 18 * p.kind + (if p.poison then 2 ^ 21 else 0) + (if p.tcb then 2 ^ 22 else 0)
  let all := leBytes 4 w ++ leBytes 4 p.num ++ leBytes 8 p.index ++ p.body
  all ++ List.replicate (64 * p.lines - all.length) 0

/-- The level of a queue in lines (R466). -/
def State.sqLevel (s : State) (q : Nat) : Nat := (s.f (R.SQ_PTR_WPTR q) + 8192 - s.f (R.SQ_PTR_RPTR q)) % 8192

/-- Whether a queue is empty. -/
def State.sqEmpty (s : State) (q : Nat) : Bool := s.f (R.SQ_PTR_WPTR q) == s.f (R.SQ_PTR_RPTR q)

/-- FULL and PEAK follow the level. -/
def State.syncSq (s : State) (q : Nat) : State :=
  let lv := s.sqLevel q
  (s.setB (R.SQ_STATUS_FULL q) (lv == 4096)).setF (R.SQ_PEAK_LINES q) (max lv (s.f (R.SQ_PEAK_LINES q)))

/-- Whether a packet of a producer has room: the producer is SRC's, the queue runs, and the lines are free (R468, R469). -/
def State.sqRoom (s : State) (q src : Nat) (p : SqPkt) : Bool :=
  s.f (R.SQ_CFG_SRC q) == src && decide (p.body.length ≤ 262128) && decide (s.sqLevel q + p.lines ≤ 4096)

/-- Drops a packet (R469, R479): STATUS.DROP, the counter where Table 13-4 counts it, and Sample Loss. -/
def State.sqDrop (s : State) (q : Nat) (count : Bool) : State :=
  let s1 := (s.setB (R.SQ_STATUS_DROP q) true).setSq q { s.sqN q with loss := true }
  if count then s1.incSat (R.SQ_DROPS q) else s1

/-- A whole packet of a producer that may still write enters, or it is dropped (R468, R469); the second part says whether it entered. -/
def State.sqPut (s : State) (q src : Nat) (p : SqPkt) : State × Bool :=
  if s.isFenced (0xC0 + q) then (s, false)
  else if !s.sqRoom q src p then (s.sqDrop q (s.f (R.SQ_CFG_SRC q) != src || src == 1), false)
  else
    let x := s.sqN q
    let p1 := { p with num := x.num }
    let s1 := (s.setSq q { x with pkts := x.pkts ++ [p1], num := (x.num + 1) % 2 ^ 32, sat := x.sat || bitOf p.flags 7 }).addWrap (R.SQ_PTR_WPTR q) p.lines
    ((s1.addSat (R.SQ_PKTS q) 1).syncSq q, true)

/-- A producer writes a whole packet, which a queue takes while it runs; the raw packer's last one also after that (R468, R473). -/
def State.sqWrite (s : State) (q src : Nat) (p : SqPkt) : State × Bool :=
  if !s.flag (R.SQ_STATUS_RUNNING q) && !(s.sqN q).rawOn then (s, false) else s.sqPut q src p

/-- A record goes to a queue (R263, R468): header and payload padded to 64 B. -/
def State.sqRecord (s : State) (q : Nat) (bytes : List (BitVec 8)) (time flags : Nat) (poison : Bool) : State × Bool :=
  s.sqWrite q 0 { kind := 0, poison := poison, body := bytes, time := time, flags := flags }

/-- The drain takes bytes of the oldest packet; whole lines leave the queue (R466). -/
def State.sqTake (s : State) (q n : Nat) : State :=
  let x := s.sqN q
  match x.pkts with
  | [] => s
  | p :: rest =>
    let t := x.taken + n
    let total := 64 * p.lines
    let lines := min t total / 64 - x.taken / 64
    let done := total ≤ t
    let x1 : SqSt := { x with pkts := if done then rest else x.pkts, taken := if done then 0 else t, emptyAt := if done && rest.isEmpty then s.clk.elapsed else x.emptyAt }
    ((s.setSq q x1).addWrap (R.SQ_PTR_RPTR q) lines).syncSq q

/-- Everything that a queue holds is discarded and both pointers become 0 (R473, a fence). -/
def State.sqClear (s : State) (q : Nat) : State :=
  let s1 := s.setSq q { s.sqN q with pkts := [], taken := 0, raw := [], emptyAt := s.clk.elapsed }
  ((s1.setF (R.SQ_PTR_WPTR q) 0).setF (R.SQ_PTR_RPTR q) 0).syncSq q

/-! ## Enabling (R470, R473, R475) -/

/-- Template length by VLAN and L3 (R475). -/
def templateLen (vlan : Bool) (l3 : Nat) : Nat :=
  14 + (if vlan then 4 else 0) + (if l3 == 1 then 28 else if l3 == 2 then 48 else 0)

/-- R539 for a queue: a secure source may not feed it, and it may not feed a drain, when the other is non-secure. -/
def State.sqCrosses (s : State) (q : Nat) : Bool :=
  let me := s.blockSecure (0xC0 + q)
  let fromSecure := s.f (R.SQ_CFG_SRC q) == 1 && s.blockSecure (0x02 + s.f (R.SQ_CFG_CHAN q))
  let drain := s.f (R.SQ_CFG_DRAIN q)
  let toOpen :=
    (drain == 1 && !s.blockSecure (0x80 + s.f (R.SQ_CFG_COACH q)))
    || (drain == 2 && (setBits 16 (s.f (R.SQ_PORTS_PORTS q))).any (fun p => !s.blockSecure (0x67 + p / 4)))
    || (drain == 3 && !s.blockSecure (0x67 + s.f R.CL_CTRL_UP_LANE / 4))
  (fromSecure && !me) || (me && toOpen)

/-- The checks of a write of EN = 1 (R473). -/
def State.sqChecks (s : State) (q : Nat) : Nat :=
  let drain := s.f (R.SQ_CFG_DRAIN q)
  let l3 := s.f (R.ETH_SQ_HDR_L3 q)
  if s.sqCrosses q then stBadWorld
  else if 5 ≤ s.f (R.SQ_CFG_SRC q) || 4 ≤ drain then stBadParam
  else if drain == 1 && s.f (R.CE_CFG_KIND (s.f (R.SQ_CFG_COACH q))) != 2 then stBadParam
  else if drain == 2 && (l3 == 3 || s.f (R.ETH_SQ_HDR_TPL_LEN q) != templateLen (s.flag (R.ETH_SQ_HDR_VLAN q)) l3) then stBadParam
  else stOk

/-- The queue for which a coach assembles a packet, if it does (R454). -/
def CoSt.sqQueue (x : CoSt) : Option Nat :=
  if x.sqin.isEmpty then none
  else match x.cur, x.sqDescs with
    | some d, _ => some (bitsOf d.dev 0 5)
    | none, d :: _ => some (bitsOf d.dev 0 5)
    | none, [] => none

/-- Whether an SQ_IN coach or a child link stands within a packet for a queue (R472); one that is complete waits at its end. -/
def State.sqMid (s : State) (q : Nat) : Bool :=
  (s.f (R.SQ_CFG_SRC q) == 2 && s.co.any (fun p => p.2.sqQueue == some q && !p.2.sqReady))
  || (s.f (R.SQ_CFG_SRC q) == 3 && s.cl.link.any (fun p => s.f (R.CL_LINK_STATUS_STATE p.1) == 2 && p.2.asm.any (fun a => a.queue == q)))

/-- The packets under way when a queue is disabled are the last ones of their producers (R473). -/
def State.sqLasts (s : State) (q : Nat) : State :=
  let mark := fun (a : DataAsm) => if a.queue == q then { a with last := true } else a
  if s.f (R.SQ_CFG_SRC q) == 2 then
    { s with co := s.co.map (fun p => (p.1, if p.2.sqQueue == some q then { p.2 with sqLast := true } else p.2)) }
  else if s.f (R.SQ_CFG_SRC q) == 3 then
    { s with cl := { s.cl with link := s.cl.link.map (fun p => (p.1, { p.2 with asm := p.2.asm.map mark })) } }
  else s

/-- What a write of SQq_CTRL does beyond its fields (R472, R473, R479). `old` is the register before it. -/
def sqCtrlWritten (q old v : Nat) (s : State) : State :=
  let s1 :=
    if bitOf v 0 && !bitOf old 0 then
      let r := s.sqChecks q
      let s2 := s.setF (R.SQ_STATUS_RESULT q) r
      if r != stOk then s2.setB (R.SQ_CTRL_EN q) false
      else
        let x := s2.sqN q
        (s2.setB (R.SQ_STATUS_RUNNING q) true).setSq q { x with raw := [], rawOn := s.f (R.SQ_CFG_SRC q) == 1, rawWait := true, ctxDue := s.f (R.SQ_CFG_DRAIN q) == 2 }
    else if !bitOf v 0 && bitOf old 0 then
      let x := s.sqN q
      ((s.setB (R.SQ_STATUS_RUNNING q) false).setSq q { x with rawOn := x.rawOn && !x.raw.isEmpty }).sqLasts q
    else s
  if bitOf v 1 then s1.setB (R.SQ_STATUS_FLUSHING q) true
  else s1.setB (R.SQ_CTRL_FLUSH q) (s1.flag (R.SQ_STATUS_FLUSHING q))

/-- The flush acts at the first moment at which the producers and the drain stand at packet boundaries (R472). -/
def flushAct (q : Nat) (s : State) : State :=
  let x := s.sqN q
  if !s.flag (R.SQ_STATUS_FLUSHING q) || x.taken != 0 || !x.raw.isEmpty || s.sqMid q then s
  else
    let s1 := (s.addSat (R.SQ_FLUSHED q) x.pkts.length).setF (R.SQ_PTR_RPTR q) (s.f (R.SQ_PTR_WPTR q))
    let s2 := (s1.setSq q { x with pkts := [], emptyAt := s.clk.elapsed }).syncSq q
    (s2.setB (R.SQ_STATUS_FLUSHING q) false).setB (R.SQ_CTRL_FLUSH q) false

/-! ## The raw packer (Table 13-4) -/

/-- Bits [15:4] of each corrected sample (R66), packed without gaps, the first in the lowest bits. -/
def packItems (xs : List Int) : List (BitVec 8) :=
  leBytes (xs.length * 12 / 8) (xs.foldr (fun x acc => wrapInt 12 (x / 16) + 2 ^ 12 * acc) 0)

/-- The raw packer of a queue takes the 16 samples of a fabric cycle; its first packet starts with the first sample of
an alignment tick. -/
def State.rawPack (s : State) (q idx sub : Nat) (ys : List Int) (flags : Nat) : State :=
  let x := s.sqN q
  if x.rawWait && (sub != 0 || !s.atTick) then s
  else
    let start := x.raw.isEmpty
    let x1 : SqSt := { x with rawWait := false, raw := x.raw ++ ys, rawIdx := if start then idx else x.rawIdx, rawTime := if start then s.sampleTime (16 * sub) else x.rawTime, rawFlags := (if start then 0 else x.rawFlags) ||| flags, sat := x.sat || bitOf flags 7 }
    let s1 := s.setSq q x1
    if x1.raw.length < 16 * max 1 (s.f (R.SQ_CFG_RAW_GROUPS q)) then s1
    else
      let p : SqPkt := { kind := 1, index := x1.rawIdx, body := packItems x1.raw, time := x1.rawTime, flags := x1.rawFlags }
      let s2 := (s1.sqWrite q 1 p).1
      s2.setSq q { s2.sqN q with raw := [], rawOn := s2.flag (R.SQ_STATUS_RUNNING q) }

/-- The samples of a channel go to the raw packers that stream it. -/
def State.feedRaw (s : State) (n sub : Nat) : State :=
  let a := s.adcN n
  (List.range 32).foldl (fun (t : State) q =>
    if (t.sqN q).rawOn && t.f (R.SQ_CFG_SRC q) == 1 && t.f (R.SQ_CFG_CHAN q) == n then
      t.rawPack q a.busIdx sub a.bus (t.chanFlags n a.busIdx (a.busIdx + 15))
    else t) s

end Sys2Proof.Machine
end

