-- ==== Sys2Proof/Machine/Links.lean ====
section
/-!
DEFINITION. Beldor links as transports (spec/09_trigger_port_and_cluster.md, R329 to R335): lanes and roles, carriages and
codewords, what waits for a slot, and the numbering of control carriages.
-/
namespace Sys2Proof.Machine

/-- A link. -/
def State.linkN (s : State) (k : Nat) : LinkSt := tget (fun _ => {}) s.cl.link k

/-- Replaces a link. -/
def State.setLink (s : State) (k : Nat) (l : LinkSt) : State :=
  { s with cl := { s.cl with link := tset (fun _ => {}) s.cl.link k l } }

/-- Roles (R329). -/
def roleStandalone : Nat := 0
def roleTop : Nat := 1
def roleSub : Nat := 2
def roleWorker : Nat := 3

/-- The role of the device. -/
def State.role (s : State) : Nat := s.f R.CL_CTRL_ROLE

/-- The parent lane. -/
def State.upLane (s : State) : Nat := s.f R.CL_CTRL_UP_LANE

/-- Whether a lane carries a Beldor link. -/
def State.isLink (s : State) (k : Nat) : Bool := s.flag (R.CL_LANES_LANES.bit k) && s.role != roleStandalone

/-- Whether a link is RUNNING. -/
def State.linkUp (s : State) (k : Nat) : Bool := s.f (R.CL_LINK_STATUS_STATE k) == 2

/-- Whether a lane has a child port (R329). -/
def State.isChild (s : State) (k : Nat) : Bool :=
  s.isLink k && (s.role == roleTop || (s.role == roleSub && k != s.upLane))

/-- Whether a lane has the parent port. -/
def State.isParent (s : State) (k : Nat) : Bool :=
  s.isLink k && (s.role == roleSub || s.role == roleWorker) && k == s.upLane

/-- The child lanes. -/
def State.children (s : State) : List Nat := (List.range 16).filter s.isChild

/-- Carriage types (Table 9-7). -/
def cTIME : Nat := 0x01
def cARM : Nat := 0x02
def cFIRE : Nat := 0x03
def cCFGSW : Nat := 0x04
def cDATA : Nat := 0x05
def cCREDIT : Nat := 0x06
def cACK : Nat := 0x07

/-- Hop device latency F in ns (Table 9-5); RATE 3 acts as 0. -/
def State.hopF (s : State) (k : Nat) : Nat :=
  let r := s.f (R.CL_LINK_CTRL_RATE k)
  if r == 1 then 400 else if r == 2 then 600 else 300

/-- d + F of a link in whole ns, rounded up. -/
def State.hopNs (s : State) (k : Nat) : Nat := ceilDiv (s.f (R.CL_LINK_DELAY k)) 65536 + s.hopF k

/-! ## Sending (R331 to R334) -/

/-- The 256 bits of a carriage, with the CRC-32 over bits [223:0] (Table 9-6). The CRC is taken over the 28 bytes in order, bit 0 first,
with the preset and the complement of IEEE 802.3. -/
def carriageBits (c : CtlCarriage) : BitVec 256 :=
  let body := c.type_ % 2 ^ 8 + 2 ^ 8 * (c.flags % 2 ^ 8) + 2 ^ 16 * (c.seq % 2 ^ 16) + 2 ^ 32 * (c.payload % 2 ^ 192)
  BitVec.ofNat 256 (body + 2 ^ 224 * crc32 (leBytes 28 body))

/-- The IDLE carriage (Table 9-7). -/
def idleCarriage : CtlCarriage := { seq := 0, type_ := 0, flags := 0, payload := 0 }

/-- ARM, FIRE and CFGSW are control carriages (R334). -/
def isCtl (type_ : Nat) : Bool := type_ == cARM || type_ == cFIRE || type_ == cCFGSW

/-- The place of a carriage type in the order of R333. -/
def slotRank (type_ : Nat) : Nat :=
  if type_ == cFIRE then 0 else if type_ == cARM then 1 else if type_ == cCFGSW then 2 else if type_ == cACK then 3
  else if type_ == cCREDIT then 4 else 5

/-- Whether a waiting carriage may take a slot: no control carriage while 64 are unacknowledged (R334). -/
def LinkSt.mayGo (l : LinkSt) (c : CtlCarriage) : Bool := !isCtl c.type_ || decide (l.unacked.length < 64)

/-- The carriage of highest priority among those that may go, the oldest of its type (R333). -/
def LinkSt.pick (l : LinkSt) : Option CtlCarriage :=
  (List.range 6).findSome? (fun r => l.waiting.find? (fun c => slotRank c.type_ == r && l.mayGo c))

/-- What a slot carries at an elapsed time: a control carriage that goes out again, in its order; else the carriage of highest priority,
a control one with the next number; else IDLE (R333, R334). -/
def LinkSt.slot (l : LinkSt) (now : Nat) : LinkSt × CtlCarriage :=
  match l.again with
  | c :: rest => ({ l with again := rest }, c)
  | [] =>
    match l.pick with
    | none => (l, idleCarriage)
    | some c =>
      let l1 := { l with waiting := l.waiting.erase c }
      if !isCtl c.type_ then (l1, c)
      else
        let c1 := { c with seq := l.txSeq }
        ({ l1 with txSeq := (l.txSeq + 1) % 2 ^ 16, unacked := l.unacked ++ [c1], sentAt := if l.unacked.isEmpty then now else l.sentAt }, c1)

/-- What `n` slots carry. -/
def LinkSt.slots (l : LinkSt) (now : Nat) : Nat → LinkSt × List CtlCarriage
  | 0 => (l, [])
  | n + 1 =>
    let r := l.slot now
    let rest := LinkSt.slots r.1 now n
    (rest.1, r.2 :: rest.2)

/-- Lane rate in Gbit/s (Table 9-5); RATE 3 acts as 0. -/
def State.laneRate (s : State) (k : Nat) : Nat :=
  let r := s.f (R.CL_LINK_CTRL_RATE k)
  if r == 1 then 56 else if r == 2 then 28 else 112

/-- The time of `n` bits on a lane. -/
def State.bitTime (s : State) (k n : Nat) : Nat := n * nsUnit / s.laneRate k

/-- The number of the next codeword of a link: a codeword takes 5,440 bits (Table 9-5), and those that would have begun before the
present control cycle are past. -/
def State.cwNext (s : State) (k : Nat) : Nat :=
  let l := s.linkN k
  max l.cwNum (ceilDiv ((s.clk.elapsed - l.cwStart) * s.laneRate k) (5440 * nsUnit))

/-- A carriage waits for a slot of a link. -/
def State.sendCar (s : State) (k : Nat) (c : CtlCarriage) : State :=
  let l := s.linkN k
  s.setLink k { l with waiting := l.waiting ++ [c] }

/-- Sends a carriage that is not numbered. -/
def State.sendPlain (s : State) (k type_ flags seq payload : Nat) : State := s.sendCar k ⟨seq, type_, flags, payload⟩

/-- Sends a control carriage; it takes its number with its slot (R334). -/
def State.sendCtl (s : State) (k type_ flags payload : Nat) : State := s.sendCar k ⟨0, type_, flags, payload⟩

/-- Sends a control carriage on every child link that runs. -/
def State.broadcast (s : State) (type_ flags payload : Nat) : State :=
  (s.children.filter s.linkUp).foldl (fun (t : State) k => t.sendCtl k type_ flags payload) s

/-- An ACK carriage (Table 9-7): the number and type acknowledged, a status, the first failing device, the largest
PATH_NS of the subtree. -/
def State.sendAck (s : State) (k seq type_ status dev path : Nat) : State :=
  s.sendPlain k cACK 0 seq (status + 2 ^ 8 * type_ + 2 ^ 16 * dev + 2 ^ 32 * path)

/-! ## Receiving (R332, R334) -/

/-- The code corrects up to 15 symbols of a codeword. -/
def cwCorrects (errs : Nat) : Bool := decide (errs ≤ 15)

/-- The errors of the codeword in which a carriage arrives count once: as corrected, or as one that the code cannot correct (R332). -/
def State.cwCount (s : State) (k : Nat) (c : Carriage) : State :=
  if c.errs == 0 || (s.linkN k).rxCw == some c.cw then s
  else
    let s1 := s.setLink k { s.linkN k with rxCw := some c.cw }
    if cwCorrects c.errs then s1.addSat (R.CL_LINK_FEC_CORR k) 1 else s1.incSat (R.CL_LINK_FEC_UNCORR k)

/-- Bits [223:0] of a received carriage. -/
def carBody (c : Carriage) : Nat :=
  c.type_.toNat + 2 ^ 8 * c.flags.toNat + 2 ^ 16 * c.seq.toNat + 2 ^ 32 * c.payload.toNat

/-- Whether the CRC of a received carriage holds (R332). -/
def carCrcOk (c : Carriage) : Bool := c.crc.toNat == crc32 (leBytes 28 (carBody c))

/-- Whether a received carriage is taken as one of a type (R332): the link runs, its codeword could be corrected and its CRC holds;
a failing CRC and a reserved type count in CRC_ERR. -/
def State.carriageOk (s : State) (k : Nat) (c : Carriage) (type_ : Nat) : State × Bool :=
  if !s.linkUp k then (s, false)
  else
    let s1 := s.cwCount k c
    if !cwCorrects c.errs then (s1, false)
    else if !carCrcOk c || 9 ≤ c.type_.toNat then (s1.incSat (R.CL_LINK_CRC_ERR k), false)
    else (s1, c.type_.toNat == type_)

/-- What the receiver does with a control carriage (R334): act on it when it has the next number, acknowledge an old
one again, and discard a later one. -/
inductive CtlTake where
  | act | again | drop
deriving DecidableEq, Repr

/-- The numbering check of a control carriage. -/
def State.ctlTake (s : State) (k : Nat) (c : Carriage) : CtlTake :=
  let d := (c.seq.toNat + 2 ^ 16 - (s.linkN k).rxSeq) % 2 ^ 16
  if d == 0 then .act else if 2 ^ 15 ≤ d then .again else .drop

/-- The next number is expected. -/
def State.ctlNext (s : State) (k : Nat) : State :=
  let l := s.linkN k
  s.setLink k { l with rxSeq := (l.rxSeq + 1) % 2 ^ 16 }

/-- The PTIME of a carriage payload, bits [127:0]. -/
def payPtime (p : Nat) : Nat := ptOf128 (p % 2 ^ 128)

/-- CL_HORIZON in ns, clamped. -/
def State.horizonNs (s : State) : Nat := clampNat 100 1000000 (s.f R.CL_HORIZON)

/-- CL_HORIZON in 2^-48 ns. -/
def State.horizon (s : State) : Nat := s.horizonNs * nsUnit

end Sys2Proof.Machine
end

