-- ==== Sys2Proof/Machine/Trigger.lean ====
section
/-!
DEFINITION. The trigger engine (spec/08_trigger_and_acquisition.md, R279 to R298): stamps, edge detection, reported
events and what they tell, the combiner, the banks; with the firing rules of the cluster that a reported event enters
(spec/09_trigger_port_and_cluster.md, R345 to R348).
-/
namespace Sys2Proof.Machine

/-- A field of the active trigger bank (spec/08, "Registers"). -/
def tact (x : Fld) : Fld := x.shift 0x4000

/-! ## Stamps (R279) -/

/-- The line of PTIME against the sample index that holds at a PTIME (R57): the present one, or that of the control cycle that
contained it. -/
def State.lineOf (s : State) (t : Nat) : Nat × Nat × Nat :=
  if s.now ≤ t then (s.clk.sampleIdx, s.now, s.increment)
  else (s.clk.rates.find? (fun r => decide (r.2.1 ≤ t))).getD (s.clk.sampleIdx, s.now, s.increment)

/-- The stamp of a PTIME, rounded down to 1/256 input sample. -/
def State.timeStamp (s : State) (t : Nat) : Nat :=
  let r := s.lineOf t
  (256 * (r.1 : Int) + ((t : Int) - r.2.1) * 20480 / r.2.2).toNat

/-- The elapsed time at which PTIME reads or read a value. -/
def State.elapsedOf (s : State) (t : Nat) : Nat := s.clk.elapsed + t - s.now

/-- A span of 1/256 input samples as a time in 2^-48 ns. -/
def State.spanTime (s : State) (k : Nat) : Nat := k * s.increment / 20480

/-- A number of fabric cycles as a time in 2^-48 ns. -/
def State.fcTime (s : State) (k : Nat) : Nat := k * s.increment / 5

/-- TRG_ALIGN of a word, as a time in 2^-48 ns (R291). -/
def alignTime (w : Nat) : Nat := min 1000000 (bitsOf w 0 20) * nsUnit

/-- A trigger unit. -/
def State.unitN (s : State) (u : Nat) : TrgUnit := tget (fun _ => {}) s.trg.units u

/-- Replaces a trigger unit. -/
def State.setUnit (s : State) (u : Nat) (x : TrgUnit) : State :=
  { s with trg := { s.trg with units := tset (fun _ => {}) s.trg.units u x } }

/-- Whether unit `u` is enabled with a source kind. -/
def State.unitIs (s : State) (u kind : Nat) : Bool :=
  s.flag (tact (R.TRG_SRC_EN u)) && s.f (tact (R.TRG_SRC_KIND u)) == kind

/-- Whether unit `u` is enabled with a source kind and INDEX. -/
def State.unitOf (s : State) (u kind idx : Nat) : Bool := s.unitIs u kind && s.f (tact (R.TRG_SRC_INDEX u)) == idx

/-! ## Settings in force at a time (R297) -/

/-- The words of the active bank that the combiner uses: TRG_ALIGN, then MEMBERS, CFG and W of each term. -/
def State.termWords (s : State) : List (BitVec 32) :=
  s.word (tact R.TRG_ALIGN).off :: (List.range 16).flatMap (fun t =>
    [s.word (tact (R.TRM_MEMBERS t)).off, s.word (tact (R.TRM_CFG t)).off, s.word (tact (R.TRM_W t)).off])

/-- The combiner's words in force at a PTIME, and how many hand-overs came after it. -/
def State.bankAt (s : State) (pt : Nat) : List (BitVec 32) × Nat :=
  let later := s.trg.hist.filter (fun h => pt < h.1)
  match later.getLast? with
  | some h => (h.2, later.length)
  | none => (s.termWords, 0)

/-- Settings of one term. -/
structure TermSet where
  members : Nat
  cfg : Nat
  w : Nat

/-- The settings of term `t` in a list of the combiner's words. -/
def termOf (ws : List (BitVec 32)) (t : Nat) : TermSet :=
  { members := ((ws[3 * t + 1]?).getD 0).toNat, cfg := ((ws[3 * t + 2]?).getD 0).toNat, w := bitsOf ((ws[3 * t + 3]?).getD 0).toNat 0 24 }

/-- Whether a term is enabled and names a unit. -/
def TermSet.names (x : TermSet) (u : Nat) : Bool := bitOf x.cfg 31 && bitOf x.members u

/-- The terms that name the unit of an event, under the settings in force at its stamp. -/
def State.namers (s : State) (e : TrgEv) : List Nat :=
  let ws := (s.bankAt e.pt).1
  (List.range 16).filter (fun t => (termOf ws t).names e.unit)

/-- TRG_ALIGN in force at the stamp of an event, as a time (R291, R297). -/
def State.alignOf (s : State) (e : TrgEv) : Nat := alignTime (((s.bankAt e.pt).1[0]?).getD 0).toNat

/-- Whether an event reaches the combiner no later than the PTIME of its stamp plus TRG_ALIGN (R291). -/
def State.onTime (s : State) (e : TrgEv) : Bool := decide (e.due ≤ e.pt + s.alignOf e)

/-- Events that every term naming their unit has passed leave the store (R286). -/
def State.pruneStore (s : State) : State :=
  { s with trg := { s.trg with store := s.trg.store.filter (fun e => !(e.arrived && (s.namers e).all (fun t => e.used.contains t))) } }

/-! ## Source latencies (R290, Table 8-3) -/

/-- From the AIN balls to the channel bus: 58 fc and 0.3125 ns, 45.625 ns at nominal F_R. -/
def State.inputLatency (s : State) : Nat := s.fcTime 58 + nsUnit * 5 / 16

/-- The chain pipeline up to the chain output bus, in fc (Table 4-3). -/
def State.pipeFc (s : State) (n : Nat) : Nat :=
  22 + (if s.f (R.FCH_MN_ACT_M n) == 1 then 2 else 16) + (if s.f (R.FCH_MN_ACT_N n) == 1 then 20 else 28)

/-- The group delay that a chain's times take off, in 2^-16 input samples: GDELAY when GD_COMP is 1 (R118, R282). -/
def State.chainDelay (s : State) (n : Nat) : Nat :=
  if s.flag (act (R.FCH_FIR_GD_COMP n)) then s.f (R.FCH_GDELAY_GDELAY n) else 0

/-- (23 + G) × Ts + 45.625 ns + Pipe of chain `n`. -/
def State.chainLatency (s : State) (n : Nat) : Nat :=
  s.spanTime ((23 * 65536 + s.chainDelay n) / 256) + s.inputLatency + s.fcTime (s.pipeFc n)

/-- The window of detector `det` of chain `n` in input samples; the envelope has none. -/
def State.detWindow (s : State) (n det : Nat) : Nat :=
  if det == 0 then 2 ^ min 20 (s.f (act (R.FCH_DETCFG_PK_K n))) * 2 * s.actD n
  else if det == 1 then 2 ^ min 20 (s.f (act (R.FCH_DETCFG_RMS_K n))) * 2 * s.actD n
  else 0

/-- The latency of an event of unit `u` to the combiner, for kinds 1 to 4 and 6 to 8; `width` is the pulse width in input samples. -/
def State.unitLatency (s : State) (u width : Nat) : Nat :=
  let n := s.f (tact (R.TRG_SRC_INDEX u))
  match s.f (tact (R.TRG_SRC_KIND u)) with
  | 1 => s.inputLatency + s.fcTime 8 + s.spanTime (256 * width)
  | 2 | 3 => s.chainLatency n + s.fcTime 8 + s.spanTime (256 * width)
  | 4 => s.chainLatency n + s.fcTime 12 + s.spanTime (256 * s.detWindow n (s.f (tact (R.TRG_SRC_DSEL u))))
  | 6 => s.fcTime 48
  | 7 => s.fcTime 24
  | 8 => s.fcTime 24 + (if s.f R.TP_CLK_HZ_HZ == 0 then 0 else 2 * secUnit / s.f R.TP_CLK_HZ_HZ)
  | _ => 0

/-- The latency of a MASK hit of context `c`: L and D of its frame, DL, its lateness and the publish copy in fc. -/
def State.maskLatency (s : State) (n l dl lateFc copy : Nat) : Nat :=
  s.chainLatency n + s.spanTime (512 * ((l - 1) * s.actD n)) + s.fcTime (dl + lateFc + copy + 8)

/-! ## TRIGOUT and primitives (R287, R288, R324) -/

/-- TRGOUT settings in force of output `o`: WIDTH in fc, POL, SEL. -/
def State.outSet (s : State) (o : Nat) : Nat × Bool × Nat :=
  let w := ((s.trg.outCfg[o]?).getD 0x83F).toNat
  (max 1 (bitsOf w 8 16), bitOf w 6, bitsOf w 0 6)

/-- A pulse starts at a TRIGOUT at a PTIME, unless one is running (R288) or its pads are held (R511). -/
def State.trigPulse (s : State) (o at_ : Nat) : State :=
  let c := s.outSet o
  let el := s.elapsedOf at_
  if el < tget (fun _ => 0) s.trg.outBusy o || s.flag (R.PWR_PADHOLD_GROUPS.bit 1) then s
  else
    let t := { s with trg := { s.trg with outBusy := tset (fun _ => 0) s.trg.outBusy o (el + s.fcTime c.1) } }
    t.emit (.trigOut o (at_ % ptimeSpan) c.1 c.2.1)

/-- The TRIGOUTs that select `sel` pulse at a PTIME. -/
def State.trigSel (s : State) (sel at_ : Nat) : State :=
  (List.range 4).foldl (fun (t : State) o => if (t.outSet o).2.2 == sel then t.trigPulse o at_ else t) s

/-- A unit's report or a term's release at a PTIME tells TRIGOUT, 12 fc plus 0.5 ns later, and TPP, from 4 fc on. -/
def State.tell (s : State) (sel : Nat) (trigout : Bool) (pt : Nat) : State :=
  let s1 := if trigout then s.trigSel sel (pt + s.fcTime 12 + nsUnit / 2) else s
  { s1 with trg := { s1.trg with prims := s1.trg.prims ++ [(sel, s1.elapsedOf pt + s1.fcTime 4)] } }

/-! ## Reporting (R283, R284, R286) -/

/-- A unit has an event with a stamp in a fabric cycle: holdoff, then one event per fabric cycle, then the store. It is reported, and
reaches the combiner, `lat` after the PTIME of its stamp (R290; in Table 9-9 the raw unit reports 51.875 ns after the crossing). The
second part says whether it was reported. -/
def State.report (s : State) (u stamp fc lat : Nat) : State × Bool :=
  let x := s.unitN u
  let held := match x.lastRep with
    | some p => decide (stamp < p + 256 * s.f (tact (R.TRG_HOLDOFF u)))
    | none => false
  if held then (s, false)
  else if x.repFc == some fc then (s.incSat (R.TRG_MERGED u), false)
  else
    let s1 := (s.setUnit u { x with lastRep := some stamp, repFc := some fc }).incSat (R.TRG_EVENTS u)
    let s2 := (s1.setF (R.TRG_LAST u) (stamp / 256)).setF (R.TRG_LAST_FRAC_FRAC u) (stamp % 256)
    let full := 256 ≤ s2.trg.store.countP (fun e => e.unit == u)
    let pt := s2.stampTime stamp
    let s3 := if full then (s2.incSat (R.TRG_OVERFLOW u)).setB R.TRG_STATUS_EVT_OVF true
      else { s2 with trg := { s2.trg with store := s2.trg.store ++ [{ unit := u, stamp := stamp, pt := pt, due := pt + lat }] } }
    (s3.tell u (s3.f (tact (R.TRG_SRC_KIND u)) != 1) (pt + lat), true)

/-! ## Firing (R345 to R348) -/

/-- The payload of a FIRE carriage (Table 9-7). -/
def firePayload (pt origin source num armId : Nat) : Nat :=
  pt128 pt + 2 ^ 128 * origin + 2 ^ 144 * source + 2 ^ 160 * num + 2 ^ 176 * (armId % 2 ^ 16)

/-- The payload of an ARM carriage. -/
def armPayload (act_ id firesMax : Nat) (disarm : Bool) : Nat :=
  pt128 act_ + 2 ^ 128 * id + 2 ^ 160 * firesMax + (if disarm then 2 ^ 176 else 0)

/-- A FIRE is delivered to the enabled units of kind 9 and recorded (R348). -/
def State.deliverFire (s : State) (pt origin num : Nat) (checkLate : Bool) : State :=
  let stamp := s.timeStamp pt
  let s1 := (List.range 32).foldl (fun (t : State) u =>
    if t.unitIs u 9 then (t.report u stamp (stamp / 4096) (s.now - pt)).1 else t) s
  let s2 := (s1.setPtimeAt (R.CL_LAST_FIRE 0).off pt).incSat R.CL_FIRES_RCVD
  let s3 := (s2.setF R.CL_FIRE_NUM_NUM num).setF R.CL_FIRE_NUM_ORIGIN origin
  if checkLate && decide (pt + s3.horizon < s3.now) then (s3.setB R.CL_STATUS_FIRE_LATE true).incSat R.CL_LATE_FIRES else s3

/-- The distance of two times. -/
def timeDist (a b : Nat) : Nat := max a b - min a b

/-- The top manager takes a FIRE (R347); a standalone device treats its own so (R345). -/
def State.topFire (s : State) (pt origin source : Nat) : State :=
  let early := match s.cl.inForce with
    | some a => decide (pt < a.act)
    | none => false
  if !s.flag R.CL_STATUS_ARMED || early then s.incSat R.CL_FIRES_DROPPED
  else if s.cl.recent.any (fun r => decide (timeDist pt r ≤ s.f R.CL_MERGE_NS * nsUnit)) then s.incSat R.CL_MERGED
  else
    let num := (s.f R.CL_FIRE_NUM_NUM + 1) % 2 ^ 16
    let fires := s.cl.fires + 1
    let s1 := { s with cl := { s.cl with recent := (pt :: s.cl.recent).take 64, fires := fires } }
    let s2 := s1.broadcast cFIRE 1 (firePayload pt origin source num (s1.f R.CL_ARM_ID))
    let s3 := s2.deliverFire pt origin num false
    let maxF := match s3.cl.inForce with
      | some a => a.firesMax
      | none => 0
    if maxF != 0 && decide (maxF ≤ fires) then
      (s3.setB R.CL_STATUS_ARMED false).broadcast cARM 0 (armPayload s3.now (s3.f R.CL_ARM_ID) 0 true)
    else s3

/-- The device originates a FIRE (R345). -/
def State.originate (s : State) (source pt : Nat) : State :=
  let top := s.role == roleTop || s.role == roleStandalone
  if !s.flag R.CL_STATUS_ARMED || (!top && !s.linkUp s.upLane) then s.incSat R.CL_FIRES_DROPPED
  else
    let s1 := s.incSat R.CL_FIRES_SENT
    let dev := s1.f R.CL_STATUS_DEV
    if top then s1.topFire pt dev source
    else s1.sendCtl s1.upLane cFIRE 0 (firePayload pt dev source 0 (s1.f R.CL_ARM_ID))

/-- A unit other than of kind 9 has an event: it is reported, and originates a FIRE where CL_FIRE_UNITS says so. -/
def State.unitEvent (s : State) (u stamp fc lat : Nat) : State :=
  let r := s.report u stamp fc lat
  if r.2 && r.1.flag (R.CL_FIRE_UNITS.bit u) then r.1.originate u (r.1.stampTime stamp) else r.1

/-- Every enabled unit that `p` selects has an event with a stamp. -/
def State.unitEvents (s : State) (p : State → Nat → Bool) (stamp : Nat) : State :=
  (List.range 32).foldl (fun (t : State) u => if p t u then t.unitEvent u stamp (stamp / 4096) (t.unitLatency u 0) else t) s

/-! ## Edge detection (R281, R282, R285) -/

/-- The settings of a unit that detection uses. -/
structure UnitSet where
  level : Int
  lo : Int                 -- LEVEL - HYST, saturated
  hi : Int                 -- LEVEL + HYST, saturated
  rise : Bool
  fall : Bool
  pw : Bool
  pwMode : Bool
  pwMin : Nat
  pwMax : Nat
  interp : Bool            -- kinds 1 to 3

/-- Detection settings of a unit; a signed value has 16 bits, an unsigned one 16 bits. -/
def State.unitSet (s : State) (u : Nat) : UnitSet :=
  let kind := s.f (tact (R.TRG_SRC_KIND u))
  let signed := kind == 1 || kind == 2
  let l : Int := if signed then s.fi (tact (R.TRG_LEVEL_LEVEL u)) else s.f (tact (R.TRG_LEVEL_LEVEL u))
  let h : Int := s.f (tact (R.TRG_LEVEL_HYST u))
  let sat := fun (x : Int) => if signed then satS 16 x else (satU 16 x : Int)
  let sl := s.f (tact (R.TRG_EDGE_SLOPE u))
  { level := l, lo := sat (l - h), hi := sat (l + h), rise := sl == 0 || sl == 2, fall := sl == 1 || sl == 2, pw := s.flag (tact (R.TRG_EDGE_PW_EN u)) && kind != 4, pwMode := s.flag (tact (R.TRG_EDGE_PW_MODE u)), pwMin := s.f (tact (R.TRG_PW_MIN u)), pwMax := s.f (tact (R.TRG_PW_MAX u)), interp := kind != 4 }

/-- The stamp of an edge between two values at their places (R282). -/
def edgeStamp (c : UnitSet) (pv pp v p step : Int) : Nat :=
  if !c.interp then p.toNat
  else
    let f : Int := min 255 (if pv < v then 256 * (c.level - pv) / (v - pv) else 256 * (pv - c.level) / (pv - v))
    (pp + f * step / 256).toNat

/-- The edge that a value makes, if any (R281): its direction, and the unit with its priming updated. -/
def edgeAt (c : UnitSet) (x : TrgUnit) (v : Int) : TrgUnit × Option Bool :=
  let was := fun (q : Int → Bool) => match x.prev with
    | some p => q p.1
    | none => false
  let r := c.rise && x.primR && decide (c.level ≤ v) && was (fun w => decide (w < c.level))
  let f := c.fall && x.primF && decide (v ≤ c.level) && was (fun w => decide (c.level < w))
  let x1 := { x with primR := decide (v ≤ c.lo) || (x.primR && !r), primF := decide (c.hi ≤ v) || (x.primF && !f) }
  (x1, if r then some true else if f then some false else none)

/-- What an open pulse does at a value at place `p` (R285): the pulse left open, and the stamp and the width of an event to report. A
width that reaches PW_MAX between two values has reached it at the second. -/
def pulseAt (c : UnitSet) (q : Pulse) (v p : Int) : Option Pulse × Option (Nat × Nat) :=
  let width := ((p - q.stamp) / 256).toNat
  let closes := if q.rising then decide (v ≤ c.lo) else decide (c.hi ≤ v)
  let past := c.pwMode && c.pwMax != 0 && !q.told && decide (c.pwMax ≤ width)
  let fits := if c.pwMode then decide (width < c.pwMin) && !q.told
    else decide (c.pwMin ≤ width) && (c.pwMax == 0 || decide (width ≤ c.pwMax))
  (if closes then none else some { q with told := q.told || past },
   if past then some (q.stamp, c.pwMax) else if closes && fits then some (q.stamp, width) else none)

/-- The open pulses at a value, each by `pulseAt`. -/
def pulsesAt (c : UnitSet) (qs : List Pulse) (v p : Int) : List Pulse × List (Nat × Nat) :=
  let rs := qs.map (fun q => pulseAt c q v p)
  (rs.filterMap (fun r => r.1), rs.filterMap (fun r => r.2))

/-- A unit takes a value at a place in 1/256 input samples; `step` is the distance of consecutive values, and `quiet`
says that the unit may not fire (R87). A value before the restart of the units is not taken (R297). With PW_EN = 1 an edge opens a
pulse, and the pulses report; else the edge does. -/
def State.unitValue (s : State) (u : Nat) (c : UnitSet) (quiet : Bool) (fc : Nat) (step v p : Int) : State :=
  if p < s.trg.since then s
  else
    let x := s.unitN u
    let e := edgeAt c x v
    let edge := match e.2, x.prev with
      | some r, some q => [(⟨edgeStamp c q.1 q.2 v p step, r, false⟩ : Pulse)]
      | _, _ => []
    let kept := pulsesAt c x.pulses v p
    let s1 := s.setUnit u { e.1 with prev := some (v, p), pulses := if c.pw then kept.1 ++ edge else [] }
    let evs := if c.pw then kept.2 else edge.map (fun q => (q.stamp, 0))
    if quiet then s1
    else evs.foldl (fun (t : State) ev => t.unitEvent u ev.1 fc (t.unitLatency u ev.2)) s1

/-- The fast decision on one coarse code (R287): the unit and whether an edge falls here. -/
def fastAt (lo level hi : Int) (rise fall : Bool) (x : TrgUnit) (c : Int) : TrgUnit × Bool :=
  let was := fun (q : Int → Bool) => match x.fastPrev with
    | some p => q p
    | none => false
  let r := rise && x.fastR && decide (level ≤ c) && was (fun w => decide (w < level))
  let f := fall && x.fastF && decide (c ≤ level) && was (fun w => decide (level < w))
  ({ x with fastR := decide (c ≤ lo) || (x.fastR && !r), fastF := decide (hi ≤ c) || (x.fastF && !f), fastPrev := some c }, r || f)

/-- The fast decision over the 16 coarse codes of a fabric cycle. -/
def fastBlock (lo level hi : Int) (rise fall : Bool) : TrgUnit → List Int → TrgUnit × Bool
  | x, [] => (x, false)
  | x, c :: cs =>
    let r := fastAt lo level hi rise fall x c
    let rest := fastBlock lo level hi rise fall r.1 cs
    (rest.1, r.2 || rest.2)

/-- The fast path of a raw-channel unit to the TRIGOUTs that name it (R287). -/
def State.fastUnit (s : State) (u idx : Nat) (quiet : Bool) (coarse : List Int) (blockTime : Nat) : State :=
  let c := s.unitSet u
  let h : Int := ceilDiv (s.f (tact (R.TRG_LEVEL_HYST u))) 512
  let l := c.level / 512
  let r := fastBlock (satS 7 (l - h)) l (satS 7 (l + h)) c.rise c.fall (s.unitN u) coarse
  let fc := idx / 16
  let held := match r.1.fastRep with
    | some p => decide (fc < p + ceilDiv (s.f (tact (R.TRG_HOLDOFF u))) 16)
    | none => false
  if !r.2 || held || quiet then s.setUnit u r.1
  else (s.setUnit u { r.1 with fastRep := some fc }).trigSel u (blockTime + s.fcTime 32 + nsUnit * 13 / 16)

/-- The units on a raw channel take the 16 samples of a fabric cycle. -/
def State.feedRawUnits (s : State) (n sub : Nat) (codes : List (BitVec 12)) : State :=
  let a := s.adcN n
  let quiet := s.flag (R.ADC_STATUS_FIRST n)
  (List.range 32).foldl (fun (t : State) u =>
    if !t.unitOf u 1 n then t
    else
      let t1 := t.fastUnit u a.busIdx quiet (codes.map (fun x => x.toInt / 32)) (t.sampleTime (16 * sub))
      let c := t1.unitSet u
      (a.bus.zipIdx).foldl (fun (w : State) p =>
        w.unitValue u c quiet (a.busIdx / 16) 256 p.1 (256 * ((a.busIdx + p.2 : Nat) : Int))) t1) s

/-- Whether the channel at the root of a chain runs its first pass (R87). -/
def State.chainQuiet (s : State) (n : Nat) : Bool :=
  let src := s.f (act (R.FCH_SRC_SRC n))
  decide (src < 8) && s.flag (R.ADC_STATUS_FIRST src)

/-- τ of an output with emit index `e`, in 1/256 input samples (R282). -/
def State.tau (s : State) (n e : Nat) : Int :=
  ((e : Int) * 65536 - s.chainDelay n) / 256

/-- The units on a chain's output take an output sample (kinds 2 and 3). -/
def State.feedChainUnits (s : State) (n : Nat) (o : ChainOut) : State :=
  let p := s.tau n o.e
  let step : Int := 512 * s.actD n
  let quiet := s.chainQuiet n
  (List.range 32).foldl (fun (t : State) u =>
    if t.unitOf u 2 n then t.unitValue u (t.unitSet u) quiet ((o.e + 23) / 16) step o.i p
    else if t.unitOf u 3 n then t.unitValue u (t.unitSet u) quiet ((o.e + 23) / 16) step (magOf o.i o.q) p
    else t) s

/-- The units on a chain's detectors take a result (kind 4). -/
def State.feedDetUnits (s : State) (n : Nat) (d : DetRes) : State :=
  let p := s.tau n d.out.e
  let quiet := s.chainQuiet n
  (List.range 32).foldl (fun (t : State) u =>
    if t.unitOf u 4 n && t.f (tact (R.TRG_SRC_DSEL u)) == d.det then
      t.unitValue u (t.unitSet u) quiet ((d.out.e + 23) / 16) 256 d.value p
    else t) s

/-- A MASK hit of a context (kind 5, R289): `side` 0 upper, 1 lower; `idx` the sample index of the frame, `lat` its latency. -/
def State.maskEvent (s : State) (ctx side idx lat : Nat) : State :=
  if s.chainQuiet (s.f (R.CTX_SRC_SRC_CHAIN ctx)) then s
  else
    let takes := fun (t : State) (u : Nat) =>
      let d := t.f (tact (R.TRG_SRC_DSEL u))
      t.unitIs u 5 && t.f (tact (R.TRG_SRC_CTX u)) == ctx && (d == 0 || d == side + 1)
    (List.range 32).foldl (fun (t : State) u => if takes t u then t.unitEvent u (256 * idx) (idx / 16) lat else t) s

/-- A timing-input stamp becomes an event (kind 6). -/
def State.tinEvent (s : State) (i pt : Nat) : State := s.unitEvents (fun t u => t.unitOf u 6 i) (s.timeStamp pt)

/-- An edge on TRIGINi (kind 7). -/
def triginEdge (i : Nat) (rising : Bool) (k : Nat) (s : State) : State :=
  let pol := (s.trg.inPol[i]?).getD 0
  if rising != (pol == 0) then s else s.unitEvents (fun t u => t.unitOf u 7 i) (256 * s.clk.sampleIdx + 128 * k)

/-! ## Combiner (R291 to R293) -/

/-- Whether an event on its way has reached the combiner by the end of the present control cycle (R290). -/
def State.reached (s : State) (e : TrgEv) : Bool := !e.arrived && decide (e.due < s.now + s.increment)

/-- An event reaches the combiner: it is kept when on time, else discarded and counted (R291). -/
def State.arrive (s : State) (e : TrgEv) : State :=
  if s.onTime e then
    ({ s with trg := { s.trg with store := s.trg.store.map (fun x => if x = e then { e with arrived := true } else x) } } : State).pruneStore
  else
    (({ s with trg := { s.trg with store := s.trg.store.erase e } } : State).setB R.TRG_STATUS_ALIGN_LATE true).incSat R.TRG_LATE_EVENTS

/-- The oldest event of unit `u` on its way reaches the combiner at its time (R290, R291). -/
def eventArrival (u : Nat) (s : State) : State :=
  match s.trg.store.find? (fun e => e.unit == u && s.reached e) with
  | none => s
  | some e => s.arrive e

def execEventArrival (u : Fin 32) (s : State) : Out := .next (eventArrival u s)

/-- Every event whose time to reach the combiner has come reaches it. -/
def State.arriveAll (s : State) : State := (s.trg.store.filter s.reached).foldl State.arrive s

/-- The earlier of two events: by stamp, then by unit (R292). -/
def evBefore (a b : TrgEv) : Bool := decide (a.stamp < b.stamp) || (a.stamp == b.stamp && decide (a.unit ≤ b.unit))

/-- The earliest event of a list. -/
def evFirst : List TrgEv → Option TrgEv
  | [] => none
  | e :: es =>
    match evFirst es with
    | none => some e
    | some x => if evBefore e x then some e else some x

/-- The unused events that term `t` may take, with those on their way that will be on time: the term holds a later candidate back for
them (R293). -/
def State.termEvents (s : State) (t : Nat) : List TrgEv :=
  s.trg.store.filter (fun e => (e.arrived || s.onTime e) && !e.used.contains t && (termOf (s.bankAt e.pt).1 t).names e.unit)

/-- A term's output: the stamp of its time and the trigger epoch under which it evaluated. -/
structure TermOut where
  stamp : Nat
  epoch : Nat

/-- Term `t` evaluates its candidate once its PTIME has come (R292), no earlier than it has evaluated an earlier one (R293). -/
def State.evaluate (s : State) (t : Nat) : State × Option TermOut :=
  match evFirst (s.termEvents t) with
  | none => (s, none)
  | some e0 =>
    let bank := s.bankAt e0.pt
    let x := termOf bank.1 t
    let due := e0.pt + s.spanTime (256 * x.w) + s.alignOf e0
    if s.now + s.increment ≤ due || !e0.arrived then (s, none)
    else
      let at_ := max due (min s.now (tget (fun _ => 0) s.trg.evals t))
      let win := s.trg.store.filter (fun e => e.arrived && !e.used.contains t && bitOf x.members e.unit
        && decide (e0.stamp ≤ e.stamp) && decide (e.stamp ≤ e0.stamp + 256 * x.w))
      let keep := (setBits 32 x.members).filterMap (fun u => evFirst (win.filter (fun e => e.unit == u)))
      let op := bitsOf x.cfg 0 2
      let need := if op == 0 then (setBits 32 x.members).length else if op == 1 then 1 else bitsOf x.cfg 8 6
      let fires := decide (need ≤ keep.length)
      let time := match if bitOf x.cfg 21 then keep.find? (fun e => e.unit == bitsOf x.cfg 16 5) else none with
        | some r => r.stamp
        | none => e0.stamp
      let done := if fires then keep else [e0]
      let upd := s.trg.store.map (fun e => if done.contains e then { e with used := t :: e.used } else e)
      let s1 := ({ s with trg := { s.trg with store := upd, evals := tset (fun _ => 0) s.trg.evals t at_ } } : State).pruneStore
      if !fires then (s1, none)
      else
        let s2 := ((s1.incSat (R.TRM_FIRES t)).setF (R.TRM_LAST t) (time / 256)).tell (32 + t) true at_
        (s2, some { stamp := time, epoch := (s2.f R.TRG_EPOCH_EPOCH + 2 ^ 16 - bank.2 % 2 ^ 16) % 2 ^ 16 })

/-! ## Commit and hand-over (R295 to R298) -/

/-- The code of the first failing check of a unit of the shadow bank (Table 8-1, R285). -/
def State.unitBad (s : State) (u : Nat) : Bool :=
  let kind := s.f (R.TRG_SRC_KIND u)
  let idx := s.f (R.TRG_SRC_INDEX u)
  10 ≤ kind || (kind == 1 && 8 ≤ idx) || (kind == 7 && 4 ≤ idx)
  || ((kind == 4 || kind == 5) && s.f (R.TRG_SRC_DSEL u) == 3)
  || s.f (R.TRG_EDGE_SLOPE u) == 3
  || (s.flag (R.TRG_EDGE_PW_EN u) && s.flag (R.TRG_EDGE_PW_MODE u) && s.f (R.TRG_PW_MIN u) == 0 && s.f (R.TRG_PW_MAX u) == 0)

/-- Whether a term of the shadow bank is refused (R293). -/
def State.termBad (s : State) (t : Nat) : Bool :=
  let m := s.f (R.TRM_MEMBERS t)
  let n := (setBits 32 m).length
  let op := s.f (R.TRM_CFG_OP t)
  let k := s.f (R.TRM_CFG_K t)
  op == 3 || (op == 2 && (k < 1 || n < k)) || (s.flag (R.TRM_CFG_REF_EN t) && !bitOf m (s.f (R.TRM_CFG_REF_UNIT t)))

/-- R539 for a unit: its source may not be secure when the trigger engine is not. -/
def State.unitCrosses (s : State) (u : Nat) : Bool :=
  let kind := s.f (R.TRG_SRC_KIND u)
  let idx := s.f (R.TRG_SRC_INDEX u)
  let sec :=
    if kind == 1 then s.blockSecure (0x02 + idx)
    else if 2 ≤ kind && kind ≤ 4 then s.blockSecure (0x10 + idx)
    else if kind == 5 then s.ctxSecure (s.f (R.TRG_SRC_CTX u))
    else kind == 6 && s.blockSecure 0x0E
  s.flag (R.TRG_SRC_EN u) && sec && !s.blockSecure 0x60

/-- The checks of a trigger commit (R295). -/
def State.trgChecks (s : State) : Nat :=
  if (List.range 32).any s.unitCrosses then stBadWorld
  else if (List.range 32).any s.unitBad || (List.range 16).any s.termBad then stBadParam
  else stOk

/-- Whether the present control cycle begins with the tick of a pending hand-over (R295). -/
def State.trgDue (s : State) : Bool :=
  s.flag R.TRG_STATUS_PENDING && !s.trg.handed && s.atTick && s.trg.pendCyc != s.clk.cycles
  && (!s.trg.atPtime || s.trg.late || decide (s.ptimeAt (R.TRG_HO_PTIME 0).off ≤ s.now))

/-- Whether the hand-over stands against a CANCEL of the present control cycle, which contains T_h (R133, R296). -/
def State.trgStands (s : State) : Bool := s.trg.handed || s.trgDue

/-- What a write of TRG_CTRL does beyond its fields (R295, R296). CANCEL and COMMIT in one write act in that order. -/
def trgCtrlWritten (v : Nat) (s : State) : State :=
  let s0 := (s.setB R.TRG_CTRL_CANCEL false).setB R.TRG_CTRL_COMMIT false
  let s1 := if bitOf v 3 && s0.flag R.TRG_STATUS_PENDING && !s0.trgStands
    then (s0.setB R.TRG_STATUS_PENDING false).setF R.TRG_STATUS_RESULT stCancelled else s0
  if !bitOf v 1 then s1
  else if s1.flag R.TRG_STATUS_PENDING then s1.setB R.TRG_STATUS_SHADOW_BUSY true
  else
    let r := s1.trgChecks
    let s2 := s1.setF R.TRG_STATUS_RESULT r
    if r != stOk then s2
    else
      let late := bitOf v 2 && decide (s2.ptimeAt (R.TRG_HO_PTIME 0).off < s2.now)
      let s3 := { s2 with trg := { s2.trg with atPtime := bitOf v 2, late := late, pendCyc := s2.clk.cycles } }
      let s4 := s3.setB R.TRG_STATUS_PENDING true
      if late then s4.setB R.TRG_STATUS_LATE_HO true else s4

/-- Every unit restarts its detection from the values at or after the start of the present control cycle (R297, R315). -/
def State.restartUnits (s : State) : State :=
  { s with trg := { s.trg with units := [], since := 256 * (s.clk.sampleIdx : Int) } }

/-- The shadow words copied into the active mirrors. -/
def State.copyTrgBank (s : State) : State :=
  let cp := fun (t : State) (off : Nat) => t.setWord (off + 0x4000) (t.word off)
  let s1 := cp s 0x400100
  let s2 := (List.range 32).foldl (fun (t : State) u => (List.range 6).foldl (fun w i => cp w (0x401000 + 0x40 * u + 4 * i)) t) s1
  (List.range 16).foldl (fun (t : State) x => (List.range 3).foldl (fun w i => cp w (0x402000 + 0x20 * x + 4 * i)) t) s2

/-- The alignment tick of a pending commit (R295 to R297); PENDING clears at the end of its control cycle. -/
def trgHandOver (s : State) : State :=
  if !s.trgDue then s
  else
    let recent := s.trg.hist.filter (fun h => decide (s.now ≤ h.1 + 4000000 * nsUnit))
    let s1 := { s with trg := { s.trg with hist := (s.now, s.termWords) :: recent, handed := true, late := false } }
    (s1.copyTrgBank.addWrap R.TRG_EPOCH_EPOCH 1).restartUnits

def execTrgHandOver (s : State) : Out := .next (trgHandOver s)

/-- The control cycle after a hand-over: PENDING reads 0 (R296). -/
def State.trgTick (s : State) : State :=
  if s.trg.handed then ({ s with trg := { s.trg with handed := false } } : State).setB R.TRG_STATUS_PENDING false else s

/-- TRGIN and TRGOUT settings take effect at an alignment tick (R298). -/
def trgIoApply (s : State) : State :=
  if !s.atTick then s
  else { s with trg := { s.trg with
      inPol := (List.range 4).map (fun i => s.f (R.TRGIN_CFG_POL i))
      outCfg := (List.range 4).map (fun o => s.word (R.TRGOUT_CFG o).off) } }

def execTrgIoApply (s : State) : Out := .next (trgIoApply s)

end Sys2Proof.Machine
end

