-- ==== Sys2Proof/Machine/Records.lean ====
section
/-!
DEFINITION. Result records: the header of Table 7-7 and the padding of R263 (spec/07_contexts_and_products.md).
-/
namespace Sys2Proof.Machine

/-- The fields of a record header (Table 7-7). -/
structure RecHead where
  magic : Nat
  context : Nat
  product : Nat
  seq : Nat
  ptime : Nat
  index : Nat
  flags : Nat := 0
  len : Nat := 0
  chEpoch : Nat := 0
  cxEpoch : Nat := 0
  shed : Nat := 0
  lateFc : Nat := 0

/-- The 64 bytes of a record header. -/
def RecHead.bytes (h : RecHead) : List (BitVec 8) :=
  leBytes 2 h.magic ++ leBytes 2 (h.context % 2 ^ 12 + 2 ^ 12 * h.product) ++ leBytes 4 h.seq ++ leBytes 16 (pt128 h.ptime)
  ++ leBytes 8 h.index ++ leBytes 4 h.flags ++ leBytes 4 h.len ++ leBytes 2 h.chEpoch ++ leBytes 2 h.cxEpoch
  ++ leBytes 2 (min h.shed 0xFFFF) ++ leBytes 2 0 ++ leBytes 4 (min h.lateFc 0xFFFFFFFF) ++ List.replicate 12 0

/-- A byte list padded with zeros to a multiple of 64 B. -/
def pad64 (bs : List (BitVec 8)) : List (BitVec 8) := bs ++ List.replicate (ceilDiv bs.length 64 * 64 - bs.length) 0

/-- A whole record (R263). -/
def recordBytes (h : RecHead) (payload : List (BitVec 8)) : List (BitVec 8) :=
  pad64 (({ h with len := payload.length }).bytes ++ payload)

end Sys2Proof.Machine
end

