-- ==== Sys2Proof/Machine/Acq.lean ====
section
/-!
DEFINITION. Acquisition slots (spec/08_trigger_and_acquisition.md, R299 to R315) and the packets of stream queues that
producers offer (spec/13_coaches_and_streams.md, R468, R469, R310).
-/
namespace Sys2Proof.Machine

/-- Replaces an acquisition slot. -/
def State.setAcq (s : State) (n : Nat) (a : AcqSt) : State := { s with acq := tset (fun _ => {}) s.acq n a }

/-- States of Table 8-5. -/
def aIdle : Nat := 0
def aPrefill : Nat := 1
def aArmed : Nat := 2
def aPost : Nat := 3
def aRearm : Nat := 4
def aDone : Nat := 5
def aStopped : Nat := 6

/-- The state of a slot. -/
def State.acqState (s : State) (n : Nat) : Nat := s.f (R.ACQ_STATUS_STATE n)

/-- Sets the state of a slot. -/
def State.setAcqState (s : State) (n st : Nat) : State := s.setF (R.ACQ_STATUS_STATE n) st

/-- Bytes of a unit (Table 8-4). -/
def State.unitBytes (s : State) (n : Nat) : Nat := if s.f (R.ACQ_MODE_KIND n) == 0 then 2 else 4

/-- Segments of a slot; 0 acts as 1. -/
def State.segs (s : State) (n : Nat) : Nat := max 1 (s.f (R.ACQ_COUNTS_SEGS n))

/-- C, the units of a segment (R299). -/
def State.segUnits (s : State) (n : Nat) : Nat := s.f (R.ACQ_SIZE_LEN n) / (s.segs n * s.unitBytes n)

/-- The capture-memory address of a unit of the current acquisition (R299). -/
def State.unitAddr (s : State) (n unit : Nat) : Nat :=
  let c := s.segUnits n
  let place := if c == 0 then 0 else (unit - (s.acqN n).uArm) % c
  s.f (R.ACQ_BASE_ADDR n) + s.f (R.ACQ_STATUS_SEG n) * c * s.unitBytes n + place * s.unitBytes n

/-- POST, or none for a window that runs until STOP (R310). -/
def State.postOf (s : State) (n : Nat) : Option Nat :=
  if s.f (R.ACQ_POST_UNITS n) == 2 ^ 48 - 1 && s.flag (R.ACQ_MODE_STREAM n) then none else some (s.f (R.ACQ_POST_UNITS n))

/-- The unit at which writing ends, excluded, if a trigger fixes one. -/
def State.endUnit (s : State) (n : Nat) : Option Nat :=
  match (s.acqN n).trig, s.postOf n with
  | some t, some p => some (t.unit + p)
  | _, _ => none

/-- Whether the slot writes units. -/
def State.acqWrites (s : State) (n : Nat) : Bool :=
  let st := s.acqState n
  st == aPrefill || st == aArmed || st == aPost

/-! ## Arming (R300, Table 8-6) -/

/-- The P0 load of the pending slots with slot `n`, and of the enabled playbacks, as a fraction of one raw channel. -/
def State.p0Load (s : State) (n : Nat) : Nat × Nat :=
  let of := fun (i : Nat) =>
    let kind := s.f (R.ACQ_MODE_KIND i)
    if kind == 0 then [1] else if kind == 1 then [s.actD (s.f (R.ACQ_MODE_INDEX i))] else []
  let slots := ((List.range 64).filter (fun i => i != n && s.slotPending i)).flatMap of
  let outs := ((List.range 4).filter (fun d => s.flag (R.DAC_CTRL_EN d) && s.f (R.DAC_CTRL_SRC d) == 1)).map (fun _ => 1)
  recipSum (of n ++ slots ++ outs)

/-- R539 for a slot: its source, its records, its drain and its region. -/
def State.acqCrosses (s : State) (n : Nat) : Bool :=
  let me := s.blockSecure 0x61
  let kind := s.f (R.ACQ_MODE_KIND n)
  let idx := s.f (R.ACQ_MODE_INDEX n)
  let src := if kind == 1 then s.blockSecure (0x10 + idx) else s.blockSecure (0x02 + idx % 8)
  let num := s.f (R.ACQ_DRAIN_NUM n)
  let drain := if s.flag (R.ACQ_DRAIN_KIND n) then s.blockSecure (0xC0 + num % 32) else s.blockSecure (0x80 + num)
  (src && !me)
  || (me && s.flag (R.ACQ_MODE_ROUTE_EN n) && !s.blockSecure (0xC0 + s.f (R.ACQ_MODE_SQ n)))
  || (me && s.flag (R.ACQ_MODE_STREAM n) && !drain)
  || (me && s.rangeOpen 0 (s.f (R.ACQ_BASE_ADDR n)) (s.f (R.ACQ_SIZE_LEN n)))

/-- Whether the drain that ACQs_DRAIN names is enabled for slot data. -/
def State.drainOn (s : State) (n : Nat) : Bool :=
  let num := s.f (R.ACQ_DRAIN_NUM n)
  if s.flag (R.ACQ_DRAIN_KIND n) then decide (num < 32) && s.flag (R.SQ_CTRL_EN num) && s.f (R.SQ_CFG_SRC num) == 4
  else s.flag (R.CE_CTRL_EN num) && s.f (R.CE_CFG_KIND num) == 4

/-- The checks of Table 8-6 in order, after that of R539. -/
def State.armChecks (s : State) (n : Nat) : Nat :=
  let st := s.acqState n
  let kind := s.f (R.ACQ_MODE_KIND n)
  let idx := s.f (R.ACQ_MODE_INDEX n)
  let k := s.f (R.ACQ_MMK_K n)
  let base := s.f (R.ACQ_BASE_ADDR n)
  let size := s.f (R.ACQ_SIZE_LEN n)
  let stream := s.flag (R.ACQ_MODE_STREAM n)
  let idle := (st == aIdle || st == aDone || st == aStopped) && !(s.acqN n).starting && (s.acqN n).drain.isNone
  let ld := s.p0Load n
  if s.acqCrosses n then stBadWorld
  else if !idle then stRefusedBusy
  else if kind == 3 || (kind != 1 && 8 ≤ idx) || (kind == 2 && (k % 16 != 0 || k < 16 || 2 ^ 24 < k)) then stBadParam
  else if base % 256 != 0 || size == 0 || size % (256 * s.segs n) != 0 || 2 ^ 35 < base + size then stBadParam
  else if s.f (R.ACQ_MODE_REARM n) == 3 then stBadParam
  else if s.flag (R.ACQ_MODE_MASK_EN n) && kind != 2 then stBadParam
  else if stream && (s.f (R.ACQ_MODE_REARM n) != 0 || s.segs n != 1 || !s.drainOn n) then stBadParam
  else if !(if kind == 1 then s.fchOn idx else s.flag (R.ADC_CTRL_EN idx)) then stBadParam
  else if !stream && s.segUnits n < s.f (R.ACQ_PRE_UNITS n) + s.f (R.ACQ_POST_UNITS n) then stRefusedSize
  else if 24 * ld.2 < ld.1 then stRefusedCapacity
  else stOk

/-- A write of ACQs_CTRL.ARM = 1, from the host, the Trigger Port or a cluster arm (R300, R327, R344). -/
def State.acqArm (s : State) (n : Nat) : State :=
  let r := s.armChecks n
  let s1 := s.setF (R.ACQ_STATUS_RESULT n) r
  if r != stOk then s1
  else
    let a : AcqSt := { starting := true, dropped := (s.acqN n).dropped, missR := (s.acqN n).missR, missP := (s.acqN n).missP }
    (s1.setAcq n a).setF (R.ACQ_STATUS_SEG n) 0

/-- ARM for every slot set in a 64-bit mask. -/
def State.armSlots (s : State) (mask : Nat) : State := (setBits 64 mask).foldl State.acqArm s

/-- What a write of ACQs_CTRL does beyond its fields; both bits read 0. -/
def acqCtrlWritten (n v : Nat) (s : State) : State :=
  let s0 := (s.setB (R.ACQ_CTRL_ARM n) false).setB (R.ACQ_CTRL_STOP n) false
  let s1 := if bitOf v 1 then s0.setAcq n { s0.acqN n with stopReq := true } else s0
  if bitOf v 0 then s1.acqArm n else s1

/-- The first unit of the source whose samples all lie at or after a sample index; a chain's units begin with the index of its
output. -/
def State.firstUnit (s : State) (n idx : Nat) : Nat :=
  let kind := s.f (R.ACQ_MODE_KIND n)
  if kind == 0 then idx
  else if kind == 1 then
    let ch := s.f (R.ACQ_MODE_INDEX n)
    ceilDiv (max idx (s.fchN ch).nextE) (2 * s.actD ch)
  else ceilDiv idx (max 16 (s.f (R.ACQ_MMK_K n)))

/-- The slot starts a segment at its first unit, in PREFILL, or in ARMED when PRE = 0 (R300, R306). -/
def State.startSegment (s : State) (n unit : Nat) : State :=
  let a := s.acqN n
  let s1 := s.setAcq n { a with starting := false, uArm := unit, w := unit, trig := none, mmOn := false, marks := [], epochs := [], banks := [] }
  (s1.setF (R.ACQ_ARM_UNIT n) unit).setAcqState n (if s.f (R.ACQ_PRE_UNITS n) == 0 then aArmed else aPrefill)

/-- The alignment tick after an arm (R300). -/
def acqWriteStart (n : Nat) (s : State) : State :=
  if s.atTick && (s.acqN n).starting then s.startSegment n (s.firstUnit n s.clk.sampleIdx) else s

def execAcqWriteStart (n : Fin 64) (s : State) : Out := .next (acqWriteStart n s)

/-- PRE units are written (Table 8-5). -/
def prefillComplete (n : Nat) (s : State) : State :=
  let a := s.acqN n
  if s.acqState n == aPrefill && decide (a.uArm + s.f (R.ACQ_PRE_UNITS n) ≤ a.w) then s.setAcqState n aArmed else s

def execPrefillComplete (n : Fin 64) (s : State) : Out := .next (prefillComplete n s)

/-! ## Records (R312, R313, Table 8-7) -/

/-- A mask violation: point and side (0 upper, 1 lower). -/
abbrev Viol := Option (Nat × Nat)

/-- The start of the window as written and the record flags it brings (R304, R305). -/
def State.winStart (s : State) (n : Nat) (t : AcqTrig) : Nat × Nat :=
  let old := (s.acqN n).w - s.segUnits n
  if s.flag (R.ACQ_MODE_STREAM n) then (t.start, flagIf t.short fPRE_SHORT ||| flagIf t.lost fPRE_LOST)
  else (max t.start old, flagIf t.short fPRE_SHORT ||| flagIf (decide (t.start < old)) fPRE_LOST)

/-- The bank that a unit of a chain source came from, and the emit index of its output. -/
def State.unitBank (s : State) (n unit : Nat) : Option (AcqBank × Nat) :=
  ((s.acqN n).banks.find? (fun b => decide (b.first ≤ unit))).map (fun b => (b, 2 * b.d * (b.j0 + unit - b.first)))

/-- The data flags of units `lo` to `hi` of a slot, HOLDOVER by the first sample of their input span (R52, R116, R313). -/
def State.unitFlags (s : State) (n lo hi : Nat) : Nat :=
  if hi < lo then 0
  else
    let kind := s.f (R.ACQ_MODE_KIND n)
    let idx := s.f (R.ACQ_MODE_INDEX n)
    let k := s.f (R.ACQ_MMK_K n)
    let a := s.acqN n
    if kind == 0 then s.chanFlags idx lo hi ||| s.holdFlag lo
    else if kind == 2 then s.chanFlags idx (lo * k) (hi * k + k - 1) ||| s.holdFlag (lo * k)
    else
      let seen := a.epochs.filter (fun p => lo < p.1 && p.1 ≤ hi)
      let first := match s.unitBank n lo with
        | some b => b.2 + 23 - b.1.span
        | none => 0
      marksFlags a.marks lo hi ||| s.holdFlag first ||| flagIf (!seen.isEmpty) fEPOCH

/-- The chain epoch of a unit: that of the newest change at or below it. -/
def epochAt (es : List (Nat × Nat)) (unit : Nat) : Nat :=
  match es.find? (fun p => decide (p.1 ≤ unit)) with
  | some p => p.2
  | none => 0

/-- The slot emits the record of its window (R312, R313). -/
def State.acqRecord (s : State) (n : Nat) (t : AcqTrig) (stopped overrun : Bool) (viol : Viol) : State :=
  let a := s.acqN n
  let ws := s.winStart n t
  let start := ws.1
  let last := match s.endUnit n with
    | some e => min e a.w
    | none => a.w
  let pre := t.unit - start
  let post := last - t.unit
  let addr := s.unitAddr n start
  let vp := match viol with
    | some v => v.1 + 2 ^ 12 * v.2
    | none => 0
  let w28 := t.stamp % 256 + 2 ^ 8 * t.term + 2 ^ 16 * s.f (R.ACQ_STATUS_SEG n) + (if viol.isSome then 2 ^ 28 else 0)
    + (if stopped then 2 ^ 29 else 0) + 2 ^ 30 * s.f (R.ACQ_MODE_KIND n)
  let payload := leBytes 8 start ++ leBytes 8 addr ++ leBytes 8 (pre % 2 ^ 48) ++ leBytes 8 (post % 2 ^ 48) ++ leBytes 8 t.unit
    ++ leBytes 4 w28 ++ leBytes 4 vp ++ leBytes 4 (min a.missR (2 ^ 32 - 1)) ++ leBytes 4 (min a.missP (2 ^ 32 - 1)) ++ leBytes 8 0
  let flags := s.unitFlags n start (last - 1) ||| ws.2 ||| flagIf overrun fOVERRUN ||| flagIf a.dropped fDROPPED
  let ch := if s.f (R.ACQ_MODE_KIND n) == 1 then epochAt a.epochs (last - 1) else 0
  let h : RecHead := { magic := 0x4151, context := n, product := 1, seq := a.number, ptime := t.pt, index := t.stamp / 256, flags := flags, chEpoch := ch, cxEpoch := t.epoch, shed := a.missR + a.missP }
  let bytes := recordBytes h payload
  let s1 := s.setWordsAt (R.ACQ_LAST n 0).off 32 (leNat bytes)
  let s2 := s1.setAcq n { a with number := a.number + 1, missR := 0, missP := 0, dropped := false }
  if !s.flag (R.ACQ_MODE_ROUTE_EN n) then s2
  else
    let r := s2.sqRecord (s.f (R.ACQ_MODE_SQ n)) bytes t.pt flags false
    if r.2 then r.1
    else ((r.1.incSat (R.ACQ_DROP_COUNT n)).setB (R.ACQ_STATUS_DROPPED n) true).setAcq n { r.1.acqN n with dropped := true }

/-- Writing ends: the drain goes on to the last unit written (R311), and nothing joins the staged bursts. -/
def State.endWriting (s : State) (n : Nat) : State :=
  let a := s.acqN n
  let d := match a.drain with
    | some x => if a.w ≤ x.rd then none else some { x with stop := some a.w }
    | none => none
  (s.setAcq n { a with drain := d, mmOn := false, starting := false }).closeStage

/-- The newest bytes of capture memory, the write queue's entries over the stack's. -/
def State.peekSector (s : State) (sector : Nat) : List (BitVec 8) :=
  ((s.mcN (ctlOf sector)).wq.filter (fun e => e.sector == sector)).foldl (fun bs e => maskBytes e.mask e.data bs)
    (s.bytesAt 0 (64 * sector) 64)

/-- A unit of a min/max slot as it stands in capture memory: minimum and maximum. -/
def State.peekMinMax (s : State) (n unit : Nat) : Int × Int :=
  let a := s.unitAddr n unit
  let v := leAt (s.peekSector (a / 64)) (a % 64) 4
  (sext 16 (bitsOf v 0 16), sext 16 (bitsOf v 16 16))

/-- The first violated point of a window whose written units are `start` to `last` - 1 (R307, R308). -/
def State.maskTest (s : State) (n : Nat) (t : AcqTrig) (start last : Nat) : Viol :=
  let env := s.f (R.ACQ_MODE_ENV n)
  let first := (t.unit : Int) - s.f (R.ACQ_PRE_UNITS n)
  (List.range 4096).findSome? (fun (p : Nat) =>
    let u : Int := first + (p : Int)
    if u < start || (last : Int) ≤ u then none
    else
      let mm := s.peekMinMax n u.toNat
      if s.fi (R.ACQ_ENV_UPPER env p) < mm.2 then some (p, 0)
      else if mm.1 < s.fi (R.ACQ_ENV_LOWER env p) then some (p, 1) else none)

/-- A window ends: it is tested against its envelope, and its record leaves (R307, R308, R312). The second part says whether it was
violated. -/
def State.endWindow (s : State) (n : Nat) (t : AcqTrig) (stopped overrun : Bool) : State × Bool :=
  let last := match s.endUnit n with
    | some e => min e (s.acqN n).w
    | none => (s.acqN n).w
  let v : Viol := if s.flag (R.ACQ_MODE_MASK_EN n) then s.maskTest n t (s.winStart n t).1 last else none
  let s1 := if v.isSome then (s.setB (R.ACQ_STATUS_VIOL n) true).incSat (R.ACQ_VIOL_COUNT n) else s
  (s1.acqRecord n t stopped overrun v, v.isSome)

/-- A slot stops at an alignment tick or a fence, in whatever state it is (R314, R315). -/
def State.acqHalt (s : State) (n st : Nat) : State :=
  let s0 := s.setAcq n { s.acqN n with stopReq := false }
  let s1 := match s0.acqState n == aPost, (s0.acqN n).trig with
    | true, some t => (s0.endWindow n t true false).1
    | _, _ => s0
  (s1.endWriting n).setAcqState n st

/-- The stops that wait for the alignment tick (R314). -/
def State.acqStops (s : State) : State :=
  (List.range 64).foldl (fun (t : State) n => if (t.acqN n).stopReq then t.acqHalt n aIdle else t) s

/-- Block 0x61 or 0x63 enters FENCED (R315). -/
def State.acqFence (s : State) : State :=
  (List.range 64).foldl (fun (t : State) n =>
    if t.slotPending n then (t.acqHalt n aStopped).setF (R.ACQ_STATUS_RESULT n) stTargetReset else t) s

/-! ## Writing units -/

/-- STREAM: the next write would overwrite a unit that the drain has not read (R311). -/
def State.streamFull (s : State) (n : Nat) : Bool :=
  match (s.acqN n).drain with
  | some d => decide (d.freed + s.segUnits n ≤ (s.acqN n).w)
  | none => false

/-- The slot stops on an overrun (R311). -/
def State.streamOverrun (s : State) (n : Nat) : State :=
  let s1 := s.setB (R.ACQ_STATUS_OVERRUN n) true
  let s2 := match (s1.acqN n).trig with
    | some t => (s1.endWindow n t true true).1
    | none => s1
  (s2.endWriting n).setAcqState n aStopped

/-- The slot writes consecutive units from its write position, given as byte lists. -/
def State.writeUnits (s : State) (n : Nat) : List (List (BitVec 8)) → State
  | [] => s
  | u :: us =>
    let a := s.acqN n
    let done := match s.endUnit n with
      | some e => decide (e ≤ a.w)
      | none => false
    if !s.acqWrites n || (done && s.acqState n == aPost) then s
    else if s.streamFull n then s.streamOverrun n
    else
      let addr := s.unitAddr n a.w
      let s1 := if s.f (R.ACQ_MODE_KIND n) == 2 then (s.mcWrite 3 0x61 (s.blockSecure 0x61) addr u false).1 else s.captureWrite addr u
      State.writeUnits (s1.setAcq n { s1.acqN n with w := a.w + 1 }) n us

/-- Units that passed before the slot could write them are not written; u_arm is the first unit that is (R299). -/
def State.skipTo (s : State) (n unit : Nat) : State :=
  let a := s.acqN n
  if unit ≤ a.w then s
  else if a.w != a.uArm then s.setAcq n { a with w := unit }
  else (s.setAcq n { a with w := unit, uArm := unit }).setF (R.ACQ_ARM_UNIT n) unit

/-- Minimum and maximum of a block of samples. -/
def minMax : List Int → Int × Int
  | [] => (0, 0)
  | [y] => (y, y)
  | y :: ys => let r := minMax ys; (min y r.1, max y r.2)

/-- A min/max slot takes 16 samples; at the end of its interval the unit is written (Table 8-4). -/
def State.minMaxBlock (s : State) (n idx : Nat) (ys : List Int) : State :=
  let a := s.acqN n
  let k := max 16 (s.f (R.ACQ_MMK_K n))
  let m := minMax ys
  let first := idx % k == 0
  if !first && !a.mmOn then s
  else
    let lo := if first then m.1 else min a.mmMin m.1
    let hi := if first then m.2 else max a.mmMax m.2
    let s1 := s.setAcq n { a with mmOn := true, mmMin := lo, mmMax := hi }
    if (idx + 16) % k != 0 then s1
    else if idx / k < a.w then s1.setAcq n { s1.acqN n with mmOn := false }
    else ((s1.setAcq n { s1.acqN n with mmOn := false }).skipTo n (idx / k)).writeUnits n [leBytes 4 (wrapInt 16 lo + 2 ^ 16 * wrapInt 16 hi)]

/-- The slots on a raw channel take the 16 samples of a fabric cycle. -/
def State.feedRawSlots (s : State) (ch : Nat) : State :=
  let b := s.adcN ch
  (List.range 64).foldl (fun (t : State) n =>
    if !t.acqWrites n || t.f (R.ACQ_MODE_INDEX n) != ch then t
    else if t.f (R.ACQ_MODE_KIND n) == 0 then
      let t1 := t.skipTo n b.busIdx
      let w := (t1.acqN n).w
      if b.busIdx + 16 ≤ w then t1 else t1.writeUnits n ((b.bus.drop (w - b.busIdx)).map (fun y => leBytes 2 (wrapInt 16 y)))
    else if t.f (R.ACQ_MODE_KIND n) == 2 then t.minMaxBlock n b.busIdx b.bus
    else t) s

/-- The slots on a chain take its output word (R114). Within a segment the units are numbered on from the first through a hand-over that
changes D: a unit is one output word. -/
def State.feedChainSlots (s : State) (ch : Nat) (o : ChainOut) : State :=
  (List.range 64).foldl (fun (t : State) n =>
    let a := t.acqN n
    if !t.acqWrites n || t.f (R.ACQ_MODE_KIND n) != 1 || t.f (R.ACQ_MODE_INDEX n) != ch then t
    else
      let d := t.actD ch
      let g := t.chainDelay ch
      let same := match a.banks with
        | [] => false
        | b :: _ => b.d == d && b.g == g && decide (b.j0 ≤ o.j)
      let unit := match a.banks with
        | [] => o.j
        | b :: _ => if same then b.first + (o.j - b.j0) else a.w
      if unit < a.w then t
      else
        let es := match a.epochs with
          | [] => [(unit, o.epoch)]
          | e :: rest => if e.2 == o.epoch then e :: rest else (unit, o.epoch) :: e :: rest
        let t1 := t.setAcq n { a with epochs := es, banks := if same then a.banks else ⟨unit, o.j, d, g, t.actSpan ch⟩ :: a.banks, marks := if o.flags == 0 then a.marks else addMark ⟨unit, unit, o.flags⟩ a.marks }
        (t1.skipTo n unit).writeUnits n [leBytes 4 (wrapInt 16 o.i + 2 ^ 16 * wrapInt 16 o.q)]) s

/-! ## Taking a trigger (R302 to R304, R310) -/

/-- The number of the first unit of a bank, taken as running for ever, whose time is at or after a stamp (R282, R302). -/
def bankUnit (b : AcqBank) (stamp : Nat) : Nat := (b.first : Int) - b.j0 + ceilDiv (stamp * 256 + b.g) (2 * b.d * 65536) |>.toNat

/-- The first unit whose time is at or after a stamp, over banks, oldest first: a bank ends with the unit before the next one's first. -/
def banksUnit (stamp : Nat) : Nat → List AcqBank → Nat
  | _, [] => 0
  | lo, [b] => max lo (bankUnit b stamp)
  | lo, b :: c :: rest => let u := max lo (bankUnit b stamp); if u < c.first then u else banksUnit stamp c.first (c :: rest)

/-- The trigger unit of a stamp (R302). -/
def State.trigUnit (s : State) (n stamp : Nat) : Nat :=
  let kind := s.f (R.ACQ_MODE_KIND n)
  if kind == 0 then ceilDiv stamp 256
  else if kind == 1 then
    let ch := s.f (R.ACQ_MODE_INDEX n)
    match (s.acqN n).banks with
    | [] => bankUnit ⟨0, 0, s.actD ch, s.chainDelay ch, 0⟩ stamp
    | b :: bs => banksUnit stamp 0 (b :: bs).reverse
  else ceilDiv stamp (256 * max 16 (s.f (R.ACQ_MMK_K n)))

/-- A slot takes an output of its term. -/
def State.acqTrigger (s : State) (n term : Nat) (o : TermOut) : State :=
  let a := s.acqN n
  let st := s.acqState n
  let nt := s.trigUnit n o.stamp
  let pre := s.f (R.ACQ_PRE_UNITS n)
  if (st != aPrefill && st != aArmed) || nt < a.uArm then
    (s.setAcq n { a with missR := a.missR + 1 }).incSat (R.ACQ_MISSED_REARM n)
  else if nt < a.uArm + pre && s.flag (R.ACQ_MODE_PREFILL n) then
    (s.setAcq n { a with missP := a.missP + 1 }).incSat (R.ACQ_MISSED_PREFILL n)
  else
    let t : AcqTrig := { unit := nt, stamp := o.stamp, pt := s.stampTime o.stamp, start := max a.uArm (nt - pre), short := decide (nt < a.uArm + pre), epoch := o.epoch, term := term }
    let s1 := s.setAcq n { a with trig := some t }
    let s2 :=
      if !s.flag (R.ACQ_MODE_STREAM n) then s1
      else
        let old := a.w - s.segUnits n
        let t1 := { t with start := max t.start old, lost := decide (t.start < old) }
        s1.setAcq n { a with trig := some t1, drain := some { rd := t1.start, freed := t1.start } }
    s2.setAcqState n aPost

/-- A term's output reaches the slots (R302). -/
def State.feedTerm (s : State) (term : Nat) (o : TermOut) : State :=
  (List.range 64).foldl (fun (t : State) n => if t.f (R.ACQ_MODE_TERM n) == term then t.acqTrigger n term o else t) s

/-- The evaluation of a term's candidate: its output goes to the slots (R292, R302). Every event whose time to reach the combiner has
come has reached it. -/
def termEvaluate (t : Nat) (s : State) : State :=
  let r := s.arriveAll.evaluate t
  match r.2 with
  | some o => r.1.feedTerm t o
  | none => r.1

def execTermEvaluate (t : Fin 16) (s : State) : Out := .next (termEvaluate t s)

/-! ## Window completion and re-arm (R305 to R308) -/

/-- The window is written and released (R305 to R308, R312). -/
def windowComplete (n : Nat) (s : State) : State :=
  match (s.acqN n).trig, s.endUnit n with
  | some t, some e =>
    if s.acqState n != aPost || (s.acqN n).w < e then s
    else
      let w := s.endWindow n t false false
      let s2 := w.1.incSat (R.ACQ_DONE_COUNT n)
      let wins := (s2.acqN n).windows + 1
      let s3 := s2.setAcq n { s2.acqN n with windows := wins, rearmAt := s2.clk.sampleIdx + 258 * 16 }
      let rearm := s.f (R.ACQ_MODE_REARM n)
      let past := rearm == 0 || (rearm == 1 && decide (max 1 (s.f (R.ACQ_COUNTS_AUTO_N n)) ≤ wins))
      if w.2 && s.flag (R.ACQ_MODE_MASK_STOP n) then (s3.endWriting n).setAcqState n aStopped
      else if past then (s3.endWriting n).setAcqState n aDone
      else (s3.closeStage).setAcqState n aRearm
  | _, _ => s

def execWindowComplete (n : Fin 64) (s : State) : Out := .next (windowComplete n s)

/-- 258 fc after completion: the next segment (R306). -/
def rearmDone (n : Nat) (s : State) : State :=
  if s.acqState n != aRearm then s
  else
    let s1 := s.setF (R.ACQ_STATUS_SEG n) ((s.f (R.ACQ_STATUS_SEG n) + 1) % s.segs n)
    s1.startSegment n (s1.firstUnit n (max (s.acqN n).rearmAt s.clk.sampleIdx))

def execRearmDone (n : Fin 64) (s : State) : Out := .next (rearmDone n s)

/-! ## Draining a STREAM slot (R310, R311) -/

/-- The next burst of a drain: its first unit and how many units it reads, at most `maxBytes` and not past the end of
the segment. -/
def State.drainBurst (s : State) (n maxBytes : Nat) : Option (Nat × Nat) :=
  match (s.acqN n).drain with
  | none => none
  | some d =>
    let upto := match d.stop with
      | some e => e
      | none => (s.acqN n).w
    let c := s.segUnits n
    let place := if c == 0 then 0 else (d.rd - (s.acqN n).uArm) % c
    let k := min (min (upto - d.rd) (maxBytes / s.unitBytes n)) (c - place)
    if k == 0 then none else some (d.rd, k)

/-- The drain has read `k` units, whose places stay held. -/
def State.drainAdvance (s : State) (n k : Nat) : State :=
  let a := s.acqN n
  s.setAcq n { a with drain := a.drain.map (fun d => { d with rd := d.rd + k }) }

/-- The places of the units read so far are free; after the last unit written the drain ends. -/
def State.drainFree (s : State) (n : Nat) : State :=
  let a := s.acqN n
  match a.drain with
  | none => s
  | some d =>
    let ended := match d.stop with
      | some e => decide (e ≤ d.rd)
      | none => false
    s.setAcq n { a with drain := if ended then none else some { d with freed := d.rd } }

/-- Whether the drain has read the last unit that was written. -/
def State.drainAtEnd (s : State) (n : Nat) : Bool :=
  match (s.acqN n).drain with
  | some d => (match d.stop with
    | some e => decide (e ≤ d.rd)
    | none => false)
  | none => true

/-- The slot that names a queue as its drain and has units to read. -/
def State.slotOfQueue (s : State) (q : Nat) : Option Nat :=
  (List.range 64).find? (fun n => s.flag (R.ACQ_MODE_STREAM n) && s.flag (R.ACQ_DRAIN_KIND n) && s.f (R.ACQ_DRAIN_NUM n) == q
    && (s.drainBurst n 2048).isSome)

/-- The PTIME of a unit of a slot. -/
def State.unitTime (s : State) (n unit : Nat) : Nat :=
  let kind := s.f (R.ACQ_MODE_KIND n)
  if kind == 0 then s.stampTime (256 * unit)
  else if kind == 1 then
    match s.unitBank n unit with
    | some b => s.stampTime (((b.2 : Int) * 65536 - b.1.g) / 256).toNat
    | none => s.now
  else s.stampTime (256 * unit * s.f (R.ACQ_MMK_K n))

/-- A STREAM slot's next packet of at most one burst of 2 KiB enters its queue; without room P3 waits (Table 13-4). -/
def State.slotPacket (s : State) (q : Nat) : State :=
  match s.slotOfQueue q with
  | none => s
  | some n =>
    match s.drainBurst n 2048 with
    | none => s
    | some (u, k) =>
      let len := k * s.unitBytes n
      let p : SqPkt := { kind := 4, index := u, body := List.replicate len 0, time := s.unitTime n u, flags := s.unitFlags n u (u + k - 1) }
      if !s.sqRoom q 4 p || !s.flag (R.SQ_STATUS_RUNNING q) then s
      else if s.mcHeld then s.memWake
      else
        let r := s.mcRead 3 0x61 (s.blockSecure 0x61) (s.unitAddr n u) len []
        if !r.ok then r.st
        else (((r.st.sqWrite q 4 { p with body := r.bytes, poison := r.poison.any id }).1).drainAdvance n k).drainFree n

/-- A producer of Table 13-4 offers a packet to a queue (R468, R469): a STREAM slot its next units, the others a body. -/
def sqPacketWrite (q producer : Nat) (poison : Bool) (index : Nat) (body : List (BitVec 8)) (s : State) : State :=
  if producer == 4 then s.slotPacket q
  else (s.sqWrite q producer { kind := producer, poison := poison, index := index, body := body, time := s.now }).1

def execSqPacketWrite (q : Fin 32) (producer : Fin 5) (poison : Bool) (index : BitVec 64) (body : List (BitVec 8)) (s : State) : Out :=
  .next (sqPacketWrite q producer poison index.toNat body s)

end Sys2Proof.Machine
end

