-- ==== Sys2Proof/Machine/TrigPort.lean ====
section
/-!
DEFINITION. The Trigger Port (spec/09_trigger_port_and_cluster.md, R316 to R328): the answer table, the primitive word
and the commands on TPC.
-/
namespace Sys2Proof.Machine

/-- A 16-bit answer half. -/
def half (t : Tbl Nat) (e : Nat) : Nat := tget (fun _ => 0) t e

/-- Whether the select bit of an entry names half 1. -/
def State.ansSel (s : State) (e : Nat) : Bool := tget (fun _ => false) s.tp.sel e

/-- The selected half of an entry (R319). -/
def State.ansValue (s : State) (e : Nat) : Nat := if s.ansSel e then half s.tp.half1 e else half s.tp.half0 e

/-- TPA follows EN, TPV, TPQ and the selected half (R317, R321), unless its pads are held (R511). -/
def State.syncTpa (s : State) : State :=
  if s.flag (R.PWR_PADHOLD_GROUPS.bit 2) then s
  else { s with tp := { s.tp with tpa := if s.flag R.TP_CTRL_EN && s.tp.tpv then s.ansValue s.tp.tpq else 0 } }

/-- TPP takes a word, unless its pads are held. -/
def State.setTpp (s : State) (w : Nat) : State :=
  if s.flag (R.PWR_PADHOLD_GROUPS.bit 2) then s else { s with tp := { s.tp with tpp := w } }

/-- A write of TP_CTRL: with EN = 0 TPA and TPP drive 0 (R317). -/
def tpCtrlWritten (s : State) : State := if s.flag R.TP_CTRL_EN then s.syncTpa else s.syncTpa.setTpp 0

/-- TPV and TPQ take new levels (R321). -/
def tpQuery (v : Bool) (q : Nat) (s : State) : State :=
  ({ s with tp := { s.tp with tpv := v, tpq := q } } : State).syncTpa

def execTpQuery (v : Bool) (q : Fin 64) (s : State) : Out := .next (tpQuery v q s)

/-- The select bit of an entry changes (R319). -/
def State.ansSelect (s : State) (e : Nat) : State :=
  let sel := tset (fun _ => false) s.tp.sel e (!s.ansSel e)
  let s1 := { s with tp := { s.tp with sel := sel, fresh := tset (fun _ => 0) s.tp.fresh e 0 } }
  let s2 := (s1.setF (R.TP_ANS_VAL_VALUE e) (s1.ansValue e)).addWrap (R.TP_ANS_VAL_SEQ e) 1
  s2.syncTpa

/-- When an update of a source reaches the table, in fc: a publish 8 fc after BDONE, a detector result 2 fc after it is formed (R320). -/
def ansDelay (src : Nat) : Nat := if src == 0 then 8 else if src == 1 then 2 else 0

/-- While CLK_OK is 0, an update that has reached the table by the end of the present control cycle is selected (R319). -/
def State.ansFree (s : State) (e : Nat) : State :=
  let f := tget (fun _ => 0) s.tp.fresh e
  if f != 0 && !s.flag R.TP_STATUS_CLK_OK && decide (f ≤ s.clk.elapsed + s.increment) then s.ansSelect e else s

/-- The updates that a control cycle selects without TPCLK. -/
def State.ansTick (s : State) : State :=
  if s.tp.fresh.isEmpty then s else (List.range 64).foldl State.ansFree s

/-- An update of an entry from a source: 0 a publish, 1 a detector result, 2 the host (R318 to R320). -/
def answerUpdate (e src value : Nat) (s : State) : State :=
  if min 2 (s.f (R.TP_ANS_CFG_SRC e)) != src then
    let s1 := (s.incSat R.TP_ANS_DROPS).setB R.TP_STATUS_ANS_DROP true
    if src == 2 then s1.setB R.TP_STATUS_ANS_WR_DROP true else s1
  else
    let s1 := if tget (fun _ => 0) s.tp.fresh e != 0 then s.incSat R.TP_ANS_OVERWR else s
    let fr := tset (fun _ => 0) s1.tp.fresh e (s1.clk.elapsed + s1.fcTime (ansDelay src) + 1)
    let s2 : State :=
      if s1.ansSel e then { s1 with tp := { s1.tp with half0 := tset (fun _ => 0) s1.tp.half0 e value, fresh := fr } }
      else { s1 with tp := { s1.tp with half1 := tset (fun _ => 0) s1.tp.half1 e value, fresh := fr } }
    s2.ansFree e

def execAnswerUpdate (e : Fin 64) (src : Fin 3) (value : BitVec 16) (s : State) : Out :=
  .next (answerUpdate e src value.toNat s)

/-- A detector result reaches the entries that name it (R318). -/
def State.feedAnswers (s : State) (n : Nat) (d : DetRes) : State :=
  (List.range 64).foldl (fun (t : State) e =>
    if t.f (R.TP_ANS_CFG_SRC e) == 1 && t.f (R.TP_ANS_CFG_CHAIN e) == n && t.f (R.TP_ANS_CFG_DSEL e) == d.det
    then answerUpdate e 1 (min d.value 65535) t else t) s

/-- Whether the port samples TPC (R317). -/
def State.tpLive (s : State) : Bool := s.flag R.TP_CTRL_EN && s.flag R.TP_STATUS_CLK_OK

/-- A rising TPCLK edge selects the updates that have waited 4 fc and launches the primitive word (R319, R320, R324). -/
def tpclkEdge (k : Nat) (s : State) : State :=
  let at_ := s.clk.elapsed + k * s.increment / 160
  let ripe := fun (u : State) (e : Nat) =>
    let f := tget (fun _ => 0) u.tp.fresh e
    f != 0 && decide (f - 1 + u.fcTime 4 ≤ at_)
  let s1 := (List.range 64).foldl (fun (u : State) e => if ripe u e then u.ansSelect e else u) s
  let go := (s1.trg.prims.filter (fun p => decide (p.2 ≤ at_))).map (fun p => p.1)
  let s2 : State := { s1 with trg := { s1.trg with prims := s1.trg.prims.filter (fun p => !decide (p.2 ≤ at_)) }, tp := { s1.tp with edgeAt := at_ } }
  if !s2.tpLive then s2.setTpp 0
  else
    let word := (List.range 16).foldl (fun w b => if go.contains (s2.f (R.TP_PSEL_SEL b)) then w + 2 ^ b else w) 0
    let picked := (List.range 48).filter (fun x => go.contains x && (List.range 16).any (fun b => s2.f (R.TP_PSEL_SEL b) == x))
    let extra := picked.foldl (fun n x => n + (go.count x - 1)) 0
    let s3 := if extra == 0 then s2 else (s2.addSat R.TP_PRIM_MERGED extra).setB R.TP_STATUS_PRIM_MERGE true
    s3.setTpp word

def execTpclkEdge (k : Fin 160) (s : State) : Out := .next (tpclkEdge k s)

/-- No TPCLK edge for 1 µs (R316, R317). -/
def tpclkLoss (s : State) : State :=
  if s.clk.elapsed < s.tp.edgeAt + 1000 * nsUnit then s else (s.setB R.TP_STATUS_CLK_OK false).setTpp 0

def execTpclkLoss (s : State) : Out := .next (tpclkLoss s)

/-- The measured TPCLK frequency (R316). -/
def tpclkMeasurement (hz : Nat) (s : State) : State :=
  let ok := decide (10000000 ≤ hz) && decide (hz ≤ 100000000)
  let s1 := (s.setF R.TP_CLK_HZ_HZ hz).setB R.TP_STATUS_CLK_OK ok
  if ok then s1 else s1.setTpp 0

def execTpclkMeasurement (hz : BitVec 27) (s : State) : Out := .next (tpclkMeasurement hz.toNat s)

/-! ## Commands (R325 to R328) -/

/-- A decision record at T_c − TP_DEC_LAT (R326); it goes to a queue under R269. -/
def State.decision (s : State) (product pt : Nat) : State :=
  let lost := if product == 1 then s.tp.lostA else s.tp.lostR
  let s1 := { s with tp := { s.tp with decisions := (s.tp.decisions + 1) % 2 ^ 32 } }
  if !s1.flag R.TP_REC_ROUTE_EN then s1
  else
    let fl := flagIf lost fDROPPED
    let h : RecHead := { magic := 0x5450, context := 0xFFF, product := product, seq := s1.tp.decisions, ptime := pt, index := s1.timeStamp pt / 256, flags := fl }
    let r := s1.sqRecord (s1.f R.TP_REC_SQ) (recordBytes h []) pt fl false
    if product == 1 then { r.1 with tp := { r.1.tp with lostA := !r.2 } } else { r.1 with tp := { r.1.tp with lostR := !r.2 } }

/-- The time of a decision: that of the edge less TP_DEC_LAT. -/
def State.decTime (s : State) (k : Nat) : Nat := (s.timeIn k + ptimeSpan - s.f R.TP_DEC_LAT_NS * nsUnit) % ptimeSpan

/-- ACCEPT (R326). -/
def tpAccept (k : Nat) (s : State) : State :=
  if !s.tpLive then s
  else
    let pt := s.decTime k
    let s1 := (s.incSat R.TP_ACCEPTS).decision 1 pt
    if s1.flag R.TP_CTRL_ACC_FIRE then s1.originate 32 pt else s1

def execAccept (k : Fin 160) (s : State) : Out := .next (tpAccept k s)

/-- REJECT (R326). -/
def tpReject (k : Nat) (s : State) : State := if !s.tpLive then s else (s.incSat R.TP_REJECTS).decision 2 (s.decTime k)

def execReject (k : Fin 160) (s : State) : Out := .next (tpReject k s)

/-- ARM: it acts at the next alignment tick (R327). -/
def tpArm (k : Nat) (s : State) : State :=
  if !s.tpLive then s
  else
    let s1 := s.incSat R.TP_ARMS
    { s1 with tp := { s1.tp with armPend := some (s1.timeIn k) } }

def execTpArm (k : Fin 160) (s : State) : Out := .next (tpArm k s)

/-- MARK: an event for every enabled unit of kind 8 (R328). -/
def tpMark (k : Nat) (s : State) : State :=
  if !s.tpLive then s
  else (s.incSat R.TP_MARKS).unitEvents (fun t u => t.unitIs u 8) (256 * s.clk.sampleIdx + 128 * k)

def execMark (k : Fin 160) (s : State) : Out := .next (tpMark k s)

/-- A reserved code (Table 9-4); the codes below 5 are no reserved ones. -/
def tpReserved (code : Nat) (s : State) : State :=
  if !s.tpLive || code < 5 then s else (s.incSat R.TP_BAD_CMDS).setB R.TP_STATUS_BAD_CMD true

def execTpReservedCommand (code : Fin 16) (s : State) : Out := .next (tpReserved code s)

end Sys2Proof.Machine
end

