-- ==== Sys2Proof/Machine/Cluster.lean ====
section
/-!
DEFINITION. The cluster (spec/09_trigger_port_and_cluster.md, R329 to R349): training, time over the link, arming,
FIRE carriages, packets from and to other devices, acknowledgements. The configuration switch stands in Switch.lean.
-/
namespace Sys2Proof.Machine

/-- States of CL_LINKk_STATUS.STATE. -/
def lkDown : Nat := 0
def lkTraining : Nat := 1
def lkRunning : Nat := 2
def lkFault : Nat := 3

/-- The fail codes of Table 9-8 and of R334, R336. -/
def lfPmd : Nat := 0x01
def lfCwLock : Nat := 0x02
def lfRole : Nat := 0x03
def lfSpread : Nat := 0x04
def lfNoack : Nat := 0x05
def lfLos : Nat := 0x06

/-- UP_OK shows whether the parent link runs. -/
def State.syncUp (s : State) : State := s.setB R.CL_STATUS_UP_OK (s.isParent s.upLane && s.linkUp s.upLane)

/-- A link enters FAULT with a code, which the error log records (Table 17-7). -/
def State.linkFault (s : State) (k code : Nat) : State :=
  let s1 := ((s.setF (R.CL_LINK_STATUS_STATE k) lkFault).setF (R.CL_LINK_STATUS_FAIL k) code).errLog 0x0B 1 (0x67 + k / 4) code [k, code]
  ((s1.setLink k { s1.linkN k with faultAt := s1.clk.elapsed }).setB (R.CL_LINK_CTRL_TRAIN k) false).syncUp

/-- A lane that a worker leaves in FAULT with code ROLE: every lane of CL_LANES but its parent's (R329). -/
def State.barredLane (s : State) (k : Nat) : Bool := s.isLink k && s.role == roleWorker && k != s.upLane

/-- Training starts (R336, R338): the quad is fenced, and the control carriages that wait complete TARGET_RESET. DESIGN CHOICE (log entry
134): numbers, credit and whatever waits for a slot start anew; the carriage numbers of a packet under way go on, so that one of which
carriages were lost is discarded (R335). A worker's other lanes do not train (R329). -/
def State.linkStart (s : State) (k : Nat) : State :=
  if !s.isLink k then s.setB (R.CL_LINK_CTRL_TRAIN k) false
  else if s.barredLane k then
    if s.f (R.CL_LINK_STATUS_STATE k) == lkFault then s.setB (R.CL_LINK_CTRL_TRAIN k) false else s.linkFault k lfRole
  else
    let l := s.linkN k
    let fires := (l.unacked ++ l.waiting).countP (fun c => c.type_ == cFIRE)
    let s1 := (s.addSat R.CL_FIRES_DROPPED fires).setLink k { faultAt := l.faultAt, path := 0, asm := l.asm, outNum := l.outNum }
    let s2 := (s1.setF (R.CL_LINK_STATUS_STATE k) lkTraining).setB (R.CL_LINK_CTRL_TRAIN k) true
    let s3 := if s2.isRunning (0x67 + k / 4) then s2.fenceEnter (0x67 + k / 4) .fenced else s2
    s3.syncUp

/-- Whether another link of the quad trains. -/
def State.quadTrains (s : State) (k : Nat) : Bool :=
  (List.range 16).any (fun j => j != k && j / 4 == k / 4 && s.f (R.CL_LINK_STATUS_STATE j) == lkTraining)

/-- Whether a peer's role fits (R329). -/
def State.roleFits (s : State) (k peer : Nat) : Bool :=
  if s.role == roleTop then peer == roleSub || peer == roleWorker
  else if s.role == roleSub then if k == s.upLane then peer == roleTop else peer == roleWorker
  else s.role == roleWorker && k == s.upLane && (peer == roleTop || peer == roleSub)

/-- Training ends with what its steps found (R330, R336, R337). -/
def State.linkEnd (s : State) (k : Nat) (r : TrainResult) : State :=
  let s0 := if s.quadTrains k || s.blk (0x67 + k / 4) != .fenced then s else s.fenceLeave (0x67 + k / 4)
  let fail :=
    if r.failStep == 1 then lfPmd
    else if r.failStep == 2 then lfCwLock
    else if r.failStep == 3 || !s.roleFits k r.peerRole then lfRole
    else if r.failStep == 4 || 100 < r.spread then lfSpread
    else 0
  let meas := if fail == 0 || fail == lfSpread then s0.setF (R.CL_LINK_SPREAD_PS k) (min r.spread 65535) else s0
  let s1 := meas.setB (R.CL_LINK_CTRL_TRAIN k) false
  if fail != 0 then s1.linkFault k fail
  else
    let child := s1.isChild k
    let own := if child then s1.f R.CL_STATUS_DEV
      else if r.peerRole == roleTop then 256 * (r.peerLane + 1) else r.peerDev.toNat + r.peerLane + 1
    let peer := if child then (if s1.role == roleTop then 256 * (k + 1) else own + k + 1) else r.peerDev.toNat
    let d := if child then wrapInt 32 (r.delay + roundDiv (s1.fi (R.CL_LINK_ASYM k) * 65536) 1000) else wrapInt 32 r.delay
    let s2 := ((s1.setF (R.CL_LINK_DELAY k) d).setF (R.CL_LINK_STATUS_PEER k) peer).setF R.CL_STATUS_DEV own
    ((s2.setF (R.CL_LINK_STATUS_STATE k) lkRunning).setLink k { s2.linkN k with cwStart := s2.clk.elapsed, cwNum := 0 }).syncUp

/-- A link trains (R336). -/
def linkTrain (k : Nat) (r : TrainResult) (s : State) : State :=
  if !s.isLink k || s.barredLane k then s
  else
    let s1 := if s.f (R.CL_LINK_STATUS_STATE k) == lkTraining then s else s.linkStart k
    s1.linkEnd k r

def execLinkTrain (k : Fin 16) (r : TrainResult) (s : State) : Out := .next (linkTrain k r s)

/-- Codeword lock is lost while RUNNING (R336). -/
def linkLos (k : Nat) (s : State) : State := if s.linkUp k then s.linkFault k lfLos else s

def execLinkLos (k : Fin 16) (s : State) : Out := .next (linkLos k s)

/-- 1 ms in FAULT with AUTO = 1 (R336). -/
def linkAutoRetrain (k : Nat) (s : State) : State :=
  if s.f (R.CL_LINK_STATUS_STATE k) == lkFault && s.flag (R.CL_LINK_CTRL_AUTO k)
    && decide ((s.linkN k).faultAt + 1000000 * nsUnit ≤ s.clk.elapsed)
  then s.linkStart k else s

def execLinkAutoRetrain (k : Fin 16) (s : State) : Out := .next (linkAutoRetrain k s)

/-- A write of CL_LINKk_CTRL: TRAIN starts training (R336). -/
def linkCtrlWritten (k v : Nat) (s : State) : State := if bitOf v 4 then s.linkStart k else s

/-- A write of CL_CTRL or CL_LANES: the links come up or down with their lanes and the role, and a top manager has device number 0
(R329, R330, R336). -/
def clLanesWritten (s : State) : State :=
  let s0 := if s.role == roleTop then s.setF R.CL_STATUS_DEV 0 else s
  (List.range 16).foldl (fun (t : State) k =>
    if !t.isLink k then
      if t.f (R.CL_LINK_STATUS_STATE k) == lkDown then t
      else (((t.setF (R.CL_LINK_STATUS_STATE k) lkDown).setB (R.CL_LINK_CTRL_TRAIN k) false).setLink k {}).syncUp
    else if t.f (R.CL_LINK_STATUS_STATE k) != lkDown then t
    else t.linkStart k) s0

/-! ## Time over the link (R333, R339 to R341) -/

/-- A TIME carriage of the parent arrives at PTIME `trx`. -/
def timeCarriage (k : Nat) (c : Carriage) (trx : Nat) (s : State) : State :=
  let r := s.carriageOk k c cTIME
  if !r.2 || !r.1.isParent k then r.1
  else
    let p := c.payload.toNat
    let s1 := (r.1.setB R.CL_STATUS_UP_HOLDOVER (bitOf p 128)).setF R.CL_PATH (bitsOf p 160 32 + r.1.hopNs k)
    let s2 := s1.setLink k { s1.linkN k with timeTrack := bitOf p 129 }
    let s3 := s2.syncHoldover
    if s3.clk.mode != 1 then s3
    else
      let e : Int := ((trx : Int) - payPtime p) / 2 ^ 32 - s3.f (R.CL_LINK_DELAY k)
      { s3 with clk := { s3.clk with refEdges := s3.clk.refEdges + 1, refErr := e, refSum := s3.clk.refSum + e } }

def execTimeCarriage (k : Fin 16) (c : Carriage) (trx : BitVec 128) (s : State) : Out :=
  .next (timeCarriage k c (ptOf128 trx.toNat) s)

/-- The TIME carriage that leaves a link at a PTIME (Table 9-7). -/
def State.timeCar (s : State) (pt : Nat) : CtlCarriage :=
  let path := if s.role == roleTop then 0 else s.f R.CL_PATH
  let pay := pt128 pt + (if s.flag R.TB_STATE_HOLDOVER then 2 ^ 128 else 0)
    + (if s.f R.TB_STATE_STATE == tbTrack then 2 ^ 129 else 0) + 2 ^ 160 * path
  { seq := 0, type_ := cTIME, flags := 0, payload := pay }

/-- A link sends the codeword that begins in the present control cycle, if one does (R331, R333): slot 0 of every 21st is a TIME carriage, whose TX_PTIME is that of the codeword's start and its 20-bit header. -/
def State.sendCodeword (s : State) (k : Nat) : State :=
  let n := s.cwNext k
  let l0 := s.linkN k
  let at_ := l0.cwStart + s.bitTime k (5440 * n)
  if s.clk.elapsed + s.increment ≤ at_ then s
  else
    let timed := n % 21 == 0
    let l := { l0 with cwNum := n + 1 }
    let r := l.slots s.clk.elapsed (if timed then 19 else 20)
    let cars := if timed then s.timeCar (s.now + (at_ - s.clk.elapsed) + s.bitTime k 20) :: r.2 else r.2
    (s.setLink k r.1).emit (.codeword k (Config.cwHeader k n) (cars.map carriageBits))

/-- Every link that runs sends its codewords. -/
def State.sendTimes (s : State) : State :=
  ((List.range 16).filter (fun k => s.isLink k && s.linkUp k)).foldl State.sendCodeword s

/-! ## Arms (R342 to R344) -/

/-- An arm takes effect at its ACT_PTIME (R344). -/
def State.armAct (s : State) (a : ArmSt) : State :=
  if a.disarm then s.setB R.CL_STATUS_ARMED false
  else
    let s1 := (s.setB R.CL_STATUS_ARMED true).setF R.CL_ARM_ID a.id
    let s2 := { s1 with cl := { s1.cl with inForce := some a, fires := 0 } }
    s2.armSlots (s2.f R.CL_ARM_SLOTS)

/-- Arms that have taken effect and are settled leave the list. -/
def State.pruneArms (s : State) : State :=
  { s with cl := { s.cl with arms := s.cl.arms.filter (fun a => a.due || !a.acked) } }

/-- Every arm whose ACT_PTIME has come takes effect, oldest first. -/
def State.actArms (s : State) : Nat → State
  | 0 => s
  | n + 1 =>
    match s.cl.arms.find? (fun a => a.due && decide (a.act ≤ s.now)) with
    | none => s.pruneArms
    | some a =>
      let upd := s.cl.arms.map (fun x => if x = a then { x with due := false } else x)
      State.actArms (({ s with cl := { s.cl with arms := upd } } : State).armAct a) n

/-- PTIME reaches ACT_PTIME of an arm. -/
def armActivate (s : State) : State := s.actArms (s.cl.arms.length + 1)

def execArmActivate (s : State) : Out := .next (armActivate s)

/-- The largest PATH_NS that the children have reported, or the device's own. -/
def State.maxPath (s : State) : Nat :=
  s.children.foldl (fun m k => max m (s.linkN k).path) (if s.role == roleTop then 0 else s.f R.CL_PATH)

/-- Whether every child has acknowledged an arm. -/
def State.armAcked (s : State) (a : ArmSt) : Bool := s.children.all (fun k => a.acks.contains k)

/-- An arm that all children have acknowledged: a sub-manager tells its parent, the top manager completes the command, OK before
ACT_PTIME and TIMEOUT from then on (R342, R343). -/
def State.settleArm (s : State) (a : ArmSt) : State :=
  if a.acked || !s.armAcked a then s
  else
    let upd := s.cl.arms.map (fun x => if x = a then { x with acked := true } else x)
    let s1 := ({ s with cl := { s.cl with arms := upd } } : State).pruneArms
    if s.role == roleTop || s.role == roleStandalone then
      let s2 := if s.role == roleTop then s1.setF R.CL_HZ_MIN (2 * s1.maxPath) else s1
      s2.finishDefs 0x60 a.id (if s.now < a.act then stOk else stTimeout) (a.id + 2 ^ 32 * a.acks.length)
    else s1.sendAck s1.upLane a.seq cARM stOk 0 s1.maxPath

/-- Settles whatever arms are acknowledged. -/
def State.settleArms (s : State) : State := s.cl.arms.foldl State.settleArm s

/-- An ARM carriage of the parent (R334, R343, R344). -/
def armCarriage (k : Nat) (c : Carriage) (s : State) : State :=
  let r := s.carriageOk k c cARM
  if !r.2 || !r.1.isParent k then r.1
  else
    match r.1.ctlTake k c with
    | .drop => r.1
    | .again =>
      if r.1.cl.arms.any (fun a => a.seq == c.seq.toNat && !a.acked) then r.1
      else r.1.sendAck k c.seq.toNat cARM stOk 0 r.1.maxPath
    | .act =>
      let p := c.payload.toNat
      let a : ArmSt := { act := payPtime p, id := bitsOf p 128 32, firesMax := bitsOf p 160 16, disarm := bitOf p 176, seq := c.seq.toNat }
      let s1 := r.1.ctlNext k
      let s2 := ({ s1 with cl := { s1.cl with arms := s1.cl.arms ++ [a] } } : State).broadcast cARM 0 p
      armActivate s2.settleArms

def execArmCarriage (k : Fin 16) (c : Carriage) (s : State) : Out := .next (armCarriage k c s)

/-- The checks of a cluster arm that is asked for at a PTIME (R342). -/
def State.armCheck (s : State) (from_ act_ : Nat) : Nat :=
  if s.role != roleTop && s.role != roleStandalone then stBadParam
  else if act_ < from_ + s.horizon then stBadParam
  else if s.children.any (fun k => !s.linkUp k) then stRefusedBusy
  else stOk

/-- A cluster arm goes out with a new ARM_ID. -/
def State.startArm (s : State) (act_ firesMax : Nat) (disarm : Bool) : State :=
  let id := (s.cl.armId + 1) % 2 ^ 32
  let a : ArmSt := { act := act_, id := id, firesMax := firesMax, disarm := disarm }
  let s1 := { s with cl := { s.cl with armId := id, arms := s.cl.arms ++ [a] } }
  s1.broadcast cARM 0 (armPayload act_ id firesMax disarm)

/-- CL_ARM at its start: without children it completes at once. -/
def clArmStart (act_ firesMax : Nat) (disarm : Bool) (s : State) : CmdRes :=
  let r := s.armCheck s.now act_
  if r != stOk then resDone s r
  else
    let s1 := s.startArm act_ firesMax disarm
    if s.children.isEmpty then resDone s1.settleArms stOk s1.cl.armId
    else { st := s1, kind := 1, target := s1.cl.armId }

def execClArm (k : Fin 16) (f : Fetch) (s : State) : Out :=
  let p := f.entry.param
  .next (s.startCmd k f 0x60 false false [2 ^ 64 - 1, 2 ^ 64 - 1, 0x1FFFF]
    (clArmStart (ptOf128 (p 0 + 2 ^ 64 * p 1)) (bitsOf (p 2) 0 16) (bitOf (p 2) 16)))

/-- ACT_PTIME arrives without all acknowledgements (R342): the command completes TIMEOUT and the arm stands. -/
def clArmTimeout (s : State) : State :=
  let late := s.cl.arms.filter (fun a => !a.acked && decide (a.act ≤ s.now))
  let s1 := late.foldl (fun (t : State) a => t.finishDefs 0x60 a.id stTimeout (a.id + 2 ^ 32 * a.acks.length)) s
  let upd := s1.cl.arms.map (fun a => if late.contains a then { a with acked := true } else a)
  if s.role == roleTop || s.role == roleStandalone then armActivate { s1 with cl := { s1.cl with arms := upd } } else s

def execClArmTimeout (s : State) : Out := .next (clArmTimeout s)

/-- ARM of the Trigger Port at its alignment tick (R327); its cluster arm is checked at T_c. -/
def State.tpArmTick (s : State) : State :=
  match s.tp.armPend with
  | none => s
  | some tc =>
    let s1 := ({ s with tp := { s.tp with armPend := none } } : State).armSlots (s.f R.TP_ARM_SLOTS)
    let at_ := (tc + s1.horizon) % ptimeSpan
    if s1.flag R.TP_CTRL_ARM_CL && s1.role == roleTop && s1.armCheck tc (tc + s1.horizon) == stOk
    then s1.startArm at_ (s1.f R.CL_ARM_CFG_FIRES_MAX) false else s1

/-! ## Fires (R346 to R348) -/

/-- A FIRE towards the top arrives from a child. -/
def fireUp (k : Nat) (c : Carriage) (s : State) : State :=
  let r := s.carriageOk k c cFIRE
  if !r.2 || bitOf c.flags.toNat 0 || !r.1.isChild k then r.1
  else
    match r.1.ctlTake k c with
    | .drop => r.1
    | .again => r.1.sendAck k c.seq.toNat cFIRE stOk 0 0
    | .act =>
      let p := c.payload.toNat
      let s1 := (r.1.ctlNext k).sendAck k c.seq.toNat cFIRE stOk 0 0
      if s1.role == roleTop then s1.topFire (payPtime p) (bitsOf p 128 16) (bitsOf p 144 6)
      else if s1.linkUp s1.upLane then s1.sendCtl s1.upLane cFIRE 0 p
      else s1.incSat R.CL_FIRES_DROPPED

def execFireUp (k : Fin 16) (c : Carriage) (s : State) : Out := .next (fireUp k c s)

/-- A broadcast FIRE arrives from the parent. -/
def fireDown (k : Nat) (c : Carriage) (s : State) : State :=
  let r := s.carriageOk k c cFIRE
  if !r.2 || !bitOf c.flags.toNat 0 || !r.1.isParent k then r.1
  else
    match r.1.ctlTake k c with
    | .drop => r.1
    | .again => r.1.sendAck k c.seq.toNat cFIRE stOk 0 0
    | .act =>
      let p := c.payload.toNat
      let s1 := (r.1.ctlNext k).sendAck k c.seq.toNat cFIRE stOk 0 0
      (s1.broadcast cFIRE 1 p).deliverFire (payPtime p) (bitsOf p 128 16) (bitsOf p 160 16) true

def execFireDown (k : Fin 16) (c : Carriage) (s : State) : Out := .next (fireDown k c s)

/-! ## Packets (R335, R471) -/

/-- Replaces the assembly of a child's packet for a queue, or ends it. -/
def setAsm (l : LinkSt) (q : Nat) (a : Option DataAsm) : LinkSt :=
  let rest := l.asm.filter (fun x => x.queue != q)
  match a with
  | some x => { l with asm := rest ++ [x] }
  | none => { l with asm := rest }

/-- A DATA carriage of a child: it adds to the packet, which enters its queue whole at EOP. Number 0 begins a packet: one that it cuts
short is discarded, as at any other gap (R335). -/
def State.dataIn (s : State) (k : Nat) (c : Carriage) : State :=
  let fl := c.flags.toNat
  let q := bitsOf fl 0 5
  let eop := bitOf fl 5
  let w := bitsOf fl 6 2
  let l := s.linkN k
  let a : DataAsm := match l.asm.find? (fun x => x.queue == q) with
    | some x => x
    | none => { queue := q }
  let bytes := (leBytes 24 c.payload.toNat).take (if eop && w != 0 then 8 * w else 24)
  let gap := !a.bad && c.seq.toNat != a.next
  let bad := c.seq.toNat != 0 && (a.bad || gap)
  let held := if c.seq.toNat == 0 then [] else a.bytes
  let a1 : DataAsm := { a with next := c.seq.toNat + 1, bad := bad, last := a.last && c.seq.toNat != 0, bytes := if bad then [] else held ++ bytes }
  let g := tget (fun _ => 0) l.granted q
  let s1 := if gap then s.incSat (R.CL_LINK_DATA_DROP k) else s
  let s2 := s1.setLink k (setAsm { l with granted := tset (fun _ => 0) l.granted q (g - 1) } q (if eop then none else some a1))
  let p : SqPkt := { kind := 3, body := a1.bytes, time := s2.now }
  if eop && !bad then (if a1.last then s2.sqPut q 3 p else s2.sqWrite q 3 p).1 else s2

/-- The queue whose next DATA carriage goes to the parent: the one whose packet is under way, else the lowest that holds
a packet and credit. -/
def State.dataQueue (s : State) : Option Nat :=
  let l := s.linkN s.upLane
  let can := fun (q : Nat) => s.f (R.SQ_CFG_DRAIN q) == 3 && !(s.sqN q).pkts.isEmpty
    && decide (0 < tget (fun _ => 0) l.credit (s.f (R.SQ_CFG_REMOTE_Q q)))
  match (List.range 32).find? (fun q => can q && (s.sqN q).taken != 0) with
  | some q => some q
  | none => (List.range 32).find? can

/-- The next DATA carriage goes to the parent (R335, R471); a word of bad parity discards the packet (R467). -/
def State.dataOut (s : State) (parity : Bool) : State :=
  match s.dataQueue with
  | none => s
  | some q =>
    match (s.sqN q).pkts with
    | [] => s
    | p :: _ =>
      let x := s.sqN q
      let all := p.bytes
      let k := s.upLane
      let rq := s.f (R.SQ_CFG_REMOTE_Q q)
      if parity then (((s.incSat (R.SQ_POISON q)).setB (R.SQ_STATUS_POISON q) true).sqTake q (all.length - x.taken)).setLink k { s.linkN k with outNum := 0 }
      else
        let part := (all.drop x.taken).take 24
        let eop := all.length ≤ x.taken + 24
        let l := s.linkN k
        let fl := rq + (if eop then 32 + 64 * (part.length / 8 % 3) else 0)
        let l1 := { l with outNum := if eop then 0 else l.outNum + 1, credit := tset (fun _ => 0) l.credit rq (tget (fun _ => 0) l.credit rq - 1) }
        ((s.setLink k l1).sendPlain k cDATA fl (l.outNum % 2 ^ 16) (leNat part)).sqTake q part.length

/-- A DATA carriage from a child arrives, or the next one to the parent leaves. -/
def dataCarriage (k : Nat) (c : Carriage) (parity : Bool) (s : State) : State :=
  if s.isParent k then (if s.linkUp k then s.dataOut parity else s)
  else
    let r := s.carriageOk k c cDATA
    if r.2 && r.1.isChild k then r.1.dataIn k c else r.1

def execDataCarriage (k : Fin 16) (c : Carriage) (parity : Bool) (s : State) : Out := .next (dataCarriage k c parity s)

/-- A CREDIT carriage of the parent (R335). -/
def creditCarriage (k : Nat) (c : Carriage) (s : State) : State :=
  let r := s.carriageOk k c cCREDIT
  if !r.2 || !r.1.isParent k then r.1
  else
    let q := bitsOf c.flags.toNat 0 5
    let l := r.1.linkN k
    let n := tget (fun _ => 0) l.credit q + bitsOf c.payload.toNat 0 16
    r.1.setLink k { l with credit := tset (fun _ => 0) l.credit q n }

def execCredit (k : Fin 16) (c : Carriage) (s : State) : Out := .next (creditCarriage k c s)

/-- The free room of a child-packet queue in carriages of 24 B, less what is granted and what is being assembled. -/
def State.creditRoom (s : State) (q : Nat) : Nat :=
  let free := (4096 - s.sqLevel q) * 64 / 24
  let used := s.children.foldl (fun n k =>
    let l := s.linkN k
    n + tget (fun _ => 0) l.granted q + (l.asm.filter (fun a => a.queue == q)).foldl (fun m a => m + ceilDiv a.bytes.length 24) 0) 0
  free - used

/-- The parent grants credit for its SRC = 3 queues, in equal shares to its running children (R471). -/
def State.grantCredit (s : State) : State :=
  let kids := s.children.filter s.linkUp
  if kids.isEmpty then s
  else
    ((List.range 32).filter (fun q => s.f (R.SQ_CFG_SRC q) == 3 && s.flag (R.SQ_STATUS_RUNNING q))).foldl (fun (t : State) q =>
      let share := min 65535 (t.creditRoom q / kids.length)
      if share == 0 then t
      else kids.foldl (fun (w : State) k =>
        let l := w.linkN k
        let g := tget (fun _ => 0) l.granted q + share
        (w.setLink k { l with granted := tset (fun _ => 0) l.granted q g }).sendPlain k cCREDIT q 0 share) t) s

/-! ## Acknowledgements (R334, R343, R351, R352) -/

/-- A child's answer to a PREPARE. -/
def State.prepAnswer (s : State) (k status dev : Nat) : State :=
  match s.cl.prep with
  | none => s
  | some p =>
    if p.answers.any (fun a => a.1 == k) then s
    else { s with cl := { s.cl with prep := some { p with answers := p.answers ++ [(k, status, dev)] } } }

/-- The first failure among a device's own answer and its children's: status and device. -/
def State.prepResult (s : State) (p : PrepSt) : Nat × Nat :=
  if p.own != stOk then (p.own, s.f R.CL_STATUS_DEV)
  else
    match p.answers.find? (fun a => a.2.1 != stOk) with
    | some a => (a.2.1, a.2.2)
    | none => (stOk, 0)

/-- A sub-manager or worker answers its PREPARE once all its children have (R351). -/
def State.settlePrep (s : State) : State :=
  match s.cl.prep with
  | none => s
  | some p =>
    if p.answered || s.role == roleTop || s.role == roleStandalone
      || !s.children.all (fun k => p.answers.any (fun a => a.1 == k)) then s
    else
      let r := s.prepResult p
      let s1 := { s with cl := { s.cl with prep := some { p with answered := true } } }
      s1.sendAck s1.upLane p.seq cCFGSW r.1 r.2 s1.maxPath

/-- What the acknowledgement of a control carriage brings. -/
def State.ackOf (s : State) (k status dev : Nat) (c : CtlCarriage) : State :=
  if c.type_ == cARM then
    let its := fun (a : ArmSt) => bitsOf c.payload 0 128 == pt128 a.act && bitsOf c.payload 128 32 == a.id && bitOf c.payload 176 == a.disarm
    let upd := s.cl.arms.map (fun a => if its a && !a.acks.contains k then { a with acks := a.acks ++ [k] } else a)
    ({ s with cl := { s.cl with arms := upd } } : State).settleArms
  else if c.type_ == cCFGSW && bitsOf c.flags 0 2 == 0 then (s.prepAnswer k status dev).settlePrep
  else s

/-- An ACK arrives: the carriage it names is acknowledged, and queued ones may go. -/
def ackCarriage (k : Nat) (c : Carriage) (s : State) : State :=
  let r := s.carriageOk k c cACK
  if !r.2 then r.1
  else
    let p := c.payload.toNat
    let l := r.1.linkN k
    match l.unacked.find? (fun x => x.seq == c.seq.toNat) with
    | none => r.1
    | some x =>
      let path := if x.type_ == cARM || x.type_ == cCFGSW then bitsOf p 32 32 else l.path
      let l1 := { l with unacked := l.unacked.erase x, again := l.again.erase x, repeats := 0, path := path, sentAt := r.1.clk.elapsed }
      let s1 := r.1.setLink k l1
      s1.ackOf k (bitsOf p 0 8) (bitsOf p 16 16) x

def execAck (k : Fin 16) (c : Carriage) (s : State) : Out := .next (ackCarriage k c s)

/-- The time after which a control carriage without an ACK goes again: 2·(d + F) + 200 ns (R334). -/
def State.ackTime (s : State) (k : Nat) : Nat := (2 * (s.f (R.CL_LINK_DELAY k) + s.hopF k * 65536) + 200 * 65536) * 2 ^ 32

/-- No ACK in time: the unacknowledged control carriages go again from the oldest, and after three repeats the link faults (R334). -/
def ackTimeout (k : Nat) (s : State) : State :=
  let l := s.linkN k
  if !s.linkUp k || l.unacked.isEmpty || decide (s.clk.elapsed < l.sentAt + s.ackTime k) then s
  else if 3 ≤ l.repeats then s.linkFault k lfNoack
  else (s.setLink k { l with repeats := l.repeats + 1, again := l.unacked, sentAt := s.clk.elapsed }).addSat (R.CL_LINK_RETX k) l.unacked.length

def execAckTimeout (k : Fin 16) (s : State) : Out := .next (ackTimeout k s)

end Sys2Proof.Machine
end

