-- ==== Sys2Proof/Machine/Tdc.lean ====
section
/-!
DEFINITION. Timing inputs and the network-time servo (spec/10_time_interval_and_network_time.md, R354 to R371, R376,
R379 to R383): stamps, their queues and records, frequency gates, NT_INCR and NT_STEP, the egress stamp FIFO.
-/
namespace Sys2Proof.Machine

/-! ## Stamps (R355 to R361) -/

/-- The stamp of an edge in phase bin `k` of the control cycle with vernier count `n`, in 2^-48 ns (R359): sums in
2^-16 fs, rounded to 2^-32 ns. -/
def State.tdcStamp (s : State) (c k n : Nat) : Nat :=
  let tf := s.timeIn (k / 16 * 16)
  let b := k % 16
  let w := fun (i : Nat) => (s.f (R.TDC_BIN_FS c i) : Int)
  let before := (List.range b).foldl (fun a i => a + w i) 0
  let fine : Int := if c < 12 then w b * 2 ^ 15
    else (n * s.f (R.TDC_VPER c) * 2 ^ 8 : Int) + s.fi (R.TDC_VNL_FS c n) * 2 ^ 16
  let temp : Int := s.fi R.TDC_TEMP_TEMP - s.fi R.TDC_CAL_TEMP_CAL
  let adj : Int := before * 2 ^ 16 + fine - (s.f (R.TDC_DLY c) : Int) * 2 ^ 16 - s.fi (R.TDC_TCO_FS c) * temp * 2 ^ 8
  let t32 := roundDiv ((tf : Int) * (1000000 * 2 ^ 16) + adj * 2 ^ 48) (2 ^ 32 * 1000000)
  ((t32 * 2 ^ 16) % (ptimeSpan : Int)).toNat

/-- Dead time of a channel in 2^-48 ns (Table 10-1): 8 or 32 fabric cycles, which follow F_R (R1). -/
def State.deadTime (s : State) (c : Nat) : Nat := s.fcTime (if c < 12 then 8 else 32)

/-- Whether an edge has the polarity that EDGE selects. -/
def State.edgeTaken (s : State) (c : Nat) (falling : Bool) : Bool :=
  let e := s.f (R.TDC_CFG_EDGE c)
  e == 2 || (e == 1) == falling

/-- A stamp entry (Table 10-2). -/
def stampEntry (t : Nat) (stepped : Bool) (c : Nat) (falling holdover unsettled qovf : Bool) (lost : Nat) : Nat :=
  let b := fun (x : Bool) (i : Nat) => if x then 2 ^ i else 0
  ptFrac t + 2 ^ 32 * ptNs t + b stepped 62 + 2 ^ 64 * (ptSec t % 2 ^ 48) + 2 ^ 112 * c + b falling 116 + b holdover 117
  + b unsettled 118 + b qovf 119 + 2 ^ 120 * min 255 lost

/-- A stamp enters the channel's queue (R362, R363, R365). -/
def State.tdcPush (s : State) (c t : Nat) (falling : Bool) : State :=
  let x := s.tdcN c
  if 4096 ≤ x.queue.length then (s.setTdc c { x with qovf := true, lost := x.lost + 1 }).incSat (R.TDC_QOVF c)
  else
    let e := stampEntry t (x.steps != s.clk.steps) c falling (s.flag R.TB_STATE_HOLDOVER) (!s.flag R.CLK_STATUS_LOCKED) x.qovf x.lost
    let s1 := (s.setTdc c { x with queue := x.queue ++ [(e, s.clk.elapsed)], qovf := false, lost := 0, steps := s.clk.steps }).syncTdc c
    s1.tdcToMemory c

/-! ## Frequency gates (R367 to R371) -/

/-- G of a channel in 2^-48 ns, clamped. -/
def State.gateLen (s : State) (c : Nat) : Nat := clampNat 1000 1000000000000 (s.f (R.TDC_GATE_NS c)) * nsUnit

/-- Whether a PTIME step of a channel's gates so far left, met or passed over the span of a gate (R370, R383). -/
def State.gateStepped (s : State) (x : GateSt) (g : Nat) : Bool :=
  (s.clk.stepLog.take (s.clk.steps - x.steps)).any (fun p => decide (min p.1 p.2 < x.start + g) && decide (x.start ≤ max p.1 p.2))

/-- The first gate (R367): at T0, or on its grid at or after the present PTIME. -/
def State.firstGate (s : State) (c : Nat) : GateSt :=
  let g := s.gateLen c
  let given := s.ptimeAt (R.TDC_GSTART c 0).off
  let us := 1000 * nsUnit
  let t0 := if given == 0 then (s.now / us + 1) * us else given
  let k := if s.now ≤ t0 then 0 else ceilDiv (s.now - t0) g
  { k := k, start := t0 + k * g, steps := s.clk.steps }

/-- What a gate reports: CAUSE, FREQ, FEVENT, PHASE, RESID. -/
structure GateRes where
  cause : Nat
  freq : Nat := 0
  event : Nat := 0
  phase : Nat := 0
  resid : Nat := 0

/-- The least-squares results of a gate of length `g` (R368 to R370): with D = n Σk² − (Σk)² and B = n Σkt − Σk Σt, the
slope is B/D in 2^-32 ns per event. -/
def gateResult (x : GateSt) (g : Nat) (stepped : Bool) : GateRes :=
  if x.n < 3 then { cause := 1 }
  else if stepped then { cause := 2 }
  else
    let n : Int := x.n
    let d := n * x.snn - x.sn * x.sn
    let b := n * x.snt - x.sn * x.st
    let freq := roundDiv (d * 2 ^ 56 * 1000000000) b
    if b ≤ 0 || (2 ^ 64 - 1 : Int) < freq then { cause := 3 }
    else if x.fast then { cause := 4 }
    else
      let tc : Int := g / 2 ^ 17
      let num := tc * n * d - x.st * d + b * x.sn
      let den := n * b
      let whole := num / den
      let ssr := x.stt * n * d - (x.st * d - b * x.sn) * x.st - b * n * x.snt
      { cause := 0, freq := freq.toNat, event := (((x.n0 : Int) + whole) % 2 ^ 64).toNat, phase := min (2 ^ 32 - 1) (roundDiv ((num - whole * den) * 2 ^ 32) den).toNat, resid := min (2 ^ 32 - 1) (rootRound (ssr.toNat * 10 ^ 12) (x.n * x.n * d.toNat * 2 ^ 64)) }

/-- The gate in progress ends and its results appear (R371); the next one follows on the grid. -/
def State.gateClose (s : State) (c : Nat) (x : GateSt) : State :=
  let g := s.gateLen c
  let r := gateResult x g (s.gateStepped x g)
  let s1 := (((s.setF (R.TDC_FREQ c) r.freq).setF (R.TDC_FEVENT c) r.event).setF (R.TDC_FPHASE c) r.phase).setF (R.TDC_FRESID c) r.resid
  let s2 := ((s1.setF (R.TDC_FCOUNT c) x.n).setF (R.TDC_FSTAT_CAUSE c) r.cause).addWrap (R.TDC_FSTAT_SEQ c) 1
  let s3 := s2.setTdc c { s2.tdcN c with gate := some { k := x.k + 1, start := x.start + g, steps := x.steps } }
  if !s3.flag (R.TDC_FCFG_ROUTE_EN c) then s3
  else
    let lost := (s3.tdcN c).freqLost
    let fl := x.flags ||| flagIf (r.cause != 0) fINVALID ||| flagIf lost fDROPPED
    let h : RecHead := { magic := 0x5446, context := c, product := 2, seq := x.k % 2 ^ 32, ptime := x.start, index := s3.timeStamp x.start / 256, flags := fl }
    let pay := leBytes 8 r.freq ++ leBytes 8 r.event ++ leBytes 4 r.phase ++ leBytes 4 r.resid ++ leBytes 4 x.n ++ leBytes 4 r.cause
    let w := s3.sqRecord (s3.f (R.TDC_FCFG_SQ c)) (recordBytes h pay) x.start fl false
    w.1.setTdc c { w.1.tdcN c with freqLost := !w.2 }

/-- The gate ends when PTIME has passed its span. -/
def gateEnd (c : Nat) (s : State) : State :=
  match (s.tdcN c).gate with
  | none => s
  | some x => if s.now < x.start + s.gateLen c then s else s.gateClose c x

def execGateEnd (c : Fin 16) (s : State) : Out := .next (gateEnd c s)

/-- The gates that ended at or before a time close, at most `n` of them. -/
def State.gateCatch (s : State) (c t : Nat) : Nat → State
  | 0 => s
  | n + 1 =>
    match (s.tdcN c).gate with
    | none => s
    | some x => if t < x.start + s.gateLen c then s else State.gateCatch (s.gateClose c x) c t n

/-- Every gate that ended at or before a time closes. -/
def State.gatesTo (s : State) (c t : Nat) : State :=
  match (s.tdcN c).gate with
  | none => s
  | some x => s.gateCatch c t ((t - x.start) / s.gateLen c)

/-- A stamp enters the gate that contains it; the gates before that one close. -/
def State.gateStamp (s : State) (c t ev : Nat) : State :=
  let s1 := s.gatesTo c t
  match (s1.tdcN c).gate with
  | none => s1
  | some x =>
    if t < x.start || x.start + s1.gateLen c ≤ t then s1
    else
      let n0 := if x.n == 0 then ev else x.n0
      let k : Int := (ev : Int) - n0
      let r : Int := ((t : Int) - x.start) / 2 ^ 16
      let fl := flagIf (s1.flag R.TB_STATE_HOLDOVER) fHOLDOVER ||| flagIf (!s1.flag R.CLK_STATUS_LOCKED) fUNSETTLED
      let y : GateSt := { x with n := x.n + 1, n0 := n0, sn := x.sn + k, st := x.st + r, snn := x.snn + k * k, snt := x.snt + k * r, stt := x.stt + r * r, flags := x.flags ||| fl }
      s1.setTdc c { s1.tdcN c with gate := some y }

/-- An edge at PTIME `t` lies too close to the one before it, `d` earlier (R356): FAST, and the gate that contains both is marked. -/
def State.tdcFast (s : State) (c t d : Nat) : State :=
  let s1 := s.gatesTo c t
  let x := s1.tdcN c
  let mark := fun (g : GateSt) => { g with fast := g.fast || decide (g.start + d ≤ t) }
  (s1.setTdc c { x with gate := x.gate.map mark }).setB (R.TDC_STATUS_FAST c) true

/-! ## Edges -/

/-- An offered edge is stamped, unless it falls into the dead time (R357, R362, R364). -/
def State.tdcOffer (s : State) (c : Nat) (falling : Bool) (k n at_ ev : Nat) : State :=
  let x := s.tdcN c
  let dead := match x.lastStamp with
    | some p => decide (at_ < p + s.deadTime c)
    | none => false
  if dead then (s.setTdc c { x with lost := x.lost + 1 }).incSat (R.TDC_MISSED c)
  else
    let t := s.tdcStamp c k n
    let s1 := s.setTdc c { x with lastStamp := some at_ }
    ((s1.tinEvent c t).gateStamp c t ev).tdcPush c t falling

/-- An edge on a timing input (R355 to R357): of two edges closer than 1.25 ns the counter may miss one. -/
def tinEdge (c : Nat) (falling : Bool) (k n : Nat) (s : State) : State :=
  if !s.flag (R.TDC_STATUS_RUNNING c) || !s.edgeTaken c falling then s
  else
    let x := s.tdcN c
    let at_ := s.clk.elapsed + k * s.increment / 160
    let close := match x.lastEdge with
      | some p => decide (at_ < p + nsUnit * 5 / 4)
      | none => false
    let s1 := s.setTdc c { x with lastEdge := some at_ }
    let s2 := if close then (s1.tdcFast c (s.timeIn k) (at_ - x.lastEdge.getD at_)).next else s1
    if close && Config.edgeMissed s1.fresh then s2
    else
      let ev := min (s2.f (R.TDC_EVENTS c) + 1) (2 ^ 64 - 1)
      let s3 := s2.setF (R.TDC_EVENTS c) ev
      if ev % (s3.f (R.TDC_CFG_PRESC c) + 1) != 0 then s3 else s3.tdcOffer c falling k n at_ ev

def execTinEdge (c : Fin 16) (falling : Bool) (k : Fin 160) (n : Fin 64) (s : State) : Out := .next (tinEdge c falling k n s)

/-- The alignment tick: starts, stops, input standards and gates (R354, R358, R367). -/
def State.tdcTick (s : State) : State :=
  (List.range 16).foldl (fun (t : State) c =>
    let x := t.tdcN c
    let en := t.flag (R.TDC_CFG_EN c)
    let run := t.flag (R.TDC_STATUS_RUNNING c)
    let io := t.f (R.TDC_CFG_IO c)
    let t0 := if x.io == io then t else t.setTdc c { x with io := io }
    let t1 :=
      if en && !run then
        ((t0.setTdc c { t0.tdcN c with lastEdge := none, lastStamp := none, lost := 0, steps := t0.clk.steps }).setF (R.TDC_EVENTS c) 0).setB
          (R.TDC_STATUS_RUNNING c) true
      else if !en && run then (t0.setTdc c { t0.tdcN c with gate := none }).setB (R.TDC_STATUS_RUNNING c) false
      else t0
    let fen := en && t1.flag (R.TDC_FCFG_FEN c)
    let y := t1.tdcN c
    if fen && y.gate.isNone then t1.setTdc c { y with gate := some (t1.firstGate c) }
    else if !fen && y.gate.isSome then t1.setTdc c { y with gate := none }
    else t1) s

/-! ## Draining (R365, R366) -/

/-- A record of up to BATCH entries leaves (R365). -/
def tdcBatchEmit (c : Nat) (s : State) : State :=
  let x := s.tdcN c
  let batch := clampNat 1 256 (s.f (R.TDC_QCFG_BATCH c))
  let tmo := max 1 (s.f (R.TDC_QCFG_TMO c)) * 1000 * nsUnit
  match x.queue with
  | [] => s
  | e :: _ =>
    if s.f (R.TDC_QCFG_DRAIN c) != 2 || (x.queue.length < batch && s.clk.elapsed < e.2 + tmo) then s
    else
      let es := (x.queue.take batch).map (fun p => p.1)
      let t := ptMake (bitsOf e.1 64 48) (bitsOf e.1 32 30) (bitsOf e.1 0 32)
      let any := fun (i : Nat) => es.any (fun w => bitOf w i)
      let fl := flagIf (any 117) fHOLDOVER ||| flagIf (any 118) fUNSETTLED ||| flagIf x.recLost fDROPPED
      let h : RecHead := { magic := 0x5444, context := c, product := 1, seq := x.seq, ptime := t, index := s.timeStamp t / 256, flags := fl }
      let s1 := (s.setTdc c { x with queue := x.queue.drop es.length, seq := (x.seq + 1) % 2 ^ 32 }).syncTdc c
      let w := s1.sqRecord (s.f (R.TDC_QCFG_SQ c)) (recordBytes h (es.flatMap (leBytes 16))) t fl false
      let s2 := w.1.setTdc c { w.1.tdcN c with recLost := !w.2 }
      if w.2 then s2 else s2.addSat (R.TDC_DROP c) es.length

def execTdcBatchEmit (c : Fin 16) (s : State) : Out := .next (tdcBatchEmit c s)

/-- A read of TDCc_POP0 removes the head entry and latches the rest (R366); the second part is what it returns. -/
def State.tdcPop (s : State) (c : Nat) : State × Nat :=
  let x := s.tdcN c
  let dr := s.f (R.TDC_QCFG_DRAIN c)
  if dr == 1 || dr == 2 then (s, 0)
  else
    match x.queue with
    | [] => (s.setWordsAt (R.TDC_POP c 0).off 3 0, 0)
    | e :: rest =>
      (((s.setTdc c { x with queue := rest }).setWordsAt (R.TDC_POP c 0).off 3 (e.1 / 2 ^ 32)).syncTdc c, e.1 % 2 ^ 32)

/-- The die temperature nearest the timing block (R361). -/
def execTdcTempUpdate (t : BitVec 16) (s : State) : Out := .next (s.setF R.TDC_TEMP_TEMP t.toNat)

/-! ## Servo (R379 to R382) -/

/-- A committed write of NT_INCR (R379, R381). -/
def ntIncrWritten (v : Nat) (s : State) : State :=
  if s.clk.mode != 2 then s.setB R.NT_STATUS_MODE_DROP true
  else
    let i := iNom s.clk.nint s.clk.nfrac
    let lo := ceilDiv (i * 9995) 10000
    let hi := i * 10005 / 10000
    let w := v % 2 ^ 56
    let c := clampNat lo hi w
    let s1 := { s with clk := { s.clk with incrPend := some c, servoAt := s.clk.elapsed } }
    let s2 := s1.setF R.NT_INCR_INCR c
    if c == w then s2 else s2.setB R.NT_STATUS_INCR_CLAMP true

/-- A committed write of NT_STEP (R380, R381). -/
def ntStepWritten (v : Nat) (s : State) : State :=
  if s.clk.mode != 2 then s.setB R.NT_STATUS_MODE_DROP true
  else if s.flag R.NT_STATUS_STEP_PEND then s.setB R.NT_STATUS_STEP_BUSY true
  else
    let s1 := { s with clk := { s.clk with servoAt := s.clk.elapsed } }
    (s1.setF R.NT_STEP v).setB R.NT_STATUS_STEP_PEND true

/-- The step is added to PTIME (R380). -/
def ntStepApply (s : State) : State :=
  if !s.flag R.NT_STATUS_STEP_PEND then s
  else
    let v := s.fi R.NT_STEP
    let s1 := (s.stepPtime (v * 2 ^ 32)).setFi R.NT_STEP_LAST v
    ((s1.incSat R.NT_STEPS).setB R.TB_STATE_JUMP true).setB R.NT_STATUS_STEP_PEND false

/-- The alignment tick: a pending step, then a pending increment (R379, R380). -/
def State.servoTick (s : State) : State :=
  let s1 := ntStepApply s
  match s1.clk.incrPend with
  | none => s1
  | some i => { s1 with clk := { s1.clk with incr := i, incrPend := none } }

/-- The alignment tick at which a pending step is due. -/
def execNtStepApply (s : State) : Out := .next (if s.atTick then s.servoTick else s)

/-- NT_WDOG ms have passed with neither NT_INCR nor NT_STEP written (R382). -/
def servoWatchdog (s : State) : State :=
  let ms := s.f R.NT_WDOG_MS
  if s.clk.mode != 2 || ms == 0 || decide (s.clk.elapsed < s.clk.servoAt + ms * 1000000 * nsUnit) then s
  else
    let s1 := { s with clk := { s.clk with servoAt := s.clk.elapsed } }
    ((s1.setB R.NT_CTRL_SERVO_OK false).setB R.NT_STATUS_WDOG true).syncHoldover

def execServoWatchdog (s : State) : Out := .next (servoWatchdog s)

/-! ## Egress stamps (R376) -/

/-- An entry enters the egress stamp FIFO, or is discarded when it is full. -/
def State.txtsPush (s : State) (e : TxStamp) : State :=
  if 64 ≤ s.txts.length then s.incSat R.NT_TXTS_OVF
  else ({ s with txts := s.txts ++ [e] } : State).setB R.NT_STATUS_TXTS true

/-- A read of NT_TXTS0 removes the head entry and latches its PTIME; the second part is what it returns. -/
def State.txtsPop (s : State) : State × Nat :=
  match s.txts with
  | [] => (s, 0)
  | e :: rest =>
    let s1 := ({ s with txts := rest } : State).setPtimeAt (R.NT_TXTS 0).off e.pt
    (s1.setB R.NT_STATUS_TXTS (!rest.isEmpty), 2 ^ 31 + 2 ^ 20 * e.status + 2 ^ 16 * e.port + e.tag)

end Sys2Proof.Machine
end

