-- ==== Sys2Proof/Machine/Hk.lean ====
section
/-!
DEFINITION. The housekeeping converters (spec/15_power_and_health.md, R524 to R532): sequences, injected conversions,
the buffer, self-calibration, plausibility and the thermal throttle.
-/
namespace Sys2Proof.Machine

/-- A converter. -/
def State.hkN (s : State) (x : Nat) : HkConv := tget (fun _ => {}) s.hk.conv x

/-- Replaces a converter. -/
def State.setHk (s : State) (x : Nat) (c : HkConv) : State :=
  { s with hk := { s.hk with conv := tset (fun _ => {}) s.hk.conv x c } }

/-- Whether a converter is enabled. -/
def State.hkOn (s : State) (x : Nat) : Bool := s.flag (if x == 0 then R.HK_CTRL_EN_A else R.HK_CTRL_EN_B)

/-- Entries of a converter's own table, 0 to 32. -/
def State.hkLen (s : State) (x : Nat) : Nat := min 32 (s.f (if x == 0 then R.HK_SEQ_LEN_LEN_A else R.HK_SEQ_LEN_LEN_B))

/-- The input of entry `i` of a sequence: HK31 first, then the table. -/
def State.hkInput (s : State) (x i : Nat) : Nat :=
  if i == 0 then 31 else bitsOf (s.f (R.HK_SEQ x ((i - 1) / 4))) (8 * ((i - 1) % 4)) 5

/-- A sequence tick (R525, R530). -/
def hkSequenceTick (s : State) : State :=
  let a := s.hkN 0
  let b := s.hkN 1
  if a.active || b.active || a.cal || b.cal then s.incSat R.HK_SEQ_SKIP
  else
    let s1 := s.setHk 0 { a with active := s.hkOn 0, pos := 0, hk31 := none }
    let s2 := s1.setHk 1 { b with active := s.hkOn 1, pos := 0, hk31 := none }
    { s2 with hk := { s2.hk with tmax := none, noCmp := false } }

def execHkSequenceTick (s : State) : Out := s.whileRunning 0x0F (hkSequenceTick s)

/-- The corrected value of a code (R524, R529): the converter's own calibration maps zero to 0 and the 1.0 V reference to
4,096 ÷ 1.2. -/
def State.hkValue (s : State) (x input code : Nat) : Int :=
  let c := s.hkN x
  let g : Int := s.f (R.HK_COR_GAIN input)
  let num : Int := (8 * (code : Int) - c.zero) * (40960 * g)
  let den : Int := 12 * ((c.ref : Int) - c.zero) * 4096
  let r := if c.calibrated && c.zero != c.ref then (if den < 0 then roundDiv (-num) (-den) else roundDiv num den) else roundDiv (code * g) 4096
  satS 16 (r + s.fi (R.HK_COR_OFS input))

/-- A conversion enters the buffer (R527, Table 15-6). -/
def State.hkBuffer (s : State) (x input code : Nat) (inj : Bool) (r : Int) : State :=
  let t := s.now
  let b := fun (y : Bool) (i : Nat) => if y then 2 ^ i else 0
  let w := wrapInt 16 r + 2 ^ 16 * input + b (x == 1) 21 + b inj 22 + b (s.flag R.HK_STATUS_SUSPECT) 23
    + 2 ^ 32 * ptNs t + 2 ^ 64 * (ptSec t % 2 ^ 32) + 2 ^ 96 * code
  let s1 := s.setWordsAt (R.HK_BUF (4 * (s.hk.written % 4096))).off 4 w
  let s2 := { s1 with hk := { s1.hk with written := s1.hk.written + 1 } }
  (s2.addWrap R.HK_BUF_HEAD 1).setFi (R.HK_LAST_VALUE input) r

/-- THROTTLE from a temperature (R532); 2 while SUSPECT is 1. It drives FAB_STATUS.THROTTLE (R175), and the error log records a
change (Table 17-7). -/
def State.setThrottle (s : State) (t : Option Int) : State :=
  let old := s.f R.HK_STATUS_THROTTLE
  let t1 := s.fi R.HK_THERM_T1
  let t2 := s.fi R.HK_THERM_T2
  let h : Int := s.f R.HK_THERM_HYST_HYST
  let v := match t with
    | none => old
    | some t =>
      if t2 ≤ t then 2
      else if old == 2 && t2 - h ≤ t then 2
      else if t1 ≤ t then 1
      else if old ≠ 0 && t1 - h ≤ t then 1
      else 0
  let v1 := if s.flag R.HK_STATUS_SUSPECT then 2 else v
  let s1 := (s.setF R.HK_STATUS_THROTTLE v1).setF R.FAB_STATUS_THROTTLE v1
  if v1 == old then s1 else s1.errLog 0x08 0 0x0F 0 [v1, (s1.word R.HK_TMAX.off).toNat]

/-- Both converters have converted HK31 in a sequence: the comparison (R531), whose failure the error log records (Table 17-7). -/
def State.hkCompare (s : State) : State :=
  match (s.hkN 0).hk31, (s.hkN 1).hk31 with
  | some a, some b =>
    let s0 := (s.setHk 0 { s.hkN 0 with hk31 := none }).setHk 1 { s.hkN 1 with hk31 := none }
    if s.hk.noCmp then s0
    else if (s.f R.HK_PLAUS_LIM_LIM : Int) < (a - b).natAbs then
      let n := s0.hk.faults + 1
      let s1 := (((s0.setB R.HK_STATUS_PLAUS_FAULT true).incSat R.HK_PLAUS_COUNT).raiseBlk 0x0F (s0.f R.HK_CTRL_VEC)).errLog 0x09 1 0x0F 0 [wrapInt 32 a, wrapInt 32 b]
      let s2 := { s1 with hk := { s1.hk with faults := n } }
      if 3 ≤ n then (s2.setB R.HK_STATUS_SUSPECT true).setThrottle none else s2
    else (({ s0 with hk := { s0.hk with faults := 0 } } : State).setB R.HK_STATUS_SUSPECT false).setThrottle none
  | _, _ => s

/-- The end of a sequence on both converters (R532). -/
def State.hkSeqEnd (s : State) : State :=
  if (s.hkN 0).active || (s.hkN 1).active then s
  else
    match s.hk.tmax with
    | none => s
    | some (t, k) => ((s.setFi R.HK_TMAX_T t).setF R.HK_TMAX_SENSOR k).setThrottle (some t)

/-- An injected conversion ends (R526). -/
def State.hkInjected (s : State) (x code : Nat) : State :=
  let c := s.hkN x
  match c.inj with
  | [] => s
  | i :: rest =>
    let r := s.hkValue x i code
    let s1 := (s.setHk x { c with inj := rest, calAfter := c.calAfter - 1 }).hkBuffer x i code true r
    ((s1.setFi (R.HK_INJ_RES_VALUE x) r).setF (R.HK_INJ_RES_INPUT x) i).addWrap (R.HK_INJ_RES_SEQ x) 1

/-- A conversion of the regular sequence ends. -/
def State.hkRegular (s : State) (x code : Nat) : State :=
  let c := s.hkN x
  let i := s.hkInput x c.pos
  let r := s.hkValue x i code
  let done := s.hkLen x ≤ c.pos
  let c1 : HkConv := { c with pos := c.pos + 1, active := !done, hk31 := if c.pos == 0 then some r else c.hk31 }
  let s1 := (s.setHk x c1).hkBuffer x i code false r
  let more := match s1.hk.tmax with
    | some m => decide (m.1 < r)
    | none => true
  let s2 := if i < 12 && more then { s1 with hk := { s1.hk with tmax := some (r, i) } } else s1
  let s3 := if c.pos == 0 then s2.hkCompare else s2
  if done then s3.hkSeqEnd else s3

/-- A conversion of converter `x` ends: an injected one goes ahead of the regular sequence, and while a calibration
waits or runs only those queued before it convert (R525, R526, R530). -/
def hkConversion (x code : Nat) (s : State) : State :=
  let c := s.hkN x
  if !c.inj.isEmpty && (!c.cal || 0 < c.calAfter) then s.hkInjected x code
  else if c.active && !c.cal then s.hkRegular x code
  else s

def execHkConversion (x : Fin 2) (code : BitVec 12) (s : State) : Out := s.whileRunning 0x0F (hkConversion x code.toNat s)

/-- A write of HK_INJx queues a conversion (R526). -/
def hkInjWritten (x v : Nat) (s : State) : State :=
  let c := s.hkN x
  if 4 ≤ c.inj.length then s.setB R.HK_STATUS_INJ_DROP true else s.setHk x { c with inj := c.inj ++ [bitsOf v 0 5] }

/-- CAL_x or the calibration period requests a self-calibration (R530). -/
def hkCalRequest (x : Nat) (s : State) : State :=
  let c := s.hkN x
  let s1 := s.setB (if x == 0 then R.HK_CTRL_CAL_A else R.HK_CTRL_CAL_B) true
  if c.cal then s1
  else
    let s2 := s1.setHk x { c with cal := true, calAfter := c.inj.length }
    { s2 with hk := { s2.hk with noCmp := true } }

def execHkCalRequest (x : Fin 2) (s : State) : Out := s.whileRunning 0x0F (hkCalRequest x s)

/-- A self-calibration ends (R529): `z` and `r` are sums of 4 codes, and the runs agree within 2 LSB of their means. -/
def hkCalDone (x z1 r1 z2 r2 : Nat) (s : State) : State :=
  let c := s.hkN x
  if !c.cal || 0 < c.calAfter then s
  else
    let s1 := s.setB (if x == 0 then R.HK_CTRL_CAL_A else R.HK_CTRL_CAL_B) false
    let ok := timeDist z1 z2 ≤ 8 && timeDist r1 r2 ≤ 8
    if ok then
      let s2 := s1.setHk x { c with cal := false, zero := z1 + z2, ref := r1 + r2, calibrated := true }
      (s2.incSat (R.HK_CAL_OK x)).setPtimeAt (R.HK_CAL_PTIME x 0).off s.now
    else ((s1.setHk x { c with cal := false }).incSat (R.HK_CAL_REJ x)).setB R.HK_STATUS_CAL_REJ true

def execHkCalDone (x : Fin 2) (z1 r1 z2 r2 : Fin 16384) (s : State) : Out := s.whileRunning 0x0F (hkCalDone x z1 r1 z2 r2 s)

end Sys2Proof.Machine
end

