-- ==== Sys2Proof/Machine/Coach.lean ====
section
/-!
DEFINITION. Coaches (spec/13_coaches_and_streams.md, R444 to R465, with R28, R408 and R528): descriptors, bursts and their
arbitration, write-back, stop, reset, disable and faults.
-/
namespace Sys2Proof.Machine

/-- A coach. -/
def State.coN (s : State) (c : Nat) : CoSt := tget (fun _ => {}) s.co c

/-- Replaces a coach. -/
def State.setCo (s : State) (c : Nat) (x : CoSt) : State := { s with co := tset (fun _ => {}) s.co c x }

/-- States of CEc_STATUS.STATE. -/
def ceDisabled : Nat := 0
def ceRunning : Nat := 1
def ceWaiting : Nat := 2
def ceStopping : Nat := 3
def ceStopped : Nat := 4
def ceHalted : Nat := 5

/-- The state of a coach. -/
def State.ceState (s : State) (c : Nat) : Nat := s.f (R.CE_STATUS_STATE c)

/-- Sets the state of a coach; CE_HALTED follows (R465). -/
def State.setCe (s : State) (c st : Nat) : State :=
  (s.setF (R.CE_STATUS_STATE c) st).setB (R.CE_HALTED.bit c) (st == ceHalted)

/-- Kinds of Table 13-1. -/
def kMemIn : Nat := 0
def kMemOut : Nat := 1
def kSqOut : Nat := 2
def kSqIn : Nat := 3
def kAcqOut : Nat := 4
def kHkOut : Nat := 5

/-- The kind of a coach. -/
def State.ceKind (s : State) (c : Nat) : Nat := s.f (R.CE_CFG_KIND c)

/-- The ring size. -/
def State.ceSize (s : State) (c : Nat) : Nat := 2 ^ s.f (R.CE_CFG_LOG2 c)

/-- A coach enters HALTED with a cause (R465), which the error log records (Table 17-7); a descriptor in progress stays with it until
RESET or EN = 0. -/
def State.ceHalt (s : State) (c cause : Nat) : State :=
  let s1 := s.setCo c { s.coN c with readBack := false, stop := false, disabling := false }
  let s2 := ((s1.setCe c ceHalted).setF (R.CE_STATUS_CAUSE c) cause).raiseBlk (0x80 + c) (s1.f (R.CE_CTRL_VEC c))
  s2.errLog 0x0C 1 (0x80 + c) cause [c, cause, s2.f (R.CE_FAULT_IDX_INDEX c)]

/-- A coach enters HALTED on a descriptor index (R462, R463). -/
def State.ceHaltAt (s : State) (c cause idx : Nat) : State := (s.setF (R.CE_FAULT_IDX_INDEX c) idx).ceHalt c cause

/-- The descriptor boundary: a waiting STOP takes effect (R458). -/
def State.ceBoundary (s : State) (c : Nat) : State :=
  let x := s.coN c
  if x.stop then (s.setCo c { x with stop := false }).setCe c ceStopped else s

/-- The two posted writes of a write-back, and the vector (R450). -/
def State.writeBack (s : State) (c : Nat) (d : CoDesc) (status : Nat) : State :=
  let a := s.f (R.CE_RING_BASE c) + 32 * d.idx
  let hi := status + (if d.pktEnd then 2 ^ 8 else 0) + (if d.loss then 2 ^ 9 else 0) + 2 ^ 32 * d.done
  let s1 := (s.emit (.hostWrite (a + 0x18) (leBytes 8 hi))).emit (.hostWrite (a + 0x0C) (leBytes 4 (d.ctl - d.ctl % 2)))
  let s2 := s1.incSat (R.CE_DESCS c)
  let s3 := if status == stPoison then s2.setB (R.CE_STATUS_POISON c) true else s2
  let s4 := if d.loss then s3.setB (R.CE_STATUS_LOSS c) true else s3
  if bitOf d.ctl 3 then s4.raiseBlk (0x80 + c) (s4.f (R.CE_CTRL_VEC c)) else s4

/-- The index that follows a descriptor (R448). -/
def State.nextIdx (s : State) (c : Nat) (idx ctl : Nat) : Nat :=
  if bitOf ctl 1 then bitsOf ctl 16 16 else (idx + 1) % s.ceSize c

/-- The slot that an ACQ_OUT coach drains. -/
def State.slotOfCoach (s : State) (c : Nat) : Option Nat :=
  (List.range 64).find? (fun n => s.flag (R.ACQ_MODE_STREAM n) && !s.flag (R.ACQ_DRAIN_KIND n) && s.f (R.ACQ_DRAIN_NUM n) == c
    && (s.acqN n).drain.isSome)

/-- The current descriptor is written back with a status and HEAD moves on. -/
def State.ceClose (s : State) (c status : Nat) : State :=
  let x := s.coN c
  match x.cur with
  | none => s
  | some d =>
    let s1 := (s.writeBack c d status).setCo c { x with cur := none, readBack := false }
    let s2 := s1.setF (R.CE_PTR_HEAD c) (s1.nextIdx c d.idx d.ctl)
    let s3 := if s2.ceKind c == kAcqOut then (match s2.slotOfCoach c with
      | some n => s2.drainFree n
      | none => s2) else s2
    s3.ceBoundary c

/-- The current descriptor has its data: it is written back, after its read-back where one applies (R451). -/
def State.ceDone (s : State) (c : Nat) : State :=
  let x := s.coN c
  match x.cur with
  | none => s
  | some d =>
    let out := s.ceKind c != kMemIn && s.ceKind c != kSqIn
    let rb := bitOf d.ctl 4 || (s.flag (R.CE_CTRL_RB_AUTO c) && bitOf d.ctl 2)
    if out && rb && 0 < d.done then s.setCo c { x with readBack := true }
    else s.ceClose c (if d.poison then stPoison else stOk)

/-! ## Descriptors (R446 to R449, R462 to R464) -/

/-- Whether the drain of queue `q` is coach `c` (R470). -/
def State.sqServes (s : State) (c q : Nat) : Bool := s.f (R.SQ_CFG_DRAIN q) == 1 && s.f (R.SQ_CFG_COACH q) == c

/-- Whether a descriptor is faulty (R448, R453, R455, R470). A queue that no drain serves makes none faulty: the coach waits. -/
def State.descFaulty (s : State) (c len ctl dev w18 : Nat) (rsvLen : Nat) : Bool :=
  let kind := s.ceKind c
  let q := bitsOf dev 0 5
  rsvLen != 0 || bitsOf ctl 5 11 != 0 || bitsOf w18 10 22 != 0 || bitsOf w18 57 7 != 0 || 16777216 < len
  || (len == 0 && !bitOf ctl 1)
  || (bitOf ctl 1 && s.ceSize c ≤ bitsOf ctl 16 16)
  || (kind == kSqOut && (len % 64 != 0 || (s.f (R.SQ_CFG_DRAIN q) != 0 && !s.sqServes c q)))
  || ((kind == kMemIn || kind == kMemOut) && 2 ^ 35 < dev + len)

/-- Whether a coach may take the descriptor at HEAD. -/
def State.ceFetches (s : State) (c : Nat) : Bool :=
  let x := s.coN c
  !s.pwr.hold && (s.ceState c == ceRunning || (s.ceState c == ceStopping && x.disabling)) && x.cur.isNone && !x.readBack && !x.sqReady
  && s.f (R.CE_PTR_HEAD c) != s.f (R.CE_PTR_TAIL c)

/-- The coach is DISABLED once the path from HEAD to TAIL is done (R461). -/
def State.ceDisableEnd (s : State) (c : Nat) : State :=
  if s.f (R.CE_PTR_HEAD c) != s.f (R.CE_PTR_TAIL c) then s
  else (s.setCo c { s.coN c with disabling := false, links := 0 }).setCe c ceDisabled

/-- Takes a readable descriptor at HEAD. -/
def State.ceTake (s : State) (c : Nat) (bs : List (BitVec 8)) : State :=
  let x := s.coN c
  let idx := s.f (R.CE_PTR_HEAD c)
  let w8 := leAt bs 8 4
  let len := bitsOf w8 0 25
  let ctl := leAt bs 12 4
  let dev := leAt bs 16 8
  let d : CoDesc := { idx := idx, host := leAt bs 0 8, len := len, ctl := ctl, dev := dev, loss := x.lossNext }
  let pure_ := bitOf ctl 1 && len == 0
  let step := fun (t : State) => t.setF (R.CE_PTR_HEAD c) (t.nextIdx c idx ctl)
  if x.disabling then
    if pure_ then
      if 8 ≤ x.links then (s.setF (R.CE_PTR_HEAD c) (s.f (R.CE_PTR_TAIL c))).ceDisableEnd c
      else (step (s.setCo c { x with links := x.links + 1 })).ceDisableEnd c
    else
      let s1 := s.setCo c { x with links := 0 }
      let s2 := if bitOf ctl 0 then s1.writeBack c { d with loss := false } stTargetReset else s1
      (step s2).ceDisableEnd c
  else if !bitOf ctl 0 then ((s.setCe c ceWaiting).incSat (R.CE_NOTOWN c)).setB (R.CE_STATUS_NOTOWN c) true
  else if s.descFaulty c len ctl dev (leAt bs 24 8) (bitsOf w8 25 7) then (s.writeBack c d stBadParam).ceHalt c stBadParam
  else if pure_ then
    if 8 ≤ x.links then s.ceHaltAt c stLinkLoop idx
    else (step (s.setCo c { x with links := x.links + 1 })).ceBoundary c
  else s.setCo c { x with cur := some d, links := 0, lossNext := false }

/-- The descriptor at HEAD has been read, or its read failed (R446, R463). -/
def descriptorProcess (c : Nat) (desc : HostRead) (s : State) : State :=
  if !s.ceFetches c then s
  else
    match desc with
    | some bs => s.ceTake c bs
    | none =>
      if (s.coN c).disabling then (s.setF (R.CE_PTR_HEAD c) (s.f (R.CE_PTR_TAIL c))).ceDisableEnd c
      else s.ceHaltAt c stHostNoresp (s.f (R.CE_PTR_HEAD c))

def execDescriptorProcess (c : Fin 64) (desc : HostRead) (s : State) : Out := .next (descriptorProcess c desc s)

/-! ## Bursts (R453 to R457) -/

/-- Entries of the housekeeping buffer that coach 63 has yet to copy. -/
def State.hkWaiting (s : State) : Nat := min 4096 (s.hk.written - s.hk.read)

/-- Whether the kind of a coach moves data to or from capture memory. -/
def memKind (kind : Nat) : Bool := kind == kMemIn || kind == kMemOut || kind == kAcqOut

/-- Whether a coach has a burst ready; capture memory that holds its requests makes it wait. -/
def State.ceReady (s : State) (c : Nat) : Bool :=
  let x := s.coN c
  let st := s.ceState c
  match x.cur with
  | none => false
  | some d =>
    let kind := s.ceKind c
    !(memKind kind && s.mcHeld) && (st == ceRunning || st == ceStopping) && !x.readBack && !x.sqReady && decide (d.done < d.len)
    && (if kind == kSqOut then s.sqServes c (bitsOf d.dev 0 5) && !(s.sqN (bitsOf d.dev 0 5)).pkts.isEmpty
        else if kind == kAcqOut then (match s.slotOfCoach c with
          | some n => (s.drainBurst n 4096).isSome
          | none => false)
        else if kind == kHkOut then s.flag R.HK_CTRL_MIRROR && decide (0 < s.hkWaiting)
        else true)

/-- The ready coach of a level that follows the one it served last. -/
def State.ceOfLevel (s : State) (lv : Nat) : Option Nat :=
  let last := (s.arb.last[lv]?).getD 63
  ((List.range 64).map (fun i => (last + 1 + i) % 64)).find? (fun c => s.f (R.CE_CTRL_PRIO c) == lv && s.ceReady c)

/-- The coach that the next grant goes to (R457), with its level. -/
def State.ceGrant (s : State) : Option (Nat × Nat) :=
  let g := s.arb.grant
  let first := (List.range 4).findSome? (fun lv => (s.ceOfLevel lv).map (fun c => (lv, c)))
  let own := if g == 5 then some 1 else if g == 10 then some 2 else if g == 15 then some 3 else none
  match own with
  | some lv => (match s.ceOfLevel lv with
    | some c => some (lv, c)
    | none => first)
  | none => first

/-- The bytes of a coach's next burst: at most 4 KiB, within a 4 KiB page of the host and the descriptor (R456). -/
def burstOf (d : CoDesc) : Nat := min (d.len - d.done) (4096 - (d.host + d.done) % 4096)

/-- A burst of `n` bytes is counted, and the descriptor ends when it is full. -/
def State.ceMoved (s : State) (c : Nat) (d : CoDesc) (n : Nat) : State :=
  let d1 := { d with done := d.done + n }
  let s1 := (s.setCo c { s.coN c with cur := some d1 }).addSat (R.CE_BYTES c) n
  if d1.len ≤ d1.done then s1.ceDone c else s1

/-- MEM_IN: host bytes go to capture memory through P2. -/
def State.burstMemIn (s : State) (c : Nat) (d : CoDesc) (bs : List (BitVec 8)) : State :=
  let part := (bs ++ List.replicate (burstOf d - bs.length) 0).take (burstOf d)
  let r := s.mcWrite 2 (0x80 + c) (s.blockSecure (0x80 + c)) (d.dev + d.done) part false
  if r.2 then r.1.ceMoved c d part.length else r.1.ceClose c stTargetReset

/-- MEM_OUT: capture memory goes to the host (R455). -/
def State.burstMemOut (s : State) (c : Nat) (d : CoDesc) (errs : List SecErr) : State :=
  let n := burstOf d
  let r := s.mcRead 2 (0x80 + c) (s.blockSecure (0x80 + c)) (d.dev + d.done) n errs
  if r.ok then (r.st.emit (.hostWrite (d.host + d.done) r.bytes)).ceMoved c { d with poison := d.poison || r.poison.any id } n
  else r.st.ceClose c stTargetReset

/-- SQ_OUT: bytes of the oldest packet go to the host (R453); a word of bad parity poisons the descriptor (R467). -/
def State.burstSqOut (s : State) (c : Nat) (d : CoDesc) (parity : Bool) : State :=
  let q := bitsOf d.dev 0 5
  let x := s.sqN q
  match x.pkts with
  | [] => s
  | p :: _ =>
    let part := (p.bytes.drop x.taken).take (burstOf d)
    let atEnd := 64 * p.lines ≤ x.taken + part.length
    let s1 := if parity then (s.incSat (R.SQ_POISON q)).setB (R.SQ_STATUS_POISON q) true else s
    let s2 := (s1.emit (.hostWrite (d.host + d.done) part)).sqTake q part.length
    let d1 := { d with poison := d.poison || parity, pktEnd := atEnd && (bitOf d.ctl 2 || d.len ≤ d.done + part.length) }
    let s3 := s2.ceMoved c d1 part.length
    match (s3.coN c).cur with
    | some e => if atEnd && bitOf d.ctl 2 && e.idx == d.idx && decide (e.done < e.len) then s3.ceDone c else s3
    | none => s3

/-- SQ_IN: host bytes join the packet being assembled (R454); at its EOP descriptor it waits for room, or is discarded. -/
def State.burstSqIn (s : State) (c : Nat) (d : CoDesc) (bs : List (BitVec 8)) : State :=
  let part := (bs ++ List.replicate (burstOf d - bs.length) 0).take (burstOf d)
  let x := s.coN c
  let d1 := { d with done := d.done + part.length }
  let all := x.sqin ++ part
  let s1 := s.addSat (R.CE_BYTES c) part.length
  if d1.done < d1.len then s1.setCo c { x with cur := some d1, sqin := all }
  else if !bitOf d.ctl 2 then
    let s2 := s1.setCo c { x with cur := none, sqin := all, sqDescs := x.sqDescs ++ [d1] }
    (s2.setF (R.CE_PTR_HEAD c) (s2.nextIdx c d.idx d.ctl)).ceBoundary c
  else
    let w := leAt all 0 4
    if bitsOf w 0 18 + 16 != all.length || bitsOf w 18 3 != 2 then
      let s2 := x.sqDescs.foldl (fun (t : State) e => t.writeBack c e stOk) s1
      (s2.setCo c { x with cur := some d1, sqin := [], sqDescs := [], sqLast := false }).ceClose c stBadParam
    else s1.setCo c { x with cur := some d1, sqin := all, sqReady := true }

/-- ACQ_OUT: units of the STREAM slot go to the host; once the last unit written has been read, the descriptor closes. -/
def State.burstAcqOut (s : State) (c : Nat) (d : CoDesc) (errs : List SecErr) : State :=
  match s.slotOfCoach c with
  | none => s
  | some n =>
    match s.drainBurst n (burstOf d) with
    | none => s
    | some (u, k) =>
      let len := k * s.unitBytes n
      let r := s.mcRead 2 (0x80 + c) (s.blockSecure (0x80 + c)) (s.unitAddr n u) len errs
      if !r.ok then r.st.ceClose c stTargetReset
      else
        let s1 := (r.st.emit (.hostWrite (d.host + d.done) r.bytes)).drainAdvance n k
        let s2 := s1.ceMoved c { d with poison := d.poison || r.poison.any id } len
        match (s2.coN c).cur with
        | some e => if e.idx == d.idx && decide (e.done < e.len) && s2.drainAtEnd n then s2.ceDone c else s2
        | none => s2

/-- HK_OUT: entries of the housekeeping buffer go to the host (R528). -/
def State.burstHkOut (s : State) (c : Nat) (d : CoDesc) : State :=
  let gap := s.hk.written - s.hk.read - 4096
  let rd := s.hk.read + gap
  let k := min (s.hk.written - rd) (burstOf d / 16)
  let bytes := (List.range k).flatMap (fun i => leBytes 16 (s.wordsAt (R.HK_BUF (4 * ((rd + i) % 4096))).off 4))
  let s1 := { s with hk := { s.hk with read := rd + k } }
  let s2 := if gap == 0 then s1 else s1.addSat R.HK_MIRROR_LOST gap
  let d1 := { d with loss := d.loss || decide (0 < gap) }
  if k == 0 then s2.setCo c { s2.coN c with cur := some d1 } else (s2.emit (.hostWrite (d.host + d.done) bytes)).ceMoved c d1 (16 * k)

/-- A burst of coach `c` (R456); host data that do not come halt it (R463). -/
def State.ceBurst (s : State) (c : Nat) (data : HostRead) (errs : List SecErr) (parity : Bool) : State :=
  match (s.coN c).cur with
  | none => s
  | some d =>
    let kind := s.ceKind c
    if kind == kMemIn || kind == kSqIn then
      match data with
      | none => s.ceHaltAt c stHostNoresp d.idx
      | some bs => if kind == kMemIn then s.burstMemIn c d bs else s.burstSqIn c d bs
    else if kind == kMemOut then s.burstMemOut c d errs
    else if kind == kSqOut then s.burstSqOut c d parity
    else if kind == kAcqOut then s.burstAcqOut c d errs
    else s.burstHkOut c d

/-- A grant (R457). -/
def coachBurstGrant (data : HostRead) (errs : List SecErr) (parity : Bool) (s0 : State) : State :=
  let asks := (List.range 64).any (fun c => memKind (s0.ceKind c) && (s0.coN c).cur.isSome && s0.ceState c == ceRunning)
  let s := if s0.mcOff && asks then s0.memWake else s0
  match s.ceGrant with
  | none => s
  | some (lv, c) =>
    let s1 : State := { s with arb := { grant := (s.arb.grant + 1) % 16, last := s.arb.last.set lv c } }
    s1.ceBurst c data errs parity

def execCoachBurstGrant (data : HostRead) (errs : List SecErr) (parity : Bool) (s : State) : Out :=
  .next (coachBurstGrant data errs parity s)

/-- The read-back returns, or fails (R451, R463). -/
def readBackReturn (c : Nat) (ok : Bool) (s : State) : State :=
  let x := s.coN c
  match x.readBack, x.cur with
  | true, some d =>
    if ok then s.ceClose c (if d.poison then stPoison else stOk)
    else s.ceHaltAt c stHostNoresp d.idx
  | _, _ => s

def execReadBackReturn (c : Fin 64) (ok : Bool) (s : State) : Out := .next (readBackReturn c ok s)

/-- The queue of an SQ_OUT descriptor that holds data has stayed empty for CLOSE_US (R453). -/
def descriptorCloseTimeout (c : Nat) (s : State) : State :=
  let x := s.coN c
  match x.cur with
  | none => s
  | some d =>
    let q := bitsOf d.dev 0 5
    let us := s.f (R.CE_CFG_CLOSE_US c)
    let y := s.sqN q
    if s.ceState c == ceHalted || s.ceKind c != kSqOut || us == 0 || d.done == 0 || x.readBack || !y.pkts.isEmpty || y.taken != 0
      || decide (s.clk.elapsed < y.emptyAt + us * 1000 * nsUnit) then s
    else (s.setCo c { x with cur := some { d with pktEnd := true } }).ceDone c

def execDescriptorCloseTimeout (c : Fin 64) (s : State) : Out := .next (descriptorCloseTimeout c s)

/-- The packet of an SQ_IN coach enters its queue once there is room, and its descriptors are written back (R452, R454);
a queue with another producer drops it (R469). A queue that was disabled while the packet came still takes it (R473). -/
def sqInPacketEnter (c : Nat) (s : State) : State :=
  let x := s.coN c
  match x.sqReady, x.cur with
  | true, some d =>
    let q := bitsOf d.dev 0 5
    let w := leAt x.sqin 0 4
    let p : SqPkt := { kind := 2, tcb := bitOf w 22, poison := bitOf w 21, index := leAt x.sqin 8 8, body := x.sqin.drop 16, time := s.now }
    if s.f (R.SQ_CFG_SRC q) == 2 && (!(s.flag (R.SQ_STATUS_RUNNING q) || x.sqLast) || !s.sqRoom q 2 p) then s
    else
      let s1 := (if x.sqLast then s.sqPut q 2 p else s.sqWrite q 2 p).1
      let s2 := x.sqDescs.foldl (fun (t : State) e => t.writeBack c e stOk) s1
      (s2.setCo c { x with sqin := [], sqDescs := [], sqReady := false, sqLast := false }).ceClose c stOk
  | _, _ => s

def execSqInPacketEnter (c : Fin 64) (s : State) : Out := .next (sqInPacketEnter c s)

/-! ## Doorbell, enable, stop, reset and disable (R445, R446, R458 to R461) -/

/-- A doorbell write (R446, R447, R465), past a boot that is over; through PF0 to a secure coach it is refused (R538). -/
def coachDoorbell (pf c v : Nat) (s : State) : State :=
  if s.f R.ID_BOOT_STAGE != 7 || (pf == 1 && !s.flag R.SEC_STATUS_PF1_EN) || !s.isRunning 0x66 then s
  else if pf == 0 && s.blockSecure (0x80 + c) then s.logRefused 0xFE 0 true (0x1000 * (16 + c))
  else if s.ceSize c ≤ v then s.setB (R.CE_STATUS_BAD_DB c) true
  else
    let s1 := s.setF (R.CE_PTR_TAIL c) v
    if s1.ceState c == ceWaiting then s1.setCe c ceRunning else s1

def execCoachDoorbell (pf : Fin 2) (c : Fin 64) (v : BitVec 32) (s : State) : Out := .next (coachDoorbell pf c v.toNat s)

/-- R539 for a coach: what it drains may not be secure when it is not; a secure coach may not feed what is not. -/
def State.ceCrosses (s : State) (c : Nat) : Bool :=
  let me := s.blockSecure (0x80 + c)
  let slots := (List.range 64).any (fun n => s.flag (R.ACQ_MODE_STREAM n) && !s.flag (R.ACQ_DRAIN_KIND n) && s.f (R.ACQ_DRAIN_NUM n) == c)
  let queues := (List.range 32).any (fun q => s.f (R.SQ_CFG_DRAIN q) == 1 && s.f (R.SQ_CFG_COACH q) == c && s.blockSecure (0xC0 + q))
  !me && ((s.ceKind c == kSqOut && queues) || (s.ceKind c == kAcqOut && slots && s.blockSecure 0x61)
    || (s.ceKind c == kHkOut && s.blockSecure 0x0F))

/-- EN = 1: the checks of R444 and R445. -/
def State.ceEnable (s : State) (c : Nat) : State :=
  let kind := s.ceKind c
  let lg := s.f (R.CE_CFG_LOG2 c)
  let bad := 6 ≤ kind || (kind == kHkOut && c != 63) || lg < 4 || 16 < lg || s.f (R.CE_RING_BASE c) % 32 != 0
  if s.ceCrosses c then (s.setB (R.CE_CTRL_EN c) false).setF (R.CE_STATUS_CAUSE c) stBadWorld
  else if bad then (s.setB (R.CE_CTRL_EN c) false).setF (R.CE_STATUS_CAUSE c) stBadParam
  else
    let s1 := ((s.setF (R.CE_PTR_HEAD c) 0).setF (R.CE_PTR_TAIL c) 0).setCo c {}
    s1.setCe c ceRunning

/-- EN = 0: the descriptor in progress returns TARGET_RESET, and then every owned one up to TAIL (R461). -/
def State.ceDisable (s : State) (c : Nat) : State :=
  let x := s.coN c
  let s1 := x.sqDescs.foldl (fun (t : State) e => t.writeBack c e stTargetReset) s
  let s2 := match x.cur with
    | some d => (s1.writeBack c d stTargetReset).setF (R.CE_PTR_HEAD c) (s1.nextIdx c d.idx d.ctl)
    | none => s1
  ((s2.setCo c { disabling := true }).setCe c ceStopping).ceDisableEnd c

/-- RESET: the coach is fenced, its descriptor is abandoned and restarts as R460 says by kind. -/
def State.ceReset (s : State) (c : Nat) : State :=
  let s0 := (s.fencePulse (0x80 + c)).setB (R.CE_CTRL_RESET c) false
  if s0.ceState c == ceDisabled || (s0.coN c).disabling then s0
  else
    let x := s0.coN c
    let kind := s0.ceKind c
    let redo := match x.sqDescs, x.cur with
      | e :: _, _ => e.idx
      | [], some d => d.idx
      | [], none => s0.f (R.CE_PTR_HEAD c)
    let s1 := s0.setF (R.CE_PTR_HEAD c) redo
    let s2 := match kind == kSqOut, x.cur with
      | true, some d =>
        let q := bitsOf d.dev 0 5
        let y := s1.sqN q
        let rest := match y.pkts with
          | p :: _ => if y.taken == 0 then 0 else 64 * p.lines - y.taken
          | [] => 0
        let t := if rest == 0 then s1 else s1.sqTake q rest
        t.addSat (R.CE_LOST c) d.done
      | _, _ => s1
    let s3 := if kind == kAcqOut then (match s2.slotOfCoach c with
      | some n => s2.setAcq n { s2.acqN n with drain := (s2.acqN n).drain.map (fun d => { d with rd := d.freed }) }
      | none => s2) else s2
    let lossy := match kind == kSqOut, x.cur with
      | true, some _ => true
      | _, _ => x.lossNext
    (s3.setCo c { lossNext := lossy, resetAt := some s.clk.cycles }).setCe c ceRunning

/-- What a write of CEc_CTRL does beyond its fields. `old` is the register before it. EN = 0 beside RESET takes effect after the reset
(R461), and a STOP in the control cycle of a RESET is discarded (R459). -/
def ceCtrlWritten (c old v : Nat) (s : State) : State :=
  let s0 := ((s.setB (R.CE_CTRL_STOP c) false).setB (R.CE_CTRL_START c) false).setB (R.CE_CTRL_RESET c) false
  if bitOf v 0 && !bitOf old 0 then
    if s0.ceState c == ceDisabled then s0.ceEnable c else s0.setB (R.CE_CTRL_EN c) false
  else if !bitOf v 0 && bitOf old 0 then (if bitOf v 3 then s0.ceReset c else s0).ceDisable c
  else if bitOf v 3 then s0.ceReset c
  else if !bitOf v 0 then s0
  else if bitOf v 1 && (s0.coN c).resetAt != some s0.clk.cycles then
    let st := s0.ceState c
    if st == ceRunning || st == ceWaiting then
      if (s0.coN c).cur.isSome then (s0.setCo c { s0.coN c with stop := true }).setCe c ceStopping else s0.setCe c ceStopped
    else s0
  else if bitOf v 2 && s0.ceState c == ceStopped then s0.setCe c ceRunning
  else s0

/-- A queue's fence block enters FENCED (R473): it empties, and a descriptor that drains it returns TARGET_RESET; that of a
halted coach stays with it (R463). -/
def State.sqFence (s : State) (q : Nat) : State :=
  let s1 := (List.range 64).foldl (fun (t : State) c =>
    match (t.coN c).cur with
    | some d => if t.ceState c != ceHalted && t.ceKind c == kSqOut && bitsOf d.dev 0 5 == q then t.ceClose c stTargetReset else t
    | none => t) s
  s1.sqClear q

/-- The PCIe endpoint is fenced, or one world's function is reset: a coach is fenced and ends as a disabled one, which
returns its owned descriptors (R28, R417, R461). -/
def State.cePcieReset (s : State) (c : Nat) : State :=
  if s.ceState c == ceDisabled then s
  else (((s.fencePulse (0x80 + c)).setB (R.CE_CTRL_EN c) false)).ceDisable c

end Sys2Proof.Machine
end

