-- ==== Sys2Proof/Machine/Ethernet.lean ====
section
/-!
DEFINITION. Ethernet ports (spec/13_coaches_and_streams.md, R474 to R482, and spec/10_time_interval_and_network_time.md,
R372 to R378): link state, received frames and PTP messages, VITA 49.2 packets, egress order, time control blocks and
timed launch.
-/
namespace Sys2Proof.Machine

/-- An Ethernet port. -/
def State.ethN (s : State) (p : Nat) : EthSt := tget (fun _ => {}) s.eth p

/-- Replaces an Ethernet port. -/
def State.setEth (s : State) (p : Nat) (x : EthSt) : State := { s with eth := tset (fun _ => {}) s.eth p x }

/-- The `n` big-endian bytes of a value (network byte order). -/
def beBytes (n v : Nat) : List (BitVec 8) := (leBytes n v).reverse

/-- The big-endian value of `n` bytes at offset `o`. -/
def beAt (bs : List (BitVec 8)) (o n : Nat) : Nat := leNat ((bs.drop o).take n).reverse

/-- A byte list with the bytes from offset `o` replaced. -/
def putAt (bs : List (BitVec 8)) (o : Nat) (x : List (BitVec 8)) : List (BitVec 8) := bs.take o ++ x ++ bs.drop (o + x.length)

/-! ## Ports (R474, Table 13-5) -/

/-- Rate of a PHY in Gb/s (Table 13-5). -/
def phyRate (phy : Nat) : Nat :=
  if phy == 0 then 10 else if phy ≤ 2 then 25 else if phy ≤ 4 then 50 else if phy ≤ 7 then 100 else 400

/-- Rate of a port in Gb/s. -/
def State.ethRate (s : State) (p : Nat) : Nat := phyRate (s.f (R.ETH_PORT_CFG_PHY p))

/-- What holds a port down by its settings (R474): 1 BELDOR, 2 PHY, 0 nothing. -/
def State.ethHeld (s : State) (p : Nat) : Nat :=
  let one := s.f (R.ETH_QUAD_CFG_MODE (p / 4)) == 1
  let phy := s.f (R.ETH_PORT_CFG_PHY p)
  let lanes := s.f R.CL_LANES_LANES
  let beldor := if one then bitsOf lanes (4 * (p / 4)) 4 != 0 else bitOf lanes p
  let fits := if one then p % 4 == 0 && (phy == 8 || phy == 9) else decide (phy ≤ 7) && phy != 5
  if beldor then 1 else if !fits then 2 else 0

/-- STATUS follows the port's settings: a disabled or held port is down (R474). -/
def State.ethSync (s : State) (p : Nat) : State :=
  let h := s.ethHeld p
  if s.flag (R.ETH_PORT_CFG_EN p) && h == 0 then s
  else
    let s1 := (s.setB (R.ETH_PORT_STATUS_UP p) false).setB (R.ETH_PORT_STATUS_PAUSED p) false
    s1.setF (R.ETH_PORT_STATUS_FAIL p) (if s.flag (R.ETH_PORT_CFG_EN p) then h else 0)

/-- The STATUS of all ports follows a write of CL_LANES or ETH_QUADg_CFG. -/
def State.ethSyncAll (s : State) : State := (List.range 16).foldl State.ethSync s

/-- A change on the line of a port (R474): FAIL takes the first reason that holds, and UP is set when none does. -/
def ethLinkChange (p : Nat) (line an : Bool) (s : State) : State :=
  if !s.flag (R.ETH_PORT_CFG_EN p) || s.ethHeld p != 0 then s.ethSync p
  else
    let fail := if s.flag (R.ETH_PORT_CFG_AN p) && !an then 3 else if !line || !s.isRunning (0x67 + p / 4) then 4 else 0
    let s1 := (s.setF (R.ETH_PORT_STATUS_FAIL p) fail).setB (R.ETH_PORT_STATUS_UP p) (fail == 0)
    if fail == 0 then s1 else s1.setB (R.ETH_PORT_STATUS_PAUSED p) false

def execEthLinkChange (p : Fin 16) (line an : Bool) (s : State) : Out := .next (ethLinkChange p line an s)

/-! ## PTP messages (Table 10-4) -/

/-- Where a frame's Ethertype stands: after an 802.1Q tag if it has one. -/
def typeAt (fr : List (BitVec 8)) : Nat := if beAt fr 12 2 == 0x8100 then 16 else 12

/-- A frame's PTP message: transport (0 layer 2, 1 UDP over IPv4, 2 UDP over IPv6), the offset of the message, the
offset of the IP header, and whether it is an event message (Table 10-4). -/
def ptpOf (fr : List (BitVec 8)) : Option (Nat × Nat × Nat × Bool) :=
  let t := typeAt fr
  let ty := beAt fr t 2
  let ip := t + 2
  if ty == 0x88F7 then some (0, ip, ip, decide (bitsOf (leAt fr ip 1) 0 4 < 8))
  else if ty == 0x0800 && leAt fr (ip + 9) 1 == 17 then
    let udp := ip + 4 * bitsOf (leAt fr ip 1) 0 4
    let port := beAt fr (udp + 2) 2
    if port == 319 || port == 320 then some (1, udp + 8, ip, port == 319) else none
  else if ty == 0x86DD && leAt fr (ip + 6) 1 == 17 then
    let port := beAt fr (ip + 42) 2
    if port == 319 || port == 320 then some (2, ip + 48, ip, port == 319) else none
  else none

/-- Whether port `p` stamps a transport (NT_PORTp_CTRL). -/
def State.ptpOn (s : State) (p transport : Nat) : Bool :=
  s.flag (if transport == 0 then R.NT_PORT_CTRL_L2 p else if transport == 1 then R.NT_PORT_CTRL_UDP4 p else R.NT_PORT_CTRL_UDP6 p)

/-- A time less or more a signed number of 2^-16 ns. -/
def shiftTime (t : Nat) (d : Int) : Nat := (((t : Int) + d * 2 ^ 32) % (ptimeSpan : Int)).toNat

/-- The ingress stamp of an event message (R372): the fixed latency is removed and the asymmetry added. -/
def State.ingressStamp (s : State) (p arr : Nat) : Nat :=
  let t := shiftTime arr (s.fi (R.NT_PORT_ASYM p) - (s.f (R.NT_PORT_RXLAT p) : Int))
  t / 2 ^ 32 * 2 ^ 32

/-- The egress stamp (R372): the fixed latency from the stamping point to the MDI is added. -/
def State.egressStamp (s : State) (p tx : Nat) : Nat := shiftTime tx (s.f (R.NT_PORT_TXLAT p)) / 2 ^ 32 * 2 ^ 32

/-- A received frame becomes a record of product `prod` on queue `q` (R373, R474). SEQ and SAMPLE_INDEX are free. -/
def State.rxRecord (s : State) (p q prod pt : Nat) (fr : List (BitVec 8)) : State :=
  let key := 16 * prod + p
  let lost := tget (fun _ => false) s.rxLost key
  let fl := flagIf (s.flag R.TB_STATE_HOLDOVER) fHOLDOVER ||| flagIf lost fDROPPED
  let free := (Config.freeWord s.fresh).toNat
  let h : RecHead := { magic := 0x4E54, context := p, product := prod, seq := free % 2 ^ 32, ptime := pt, index := free / 2 ^ 32 % 2 ^ 64, flags := fl }
  let r := s.next.sqRecord q (recordBytes h fr) pt fl false
  { r.1 with rxLost := tset (fun _ => false) r.1.rxLost key (!r.2) }

/-- A PAUSE frame's quanta of 512 bit times, if the frame is one (R474, IEEE 802.3). -/
def pauseOf (fr : List (BitVec 8)) : Option Nat :=
  if beAt fr 12 2 == 0x8808 && beAt fr 14 2 == 1 then some (beAt fr 16 2) else none

/-- A frame with its FCS, inverted when it is to be bad (R467, R476). PRESUMED (log entry 94): the CRC-32 of IEEE 802.3 over the frame,
little-endian. -/
def withFcs (fr : List (BitVec 8)) (good : Bool) : List (BitVec 8) :=
  fr ++ leBytes 4 (if good then crc32 fr else crc32 fr ^^^ 0xFFFFFFFF)

/-- Whether the last four bytes of a received frame are its FCS. -/
def fcsHolds (all : List (BitVec 8)) : Bool :=
  let fr := all.take (all.length - 4)
  decide (4 ≤ all.length) && crc32 fr == leAt all (all.length - 4) 4

/-- A port receives a frame with its FCS (R373, R474); `uncorr` tells of a codeword that the PHY could not correct. -/
def State.ethRx (s0 : State) (p : Nat) (all : List (BitVec 8)) (uncorr : Bool) (arr : Nat) : State :=
  let s := if uncorr && s0.flag (R.ETH_PORT_STATUS_UP p) then s0.incSat (R.ETH_PORT_FEC_UNCORR p) else s0
  if !s.flag (R.ETH_PORT_STATUS_UP p) then s
  else if !fcsHolds all then s.incSat (R.ETH_PORT_RX_FCS_ERR p)
  else
    let fr := all.take (all.length - 4)
    let s1 := s.incSat (R.ETH_PORT_RX_FRAMES p)
    let other : State :=
      if s1.flag R.ETH_CTRL_RX_ALL then s1.rxRecord p (s1.f R.ETH_CTRL_RX_SQ) 2 arr fr else s1.incSat (R.ETH_PORT_RX_DISCARD p)
    match pauseOf fr with
    | some quanta =>
      if s1.flag (R.ETH_PORT_CFG_PAUSE p) then
        let till := s1.clk.elapsed + quanta * 512 * nsUnit / s1.ethRate p
        (s1.setEth p { s1.ethN p with pausedUntil := till }).setB (R.ETH_PORT_STATUS_PAUSED p) (quanta != 0)
      else other
    | none =>
      match ptpOf fr with
      | none => other
      | some (tr, _, _, event) =>
        if s1.flag R.NT_CTRL_RX_EN && s1.flag (R.NT_PORT_CTRL_TS_EN p) && s1.ptpOn p tr then
          s1.rxRecord p (s1.f R.NT_CTRL_RX_SQ) 1 (if event then s1.ingressStamp p arr else arr) fr
        else other

def execPtpRx (p : Fin 16) (frame : List (BitVec 8)) (uncorr : Bool) (arr : BitVec 128) (s : State) : Out :=
  .next (s.ethRx p frame uncorr (ptOf128 arr.toNat))

def execEthRxFrame (p : Fin 16) (frame : List (BitVec 8)) (uncorr : Bool) (arr : BitVec 128) (s : State) : Out :=
  .next (s.ethRx p frame uncorr (ptOf128 arr.toNat))

/-! ## Checksums and the template (R475) -/

/-- The sum of 16-bit words in network order. -/
def wordSum : List (BitVec 8) → Nat
  | a :: b :: rest => 256 * a.toNat + b.toNat + wordSum rest
  | [a] => 256 * a.toNat
  | [] => 0

/-- The 16-bit one's complement sum of bytes in network order. -/
def inetSum (bs : List (BitVec 8)) : Nat :=
  let n := wordSum bs
  let n1 := n % 65536 + n / 65536
  let n2 := n1 % 65536 + n1 / 65536
  n2 % 65536 + n2 / 65536

/-- The Internet checksum of bytes. -/
def inetCsum (bs : List (BitVec 8)) : Nat := 65535 - inetSum bs

/-- The UDP checksum of a datagram whose checksum field is 0, with its pseudo header; 0 is sent as 0xFFFF. -/
def udpCsum (addrs udp : List (BitVec 8)) : Nat :=
  let c := inetCsum (addrs ++ [0, 17] ++ beBytes 4 udp.length ++ udp)
  if c == 0 then 65535 else c

/-- A frame with its UDP checksum set: `ip` is the offset of its IPv4 or IPv6 header. -/
def setUdpCsum (fr : List (BitVec 8)) (v6 : Bool) (ip udp : Nat) : List (BitVec 8) :=
  let fr0 := putAt fr (udp + 6) [0, 0]
  let addrs := if v6 then (fr0.drop (ip + 8)).take 32 else (fr0.drop (ip + 12)).take 8
  putAt fr0 (udp + 6) (beBytes 2 (udpCsum addrs ((fr0.drop udp).take (beAt fr0 (udp + 4) 2))))

/-- The template of a queue as bytes. -/
def State.template (s : State) (q : Nat) : List (BitVec 8) :=
  ((List.range 32).foldr (fun k acc => leBytes 4 (s.f (R.ETH_SQ_TPL q k)) ++ acc) []).take (s.f (R.ETH_SQ_HDR_TPL_LEN q))

/-- A frame of a queue: the template with the fields of R475 filled, and the payload. -/
def State.templateFrame (s : State) (q ident : Nat) (payload : List (BitVec 8)) : List (BitVec 8) :=
  let l2 := 14 + (if s.flag (R.ETH_SQ_HDR_VLAN q) then 4 else 0)
  let l3 := s.f (R.ETH_SQ_HDR_L3 q)
  let fr := s.template q ++ payload
  let n := payload.length
  if l3 == 1 then
    let f1 := putAt (putAt (putAt fr (l2 + 2) (beBytes 2 (28 + n))) (l2 + 4) (beBytes 2 ident)) (l2 + 10) [0, 0]
    let f2 := putAt f1 (l2 + 10) (beBytes 2 (inetCsum ((f1.drop l2).take 20)))
    let f3 := putAt (putAt f2 (l2 + 24) (beBytes 2 (8 + n))) (l2 + 26) [0, 0]
    if s.flag (R.ETH_SQ_HDR_UDP_CSUM q) then setUdpCsum f3 false l2 (l2 + 20) else f3
  else if l3 == 2 then
    let f1 := putAt (putAt fr (l2 + 4) (beBytes 2 (8 + n))) (l2 + 44) (beBytes 2 (8 + n))
    setUdpCsum f1 true l2 (l2 + 40)
  else fr

/-! ## VITA 49.2 packets (R477 to R480, Table 13-6) -/

/-- A VITA packet: header word, stream identifier, class ID, TSI and TSF, then the payload in 32-bit words. -/
def State.vita (s : State) (q type_ count pclass pt : Nat) (payload : List (BitVec 8)) : List (BitVec 8) :=
  let pad := ceilDiv payload.length 4 * 4 - payload.length
  let words := 7 + ceilDiv payload.length 4
  let head := 2 ^ 28 * type_ + 2 ^ 27 + 2 ^ 22 + 2 ^ 21 + 2 ^ 16 * (count % 16) + words % 65536
  let cls := 2 ^ 59 * (8 * pad) + 2 ^ 32 * s.f R.ETH_VRT_OUI_OUI + 2 ^ 16 * s.f (R.ETH_SQ_CLASS_INFO q) + pclass
  let tsi := wrapInt 32 ((ptSec pt : Int) - s.fi R.ETH_UTC_OFS)
  let tsf := 1000 * ptNs pt + ptFrac pt * 1000 / 2 ^ 32
  beBytes 4 head ++ beBytes 4 (s.f (R.ETH_SQ_SID q)) ++ beBytes 8 cls ++ beBytes 4 tsi ++ beBytes 8 tsf
  ++ payload ++ List.replicate pad 0

/-- The largest frame of a port, with header and FCS (Table of registers: clamped). -/
def State.maxFrame (s : State) (p : Nat) : Nat := clampNat 1518 9216 (s.f (R.ETH_PORT_CFG_MAX_FRAME p))

/-- P_max of R478. -/
def State.pMax (s : State) (p q : Nat) : Nat := (s.maxFrame p - 4 - s.f (R.ETH_SQ_HDR_TPL_LEN q) - 28) / 24 * 24

/-- A list cut into pieces of `n`, each with its number. -/
def chunks (n : Nat) : Nat → Nat → List (BitVec 8) → List (Nat × List (BitVec 8))
  | 0, _, _ => []
  | fuel + 1, k, bs => if bs.length ≤ n then [(k, bs)] else (k, bs.take n) :: chunks n fuel (k + 1) (bs.drop n)

/-- PTIME of the part of a packet that starts `o` bytes into its body (R478): raw and slot data carry the time of the
part's own first sample or unit. -/
def State.partTime (s : State) (q : Nat) (k : SqPkt) (o : Nat) : Nat :=
  if k.kind == 1 then (k.time + s.spanTime (256 * (o * 2 / 3))) % ptimeSpan
  else if k.kind == 4 then
    match s.slotOfQueue q with
    | none => k.time
    | some n =>
      let d : Int := (s.unitTime n (k.index + o / s.unitBytes n) : Int) - s.unitTime n k.index
      (((k.time : Int) + d) % (ptimeSpan : Int)).toNat
  else k.time

/-- The indicators of a queue's context packets (R479): Calibrated Time, Reference Lock, Over-range, Sample Loss. -/
def State.indicators (s : State) (q : Nat) : Nat :=
  let x := s.sqN q
  let on := fun (b : Bool) (i : Nat) => if b then 2 ^ i else 0
  2 ^ 31 + 2 ^ 29 + 2 ^ 25 + 2 ^ 24 + on (!s.flag R.TB_STATE_HOLDOVER) 19 + on (s.flag R.CLK_STATUS_LOCKED) 17 + on x.sat 13 + on x.loss 12

/-- F_S in units of 2^-20 Hz (R32, the settings in use). -/
def State.sampleRate20 (s : State) : Nat := 50000000 * (s.clk.nint * 2 ^ 32 + s.clk.nfrac) / 2 ^ 12

/-- The Sample Rate that a context packet of a queue carries: only one of a raw stream does. -/
def State.ctxRate (s : State) (q : Nat) : Nat := if s.f (R.SQ_CFG_SRC q) == 1 then s.sampleRate20 else 0

/-- The fields of a context packet after its prefix (R479). The payload format of a queue that is not raw is free. -/
def State.contextBody (s : State) (q : Nat) (changed : Bool) : List (BitVec 8) :=
  let raw := s.f (R.SQ_CFG_SRC q) == 1
  let cif := (if changed then 2 ^ 31 else 0) + (if raw then 2 ^ 29 + 2 ^ 21 else 0) + 2 ^ 16 + 2 ^ 15
  let rates := if raw then beBytes 8 (s.sampleRate20 / 2) ++ beBytes 8 s.sampleRate20 else []
  let fmt := if raw then 2 ^ 63 + 2 ^ 38 * 11 + 2 ^ 32 * 11 else (Config.freeWord s.fresh).toNat % 2 ^ 64
  beBytes 4 cif ++ rates ++ beBytes 4 (s.indicators q) ++ beBytes 8 fmt

/-! ## Egress (R376, R481, R482) -/

/-- The time that a frame of `n` bytes with its FCS takes on the wire, with preamble and gap, in 2^-48 ns. -/
def State.wireTime (s : State) (p n : Nat) : Nat := (n + 20) * 8 * nsUnit / s.ethRate p

/-- The time for which the frames given to a port still occupy its wire. -/
def State.wireLeft (s : State) (p : Nat) : Nat := (s.ethN p).busyUntil - s.clk.elapsed

/-- The port that a queue sends its next packet to (R481): of the named ports, the one with the fewest bytes waiting,
the lowest on a tie. -/
def State.targetPort (s : State) (q : Nat) : Option Nat :=
  (setBits 16 (s.f (R.SQ_PORTS_PORTS q))).foldl (fun best p =>
    match best with
    | none => some p
    | some b => if s.wireLeft p * s.ethRate p < s.wireLeft b * s.ethRate b then some p else some b) none

/-- The time control block at the head of a packet's body (R374): LAUNCH, TAG, TIMED, TS_REQ, ONE_STEP. -/
structure Tcb where
  launch : Nat
  tag : Nat
  timed : Bool
  tsReq : Bool
  oneStep : Bool

/-- The time control block of a packet, if it carries one. -/
def SqPkt.block (k : SqPkt) : Option Tcb :=
  if !k.tcb then none
  else
    let b := leAt k.body 18 1
    some ⟨ptOf128 (leAt k.body 0 16), leAt k.body 16 2, bitOf b 0, bitOf b 1, bitOf b 2⟩

/-- The frame of a KIND 2 packet: its body after any TCB (R476). -/
def SqPkt.frame (k : SqPkt) : List (BitVec 8) := if k.tcb then k.body.drop 32 else k.body

/-- The timed frame at the head of a queue of the Ethernet drain. -/
def State.timedHead (s : State) (q : Nat) : Option Tcb :=
  if s.f (R.SQ_CFG_DRAIN q) != 2 then none
  else match (s.sqN q).pkts with
    | [] => none
    | k :: _ => match k.block with
      | none => none
      | some b => if k.kind == 2 && b.timed then some b else none

/-- Whether a frame of `n` bytes started now on port `p` would still be on the wire at the LAUNCH of a timed frame that
stands at the head of its queue (R482). -/
def State.launchBars (s : State) (p n : Nat) : Bool :=
  (List.range 32).any (fun q =>
    match s.timedHead q with
    | none => false
    | some b => (s.sqN q).timed == 1 && s.targetPort q == some p && decide (b.launch < s.now + s.wireTime p n))

/-- The whole oldest packet leaves a queue. -/
def State.sqPop (s : State) (q : Nat) : State :=
  match (s.sqN q).pkts with
  | [] => s
  | k :: _ =>
    let s1 := s.sqTake q (64 * k.lines - (s.sqN q).taken)
    s1.setSq q { s1.sqN q with timed := 0 }

/-- A port sends a frame, given without its FCS, whose first bit leaves at `pt`; one with bad parity leaves with its FCS inverted (R467). -/
def State.ethSend (s : State) (p pt : Nat) (fr : List (BitVec 8)) (good : Bool) : State :=
  let n := fr.length + 4
  let x := s.ethN p
  let s1 := (s.emit (.frame p (withFcs fr good) pt)).setEth p { x with busyUntil := max x.busyUntil s.clk.elapsed + s.wireTime p n }
  let s2 := (s1.incSat (R.ETH_PORT_TX_FRAMES p)).addSat (R.ETH_PORT_TX_BYTES p) n
  if good then s2 else s2.incSat (R.ETH_PORT_STOMPED p)

/-- PTIME at which a port can start its next frame. -/
def State.nextStart (s : State) (p : Nat) : Nat := (s.now + s.wireLeft p) % ptimeSpan

/-- Sends payloads in the template of a queue, one frame each (R475); `bad` names the part with bad parity. -/
def State.ethParts (s : State) (p q : Nat) (bad : Option Nat) : List (Nat × List (BitVec 8)) → State
  | [] => s
  | (k, payload) :: rest =>
    let x := s.sqN q
    let s1 := s.setSq q { x with ident := (x.ident + 1) % 65536 }
    State.ethParts (s1.ethSend p (s1.nextStart p) (s.templateFrame q x.ident payload) (bad != some k)) p q bad rest

/-- A Sync message with the egress stamp written in flight (R375), or none for another frame. -/
def oneStepFrame (fr : List (BitVec 8)) (stamp : Nat) : Option (List (BitVec 8)) :=
  match ptpOf fr with
  | none => none
  | some (tr, m, ip, _) =>
    if bitsOf (leAt fr m 1) 0 4 != 0 then none
    else
      let f1 := putAt fr (m + 34) (beBytes 6 (ptSec stamp % 2 ^ 48) ++ beBytes 4 (ptNs stamp))
      let f2 := putAt f1 (m + 8) (beBytes 8 ((beAt f1 (m + 8) 8 + ptFrac stamp / 2 ^ 16) % 2 ^ 64))
      if tr == 0 then some f2
      else if tr == 1 then some (if beAt f2 (m - 2) 2 == 0 then f2 else setUdpCsum f2 false ip (m - 8))
      else some (setUdpCsum f2 true ip (m - 8))

/-- Sends the frame of a KIND 2 packet whose first bit leaves at `first` and whose time-stamp point is seen at `tx`;
`late` is the status of its egress stamp (R375, R376, R378, R476). -/
def State.ethHostFrame (s : State) (p : Nat) (k : SqPkt) (bad : Bool) (first tx late : Nat) : State :=
  let stamp := s.egressStamp p tx
  if s.maxFrame p - 4 < k.frame.length then s.incSat (R.ETH_PORT_TX_DISCARD p)
  else
    match k.block with
    | none => s.ethSend p first k.frame (!bad)
    | some b =>
      let one := if b.oneStep then oneStepFrame k.frame stamp else none
      let s1 := s.ethSend p first (one.getD k.frame) (!bad)
      if b.tsReq || one.isSome || late != 0 then s1.txtsPush ⟨b.tag, p, late, stamp⟩ else s1

/-- Sends the oldest packet of a queue on a port, with all its parts (R477, R478). -/
def State.ethPacket (s : State) (p q : Nat) (k : SqPkt) (bad : Option Nat) (tx late : Nat) : State :=
  let s1 := if bad.isSome then s.incSat (R.SQ_POISON q) else s
  let s2 := if bad.isSome then s1.setB (R.SQ_STATUS_POISON q) true else s1
  if k.kind == 2 then s2.ethHostFrame p k bad.isSome (s2.nextStart p) tx late
  else
    let x := s2.sqN q
    let cs := chunks (s2.pMax p q) (k.body.length + 1) 0 k.body
    let parts := cs.map (fun c => (c.1, s2.vita q 1 (x.countData + c.1) (0x100 + k.kind) (s2.partTime q k (c.1 * s2.pMax p q)) c.2))
    (s2.setSq q { x with countData := (x.countData + cs.length) % 16, sentFlags := x.sentFlags ||| k.flags }).ethParts p q bad parts

/-- Whether a port may start a frame now: up, not held by PAUSE, nothing of it on the wire. -/
def State.ethFree (s : State) (p : Nat) : Bool :=
  s.flag (R.ETH_PORT_STATUS_UP p) && !s.flag (R.ETH_PORT_STATUS_PAUSED p) && decide ((s.ethN p).busyUntil ≤ s.clk.elapsed)
  && s.isRunning (0x67 + p / 4)

/-- Whether the head packet of a queue may leave on a port now. -/
def State.mayLeave (s : State) (p q : Nat) : Bool :=
  let x := s.sqN q
  match x.pkts with
  | [] => false
  | k :: _ =>
    let n := if k.kind == 2 then k.frame.length + 4 else min (s.maxFrame p) (s.f (R.ETH_SQ_HDR_TPL_LEN q) + 28 + k.body.length + 4)
    s.f (R.SQ_CFG_DRAIN q) == 2 && s.targetPort q == some p && (!(s.timedHead q).isSome || x.timed == 2)
    && !s.launchBars p n && s.isRunning (0xC0 + q)

/-- The next queue that a port serves, round-robin (R481). -/
def State.nextQueue (s : State) (p : Nat) : Option Nat :=
  ((List.range 32).map (fun i => ((s.ethN p).last + 1 + i) % 32)).find? (fun q => s.mayLeave p q)

/-- A port sends the next queue packet (R481). -/
def ethEgress (p : Nat) (bad : Option Nat) (tx : Nat) (s : State) : State :=
  if !s.ethFree p then s
  else
    match s.nextQueue p with
    | none => s
    | some q =>
      match (s.sqN q).pkts with
      | [] => s
      | k :: _ =>
        let late := if (s.sqN q).timed == 2 then 1 else 0
        ((s.setEth p { s.ethN p with last := q }).ethPacket p q k bad tx late).sqPop q

def execEthEgress (p : Fin 16) (bad : Option (Fin 256)) (tx : BitVec 128) (s : State) : Out :=
  .next (ethEgress p (bad.map (fun b => b.val)) (ptOf128 tx.toNat) s)

/-! ## Timed launch (R377, R378) -/

/-- A timed frame is late: counted, stamped, and discarded or sent at once by LATE_POL. -/
def State.timedLate (s : State) (q : Nat) (b : Tcb) : State :=
  let s1 := s.incSat R.NT_LAUNCH_LATE
  let port := (s.targetPort q).getD 0
  if s1.flag R.NT_CTRL_LATE_POL then s1.setSq q { s1.sqN q with timed := 2 }
  else ((s1.next).txtsPush ⟨b.tag, port, 2, ptOf128 (Config.freeWord s1.fresh).toNat⟩).sqPop q

/-- Judges the timed frame at the head of a queue: when it has just reached the head, and when a step has carried PTIME
past its LAUNCH. -/
def State.judgeTimed (s : State) (q : Nat) : State :=
  match s.timedHead q with
  | none => s
  | some b =>
    let x := s.sqN q
    if x.timed == 0 then
      if b.launch < s.now + 2000 * nsUnit then s.timedLate q b
      else s.setSq q { x with timed := 1, timedSteps := s.clk.steps }
    else if x.timed == 1 then
      if s.now < b.launch then s.setSq q { x with timedSteps := s.clk.steps }
      else if x.timedSteps != s.clk.steps then s.timedLate q b else s
    else s

/-- A PAUSE that has ended. -/
def State.endPause (s : State) (p : Nat) : State :=
  if s.flag (R.ETH_PORT_STATUS_PAUSED p) && decide ((s.ethN p).pausedUntil ≤ s.clk.elapsed)
  then s.setB (R.ETH_PORT_STATUS_PAUSED p) false else s

/-- What the Ethernet ports do at each control cycle. -/
def State.ethTick (s : State) : State :=
  (List.range 32).foldl State.judgeTimed ((List.range 16).foldl State.endPause s)

/-- PTIME of the first bit of a timed frame whose LAUNCH has come: within its deviation of LAUNCH; where the port was not free then, at
the instant at which it became so. -/
def State.launchStart (s : State) (p launch : Nat) (dev : Int) : Nat :=
  let x := s.ethN p
  let free := min s.clk.elapsed (max x.busyUntil x.pausedUntil)
  if free + (s.now - launch) ≤ s.clk.elapsed then shiftTime launch dev else (s.now - (s.clk.elapsed - free)) % ptimeSpan

/-- PTIME has reached LAUNCH: the timed frame leaves (R377). -/
def timedLaunch (q : Nat) (dev : Int) (tx : Nat) (s : State) : State :=
  match s.timedHead q, (s.sqN q).pkts, s.targetPort q with
  | some b, k :: _, some p =>
    if (s.sqN q).timed != 1 || decide (s.now < b.launch) || !s.ethFree p then s
    else (s.ethHostFrame p k false (s.launchStart p b.launch dev) tx 0).sqPop q
  | _, _, _ => s

def execTimedLaunch (q : Fin 32) (dev : Fin 524289) (tx : BitVec 128) (s : State) : Out :=
  .next (timedLaunch q ((dev.val : Int) - 262144) (ptOf128 tx.toNat) s)

/-! ## Context packets (R479, R480) -/

/-- Whether a context packet of a queue is due: at its enable, after its period, at a change of a field. -/
def State.contextDue (s : State) (q : Nat) : Bool :=
  let x := s.sqN q
  let period := s.f (R.ETH_SQ_CTXP_MS q)
  s.f (R.SQ_CFG_DRAIN q) == 2 && s.flag (R.SQ_STATUS_RUNNING q)
  && (x.ctxDue || s.indicators q != x.ctxInd || s.ctxRate q != x.ctxRate || (period != 0 && decide (x.ctxAt + period * 1000000 * nsUnit ≤ s.clk.elapsed)))

/-- The payload of an extension context packet (R480). -/
def State.extensionBody (s : State) (q : Nat) : List (BitVec 8) :=
  leBytes 16 (pt128 s.now) ++ leBytes 8 s.clk.sampleIdx ++ leBytes 4 (s.sqN q).sentFlags ++ leBytes 4 0

/-- A context packet that is due leaves, and its extension context packet after it (R479, R480). -/
def contextPacket (q : Nat) (s : State) : State :=
  match s.targetPort q with
  | none => s
  | some p =>
    if !s.contextDue q || !s.ethFree p || s.launchBars p 500 then s
    else
      let x := s.sqN q
      let ind := s.indicators q
      let c := s.vita q 4 x.countCtx 0x100 s.now (s.contextBody q (x.ctxDue || ind != x.ctxInd || s.ctxRate q != x.ctxRate))
      let e := s.vita q 5 x.countExt 0x200 s.now (s.extensionBody q)
      let x1 : SqSt := { x with countCtx := (x.countCtx + 1) % 16, countExt := (x.countExt + 1) % 16, ctxDue := false, ctxAt := s.clk.elapsed, ctxInd := ind, ctxRate := s.ctxRate q, sat := false, loss := false, sentFlags := 0 }
      (s.next.setSq q x1).ethParts p q none [(0, c), (1, e)]

def execContextPacket (q : Fin 32) (s : State) : Out := .next (contextPacket q s)

/-! ## Flush (R472) -/

/-- The host frames that a flush discards and that asked for a stamp enter the egress stamp FIFO with status 3. -/
def State.flushStamps (s : State) (q : Nat) : List SqPkt → State
  | [] => s
  | k :: rest =>
    match k.block with
    | some b =>
      if s.f (R.SQ_CFG_DRAIN q) == 2 && (b.tsReq || b.oneStep || b.timed) then
        State.flushStamps ((s.next).txtsPush ⟨b.tag, (s.targetPort q).getD 0, 3, ptOf128 (Config.freeWord s.fresh).toNat⟩) q rest
      else State.flushStamps s q rest
    | none => State.flushStamps s q rest

def execFlushAct (q : Fin 32) (s : State) : Out :=
  let before := (s.sqN q).pkts
  let s1 := flushAct q s
  .next (if s.flag (R.SQ_STATUS_FLUSHING q) && !s1.flag (R.SQ_STATUS_FLUSHING q)
    then (s1.setSq q { s1.sqN q with timed := 0 }).flushStamps q before else s1)

end Sys2Proof.Machine
end

