-- ==== Sys2Proof/Machine/Lanes.lean ====
section
/-!
DEFINITION. The arithmetic of an anvil (spec/06_anvil_programming.md, R192 to R205): lanes, accumulators, rounding and
saturation, addressing, butterflies, magnitudes and logarithms; and the windows of spec/07 (R241, Table 7-3). Every
result comes with whether it saturated.
-/
namespace Sys2Proof.Machine

/-! ## Narrowing (R197) -/

/-- A result with its saturation mark. -/
abbrev Sat (α : Type) := α × Bool

/-- A lane of 16 bits. -/
def sat16 (i : Int) : Sat Int := (satS 16 i, outS 16 i)

/-- An accumulator lane: limits of plus and minus (2^39 - 1). -/
def sat40 (i : Int) : Sat Int := (satSym 40 i, satSym 40 i != i)

/-- `i / 2^k` rounded with ties away from zero, then saturated to a lane. -/
def narrow (k : Nat) (i : Int) : Sat Int := sat16 (roundDiv i (2 ^ k))

/-- The lanes of a list of results, and whether any saturated. -/
def collect (xs : List (Sat Int)) : Sat (List Int) := (xs.map (fun x => x.1), xs.any (fun x => x.2))

/-- Lane-wise operation on two vectors. -/
def lanes2 (op : Int → Int → Sat Int) (a b : List Int) : Sat (List Int) := collect (List.zipWith op a b)

/-! ## Addressing (R192, R193) -/

/-- The 12 bits of a vector number in reverse order. -/
def rev12 (n : Nat) : Nat := (List.range 12).foldl (fun r i => r + (if bitOf n i then 2 ^ (11 - i) else 0)) 0

/-- The smallest k with 2^k at least `n`. -/
def ceilLog2 (n : Nat) : Nat := ((List.range 17).find? (fun k => decide (n ≤ 2 ^ k))).getD 17

/-- Post-modification of an address by an offset, with a modulo length and the bit-reversed option (R192). -/
def postMod (a o l : Nat) (br : Bool) : Nat :=
  if br then 16 * rev12 ((rev12 (a / 16) + rev12 (o / 16)) % 4096) + a % 16
  else if l != 0 then
    let k := ceilLog2 l
    let b := a / 2 ^ k * 2 ^ k
    let r : Int := (a : Int) - b + sext 16 o
    let r1 : Int := if (l : Int) ≤ r then r - l else if r < 0 then r + l else r
    wrapInt 16 ((b : Int) + r1)
  else wrapInt 16 ((a : Int) + sext 16 o)

/-! ## Complex products and butterflies (R198 to R201) -/

/-- Point `i` of a vector: its I and Q lanes (R188). -/
def point (v : List Int) (i : Nat) : Int × Int := ((v[2 * i]?).getD 0, (v[2 * i + 1]?).getD 0)

/-- The exact product of two points. -/
def cprod (x y : Int × Int) : Int × Int := (x.1 * y.1 - x.2 * y.2, x.1 * y.2 + x.2 * y.1)

/-- The conjugate of a point. -/
def conjIf (c : Bool) (x : Int × Int) : Int × Int := if c then (x.1, -x.2) else x

/-- The four points of a vector. -/
def points (v : List Int) : List (Int × Int) := (List.range 4).map (point v)

/-- The lanes of a list of points. -/
def unpoints (ps : List (Int × Int)) : List Int := (ps.map (fun p => [p.1, p.2])).flatten

/-- A complex product of two vectors, exact, in lanes (R198). -/
def cmulLanes (conj : Bool) (a b : List Int) : List Int :=
  unpoints (List.zipWith (fun x y => cprod x (conjIf conj y)) (points a) (points b))

/-- A point times j. -/
def cmulj (x : Int × Int) : Int × Int := (-x.2, x.1)

/-- A point at the scale of products. -/
def qUp (x : Int × Int) : Int × Int := (x.1 * 2 ^ 15, x.2 * 2 ^ 15)

/-- The outputs of a radix-4 butterfly on one point of each input (R199, R200), at the scale of products. -/
def bfly4 (inv : Bool) (t0 t1 t2 t3 : Int × Int) : List (Int × Int) :=
  let a := cadd t0 t2
  let b := csub t0 t2
  let c := cadd t1 t3
  let d := csub t1 t3
  let y1 := csub b (cmulj d)
  let y3 := cadd b (cmulj d)
  [cadd a c, if inv then y3 else y1, csub a c, if inv then y1 else y3]

/-- Input vectors after their twiddles (R199) or their window (R200), at the scale of products. -/
def twiddled (w : List (List Int)) (xs : List (List Int)) : List (List (Int × Int)) :=
  match xs with
  | [] => []
  | x0 :: rest => (points x0).map qUp :: List.zipWith (fun x v => List.zipWith cprod (points x) (points v)) rest w

/-- Four points scaled by four real factors, from lane `o` of a window vector. -/
def windowed (x win : List Int) (o : Nat) : List (Int × Int) :=
  (points x).zipIdx.map (fun p => let f := (win[o + p.2]?).getD 0; (p.1.1 * f, p.1.2 * f))

/-- The four output vectors of BFLY4 from the scaled inputs: `k` bits are dropped with rounding. -/
def bfly4Out (inv : Bool) (k : Nat) (ts : List (List (Int × Int))) : List (Sat (List Int)) :=
  let at_ := fun (i p : Nat) => (((ts[i]?).getD [])[p]?).getD (0, 0)
  let ys := (List.range 4).map (fun p => bfly4 inv (at_ 0 p) (at_ 1 p) (at_ 2 p) (at_ 3 p))
  (List.range 4).map (fun o => collect ((unpoints (ys.map (fun y => (y[o]?).getD (0, 0)))).map (narrow k)))

/-- The two output vectors of BFLY2 (R200). -/
def bfly2Out (k : Nat) (ts : List (List (Int × Int))) : List (Sat (List Int)) :=
  let t0 := (ts[0]?).getD []
  let t1 := (ts[1]?).getD []
  [collect ((unpoints (List.zipWith cadd t0 t1)).map (narrow k)), collect ((unpoints (List.zipWith csub t0 t1)).map (narrow k))]

/-! ## Magnitude and logarithm (R202, R203) -/

/-- The magnitudes squared of the points of a vector. -/
def mag2 (v : List Int) : List Int := (points v).map (fun p => p.1 * p.1 + p.2 * p.2)

/-- T[m] = round(256·log2(1 + m/256)): half the floor of 512·log2(1 + m/256), plus one, halved. -/
def logTable (m : Nat) : Nat := (Nat.log2 ((256 + m) ^ 512) - 4096 + 1) / 2

/-- LOG2A of an unsigned value, Q8.8 (R203). -/
def log2a (x : Nat) : Nat :=
  if x == 0 then 0
  else
    let e := Nat.log2 x
    let below := x - 2 ^ e
    let m := if 8 ≤ e then below / 2 ^ (e - 8) else below * 2 ^ (8 - e)
    256 * e + logTable m

/-- LOG2A of an accumulator lane: a negative lane gives 0 and saturates. -/
def logLane (x : Int) : Sat Int := if x < 0 then (0, true) else ((log2a x.toNat : Int), false)

/-- A level in Q8.8 dB from a magnitude squared (R202). -/
def dbOf (p : Nat) : Nat := if p == 0 then 0 else (log2a p * 3083 + 512) / 1024

/-! ## Running extremes and density words (R204, R205) -/

/-- The best lane of a vector: the first with the largest (or smallest) value. -/
def bestLane (max : Bool) (v : List Int) : Int × Nat :=
  match v with
  | [] => (0, 0)
  | x :: rest =>
    (rest.zipIdx 1).foldl (fun best p => if (if max then best.1 < p.1 else p.1 < best.1) then (p.1, p.2) else best) (x, 0)

/-- The increment word of a column and a row (R205). -/
def histWord (col row : Int) : Nat :=
  if col < 0 || 1023 < col then 0
  else
    let r : Int := if row < 0 then 0 else if 255 < row then 255 else row
    2 ^ 31 + 2 ^ 10 * r.toNat + col.toNat

/-! ## Windows (R241, Table 7-3), computed with 96 fraction bits -/

/-- One, and two π, with 96 fraction bits. -/
def fxOne : Int := 2 ^ 96
def fxTwoPi : Int := 497805226624462170461043889244

/-- A product of two fixed-point numbers. -/
def fxMul (a b : Int) : Int := a * b / fxOne

/-- The cosine series from term `t` with `x2` the square of the angle. -/
def fxCosAux (x2 : Int) : Nat → Nat → Int → Int
  | 0, _, t => t
  | fuel + 1, k, t => t + fxCosAux x2 fuel (k + 1) (-(fxMul t x2) / ((2 * (k : Int) + 1) * (2 * k + 2)))

/-- The cosine of 2π·num/den. -/
def fxCos (num den : Nat) : Int :=
  let r := num % den
  let n : Int := if 2 * r ≤ den then r else (r : Int) - den
  let x := fxTwoPi * n / den
  fxCosAux (fxMul x x) 40 0 fxOne

/-- The exponential series. -/
def fxExpAux (x : Int) : Nat → Nat → Int → Int
  | 0, _, t => t
  | fuel + 1, k, t => t + fxExpAux x fuel (k + 1) (fxMul t x / ((k : Int) + 1))

/-- Squaring `n` times. -/
def fxSqN : Nat → Int → Int
  | 0, x => x
  | n + 1, x => fxSqN n (fxMul x x)

/-- The exponential of minus a fixed-point number that is not negative. -/
def fxExpNeg (y : Int) : Int := if 64 * fxOne < y then 0 else fxSqN 8 (fxExpAux (-y / 256) 30 0 fxOne)

/-- The series of the modified Bessel function I0 in the square of half its argument. -/
def fxI0Aux (q : Int) : Nat → Nat → Int → Int
  | 0, _, t => t
  | fuel + 1, k, t => t + fxI0Aux q fuel (k + 1) (fxMul t q / (((k : Int) + 1) * (k + 1)))

/-- I0 from the square of half its argument. -/
def fxI0 (q : Int) : Int := fxI0Aux q 160 0 fxOne

/-- A decimal coefficient in units of 10^-9. -/
def fxDec (n : Int) : Int := n * fxOne / 1000000000

/-- The real window value w(n) with 96 fraction bits (Table 7-3). -/
def fxWindow (kind param l n : Nat) : Int :=
  if kind == 1 then fxOne / 2 - fxCos n l / 2
  else if kind == 2 then
    fxDec 358750000 - fxMul (fxDec 488290000) (fxCos n l) + fxMul (fxDec 141280000) (fxCos (2 * n) l)
    - fxMul (fxDec 11680000) (fxCos (3 * n) l)
  else if kind == 3 then
    fxDec 215578950 - fxMul (fxDec 416631580) (fxCos n l) + fxMul (fxDec 277263158) (fxCos (2 * n) l)
    - fxMul (fxDec 83578947) (fxCos (3 * n) l) + fxMul (fxDec 6947368) (fxCos (4 * n) l)
  else if kind == 4 then
    let q : Int := (param * param : Int) * fxOne / (4 * 65536)
    let x : Int := 2 * (n : Int) - l
    fxI0 (q * ((l * l : Int) - x * x) / (l * l)) * fxOne / fxI0 q
  else if kind == 5 then
    let d : Int := 2 * (n : Int) - l
    fxExpNeg (fxOne * (d * d) * 2 ^ 32 / (8 * ((l * l : Int) * (param * param : Int))))
  else fxOne

/-- The Q1.15 coefficient (R241): rounded to nearest, 1.0 written as 32,767. -/
def windowCoef (kind param l n : Nat) : Int := min 32767 (roundDiv (fxWindow kind param l n * 2 ^ 15) fxOne)

/-- WIN_CG and the parts of WIN_ENBW from the coefficients: Σw and Σw² (R241). -/
def windowSums (l : Nat) (w : Nat → Int) : Int × Int :=
  (List.range l).foldl (fun a n => (a.1 + w n, a.2 + w n * w n)) (0, 0)

/-- WIN_CG, Q16.16. -/
def windowCg (l : Nat) (sums : Int × Int) : Int := roundDiv (sums.1 * 2) l

/-- WIN_ENBW in bins, Q16.16; none when the coefficients sum to 0. -/
def windowEnbw (l : Nat) (sums : Int × Int) : Option Int :=
  if sums.1 = 0 then none else some (roundDiv ((l : Int) * sums.2 * 65536) (sums.1 * sums.1))

end Sys2Proof.Machine
end

