-- ==== Sys2Proof/Machine/Raster.lean ====
section
/-!
DEFINITION. The raster output (spec/14_raster_output.md, R483 to R504): DisplayPort link, raster memory, regions and the
colour mapper, timing, the shadow bank and its commits, picture checks.
-/
namespace Sys2Proof.Machine

/-! ## Timing in use (R494 to R496) -/

/-- A timing register in use: the held register's offset plus 0x0800. -/
def rsUse (x : Fld) : Fld := x.shift 0x800

/-- A field of the active bank: the shadow offset plus 0x1000. -/
def rsAct (x : Fld) : Fld := x.shift 0x1000

/-- The root cycle that begins the present control cycle. -/
def State.rootNow (s : State) : Nat := 160 * s.clk.cycles

/-- Root cycles of a line, from the timing registers selected by `m` (held or in use). -/
def State.lineRoot (s : State) (m : Fld → Fld) : Nat := s.f (m R.RS_HTIM_HTOTAL) * s.f (m R.RS_PIXDIV_D_PIX)

/-- VACT + VSYNC + VBP. -/
def State.fixedLines (s : State) (m : Fld → Fld) : Nat :=
  s.f (m R.RS_VTIM_VACT) + s.f (m R.RS_VBL_VSYNC) + s.f (m R.RS_VBL_VBP)

/-- FP_MIN (R496). -/
def State.fpMin (s : State) (m : Fld → Fld) : Int :=
  let d := s.f (m R.RS_VRATE_VMAX_HZ) * s.lineRoot m * 2 ^ 76
  max (s.f (m R.RS_VBL_VFP_MIN) : Int) ((ceilDiv s.rootHz d : Int) - s.fixedLines m)

/-- FP_MAX (R496). -/
def State.fpMax (s : State) (m : Fld → Fld) : Int :=
  ((s.rootHz / (s.f (m R.RS_VRATE_VMIN_HZ) * s.lineRoot m * 2 ^ 76) : Nat) : Int) - s.fixedLines m

/-- Link rates in units of 10^7 bit/s (Table 14-1). -/
def dpRate (n : Nat) : Nat := if n == 0 then 162 else if n == 1 then 270 else if n == 2 then 540 else 810

/-- The checks of Table 14-4 on the held registers. -/
def State.rsChecks (s : State) : Nat :=
  let d := s.f R.RS_PIXDIV_D_PIX
  let hact := s.f R.RS_HTIM_HACT
  let vact := s.f R.RS_VTIM_VACT
  let lanes := s.f R.RS_LINK_LANES
  let one := 60 ≤ d && 64 ≤ hact && hact ≤ 2560 && 64 ≤ vact && vact ≤ 1600
    && hact + s.f R.RS_HSYNC_HSTART + s.f R.RS_HSYNC_HWIDTH + 1 ≤ s.f R.RS_HTIM_HTOTAL
    && 1 ≤ s.f R.RS_VBL_VSYNC && (lanes == 1 || lanes == 2 || lanes == 4)
  let vmin := s.f R.RS_VRATE_VMIN_HZ
  let vmax := s.f R.RS_VRATE_VMAX_HZ
  let two :=
    if s.flag R.RS_CTRL_ADAPTIVE then 24 ≤ vmin && vmin ≤ vmax && vmax ≤ 144 && s.fpMin id ≤ s.fpMax id
    else s.fixedLines id + s.f R.RS_VBL_VFP_MIN ≤ s.f R.RS_VTIM_VTOTAL
  let three := s.rootHz * 240 ≤ lanes * dpRate (s.f R.RS_LINK_RATE) * 80000000 * d * 2 ^ 76
  if !one then stBadParam else if !two then stBadParam else if !three then stRefusedCapacity else stOk

/-- The held timing and mode, as the enable and MODESET check them. -/
def State.rsHeld (s : State) : Nat × Bool := (s.wordsAt 0x700008 7, s.flag R.RS_CTRL_ADAPTIVE)

/-- A checked timing takes effect (R496, "Timing"); a fixed timing has no front-porch limits to show. -/
def State.rsTake (s : State) (t : Nat × Bool) : State :=
  let s1 := s.setWordsAt 0x700808 7 t.1
  let s2 : State := { s1 with rs := { s1.rs with adaptive := t.2, checked := none } }
  if t.2 then
    (s2.setF R.RS_FP_LIM_FP_MIN (s2.fpMin rsUse).toNat).setF R.RS_FP_LIM_FP_MAX (s2.fpMax rsUse).toNat
  else s2.setWord R.RS_FP_LIM.off 0

/-! ## Link (R483 to R485) -/

/-- Link training begins. -/
def State.rsTrainStart (s : State) (resume : RsPhase) : State :=
  ({ s with rs := { s.rs with training := true, resume := resume } } : State).setB R.RS_STATUS_LINK_UP false

/-- Scan-out starts, or starts again, at front-porch line 0 (R502, R503). -/
def State.rsPorch (s : State) : State :=
  let s1 : State := { s with rs := { s.rs with phase := .porch, at_ := s.rootNow, first := true, copied := false } }
  (s1.setB R.RS_STATUS_VBLANK true).setB R.RS_STATUS_RUNNING true

/-- Link training ends (R484): failure leaves idle patterns and the timing generator goes on. -/
def rsTrain (ok : Bool) (s : State) : State :=
  if !s.rs.training then s
  else
    let up := ok && s.flag R.RS_STATUS_HPD
    let s1 : State := { s with rs := { s.rs with training := false, resume := .off } }
    let s2 := ((s1.setB R.RS_STATUS_LINK_UP up).setB R.RS_CTRL_TRAIN false).setF R.RS_STATUS_RESULT (if up then stOk else stTimeout)
    let s3 := if up then s2 else s2.setB R.RS_STATUS_LINK_FAIL true
    if s.rs.resume != .porch then s3
    else
      let s4 := s3.rsPorch
      if s.flag R.RS_STATUS_MODESET_PEND then
        ((s4.setB R.RS_STATUS_MODESET_PEND false).setB R.RS_STATUS_MODE_SWITCHED true).setB R.RS_CTRL_MODESET false
      else s4

def execRsTrain (ok : Bool) (s : State) : Out := .next (rsTrain ok s)

/-- A change of the plug state, or an IRQ pulse (R485). -/
def hpdChange (plugged irq : Bool) (s : State) : State :=
  let changed := s.flag R.RS_STATUS_HPD != plugged
  let s1 := s.setB R.RS_STATUS_HPD plugged
  let s2 := if plugged then s1 else s1.setB R.RS_STATUS_LINK_UP false
  let s3 := if irq then s2.setB R.RS_STATUS_HPD_IRQ true else s2
  if changed || irq then s3.raiseBlk 0x6B (s3.f R.RS_CTRL_VEC) else s3

def execHpdChange (plugged irq : Bool) (s : State) : Out := .next (hpdChange plugged irq s)

/-- An AUX transaction that was started ends (R483): no reply is TIMEOUT, a command code that the specification does not
define BAD_PARAM; a read takes the sink's bytes. -/
def State.auxDone (s : State) (reply : Option (List (BitVec 8))) : State :=
  if !s.flag R.RS_AUX_CTRL_GO then s
  else
    let cmd := s.f R.RS_AUX_CTRL_CMD
    let n := s.f R.RS_AUX_CTRL_LENM1 + 1
    let s1 := s.setB R.RS_AUX_CTRL_GO false
    if 10 ≤ cmd then s1.setF R.RS_AUX_CTRL_RESULT stBadParam
    else
      match reply with
      | none => s1.setF R.RS_AUX_CTRL_RESULT stTimeout
      | some bs =>
        let s2 := s1.setF R.RS_AUX_CTRL_RESULT stOk
        if cmd % 2 == 0 then s2
        else
          let old := leBytes 16 (s2.wordsAt 0x700060 4)
          s2.setWordsAt 0x700060 4 (leNat ((bs.take n) ++ old.drop (bs.take n).length))

/-! ## Raster memory and regions (R486 to R493) -/

/-- A rectangle of a position and a size register pair in bank `m`. -/
structure Rect where
  x : Nat
  y : Nat
  w : Nat
  h : Nat

/-- The rectangle of a region: a MAP region's size follows from its block size. -/
def State.regRect (s : State) (m : Fld → Fld) (r : Nat) : Rect :=
  let x := s.f (m (R.RS_REG_POS_X r))
  let y := s.f (m (R.RS_REG_POS_Y r))
  if s.f (m (R.RS_REG_CFG_KIND r)) == 3 then
    ⟨x, y, 1024 * (s.f (m (R.RS_REG_CFG_SXM1 r)) + 1), 256 * (s.f (m (R.RS_REG_CFG_SYM1 r)) + 1)⟩
  else ⟨x, y, s.f (m (R.RS_REG_SIZE_W r)), s.f (m (R.RS_REG_SIZE_H r))⟩

/-- The check rectangle `k`. -/
def State.crcRect (s : State) (m : Fld → Fld) (k : Nat) : Rect :=
  ⟨s.f (m (R.RS_CRC_POS_X k)), s.f (m (R.RS_CRC_POS_Y k)), s.f (m (R.RS_CRC_SIZE_W k)), s.f (m (R.RS_CRC_SIZE_H k))⟩

/-- Base of a frame buffer (Table 14-2). -/
def fbBase (sel : Nat) : Nat := if sel == 0 then 0 else 0x0FA0000

/-- The address of a byte of a region (R488): offset `o` in rows of W pixels; the back buffer, or the overlay. -/
def State.regionByte (s : State) (r o : Nat) : Nat :=
  let t := s.regRect rsAct r
  if s.f (rsAct (R.RS_REG_CFG_KIND r)) == 2 then 0x1F40000 + (t.y + o / t.w) * 2560 + t.x + o % t.w
  else
    let back := 1 - s.f (rsAct R.RS_FB_SEL_SEL)
    fbBase back + (t.y + o / (4 * t.w)) * 10240 + 4 * t.x + o % (4 * t.w)

/-- The bytes of a region that a composer writes. -/
def State.regionBytes (s : State) (r : Nat) : Nat :=
  let t := s.regRect rsAct r
  let kind := s.f (rsAct (R.RS_REG_CFG_KIND r))
  if kind == 1 then 4 * t.w * t.h else if kind == 2 then t.w * t.h else 0

/-- Writes into a region with SYNC = 1 are discarded while a commit is pending (R492). -/
def State.regionBars (s : State) (r : Nat) : Bool := s.flag R.RS_STATUS_PENDING && s.flag (rsAct (R.RS_REG_CFG_SYNC r))

/-- A discarded write is counted (R491, R492). -/
def State.regionLate (s : State) (r : Nat) : State := (s.incSat (R.RS_REG_LATE r)).setB R.RS_STATUS_LATE_WR true

/-- The pixels of a mapped record (R491): cell (c, r) with count n fills its block with an entry of the colour table. -/
def State.mapCell (s : State) (m : MapRec) (cell : Nat) : State :=
  let r := m.region
  let c := cell % 1024
  let row := cell / 1024
  let n := leAt m.cells (4 * cell) 4
  let i := if n == 0 then 0 else min 255 (1 + log2a n / 32)
  let px := s.bytesAt 2 (s.f (rsAct (R.RS_REG_TBL_ADDR r)) + 4 * i) 4
  let sx := s.f (rsAct (R.RS_REG_CFG_SXM1 r)) + 1
  let sy := s.f (rsAct (R.RS_REG_CFG_SYM1 r)) + 1
  let t := s.regRect rsAct r
  let back := fbBase (1 - s.f (rsAct R.RS_FB_SEL_SEL))
  (List.range sy).foldl (fun (u : State) dy =>
    (List.range sx).foldl (fun (u1 : State) dx =>
      u1.putBytes 2 (back + (t.y + sy * (255 - row) + dy) * 10240 + 4 * (t.x + sx * c + dx)) px) u) s

/-- The mapper goes on up to the present control cycle, one cell each fabric cycle (R491): cells that it maps while a commit is
pending are discarded in a region with SYNC = 1, and its record is late once (R492). -/
def State.mapAdvance (s : State) : State :=
  match s.rs.map with
  | none => s
  | some m =>
    let from_ := s.rs.mapCells
    let k := min 262144 ((s.rootNow - s.rs.mapAt) / 32)
    if k ≤ from_ then s
    else if s.regionBars m.region then
      let t := if s.rs.mapLost then s else s.regionLate m.region
      { t with rs := { t.rs with mapCells := k, mapLost := true } }
    else
      let t := (List.range (k - from_)).foldl (fun (u : State) c => u.mapCell m (from_ + c)) s
      { t with rs := { t.rs with mapCells := k } }

/-! ## Commits (R497 to R502) -/

/-- The checks of a commit on the shadow bank (R497). -/
def State.rsCommitOk (s : State) : Bool :=
  let t : Fld → Fld := if s.flag R.RS_STATUS_RUNNING then rsUse else id
  let inside := fun (r : Rect) => decide (r.x + r.w ≤ s.f (t R.RS_HTIM_HACT)) && decide (r.y + r.h ≤ s.f (t R.RS_VTIM_VACT))
  (List.range 16).all (fun r =>
    let kind := s.f (R.RS_REG_CFG_KIND r)
    (kind == 0 || inside (s.regRect id r)) && (kind != 3 || decide (s.f (R.RS_REG_TBL_ADDR r) + 1024 ≤ 41943040)))
  && (List.range 4).all (fun k => !s.flag (R.RS_CRC_POS_EN k) || inside (s.crcRect id k))

/-- A commit is written (R497). -/
def State.rsCommit (s : State) (host : Bool) : State :=
  if s.flag R.RS_STATUS_PENDING then (if host then s.setB R.RS_STATUS_SHADOW_BUSY true else s)
  else if !s.rsCommitOk then s.setF R.RS_STATUS_RESULT stBadParam
  else
    let s1 := (s.mapAdvance.setB R.RS_STATUS_PENDING true).setF R.RS_STATUS_RESULT stOk
    { s1 with rs := { s1.rs with commitAt := s1.clk.cycles, host := host } }

/-- The words of the shadow bank stand in the active bank too (R498). -/
def State.copyShadow (s : State) : State :=
  let shadow := s.regs.filter (fun p => decide (0x701000 ≤ p.1) && decide (p.1 < 0x702000))
  let cleared := tclear s.regs 0x702000 0x703000
  { s with regs := shadow.foldl (fun t p => tset resetWord t (p.1 + 0x1000) p.2) cleared }

/-- The shadow bank is copied whole into the active bank (R498); a host commit under AUTO leaves the shown buffer
(R501). -/
def State.rsCopy (s : State) : State :=
  let old := s.f (rsAct R.RS_FB_SEL)
  let s1 := s.mapAdvance.copyShadow
  let s2 := if s.flag R.RS_CTRL_AUTO && s.rs.host then s1.setF (rsAct R.RS_FB_SEL) old else s1
  let s3 := (s2.setB R.RS_STATUS_PENDING false).setB R.RS_CTRL_COMMIT false
  { s3 with rs := { s3.rs with done := 0 } }

/-- The automatic commit (R501): every region with SYNC = 1 has completed a display frame since the last copy. -/
def State.rsAuto (s : State) : State :=
  let sync := (List.range 16).filter (fun r => s.flag (rsAct (R.RS_REG_CFG_SYNC r)) && s.f (rsAct (R.RS_REG_CFG_KIND r)) != 0)
  if !s.flag R.RS_CTRL_AUTO || s.flag R.RS_STATUS_PENDING || sync.isEmpty || !sync.all (fun r => bitOf s.rs.done r) then s
  else (s.setF R.RS_FB_SEL_SEL (1 - s.f (rsAct R.RS_FB_SEL_SEL))).rsCommit false

/-! ## Timing generator (R498 to R503) -/

/-- Lines since the present phase began. -/
def State.rsLine (s : State) : Nat := (s.rootNow - s.rs.at_) / s.lineRoot rsUse

/-- Whether `n` lines have passed since the present phase began. -/
def State.rsPast (s : State) (n : Nat) : Bool := decide (s.rs.at_ + n * s.lineRoot rsUse ≤ s.rootNow)

/-- The horizontal sync at a root cycle since the present phase began (R494): a pulse of HWIDTH pixels HSTART pixels after the active
part of each line, low when HPOL is 1. -/
def State.hSync (s : State) (root : Nat) : Bool :=
  let x := root / s.f (rsUse R.RS_PIXDIV_D_PIX) % s.f (rsUse R.RS_HTIM_HTOTAL)
  let a := s.f (rsUse R.RS_HTIM_HACT) + s.f (rsUse R.RS_HSYNC_HSTART)
  (decide (a ≤ x) && decide (x < a + s.f (rsUse R.RS_HSYNC_HWIDTH))) != s.flag (rsUse R.RS_HSYNC_HPOL)

/-- The vertical sync at a root cycle since the present phase began (R494): the first VSYNC lines after the front porch, low when VPOL is
1. -/
def State.vSync (s : State) (root : Nat) : Bool :=
  (s.rs.phase == .blank && decide (root / s.lineRoot rsUse < s.f (rsUse R.RS_VBL_VSYNC))) != s.flag (rsUse R.RS_VBL_VPOL)

/-- The blanking that follows the front porch ends and the active picture begins. -/
def State.rsBlank (s : State) : State :=
  let n := s.f (rsUse R.RS_VBL_VSYNC) + s.f (rsUse R.RS_VBL_VBP)
  if s.rs.phase != .blank || !s.rsPast n then s
  else
    let rs := { s.rs with phase := .active, at_ := s.rs.at_ + n * s.lineRoot rsUse, crcDone := 0 }
    ({ s with rs := rs } : State).setB R.RS_STATUS_VBLANK false

/-- The idle patterns of a MODESET last one frame of the old timing; then the new timing applies, and the link retrains
when lanes or rate change (R503). -/
def State.rsIdle (s : State) : State :=
  let fp := if s.rs.adaptive then s.f R.RS_FP_LIM_FP_MAX else s.f (rsUse R.RS_VTIM_VTOTAL) - s.fixedLines rsUse
  if s.rs.phase != .idle || s.rs.training || !s.rsPast (s.fixedLines rsUse + fp) then s
  else
    let s1 := s.rsTake (s.rs.checked.getD s.rsHeld)
    let change := s.word (rsUse R.RS_LINK_LANES).off != s1.word (rsUse R.RS_LINK_LANES).off
    if change then s1.rsTrainStart .porch
    else
      let s2 := s1.rsPorch
      ((s2.setB R.RS_STATUS_MODESET_PEND false).setB R.RS_STATUS_MODE_SWITCHED true).setB R.RS_CTRL_MODESET false

/-- What the raster output does at each control cycle. -/
def State.rsTick (s : State) : State :=
  if s.rs.phase == .off then s.rsAuto else ((s.rsBlank).rsIdle).rsAuto

/-- Whether the pending commit counts as written before S (R498): accepted in a control cycle that ends at least 16 ns
before it. -/
def State.beforeS (s : State) (at_ : Nat) : Bool :=
  s.flag R.RS_STATUS_PENDING
  && decide ((160 * (s.rs.commitAt + 1) : Int) * s.increment + 16 * nsUnit * 160 ≤ (at_ : Int) * s.increment)

/-- The sample instant S: the active picture has ended (R498 to R500, R503). -/
def sampleInstant (s : State) : State :=
  let s0 := s.rsBlank
  let n := s0.f (rsUse R.RS_VTIM_VACT)
  if s0.rs.phase != .active || !s0.rsPast n then s
  else
    let at_ := s0.rs.at_ + n * s0.lineRoot rsUse
    let s1 := (s0.addSat R.RS_FRAMES 1).setB R.RS_STATUS_VBLANK true
    if s1.flag R.RS_STATUS_MODESET_PEND then { s1 with rs := { s1.rs with phase := .idle, at_ := at_ } }
    else
      let copy := s1.beforeS at_
      let s2 := if copy then s1.rsCopy else s1
      { s2 with rs := { s2.rs with phase := .porch, at_ := at_, first := false, copied := copy } }

def execSampleInstant (s : State) : Out := .next (sampleInstant s)

/-- The length of the present front porch and whether the pending commit is copied at its end (R495, R499, R500, R502). -/
def State.porchPlan (s : State) : Nat × Bool :=
  let pend := s.flag R.RS_STATUS_PENDING
  if !s.rs.adaptive then (s.f (rsUse R.RS_VTIM_VTOTAL) - s.fixedLines rsUse, false)
  else
    let lo := s.f R.RS_FP_LIM_FP_MIN
    let hi := s.f R.RS_FP_LIM_FP_MAX
    if s.rs.first then (hi, pend)
    else if s.rs.copied then (lo, false)
    else if !pend then (hi, false)
    else
      let l := (160 * s.rs.commitAt - s.rs.at_) / s.lineRoot rsUse
      if l + 2 ≤ hi then (min hi (max (l + 2) lo), true) else (hi, false)

/-- Whether the pending commit is copied before the present control cycle ends (R497). -/
def State.copyDue (s : State) : Bool :=
  let until_ := fun (n : Nat) => s.rs.at_ + n * s.lineRoot rsUse
  match s.rs.phase with
  | .porch => s.porchPlan.2 && decide (until_ s.porchPlan.1 < s.rootNow + 160)
  | .active =>
    let at_ := until_ (s.f (rsUse R.RS_VTIM_VACT))
    !s.flag R.RS_STATUS_MODESET_PEND && decide (at_ < s.rootNow + 160) && s.beforeS at_
  | _ => false

/-- CANCEL ends a pending commit, unless its copy falls in the same control cycle (R497). -/
def State.rsCancel (s : State) : State :=
  if !s.flag R.RS_STATUS_PENDING || s.copyDue then s
  else ((s.setB R.RS_STATUS_PENDING false).setF R.RS_STATUS_RESULT stCancelled).setB R.RS_CTRL_COMMIT false

/-- The front porch ends (R500). -/
def frontPorchEnd (s : State) : State :=
  if s.rs.phase != .porch then s
  else
    let p := s.porchPlan
    if !s.rsPast p.1 then s
    else
      let s1 := if p.2 then s.rsCopy else s
      let rs := { s1.rs with phase := .blank, at_ := s1.rs.at_ + p.1 * s1.lineRoot rsUse, first := false, copied := false }
      ({ s1 with rs := rs } : State).setF R.RS_LAST_FP_LINES p.1

def execFrontPorchEnd (s : State) : Out := .next (frontPorchEnd s)

/-- What a write of RS_CTRL does beyond its fields (R484, R497, R502, R503). `old` is the register before it. -/
def rsCtrlWritten (old v : Nat) (s : State) : State :=
  let s1 :=
    if bitOf v 0 && !bitOf old 0 then
      let r := s.rsChecks
      let t := s.setF R.RS_STATUS_RESULT r
      if r != stOk then t.setB R.RS_CTRL_EN false
      else
        let t1 := t.rsTake t.rsHeld
        ({ t1 with rs := { t1.rs with phase := .training } } : State).rsTrainStart .porch
    else if !bitOf v 0 && bitOf old 0 then
      let t : State := { s with rs := { s.rs with phase := .off, training := false, resume := .off } }
      ((((t.setB R.RS_STATUS_RUNNING false).setB R.RS_STATUS_VBLANK false).setB R.RS_STATUS_LINK_UP false).setB R.RS_STATUS_MODESET_PEND false).setB R.RS_CTRL_MODESET false
    else s
  let s2 :=
    if bitOf v 5 then
      if !s1.flag R.RS_STATUS_RUNNING || s1.flag R.RS_STATUS_MODESET_PEND then s1.setB R.RS_CTRL_MODESET (s1.flag R.RS_STATUS_MODESET_PEND)
      else
        let r := s1.rsChecks
        let t := ((s1.setF R.RS_STATUS_RESULT r).setB R.RS_STATUS_MODESET_PEND (r == stOk)).setB R.RS_CTRL_MODESET (r == stOk)
        { t with rs := { t.rs with checked := if r == stOk then some s1.rsHeld else none } }
    else s1
  let s3 := if bitOf v 4 then (s2.rsCancel).setB R.RS_CTRL_CANCEL false else s2
  let s4 := if bitOf v 3 then (s3.rsCommit true) else s3
  let s5 := s4.setB R.RS_CTRL_COMMIT (s4.flag R.RS_STATUS_PENDING)
  if bitOf v 6 && s5.flag R.RS_CTRL_EN && !s5.rs.training then s5.rsTrainStart .off
  else s5.setB R.RS_CTRL_TRAIN s5.rs.training

/-- A display frame of a region completes (R489, R491, R501). -/
def State.regionDone (s : State) (r : Nat) : State :=
  let s1 := s.incSat (R.RS_REG_FRAMES r)
  ({ s1 with rs := { s1.rs with done := s1.rs.done ||| 2 ^ r } } : State).rsAuto

/-- A raster write of a composer (R488, R489, R492, R493); the second part says whether it applied with END, after which its record leaves. -/
def State.rasterWrite (s : State) (h : RasterPut) : State × Bool :=
  let r := h.region
  if s.isFenced 0x6B then (s.incSat R.RS_WR_DROPS, false)
  else if !s.isRunning 0x6B then (({ s with rs := { s.rs with held := s.rs.held ++ [h] } } : State).wakeBlk 0x6B, false)
  else
    let s1 :=
      if s.regionBars r then
        let t := s.regionLate r
        { t with rs := { t.rs with frameLost := t.rs.frameLost ||| 2 ^ r } }
      else h.data.zipIdx.foldl (fun (t : State) p => t.spaceWrite 0x6B h.secure 2 (t.regionByte r (h.off + p.2)) [p.1]) s
    if !h.end_ then (s1, false)
    else if bitOf s1.rs.frameLost r then ({ s1 with rs := { s1.rs with frameLost := s1.rs.frameLost - 2 ^ r } }, !s.regionBars r)
    else (s1.regionDone r, true)

/-- The oldest DENS record reaches the mapper (R491, R493). -/
def densMapStart (s : State) : State :=
  match s.rs.maps with
  | [] => s
  | m :: rest =>
    let s1 : State := { s with rs := { s.rs with maps := rest } }
    if s.isFenced 0x6B then s1.incSat R.RS_WR_DROPS
    else if !s.isRunning 0x6B then s.wakeBlk 0x6B
    else if s1.rs.map.isSome then s1.incSat (R.RS_REG_LATE m.region)
    else if s1.f (rsAct (R.RS_REG_CFG_KIND m.region)) != 3 then s1
    else { s1 with rs := { s1.rs with map := some m, mapAt := s1.rootNow, mapCells := 0, mapLost := false } }

def execDensMapStart (s : State) : Out := .next (densMapStart s)

/-- The mapper finishes its record: one display frame of the region (R491, R492). -/
def mapperDone (s : State) : State :=
  match s.rs.map with
  | none => s
  | some m =>
    if !s.isRunning 0x6B || decide (s.rootNow < s.rs.mapAt + 32 * 262144) then s
    else
      let s0 := s.mapAdvance
      let s1 : State := { s0 with rs := { s0.rs with map := none, mapLost := false } }
      if s0.rs.mapLost then s1 else s1.regionDone m.region

def execMapperDone (s : State) : Out := .next (mapperDone s)

/-! ## Picture checks (R487, R504) -/

/-- A component of the blend of R487. -/
def blend (alpha p f : Nat) : Nat := (roundDiv ((alpha * p + (255 - alpha) * f : Nat) : Int) 255).toNat

/-- R, G and B of a pixel of the shown picture. -/
def State.pixel (s : State) (x y : Nat) : List (BitVec 8) :=
  let fb := s.bytesAt 2 (fbBase (s.f (rsAct R.RS_FB_SEL_SEL)) + y * 10240 + 4 * x) 3
  let base := fun (i : Nat) => ((fb[i]?).getD 0).toNat
  if !s.flag (rsAct R.RS_OVL_EN) then [BitVec.ofNat 8 (base 2), BitVec.ofNat 8 (base 1), BitVec.ofNat 8 (base 0)]
  else
    let o := leNat (s.bytesAt 2 (0x1F40000 + y * 2560 + x) 1)
    let e := s.f (rsAct (R.RS_PAL o))
    let a := bitsOf e 24 8
    [BitVec.ofNat 8 (blend a (bitsOf e 16 8) (base 2)), BitVec.ofNat 8 (blend a (bitsOf e 8 8) (base 1)), BitVec.ofNat 8 (blend a (bitsOf e 0 8) (base 0))]

/-- The CRC-32 over the pixels of a rectangle in raster order (R504). -/
def State.rectCrc (s : State) (r : Rect) : Nat :=
  (List.range (r.w * r.h)).foldl (fun (c : Nat) i => (s.pixel (r.x + i % r.w) (r.y + i / r.w)).foldl crcByte c) 0xFFFFFFFF ^^^ 0xFFFFFFFF

/-- The last pixel of a check rectangle (R504). -/
def crcCheck (k : Nat) (s : State) : State :=
  let s0 := s.mapAdvance.rsBlank
  let r := s0.crcRect rsAct k
  let at_ := s0.rs.at_ + (r.y + r.h - 1) * s0.lineRoot rsUse + (r.x + r.w) * s0.f (rsUse R.RS_PIXDIV_D_PIX)
  if s0.rs.phase != .active || !s0.flag (rsAct (R.RS_CRC_POS_EN k)) || bitOf s0.rs.crcDone k || s0.rootNow < at_ then s
  else
    let v := s0.rectCrc r
    let s1 := ({ s0 with rs := { s0.rs with crcDone := s0.rs.crcDone ||| 2 ^ k } } : State).setF (R.RS_CRC_VAL k) v
    if s1.flag (R.RS_CRC_CTRL_LEARN k) then (s1.setF (rsAct (R.RS_CRC_EXP k)) v).setB (R.RS_CRC_CTRL_LEARN k) false
    else if v == s1.f (rsAct (R.RS_CRC_EXP k)) then s1
    else
      let s2 := (s1.incSat (R.RS_CRC_MISMATCH k)).setB R.RS_STATUS_CRC_MISS true
      s2.raiseBlk 0x6B (s2.f R.RS_CTRL_VEC)

def execCrcCheck (k : Fin 4) (s : State) : Out := .next (crcCheck k s)

/-- A block reset or fence of the raster output (Table 17-5): scan-out starts again under R502, raster memory is kept, and records
on their way to the mapper still arrive. -/
def State.rsReset (s : State) : State :=
  let s1 := { s with rs := { ({} : RsSt) with adaptive := s.rs.adaptive, maps := s.rs.maps } }
  let s2 := ((s1.setB R.RS_STATUS_PENDING false).setB R.RS_STATUS_MODESET_PEND false).setB R.RS_STATUS_VBLANK false
  let s3 := (s2.setB R.RS_STATUS_RUNNING false).setB R.RS_STATUS_LINK_UP false
  if s3.flag R.RS_CTRL_EN then ({ s3 with rs := { s3.rs with phase := .training } } : State).rsTrainStart .porch else s3

end Sys2Proof.Machine
end

