-- ==== Sys2Proof/Machine/Publish.lean ====
section
/-!
DEFINITION. Publishing (spec/05_compute_fabric.md, R156 to R160; spec/07_contexts_and_products.md, R250 to R278): the
settings of a context by epoch, publish lists, folding and averages, density planes, records and their routes, and the
end of a context's run.
-/
namespace Sys2Proof.Machine

/-! ## Contexts and their settings -/

/-- A context. -/
def State.ctxN (s : State) (c : Nat) : CtxSt := tget (fun _ => {}) s.ctx c

/-- Replaces a context. -/
def State.setCtx (s : State) (c : Nat) (x : CtxSt) : State := { s with ctx := tset (fun _ => {}) s.ctx c x }

/-- The configuration area of a context as 64 words (Table 7-1). -/
def State.cfgNow (s : State) (c : Nat) : List (BitVec 32) := (List.range 64).map (fun i => s.word (0x200000 + 0x200 * c + 4 * i))

/-- The value of a list of words, the first the least significant. -/
def leWords : List (BitVec 32) → Nat
  | [] => 0
  | w :: ws => w.toNat + 2 ^ 32 * leWords ws

/-- A field of a configuration area, named by the field of context 0. -/
def cfgF (cfg : List (BitVec 32)) (x : Fld) : Nat :=
  bitsOf (leWords ((cfg.drop ((x.off - 0x200000) / 4 + x.lo / 32)).take 3)) (x.lo % 32) x.wd

/-- A one-bit field of a configuration area. -/
def cfgB (cfg : List (BitVec 32)) (x : Fld) : Bool := cfgF cfg x != 0

/-- The settings of a context at an epoch (R275). -/
def State.ctxCfg (s : State) (c epoch : Nat) : List (BitVec 32) :=
  match (s.ctxN c).cfgs.find? (fun p => p.1 == epoch) with
  | some p => p.2
  | none => s.cfgNow c

/-- The present context epoch. -/
def State.cxEpoch (s : State) (c : Nat) : Nat := s.f (R.CTX_ACT_CX_EPOCH c)

/-- The home forge in use. -/
def State.homeOf (s : State) (c : Nat) : Nat := s.f (R.CTX_ACT_HOME_ACT c)

/-- The route of a product: ROUTE8 stays of kind 5 (R261). -/
def cfgRoute (cfg : List (BitVec 32)) (k : Nat) : Nat := if k == 8 then 5 else cfgF cfg (R.CTX_ROUTE_KIND 0 k)

/-- Whether product `p` is enabled. -/
def cfgProduct (cfg : List (BitVec 32)) (p : Nat) : Bool := bitOf (cfgF cfg (R.CTX_PRODUCTS_PRODUCTS 0)) p

/-! ## Billets alive -/

/-- The rack of a forge, in deadline order. -/
def State.rackOf (s : State) (f : Nat) : List Billet := tget (fun _ => []) s.fab.rack f

/-- An anvil. -/
def State.anvN (s : State) (f a : Nat) : AnvSt := tget (fun _ => {}) s.fab.anv (32 * f + a)

/-- Replaces an anvil. -/
def State.setAnv (s : State) (f a : Nat) (x : AnvSt) : State :=
  { s with fab := { s.fab with anv := tset (fun _ => {}) s.fab.anv (32 * f + a) x } }

/-- The billets that wait in racks or run, without those that are already withdrawn. -/
def State.liveBillets (s : State) : List Billet :=
  (s.fab.rack.map (fun p => p.2)).flatten ++ s.fab.anv.filterMap (fun p => if p.2.gone then none else p.2.run)

/-- The billets of a context that have not completed. -/
def State.liveOf (s : State) (c : Nat) : List Billet := s.liveBillets.filter (fun b => b.ctx == c)

/-- Whether an anvil still runs a billet of a context, be it one that is abandoned at the end of its instruction. -/
def State.runsOf (s : State) (c : Nat) : Bool :=
  s.fab.anv.any (fun p => match p.2.run with
    | some b => b.ctx == c
    | none => false)

/-! ## Folding (R264 to R266) -/

/-- The record data of two sets of frames. -/
def foldJoin (a b : FoldInfo) : FoldInfo :=
  let old := if a.oldest ≤ b.oldest then a else b
  let new := if a.newest ≤ b.newest then b else a
  let ep := flagIf (a.chEpoch != b.chEpoch) fEPOCH
  { newest := new.newest, oldest := old.oldest, time := old.time, sidx := old.sidx, flags := a.flags ||| b.flags ||| ep, chEpoch := new.chEpoch, lateFc := max a.lateFc b.lateFc, skipE := a.skipE + b.skipE, skipB := a.skipB + b.skipB }

/-! ## Records and routes (R263 to R270, Table 7-5) -/

/-- The answer value of a record (R268): PEAK_LEVEL for STAT, the peak VALUE for DET, FIRST_COL for MASK. -/
def answerOf (product : Nat) (payload : List (BitVec 8)) : Nat :=
  if product == 5 then leAt payload 36 2 else if product == 7 then leAt payload 16 2 else leAt payload 0 2 % 1024

/-- Bytes into the record region of a context through port P1, wrapping at its end (R267). -/
def State.cmRecord (s : State) (c : Nat) (cfg : List (BitVec 32)) (bytes : List (BitVec 8)) : State :=
  let base := cfgF cfg (R.CTX_CM_V 0 0)
  let size := cfgF cfg (R.CTX_CM_V 0 1)
  let x := s.ctxN c
  if size == 0 then s
  else
    let pieces := (List.range (bytes.length / 64)).map (fun i => (base + (x.cmPos + 64 * i) % size, (bytes.drop (64 * i)).take 64))
    let put := fun (t : State) (p : Nat × List (BitVec 8)) => (t.mcWrite 1 (0x40 + t.homeOf c) (t.ctxSecure c) p.1 p.2 false).1
    pieces.foldl put (s.setCtx c { x with cmPos := (x.cmPos + bytes.length) % size })

/-- Whether the first record of a product at a context epoch has yet to leave (R276). -/
def CtxSt.firstOf (x : CtxSt) (epoch product : Nat) : Bool := x.epochDue.any (fun p => p.1 == epoch && bitOf p.2 product)

/-- The first record of a product at a context epoch has left. -/
def CtxSt.firstSent (x : CtxSt) (epoch product : Nat) : CtxSt :=
  { x with epochDue := x.epochDue.map (fun p => if p.1 == epoch then (p.1, p.2 - (p.2 &&& 2 ^ product)) else p) }

/-- What an emission leaves in the context: the marks of skipped frames, of an epoch and of a loss are told (R174, R276,
R269), and RECORDS counts it. -/
def State.recSent (s : State) (c epoch product : Nat) : State :=
  let x := (s.ctxN c).firstSent epoch product
  let x1 : CtxSt := { x with skipE := 0, skipB := 0, lost := x.lost - (x.lost &&& 2 ^ product) }
  (s.setCtx c x1).addSat (R.CTX_RECORDS c) 1

/-- A record on a stream queue, or dropped (R269). -/
def State.recQueue (s : State) (c epoch product q : Nat) (h : RecHead) (bytes : List (BitVec 8)) : State :=
  let r := s.sqRecord q bytes h.ptime h.flags false
  if r.2 then r.1.recSent c epoch product
  else
    let x := r.1.ctxN c
    (r.1.setCtx c { x with lost := x.lost ||| 2 ^ product }).addSat (R.CTX_DROPPED c) 1

/-- How a product folds: 0 not at all, 1 exponential, 2 block, 3 maxima over a row. -/
def foldKind (cfg : List (BitVec 32)) (product : Nat) : Nat :=
  if product == 2 then 3 else if product == 1 || product == 5 then cfgF cfg (R.CTX_SPEC_AVG 0) % 4 else 0

/-- Whether the records of a product fold several frames: averages, rows and snapshots. -/
def foldsFrames (cfg : List (BitVec 32)) (product : Nat) : Bool := product == 3 || foldKind cfg product != 0

/-- The frames that a record counts as skipped, thinned and shed (R174, R264): over the frames that it folds, or, for a record of one frame,
all those since the context's last record. -/
def skipCounts (cfg : List (BitVec 32)) (x : CtxSt) (product : Nat) (i : FoldInfo) : Nat × Nat :=
  if foldsFrames cfg product then (i.skipE, i.skipB) else (x.skipE, x.skipB)

/-- The header that the publish unit fills (Table 7-7). GAP and SHED are also set by R174 on the context's next record, whatever it folds. -/
def State.recHead (s : State) (c epoch product len : Nat) (i : FoldInfo) : RecHead :=
  let x := s.ctxN c
  let n := skipCounts (s.ctxCfg c epoch) x product i
  let fl := i.flags ||| flagIf (n.1 != 0 || x.skipE != 0) fGAP ||| flagIf (n.2 != 0 || x.skipB != 0) fSHED
    ||| flagIf (x.firstOf epoch product) fEPOCH ||| flagIf (bitOf x.lost product) fDROPPED
  { magic := 0x5052, context := c, product := product, seq := i.newest % 2 ^ 32, ptime := i.time, index := i.sidx, flags := fl, len := len, chEpoch := i.chEpoch, cxEpoch := epoch, shed := n.1 + n.2, lateFc := i.lateFc }

/-- A record of a product leaves on its route (Table 7-5). `len` is PAYLOAD_LEN. -/
def State.recEmit (s : State) (c epoch product : Nat) (i : FoldInfo) (payload : List (BitVec 8)) (len : Nat) : State :=
  let cfg := s.ctxCfg c epoch
  let kind := cfgRoute cfg product
  let target := cfgF cfg (R.CTX_ROUTE_TARGET 0 product)
  let h := s.recHead c epoch product len i
  let bytes := pad64 (h.bytes ++ payload)
  if kind == 1 then s.recQueue c epoch product (target % 32) h bytes
  else if kind == 2 then (s.cmRecord c cfg bytes).recSent c epoch product
  else if kind == 3 then
    ({ s with rs := { s.rs with maps := s.rs.maps ++ [{ region := target % 16, cells := payload.drop 16 }] } } : State).recSent c epoch product
  else if kind == 4 then (answerUpdate (target % 64) 0 (answerOf product payload) s).recSent c epoch product
  else if kind == 5 then
    let n := leAt payload 0 2
    let xs := (List.range n).map (fun k => BitVec.ofNat 16 (leAt payload (16 + 2 * k) 2))
    let s1 := (s.synthRecord (cfgF cfg (R.CTX_SYNTH_SYNTH_OUT 0)) xs)
    let hm := { h with len := 0 }
    if cfgB cfg (R.CTX_SYNTH_SYNTH_MON 0) then s1.recQueue c epoch product (cfgF cfg (R.CTX_SYNTH_MON_SQ 0)) hm (pad64 hm.bytes)
    else s1.recSent c epoch product
  else s

/-! ## Averages (R251 to R253, R258) -/

/-- Whether an exact division leaves a remainder that the accumulator rounds up; R251 states no rounding. -/
def avgStep (d : Int) (k : Nat) : Int :=
  if k = 0 then d else if d % k = 0 then d / k else d / k + (if Config.roundUp d k then 1 else 0)

/-- Values of `w` bytes from a payload body. -/
def valuesOf (w : Nat) (body : List (BitVec 8)) : List Nat := (List.range (body.length / w)).map (fun k => leAt body (w * k) w)

/-- Bytes per value of a SPEC payload: DB in prefix bit 80. -/
def specWidth (prefix_ : List (BitVec 8)) : Nat := if bitOf (leAt prefix_ 0 16) 80 then 2 else 4

/-- The values that a payload brings to an average: display bins, or the powers and the level of STAT. -/
def avgValues (product : Nat) (prefix_ body : List (BitVec 8)) : List Nat :=
  if product == 5 then [leAt body 0 8, leAt body 8 8, leAt body 20 2]
  else if product == 2 then valuesOf 2 body
  else valuesOf (specWidth prefix_) body

/-- The count that a product's blocks run over: EMIT, or SG_DEC for SGRAM; 0 acts as 1. -/
def blockLen (cfg : List (BitVec 32)) (product : Nat) : Nat :=
  max 1 (if product == 2 then cfgF cfg (R.CTX_SG_SG_DEC 0) else cfgF cfg (R.CTX_EMIT_EMIT 0))

/-- A frame's values folded into an average. -/
def AvgSt.take (a : AvgSt) (kind nMax : Nat) (i : FoldInfo) (prefix_ body : List (BitVec 8)) : AvgSt :=
  let vs := avgValues a.product prefix_ body
  let n := a.n + 1
  let acc :=
    if kind == 1 then
      let old := fun (k : Nat) => (((a.acc[k]?).getD 0 : Nat) : Int)
      vs.zipIdx.map (fun p => if n == 1 then p.1 * 65536 else (old p.2 + avgStep ((p.1 * 65536 : Int) - old p.2) (min n nMax)).toNat)
    else if kind == 2 then vs.zipIdx.map (fun p => p.1 + (a.acc[p.2]?).getD 0)
    else vs.zipIdx.map (fun p => max p.1 ((a.acc[p.2]?).getD 0))
  let joined := if a.since == 0 then i else foldJoin a.fold i
  { a with n := n, since := a.since + 1, firstSeq := if a.since == 0 then i.oldest else min a.firstSeq i.oldest, acc := acc, prefix_ := prefix_, tail := body, fold := joined }

/-- The payload of an average's record. -/
def AvgSt.payload (a : AvgSt) (kind : Nat) : List (BitVec 8) :=
  let out := a.acc.map (fun (v : Nat) => if kind == 1 then (roundDiv (v : Int) 65536).toNat else if kind == 2 then (roundDiv (v : Int) a.n).toNat else v)
  let first := leBytes 4 (a.firstSeq % 2 ^ 32)
  if a.product == 5 then
    let body := putAt (putAt (putAt a.tail 0 (leBytes 8 ((out[0]?).getD 0))) 8 (leBytes 8 ((out[1]?).getD 0))) 20 (leBytes 2 ((out[2]?).getD 0))
    putAt a.prefix_ 0 (leBytes 4 a.since) ++ body
  else if a.product == 2 then putAt a.prefix_ 0 first ++ (out.map (fun v => leBytes 2 v)).flatten
  else
    putAt (putAt a.prefix_ 0 (leBytes 4 a.since)) 4 first ++ (out.map (fun v => leBytes (specWidth a.prefix_) v)).flatten

/-- Replaces or adds an average of a context. -/
def State.putAvg (s : State) (c : Nat) (a : AvgSt) : State :=
  let x := s.ctxN c
  let same := fun (b : AvgSt) => b.product == a.product && b.epoch == a.epoch && b.block == a.block
  s.setCtx c { x with avgs := a :: x.avgs.filter (fun b => !same b) }

/-- An average emits its record (R251, R252): UNSETTLED while an exponential average has folded fewer than N frames. -/
def State.avgEmit (s : State) (c : Nat) (a : AvgSt) : State :=
  let cfg := s.ctxCfg c a.epoch
  let kind := foldKind cfg a.product
  let nMax := max 1 (cfgF cfg (R.CTX_AVGN_AVG_N 0))
  let i := { a.fold with flags := a.fold.flags ||| flagIf (kind == 1 && decide (a.n < nMax)) fUNSETTLED }
  let p := a.payload kind
  if a.since == 0 then s else s.recEmit c a.epoch a.product i p p.length

/-- A frame's payload reaches the averaging of its product. -/
def State.avgFold (s : State) (b : Billet) (product : Nat) (i : FoldInfo) (payload : List (BitVec 8)) : State :=
  let cfg := s.ctxCfg b.ctx b.cxEpoch
  let kind := foldKind cfg product
  let len := blockLen cfg product
  let nMax := max 1 (cfgF cfg (R.CTX_AVGN_AVG_N 0))
  let block := if kind == 1 then 0 else b.seq / len
  let found := (s.ctxN b.ctx).avgs.find? (fun a => a.product == product && a.epoch == b.cxEpoch && a.block == block)
  let a := (found.getD { product := product, epoch := b.cxEpoch, block := block }).take kind nMax i (payload.take 16) (payload.drop 16)
  let s1 := s.putAvg b.ctx a
  if kind == 1 && a.n % len == 0 then (s1.avgEmit b.ctx a).putAvg b.ctx { a with since := 0 } else s1

/-- Whether an average closes: its epoch has ended and its last frame has published, or every frame of its block has
been folded or skipped (R251, R276). -/
def State.avgClosed (s : State) (c : Nat) (a : AvgSt) : Bool :=
  let x := s.ctxN c
  let cfg := s.ctxCfg c a.epoch
  let live := s.liveOf c ++ x.waitPub.map (fun w => w.billet)
  let len := blockLen cfg a.product
  if a.epoch != s.cxEpoch c then !live.any (fun b => b.cxEpoch == a.epoch)
  else foldKind cfg a.product != 1 && decide ((a.block + 1) * len ≤ x.nextSeq) && !live.any (fun b => b.seq / len == a.block)

/-- The averages that close emit their records, the oldest first. -/
def State.closeAvgs (s : State) (c : Nat) : State :=
  (s.ctxN c).avgs.reverse.foldl (fun (t : State) a =>
    if t.avgClosed c a then
      let x := t.ctxN c
      (t.setCtx c { x with avgs := x.avgs.filter (fun b => b != a) }).avgEmit c a
    else t) s

/-- Averages with frames folded since their last emission emit a final record at a stop (R272). -/
def State.flushAvgs (s : State) (c : Nat) : State :=
  (s.ctxN c).avgs.reverse.foldl (fun (t : State) a => t.avgEmit c a) (s.setCtx c { s.ctxN c with avgs := [] })

/-! ## Publish lists (R209 to R211, Table 6-6) -/

/-- An entry of a publish list. -/
structure PubEntry where
  off : Nat
  type_ : Nat
  target : Nat
  payload : List (BitVec 8)

/-- The entries of a list of `sn` bytes, or the offset of the first malformed one. -/
def parsePub (list : List (BitVec 8)) (sn : Nat) : Nat → Nat → Except Nat (List PubEntry)
  | 0, _ => .ok []
  | fuel + 1, o =>
    if sn ≤ o then .ok []
    else
      let type_ := leAt list o 1
      let len := leAt list (o + 4) 4
      if type_ == 0 then .ok []
      else if 6 < type_ || sn < o + 16 + len || (type_ == 1 && len < 64) then .error o
      else
        match parsePub list sn fuel (o + 16 + ceilDiv len 16 * 16) with
        | .error e => .error e
        | .ok rest => .ok (⟨o, type_, leAt list (o + 8) 4, (list.drop (o + 16)).take len⟩ :: rest)

/-- Whether the TARGET of an entry lies in the context's allocation (R210, R488). -/
def State.pubTargetOk (s : State) (cfg : List (BitVec 32)) (e : PubEntry) : Bool :=
  if e.type_ == 4 then decide (e.target % 2 ^ 26 + e.payload.length ≤ s.regionBytes (cfgF cfg (R.CTX_RASTER_REGION 0) % 16))
  else if e.type_ == 5 then
    (List.range 16).any (fun k => cfgProduct cfg k && cfgRoute cfg k == 4 && cfgF cfg (R.CTX_ROUTE_TARGET 0 k) == e.target)
  else if e.type_ == 6 then decide (e.target < 3)
  else true

/-! ## Density planes (R255, R256) -/

/-- The hearth address of byte `o` of a forge in space 1 (R540). -/
def hearthAddr (f o : Nat) : Nat := f * 2 ^ 22 + o

/-- One increment of a plane (R205, R256): a count at its limit stays there. -/
def State.densInc (s : State) (home plane : Nat) (secure : Bool) (w : Nat) : State :=
  if !bitOf w 31 then s
  else
    let a := hearthAddr home (plane + 4 * (1024 * bitsOf w 10 8 + bitsOf w 0 10))
    let n := leNat (s.bytesAt 1 a 4)
    s.spaceWrite (0x40 + home) secure 1 a (leBytes 4 (min (n + 1) (2 ^ 32 - 1)))

/-- Every cell of a plane shifted right. -/
def State.densDecay (s : State) (home plane sh : Nat) : State :=
  (List.range (1024 * 256)).foldl (fun (t : State) k =>
    let a := hearthAddr home (plane + 4 * k)
    t.putBytes 1 a (leBytes 4 (leNat (t.bytesAt 1 a 4) / 2 ^ sh))) s

/-- A plane with zero counts. -/
def State.densClear (s : State) (home plane : Nat) : State :=
  let k := memKey 1 (hearthAddr home plane)
  { s with mem := { s.mem with bytes := tclear s.mem.bytes k (k + 1048576) } }

/-- The counts of a billet's frame: decay after DECAY_K frames, a snapshot after DENS_EMIT frames (R256). -/
def State.densFrame (s : State) (b : Billet) (i : FoldInfo) : State :=
  let c := b.ctx
  let cfg := s.ctxCfg c b.cxEpoch
  let x := s.ctxN c
  let sh := cfgF cfg (R.CTX_DECAY_DECAY_SH 0)
  let fi := match x.densFold with
    | none => i
    | some d => foldJoin d i
  let decay := max 1 (cfgF cfg (R.CTX_DECAY_DECAY_K 0)) ≤ x.decayN + 1
  let decays := if decay && sh != 0 then x.decays + 1 else x.decays
  let x1 : CtxSt := { x with densN := x.densN + 1, decayN := if decay then 0 else x.decayN + 1, decays := decays, densFold := some fi }
  let s1 := s.setCtx c x1
  let s2 := if decay && sh != 0 then s1.densDecay b.home x.plane sh else s1
  if x1.densN < max 1 (cfgF cfg (R.CTX_DENS_DENS_EMIT 0)) then s2
  else
    let s3 := s2.setCtx c { x1 with densN := 0, densFold := none }
    let payload := leBytes 4 x1.densN ++ leBytes 4 decays ++ List.replicate 8 0 ++ s3.bytesAt 1 (hearthAddr b.home x.plane) 1048576
    s3.recEmit c b.cxEpoch 3 fi payload payload.length

/-! ## Publishing (R157) -/

/-- The body of a DET record (R260): the latest result of each enabled detector of the source chain. -/
def State.detBody (s : State) (cfg : List (BitVec 32)) : List (BitVec 8) :=
  let n := cfgF cfg (R.CTX_SRC_SRC_CHAIN 0)
  let en := cfgF cfg (R.CTX_DET_DET_EN 0)
  let word := fun (i : Nat) (v q p : Nat) => if bitOf en i then leBytes 4 (v + 2 ^ 16 * q + 2 ^ 24 * p) else leBytes 4 0
  word 0 (s.f (R.FCH_DET_PK_VALUE n)) (s.f (R.FCH_DET_PK_SEQ n)) (s.f (R.FCH_DET_PK_PART n))
  ++ word 1 (s.f (R.FCH_DET_RMS_VALUE n)) (s.f (R.FCH_DET_RMS_SEQ n)) (s.f (R.FCH_DET_RMS_PART n))
  ++ word 2 (s.f (R.FCH_DET_ENV_VALUE n)) (s.f (R.FCH_DET_ENV_SEQ n)) (s.f (R.FCH_DET_ENV_PART n))

/-- A record of a publish list: folded by its product, or sent. The kernel fills PRODUCT and PAYLOAD_LEN. -/
def State.pubRecord (s : State) (b : Billet) (i : FoldInfo) (payload : List (BitVec 8)) : State :=
  let cfg := s.ctxCfg b.ctx b.cxEpoch
  let product := bitsOf (leAt payload 2 2) 12 4
  let len := leAt payload 36 4
  let body := payload.drop 64
  if !cfgProduct cfg product then s
  else if foldKind cfg product != 0 then s.avgFold b product i body
  else if product == 7 then
    let p := putAt (List.replicate 16 0) 0 (leBytes 1 (cfgF cfg (R.CTX_DET_DET_EN 0))) ++ s.detBody cfg
    s.recEmit b.ctx b.cxEpoch 7 i p p.length
  else s.recEmit b.ctx b.cxEpoch product i body len

/-- A raster write applies; the RASTER record follows the one that completes a display frame (R262, R489). -/
def State.rasterPut (s : State) (h : RasterPut) : State :=
  let w := s.rasterWrite h
  if !w.2 then w.1
  else
    let n := (w.1.ctxN h.ctx).frames + 1
    let s1 := w.1.setCtx h.ctx { w.1.ctxN h.ctx with frames := n }
    if cfgProduct (s.ctxCfg h.ctx h.epoch) 9 then s1.recEmit h.ctx h.epoch 9 h.info (leBytes 4 h.region ++ leBytes 4 n ++ List.replicate 8 0) 16
    else s1

/-- The raster writes held while the raster output woke are served in order (R23, R493). -/
def State.serveRaster (s : State) : State :=
  s.rs.held.foldl State.rasterPut { s with rs := { s.rs with held := [] } }

/-- The effect of one entry of a publish list (Table 6-6); `copy` is the time of the list's copy in fc (R209). -/
def State.pubEntry (s : State) (b : Billet) (i : FoldInfo) (copy : Nat) (e : PubEntry) : State :=
  let c := b.ctx
  let cfg := s.ctxCfg c b.cxEpoch
  if e.type_ == 1 then s.pubRecord b i e.payload
  else if e.type_ == 2 then
    if !cfgProduct cfg 3 then s
    else (valuesOf 4 e.payload).foldl (fun (t : State) w => t.densInc b.home (t.ctxN c).plane (t.ctxSecure c) w) s
  else if e.type_ == 3 then
    let lat := s.maskLatency (cfgF cfg (R.CTX_SRC_SRC_CHAIN 0)) (s.ctxN c).l (cfgF cfg (R.CTX_DEADLINE_DEADLINE 0)) i.lateFc copy
    s.maskEvent c (bitsOf (leAt e.payload 0 4) 10 1) i.sidx lat
  else if e.type_ == 4 then
    s.rasterPut { ctx := c, epoch := b.cxEpoch, info := i, region := cfgF cfg (R.CTX_RASTER_REGION 0) % 16, off := e.target % 2 ^ 26, secure := s.ctxSecure c, data := e.payload, end_ := bitOf e.target 31 }
  else if e.type_ == 5 then answerUpdate (e.target % 64) 0 (leAt e.payload 0 2) s
  else s.setCtx c { s.ctxN c with det := (s.ctxN c).det.set e.target (leAt e.payload 0 4) }

/-- The publish unit applies a billet's list whole (R157): its entries in order, then the frame's count for the plane. -/
def State.publish (s : State) (w : WaitPub) : State :=
  let b := w.billet
  let fl := flagIf (w.lateFc != 0) fLATE ||| flagIf w.sat fSATURATED ||| flagIf w.poison fPOISON
  let i := { b.info with flags := b.info.flags ||| fl, lateFc := w.lateFc }
  match parsePub w.list w.list.length (w.list.length + 1) 0 with
  | .error _ => s
  | .ok es =>
    let s1 := es.foldl (fun (t : State) e => t.pubEntry b i (ceilDiv w.list.length 128) e) s
    if b.last && cfgProduct (s.ctxCfg b.ctx b.cxEpoch) 3 then s1.densFrame b i else s1

/-! ## The end of a run (R176, R270, R272, R273) -/

/-- The counters of a STOP or FAULT record (Table 7-6). -/
def State.stopBody (s : State) (c : Nat) : List (BitVec 8) :=
  leBytes 8 (s.f (R.CTX_COMPLETED c)) ++ leBytes 8 (s.f (R.CTX_LATE c)) ++ leBytes 8 (s.f (R.CTX_SHED c)) ++ leBytes 8 (s.f (R.CTX_CYCLES c))
  ++ leBytes 4 (s.f (R.CTX_WITHDRAWN c)) ++ leBytes 4 0

/-- The STOP or FAULT record leaves (R270), or stands in the state area when no route can carry it. SEQ, PTIME and
SAMPLE_INDEX of a record that folds no frame are free. -/
def State.endRecord (s : State) (c product : Nat) (prefix_ : List (BitVec 8)) : State :=
  let epoch := s.cxEpoch c
  let cfg := s.ctxCfg c epoch
  let w1 := (Config.freeWord s.fresh).toNat
  let w2 := (Config.freeWord (s.fresh + 1)).toNat
  let s0 := s.next.next
  let i : FoldInfo := { newest := w1 % 2 ^ 32, time := ptOf128 w2, sidx := w1 / 2 ^ 32 % 2 ^ 64 }
  let payload := prefix_ ++ s.stopBody c
  let h := s0.recHead c epoch product payload.length i
  let bytes := pad64 (h.bytes ++ payload)
  if cfgB cfg (R.CTX_SYNTH_SYNTH_MON 0) then s0.recQueue c epoch product (cfgF cfg (R.CTX_SYNTH_MON_SQ 0)) h bytes
  else
    let via := (List.range 16).find? (fun k => cfgProduct cfg k && (cfgRoute cfg k == 1 || cfgRoute cfg k == 2))
    match via with
    | none => s0.recSent c epoch product
    | some k =>
      if cfgRoute cfg k == 1 then s0.recQueue c epoch product (cfgF cfg (R.CTX_ROUTE_TARGET 0 k) % 32) h bytes
      else (s0.cmRecord c cfg bytes).recSent c epoch product

/-- The class that a context counts as (R161): a PIN context counts as class G. -/
def cfgClass (cfg : List (BitVec 32)) : Nat := if cfgB cfg (R.CTX_SRC_PIN 0) then 0 else cfgF cfg (R.CTX_SRC_CLASS 0)

/-- The load register of a class. -/
def classLoad (cls : Nat) : Fld := if cls == 0 then R.FAB_G_LOAD else if cls == 1 then R.FAB_E_LOAD else R.FAB_B_LOAD

/-- A load leaves the sums of its class and, for class G, of its home forge (R161 to R164). -/
def State.dropLoad (s : State) (cls home load : Nat) : State :=
  let s1 := s.setF (classLoad cls) (s.f (classLoad cls) - load)
  if cls == 0 then s1.setF (R.FRG_G_HOME home) (s1.f (R.FRG_G_HOME home) - load) else s1

/-- A load enters them. -/
def State.addLoad (s : State) (cls home load : Nat) : State :=
  let s1 := s.addSat (classLoad cls) load
  if cls == 0 then s1.addSat (R.FRG_G_HOME home) load else s1

/-- Hearth bytes of a forge return to its free space. -/
def State.freeHearth (s : State) (f n : Nat) : State := s.setF (R.FRG_HEARTH_FREE_BYTES f) (s.f (R.FRG_HEARTH_FREE_BYTES f) + n)

/-- A context's allocations, its load and its pinned anvil are released at the end of its run. -/
def State.ctxRelease (s : State) (c : Nat) : State :=
  let x := s.ctxN c
  let cfg := s.ctxCfg c (s.cxEpoch c)
  let home := s.homeOf c
  let s1 := (s.dropLoad (cfgClass cfg) home (s.f (R.CTX_LOAD c))).freeHearth home (x.ringLen + x.planeLen + x.workLen)
  let s2 := x.oldAlloc.foldl (fun (t : State) p => t.freeHearth p.2.1 p.2.2.2) s1
  let s3 := match x.moveTo with
    | some p => s2.freeHearth p.1 (x.ringLen + x.workLen)
    | none => s2
  let s4 := s3.setCtx c { x with ringLen := 0, planeLen := 0, workLen := 0, oldAlloc := [], moveTo := none, cutting := false }
  if !cfgB cfg (R.CTX_SRC_PIN 0) then s4
  else
    let a := s4.f (R.CTX_ACT_PIN_ANVIL c)
    let s5 := s4.setAnv home a { s4.anvN home a with pin := none, segs := [], segBusy := false }
    s5.setF (R.FRG_STATUS_PINNED home) (s5.f (R.FRG_STATUS_PINNED home) - 1)

/-- The segments that a PIN context's anvil has yet to process. -/
def State.pinLeft (s : State) (c : Nat) : Bool :=
  s.fab.anv.any (fun p => p.2.pin == some c && !p.2.segs.isEmpty)

/-- A publish that waits takes its place behind those of its home and of earlier homes. -/
def insPub (w : WaitPub) : List WaitPub → List WaitPub
  | [] => [w]
  | v :: vs => if w.billet.gen < v.billet.gen then w :: v :: vs else v :: insPub w vs

/-- Whether a billet of an earlier home than that of move `g` has yet to complete or to publish (R278). -/
def State.earlierHome (s : State) (c g : Nat) : Bool :=
  (s.liveOf c).any (fun b => decide (b.gen < g)) || (s.ctxN c).waitPub.any (fun w => decide (w.billet.gen < g))

/-- A former home's allocations are freed, and the publishes that waited for a move apply, once the last billet of every earlier home
has published (R142, R278). -/
def State.homeSettle (s : State) (c : Nat) : State :=
  let x := s.ctxN c
  let live := s.liveOf c
  let ready := fun (w : WaitPub) => !live.any (fun b => decide (b.gen < w.billet.gen))
  let stays := fun (p : Nat × Nat × Nat × Nat) => s.runsOf c || live.any (fun b => decide (b.gen ≤ p.1))
  if x.oldAlloc.isEmpty && x.waitPub.isEmpty then s
  else
    let s1 := (x.oldAlloc.filter (fun p => !stays p)).foldl (fun (t : State) p => t.freeHearth p.2.1 p.2.2.2)
      (s.setCtx c { x with oldAlloc := x.oldAlloc.filter stays, waitPub := x.waitPub.filter (fun w => !ready w) })
    (x.waitPub.filter ready).foldl State.publish s1

/-- Settles a context after any of its billets has gone: closed averages emit, and a drained context that stops or has
failed ends (Table 7-9). -/
def State.ctxSettle (s : State) (c : Nat) : State :=
  let s1 := (s.homeSettle c).closeAvgs c
  let x := s1.ctxN c
  let st := s1.ctxState c
  if (st != 3 && x.fault.isNone) || !(s1.liveOf c).isEmpty || s1.runsOf c || !x.waitPub.isEmpty || s1.pinLeft c then s1
  else
    let s2 := if st == 3 then s1.flushAvgs c else s1
    let next := leBytes 4 (s2.f (R.CTX_NEXT_SEQ c))
    match x.fault with
    | some (cause, forge, detail) =>
      let p := leBytes 2 (cause + 2 ^ 8 * forge) ++ leBytes 2 0 ++ leBytes 4 ((detail[3]?).getD 0) ++ List.replicate 8 0
      let s3 := (s2.endRecord c 15 p).ctxRelease c
      (s3.setF (R.CTX_STATE_STATE c) 4).finishDefs 0x41 c stOk 0
    | none =>
      let s3 := (s2.endRecord c 14 (next ++ List.replicate 12 0)).ctxRelease c
      (s3.setF (R.CTX_STATE_STATE c) 0).finishDefs 0x41 c stOk 0

end Sys2Proof.Machine
end

