-- ==== Sys2Proof/Machine/Fabric.lean ====
section
/-!
DEFINITION. The compute fabric (spec/05_compute_fabric.md, R139 to R185): racks, admission, hearth space, placing and losing
billets, context faults, the cutter, taking and stealing work, pinned contexts and home moves.
-/
namespace Sys2Proof.Machine

/-! ## Fabric time and racks (R145, R149) -/

/-- The billet time base: FAB_FC modulo 2^32. -/
def State.fc (s : State) : Nat := s.f R.FAB_FC % 2 ^ 32

/-- A 32-bit difference. -/
def sub32 (a b : Nat) : Nat := (a + 2 ^ 32 - b % 2 ^ 32) % 2 ^ 32

/-- Deadline `a` is earlier than deadline `b` (R149). -/
def fcBefore (a b : Nat) : Bool := decide (2 ^ 31 ≤ sub32 a b)

/-- The order of a rack (R149). DESIGN CHOICE: the lower CREATED is the earlier one modulo 2^32, as for deadlines; R149 does not
say how CREATED is compared across its wrap (log entry 126). -/
def billetBefore (a b : Billet) : Bool :=
  if a.deadline != b.deadline then fcBefore a.deadline b.deadline
  else if a.created != b.created then fcBefore a.created b.created
  else decide (a.ctx < b.ctx)

/-- A billet enters a rack behind its equals. -/
def rackIns (b : Billet) : List Billet → List Billet
  | [] => [b]
  | x :: xs => if billetBefore b x then b :: x :: xs else x :: rackIns b xs

/-- Replaces the rack of a forge; its status follows. -/
def State.setRack (s : State) (f : Nat) (r : List Billet) : State :=
  let s1 := { s with fab := { s.fab with rack := tset (fun _ => []) s.fab.rack f r } }
  (s1.setF (R.FRG_STATUS_LEVEL f) r.length).setB (R.FRG_STATUS_ABOVE_HWM f) (decide (s.f R.FAB_RACK_HWM_HWM < r.length))

/-- Whether a forge is in service. -/
def State.forgeUp (s : State) (f : Nat) : Bool := s.isRunning (0x20 + f) && tget (fun _ => 0) s.fab.drain f == 0

/-- Whether a forge's rack takes another billet: a rack of a forge out of service takes none. -/
def State.rackRoom (s : State) (f : Nat) : Bool := s.forgeUp f && decide ((s.rackOf f).length < 256)

/-- The forge at distance `d` upwards and downwards on the ring. -/
def ringUp (f d : Nat) : Nat := (f + d) % 32
def ringDown (f d : Nat) : Nat := (f + 32 - d % 32) % 32

/-- The nearest rack with room, f + d before f − d (R171). -/
def State.nearRack (s : State) (f : Nat) : Option Nat :=
  (((List.range 16).map (fun i => [ringUp f (i + 1), ringDown f (i + 1)])).flatten).find? (fun g => s.rackRoom g)

/-- The rack that takes a billet of an offline forge (R183): the emptier neighbour, else the nearest with room. -/
def State.sideRack (s : State) (f : Nat) : Option Nat :=
  let u := ringUp f 1
  let d := ringDown f 1
  if s.rackRoom u && (!s.rackRoom d || decide ((s.rackOf u).length ≤ (s.rackOf d).length)) then some u
  else if s.rackRoom d then some d
  else s.nearRack f

/-! ## Admission (R161 to R166) -/

/-- The steal radius in force. -/
def State.radius (s : State) : Nat := min 16 (s.f R.FAB_CTRL_STEAL_RADIUS)

/-- The device test of R162 for a sum of class G loads. -/
def State.deviceTest (s : State) (budget sum : Nat) : Bool := decide (65536 * sum ≤ budget * s.f R.FAB_CAPACITY)

/-- The window test of R162 for the G loads by home forge: 40.96 × 10^9 is the capacity K ÷ 32 of one forge, and like K it scales with
F_R (R1). -/
def windowTest (cap budget radius : Nat) (home : Nat → Nat) : Bool :=
  let w := min (2 * radius + 1) 32
  (List.range 32).all (fun f =>
    let sum := (List.range w).foldl (fun a i => a + home ((f + 32 - radius + i) % 32)) 0
    decide (65536 * 32 * sum ≤ budget * w * cap))

/-- Whether the admitted G loads pass R162 under a budget and a radius (R166). -/
def State.limitsOk (s : State) (budget radius : Nat) : Bool :=
  s.deviceTest budget (s.f R.FAB_G_LOAD) && windowTest (s.f R.FAB_CAPACITY) budget radius (fun f => s.f (R.FRG_G_HOME f))

/-- The admission tests for a context of a class with a load, homed on a forge (R162 to R164); the sums hold no load of
that context. -/
def State.admits (s : State) (cls home load : Nat) : Bool :=
  if cls == 0 then
    s.deviceTest (s.f R.FAB_G_BUDGET_BUDGET) (s.f R.FAB_G_LOAD + load)
    && windowTest (s.f R.FAB_CAPACITY) (s.f R.FAB_G_BUDGET_BUDGET) s.radius (fun f => s.f (R.FRG_G_HOME f) + (if f == home then load else 0))
  else if cls == 1 then decide (s.f R.FAB_G_LOAD + s.f R.FAB_E_LOAD + load ≤ s.f R.FAB_CAPACITY)
  else true

/-- A write of FAB_G_BUDGET (R166). -/
def budgetWritten (old v : Nat) (s : State) : State :=
  if s.limitsOk (v % 65536) s.radius then s else (s.setF R.FAB_G_BUDGET old).setB R.FAB_STATUS_LIMIT_REFUSED true

/-- A write of FAB_CTRL (R166): a radius that fails the tests is dropped, the rest of the word is written. -/
def fabCtrlWritten (old v : Nat) (s : State) : State :=
  if s.limitsOk (s.f R.FAB_G_BUDGET_BUDGET) (min 16 (v % 32)) then s
  else (s.setF R.FAB_CTRL_STEAL_RADIUS (old % 32)).setB R.FAB_STATUS_LIMIT_REFUSED true

/-! ## Hearth space (R140, R143) -/

/-- The allocations in a hearth: base and length. Those of a home move that is to be made count too. -/
def State.hearthUsed (s : State) (f : Nat) : List (Nat × Nat) :=
  (s.ctx.map (fun p =>
    let x := p.2
    let here := if s.homeOf p.1 == f then [(x.ring, x.ringLen), (x.plane, x.planeLen), (x.work, x.workLen)] else []
    let next := match x.moveTo with
      | some m => if m.1 == f then [(m.2.1, x.ringLen), (m.2.2, x.workLen)] else []
      | none => []
    here ++ next ++ x.oldAlloc.filterMap (fun o => if o.2.1 == f then some o.2.2 else none))).flatten.filter (fun u => u.2 != 0)

/-- The lowest place of `n` bytes that overlaps none of the allocations given. -/
def fitIn (used : List (Nat × Nat)) (n : Nat) : Option Nat :=
  let starts := 65536 :: used.map (fun u => alignUp (u.1 + u.2) 64)
  let ok := starts.filter (fun a => decide (a + n ≤ 4194304) && used.all (fun u => a + n ≤ u.1 || u.1 + u.2 ≤ a))
  match ok with
  | [] => none
  | a :: rest => some (rest.foldl min a)

/-- The place of every density plane in its hearth, 1 MiB, and its length (R255). -/
def planePlace : Nat × Nat := (1048576, 1048576)

/-- A place of `n` bytes, outside the place of a density plane where there is one. -/
def fitOut (used : List (Nat × Nat)) (n : Nat) : Option Nat :=
  match fitIn (planePlace :: used) n with
  | some a => some a
  | none => fitIn used n

/-- Places of a ring, a density plane and a work area in a hearth, or none when it cannot hold them; the plane has its fixed place. -/
def State.hearthFit (s : State) (f ring plane work : Nat) : Option (Nat × Nat × Nat) :=
  let u0 := s.hearthUsed f
  let clash := plane != 0 && u0.any (fun u => decide (u.1 < 2 * 1048576) && decide (1048576 < u.1 + u.2))
  if s.f (R.FRG_HEARTH_FREE_BYTES f) < ring + plane + work || clash then none
  else
    let u1 := if plane == 0 then u0 else planePlace :: u0
    match fitOut u1 ring with
    | none => none
    | some a =>
      match fitOut (if ring == 0 then u1 else (a, ring) :: u1) work with
      | none => none
      | some c => some (a, if plane == 0 then 0 else planePlace.1, c)

/-! ## Anvils -/

/-- Whether an anvil is halted, and whether a halt waits for it (R231). -/
def State.anvHalted (s : State) (f a : Nat) : Bool := s.flag ((R.FRG_DBG_HALTED f).bit a)
def State.haltWaits (s : State) (f a : Nat) : Bool := s.flag ((R.FRG_DBG_HALT f).bit a)

/-- Whether an anvil may start a billet: it is idle, not halted nor about to be, and its forge is in service. -/
def State.anvReady (s : State) (f a : Nat) : Bool :=
  let x := s.anvN f a
  x.run.isNone && !x.copying && !s.anvHalted f a && !s.haltWaits f a && s.forgeUp f

/-- Whether an anvil looks for work: ready and not pinned. -/
def State.anvIdle (s : State) (f a : Nat) : Bool := s.anvReady f a && (s.anvN f a).pin.isNone

/-- The anvil without the billet that it ran. -/
def AnvSt.stop (x : AnvSt) : AnvSt := { x with run := none, move := none, rep := 0, cyc := 0, poison := false, gone := false }

/-- The repeat limit of a billet (R213). -/
def State.repLimitOf (s : State) (cfg : List (BitVec 32)) : Nat :=
  let own := cfgF cfg (R.CTX_REP_REP_LIMIT 0)
  let cls := cfgF cfg (R.CTX_SRC_CLASS 0)
  let lg := if cls == 0 then s.f R.FAB_REP_LIMIT_G_LOG2 else if cls == 1 then s.f R.FAB_REP_LIMIT_E_LOG2 else s.f R.FAB_REP_LIMIT_B_LOG2
  if own != 0 then own else 2 ^ min 16 lg

/-- The entry values of S0 to S7 (Table 6-2). -/
def State.entryRegs (s : State) (f : Nat) (b : Billet) (seg : Nat) : Tbl (BitVec 32) :=
  let s7 := b.stage + 2 ^ 4 * (if b.last then 1 else 0) + 2 ^ 5 * (if b.stolen then 1 else 0) + 2 ^ 6 * (if b.reissue then 1 else 0) + 2 ^ 7 * b.home + 2 ^ 12 * f
  let vs := [b.ctx, b.seq, seg, 64 * b.segLines, cfgF (s.ctxCfg b.ctx b.cxEpoch) (R.CTX_KARG 0), b.work, b.deadline, s7]
  tsetN (fun _ => 0) [] 0 (vs.map (BitVec.ofNat 32))

/-- An anvil starts a billet (R186, R187); `seg` is the address of its segment. -/
def State.startRun (s : State) (f a : Nat) (b0 : Billet) (seg : Nat) : State :=
  let b := { b0 with stolen := f != b0.home }
  let x := s.anvN f a
  let c := s.ctxN b.ctx
  let y : AnvSt := { upc := x.upc, ttag := x.ttag, scratch := x.scratch, pin := x.pin, segs := x.segs, segNext := x.segNext, segBusy := x.segBusy, haltCtx := x.haltCtx, sr := s.entryRegs f b seg, pc := b.kentry, run := some b, kLo := c.kLo, kHi := c.kHi, repLimit := s.repLimitOf (s.ctxCfg b.ctx b.cxEpoch) }
  s.setAnv f a y

/-- An anvil starts a billet of a rack. -/
def State.takeBillet (s : State) (f a : Nat) (b : Billet) : State := s.startRun f a b (b.ring + b.segOfs)

/-- A running billet is abandoned (R158): its cycles count, the anvil keeps its registers and its scratch. -/
def State.abandon (s : State) (f a : Nat) : State :=
  let x := s.anvN f a
  match x.run with
  | none => s
  | some b => ((s.setAnv f a x.stop).incSat (R.FRG_ABANDON f)).addWrap (R.CTX_CYCLES b.ctx) x.cyc

/-- A running billet is withdrawn: the anvil ends its instruction, with the whole of a repeat, before the billet is abandoned (R173, R212,
R231). -/
def State.dropRun (s : State) (f a : Nat) : State :=
  let x := s.anvN f a
  if x.rep != 0 || x.move.isSome then s.setAnv f a { x with gone := true } else s.abandon f a

/-! ## Losing frames (R168 to R176) -/

/-- A frame is thinned (class E) or shed (class B), by R169 to R174. -/
def State.skipFrame (s : State) (c cls : Nat) : State :=
  let x := s.ctxN c
  let x1 : CtxSt := { x with skipE := x.skipE + (if cls == 2 then 0 else 1), skipB := x.skipB + (if cls == 2 then 1 else 0), skipPrev := x.skipPrev + 1, skipShed := x.skipShed + (if cls == 2 then 1 else 0) }
  (s.setCtx c x1).addWrap (R.CTX_SHED c) 1

/-- Every anvil that runs a billet of a frame that is not yet withdrawn. -/
def State.runnersOf (s : State) (c seq : Nat) : List Nat :=
  s.fab.anv.filterMap (fun p =>
    match p.2.run with
    | some b => if b.ctx == c && b.seq == seq && !p.2.gone then some p.1 else none
    | none => none)

/-- A frame's billets are withdrawn: queued ones leave their racks, running ones are abandoned at the end of their instruction
and not re-issued, and its group ends (R171, R173). -/
def State.dropFrame (s : State) (c seq : Nat) : State :=
  let s1 := (List.range 32).foldl (fun (t : State) f =>
    let r := (t.rackOf f).filter (fun b => !(b.ctx == c && b.seq == seq))
    if r.length == (t.rackOf f).length then t else t.setRack f r) s
  let s2 := (s1.runnersOf c seq).foldl (fun (t : State) k => t.dropRun (k / 32) (k % 32)) s1
  let x := s2.ctxN c
  s2.setCtx c { x with groups := x.groups.filter (fun g => g.seq != seq) }

/-- Moves a context's load between classes (R161, R165). -/
def State.reclass (s : State) (c old new : Nat) : State :=
  let load := s.f (R.CTX_LOAD c)
  if old == new then s else (s.dropLoad old (s.homeOf c) load).addLoad new (s.homeOf c) load

/-- The status of the last command on a context. -/
def State.ctxResult (s : State) (c status : Nat) : State := s.setF (R.CTX_STATE_RESULT c) status

/-- A pending modification ends without effect (R277). -/
def State.cancelMod (s : State) (c status : Nat) : State :=
  let x := s.ctxN c
  match x.pend with
  | none => s
  | some m =>
    let s1 := (s.setCtx c { x with pend := none }).setB (R.CTX_STATE_MOD_PEND c) false
    ((s1.reclass c (cfgClass m.cfg) (cfgClass (s1.cfgNow c))).ctxResult c status).finishDefs 0x42 c status 0

/-- Fault causes (Table 5-5). -/
def cLateLimit : Nat := 1
def cGLost : Nat := 2
def cRingOverrun : Nat := 3
def cPinMchk : Nat := 4
def cKernel : Nat := 5

/-- A context fault (R176): the cutter stops, the fault is recorded and counted; the context enters FAULT once it has
drained. A context that already drains on a fault keeps its first cause. -/
def State.ctxFault (s : State) (c cause : Nat) (detail : List Nat) : State :=
  let st := s.ctxState c
  if st == 0 || st == 4 then s
  else
    let home := s.homeOf c
    let s1 := (s.setF R.FAB_FAULT (c + 2 ^ 16 * home + 2 ^ 24 * cause)).incSat R.FAB_FAULT_COUNT
    let s2 := s1.errLog 0x03 1 (0x20 + home) cause ([c, cause] ++ detail)
    let x := s2.ctxN c
    let first := x.fault.isNone
    let s3 := if first then s2.setF (R.CTX_STATE_FAULT_CAUSE c) cause else s2
    let x1 : CtxSt := { x with cutting := false, fault := if first then some (cause, home, detail) else x.fault }
    ((s3.setCtx c x1).cancelMod c stCancelled).ctxSettle c

/-- A class G frame is lost: WITHDRAWN counts it (R239) and its context faults. -/
def State.loseFrame (s : State) (c cause : Nat) : State := (s.addSat (R.CTX_WITHDRAWN c) 1).ctxFault c cause []

/-! ## Placing billets (R159, R171, R172, R184) -/

/-- The billet that gives way to a class G billet in a full rack: the latest class B, else the latest class E. -/
def evictee (r : List Billet) : Option Billet :=
  match r.reverse.find? (fun b => b.cls == 2) with
  | some b => some b
  | none => r.reverse.find? (fun b => b.cls == 1)

/-- What became of a billet that was to enter a rack. -/
inductive Placed where
  | done | skip | lost
deriving DecidableEq, Repr

/-- A billet enters the rack of a forge. -/
def State.enqueue (s : State) (g : Nat) (b : Billet) : State := s.setRack g (rackIns { b with stolen := g != b.home } (s.rackOf g))

/-- A billet goes to its home rack, or where R171, R172 and R184 send it. -/
def State.placeBillet (s : State) (b : Billet) : State × Placed :=
  let none_ := if b.cls == 0 then Placed.lost else Placed.skip
  if !s.forgeUp b.home then
    match s.sideRack b.home with
    | some g => (s.enqueue g b, .done)
    | none => (s, none_)
  else if s.rackRoom b.home then (s.enqueue b.home b, .done)
  else if b.cls != 0 then (s, .skip)
  else
    match evictee (s.rackOf b.home) with
    | some e =>
      let s1 := ((s.dropFrame e.ctx e.seq).skipFrame e.ctx e.cls).enqueue b.home b
      (s1.ctxSettle e.ctx, .done)
    | none =>
      match s.nearRack b.home with
      | some g => (s.enqueue g b, .done)
      | none => (s, .lost)

/-- A billet is placed, and its frame counted when it has no place; the second part says whether it has one. -/
def State.place (s : State) (b : Billet) : State × Bool :=
  let r := s.placeBillet b
  match r.2 with
  | .done => (r.1, true)
  | .skip => (((r.1.dropFrame b.ctx b.seq).skipFrame b.ctx b.cls).ctxSettle b.ctx, false)
  | .lost => (((r.1.dropFrame b.ctx b.seq).setB R.FAB_STATUS_G_LOST true).loseFrame b.ctx cGLost, false)

/-- The `n` billets of a stage, one after another, while they find room; parts are 32 KiB apart in the segment (R243). -/
def State.placeParts (s : State) (b : Billet) (n : Nat) : State × Bool :=
  (List.range n).foldl (fun (p : State × Bool) i =>
    if !p.2 then p
    else p.1.place { b with part := i, segOfs := if b.ringLen == 0 then b.segOfs else (b.segOfs + 32768 * i) % b.ringLen }) (s, true)

/-- An abandoned billet is re-issued from the start (R159). -/
def State.reissue (s : State) (b : Billet) : State := (s.place { b with reissue := true }).1

/-! ## Windows and changes of settings (R241, R275, R276) -/

/-- The window coefficient `n` of a configuration (Table 7-3): a user table holds Q1.15 values. -/
def cfgCoef (cfg : List (BitVec 32)) (user : List (BitVec 8)) (l n : Nat) : Int :=
  let kind := cfgF cfg (R.CTX_WIN_WINDOW 0)
  if kind == 6 then sext 16 (leAt user (2 * n) 2) else windowCoef kind (cfgF cfg (R.CTX_WIN_WPARAM 0)) l n

/-- WIN_CG and WIN_ENBW follow the window (R241); WIN_ENBW is free when the coefficients sum to 0. -/
def State.syncWindow (s : State) (c l : Nat) : State :=
  let sums := windowSums l (cfgCoef (s.cfgNow c) (s.ctxN c).window l)
  let s1 := s.setFi (R.CTX_WIN_CG c) (windowCg l sums)
  match windowEnbw l sums with
  | some e => s1.setFi (R.CTX_WIN_ENBW c) e
  | none => (s1.setF (R.CTX_WIN_ENBW c) (Config.freeWord s1.fresh).toNat).next

/-- Whether a context runs long transforms: L = 2^14 or more, and no block context (R243, R249). -/
def cfgBlock (cfg : List (BitVec 32)) : Bool := let p := cfgF cfg (R.CTX_PRODUCTS_PRODUCTS 0); p != 0 && p &&& 0xC0 == p
def cfgLong (cfg : List (BitVec 32)) : Bool := !cfgBlock cfg && !cfgB cfg (R.CTX_SRC_PIN 0) && decide (14 ≤ cfgF cfg (R.CTX_WIN_LOG2L 0))

/-- The transform length of a context that is no block context, PIN or not: its window has that many coefficients (R241, R249). -/
def cfgTransform (cfg : List (BitVec 32)) : Nat := 2 ^ cfgF cfg (R.CTX_WIN_LOG2L 0)

/-- The configuration area of a context is replaced; its reserved bits stay 0 (R5). -/
def State.setCfg (s : State) (c : Nat) (cfg : List (BitVec 32)) : State :=
  (cfg.zipIdx.take 64).foldl (fun (t : State) p =>
    let off := 0x200000 + 0x200 * c + 4 * p.2
    t.setWord off (p.1 &&& BitVec.ofNat 32 (fieldBits off))) s

/-- A pending modification takes effect at a cut (R275, R276). -/
def State.applyMod (s : State) (c : Nat) : State :=
  let x := s.ctxN c
  match x.pend with
  | none => s
  | some m =>
    let old := s.cfgNow c
    let e := (s.cxEpoch c + 1) % 65536
    let changed := [R.CTX_LEVEL_REF 0, R.CTX_LEVEL_STEP 0, R.CTX_COLF_COL_FIRST 0, R.CTX_COLS 0].any (fun fl => cfgF old fl != cfgF m.cfg fl)
    let x1 : CtxSt := { x with pend := none, cfgs := (e, m.cfg) :: x.cfgs, limits := m.limits.getD x.limits, window := m.window.getD x.window, epochDue := (e, cfgF m.cfg (R.CTX_PRODUCTS_PRODUCTS 0)) :: x.epochDue }
    let s1 := ((s.setCtx c x1).setCfg c m.cfg).setF (R.CTX_ACT_CX_EPOCH c) e
    let s2 := (s1.setB (R.CTX_STATE_MOD_PEND c) false).ctxResult c stOk
    let rewin := [R.CTX_WIN_WINDOW 0, R.CTX_WIN_WPARAM 0].any (fun fl => cfgF old fl != cfgF m.cfg fl)
    let s3 := if rewin && !cfgBlock m.cfg then s2.syncWindow c (cfgTransform m.cfg) else s2
    let s4 := if changed && x.planeLen != 0 then s3.densClear (s3.homeOf c) x.plane else s3
    s4.finishDefs 0x42 c stOk e

/-! ## Home moves (R142, R278) -/

/-- Bytes of a hearth copied to another. -/
def State.copyHearth (s : State) (f a g b n : Nat) : State := s.putBytes 1 (hearthAddr g b) (s.bytesAt 1 (hearthAddr f a) n)

/-- The window test of R162 with a context's load moved to forge `f`. -/
def State.moveFits (s : State) (c f : Nat) : Bool :=
  let old := s.homeOf c
  let load := s.f (R.CTX_LOAD c)
  let home := fun (g : Nat) => s.f (R.FRG_G_HOME g) + (if g == f then load else 0) - (if g == old then load else 0)
  cfgClass (s.cfgNow c) != 0 || windowTest (s.f R.FAB_CAPACITY) (s.f R.FAB_G_BUDGET_BUDGET) s.radius home

/-- Nymdevo moves the home forge of a running context (R142): not of one with DENS (R278) or PIN, and not where the
window test or the hearth space fails. The space is reserved at once; the move itself takes effect at the next cut. -/
def homeMove (c f : Nat) (s : State) : State :=
  let x := s.ctxN c
  if !x.cutting || x.moveTo.isSome || f == s.homeOf c || cfgB (s.cfgNow c) (R.CTX_SRC_PIN 0) || x.planeLen != 0 || !s.moveFits c f then s
  else
    match s.hearthFit f x.ringLen 0 x.workLen with
    | none => s
    | some (ring, _, work) =>
      (s.setF (R.FRG_HEARTH_FREE_BYTES f) (s.f (R.FRG_HEARTH_FREE_BYTES f) - (x.ringLen + x.workLen))).setCtx c { x with moveTo := some (f, ring, work) }

def execHomeMove (c : Fin 3072) (f : Fin 32) (s : State) : Out := .next (homeMove c f s)

/-- A home move takes effect at a cut: the ring and the work area stand in the new hearth, and the loads follow. A move that has come to
fail the window test is not made. -/
def State.homeTake (s : State) (c : Nat) : State :=
  let x := s.ctxN c
  match x.moveTo with
  | none => s
  | some (f, ring, work) =>
    let old := s.homeOf c
    let s0 := s.setCtx c { x with moveTo := none }
    if !s.moveFits c f then s0.freeHearth f (x.ringLen + x.workLen)
    else
      let load := s.f (R.CTX_LOAD c)
      let cls := cfgClass (s.cfgNow c)
      let s1 := (s0.copyHearth old x.ring f ring x.ringLen).copyHearth old x.work f work x.workLen
      let gone := [(x.gen, old, x.ring, x.ringLen), (x.gen, old, x.work, x.workLen)].filter (fun p => p.2.2.2 != 0)
      let s2 := s1.setCtx c { x with moveTo := none, ring := ring, work := work, gen := x.gen + 1, oldAlloc := x.oldAlloc ++ gone }
      let s3 := (s2.dropLoad cls old load).addLoad cls f load
      (s3.setF (R.CTX_ACT_HOME_ACT c) f).homeSettle c

/-! ## The cutter (R145, R147, R169 to R175, R240 to R245) -/

/-- The age of a context's oldest uncompleted billet. -/
def State.oldestAge (s : State) (c : Nat) : Nat := (s.liveOf c).foldl (fun a b => max a (sub32 s.fc b.created)) 0

/-- Whether a frame of class E or B is skipped at its cut (R169, R170, R175). -/
def State.cutSkips (s : State) (c cls : Nat) (cfg : List (BitVec 32)) : Bool :=
  let th := s.f R.FAB_STATUS_THROTTLE
  if cls == 2 then 1 ≤ th || decide (s.f R.FAB_RACK_HWM_HWM < (s.rackOf (s.homeOf c)).length)
  else if cls == 1 then 2 ≤ th || decide (4 * cfgF cfg (R.CTX_DEADLINE_DEADLINE 0) < s.oldestAge c)
  else false

/-- Flags and chain epoch of the outputs `lo` to `hi` of a context (R131, R266). -/
def ctxSpanFlags (x : CtxSt) (lo hi : Nat) : Nat :=
  marksFlags x.marks lo hi ||| flagIf (x.epochs.any (fun e => lo < e.1 && e.1 ≤ hi)) fEPOCH
def ctxSpanEpoch (x : CtxSt) (hi : Nat) : Nat := ((x.epochs.find? (fun e => e.1 ≤ hi)).map (fun e => e.2)).getD 0

/-- The billet of a frame (Table 5-2). -/
def State.frameBillet (s : State) (c seq first : Nat) (info : FoldInfo) : Billet :=
  let x := s.ctxN c
  let cfg := s.cfgNow c
  let long := cfgLong cfg
  { ctx := c, home := s.homeOf c, cls := cfgClass cfg, last := !long, deadline := (s.fc + cfgF cfg (R.CTX_DEADLINE_DEADLINE 0)) % 2 ^ 32, created := s.fc, segOfs := if x.ringLen == 0 then 0 else 4 * (first - (x.j0.getD 0)) % x.ringLen, segLines := if long then 512 else ceilDiv (4 * x.l) 64, kentry := x.kentry, chEpoch := info.chEpoch, seq := seq, cxEpoch := s.cxEpoch c, group := if long then seq % 65536 else 0, skipped := min x.skipPrev 65535, first := first, ring := x.ring, ringLen := x.ringLen, work := x.work, workLen := x.workLen, gen := x.gen, info := { info with skipE := x.skipPrev - x.skipShed, skipB := x.skipShed } }

/-- A frame is cut: its billet, or the first stage of its group, is placed (R145, R148). -/
def State.cutBillets (s : State) (c : Nat) (b : Billet) : State :=
  let s0 := s.setCtx c { s.ctxN c with skipPrev := 0, skipShed := 0 }
  if b.last then (s0.place b).1
  else
    let n := (s0.ctxN c).l / 8192
    let x := s0.ctxN c
    (((s0.setCtx c { x with groups := { seq := b.seq, stage := 0, left := n, proto := b } :: x.groups }).placeParts b n)).1

/-- The oldest frame whose last output has been written is cut. -/
def State.cutFrame (s : State) (c : Nat) : State :=
  let x0 := s.ctxN c
  match x0.starts with
  | [] => s
  | (first, time, sidx, hold) :: rest =>
    if !x0.cutting || x0.nextJ < first + x0.l then s
    else
      let s1 := (s.applyMod c).homeTake c
      let x := s1.ctxN c
      let cfg := s1.cfgNow c
      let cls := cfgClass cfg
      let seq := x.nextSeq
      let last := first + x.l - 1
      let info : FoldInfo := { newest := seq, oldest := seq, time := time, sidx := sidx, flags := ctxSpanFlags x first last ||| hold, chEpoch := ctxSpanEpoch x last }
      let s2 := (s1.setCtx c { x with starts := rest, nextSeq := seq + 1 }).setF (R.CTX_NEXT_SEQ c) ((seq + 1) % 2 ^ 32)
      let s3 := if s2.ctxState c == 1 then s2.setF (R.CTX_STATE_STATE c) 2 else s2
      if s3.cutSkips c cls cfg then (s3.skipFrame c cls).ctxSettle c
      else if cfgLong cfg && decide (max 1 (cfgF cfg (R.CTX_SRC_LT_GROUPS 0)) ≤ x.groups.length) then
        if cls == 0 then s3.loseFrame c cRingOverrun else (s3.skipFrame c cls).ctxSettle c
      else s3.cutBillets c (s3.frameBillet c seq first info)

/-- A frame whose last output stands in the hearth is cut (R145). -/
def execFrameCut (c : Fin 3072) (s : State) : Out := .next (s.cutFrame c)

/-- Every frame that is due is cut. -/
def State.cutDue (s : State) (c : Nat) : Nat → State
  | 0 => s
  | n + 1 =>
    let x := s.ctxN c
    match x.starts with
    | [] => s
    | (first, _) :: _ => if !x.cutting || x.nextJ < first + x.l then s else State.cutDue (s.cutFrame c) c n

/-- The billets that still need output `k` of their segment (R173): those of stage 0 whose frame holds it. -/
def State.needers (s : State) (c k : Nat) : List Billet :=
  (s.liveOf c).filter (fun b => b.stage == 0 && b.gen == (s.ctxN c).gen && decide (b.first ≤ k))

/-- The samples of output `k` are about to be overwritten: the billets that need them are withdrawn (R173). -/
def State.withdraw (s : State) (c k : Nat) : State :=
  let seqs := ((s.needers c k).map (fun b => (b.seq, b.cls))).eraseDups
  seqs.foldl (fun (t : State) p =>
    let t1 := t.dropFrame c p.1
    if p.2 == 0 then t1.loseFrame c cRingOverrun else (t1.skipFrame c p.2).ctxSettle c) s

/-- SAMPLE_INDEX of an output of a chain (R264). -/
def State.sampleIndexOf (s : State) (n : Nat) (o : ChainOut) : Nat :=
  if s.flag (act (R.FCH_FIR_GD_COMP n)) then (o.e + 2 ^ 64 - (s.f (R.FCH_GDELAY_GDELAY n) + 32768) / 65536) % 2 ^ 64 else o.e

/-- The HOLDOVER flag of a record whose input span begins with that of an output (R52, R116, R265). -/
def State.outHold (s : State) (n : Nat) (o : ChainOut) : Nat := s.holdFlag (o.e + 23 - s.actSpan n)

/-- The word of an output: I in the low half, Q in the high half (R114). -/
def outWord (o : ChainOut) : List (BitVec 8) := leBytes 2 (wrapInt 16 o.i) ++ leBytes 2 (wrapInt 16 o.q)

/-- Whether a context may start its first frame at an output (R240). -/
def State.startsAt (s : State) (c : Nat) (o : ChainOut) : Bool :=
  let x := s.ctxN c
  x.h != 0 && o.j % x.h == 0
  && (!s.flag (R.CTX_SRC_START_AT c) || decide (s.ptimeAt (R.CTX_START_PTIME c 0).off ≤ o.ptE))

/-- An output enters the segment ring (R173), and a frame begins where one is due. Frames count outputs from `j0`. -/
def State.ringWrite (s : State) (c n : Nat) (o : ChainOut) : State :=
  let x := s.ctxN c
  match x.j0 with
  | none => s
  | some b =>
    let k := x.nextJ
    let slots := x.ringLen / 4
    let s1 := if slots ≤ k - b then s.withdraw c (k - slots) else s
    let x1 := s1.ctxN c
    if !x1.cutting then s1
    else
      let home := s1.homeOf c
      let ofs := if slots == 0 then 0 else 4 * ((k - b) % slots)
      let s2 := s1.spaceWrite (0x40 + home) (s1.ctxSecure c) 1 (hearthAddr home (x1.ring + ofs)) (outWord o)
      let x2 := s2.ctxN c
      let begins := x2.h != 0 && (k - b) % x2.h == 0
      let oldest := match x2.starts with
        | [] => k
        | p :: _ => p.1
      let marks := (addMark ⟨k, k, o.flags⟩ x2.marks).filter (fun m => oldest ≤ m.hi)
      let epochs := match x2.epochs with
        | e :: _ => if e.2 == o.epoch then x2.epochs else (k, o.epoch) :: x2.epochs
        | [] => [(k, o.epoch)]
      let starts := if begins then x2.starts ++ [(k, o.time, s2.sampleIndexOf n o, s2.outHold n o)] else x2.starts
      s2.setCtx c { x2 with nextJ := k + 1, marks := marks, epochs := epochs, starts := starts }

/-! ## Pinned contexts (R177 to R180) -/

/-- An output of the chain joins the segment in progress of a PIN context; every s-th segment goes to the anvil (R178).
DESIGN CHOICE: segments 0, s, 2·s and so on, counted from the first output taken; R178 does not say which of each s (log entry 127). -/
def State.pinOutput (s : State) (c n : Nat) (o : ChainOut) : State :=
  let x := s.ctxN c
  let firstOne := x.seg.isEmpty
  let old := x.segInfo
  let info : FoldInfo :=
    if firstOne then { time := o.time, sidx := s.sampleIndexOf n o, flags := o.flags ||| s.outHold n o, chEpoch := o.epoch }
    else { old with flags := old.flags ||| o.flags ||| flagIf (old.chEpoch != o.epoch) fEPOCH, chEpoch := o.epoch }
  let seg := x.seg ++ outWord o
  if seg.length < 32 then s.setCtx c { x with seg := seg, segInfo := info, nextJ := x.nextJ + 1 }
  else
    let stride := max 1 (s.f (R.CTX_PIN_PIN_STRIDE c))
    let due := if x.segN % stride == 0 then x.segDue ++ [(seg, info)] else x.segDue
    s.setCtx c { x with seg := [], segInfo := {}, segN := x.segN + 1, segDue := due, nextJ := x.nextJ + 1 }

/-- A chain output reaches a context of the chain (R145, R240). -/
def State.ctxOutput (s : State) (c n : Nat) (o : ChainOut) : State :=
  let x := s.ctxN c
  if !x.cutting then s
  else
    let s1 :=
      if x.j0.isSome then s
      else if s.startsAt c o then s.setCtx c { x with j0 := some o.j, nextJ := o.j }
      else s
    if (s1.ctxN c).j0.isNone then s1
    else if s1.flag (R.CTX_SRC_PIN c) then s1.pinOutput c n o
    else (s1.cutDue c 64).ringWrite c n o

/-- A chain output reaches every context that takes the chain. -/
def State.feedContexts (s : State) (n : Nat) (o : ChainOut) : State :=
  (s.liveCtxs.filter (fun c => s.f (R.CTX_SRC_SRC_CHAIN c) == n)).foldl (fun (t : State) c => t.ctxOutput c n o) s

/-- Scratch address of a segment of a pinned anvil. -/
def pinAddr (place : Nat) : Nat := (Config.pinBase + 32 * place) % 65536

/-- A pinned anvil that is idle begins its oldest segment. DESIGN CHOICE: S2 holds the scratch address of the segment; Table 6-2 speaks of a
hearth address, which a segment that R178 puts into scratch has not (log entry 128). -/
def State.pinBegin (s : State) (f a : Nat) : State :=
  let x := s.anvN f a
  match x.pin, x.segs with
  | some _, g :: _ =>
    if x.segBusy || !s.anvReady f a then s else (s.setAnv f a { x with segBusy := true }).startRun f a g.billet (pinAddr g.place)
  | _, _ => s

/-- The billet of a segment: its epoch and its settings are those at its arrival (R275). -/
def State.segBillet (s : State) (c : Nat) (info : FoldInfo) : Billet :=
  let x := s.ctxN c
  let cfg := s.cfgNow c
  { ctx := c, home := s.homeOf c, cls := 0, deadline := (s.fc + cfgF cfg (R.CTX_DEADLINE_DEADLINE 0)) % 2 ^ 32, created := s.fc, segLines := 1, kentry := x.kentry, chEpoch := info.chEpoch, seq := x.nextSeq, cxEpoch := s.cxEpoch c, skipped := min x.skipPrev 65535, work := x.work, workLen := x.workLen, info := { info with newest := x.nextSeq, oldest := x.nextSeq } }

/-- A segment joins the area of a pinned anvil (R179): in the first free place, or, with 16 segments unconsumed, over the oldest that the
kernel has not begun; the second part says that it overwrote one. -/
def AnvSt.putSeg (x : AnvSt) (bytes : List (BitVec 8)) (b : Billet) : AnvSt × Bool :=
  let full := 16 ≤ x.segs.length
  let busy := if x.segBusy then x.segs.take 1 else []
  let wait := if x.segBusy then x.segs.drop 1 else x.segs
  let free := ((List.range 16).map (fun i => (x.segNext + i) % 16)).find? (fun p => !x.segs.any (fun g => g.place == p))
  let place := if full then ((wait.head?).map (fun g => g.place)).getD 0 else free.getD 0
  let segs := busy ++ (if full then wait.drop 1 else wait) ++ [⟨place, b⟩]
  ({ x with segs := segs, segNext := (place + 1) % 16, scratch := tsetN byteDflt x.scratch (pinAddr place) bytes }, full)

/-- A segment arrives in the scratch of a pinned anvil (R178, R179). -/
def pinSegment (c : Nat) (s : State) : State :=
  let x := s.ctxN c
  match x.segDue with
  | [] => s
  | (bytes, info) :: rest =>
    if !x.cutting then s
    else
      let f := s.homeOf c
      let a := s.f (R.CTX_ACT_PIN_ANVIL c)
      let s1 := s.applyMod c
      let b := s1.segBillet c info
      let y := (s1.anvN f a).putSeg bytes b
      let s2 := (s1.setAnv f a y.1).setF (R.CTX_NEXT_SEQ c) ((b.seq + 1) % 2 ^ 32)
      let s3 := s2.setCtx c { s2.ctxN c with segDue := rest, nextSeq := b.seq + 1, skipPrev := 0, skipShed := 0 }
      let s4 := if y.2 then (s3.incSat (R.FRG_PIN_OVR f)).skipFrame c 0 else s3
      let s5 := if s4.ctxState c == 1 then s4.setF (R.CTX_STATE_STATE c) 2 else s4
      s5.pinBegin f a

def execPinSegment (c : Fin 3072) (s : State) : Out := .next (pinSegment c s)

/-! ## Taking work (R150 to R154) -/

/-- An idle anvil takes the head billet of its own rack (R150): anvils that wait on a probe are passed over. -/
def localTake (f : Nat) (s : State) : State :=
  let from_ := tget (fun _ => 0) s.fab.taken f
  let who := ((List.range 32).map (fun i => (from_ + i) % 32)).find? (fun a => s.anvIdle f a && (s.anvN f a).probe == 0)
  match s.rackOf f, who with
  | b :: rest, some a =>
    let s1 := { s with fab := { s.fab with taken := tset (fun _ => 0) s.fab.taken f ((a + 1) % 32) } }
    (s1.setRack f rest).takeBillet f a b
  | _, _ => s

def execLocalTake (f : Fin 32) (s : State) : Out := .next (localTake f s)

/-- The head billet that a rack yields to a thief (R152); a forge out of service shows an empty rack. -/
def State.yields (s : State) (g : Nat) : Option Billet :=
  let r := s.rackOf g
  if s.forgeUp g && decide (max 1 (s.f R.FAB_CTRL_STEAL_MIN) ≤ r.length) then r.head?.filter (fun b => !s.flag (R.CTX_SRC_PIN b.ctx)) else none

/-- The victim of a probe at distance `d`, with its head billet (R152). -/
def State.victim (s : State) (f d : Nat) : Option (Nat × Billet) :=
  match s.yields (ringUp f d), s.yields (ringDown f d) with
  | some u, some v => if fcBefore v.deadline u.deadline then some (ringDown f d, v) else some (ringUp f d, u)
  | some u, none => some (ringUp f d, u)
  | none, some v => some (ringDown f d, v)
  | none, none => none

/-- The ring distance between two forges. -/
def ringDist (f g : Nat) : Nat := min ((f + 32 - g % 32) % 32) ((g + 32 - f % 32) % 32)

/-- Whether rack `g` serves anvil `a` of forge `f` before anvil `a2` of forge `f2` (R153); `from_` is where the order of one forge's anvils
begins. -/
def thiefFirst (g f a f2 a2 from_ : Nat) : Bool :=
  let d := ringDist f g
  let d2 := ringDist f2 g
  if d != d2 then decide (d < d2)
  else if f != f2 then ringUp f d == g
  else decide ((a + 32 - from_) % 32 < (a2 + 32 - from_) % 32)

/-- Whether rack `g` has served a thief of this control cycle ahead of anvil `a` of forge `f` (R153). -/
def State.outrun (s : State) (g f a : Nat) : Bool :=
  match tget (fun _ => []) s.fab.stole g with
  | [t, f1, a1, from_] => t == s.clk.cycles && thiefFirst g f1 a1 f a from_
  | _ => false

/-- Rack `g` serves anvil `a` of forge `f`. -/
def State.noteSteal (s : State) (g f a : Nat) : State :=
  let from_ := tget (fun _ => 0) s.fab.served (32 * g + f)
  { s with fab := { s.fab with served := tset (fun _ => 0) s.fab.served (32 * g + f) ((a + 1) % 32), stole := tset (fun _ => []) s.fab.stole g [s.clk.cycles, f, a, from_] } }

/-- A probe of the racks at the next distance (R151 to R154). `lost` says that the probe came in the fabric cycle of the last steal from the
rack chosen; the thief then loses where R153 serves the other first. -/
def stealProbe (f a : Nat) (lost : Bool) (s : State) : State :=
  let x := s.anvN f a
  let d := x.probe + 1
  if !s.anvIdle f a || s.radius < d || (x.probe == 0 && !(s.rackOf f).isEmpty) then
    if x.probe == 0 then s else s.setAnv f a { x with probe := 0 }
  else
    let goOn := s.setAnv f a { x with probe := if d == s.radius then 0 else d }
    match s.victim f d with
    | some (g, b) =>
      if lost && s.outrun g f a then goOn
      else
        let s1 := ((s.setRack g (s.rackOf g).tail).incSat (R.FRG_STOLEN f)).incSat (R.FRG_LOST g)
        (s1.noteSteal g f a).takeBillet f a b
    | none => goOn

def execStealProbe (f a : Fin 32) (lost : Bool) (s : State) : Out := .next (stealProbe f a lost s)

end Sys2Proof.Machine
end

