-- ==== Sys2Proof/Machine/Anvil.lean ====
section
/-!
DEFINITION. The anvil (spec/06_anvil_programming.md, R186 to R217 and R236): its registers and scratch, the instructions of
Table 6-5, the mover, publishing and kernel faults. A command names the forge and the anvil; the instruction word is the
word of the forge's kernel store at the anvil's PC.
-/
namespace Sys2Proof.Machine

/-! ## Instruction words (Table 6-4) -/

/-- The fields of an instruction word; MODE is the same in formats R and M. -/
def insD (w : Nat) : Nat := bitsOf w 20 4
def insA (w : Nat) : Nat := bitsOf w 16 4
def insB (w : Nat) : Nat := bitsOf w 12 4
def insG (w : Nat) : Nat := bitsOf w 10 2
def insMode (w : Nat) : Nat := bitsOf w 0 10
def insAp (w : Nat) : Nat := bitsOf w 17 3
def insAq (w : Nat) : Nat := bitsOf w 14 3
def insImm (w : Nat) : Nat := bitsOf w 0 20
def insRel (w : Nat) : Int := sext 14 w
def insN (w : Nat) : Nat := bitsOf w 0 16 + 1
def insSh (w : Nat) : Nat := bitsOf w 20 4
def insSn (w : Nat) : Nat := bitsOf w 16 4
def insSt (w : Nat) : Nat := bitsOf w 12 4
def insXp (w : Nat) : Nat := bitsOf w 9 3

/-- The opcodes of Table 6-5, and those whose REP column reads "no"; the dispatch tables hold both facts (R221, R223). -/
def opValid : List Nat :=
  [0x00, 0x01, 0x02, 0x04, 0x05, 0x06, 0x08, 0x09, 0x0A, 0x0B, 0x0C, 0x0D, 0x0E, 0x10, 0x11, 0x12, 0x13, 0x14, 0x15,
   0x20, 0x21, 0x22, 0x23, 0x24, 0x25, 0x26, 0x30, 0x31, 0x32, 0x33, 0x34, 0x35, 0x36, 0x37, 0x38, 0x39, 0x3A, 0x3B, 0x3C,
   0x3D, 0x40, 0x41, 0x48, 0x49, 0x4A, 0x50, 0x52, 0x58, 0x59, 0x60, 0x68, 0x69, 0x70, 0x7F]
def opNoRep : List Nat := [0x01, 0x02, 0x04, 0x05, 0x06, 0x68, 0x69, 0x70, 0x7F]

/-! ## Registers and scratch of an anvil (Table 6-1, R189) -/

/-- Scalars, addresses, offsets and modulo lengths. -/
def AnvSt.s_ (x : AnvSt) (n : Nat) : Nat := (tget (fun _ => 0) x.sr (n % 16)).toNat
def AnvSt.a_ (x : AnvSt) (n : Nat) : Nat := (tget (fun _ => 0) x.a (n % 8)).toNat
def AnvSt.o_ (x : AnvSt) (n : Nat) : Nat := (tget (fun _ => 0) x.o (n % 8)).toNat
def AnvSt.l_ (x : AnvSt) (n : Nat) : Nat := (tget (fun _ => 0) x.l (n % 8)).toNat
def AnvSt.br_ (x : AnvSt) (n : Nat) : Bool := tget (fun _ => false) x.br (n % 8)

/-- A scalar or an address is written. -/
def AnvSt.setS (x : AnvSt) (n v : Nat) : AnvSt := { x with sr := tset (fun _ => 0) x.sr (n % 16) (BitVec.ofNat 32 v) }
def AnvSt.setA (x : AnvSt) (n v : Nat) : AnvSt := { x with a := tset (fun _ => 0) x.a (n % 8) (BitVec.ofNat 16 v) }

/-- Whether a branch on the value: a scalar written as a signed integer. -/
def AnvSt.setSi (x : AnvSt) (n : Nat) (v : Int) : AnvSt := x.setS n (wrapInt 32 v)

/-- The lanes of a vector register. -/
def AnvSt.vec (x : AnvSt) (n : Nat) : List Int := (tgetN (fun _ => 0) x.v (8 * (n % 16)) 8).map (fun (b : BitVec 16) => b.toInt)

/-- A vector register is written. -/
def AnvSt.setVec (x : AnvSt) (n : Nat) (ls : List Int) : AnvSt :=
  { x with v := tsetN (fun _ => 0) x.v (8 * (n % 16)) ((ls.take 8).map (BitVec.ofInt 16)) }

/-- The lanes of an accumulator group. -/
def AnvSt.grp (x : AnvSt) (g : Nat) : List Int := (tgetN (fun _ => 0) x.acc (8 * (g % 4)) 8).map (fun (b : BitVec 40) => b.toInt)

/-- An accumulator group is written. -/
def AnvSt.setGrp (x : AnvSt) (g : Nat) (ls : List Int) : AnvSt :=
  { x with acc := tsetN (fun _ => 0) x.acc (8 * (g % 4)) ((ls.take 8).map (BitVec.ofInt 40)) }

/-- SAT stays set once an instruction saturates (R197). -/
def AnvSt.satOr (x : AnvSt) (b : Bool) : AnvSt := { x with sat := x.sat || b }

/-- Bytes of scratch, wrapping modulo 2^16. -/
def AnvSt.bytes (x : AnvSt) (a n : Nat) : List (BitVec 8) := (List.range n).map (fun i => tget byteDflt x.scratch ((a + i) % 65536))

/-- Whether two ranges of scratch overlap, both wrapping. -/
def wrapOverlap (a n b m : Nat) : Bool := decide ((b + 65536 - a % 65536) % 65536 < n) || decide ((a + 65536 - b % 65536) % 65536 < m)

/-- Bytes written to scratch; a write into the range of the resident table invalidates TTAG (R208). -/
def AnvSt.setBytes (x : AnvSt) (a : Nat) (bs : List (BitVec 8)) : AnvSt :=
  let hit := match x.ttag with
    | some (_, base, len) => wrapOverlap a bs.length base len
    | none => false
  let sc := (bs.zipIdx).foldl (fun t p => tset byteDflt t ((a + p.2) % 65536) p.1) x.scratch
  { x with scratch := sc, ttag := if hit then none else x.ttag }

/-- The lanes of the vector at an address, and a vector stored (R189). -/
def AnvSt.loadV (x : AnvSt) (a : Nat) : List Int :=
  let bs := x.bytes (a / 16 * 16) 16
  (List.range 8).map (fun i => sext 16 (leAt bs (2 * i) 2))
def AnvSt.storeV (x : AnvSt) (a : Nat) (ls : List Int) : AnvSt :=
  x.setBytes (a / 16 * 16) ((ls.take 8).map (fun v => leBytes 2 (wrapInt 16 v))).flatten

/-- The address register after a post-modification (R192). -/
def AnvSt.post (x : AnvSt) (p : Nat) : AnvSt := x.setA p (postMod (x.a_ p) (x.o_ p) (x.l_ p) (x.br_ p))

/-- A vector read through an address register, with its post-modification. -/
def AnvSt.readV (x : AnvSt) (p : Nat) : List Int × AnvSt := (x.loadV (x.a_ p), x.post p)

/-- A vector stored through an address register, with its post-modification. -/
def AnvSt.writeV (x : AnvSt) (p : Nat) (ls : List Int) : AnvSt := (x.storeV (x.a_ p) ls).post p

/-! ## Dispatch, repeats and kernel faults (R195, R212 to R217) -/

/-- What a cleared kernel-store word holds: 0, with its parity bit in bit 32 set (R221, R537). -/
def ksDflt (_ : Nat) : BitVec 33 := 0x100000000

/-- A word of a kernel store with its parity bit in bit 32, and the instruction in it (R221). -/
def State.storeWord (s : State) (f pc : Nat) : Nat := (tget ksDflt s.fab.ks (16384 * f + pc % 16384)).toNat
def State.insWord (s : State) (f a : Nat) : Nat := s.storeWord f (s.anvN f a).pc % 2 ^ 32

/-- Whether an anvil takes its next instruction: it runs a billet, waits for nothing, and nothing waits for its
instruction boundary (R216, R231). -/
def State.anvRuns (s : State) (f a : Nat) : Bool :=
  let x := s.anvN f a
  x.run.isSome && x.move.isNone && !x.copying
  && (x.rep != 0 || (s.forgeUp f && !s.haltWaits f a && decide (x.cyc < 16777216)))

/-- A pinned anvil's segment in progress is consumed (R179). -/
def State.pinPop (s : State) (f a : Nat) : State :=
  let x := s.anvN f a
  if x.segBusy then s.setAnv f a { x with segs := x.segs.drop 1, segBusy := false } else s

/-- A kernel fault (R215, R239): the billet is abandoned and not re-issued, with the rest of its frame's group. -/
def State.kernelFault (s : State) (f a cause detail : Nat) : State :=
  let x := s.anvN f a
  match x.run with
  | none => s
  | some b =>
    let ws := [cause + 2 ^ 4 * a + 2 ^ 9 * x.pc, b.ctx, b.seq % 2 ^ 32, detail % 2 ^ 32]
    let s1 := ((s.abandon f a).pinPop f a).dropFrame b.ctx b.seq
    let s2 := s1.setWordsAt (R.FRG_KFAULT f).off 4 (ws.foldr (fun d acc => d + 2 ^ 32 * acc) 0)
    let s3 := ((s2.incSat (R.FRG_KF_COUNT f)).addSat (R.CTX_WITHDRAWN b.ctx) 1).ctxFault b.ctx cKernel ws
    s3.pinBegin f a

/-- Whether some anvil of a forge still runs a billet. -/
def State.forgeBusy (s : State) (f : Nat) : Bool := (List.range 32).any (fun a => (s.anvN f a).run.isSome)

/-- A rack entry of a forge that leaves service moves to another rack, or its frame is lost (R183). -/
def State.moveEntry (s : State) (f : Nat) (b : Billet) : State :=
  match s.sideRack f with
  | some g =>
    let s1 := s.setRack g (rackIns { b with stolen := true } (s.rackOf g))
    { s1 with fab := { s1.fab with drain := tset (fun _ => 0) s1.fab.drain f (tget (fun _ => 0) s1.fab.drain f + 1) } }
  | none =>
    if b.cls == 0 then ((s.dropFrame b.ctx b.seq).setB R.FAB_STATUS_G_LOST true).loseFrame b.ctx cGLost
    else ((s.dropFrame b.ctx b.seq).skipFrame b.ctx b.cls).ctxSettle b.ctx

/-- The entries of a rack move one after another, the earliest first. -/
def State.drainRack (s : State) (f : Nat) : Nat → State
  | 0 => s
  | n + 1 =>
    match s.rackOf f with
    | [] => s
    | b :: rest => State.drainRack ((s.setRack f rest).moveEntry f b) f n

/-- A forge that leaves service moves its rack in deadline order once its anvils are at their boundaries (R27, R183,
R185). -/
def State.drainForge (s : State) (f : Nat) : State :=
  if tget (fun _ => 0) s.fab.drain f == 0 || s.forgeBusy f then s
  else s.drainRack f (s.rackOf f).length

/-- An anvil at its boundary gives up its billet, which is re-issued (R159, R231); not one that is already withdrawn, and not one of a
pinned anvil, whose billets never enter a rack (R177). -/
def State.giveUp (s : State) (f a : Nat) : State :=
  let x := s.anvN f a
  match x.run with
  | none => s
  | some b =>
    let s1 := s.abandon f a
    if x.gone then (s1.drainForge f).ctxSettle b.ctx
    else if x.pin.isSome then (s1.pinPop f a).drainForge f
    else (s1.reissue b).drainForge f

/-! ## Leaving service, reloads and machine checks (R27, R183, R225, R227 to R231) -/

/-- Sets an entry of the reload and drain tables. -/
def State.setReload (s : State) (f v : Nat) : State := { s with fab := { s.fab with reload := tset (fun _ => 0) s.fab.reload f v } }
def State.setDrain (s : State) (f v : Nat) : State := { s with fab := { s.fab with drain := tset (fun _ => 0) s.fab.drain f v } }

/-- Slices of a reload still to run, plus 1; 0: none runs. -/
def State.reloadOf (s : State) (f : Nat) : Nat := tget (fun _ => 0) s.fab.reload f

/-- A forge leaves service (R20, R27): it enters OFFLINE, and each anvil gives up its billet at its boundary. -/
def State.forgeLeave (s : State) (f : Nat) : State :=
  let s1 := (s.fenceEnter (0x20 + f) .offline).setDrain f 1
  let atEnd := fun (x : AnvSt) => x.run.isSome && x.move.isNone && x.rep == 0
  let s2 := (List.range 32).foldl (fun (t : State) a => if atEnd (t.anvN f a) then t.giveUp f a else t) s1
  s2.drainForge f

/-- A reload begins on a forge that leaves or has left service. -/
def State.reloadStart (s : State) (f : Nat) : State := (s.setReload f 15).setB (R.FRG_MC_STATUS_RELOADING f) true

/-- Every PIN context homed on a forge faults with PIN_MCHK, and its segments are lost (R180, R229). The anvil `a` that failed has
stopped; the others end their instructions first (R228, R231). -/
def State.pinMchk (s : State) (f a : Nat) : State :=
  (List.range 32).foldl (fun (t : State) i =>
    let x := t.anvN f i
    match x.pin with
    | none => t
    | some c =>
      let t1 := if i == a then t.abandon f i else t.dropRun f i
      let t2 := t1.setAnv f i { t1.anvN f i with segs := [], segBusy := false }
      (t2.addSat (R.CTX_WITHDRAWN c) x.segs.length).ctxFault c cPinMchk []) s

/-- The machine-check record (Table 6-12). -/
def State.mcRecordWord (s : State) (f a kind uaddr : Nat) (b : Billet) : Nat :=
  let x := s.anvN f a
  a + 2 ^ 5 * f + 2 ^ 10 * kind + 2 ^ 12 * uaddr + 2 ^ 32 * bitsOf (s.insWord f a) 24 8 + 2 ^ 40 * (x.pc % 2 ^ 14) + 2 ^ 64 * (b.ctx % 2 ^ 12) + 2 ^ 76 * (b.home % 32)
  + 2 ^ 81 * (if b.stolen then 1 else 0) + 2 ^ 96 * (b.seq % 2 ^ 32) + 2 ^ 128 * pt128 s.now

/-- One register cell of an anvil: lanes of V and ACC, then S, A, O, L, BR and SAT. -/
def AnvSt.setCell (x : AnvSt) (k v : Nat) : AnvSt :=
  if k < 128 then { x with v := tset (fun _ => 0) x.v k (BitVec.ofNat 16 v) }
  else if k < 160 then { x with acc := tset (fun _ => 0) x.acc (k - 128) (BitVec.ofNat 40 v) }
  else if k < 176 then x.setS (k - 160) v
  else if k < 184 then x.setA (k - 176) v
  else if k < 192 then { x with o := tset (fun _ => 0) x.o (k - 184) (BitVec.ofNat 16 v) }
  else if k < 200 then { x with l := tset (fun _ => 0) x.l (k - 192) (BitVec.ofNat 16 v) }
  else if k < 208 then { x with br := tset (fun _ => false) x.br (k - 200) (v % 2 == 1) }
  else { x with sat := v % 2 == 1 }

/-- The effects of the microwords before a failing one remain (R227); what they are is free. -/
def AnvSt.partialRun (x : AnvSt) (n : Nat) : AnvSt :=
  let y := (Config.partialRegs n).foldl (fun (z : AnvSt) p => z.setCell p.1 p.2) x
  (Config.partialBytes n).foldl (fun (z : AnvSt) p => z.setBytes p.1 [p.2]) y

/-- UCODE_LOAD leaves a forge and goes on with the next number (R226). -/
def State.ucodePass (s : State) (f : Nat) : State :=
  match s.longOf 0x31 with
  | some c => if c.phase == 4 && (c.aux[1]?).getD 0 == f then s.putLong { c with phase := 3, aux := [(c.aux[0]?).getD 0, f + 1] } else s
  | none => s

/-- A third machine check within 10 s: the forge stays OFFLINE (R230), and what waited for its reload ends. -/
def State.quarantine (s : State) (f : Nat) : State :=
  let s1 := ((s.setReload f 0).setB (R.FRG_MC_STATUS_RELOADING f) false).setB (R.FRG_MC_STATUS_QUARANTINE f) true
  let mine := s1.host.longs.filter (fun c => c.entry.opcode == 0x32 && c.entry.param 0 % 32 == f)
  let s2 := mine.foldl (fun (t : State) c => t.finishLong c stMachineCheck 0) s1
  (s2.bresetEnd (0x20 + f) stMachineCheck).ucodePass f

/-- A machine check on an anvil that runs a billet: kind 0 control store, 1 dispatch table, 2 kernel store, 3 reserved UOP; `ran` says that
microwords of the instruction have executed. -/
def State.checkAnvil (s : State) (f a kind uaddr : Nat) (ran : Bool) : State :=
  let x := s.anvN f a
  match x.run with
  | none => s
  | some b =>
    let rec_ := s.mcRecordWord f a kind uaddr b
    let s1 := (s.setF (R.FRG_MC_LOG f) rec_).incSat (R.FRG_MC_STATUS_COUNT f)
    let s2 := (s1.setF (R.FRG_MC_STATUS_LAST_ANVIL f) a).errLog 0x02 2 (0x20 + f) stMachineCheck ((List.range 8).map (fun i => bitsOf rec_ (32 * i) 32))
    let t0 := s2.clk.elapsed
    let near := (tget (fun _ => []) s2.fab.checks f).filter (fun t => decide (t0 - t ≤ 10 * secUnit))
    let s3 := { s2 with fab := { s2.fab with checks := tset (fun _ => []) s2.fab.checks f (t0 :: near) } }
    let s4 := if ran then (s3.setAnv f a ((s3.anvN f a).partialRun s3.fresh)).next else s3
    let s5 := (s4.pinMchk f a).abandon f a
    let s6 := s5.setAnv f a { s5.anvN f a with ttag := none, upc := uaddr }
    let s7 := if s6.forgeUp f then s6.forgeLeave f else s6
    let s8 := if x.gone then s7.ctxSettle b.ctx else if x.pin.isSome then s7 else s7.reissue b
    let s9 := s8.drainForge f
    if 2 ≤ near.length then s9.quarantine f
    else if s9.reloadOf f == 0 then s9.reloadStart f else s9

/-! ## Dispatch (R220 to R223) -/

/-- Whether the number of ones in the low `n` bits is odd. -/
def oddOnes (n w : Nat) : Bool := (List.range n).foldl (fun p i => p != w.testBit i) false

/-- A word with the parity bit that makes its ones odd, in bit `n` (R221). -/
def withParity (n w : Nat) : Nat := if oddOnes n w then w else w + 2 ^ n

/-- What becomes of an instruction at its dispatch: it runs for a number of cycles to a micro-PC, with a number of free values used; a
machine check of a kind at a micro-address; an opcode without a valid entry; or a routine that does not end. -/
inductive Issue where
  | run (cyc upc uses : Nat)
  | check (kind uaddr : Nat) (ran : Bool)
  | bad
  | endless
deriving DecidableEq, Repr

/-- Whether a microword's UOP is one of the sequencer's that jump. DEDUCED: Table 6-10 lists them in the order of their codes: 1 jump, 2
conditional jump, 3 micro-loop, 4 call, 5 return (log entry 129). -/
def uopJumps (w : Nat) : Bool := let u := bitsOf w 31 6; decide (1 ≤ u) && decide (u ≤ 5)

/-- A micro-routine, one microword after another (R222): each runs for its CL cycles, and the micro-PC advances by 1 unless the microword
jumps, up to the microword with EOI. Bad parity and a reserved UOP stop it (R220, R227). -/
def microWalk (cs : Nat → BitVec 41) (ins free : Nat) : Nat → Nat → Nat → Nat → Issue
  | 0, _, _, _ => .endless
  | fuel + 1, upc, cyc, uses =>
    let w := (cs upc).toNat
    if !oddOnes 41 w then .check 0 upc (cyc != 0)
    else if 0x3C ≤ bitsOf w 31 6 then .check 3 upc (cyc != 0)
    else
      let dest := if uopJumps w then Config.microNext (cs upc) ins (free + uses) % 8192 else (upc + 1) % 8192
      let n := cyc + bitsOf w 38 2 + 1
      let k := uses + (if uopJumps w then 1 else 0)
      if bitOf w 37 then .run n dest k else microWalk cs ins free fuel dest n k

/-- A dispatch-table entry (R221). -/
def State.dtEntry (s : State) (f op : Nat) : Nat := (tget (fun _ => 0) s.fab.dt (256 * f + op)).toNat

/-- The dispatch of the instruction at an anvil's PC (R221, R222). Within a repeat neither the kernel word nor the entry is read
again (R212). A routine of more microwords than the control store holds does not end. -/
def State.issue (s : State) (f a : Nat) : Issue :=
  let x := s.anvN f a
  let w := s.insWord f a
  let e := s.dtEntry f (bitsOf w 24 8)
  if x.rep == 0 && !oddOnes 33 (s.storeWord f x.pc) then .check 2 x.upc false
  else if x.rep == 0 && !oddOnes 16 e then .check 1 x.upc false
  else if x.rep == 0 && !bitOf e 13 then .bad
  else microWalk (fun i => tget (fun _ => 0) s.fab.cs (8192 * f + i)) w s.fresh 8192 (bitsOf e 0 13) 0 0

/-- The cycles of Table 6-5 for an instruction word whose count is fixed. -/
def tableFc (w : Nat) : Option Nat :=
  let op := bitsOf w 24 8
  if op == 0x68 || !opValid.contains op then none
  else if op == 0x48 then some 8
  else if op == 0x49 then some 4
  else if op == 0x4A then some 3
  else if op == 0x50 then some (if bitOf w 9 then 2 else 1)
  else if [0x04, 0x05, 0x06, 0x25, 0x26, 0x69].contains op then some 2
  else some 1

/-- Whether the stores give the instruction at an anvil's PC the cycles of Table 6-5, as R223 says of every Lanioft image. -/
def State.asTable (s : State) (f a : Nat) : Bool :=
  match s.issue f a with
  | .run cyc _ _ => tableFc (s.insWord f a) == some cyc
  | _ => false

/-- An instruction ends: its cycles count and PC moves; at the boundary a withdrawn billet goes, a forge that leaves
service takes the billet, and a PC outside the image faults (R217, R231). -/
def State.endInstr (s : State) (f a cyc : Nat) (pc : Int) (x : AnvSt) : State :=
  let y : AnvSt := { x with cyc := x.cyc + cyc, pc := wrapInt 14 pc }
  let s1 := s.setAnv f a y
  let out := pc < (y.kLo : Int) || (y.kHi : Int) ≤ pc
  if y.rep == 0 && (y.gone || !s1.forgeUp f) then s1.giveUp f a
  else if y.rep == 0 && s1.haltWaits f a then s1
  else if out then s1.kernelFault f a 0x8 0
  else s1

/-- An anvil takes the instruction at its PC, if that has the opcode named: it is dispatched, and `go` is its effect, given its cycles. -/
def State.dispatch (s : State) (f a op : Nat) (go : Nat → State → State) : State :=
  if !s.anvRuns f a || bitsOf (s.insWord f a) 24 8 != op then s
  else
    match s.issue f a with
    | .run cyc upc uses => go cyc { s.setAnv f a { s.anvN f a with upc := upc } with freeCtr := s.freeCtr + uses }
    | .check kind uaddr ran => s.checkAnvil f a kind uaddr ran
    | .bad => s.kernelFault f a 0x1 0
    | .endless => s

/-- An instruction that a REP may repeat: one execution of it. -/
def State.anvOp (s : State) (f a op : Nat) (body : Nat → AnvSt → AnvSt) : State :=
  s.dispatch f a op (fun cyc t =>
    let x := t.anvN f a
    t.endInstr f a cyc (if 1 < x.rep then (x.pc : Int) else (x.pc : Int) + 1) { body (t.insWord f a) x with rep := x.rep - 1 })

/-- A branch: the body gives the new registers and whether it is taken. -/
def State.anvBranch (s : State) (f a op : Nat) (body : Nat → AnvSt → AnvSt × Bool) : State :=
  s.dispatch f a op (fun cyc t =>
    let x := t.anvN f a
    let w := t.insWord f a
    let r := body w x
    t.endInstr f a cyc (if r.2 then (x.pc : Int) + insRel w else (x.pc : Int) + 1) r.1)

/-- The dispatch of a repeat of `n` executions (R212 to R214): the instruction after it is fetched with its dispatch entry, whose REPOK bit
says whether it may be repeated. -/
def State.startRepeat (s : State) (f a cyc n : Nat) : State :=
  let x := s.anvN f a
  let w := s.storeWord f (x.pc + 1)
  let e := s.dtEntry f (bitsOf w 24 8)
  if x.repLimit < n then s.kernelFault f a 0x2 n
  else if !oddOnes 33 w then s.checkAnvil f a 2 x.upc true
  else if !oddOnes 16 e then s.checkAnvil f a 1 x.upc true
  else if !bitOf e 13 then s.kernelFault f a 0x1 0
  else if !bitOf e 14 then s.kernelFault f a 0x4 n
  else s.endInstr f a cyc ((x.pc : Int) + 1) { x with rep := n }

/-- A machine check that reaches an anvil (R227): a word read with bad parity, or a reserved UOP. Microwords before the failing one have run
where it is not the first of the instruction's routine. -/
def machineCheck (f a kind uaddr : Nat) (s : State) : State :=
  s.checkAnvil f a kind uaddr ((kind == 0 || kind == 3) && uaddr != bitsOf (s.dtEntry f (bitsOf (s.insWord f a) 24 8)) 0 13)

def execMachineCheck (f a : Fin 32) (kind : Fin 4) (uaddr : Fin 8192) (s : State) : Out := .next (machineCheck f a kind uaddr s)

/-! ## Control and scalars -/

def execNop (f a : Fin 32) (s : State) : Out := .next (s.anvOp f a 0x00 (fun _ x => x))

/-- REP n (R212). -/
def rep (f a : Nat) (s : State) : State := s.dispatch f a 0x01 (fun cyc t => t.startRepeat f a cyc (insN (t.insWord f a)))

def execRep (f a : Fin 32) (s : State) : Out := .next (rep f a s)

/-- REPS Ss: the range check comes first (R213). -/
def reps (f a : Nat) (s : State) : State :=
  s.dispatch f a 0x02 (fun cyc t =>
    let n := (t.anvN f a).s_ (insD (t.insWord f a))
    if n == 0 || 65536 < n then t.kernelFault f a 0x3 n else t.startRepeat f a cyc n)

def execReps (f a : Fin 32) (s : State) : Out := .next (reps f a s)

def execBr (f a : Fin 32) (s : State) : Out := .next (s.anvBranch f a 0x04 (fun _ x => (x, true)))

def execBnz (f a : Fin 32) (s : State) : Out :=
  .next (s.anvBranch f a 0x05 (fun w x => let v := sub32 (x.s_ (insD w)) 1; (x.setS (insD w) v, v != 0)))

def execBz (f a : Fin 32) (s : State) : Out := .next (s.anvBranch f a 0x06 (fun w x => (x, x.s_ (insD w) == 0)))

def execSli (f a : Fin 32) (s : State) : Out := .next (s.anvOp f a 0x08 (fun w x => x.setSi (insD w) (sext 20 (insImm w))))

def execSlui (f a : Fin 32) (s : State) : Out :=
  .next (s.anvOp f a 0x09 (fun w x => x.setS (insD w) (x.s_ (insD w) % 65536 + 65536 * (insImm w % 65536))))

def execSadd (f a : Fin 32) (s : State) : Out :=
  .next (s.anvOp f a 0x0A (fun w x => x.setS (insD w) (x.s_ (insA w) + x.s_ (insB w))))

def execSsub (f a : Fin 32) (s : State) : Out :=
  .next (s.anvOp f a 0x0B (fun w x => x.setS (insD w) (sub32 (x.s_ (insA w)) (x.s_ (insB w)))))

def execSaddi (f a : Fin 32) (s : State) : Out :=
  .next (s.anvOp f a 0x0C (fun w x => x.setSi (insD w) ((x.s_ (insD w) : Int) + sext 20 (insImm w))))

/-- AND, OR, XOR, AND NOT of words of `wd` bits. -/
def logicOp (mode wd x y : Nat) : Nat :=
  if mode % 4 == 0 then x &&& y else if mode % 4 == 1 then x ||| y else if mode % 4 == 2 then x ^^^ y
  else x &&& (2 ^ wd - 1 - y % 2 ^ wd)

def execSlog (f a : Fin 32) (s : State) : Out :=
  .next (s.anvOp f a 0x0D (fun w x => x.setS (insD w) (logicOp (insMode w) 32 (x.s_ (insA w)) (x.s_ (insB w)))))

/-- The result of SSH; the fourth kind of shift, which Table 6-5 does not state, gives a free value. -/
def shiftOp (mode v free : Nat) : Nat :=
  let k := mode % 32
  let kind := bitsOf mode 5 2
  if kind == 0 then v * 2 ^ k
  else if kind == 1 then v / 2 ^ k
  else if kind == 2 then wrapInt 32 (sext 32 v / 2 ^ k)
  else free

/-- SSH: the fourth kind uses a free value up. -/
def ssh (f a : Nat) (s : State) : State :=
  s.dispatch f a 0x0E (fun cyc t =>
    let x := t.anvN f a
    let w := t.insWord f a
    let y := x.setS (insD w) (shiftOp (insMode w) (x.s_ (insA w)) (Config.freeWord t.fresh).toNat)
    (if bitsOf (insMode w) 5 2 == 3 then t.next else t).endInstr f a cyc (if 1 < x.rep then (x.pc : Int) else (x.pc : Int) + 1) { y with rep := x.rep - 1 })

def execSsh (f a : Fin 32) (s : State) : Out := .next (ssh f a s)

/-! ## Address registers -/

def execAimm (f a : Fin 32) (s : State) : Out := .next (s.anvOp f a 0x10 (fun w x => x.setA (insD w) (insImm w)))

def execOimm (f a : Fin 32) (s : State) : Out :=
  .next (s.anvOp f a 0x11 (fun w x => { x with o := tset (fun _ => 0) x.o (insD w % 8) (BitVec.ofNat 16 (insImm w)) }))

def execLimm (f a : Fin 32) (s : State) : Out :=
  .next (s.anvOp f a 0x12 (fun w x =>
    { x with l := tset (fun _ => 0) x.l (insD w % 8) (BitVec.ofNat 16 (insImm w)), br := tset (fun _ => false) x.br (insD w % 8) (bitOf w 16) }))

def execAmov (f a : Fin 32) (s : State) : Out := .next (s.anvOp f a 0x13 (fun w x => x.setA (insD w) (x.s_ (insA w))))

def execSmova (f a : Fin 32) (s : State) : Out := .next (s.anvOp f a 0x14 (fun w x => x.setS (insD w) (x.a_ (insA w))))

def execRdsat (f a : Fin 32) (s : State) : Out :=
  .next (s.anvOp f a 0x15 (fun w x => { x.setS (insD w) (if x.sat then 1 else 0) with sat := false }))

/-! ## Loads and stores -/

def execVld (f a : Fin 32) (s : State) : Out :=
  .next (s.anvOp f a 0x20 (fun w x => let r := x.readV (insAp w); r.2.setVec (insD w) r.1))

def execVst (f a : Fin 32) (s : State) : Out := .next (s.anvOp f a 0x21 (fun w x => x.writeV (insAp w) (x.vec (insD w))))

def execVld2 (f a : Fin 32) (s : State) : Out :=
  .next (s.anvOp f a 0x22 (fun w x =>
    let r := x.readV (insAp w)
    let q := r.2.readV (insAq w)
    (q.2.setVec (insD w) r.1).setVec (insD w + 1) q.1))

def execSld (f a : Fin 32) (s : State) : Out :=
  .next (s.anvOp f a 0x23 (fun w x => (x.post (insAp w)).setS (insD w) (leNat (x.bytes (x.a_ (insAp w) / 4 * 4) 4))))

def execSst (f a : Fin 32) (s : State) : Out :=
  .next (s.anvOp f a 0x24 (fun w x => (x.setBytes (x.a_ (insAp w) / 4 * 4) (leBytes 4 (x.s_ (insD w)))).post (insAp w)))

/-- ALD: three vectors make an accumulator group (R197). -/
def execAld (f a : Fin 32) (s : State) : Out :=
  .next (s.anvOp f a 0x25 (fun w x =>
    let r0 := x.readV (insAp w)
    let r1 := r0.2.readV (insAp w)
    let r2 := r1.2.readV (insAp w)
    let lane := fun (i : Nat) => sext 40 (wrapInt 16 ((r0.1[i]?).getD 0) + 2 ^ 16 * wrapInt 16 ((r1.1[i]?).getD 0) + 2 ^ 32 * wrapInt 16 ((r2.1[i]?).getD 0))
    r2.2.setGrp (insD w) ((List.range 8).map lane)))

/-- AST: an accumulator group as three vectors (R197). -/
def execAst (f a : Fin 32) (s : State) : Out :=
  .next (s.anvOp f a 0x26 (fun w x =>
    let g := x.grp (insD w)
    let part := fun (k : Nat) => g.map (fun (v : Int) => v / 2 ^ (16 * k))
    ((x.writeV (insAp w) (part 0)).writeV (insAp w) (part 1)).writeV (insAp w) (part 2)))

/-! ## Lane arithmetic -/

/-- A vector result with its saturation. -/
def AnvSt.setSat (x : AnvSt) (n : Nat) (r : Sat (List Int)) : AnvSt := (x.setVec n r.1).satOr r.2

/-- A lane-wise operation of two vectors. -/
def laneBody (op : Int → Int → Sat Int) (w : Nat) (x : AnvSt) : AnvSt := x.setSat (insD w) (lanes2 op (x.vec (insA w)) (x.vec (insB w)))

def execVadd (f a : Fin 32) (s : State) : Out := .next (s.anvOp f a 0x30 (laneBody (fun p q => sat16 (p + q))))
def execVsub (f a : Fin 32) (s : State) : Out := .next (s.anvOp f a 0x31 (laneBody (fun p q => sat16 (p - q))))
def execVmul (f a : Fin 32) (s : State) : Out := .next (s.anvOp f a 0x32 (laneBody (fun p q => narrow 15 (p * q))))

/-- Exact terms added to an accumulator group (R197). -/
def AnvSt.accumulate (x : AnvSt) (g : Nat) (terms : List Int) : AnvSt :=
  let r := lanes2 (fun p q => sat40 (p + q)) (x.grp g) terms
  (x.setGrp g r.1).satOr r.2

def execVmac (f a : Fin 32) (s : State) : Out :=
  .next (s.anvOp f a 0x33 (fun w x => x.accumulate (insG w) (List.zipWith (fun p q => p * q) (x.vec (insA w)) (x.vec (insB w)))))

def execVmax (f a : Fin 32) (s : State) : Out := .next (s.anvOp f a 0x34 (laneBody (fun p q => (max p q, false))))
def execVmin (f a : Fin 32) (s : State) : Out := .next (s.anvOp f a 0x35 (laneBody (fun p q => (min p q, false))))

def execVshr (f a : Fin 32) (s : State) : Out :=
  .next (s.anvOp f a 0x36 (fun w x => x.setSat (insD w) (collect ((x.vec (insA w)).map (narrow (insMode w % 16))))))

def execVshl (f a : Fin 32) (s : State) : Out :=
  .next (s.anvOp f a 0x37 (fun w x => x.setSat (insD w) (collect ((x.vec (insA w)).map (fun v => sat16 (v * 2 ^ (insMode w % 16)))))))

def execVlog (f a : Fin 32) (s : State) : Out :=
  .next (s.anvOp f a 0x38 (fun w x =>
    laneBody (fun p q => (sext 16 (logicOp (insMode w) 16 (wrapInt 16 p) (wrapInt 16 q)), false)) w x))

/-- VSWAP: I and Q exchanged, or Q negated. -/
def execVswap (f a : Fin 32) (s : State) : Out :=
  .next (s.anvOp f a 0x39 (fun w x =>
    let ps := points (x.vec (insA w))
    let r := if bitOf (insMode w) 0 then unpoints (ps.map (fun p => (p.1, -p.2))) else unpoints (ps.map (fun p => (p.2, p.1)))
    x.setSat (insD w) (collect (r.map sat16))))

def execAclr (f a : Fin 32) (s : State) : Out := .next (s.anvOp f a 0x3A (fun w x => x.setGrp (insG w) (List.replicate 8 0)))

def execArnd (f a : Fin 32) (s : State) : Out :=
  .next (s.anvOp f a 0x3B (fun w x => x.setSat (insD w) (collect ((x.grp (insG w)).map (narrow (insMode w % 64))))))

def execVbcast (f a : Fin 32) (s : State) : Out :=
  .next (s.anvOp f a 0x3C (fun w x => x.setVec (insD w) (List.replicate 8 (sext 16 (x.s_ (insA w))))))

def execVlane (f a : Fin 32) (s : State) : Out :=
  .next (s.anvOp f a 0x3D (fun w x => x.setSi (insD w) (((x.vec (insA w))[insMode w % 8]?).getD 0)))

/-! ## Complex arithmetic -/

def execCmul (f a : Fin 32) (s : State) : Out :=
  .next (s.anvOp f a 0x40 (fun w x =>
    x.setSat (insD w) (collect ((cmulLanes (bitOf (insMode w) 0) (x.vec (insA w)) (x.vec (insB w))).map (narrow 15)))))

def execCmac (f a : Fin 32) (s : State) : Out :=
  .next (s.anvOp f a 0x41 (fun w x => x.accumulate (insG w) (cmulLanes (bitOf (insMode w) 0) (x.vec (insA w)) (x.vec (insB w)))))

/-- The registers that a butterfly word names (format T). -/
def tAp (w : Nat) : Nat := bitsOf w 21 3
def tAq (w : Nat) : Nat := bitsOf w 18 3
def tAr (w : Nat) : Nat := bitsOf w 15 3
def tOs (w : Nat) : Nat := bitsOf w 12 3
def tOt (w : Nat) : Nat := bitsOf w 9 3

/-- The address `k` offsets further on, modulo 2^16. -/
def stepAddr (base o k : Nat) : Nat := (base + k * o) % 65536

/-- Results stored `Ot` apart from Ar, with the three post-modifications (R199). -/
def AnvSt.butterflyOut (x : AnvSt) (w : Nat) (outs : List (Sat (List Int))) : AnvSt :=
  let ot := x.o_ (tOt w)
  let base := x.a_ (tAr w)
  let y := outs.zipIdx.foldl (fun (t : AnvSt) p => (t.storeV (stepAddr base ot p.2) p.1.1).satOr p.1.2) x
  ((y.post (tAp w)).post (tAq w)).post (tAr w)

/-- BFLY4 (R199, R200). -/
def bfly4Body (w : Nat) (x : AnvSt) : AnvSt :=
  let os := x.o_ (tOs w)
  let xs := (List.range 4).map (fun k => x.loadV (stepAddr (x.a_ (tAp w)) os k))
  let aq := x.a_ (tAq w)
  let win := bitOf w 2
  let ts :=
    if win then
      let w0 := x.loadV aq
      let w1 := x.loadV (stepAddr aq 16 1)
      let at_ := fun (k : Nat) => (xs[k]?).getD []
      [windowed (at_ 0) w0 0, windowed (at_ 1) w0 4, windowed (at_ 2) w1 0, windowed (at_ 3) w1 4]
    else twiddled ((List.range 3).map (fun k => x.loadV (stepAddr aq 16 k))) xs
  x.butterflyOut w (bfly4Out (bitOf w 1) (if bitOf w 0 then 17 else 15) ts)

def execBfly4 (f a : Fin 32) (s : State) : Out := .next (s.anvOp f a 0x48 bfly4Body)

/-- BFLY2 (R200). -/
def bfly2Body (w : Nat) (x : AnvSt) : AnvSt :=
  let os := x.o_ (tOs w)
  let xs := (List.range 2).map (fun k => x.loadV (stepAddr (x.a_ (tAp w)) os k))
  x.butterflyOut w (bfly2Out (if bitOf w 0 then 16 else 15) (twiddled [x.loadV (x.a_ (tAq w))] xs))

def execBfly2 (f a : Fin 32) (s : State) : Out := .next (s.anvOp f a 0x49 bfly2Body)

/-- WIN (R201). -/
def winBody (w : Nat) (x : AnvSt) : AnvSt :=
  let a0 := x.a_ (insAp w)
  let r0 := x.readV (insAp w)
  let a1 := r0.2.a_ (insAp w)
  let r1 := r0.2.readV (insAp w)
  let q := r1.2.readV (insAq w)
  let scaled := fun (v : List Int) (o : Nat) => collect ((unpoints (windowed v q.1 o)).map (narrow 15))
  let p0 := scaled r0.1 0
  let p1 := scaled r1.1 4
  ((((q.2.storeV a0 p0.1).storeV a1 p1.1).satOr p0.2).satOr p1.2)

def execWin (f a : Fin 32) (s : State) : Out := .next (s.anvOp f a 0x4A winBody)

/-! ## Magnitude, logarithm, extremes, density -/

/-- The eight magnitudes squared of two vectors read through Ap. -/
def AnvSt.readMags (x : AnvSt) (p : Nat) : List Int × AnvSt :=
  let r0 := x.readV p
  let r1 := r0.2.readV p
  (mag2 r0.1 ++ mag2 r1.1, r1.2)

/-- Whether the word at an anvil's PC is MAG2.DB. -/
def State.isDb (s : State) (f a : Nat) : Bool := bitOf (s.insWord f a) 9

def execMag2 (f a : Fin 32) (s : State) : Out :=
  .next (if s.isDb f a then s else s.anvOp f a 0x50 (fun w x => let r := x.readMags (insAp w); r.2.setGrp (insD w) r.1))

def execMag2Db (f a : Fin 32) (s : State) : Out :=
  .next (if !s.isDb f a then s
    else s.anvOp f a 0x50 (fun w x =>
      let r := x.readMags (insAp w)
      r.2.writeV (insAq w) (r.1.map (fun p => ((dbOf p.toNat : Nat) : Int)))))

def execLog2a (f a : Fin 32) (s : State) : Out :=
  .next (s.anvOp f a 0x52 (fun w x => x.setSat (insD w) (collect ((x.grp (insG w)).map logLane))))

/-- VMAXI and VMINI (R204). -/
def extremeBody (mx : Bool) (w : Nat) (x : AnvSt) : AnvSt :=
  let uns := bitOf (insMode w) 0
  let d := insD w
  let r := x.readV (insAp w)
  let v := if uns then r.1.map (fun i => ((wrapInt 16 i : Nat) : Int)) else r.1
  let best := bestLane mx v
  let held : Int := if uns then (x.s_ d : Int) else sext 32 (x.s_ d)
  let elem := x.s_ (d + 2) + best.2
  let wins := if mx then decide (held < best.1) else decide (best.1 < held)
  let y := if wins then (r.2.setSi d best.1).setS (d + 1) elem else r.2
  y.setS (d + 2) (x.s_ (d + 2) + 8)

def execVmaxi (f a : Fin 32) (s : State) : Out := .next (s.anvOp f a 0x58 (extremeBody true))
def execVmini (f a : Fin 32) (s : State) : Out := .next (s.anvOp f a 0x59 (extremeBody false))

/-- HIST (R205). -/
def histBody (w : Nat) (x : AnvSt) : AnvSt :=
  let ws := List.zipWith histWord (x.vec (insD w)) (x.vec (insD w + 1))
  let bytes := (ws.map (leBytes 4)).flatten
  let p := insAp w
  let y := (x.setBytes (x.a_ p / 16 * 16) (bytes.take 16)).post p
  (y.setBytes (y.a_ p / 16 * 16) (bytes.drop 16)).post p

def execHist (f a : Fin 32) (s : State) : Out := .next (s.anvOp f a 0x60 histBody)

/-! ## The mover (R206 to R208) -/

/-- Where a hearth transfer may go (R207): the segment ring, in which it wraps, the work area or the density plane. -/
def State.hearthOk (s : State) (b : Billet) (addr n : Nat) : Bool :=
  let x := s.ctxN b.ctx
  let within := fun (lo len : Nat) => decide (lo ≤ addr) && decide (addr + n ≤ lo + len)
  (decide (b.ring ≤ addr) && decide (addr < b.ring + b.ringLen)) || within b.work b.workLen || within x.plane x.planeLen

/-- Whether capture-memory bytes lie in the context's long-transform region (R207). -/
def State.ltOk (s : State) (b : Billet) (addr n : Nat) : Bool :=
  let cfg := s.ctxCfg b.ctx b.cxEpoch
  let base := cfgF cfg (R.CTX_LT_V 0 0)
  decide (base ≤ addr) && decide (addr + n ≤ base + cfgF cfg (R.CTX_LT_V 0 1))

/-- The transfer of a MOVE or TLOAD starts, or faults (R207). Counts outside R206 fault in the same way. -/
def State.startMove (s : State) (f a : Nat) (m : MoveSt) : State :=
  let x := s.anvN f a
  match x.run with
  | none => s
  | some b =>
    let bad := m.n == 0 || m.n % 16 != 0 || 65536 < m.n || !(if m.cm then s.ltOk b m.addr m.n else s.hearthOk b m.addr m.n)
    if bad then s.kernelFault f a 0x5 m.addr else s.setAnv f a { x with move := some m }

/-- MOVE (R206). -/
def moveStart (f a : Nat) (s : State) : State :=
  s.dispatch f a 0x68 (fun _ t =>
    let x := t.anvN f a
    let w := t.insWord f a
    t.startMove f a { load := false, out := bitOf w 0, cm := bitOf w 1, addr := x.s_ (insSh w), sa := x.a_ (insXp w), n := x.s_ (insSn w) })

def execMove (f a : Fin 32) (s : State) : Out := .next (moveStart f a s)

/-- TLOAD (R208): a hit takes 2 fc and moves nothing. -/
def tload (f a : Nat) (s : State) : State :=
  s.dispatch f a 0x69 (fun cyc t =>
    let x := t.anvN f a
    let w := t.insWord f a
    let tag := x.s_ (insSt w)
    let hit := match x.ttag with
      | some (q, _) => q == tag
      | none => false
    if hit then t.endInstr f a cyc ((x.pc : Int) + 1) x
    else t.startMove f a { load := true, addr := x.s_ (insSh w), sa := x.a_ (insXp w), n := x.s_ (insSn w), tag := tag })

def execTload (f a : Fin 32) (s : State) : Out := .next (tload f a s)

/-- The pieces of a hearth transfer: a transfer that starts in the ring wraps at the ring's end. -/
def ringPieces (b : Billet) (addr n : Nat) : List (Nat × Nat) :=
  if b.ring ≤ addr && addr < b.ring + b.ringLen then
    let first := min n (b.ring + b.ringLen - addr)
    (addr, first) :: (List.range (ceilDiv (n - first) b.ringLen)).map (fun i => (b.ring, min b.ringLen (n - first - i * b.ringLen)))
  else [(addr, n)]

/-- Bytes read by the mover: from the home hearth or, through port P1, from capture memory; the last part says whether
they were poisoned (R408). Bytes that a fenced controller does not deliver are free (R412). -/
def State.moverRead (s : State) (b : Billet) (m : MoveSt) (errs : List SecErr) : State × List (BitVec 8) × Bool :=
  let sec := s.ctxSecure b.ctx
  if m.cm then
    let r := s.mcRead 1 (0x20 + b.home) sec m.addr m.n errs
    if r.ok then (r.st, r.bytes, r.poison.any id)
    else (r.st.next, (List.range m.n).map (fun i => Config.freeByte (r.st.fresh * 2 ^ 32 + i)), false)
  else
    let step := fun (p : State × List (BitVec 8)) (q : Nat × Nat) =>
      let r := p.1.spaceRead (0x20 + b.home) sec 1 (hearthAddr b.home q.1) q.2
      (r.1, p.2 ++ r.2)
    let r := (ringPieces b m.addr m.n).foldl step (s, [])
    (r.1, r.2, false)

/-- Bytes written by the mover. -/
def State.moverWrite (s : State) (b : Billet) (m : MoveSt) (bytes : List (BitVec 8)) : State :=
  let sec := s.ctxSecure b.ctx
  if m.cm then (s.mcWrite 1 (0x20 + b.home) sec m.addr bytes false).1
  else
    let step := fun (p : State × List (BitVec 8)) (q : Nat × Nat) =>
      (p.1.spaceWrite (0x20 + b.home) sec 1 (hearthAddr b.home q.1) (p.2.take q.2), p.2.drop q.2)
    ((ringPieces b m.addr m.n).foldl step (s, bytes)).1

/-- The mesh latency of a transfer between a forge and a billet's home hearth: 2 fc per ring hop (R139, R155). -/
def meshFc (f : Nat) (b : Billet) : Nat := 2 * ringDist f b.home

/-- A transfer ends (R206, R208): 4 + ⌈n ÷ 32⌉ fc, for the home hearth of a stolen billet the mesh latency, and `wait` fc for refused
requests, busy links or port P1; `errs` are errors found in capture memory. -/
def moveComplete (f a wait : Nat) (errs : List SecErr) (s : State) : State :=
  let x := s.anvN f a
  match x.run, x.move with
  | some b, some m =>
    let w := s.insWord f a
    let cyc := 4 + ceilDiv m.n 32 + (if m.cm then 0 else meshFc f b) + wait
    if m.cm && s.mcHeld then s.memWake
    else if m.out then
      let s1 := s.moverWrite b m (x.bytes m.sa m.n)
      s1.endInstr f a cyc ((x.pc : Int) + 1) ({ x with move := none }.post (insXp w))
    else
      let r := s.moverRead b m errs
      let y := ({ x with move := none, poison := x.poison || r.2.2 }.setBytes m.sa r.2.1).post (insXp w)
      let y1 := if m.load then { y with ttag := some (m.tag, m.sa, m.n) } else y
      r.1.endInstr f a cyc ((x.pc : Int) + 1) y1
  | _, _ => s

def execMoveComplete (f a : Fin 32) (wait : Nat) (errs : List SecErr) (s : State) : Out := .next (moveComplete f a wait errs s)

/-! ## Completion (R148, R157, R167, R168, R209 to R211, R239) -/

/-- A billet of a group that is not its last completes: when its stage is done, the next stage's billets are placed. -/
def State.groupStep (s : State) (b : Billet) : State :=
  let x := s.ctxN b.ctx
  if b.last then s.setCtx b.ctx { x with groups := x.groups.filter (fun g => g.seq != b.seq) }
  else
    match x.groups.find? (fun g => g.seq == b.seq) with
    | none => s
    | some g =>
      let others := x.groups.filter (fun q => q.seq != b.seq)
      if 1 < g.left then s.setCtx b.ctx { x with groups := { g with left := g.left - 1 } :: others }
      else
        let st := g.stage + 1
        let n := if st == 2 then 1 else x.l / 8192
        let g1 := { g with stage := st, left := n }
        ((s.setCtx b.ctx { x with groups := g1 :: others }).placeParts { g.proto with stage := st, last := st == 2 } n).1

/-- A billet completes with a publish list of `sn` bytes; BDONE took `cyc` fc, and the copy to the home hearth adds the mesh latency (R155). -/
def State.completeBillet (s : State) (f a : Nat) (b : Billet) (cyc sn : Nat) (list : List (BitVec 8)) : State :=
  let x := s.anvN f a
  let c := b.ctx
  let past := sub32 s.fc b.deadline
  let late := past != 0 && decide (past < 2 ^ 31)
  let s1 := (s.setAnv f a { x.stop with copying := sn != 0 }).pinPop f a
  let s2 := (s1.addWrap (R.FRG_BILLETS f) 1).addWrap (R.CTX_CYCLES c) (x.cyc + cyc + ceilDiv sn 128 + (if sn == 0 then 0 else meshFc f b))
  let s3 := if b.last then s2.addWrap (R.CTX_COMPLETED c) 1 else s2
  let s4 := if late then s3.addWrap (R.CTX_LATE c) 1 else s3
  let run := if late then (s4.ctxN c).lateRun + 1 else 0
  let tooLate := b.cls == 0 && late && decide (max 1 (s4.f R.FAB_LATE_LIMIT_LIMIT) ≤ run)
  let s5 := (s4.setCtx c { s4.ctxN c with lateRun := if b.cls != 0 then (s4.ctxN c).lateRun else if tooLate then 0 else run }).groupStep b
  let p : WaitPub := { billet := b, lateFc := if late then past else 0, sat := x.sat, poison := x.poison, list := list }
  let y := s5.ctxN c
  let waits := s5.earlierHome c b.gen
  let s6 := if sn == 0 then s5 else if waits then s5.setCtx c { y with waitPub := insPub p y.waitPub } else s5.publish p
  let s7 := if tooLate then s6.ctxFault c cLateLimit [] else s6
  let s8 := s7.ctxSettle c
  if sn == 0 then s8.pinBegin f a else s8

/-- BDONE (R209, R210). -/
def bdone (f a : Nat) (s : State) : State :=
  s.dispatch f a 0x70 (fun cyc t =>
    let w := t.insWord f a
    let x := t.anvN f a
    match x.run with
    | none => t
    | some b =>
      let sn := x.s_ (insSn w)
      if sn % 16 != 0 || 32768 < sn || (!b.last && sn != 0) then t.kernelFault f a 0x6 0
      else
        let list := x.bytes (x.a_ (insXp w)) sn
        match parsePub list sn (sn + 1) 0 with
        | .error o => t.kernelFault f a 0x6 o
        | .ok es =>
          match es.find? (fun e => !t.pubTargetOk (t.ctxCfg b.ctx b.cxEpoch) e) with
          | some e => t.kernelFault f a 0x6 e.off
          | none => t.completeBillet f a b cyc sn list)

def execBdone (f a : Fin 32) (s : State) : Out := .next (bdone f a s)

/-- The copy of the publish list ends and the anvil is idle again (R159). -/
def publishCopyEnd (f a : Nat) (s : State) : State :=
  let x := s.anvN f a
  if !x.copying then s else (s.setAnv f a { x with copying := false }).pinBegin f a

def execPublishCopyEnd (f a : Fin 32) (s : State) : Out := .next (publishCopyEnd f a s)

/-! ## Halts, BRK and the remaining faults -/

/-- A halt request to an anvil (R231, R234). -/
def State.haltRequest (s : State) (f a : Nat) : State :=
  if (s.anvN f a).pin.isSome then s.setF (R.FRG_DBG_STATUS_RESULT f) stRefusedBusy
  else (s.setB ((R.FRG_DBG_HALT f).bit a) true).setF (R.FRG_DBG_STATUS_RESULT f) stOk

/-- BRK (R236): a halt request for itself when its bit is set, else no operation. -/
def brk (f a : Nat) (s : State) : State :=
  s.dispatch f a 0x7F (fun cyc t =>
    let t1 := if t.flag ((R.FRG_DBG_BRK_EN f).bit a) then t.haltRequest f a else t
    let x := t1.anvN f a
    t1.endInstr f a cyc ((x.pc : Int) + 1) x)

def execBrk (f a : Fin 32) (s : State) : Out := .next (brk f a s)

/-- RUNAWAY (R216). -/
def runaway (f a : Nat) (s : State) : State :=
  let x := s.anvN f a
  if x.run.isSome && x.move.isNone && x.rep == 0 && decide (16777216 ≤ x.cyc) then s.kernelFault f a 0x7 0 else s

def execRunaway (f a : Fin 32) (s : State) : Out := .next (runaway f a s)

/-- BAD_OPCODE (R196, Table 6-7): the dispatch entry of the opcode is not valid. -/
def badOpcode (f a : Nat) (s : State) : State :=
  if !s.anvRuns f a || s.issue f a != .bad then s else s.kernelFault f a 0x1 0

def execBadOpcode (f a : Fin 32) (s : State) : Out := .next (badOpcode f a s)

end Sys2Proof.Machine
end

