-- ==== Sys2Proof/Machine/Keccak.lean ====
section
/-!
DEFINITION. SHAKE256 (FIPS 202), which spec/16 names for measurements, digests and fused hashes. The state is kept as five
sheets (x = 0 to 4) of five lanes (y = 0 to 4).
-/
namespace Sys2Proof.Machine

/-- The five lanes with one x. -/
abbrev Sheet := List (BitVec 64)

/-- Lane y of a sheet. -/
def Sheet.at_ (p : Sheet) (y : Nat) : BitVec 64 := p.getD y 0

/-- Sheet x, counted round. -/
def sheetOf (st : List Sheet) (x : Nat) : Sheet := st.getD (x % 5) []

/-- The column parities of a sheet in one lane. -/
def Sheet.parity (p : Sheet) : BitVec 64 := p.foldr (fun v w => v ^^^ w) 0

/-- θ: each lane takes the parities of the sheet before its own and, turned by one, of the sheet after it. -/
def shkTheta (st : List Sheet) : List Sheet :=
  st.zipIdx.map fun (p, x) =>
    let mix := (sheetOf st (x + 4)).parity ^^^ ((sheetOf st (x + 1)).parity).rotateLeft 1
    p.map fun v => v ^^^ mix

/-- The walk of ρ and π from lane (x, y): each stop's lane, turned by the triangular number of the stop, moves to the next stop. -/
def shkWalk (st : List Sheet) : Nat → Nat → Nat → Nat → List ((Nat × Nat) × BitVec 64)
  | 0, _, _, _ => [((0, 0), (sheetOf st 0).at_ 0)]
  | k + 1, tri, x, y =>
    let stop := (y, (2 * x + 3 * y) % 5)
    let turn := tri * (tri + 1) / 2 % 64
    (stop, ((sheetOf st x).at_ y).rotateLeft turn) :: shkWalk st k (tri + 1) stop.1 stop.2

/-- ρ and π: the 24 lanes of the walk, and lane (0, 0) in its place. -/
def shkRhoPi (st : List Sheet) : List Sheet :=
  let moved := shkWalk st 24 1 1 0
  (List.range 5).map fun x => (List.range 5).map fun y => (moved.lookup (x, y)).getD 0

/-- χ: along each row, a lane flips where the next one is 0 and the one after that is 1. -/
def shkChi (st : List Sheet) : List Sheet :=
  st.zipIdx.map fun (p, x) =>
    List.zipWith (fun v w => v ^^^ w) p (List.zipWith (fun v w => ~~~v &&& w) (sheetOf st (x + 1)) (sheetOf st (x + 2)))

/-- The register of x^8 + x^6 + x^5 + x^4 + 1 that gives the round constants, `n` shifts on. -/
def shkLfsr : Nat → Nat → Nat
  | 0, r => r
  | n + 1, r => shkLfsr n (if 128 ≤ r then (2 * r) ^^^ 0x171 else 2 * r)

/-- The constant of a round: its seven bits stand at places 2^j − 1. -/
def shkConst (round : Nat) : BitVec 64 :=
  BitVec.ofNat 64 (((List.range 7).map fun j => shkLfsr (7 * round + j) 1 % 2 * 2 ^ (2 ^ j - 1)).sum)

/-- One round with its number: ι last. -/
def shkRound (st : List Sheet) (round : Nat) : List Sheet :=
  match shkChi (shkRhoPi (shkTheta st)) with
  | (v :: p) :: ps => ((v ^^^ shkConst round) :: p) :: ps
  | other => other

/-- The 24 rounds. -/
def shkPermute (st : List Sheet) : List Sheet := (List.range 24).foldl shkRound st

/-- The lane of bytes [8·i, 8·i + 8) of a block, 0 past the rate of 136 bytes. -/
def shkLaneIn (block : List (BitVec 8)) (x y : Nat) : BitVec 64 :=
  if x + 5 * y < 17 then BitVec.ofNat 64 (leAt block (8 * (x + 5 * y)) 8) else 0

/-- A block enters the state. -/
def shkEnter (st : List Sheet) (block : List (BitVec 8)) : List Sheet :=
  shkPermute (st.zipIdx.map fun (p, x) => p.zipIdx.map fun (v, y) => v ^^^ shkLaneIn block x y)

/-- What follows a message of `n` bytes up to the end of its last block: suffix 1111, then 10…01. -/
def shkTail (n : Nat) : List (BitVec 8) :=
  let room := 135 - n % 136
  if room = 0 then [0x9F] else [0x1F] ++ List.replicate (room - 1) 0 ++ [0x80]

/-- `k` blocks of a padded message enter the state. -/
def shkBlocks : Nat → List (BitVec 8) → List Sheet → List Sheet
  | 0, _, st => st
  | k + 1, m, st => shkBlocks k (m.drop 136) (shkEnter st (m.take 136))

/-- The first 64 bytes of SHAKE256 of a message: lanes (0, 0) to (4, 0), (0, 1) to (2, 1). -/
def shake256 (m : List (BitVec 8)) : List (BitVec 8) :=
  let st := shkBlocks (m.length / 136 + 1) (m ++ shkTail m.length) (List.replicate 5 (List.replicate 5 0))
  (List.range 8).flatMap fun i => leBytes 8 ((sheetOf st i).at_ (i / 5)).toNat

end Sys2Proof.Machine
end

