-- ==== Sys2Proof/Machine/Images.lean ====
section
/-!
DEFINITION. Signed images (spec/16_security_and_configuration.md, R545 to R550; layouts of Tables 16-2 and 6-8): the envelope,
the order of verification, what a kernel or microcode image declares, and the shared Keccak engine.
-/
namespace Sys2Proof.Machine

/-- Length of an SLH-DSA-SHAKE-256s signature (Table 16-2). -/
def sigLen : Nat := 29792

/-- Fields of an envelope. -/
def envKind (im : List (BitVec 8)) : Nat := leAt im 6 2
def envSlot (im : List (BitVec 8)) : Nat := leAt im 8 1
def envSvn (im : List (BitVec 8)) : Nat := leAt im 9 1
def envBurn (im : List (BitVec 8)) : Bool := bitOf (leAt im 0x0A 2) 0
def envLen (im : List (BitVec 8)) : Nat := leAt im 0x0C 4
def envKey (im : List (BitVec 8)) : List (BitVec 8) := (im.drop 0x10).take 64
def envContent (im : List (BitVec 8)) : List (BitVec 8) := (im.drop 0x80).take (envLen im)

/-- The signed bytes of an image, its signature, and its measurement (R547). -/
def envSigned (im : List (BitVec 8)) : List (BitVec 8) := im.take (0x80 + envLen im)
def envSig (im : List (BitVec 8)) : List (BitVec 8) := (im.drop (0x80 + envLen im)).take sigLen
def envMeas (im : List (BitVec 8)) : List (BitVec 8) := shake256 (envSigned im)

/-- Whether every byte of a range is zero. -/
def zeros (bs : List (BitVec 8)) (o n : Nat) : Bool := ((bs.drop o).take n).all (fun b => b == 0)

/-- Whether a key slot may sign an image of a kind (R546): VALID, not REVOKED, and its USE admits the kind. -/
def State.slotAdmits (s : State) (slot kind : Nat) : Bool :=
  decide (slot < 4) && s.flag (R.SEC_KEYS_VALID slot) && !s.flag (R.SEC_KEYS_REVOKED slot) && bitOf (s.f (R.SEC_KEYS_USE slot)) (kind - 1)

/-- The verification of an image held in `len` bytes (Table 16-3); OK when every step passes. -/
def State.verify (s : State) (im : List (BitVec 8)) (len : Nat) : Nat :=
  let n := min len im.length
  if leAt im 0 4 != 0x4C534731 || leAt im 4 2 != 1 || envKind im < 1 || 3 < envKind im || n < 0x80 + envLen im + sigLen
    || leAt im 0x0A 2 / 2 != 0 || !zeros im 0x50 48 then stBadParam
  else if !s.slotAdmits (envSlot im) (envKind im) then stSigInvalid
  else if shake256 (envKey im) != Config.keyHash (envSlot im) then stSigInvalid
  else if !Config.sigOk (envKey im) (envSigned im) (envSig im) then stSigInvalid
  else if envKind im != 1 && envSvn im < s.f R.SEC_STATUS_SVN then stRollbackDenied
  else stOk

/-! ## Content (Table 6-8) -/

/-- Whether the content opens as an image of a kind. -/
def contentHead (c : List (BitVec 8)) (kind : Nat) : Bool := leAt c 0 4 == 0x4B4E4C31 && leAt c 4 2 == 1 && leAt c 6 2 == kind

/-- IMAGE_ID and VERSION. -/
def contentId (c : List (BitVec 8)) : Nat := leAt c 8 4
def contentVersion (c : List (BitVec 8)) : Nat := leAt c 0x0C 4

/-- Whether the content of a kernel image has the layout of Table 6-8. -/
def kernelOk (c : List (BitVec 8)) : Bool :=
  let words := leAt c 0x14 2
  let entries := leAt c 0x16 2
  let tbl := leAt c 0x18 4
  contentHead c 1 && decide (1 ≤ words) && decide (words ≤ 16384) && decide (1 ≤ entries) && decide (entries ≤ 16) && decide (tbl ≤ 32768)
  && zeros c 0x28 24 && decide (0x40 + 16 * entries + 4 * words + tbl ≤ c.length)
  && (List.range entries).all (fun i => decide (bitsOf (leAt c (0x40 + 16 * i) 4) 0 14 < words))

/-- The code words of a kernel image. -/
def kernelCode (c : List (BitVec 8)) : List (BitVec 32) :=
  let o := 0x40 + 16 * leAt c 0x16 2
  (List.range (leAt c 0x14 2)).map (fun i => BitVec.ofNat 32 (leAt c (o + 4 * i) 4))

/-- What a kernel image declares, at a base. -/
def kernelImage (c : List (BitVec 8)) (base : Nat) (meas : List (BitVec 8)) : KImage :=
  let words := leAt c 0x14 2
  let n := leAt c 0x16 2
  let entry := fun (i : Nat) => (bitsOf (leAt c (0x40 + 16 * i) 4) 0 14, leAt c (0x42 + 16 * i) 2, leAt c (0x44 + 16 * i) 4)
  { id := contentId c, version := contentVersion c, base := base, words := words, ucodeMin := leAt c 0x10 4, work := leAt c 0x20 4, repMax := leAt c 0x24 4, entries := (List.range n).map entry, tables := (c.drop (0x40 + 16 * n + 4 * words)).take (leAt c 0x18 4), meas := meas }

/-- Where the words of a microcode image stand in its content: 8 bytes a microword from 0x40, then 2 bytes a dispatch
entry (the spec gives no layout). -/
def ucodeWord (c : List (BitVec 8)) (i : Nat) : BitVec 41 := BitVec.ofNat 41 (leAt c (0x40 + 8 * i) 8)
def ucodeEntry (c : List (BitVec 8)) (i : Nat) : BitVec 16 := BitVec.ofNat 16 (leAt c (0x40 + 65536 + 2 * i) 2)

/-- Whether the content of a microcode image is whole. -/
def ucodeOk (c : List (BitVec 8)) : Bool := contentHead c 2 && decide (0x40 + 65536 + 512 ≤ c.length)

/-! ## The Keccak engine (R225, R550) -/

/-- Whether the anvils of a forge are free and its rack is empty. -/
def State.forgeDrained (s : State) (f : Nat) : Bool :=
  (tget (fun _ => []) s.fab.rack f).isEmpty && !(List.range 32).any (fun a => (tget (fun _ => ({} : AnvSt)) s.fab.anv (32 * f + a)).run.isSome)

/-- Whether a forge reload is at its measurements and so takes the engine ahead of any command (R225, step 2): it has drained, and 11 to
14 slices are left. -/
def State.reloadMeasures (s : State) : Bool := s.fab.reload.any (fun p => decide (12 ≤ p.2) && s.forgeDrained p.1)

/-- The master kernel store as bytes. -/
def State.masterBytes (s : State) : List (BitVec 8) :=
  ((List.range 16384).map (fun i => leBytes 4 (tget (fun _ => 0) s.fab.master i).toNat)).flatten

/-- Whether the golden control-store copy and the kernel master copy have their SHAKE256 measurements (R225, step 2); there must be a
golden copy. -/
def State.copiesOk (s : State) : Bool :=
  !s.fab.golden.isEmpty && shake256 s.fab.golden == s.fab.goldenSum && (s.fab.master.isEmpty || shake256 s.masterBytes == s.fab.masterSum)

/-- Whether a long command holds the engine or may take it. -/
def State.engineFor (s : State) (c : LongCmd) : Bool :=
  match s.sec.keccak with
  | none => true
  | some h => h.1 == c.ring && h.2 == c.entry.tag

/-- The engine is taken, and released. -/
def State.takeEngine (s : State) (c : LongCmd) : State := { s with sec := { s.sec with keccak := some (c.ring, c.entry.tag) } }
def State.freeEngine (s : State) (c : LongCmd) : State :=
  if s.sec.keccak == some (c.ring, c.entry.tag) then { s with sec := { s.sec with keccak := none } } else s

/-- The number of steps that the engine works for a command: the first measured word of its environment. -/
def LongCmd.engineSteps (c : LongCmd) : Nat := max 1 (((c.env[0]?).getD 1).toNat)

/-- A step of a command that works on the engine: it waits while another holds the engine (phase 0), then works (phase
1, counted in `pos` of `aux`); at the end `done` goes on. `aux` holds the engine steps done first. -/
def State.engineStep (s : State) (c : LongCmd) (done : LongCmd → State → State) : State :=
  if s.reloadMeasures || !s.engineFor c then s
  else
    let s1 := s.takeEngine c
    let k := ((c.aux[0]?).getD 0) + 1
    let c1 := { c with phase := 1, steps := c.steps + 1, aux := k :: c.aux.drop 1 }
    if k < c.engineSteps then (s1.putLong c1).partialEntry c1
    else done c1 ((s1.putLong c1).freeEngine c1)

end Sys2Proof.Machine
end

