-- ==== Sys2Proof/Machine/Forge.lean ====
section
/-!
DEFINITION. Forges in and out of service (spec/06_anvil_programming.md, R218 to R235 and R605; spec/05, R181 to R185; spec/01,
R27): machine checks, reloads, the commands KERNEL_LOAD, UCODE_LOAD, FORGE_RELOAD and FORGE_OFFLINE, and the debug
registers.
-/
namespace Sys2Proof.Machine

/-! ## Reloading (R225) -/

/-- A kernel word with its parity bit (R221). -/
def ksWord (w : BitVec 32) : BitVec 33 := BitVec.ofNat 33 (withParity 32 w.toNat)

/-- Word `i` of the 24,832 that a reload writes: microwords, dispatch entries, kernel words. -/
def State.reloadWord (s : State) (f i : Nat) : State :=
  if i < 8192 then { s with fab := { s.fab with cs := tset (fun _ => 0) s.fab.cs (8192 * f + i) (ucodeWord s.fab.golden i) } }
  else if i < 8448 then
    { s with fab := { s.fab with dt := tset (fun _ => 0) s.fab.dt (256 * f + (i - 8192)) (ucodeEntry s.fab.golden (i - 8192)) } }
  else { s with fab := { s.fab with ks := tset ksDflt s.fab.ks (16384 * f + (i - 8448)) (ksWord (tget (fun _ => 0) s.fab.master (i - 8448))) } }

/-- Whether word `i` reads back as a reload writes it. -/
def State.reloadSame (s : State) (f i : Nat) : Bool :=
  if i < 8192 then tget (fun _ => 0) s.fab.cs (8192 * f + i) == ucodeWord s.fab.golden i
  else if i < 8448 then tget (fun _ => 0) s.fab.dt (256 * f + (i - 8192)) == ucodeEntry s.fab.golden (i - 8192)
  else tget ksDflt s.fab.ks (16384 * f + (i - 8448)) == ksWord (tget (fun _ => 0) s.fab.master (i - 8448))

/-- The words of slice `k`, 0 to 4, of the writing and of the reading back. -/
def sliceWords (k : Nat) : List Nat := (List.range (min 5120 (24832 - 5120 * k))).map (· + 5120 * k)

/-- Every TTAG of a forge becomes invalid. -/
def State.dropTags (s : State) (f : Nat) : State :=
  (List.range 32).foldl (fun (t : State) a => t.setAnv f a { t.anvN f a with ttag := none }) s

/-- A directory entry. -/
def kdirWord (base words : Nat) : Nat := base + 2 ^ 14 * words + 2 ^ 31

/-- The directory and the microcode version of a forge follow the master copies. -/
def State.masterDir (s : State) (f : Nat) : State :=
  let word := fun (j : Nat) => match s.fab.images[j]? with
    | some im => kdirWord im.base im.words
    | none => 0
  ((List.range 64).foldl (fun (t : State) j => t.setF (R.FRG_KDIR f j) (word j)) s).setF (R.FRG_UCODE_ID f) s.fab.ucode

/-- FORGE_RELOAD starts the reload of a forge, or joins one that runs; false while the forge wakes. An OFFLINE forge enters OFFLINE again (R20,
R225). -/
def State.reloadTry (s : State) (f : Nat) : State × Bool :=
  if s.reloadOf f != 0 then (s, true)
  else if s.blk (0x20 + f) == .offline then ((s.fenceEnter (0x20 + f) .offline).reloadStart f, true)
  else if s.forgeUp f then ((s.forgeLeave f).reloadStart f, true)
  else (s.wakeBlk (0x20 + f), false)

/-- UCODE_LOAD goes on to the next forge, waits for it, or completes (R226): OFFLINE forges are reloaded too, gated ones once they have woken,
and quarantined ones are left to FORGE_RELOAD (R230). `aux` holds the engine steps and the forge; in phase 4 its reload runs. -/
def ucodeNext (c : LongCmd) (s : State) : State :=
  let g := (c.aux[1]?).getD 0
  match (List.range 32).find? (fun f => decide (g ≤ f) && !s.flag (R.FRG_MC_STATUS_QUARANTINE f)) with
  | none => s.finishLong c stOk s.fab.ucode
  | some f =>
    let c1 := { c with phase := 3, aux := [(c.aux[0]?).getD 0, f] }
    if s.flag (R.FRG_STATUS_PINNED f) then s.finishLong c stRefusedBusy 0
    else if s.reloadOf f != 0 then s.putLong c1
    else
      let r := s.reloadTry f
      r.1.putLong { c1 with phase := if r.2 then 4 else 3 }

/-- The commands that wait for the reload of a forge end with it (R226, R605). -/
def State.reloadTell (s : State) (f : Nat) (ok : Bool) : State :=
  let mine := s.host.longs.filter (fun c => c.entry.opcode == 0x32 && c.entry.param 0 % 32 == f)
  let s1 := mine.foldl (fun (t : State) c => t.finishLong c (if ok then stOk else stMachineCheck) 0) s
  match s1.longOf 0x31 with
  | none => s1
  | some c =>
    if c.phase != 4 || (c.aux[1]?).getD 0 != f then s1
    else if !ok then s1.finishLong c stMachineCheck 0
    else
      let c1 := { c with steps := c.steps + 1, pos := c.pos + 1, aux := [(c.aux[0]?).getD 0, f + 1] }
      ucodeNext c1 ((s1.putLong c1).partialEntry c1)

/-- A reload ends; RELOAD_FAIL says that it failed and leaves the forge OFFLINE (R225). -/
def State.reloadEnd (s : State) (f : Nat) (ok : Bool) : State :=
  let s1 := ((s.setReload f 0).setDrain f 0).setB (R.FRG_MC_STATUS_RELOADING f) false
  let s2 := if ok then s1 else (s1.setB (R.FRG_MC_STATUS_RELOAD_FAIL f) true).bresetEnd (0x20 + f) stMachineCheck
  s2.reloadTell f ok

/-- The last step of a reload (R225): the reload ends when the forge is RUNNING, which replies of an earlier epoch may delay (R26, R605). -/
def State.reloadRun (s : State) (f : Nat) : State := if s.isRunning (0x20 + f) then s.reloadEnd f true else s

/-- One slice of a reload (R225): 4 slices check the measurements, 5 write, 5 read back. `ok` says that no cell of the copies or of the
stores has failed. It waits until the forge has drained. -/
def forgeReloadStep (f : Nat) (ok : Bool) (s : State) : State :=
  let n := s.reloadOf f
  if n == 0 || !s.forgeDrained f then s
  else if n == 1 then s.reloadRun f
  else
    let c := s.host.longs.find? (fun c => c.entry.opcode == 0x32 && c.entry.param 0 % 32 == f)
    let s1 := match c with
      | some c => let c1 := { c with steps := c.steps + 1 }; (s.putLong c1).partialEntry c1
      | none => s
    let left := n - 1
    let good :=
      if left == 11 then ok && s1.copiesOk
      else if left ≤ 5 then ok && (sliceWords (5 - left)).all (fun i => s1.reloadSame f i)
      else true
    if !good then s1.reloadEnd f false
    else
      let words := if 6 ≤ left && left ≤ 10 then sliceWords (10 - left) else []
      let s2 := (words.foldl (fun (t : State) i => t.reloadWord f i) s1).setReload f (n - 1)
      if 1 < left then s2
      else ((((s2.setDrain f 0).dropTags f).masterDir f).fenceLeave (0x20 + f)).reloadRun f

def execForgeReloadStep (f : Fin 32) (ok : Bool) (s : State) : Out := .next (forgeReloadStep f ok s)

/-! ## FORGE_RELOAD and FORGE_OFFLINE -/

/-- Whether a long command in progress holds a forge (R436, Table 12-4). -/
def State.forgeHeld (s : State) (f : Nat) : Bool :=
  s.host.longs.any (fun c => c.entry.opcode == 0x31 || ((c.entry.opcode == 0x32 || c.entry.opcode == 0x33) && c.entry.param 0 % 32 == f))

/-- FORGE_RELOAD at its start (R181, R230, R605). -/
def forgeReloadStart (f : Nat) (s : State) : CmdRes :=
  if s.flag (R.FRG_STATUS_PINNED f) || s.forgeHeld f then resDone s stRefusedBusy
  else if s.blk (0x20 + f) == .fenced then resDone s stTargetReset
  else
    let q := s.flag (R.FRG_MC_STATUS_QUARANTINE f)
    let s1 := s.setB (R.FRG_MC_STATUS_QUARANTINE f) false
    let s2 := if q then { s1 with fab := { s1.fab with checks := tset (fun _ => []) s1.fab.checks f [] } } else s1
    let r := s2.reloadTry f
    { st := r.1, kind := 2, phase := if r.2 then 1 else 0 }

/-- A step of FORGE_RELOAD: it waits for a gated forge; the slices themselves are FORGE_RELOAD_STEP. -/
def forgeReloadCmdStep (c : LongCmd) (s : State) : State :=
  let f := c.entry.param 0 % 32
  if c.phase != 0 then s
  else if s.flag (R.FRG_STATUS_PINNED f) then s.finishLong c stRefusedBusy 0
  else
    let r := s.reloadTry f
    if r.2 then r.1.putLong { c with phase := 1 } else r.1

def execForgeReload (k : Fin 16) (f : Fetch) (s : State) : Out :=
  .next (s.startCmd k f 0x32 true false [0x1F] (forgeReloadStart (f.entry.param 0 % 32)))

/-- FORGE_OFFLINE at its start (R22, R181). -/
def forgeOfflineStart (f : Nat) (s : State) : CmdRes :=
  if s.flag (R.FRG_STATUS_PINNED f) || s.forgeHeld f then resDone s stRefusedBusy
  else if s.blk (0x20 + f) == .fenced then resDone s stTargetReset
  else if s.blk (0x20 + f) == .offline && s.reloadOf f == 0 then resDone s stTargetOffline
  else { st := s, kind := 2 }

/-- A step of FORGE_OFFLINE: it waits for a running reload (R605) or a gated forge, takes the forge out of service, and
completes with the billets moved once the forge has drained. -/
def forgeOfflineStep (c : LongCmd) (s : State) : State :=
  let f := c.entry.param 0 % 32
  let c1 := { c with phase := 1, steps := c.steps + 1 }
  if c.phase == 0 then
    if s.reloadOf f != 0 then s
    else if s.blk (0x20 + f) == .offline then s.finishLong c1 stOk 0
    else if s.flag (R.FRG_STATUS_PINNED f) then s.finishLong c1 stRefusedBusy 0
    else if s.forgeUp f then (s.putLong c1).forgeLeave f
    else s.wakeBlk (0x20 + f)
  else if !s.forgeDrained f then s
  else (s.setDrain f 0).finishLong c1 stOk (tget (fun _ => 0) s.fab.drain f - 1)

def execForgeOffline (k : Fin 16) (f : Fetch) (s : State) : Out :=
  .next (s.startCmd k f 0x33 true false [0x1F] (forgeOfflineStart (f.entry.param 0 % 32)))

/-! ## KERNEL_LOAD (R218, R224) -/

/-- Whether a range of kernel words holds code of an image that a context uses (R224). -/
def State.codeInUse (s : State) (base words : Nat) : Bool :=
  s.liveCtxs.any (fun c => decide (base < (s.ctxN c).kHi) && decide ((s.ctxN c).kLo < base + words))

/-- Whether a directory entry covers words of a range. -/
def State.dirHits (s : State) (f j base words : Nat) : Bool :=
  s.flag (R.FRG_KDIR_VALID f j) && decide (s.f (R.FRG_KDIR_BASE f j) < base + words)
  && decide (base < s.f (R.FRG_KDIR_BASE f j) + s.f (R.FRG_KDIR_LEN f j))

/-- The directory entry that a load takes: one that it overwrites, else the first free. -/
def State.dirSlot (s : State) (f base words : Nat) : Option Nat :=
  match (List.range 64).find? (fun j => s.dirHits f j base words) with
  | some j => some j
  | none => (List.range 64).find? (fun j => !s.flag (R.FRG_KDIR_VALID f j))

/-- Code is written to the kernel store of a forge, and its directory follows. -/
def State.kernelWrite (s : State) (f base : Nat) (code : List (BitVec 32)) : State :=
  let n := code.length
  let slot := s.dirSlot f base n
  let s1 := { s with fab := { s.fab with ks := tsetN ksDflt s.fab.ks (16384 * f + base) (code.map ksWord) } }
  let s2 := (List.range 64).foldl (fun (t : State) j => if s.dirHits f j base n then t.setF (R.FRG_KDIR f j) 0 else t) s1
  match slot with
  | some j => s2.setF (R.FRG_KDIR f j) (kdirWord base n)
  | none => s2

/-- The master copy takes an image; images that it overwrites leave the directory. -/
def State.masterWrite (s : State) (im : KImage) (code : List (BitVec 32)) : State :=
  let keep := s.fab.images.filter (fun q => decide (im.base + im.words ≤ q.base) || decide (q.base + q.words ≤ im.base))
  let s1 := { s with fab := { s.fab with master := tsetN (fun _ => 0) s.fab.master im.base code, images := keep ++ [im] } }
  { s1 with fab := { s1.fab with masterSum := shake256 s1.masterBytes } }

/-- The bytes of an image command. -/
def LongCmd.image (c : LongCmd) : List (BitVec 8) := (((c.reads[0]?).getD none).getD []).take (c.entry.param 1)

/-- The forges that a KERNEL_LOAD names. -/
def LongCmd.forges (c : LongCmd) : List Nat := setBits 32 (c.entry.param 2)

/-- Why a KERNEL_LOAD may not write the forges given (R218, R224); OK when it may. -/
def State.kernelBlocked (s : State) (fs : List Nat) (base words : Nat) : Nat :=
  if fs.any (fun f => s.blk (0x20 + f) == .offline) then stTargetOffline
  else if fs.any (fun f => s.blk (0x20 + f) == .fenced) then stTargetReset
  else if s.codeInUse base words then stRefusedBusy
  else stOk

/-- The checks of a KERNEL_LOAD once its image has verified. -/
def State.kernelLoadCheck (s : State) (c : LongCmd) : Nat :=
  let im := c.image
  let con := envContent im
  let words := leAt con 0x14 2
  let base := c.entry.param 3
  let fs := c.forges
  let v := s.verify im im.length
  if v != stOk then v
  else if envKind im != 1 || !kernelOk con || 16384 < base + words then stBadParam
  else if s.kernelBlocked fs base words != stOk then s.kernelBlocked fs base words
  else if fs.any (fun f => (s.dirSlot f base words).isNone) then stRefusedCapacity
  else stOk

/-- Verification ends: the load is refused, or goes on to its writes. -/
def kernelVerified (c : LongCmd) (s : State) : State :=
  let r := s.kernelLoadCheck c
  if r != stOk then s.finishLong c r 0 else s.putLong { c with phase := 2, aux := [0, 0] }

/-- A step of KERNEL_LOAD: the engine, then one forge a step; the master copy follows the last of 32. DESIGN CHOICE: a forge that has left
service since the check, or an image taken into use, ends the load with the status of the check (log entry 130). -/
def kernelLoadStep (c : LongCmd) (s : State) : State :=
  if c.phase < 2 then s.engineStep c kernelVerified
  else
    let con := envContent c.image
    let code := kernelCode con
    let base := c.entry.param 3
    let i := (c.aux[1]?).getD 0
    let c1 := { c with phase := 3, steps := c.steps + 1, aux := [0, i + 1] }
    match c.forges[i]? with
    | none => s.finishLong c1 stOk (contentId con)
    | some f =>
      let r := s.kernelBlocked [f] base code.length
      if r != stOk then s.finishLong c1 r 0
      else if s.blk (0x20 + f) == .gated || s.blk (0x20 + f) == .waking then s.wakeBlk (0x20 + f)
      else
        let s1 := (s.kernelWrite f base code).putLong c1
        if i + 1 < c.forges.length then s1.partialEntry c1
        else
          let s2 := if c.forges.length == 32 then s1.masterWrite (kernelImage con base (envMeas c.image)) code else s1
          s2.finishLong c1 stOk (contentId con)

/-- KERNEL_LOAD at its start. -/
def kernelLoadStart (image : HostRead) (s : State) : CmdRes :=
  if s.host.longs.any (fun c => c.entry.opcode == 0x30 || c.entry.opcode == 0x31) then resDone s stRefusedBusy
  else if image.isNone then resDone s stHostNoresp
  else { st := s, kind := 2, aux := [0] }

def execKernelLoad (k : Fin 16) (f : Fetch) (s : State) : Out :=
  .next (s.startCmd k f 0x30 true false [2 ^ 64 - 1, 0xFFFFFFFF, 0xFFFFFFFF, 0x3FFF] (kernelLoadStart (f.read 0)))

/-! ## UCODE_LOAD (R226) -/

/-- Whether a PIN context runs. -/
def State.pinRuns (s : State) : Bool := (List.range 32).any (fun f => s.flag (R.FRG_STATUS_PINNED f))

/-- Verification ends: the image becomes the golden copy once no reload runs. -/
def ucodeInstall (c : LongCmd) (s : State) : State :=
  if s.fab.reload.any (fun p => p.2 != 0) then s.putLong { c with phase := 2 }
  else
    let im := c.image
    let meas := envMeas im
    let s1 := { s with fab := { s.fab with golden := envContent im, goldenMeas := meas, goldenSum := shake256 (envContent im), ucode := contentVersion (envContent im) } }
    let s2 := s1.setWordsAt (R.SEC_MEAS_UC 0).off 16 (leNat meas)
    let c1 := { c with phase := 3, steps := c.steps + 1, aux := [(c.aux[0]?).getD 0, 0] }
    ucodeNext c1 (s2.putLong c1)

/-- The image of a UCODE_LOAD has been verified. -/
def ucodeVerified (c : LongCmd) (s : State) : State :=
  let im := c.image
  let v := s.verify im im.length
  if v != stOk then s.finishLong c v 0
  else if envKind im != 2 || !ucodeOk (envContent im) then s.finishLong c stBadParam 0
  else s.putLong { c with phase := 2 }

/-- A step of UCODE_LOAD; in phase 4 the slices of a forge's reload carry it. -/
def ucodeLoadStep (c : LongCmd) (s : State) : State :=
  if c.phase < 2 then s.engineStep c ucodeVerified
  else if c.phase == 2 then ucodeInstall c s
  else if c.phase == 3 then ucodeNext c s
  else s

/-- UCODE_LOAD at its start (R181, R226). -/
def ucodeLoadStart (image : HostRead) (s : State) : CmdRes :=
  if s.pinRuns || s.host.longs.any (fun c => [0x30, 0x31, 0x32, 0x33].contains c.entry.opcode.toNat) then resDone s stRefusedBusy
  else if image.isNone then resDone s stHostNoresp
  else { st := s, kind := 2, aux := [0] }

def execUcodeLoad (k : Fin 16) (f : Fetch) (s : State) : Out :=
  .next (s.startCmd k f 0x31 true false [2 ^ 64 - 1, 0xFFFFFFFF] (ucodeLoadStart (f.read 0)))

/-! ## The control cycle of the forges -/

/-- A forge that leaves service moves what its rack still holds (R27, R183), and a reload that waited for replies ends (R605). -/
def State.forgeTick (s : State) : State :=
  (List.range 32).foldl (fun (t : State) f =>
    let t1 := if (t.rackOf f).isEmpty then t else t.drainForge f
    if t1.reloadOf f == 1 then t1.reloadRun f else t1) s

/-! ## Debug (R231 to R236) -/

/-- A write of FRGf_DBG_HALT: a request for each anvil named. -/
def dbgHaltWritten (f v : Nat) (s : State) : State :=
  (setBits 32 v).foldl (fun (t : State) a => if t.anvHalted f a then t.setF (R.FRG_DBG_STATUS_RESULT f) stOk else t.haltRequest f a) s

/-- A halt applies at an anvil's boundary: its billet is abandoned and re-issued. -/
def haltApplied (f a : Nat) (s : State) : State :=
  let x := s.anvN f a
  if !s.haltWaits f a || x.rep != 0 || x.move.isSome || x.copying then s
  else
    let ctx := match x.run with
      | some b => b.ctx
      | none => 0
    let s1 := (s.setB ((R.FRG_DBG_HALT f).bit a) false).setB ((R.FRG_DBG_HALTED f).bit a) true
    (s1.setAnv f a { s1.anvN f a with haltCtx := ctx, probe := 0 }).giveUp f a

def execHaltApplied (f a : Fin 32) (s : State) : Out := .next (haltApplied f a s)

/-- A write of FRGf_DBG_RELEASE: halted anvils return to work with TTAG invalid. -/
def dbgReleaseWritten (f v : Nat) (s : State) : State :=
  (setBits 32 v).foldl (fun (t : State) a =>
    if !t.anvHalted f a then t
    else (t.setB ((R.FRG_DBG_HALTED f).bit a) false).setAnv f a { t.anvN f a with ttag := none, haltCtx := 0 }) (s.setF (R.FRG_DBG_RELEASE f) 0)

/-- What FRGf_DBG_REGk shows of an anvil. -/
def AnvSt.dbgReg (x : AnvSt) (k : Nat) : Nat :=
  let vl := fun (i : Nat) => (tget (fun _ => (0 : BitVec 16)) x.v i).toNat
  if k < 64 then vl (2 * k) + 65536 * vl (2 * k + 1)
  else if k < 128 then
    let w := wrapInt 64 (tget (fun _ => (0 : BitVec 40)) x.acc ((k - 64) / 2)).toInt
    if k % 2 == 0 then bitsOf w 0 32 else bitsOf w 32 32
  else if k < 144 then x.s_ (k - 128)
  else if k < 152 then x.a_ (k - 144) + 65536 * x.o_ (k - 144)
  else if k < 160 then x.l_ (k - 152) + (if x.br_ (k - 152) then 65536 else 0)
  else if k == 160 then x.pc + (if x.sat then 65536 else 0)
  else if k == 161 then (match x.ttag with
    | some t => t.1
    | none => 0)
  else if k == 162 then x.haltCtx
  else 0

/-- FRGf_DBG_REGk: 0 while the selected anvil is not halted. -/
def State.dbgReg (s : State) (f k : Nat) : Nat :=
  let a := s.f (R.FRG_DBG_SEL_ANVIL f)
  if s.anvHalted f a then (s.anvN f a).dbgReg k else 0

/-- A read of FRGf_DBG_SDATA: the scratch word at ADDR of the selected halted anvil, and ADDR 4 further on (R233). -/
def State.dbgSdata (s : State) (f : Nat) : State × Nat :=
  let a := s.f (R.FRG_DBG_SEL_ANVIL f)
  let w := s.f (R.FRG_DBG_SADDR_ADDR f)
  let v := if s.anvHalted f a then leNat ((s.anvN f a).bytes (4 * w) 4) else 0
  (s.setF (R.FRG_DBG_SADDR_ADDR f) ((w + 1) % 16384), v)

end Sys2Proof.Machine
end

