-- ==== Sys2Proof/Machine/CtxCmd.lean ====
section
/-!
DEFINITION. Commands on analysis contexts (spec/07_contexts_and_products.md, R237 to R278; spec/05, R141 to R146 and R161 to R178;
spec/06, R219): CTX_START, CTX_STOP, CTX_MODIFY and DENS_CLEAR.
-/
namespace Sys2Proof.Machine

/-! ## What a configuration asks for -/

/-- L of a configuration: a block context takes IQ_BLOCK outputs, a PIN context a segment of 8 (R249). -/
def cfgL (cfg : List (BitVec 32)) : Nat :=
  if cfgB cfg (R.CTX_SRC_PIN 0) then 8
  else if cfgBlock cfg then cfgF cfg (R.CTX_IQ_IQ_BLOCK 0)
  else 2 ^ cfgF cfg (R.CTX_WIN_LOG2L 0)

/-- H of a configuration. -/
def cfgH (cfg : List (BitVec 32)) : Nat :=
  let l := cfgL cfg
  if cfgB cfg (R.CTX_SRC_PIN 0) || cfgBlock cfg then l
  else if cfgB cfg (R.CTX_HOP_OVL_MODE 0) then
    let o := cfgF cfg (R.CTX_HOP_OVL 0)
    if o == 0 then l else if o == 1 then l / 2 else if o == 2 then l / 4 else l / 8
  else cfgF cfg (R.CTX_HOP_HOP 0)

/-- Long-transform groups in flight. -/
def cfgGroups (cfg : List (BitVec 32)) : Nat := max 1 (cfgF cfg (R.CTX_SRC_LT_GROUPS 0))

/-- Bytes of the segment ring (R143). -/
def cfgRing (cfg : List (BitVec 32)) : Nat :=
  if cfgB cfg (R.CTX_SRC_PIN 0) then 0 else 4 * (cfgL cfg + cfgH cfg * (cfgF cfg (R.CTX_RING_RING_DEPTH 0) - 1))

/-- Bytes of the density plane. -/
def cfgPlane (cfg : List (BitVec 32)) : Nat := if cfgProduct cfg 3 then 1048576 else 0

/-- Bytes of the work area: what the image declares, and the buffers of long transforms in the hearth (R244). -/
def cfgWork (cfg : List (BitVec 32)) (im : KImage) : Nat :=
  im.work + (if cfgLong cfg && !cfgB cfg (R.CTX_SRC_LT_CM 0) then 8 * cfgL cfg * cfgGroups cfg else 0)

/-- Q_min at a total decimation (R144). -/
def qMin (cfg : List (BitVec 32)) (d : Nat) : Nat :=
  let dl := cfgF cfg (R.CTX_DEADLINE_DEADLINE 0)
  let k := if cfgF cfg (R.CTX_SRC_CLASS 0) == 1 then 4 else 1
  ceilDiv (8 * k * dl) (cfgH cfg * d) + 2

/-- A quotient whose rounding the spec does not state. -/
def divOpen (num den : Nat) : Nat :=
  if den = 0 then 0 else if num % den = 0 then num / den else num / den + (if Config.roundUp num den then 1 else 0)

/-- The load of a context (R16, R161): frames per second times the declared cost, or one anvil for a PIN context. -/
def State.cfgLoad (s : State) (cfg : List (BitVec 32)) (d cost : Nat) : Nat :=
  let hz32 := 100000000 * ratioOf s.clk.nint s.clk.nfrac
  if cfgB cfg (R.CTX_SRC_PIN 0) then hz32 / 32 / 2 ^ 32 else divOpen (hz32 * cost) (4 * 2 ^ 32 * d * cfgH cfg)

/-! ## Checks (R271, step 2) -/

/-- Whether a route may carry a product (Table 7-5, R268); kinds 6 and 7 are reserved for every product, and what else ROUTE8 holds
stands for kind 5 (R261). -/
def routeOk (cfg : List (BitVec 32)) (k : Nat) : Bool :=
  let kind := cfgF cfg (R.CTX_ROUTE_KIND 0 k)
  let t := cfgF cfg (R.CTX_ROUTE_TARGET 0 k)
  if k == 8 then decide (kind < 6)
  else if kind == 1 then decide (t < 32)
  else if kind == 2 then
    let base := cfgF cfg (R.CTX_CM_V 0 0)
    let size := cfgF cfg (R.CTX_CM_V 0 1)
    base % 64 == 0 && size % 64 == 0 && size != 0 && decide (base + size ≤ 2 ^ 35)
  else if kind == 3 then decide (t < 16)
  else if kind == 4 then decide (t < 64) && (k == 4 || k == 5 || k == 7)
  else kind == 0

/-- Whether the window of a transform context is allowed (Table 7-3, R242). -/
def windowOk (cfg : List (BitVec 32)) (table : Bool) : Bool :=
  let w := cfgF cfg (R.CTX_WIN_WINDOW 0)
  let p := cfgF cfg (R.CTX_WIN_WPARAM 0)
  if w == 4 then decide (p ≤ 10240)
  else if w == 5 then decide (656 ≤ p) && decide (p ≤ 32768)
  else if w == 6 then table && decide (cfgTransform cfg ≤ 8192)
  else decide (w ≤ 6)

/-- Whether the fields of the products are allowed (R248, R250 to R258). -/
def productsOk (cfg : List (BitVec 32)) : Bool :=
  let p := cfgF cfg (R.CTX_PRODUCTS_PRODUCTS 0)
  let pin := cfgB cfg (R.CTX_SRC_PIN 0)
  let l := cfgL cfg
  let on := fun (k : Nat) => bitOf p k
  let bins := 2 ^ cfgF cfg (R.CTX_SPEC_BINS_LOG2 0)
  let avg := cfgF cfg (R.CTX_SPEC_AVG 0)
  let iq := cfgF cfg (R.CTX_IQ_IQ_BLOCK 0)
  let band := fun (fl : Fld) => decide (cfgF cfg fl < l)
  (p &&& 0xFC01) == 0
  && (if pin then (p &&& 0x23E) == 0 else !on 8)
  && (!(on 6 && !cfgBlock cfg) || decide (cfgF cfg (R.CTX_WIN_LOG2L 0) < 14))
  && (!(on 6 || cfgBlock cfg) || (iq % 8 == 0 && decide (8 ≤ iq) && decide (iq ≤ 8160)))
  && avg != 3
  && (!(on 1 || on 2) || (decide (64 ≤ bins) && decide (bins ≤ 8192) && decide (bins ≤ l)))
  && (!on 1 || cfgB cfg (R.CTX_SPEC_SPEC_DB 0) || decide (bins ≤ 4096))
  && (!((on 1 || on 5) && avg == 2) || decide (cfgF cfg (R.CTX_RING_RING_DEPTH 0) ≤ max 1 (cfgF cfg (R.CTX_EMIT_EMIT 0))))
  && decide (cfgF cfg (R.CTX_AVGN_AVG_N 0) ≤ 2 ^ 20)
  && (!on 3 || cfgF cfg (R.CTX_LEVEL_STEP 0) != 0)
  && (!on 5 || (band (R.CTX_BAND_B 0 0) && band (R.CTX_BAND_B 0 1)
    && decide (cfgF cfg (R.CTX_BAND_B 0 0) ≤ cfgF cfg (R.CTX_BAND_B 0 1))))
  && (List.range 16).all (fun k => !on k || routeOk cfg k)

/-- Whether the long-transform region is allowed (R244). -/
def longOk (cfg : List (BitVec 32)) : Bool :=
  let base := cfgF cfg (R.CTX_LT_V 0 0)
  let size := cfgF cfg (R.CTX_LT_V 0 1)
  !cfgLong cfg || !cfgB cfg (R.CTX_SRC_LT_CM 0)
  || (base % 256 == 0 && size % 256 == 0 && decide (base + size ≤ 2 ^ 35) && decide (8 * cfgL cfg * cfgGroups cfg ≤ size))

/-- The fields of a configuration at a total decimation: true when all are allowed. -/
def fieldsOk (cfg : List (BitVec 32)) (d : Nat) (table : Bool) : Bool :=
  let pin := cfgB cfg (R.CTX_SRC_PIN 0)
  let lg := cfgF cfg (R.CTX_WIN_LOG2L 0)
  let dl := cfgF cfg (R.CTX_DEADLINE_DEADLINE 0)
  let h := cfgH cfg
  let stride := cfgF cfg (R.CTX_PIN_PIN_STRIDE 0)
  cfgF cfg (R.CTX_SRC_CLASS 0) != 3
  && (cfgBlock cfg || (decide (6 ≤ lg) && decide (lg ≤ 20) && windowOk cfg table))
  && decide (1 ≤ h) && decide (h ≤ 2 ^ 20)
  && decide (64 ≤ dl) && decide (dl ≤ 2 ^ 30)
  && productsOk cfg && longOk cfg
  && (if pin then decide (1 ≤ stride) && decide (stride ≤ 65536) else decide (qMin cfg d ≤ cfgF cfg (R.CTX_RING_RING_DEPTH 0)))

/-- R539: a secure chain may not feed a non-secure context, nor a secure context a non-secure target. -/
def State.ctxCrosses (s : State) (c : Nat) (cfg : List (BitVec 32)) : Bool :=
  let sec := s.ctxSecure c
  let dst := fun (k : Nat) =>
    let t := cfgF cfg (R.CTX_ROUTE_TARGET 0 k)
    let kind := cfgF cfg (R.CTX_ROUTE_KIND 0 k)
    if k == 8 then some (0x0A + cfgF cfg (R.CTX_SYNTH_SYNTH_OUT 0))
    else if kind == 1 then some (0xC0 + t % 32) else if kind == 3 then some 0x6B else if kind == 4 then some 0x62 else none
  let mon := cfgB cfg (R.CTX_SYNTH_SYNTH_MON 0) && !s.blockSecure (0xC0 + cfgF cfg (R.CTX_SYNTH_MON_SQ 0))
  let raster := cfgProduct cfg 9 && !s.blockSecure 0x6B
  let out := mon || raster || (List.range 16).any (fun k => cfgProduct cfg k && (match dst k with
    | some b => !s.blockSecure b
    | none => false))
  (!sec && s.blockSecure (0x10 + cfgF cfg (R.CTX_SRC_SRC_CHAIN 0))) || (sec && out)

/-! ## CTX_START (R141, R177, R178, R219, R271) -/

/-- The kernel image and the entry of a configuration in the master copy. -/
def State.imageOf (s : State) (cfg : List (BitVec 32)) : Option (KImage × (Nat × Nat × Nat)) :=
  match s.fab.images.find? (fun im => im.id == cfgF cfg (R.CTX_IMAGE 0)) with
  | none => none
  | some im =>
    match im.entries[cfgF cfg (R.CTX_ENTRY_ENTRY 0)]? with
    | none => none
    | some e => some (im, e)

/-- The highest-numbered free anvil among 24 to 31 of a forge (R177). DESIGN CHOICE: an anvil is free when no PIN context owns it and no halt holds
or awaits it; one that still runs an ordinary billet is free, and ends that billet first (log entry 131). -/
def State.freePin (s : State) (f : Nat) : Option Nat :=
  if 8 ≤ s.f (R.FRG_STATUS_PINNED f) then none
  else ((List.range 8).map (fun i => 31 - i)).find? (fun a => (s.anvN f a).pin.isNone && !s.anvHalted f a && !s.haltWaits f a)

/-- PIN contexts in the device. -/
def State.pinCount (s : State) : Nat := (List.range 32).foldl (fun n f => n + s.f (R.FRG_STATUS_PINNED f)) 0

/-- Whether a forge holds a density plane (R255). -/
def State.holdsPlane (s : State) (f : Nat) : Bool := s.ctx.any (fun p => p.2.planeLen != 0 && s.homeOf p.1 == f)

/-- Whether a context may be homed on a forge, apart from the hearth space (R162 to R164, R177, R178, R255). -/
def State.homeOk (s : State) (cfg : List (BitVec 32)) (d cost load f : Nat) : Bool :=
  let pin := cfgB cfg (R.CTX_SRC_PIN 0)
  s.admits (cfgClass cfg) f load
  && (!pin || (s.forgeUp f && (s.freePin f).isSome && decide (s.pinCount < 64) && decide (cost ≤ cfgF cfg (R.CTX_PIN_PIN_STRIDE 0) * d)))
  && (cfgPlane cfg == 0 || !s.holdsPlane f)

/-- The home forge: the one named, or the one with the most free hearth space among those that admit (R141). -/
def State.chooseHome (s : State) (cfg : List (BitVec 32)) (d cost load : Nat) : Option Nat :=
  if cfgB cfg (R.CTX_SRC_HOME_SET 0) then
    let f := cfgF cfg (R.CTX_SRC_HOME 0)
    if s.homeOk cfg d cost load f then some f else none
  else
    (List.range 32).foldl (fun (best : Option Nat) f =>
      if !s.homeOk cfg d cost load f then best
      else match best with
        | none => some f
        | some g => if s.f (R.FRG_HEARTH_FREE_BYTES g) < s.f (R.FRG_HEARTH_FREE_BYTES f) then some f else best) none

/-- A context that passed its checks enters STARTING (R271). -/
def State.ctxBegin (s : State) (c home load : Nat) (im : KImage) (e : Nat × Nat × Nat) (place : Nat × Nat × Nat) (window limits : Option (List (BitVec 8))) :
    State :=
  let cfg := s.cfgNow c
  let old := s.ctxN c
  let epoch := (s.cxEpoch c + 1) % 65536
  let l := cfgL cfg
  let h := cfgH cfg
  let plane := cfgPlane cfg
  let work := cfgWork cfg im
  let x : CtxSt := { cutting := true, kentry := (im.base + e.1) % 16384, kLo := im.base, kHi := im.base + im.words, imageId := im.id, cost := e.2.2, ring := place.1, ringLen := cfgRing cfg, plane := place.2.1, planeLen := plane, work := place.2.2, workLen := work, l := l, h := h, cfgs := [(epoch, cfg)], limits := limits.getD old.limits, window := window.getD [], epochDue := [(epoch, cfgF cfg (R.CTX_PRODUCTS_PRODUCTS 0))] }
  let s1 := (s.setCtx c x).setWordsAt (0x200000 + 0x200 * c + 0x114) 16 0
  let s2 := ((s1.setF (R.CTX_ACT_CX_EPOCH c) epoch).setF (R.CTX_ACT_HOME_ACT c) home).setF (R.CTX_HOPACT_HOP_ACT c) h
  let s3 := ((s2.setB (R.CTX_STATE_GAPLESS c) (decide (h ≤ l))).setF (R.CTX_LOAD c) load).setF (R.CTX_STATE_STATE c) 1
  let s4 := (s3.addLoad (cfgClass cfg) home load).setF (R.FRG_HEARTH_FREE_BYTES home) (s3.f (R.FRG_HEARTH_FREE_BYTES home) - (cfgRing cfg + plane + work))
  let s5 := if plane == 0 then s4 else s4.densClear home place.2.1
  let s6 := s5.putBytes 1 (hearthAddr home place.2.2) (im.tables.take work)
  let s7 := if cfgBlock cfg then s6 else s6.syncWindow c (cfgTransform cfg)
  match (if cfgB cfg (R.CTX_SRC_PIN 0) then s7.freePin home else none) with
  | none => s7
  | some a =>
    let s8 := s7.setAnv home a { s7.anvN home a with pin := some c, segs := [], segNext := 0, segBusy := false }
    (s8.setF (R.CTX_ACT_PIN_ANVIL c) a).setF (R.FRG_STATUS_PINNED home) (s8.f (R.FRG_STATUS_PINNED home) + 1)

/-- The checks of CTX_START in their order, and the start (R271, R539). -/
def State.ctxStart (s : State) (c : Nat) (window limits : Option (List (BitVec 8))) : State × Nat :=
  let cfg := s.cfgNow c
  let n := cfgF cfg (R.CTX_SRC_SRC_CHAIN 0)
  let d := s.actD n
  let st := s.ctxState c
  if s.ctxCrosses c cfg then (s, stBadWorld)
  else if st != 0 && st != 4 then (s, stRefusedBusy)
  else if !fieldsOk cfg d window.isSome || !s.fchOn n then (s, stBadParam)
  else
    match s.imageOf cfg with
    | none => (s, stBadParam)
    | some (im, e) =>
      let p := cfgF cfg (R.CTX_PRODUCTS_PRODUCTS 0)
      if s.repLimitOf cfg < im.repMax || s.fab.ucode < im.ucodeMin || (p &&& e.2.1) != p then (s, stBadParam)
      else
        let load := s.cfgLoad cfg d e.2.2
        match s.chooseHome cfg d e.2.2 load with
        | none => (s, stRefusedCapacity)
        | some f =>
          match s.hearthFit f (cfgRing cfg) (cfgPlane cfg) (cfgWork cfg im) with
          | none => (s, stRefusedCapacity)
          | some place => (((s.ctxBegin c f load im e place window limits).wakeBlk (0x20 + f)).wakeBlk (0x40 + f), stOk)

/-- Whether a command of ring `k` may act on a context: the number exists, and a secure context is reached from a secure
ring alone. -/
def State.ctxReach (s : State) (k c : Nat) : Nat :=
  if 3072 ≤ c then stBadParam else if s.ctxSecure c && !s.ringSecure k then stBadWorld else stOk

/-- A host table that a parameter names: 0 names none. -/
def hostTable (param : Nat) (r : HostRead) : Option HostRead := if param == 0 then none else some r

/-- CTX_START at its start; tables that the host does not deliver end it. -/
def ctxStartCmd (k c : Nat) (window limits : Option HostRead) (s : State) : CmdRes :=
  let r := s.ctxReach k c
  if r != stOk then resDone s r
  else if window == some none || limits == some none then resDone (s.ctxResult c stHostNoresp) stHostNoresp
  else
    let q := s.ctxStart c (window.getD none) (limits.getD none)
    let t := q.1.ctxResult c q.2
    resDone t q.2 (if q.2 == stOk then t.homeOf c else 0)

def execCtxStart (k : Fin 16) (f : Fetch) (s : State) : Out :=
  .next (s.startCmd k f 0x40 false false [0xFFF, 2 ^ 64 - 1, 2 ^ 64 - 1]
    (ctxStartCmd k (f.entry.param 0 % 4096) (hostTable (f.entry.param 1) (f.read 0)) (hostTable (f.entry.param 2) (f.read 1))))

/-! ## CTX_STOP (R272, R273) -/

/-- The cutter of a context stops at once. -/
def State.ctxHalt (s : State) (c : Nat) : State :=
  let x := s.ctxN c
  ((s.setCtx c { x with cutting := false, starts := [], segDue := [], seg := [] }).setF (R.CTX_STATE_STATE c) 3).cancelMod c stCancelled

/-- CTX_STOP at its start: it waits for the end of the run. -/
def ctxStopCmd (k c : Nat) (s : State) : CmdRes :=
  let r := s.ctxReach k c
  let st := s.ctxState c
  if r != stOk then resDone s r
  else if st == 0 || st == 4 then resDone (s.ctxResult c stOk) stOk
  else
    let s1 := if st == 3 then s else s.ctxHalt c
    { st := s1.ctxResult c stOk, kind := 1, target := c }

/-- CTX_STOP; a context without billets ends in the same action. -/
def execCtxStop (k : Fin 16) (f : Fetch) (s : State) : Out :=
  let c := f.entry.param 0 % 4096
  .next ((s.startCmd k f 0x41 false false [0xFFF] (ctxStopCmd k c)).ctxSettle c)

/-! ## CTX_MODIFY (R274, R275, R277) -/

/-- The bits of configuration word `i` that a modify may change (R274). -/
def modMask (i : Nat) : Nat :=
  let o := 4 * i
  if o == 0x000 then 0x300
  else if o == 0x004 then 0xFFFF0F00
  else if o == 0x00C || o == 0x024 then 0xFFFFFFFF
  else if 0x030 ≤ o && o ≤ 0x070 then 0xFFFFFFFF
  else if 0x080 ≤ o && o < 0x0D0 then 0xFFFFFFFF
  else 0

/-- Whether a new configuration differs from the running one in allowed fields only; reserved bits are no fields (R5). -/
def modAllowed (old new : List (BitVec 32)) : Bool :=
  (List.zip old new).zipIdx.all (fun p => ((p.1.1 ^^^ p.1.2).toNat &&& (fieldBits (0x200000 + 4 * p.2) - (fieldBits (0x200000 + 4 * p.2) &&& modMask p.2))) == 0)

/-- The status of a modification of a context to a configuration: OK when it passes. DEDUCED: the host request for a home move of R278 is a new
HOME in the image; with DENS it completes REFUSED_BUSY, without it R274 gives BAD_PARAM (log entry 132). -/
def State.modCheck (s : State) (c : Nat) (new : List (BitVec 32)) : Nat :=
  let old := s.cfgNow c
  let x := s.ctxN c
  let st := s.ctxState c
  let n := cfgF new (R.CTX_SRC_SRC_CHAIN 0)
  if s.ctxCrosses c new then stBadWorld
  else if (st != 1 && st != 2) || x.fault.isSome then stRefusedBusy
  else if cfgF old (R.CTX_SRC_HOME 0) != cfgF new (R.CTX_SRC_HOME 0) && x.planeLen != 0 then stRefusedBusy
  else if !modAllowed old new || !fieldsOk new (s.actD n) (!x.window.isEmpty) then stBadParam
  else
    let a := cfgClass (match x.pend with
      | some m => m.cfg
      | none => old)
    let b := cfgClass new
    let load := s.f (R.CTX_LOAD c)
    let home := s.homeOf c
    if a == b || (s.dropLoad a home load).admits b home load then stOk else stRefusedCapacity

/-- A modification is pending (R275); one that was pending is replaced (R277). -/
def State.modSet (s : State) (c : Nat) (m : ModSt) : State :=
  let s1 := s.cancelMod c stSuperseded
  let s2 := (s1.setCtx c { s1.ctxN c with pend := some m }).setB (R.CTX_STATE_MOD_PEND c) true
  s2.reclass c (cfgClass (s2.cfgNow c)) (cfgClass m.cfg)

/-- The configuration words of a 256-byte image, without their reserved bits (R5). -/
def cfgWords (bs : List (BitVec 8)) : List (BitVec 32) :=
  (List.range 64).map (fun i => BitVec.ofNat 32 (leAt bs (4 * i) 4) &&& BitVec.ofNat 32 (fieldBits (0x200000 + 4 * i)))

/-- CTX_MODIFY at its start. -/
def ctxModifyCmd (k c : Nat) (image : HostRead) (limits : Option HostRead) (s : State) : CmdRes :=
  let r := s.ctxReach k c
  if r != stOk then resDone s r
  else
    match image with
    | none => resDone (s.ctxResult c stHostNoresp) stHostNoresp
    | some bs =>
      let new := cfgWords bs
      if limits == some none then resDone (s.ctxResult c stHostNoresp) stHostNoresp
      else
        let v := s.modCheck c new
        if v != stOk then resDone (s.ctxResult c v) v
        else { st := s.modSet c { cfg := new, limits := limits.getD none, window := none }, kind := 1, target := c }

def execCtxModify (k : Fin 16) (f : Fetch) (s : State) : Out :=
  .next (s.startCmd k f 0x42 false false [0xFFF, 2 ^ 64 - 1, 2 ^ 64 - 1]
    (ctxModifyCmd k (f.entry.param 0 % 4096) (f.read 0) (hostTable (f.entry.param 2) (f.read 1))))

/-! ## DENS_CLEAR (R256, Table 12-4) -/

/-- A quarter of a plane cleared. -/
def State.clearQuarter (s : State) (c i : Nat) : State :=
  let k := memKey 1 (hearthAddr (s.homeOf c) ((s.ctxN c).plane + 262144 * i))
  { s with mem := { s.mem with bytes := tclear s.mem.bytes k (k + 262144) } }

/-- DENS_CLEAR at its start: the first 256 KiB. -/
def densClearStart (k c : Nat) (s : State) : CmdRes :=
  let r := s.ctxReach k c
  if r != stOk then resDone s r
  else if (s.ctxN c).planeLen == 0 then resDone (s.ctxResult c stBadParam) stBadParam
  else if s.host.longs.any (fun x => x.entry.opcode == 0x43 && x.entry.param 0 == c) then resDone (s.ctxResult c stRefusedBusy) stRefusedBusy
  else if s.isFenced (0x40 + s.homeOf c) then resDone (s.ctxResult c stTargetReset) stTargetReset
  else { st := s.clearQuarter c 0, kind := 2, phase := 1 }

/-- A step of DENS_CLEAR: the next 256 KiB; `phase` counts the quarters cleared. A plane that has gone ends it. -/
def densClearStep (x : LongCmd) (s : State) : State :=
  let c := x.entry.param 0 % 4096
  let x1 := { x with phase := x.phase + 1, steps := x.steps + 1 }
  if (s.ctxN c).planeLen == 0 then (s.ctxResult c stOk).finishLong x1 stOk 0
  else
    let s1 := (s.clearQuarter c x.phase).putLong x1
    if x1.phase < 4 then s1.partialEntry x1 else (s1.ctxResult c stOk).finishLong x1 stOk 0

def execDensClear (k : Fin 16) (f : Fetch) (s : State) : Out :=
  .next (s.startCmd k f 0x43 true false [0xFFF] (densClearStart k (f.entry.param 0 % 4096)))

end Sys2Proof.Machine
end

