-- ==== Sys2Proof/Machine/Switch.lean ====
section
/-!
DEFINITION. The configuration store and configuration switches (spec/16_security_and_configuration.md, R552 to R559;
spec/09_trigger_port_and_cluster.md, R351 to R353).
-/
namespace Sys2Proof.Machine

/-! ## Items and images (R552, Table 16-5) -/

/-- The item that a register word belongs to: chain enables and shadow banks, the trigger shadow bank, context
configurations, slot settings, stream queues with their templates, the raster shadow bank and timing. -/
def cfgItemOf (off : Nat) : Option CfgItem :=
  let ch := (off - 0x80000) / 0x1000
  let o := off % 0x1000
  if 0x80000 ≤ off && off < 0x90000 then
    if o == 0 || (0x100 ≤ o && o < 0x138) || (0x400 ≤ o && o < 0x800) then some (.chain ch) else none
  else if 0x1080000 ≤ off && off < 0x1090000 then some (.chain ((off - 0x1080000) / 0x1000))
  else if 0x200000 ≤ off && off < 0x380000 then
    if (off - 0x200000) % 0x200 < 0x100 then some (.ctx ((off - 0x200000) / 0x200)) else none
  else if off == 0x400100 || (0x401000 ≤ off && off < 0x401800) || (0x402000 ≤ off && off < 0x402200) then some .trig
  else if 0x410000 ≤ off && off < 0x414000 then
    if 0x08 ≤ off % 0x100 && off % 0x100 < 0x38 then some (.slot ((off - 0x410000) / 0x100)) else none
  else if 0x584000 ≤ off && off < 0x584800 then
    if [0x00, 0x04, 0x10].contains (off % 0x40) then some (.queue ((off - 0x584000) / 0x40)) else none
  else if 0x681000 ≤ off && off < 0x683000 then some (.queue ((off - 0x681000) / 0x100))
  else if (0x700008 ≤ off && off < 0x700024) || (0x701000 ≤ off && off < 0x702000) then some .raster
  else none

/-- The part of a word that belongs to an item: of a control register its EN bit. -/
def cfgPart (off : Nat) (w : BitVec 32) : BitVec 32 :=
  if (off < 0x90000 && off % 0x1000 == 0) || (0x584000 ≤ off && off < 0x584800 && off % 0x40 == 0x04) then w &&& 1 else w

/-- The fence block or context group that owns an item. -/
def CfgItem.owner : CfgItem → Owner
  | .slot _ => .block 0x61
  | .trig => .block 0x60
  | .ctx c => .group (c / 64)
  | .chain n => .block (0x10 + n)
  | .queue q => .block (0xC0 + q)
  | .raster => .block 0x6B

/-- Whether an item belongs to a world. -/
def State.cfgMine (s : State) (secure : Bool) (i : CfgItem) : Bool := s.ownerSecure i.owner == secure

/-- The words of a table that belong to the items of a world. -/
def State.cfgWordsOf (s : State) (secure : Bool) (t : Tbl (BitVec 32)) : Tbl (BitVec 32) :=
  t.foldl (fun (acc : Tbl (BitVec 32)) p =>
    match cfgItemOf p.1 with
    | none => acc
    | some i => if s.cfgMine secure i then tset resetWord acc p.1 (cfgPart p.1 p.2) else acc) []

/-- Contexts that run, and slots that are pending, of a world. -/
def State.cfgRun (s : State) (secure : Bool) : List Nat :=
  s.busyCtxs.filter (fun c => (s.ctxState c == 1 || s.ctxState c == 2) && s.cfgMine secure (.ctx c))
def State.cfgArmed (s : State) (secure : Bool) : List Nat :=
  (List.range 64).filter (fun n => s.slotPending n && s.cfgMine secure (.slot n))

/-- The configuration of a world as it stands (R553). -/
def State.cfgNowImage (s : State) (secure : Bool) : CfgImage :=
  let run := s.cfgRun secure
  let lim := run.foldl (fun (t : Tbl (List (BitVec 8))) c => tset (fun _ => []) t c (s.ctxN c).limits) []
  let win := run.foldl (fun (t : Tbl (List (BitVec 8))) c => tset (fun _ => []) t c (s.ctxN c).window) []
  { regs := s.cfgWordsOf secure s.regs, run := run, armed := s.cfgArmed secure, limits := lim, window := win }

/-- The items named by the offsets of a list whose words differ between two images. -/
def wordDiffs (a b : Tbl (BitVec 32)) (offs : List Nat) : List CfgItem :=
  (offs.filter (fun o => tget resetWord a o != tget resetWord b o)).filterMap cfgItemOf

/-- Members of exactly one of two lists. -/
def symDiff (a b : List Nat) : List Nat := a.filter (fun x => !b.contains x) ++ b.filter (fun x => !a.contains x)

/-- The items of a world that differ from a target (R556). -/
def State.cfgDiff (s : State) (secure : Bool) (img : CfgImage) : List CfgItem :=
  let now := s.cfgNowImage secure
  let offs := now.regs.map (fun p => p.1) ++ img.regs.map (fun p => p.1)
  let both := img.run.filter (fun c => now.run.contains c)
  let tables := both.filter (fun c => tget (fun _ => []) now.limits c != tget (fun _ => []) img.limits c)
  let all := wordDiffs now.regs img.regs offs ++ (symDiff now.run img.run ++ tables).map CfgItem.ctx ++ (symDiff now.armed img.armed).map CfgItem.slot
  (all.filter (fun i => s.cfgMine secure i)).eraseDups

/-- A slot of the store; a slot never written holds what the flash was delivered with. -/
def State.cfgSlot (s : State) (n : Nat) : CfgSlot :=
  match tget (fun _ => none) s.cfg.slots n with
  | some x => x
  | none =>
    let f := Config.flashSlot n
    let regs := f.1.foldl (fun (t : Tbl (BitVec 32)) p => tset resetWord t p.1 p.2) []
    { version := s.f (R.CFG_SLOT_VER n), image := { regs := regs, run := f.2.1, armed := f.2.2.1 }, ok := f.2.2.2 }

/-- The slot that holds a version; a slot whose digest does not match lacks it (R552). -/
def State.slotOf (s : State) (version : Nat) : Option Nat :=
  if version == 0 then none
  else (List.range 4).find? (fun n => (s.cfgSlot n).version == version && (s.cfgSlot n).ok)

/-! ## Checks at the first step (R554) -/

/-- The words of a target for one item. -/
def CfgImage.itemOffs (img : CfgImage) (now : Tbl (BitVec 32)) (i : CfgItem) : List Nat :=
  ((now.map (fun p => p.1) ++ img.regs.map (fun p => p.1)).filter (fun o => cfgItemOf o == some i)).eraseDups

/-- The words of an item written, without their reserved bits (R5); `ctl` writes the EN bits too. -/
def State.putItem (s : State) (img : CfgImage) (i : CfgItem) (ctl : Bool) : State :=
  (img.itemOffs s.regs i).foldl (fun (t : State) o =>
    let w := tget resetWord img.regs o &&& BitVec.ofNat 32 (fieldBits o)
    let en := (o < 0x90000 && o % 0x1000 == 0) || (0x584000 ≤ o && o < 0x584800 && o % 0x40 == 0x04)
    if !en then t.setWord o w else if ctl then t.setWord o ((t.word o &&& 0xFFFFFFFE) ||| (w &&& 1)) else t) s

/-- The target's EN bit of a chain or a queue, and the present one. -/
def CfgImage.on (img : CfgImage) : CfgItem → Bool
  | .chain n => (tget resetWord img.regs (R.FCH_CTRL n).off).getLsbD 0
  | .queue q => (tget resetWord img.regs (R.SQ_CTRL q).off).getLsbD 0
  | .ctx c => img.run.contains c
  | .slot n => img.armed.contains n
  | _ => true

/-- The configuration words of a context in a target. -/
def CfgImage.ctxWords (img : CfgImage) (c : Nat) : List (BitVec 32) :=
  (List.range 64).map (fun i => tget resetWord img.regs (0x200000 + 0x200 * c + 4 * i))

/-- Whether a context changes over as CTX_MODIFY does: it runs before and after, and its differences are confined to the
fields of R274. -/
def State.modifies (s : State) (img : CfgImage) (c : Nat) : Bool :=
  img.run.contains c && (s.ctxState c == 1 || s.ctxState c == 2) && modAllowed (s.cfgNow c) (img.ctxWords c)

/-- The code of the check of one item on a state in which everything before it has changed over, and that state. -/
def State.checkItem (img : CfgImage) (p : State × Nat) (i : CfgItem) : State × Nat :=
  let s := p.1
  if p.2 != stOk then p
  else
    match i with
    | .queue q =>
      let t := s.putItem img i true
      (t, if img.on i then t.sqChecks q else stOk)
    | .chain n =>
      let t := s.putItem img i true
      if img.on i then
        let t1 := (t.copyBank n).setB (R.FCH_STATUS_RUNNING n) true
        (t1, t.fchChecks n true)
      else (t.fchStop n, if s.fchOn n && s.chainNamed n then stRefusedBusy else t.fchChecks n false)
    | .ctx c =>
      if s.modifies img c then (s, s.modCheck c (img.ctxWords c))
      else if img.on i then
        let t := s.putItem img i true
        t.ctxStart c (some (tget (fun _ => []) img.window c)) (some (tget (fun _ => []) img.limits c))
      else (s, stOk)
    | .trig =>
      let t := s.putItem img i true
      (t.copyTrgBank, t.trgChecks)
    | .slot n =>
      let t := s.putItem img i true
      if img.on i then (t.acqArm n, t.armChecks n) else (t, stOk)
    | .raster =>
      let t := s.putItem img i true
      (t, if t.flag R.RS_CTRL_EN && t.rsChecks != stOk then t.rsChecks else if t.rsCommitOk then stOk else stBadParam)

/-- The order in which items act: stops by rank of the kinds slots, trigger units, contexts, chains, queues (R556). -/
def stopRank : CfgItem → Nat
  | .slot _ => 0
  | .trig => 1
  | .ctx _ => 2
  | .chain _ => 3
  | .queue _ => 4
  | .raster => 5

/-- Changes and enables by rank of the kinds queues, chains, contexts, trigger units, slots, raster (R556). -/
def changeRank : CfgItem → Nat
  | .queue _ => 0
  | .chain _ => 1
  | .ctx _ => 2
  | .trig => 3
  | .slot _ => 4
  | .raster => 5

/-- Items ordered by a rank, kinds of equal rank in their present order. -/
def byRank (rank : CfgItem → Nat) (xs : List CfgItem) : List CfgItem :=
  ((List.range 6).map (fun r => xs.filter (fun i => rank i == r))).flatten

/-- The present state with the items' stops done: slots idle, contexts that do not merely change stopped. -/
def State.stopAll (s : State) (img : CfgImage) (xs : List CfgItem) : State :=
  xs.foldl (fun (t : State) i =>
    match i with
    | .slot n => t.setAcqState n aIdle
    | .ctx c =>
      if t.modifies img c then t
      else if t.ctxState c == 1 || t.ctxState c == 2 || t.ctxState c == 3 then (t.ctxRelease c).setF (R.CTX_STATE_STATE c) 0 else t
    | _ => t) s

/-- The code of the whole target against the present state (R554): the first failure, OK when all pass. -/
def State.cfgCheck (s : State) (img : CfgImage) (xs : List CfgItem) : Nat :=
  ((byRank changeRank xs).foldl (State.checkItem img) (s.stopAll img (byRank stopRank xs), stOk)).2

/-! ## A switch: PREPARE, COMMIT, ABORT (R351 to R353, R554, R558) -/

/-- The target is loaded and PENDING rises. -/
def State.cfgLoadSlot (s : State) (slot : Nat) (act_ : Nat) (secure : Bool) (items : List CfgItem) : State :=
  let x := s.cfgSlot slot
  let s1 := ((s.setB R.CFG_STATUS_PENDING true).setF R.CFG_STATUS_PEND_SLOT slot).setF R.CFG_PEND_VERSION x.version
  let s2 := s1.setPtimeAt (R.CFG_ACT_PTIME 0).off act_
  { s2 with cfg := { s2.cfg with slot := slot, secure := secure, image := x.image, acting := false, failed := false, items := items.map (fun i => (i, .stop)) } }

/-- The end of a switch that changes nothing: an abort, a cancel, an expiry (R558). -/
def State.cfgDrop (s : State) : State :=
  let s1 := ((s.setB R.CFG_STATUS_PENDING false).setF R.CFG_STATUS_PEND_SLOT 0).setF R.CFG_PEND_VERSION 0
  let s2 := s1.setPtimeAt (R.CFG_ACT_PTIME 0).off 0
  { s2 with cfg := { s2.cfg with items := [], acting := false, image := {} }, cl := { s2.cl with prep := none } }

/-- This device takes a PREPARE: it loads and checks the target and keeps its own answer (R351, R554). -/
def State.cfgPrepare (s : State) (p : PrepSt) (slot : Option Nat) (secure : Bool) : State :=
  match slot with
  | none =>
    let s1 := (s.setB R.CFG_STATUS_PENDING true).setPtimeAt (R.CFG_ACT_PTIME 0).off p.act
    { s1 with cl := { s1.cl with prep := some { p with own := stBadParam } }, cfg := { s1.cfg with items := [], acting := false } }
  | some n =>
    let img := (s.cfgSlot n).image
    let items := s.cfgDiff secure img
    let own := s.cfgCheck img items
    let s1 := s.cfgLoadSlot n p.act secure items
    { s1 with cl := { s1.cl with prep := some { p with own := own } } }

/-- The slot that a PREPARE names: the one with VERSION, or the previous one. -/
def State.prepSlot (s : State) (version : Nat) (revert : Bool) : Option Nat :=
  if !revert then s.slotOf version
  else if s.flag R.CFG_STATUS_PREV_VALID && (s.cfgSlot (s.f R.CFG_STATUS_PREV)).ok then some (s.f R.CFG_STATUS_PREV)
  else none

/-- The payload of a CFGSW carriage (Table 9-7). -/
def cfgPayload (act_ version : Nat) : Nat := pt128 act_ + 2 ^ 128 * version

/-- FLAGS of a CFGSW carriage. -/
def cfgFlags (phase : Nat) (revert : Bool) : Nat := phase + (if revert then 4 else 0)

/-- Whether a configuration command or a switch holds the store (R436). -/
def State.storeHeld (s : State) : Bool :=
  s.cl.prep.isSome || s.host.longs.any (fun c => [0x61, 0x62, 0x63].contains c.entry.opcode.toNat)

/-- CFG_SWITCH and CFG_REVERT at their first step. -/
def cfgSwitchStart (k act_ version : Nat) (revert : Bool) (s : State) : CmdRes :=
  let prev := s.f R.CFG_STATUS_PREV
  if s.role != roleTop && s.role != roleStandalone then resDone s stBadParam
  else if revert && !s.flag R.CFG_STATUS_PREV_VALID then resDone s stBadParam
  else if act_ < s.now + 2 * s.horizon then resDone s stBadParam
  else if s.storeHeld then resDone s stRefusedBusy
  else
    let v := if revert then (s.cfgSlot prev).version else version
    let s1 := s.cfgPrepare { act := act_, version := v, revert := revert } (s.prepSlot v revert) (s.ringSecure k)
    { st := s1.broadcast cCFGSW (cfgFlags 0 revert) (cfgPayload act_ v), kind := 2 }

def execCfgSwitch (k : Fin 16) (f : Fetch) (s : State) : Out :=
  let act_ := ptOf128 (f.entry.param 0 + 2 ^ 64 * f.entry.param 1)
  .next (s.startCmd k f 0x61 true false [2 ^ 64 - 1, 2 ^ 64 - 1, 0xFFFFFFFF] (cfgSwitchStart k act_ (f.entry.param 2) false))

def execCfgRevert (k : Fin 16) (f : Fetch) (s : State) : Out :=
  let act_ := ptOf128 (f.entry.param 0 + 2 ^ 64 * f.entry.param 1)
  .next (s.startCmd k f 0x62 true false [2 ^ 64 - 1, 2 ^ 64 - 1] (cfgSwitchStart k act_ 0 true))

/-- The command that runs the switch ends. -/
def State.finishSwitch (s : State) (status result : Nat) : State := (s.finishOp 0x61 status result).finishOp 0x62 status result

/-- ABORT goes to the children and the switch is dropped. -/
def State.cfgAbort (s : State) : State :=
  match s.cl.prep with
  | none => s
  | some p => (s.broadcast cCFGSW (cfgFlags 2 p.revert) (cfgPayload p.act p.version)).cfgDrop

/-- ACT_PTIME − CL_HORIZON on the device that runs the switch (R352). -/
def answerDeadline (s : State) : State :=
  match s.cl.prep with
  | none => s
  | some p =>
    if p.commit || (s.role != roleTop && s.role != roleStandalone) || s.now + s.horizon < p.act then s
    else
      let missing := !s.children.all (fun k => p.answers.any (fun a => a.1 == k))
      let r := s.prepResult p
      if r.1 != stOk then s.cfgAbort.finishSwitch stBadParam r.2
      else if missing then s.cfgAbort.finishSwitch stTimeout 0
      else
        let s1 := s.broadcast cCFGSW (cfgFlags 1 p.revert) (cfgPayload p.act p.version)
        ({ s1 with cl := { s1.cl with prep := some { p with commit := true } } } : State).finishSwitch stOk 0

def execCfgAnswerDeadline (s : State) : Out := .next (answerDeadline s)

/-! ## Changeover (R135, R296, R556, R557) -/

/-- The first item whose check failed is recorded (R557). -/
def State.itemFailed (s : State) (i : CfgItem) (code : Nat) : State :=
  let block := match i with
    | .ctx _ => 0xFF
    | .slot _ => 0x61
    | .trig => 0x60
    | .chain n => 0x10 + n
    | .queue q => 0xC0 + q
    | .raster => 0x6B
  let ctx := match i with
    | .ctx c => c
    | _ => 0
  let s1 := s.setB R.CFG_STATUS_APPLY_FAIL true
  if s.cfg.failed then s1
  else
    let s2 := ((s1.setF R.CFG_FAIL_CONTEXT ctx).setF R.CFG_FAIL_BLOCK block).setF R.CFG_FAIL_CODE code
    { s2 with cfg := { s2.cfg with failed := true } }

/-- An item's stage; `none` when it has changed over. -/
abbrev ItemStep := State × Option CfgStage

/-- An item ends with the code that its rule gives. -/
def State.itemEnd (s : State) (i : CfgItem) (code : Nat) : ItemStep := (if code == stOk then s else s.itemFailed i code, none)

/-- The stop of an item. `clear`: no stop of an earlier kind is under way, the trigger bank's hand-over among them. -/
def State.itemStop (s : State) (img : CfgImage) (clear : Bool) (i : CfgItem) : ItemStep :=
  match i with
  | .slot n => if s.acqState n == aPost then (s, some .stop) else (s.acqHalt n aIdle, some .change)
  | .ctx c =>
    if s.modifies img c then (s, some .change)
    else if s.ctxState c == 1 || s.ctxState c == 2 then
      let t := (s.ctxHalt c).ctxSettle c
      (t, some (if t.ctxState c == 0 then .change else .stop))
    else if s.ctxState c == 3 then (s, some .stop)
    else (s, some .change)
  | .chain n =>
    if img.on i || !s.fchOn n then (s, some .change)
    else if !clear then (s, some .stop)
    else
      let t := s.fchDisable n
      if t.flag (R.FCH_CTRL_EN n) then t.itemEnd i stRefusedBusy else (t, some .change)
  | .queue q =>
    if s.flag (R.SQ_STATUS_RUNNING q) then
      let old := (s.word (R.SQ_CTRL q).off).toNat
      (sqCtrlWritten q old 0 (s.setB (R.SQ_CTRL_EN q) false), some .stop)
    else if !s.sqEmpty q || !(s.sqN q).pkts.isEmpty then (s, some .stop)
    else (s, some .change)
  | _ => (s, some .change)

/-- The change or enable of an item begins. -/
def State.itemChange (s : State) (img : CfgImage) (i : CfgItem) : ItemStep :=
  match i with
  | .queue q =>
    let t := s.putItem img i false
    if !img.on i then (t, none)
    else
      let t1 := sqCtrlWritten q 0 1 (t.setB (R.SQ_CTRL_EN q) true)
      let r := t1.f (R.SQ_STATUS_RESULT q)
      if r == stOk then (t1, none) else (s.setF (R.SQ_STATUS_RESULT q) r).itemEnd i r
  | .chain n =>
    if s.shadowHeld n then (s, some .change)
    else
      let old := (s.word (R.FCH_CTRL n).off).toNat
      let t := s.putItem img i false
      if img.on i && !s.flag (R.FCH_CTRL_EN n) then (fchCtrlWritten n 0 1 (t.setB (R.FCH_CTRL_EN n) true), some .wait)
      else (fchCtrlWritten n (old % 2) (2 + old % 2 + (t.word (R.FCH_CTRL n).off).toNat / 4 % 4 * 4) t, some .wait)
  | .ctx c =>
    if s.modifies img c then
      let new := img.ctxWords c
      let v := s.modCheck c new
      if v != stOk then s.itemEnd i v
      else (s.modSet c { cfg := new, limits := some (tget (fun _ => []) img.limits c), window := none }, some .wait)
    else
      let t := s.putItem img i true
      if !img.on i then (t, none)
      else
        let r := t.ctxStart c (some (tget (fun _ => []) img.window c)) (some (tget (fun _ => []) img.limits c))
        (r.1.ctxResult c r.2).itemEnd i r.2
  | .trig =>
    if s.flag R.TRG_STATUS_PENDING then (s, some .change)
    else
      let t := trgCtrlWritten 2 (s.putItem img i true)
      if t.flag R.TRG_STATUS_PENDING then (t, some .wait) else t.itemEnd i (t.f R.TRG_STATUS_RESULT)
  | .slot n =>
    let t := s.putItem img i true
    if !img.on i then (t, none)
    else
      let t1 := t.acqArm n
      let r := t1.f (R.ACQ_STATUS_RESULT n)
      if r == stOk then (t1, none) else (s.setF (R.ACQ_STATUS_RESULT n) r).itemEnd i r
  | .raster =>
    if s.flag R.RS_STATUS_PENDING || s.flag R.RS_STATUS_MODESET_PEND then (s, some .change)
    else
      let timing := (img.itemOffs s.regs i).any (fun o => o < 0x701000 && tget resetWord img.regs o != s.word o)
      let t := s.putItem img i true
      let old := (t.word R.RS_CTRL.off).toNat
      let t1 := rsCtrlWritten old (old % 8 + 8 + (if timing then 32 else 0)) t
      let ok := t1.flag R.RS_STATUS_PENDING && (!timing || !s.flag R.RS_STATUS_RUNNING || t1.flag R.RS_STATUS_MODESET_PEND)
      if ok then (t1, some .wait) else t1.itemEnd i (t1.f R.RS_STATUS_RESULT)

/-- Whether the change of an item is complete. -/
def State.itemWait (s : State) (i : CfgItem) : ItemStep :=
  match i with
  | .chain n =>
    if s.shadowHeld n || (s.fchN n).chk != .none || (s.fchN n).startWait then (s, some .wait) else s.itemEnd i (s.f (R.FCH_STATUS_RESULT n))
  | .ctx c => if s.flag (R.CTX_STATE_MOD_PEND c) then (s, some .wait) else (s, none)
  | .trig => if s.flag R.TRG_STATUS_PENDING then (s, some .wait) else (s, none)
  | .raster => if s.flag R.RS_STATUS_PENDING || s.flag R.RS_STATUS_MODESET_PEND then (s, some .wait) else (s, none)
  | _ => (s, none)

/-- One item goes on; `go` says which stage acts in this pass. -/
def State.itemGo (s : State) (go : CfgStage) (p : CfgItem × CfgStage) : State :=
  if p.2 != go then s
  else
    let img := s.cfg.image
    let rest := s.cfg.items.filter (fun q => q.1 != p.1)
    let clear := !rest.any (fun q => (q.2 == .stop && stopRank q.1 < stopRank p.1) || q.1 == .trig)
    let r := match go with
      | .stop => s.itemStop img clear p.1
      | .change => s.itemChange img p.1
      | .wait => s.itemWait p.1
    let items := match r.2 with
      | none => rest
      | some st => r.1.cfg.items.map (fun q => if q.1 == p.1 then (p.1, st) else q)
    { r.1 with cfg := { r.1.cfg with items := items } }

/-- Whether the change of an item may begin: a start or an enable follows the stops of its own kind, and one that reads a
chain follows the enable of that chain; the other changes begin at the instant that Table 16-5 gives. -/
def State.itemMay (s : State) (i : CfgItem) : Bool :=
  let stops := s.cfg.items.any (fun q => q.2 == .stop && stopRank q.1 == stopRank i)
  let enabling := fun (n : Nat) => s.cfg.items.any (fun q => q.1 == .chain n && q.2 != .stop) && !s.flag (R.FCH_STATUS_RUNNING n) && s.cfg.image.on (.chain n)
  match i with
  | .ctx c =>
    let chain := (tget resetWord s.cfg.image.regs (R.CTX_SRC_SRC_CHAIN c).off).toNat % 16
    s.modifies s.cfg.image c || !(stops || enabling chain)
  | .slot n =>
    let mode := (tget resetWord s.cfg.image.regs (R.ACQ_MODE_KIND n).off).toNat
    let kind := bitsOf mode 0 2
    let idx := bitsOf mode 4 4
    !stops && !(kind == 1 && enabling idx)
  | .chain n => s.flag (R.FCH_CTRL_EN n) || !s.cfg.image.on i || !stops
  | _ => true

/-- The items in the order of a pass. -/
def passItems (rank : CfgItem → Nat) (xs : List (CfgItem × CfgStage)) : List (CfgItem × CfgStage) :=
  ((List.range 6).map (fun r => xs.filter (fun i => rank i.1 == r))).flatten

/-- The switch is complete (R558). -/
def State.cfgDone (s : State) : State :=
  let old := s.f R.CFG_STATUS_ACTIVE
  let had := s.f R.CFG_VERSION != 0
  let v := s.f R.CFG_PEND_VERSION
  let s1 := ((s.setF R.CFG_STATUS_PREV old).setB R.CFG_STATUS_PREV_VALID had).setF R.CFG_STATUS_ACTIVE s.cfg.slot
  ((s1.setF R.CFG_VERSION v).incSat R.CFG_SWITCHES).cfgDrop

/-- The switch goes on by one control cycle: stops, then changes, then what the changes wait for. -/
def State.cfgAdvance (s : State) : State :=
  if !s.cfg.acting then s
  else
    let s1 := (passItems stopRank s.cfg.items).foldl (fun (t : State) p => t.itemGo .stop p) s
    let s2 := (passItems changeRank s1.cfg.items).foldl (fun (t : State) p => if t.itemMay p.1 then t.itemGo .change p else t) s1
    let s3 := (passItems changeRank s2.cfg.items).foldl (fun (t : State) p => t.itemGo .wait p) s2
    if s3.cfg.items.isEmpty then s3.cfgDone else s3

/-- ACT_PTIME of a switch that is committed (R352, R353, R556). -/
def cfgActivate (s : State) : State :=
  match s.cl.prep with
  | none => s
  | some p =>
    if !p.commit || s.cfg.acting || !s.flag R.CFG_STATUS_PENDING || s.now < p.act then s
    else ({ s with cfg := { s.cfg with acting := true } } : State).cfgAdvance

def execCfgActivate (s : State) : Out := .next (cfgActivate s)

/-! ## CFGSW carriages (R334, R351 to R353) -/

/-- A CFGSW carriage of the parent reaches a device: `act` does what its phase asks. -/
def State.cfgswTake (s : State) (k : Nat) (c : Carriage) (phase : Nat) (answer : Bool) (act_ : State → State) : State :=
  let r := s.carriageOk k c cCFGSW
  if !r.2 || !r.1.isParent k || bitsOf c.flags.toNat 0 2 != phase then r.1
  else
    match r.1.ctlTake k c with
    | .drop => r.1
    | .again =>
      if answer then (match r.1.cl.prep with
        | some p => if p.seq == c.seq.toNat && !p.answered then r.1
          else r.1.sendAck k c.seq.toNat cCFGSW (r.1.prepResult p).1 (r.1.prepResult p).2 r.1.maxPath
        | none => r.1.sendAck k c.seq.toNat cCFGSW stOk 0 r.1.maxPath)
      else r.1.sendAck k c.seq.toNat cCFGSW stOk 0 r.1.maxPath
    | .act =>
      let t := act_ (r.1.ctlNext k)
      if answer then t else t.sendAck k c.seq.toNat cCFGSW stOk 0 t.maxPath

/-- A CFGSW PREPARE (R351). -/
def cfgswPrepare (k : Nat) (c : Carriage) (s : State) : State :=
  let p := c.payload.toNat
  let rev := bitOf c.flags.toNat 2
  let v := bitsOf p 128 32
  s.cfgswTake k c 0 true (fun t =>
    if t.cl.prep.isSome then t.sendAck k c.seq.toNat cCFGSW stRefusedBusy (t.f R.CL_STATUS_DEV) t.maxPath
    else
      let t1 := t.cfgPrepare { act := payPtime p, version := v, revert := rev, seq := c.seq.toNat } (t.prepSlot v rev) false
      (t1.broadcast cCFGSW c.flags.toNat p).settlePrep)

def execCfgswPrepare (k : Fin 16) (c : Carriage) (s : State) : Out := .next (cfgswPrepare k c s)

/-- A CFGSW COMMIT (R352, R353): a late one makes the device switch at its arrival. -/
def cfgswCommit (k : Nat) (c : Carriage) (s : State) : State :=
  s.cfgswTake k c 1 false (fun t =>
    let t1 := t.broadcast cCFGSW c.flags.toNat c.payload.toNat
    match t1.cl.prep with
    | none => t1
    | some p =>
      let t2 : State := { t1 with cl := { t1.cl with prep := some { p with commit := true } } }
      if t2.now ≤ p.act then t2
      else cfgActivate ((t2.setB R.CL_STATUS_CFG_LATE true).incSat R.CL_CFG_LATE))

def execCfgswCommit (k : Fin 16) (c : Carriage) (s : State) : Out := .next (cfgswCommit k c s)

/-- A CFGSW ABORT: the held PREPARE is discarded. -/
def cfgswAbort (k : Nat) (c : Carriage) (s : State) : State :=
  s.cfgswTake k c 2 false (fun t =>
    let t1 := t.broadcast cCFGSW c.flags.toNat c.payload.toNat
    match t1.cl.prep with
    | none => t1
    | some p => if p.commit then t1 else t1.cfgDrop)

def execCfgswAbort (k : Fin 16) (c : Carriage) (s : State) : Out := .next (cfgswAbort k c s)

/-- ACT_PTIME + CL_HORIZON of a PREPARE without COMMIT or ABORT (R353). -/
def prepareExpiry (s : State) : State :=
  match s.cl.prep with
  | none => s
  | some p =>
    if p.commit || s.role == roleTop || s.role == roleStandalone || s.now < p.act + s.horizon then s
    else s.cfgDrop.setB R.CL_STATUS_CFG_MISS true

def execCfgPrepareExpiry (s : State) : Out := .next (prepareExpiry s)

/-! ## CFG_SAVE (R553) -/

/-- CFG_SAVE at its start. -/
def cfgSaveStart (k slot version : Nat) (s : State) : CmdRes :=
  let others := (List.range 4).filter (fun n => n != slot)
  let active := s.f R.CFG_VERSION != 0 && s.f R.CFG_STATUS_ACTIVE == slot
  let prev := s.flag R.CFG_STATUS_PREV_VALID && s.f R.CFG_STATUS_PREV == slot
  if version == 0 || others.any (fun n => (s.cfgSlot n).version == version && (s.cfgSlot n).ok) then resDone s stBadParam
  else if active || prev || s.storeHeld then resDone s stRefusedBusy
  else
    let x : CfgSlot := { version := version, image := s.cfgNowImage (s.ringSecure k) }
    { st := { s with cfg := { s.cfg with save := some (slot, x) } }, kind := 2 }

/-- A step of CFG_SAVE; the first measured word gives the number of steps of the flash write. The digest follows the
image, so the slot changes with the last step. -/
def cfgSaveStep (c : LongCmd) (s : State) : State :=
  let c1 := { c with phase := c.phase + 1, steps := c.steps + 1 }
  let n := ((c.env[0]?).getD 1).toNat
  if c1.phase < n then (s.putLong c1).partialEntry c1
  else
    match s.cfg.save with
    | none => s.finishLong c1 stOk 0
    | some (slot, x) =>
      let s1 : State := { s with cfg := { s.cfg with save := none, slots := tset (fun _ => none) s.cfg.slots slot (some x) } }
      (s1.setF (R.CFG_SLOT_VER slot) x.version).finishLong c1 stOk 0

def execCfgSave (k : Fin 16) (f : Fetch) (s : State) : Out :=
  .next (s.startCmd k f 0x63 true false [0x3, 0xFFFFFFFF] (cfgSaveStart k (f.entry.param 0 % 4) (f.entry.param 1)))

/-! ## Configuration boot (R559) -/

/-- The last boot stage's switch to slot CFG_BOOT.SLOT. -/
def State.cfgBoot (s : State) : State :=
  if !s.flag R.CFG_BOOT_EN then s
  else
    let n := s.f R.CFG_BOOT_SLOT
    let x := s.cfgSlot n
    let ms := 1000000 * nsUnit
    let act_ := ceilDiv (s.now + 2 * s.horizon) ms * ms
    if x.version == 0 || !x.ok then s.setB R.CFG_STATUS_APPLY_FAIL true
    else
      let t := s.cfgPrepare { act := act_, version := x.version, revert := false, commit := true } (some n) false
      match t.cl.prep with
      | none => t
      | some p => if p.own == stOk then t else t.cfgDrop.setB R.CFG_STATUS_APPLY_FAIL true

/-- Whether a register word belongs to an item that has not changed over (R555). -/
def State.cfgHolds (s : State) (off : Nat) : Bool :=
  s.flag R.CFG_STATUS_PENDING && (match cfgItemOf off with
    | none => false
    | some i => s.cfg.items.any (fun p => p.1 == i))

end Sys2Proof.Machine
end

