-- ==== Sys2Proof/Machine/RingCtl.lean ====
section
/-!
DEFINITION. Enabling and disabling command rings, ending long commands early, and the resets of the PCIe endpoint
(spec/12_host_interface_and_commands.md, R417, R423, R424, R426, R439, R440, R442).
-/
namespace Sys2Proof.Machine

/-! ## Cancellation (R442, Table 12-4) -/

/-- A long command ended before its cancel limit; none past the limit or where Table 12-4 gives none. -/
def State.cancelLong (s : State) (c : LongCmd) : Option State :=
  let op := c.entry.opcode.toNat
  if op == 0x11 then if c.phase == 0 then some (bandscanCancel c s) else none
  else if op == 0x30 then if c.phase < 3 then some ((s.freeEngine c).finishLong c stCancelled 0) else none
  else if op == 0x31 then if c.phase < 2 then some ((s.freeEngine c).finishLong c stCancelled 0) else none
  else if op == 0x50 then some (s.finishLong c stCancelled c.pos)
  else if op == 0x61 || op == 0x62 then
    match s.cl.prep with
    | none => none
    | some p => if p.commit then none else some (s.cfgAbort.finishLong c stCancelled 0)
  else if op == 0x63 then some (({ s with cfg := { s.cfg with save := none } } : State).finishLong c stCancelled 0)
  else if op == 0x70 || op == 0x71 then some ((s.freeEngine c).finishLong c stCancelled 0)
  else none

/-! ## Enable and disable (R423, R424, R440) -/

/-- A write of EN = 1 to a ring that was not enabled. -/
def State.ringEnable (s : State) (k : Nat) : State :=
  let cmd := s.f (R.HI_RING_SIZE_CMD_LOG2 k)
  let cpl := s.f (R.HI_RING_SIZE_CPL_LOG2 k)
  let ok := 4 ≤ cmd && cmd ≤ 12 && 4 ≤ cpl && cpl ≤ 12 && s.f (R.HI_RING_BASE k) % 64 == 0 && s.f (R.HI_RING_CBASE k) % 16 == 0
  if s.f (R.HI_RING_STATUS_STATE k) != ringDisabled then s.setB (R.HI_RING_CTRL_EN k) false
  else if !ok then (s.setB (R.HI_RING_CTRL_EN k) false).setF (R.HI_RING_STATUS_CAUSE k) stBadParam
  else
    let s1 := (s.setWord (R.HI_RING_PTR k).off 0).setWord (R.HI_RING_CPTR k).off 0
    let s2 := (s1.setF (R.HI_RING_CPTR_PHASE k) 1).setF (R.HI_RING_STATUS_STATE k) ringRunning
    { s2 with host := { s2.host with cancelled := s2.host.cancelled.filter (fun p => p.1 != k) } }

/-- A write of EN = 0 (R440): fetching stops, completions are discarded, long commands end where they may. -/
def State.ringDisable (s : State) (k : Nat) : State :=
  let st := s.f (R.HI_RING_STATUS_STATE k)
  let s0 := s.setB (R.HI_RING_CTRL_EN k) false
  if st != ringRunning && st != ringHalted then s0
  else
    let h := s0.host
    let longs := h.longs.map (fun c => if c.ring == k then { c with stopped := true } else c)
    let defs := h.defs.map (fun c => if c.ring == k then { c with stopped := true } else c)
    let s1 : State := { s0 with host := { h with longs := longs, defs := defs, waiting := h.waiting.filter (fun w => w.ring != k), cancelled := h.cancelled.filter (fun p => p.1 != k) } }
    let s2 := (s1.setF (R.HI_RING_STATUS_STATE k) ringDraining).setB (R.HI_RING_STATUS_CPL_FULL k) false
    let s3 := (longs.filter (fun c => c.ring == k)).foldl (fun (t : State) c =>
      match t.cancelLong c with
      | some t1 => t1
      | none => t) s2
    s3.drainRing k

/-- What a write of HI_RINGk_CTRL does beyond its fields. `old` is the register before it. -/
def ringCtrlWritten (k old v : Nat) (s : State) : State :=
  if bitOf v 0 && !bitOf old 0 then s.ringEnable k
  else if !bitOf v 0 && bitOf old 0 then s.ringDisable k
  else s

/-! ## Doorbells (R425, R426) -/

/-- Whether a doorbell through a function reaches the page of ring `k`; a refused one is logged. -/
def State.doorbellOk (s : State) (pf k off : Nat) : State × Bool :=
  if s.f R.ID_BOOT_STAGE != 7 || (pf == 1 && !s.flag R.SEC_STATUS_PF1_EN) || !s.isRunning 0x66 then (s, false)
  else if pf == 0 && s.ringSecure k then (s.logRefused 0xFE 0 true (0x1000 * k + off), false)
  else (s, s.f (R.HI_RING_STATUS_STATE k) == ringRunning || s.f (R.HI_RING_STATUS_STATE k) == ringHalted)

/-- A write of CMD_TAIL: it announces the entries up to the new tail. -/
def cmdTail (pf k v : Nat) (s : State) : State :=
  let r := s.doorbellOk pf k 0
  if !r.2 then r.1
  else if s.cmdSize k ≤ v then r.1.setB (R.HI_RING_STATUS_BAD_DB k) true
  else r.1.setF (R.HI_RING_PTR_TAIL k) v

def execCmdTail (pf : Fin 2) (k : Fin 16) (v : BitVec 32) (s : State) : Out := .next (cmdTail pf k v.toNat s)

/-- A write of CPL_HEAD: it frees completion entries, and waiting completions take them. -/
def cplHead (pf k v : Nat) (s : State) : State :=
  let r := s.doorbellOk pf k 4
  if !r.2 then r.1
  else if s.cplSize k ≤ v then r.1.setB (R.HI_RING_STATUS_BAD_DB k) true
  else
    let s1 := r.1.setF (R.HI_RING_CPTR_CHEAD k) v
    s1.drainCpl k (s1.host.waiting.length + 1)

def execCplHead (pf : Fin 2) (k : Fin 16) (v : BitVec 32) (s : State) : Out := .next (cplHead pf k v.toNat s)

/-! ## NOP, CANCEL and unreadable commands (R439, R442) -/

/-- The opcodes of Table 12-4. -/
def opcodes : List Nat :=
  [0x01, 0x02, 0x10, 0x11, 0x20, 0x30, 0x31, 0x32, 0x33, 0x40, 0x41, 0x42, 0x43, 0x50, 0x60, 0x61, 0x62, 0x63, 0x70, 0x71, 0x72,
   0x73, 0x74, 0x80]

/-- The NOP command; an entry whose opcode Table 12-4 lacks completes BAD_OPCODE (R438). -/
def execNopCommand (k : Fin 16) (f : Fetch) (s : State) : Out :=
  if opcodes.contains f.entry.opcode.toNat then .next (s.startCmd k f 0x01 false false [] (fun t => resDone t stOk))
  else if !s.canStart k f.entry false then .next s
  else .next ((s.fetchCmd k).complete k f.entry.tag f.entry.irq stBadOpcode 1 0)

/-- The announced entry of a ring with a tag, by its place from HEAD in the bytes read, past the `skip` first. -/
def State.announced (s : State) (k tag skip : Nat) (bytes : List (BitVec 8)) : Option (Nat × Nat) :=
  let size := s.cmdSize k
  let h := s.f (R.HI_RING_PTR_HEAD k)
  let n := (s.f (R.HI_RING_PTR_TAIL k) + size - h) % size
  ((List.range n).find? (fun i => decide (skip ≤ i) && leAt bytes (64 * i + 4) 2 == tag && !s.host.cancelled.contains (k, (h + i) % size))).map
    (fun i => ((h + i) % size, leAt bytes (64 * i + 2) 2))

/-- CANCEL of a tag on a ring. `bytes` are the entries that ring `r` has announced and not started, from its HEAD. -/
def cancelStart (k r tag : Nat) (bytes : List (BitVec 8)) (s : State) : CmdRes :=
  if s.ringSecure r && !s.ringSecure k then resDone s stBadWorld
  else
    match s.host.longs.find? (fun c => c.ring == r && c.entry.tag.toNat == tag) with
    | some c => (match s.cancelLong c with
      | some t => resDone t stOk 1
      | none => resDone s stOk 0)
    | none =>
      if s.f (R.HI_RING_STATUS_STATE r) != ringRunning || s.host.defs.any (fun c => c.ring == r && c.entry.tag.toNat == tag) then resDone s stOk 0
      else
        match s.announced r tag 0 bytes with
        | none => resDone s stOk 0
        | some (i, flags) =>
          let s1 : State := { s with host := { s.host with cancelled := s.host.cancelled ++ [(r, i)] } }
          let s2 := s1.complete r (BitVec.ofNat 16 tag) (bitOf flags 0) stCancelled 0 0
          resDone (s2.skipCancelled r s2.host.cancelled.length) stOk 1

def execCancel (k : Fin 16) (f : Fetch) (s : State) : Out :=
  .next (s.startCmd k f 0x02 false false [0xFFFF000F]
    (cancelStart k (f.entry.param 0 % 16) (bitsOf (f.entry.param 0) 16 16) ((f.read 0).getD [])))

/-- A ring cannot read its next command (R439). -/
def State.ringHalt (s : State) (k : Nat) : State :=
  let h := s.f (R.HI_RING_PTR_HEAD k)
  if s.f (R.HI_RING_STATUS_STATE k) != ringRunning || h == s.f (R.HI_RING_PTR_TAIL k) then s
  else
    let s1 := (s.setF (R.HI_RING_STATUS_STATE k) ringHalted).setF (R.HI_RING_STATUS_CAUSE k) stHostNoresp
    s1.errLog 0x0D 1 0x00 stHostNoresp [k, stHostNoresp, h]

/-- A read completion or its failure: of a command of ring `n`, of a descriptor of coach `n`, of data for coach `n`. -/
def hostReadCompletion (what n : Nat) (data : HostRead) (s : State) : State :=
  if what == 0 then (if data.isNone && n < 16 then s.ringHalt n else s)
  else if what == 1 then descriptorProcess n data s
  else if s.ceReady n then s.ceBurst n data [] false else s

def execHostReadCompletion (what : Fin 3) (n : Fin 64) (data : HostRead) (s : State) : Out := .next (hostReadCompletion what n data s)

/-! ## Resets of the endpoint (R417) -/

/-- The rings and coaches of a selection end as disabled ones. -/
def State.dropHost (s : State) (ring coach : Nat → Bool) : State :=
  let s1 := ((List.range 16).filter ring).foldl State.ringDisable s
  ((List.range 64).filter coach).foldl State.cePcieReset s1

/-- PERST_N or a hot reset: the endpoint is fenced, every ring and coach is disabled. -/
def State.pcieFence (s : State) : State :=
  ((s.fenceEnter 0x66 .fenced).setWord R.HI_LINK.off 0).dropHost (fun _ => true) (fun _ => true)

/-- A hot reset: the endpoint leaves FENCED when its link has trained again. -/
def hotReset (s : State) : State := if s.isRunning 0x66 then s.pcieFence else s

def execHotReset (s : State) : Out := .next (hotReset s)

/-- A Function Level Reset: the rings and coaches of the function's world. -/
def flr (pf : Nat) (s : State) : State :=
  if pf == 1 && !s.flag R.SEC_STATUS_PF1_EN then s
  else s.dropHost (fun k => s.ringSecure k == (pf == 1)) (fun c => s.blockSecure (0x80 + c) == (pf == 1))

def execFlr (pf : Fin 2) (s : State) : Out := .next (flr pf s)

/-- The limits of HI_LINK_CFG: MAX_GEN 0 or above 6 acts as 6, MAX_WIDTH other than 1, 2, 4, 8 or 16 acts as 16. -/
def State.maxGen (s : State) : Nat := let g := s.f R.HI_LINK_CFG_MAX_GEN; if g == 0 || 6 < g then 6 else g
def State.maxWidth (s : State) : Nat := let w := s.f R.HI_LINK_CFG_MAX_WIDTH; if [1, 2, 4, 8, 16].contains w then w else 16

/-- Training of the link ends (R414): what it negotiates within the limits is shown, with Flit mode at Gen6 only (Table 12-1), and the
endpoint is RUNNING again. -/
def linkTraining (up : Bool) (gen width : Nat) (reversed flit : Bool) (s : State) : State :=
  if s.blk 0x66 == .gated || s.blk 0x66 == .waking then s
  else
    let s0 := s.setWord R.HI_LINK.off 0
    if !up then s0
    else
      let s1 := ((s0.setF R.HI_LINK_GEN (min gen s0.maxGen)).setF R.HI_LINK_WIDTH (min width s0.maxWidth)).setB R.HI_LINK_REVERSED reversed
      let s2 := (s1.setB R.HI_LINK_FLIT (flit && s1.f R.HI_LINK_GEN == 6)).setB R.HI_LINK_UP true
      if s2.isFenced 0x66 then s2.fenceLeave 0x66 else s2

def execPcieLinkTraining (up : Bool) (gen : Fin 16) (width : Fin 32) (reversed flit : Bool) (s : State) : Out :=
  .next (linkTraining up gen width reversed flit s)

end Sys2Proof.Machine
end

