-- ==== Sys2Proof/Machine/Blocks.lean ====
section
/-!
DEFINITION. Fence blocks at work: requests and replies, and block resets (spec/01_architecture.md, R19 to R30;
spec/17_bring_up_and_faults.md, R571, R572, Table 17-5).
-/
namespace Sys2Proof.Machine

/-! ## Requests and replies (R19 to R26) -/

/-- A reply leaves a block: its request and a status. -/
def State.reply (s : State) (r : BlkReq) (status : Nat) : State :=
  { s with fence := { s.fence with replies := s.fence.replies ++ [(r, status)] } }

/-- A running block accepts a request under its present epoch; it answers it in this action, or later. -/
def State.accept (s : State) (b : Nat) (tag : BitVec 16) (answered : Bool) : State :=
  let r : BlkReq := ⟨b, tag, s.epoch b⟩
  if answered then s.reply r stOk else { s with fence := { s.fence with accepted := s.fence.accepted ++ [r] } }

/-- A request reaches a block: it is accepted, completed at once, or held while the block wakes (R19, R22, R23). The reply to a
request that a FENCED or OFFLINE block completes without accepting it carries the block's present epoch. -/
def blockRequest (b : Nat) (tag : BitVec 16) (epoch : Nat) (answered : Bool) (s : State) : State :=
  if !isBlock b then s
  else
    let r : BlkReq := ⟨b, tag, epoch⟩
    let s1 : State := { s with fence := { s.fence with outstanding := s.fence.outstanding ++ [r] } }
    match s1.blk b with
    | .running => (s1.accept b tag answered).wakeBlk b
    | .fenced => s1.reply ⟨b, tag, s1.epoch b⟩ stTargetReset
    | .offline => s1.reply ⟨b, tag, s1.epoch b⟩ stTargetOffline
    | .gated | .waking => ({ s1 with fence := { s1.fence with held := s1.fence.held ++ [r] } } : State).wakeBlk b

def execBlockRequest (b : Fin 256) (tag : BitVec 16) (epoch : BitVec 8) (answered : Bool) (s : State) : Out :=
  .next (blockRequest b tag epoch.toNat answered s)

/-- The held requests of a block are served, with an OK reply each, once it is RUNNING (R23). -/
def State.serveHeldReqs (s : State) (b : Nat) : State :=
  let mine := s.fence.held.filter (fun r => r.block == b)
  let s1 : State := { s with fence := { s.fence with held := s.fence.held.filter (fun r => r.block != b) } }
  mine.foldl (fun (t : State) r => t.accept b r.tag true) s1

/-- The first element that a test admits is left out. -/
def dropFirst {α : Type} (p : α → Bool) : List α → List α
  | [] => []
  | x :: xs => if p x then xs else x :: dropFirst p xs

/-- A block that waits only for its replies leaves FENCED or OFFLINE once none is out (R26). -/
def State.leaveIfSettled (s : State) (b : Nat) : State :=
  if s.isFenced b && tget (fun _ => false) s.fence.leaving b && !s.repliesOut b then s.fenceLeave b else s

/-- A reply reaches its receiver: it closes the outstanding request of its tag and epoch, or is discarded and counted
(R25). A request that the block had accepted and not answered has now had its answer (R21). -/
def replyReceived (b : Nat) (tag : BitVec 16) (epoch : Nat) (s : State) : State :=
  let same := fun (r : BlkReq) => r.block == b && r.tag == tag && r.epoch == epoch
  let s1 : State := { s with fence := { s.fence with
      replies := dropFirst (fun p => same p.1) s.fence.replies
      accepted := if s.fence.replies.any (fun p => same p.1) then s.fence.accepted else dropFirst same s.fence.accepted } }
  let s2 : State :=
    if s1.fence.outstanding.any same then { s1 with fence := { s1.fence with outstanding := dropFirst same s1.fence.outstanding } }
    else s1.incSat R.ID_STALE_DROPS
  s2.leaveIfSettled b

def execReplyReceived (b : Fin 256) (tag : BitVec 16) (epoch : BitVec 8) (s : State) : Out :=
  .next (replyReceived b tag epoch.toNat s)

/-- Whether something beyond replies keeps a block from leaving FENCED or OFFLINE: its domain is stopped, its forge is
out of service, its link trains, or its own rule names the instant. -/
def State.fenceHeld (s : State) (b : Nat) : Bool :=
  s.domState (domOf b) == dStopped || s.blk b == .offline || b == 0x63
  || (b == 0x66 && !s.flag R.HI_LINK_UP)
  || (List.range 16).any (fun k => b == 0x67 + k / 4 && s.f (R.CL_LINK_STATUS_STATE k) == lkTraining)

/-- A block is ready to leave FENCED or OFFLINE (R26). -/
def fenceExit (b : Nat) (s : State) : State :=
  if s.isFenced b && (tget (fun _ => false) s.fence.leaving b || !s.fenceHeld b) then s.fenceLeave b else s

def execFenceExit (b : Fin 256) (s : State) : Out := .next (fenceExit b s)

/-! ## The capture writer (R29, R413) -/

/-- The capture writer enters FENCED: its current burst ends, the rest of the staging is lost, the index at which capture
stopped is recorded, and the slots end (R29, R315). -/
def State.captureFence (s : State) : State :=
  let s1 := (s.closeStage.serveStage).fenceEnter 0x63 .fenced
  let s2 : State := { s1 with mem := { s1.mem with stage := [] } }
  (s2.syncPanic.setF R.ID_WARM_INDEX s.clk.sampleIdx).acqFence

/-- The alignment tick after the reset of the capture writer, with both controllers RUNNING. -/
def captureWriterRestart (s : State) : State :=
  if s.atTick && s.isFenced 0x63 && s.isRunning 0x64 && s.isRunning 0x65 && s.domState 20 != dStopped then s.fenceLeave 0x63 else s

def execCaptureWriterRestart (s : State) : Out := .next (captureWriterRestart s)

/-! ## What the reset of each kind does (Table 17-5) -/

/-- A timing channel: its queue is emptied, and a gate in progress gives no result. -/
def State.tdcReset (s : State) (c : Nat) : State :=
  let x := s.tdcN c
  (s.setTdc c { io := x.io, steps := x.steps, seq := x.seq, recLost := x.recLost, freqLost := x.freqLost }).syncTdc c

/-- The housekeeping: converters idle, no throttle until a sequence has ended, a calibration due on each (R570). -/
def State.hkReset (s : State) : State :=
  let s1 := ((s.setB R.HK_STATUS_SUSPECT false).setWord R.HK_TMAX.off 0).setF R.HK_STATUS_THROTTLE 0
  let s2 := s1.setF R.FAB_STATUS_THROTTLE 0
  let s3 : State := { s2 with hk := { s2.hk with conv := [], tmax := none, faults := 0, noCmp := false } }
  hkCalRequest 1 (hkCalRequest 0 s3)

/-- The trigger units and the combiner: units restart, the event stores are empty, a pending commit ends. -/
def State.trgReset (s : State) : State :=
  let s1 := s.restartUnits
  let s2 : State := { s1 with trg := { s1.trg with store := [], prims := [], handed := false } }
  if s2.flag R.TRG_STATUS_PENDING then (s2.setB R.TRG_STATUS_PENDING false).setF R.TRG_STATUS_RESULT stCancelled else s2

/-- The Trigger Port: the answer table is 0. -/
def State.tpReset (s : State) : State :=
  let s1 : State := { s with tp := { s.tp with half0 := [], half1 := [], sel := [], fresh := [], armPend := none } }
  ((List.range 64).foldl (fun (t : State) e => t.setF (R.TP_ANS_VAL_VALUE e) 0) s1).syncTpa

/-- The links of a flex quad train again (R29, R338). -/
def State.quadRetrain (s : State) (g : Nat) : State := (List.range 4).foldl (fun (t : State) i => t.linkStart (4 * g + i)) s

/-- A hearth loses its contents. -/
def State.hearthClear (s : State) (f : Nat) : State :=
  { s with mem := { s.mem with bytes := tclear s.mem.bytes (memKey 1 (f * 2 ^ 22)) (memKey 1 ((f + 1) * 2 ^ 22)) } }

/-- The raster output's memory and internal state are lost; records on their way to the mapper still arrive. -/
def State.rasterClear (s : State) : State :=
  { s with rs := { maps := s.rs.maps }, mem := { s.mem with bytes := tclear s.mem.bytes (memKey 2 0) (memKey 3 0) } }

/-- A memory controller: its queue drains and its stack goes to self-refresh; the capture writer is fenced with it. -/
def State.memFence (s : State) (m : Nat) : State :=
  let s1 := if s.isFenced 0x63 then s else s.captureFence
  s1.mcFence m

/-- What the reset of a block does to its state, for the blocks that leave FENCED within the same action. -/
def State.blockInit (s : State) (b : Nat) : State :=
  if 0x02 ≤ b && b ≤ 0x09 then s.adcRestart (b - 0x02)
  else if 0x0A ≤ b && b ≤ 0x0D then (s.setB (R.DAC_CTRL_EN (b - 0x0A)) false).dacHalt (b - 0x0A)
  else if b == 0x0E then (List.range 16).foldl State.tdcReset s
  else if b == 0x0F then s.hkReset
  else if 0x10 ≤ b && b ≤ 0x1F then s.fchReset (b - 0x10)
  else if 0x40 ≤ b && b ≤ 0x5F then s.hearthClear (b - 0x40)
  else if b == 0x60 then s.trgReset
  else if b == 0x61 then s.acqFence
  else if b == 0x62 then s.tpReset
  else if b == 0x64 || b == 0x65 then s.memFence (b - 0x64)
  else if b == 0x6B then s.rsReset
  else if 0xC0 ≤ b && b ≤ 0xDF then s.sqFence (b - 0xC0)
  else s

/-- Whether a context that is STARTING, RUNNING or STOPPING is homed on a forge. -/
def State.homed (s : State) (f : Nat) : Bool := s.liveCtxs.any (fun c => s.homeOf c == f)

/-- A block reset that ends at once. -/
def State.bresetDone (s : State) (status : Nat) : State := s.setF R.ID_BRESET_STATUS_RESULT status

/-- A block reset begins: BUSY reads 1 until it completes. -/
def State.bresetBegin (s : State) (b : Nat) : State :=
  ({ s with fence := { s.fence with breset := some b } } : State).setB R.ID_BRESET_STATUS_BUSY true

/-- A forge is reset as FORGE_RELOAD reloads it (R181, R230). -/
def State.forgeReset (s : State) (f : Nat) : State :=
  if s.flag (R.FRG_STATUS_PINNED f) || s.forgeHeld f then s.bresetDone stRefusedBusy
  else
    let q := s.flag (R.FRG_MC_STATUS_QUARANTINE f)
    let s1 := (s.setB (R.FRG_MC_STATUS_QUARANTINE f) false).bresetBegin (0x20 + f)
    let s2 : State := if q then { s1 with fab := { s1.fab with checks := tset (fun _ => []) s1.fab.checks f [] } } else s1
    (s2.reloadTry f).1

/-- The reset of a block through ID_BRESET, past the checks of its number and world. -/
def State.blockReset (s : State) (b : Nat) : State :=
  if s.blk b == .gated || s.blk b == .waking then s.bresetDone stOk
  else if 0x20 ≤ b && b ≤ 0x3F then s.forgeReset (b - 0x20)
  else if 0x40 ≤ b && b ≤ 0x5F && s.homed (b - 0x40) then s.bresetDone stRefusedBusy
  else if b == 0x66 then (s.bresetBegin b).pcieFence
  else if 0x67 ≤ b && b ≤ 0x6A then
    let s1 := ((s.bresetBegin b).fenceEnter b .fenced).quadRetrain (b - 0x67)
    if s1.fenceHeld b then s1 else s1.fenceLeave b
  else if b == 0x63 then (s.bresetBegin b).captureFence
  else if 0x80 ≤ b && b ≤ 0xBF then (s.bresetBegin b).ceReset (b - 0x80)
  else (((s.bresetBegin b).fenceEnter b .fenced).blockInit b).fenceLeave b

/-- The blocks that ID_BRESET cannot reset: Table 17-5 and the numbers that Table 1-7 does not list. -/
def noReset (b : Nat) : Bool := b == 0x00 || b == 0x01 || b == 0x6C || !isBlock b

/-- A write of ID_BRESET: with GO = 1 it resets a block (R571, R572). -/
def bresetWritten (pf v : Nat) (s : State) : State :=
  let b := bitsOf v 0 8
  if !bitOf v 8 then s
  else if s.flag R.ID_BRESET_STATUS_BUSY then s.setB R.ID_BRESET_STATUS_DROP true
  else if noReset b then s.bresetDone stBadParam
  else if pf == 0 && s.blockSecure b then s.bresetDone stBadWorld
  else s.blockReset b

end Sys2Proof.Machine
end

