-- ==== Sys2Proof/Machine/Power.lean ====
section
/-!
DEFINITION. The power controller (spec/15_power_and_health.md, R505 to R523 and R533): refusals, the sleep sequence and its undoing,
gating and waking of domains, pad hold, P3 and P4, wake sources, AVSBus and PMBus, thermal trips.
-/
namespace Sys2Proof.Machine

/-! ## Refusals (R505, Table 15-2) -/

def whyContext : Nat := 1
def whyAcq : Nat := 2
def whyCoach : Nat := 3
def whyLink : Nat := 4
def whyWrites : Nat := 5
def whyEnabled : Nat := 6

/-- Whether an enabled trigger unit, a raw stream or a slot names an input channel. -/
def State.convUsed (s : State) (n : Nat) : Bool :=
  (List.range 32).any (fun u => s.unitOf u 1 n)
  || (List.range 32).any (fun q => s.flag (R.SQ_STATUS_RUNNING q) && s.f (R.SQ_CFG_SRC q) == 1 && s.f (R.SQ_CFG_CHAN q) == n)
  || (List.range 64).any (fun a => s.slotPending a && s.f (R.ACQ_MODE_KIND a) != 1 && s.f (R.ACQ_MODE_INDEX a) == n)

/-- Whether a coach holds up the sleep of LINKP. -/
def State.coachUsed (s : State) (c : Nat) : Bool :=
  let st := s.ceState c
  (st != ceDisabled && st != ceStopped && st != ceHalted && s.f (R.CE_PTR_HEAD c) != s.f (R.CE_PTR_TAIL c)) || (s.coN c).readBack

/-- The refusal condition of Table 15-2 for one block: its reason and DETAIL. -/
def State.blkUse (s : State) (b : Nat) : Option (Nat × Nat) :=
  let enabled := fun (p : Bool) => if p then some (whyEnabled, b) else none
  if 0x02 ≤ b && b ≤ 0x09 then enabled (s.convUsed (b - 0x02))
  else if 0x0A ≤ b && b ≤ 0x0D then enabled (s.flag (R.DAC_STATUS_RUNNING (b - 0x0A)) || s.flag (R.DAC_STATUS_START_PEND (b - 0x0A)))
  else if b == 0x0E then enabled ((List.range 16).any (fun c => s.flag (R.TDC_CFG_EN c)))
  else if 0x10 ≤ b && b ≤ 0x1F then enabled (s.flag (R.FCH_CTRL_EN (b - 0x10)))
  else if 0x20 ≤ b && b ≤ 0x5F then
    (s.liveCtxs.find? (fun c => s.homeOf c == (b - 0x20) % 32)).map (fun c => (whyContext, c))
  else if b == 0x60 then enabled ((List.range 32).any (fun u => s.flag (tact (R.TRG_SRC_EN u))))
  else if b == 0x61 then ((List.range 64).find? (fun n => s.slotPending n)).map (fun n => (whyAcq, n))
  else if b == 0x62 then enabled (s.flag R.TP_CTRL_EN)
  else if b == 0x64 || b == 0x65 then if (s.mcN (b - 0x64)).wq.isEmpty then none else some (whyWrites, b)
  else if 0x67 ≤ b && b ≤ 0x6A then
    (((List.range 4).map (fun i => 4 * (b - 0x67) + i)).find? (fun k => s.flag (R.ETH_PORT_STATUS_UP k) || s.f (R.CL_LINK_STATUS_STATE k) != 0)).map
      (fun k => (whyLink, k))
  else if b == 0x6B then enabled (s.flag R.RS_CTRL_EN)
  else if 0x80 ≤ b && b ≤ 0xBF then if s.coachUsed (b - 0x80) then some (whyCoach, b - 0x80) else none
  else none

/-- Why a domain refuses; none when it agrees. A pending slot comes before the other conditions of TIMING. -/
def State.domRefuses (s : State) (d : Nat) : Option (Nat × Nat) :=
  if d == 20 then [0x61, 0x0E, 0x60, 0x62].findSome? s.blkUse else (domBlocks d).findSome? s.blkUse

/-- Whether a domain is in use: its refusal condition holds, or an enabled chain takes samples of its channels. -/
def State.domInUse (s : State) (d : Nat) : Bool :=
  (s.domRefuses d).isSome
  || (3 ≤ d && d ≤ 6 && (List.range 16).any (fun c => s.flag (R.FCH_CTRL_EN c) && s.f (act (R.FCH_SRC_SRC c)) / 2 == d - 3))

/-! ## Stopping, restarting and gating a domain (R506, R511, R514 to R516) -/

/-- The billets of a forge that stops are re-issued elsewhere (R27, R183). -/
def State.forgeStop (s : State) (f : Nat) : State :=
  let s1 := s.setDrain f 1
  let s2 := (List.range 32).foldl (fun (t : State) a => t.giveUp f a) s1
  (s2.drainForge f).setDrain f 0

/-- A fence block enters FENCED for its domain; a forge out of service stays OFFLINE, with a new epoch (R20, R30). -/
def State.stopBlk (s : State) (b : Nat) : State :=
  if s.blk b == .gated then s
  else if s.blk b == .offline then s.fenceEnter b .offline
  else
    let s1 := s.fenceEnter b .fenced
    if 0x20 ≤ b && b ≤ 0x3F then s1.forgeStop (b - 0x20)
    else if b == 0x60 then s1.trgReset
    else if b == 0x61 then s1.acqFence
    else if b == 0x63 then s.captureFence
    else if b == 0x64 || b == 0x65 then s1.memFence (b - 0x64)
    else s1

/-- A domain that agrees stops its clocks; its contents are kept. -/
def State.stopDomain (s : State) (d : Nat) : State := ((domBlocks d).foldl State.stopBlk s).setDom d dStopped

/-- A stopped domain restarts: its blocks leave FENCED with the epoch of the stop. -/
def State.restartDomain (s : State) (d : Nat) : State :=
  (domBlocks d).foldl (fun (t : State) b => if t.blk b == .fenced then t.fenceLeave b else t) (s.setDom d dOn)

/-- The pad groups of a domain (Table 15-3). -/
def padBits (d : Nat) : Nat :=
  if d == 7 then 0x1
  else if d == 20 then 0x6
  else if d == 19 then 0x8
  else if 15 ≤ d && d ≤ 18 then 2 ^ (d - 11)
  else if d == 2 then 0x100
  else 0

/-- The domain of a pad group. -/
def padDom (g : Nat) : Nat :=
  if g == 0 then 7 else if g ≤ 2 then 20 else if g == 3 then 19 else if g ≤ 7 then g + 11 else 2

/-- The SRAM and the internal state of a domain are lost when it gates; forge stores are kept (R506). -/
def State.loseDomain (s : State) (d : Nat) : State :=
  if d == 7 then { s with dac := [] }
  else if 8 ≤ d && d ≤ 11 then (List.range 4).foldl (fun (t : State) i => t.setFch (4 * (d - 8) + i) {}) s
  else if d == 19 then s.rasterClear
  else if d == 20 then
    let s1 : State := { s with mem := { s.mem with stage := [] }, acq := [] }
    [0x0E, 0x60, 0x62].foldl State.blockInit s1
  else if 32 ≤ d && d ≤ 63 then
    { s with fab := { s.fab with anv := tclear s.fab.anv (32 * (d - 32)) (32 * (d - 31)) } }
  else if 64 ≤ d then s.hearthClear (d - 64)
  else s

/-- A domain gates: its pads latch, its contents are lost, its blocks are GATED. CTRL is in retention instead (R517). -/
def State.gateDomain (s : State) (d : Nat) : State :=
  let s1 := s.setF R.PWR_PADHOLD_GROUPS (s.f R.PWR_PADHOLD_GROUPS ||| padBits d)
  ((s1.loseDomain d).moveBlks d .gated).setDom d (if d == 1 then dStopped else dGated)

/-- Whether a stopped domain may gate: no block of it has replies of an earlier epoch out (R26). -/
def State.settled (s : State) (d : Nat) : Bool := !(domBlocks d).any s.unsettled

/-- A stopped domain gates, or waits for its replies (R26). -/
def State.gateOrWait (s : State) (d : Nat) : State :=
  if s.settled d then s.gateDomain d else { s with pwr := { s.pwr with gateWait := s.pwr.gateWait ++ [d] } }

/-- The stopped domains whose replies are out gate. -/
def State.gateTick (s : State) : State :=
  let ds := s.pwr.gateWait
  ds.foldl State.gateOrWait { s with pwr := { s.pwr with gateWait := [] } }

/-! ## Pad release (R511) -/

/-- A write of PWR_PADREL: the groups whose domain is neither GATED nor WAKING are released at the next alignment tick. -/
def padRelWritten (v : Nat) (s : State) : State :=
  let off := fun (g : Nat) => s.domState (padDom g) == dGated || s.domState (padDom g) == dWaking
  let ok := (setBits 9 v).filter (fun g => !off g)
  { s with pwr := { s.pwr with padRel := s.pwr.padRel ||| (ok.foldl (fun m g => m + 2 ^ g) 0) } }

/-- The alignment tick: the releases take effect. -/
def State.padTick (s : State) : State :=
  if s.pwr.padRel == 0 then s
  else
    let g := s.f R.PWR_PADHOLD_GROUPS
    let s1 := s.setF R.PWR_PADHOLD_GROUPS (g - (g &&& s.pwr.padRel))
    ({ s1 with pwr := { s1.pwr with padRel := 0 } } : State).syncTpa

/-! ## Requests (R512 to R518) -/

/-- A refusal as RESULT and PWR_REFUSAL hold it. -/
def refusalWord (d reason detail : Nat) : Nat := d + 2 ^ 8 * reason + 2 ^ 16 * detail

/-- The domains of a sleep sequence, in the order of R514: those that are ON and that the target turns off, and LINKP
before MEM0. -/
def State.askOrder (s : State) (target : Nat) : List Nat :=
  let on := fun (d : Nat) => s.domState d == dOn
  if target ≤ 1 then [14]
  else (domOrder.filter (fun d => d < 12 || 13 < d)).filter on ++ [14] ++ [12, 13].filter on

/-- A request begins (R513, R514, R516 to R518). -/
def State.pwrBegin (s : State) (target : Nat) : State :=
  let st := s.f R.PWR_STATUS_STATE
  let s0 := (s.setB R.PWR_STATUS_BUSY true).setF R.PWR_STATUS_TARGET target
  let s1 := if 3 ≤ target then s0.setF R.PWR_STATUS_RESUME st else s0
  if st < target then
    if 2 ≤ st then { s1 with pwr := { s1.pwr with phase := .off } }
    else { s1 with pwr := { s1.pwr with phase := .ask, todo := s1.askOrder target, agreed := [], askAt := none } }
  else
    let s2 := s1.lastWake 2 0
    let todo := if target == 0 then domOrder.reverse else []
    { s2 with pwr := { s2.pwr with phase := .raise, todo := todo, hold := false, l1 := false } }

/-- The long commands of PWR_STATE in a phase: 1 in progress, 2 pending, 3 and 4 merged with them. -/
def State.pwrCmds (s : State) (p q : Nat) : List LongCmd :=
  s.host.longs.filter (fun c => c.entry.opcode == 0x80 && (c.phase == p || c.phase == q))

/-- The pending request starts, or completes OK when its target has just been reached (R513). Below P2 it waits for a
wake. -/
def State.pwrNext (s : State) : State :=
  if !s.flag R.PWR_STATUS_PEND || 3 ≤ s.f R.PWR_STATUS_STATE then s
  else
    let target := s.f R.PWR_STATUS_PEND_TGT
    let mine := s.pwrCmds 2 4
    let s1 := (s.setB R.PWR_STATUS_PEND false).setF R.PWR_STATUS_PEND_TGT 0
    if target == s1.f R.PWR_STATUS_STATE then mine.foldl (fun (t : State) c => t.finishLong c stOk 0) s1
    else
      let s2 := mine.foldl (fun (t : State) c => t.putLong { c with phase := c.phase - 1 }) s1
      s2.pwrBegin target

/-- The request in progress completes, and those merged with it. -/
def State.pwrDone (s : State) (status result : Nat) : State :=
  let s1 := (s.pwrCmds 1 3).foldl (fun (t : State) c => t.finishLong c status result) s
  let s2 : State := { s1 with pwr := { s1.pwr with phase := .idle, todo := [], agreed := [], askAt := none } }
  (s2.setB R.PWR_STATUS_BUSY false).setF R.PWR_STATUS_TARGET 0

/-- PWR_STATE at its start (R512, R513). -/
def pwrStateStart (target : Nat) (s : State) : CmdRes :=
  let busy := s.flag R.PWR_STATUS_BUSY
  let pend := s.flag R.PWR_STATUS_PEND
  if 4 < target then resDone s stBadParam
  else if !busy then
    if target == s.f R.PWR_STATUS_STATE then resDone s stOk else { st := s.pwrBegin target, kind := 2, phase := 1 }
  else if pend && s.f R.PWR_STATUS_PEND_TGT == target then { st := s, kind := 2, phase := 4 }
  else if !pend && s.f R.PWR_STATUS_TARGET == target then { st := s, kind := 2, phase := 3 }
  else
    let s1 := (s.pwrCmds 2 4).foldl (fun (t : State) c => t.finishLong c stSuperseded 0) s
    { st := (s1.setB R.PWR_STATUS_PEND true).setF R.PWR_STATUS_PEND_TGT target, kind := 2, phase := 2 }

def execPwrState (k : Fin 16) (f : Fetch) (s : State) : Out :=
  .next (s.startCmd k f 0x80 true false [0x7] (pwrStateStart (f.entry.param 0 % 8)))

/-- A domain refuses: the sequence is undone from the last agreement back (R515). -/
def State.pwrRefused (s : State) (d reason detail : Nat) : State :=
  let s1 := s.setF R.PWR_REFUSAL (refusalWord d reason detail)
  { s1 with pwr := { s1.pwr with phase := .undo, todo := s1.pwr.agreed, agreed := [], askAt := none } }

/-- A domain agrees. -/
def State.pwrAgreed (s : State) (d : Nat) : State :=
  let s1 := if d == 14 then { s with pwr := { s.pwr with hold := true } } else s.stopDomain d
  { s1 with pwr := { s1.pwr with todo := s1.pwr.todo.drop 1, agreed := d :: s1.pwr.agreed, askAt := none } }

/-- The controller asks a domain; a memory domain answers once its write queue is empty, at most 4 µs after the ask. -/
def State.pwrAsk (s : State) (d : Nat) : State :=
  match s.domRefuses d with
  | none => s.pwrAgreed d
  | some (reason, detail) =>
    if reason != whyWrites then s.pwrRefused d reason detail
    else
      match s.pwr.askAt with
      | none => { s with pwr := { s.pwr with askAt := some s.clk.elapsed } }
      | some t => if t + 4000 * nsUnit ≤ s.clk.elapsed then s.pwrRefused d reason detail else s

/-- Whether every domain that has agreed may gate. -/
def State.allSettled (s : State) : Bool := (s.pwr.agreed.filter (fun d => d != 14)).all s.settled

/-- Every domain has agreed: the stopped domains gate in order, the stacks are in self-refresh, LINKP goes to L1 (R516).
P1 turns no domain off, so its coaches are released. -/
def State.pwrGate (s : State) : State :=
  let target := s.f R.PWR_STATUS_TARGET
  let s1 := (s.pwr.agreed.reverse.filter (fun d => d != 14)).foldl State.gateDomain s
  if target ≤ 1 then
    (({ s1 with pwr := { s1.pwr with hold := false } } : State).setF R.PWR_STATUS_STATE 1).pwrDone stOk 0
  else
    let s2 := ({ s1 with pwr := { s1.pwr with l1 := true } } : State).setF R.PWR_STATUS_STATE 2
    if 3 ≤ target then { s2 with pwr := { s2.pwr with phase := .off } }
    else
      let s3 := s2.pwrDone stOk 0
      match s3.pwr.toP1 with
      | none => s3
      | some d =>
        let s4 := (s3.lastWake 3 d).setF R.PWR_STATUS_STATE 1
        { s4 with pwr := { s4.pwr with toP1 := none, hold := false, l1 := false } }

/-- A domain powers down without an ask. -/
def State.dropDomain (s : State) (d : Nat) : State :=
  let enter := fun (t : State) (b : Nat) =>
    if t.blk b == .gated then t else t.fenceEnter b (if t.blk b == .offline then .offline else .fenced)
  (((domBlocks d).foldl enter s).setDom d dStopped).gateOrWait d

/-- CLK stops: the dividers stop, PTIME runs on the crystal counter, the tracker coasts (R39, R517). -/
def State.stopClk (s : State) : State :=
  let s1 := s.setLocked false
  let s2 : State := { s1 with clk := { s1.clk with released := false, releaseDue := false, relock := .idle } }
  s2.enterCoast.dropDomain 2

/-- LINKP gates: its coaches end and the link goes down. -/
def State.gateLinkp (s : State) : State :=
  (((List.range 64).foldl State.cePcieReset s).setWord R.HI_LINK.off 0).dropDomain 14

/-- The stores of every forge, lost in P3 (R506). -/
def State.loseStores (s : State) : State := { s with fab := { s.fab with ks := [], cs := [], dt := [] } }

/-- An AVSBus write of VDD_CORE (R521). -/
def State.avsSet (s : State) (mv : Nat) : State :=
  ({ s with pwr := { s.pwr with avs := some (mv, s.pwr.vcore), vcore := mv } } : State).emit (.avsWrite mv)

/-- The rails with OFF set are switched off in ascending order (R517). -/
def State.railsOff (s : State) : State :=
  ((List.range 8).filter (fun r => s.flag (R.PWR_RAIL_CFG_OFF r))).foldl (fun (t : State) r =>
    t.emit (.pmbusOff r (t.f (R.PWR_RAIL_CFG_ADDR r)) (t.f (R.PWR_RAIL_CFG_PAGE r)))) s

/-- P2 has been reached on the way to P3 or P4 (R517): CLK stops, the request completes, LINKP gates, CTRL is retained and
VDD_CORE falls; capture memory and the forge stores are lost. P4 switches rails off. -/
def State.pwrOff (s : State) : State :=
  let target := s.f R.PWR_STATUS_TARGET
  let s1 := (s.stopClk.setF R.PWR_STATUS_STATE target).pwrDone stOk 0
  let s2 := s1.gateLinkp.dropDomain 1
  let s3 := (s2.clearCapture.loseStores).setB R.MC_STATUS_INIT true
  let s4 := s3.avsSet (s3.f R.PWR_VCORE_RET_MV)
  if target == 4 then
    let s5 := s4.railsOff
    { s5 with pwr := { s5.pwr with dark := true } }
  else s4

/-- One step of the request in progress (R514 to R518). -/
def pwrStep (c : LongCmd) (s0 : State) : State :=
  if c.phase != 1 then s0
  else
    let c1 := { c with steps := c.steps + 1 }
    let s := (s0.putLong c1).partialEntry c1
    match s.pwr.phase, s.pwr.todo with
    | .ask, [] => { s with pwr := { s.pwr with phase := .gate } }
    | .ask, d :: _ => s.pwrAsk d
    | .undo, [] => (({ s with pwr := { s.pwr with toP1 := none } } : State).pwrDone stRefusedPower (s.f R.PWR_REFUSAL)).pwrNext
    | .undo, d :: rest =>
      let s1 := if d == 14 then { s with pwr := { s.pwr with hold := false } } else s.restartDomain d
      { s1 with pwr := { s1.pwr with todo := rest } }
    | .gate, _ => if s.allSettled then s.pwrGate.pwrNext else s
    | .off, _ => s.pwrOff
    | .raise, d :: rest =>
      let s1 := s.startDomain d
      { s1 with pwr := { s1.pwr with todo := rest } }
    | .raise, [] =>
      let target := s.f R.PWR_STATUS_TARGET
      if target == 0 && domOrder.any (fun d => s.domState d != dOn) then s
      else ((s.setF R.PWR_STATUS_STATE target).pwrDone stOk 0).pwrNext
    | _, _ => s

/-! ## Single domains (R509, R519) -/

/-- An ask outside a sequence ends with a refusal, or the domain stops and gates. -/
def State.domGate (s : State) (d : Nat) : State := (s.stopDomain d).gateOrWait d

/-- The refusal of a PWR_DOMCTRL. -/
def State.domRefused (s : State) (d reason detail : Nat) : State :=
  (s.setF R.PWR_REFUSAL (refusalWord d reason detail)).setF R.PWR_STATUS_DRESULT stRefusedPower

/-- A write of PWR_DOMCTRL (R519): gates or wakes one domain in P0. -/
def domCtrlWritten (v : Nat) (s : State) : State :=
  let d := bitsOf v 0 7
  if s.f R.PWR_STATUS_STATE != 0 || s.flag R.PWR_STATUS_BUSY || s.pwr.domAsk.isSome then s.setF R.PWR_STATUS_DRESULT stRefusedBusy
  else if !domOrder.contains d then s.setF R.PWR_STATUS_DRESULT stBadParam
  else if !bitOf v 8 then (s.startDomain d).setF R.PWR_STATUS_DRESULT stOk
  else if s.domState d != dOn then s.setF R.PWR_STATUS_DRESULT stOk
  else
    match s.domRefuses d with
    | none => (s.domGate d).setF R.PWR_STATUS_DRESULT stOk
    | some (reason, detail) =>
      if reason == whyWrites then { s with pwr := { s.pwr with domAsk := some (d, s.clk.elapsed) } }
      else s.domRefused d reason detail

/-- A memory domain that PWR_DOMCTRL asked answers, at most 4 µs after the ask. -/
def State.domAskTick (s : State) : State :=
  match s.pwr.domAsk with
  | none => s
  | some (d, t) =>
    let s1 : State := { s with pwr := { s.pwr with domAsk := none } }
    match s.domRefuses d with
    | none => (s1.domGate d).setF R.PWR_STATUS_DRESULT stOk
    | some (reason, detail) => if t + 4000 * nsUnit ≤ s.clk.elapsed then s1.domRefused d reason detail else s

/-- Bit of PWR_P1_MASKn for a domain. -/
def p1Fld (d : Nat) : Fld := { off := 0x780064 + 4 * (d / 32), lo := d % 32, wd := 1 }

/-- The idle time of a domain has run in P1 (R509). -/
def p1IdleGate (d : Nat) (s : State) : State :=
  let idle := tget (fun _ => 0) s.pwr.lastUse d + s.f R.PWR_IDLE_US * 1000 * nsUnit
  if s.f R.PWR_STATUS_STATE == 1 && s.pwr.phase == .idle && domOrder.contains d && s.flag (p1Fld d) && s.domState d == dOn
    && !s.domInUse d && decide (idle ≤ s.clk.elapsed)
  then s.domGate d else s

def execP1IdleGate (d : Fin 96) (s : State) : Out := .next (p1IdleGate d s)

/-- The control cycle of the power controller: pad releases, pending asks; in P0 and P1 a domain in use wakes, and does not
idle. -/
def State.pwrTick (s : State) : State :=
  let s0 := if s.atTick then s.padTick else s
  let s1 := s0.domAskTick.gateTick
  domOrder.foldl (fun (t : State) d =>
    if t.f R.PWR_STATUS_STATE ≤ 1 && t.domInUse d then t.wakeDomain d else t) s1

/-! ## P3 wake sources (R520) -/

/-- A wake source acts in P3: VDD_CORE rises to RUN_MV; CTRL and CLK follow with DOMAIN_READY. -/
def State.p3Wake (s : State) (code detail : Nat) : State :=
  if s.f R.PWR_STATUS_STATE != 3 || s.pwr.waking || s.pwr.dark || !bitOf (s.f R.PWR_WAKE_EN_SRC) code then s
  else
    let s1 := (s.lastWake code detail).avsSet (s.f R.PWR_VCORE_RUN_MV)
    { s1 with pwr := { s1.pwr with waking := true } }

/-- PTIME reaches PWR_WAKE_AT. -/
def wakeAt (s : State) : State := if s.ptimeAt (R.PWR_WAKE_AT 0).off ≤ s.now then s.p3Wake 6 0 else s

def execWakeAt (s : State) : Out := .next (wakeAt s)

/-- PERST_N takes a level (R417): low fences the endpoint; de-asserted it is a wake source in P3. -/
def perstN (low : Bool) (s : State) : State :=
  if low then (if s.isRunning 0x66 then s.pcieFence else s) else s.p3Wake 4 0

def execPerstN (low : Bool) (s : State) : Out := .next (perstN low s)

/-! ## Regulators (R521 to R523) -/

/-- Three repeats of an AVSBus write have brought no good response: VDD_CORE keeps its voltage; a raise is repeated. -/
def avsTimeout (s : State) : State :=
  match s.pwr.avs with
  | none => s
  | some (mv, before) =>
    let s1 := ((s.setB R.PWR_STATUS_AVS_FAULT true).incSat R.PWR_AVS_STAT_FAULTS).addSat R.PWR_AVS_STAT_RETRIES 3
    let s2 := s1.errLog 0x06 3 0x00 0 [mv]
    if mv < before then { s2 with pwr := { s2.pwr with avs := none, vcore := before } }
    else (({ s2 with pwr := { s2.pwr with vcore := before } } : State).emit (.avsWrite mv))

def execAvsTimeout (s : State) : Out := .next (avsTimeout s)

/-- A rail reports a fault, or fails to acknowledge. -/
def State.pmFault (s : State) (r status : Nat) : State :=
  ((s.setB R.PWR_STATUS_PM_FAULT true).errLog 0x07 2 0x00 0 [r, status]).raiseBlk 0x00 (s.f R.PWR_CTRL_VEC)

/-- One rail of a poll. -/
def State.pollRail (s : State) (r : Nat) (x : Option (BitVec 16 × BitVec 16 × BitVec 16)) : State :=
  if !s.flag (R.PWR_RAIL_CFG_EN r) then s
  else
    match x with
    | none => s.pmFault r (s.f (R.PWR_RAIL_STAT_STATUS_WORD r))
    | some (vout, iout, status) =>
      let s1 := (s.setF (R.PWR_RAIL_VAL_VOUT r) vout.toNat).setF (R.PWR_RAIL_VAL_IOUT r) iout.toNat
      let s2 := s1.setF (R.PWR_RAIL_STAT_STATUS_WORD r) status.toNat
      if status == 0 then s2 else s2.pmFault r status.toNat

/-- A PMBus poll (R523). -/
def pmbusPoll (rails : List (Option (BitVec 16 × BitVec 16 × BitVec 16))) (s : State) : State :=
  if s.f R.PWR_POLL_MS == 0 || s.pwr.dark then s
  else (rails.take 8).zipIdx.foldl (fun (t : State) p => t.pollRail p.2 p.1) s

def execPmbusPoll (rails : List (Option (BitVec 16 × BitVec 16 × BitVec 16))) (s : State) : Out := .next (pmbusPoll rails s)

/-- PM_ALERT_N is low: the status of the rail that answers the alert response address (R523). -/
def pmAlert (rail : Option (Fin 8 × BitVec 16)) (s : State) : State :=
  match rail with
  | none => s
  | some (r, status) =>
    let s1 := s.setF (R.PWR_RAIL_STAT_STATUS_WORD r) status.toNat
    if status == 0 then s1 else s1.pmFault r status.toNat

def execPmAlert (rail : Option (Fin 8 × BitVec 16)) (s : State) : Out := .next (pmAlert rail s)

/-! ## Loss of power (R533, R583) -/

/-- A domain loses its supply: the answers of its blocks are lost with it. -/
def State.lostDomain (s : State) (d : Nat) : State :=
  let enter := fun (t : State) (b : Nat) =>
    if t.blk b == .gated then t else t.fenceEnter b (if t.blk b == .offline then .offline else .fenced)
  let s1 := (domBlocks d).foldl enter s
  (({ s1 with fence := { s1.fence with replies := [] } } : State).gateDomain d).setDom d dGated

/-- Every domain except AON goes off without a sequence, until PORST_N. -/
def State.allOff (s : State) : State :=
  let s0 : State := { s with fence := { s.fence with replies := [] } }
  let s1 := ([2, 14, 1] ++ domOrder).foldl State.lostDomain s0
  let s2 := s1.loseStores.clearCapture
  { s2 with clk := { s2.clk with released := false, releaseDue := false, relock := .idle }, pwr := { s2.pwr with dark := true, phase := .idle, gateWait := [] } }

/-- A comparator trips at 115 °C (R533): THERMTRIP_N goes low, and PWR_TRIP records the sensor of the first trip. -/
def thermtrip (sensor : Nat) (s : State) : State :=
  let s1 := if s.flag R.PWR_TRIP_TRIPPED then s else (s.setB R.PWR_TRIP_TRIPPED true).setF R.PWR_TRIP_SENSOR sensor
  ({ s1 with pwr := { s1.pwr with thermtrip := true } } : State).allOff

def execThermtrip (sensor : Fin 12) (s : State) : Out := .next (thermtrip sensor s)

/-- VDD_AON falls below 0.70 V (R583): the always-on domain loses its state, PWR_TRIP among it. -/
def vddAonLoss (s : State) : State :=
  let s1 := (s.allOff.resetRegs 0x780000 0x790000).setWord R.ID_RESET_CAUSE.off 1
  { s1 with clk := {}, pwr := { s1.pwr with lastUse := [], padRel := 0, avs := none, vcore := 750, waking := false } }

def execVddAonLoss (s : State) : Out := .next (vddAonLoss s)

end Sys2Proof.Machine
end

