-- ==== Sys2Proof/Machine/Boot.lean ====
section
/-!
DEFINITION. Resets and the boot (spec/17_bring_up_and_faults.md, R560 to R570): PORST_N, warm resets, the watchdog and the stages of
Table 17-3 with what each does when it fails.
-/
namespace Sys2Proof.Machine

/-! ## What survives a reset (Table 17-1) -/

/-- Registers held in fuses and flash: the burnt fuses of the security engine and the versions of the slots. -/
def burntWord (off : Nat) : Bool := off == 0x7C0000 || (0x7C0010 ≤ off && off < 0x7C0020) || (0x7E0010 ≤ off && off < 0x7E0020)

/-- What every reset leaves: fuses and flash, the commands that wait and what the device has sent. -/
def State.coldState (s : State) (keep : Nat → Bool) : State :=
  let t : State := { regs := s.regs.filter (fun p => burntWord p.1 || keep p.1), out := s.out, freeCtr := s.freeCtr, pending := s.pending }
  ({ t with cfg := { t.cfg with slots := s.cfg.slots } } : State).setF R.SEC_STATUS_BOOT_SLOT 0

/-- A controller's LFSR is seeded from the random source; a seed of zero is replaced by 1 (R399). -/
def State.seedMc (s : State) (m : Nat) : State :=
  let v := Config.randomSeed s.fresh % 2 ^ 32
  (s.setMc m { lfsr := if v == 0 then 1 else v }).next

/-- PORST_N: everything returns to its reset value but PWR_TRIP; bit 3 of ID_RESET_CAUSE tells of a thermal trip (R30,
R533, R560). -/
def porst (s : State) : State :=
  let t := ((s.coldState (fun o => o == 0x78007C)).seedMc 0).seedMc 1
  t.setF R.ID_RESET_CAUSE_CAUSE (if s.flag R.PWR_TRIP_TRIPPED then 9 else 1)

def execPorstN (s : State) : Out := .next (porst s)

/-- Registers that survive a warm reset: epochs, the error log, the power controller's. -/
def warmWord (off : Nat) : Bool :=
  (0x100 ≤ off && off < 0x1E0) || off == 0x264 || off == 0x268 || (0x1000 ≤ off && off < 0x5000) || (0x780000 ≤ off && off < 0x790000)

/-- What the always-on domain holds for an input channel that is DEGRADED (R77); the sample index restarts with the dividers, and
every sample from there on follows the take-over. -/
def State.keepDegraded (old t : State) (n : Nat) : State :=
  if !old.flag (R.ADC_STATUS_DEGRADED n) then t
  else
    let t1 := ((t.setB (R.ADC_STATUS_DEGRADED n) true).setF (R.ADC_STATUS_RETIRED n) (old.f (R.ADC_STATUS_RETIRED n))).setF
      (R.ADC_STATUS_SPARE_SLOT n) (old.f (R.ADC_STATUS_SPARE_SLOT n))
    let t2 := (List.range 33).foldl (fun (u : State) k => u.setF (R.ADC_TRIM_RET n k) (old.f (R.ADC_TRIM_RET n k))) t1
    t2.setAdc n { slots := (old.adcN n).slots, degradedAt := (old.adcN n).degradedAt.map (fun _ => 0) }

/-- Every domain except AON is on again, in P0 (R564). -/
def State.powerOn (s : State) : State :=
  let s1 := (s.resetRegs 0x780040 0x780058).setF R.PWR_STATUS_STATE 0
  let s2 := ((s1.setB R.PWR_STATUS_BUSY false).setF R.PWR_STATUS_TARGET 0).setB R.PWR_STATUS_PEND false
  (s2.setF R.PWR_STATUS_PEND_TGT 0).setF R.PWR_STATUS_RESUME 0

/-- What a warm reset of a device `d` leaves to the cold state `t`: PTIME, the capture memory in self-refresh, the limits of
the error log, the count of decisions since PORST_N (R326), VDD_CORE (Table 17-1, R561). -/
def State.warmKeep (d t : State) : State :=
  let mc := tset (fun _ => {}) (tset (fun _ => {}) [] 0 { (d.mcN 0) with drainFirst := false }) 1 { (d.mcN 1) with drainFirst := false }
  { t with clk := { ptime := d.clk.ptime, elapsed := d.clk.elapsed, steps := d.clk.steps }, mem := { bytes := d.mem.bytes.filter (fun p => decide (p.1 < 2 ^ 40)), tag := d.mem.tag, mc := mc }, sec := { errMs := d.sec.errMs }, tp := { decisions := d.tp.decisions }, boot := { warm := true }, pwr := { vcore := d.pwr.vcore } }

/-- Every block enters FENCED for a reset of the whole device: what it had accepted, and what was held for it, is answered
TARGET_RESET (R20, R21). -/
def State.fenceAll (s : State) : State :=
  let t := ((List.range 256).filter isBlock).foldl (fun (u : State) b => u.fenceEnter b .fenced) s
  { t with fence := { t.fence with
      held := [], heldAcc := [], breset := none
      replies := t.fence.replies ++ s.fence.held.map (fun r => (({ r with epoch := s.epoch r.block } : BlkReq), stTargetReset)) } }

/-- Every block is ready to leave FENCED again: it runs once its replies are out (R26). -/
def State.leaveAll (s : State) : State := ((List.range 256).filter isBlock).foldl State.fenceLeave s

/-- The machine checks of the forges count since PORST_N (FRGf_MC_STATUS.COUNT). -/
def State.keepCounts (old t : State) : State :=
  (List.range 32).foldl (fun (u : State) f => u.setF (R.FRG_MC_STATUS_COUNT f) (old.f (R.FRG_MC_STATUS_COUNT f))) t

/-- A warm reset (R561, R562, R564): every block enters FENCED, the write queues drain, the stacks keep their contents in
self-refresh, the index at which capture stopped is recorded, PTIME and the error log go on; the boot starts at the ROM stage. -/
def State.warmReset (s : State) (cause : Nat) : State :=
  let d := ((s.mcFence 0).mcFence 1).fenceAll
  let t := d.coldState warmWord
  let t1 := { d.warmKeep t with fence := d.fence }
  let t2 := (t1.powerOn.setB R.MC_STATUS_INIT (d.flag R.MC_STATUS_INIT)).setB R.CLK_STATUS_LOCKA_NET (d.flag R.CLK_STATUS_LOCKA_NET)
  let t3 := ((List.range 8).foldl (fun (u : State) n => d.keepDegraded u n) t2).setF R.ID_WARM_INDEX d.clk.sampleIdx
  (((d.keepCounts t3).leaveAll.setF R.ID_RESET_CAUSE_CAUSE cause).setF R.ID_BOOT_STAGE 2).avsSet (t3.f R.PWR_VCORE_RUN_MV)

/-- WARM_N low for `ns` nanoseconds; pulses shorter than 100 ns are ignored (R560). -/
def warmN (ns : Nat) (s : State) : State := if ns < 100 || s.pwr.dark then s else s.warmReset 2

def execWarmN (ns : Nat) (s : State) : Out := .next (warmN ns s)

/-- The watchdog expires 100 ms after its last restart once the boot is READY (R563); the boot logs it. -/
def watchdogExpiry (s : State) : State :=
  if s.f R.ID_BOOT_STAGE != 7 || s.pwr.dark || 3 ≤ s.f R.PWR_STATUS_STATE || decide (s.clk.elapsed < s.boot.kick + 100000000 * nsUnit) then s
  else
    let pt := pt128 s.boot.kickPt
    (s.warmReset 4).errLog 0x0E 3 0x00 0 ((List.range 4).map (fun i => bitsOf pt (32 * i) 32))

def execWatchdogExpiry (s : State) : Out := .next (watchdogExpiry s)

/-- A write of ID_WDOG restarts the watchdog. -/
def wdogWritten (s : State) : State := { s with boot := { s.boot with kick := s.clk.elapsed, kickPt := s.now } }

/-! ## Stages (R565, Table 17-3) -/

/-- A stage fails with a code: a BOOT entry with the stage, the copy and the flash offset, and ID_BOOT.CAUSE. -/
def State.bootFail (s : State) (stage copy off code : Nat) : State :=
  (s.errLog 0x01 2 0x00 code [stage, copy, off]).setF R.ID_BOOT_CAUSE code

/-- Stage 3 begins: the root PLL starts on its settings and its band; with LOCKA_NET set the boot stops at once (R599). A resume
from P3 keeps the settings and the band that were in use (R36). Where no band meets R35 the stage sets NOBAND, leaves BAND_ACT and
goes on. -/
def State.clockStage (s : State) : State :=
  let s0 := s.setF R.ID_BOOT_STAGE 3
  if s0.flag R.CLK_STATUS_LOCKA_NET then
    let s1 := s0.bootFail 3 (s0.f R.ID_BOOT_COPY) 0 stTimeout
    { s1 with boot := { s1.boot with halted := true } }
  else
    let s1 : State := { s0 with clk := { s0.clk with relock := .idle, relockAt := s0.clk.elapsed, released := false, releaseDue := false } }
    if s1.boot.resume then s1
    else
      match s1.bandFor (ratioOf s1.clk.nint s1.clk.nfrac) with
      | some b => s1.setF R.CLK_STATUS_BAND_ACT b
      | none => s1.setB R.CLK_STATUS_NOBAND true

/-- Verified firmware is taken (R566): its measurement, its key slot and what later stages need of it. -/
def State.takeFirmware (s : State) (im : List (BitVec 8)) (copy : Nat) : State :=
  let c := envContent im
  let s1 := ((s.setF R.ID_BOOT_COPY copy).setF R.SEC_STATUS_BOOT_SLOT (envSlot im)).setWordsAt (R.SEC_MEAS_FW 0).off 16 (leNat (envMeas im))
  let s2 : State := { s1 with boot := { s1.boot with svn := envSvn im, burn := envBurn im, fwId := contentId c, fwVersion := contentVersion c } }
  s2.clockStage

/-- The verification of a firmware image (Table 16-3; its content opens as Table 6-8 with KIND 3). -/
def State.verifyFw (s : State) (im : List (BitVec 8)) (len : Nat) : Nat :=
  let r := s.verify im len
  if r != stOk then r else if envKind im != 3 || !contentHead (envContent im) 3 then stBadParam else stOk

/-- Stage 1 ends: the crystal and the LOCKA network (R599). -/
def State.stageAon (s : State) (d : BootData) : State :=
  if s.boot.halted then s
  else if !d.crystalOk then
    let s1 := (s.bootFail 1 0 0 ((Config.freeWord s.fresh).toNat % 256)).next
    { s1 with boot := { s1.boot with halted := true } }
  else
    let net := 150 ≤ d.locka02 && d.locka02 ≤ 450 && 900 ≤ d.locka15 && d.locka15 ≤ 1320
    let s1 := (s.setB R.CLK_STATUS_LOCKA_NET (!net)).avsSet (s.f R.PWR_VCORE_RUN_MV)
    s1.setF R.ID_BOOT_STAGE (if s.flag R.ID_BOOT_MODE then 8 else 2)

/-- Stage 2 ends: copy A, then copy B; HOST_WAIT when both fail (R566, R567). -/
def State.stageRom (s : State) (d : BootData) : State :=
  if s.flag R.ID_BOOT_MODE then s.setF R.ID_BOOT_STAGE 8
  else
    let a := (d.images[0]?).getD []
    let b := (d.images[1]?).getD []
    let ra := s.verifyFw a (4 * 1024 * 1024)
    if ra == stOk then s.takeFirmware a 0
    else
      let s1 := s.bootFail 2 0 0x00100000 ra
      let rb := s1.verifyFw b (4 * 1024 * 1024)
      if rb == stOk then s1.takeFirmware b 1
      else (s1.bootFail 2 1 0x00500000 rb).setF R.ID_BOOT_STAGE 8

/-- A forge is loaded from the golden copy and the master copy within the boot. -/
def State.bootForge (s : State) (f : Nat) : State :=
  let s1 := (List.range 24832).foldl (fun (t : State) i => t.reloadWord f i) s
  let s2 := (s1.dropTags f).masterDir f
  if s2.blk (0x20 + f) == .offline then s2.fenceLeave (0x20 + f) else s2

/-- Every forge leaves service for its load (R20, R225). -/
def State.forgesLeave (s : State) : State :=
  (List.range 32).foldl (fun (t : State) f => if t.isRunning (0x20 + f) then t.fenceEnter (0x20 + f) .offline else t) s

/-- Every forge is loaded, when the copies have their measurements (R225); else they stay OFFLINE with RELOAD_FAIL. -/
def State.loadForges (s : State) : State :=
  if s.copiesOk then (List.range 32).foldl State.bootForge s
  else (List.range 32).foldl (fun (t : State) f => t.setB (R.FRG_MC_STATUS_RELOAD_FAIL f) true) s

/-- Stage 4 ends: microcode, or on a wake the golden copy (R569). Forges without it stay OFFLINE. -/
def State.stageUcode (s : State) (d : BootData) : State :=
  let im := (d.images[0]?).getD []
  let s0 := s.forgesLeave
  if s.boot.resume then (if s.fab.golden.isEmpty then s0 else s0.loadForges)
  else if im.isEmpty then s0.setF R.ID_BOOT_STAGE 5
  else
    let r := s.verify im (1024 * 1024)
    let code := if r != stOk then r else if envKind im != 2 || !ucodeOk (envContent im) then stBadParam else stOk
    if code != stOk then
      let s1 := (List.range 32).foldl (fun (t : State) f => t.setB (R.FRG_MC_STATUS_RELOAD_FAIL f) true) s0
      (s1.bootFail 4 0 0x00900000 code).setF R.ID_BOOT_STAGE 5
    else
      let meas := envMeas im
      let s1 : State := { s0 with fab := { s0.fab with golden := envContent im, goldenMeas := meas, goldenSum := shake256 (envContent im), ucode := contentVersion (envContent im) } }
      ((s1.setWordsAt (R.SEC_MEAS_UC 0).off 16 (leNat meas)).loadForges).setF R.ID_BOOT_STAGE 5

/-- Stage 5 ends: the identity certificate against its fused hash (R551). -/
def State.stageCert (s : State) (d : BootData) : State :=
  let cert := (d.images[0]?).getD []
  let s0 := s.setF R.ID_BOOT_STAGE 6
  if shake256 cert == Config.certHash then { s0 with sec := { s0.sec with certOk := true, cert := cert } }
  else s0.bootFail 5 0 0x00A00000 stSigInvalid

/-- One kernel of the bundle: verified and loaded into every forge and the master copy, or skipped. -/
def State.bundleKernel (s : State) (i : Nat) (im : List (BitVec 8)) : State :=
  let con := envContent im
  let words := leAt con 0x14 2
  let base := Config.bundleBase i % (16384 - words + 1)
  let r := s.verify im im.length
  let code :=
    if r != stOk then r
    else if envKind im != 1 || !kernelOk con then stBadParam
    else if (List.range 32).any (fun f => (s.dirSlot f base words).isNone) then stRefusedCapacity
    else stOk
  if code != stOk then s.bootFail 6 0 0x00B00000 code
  else
    let code := kernelCode con
    ((List.range 32).foldl (fun (t : State) f => t.kernelWrite f base code) s).masterWrite (kernelImage con base (envMeas im)) code

/-- READY (Table 17-3, stage 7): the watchdog runs, the anti-rollback counter rises (R548), a wake restores its state
(R520), and the configuration boot follows (R559). -/
def State.bootReady (s : State) : State :=
  let s1 : State := (({ s with boot := { s.boot with kick := s.clk.elapsed } } : State)).setF R.ID_BOOT_STAGE 7
  let s2 := if s1.boot.burn && s1.f R.SEC_STATUS_SVN < s1.boot.svn then s1.setF R.SEC_STATUS_SVN (min 64 s1.boot.svn) else s1
  let s3 := if s2.boot.resume then
      ((({ s2 with boot := { s2.boot with resume := false } } : State).setF R.PWR_STATUS_STATE (s2.f R.PWR_STATUS_RESUME)).pwrNext)
    else s2
  s3.cfgBoot

/-- Stage 6 ends: the kernels of the bundle, at most 64. -/
def State.stageKernels (s : State) (d : BootData) : State :=
  ((d.images.take 64).zipIdx.foldl (fun (t : State) p => t.bundleKernel p.2 p.1) s).bootReady

/-- The present boot stage ends. Stage 3 ends with CLOCK_STAGE_QUALIFIED, HOST_WAIT with HOST_BOOT_GO. -/
def bootStage (d : BootData) (s : State) : State :=
  let st := s.f R.ID_BOOT_STAGE
  if s.pwr.dark then s
  else if st == 1 then s.stageAon d
  else if st == 2 then s.stageRom d
  else if st == 4 then (if s.boot.resume then (s.stageUcode d).bootReady else s.stageUcode d)
  else if st == 5 then s.stageCert d
  else if st == 6 then s.stageKernels d
  else s

def execBootStage (d : BootData) (s : State) : Out := .next (bootStage d s)

/-- The clock stage ends (R44): when LOCKED has read 1 for 5 ms within 100 ms, the dividers release at the next alignment tick,
memory initialisation goes on, the first passes and the calibrations of the housekeeping begin (R85, R570), and the tracker
starts; else the boot stops after 100 ms. -/
def clockStageQualified (s : State) : State :=
  if s.f R.ID_BOOT_STAGE != 3 || s.boot.halted || s.pwr.dark then s
  else if s.lockInTime then
    if !s.lockQualified then s
    else
      let s1 := s.relockDone
      let s2 := if s1.boot.warm || s1.boot.resume then s1.enterCoast else s1.enterAcquire
      let s3 := ((List.range 8).filter (fun n => s2.isRunning (2 + n))).foldl (fun (t : State) n => t.firstPassStart n) s2
      (hkCalRequest 1 (hkCalRequest 0 s3)).setF R.ID_BOOT_STAGE 4
  else if s.clk.relockAt + 100000000 * nsUnit ≤ s.clk.elapsed then
    let s1 := s.bootFail 3 (s.f R.ID_BOOT_COPY) 0 stTimeout
    { s1 with boot := { s1.boot with halted := true } }
  else s

def execClockStageQualified (s : State) : Out := .next (clockStageQualified s)

/-- A write of ID_BOOT_CTRL with GO and the image that the ROM reads over PCIe (R567). -/
def hostGo (image : HostRead) (s : State) : State :=
  let s0 := s.setB R.ID_BOOT_CTRL_GO false
  if s.f R.ID_BOOT_STAGE != 8 || !s.flag R.ID_BOOT_CTRL_GO then s0
  else
    match image with
    | none => s0.bootFail 8 1 0 stHostNoresp
    | some bs =>
      let len := s.f R.ID_BOOT_LEN_LEN
      let im := bs.take len
      let r := if 4 * 1024 * 1024 < len then stBadParam else s.verifyFw im len
      if r == stOk then s0.takeFirmware im 1 else s0.bootFail 8 1 0 r

end Sys2Proof.Machine
end

