-- ==== Sys2Proof/Machine/Security.lean ====
section
/-!
DEFINITION. The commands of the security engine (spec/16_security_and_configuration.md, R535 to R551): worlds, memory regions,
image verification, attestation and key revocation.
-/
namespace Sys2Proof.Machine

/-! ## SEC_ASSIGN (R535 to R537) -/

/-- The internal state and the SRAM of a block return to their state after PORST_N (R537). -/
def State.blockClear (s : State) (b : Nat) : State :=
  if 0x02 ≤ b && b ≤ 0x09 then { s with adc := tdel s.adc (b - 0x02) }
  else if 0x0A ≤ b && b ≤ 0x0D then { s with dac := tdel s.dac (b - 0x0A) }
  else if b == 0x0E then { s with tdc := [] }
  else if b == 0x0F then { s with hk := {} }
  else if 0x10 ≤ b && b ≤ 0x1F then { s with fch := tdel s.fch (b - 0x10) }
  else if 0x20 ≤ b && b ≤ 0x3F then
    let f := b - 0x20
    let s1 := s.forgeStop f
    { s1 with fab := { s1.fab with anv := tclear s1.fab.anv (32 * f) (32 * (f + 1)), rack := tdel s1.fab.rack f, ks := tclear s1.fab.ks (16384 * f) (16384 * (f + 1)) } }
  else if 0x40 ≤ b && b ≤ 0x5F then s.hearthClear (b - 0x40)
  else if b == 0x60 then { s with trg := {} }
  else if b == 0x61 then { s with acq := [] }
  else if b == 0x62 then { s with tp := { tpv := s.tp.tpv, tpq := s.tp.tpq } }
  else if b == 0x63 then { s with mem := { s.mem with stage := [] } }
  else if b == 0x64 || b == 0x65 then s.memFence (b - 0x64)
  else if 0x67 ≤ b && b ≤ 0x6A then
    let g := b - 0x67
    { s with cl := { s.cl with link := tclear s.cl.link (4 * g) (4 * g + 4) }, eth := tclear s.eth (4 * g) (4 * g + 4) }
  else if b == 0x6B then s.rasterClear
  else if 0x80 ≤ b && b ≤ 0xBF then { s with co := tdel s.co (b - 0x80) }
  else if 0xC0 ≤ b && b ≤ 0xDF then { s with sq := tdel s.sq (b - 0xC0) }
  else s

/-- The registers of an object return to their reset values. -/
def State.ownerReset (s : State) (o : Owner) : State := { s with regs := s.regs.filter (fun p => ownerOf p.1 != o) }

/-- A fence block changes world: it enters FENCED as at a reset, with what that does to others (R315), and is cleared; the capture writer leaves
FENCED at its next alignment tick (R29). What the always-on domain holds of an input channel stays (R77). -/
def State.assignBlock (s : State) (b : Nat) (secure : Bool) : State :=
  let s0 :=
    if b == 0x63 then s.captureFence
    else if b == 0x60 || b == 0x61 then (s.fenceEnter b .fenced).blockInit b
    else s.fenceEnter b .fenced
  let s1 := (s0.blockClear b).ownerReset (.block b)
  let s2 := if 0x02 ≤ b && b ≤ 0x09 then s.keepDegraded s1 (b - 0x02) else s1
  let s3 := s2.setB ((R.SEC_WORLD (b / 32)).bit (b % 32)) secure
  if b == 0x63 then s3 else s3.fenceLeave b

/-- A command ring changes world. -/
def State.assignRing (s : State) (k : Nat) (secure : Bool) : State := (s.ownerReset (.ring k)).setB (R.HI_RING_CTRL_WORLD k) secure

/-- A context group changes world: its entries are 0. -/
def State.assignGroup (s : State) (g : Nat) (secure : Bool) : State :=
  let s1 := s.ownerReset (.group g)
  ({ s1 with ctx := tclear s1.ctx (64 * g) (64 * (g + 1)) } : State).setB ((R.SEC_CTXW (g / 32)).bit (g % 32)) secure

/-- SEC_ASSIGN: the object's number, its kind and the new world. -/
def secAssignStart (n kind : Nat) (secure : Bool) (s : State) : CmdRes :=
  if kind == 0 then
    if !isBlock n || n == 0x00 || n == 0x6C then resDone s stBadParam
    else if s.blk n == .fenced then resDone s stTargetReset
    else if s.blk n == .offline then resDone s stTargetOffline
    else if (s.blkUse n).isSome then resDone s stRefusedBusy
    else resDone (s.assignBlock n secure) stOk
  else if kind == 1 then
    if 16 ≤ n then resDone s stBadParam
    else if s.f (R.HI_RING_STATUS_STATE n) != ringDisabled then resDone s stRefusedBusy
    else resDone (s.assignRing n secure) stOk
  else if kind == 2 then
    if 48 ≤ n then resDone s stBadParam
    else if s.liveCtxs.any (fun c => c / 64 == n) then resDone s stRefusedBusy
    else resDone (s.assignGroup n secure) stOk
  else resDone s stBadParam

/-- SEC_ASSIGN waits at the head of its ring while the block that it names wakes (R23, R436). -/
def execSecAssign (k : Fin 16) (f : Fetch) (s : State) : Out :=
  let n := bitsOf (f.entry.param 0) 0 8
  let kind := bitsOf (f.entry.param 0) 8 2
  if kind == 0 && (s.blk n == .gated || s.blk n == .waking) && s.ringSecure k && s.canStart k f.entry false && f.entry.clean [0x3FF, 0x1]
  then .next (s.wakeBlk n)
  else .next (s.startCmd k f 0x72 false true [0x3FF, 0x1] (secAssignStart n kind (bitOf (f.entry.param 1) 0)))

/-! ## SEC_REGION (R540, R541) -/

/-- The size of a space in bytes (spec/01, spec/11, spec/14). -/
def spaceSize (sp : Nat) : Nat := if sp == 0 then 2 ^ 35 else if sp == 1 then 2 ^ 27 else if sp == 2 then 41943040 else 4 * 1024 * 1024

/-- Allocations that hold memory: whether the holder is secure, the space, the base and the length (R541). -/
def State.allocations (s : State) : List (Bool × Nat × Nat × Nat) :=
  let slots := ((List.range 64).filter (fun n => s.slotPending n)).map
    (fun n => (s.blockSecure 0x61, 0, s.f (R.ACQ_BASE_ADDR n), s.f (R.ACQ_SIZE_LEN n)))
  let outs := ((List.range 4).filter (fun n => s.playing n)).map
    (fun n => (s.blockSecure (0x0A + n), 0, (s.dacN n).pbBase, (s.dacN n).pbLen))
  let chains := ((List.range 16).filter (fun n => s.fchOn n && s.f (act (R.FCH_SRC_SRC n)) == 8)).map
    (fun n => (s.blockSecure (0x10 + n), 0, s.f (act (R.FCH_PB_BASE_ADDR n)), s.f (act (R.FCH_PB_LEN_LEN n))))
  let ctxs := (s.liveCtxs.map (fun c =>
    let x := s.ctxN c
    let at_ := fun (o n : Nat) => (s.ctxSecure c, 1, s.homeOf c * 2 ^ 22 + o, n)
    [at_ x.ring x.ringLen, at_ x.plane x.planeLen, at_ x.work x.workLen, (s.ctxSecure c, 0, s.f (R.CTX_CM_V c 0), s.f (R.CTX_CM_V c 1)),
     (s.ctxSecure c, 0, s.f (R.CTX_LT_V c 0), s.f (R.CTX_LT_V c 1))])).flatten
  let drains := ((List.range 16).filter (fun c => s.flag (R.TDC_CFG_EN c) && s.f (R.TDC_QCFG_DRAIN c) == 1)).map
    (fun c => (s.blockSecure 0x0E, 0, s.f (R.TDC_QBASE_ADDR c), s.f (R.TDC_QSIZE_LEN c)))
  let regions := ((List.range 16).filter (fun r => s.flag R.RS_CTRL_EN && s.f (rsAct (R.RS_REG_CFG_KIND r)) != 0)).map (fun r =>
    let t := s.regRect rsAct r
    if s.f (rsAct (R.RS_REG_CFG_KIND r)) == 2 then
      (List.range t.h).map (fun y => (s.blockSecure 0x6B, 2, 0x1F40000 + (t.y + y) * 2560 + t.x, t.w))
    else
      ((List.range t.h).map (fun y => [(s.blockSecure 0x6B, 2, fbBase 0 + (t.y + y) * 10240 + 4 * t.x, 4 * t.w),
        (s.blockSecure 0x6B, 2, fbBase 1 + (t.y + y) * 10240 + 4 * t.x, 4 * t.w)])).flatten)
  slots ++ outs ++ chains ++ ctxs ++ drains ++ regions.flatten

/-- Whether the bytes that an allocation shares with interval `x` all lie in interval `y`. -/
def sharedIn (base len : Nat) (x y : Nat × Nat) : Bool :=
  let lo := max base x.1
  let hi := min (base + len) x.2
  decide (hi ≤ lo) || (decide (y.1 ≤ lo) && decide (hi ≤ y.2))

/-- SEC_REGION: entry, base, size and world. The spec gives no parameter that names SPACE or EN: both are free. -/
def secRegionStart (e base size : Nat) (secure : Bool) (s : State) : CmdRes :=
  let free := Config.regionSpace e base size
  let sp := free.1 % 4
  let en := free.2
  let bad := base % 4096 != 0 || size % 4096 != 0 || size == 0 || decide (spaceSize sp < base + size)
  let clash := (List.range 64).any (fun i => i != e && s.flag (R.SEC_REGION_CFG_EN i) && s.f (R.SEC_REGION_CFG_SPACE i) == sp
    && overlaps base size (s.entryBase i) (s.entryEnd i - s.entryBase i))
  let old := fun (space : Nat) => if s.secureEntry space e then (s.entryBase e, s.entryEnd e) else (0, 0)
  let new := fun (space : Nat) => if en && secure && space == sp then (base, base + size) else (0, 0)
  let breaks := s.allocations.any (fun (w, space, b, n) =>
    if w then !sharedIn b n (old space) (new space) else !sharedIn b n (new space) (old space))
  if bad || (en && clash) then resDone s stBadParam
  else if breaks then resDone s stRefusedBusy
  else
    let s1 := ((s.setB (R.SEC_REGION_CFG_EN e) en).setB (R.SEC_REGION_CFG_WORLD e) secure).setF (R.SEC_REGION_CFG_SPACE e) sp
    resDone ((s1.setF (R.SEC_REGION_BASE_ADDR e) (base / 4096)).setF (R.SEC_REGION_SIZE_LEN e) (size / 4096)) stOk

def execSecRegion (k : Fin 16) (f : Fetch) (s : State) : Out :=
  .next (s.startCmd k f 0x73 false true [0x3F, 2 ^ 64 - 1, 2 ^ 64 - 1, 0x1]
    (secRegionStart (f.entry.param 0 % 64) (f.entry.param 1) (f.entry.param 2) (bitOf (f.entry.param 3) 0)))

/-! ## IMAGE_VERIFY (R546, R550) -/

/-- The verification of an image ends. -/
def imageVerified (c : LongCmd) (s : State) : State :=
  let im := c.image
  let r := s.verify im im.length
  s.finishLong c r (if r == stOk then contentId (envContent im) else 0)

/-- A step of IMAGE_VERIFY on the Keccak engine. -/
def imageVerifyStep (c : LongCmd) (s : State) : State := s.engineStep c imageVerified

def imageVerifyStart (image : HostRead) (s : State) : CmdRes :=
  if image.isNone then resDone s stHostNoresp else { st := s, kind := 2, aux := [0] }

def execImageVerify (k : Fin 16) (f : Fetch) (s : State) : Out :=
  .next (s.startCmd k f 0x70 true false [2 ^ 64 - 1, 0xFFFFFFFF] (imageVerifyStart (f.read 0)))

/-! ## ATTEST (R551) -/

/-- Length of an SLH-DSA-SHAKE-256f signature. -/
def identitySigLen : Nat := 49856

/-- A measurement entry of the report: kind, image, version and measurement. -/
def measEntry (kind id version : Nat) (meas : List (BitVec 8)) : List (BitVec 8) :=
  leBytes 4 kind ++ leBytes 4 id ++ leBytes 4 version ++ leBytes 4 0 ++ (meas ++ List.replicate 64 0).take 64

/-- The measurement entries: firmware, microcode, kernels in directory order. -/
def State.measEntries (s : State) : List (List (BitVec 8)) :=
  let fw := measEntry 3 s.boot.fwId s.boot.fwVersion (leBytes 64 (s.wordsAt (R.SEC_MEAS_FW 0).off 16))
  let uc := if s.fab.golden.isEmpty then [] else [measEntry 2 (contentId s.fab.golden) s.fab.ucode s.fab.goldenMeas]
  fw :: uc ++ s.fab.images.map (fun im => measEntry 1 im.id im.version im.meas)

/-- The report of Table 16-4 up to its signature. -/
def State.report16 (s : State) (nonce : List (BitVec 8)) : List (BitVec 8) :=
  let es := s.measEntries
  let m := es.length
  let len := 192 + 80 * m + identitySigLen
  let cfg := s.f R.CFG_STATUS_ACTIVE + 4 * s.f R.CFG_STATUS_PREV + 16 * s.f R.CFG_STATUS_PREV_VALID + 32 * s.f R.SEC_STATUS_PF1_EN
  leBytes 4 0x41545331 ++ leBytes 4 len ++ leBytes 8 (s.f R.SEC_SERIAL) ++ (nonce ++ List.replicate 64 0).take 64 ++ leBytes 16 (pt128 s.now)
  ++ leBytes 4 (s.f R.CFG_VERSION) ++ leBytes 4 (s.f R.CFG_PEND_VERSION) ++ leBytes 2 cfg ++ leBytes 2 m
  ++ leBytes 4 (s.f R.SEC_STATUS_SVN + 2 ^ 8 * s.f R.SEC_STATUS_REVOKED) ++ List.replicate 16 0
  ++ leBytes 64 (s.wordsAt (R.SEC_IDPK 0).off 16) ++ es.flatten

/-- The signing ends: report, signature and certificate go to the host buffer. -/
def attested (c : LongCmd) (s : State) : State :=
  let body := (c.aux.drop 1).map (BitVec.ofNat 8)
  let sig := (Config.identitySig body ++ List.replicate identitySigLen 0).take identitySigLen
  (s.emit (.hostWrite (c.entry.param 1) (body ++ sig ++ s.sec.cert))).finishLong c stOk (body.length + identitySigLen)

/-- A step of ATTEST: the snapshot when it gains the engine, then the engine's steps. -/
def attestStep (c : LongCmd) (s : State) : State :=
  if c.phase != 0 then s.engineStep c attested
  else if s.reloadMeasures || !s.engineFor c then s
  else
    let body := s.report16 (((c.reads[0]?).getD none).getD [])
    let need := body.length + identitySigLen + s.sec.cert.length
    if !s.sec.certOk then s.finishLong { c with steps := c.steps + 1 } stSigInvalid 0
    else if c.entry.param 2 < need then s.finishLong { c with steps := c.steps + 1 } stRefusedSize need
    else
      let c1 := { c with aux := 0 :: body.map (fun b => b.toNat) }
      (s.putLong c1).engineStep c1 attested

def attestStart (nonce : HostRead) (s : State) : CmdRes :=
  if nonce.isNone then resDone s stHostNoresp else { st := s, kind := 2, aux := [0] }

def execAttest (k : Fin 16) (f : Fetch) (s : State) : Out :=
  .next (s.startCmd k f 0x71 true false [2 ^ 64 - 1, 2 ^ 64 - 1, 0xFFFFFFFF] (attestStart (f.read 0)))

/-! ## KEY_REVOKE (R549) -/

/-- Whether a slot is VALID, not REVOKED and admits firmware. -/
def State.fwSlot (s : State) (n : Nat) : Bool := s.slotAdmits n 3

/-- KEY_REVOKE at its start: it holds the fuses. -/
def keyRevokeStart (slot : Nat) (s : State) : CmdRes :=
  if s.host.longs.any (fun c => c.entry.opcode == 0x74) then resDone s stRefusedBusy
  else if s.flag (R.SEC_KEYS_REVOKED slot) then resDone s stOk
  else if !((List.range 4).filter (fun n => n != slot)).any s.fwSlot then resDone s stBadParam
  else { st := s, kind := 2 }

/-- The step of KEY_REVOKE: it burns the fuse. -/
def keyRevokeStep (c : LongCmd) (s : State) : State :=
  let n := c.entry.param 0 % 4
  let s1 := (s.setB (R.SEC_KEYS_REVOKED n) true).setB (R.SEC_STATUS_REVOKED.bit n) true
  s1.finishLong { c with steps := c.steps + 1 } stOk 0

def execKeyRevoke (k : Fin 16) (f : Fetch) (s : State) : Out :=
  .next (s.startCmd k f 0x74 true true [0x3] (keyRevokeStart (f.entry.param 0 % 4)))

/-! ## The coachman's rounds (R432, R433) -/

/-- One step of a long command; the others wait for the events that their chapters name. -/
def State.longStep (s : State) (c : LongCmd) : State :=
  let op := c.entry.opcode.toNat
  if op == 0x11 then bandscanStep c s
  else if op == 0x30 then kernelLoadStep c s
  else if op == 0x31 then ucodeLoadStep c s
  else if op == 0x32 then forgeReloadCmdStep c s
  else if op == 0x33 then forgeOfflineStep c s
  else if op == 0x43 then densClearStep c s
  else if op == 0x50 then memClearStep c s
  else if op == 0x63 then cfgSaveStep c s
  else if op == 0x70 then imageVerifyStep c s
  else if op == 0x71 then attestStep c s
  else if op == 0x74 then keyRevokeStep c s
  else if op == 0x80 then pwrStep c s
  else s

/-- One step of each long command in progress, in the order of their rings and starts; a command that another step has
ended takes none. -/
def coachmanRound (s : State) : State :=
  if !s.isRunning 0x00 then s
  else s.host.longs.foldl (fun (t : State) c =>
    match t.host.longs.find? (fun x => x.ring == c.ring && x.entry.tag == c.entry.tag) with
    | some x => t.longStep x
    | none => t) s

def execCoachmanRound (s : State) : Out := .next (coachmanRound s)

end Sys2Proof.Machine
end

