-- ==== Sys2Proof/Machine/Access.lean ====
section
/-!
DEFINITION. BAR0 accesses: access codes, RWL fields and their sticky flags, 64-bit registers, refused, held and early
accesses, what each register's write and read does beyond its fields, and the wake of a domain
(spec/00_scope.md, R4 to R9 and R598; spec/12, R415 to R421; spec/16, R534, R538, R555; spec/17, R568; spec/15, R507).
-/
namespace Sys2Proof.Machine

/-! ## RWL fields (R4, R598) -/

/-- The slots that are pending and name an envelope table (R309). -/
def State.envSlots (s : State) (t : Nat) : List Nat :=
  (List.range 64).filter (fun n => s.slotPending n && s.flag (R.ACQ_MODE_MASK_EN n) && s.f (R.ACQ_MODE_ENV n) == t)

/-- Whether the settings of a stream queue are pending (R473). -/
def State.sqPending (s : State) (q : Nat) : Bool := s.flag (R.SQ_CTRL_EN q) || !s.sqEmpty q

/-- Whether the RWL fields of the word at an offset are pending, and the sticky flags that a dropped write sets: blocks
below 0x10_0000. -/
def State.lockLow (s : State) (off : Nat) : Bool × List Fld :=
  if off < 0x20000 then (s.flag R.CLK_STATUS_BUSY, [R.CLK_STATUS_CFG_BUSY])
  else if off < 0x30000 then let c := (off - 0x21000) / 0x400; (s.flag (R.TDC_FCFG_FEN c), [R.TDC_STATUS_CFG_BUSY c])
  else if off < 0x40000 then (s.flag R.NT_STATUS_STEP_PEND, [R.NT_STATUS_STEP_BUSY])
  else if off < 0x50000 then let n := (off - 0x41000) / 0x1000; (s.trimsPending n, [R.ADC_STATUS_TRIM_BUSY n])
  else let n := (off - 0x80000) / 0x1000; (s.shadowHeld n, [R.FCH_STATUS_SHADOW_BUSY n])

/-- The same for the blocks from 0x10_0000 to 0x4F_FFFF. -/
def State.lockMid (s : State) (off : Nat) : Bool × List Fld :=
  if off < 0x400000 then
    let c := (off - 0x200000) / 0x200
    (s.ctxState c != 0 && s.ctxState c != 4, [R.CTX_STATE_CFG_BUSY c])
  else if off < 0x410000 then (s.flag R.TRG_STATUS_PENDING, [R.TRG_STATUS_SHADOW_BUSY])
  else if off < 0x420000 then let n := (off - 0x410000) / 0x100; (s.slotPending n, [R.ACQ_STATUS_CFG_BUSY n])
  else if off < 0x480000 then
    let ns := s.envSlots ((off - 0x420000) / 0x4000)
    (!ns.isEmpty, ns.map (fun n => R.ACQ_STATUS_CFG_BUSY n))
  else ((List.range 16).any (fun k => s.f (R.CL_LINK_STATUS_STATE k) != lkDown), [R.CL_STATUS_CFG_BUSY])

/-- The same for the blocks from 0x50_0000. -/
def State.lockHigh (s : State) (off : Nat) : Bool × List Fld :=
  if off < 0x584000 then
    let c := (off - 0x581000) / 0x40
    (s.flag (R.CE_CTRL_EN c) || s.ceState c != ceDisabled, [R.CE_STATUS_CFG_BUSY c])
  else if off < 0x600000 then let q := (off - 0x584000) / 0x40; (s.sqPending q, [R.SQ_STATUS_CFG_BUSY q])
  else if off < 0x680000 then
    let k := (off - 0x601000) / 0x40
    (s.flag (R.HI_RING_CTRL_EN k) || s.f (R.HI_RING_STATUS_STATE k) == ringDraining, [R.HI_RING_STATUS_CFG_BUSY k])
  else if off < 0x680100 then
    let g := (off - 0x680010) / 4
    ((List.range 4).any (fun i => s.flag (R.ETH_PORT_CFG_EN (4 * g + i))), [])
  else if off < 0x681000 then (s.flag (R.ETH_PORT_CFG_EN ((off - 0x680100) / 0x40)), [])
  else if off < 0x700000 then let q := (off - 0x681000) / 0x100; (s.sqPending q, [R.SQ_STATUS_CFG_BUSY q])
  else (s.flag R.RS_STATUS_PENDING, [R.RS_STATUS_SHADOW_BUSY])

/-- Whether the RWL fields of the word at an offset are pending, and the sticky flags that a dropped write sets (R598). -/
def State.rwlLock (s : State) (off : Nat) : Bool × List Fld :=
  if off < 0x100000 then s.lockLow off else if off < 0x500000 then s.lockMid off else s.lockHigh off

/-- The sticky flag of the block of a configuration item (R555). -/
def CfgItem.busyFld : CfgItem → Fld
  | .slot n => R.ACQ_STATUS_CFG_BUSY n
  | .trig => R.TRG_STATUS_SHADOW_BUSY
  | .ctx c => R.CTX_STATE_CFG_BUSY c
  | .chain n => R.FCH_STATUS_SHADOW_BUSY n
  | .queue q => R.SQ_STATUS_CFG_BUSY q
  | .raster => R.RS_STATUS_SHADOW_BUSY

/-- The sticky flag that a write dropped under R555 sets. -/
def cfgBusyFld (off : Nat) : Fld :=
  match cfgItemOf off with
  | some i => i.busyFld
  | none => R.CFG_STATUS_CFG_BUSY

/-- The word after a write (Table 0-3): RW and RWL bits outside `hold` take the value, W1C bits clear, W1S bits set. A W1C bit of
`keep`, which the device has set in the same control cycle, stays set (R9). -/
def mergeWord (w : WordSpec) (hold keep old v : BitVec 32) : BitVec 32 :=
  let set := (BitVec.ofNat 32 w.rw ||| BitVec.ofNat 32 w.rwl) &&& ~~~hold
  let clr := BitVec.ofNat 32 w.w1c &&& v &&& ~~~keep
  (old &&& ~~~(set ||| clr)) ||| (v &&& set) ||| (v &&& BitVec.ofNat 32 w.w1s)

/-- The bits of the word at an offset that the device has set in the present control cycle (R9). -/
def State.setNow (s : State) (off : Nat) : BitVec 32 := BitVec.ofNat 32 (tget (fun _ => 0) s.sets off)

/-- The sticky flags set. -/
def State.setFlags (s : State) (fs : List Fld) : State := fs.foldl (fun (t : State) x => t.setB x true) s

/-! ## What a write does beyond the fields -/

/-- Writes of the time base: mode 3 leaves MODE unchanged (R58), SNAP, a new reference (R50, R45), SERVO_OK (R382). -/
def State.wroteClock (s : State) (off old v : Nat) : State :=
  if off == 0x11000 then
    let s0 := if bitsOf v 0 2 == 3 then s.setF R.TB_CTRL_MODE (bitsOf old 0 2) else s
    let s1 := if bitOf v 9 then s0.snap.setB R.TB_CTRL_SNAP false else s0
    if bitsOf old 2 2 != bitsOf v 2 2 then s1.enterAcquire else s1
  else if off == 0x11004 then
    let hz := s.f R.TB_REF_HZ_HZ
    let s1 := s.setB R.TB_STATE_BAD_REF (hz == 0 || decide (500000000 < hz))
    if hz != bitsOf old 0 29 then s1.enterAcquire else s1
  else if off == 0x30000 then s.syncHoldover
  else s

/-- Writes of the ID_ registers. -/
def State.wroteId (s : State) (pf off v : Nat) : State :=
  if off == 0x24 then (if s.f R.ID_BOOT_STAGE == 8 then s else s.setB R.ID_BOOT_CTRL_GO false)
  else if off == 0x30 then wdogWritten s
  else if off == 0x250 then bresetWritten pf v s
  else s

/-- Writes of converters, housekeeping and chains. -/
def State.wroteConv (s : State) (off old v : Nat) : State :=
  let n := off / 0x1000 % 16
  if off < 0x50000 then
    if off < 0x41000 then s
    else if off % 0x1000 == 0 then adcCtrlWritten (n - 1) old v s
    else if 0x100 ≤ off % 0x1000 && off % 0x1000 < 0x300 then trimWritten (n - 1) off old v s
    else s
  else if off < 0x60000 then
    if off % 0x1000 == 0 then (dacCtrlWritten n old v s).syncPanic else if off % 0x1000 == 8 then dacGainWritten n s else s
  else if off < 0x80000 then
    if off == 0x60000 then
      let s1 := if bitOf v 2 then hkCalRequest 0 s else s
      if bitOf v 3 then hkCalRequest 1 s1 else s1
    else if off == 0x60200 || off == 0x60204 then hkInjWritten ((off - 0x60200) / 4) v s
    else s
  else if off % 0x1000 == 0 then fchCtrlWritten n old v s
  else if off % 0x1000 == 0x100 && off < 0x90000 then (if old == v then s else s.shadowSource n)
  else s

/-- Writes of the fabric and of the forges. -/
def State.wroteFabric (s : State) (off old v : Nat) : State :=
  let f := (off - 0x100000) / 0x4000
  if off == 0x180000 then fabCtrlWritten old v s
  else if off == 0x180004 then budgetWritten old v s
  else if 0x180000 ≤ off then s
  else if off % 0x4000 == 0x500 then dbgHaltWritten f v (s.setF (R.FRG_DBG_HALT f) old)
  else if off % 0x4000 == 0x508 then dbgReleaseWritten f v s
  else s

/-- Writes of triggers, acquisition, the Trigger Port and the links. -/
def State.wroteTrigger (s : State) (off old v : Nat) : State :=
  if off == 0x400000 then trgCtrlWritten v s
  else if off < 0x410000 then s
  else if off < 0x420000 then (if off % 0x100 == 0 then acqCtrlWritten ((off - 0x410000) / 0x100) v s else s)
  else if off == 0x480000 then tpCtrlWritten s
  else if 0x480100 ≤ off && off < 0x480300 && off % 8 == 4 then
    let e := (off - 0x480104) / 8
    answerUpdate e 2 (v % 65536) (s.setF (R.TP_ANS_VAL_VALUE e) (old % 65536))
  else if off == 0x4C0000 || off == 0x4C0008 then (clLanesWritten s).ethSyncAll
  else if 0x4C0100 ≤ off && off < 0x4C0500 && off % 0x40 == 0 then linkCtrlWritten ((off - 0x4C0100) / 0x40) v s
  else s

/-- Writes of the host interface, coaches, queues, Ethernet, the raster output and power. -/
def State.wroteHost (s : State) (off old v : Nat) : State :=
  if 0x581000 ≤ off && off < 0x582000 && off % 0x40 == 0 then ceCtrlWritten ((off - 0x581000) / 0x40) old v s
  else if 0x584000 ≤ off && off < 0x584800 && off % 0x40 == 4 then sqCtrlWritten ((off - 0x584000) / 0x40) old v s
  else if off == 0x600004 then s.setB R.HI_LINK_CFG_RETRAIN false
  else if 0x601000 ≤ off && off < 0x601400 && off % 0x40 == 0 then ringCtrlWritten ((off - 0x601000) / 0x40) old v s
  else if 0x680010 ≤ off && off < 0x680020 then s.ethSyncAll
  else if 0x680100 ≤ off && off < 0x680500 && off % 0x40 == 0 then s.ethSync ((off - 0x680100) / 0x40)
  else if off == 0x700000 then rsCtrlWritten old v s
  else if off == 0x780070 then domCtrlWritten v s
  else if off == 0x780074 then padRelWritten v (s.setWord off 0)
  else s

/-- What a write does beyond the fields of its register; `old` is the register before it. -/
def State.wrote (s : State) (pf off old v : Nat) : State :=
  if off < 0x10000 then s.wroteId pf off v
  else if off < 0x40000 then s.wroteClock off old v
  else if off < 0x100000 then s.wroteConv off old v
  else if off < 0x200000 then s.wroteFabric off old v
  else if 0x400000 ≤ off && off < 0x500000 then s.wroteTrigger off old v
  else s.wroteHost off old v

/-! ## Words -/

/-- Where a written word goes: the coefficients 256 to 511 of a chain share their offsets with the active mirrors of the
first 256 (Table 4-5 against R576). -/
def writeOff (off : Nat) : Nat :=
  if 0x80000 ≤ off && off < 0x90000 && 0x800 ≤ off % 0x1000 && off % 0x1000 < 0xC00
  then coefOff ((off - 0x80000) / 0x1000) (off % 0x1000 / 4 - 256) else off

/-- The map's row of a written word. -/
def writeSpec (off : Nat) : Option WordSpec :=
  if writeOff off == off then wordSpec off else some { base := writeOff off, rwl := 0x3FFFF }

/-- The bits of a word that keep their values in a write: RWL fields while pending (R598), the configuration that a
switch changes (R555), the WORLD of a ring except through PF1, and the shown buffer under AUTO (R501). -/
def State.holdBits (s : State) (pf off : Nat) (w : WordSpec) : BitVec 32 :=
  let a := if w.rwl != 0 && (s.rwlLock off).1 then BitVec.ofNat 32 w.rwl else 0
  let b := if s.cfgHolds (writeOff off) then cfgPart (writeOff off) 0xFFFFFFFF else 0
  let c := if 0x601000 ≤ off && off < 0x601400 && off % 0x40 == 0 && pf == 0 then 2 else 0
  let d := if off == R.RS_FB_SEL.off && s.flag R.RS_CTRL_AUTO then 1 else 0
  a ||| b ||| c ||| d

/-- The sticky flags that a write sets because it is dropped in part. -/
def State.dropFlags (s : State) (off : Nat) (w : WordSpec) : List Fld :=
  let lock := s.rwlLock off
  (if w.rwl != 0 && lock.1 then lock.2 else []) ++ (if s.cfgHolds (writeOff off) then [cfgBusyFld (writeOff off)] else [])

/-- A word of a register is written (R4, R598). -/
def State.writeWord (s : State) (pf off : Nat) (v : BitVec 32) : State :=
  match writeSpec off with
  | none => s
  | some w =>
    let o := writeOff off
    let old := s.word o
    let hold := s.holdBits pf off w
    let eff := (v &&& ~~~hold) ||| (old &&& hold)
    let s1 := (s.setFlags (s.dropFlags off w)).setWord o (mergeWord w hold (s.setNow o) old v)
    s1.wrote pf off old.toNat eff.toNat

/-- A 64-bit register is written in one action; without a low word, its high word alone (R419, R421). The servo
registers act on the whole value (R379, R380). -/
def State.writePair (s : State) (pf off : Nat) (lo : Option (BitVec 32)) (hi : BitVec 32) : State :=
  let whole := (lo.getD (s.word off)).toNat + 2 ^ 32 * hi.toNat
  if off == 0x30008 then ntIncrWritten whole s
  else if off == 0x30010 then ntStepWritten whole s
  else
    match lo with
    | none => s.writeWord pf (off + 4) hi
    | some x => (s.writeWord pf off x).writeWord pf (off + 4) hi

/-- A word of the MSI-X table is written (R416); a vector unmasked while its pending bit is set is sent. -/
def State.msixWrite (s : State) (pf o : Nat) (v : BitVec 32) : State :=
  let w := if o % 16 == 0 then v &&& ~~~3 else if o % 16 == 12 then v &&& 1 else v
  let s1 : State := { s with host := { s.host with msix := tset msixReset s.host.msix (pf * 4096 + o) w } }
  let vec := o / 16
  if o % 16 == 12 && !w.getLsbD 0 && tget (fun _ => false) s1.host.pba (pf * 256 + vec) then
    ({ s1 with host := { s1.host with pba := tset (fun _ => false) s1.host.pba (pf * 256 + vec) false } } : State).raise pf vec
  else s1

/-- Whether a word is the low or the high word of a 64-bit register. -/
def isHalf (off h : Nat) : Bool :=
  match wordSpec off with
  | some w => w.half == h
  | none => false

/-- Keys of the snapshots and held words of R420 and R421. -/
def halfKey (pf off : Nat) : Nat := pf * 2 ^ 24 + off

/-- A 4-byte write: a low word is held, a high word takes the held one with it (R421). -/
def State.write4 (s : State) (pf off : Nat) (v : BitVec 32) : State :=
  if 0x608000 ≤ off && off < 0x609000 then s.msixWrite pf (off - 0x608000) v
  else if isHalf off 1 then
    { s with host := { s.host with heldLow := tset (fun _ => none) s.host.heldLow (halfKey pf off) (some v) } }
  else if isHalf off 2 then
    let k := halfKey pf (off - 4)
    let lo := tget (fun _ => none) s.host.heldLow k
    ({ s with host := { s.host with heldLow := tset (fun _ => none) s.host.heldLow k none } } : State).writePair pf (off - 4) lo v
  else s.writeWord pf off v

/-! ## Reads -/

/-- FENCED bits of ID_FENCEn. -/
def State.fenceView (s : State) (n : Nat) : Nat :=
  (List.range 32).foldl (fun acc k => acc + (if isBlock (32 * n + k) && s.isFenced (32 * n + k) then 2 ^ k else 0)) 0

/-- STATE of FRGf_STATUS. -/
def State.forgeView (s : State) (f : Nat) : Nat :=
  match s.blk (0x20 + f) with
  | .running => 0
  | .fenced => 1
  | .offline => 2
  | _ => 3

/-- A billet as a rack entry shows it (Table 5-2). -/
def Billet.entry (b : Billet) : Nat :=
  let lo := b.ctx % 2 ^ 12 + 2 ^ 12 * (b.home % 32) + 2 ^ 17 * (b.cls % 4) + (if b.reissue then 2 ^ 19 else 0)
    + (if b.stolen then 2 ^ 20 else 0) + 2 ^ 24 * (b.stage % 16) + (if b.last then 2 ^ 28 else 0)
  let mid := 2 ^ 32 * (b.deadline % 2 ^ 32) + 2 ^ 64 * (b.created % 2 ^ 32) + 2 ^ 96 * (b.segOfs % 2 ^ 22)
    + 2 ^ 118 * (b.segLines % 2 ^ 10)
  let hi := 2 ^ 128 * (b.kentry % 2 ^ 14) + 2 ^ 144 * (b.chEpoch % 2 ^ 16) + 2 ^ 160 * (b.seq % 2 ^ 32)
    + 2 ^ 192 * (b.cxEpoch % 2 ^ 16) + 2 ^ 208 * (b.group % 2 ^ 16) + 2 ^ 224 * (b.skipped % 2 ^ 16)
  lo + mid + hi

/-- A register of a forge, at an offset from the forge's base. -/
def State.forgeRead (s : State) (f o : Nat) : Nat :=
  let w := s.word (0x100000 + 0x4000 * f + o)
  let cs := (tget (fun _ => (0 : BitVec 41)) s.fab.cs (8192 * f + s.f (R.FRG_CS_ADDR_ADDR f))).toNat
  if o == 0 then
    putBits (putBits w.toNat 12 2 (s.forgeView f)) 24 1 (if s.f R.FAB_RACK_HWM_HWM < (s.rackOf f).length then 1 else 0)
  else if 0x600 ≤ o && o < 0x88C then s.dbgReg f ((o - 0x600) / 4)
  else if o == 0xB08 then bitsOf cs 0 32
  else if o == 0xB0C then bitsOf cs 32 32
  else if o == 0xB14 then (tget (fun _ => (0 : BitVec 16)) s.fab.dt (256 * f + s.f (R.FRG_DT_ADDR_ADDR f))).toNat
  else if o == 0xB1C then s.storeWord f (s.f (R.FRG_KS_ADDR_ADDR f)) % 2 ^ 32
  else if 0x2000 ≤ o then
    match (s.rackOf f)[(o - 0x2000) / 32]? with
    | some b => bitsOf b.entry (8 * (o % 32)) 32
    | none => 0
  else w.toNat

/-- The value of a word as a read through a function returns it, without what the read does. -/
def State.view (s : State) (pf off : Nat) : Nat :=
  if 0x200 ≤ off && off < 0x21C then s.fenceView ((off - 0x200) / 4)
  else if 0x100000 ≤ off && off < 0x180000 then s.forgeRead ((off - 0x100000) / 0x4000) (off % 0x4000)
  else if 0x608000 ≤ off && off < 0x609000 then (s.msixWord pf (off - 0x608000)).toNat
  else if 0x609000 ≤ off && off < 0x609020 then
    (List.range 32).foldl (fun acc i =>
      acc + (if tget (fun _ => false) s.host.pba (pf * 256 + 8 * (off - 0x609000) + i) then 2 ^ i else 0)) 0
  else if 0x7C0004 ≤ off && off < 0x7E0000 && !s.flag R.SEC_STATUS_PF1_EN then 0
  else if off == 0x7C003C then (List.range 16).foldl (fun acc k => acc + (if s.ringSecure k then 2 ^ k else 0)) 0
  else (s.word off).toNat

/-- The RC bits of a word return to their reset values (R4, R7). -/
def State.rcClear (s : State) (off : Nat) : State :=
  match wordSpec off with
  | none => s
  | some w =>
    let m := BitVec.ofNat 32 w.rc
    if w.rc == 0 then s
    else
      let s1 := s.setWord off ((s.word off &&& ~~~m) ||| (resetWord off &&& m))
      if w.half == 1 then
        let h := BitVec.ofNat 32 (match wordSpec (off + 4) with
          | some x => x.rc
          | none => 0)
        s1.setWord (off + 4) ((s1.word (off + 4) &&& ~~~h) ||| (resetWord (off + 4) &&& h))
      else s1

/-- A word is read: its value and what the read does (R4, R7, R233, R366, R376). -/
def State.readWord (s : State) (pf off : Nat) : State × Nat :=
  if 0x21000 ≤ off && off < 0x25000 && off % 0x400 == 0x40 then s.tdcPop ((off - 0x21000) / 0x400)
  else if off == 0x30040 then s.txtsPop
  else if 0x100000 ≤ off && off < 0x180000 && off % 0x4000 == 0xA04 then s.dbgSdata ((off - 0x100000) / 0x4000)
  else (s.rcClear off, s.view pf off)

/-- A 4-byte read, with the snapshot of a 64-bit register (R420). -/
def State.read4 (s : State) (pf off : Nat) : State × Nat :=
  if isHalf off 1 then
    let hi := BitVec.ofNat 32 (s.view pf (off + 4))
    let r := s.readWord pf off
    ({ r.1 with host := { r.1.host with snaps := tset (fun _ => none) r.1.host.snaps (halfKey pf (off + 4)) (some hi) } }, r.2)
  else if isHalf off 2 then
    match tget (fun _ => none) s.host.snaps (halfKey pf off) with
    | some v => ({ s with host := { s.host with snaps := tset (fun _ => none) s.host.snaps (halfKey pf off) none } }, v.toNat)
    | none => s.readWord pf off
  else s.readWord pf off

/-! ## Accesses -/

/-- Whether the access reaches the device: the endpoint serves, and PF1 is there (R23, R414, R534). -/
def State.reaches (s : State) (pf : Nat) : Bool :=
  s.isRunning 0x66 && (pf == 0 || s.flag R.SEC_STATUS_PF1_EN)

/-- Whether an access has one of the two forms that BAR0 accepts (R418). -/
def accessOk (off size : Nat) (full : Bool) : Bool :=
  full && ((size == 4 && off % 4 == 0) || (size == 8 && off % 8 == 0))

/-- Whether the boot does not yet serve an offset (R568). -/
def State.early (s : State) (off : Nat) : Bool := s.f R.ID_BOOT_STAGE != 7 && decide (0x10000 ≤ off)

/-- The fence block that a register belongs to, when a domain can gate it. -/
def gatedBlock (off : Nat) : Option Nat :=
  match ownerOf off with
  | .block b => some b
  | _ => none

/-- Whether the block of a register is GATED or WAKING, so that the access is held (R507). -/
def State.holds (s : State) (off : Nat) : Option Nat :=
  match gatedBlock off with
  | none => none
  | some b => if s.blk b == .gated || s.blk b == .waking then some b else none

/-- The block of a register has had an access (R509). -/
def State.touch (s : State) (off : Nat) : State :=
  match gatedBlock off with
  | none => s
  | some b => s.wakeBlk b

/-- An access waits for its block, which starts to wake (R23, R507). -/
def State.holdAccess (s : State) (h : HeldAccess) : State :=
  ({ s with fence := { s.fence with heldAcc := s.fence.heldAcc ++ [h] } } : State).wakeBlk h.block

/-- A bad access (R418). -/
def State.badAccess (s : State) (off : Nat) : State := (s.setB R.HI_STATUS_BAD_ACCESS true).setF R.HI_BAD_ADDR_OFFSET off

/-- Whether a write is ignored because the device has no secure world (R534). -/
def State.noSec (s : State) (off : Nat) : Bool := decide (0x7C0000 ≤ off) && decide (off < 0x7E0000) && !s.flag R.SEC_STATUS_PF1_EN

/-- A 4-byte write past the checks of the endpoint: refused by world (R538), held, or made. -/
def State.put4 (s : State) (pf off : Nat) (v : BitVec 32) : State :=
  if s.worldRefused pf off then s.logRefused 0xFE 0 true off
  else
    match s.holds off with
    | some b => s.holdAccess ⟨b, true, pf, off, 4, v.toNat⟩
    | none => if s.noSec off then s else (s.touch off).write4 pf off v

/-- An 8-byte write past the checks of the endpoint (R419). -/
def State.put8 (s : State) (pf off data : Nat) : State :=
  let lo := BitVec.ofNat 32 data
  let hi := BitVec.ofNat 32 (data / 2 ^ 32)
  if !isHalf off 1 then (s.put4 pf off lo).put4 pf (off + 4) hi
  else if s.worldRefused pf off then s.logRefused 0xFE 0 true off
  else
    match s.holds off with
    | some b => s.holdAccess ⟨b, true, pf, off, 8, data⟩
    | none => if s.noSec off then s else (s.touch off).writePair pf off (some lo) hi

/-- A word read past the world check (R538). -/
def State.get4 (s : State) (pf off : Nat) (one : Bool) : State × Nat :=
  if s.worldRefused pf off then (s.logRefused 0xFE 0 false off, 0)
  else let t := s.touch off; if one then t.readWord pf off else t.read4 pf off

/-- An 8-byte read: both words as they stand in one control cycle (R419), or two 4-byte accesses. -/
def State.get8 (s : State) (pf off : Nat) : State × Nat :=
  let pair := isHalf off 1
  let hi0 := s.view pf (off + 4)
  let a := s.get4 pf off pair
  if pair then (if s.worldRefused pf off then a else (a.1, a.2 + 2 ^ 32 * hi0))
  else let b := a.1.get4 pf (off + 4) false; (b.1, a.2 + 2 ^ 32 * b.2)

/-- The block for which a read waits, of either of its words. -/
def State.readHolds (s : State) (off size : Nat) : Option Nat :=
  match s.holds off with
  | some b => some b
  | none => if size == 8 then s.holds (off + 4) else none

/-- A read that is served: its completion leaves. -/
def State.serveRead (s : State) (pf off size : Nat) : State :=
  match (if s.worldRefused pf off then none else s.readHolds off size) with
  | some b => s.holdAccess ⟨b, false, pf, off, size, 0⟩
  | none =>
    let r := if size == 8 then s.get8 pf off else s.get4 pf off false
    r.1.emit (.readReply pf off size r.2)

/-- A host write to BAR0 (R4, R418 to R421, R538, R568, R598). -/
def regWrite (pf off size : Nat) (full : Bool) (data : Nat) (s : State) : State :=
  if !s.reaches pf then s
  else if !accessOk off size full then s.badAccess off
  else if s.early off then s.setB R.ID_BOOT_EARLY_WR true
  else if size == 8 then s.put8 pf off data
  else s.put4 pf off (BitVec.ofNat 32 data)

/-- A host read of BAR0 (R6, R7, R418 to R420, R538, R568). -/
def regRead (pf off size : Nat) (full : Bool) (s : State) : State :=
  if !s.reaches pf then s
  else if !accessOk off size full then (s.badAccess off).emit (.unsupported pf off)
  else if s.early off then s.emit (.readReply pf off size 0)
  else s.serveRead pf off size

def execRegisterWrite (pf : Fin 2) (off : BitVec 24) (size : Fin 65) (full : Bool) (data : BitVec 64) (s : State) : Out :=
  .next (regWrite pf off.toNat size full data.toNat s)
def execRcRead (pf : Fin 2) (off : BitVec 24) (size : Fin 65) (full : Bool) (s : State) : Out :=
  .next (regRead pf off.toNat size full s)
def execLowWordRead (pf : Fin 2) (off : BitVec 24) (s : State) : Out := .next (regRead pf off.toNat 4 true s)
def execHighWordRead (pf : Fin 2) (off : BitVec 24) (s : State) : Out := .next (regRead pf off.toNat 4 true s)
def execLowWordWrite (pf : Fin 2) (off : BitVec 24) (data : BitVec 32) (s : State) : Out :=
  .next (regWrite pf off.toNat 4 true data.toNat s)
def execHighWordWrite (pf : Fin 2) (off : BitVec 24) (data : BitVec 32) (s : State) : Out :=
  .next (regWrite pf off.toNat 4 true data.toNat s)

/-! ## Register readiness (R23, R506 to R508, R520) -/

/-- What a domain does as it reports register readiness: converters start their first pass, a forge has no valid TTAG,
a stack leaves self-refresh, and the raster output serves the writes that it held. -/
def State.domainInit (s : State) (d : Nat) : State :=
  if 3 ≤ d && d ≤ 6 then (s.adcRestart (2 * d - 6)).adcRestart (2 * d - 5)
  else if 32 ≤ d && d ≤ 63 then s.dropTags (d - 32)
  else if d == 12 || d == 13 then s.setMc (d - 12) { s.mcN (d - 12) with selfRefresh := false }
  else if d == 19 then s.serveRaster
  else s

/-- A held access is served. -/
def State.serveHeld (s : State) (h : HeldAccess) : State :=
  if !h.write then s.serveRead h.pf h.off h.size
  else if h.size == 8 then s.put8 h.pf h.off h.data
  else s.put4 h.pf h.off (BitVec.ofNat 32 h.data)

/-- A domain is ON: its blocks are RUNNING, and what was held for them is served in order. -/
def State.domainUp (s : State) (d : Nat) : State :=
  let s1 := ((s.setDom d dOn).runBlks d).domainInit d
  let s2 := (domBlocks d).foldl State.serveHeldReqs s1
  let mine := s2.fence.heldAcc.filter (fun h => (domBlocks d).contains h.block)
  let s3 : State := { s2 with fence := { s2.fence with heldAcc := s2.fence.heldAcc.filter (fun h => !(domBlocks d).contains h.block) } }
  mine.foldl State.serveHeld s3

/-- CTRL and CLK are up again after P3 (R520): LINKP starts, and every other domain unless the state to restore is P2;
the boot resumes at the clock stage (R569). -/
def State.sleepEnd (s : State) : State :=
  let s0 : State := { s with pwr := { s.pwr with waking := false, avs := none, gateWait := [] }, boot := { s.boot with resume := true } }
  let s1 := (((s0.setDom 1 dOn).runBlks 1).setDom 2 dOn).runBlks 2
  let todo := 14 :: (if s1.f R.PWR_STATUS_RESUME < 2 then domOrder.reverse else [])
  (todo.foldl State.startDomain s1).clockStage

/-- A power domain reports register readiness (R507). -/
def domainReady (d : Nat) (s : State) : State :=
  if s.pwr.dark then s
  else if d == 1 && s.pwr.waking then s.sleepEnd
  else if s.domState d == dWaking then s.domainUp d
  else s

def execDomainReady (d : Fin 96) (s : State) : Out := .next (domainReady d s)

end Sys2Proof.Machine
end

