-- ==== Sys2Proof/Machine/HostRows.lean ====
section
/-!
DEFINITION. The commands of the table that are a host write or read of one register: each is that access (Access.lean),
with the bit that the command names set or cleared in the value written. The rule of each row is cited in Syntax.lean.
-/
namespace Sys2Proof.Machine

/-- A 4-byte host write. -/
def hostWrite (pf : Fin 2) (off v : Nat) (s : State) : State := regWrite pf off 4 true v s

/-- A value with a bit set, or cleared. -/
def withBit (v : BitVec 32) (i : Nat) : Nat := (v ||| BitVec.ofNat 32 (2 ^ i)).toNat
def withoutBit (v : BitVec 32) (i : Nat) : Nat := (v &&& ~~~BitVec.ofNat 32 (2 ^ i)).toNat

/-- A write of ID_WDOG. -/
def execWdogKick (pf : Fin 2) (v : BitVec 32) (s : State) : Out := .next (hostWrite pf 0x30 v.toNat s)

/-- A write of ID_BOOT_CTRL.GO, and the image that the ROM then reads (R567). -/
def hostBootGo (pf : Fin 2) (image : HostRead) (s : State) : State :=
  if s.reaches pf then hostGo image (hostWrite pf 0x24 1 s) else s

def execHostBootGo (pf : Fin 2) (image : HostRead) (s : State) : Out := .next (hostBootGo pf image s)

def execBlockReset (pf : Fin 2) (v : BitVec 32) (s : State) : Out := .next (hostWrite pf 0x250 (withBit v 8) s)

/-- A write of TB_CTRL that sets one bit beside the fields as they stand. -/
def tbBit (pf : Fin 2) (i : Nat) (s : State) : State := hostWrite pf 0x11000 (withBit (s.word 0x11000) i) s

def execLoad (pf : Fin 2) (s : State) : Out := .next (tbBit pf 7 s)
def execSnap (pf : Fin 2) (s : State) : Out := .next (tbBit pf 9 s)

/-- A write of ADCn_CTRL. -/
def adcCtrl (pf : Fin 2) (n : Fin 8) (v : Nat) (s : State) : State := hostWrite pf (0x41000 + 0x1000 * n) v s

def execAdcEnWrite (pf : Fin 2) (n : Fin 8) (v : BitVec 32) (s : State) : Out := .next (adcCtrl pf n v.toNat s)
def execRotHold (pf : Fin 2) (n : Fin 8) (v : BitVec 32) (s : State) : Out := .next (adcCtrl pf n v.toNat s)
def execFpRun (pf : Fin 2) (n : Fin 8) (v : BitVec 32) (s : State) : Out := .next (adcCtrl pf n (withBit v 4) s)
def execTrimWrite (pf : Fin 2) (n : Fin 8) (k : Fin 33) (skew : Bool) (v : BitVec 32) (s : State) : Out :=
  .next (hostWrite pf ((if skew then 0x41200 else 0x41100) + 0x1000 * n + 4 * k) v.toNat s)

def execDacEnable (pf : Fin 2) (n : Fin 4) (v : BitVec 32) (s : State) : Out :=
  .next (hostWrite pf (0x50000 + 0x1000 * n) (withBit v 0) s)

/-- A write of FCHn_CTRL. -/
def fchCtrl (pf : Fin 2) (n : Fin 16) (v : Nat) (s : State) : State := hostWrite pf (0x80000 + 0x1000 * n) v s

def execFchCommit (pf : Fin 2) (n : Fin 16) (v : BitVec 32) (s : State) : Out := .next (fchCtrl pf n (withBit v 1) s)
def execFchCancel (pf : Fin 2) (n : Fin 16) (v : BitVec 32) (s : State) : Out := .next (fchCtrl pf n (withBit v 4) s)
def execFchEnable (pf : Fin 2) (n : Fin 16) (v : BitVec 32) (s : State) : Out := .next (fchCtrl pf n (withBit v 0) s)
def execFchDisable (pf : Fin 2) (n : Fin 16) (v : BitVec 32) (s : State) : Out := .next (fchCtrl pf n (withoutBit v 0) s)

def execFabBudgetWrite (pf : Fin 2) (radius : Bool) (v : BitVec 32) (s : State) : Out :=
  .next (hostWrite pf (if radius then 0x180000 else 0x180004) v.toNat s)

def execDebugHalt (pf : Fin 2) (f : Fin 32) (v : BitVec 32) (s : State) : Out :=
  .next (hostWrite pf (0x100500 + 0x4000 * f) v.toNat s)
def execDebugRelease (pf : Fin 2) (f : Fin 32) (v : BitVec 32) (s : State) : Out :=
  .next (hostWrite pf (0x100508 + 0x4000 * f) v.toNat s)
def execDbgSdataRead (pf : Fin 2) (f : Fin 32) (s : State) : Out := .next (regRead pf (0x100A04 + 0x4000 * f) 4 true s)

def execTrgCommit (pf : Fin 2) (v : BitVec 32) (s : State) : Out := .next (hostWrite pf 0x400000 (withBit v 1) s)
def execTrgCancel (pf : Fin 2) (v : BitVec 32) (s : State) : Out := .next (hostWrite pf 0x400000 (withBit v 3) s)

def execAcqArm (pf : Fin 2) (n : Fin 64) (v : BitVec 32) (s : State) : Out :=
  .next (hostWrite pf (0x410000 + 0x100 * n) (withBit v 0) s)
def execAcqStop (pf : Fin 2) (n : Fin 64) (v : BitVec 32) (s : State) : Out :=
  .next (hostWrite pf (0x410000 + 0x100 * n) (withBit v 1) s)

def execTdcEnable (pf : Fin 2) (c : Fin 16) (v : BitVec 32) (s : State) : Out :=
  .next (hostWrite pf (0x21000 + 0x400 * c) v.toNat s)
def execTdcPop (pf : Fin 2) (c : Fin 16) (s : State) : Out := .next (regRead pf (0x21040 + 0x400 * c) 4 true s)
def execTxtsRead (pf : Fin 2) (s : State) : Out := .next (regRead pf 0x30040 4 true s)
def execNtIncrWrite (pf : Fin 2) (v : BitVec 64) (s : State) : Out := .next (regWrite pf 0x30008 8 true v.toNat s)
def execNtStepWrite (pf : Fin 2) (v : BitVec 64) (s : State) : Out := .next (regWrite pf 0x30010 8 true v.toNat s)

/-- A write of HI_RINGk_CTRL. -/
def ringCtrl (pf : Fin 2) (k : Fin 16) (v : Nat) (s : State) : State := hostWrite pf (0x601000 + 0x40 * k) v s

def execRingEnable (pf : Fin 2) (k : Fin 16) (v : BitVec 32) (s : State) : Out := .next (ringCtrl pf k (withBit v 0) s)
def execRingDisable (pf : Fin 2) (k : Fin 16) (v : BitVec 32) (s : State) : Out := .next (ringCtrl pf k (withoutBit v 0) s)

/-- A write of CEc_CTRL. -/
def ceCtrl (pf : Fin 2) (c : Fin 64) (v : Nat) (s : State) : State := hostWrite pf (0x581000 + 0x40 * c) v s

def execCoachEnable (pf : Fin 2) (c : Fin 64) (v : BitVec 32) (s : State) : Out := .next (ceCtrl pf c (withBit v 0) s)
def execCoachStop (pf : Fin 2) (c : Fin 64) (v : BitVec 32) (s : State) : Out := .next (ceCtrl pf c (withBit v 1) s)
def execCoachStart (pf : Fin 2) (c : Fin 64) (v : BitVec 32) (s : State) : Out := .next (ceCtrl pf c (withBit v 2) s)
def execCoachReset (pf : Fin 2) (c : Fin 64) (v : BitVec 32) (s : State) : Out := .next (ceCtrl pf c (withBit v 3) s)
def execCoachDisable (pf : Fin 2) (c : Fin 64) (v : BitVec 32) (s : State) : Out := .next (ceCtrl pf c (withoutBit v 0) s)

/-- A write of SQq_CTRL. -/
def sqCtrl (pf : Fin 2) (q : Fin 32) (v : Nat) (s : State) : State := hostWrite pf (0x584004 + 0x40 * q) v s

def execSqEnable (pf : Fin 2) (q : Fin 32) (v : BitVec 32) (s : State) : Out := .next (sqCtrl pf q (withBit v 0) s)
def execSqFlush (pf : Fin 2) (q : Fin 32) (v : BitVec 32) (s : State) : Out := .next (sqCtrl pf q (withBit v 1) s)

def execRsEnable (pf : Fin 2) (v : BitVec 32) (s : State) : Out := .next (hostWrite pf 0x700000 (withBit v 0) s)
def execRsCommit (pf : Fin 2) (v : BitVec 32) (s : State) : Out := .next (hostWrite pf 0x700000 (withBit v 3) s)
def execRsCancel (pf : Fin 2) (v : BitVec 32) (s : State) : Out := .next (hostWrite pf 0x700000 (withBit v 4) s)
def execModeset (pf : Fin 2) (v : BitVec 32) (s : State) : Out := .next (hostWrite pf 0x700000 (withBit v 5) s)

/-- A write of RS_AUX_CTRL with GO, and the sink's reply to it (R483). -/
def auxTransaction (pf : Fin 2) (v : BitVec 32) (reply : Option (List (BitVec 8))) (s : State) : State :=
  (hostWrite pf 0x700050 (withBit v 31) s).auxDone reply

def execAuxTransaction (pf : Fin 2) (v : BitVec 32) (reply : Option (List (BitVec 8))) (s : State) : Out :=
  .next (auxTransaction pf v reply s)

def execPadRelease (pf : Fin 2) (v : BitVec 32) (s : State) : Out := .next (hostWrite pf 0x780074 v.toNat s)
def execDomctrl (pf : Fin 2) (v : BitVec 32) (s : State) : Out := .next (hostWrite pf 0x780070 v.toNat s)
def execHkInject (pf : Fin 2) (x : Fin 2) (v : BitVec 32) (s : State) : Out := .next (hostWrite pf (0x60200 + 4 * x) v.toNat s)

end Sys2Proof.Machine
end

