-- ==== Sys2Proof/Machine/Samples.lean ====
section
/-!
DEFINITION. Samples on their way: input channels to every consumer, chain outputs to every consumer, output samples; and
the control cycle, which carries everything that the device does at a control cycle or an alignment tick.
-/
namespace Sys2Proof.Machine

/-! ## Input channels (R63 to R68) -/

/-- The code of a looped channel for an output code: a full-scale output gives half the input full scale (R99). -/
def loopCode (c : Int) (err : Int) : BitVec 12 := BitVec.ofInt 12 (satS 12 (roundDiv c 8 + err))

/-- The codes of a channel whose input is looped: those of the output's last 16 samples (R99). -/
def State.loopCodes (s : State) (m : Nat) : List (BitVec 12) :=
  let r := (s.dacN m).recent
  (List.replicate (16 - r.length) (0 : BitVec 14) ++ r).zipIdx.map (fun p => loopCode p.1.toInt (Config.loopError (s.fresh + p.2)))

/-- The codes that a channel converts: its input's, or a looped output's (R99). -/
def State.inputCodes (s : State) (n : Nat) (codes : List (BitVec 12)) : State × List (BitVec 12) :=
  let a := s.adcN n
  if a.loopEn then ({ s with freeCtr := s.freeCtr + 16 }, s.loopCodes a.loopSrc) else (s, codes)

/-- The 16 samples of a channel in one fabric cycle go to trigger units, acquisition slots, raw streams and chains. -/
def channelSamples (n sub : Nat) (codes : List (BitVec 12)) (s : State) : State :=
  if !s.clk.released || !s.flag (R.ADC_CTRL_EN n) then s
  else
    let p := s.inputCodes n codes
    let s1 := p.1.channelBus n sub p.2
    let a := s1.adcN n
    let s2 := ((s1.feedRawUnits n sub p.2).feedRawSlots n).feedRaw n sub
    s2.feedChains n (a.bus.zipIdx.map (fun p => (a.busIdx + p.2, p.1)))

def execChannelSamples (n : Fin 8) (sub : Fin 5) (codes : List (BitVec 12)) (s : State) : Out :=
  s.whileRunning (2 + n) (channelSamples n sub codes s)

/-! ## Chain outputs (R114, R115, R128) -/

/-- A detector result goes to the trigger units and the answer table (R124, R318). -/
def State.feedDet (s : State) (n : Nat) (d : DetRes) : State := (s.feedDetUnits n d).feedAnswers n d

/-- A chain output goes to contexts, trigger units and acquisition slots. -/
def State.feedOut (s : State) (n : Nat) (o : ChainOut) : State := ((s.feedContexts n o).feedChainUnits n o).feedChainSlots n o

/-- Chain `n` completes an output. -/
def chainOutput (n : Nat) (s : State) : State :=
  let r := s.chainOutput n
  let s1 := match r.2.1 with
    | some o => r.1.feedOut n o
    | none => r.1
  r.2.2.foldl (fun (t : State) d => t.feedDet n d) s1

def execChainOutput (n : Fin 16) (s : State) : Out := s.whileRunning (0x10 + n) (chainOutput n s)

/-- The hand-over boundary of chain `n` (R128 to R130). -/
def fchHandOver (n : Nat) (s : State) : State :=
  if !s.handOverDue n then s
  else
    let r := s.chainHandOver n
    r.2.foldl (fun (t : State) d => t.feedDet n d) r.1

def execFchHandOver (n : Fin 16) (s : State) : Out := s.whileRunning (0x10 + n) (fchHandOver n s)

/-! ## Output channels (R89 to R93) -/

/-- An output sample falls due: to the converter, and, before it, to the chains that take the loopback of the output (R101, R103). -/
def outputSample (n : Nat) (s : State) : State :=
  (dacSampleDue n s).feedChains (9 + n) [(s.dueIdx n, (s.dueSample n).2)]

def execDacSampleDue (n : Fin 4) (s : State) : Out := s.whileRunning (0x0A + n) (outputSample n s).syncPanic

/-! ## Pins -/

/-- An edge on TRIGINi: a trigger event, or in P3 a wake source (R280, R520). -/
def triginEdgeAt (i : Nat) (rising : Bool) (k : Nat) (s : State) : State :=
  if s.f R.PWR_STATUS_STATE == 3 then (if rising == (s.f (R.TRGIN_CFG_POL i) == 0) then s.p3Wake 5 i else s)
  else triginEdge i rising k s

def execTriginEdge (i : Fin 4) (rising : Bool) (k : Fin 160) (s : State) : Out := .next (triginEdgeAt i rising k s)

/-! ## The control cycle (R10, R56) -/

/-- What falls due at an alignment tick, every second control cycle (R12): stops of slots (R314), the arm of the Trigger Port (R327),
the timing channels (R354, R358), the servo (R379, R380) and written trims (R84). -/
def State.tickWork (s : State) : State := ((((s.acqStops).tpArmTick).tdcTick).servoTick).trimTick

/-- What the blocks in the fabric clock do at a control cycle, and what falls due when an alignment tick begins it. -/
def State.cycleWork (s : State) : State :=
  let s0 := (((((s.fchTick).trgTick).heldTick).dacTick).ansTick).forgeTick
  let s1 := if s0.atTick then s0.tickWork else s0
  let s3 := (s1.sendTimes).grantCredit
  ((s3.ethTick).rsTick).cfgAdvance

/-- A control cycle passes: PTIME, sample index and FAB_FC advance, and then what falls due in it is done. -/
def controlCycle (s : State) : State :=
  let s1 := ptimeIncrement s
  let s2 := if s1.clk.released then s1.cycleWork else s1
  if s2.pwr.dark then s2 else s2.pwrTick

def execPtimeIncrement (s : State) : Out := .next (controlCycle s)

end Sys2Proof.Machine
end

