-- ==== Sys2Proof/Machine/Dispatch.lean ====
section
/-!
DEFINITION. The meaning of every command: one arm per row of spec/opcode_table.json.
-/
namespace Sys2Proof.Machine

def exec (i : Instr) (s : State) : Host.Outcome State Fault Refusal :=
  match i with
  | .registerWrite pf off size full data => Sys2Proof.Machine.execRegisterWrite pf off size full data s
  | .rcRead pf off size full => Sys2Proof.Machine.execRcRead pf off size full s
  | .lowWordRead pf off => Sys2Proof.Machine.execLowWordRead pf off s
  | .highWordRead pf off => Sys2Proof.Machine.execHighWordRead pf off s
  | .lowWordWrite pf off data => Sys2Proof.Machine.execLowWordWrite pf off data s
  | .highWordWrite pf off data => Sys2Proof.Machine.execHighWordWrite pf off data s
  | .blockRequest b tag epoch answered => Sys2Proof.Machine.execBlockRequest b tag epoch answered s
  | .replyReceived b tag epoch => Sys2Proof.Machine.execReplyReceived b tag epoch s
  | .fenceExit b => Sys2Proof.Machine.execFenceExit b s
  | .domainReady d => Sys2Proof.Machine.execDomainReady d s
  | .captureWriterRestart => Sys2Proof.Machine.execCaptureWriterRestart s
  | .porstN => Sys2Proof.Machine.execPorstN s
  | .warmN ns => Sys2Proof.Machine.execWarmN ns s
  | .watchdogExpiry => Sys2Proof.Machine.execWatchdogExpiry s
  | .wdogKick pf v => Sys2Proof.Machine.execWdogKick pf v s
  | .bootStage d => Sys2Proof.Machine.execBootStage d s
  | .hostBootGo pf image => Sys2Proof.Machine.execHostBootGo pf image s
  | .blockReset pf v => Sys2Proof.Machine.execBlockReset pf v s
  | .retune k f => Sys2Proof.Machine.execRetune k f s
  | .bandscan k f => Sys2Proof.Machine.execBandscan k f s
  | .relockQualified => Sys2Proof.Machine.execRelockQualified s
  | .relockTimeout => Sys2Proof.Machine.execRelockTimeout s
  | .clockStageQualified => Sys2Proof.Machine.execClockStageQualified s
  | .lockedRise => Sys2Proof.Machine.execLockedRise s
  | .lockLoss => Sys2Proof.Machine.execLockLoss s
  | .refinEdge k => Sys2Proof.Machine.execRefinEdge k s
  | .ppsinEdge k => Sys2Proof.Machine.execPpsinEdge k s
  | .trackerIntervalClose meas => Sys2Proof.Machine.execTrackerIntervalClose meas s
  | .ptimeIncrement => Sys2Proof.Machine.execPtimeIncrement s
  | .tbModeChange => Sys2Proof.Machine.execTbModeChange s
  | .load pf => Sys2Proof.Machine.execLoad pf s
  | .snap pf => Sys2Proof.Machine.execSnap pf s
  | .ppsoutPulse => Sys2Proof.Machine.execPpsoutPulse s
  | .channelSamples n sub codes => Sys2Proof.Machine.execChannelSamples n sub codes s
  | .adcEnWrite pf n v => Sys2Proof.Machine.execAdcEnWrite pf n v s
  | .dcorApply n => Sys2Proof.Machine.execDcorApply n s
  | .rotationStepStart n => Sys2Proof.Machine.execRotationStepStart n s
  | .plausibilityDecision n spare outgoing => Sys2Proof.Machine.execPlausibilityDecision n spare outgoing s
  | .plausibilityRetry n spare outgoing => Sys2Proof.Machine.execPlausibilityRetry n spare outgoing s
  | .measurementCompare n m1 m2 => Sys2Proof.Machine.execMeasurementCompare n m1 m2 s
  | .handBack n => Sys2Proof.Machine.execHandBack n s
  | .rotHold pf n v => Sys2Proof.Machine.execRotHold pf n v s
  | .trimWrite pf n k skew v => Sys2Proof.Machine.execTrimWrite pf n k skew v s
  | .fpRun pf n v => Sys2Proof.Machine.execFpRun pf n v s
  | .firstPassDone n res => Sys2Proof.Machine.execFirstPassDone n res s
  | .loopbackSwitch n => Sys2Proof.Machine.execLoopbackSwitch n s
  | .dacEnable pf n v => Sys2Proof.Machine.execDacEnable pf n v s
  | .dacStart n => Sys2Proof.Machine.execDacStart n s
  | .dacPrefetchReady n => Sys2Proof.Machine.execDacPrefetchReady n s
  | .dacStop n => Sys2Proof.Machine.execDacStop n s
  | .dacSourceChange n => Sys2Proof.Machine.execDacSourceChange n s
  | .ncoFtwApply n t => Sys2Proof.Machine.execNcoFtwApply n t s
  | .dacSampleDue n => Sys2Proof.Machine.execDacSampleDue n s
  | .synthRecord n samples => Sys2Proof.Machine.execSynthRecord n samples s
  | .fchCommit pf n v => Sys2Proof.Machine.execFchCommit pf n v s
  | .fchChecksDone n => Sys2Proof.Machine.execFchChecksDone n s
  | .fchCancel pf n v => Sys2Proof.Machine.execFchCancel pf n v s
  | .fchEnable pf n v => Sys2Proof.Machine.execFchEnable pf n v s
  | .fchStart n => Sys2Proof.Machine.execFchStart n s
  | .fchDisable pf n v => Sys2Proof.Machine.execFchDisable pf n v s
  | .fchHandOver n => Sys2Proof.Machine.execFchHandOver n s
  | .chainOutput n => Sys2Proof.Machine.execChainOutput n s
  | .frameCut c => Sys2Proof.Machine.execFrameCut c s
  | .localTake f => Sys2Proof.Machine.execLocalTake f s
  | .stealProbe f a lost => Sys2Proof.Machine.execStealProbe f a lost s
  | .pinSegment c => Sys2Proof.Machine.execPinSegment c s
  | .homeMove c f => Sys2Proof.Machine.execHomeMove c f s
  | .fabBudgetWrite pf radius v => Sys2Proof.Machine.execFabBudgetWrite pf radius v s
  | .nop f a => Sys2Proof.Machine.execNop f a s
  | .rep f a => Sys2Proof.Machine.execRep f a s
  | .reps f a => Sys2Proof.Machine.execReps f a s
  | .br f a => Sys2Proof.Machine.execBr f a s
  | .bnz f a => Sys2Proof.Machine.execBnz f a s
  | .bz f a => Sys2Proof.Machine.execBz f a s
  | .sli f a => Sys2Proof.Machine.execSli f a s
  | .slui f a => Sys2Proof.Machine.execSlui f a s
  | .sadd f a => Sys2Proof.Machine.execSadd f a s
  | .ssub f a => Sys2Proof.Machine.execSsub f a s
  | .saddi f a => Sys2Proof.Machine.execSaddi f a s
  | .slog f a => Sys2Proof.Machine.execSlog f a s
  | .ssh f a => Sys2Proof.Machine.execSsh f a s
  | .aimm f a => Sys2Proof.Machine.execAimm f a s
  | .oimm f a => Sys2Proof.Machine.execOimm f a s
  | .limm f a => Sys2Proof.Machine.execLimm f a s
  | .amov f a => Sys2Proof.Machine.execAmov f a s
  | .smova f a => Sys2Proof.Machine.execSmova f a s
  | .rdsat f a => Sys2Proof.Machine.execRdsat f a s
  | .vld f a => Sys2Proof.Machine.execVld f a s
  | .vst f a => Sys2Proof.Machine.execVst f a s
  | .vld2 f a => Sys2Proof.Machine.execVld2 f a s
  | .sld f a => Sys2Proof.Machine.execSld f a s
  | .sst f a => Sys2Proof.Machine.execSst f a s
  | .ald f a => Sys2Proof.Machine.execAld f a s
  | .ast f a => Sys2Proof.Machine.execAst f a s
  | .vadd f a => Sys2Proof.Machine.execVadd f a s
  | .vsub f a => Sys2Proof.Machine.execVsub f a s
  | .vmul f a => Sys2Proof.Machine.execVmul f a s
  | .vmac f a => Sys2Proof.Machine.execVmac f a s
  | .vmax f a => Sys2Proof.Machine.execVmax f a s
  | .vmin f a => Sys2Proof.Machine.execVmin f a s
  | .vshr f a => Sys2Proof.Machine.execVshr f a s
  | .vshl f a => Sys2Proof.Machine.execVshl f a s
  | .vlog f a => Sys2Proof.Machine.execVlog f a s
  | .vswap f a => Sys2Proof.Machine.execVswap f a s
  | .aclr f a => Sys2Proof.Machine.execAclr f a s
  | .arnd f a => Sys2Proof.Machine.execArnd f a s
  | .vbcast f a => Sys2Proof.Machine.execVbcast f a s
  | .vlane f a => Sys2Proof.Machine.execVlane f a s
  | .cmul f a => Sys2Proof.Machine.execCmul f a s
  | .cmac f a => Sys2Proof.Machine.execCmac f a s
  | .bfly4 f a => Sys2Proof.Machine.execBfly4 f a s
  | .bfly2 f a => Sys2Proof.Machine.execBfly2 f a s
  | .win f a => Sys2Proof.Machine.execWin f a s
  | .mag2 f a => Sys2Proof.Machine.execMag2 f a s
  | .mag2Db f a => Sys2Proof.Machine.execMag2Db f a s
  | .log2a f a => Sys2Proof.Machine.execLog2a f a s
  | .vmaxi f a => Sys2Proof.Machine.execVmaxi f a s
  | .vmini f a => Sys2Proof.Machine.execVmini f a s
  | .hist f a => Sys2Proof.Machine.execHist f a s
  | .move f a => Sys2Proof.Machine.execMove f a s
  | .moveComplete f a wait errs => Sys2Proof.Machine.execMoveComplete f a wait errs s
  | .tload f a => Sys2Proof.Machine.execTload f a s
  | .bdone f a => Sys2Proof.Machine.execBdone f a s
  | .brk f a => Sys2Proof.Machine.execBrk f a s
  | .publishCopyEnd f a => Sys2Proof.Machine.execPublishCopyEnd f a s
  | .runaway f a => Sys2Proof.Machine.execRunaway f a s
  | .machineCheck f a kind uaddr => Sys2Proof.Machine.execMachineCheck f a kind uaddr s
  | .forgeReloadStep f ok => Sys2Proof.Machine.execForgeReloadStep f ok s
  | .debugHalt pf f v => Sys2Proof.Machine.execDebugHalt pf f v s
  | .haltApplied f a => Sys2Proof.Machine.execHaltApplied f a s
  | .debugRelease pf f v => Sys2Proof.Machine.execDebugRelease pf f v s
  | .dbgSdataRead pf f => Sys2Proof.Machine.execDbgSdataRead pf f s
  | .nopCommand k f => Sys2Proof.Machine.execNopCommand k f s
  | .cancel k f => Sys2Proof.Machine.execCancel k f s
  | .calSweep k f => Sys2Proof.Machine.execCalSweep k f s
  | .kernelLoad k f => Sys2Proof.Machine.execKernelLoad k f s
  | .ucodeLoad k f => Sys2Proof.Machine.execUcodeLoad k f s
  | .forgeReload k f => Sys2Proof.Machine.execForgeReload k f s
  | .forgeOffline k f => Sys2Proof.Machine.execForgeOffline k f s
  | .ctxStart k f => Sys2Proof.Machine.execCtxStart k f s
  | .ctxStop k f => Sys2Proof.Machine.execCtxStop k f s
  | .ctxModify k f => Sys2Proof.Machine.execCtxModify k f s
  | .densClear k f => Sys2Proof.Machine.execDensClear k f s
  | .memClear k f => Sys2Proof.Machine.execMemClear k f s
  | .clArm k f => Sys2Proof.Machine.execClArm k f s
  | .clArmTimeout => Sys2Proof.Machine.execClArmTimeout s
  | .cfgSwitch k f => Sys2Proof.Machine.execCfgSwitch k f s
  | .cfgRevert k f => Sys2Proof.Machine.execCfgRevert k f s
  | .cfgSave k f => Sys2Proof.Machine.execCfgSave k f s
  | .cfgAnswerDeadline => Sys2Proof.Machine.execCfgAnswerDeadline s
  | .cfgActivate => Sys2Proof.Machine.execCfgActivate s
  | .imageVerify k f => Sys2Proof.Machine.execImageVerify k f s
  | .attest k f => Sys2Proof.Machine.execAttest k f s
  | .secAssign k f => Sys2Proof.Machine.execSecAssign k f s
  | .secRegion k f => Sys2Proof.Machine.execSecRegion k f s
  | .keyRevoke k f => Sys2Proof.Machine.execKeyRevoke k f s
  | .pwrState k f => Sys2Proof.Machine.execPwrState k f s
  | .triginEdge t rising k => Sys2Proof.Machine.execTriginEdge t rising k s
  | .eventArrival u => Sys2Proof.Machine.execEventArrival u s
  | .termEvaluate t => Sys2Proof.Machine.execTermEvaluate t s
  | .trgCommit pf v => Sys2Proof.Machine.execTrgCommit pf v s
  | .trgCancel pf v => Sys2Proof.Machine.execTrgCancel pf v s
  | .trgHandOver => Sys2Proof.Machine.execTrgHandOver s
  | .trgIoApply => Sys2Proof.Machine.execTrgIoApply s
  | .acqArm pf n v => Sys2Proof.Machine.execAcqArm pf n v s
  | .acqWriteStart n => Sys2Proof.Machine.execAcqWriteStart n s
  | .prefillComplete n => Sys2Proof.Machine.execPrefillComplete n s
  | .windowComplete n => Sys2Proof.Machine.execWindowComplete n s
  | .rearmDone n => Sys2Proof.Machine.execRearmDone n s
  | .acqStop pf n v => Sys2Proof.Machine.execAcqStop pf n v s
  | .tpQuery v q => Sys2Proof.Machine.execTpQuery v q s
  | .answerUpdate e src value => Sys2Proof.Machine.execAnswerUpdate e src value s
  | .accept k => Sys2Proof.Machine.execAccept k s
  | .reject k => Sys2Proof.Machine.execReject k s
  | .tpArm k => Sys2Proof.Machine.execTpArm k s
  | .mark k => Sys2Proof.Machine.execMark k s
  | .tpReservedCommand code => Sys2Proof.Machine.execTpReservedCommand code s
  | .tpclkLoss => Sys2Proof.Machine.execTpclkLoss s
  | .linkTrain k r => Sys2Proof.Machine.execLinkTrain k r s
  | .linkLos k => Sys2Proof.Machine.execLinkLos k s
  | .linkAutoRetrain k => Sys2Proof.Machine.execLinkAutoRetrain k s
  | .timeCarriage k c trx => Sys2Proof.Machine.execTimeCarriage k c trx s
  | .armCarriage k c => Sys2Proof.Machine.execArmCarriage k c s
  | .armActivate => Sys2Proof.Machine.execArmActivate s
  | .fireUp k c => Sys2Proof.Machine.execFireUp k c s
  | .fireDown k c => Sys2Proof.Machine.execFireDown k c s
  | .cfgswPrepare k c => Sys2Proof.Machine.execCfgswPrepare k c s
  | .cfgswCommit k c => Sys2Proof.Machine.execCfgswCommit k c s
  | .cfgswAbort k c => Sys2Proof.Machine.execCfgswAbort k c s
  | .cfgPrepareExpiry => Sys2Proof.Machine.execCfgPrepareExpiry s
  | .dataCarriage k c parity => Sys2Proof.Machine.execDataCarriage k c parity s
  | .credit k c => Sys2Proof.Machine.execCredit k c s
  | .ack k c => Sys2Proof.Machine.execAck k c s
  | .ackTimeout k => Sys2Proof.Machine.execAckTimeout k s
  | .tinEdge c falling k n => Sys2Proof.Machine.execTinEdge c falling k n s
  | .tdcEnable pf c v => Sys2Proof.Machine.execTdcEnable pf c v s
  | .tdcPop pf c => Sys2Proof.Machine.execTdcPop pf c s
  | .tdcBatchEmit c => Sys2Proof.Machine.execTdcBatchEmit c s
  | .gateEnd c => Sys2Proof.Machine.execGateEnd c s
  | .tdcTempUpdate t => Sys2Proof.Machine.execTdcTempUpdate t s
  | .ptpRx p frame uncorr arr => Sys2Proof.Machine.execPtpRx p frame uncorr arr s
  | .ethRxFrame p frame uncorr arr => Sys2Proof.Machine.execEthRxFrame p frame uncorr arr s
  | .timedLaunch q dev tx => Sys2Proof.Machine.execTimedLaunch q dev tx s
  | .txtsRead pf => Sys2Proof.Machine.execTxtsRead pf s
  | .ntIncrWrite pf v => Sys2Proof.Machine.execNtIncrWrite pf v s
  | .ntStepWrite pf v => Sys2Proof.Machine.execNtStepWrite pf v s
  | .ntStepApply => Sys2Proof.Machine.execNtStepApply s
  | .servoWatchdog => Sys2Proof.Machine.execServoWatchdog s
  | .memInitDone => Sys2Proof.Machine.execMemInitDone s
  | .portRequest p client wait errs => Sys2Proof.Machine.execPortRequest p client wait errs s
  | .writeQueueDrain m => Sys2Proof.Machine.execWriteQueueDrain m s
  | .refreshDue => Sys2Proof.Machine.execRefreshDue s
  | .owedRefreshIssue => Sys2Proof.Machine.execOwedRefreshIssue s
  | .forcedRefreshStart => Sys2Proof.Machine.execForcedRefreshStart s
  | .forcedRefreshTimeout => Sys2Proof.Machine.execForcedRefreshTimeout s
  | .stackTemperature m t => Sys2Proof.Machine.execStackTemperature m t s
  | .scrubRead m errs => Sys2Proof.Machine.execScrubRead m errs s
  | .perstN low => Sys2Proof.Machine.execPerstN low s
  | .hotReset => Sys2Proof.Machine.execHotReset s
  | .flr pf => Sys2Proof.Machine.execFlr pf s
  | .cmdTail pf k v => Sys2Proof.Machine.execCmdTail pf k v s
  | .cplHead pf k v => Sys2Proof.Machine.execCplHead pf k v s
  | .ringEnable pf k v => Sys2Proof.Machine.execRingEnable pf k v s
  | .ringDisable pf k v => Sys2Proof.Machine.execRingDisable pf k v s
  | .coachmanRound => Sys2Proof.Machine.execCoachmanRound s
  | .coachDoorbell pf c v => Sys2Proof.Machine.execCoachDoorbell pf c v s
  | .coachEnable pf c v => Sys2Proof.Machine.execCoachEnable pf c v s
  | .descriptorProcess c desc => Sys2Proof.Machine.execDescriptorProcess c desc s
  | .coachBurstGrant data errs parity => Sys2Proof.Machine.execCoachBurstGrant data errs parity s
  | .readBackReturn c ok => Sys2Proof.Machine.execReadBackReturn c ok s
  | .descriptorCloseTimeout c => Sys2Proof.Machine.execDescriptorCloseTimeout c s
  | .sqInPacketEnter c => Sys2Proof.Machine.execSqInPacketEnter c s
  | .coachStop pf c v => Sys2Proof.Machine.execCoachStop pf c v s
  | .coachStart pf c v => Sys2Proof.Machine.execCoachStart pf c v s
  | .coachReset pf c v => Sys2Proof.Machine.execCoachReset pf c v s
  | .coachDisable pf c v => Sys2Proof.Machine.execCoachDisable pf c v s
  | .sqPacketWrite q producer poison index body => Sys2Proof.Machine.execSqPacketWrite q producer poison index body s
  | .sqEnable pf q v => Sys2Proof.Machine.execSqEnable pf q v s
  | .sqFlush pf q v => Sys2Proof.Machine.execSqFlush pf q v s
  | .flushAct q => Sys2Proof.Machine.execFlushAct q s
  | .ethEgress p bad tx => Sys2Proof.Machine.execEthEgress p bad tx s
  | .contextPacket q => Sys2Proof.Machine.execContextPacket q s
  | .hpdChange plugged irq => Sys2Proof.Machine.execHpdChange plugged irq s
  | .rsTrain ok => Sys2Proof.Machine.execRsTrain ok s
  | .rsEnable pf v => Sys2Proof.Machine.execRsEnable pf v s
  | .rsCommit pf v => Sys2Proof.Machine.execRsCommit pf v s
  | .rsCancel pf v => Sys2Proof.Machine.execRsCancel pf v s
  | .modeset pf v => Sys2Proof.Machine.execModeset pf v s
  | .sampleInstant => Sys2Proof.Machine.execSampleInstant s
  | .frontPorchEnd => Sys2Proof.Machine.execFrontPorchEnd s
  | .densMapStart => Sys2Proof.Machine.execDensMapStart s
  | .mapperDone => Sys2Proof.Machine.execMapperDone s
  | .crcCheck k => Sys2Proof.Machine.execCrcCheck k s
  | .auxTransaction pf v reply => Sys2Proof.Machine.execAuxTransaction pf v reply s
  | .p1IdleGate d => Sys2Proof.Machine.execP1IdleGate d s
  | .padRelease pf v => Sys2Proof.Machine.execPadRelease pf v s
  | .domctrl pf v => Sys2Proof.Machine.execDomctrl pf v s
  | .wakeAt => Sys2Proof.Machine.execWakeAt s
  | .avsTimeout => Sys2Proof.Machine.execAvsTimeout s
  | .pmbusPoll rails => Sys2Proof.Machine.execPmbusPoll rails s
  | .pmAlert rail => Sys2Proof.Machine.execPmAlert rail s
  | .hkSequenceTick => Sys2Proof.Machine.execHkSequenceTick s
  | .hkConversion x code => Sys2Proof.Machine.execHkConversion x code s
  | .hkInject pf x v => Sys2Proof.Machine.execHkInject pf x v s
  | .hkCalRequest x => Sys2Proof.Machine.execHkCalRequest x s
  | .hkCalDone x z1 r1 z2 r2 => Sys2Proof.Machine.execHkCalDone x z1 r1 z2 r2 s
  | .thermtrip sensor => Sys2Proof.Machine.execThermtrip sensor s
  | .tpclkEdge k => Sys2Proof.Machine.execTpclkEdge k s
  | .tpclkMeasurement hz => Sys2Proof.Machine.execTpclkMeasurement hz s
  | .ethLinkChange p line an => Sys2Proof.Machine.execEthLinkChange p line an s
  | .badOpcode f a => Sys2Proof.Machine.execBadOpcode f a s
  | .hostReadCompletion what n data => Sys2Proof.Machine.execHostReadCompletion what n data s
  | .pcieLinkTraining up gen width reversed flit => Sys2Proof.Machine.execPcieLinkTraining up gen width reversed flit s
  | .vddAonLoss => Sys2Proof.Machine.execVddAonLoss s

end Sys2Proof.Machine
end

