-- ==== Sys2Proof/Safety.lean ====
section
/-!
DEFINITION. What the claims call a safe run: the two sparse forms in which State holds the registers and the memories are
canonical, so that equal contents are equal data, and a step stops the device in no way.
-/
namespace Sys2Proof.Machine

/-- The canonical form of the memories: addresses strictly rising, and no entry that reads as an unlisted byte. -/
def MemSt.wf (m : MemSt) : Bool := twf byteDflt m.bytes

/-- The canonical form of the register words. -/
def State.regsWf (s : State) : Bool := twf resetWord s.regs

/-- Registers and memories are in canonical form. -/
def State.Inv (s : State) : Prop := s.regsWf = true ∧ s.mem.wf = true

/-- The command answers a next state, and that state satisfies `P`. -/
def Ends (o : Host.Outcome State Fault Refusal) (P : State → Prop) : Prop := ∃ t, o = .next t ∧ P t

/-- Two register fields that share no bit: their words are apart, or they are apart within the same words. -/
def Fld.apart (x y : Fld) : Prop :=
  x.base + 4 * x.words ≤ y.base ∨ y.base + 4 * y.words ≤ x.base ∨
    (x.base = y.base ∧ x.words = y.words ∧ (x.lo % 32 + x.wd ≤ y.lo % 32 ∨ y.lo % 32 + y.wd ≤ x.lo % 32))

/-- Every register field that shares no bit with one of `xs` keeps its value. -/
def FieldsKept (xs : List Fld) (s t : State) : Prop := ∀ y : Fld, (∀ x ∈ xs, x.apart y) → t.f y = s.f y

/-- Every register word at an offset where `W` is false keeps its value. -/
def WordsKept (W : Nat → Prop) (s t : State) : Prop := ∀ off, ¬ W off → t.word off = s.word off

/-- The byte of a memory space at an address (R540). -/
def State.byteAt (s : State) (sp a : Nat) : BitVec 8 := tget byteDflt s.mem.bytes (memKey sp a)

/-- Every byte of every memory reads as before. -/
def BytesKept (s t : State) : Prop := ∀ sp a, t.byteAt sp a = s.byteAt sp a

/-- An access through function `pf` reaches a register: the endpoint serves, the boot is over, the world may reach it, and
the block does not sleep. -/
abbrev State.Reaches (s : State) (pf off : Nat) : Prop :=
  s.reaches pf = true ∧ s.early off = false ∧ s.worldRefused pf off = false ∧ s.holds off = none ∧ s.noSec off = false ∧
    ∀ b, gatedBlock off = some b → s.domState (domOf b) ≠ dGated

/-- A write through function `pf` meets no refusal at a register: it reaches it, and no setting of the word is pending or
held by a switch. -/
abbrev State.Opens (s : State) (pf off : Nat) : Prop :=
  s.Reaches pf off ∧ (∀ w, writeSpec off = some w → w.rwl ≠ 0 → (s.rwlLock off).1 = false) ∧ s.cfgHolds (writeOff off) = false

/-- Ring `k` starts the fetched command: it runs and has an entry announced, the command's world and its reserved bits are
right, no later entry was cancelled, and its completion finds room and a host that hears it. -/
abbrev State.Starts (s : State) (k : Nat) (f : Fetch) (long secure : Bool) (masks : List Nat) : Prop :=
  s.canStart k f.entry long = true ∧ (secure = true → s.ringSecure k = true) ∧ f.entry.clean masks = true ∧
    s.cmdSize k ≤ 2 ^ 12 ∧ s.host.cancelled = [] ∧ s.cplFull k = false ∧ (∀ w ∈ s.host.waiting, w.ring ≠ k) ∧ s.hostOff = false

/-- The command was fetched (HEAD is one further on) and completed: the two posted writes of its completion entry, the
status word second, stand one after the other in what the device sent (R429, R433, Table 12-3). -/
def Completed (s t : State) (k : Nat) (f : Fetch) (status result : Nat) : Prop :=
  let size := s.cmdSize k
  let head := (s.f (R.HI_RING_PTR_HEAD k) + 1) % size
  let a := s.f (R.HI_RING_CBASE k) + 16 * s.f (R.HI_RING_CPTR_CTAIL k)
  t.f (R.HI_RING_PTR_HEAD k) = head ∧
    ∃ pre post, t.out = s.out ++ pre ++
      [.hostWrite (a + 4) (leBytes 2 1 ++ leBytes 2 head ++ leBytes 8 result),
       .hostWrite a (leBytes 2 f.entry.tag.toNat ++ leBytes 1 status ++ leBytes 1 (s.f (R.HI_RING_CPTR_PHASE k)))] ++ post

/-- The command was fetched and goes on as a long command of the coachman, behind those in progress (R434). -/
def Continues (s t : State) (k : Nat) (f : Fetch) : Prop :=
  t.f (R.HI_RING_PTR_HEAD k) = (s.f (R.HI_RING_PTR_HEAD k) + 1) % s.cmdSize k ∧
    (∃ c : LongCmd, t.host.longs = s.host.longs ++ [c] ∧ c.ring = k ∧ c.entry.tag = f.entry.tag ∧ c.reads = f.reads ∧ c.stopped = false) ∧
    t.f R.HI_WORK_LONG = s.host.longs.length + 1

/-- The command was fetched and waits as a deferred command for a target. -/
def Waits (s t : State) (k : Nat) (f : Fetch) (target : Nat) : Prop :=
  t.f (R.HI_RING_PTR_HEAD k) = (s.f (R.HI_RING_PTR_HEAD k) + 1) % s.cmdSize k ∧
    ∃ c : DefCmd, c ∈ t.host.defs ∧ c.ring = k ∧ c.entry.tag = f.entry.tag ∧ c.target = target ∧ c.stopped = false

/-- A received carriage counts on lane `k` (R332): the link runs, its codeword came without errors, the CRC holds and the type is `type_`. -/
abbrev State.Hears (s : State) (k : Nat) (c : Carriage) (type_ : Nat) : Prop :=
  s.linkUp k = true ∧ c.errs = 0 ∧ carCrcOk c = true ∧ c.type_.toNat = type_

/-- No block of a domain has accepted a request that it has not answered, or has a reply out. -/
def State.quiet (s : State) (d : Nat) : Prop :=
  ∀ b ∈ domBlocks d, (∀ r ∈ s.fence.accepted, r.block ≠ b) ∧ ∀ r ∈ s.fence.replies, r.1.block ≠ b

/-- The words of the error log (R573). -/
def LogWord (off : Nat) : Prop := off = 0x264 ∨ off = 0x268 ∨ (0x1000 ≤ off ∧ off < 0x5000)

/-- The micro-routine of the instruction at an anvil's PC (R222): its cycles, the micro-PC that it leaves, and the free values that it
uses; zeros where no routine ends it. -/
def State.issued (s : State) (f a : Nat) : Nat × Nat × Nat :=
  match s.issue f a with
  | .run cyc upc uses => (cyc, upc, uses)
  | _ => (0, 0, 0)

/-- The dispatch of the instruction at an anvil's PC finds good parity and a valid entry, and its micro-routine ends (R221, R222). -/
abbrev State.Routine (s : State) (f a : Nat) : Prop :=
  s.issue f a = .run (s.issued f a).1 (s.issued f a).2.1 (s.issued f a).2.2

/-- The PC after one execution of an instruction: it stays while a repeat goes on (R212). -/
def State.nextPc (s : State) (f a : Nat) : Nat :=
  if 1 < (s.anvN f a).rep then (s.anvN f a).pc else (s.anvN f a).pc + 1

/-- Anvil `a` of forge `f` executes an instruction of an opcode to its end, alone or in a repeat: its micro-routine ends, where it is
the last of its repeat nothing waits for its boundary, and the next word is in the image. -/
abbrev State.Steps (s : State) (f a op : Nat) : Prop :=
  s.anvRuns f a = true ∧ bitsOf (s.insWord f a) 24 8 = op ∧ s.Routine f a ∧
    ((s.anvN f a).rep ≤ 1 → s.forgeUp f = true ∧ s.haltWaits f a = false ∧ (s.anvN f a).gone = false) ∧
    (s.anvN f a).kLo ≤ s.nextPc f a ∧ s.nextPc f a < (s.anvN f a).kHi ∧ (s.anvN f a).kHi ≤ 16384

/-- The state in which an anvil has run an instruction: it is `y`, with PC and repeat count as given, and the cycles, the micro-PC and the
free values of the instruction's routine taken. -/
def State.ranTo (s : State) (f a pc rep : Nat) (y : AnvSt) : State :=
  { s.setAnv f a { y with pc := pc, rep := rep, cyc := (s.anvN f a).cyc + (s.issued f a).1, upc := (s.issued f a).2.1 } with
    freeCtr := s.freeCtr + (s.issued f a).2.2 }

/-- The state after one execution of an instruction that may be repeated. -/
def State.stepsTo (s : State) (f a : Nat) (y : AnvSt) : State := s.ranTo f a (s.nextPc f a) ((s.anvN f a).rep - 1) y

end Sys2Proof.Machine
end

