-- ==== Sys2Proof/WellFormed.lean ====
section
/-!
DEFINITION. The commands that can reach the device: operands of the shapes that the rules give them. A command that is
not well formed is no event of the hardware; exec is total on it all the same.
-/
namespace Sys2Proof

/-- The codes fit the trims of Table 3-1. -/
def TrimSet.wf (t : TrimSet) : Bool :=
  decide (-512 ≤ t.ofs) && decide (t.ofs ≤ 511) && decide (-512 ≤ t.gain) && decide (t.gain ≤ 511) && decide (t.skew < 4096)
    && decide (t.bw < 64)

/-- The seven parameter words of a command entry (Table 12-2). -/
def CmdEntry.wf (e : CmdEntry) : Bool := e.params.length == 7

/-- A fetched command holds a whole entry. -/
def Fetch.wf (f : Fetch) : Bool := f.entry.wf

/-- Errors in rising sectors: a corrected symbol 0 to 66, 127 with the 64 bytes as read, or 128 (R404 to R406). -/
def secErrsWf (errs : List SecErr) : Bool :=
  errs.all (fun e => decide (e.symbol < 67) || e.symbol == 128 || (e.symbol == 127 && e.data.length == 64))
    && (errs.zip (errs.drop 1)).all (fun p => decide (p.1.at_ < p.2.at_))

/-- A PTIME as a 128-bit word: the nanoseconds field is below 10^9 (R55). -/
def ptimeWf (t : BitVec 128) : Bool := decide (t.toNat / 2 ^ 32 % 2 ^ 32 < 1000000000)

/-- A received frame holds an Ethernet header and its FCS at least (R474). -/
def frameWf (f : List (BitVec 8)) : Bool := decide (18 ≤ f.length)

/-- A failing step of link training is one of its four, and the lane one of the peer's sixteen (R336, R337). -/
def TrainResult.wf (r : TrainResult) : Bool := decide (r.failStep ≤ 4) && decide (r.peerLane < 16)

/-- The reserved codes of Table 9-4. -/
def tpReservedCode (code : Fin 16) : Bool := decide (5 ≤ code.val)

/-- A reply of the sink carries 1 to 16 data bytes, or none for a write (R483). -/
def auxReplyWf : Option (List (BitVec 8)) → Bool
  | none => true
  | some bs => decide (bs.length ≤ 16)

/-- Whether a command is well formed. -/
def Instr.wf : Instr → Bool
  | .registerWrite _ _ size _ data => decide (1 ≤ size.val) && decide (data.toNat < 2 ^ (8 * size.val))
  | .rcRead _ _ size _ => decide (1 ≤ size.val)
  | .lowWordRead _ off => off.toNat % 8 == 0
  | .highWordRead _ off => off.toNat % 8 == 4
  | .lowWordWrite _ off _ => off.toNat % 8 == 0
  | .highWordWrite _ off _ => off.toNat % 8 == 4
  | .blockRequest _ _ _ _ => true
  | .replyReceived _ _ _ => true
  | .fenceExit _ => true
  | .domainReady _ => true
  | .captureWriterRestart => true
  | .porstN => true
  | .warmN _ => true
  | .watchdogExpiry => true
  | .wdogKick _ _ => true
  | .bootStage _ => true
  | .hostBootGo _ _ => true
  | .blockReset _ _ => true
  | .retune _ f => f.wf
  | .bandscan _ f => f.wf
  | .relockQualified => true
  | .relockTimeout => true
  | .clockStageQualified => true
  | .lockedRise => true
  | .lockLoss => true
  | .refinEdge _ => true
  | .ppsinEdge _ => true
  | .trackerIntervalClose _ => true
  | .ptimeIncrement => true
  | .tbModeChange => true
  | .load _ => true
  | .snap _ => true
  | .ppsoutPulse => true
  | .channelSamples _ _ codes => codes.length == 16
  | .adcEnWrite _ _ _ => true
  | .dcorApply _ => true
  | .rotationStepStart _ => true
  | .plausibilityDecision _ spare outgoing => spare.length == 4096 && outgoing.length == 4096
  | .plausibilityRetry _ spare outgoing => spare.length == 4096 && outgoing.length == 4096
  | .measurementCompare _ m1 m2 => m1.wf && m2.wf
  | .handBack _ => true
  | .rotHold _ _ _ => true
  | .trimWrite _ _ _ _ _ => true
  | .fpRun _ _ _ => true
  | .firstPassDone _ res => res.length == 33 && res.all (fun x => decide (x.length ≤ 4) && x.all (fun p => p.1.wf && p.2.wf))
  | .loopbackSwitch _ => true
  | .dacEnable _ _ _ => true
  | .dacStart _ => true
  | .dacPrefetchReady _ => true
  | .dacStop _ => true
  | .dacSourceChange _ => true
  | .ncoFtwApply _ _ => true
  | .dacSampleDue _ => true
  | .synthRecord _ _ => true
  | .fchCommit _ _ _ => true
  | .fchChecksDone _ => true
  | .fchCancel _ _ _ => true
  | .fchEnable _ _ _ => true
  | .fchStart _ => true
  | .fchDisable _ _ _ => true
  | .fchHandOver _ => true
  | .chainOutput _ => true
  | .frameCut _ => true
  | .localTake _ => true
  | .stealProbe _ _ _ => true
  | .pinSegment _ => true
  | .homeMove _ _ => true
  | .fabBudgetWrite _ _ _ => true
  | .nop _ _ => true
  | .rep _ _ => true
  | .reps _ _ => true
  | .br _ _ => true
  | .bnz _ _ => true
  | .bz _ _ => true
  | .sli _ _ => true
  | .slui _ _ => true
  | .sadd _ _ => true
  | .ssub _ _ => true
  | .saddi _ _ => true
  | .slog _ _ => true
  | .ssh _ _ => true
  | .aimm _ _ => true
  | .oimm _ _ => true
  | .limm _ _ => true
  | .amov _ _ => true
  | .smova _ _ => true
  | .rdsat _ _ => true
  | .vld _ _ => true
  | .vst _ _ => true
  | .vld2 _ _ => true
  | .sld _ _ => true
  | .sst _ _ => true
  | .ald _ _ => true
  | .ast _ _ => true
  | .vadd _ _ => true
  | .vsub _ _ => true
  | .vmul _ _ => true
  | .vmac _ _ => true
  | .vmax _ _ => true
  | .vmin _ _ => true
  | .vshr _ _ => true
  | .vshl _ _ => true
  | .vlog _ _ => true
  | .vswap _ _ => true
  | .aclr _ _ => true
  | .arnd _ _ => true
  | .vbcast _ _ => true
  | .vlane _ _ => true
  | .cmul _ _ => true
  | .cmac _ _ => true
  | .bfly4 _ _ => true
  | .bfly2 _ _ => true
  | .win _ _ => true
  | .mag2 _ _ => true
  | .mag2Db _ _ => true
  | .log2a _ _ => true
  | .vmaxi _ _ => true
  | .vmini _ _ => true
  | .hist _ _ => true
  | .move _ _ => true
  | .moveComplete _ _ _ errs => secErrsWf errs
  | .tload _ _ => true
  | .bdone _ _ => true
  | .brk _ _ => true
  | .publishCopyEnd _ _ => true
  | .runaway _ _ => true
  | .machineCheck _ _ _ _ => true
  | .forgeReloadStep _ _ => true
  | .debugHalt _ _ _ => true
  | .haltApplied _ _ => true
  | .debugRelease _ _ _ => true
  | .dbgSdataRead _ _ => true
  | .nopCommand _ f => f.wf
  | .cancel _ f => f.wf
  | .calSweep _ f => f.wf
  | .kernelLoad _ f => f.wf
  | .ucodeLoad _ f => f.wf
  | .forgeReload _ f => f.wf
  | .forgeOffline _ f => f.wf
  | .ctxStart _ f => f.wf
  | .ctxStop _ f => f.wf
  | .ctxModify _ f => f.wf
  | .densClear _ f => f.wf
  | .memClear _ f => f.wf
  | .clArm _ f => f.wf
  | .clArmTimeout => true
  | .cfgSwitch _ f => f.wf
  | .cfgRevert _ f => f.wf
  | .cfgSave _ f => f.wf
  | .cfgAnswerDeadline => true
  | .cfgActivate => true
  | .imageVerify _ f => f.wf
  | .attest _ f => f.wf
  | .secAssign _ f => f.wf
  | .secRegion _ f => f.wf
  | .keyRevoke _ f => f.wf
  | .pwrState _ f => f.wf
  | .triginEdge _ _ _ => true
  | .eventArrival _ => true
  | .termEvaluate _ => true
  | .trgCommit _ _ => true
  | .trgCancel _ _ => true
  | .trgHandOver => true
  | .trgIoApply => true
  | .acqArm _ _ _ => true
  | .acqWriteStart _ => true
  | .prefillComplete _ => true
  | .windowComplete _ => true
  | .rearmDone _ => true
  | .acqStop _ _ _ => true
  | .tpQuery _ _ => true
  | .answerUpdate _ _ _ => true
  | .accept _ => true
  | .reject _ => true
  | .tpArm _ => true
  | .mark _ => true
  | .tpReservedCommand code => tpReservedCode code
  | .tpclkLoss => true
  | .linkTrain _ r => r.wf
  | .linkLos _ => true
  | .linkAutoRetrain _ => true
  | .timeCarriage _ _ trx => ptimeWf trx
  | .armCarriage _ _ => true
  | .armActivate => true
  | .fireUp _ _ => true
  | .fireDown _ _ => true
  | .cfgswPrepare _ _ => true
  | .cfgswCommit _ _ => true
  | .cfgswAbort _ _ => true
  | .cfgPrepareExpiry => true
  | .dataCarriage _ _ _ => true
  | .credit _ _ => true
  | .ack _ _ => true
  | .ackTimeout _ => true
  | .tinEdge _ _ _ _ => true
  | .tdcEnable _ _ _ => true
  | .tdcPop _ _ => true
  | .tdcBatchEmit _ => true
  | .gateEnd _ => true
  | .tdcTempUpdate _ => true
  | .ptpRx _ frame _ arr => frameWf frame && ptimeWf arr
  | .ethRxFrame _ frame _ arr => frameWf frame && ptimeWf arr
  | .timedLaunch _ _ tx => ptimeWf tx
  | .txtsRead _ => true
  | .ntIncrWrite _ _ => true
  | .ntStepWrite _ _ => true
  | .ntStepApply => true
  | .servoWatchdog => true
  | .memInitDone => true
  | .portRequest _ _ _ errs => secErrsWf errs
  | .writeQueueDrain _ => true
  | .refreshDue => true
  | .owedRefreshIssue => true
  | .forcedRefreshStart => true
  | .forcedRefreshTimeout => true
  | .stackTemperature _ _ => true
  | .scrubRead _ errs => secErrsWf errs
  | .perstN _ => true
  | .hotReset => true
  | .flr _ => true
  | .cmdTail _ _ _ => true
  | .cplHead _ _ _ => true
  | .ringEnable _ _ _ => true
  | .ringDisable _ _ _ => true
  | .coachmanRound => true
  | .coachDoorbell _ _ _ => true
  | .coachEnable _ _ _ => true
  | .descriptorProcess _ _ => true
  | .coachBurstGrant _ errs _ => secErrsWf errs
  | .readBackReturn _ _ => true
  | .descriptorCloseTimeout _ => true
  | .sqInPacketEnter _ => true
  | .coachStop _ _ _ => true
  | .coachStart _ _ _ => true
  | .coachReset _ _ _ => true
  | .coachDisable _ _ _ => true
  | .sqPacketWrite _ _ _ _ _ => true
  | .sqEnable _ _ _ => true
  | .sqFlush _ _ _ => true
  | .flushAct _ => true
  | .ethEgress _ _ tx => ptimeWf tx
  | .contextPacket _ => true
  | .hpdChange _ _ => true
  | .rsTrain _ => true
  | .rsEnable _ _ => true
  | .rsCommit _ _ => true
  | .rsCancel _ _ => true
  | .modeset _ _ => true
  | .sampleInstant => true
  | .frontPorchEnd => true
  | .densMapStart => true
  | .mapperDone => true
  | .crcCheck _ => true
  | .auxTransaction _ _ reply => auxReplyWf reply
  | .p1IdleGate _ => true
  | .padRelease _ _ => true
  | .domctrl _ _ => true
  | .wakeAt => true
  | .avsTimeout => true
  | .pmbusPoll rails => rails.length == 8
  | .pmAlert _ => true
  | .hkSequenceTick => true
  | .hkConversion _ _ => true
  | .hkInject _ _ _ => true
  | .hkCalRequest _ => true
  | .hkCalDone _ _ _ _ _ => true
  | .thermtrip _ => true
  | .tpclkEdge _ => true
  | .tpclkMeasurement _ => true
  | .ethLinkChange _ _ _ => true
  | .badOpcode _ _ => true
  | .hostReadCompletion _ _ _ => true
  | .pcieLinkTraining _ _ _ _ _ => true
  | .vddAonLoss => true

end Sys2Proof
end

