-- ==== Sys2Proof/Certificates/Slice0/Obligations.lean ====
section
/-!
DEFINITION. The statements about the device, each a rule of the spec or a consequence of its rules.
-/
open Sys2Proof Sys2Proof.Machine

/-- For every command `c` and state `s`, a step of `s` with `c` at the front of its queue and `rest` behind it is `exec c` on `s` with the queue `rest`; on an empty queue the device idles, which is the model's choice (log entry 1). -/
def Obligations.StepRunsFrontCommand : Prop :=
  (∀ (c : Instr) (rest : List Instr) (s : State), step { s with pending := c :: rest } = exec c { s with pending := rest }) ∧
    ∀ s : State, s.pending = [] → step s = .next s

/-- From every state whose register words and memory bytes are in canonical form (keys strictly rising, no entry equal to what an unlisted key reads as), a step that answers a next state answers one in canonical form, so that equal contents stay equal data. The canonical form is the model's own. -/
def Obligations.StepKeepsCanonicalForm : Prop :=
  ∀ s t : State, s.Inv → step s = .next t → t.Inv

/-- The state after reset satisfies the invariant that every step keeps, with an empty queue and nothing sent. -/
def Obligations.ResetIsCanonical : Prop := State.reset.Inv ∧ State.reset.pending = [] ∧ State.reset.out = []

/-- From every state, a step leaves as queue the commands behind the front one, in their order; what the device has sent so far stays a prefix of what it has sent after the step; and no free value is used twice. -/
def Obligations.StepTakesOneCommandAndSendsOnly : Prop :=
  ∀ s t : State, step s = .next t → t.pending = s.pending.tail ∧ s.out <+: t.out ∧ s.freeCtr ≤ t.freeCtr

/-- Every command of the table, with every operand, in every state answers a next state: the device stops on none, since the spec gives each an effect. What the next state holds is said command by command in the other statements. -/
def Obligations.EveryCommandAnswersNext : Prop := ∀ (c : Instr) (s : State), Ends (exec c s) fun _ => True

/-- BLOCK_REQUEST of a block of Table 1-7: the request is outstanding at its requester; a RUNNING block answers it OK or accepts it, under its present epoch; a FENCED block completes it TARGET_RESET, an OFFLINE one TARGET_OFFLINE; a GATED or WAKING block holds it. Memories, clocks and what the device has sent stay as they were. -/
def Obligations.BlockRequestByState : Prop :=
  ∀ (b : Fin 256) (tag : BitVec 16) (epoch : BitVec 8) (answered : Bool) (s : State), isBlock b = true →
    Ends (exec (.blockRequest b tag epoch answered) s) fun t =>
      t.fence.outstanding = s.fence.outstanding ++ [⟨b, tag, epoch.toNat⟩] ∧
      (s.blk b = .running → answered = true →
        t.fence.replies = s.fence.replies ++ [(⟨b, tag, s.epoch b⟩, stOk)] ∧ t.fence.accepted = s.fence.accepted) ∧
      (s.blk b = .running → answered = false →
        t.fence.accepted = s.fence.accepted ++ [⟨b, tag, s.epoch b⟩] ∧ t.fence.replies = s.fence.replies) ∧
      (s.blk b = .fenced → t.fence.replies = s.fence.replies ++ [(⟨b, tag, s.epoch b⟩, stTargetReset)]) ∧
      (s.blk b = .offline → t.fence.replies = s.fence.replies ++ [(⟨b, tag, s.epoch b⟩, stTargetOffline)]) ∧
      (s.blk b = .gated ∨ s.blk b = .waking →
        t.fence.held = s.fence.held ++ [⟨b, tag, epoch.toNat⟩] ∧ t.fence.replies = s.fence.replies) ∧
      (s.blk b = .fenced ∨ s.blk b = .offline → t = { s with fence := t.fence }) ∧
      t.mem = s.mem ∧ t.clk = s.clk ∧ t.out = s.out

/-- REPLY_RECEIVED: when a request of that block, tag and epoch is outstanding, exactly one such request is closed and ID_STALE_DROPS stays; otherwise no request is closed and ID_STALE_DROPS goes up by one, up to its largest value. Every register field apart from ID_STALE_DROPS and the two results of a block reset keeps its value, and every component but the registers and the fence state. -/
def Obligations.ReplyAcceptedOrDropped : Prop :=
  ∀ (b : Fin 256) (tag : BitVec 16) (epoch : BitVec 8) (s : State),
    Ends (exec (.replyReceived b tag epoch) s) fun t =>
      ((∃ r ∈ s.fence.outstanding, r = ⟨b, tag, epoch.toNat⟩) →
        t.fence.outstanding = s.fence.outstanding.erase ⟨b, tag, epoch.toNat⟩ ∧ t.f R.ID_STALE_DROPS = s.f R.ID_STALE_DROPS) ∧
      ((∀ r ∈ s.fence.outstanding, r ≠ ⟨b, tag, epoch.toNat⟩) →
        t.fence.outstanding = s.fence.outstanding ∧ t.f R.ID_STALE_DROPS = min (s.f R.ID_STALE_DROPS + 1) (2 ^ 32 - 1)) ∧
      FieldsKept [R.ID_STALE_DROPS, R.ID_BRESET_STATUS_BUSY, R.ID_BRESET_STATUS_RESULT] s t ∧
      t = { s with regs := t.regs, sets := t.sets, fence := t.fence }

/-- Fence entry, the operation that every reset, reload and power-down of a block shares: the block is FENCED (or OFFLINE), its epoch is one higher modulo 256 and every other block's epoch and state are as before; its accepted requests are answered TARGET_RESET with the epoch under which they were accepted, in their order, after the replies already emitted, and those of other blocks stay accepted. -/
def Obligations.FenceEntryAnswersAccepted : Prop :=
  ∀ (b : Nat) (v : BlkState) (s : State), b < 224 →
    let t := s.fenceEnter b v
    t.blk b = v ∧ t.epoch b = (s.epoch b + 1) % 256 ∧
      (∀ c, c < 224 → c ≠ b → t.blk c = s.blk c ∧ t.epoch c = s.epoch c) ∧
      t.fence.replies = s.fence.replies ++ (s.fence.accepted.filter (fun r => r.block == b)).map (fun r => (r, stTargetReset)) ∧
      t.fence.accepted = s.fence.accepted.filter (fun r => r.block != b) ∧
      FieldsKept [epochFld b] s t ∧ t = { s with regs := t.regs, sets := t.sets, fence := t.fence }

/-- FENCE_EXIT, when nothing but replies holds the block, and CAPTURE_WRITER_RESTART, at an alignment tick at which both memory controllers run and the acquisition domain is not stopped: with no reply of an earlier epoch in flight the block is RUNNING again; with one in flight it stays as it is. Blocks other than this one keep their states, and every component but the registers and the fence state is unchanged. -/
def Obligations.FenceExitWaitsForReplies : Prop :=
  (∀ (b : Fin 256) (s : State), s.isFenced b = true → s.fenceHeld b = false →
    Ends (exec (.fenceExit b) s) fun t =>
      (s.repliesOut b = false → t.blk b = .running) ∧ (s.repliesOut b = true → t.blk b = s.blk b) ∧
      (∀ c, c ≠ b.val → t.blk c = s.blk c) ∧
      FieldsKept [R.ID_BRESET_STATUS_BUSY, R.ID_BRESET_STATUS_RESULT] s t ∧ t = { s with regs := t.regs, sets := t.sets, fence := t.fence }) ∧
  ∀ s : State, s.atTick = true → s.isFenced 0x63 = true → s.isRunning 0x64 = true → s.isRunning 0x65 = true → s.domState 20 ≠ dStopped →
    Ends (exec .captureWriterRestart s) fun t =>
      (s.repliesOut 0x63 = false → t.blk 0x63 = .running) ∧ (s.repliesOut 0x63 = true → t.blk 0x63 = s.blk 0x63) ∧
      (∀ c, c ≠ 0x63 → t.blk c = s.blk c) ∧
      FieldsKept [R.ID_BRESET_STATUS_BUSY, R.ID_BRESET_STATUS_RESULT] s t ∧ t = { s with regs := t.regs, sets := t.sets, fence := t.fence }

/-- RETUNE and BANDSCAN on a ring that may start them, with clean entries: while something uses the clocks they complete REFUSED_BUSY and do nothing else; with a ratio outside R33 they complete BAD_PARAM and do nothing else; RETUNE with no band that meets R35 sets NOBAND and completes BAD_PARAM; otherwise LOCKED reads 0, BUSY reads 1, the dividers stop and the tracker is in COAST, RETUNE takes NINT, NFRAC and the band of R35 into use, and the settings before the command are kept for R600. The memories keep every byte. -/
def Obligations.RetuneAndBandscanStart : Prop :=
  ∀ (k : Fin 16) (f : Fetch) (s : State), s.canStart k f.entry true = true → f.entry.clean [] = true →
    let u := s.fetchCmd k
    let ratio := ratioOf (u.f R.CLK_NINT_NINT) (u.f R.CLK_NFRAC)
    (u.clockInUse = true →
      exec (.retune k f) s = .next (u.complete k f.entry.tag f.entry.irq stRefusedBusy 1 0) ∧
      exec (.bandscan k f) s = .next (u.complete k f.entry.tag f.entry.irq stRefusedBusy 1 0)) ∧
    (u.clockInUse = false → ratioOk ratio = false →
      exec (.retune k f) s = .next (u.complete k f.entry.tag f.entry.irq stBadParam 1 0) ∧
      exec (.bandscan k f) s = .next (u.complete k f.entry.tag f.entry.irq stBadParam 1 0)) ∧
    (u.clockInUse = false → ratioOk ratio = true → u.bandFor ratio = none →
      exec (.retune k f) s = .next ((u.setB R.CLK_STATUS_NOBAND true).complete k f.entry.tag f.entry.irq stBadParam 1 0)) ∧
    (∀ b, b < 64 → u.clockInUse = false → ratioOk ratio = true → u.bandFor ratio = some b →
      Ends (exec (.retune k f) s) fun t =>
        t.flag R.CLK_STATUS_LOCKED = false ∧ t.flag R.CLK_STATUS_BUSY = true ∧ t.f R.CLK_STATUS_BAND_ACT = b ∧
        t.f R.TB_STATE_STATE = tbCoast ∧ t.clk.nint = u.f R.CLK_NINT_NINT ∧ t.clk.nfrac = u.f R.CLK_NFRAC ∧
        t.clk.relock = .retune ∧ t.clk.released = false ∧ t.clk.savedNint = s.clk.nint ∧ t.clk.savedNfrac = s.clk.nfrac ∧
        t.clk.ptime = s.clk.ptime ∧ t.mem = s.mem ∧ t.pending = s.pending) ∧
    (u.clockInUse = false → ratioOk ratio = true →
      Ends (exec (.bandscan k f) s) fun t =>
        t.flag R.CLK_STATUS_LOCKED = false ∧ t.flag R.CLK_STATUS_BUSY = true ∧ t.f R.TB_STATE_STATE = tbCoast ∧
        t.clk.relock = .bandscan ∧ t.clk.released = false ∧ t.clk.nint = s.clk.nint ∧ t.clk.nfrac = s.clk.nfrac ∧
        t.clk.savedNint = s.clk.nint ∧ t.clk.savedNfrac = s.clk.nfrac ∧ t.clk.ptime = s.clk.ptime ∧ t.mem = s.mem ∧
        t.pending = s.pending)

/-- RELOCK_QUALIFIED with LOCKED at 1 for 5 ms that end within the 100 ms of a RETUNE or BANDSCAN, or of a restoring relock at any time: BUSY reads 0, FAB_CAPACITY is that of the programmed frequency, no relock is left and the dividers release at the next alignment tick. RELOCK_TIMEOUT of a RETUNE or BANDSCAN 100 ms after the relock began, whose lock does not last 5 ms within them: CLK_NINT, CLK_NFRAC and BAND_ACT hold the settings before the command, the root synthesiser uses them, and a restoring relock runs with BUSY as it was. Neither moves PTIME nor touches a memory. -/
def Obligations.RelockEnds : Prop :=
  (∀ s : State, s.relocking = true → s.lockQualified = true → s.clk.relock = .restore ∨ s.lockInTime = true →
    Ends (exec .relockQualified s) fun t =>
      t.flag R.CLK_STATUS_BUSY = false ∧ t.f R.FAB_CAPACITY = capacityOf s.clk.nint s.clk.nfrac % 2 ^ 64 ∧
      t.clk = { s.clk with releaseDue := true, relock := .idle } ∧ t.mem = s.mem ∧ t.pending = s.pending) ∧
  ∀ s : State, s.relocking = true → s.clk.relock ≠ .restore → s.lockInTime = false →
    s.clk.relockAt + 100000000 * nsUnit ≤ s.clk.elapsed →
    s.clk.savedNint < 512 → s.clk.savedNfrac < 2 ^ 32 → s.clk.savedBand < 64 →
    Ends (exec .relockTimeout s) fun t =>
      t.f R.CLK_NINT_NINT = s.clk.savedNint ∧ t.f R.CLK_NFRAC = s.clk.savedNfrac ∧
      t.f R.CLK_STATUS_BAND_ACT = s.clk.savedBand ∧ t.clk.nint = s.clk.savedNint ∧ t.clk.nfrac = s.clk.savedNfrac ∧
      t.clk.relock = .restore ∧ t.clk.released = false ∧ t.flag R.CLK_STATUS_LOCKED = false ∧
      t.f R.CLK_STATUS_BUSY = s.f R.CLK_STATUS_BUSY ∧ t.clk.ptime = s.clk.ptime ∧ t.mem = s.mem ∧ t.pending = s.pending

/-- LOCK_LOSS while LOCKED reads 1 and no relock runs: LOCKED reads 0, LOCK_LOST reads 1, CLK_LOCKLOSS is one higher up to its largest value and TB_STEER keeps its value; PTIME, the dividers and the memories stay as they were. LOCKED_RISE with LOCKA_NET at 0 and no relock: LOCKED reads 1 and CLK_LOCKLOSS and TB_STEER stay. -/
def Obligations.LockFallsAndRises : Prop :=
  (∀ s : State, s.flag R.CLK_STATUS_LOCKED = true → s.clk.relock = .idle →
    Ends (exec .lockLoss s) fun t =>
      t.flag R.CLK_STATUS_LOCKED = false ∧ t.flag R.CLK_STATUS_LOCK_LOST = true ∧
      t.f R.CLK_LOCKLOSS = min (s.f R.CLK_LOCKLOSS + 1) (2 ^ 32 - 1) ∧ t.f R.TB_STEER = s.f R.TB_STEER ∧
      t.clk.ptime = s.clk.ptime ∧ t.clk.released = s.clk.released ∧
      t = { s with regs := t.regs, sets := t.sets, clk := t.clk, sec := t.sec }) ∧
  ∀ s : State, s.flag R.CLK_STATUS_LOCKA_NET = false → s.clk.relock = .idle →
    Ends (exec .lockedRise s) fun t =>
      t.flag R.CLK_STATUS_LOCKED = true ∧ FieldsKept [R.CLK_STATUS_LOCKED, R.CLK_STATUS_CHATTER] s t ∧
      t = { s with regs := t.regs, sets := t.sets, clk := t.clk }

/-- REFIN_EDGE while the tracker uses REFIN, outside LINK, counts the edge and keeps its phase error against the nearest expected edge, and changes nothing else. PPSIN_EDGE stamps the PTIME of the edge into TB_PPSIN0 to TB_PPSIN3; a load that waits for the edge applies first, so that the stamp is the loaded value, LOAD reads 0 and TB_PBO is 0. -/
def Obligations.ReferenceEdges : Prop :=
  (∀ (k : Fin 160) (s : State), s.usesRefin = true → s.clk.mode ≠ 1 →
    exec (.refinEdge k) s = .next { s with clk := { s.clk with
      refEdges := s.clk.refEdges + 1
      refErr := phaseErr (s.timeIn k) (s.f R.TB_REF_HZ_HZ) (s.fi R.TB_PBO) } }) ∧
  ∀ (k : Fin 160) (s : State),
    Ends (exec (.ppsinEdge k) s) fun t =>
      (s.flag R.TB_CTRL_LOAD = false ∨ s.flag R.TB_CTRL_LOAD_AT_PPS = false →
        t.ptimeAt 0x110C0 = ptOf128 (pt128 (s.timeIn k)) ∧ t.clk.ptime = s.clk.ptime ∧ FieldsKept [⟨0x110C0, 0, 128⟩] s t) ∧
      (s.flag R.TB_CTRL_LOAD = true → s.flag R.TB_CTRL_LOAD_AT_PPS = true → s.increment ≤ ptimeSpan →
        t.ptimeAt 0x110C0 = s.loadValue ∧ t.timeIn k = s.loadValue ∧ t.flag R.TB_CTRL_LOAD = false ∧ t.f R.TB_PBO = 0 ∧
        FieldsKept [⟨0x110C0, 0, 128⟩, R.TB_CTRL_LOAD, R.TB_PBO] s t) ∧
      t = { s with regs := t.regs, sets := t.sets, clk := t.clk }

/-- TRACKER_INTERVAL_CLOSE in HW_REF with SRC = REFIN and no relock, with `ok` whether the interval is qualified: the states of Table 2-1, with TB_STEER updated only on its rows that say so (an entry into COAST takes what a slew added out of it), COASTS counting an entry into COAST, and at REGAIN entry the error E in TB_JUMP_FULL, which REGAIN = SLEW begins to slew away. PTIME steps only in ACQUIRE and, with REGAIN = STEP, at REGAIN entry. -/
def Obligations.TrackerMoves : Prop :=
  ∀ (meas : Int) (s : State), s.clk.mode = 0 → s.clk.relock = .idle → s.f R.TB_CTRL_SRC = 0 →
    let ok := s.intervalOk s.clk.refEdges meas
    let e := s.clk.refErr
    let near := decide (e.natAbs < s.f R.TB_PBO_THR)
    Ends (exec (.trackerIntervalClose meas) s) fun t =>
      t.flag R.TB_STATE_REF_OK = ok ∧ t.clk.refEdges = 0 ∧
      (ok = false → t.clk.ptime = s.clk.ptime ∧ (s.clk.slew = 0 → t.f R.TB_STEER = s.f R.TB_STEER)) ∧
      (s.f R.TB_STATE_STATE = tbTrack → ok = true →
        t.f R.TB_STATE_STATE = tbTrack ∧ t.fi R.TB_STEER = satSym 32 (Config.loopSteer s.steerBase e s.loopBw meas + s.slewSteer s.clk.slew)) ∧
      (s.f R.TB_STATE_STATE = tbTrack ∨ s.f R.TB_STATE_STATE = tbRegain → ok = false →
        t.f R.TB_STATE_STATE = tbCoast ∧ t.clk.slew = 0 ∧ (s.clk.slew ≠ 0 → t.flag R.TB_STATE_SLEWING = false) ∧
        t.f R.TB_EVENTS_COASTS = min (s.f R.TB_EVENTS_COASTS + 1) (2 ^ 16 - 1)) ∧
      (s.f R.TB_STATE_STATE = tbCoast → (ok = false ∨ s.clk.qual + 1 < s.qualN) →
        t.f R.TB_STATE_STATE = tbCoast ∧ t.f R.TB_STEER = s.f R.TB_STEER ∧ t.clk.ptime = s.clk.ptime) ∧
      (s.f R.TB_STATE_STATE = tbCoast → ok = true → s.qualN ≤ s.clk.qual + 1 →
        t.f R.TB_STATE_STATE = tbRegain ∧ t.f R.TB_JUMP_FULL = wrapInt 64 e ∧ t.fi R.TB_JUMP = satSym 32 e ∧
        (near = false → t.flag R.TB_STATE_JUMP = true ∧ t.f R.TB_EVENTS_JUMPS = min (s.f R.TB_EVENTS_JUMPS + 1) (2 ^ 16 - 1)) ∧
        (near = false → s.f R.TB_CTRL_REGAIN = 1 → t.clk.slew = 1000 * e ∧ t.flag R.TB_STATE_SLEWING = (e != 0)) ∧
        (s.f R.TB_CTRL_REGAIN ≠ 2 → t.clk.ptime = s.clk.ptime)) ∧
      (s.f R.TB_STATE_STATE = tbRegain → ok = true → near = true → s.qualN ≤ s.clk.near + 1 → s.clk.slew = 0 →
        t.f R.TB_STATE_STATE = tbTrack ∧ t.f R.TB_STEER = s.f R.TB_STEER) ∧
      (s.f R.TB_STATE_STATE = tbAcquire → ok = false → t.f R.TB_STATE_STATE = tbAcquire ∧ t.clk.qual = 0) ∧
      (s.f R.TB_STATE_STATE = tbAcquire → s.clk.phaseSet = true → ok = true → near = true → s.clk.slew = 0 →
        s.qualN ≤ s.clk.near + 1 → t.f R.TB_STATE_STATE = tbTrack) ∧
      t = { s with regs := t.regs, sets := t.sets, clk := t.clk, sec := t.sec }

/-- PTIME_INCREMENT starts with the counters: released, PTIME moves by the increment modulo its span, the sample index by 80, FAB_FC by 5 modulo its width; with a LOAD pending that does not wait for PPSIN, PTIME takes TB_SET0 to TB_SET3 and LOAD and TB_PBO clear. Stopped, PTIME moves by 10 ns × (1 + TB_AGE × 2^-44) and nothing else of the counters does, but where a relock has qualified the dividers release with it, FAB_FC and the count of control cycles at 0, so that the next control cycle is an alignment tick. The command answers a next state that goes on from there with what falls due in the cycle. -/
def Obligations.PtimeIncrement : Prop :=
  (∀ s : State, exec .ptimeIncrement s = .next (controlCycle s) ∧
    (controlCycle s =
      let u := ptimeIncrement s
      let v := if u.clk.released then u.cycleWork else u
      if v.pwr.dark then v else v.pwrTick)) ∧
  (∀ s : State, s.clk.released = true →
    let u := ptimeIncrement s
    u.clk.elapsed = s.clk.elapsed + s.increment ∧ u.clk.sampleIdx = (s.clk.sampleIdx + 80) % 2 ^ 64 ∧ u.clk.released = true ∧
      u.clk.cycles = s.clk.cycles + 1 ∧ u.f R.FAB_FC = (s.f R.FAB_FC + 5) % 2 ^ 64 ∧
      (s.flag R.TB_CTRL_LOAD = false ∨ s.flag R.TB_CTRL_LOAD_AT_PPS = true →
        u.now = (s.now + s.increment) % ptimeSpan ∧ FieldsKept [R.FAB_FC] s u) ∧
      (s.flag R.TB_CTRL_LOAD = true → s.flag R.TB_CTRL_LOAD_AT_PPS = false →
        u.now = s.loadValue % ptimeSpan ∧ u.flag R.TB_CTRL_LOAD = false ∧ u.f R.TB_PBO = 0 ∧
        FieldsKept [R.FAB_FC, R.TB_CTRL_LOAD, R.TB_PBO] s u) ∧
      u = { s with regs := u.regs, clk := u.clk, sets := [] }) ∧
  ∀ s : State, s.clk.released = false →
    let d := (10 * nsUnit * (2 ^ 44 + satSym 32 (s.fi R.TB_AGE)) / 2 ^ 44).toNat
    let c := { s.clk with ptime := (s.now + d) % ptimeSpan, elapsed := s.clk.elapsed + d }
    (s.clk.releaseDue = false → ptimeIncrement s = { s with clk := c, sets := [] }) ∧
    (s.clk.releaseDue = true →
      let u := ptimeIncrement s
      u.clk = { c with released := true, releaseDue := false, cycles := 0 } ∧ u.atTick = true ∧ u.f R.FAB_FC = 0 ∧
        FieldsKept [R.FAB_FC] s u ∧ u = { s with regs := u.regs, clk := u.clk, sets := [] })

/-- TB_MODE_CHANGE at an alignment tick to another mode puts it in force: SW takes an NT_INCR from TB_STEER and I_nom, removes TB_STEER and clears SERVO_OK; HW_REF enters ACQUIRE with TB_PBO at 0, and LINK goes on from the present state (R50 names no entry into ACQUIRE for it). SNAP on an open register latches PTIME and the sample index into TB_SNAP0 to TB_SNAP5 and changes no other register; LOAD leaves LOAD reading 1. PPSOUT_PULSE, when enabled and not held, sends one pulse of at least 1 µs in a control cycle that holds the F_T edge nearest to a second boundary plus TB_PPSOUT_OFS, stamped with that edge, and none in another control cycle. -/
def Obligations.TimeBaseCommands : Prop :=
  (∀ s : State, s.atTick = true → s.f R.TB_CTRL_MODE ≠ s.clk.mode → s.f R.TB_CTRL_MODE ≠ 3 →
    Ends (exec .tbModeChange s) fun t =>
      t.clk.mode = s.f R.TB_CTRL_MODE ∧ t.now = s.now ∧ t.clk.elapsed = s.clk.elapsed ∧
      (s.f R.TB_CTRL_MODE = 2 → t.f R.TB_STEER = 0 ∧ t.flag R.NT_CTRL_SERVO_OK = false ∧ t.flag R.TB_STATE_HOLDOVER = true ∧
        t.clk.incr = (roundDiv (iNom s.clk.nint s.clk.nfrac * (2 ^ 44 + satSym 32 (s.fi R.TB_AGE) + s.fi R.TB_STEER))
          (2 ^ 44 + satSym 32 (s.fi R.TB_AGE))).toNat ∧ t.f R.NT_INCR_INCR = t.clk.incr % 2 ^ 56) ∧
      (s.f R.TB_CTRL_MODE = 0 → t.f R.TB_STATE_STATE = tbAcquire ∧ t.f R.TB_PBO = 0 ∧
        (s.clk.slew = 0 → t.f R.TB_STEER = s.f R.TB_STEER)) ∧
      (s.f R.TB_CTRL_MODE = 1 → FieldsKept [R.TB_STATE_HOLDOVER] s t) ∧
      t = { s with regs := t.regs, sets := t.sets, clk := t.clk }) ∧
  (∀ (pf : Fin 2) (s : State), s.Opens pf 0x11000 →
    Ends (exec (.snap pf) s) fun t =>
      t.ptimeAt 0x110A0 = ptOf128 (pt128 s.now) ∧ t.wordsAt 0x110B0 2 = s.clk.sampleIdx % 2 ^ 64 ∧
      t.flag R.TB_CTRL_SNAP = false ∧ FieldsKept [R.TB_CTRL_SNAP, ⟨0x110A0, 0, 192⟩] s t ∧
      t = { s with regs := t.regs, sets := t.sets, pwr := { s.pwr with lastUse := t.pwr.lastUse } }) ∧
  (∀ (pf : Fin 2) (s : State), s.Opens pf 0x11000 → s.flag R.TB_CTRL_SNAP = false →
    Ends (exec (.load pf) s) fun t =>
      t.flag R.TB_CTRL_LOAD = true ∧ FieldsKept [R.TB_CTRL_LOAD] s t ∧
      t = { s with regs := t.regs, sets := t.sets, pwr := { s.pwr with lastUse := t.pwr.lastUse } }) ∧
  ∀ s : State, s.clk.released = true → s.flag R.TB_CTRL_PPSOUT_EN = true → s.flag (R.PWR_PADHOLD_GROUPS.bit 8) = false →
    s.clk.ppsAt ≠ some s.clk.sampleIdx →
    (∀ j, s.ppsEdge = some j →
      exec .ppsoutPulse s = .next { s with
        clk := { s.clk with ppsAt := some s.clk.sampleIdx }
        out := s.out ++ [.ppsOut ((s.now + j * s.increment / 10) % ptimeSpan) (max 1 (s.f R.TB_PPSOUT_WIDTH))] }) ∧
    (s.ppsEdge = none → exec .ppsoutPulse s = .next s)

/-- The corrected sample is sat16(round(16·x × G / 2^14) + O), round taking ties away from zero, and it is marked saturated when x is −2,048 or +2,047 or sat16 limits the value. CHANNEL_SAMPLES of an enabled channel of a running block, with the dividers released, puts the corrected samples on the channel bus with the index of the first, zeros while FIRST is 1, and leaves every other channel's bus alone; the codes are those of the channel's input, or, of a looped channel, the sixteen that its output last converted. Outside the first pass the overrange count goes up by the saturated samples, up to its largest value. -/
def Obligations.DigitalCorrection : Prop :=
  (∀ (d : BitVec 32) (x : BitVec 12),
    let v := roundDiv (16 * x.toInt * bitsOf d.toNat 16 16) (2 ^ 14) + sext 16 (bitsOf d.toNat 0 16)
    (correctSample d x).1 = max (-32768) (min 32767 v) ∧
      ((correctSample d x).2 = true ↔ x.toInt = -2048 ∨ x.toInt = 2047 ∨ v < -32768 ∨ 32767 < v)) ∧
  (∀ (n : Fin 8) (sub : Fin 5) (codes : List (BitVec 12)) (s : State),
    s.clk.released = true → s.flag (R.ADC_CTRL_EN n) = true → s.isRunning (2 + n) = true →
    Ends (exec (.channelSamples n sub codes) s) fun t =>
      let used := (s.inputCodes n codes).2
      ((s.adcN n).loopEn = false → used = codes) ∧ ((s.adcN n).loopEn = true → used = s.loopCodes (s.adcN n).loopSrc) ∧
      (t.adcN n).bus = used.map (fun c => if s.flag (R.ADC_STATUS_FIRST n) then 0 else (correctSample (s.adcN n).dcor c).1) ∧
      (t.adcN n).busIdx = (s.clk.sampleIdx + 16 * sub) % 2 ^ 64 ∧
      (∀ m, m ≠ n.val → t.adcN m = s.adcN m) ∧ t.clk = s.clk) ∧
  ∀ (n sub : Nat) (codes : List (BitVec 12)) (s : State), n < 8 →
    let u := s.channelBus n sub codes
    let k := codes.countP (fun c => (correctSample (s.adcN n).dcor c).2)
    (s.flag (R.ADC_STATUS_FIRST n) = true → u.regs = s.regs) ∧
      (s.flag (R.ADC_STATUS_FIRST n) = false →
        u.f (R.ADC_OVR_COUNT n) = min (s.f (R.ADC_OVR_COUNT n) + k) (2 ^ 32 - 1) ∧
        (0 < k → u.flag (R.ADC_STATUS_OVR n) = true)) ∧
      FieldsKept [R.ADC_OVR_COUNT n, R.ADC_STATUS_OVR n] s u ∧ u = { s with regs := u.regs, sets := u.sets, adc := u.adc }

/-- ROTATION_STEP_START at a channel that may start a step takes the next slot's sub-converter, or the spare wheel for its own step. PLAUSIBILITY_DECISION on a window in progress counts the samples of which neither code is −2,048 or +2,047 and sums |x_spare − x_out| over them: fewer than 2,048 samples defer it, and the third time skip the step; a figure below ADC_PLAUS_LIM hands the slot to the spare wheel; one at or above it aborts the step, and the third abort in a row retires the sub-converter. MEASUREMENT_COMPARE of two measurements that agree writes their means and counts CAL_OK, of two that do not counts CAL_REJ, and HAND_BACK returns the slot. Each outcome counts in its own counter and in no other. -/
def Obligations.RotationSteps : Prop :=
  (∀ (n : Fin 8) (s : State), s.isRunning (2 + n) = true → s.flag (R.ADC_CTRL_EN n) = true →
    s.flag (R.ADC_CTRL_ROT_HOLD n) = false → s.flag (R.ADC_CTRL_ROT_EN n) = true → s.flag (R.ADC_STATUS_DEGRADED n) = false →
    s.flag (R.ADC_STATUS_SETTLED n) = true → s.flag (R.ADC_STATUS_STEP n) = false →
    Ends (exec (.rotationStepStart n) s) fun t =>
      t.flag (R.ADC_STATUS_STEP n) = true ∧ t.flag (R.ADC_STATUS_HELD n) = false ∧ (t.adcN n).slot = (s.adcN n).nextStep ∧
      ((s.adcN n).nextStep = 32 → (t.adcN n).outgoing = 32 ∧ (t.adcN n).phase = .measure) ∧
      ((s.adcN n).nextStep ≠ 32 → (t.adcN n).phase = .plaus ∧ (t.adcN n).attempt = 1 ∧
        (t.adcN n).outgoing = ((s.adcN n).slots[(s.adcN n).nextStep]?).getD (s.adcN n).nextStep) ∧
      FieldsKept [R.ADC_STATUS_STEP n, R.ADC_STATUS_HELD n] s t ∧ t = { s with regs := t.regs, sets := t.sets, adc := t.adc }) ∧
  (∀ (n : Fin 8) (spare outgoing : List (BitVec 12)) (s : State), s.isRunning (2 + n) = true → (s.adcN n).phase = .plaus →
    (s.adcN n).fpWait = false → (s.adcN n).outgoing ≤ 32 → (s.adcN n).slot < 32 →
    let a := s.adcN n
    let lim := max 1 (s.f R.ADC_PLAUS_LIM_LIM)
    let counted := (spare.zip outgoing).filter (fun p => codeCounts p.1 && codeCounts p.2)
    let count := counted.length
    let sum := (counted.map (fun p => (p.1.toInt - p.2.toInt).natAbs)).sum
    Ends (exec (.plausibilityDecision n spare outgoing) s) fun t =>
      (count < 2048 → a.attempt < 3 → (t.adcN n).phase = .deferred ∧ t.regs = s.regs) ∧
      (count < 2048 → 3 ≤ a.attempt →
        t.f (R.ADC_CAL_SKIP n) = min (s.f (R.ADC_CAL_SKIP n) + 1) (2 ^ 32 - 1) ∧ t.flag (R.ADC_STATUS_STEP n) = false ∧
        (t.adcN n).slots = a.slots ∧ FieldsKept [R.ADC_CAL_SKIP n, R.ADC_STATUS_STEP n, R.ADC_STATUS_HELD n] s t) ∧
      (2048 ≤ count → sum < lim * count →
        (t.adcN n).slots = a.slots.set a.slot 32 ∧ (t.adcN n).phase = .measure ∧
        t.f (R.ADC_STATUS_SPARE_SLOT n) = a.slot ∧ FieldsKept [R.ADC_STATUS_SPARE_SLOT n] s t) ∧
      (2048 ≤ count → lim * count ≤ sum →
        t.f (R.ADC_CAL_ABORT n) = min (s.f (R.ADC_CAL_ABORT n) + 1) (2 ^ 32 - 1) ∧ t.flag (R.ADC_STATUS_STEP n) = false ∧
        t.f (R.ADC_CAL_OK n) = s.f (R.ADC_CAL_OK n) ∧ t.f (R.ADC_CAL_REJ n) = s.f (R.ADC_CAL_REJ n) ∧
        t.f (R.ADC_CAL_SKIP n) = s.f (R.ADC_CAL_SKIP n) ∧
        (s.f (R.ADC_TRIM_ABRUN n a.outgoing) < 2 → (t.adcN n).slots = a.slots ∧
          t.flag (R.ADC_STATUS_DEGRADED n) = s.flag (R.ADC_STATUS_DEGRADED n)) ∧
        (2 ≤ s.f (R.ADC_TRIM_ABRUN n a.outgoing) → (t.adcN n).slots = a.slots.set a.slot 32 ∧
          t.flag (R.ADC_STATUS_DEGRADED n) = true ∧ t.f (R.ADC_STATUS_RETIRED n) = a.outgoing ∧
          t.flag (R.ADC_TRIM_RET n a.outgoing) = true ∧ (t.adcN n).degradedAt = some (s.nextSlotSample a.slot))) ∧
      t.mem = s.mem ∧ t.clk = s.clk ∧ t.pending = s.pending) ∧
  (∀ (n : Fin 8) (m1 m2 : TrimSet) (s : State), s.isRunning (2 + n) = true → (s.adcN n).phase = .measure →
    (s.adcN n).fpWait = false → (s.adcN n).outgoing ≤ 32 →
    let a := s.adcN n
    Ends (exec (.measurementCompare n m1 m2) s) fun t =>
      (TrimAgree m1 m2 = true →
        t.f (R.ADC_CAL_OK n) = (s.f (R.ADC_CAL_OK n) + 1) % 2 ^ 64 ∧ t.f (R.ADC_CAL_REJ n) = s.f (R.ADC_CAL_REJ n) ∧
        t.f (R.ADC_TRIM_ABRUN n a.outgoing) = 0 ∧ t.f (R.ADC_TRIM_OFS n a.outgoing) = wrapInt 10 (meanTie m1.ofs m2.ofs) ∧
        t.f (R.ADC_TRIM_GAIN n a.outgoing) = wrapInt 10 (meanTie m1.gain m2.gain) ∧
        t.f (R.ADC_TRIM_BW n a.outgoing) = (trimMean m1 m2).bw % 2 ^ 6 ∧
        t.f (R.ADC_SKEW_SKEW n a.outgoing) = (trimMean m1 m2).skew % 2 ^ 12 ∧
        t.ptimeAt (R.ADC_CAL_PTIME n 0).off = ptOf128 (pt128 s.now) ∧
        FieldsKept [R.ADC_CAL_OK n, ⟨0x41030 + 0x1000 * n, 0, 128⟩, R.ADC_TRIM n a.outgoing, R.ADC_SKEW n a.outgoing,
          R.ADC_STATUS_STEP n, R.ADC_STATUS_HELD n] s t) ∧
      (TrimAgree m1 m2 = false →
        t.f (R.ADC_CAL_REJ n) = min (s.f (R.ADC_CAL_REJ n) + 1) (2 ^ 32 - 1) ∧
        FieldsKept [R.ADC_CAL_REJ n, R.ADC_STATUS_STEP n, R.ADC_STATUS_HELD n] s t) ∧
      (a.slot = 32 → t.flag (R.ADC_STATUS_STEP n) = false) ∧ (a.slot ≠ 32 → (t.adcN n).phase = .settle) ∧
      (t.adcN n).slots = a.slots ∧ t = { s with regs := t.regs, sets := t.sets, adc := t.adc }) ∧
  ∀ (n : Fin 8) (s : State), s.isRunning (2 + n) = true → (s.adcN n).phase = .settle → (s.adcN n).fpWait = false →
    Ends (exec (.handBack n) s) fun t =>
      (t.adcN n).slots = (s.adcN n).slots.set (s.adcN n).slot (s.adcN n).outgoing ∧ t.f (R.ADC_STATUS_SPARE_SLOT n) = 63 ∧
      t.flag (R.ADC_STATUS_STEP n) = false ∧ (t.adcN n).nextStep = ((s.adcN n).slot + 1) % 33 ∧
      FieldsKept [R.ADC_STATUS_SPARE_SLOT n, R.ADC_STATUS_STEP n, R.ADC_STATUS_HELD n] s t ∧
      t = { s with regs := t.regs, sets := t.sets, adc := t.adc }

/-- ADC_EN_WRITE, ROT_HOLD and FP_RUN on an open register of channel `n`: an EN = 0 that finds a consumer leaves EN at 1 with REFUSED_BUSY, otherwise EN takes the value written with OK, and an EN = 0 ends a step in progress as skipped with its slot returned; ROT_HOLD takes its bit, and HELD follows at the next control cycle while no step runs; FP_RUN starts the first pass, at the step's end while a step runs. TRIM_WRITE on open trims writes them; they come into force at the next alignment tick. At an alignment tick DCOR_APPLY takes both fields of the correction at once and LOOPBACK_SWITCH the loopback setting; between alignment ticks neither does anything. PLAUSIBILITY_RETRY counts the attempt and decides as PLAUSIBILITY_DECISION does. FIRST_PASS_DONE ends the first pass and settles the channel: a sub-converter takes the mean of the first of at most four tries that agrees, or its factory trims with FP_REJ, and a retired one keeps its trims. CAL_SWEEP on a ring that may start it, over channels that no other CAL_SWEEP holds, starts their first passes. -/
def Obligations.ChannelControl : Prop :=
  (∀ (pf : Fin 2) (n : Fin 8) (v : BitVec 32) (s : State), s.Opens pf (0x41000 + 0x1000 * n) → bitOf v.toNat 4 = false →
    (s.adcN n).undo = none → (s.adcN n).fpWait = false →
    let refused := s.flag (R.ADC_CTRL_EN n) = true ∧ s.channelNamed n = true
    Ends (exec (.adcEnWrite pf n v) s) fun t =>
      (bitOf v.toNat 0 = true → t.flag (R.ADC_CTRL_EN n) = true ∧ t.f (R.ADC_STATUS_RESULT n) = stOk ∧ t.adc = s.adc) ∧
      (bitOf v.toNat 0 = false → refused →
        t.flag (R.ADC_CTRL_EN n) = true ∧ t.f (R.ADC_STATUS_RESULT n) = stRefusedBusy ∧ t.adc = s.adc) ∧
      (bitOf v.toNat 0 = false → ¬refused →
        t.flag (R.ADC_CTRL_EN n) = false ∧ t.f (R.ADC_STATUS_RESULT n) = stOk ∧ t.flag (R.ADC_STATUS_STEP n) = false ∧
        (s.flag (R.ADC_STATUS_STEP n) = true →
          t.f (R.ADC_CAL_SKIP n) = min (s.f (R.ADC_CAL_SKIP n) + 1) (2 ^ 32 - 1) ∧
          (t.adcN n).slots = (if (s.adcN n).slot = 32 then (s.adcN n).slots else (s.adcN n).slots.set (s.adcN n).slot (s.adcN n).outgoing)) ∧
        (s.flag (R.ADC_STATUS_STEP n) = false → t.adc = s.adc ∧ t.f (R.ADC_CAL_SKIP n) = s.f (R.ADC_CAL_SKIP n))) ∧
      FieldsKept [⟨0x41000 + 0x1000 * n, 0, 32⟩, R.ADC_STATUS_RESULT n, R.ADC_STATUS_STEP n, R.ADC_STATUS_HELD n,
        R.ADC_STATUS_SPARE_SLOT n, R.ADC_CAL_SKIP n] s t ∧
      t = { s with regs := t.regs, sets := t.sets, adc := t.adc, pwr := { s.pwr with lastUse := t.pwr.lastUse } }) ∧
  (∀ (pf : Fin 2) (n : Fin 8) (v : BitVec 32) (s : State), s.Opens pf (0x41000 + 0x1000 * n) → bitOf v.toNat 4 = false →
    bitOf v.toNat 0 = true →
    Ends (exec (.rotHold pf n v) s) fun t =>
      t.flag (R.ADC_CTRL_ROT_HOLD n) = bitOf v.toNat 3 ∧ t.flag (R.ADC_CTRL_ROT_EN n) = bitOf v.toNat 1 ∧
      FieldsKept [⟨0x41000 + 0x1000 * n, 0, 32⟩, R.ADC_STATUS_RESULT n] s t) ∧
  (∀ (n : Fin 8) (s : State), s.flag (R.ADC_STATUS_STEP n) = false →
    (s.flag (R.ADC_CTRL_ROT_HOLD n) = true ∨ s.flag (R.ADC_CTRL_ROT_EN n) = false) →
    s.heldTick.flag (R.ADC_STATUS_HELD n) = true) ∧
  (∀ (pf : Fin 2) (n : Fin 8) (v : BitVec 32) (s : State), s.Opens pf (0x41000 + 0x1000 * n) → bitOf v.toNat 0 = true →
    s.flag (R.ADC_STATUS_FIRST n) = false →
    Ends (exec (.fpRun pf n v) s) fun t =>
      t.flag (R.ADC_CTRL_FP_RUN n) = true ∧
      (s.flag (R.ADC_STATUS_STEP n) = false → t.flag (R.ADC_STATUS_FIRST n) = true ∧ t.flag (R.ADC_STATUS_SETTLED n) = false) ∧
      (s.flag (R.ADC_STATUS_STEP n) = true → (t.adcN n).fpWait = true ∧ t.flag (R.ADC_STATUS_FIRST n) = false)) ∧
  (∀ (pf : Fin 2) (n : Fin 8) (k : Fin 33) (v : BitVec 32) (s : State),
    s.Opens pf (0x41100 + 0x1000 * n + 4 * k) →
    Ends (exec (.trimWrite pf n k false v) s) fun t =>
      t.f (R.ADC_TRIM_OFS n k) = bitsOf v.toNat 0 10 ∧ t.f (R.ADC_TRIM_GAIN n k) = bitsOf v.toNat 10 10 ∧
      t.f (R.ADC_TRIM_BW n k) = bitsOf v.toNat 20 6 ∧ t.f (R.ADC_TRIM_ABRUN n k) = s.f (R.ADC_TRIM_ABRUN n k) ∧
      t.f (R.ADC_TRIM_RET n k) = s.f (R.ADC_TRIM_RET n k) ∧ t.trimsInForce n k = s.trimsInForce n k ∧
      t.trimTick.trimsInForce n k = (t.word (R.ADC_TRIM n k).off, t.word (R.ADC_SKEW n k).off) ∧
      WordsKept (fun o => o = 0x41100 + 0x1000 * n + 4 * k) s t) ∧
  (∀ (pf : Fin 2) (n : Fin 8) (k : Fin 33) (v : BitVec 32) (s : State),
    s.Opens pf (0x41200 + 0x1000 * n + 4 * k) →
    Ends (exec (.trimWrite pf n k true v) s) fun t =>
      t.f (R.ADC_SKEW_SKEW n k) = bitsOf v.toNat 0 12 ∧ t.trimsInForce n k = s.trimsInForce n k ∧
      WordsKept (fun o => o = 0x41200 + 0x1000 * n + 4 * k) s t) ∧
  (∀ (n : Fin 8) (s : State), s.isRunning (2 + n) = true →
    Ends (exec (.dcorApply n) s) fun t =>
      (s.atTick = true → (t.adcN n).dcor = s.word (0x41008 + 0x1000 * n)) ∧ (s.atTick = false → t = s) ∧
      (∀ m, m ≠ n.val → t.adcN m = s.adcN m) ∧ t = { s with adc := t.adc }) ∧
  (∀ (n : Fin 8) (s : State), s.isRunning (2 + n) = true →
    Ends (exec (.loopbackSwitch n) s) fun t =>
      (s.atTick = true → (t.adcN n).loopEn = s.flag (R.ADC_CTRL_LOOP_EN n) ∧ (t.adcN n).loopSrc = s.f (R.ADC_CTRL_LOOP_SRC n)) ∧
      (s.atTick = false → t = s) ∧ (∀ m, m ≠ n.val → t.adcN m = s.adcN m) ∧ t = { s with adc := t.adc }) ∧
  (∀ (n : Fin 8) (spare outgoing : List (BitVec 12)) (s : State), s.isRunning (2 + n) = true → (s.adcN n).phase = .deferred →
    exec (.plausibilityRetry n spare outgoing) s =
      exec (.plausibilityDecision n spare outgoing) (s.setAdc n { s.adcN n with phase := .plaus, attempt := (s.adcN n).attempt + 1 }) ∧
    ((s.adcN n).attempt < 2 → (plausFigure (spare.zip outgoing)).1 < 2048 → Ends (exec (.plausibilityRetry n spare outgoing) s) fun t =>
      (t.adcN n).attempt = (s.adcN n).attempt + 1 ∧ (t.adcN n).phase = .deferred ∧ t = { s with adc := t.adc })) ∧
  (∀ (n : Fin 8) (res : List (List (TrimSet × TrimSet))) (s : State), s.isRunning (2 + n) = true →
    s.flag (R.ADC_STATUS_FIRST n) = true →
    Ends (exec (.firstPassDone n res) s) fun t =>
      t.flag (R.ADC_STATUS_FIRST n) = false ∧ t.flag (R.ADC_STATUS_SETTLED n) = true ∧ t.flag (R.ADC_CTRL_FP_RUN n) = false ∧
      (t.adcN n).nextStep = 0 ∧ t.f (R.ADC_CAL_OK n) = s.f (R.ADC_CAL_OK n) ∧ t.f (R.ADC_CAL_REJ n) = s.f (R.ADC_CAL_REJ n) ∧
      t.f (R.ADC_CAL_ABORT n) = s.f (R.ADC_CAL_ABORT n) ∧ t.f (R.ADC_CAL_SKIP n) = s.f (R.ADC_CAL_SKIP n) ∧
      (∀ (k : Fin 33) (m : TrimSet), s.flag (R.ADC_TRIM_RET n k) = false → firstAgree ((res[k.val]?).getD []) = some m →
        t.f (R.ADC_TRIM_OFS n k) = wrapInt 10 m.ofs ∧ t.f (R.ADC_TRIM_GAIN n k) = wrapInt 10 m.gain ∧ t.f (R.ADC_TRIM_ABRUN n k) = 0) ∧
      (∀ k : Fin 33, s.flag (R.ADC_TRIM_RET n k) = false → firstAgree ((res[k.val]?).getD []) = none →
        t.f (R.ADC_TRIM_OFS n k) = bitsOf (resetWord (R.ADC_TRIM n k).off).toNat 0 10 ∧ t.flag (R.ADC_STATUS_FP_REJ n) = true) ∧
      (∀ k : Fin 33, s.flag (R.ADC_TRIM_RET n k) = true → t.word (R.ADC_TRIM n k).off = s.word (R.ADC_TRIM n k).off) ∧
      (s.longOf 0x20 = none → t = { s with regs := t.regs, sets := t.sets, adc := t.adc })) ∧
  ∀ (k : Fin 16) (f : Fetch) (s : State), s.canStart k f.entry true = true → f.entry.clean [0xFF] = true →
    f.entry.param 0 ≠ 0 → s.longOf 0x20 = none →
    Ends (exec (.calSweep k f) s) fun t =>
      (∀ n : Fin 8, bitOf (f.entry.param 0) n = true →
        t.flag (R.ADC_CTRL_FP_RUN n) = true ∧
        (s.flag (R.ADC_STATUS_STEP n) = false → t.flag (R.ADC_STATUS_FIRST n) = true) ∧
        (s.flag (R.ADC_STATUS_STEP n) = true → s.flag (R.ADC_STATUS_FIRST n) = false → (t.adcN n).fpWait = true)) ∧
      t.mem = s.mem ∧ t.clk = s.clk

/-- DAC_ENABLE on an open register of an output that neither runs nor waits: a playback region that breaks R90 leaves EN at 0 with BAD_PARAM; an untimed start other than playback waits for the alignment tick, a playback start for its prefetch, a timed start for DACn_START unless that lies less than 1 µs ahead. On a running output it asks for the source written, at the next alignment tick or, of playback, with the prefetch; a region that breaks R90 leaves SRC with BAD_PARAM. At an alignment tick DAC_START, DAC_PREFETCH_READY, DAC_SOURCE_CHANGE, NCO_FTW_APPLY and DAC_STOP do what waits for them, between alignment ticks they do not; a timed start begins with the first sample of the control cycle whose instant at the balls is at or after DACn_START. -/
def Obligations.OutputStartsAndStops : Prop :=
  (∀ (pf : Fin 2) (n : Fin 4) (v : BitVec 32) (s : State), s.Opens pf (0x50000 + 0x1000 * n) → bitOf v.toNat 4 = false →
    s.flag (R.DAC_STATUS_RUNNING n) = false → s.flag (R.DAC_STATUS_START_PEND n) = false → (s.dacN n).start = .none →
    let src := bitsOf v.toNat 1 2
    let timed := bitOf v.toNat 3
    let late := decide (s.ptimeAt (0x50010 + 0x1000 * n) < s.now + 1000 * nsUnit)
    Ends (exec (.dacEnable pf n v) s) fun t =>
      (src = 1 → s.pbRegionOk n = false →
        t.flag (R.DAC_CTRL_EN n) = false ∧ t.f (R.DAC_STATUS_RESULT n) = stBadParam ∧ (t.dacN n).start = .none) ∧
      (src ≠ 1 ∨ s.pbRegionOk n = true →
        t.flag (R.DAC_CTRL_EN n) = true ∧ t.f (R.DAC_STATUS_RESULT n) = stOk ∧
        (timed = true → late = false → (t.dacN n).start = .timed ∧ t.flag (R.DAC_STATUS_START_PEND n) = true) ∧
        (timed = true → late = true → (t.dacN n).start = .tick ∧ t.flag (R.DAC_STATUS_LATE_START n) = true) ∧
        (timed = false → src = 1 → (t.dacN n).start = .prefetch ∧ t.flag (R.DAC_STATUS_START_PEND n) = true) ∧
        (timed = false → src ≠ 1 → (t.dacN n).start = .tick) ∧
        (src = 1 → (t.dacN n).filling = true ∧ (t.dacN n).prefetch = [] ∧ (t.dacN n).pbBase = s.f (R.DAC_PB_BASE_ADDR n) ∧
          (t.dacN n).pbLen = s.f (R.DAC_PB_LEN_LEN n))) ∧
      WordsKept (fun o => o = 0x50000 + 0x1000 * n ∨ o = 0x50004 + 0x1000 * n ∨ o = R.MC_STATUS_P0_PANIC.off ∨
        o = (R.MC_P_LEVEL_BYTES 0).off ∨ o = (R.MC_P_LEVEL_BYTES 4).off) s t ∧
      (∀ m, m ≠ n.val → t.dacN m = s.dacN m) ∧
      t = { s with regs := t.regs, sets := t.sets, dac := t.dac, mem := { s.mem with outPanic := t.mem.outPanic },
                   pwr := { s.pwr with lastUse := t.pwr.lastUse } }) ∧
  (∀ (pf : Fin 2) (n : Fin 4) (v : BitVec 32) (s : State), s.Opens pf (0x50000 + 0x1000 * n) → bitOf v.toNat 4 = false →
    s.flag (R.DAC_STATUS_RUNNING n) = true →
    let src := bitsOf v.toNat 1 2
    let old := s.f (R.DAC_CTRL_SRC n)
    Ends (exec (.dacEnable pf n v) s) fun t =>
      t.flag (R.DAC_STATUS_RUNNING n) = true ∧ (t.dacN n).src = (s.dacN n).src ∧
      (src = old → t.dac = s.dac ∧ t.f (R.DAC_STATUS_RESULT n) = stOk) ∧
      (src ≠ old → src ≠ 1 → (t.dacN n).change = .tick ∧ t.f (R.DAC_CTRL_SRC n) = src ∧ t.f (R.DAC_STATUS_RESULT n) = stOk) ∧
      (src ≠ old → src = 1 → s.pbRegionOk n = true →
        (t.dacN n).change = .prefetch ∧ (t.dacN n).filling = true ∧ (t.dacN n).prefetch = [] ∧ t.f (R.DAC_CTRL_SRC n) = 1) ∧
      (src ≠ old → src = 1 → s.pbRegionOk n = false →
        t.dac = s.dac ∧ t.f (R.DAC_CTRL_SRC n) = old ∧ t.f (R.DAC_STATUS_RESULT n) = stBadParam)) ∧
  (∀ (n : Fin 4) (k : Nat) (s : State),
    ((s.dacN n).start = .tick ∧ s.atTick = true ∧ k = 0) ∨
      ((s.dacN n).start = .timed ∧ s.clk.released = true ∧ s.timedSample n = some k) →
    Ends (exec (.dacStart n) s) fun t =>
      t.flag (R.DAC_STATUS_RUNNING n) = true ∧ t.flag (R.DAC_STATUS_START_PEND n) = false ∧ (t.dacN n).start = .none ∧
      (t.dacN n).src = s.f (R.DAC_CTRL_SRC n) ∧ (t.dacN n).gain = s.f (R.DAC_GAIN_GAIN n) ∧ (t.dacN n).idx = s.clk.sampleIdx + k ∧
      (t.dacN n).phase0 = s.f (R.DAC_NCO_PA_PHASE n 0) * 2 ^ 32 ∧ (t.dacN n).phase1 = s.f (R.DAC_NCO_PA_PHASE n 1) * 2 ^ 32 ∧
      (t.dacN n).synth = [] ∧ FieldsKept [R.DAC_STATUS_RUNNING n, R.DAC_STATUS_START_PEND n] s t ∧
      t = { s with regs := t.regs, sets := t.sets, dac := t.dac }) ∧
  (∀ (n : Fin 4) (s : State), s.atTick = false → (s.dacN n).start ≠ .timed →
    exec (.dacStart n) s = .next s ∧ exec (.dacPrefetchReady n) s = .next s ∧ exec (.dacStop n) s = .next s ∧
    exec (.dacSourceChange n) s = .next s ∧ ∀ i, exec (.ncoFtwApply n i) s = .next s) ∧
  (∀ (n : Fin 4) (s : State), s.atTick = true → 98304 ≤ 2 * (s.dacN n).prefetch.length →
    Ends (exec (.dacPrefetchReady n) s) fun t =>
      ((s.dacN n).start = .prefetch → t.flag (R.DAC_STATUS_RUNNING n) = true ∧ (t.dacN n).src = s.f (R.DAC_CTRL_SRC n)) ∧
      ((s.dacN n).start = .none → (s.dacN n).change = .prefetch →
        (t.dacN n).change = .none ∧ (t.dacN n).src = s.f (R.DAC_CTRL_SRC n) ∧ t.regs = s.regs) ∧
      (t.dacN n).prefetch = (s.dacN n).prefetch ∧ t = { s with regs := t.regs, sets := t.sets, dac := t.dac }) ∧
  (∀ (n : Fin 4) (s : State), s.atTick = true → (s.dacN n).stop = true →
    Ends (exec (.dacStop n) s) fun t =>
      t.flag (R.DAC_STATUS_RUNNING n) = false ∧ t.flag (R.DAC_STATUS_START_PEND n) = false ∧ (t.dacN n).code = 0 ∧
      (t.dacN n).synth = [] ∧ (t.dacN n).filling = false ∧
      FieldsKept [R.DAC_STATUS_RUNNING n, R.DAC_STATUS_START_PEND n] s t ∧ t = { s with regs := t.regs, sets := t.sets, dac := t.dac }) ∧
  (∀ (n : Fin 4) (s : State), s.atTick = true →
    Ends (exec (.dacSourceChange n) s) fun t =>
      ((s.dacN n).change = .tick → (t.dacN n).src = s.f (R.DAC_CTRL_SRC n) ∧ (t.dacN n).change = .none) ∧
      ((s.dacN n).change ≠ .tick → (t.dacN n).src = (s.dacN n).src) ∧
      (t.dacN n).gain = (if (s.dacN n).gainDue then s.f (R.DAC_GAIN_GAIN n) else (s.dacN n).gain) ∧ t = { s with dac := t.dac }) ∧
  ∀ (n : Fin 4) (i : Fin 2) (s : State), s.atTick = true →
    Ends (exec (.ncoFtwApply n i) s) fun t =>
      (if i.val = 0 then (t.dacN n).ftw0 else (t.dacN n).ftw1) = s.f (R.DAC_NCO_FTW_FTW n i) ∧
      (t.dacN n).phase0 = (s.dacN n).phase0 ∧ (t.dacN n).phase1 = (s.dacN n).phase1 ∧ t = { s with dac := t.dac }

/-- SYNTH_RECORD at a running output: the buffer holds the last 4,096 of its samples and the record's, the discarded ones are counted in DACn_SYNTH_DROP and set SYNTH_OVR; an output that does not run takes none. -/
def Obligations.SynthBuffer : Prop :=
  ∀ (n : Fin 4) (xs : List (BitVec 16)) (s : State),
    Ends (exec (.synthRecord n xs) s) fun t =>
      let all := (s.dacN n).synth ++ xs
      (s.flag (R.DAC_STATUS_RUNNING n) = true →
        (t.dacN n).synth = all.drop (all.length - 4096) ∧ (t.dacN n).synth.length = min all.length 4096 ∧
        t.f (R.DAC_SYNTH_DROP n) = min (s.f (R.DAC_SYNTH_DROP n) + (all.length - 4096)) (2 ^ 32 - 1) ∧
        (4096 < all.length → t.flag (R.DAC_STATUS_SYNTH_OVR n) = true)) ∧
      (s.flag (R.DAC_STATUS_RUNNING n) = false → t = s) ∧
      FieldsKept [R.DAC_SYNTH_DROP n, R.DAC_STATUS_SYNTH_OVR n] s t ∧ t = { s with regs := t.regs, sets := t.sets, dac := t.dac }

/-- DAC_SAMPLE_DUE at a running output of a running block converts z of a source value v without its two low bits, and sets CLIP when v × GAIN leaves the range: v is 0 for source 0; the two tones' sum for source 2, whose phases advance by their frequency words; the oldest buffered SYNTH sample or 0 with STARVE; the oldest prefetched playback sample, or 0 with UNDERRUN and one sample to skip, or at the end of its region 0 with RUNNING cleared. An output that does not run converts 0. -/
def Obligations.OutputSamples : Prop :=
  (∀ (n : Fin 4) (s : State), s.isRunning (0x0A + n) = true → s.flag (R.DAC_STATUS_RUNNING n) = true →
    let d := s.dacN n
    Ends (exec (.dacSampleDue n) s) fun t =>
      (∃ v : Int, (t.dacN n).code = wrapInt 16 (dacValue v d.gain) / 4 ∧
        (outS 16 (roundDiv (v * d.gain) (2 ^ 14)) = true → t.flag (R.DAC_STATUS_CLIP n) = true) ∧
        (d.src = 0 → v = 0) ∧
        (d.src = 2 →
          v = satS 16 (timesSine (s.fi (R.DAC_NCO_PA_AMP n 0)) d.phase0 + timesSine (s.fi (R.DAC_NCO_PA_AMP n 1)) d.phase1) ∧
          (t.dacN n).phase0 = (d.phase0 + d.ftw0) % 2 ^ 48 ∧ (t.dacN n).phase1 = (d.phase1 + d.ftw1) % 2 ^ 48) ∧
        (d.src = 3 → d.synth = [] → v = 0 ∧
          t.flag (R.DAC_STATUS_STARVE n) = true ∧ t.f (R.DAC_STARVE_COUNT n) = min (s.f (R.DAC_STARVE_COUNT n) + 1) (2 ^ 32 - 1)) ∧
        (∀ x rest, d.src = 3 → d.synth = x :: rest → v = x.toInt ∧ (t.dacN n).synth = rest) ∧
        (∀ x rest, d.src = 1 → d.playPos < d.pbLen / 2 → d.prefetch = x :: rest → v = x.toInt ∧ (t.dacN n).prefetch = rest) ∧
        (d.src = 1 → d.playPos < d.pbLen / 2 → d.prefetch = [] → v = 0 ∧ (t.dacN n).skip = d.skip + 1 ∧
          t.f (R.DAC_UNDERRUN_COUNT n) = min (s.f (R.DAC_UNDERRUN_COUNT n) + 1) (2 ^ 32 - 1)) ∧
        (d.src = 1 → d.pbLen / 2 ≤ d.playPos → v = 0 ∧ t.flag (R.DAC_STATUS_RUNNING n) = false ∧ (t.dacN n).filling = false)) ∧
      (t.dacN n).sent = d.sent + 1 ∧ (t.dacN n).idx = max d.idx s.clk.sampleIdx + 1 ∧
      (∀ m, m ≠ n.val → t.dacN m = s.dacN m) ∧ t.clk = s.clk ∧ t.out = s.out ∧ BytesKept s t) ∧
  ∀ (n : Fin 4) (s : State), s.isRunning (0x0A + n) = true → s.flag (R.DAC_STATUS_RUNNING n) = false →
    Ends (exec (.dacSampleDue n) s) fun t =>
      (t.dacN n).code = 0 ∧ (t.dacN n).sent = (s.dacN n).sent ∧ t.clk = s.clk ∧ t.out = s.out ∧ BytesKept s t

/-- With MAN = 0, D factors as M·N exactly when D lies from 1 to 1,048,576 and has a divisor N up to 16 with D/N at most 65,536, and N is then the largest such divisor; with MAN = 1, M_MAN and N_MAN are used exactly when they lie from 1 to 65,536 and from 1 to 16. -/
def Obligations.DecimationFactors : Prop :=
  (∀ d a b m n : Nat, factorMN false d a b = some (m, n) ↔
    1 ≤ d ∧ d ≤ 1048576 ∧ 1 ≤ n ∧ n ≤ 16 ∧ m * n = d ∧ m ≤ 65536 ∧
      ∀ n' m', n < n' → n' ≤ 16 → m' * n' = d → 65536 < m') ∧
  ∀ d a b m n : Nat, factorMN true d a b = some (m, n) ↔ m = a ∧ n = b ∧ 1 ≤ a ∧ a ≤ 65536 ∧ 1 ≤ b ∧ b ≤ 16

/-- FCH_COMMIT and FCH_ENABLE on an open register start the checks, and COMMIT reads 1; a commit while COMMIT or PENDING is 1 is dropped and sets SHADOW_BUSY. FCH_CANCEL of a pending commit clears PENDING with RESULT CANCELLED, unless its hand-over stands in the present control cycle: then it changes nothing. FCH_DISABLE of an enabled chain is refused while a consumer names it, and otherwise stops it, with RESULT CANCELLED where it ends a commit and OK where it does not. None touches the shadow bank or the active one. -/
def Obligations.ChainWrites : Prop :=
  ∀ (pf : Fin 2) (n : Fin 16) (v : BitVec 32) (s : State), s.Opens pf (0x80000 + 0x1000 * n) →
    s.flag (R.FCH_CTRL_CANCEL n) = false →
    (bitOf v.toNat 4 = false → bitOf v.toNat 0 = s.flag (R.FCH_CTRL_EN n) →
      Ends (exec (.fchCommit pf n v) s) fun t =>
        (s.shadowHeld n = false → t.flag (R.FCH_CTRL_COMMIT n) = true ∧ (t.fchN n).chk = .commit ∧
          (t.fchN n).atPtime = bitOf v.toNat 2 ∧ (t.fchN n).flush = bitOf v.toNat 3 ∧
          (t.fchN n).align = max 1 (s.f (R.FCH_ALIGN_ALIGN n)) ∧
          t.f (R.FCH_STATUS_RESULT n) = s.f (R.FCH_STATUS_RESULT n)) ∧
        (s.shadowHeld n = true → t.flag (R.FCH_STATUS_SHADOW_BUSY n) = true ∧
          t.flag (R.FCH_CTRL_COMMIT n) = s.flag (R.FCH_CTRL_COMMIT n) ∧ t.fch = s.fch) ∧
        WordsKept (fun o => o = 0x80000 + 0x1000 * n ∨ o = 0x80004 + 0x1000 * n) s t) ∧
    (bitOf v.toNat 1 = false → bitOf v.toNat 0 = s.flag (R.FCH_CTRL_EN n) → s.flag (R.FCH_STATUS_PENDING n) = true →
      Ends (exec (.fchCancel pf n v) s) fun t =>
        (s.handOverStands n = false →
          t.flag (R.FCH_STATUS_PENDING n) = false ∧ t.f (R.FCH_STATUS_RESULT n) = stCancelled ∧ (t.fchN n).late = false) ∧
        (s.handOverStands n = true → t.flag (R.FCH_STATUS_PENDING n) = true ∧
          t.f (R.FCH_STATUS_RESULT n) = s.f (R.FCH_STATUS_RESULT n) ∧ t.fch = s.fch) ∧
        (∀ m, m ≠ n.val → t.fchN m = s.fchN m) ∧
        WordsKept (fun o => o = 0x80000 + 0x1000 * n ∨ o = 0x80004 + 0x1000 * n) s t) ∧
    (bitOf v.toNat 4 = false → s.flag (R.FCH_CTRL_EN n) = false →
      Ends (exec (.fchEnable pf n v) s) fun t =>
        t.flag (R.FCH_CTRL_EN n) = true ∧ t.flag (R.FCH_CTRL_COMMIT n) = true ∧ (t.fchN n).chk = .enable ∧
        t.f (R.FCH_STATUS_RESULT n) = s.f (R.FCH_STATUS_RESULT n) ∧
        WordsKept (fun o => o = 0x80000 + 0x1000 * n) s t) ∧
    (bitOf v.toNat 4 = false → s.flag (R.FCH_CTRL_EN n) = true →
      Ends (exec (.fchDisable pf n v) s) fun t =>
        (s.chainNamed n = true →
          t.flag (R.FCH_CTRL_EN n) = true ∧ t.f (R.FCH_STATUS_RESULT n) = stRefusedBusy ∧ t.fch = s.fch) ∧
        (s.chainNamed n = false →
          t.flag (R.FCH_CTRL_EN n) = false ∧ t.flag (R.FCH_STATUS_RUNNING n) = false ∧
          t.flag (R.FCH_STATUS_PENDING n) = false ∧ t.flag (R.FCH_CTRL_COMMIT n) = false ∧
          t.f (R.FCH_STATUS_RESULT n) =
            (if s.flag (R.FCH_STATUS_PENDING n) || (s.fchN n).chk == .commit then stCancelled else stOk)) ∧
        WordsKept (fun o => o = 0x80000 + 0x1000 * n ∨ o = 0x80004 + 0x1000 * n ∨ o = 0x90000) s t)

/-- FCH_CHECKS_DONE: RESULT takes the code of Table 4-4. A failed enable clears EN, a failed commit leaves everything else as it was; a commit to an enabled chain that passes sets PENDING; one to a disabled chain copies the bank at once without an epoch change; an enable that passes copies the bank, moves the epoch by one and waits for the alignment tick. FCH_START at an alignment tick then sets RUNNING, takes its first sample at the tick's first sample and emits on the grid of 2·D at or above it, with UNSETTLED on the first ⌈S/(2D)⌉ outputs. -/
def Obligations.ChainChecksAndStart : Prop :=
  (∀ (n : Fin 16) (s : State), (s.fchN n).chk = .enable →
    let r := s.fchChecks n true
    Ends (exec (.fchChecksDone n) s) fun t =>
      t.flag (R.FCH_CTRL_COMMIT n) = false ∧ t.f (R.FCH_STATUS_RESULT n) = r ∧ (t.fchN n).chk = .none ∧
      (r ≠ stOk → t.flag (R.FCH_CTRL_EN n) = false ∧ (t.fchN n).startWait = (s.fchN n).startWait ∧
        WordsKept (fun o => o = 0x80000 + 0x1000 * n ∨ o = 0x80004 + 0x1000 * n) s t) ∧
      (r = stOk → t.f (R.FCH_EPOCH_EPOCH n) = (s.f (R.FCH_EPOCH_EPOCH n) + 1) % 2 ^ 16 ∧ (t.fchN n).startWait = true ∧
        (t.fchN n).hb = [] ∧ (t.fchN n).fir = [] ∧
        (∀ i, i < 14 → t.word (0x80200 + 0x1000 * n + 4 * i) = s.word (0x80100 + 0x1000 * n + 4 * i)))) ∧
  (∀ (n : Fin 16) (s : State), (s.fchN n).chk = .commit →
    let r := s.fchChecks n (s.fchOn n)
    Ends (exec (.fchChecksDone n) s) fun t =>
      t.flag (R.FCH_CTRL_COMMIT n) = false ∧ t.f (R.FCH_STATUS_RESULT n) = r ∧ (t.fchN n).chk = .none ∧
      t.f (R.FCH_EPOCH_EPOCH n) = s.f (R.FCH_EPOCH_EPOCH n) ∧
      (r ≠ stOk → WordsKept (fun o => o = 0x80000 + 0x1000 * n ∨ o = 0x80004 + 0x1000 * n) s t) ∧
      (r = stOk → s.fchOn n = true → t.flag (R.FCH_STATUS_PENDING n) = true ∧
        t.flag (R.FCH_STATUS_LATE_HO n) =
          (s.flag (R.FCH_STATUS_LATE_HO n) || ((s.fchN n).atPtime && decide ((s.fchN n).hoPtime < s.now))) ∧
        WordsKept (fun o => o = 0x80000 + 0x1000 * n ∨ o = 0x80004 + 0x1000 * n) s t) ∧
      (r = stOk → s.fchOn n = false → t.flag (R.FCH_STATUS_PENDING n) = s.flag (R.FCH_STATUS_PENDING n) ∧
        ∀ i, i < 14 → t.word (0x80200 + 0x1000 * n + 4 * i) = s.word (0x80100 + 0x1000 * n + 4 * i))) ∧
  ∀ (n : Fin 16) (s : State), (s.fchN n).startWait = true → s.atTick = true →
    Ends (exec (.fchStart n) s) fun t =>
      t.flag (R.FCH_STATUS_RUNNING n) = true ∧ (t.fchN n).startWait = false ∧ (t.fchN n).nextIdx = s.clk.sampleIdx ∧
      (0 < s.actD n → s.clk.sampleIdx ≤ (t.fchN n).nextE ∧ (t.fchN n).nextE < s.clk.sampleIdx + 2 * s.actD n ∧
        (t.fchN n).nextE % (2 * s.actD n) = 0) ∧
      (t.fchN n).phase = s.f (act (R.FCH_NCO_POFS n)) * 2 ^ 32 ∧ (t.fchN n).lefts = [(s.settleCount n, fUNSETTLED)] ∧
      (∀ m, m ≠ n.val → t.fchN m = s.fchN m) ∧
      FieldsKept [R.FCH_STATUS_RUNNING n, R.FCH_LOAD] s t ∧ t = { s with regs := t.regs, sets := t.sets, fch := t.fch }

/-- FCH_HAND_OVER at its boundary: every word of the active bank and every coefficient is the shadow's, the epoch moves by one modulo 2^16, FCHn_HO_INDEX is the emit index of the boundary, PENDING reads 1 to the end of the control cycle and 0 from the next, and the next output has the smallest emit index at or above it on the new grid; with FLUSH the histories are empty; the outputs of the new bank that carry TRANSIENT or UNSETTLED are counted beside those that the bank before it still counts. CHAIN_OUTPUT of a running chain with its input present emits output j = E/(2·D) at its emit index and with the PTIME of that index, saturated to 16 bits, and the next output follows 2·D samples later; a hand-over that is due goes before it. -/
def Obligations.ChainHandOverAndOutput : Prop :=
  (∀ (n : Fin 16) (s : State), s.isRunning (0x10 + n) = true → s.handOverDue n = true →
    let u := (s.chainHandOver n).1
    let eh := (s.fchN n).nextE
    u.f (R.FCH_EPOCH_EPOCH n) = (s.f (R.FCH_EPOCH_EPOCH n) + 1) % 2 ^ 16 ∧ u.f (R.FCH_HO_INDEX n) = eh % 2 ^ 64 ∧
      u.flag (R.FCH_STATUS_PENDING n) = true ∧ u.fchTick.flag (R.FCH_STATUS_PENDING n) = false ∧
      (∀ i, i < 14 → u.word (0x80200 + 0x1000 * n + 4 * i) = s.word (0x80100 + 0x1000 * n + 4 * i)) ∧
      (∀ i, i < 512 → u.word (0x80800 + 0x1000 * n + 4 * i) = s.word (coefOff n i)) ∧
      (0 < u.actD n → eh ≤ (u.fchN n).nextE ∧ (u.fchN n).nextE < eh + 2 * u.actD n ∧ (u.fchN n).nextE % (2 * u.actD n) = 0) ∧
      ((s.fchN n).flush = true → (u.fchN n).hb = [] ∧ (u.fchN n).fir = [] ∧ (u.fchN n).env = 0 ∧
        u.flag (R.FCH_CTRL_FLUSH n) = false ∧
        (u.fchN n).lefts = (u.settleCount n, fUNSETTLED) :: (s.fchN n).lefts) ∧
      ((s.fchN n).flush = false → (u.fchN n).hb = (s.fchN n).hb ∧ (u.fchN n).fir = (s.fchN n).fir ∧
        (u.fchN n).lefts = (u.settleCount n, fTRANSIENT) :: (s.fchN n).lefts) ∧
      u = { s with regs := u.regs, sets := u.sets, fch := u.fch } ∧
      exec (.fchHandOver n) s = .next ((s.chainHandOver n).2.foldl (fun (t : State) d => t.feedDet n d) u)) ∧
  (∀ (n : Fin 16) (s : State), s.flag (R.FCH_STATUS_RUNNING n) = true → s.isRunning (0x10 + n) = true →
    s.handOverDue n = false → s.inputReady n = true →
    let e := (s.fchN n).nextE
    let r := s.emitOutput n
    r.2.1.e = e ∧ r.2.1.ptE = s.idxTime e ∧ r.2.1.j = e / (2 * s.actD n) ∧ (-32768 ≤ r.2.1.i ∧ r.2.1.i ≤ 32767) ∧
      (-32768 ≤ r.2.1.q ∧ r.2.1.q ≤ 32767) ∧ r.2.1.epoch = s.f (R.FCH_EPOCH_EPOCH n) ∧
      (r.1.fchN n).nextE = e + 2 * s.actD n ∧ (r.1.fchN n).last = r.2.1 ∧ r.1 = { s with regs := r.1.regs, sets := r.1.sets, fch := r.1.fch } ∧
      exec (.chainOutput n) s = .next (r.2.2.foldl (fun (t : State) d => t.feedDet n d) (r.1.feedOut n r.2.1))) ∧
  ∀ (n : Fin 16) (s : State), s.flag (R.FCH_STATUS_RUNNING n) = true → s.isRunning (0x10 + n) = true →
    s.handOverDue n = true →
    let h := s.chainHandOver n
    let r := h.1.emitOutput n
    exec (.chainOutput n) s = .next (if h.1.inputReady n
      then (h.2 ++ r.2.2).foldl (fun (t : State) d => t.feedDet n d) (r.1.feedOut n r.2.1)
      else h.2.foldl (fun (t : State) d => t.feedDet n d) h.1)

/-- A billet enters a rack in front of the first billet that it precedes and behind all others: the rack keeps the order of the rest. A billet precedes another when its deadline is earlier, (a − b) mod 2^32 being at least 2^31; with equal deadlines when its CREATED is earlier in the same sense; with both equal when its CONTEXT is lower. -/
def Obligations.RackOrder : Prop :=
  (∀ a b : Billet, a.deadline < 2 ^ 32 → b.deadline < 2 ^ 32 → a.created < 2 ^ 32 → b.created < 2 ^ 32 →
    (billetBefore a b = true ↔
      (a.deadline ≠ b.deadline ∧ 2 ^ 31 ≤ ((a.deadline : Int) - b.deadline) % 2 ^ 32) ∨
      (a.deadline = b.deadline ∧ a.created ≠ b.created ∧ 2 ^ 31 ≤ ((a.created : Int) - b.created) % 2 ^ 32) ∨
      (a.deadline = b.deadline ∧ a.created = b.created ∧ a.ctx < b.ctx))) ∧
  ∀ (b : Billet) (r : List Billet),
    ∃ r1 r2, r = r1 ++ r2 ∧ rackIns b r = r1 ++ b :: r2 ∧ (∀ x ∈ r1, billetBefore b x = false) ∧
      (∀ x xs, r2 = x :: xs → billetBefore b x = true)

/-- LOCAL_TAKE of a forge whose rack has a head and that has an idle anvil: the first idle anvil after the one last served runs that billet, marked STOLEN exactly when its home is elsewhere, and the rack keeps the rest. STEAL_PROBE of an idle anvil whose own rack is empty, at the next distance within the radius: the victim is the yielding rack of f + d and f − d with the earlier deadline, f + d on a tie; its head goes to the anvil and FRGf_STOLEN and FRGf_LOST count it; with no victim, or where the rack has served a thief before it in the order of R153, the probe goes on at the next distance or starts again. -/
def Obligations.TakingWork : Prop :=
  (∀ (f : Fin 32) (b : Billet) (rest : List Billet) (s : State) (a : Nat), s.rackOf f = b :: rest →
    ((List.range 32).map (fun i => (tget (fun _ => 0) s.fab.taken f + i) % 32)).find?
      (fun a => s.anvIdle f a && (s.anvN f a).probe == 0) = some a →
    Ends (exec (.localTake f) s) fun t =>
      t.rackOf f = rest ∧ (t.anvN f a).run = some { b with stolen := f.val != b.home } ∧ (t.anvN f a).pc = b.kentry ∧
      t.f (R.FRG_STATUS_LEVEL f) = rest.length % 2 ^ 9 ∧ tget (fun _ => 0) t.fab.taken f = (a + 1) % 32 ∧
      (∀ g, g ≠ f.val → t.rackOf g = s.rackOf g) ∧
      FieldsKept [R.FRG_STATUS_LEVEL f, R.FRG_STATUS_ABOVE_HWM f] s t ∧ t = { s with regs := t.regs, sets := t.sets, fab := t.fab }) ∧
  (∀ (f a : Fin 32) (lost : Bool) (g : Nat) (b : Billet) (s : State), s.anvIdle f a = true → s.rackOf f = [] →
    (lost = false ∨ s.outrun g f a = false) →
    (s.anvN f a).probe + 1 ≤ s.radius → s.victim f ((s.anvN f a).probe + 1) = some (g, b) →
    Ends (exec (.stealProbe f a lost) s) fun t =>
      (g = ringUp f ((s.anvN f a).probe + 1) ∨ g = ringDown f ((s.anvN f a).probe + 1)) ∧
      t.rackOf g = (s.rackOf g).tail ∧ (s.rackOf g).head? = some b ∧
      max 1 (s.f R.FAB_CTRL_STEAL_MIN) ≤ (s.rackOf g).length ∧
      (t.anvN f a).run = some { b with stolen := f.val != b.home } ∧ (t.anvN f a).probe = 0 ∧
      (g ≠ f.val → t.f (R.FRG_STOLEN f) = min (s.f (R.FRG_STOLEN f) + 1) (2 ^ 64 - 1) ∧
        t.f (R.FRG_LOST g) = min (s.f (R.FRG_LOST g) + 1) (2 ^ 64 - 1)) ∧
      t = { s with regs := t.regs, sets := t.sets, fab := t.fab }) ∧
  ∀ (f a : Fin 32) (lost : Bool) (s : State), s.anvIdle f a = true → s.rackOf f = [] →
    (s.anvN f a).probe + 1 ≤ s.radius → (s.victim f ((s.anvN f a).probe + 1) = none ∨
      ∃ g b, s.victim f ((s.anvN f a).probe + 1) = some (g, b) ∧ lost = true ∧ s.outrun g f a = true) →
    Ends (exec (.stealProbe f a lost) s) fun t =>
      (t.anvN f a).probe = (if (s.anvN f a).probe + 1 = s.radius then 0 else (s.anvN f a).probe + 1) ∧
      (t.anvN f a).run = (s.anvN f a).run ∧ t = { s with fab := { s.fab with anv := t.fab.anv } }

/-- FAB_BUDGET_WRITE on an open register: a budget, or a radius, with which the admitted class G loads pass both tests of R162 is taken; otherwise the register keeps its value and LIMIT_REFUSED is set. The tests: the sum of the G loads is at most the budget of K, and for every forge the G loads homed within the radius are at most the budget of W × 40.96 × 10^9, that is, of W/32 of K, which follows F_R. -/
def Obligations.BudgetWrites : Prop :=
  (∀ (b r : Nat) (s : State), r ≤ 16 → (s.limitsOk b r = true ↔
    65536 * s.f R.FAB_G_LOAD ≤ b * s.f R.FAB_CAPACITY ∧
      ∀ f, f < 32 → 65536 * 32 * ((List.range (min (2 * r + 1) 32)).map (fun i => s.f (R.FRG_G_HOME ((f + 32 - r + i) % 32)))).sum ≤
        b * min (2 * r + 1) 32 * s.f R.FAB_CAPACITY)) ∧
  (∀ (pf : Fin 2) (v : BitVec 32) (s : State), s.Opens pf 0x180004 →
    Ends (exec (.fabBudgetWrite pf false v) s) fun t =>
      (s.limitsOk (v.toNat % 65536) s.radius = true → t.f R.FAB_G_BUDGET_BUDGET = v.toNat % 65536 ∧
        t.flag R.FAB_STATUS_LIMIT_REFUSED = s.flag R.FAB_STATUS_LIMIT_REFUSED) ∧
      (s.limitsOk (v.toNat % 65536) s.radius = false → t.f R.FAB_G_BUDGET_BUDGET = s.f R.FAB_G_BUDGET_BUDGET ∧
        t.flag R.FAB_STATUS_LIMIT_REFUSED = true) ∧
      WordsKept (fun o => o = 0x180004 ∨ o = 0x180010) s t ∧
      t = { s with regs := t.regs, sets := t.sets, pwr := { s.pwr with lastUse := t.pwr.lastUse } }) ∧
  ∀ (pf : Fin 2) (v : BitVec 32) (s : State), s.Opens pf 0x180000 →
    Ends (exec (.fabBudgetWrite pf true v) s) fun t =>
      let ok := s.limitsOk (s.f R.FAB_G_BUDGET_BUDGET) (min 16 (v.toNat % 32))
      (ok = true → t.f R.FAB_CTRL_STEAL_RADIUS = v.toNat % 32 ∧
        t.flag R.FAB_STATUS_LIMIT_REFUSED = s.flag R.FAB_STATUS_LIMIT_REFUSED) ∧
      (ok = false → t.f R.FAB_CTRL_STEAL_RADIUS = s.f R.FAB_CTRL_STEAL_RADIUS ∧ t.flag R.FAB_STATUS_LIMIT_REFUSED = true) ∧
      t.f R.FAB_CTRL_STEAL_MIN = bitsOf v.toNat 8 5 ∧ WordsKept (fun o => o = 0x180000 ∨ o = 0x180010) s t

/-- FRAME_CUT of a frame whose last output is in the hearth, of a running context without long transforms, averages in progress, a pending change or a move under way: NEXT_SEQ moves by one whatever becomes of the frame; a frame that the class rules skip adds to SHED and enters no rack; one that is not skipped, with its home forge in service and room in its rack, enters that rack with its deadline DL after the present fabric cycle. HOME_MOVE whose tests pass reserves the space in the new home, and the next cut changes the home; one whose tests fail changes nothing. PIN_SEGMENT takes the next segment, and one that finds 16 unconsumed counts in FRGf_PIN_OVR. -/
def Obligations.FrameCuts : Prop :=
  (∀ (c : Fin 3072) (s : State) (first time sidx hold : Nat) (rest : List (Nat × Nat × Nat × Nat)),
    (s.ctxN c).starts = (first, time, sidx, hold) :: rest → (s.ctxN c).cutting = true → (s.ctxN c).pend = none →
    first + (s.ctxN c).l ≤ (s.ctxN c).nextJ → s.ctxState c = 2 → (s.ctxN c).moveTo = none → cfgLong (s.cfgNow c) = false →
    (s.ctxN c).fault = none → (s.ctxN c).oldAlloc = [] → (s.ctxN c).waitPub = [] → (s.ctxN c).avgs = [] →
    let cls := cfgClass (s.cfgNow c)
    let home := s.homeOf c
    let skips := s.cutSkips c cls (s.cfgNow c)
    Ends (exec (.frameCut c) s) fun t =>
      (skips = true → t.f (R.CTX_NEXT_SEQ c) = ((s.ctxN c).nextSeq + 1) % 2 ^ 32 ∧
        t.f (R.CTX_SHED c) = (s.f (R.CTX_SHED c) + 1) % 2 ^ 64 ∧ t.fab = s.fab) ∧
      (skips = false → s.forgeUp home = true → (s.rackOf home).length < 256 →
        t.f (R.CTX_NEXT_SEQ c) = ((s.ctxN c).nextSeq + 1) % 2 ^ 32 ∧ t.f (R.CTX_SHED c) = s.f (R.CTX_SHED c) ∧
        (∃ b : Billet, t.rackOf home = rackIns b (s.rackOf home) ∧ b.ctx = c ∧ b.home = home ∧ b.cls = cls ∧ b.last = true ∧
          b.stolen = false ∧ b.reissue = false ∧ b.seq = (s.ctxN c).nextSeq ∧ b.created = s.fc ∧
          b.deadline = (s.fc + cfgF (s.cfgNow c) (R.CTX_DEADLINE_DEADLINE 0)) % 2 ^ 32 ∧ b.first = first ∧
          b.kentry = (s.ctxN c).kentry ∧ b.skipped = min (s.ctxN c).skipPrev 65535) ∧
        (t.ctxN c).starts = rest ∧ (t.ctxN c).skipPrev = 0 ∧ t.mem = s.mem ∧ t.out = s.out)) ∧
  (∀ (c : Fin 3072) (f : Fin 32) (s : State),
    ((s.ctxN c).cutting = false ∨ (s.ctxN c).moveTo.isSome = true ∨ s.moveFits c f = false ∨ f.val = s.homeOf c ∨ cfgB (s.cfgNow c) (R.CTX_SRC_PIN 0) = true ∨ (s.ctxN c).planeLen ≠ 0 ∨
      s.hearthFit f (s.ctxN c).ringLen 0 (s.ctxN c).workLen = none) → exec (.homeMove c f) s = .next s) ∧
  (∀ (c : Fin 3072) (f : Fin 32) (s : State) (ring plane work : Nat), (s.ctxN c).cutting = true → f.val ≠ s.homeOf c →
    cfgB (s.cfgNow c) (R.CTX_SRC_PIN 0) = false → (s.ctxN c).planeLen = 0 → (s.ctxN c).moveTo = none →
    s.moveFits c f = true → s.hearthFit f (s.ctxN c).ringLen 0 (s.ctxN c).workLen = some (ring, plane, work) →
    Ends (exec (.homeMove c f) s) fun t =>
      (t.ctxN c).moveTo = some (f.val, ring, work) ∧ t.homeOf c = s.homeOf c ∧
      t.f (R.FRG_HEARTH_FREE_BYTES f) = s.f (R.FRG_HEARTH_FREE_BYTES f) - ((s.ctxN c).ringLen + (s.ctxN c).workLen) ∧
      FieldsKept [R.FRG_HEARTH_FREE_BYTES f] s t ∧ t = { s with regs := t.regs, ctx := t.ctx }) ∧
  (∀ (c : Fin 3072) (f : Fin 32) (s : State) (ring work : Nat), (s.ctxN c).moveTo = some (f.val, ring, work) →
    (s.ctxN c).waitPub = [] → s.moveFits c f = true →
    let t := s.homeTake c
    t.homeOf c = f ∧ (t.ctxN c).ring = ring ∧ (t.ctxN c).work = work ∧ (t.ctxN c).moveTo = none ∧
      (t.ctxN c).gen = (s.ctxN c).gen + 1 ∧ t.fab = s.fab ∧ t.clk = s.clk) ∧
  ∀ (c : Fin 3072) (s : State) (seg : List (BitVec 8)) (info : FoldInfo)
    (rest : List (List (BitVec 8) × FoldInfo)), (s.ctxN c).segDue = (seg, info) :: rest →
    (s.ctxN c).cutting = true → (s.ctxN c).pend = none →
    let f := s.homeOf c
    let y := s.anvN f (s.f (R.CTX_ACT_PIN_ANVIL c))
    Ends (exec (.pinSegment c) s) fun t =>
      (t.ctxN c).segDue = rest ∧ t.f (R.CTX_NEXT_SEQ c) = ((s.ctxN c).nextSeq + 1) % 2 ^ 32 ∧
      (y.segs.length < 16 → t.f (R.FRG_PIN_OVR f) = s.f (R.FRG_PIN_OVR f) ∧
        (t.anvN f (s.f (R.CTX_ACT_PIN_ANVIL c))).segs.length = y.segs.length + 1) ∧
      (16 ≤ y.segs.length → t.f (R.FRG_PIN_OVR f) = min (s.f (R.FRG_PIN_OVR f) + 1) (2 ^ 32 - 1) ∧
        (t.anvN f (s.f (R.CTX_ACT_PIN_ANVIL c))).segs.length ≤ y.segs.length) ∧ t.mem = s.mem

/-- Without a modulo length and without BR, an address moves by its signed offset modulo 2^16. With a modulo length L other than 0, an address within its buffer from b to b + L − 1 and an offset whose size is at most L stay in the buffer: the new place is the old one plus the offset, modulo L. With BR set the low four bits stay, and the 12 bits above them, read in reverse order, move by the offset's, read in reverse order, modulo 2^12. -/
def Obligations.PostModification : Prop :=
  (∀ a o : Nat, a < 2 ^ 16 → o < 2 ^ 16 → postMod a o 0 false = (a + o) % 2 ^ 16) ∧
  (∀ a o l b r : Nat, a < 2 ^ 16 → o < 2 ^ 16 → 0 < l → l < 2 ^ 16 → (sext 16 o).natAbs ≤ l →
    b = a / 2 ^ ceilLog2 l * 2 ^ ceilLog2 l → a = b + r → r < l →
    postMod a o l false = b + (((r : Int) + sext 16 o) % l).toNat) ∧
  ∀ a o l : Nat, a < 2 ^ 16 → o < 2 ^ 16 →
    postMod a o l true % 16 = a % 16 ∧
      rev12 (postMod a o l true / 16) = (rev12 (a / 16) + rev12 (o / 16)) % 2 ^ 12 ∧ postMod a o l true < 2 ^ 16

/-- NOP, SLI, SLUI, SADD, SSUB, SADDI, SLOG, SSH, AIMM, OIMM, LIMM, AMOV, SMOVA and RDSAT, as the word at PC, alone and in a repeat, with a micro-routine that ends: PC moves to the next word, or stays while the repeat goes on, the cycles of the routine are counted, the named register takes the value of Table 6-5, and every other register of the anvil, every other anvil and everything else keeps its value. The fourth kind of SSH shift, to which the spec gives no value, writes a free value. Stores that realise Table 6-5, as every Lanioft image does (R223), give each instruction its cycles: BFLY4 takes 8, BFLY2 4, WIN 3, the branches, ALD, AST, a TLOAD that hits and MAG2.DB 2, and every other instruction but MOVE 1. -/
def Obligations.ScalarInstructions : Prop :=
  (∀ (f a : Fin 32) (s : State), s.asTable f a = true →
    let op := bitsOf (s.insWord f a) 24 8
    (s.issued f a).1 = (if op = 0x48 then 8 else if op = 0x49 then 4 else if op = 0x4A then 3
      else if op = 0x04 ∨ op = 0x05 ∨ op = 0x06 ∨ op = 0x25 ∨ op = 0x26 ∨ op = 0x69 then 2
      else if op = 0x50 ∧ bitOf (s.insWord f a) 9 = true then 2 else 1)) ∧
  ∀ (f a : Fin 32) (s : State),
    let x := s.anvN f a
    let w := s.insWord f a
    let d := insD w
    (s.Steps f a 0x00 → exec (.nop f a) s = .next (s.stepsTo f a x)) ∧
    (s.Steps f a 0x08 → exec (.sli f a) s = .next (s.stepsTo f a (x.setS d (wrapInt 32 (sext 20 (bitsOf w 0 20)))))) ∧
    (s.Steps f a 0x09 → exec (.slui f a) s = .next (s.stepsTo f a (x.setS d (x.s_ d % 2 ^ 16 + 2 ^ 16 * bitsOf w 0 16)))) ∧
    (s.Steps f a 0x0A → exec (.sadd f a) s = .next (s.stepsTo f a (x.setS d ((x.s_ (insA w) + x.s_ (insB w)) % 2 ^ 32)))) ∧
    (s.Steps f a 0x0B → exec (.ssub f a) s =
      .next (s.stepsTo f a (x.setS d (wrapInt 32 ((x.s_ (insA w) : Int) - x.s_ (insB w)))))) ∧
    (s.Steps f a 0x0C → exec (.saddi f a) s =
      .next (s.stepsTo f a (x.setS d (wrapInt 32 ((x.s_ d : Int) + sext 20 (bitsOf w 0 20)))))) ∧
    (s.Steps f a 0x0D → exec (.slog f a) s = .next (s.stepsTo f a (x.setS d
      (if bitsOf w 0 2 = 0 then x.s_ (insA w) &&& x.s_ (insB w)
       else if bitsOf w 0 2 = 1 then x.s_ (insA w) ||| x.s_ (insB w)
       else if bitsOf w 0 2 = 2 then x.s_ (insA w) ^^^ x.s_ (insB w)
       else x.s_ (insA w) &&& (2 ^ 32 - 1 - x.s_ (insB w)))))) ∧
    (s.Steps f a 0x0E → bitsOf w 5 2 ≠ 3 → exec (.ssh f a) s = .next (s.stepsTo f a (x.setS d
      (if bitsOf w 5 2 = 0 then x.s_ (insA w) * 2 ^ bitsOf w 0 5 % 2 ^ 32
       else if bitsOf w 5 2 = 1 then x.s_ (insA w) / 2 ^ bitsOf w 0 5
       else wrapInt 32 (sext 32 (x.s_ (insA w)) / 2 ^ bitsOf w 0 5))))) ∧
    (s.Steps f a 0x0E → bitsOf w 5 2 = 3 →
      ∃ v, exec (.ssh f a) s = .next (s.stepsTo f a (x.setS d v)).next) ∧
    (s.Steps f a 0x10 → exec (.aimm f a) s = .next (s.stepsTo f a (x.setA (d % 8) (bitsOf w 0 16)))) ∧
    (s.Steps f a 0x11 → exec (.oimm f a) s =
      .next (s.stepsTo f a { x with o := tset (fun _ => 0) x.o (d % 8) (BitVec.ofNat 16 (bitsOf w 0 16)) })) ∧
    (s.Steps f a 0x12 → exec (.limm f a) s = .next (s.stepsTo f a { x with
      l := tset (fun _ => 0) x.l (d % 8) (BitVec.ofNat 16 (bitsOf w 0 16))
      br := tset (fun _ => false) x.br (d % 8) (bitOf w 16) })) ∧
    (s.Steps f a 0x13 → exec (.amov f a) s = .next (s.stepsTo f a (x.setA d (x.s_ (insA w) % 2 ^ 16)))) ∧
    (s.Steps f a 0x14 → exec (.smova f a) s = .next (s.stepsTo f a (x.setS d (x.a_ (insA w))))) ∧
    (s.Steps f a 0x15 → exec (.rdsat f a) s =
      .next (s.stepsTo f a { x.setS d (if x.sat then 1 else 0) with sat := false }))

/-- VLD, VST, VLD2, SLD, SST, ALD and AST as the word at PC, alone and in a repeat. Loads read scratch at the present address with the low bits ignored, write their register, post-modify and leave scratch alone. Stores write exactly the 16, 4 or three times 16 bytes at the addresses that they use: every other byte of scratch, every other anvil and everything outside the anvil keeps its value. -/
def Obligations.LoadsAndStores : Prop :=
  ∀ (f a : Fin 32) (s : State),
    let x := s.anvN f a
    let w := s.insWord f a
    let p := insAp w
    let ad := x.a_ p
    (s.Steps f a 0x20 → exec (.vld f a) s = .next (s.stepsTo f a ((x.post p).setVec (insD w) (x.loadV ad)))) ∧
    (s.Steps f a 0x22 → exec (.vld2 f a) s = .next (s.stepsTo f a
      ((((x.post p).post (insAq w)).setVec (insD w) (x.loadV ad)).setVec (insD w + 1) (x.loadV ((x.post p).a_ (insAq w)))))) ∧
    (s.Steps f a 0x23 → exec (.sld f a) s =
      .next (s.stepsTo f a ((x.post p).setS (insD w) (leNat (x.bytes (ad / 4 * 4) 4))))) ∧
    (s.Steps f a 0x21 → Ends (exec (.vst f a) s) fun t =>
      (t.anvN f a).bytes (ad / 16 * 16) 16 = ((x.vec (insD w)).map (fun v => leBytes 2 (wrapInt 16 v))).flatten ∧
      (∀ k, k < 2 ^ 16 → (k < ad / 16 * 16 ∨ ad / 16 * 16 + 16 ≤ k) → (t.anvN f a).bytes k 1 = x.bytes k 1) ∧
      (t.anvN f a).a = (x.post p).a ∧ (t.anvN f a).v = x.v ∧ (t.anvN f a).sr = x.sr ∧ (t.anvN f a).acc = x.acc ∧
      (t.anvN f a).pc = s.nextPc f a ∧ t = { s.setAnv f a (t.anvN f a) with freeCtr := t.freeCtr }) ∧
    (s.Steps f a 0x24 → Ends (exec (.sst f a) s) fun t =>
      leNat ((t.anvN f a).bytes (ad / 4 * 4) 4) = x.s_ (insD w) ∧
      (∀ k, k < 2 ^ 16 → (k < ad / 4 * 4 ∨ ad / 4 * 4 + 4 ≤ k) → (t.anvN f a).bytes k 1 = x.bytes k 1) ∧
      (t.anvN f a).a = (x.post p).a ∧ (t.anvN f a).v = x.v ∧ (t.anvN f a).sr = x.sr ∧ (t.anvN f a).acc = x.acc ∧
      (t.anvN f a).pc = s.nextPc f a ∧ t = { s.setAnv f a (t.anvN f a) with freeCtr := t.freeCtr }) ∧
    (s.Steps f a 0x25 → Ends (exec (.ald f a) s) fun t =>
      let v0 := x.loadV ad
      let v1 := x.loadV ((x.post p).a_ p)
      let v2 := x.loadV (((x.post p).post p).a_ p)
      (∀ i, i < 8 → ((t.anvN f a).grp (insD w))[i]? = some (sext 40
        (wrapInt 16 ((v0[i]?).getD 0) + 2 ^ 16 * wrapInt 16 ((v1[i]?).getD 0) + 2 ^ 32 * wrapInt 16 ((v2[i]?).getD 0)))) ∧
      (t.anvN f a).scratch = x.scratch ∧ (t.anvN f a).v = x.v ∧ (t.anvN f a).sr = x.sr ∧
      (t.anvN f a).pc = s.nextPc f a ∧ t = { s.setAnv f a (t.anvN f a) with freeCtr := t.freeCtr }) ∧
    (s.Steps f a 0x26 → exec (.ast f a) s = .next (s.stepsTo f a
      (((x.writeV p (x.grp (insD w))).writeV p ((x.grp (insD w)).map (fun v => v / 2 ^ 16))).writeV p
        ((x.grp (insD w)).map (fun v => v / 2 ^ 32)))))

/-- VADD, VSUB, VMUL, VMAC, VMAX, VMIN, VSHR, VSHL, VLOG, VSWAP, ACLR, ARND, VBCAST, VLANE, CMUL and CMAC as the word at PC, alone and in a repeat: each lane result is computed exactly, narrowed with ties away from zero where it is narrowed, and saturated at the limits of a lane or of an accumulator lane; SAT is set exactly when some lane saturates, and otherwise keeps its value. Everything but the result register, SAT, PC and the cycle count keeps its value. -/
def Obligations.LaneInstructions : Prop :=
  (∀ i : Int, (sat16 i).1 = max (-32768) (min 32767 i) ∧ ((sat16 i).2 = true ↔ i < -32768 ∨ 32767 < i)) ∧
  (∀ i : Int, (sat40 i).1 = max (-(2 ^ 39 - 1)) (min (2 ^ 39 - 1) i) ∧ ((sat40 i).2 = true ↔ i < -(2 ^ 39 - 1) ∨ 2 ^ 39 - 1 < i)) ∧
  ∀ (f a : Fin 32) (s : State),
    let x := s.anvN f a
    let w := s.insWord f a
    let d := insD w
    let va := x.vec (insA w)
    let vb := x.vec (insB w)
    let g := insG w
    let lanes := fun (op : Int → Int → Int × Bool) => List.zipWith op va vb
    let put := fun (rs : List (Int × Bool)) => s.stepsTo f a ((x.setVec d (rs.map Prod.fst)).satOr (rs.any Prod.snd))
    let acc := fun (rs : List (Int × Bool)) => s.stepsTo f a ((x.setGrp g (rs.map Prod.fst)).satOr (rs.any Prod.snd))
    (s.Steps f a 0x30 → exec (.vadd f a) s = .next (put (lanes (fun p q => sat16 (p + q))))) ∧
    (s.Steps f a 0x31 → exec (.vsub f a) s = .next (put (lanes (fun p q => sat16 (p - q))))) ∧
    (s.Steps f a 0x32 → exec (.vmul f a) s = .next (put (lanes (fun p q => sat16 (roundDiv (p * q) (2 ^ 15)))))) ∧
    (s.Steps f a 0x33 → exec (.vmac f a) s =
      .next (acc (List.zipWith (fun p q => sat40 (p + q)) (x.grp g) (List.zipWith (fun p q => p * q) va vb)))) ∧
    (s.Steps f a 0x34 → exec (.vmax f a) s = .next (put (lanes (fun p q => (max p q, false))))) ∧
    (s.Steps f a 0x35 → exec (.vmin f a) s = .next (put (lanes (fun p q => (min p q, false))))) ∧
    (s.Steps f a 0x36 → exec (.vshr f a) s = .next (put (va.map (fun p => sat16 (roundDiv p (2 ^ bitsOf w 0 4)))))) ∧
    (s.Steps f a 0x37 → exec (.vshl f a) s = .next (put (va.map (fun p => sat16 (p * 2 ^ bitsOf w 0 4))))) ∧
    (s.Steps f a 0x38 → exec (.vlog f a) s =
      .next (put (lanes (fun p q => (sext 16 (logicOp (bitsOf w 0 2) 16 (wrapInt 16 p) (wrapInt 16 q)), false))))) ∧
    (s.Steps f a 0x39 → exec (.vswap f a) s = .next (put ((unpoints ((points va).map (fun p =>
      if bitOf w 0 then (p.1, -p.2) else (p.2, p.1)))).map sat16))) ∧
    (s.Steps f a 0x3A → exec (.aclr f a) s = .next (s.stepsTo f a (x.setGrp g (List.replicate 8 0)))) ∧
    (s.Steps f a 0x3B → exec (.arnd f a) s = .next (put ((x.grp g).map (fun p => sat16 (roundDiv p (2 ^ bitsOf w 0 6)))))) ∧
    (s.Steps f a 0x3C → exec (.vbcast f a) s =
      .next (s.stepsTo f a (x.setVec d (List.replicate 8 (sext 16 (x.s_ (insA w))))))) ∧
    (s.Steps f a 0x3D → exec (.vlane f a) s =
      .next (s.stepsTo f a (x.setS d (wrapInt 32 ((va[bitsOf w 0 3]?).getD 0))))) ∧
    (s.Steps f a 0x40 → exec (.cmul f a) s =
      .next (put ((cmulLanes (bitOf w 0) va vb).map (fun p => sat16 (roundDiv p (2 ^ 15)))))) ∧
    (s.Steps f a 0x41 → exec (.cmac f a) s =
      .next (acc (List.zipWith (fun p q => sat40 (p + q)) (x.grp g) (cmulLanes (bitOf w 0) va vb))))

/-- BFLY4, BFLY2, WIN, MAG2, MAG2.DB, LOG2A, VMAXI, VMINI and HIST as the word at PC, alone and in a repeat, each in the cycles of its routine. The radix-4 outputs are y0 = t0 + t1 + t2 + t3, y1 = t0 − t2 − j(t1 − t3), y2 = t0 − t1 + t2 − t3 and y3 = t0 − t2 + j(t1 − t3), y1 and y3 exchanged with INV. MAG2 sets a lane to I² + Q² exactly; a positive lane x of LOG2A gives 256·⌊log2 x⌋ plus a table value from 0 to 255; VMAXI and VMINI replace the held value only on a strict comparison and count eight elements; HIST writes 0 for a column outside 0 to 1,023 and clamps the row. -/
def Obligations.TransformInstructions : Prop :=
  (∀ (inv : Bool) (t0 t1 t2 t3 : Int × Int),
    bfly4 inv t0 t1 t2 t3 =
      let y1 : Int × Int := (t0.1 - t2.1 + (t1.2 - t3.2), t0.2 - t2.2 - (t1.1 - t3.1))
      let y3 : Int × Int := (t0.1 - t2.1 - (t1.2 - t3.2), t0.2 - t2.2 + (t1.1 - t3.1))
      [(t0.1 + t2.1 + (t1.1 + t3.1), t0.2 + t2.2 + (t1.2 + t3.2)), if inv then y3 else y1,
       (t0.1 + t2.1 - (t1.1 + t3.1), t0.2 + t2.2 - (t1.2 + t3.2)), if inv then y1 else y3]) ∧
  (∀ x : Nat, 0 < x → x < 2 ^ 40 → 256 * Nat.log2 x ≤ log2a x ∧ log2a x ≤ 256 * Nat.log2 x + 255) ∧
  (∀ col row : Int, ((col < 0 ∨ 1023 < col) → histWord col row = 0) ∧
    (0 ≤ col → col ≤ 1023 → (histWord col row : Int) = 2 ^ 31 + 2 ^ 10 * max 0 (min 255 row) + col)) ∧
  ∀ (f a : Fin 32) (s : State),
    let x := s.anvN f a
    let w := s.insWord f a
    let r := x.readMags (insAp w)
    let v := if bitOf w 0 then (x.readV (insAp w)).1.map (fun i => ((wrapInt 16 i : Nat) : Int)) else (x.readV (insAp w)).1
    let held : Int := if bitOf w 0 then (x.s_ (insD w) : Int) else sext 32 (x.s_ (insD w))
    (s.Steps f a 0x48 → Ends (exec (.bfly4 f a) s) fun t =>
      t = s.stepsTo f a (bfly4Body w x) ∧ (t.anvN f a).v = x.v ∧ (t.anvN f a).sr = x.sr ∧ (t.anvN f a).acc = x.acc) ∧
    (s.Steps f a 0x49 → Ends (exec (.bfly2 f a) s) fun t =>
      t = s.stepsTo f a (bfly2Body w x) ∧ (t.anvN f a).v = x.v ∧ (t.anvN f a).sr = x.sr ∧ (t.anvN f a).acc = x.acc) ∧
    (s.Steps f a 0x4A → Ends (exec (.win f a) s) fun t =>
      t = s.stepsTo f a (winBody w x) ∧ (t.anvN f a).v = x.v ∧ (t.anvN f a).sr = x.sr ∧ (t.anvN f a).acc = x.acc) ∧
    (s.Steps f a 0x50 → bitOf w 9 = false →
      exec (.mag2 f a) s = .next (s.stepsTo f a (r.2.setGrp (insD w) r.1))) ∧
    (s.Steps f a 0x50 → bitOf w 9 = true →
      exec (.mag2Db f a) s = .next (s.stepsTo f a (r.2.writeV (insAq w) (r.1.map (fun p =>
        if p = 0 then 0 else (((log2a p.toNat * 3083 + 512) / 1024 : Nat) : Int)))))) ∧
    (s.Steps f a 0x52 → exec (.log2a f a) s = .next (s.stepsTo f a
      ((x.setVec (insD w) ((x.grp (insG w)).map (fun p => if p < 0 then 0 else ((log2a p.toNat : Nat) : Int)))).satOr
        ((x.grp (insG w)).any (fun p => decide (p < 0)))))) ∧
    (s.Steps f a 0x58 → insD w ≤ 13 → Ends (exec (.vmaxi f a) s) fun t =>
      (held < (bestLane true v).1 → (t.anvN f a).s_ (insD w) = wrapInt 32 (bestLane true v).1 ∧
        (t.anvN f a).s_ (insD w + 1) = (x.s_ (insD w + 2) + (bestLane true v).2) % 2 ^ 32) ∧
      ((bestLane true v).1 ≤ held → (t.anvN f a).s_ (insD w) = x.s_ (insD w) ∧
        (t.anvN f a).s_ (insD w + 1) = x.s_ (insD w + 1)) ∧
      (t.anvN f a).s_ (insD w + 2) = (x.s_ (insD w + 2) + 8) % 2 ^ 32 ∧ t = { s.setAnv f a (t.anvN f a) with freeCtr := t.freeCtr }) ∧
    (s.Steps f a 0x59 → insD w ≤ 13 → Ends (exec (.vmini f a) s) fun t =>
      ((bestLane false v).1 < held → (t.anvN f a).s_ (insD w) = wrapInt 32 (bestLane false v).1 ∧
        (t.anvN f a).s_ (insD w + 1) = (x.s_ (insD w + 2) + (bestLane false v).2) % 2 ^ 32) ∧
      (held ≤ (bestLane false v).1 → (t.anvN f a).s_ (insD w) = x.s_ (insD w) ∧
        (t.anvN f a).s_ (insD w + 1) = x.s_ (insD w + 1)) ∧
      (t.anvN f a).s_ (insD w + 2) = (x.s_ (insD w + 2) + 8) % 2 ^ 32 ∧ t = { s.setAnv f a (t.anvN f a) with freeCtr := t.freeCtr }) ∧
    (s.Steps f a 0x60 → Ends (exec (.hist f a) s) fun t =>
      t = s.stepsTo f a (histBody w x) ∧ (t.anvN f a).v = x.v ∧ (t.anvN f a).sr = x.sr ∧ (t.anvN f a).acc = x.acc)

/-- BR, BNZ and BZ move PC by REL when taken and by one when not; REP and REPS set the count of the word that follows when the range, the limit and the REPOK bit of its dispatch entry allow it. A count out of range, over the limit, or of a word that does not repeat, an opcode whose dispatch entry is not valid and 2^24 cycles without BDONE each abandon the billet: the anvil runs none, FRGf_KF_COUNT and FRGf_ABANDON count it, and FRGf_KFAULT names the cause, the anvil and the PC. BRK with its bit clear is a NOP; with its bit set, on an anvil that is not pinned, it is a halt request for its own anvil. -/
def Obligations.ControlFlow : Prop :=
  ∀ (f a : Fin 32) (s : State),
    let x := s.anvN f a
    let w := s.insWord f a
    let w2 := s.storeWord f (x.pc + 1)
    let e2 := s.dtEntry f (bitsOf w2 24 8)
    let sound := oddOnes 33 w2 = true ∧ oddOnes 16 e2 = true ∧ bitOf e2 13 = true
    let faults := fun (o : Host.Outcome State Fault Refusal) (cause : Nat) => Ends o fun t =>
      (t.anvN f a).run = none ∧ t.f (R.FRG_KFAULT_CAUSE f) = cause ∧ t.f (R.FRG_KFAULT_ANVIL f) = a ∧
      t.f (R.FRG_KFAULT_PC f) = x.pc % 2 ^ 14 ∧ t.f (R.FRG_KF_COUNT f) = min (s.f (R.FRG_KF_COUNT f) + 1) (2 ^ 32 - 1) ∧
      min (s.f (R.FRG_ABANDON f) + 1) (2 ^ 32 - 1) ≤ t.f (R.FRG_ABANDON f) ∧
      t.clk = s.clk
    (∀ pc : Int, s.anvRuns f a = true → s.Routine f a → s.forgeUp f = true → s.haltWaits f a = false → x.gone = false →
      x.rep = 0 → x.kHi ≤ 16384 → (x.kLo : Int) ≤ pc → pc < x.kHi →
      (bitsOf w 24 8 = 0x04 → pc = (x.pc : Int) + insRel w → exec (.br f a) s = .next (s.ranTo f a pc.toNat 0 x)) ∧
      (bitsOf w 24 8 = 0x05 →
        pc = (if wrapInt 32 ((x.s_ (insD w) : Int) - 1) ≠ 0 then (x.pc : Int) + insRel w else (x.pc : Int) + 1) →
        exec (.bnz f a) s = .next (s.ranTo f a pc.toNat 0 (x.setS (insD w) (wrapInt 32 ((x.s_ (insD w) : Int) - 1))))) ∧
      (bitsOf w 24 8 = 0x06 → pc = (if x.s_ (insD w) = 0 then (x.pc : Int) + insRel w else (x.pc : Int) + 1) →
        exec (.bz f a) s = .next (s.ranTo f a pc.toNat 0 x))) ∧
    (s.Steps f a 0x01 → x.rep = 0 → bitsOf w 0 16 + 1 ≤ x.repLimit → sound → bitOf e2 14 = true →
      exec (.rep f a) s = .next (s.ranTo f a (x.pc + 1) (bitsOf w 0 16 + 1) x)) ∧
    (s.Steps f a 0x02 → x.rep = 0 → 0 < x.s_ (insD w) → x.s_ (insD w) ≤ 65536 → x.s_ (insD w) ≤ x.repLimit →
      sound → bitOf e2 14 = true →
      exec (.reps f a) s = .next (s.ranTo f a (x.pc + 1) (x.s_ (insD w)) x)) ∧
    (s.Steps f a 0x7F → x.rep = 0 → s.flag ((R.FRG_DBG_BRK_EN f).bit a) = false →
      exec (.brk f a) s = .next (s.stepsTo f a x)) ∧
    (s.Steps f a 0x7F → x.rep = 0 → x.pin = none → s.flag ((R.FRG_DBG_BRK_EN f).bit a) = true →
      Ends (exec (.brk f a) s) fun t =>
        t.flag ((R.FRG_DBG_HALT f).bit a) = true ∧ t.f (R.FRG_DBG_STATUS_RESULT f) = stOk ∧
        FieldsKept [(R.FRG_DBG_HALT f).bit a, R.FRG_DBG_STATUS_RESULT f] s t ∧
        t = { s.stepsTo f a x with regs := t.regs, sets := t.sets }) ∧
    (s.anvRuns f a = true → x.pin = none →
      (∀ b, x.run = some b → b.ctx < 3072 ∧ s.homeOf b.ctx < 32) →
      (bitsOf w 24 8 = 0x01 → s.Routine f a → x.repLimit < bitsOf w 0 16 + 1 → faults (exec (.rep f a) s) 2) ∧
      (bitsOf w 24 8 = 0x01 → s.Routine f a → bitsOf w 0 16 + 1 ≤ x.repLimit → sound → bitOf e2 14 = false →
        faults (exec (.rep f a) s) 4) ∧
      (bitsOf w 24 8 = 0x02 → s.Routine f a → (x.s_ (insD w) = 0 ∨ 65536 < x.s_ (insD w)) → faults (exec (.reps f a) s) 3) ∧
      (x.rep = 0 → oddOnes 33 (s.storeWord f x.pc) = true → oddOnes 16 (s.dtEntry f (bitsOf w 24 8)) = true →
        bitOf (s.dtEntry f (bitsOf w 24 8)) 13 = false → faults (exec (.badOpcode f a) s) 1)) ∧
    (x.run.isSome = true → x.move = none → x.rep = 0 → x.pin = none → 2 ^ 24 ≤ x.cyc →
      (∀ b, x.run = some b → b.ctx < 3072 ∧ s.homeOf b.ctx < 32) → faults (exec (.runaway f a) s) 7)

/-- MOVE and a TLOAD that misses, whose micro-routine ends, hand their transfer to the mover when its length and place are allowed, and abandon the billet with cause 5 when they are not; a TLOAD whose tag is resident moves nothing. A transfer into scratch puts there exactly the bytes that the home hearth holds and leaves every memory alone; a transfer out of scratch puts exactly those bytes into the hearth and leaves every other byte of every memory alone; both leave every scratch byte elsewhere alone, post-modify their address and move PC on, and a transfer between the forge and the home hearth of a stolen billet takes 2 fc for each hop of the ring more. BDONE of a billet that publishes nothing counts it and frees the anvil; one whose length is not allowed abandons the billet with cause 6; the end of the copy of a publish list frees the anvil. -/
def Obligations.MoverAndPublish : Prop :=
  ∀ (f a : Fin 32) (s : State) (b : Billet),
    let x := s.anvN f a
    let w := s.insWord f a
    let n := x.s_ (insSn w)
    let ad := x.s_ (insSh w)
    let faults := fun (o : Host.Outcome State Fault Refusal) (cause : Nat) => Ends o fun t =>
      (t.anvN f a).run = none ∧ t.f (R.FRG_KFAULT_CAUSE f) = cause ∧ t.f (R.FRG_KFAULT_ANVIL f) = a ∧
      t.f (R.FRG_KF_COUNT f) = min (s.f (R.FRG_KF_COUNT f) + 1) (2 ^ 32 - 1) ∧ t.clk = s.clk
    let moves := fun (m : MoveSt) =>
      ({ s.setAnv f a { x with move := some m, upc := (s.issued f a).2.1 } with freeCtr := s.freeCtr + (s.issued f a).2.2 } : State)
    x.run = some b → b.ctx < 3072 → s.homeOf b.ctx < 32 →
    (s.anvRuns f a = true → s.Routine f a → bitsOf w 24 8 = 0x68 →
      (0 < n → n % 16 = 0 → n ≤ 65536 → (if bitOf w 1 then s.ltOk b ad n else s.hearthOk b ad n) = true →
        exec (.move f a) s = .next (moves
          { load := false, out := bitOf w 0, cm := bitOf w 1, addr := ad, sa := x.a_ (insXp w), n := n })) ∧
      (x.pin = none → bitOf w 1 = false → s.hearthOk b ad n = false → faults (exec (.move f a) s) 5)) ∧
    (s.anvRuns f a = true → s.Routine f a → bitsOf w 24 8 = 0x69 → (∀ t, x.ttag = some t → t.1 ≠ x.s_ (insSt w)) →
      0 < n → n % 16 = 0 → n ≤ 65536 → s.hearthOk b ad n = true →
      exec (.tload f a) s = .next (moves { load := true, addr := ad, sa := x.a_ (insXp w), n := n, tag := x.s_ (insSt w) })) ∧
    (∀ base len, s.Steps f a 0x69 → x.rep = 0 → x.ttag = some (x.s_ (insSt w), base, len) →
      exec (.tload f a) s = .next (s.stepsTo f a x)) ∧
    (∀ (m : MoveSt) (wait : Nat) (errs : List SecErr), x.move = some m → m.cm = false → m.n ≤ 65536 → m.sa < 65536 →
      (b.ring + b.ringLen ≤ m.addr ∨ m.addr < b.ring) → m.addr + m.n ≤ 2 ^ 22 → b.home < 32 → s.hasSecure 1 = false →
      x.rep = 0 → x.gone = false → s.forgeUp f = true → s.haltWaits f a = false → x.kLo ≤ x.pc + 1 → x.pc + 1 < x.kHi → x.kHi ≤ 16384 →
      Ends (exec (.moveComplete f a wait errs) s) fun t =>
        let y := t.anvN f a
        y.move = none ∧ y.run = some b ∧ y.pc = x.pc + 1 ∧ y.cyc = x.cyc + (4 + (m.n + 31) / 32 + 2 * min ((f + 32 - b.home) % 32) ((b.home + 32 - f) % 32) + wait) ∧
        y.a = (x.post (insXp w)).a ∧ y.v = x.v ∧ y.sr = x.sr ∧ y.acc = x.acc ∧ t.regs = s.regs ∧
        (∀ g c, g < 32 → c < 32 → (g, c) ≠ ((f : Nat), (a : Nat)) → t.anvN g c = s.anvN g c) ∧
        (m.out = false →
          y.bytes m.sa m.n = s.bytesAt 1 (hearthAddr b.home m.addr) m.n ∧ t.mem = s.mem ∧
          (∀ i, m.n ≤ i → i < 65536 → y.bytes ((m.sa + i) % 65536) 1 = x.bytes ((m.sa + i) % 65536) 1) ∧
          (m.load = true → y.ttag = some (m.tag, m.sa, m.n))) ∧
        (m.out = true →
          t.bytesAt 1 (hearthAddr b.home m.addr) m.n = x.bytes m.sa m.n ∧ y.scratch = x.scratch ∧
          (∀ sp k, k < 2 ^ 40 → (sp ≠ 1 ∨ k < hearthAddr b.home m.addr ∨ hearthAddr b.home m.addr + m.n ≤ k) →
            t.byteAt sp k = s.byteAt sp k))) ∧
    (s.anvRuns f a = true → s.Routine f a → bitsOf w 24 8 = 0x70 → x.pin = none →
      (n = 0 → b.last = true → b.cls ≠ 0 → Ends (exec (.bdone f a) s) fun t =>
        (t.anvN f a).run = none ∧ (t.anvN f a).copying = false ∧ t.f (R.FRG_BILLETS f) = (s.f (R.FRG_BILLETS f) + 1) % 2 ^ 64 ∧
        t.f (R.CTX_COMPLETED b.ctx) = (s.f (R.CTX_COMPLETED b.ctx) + 1) % 2 ^ 64 ∧
        t.f (R.CTX_CYCLES b.ctx) = (s.f (R.CTX_CYCLES b.ctx) + x.cyc + (s.issued f a).1) % 2 ^ 64 ∧ t.clk = s.clk) ∧
      ((n % 16 ≠ 0 ∨ 32768 < n ∨ (b.last = false ∧ n ≠ 0)) → faults (exec (.bdone f a) s) 6)) ∧
    ∀ r : State, (r.anvN f a).copying = true → (r.anvN f a).pin = none →
      exec (.publishCopyEnd f a) r = .next (r.setAnv f a { r.anvN f a with copying := false })

/-- A machine check on a forge in service without pinned anvils: the anvil stops without TTAG, MC_STATUS counts the check and names the anvil, MC_LOG names anvil, kind and micro-address, and the forge is OFFLINE; a reload of 14 slices starts unless two earlier checks lie within 10 s of it, when QUARANTINE is set instead. A slice of a drained forge's reload moves the count on; the writing slices put the golden copy and the kernel master into the stores, so that each word reads back as it is to be; the last slice puts the forge back in service with the golden microcode; a slice whose check fails, because a cell failed, a copy does not match its measurement or a word does not read back, ends the reload with RELOAD_FAIL. Halt requests, their application at a boundary, the release, and the read of a scratch word follow R231 to R234. -/
def Obligations.ForgeService : Prop :=
  (∀ (f a : Fin 32) (kind : Fin 4) (u : Fin 8192) (s : State) (b : Billet), (s.anvN f a).run = some b → b.ctx < 3072 →
    s.homeOf b.ctx < 32 → (∀ i, (s.anvN f i).pin = none) → s.forgeUp f = true →
    let near := (tget (fun _ => []) s.fab.checks f).filter (fun t => decide (s.clk.elapsed - t ≤ 10 * secUnit))
    Ends (exec (.machineCheck f a kind u) s) fun t =>
      (t.anvN f a).run = none ∧ (t.anvN f a).ttag = none ∧ t.blk (0x20 + f) = .offline ∧
      t.f (R.FRG_MC_STATUS_COUNT f) = min (s.f (R.FRG_MC_STATUS_COUNT f) + 1) 255 ∧ t.f (R.FRG_MC_STATUS_LAST_ANVIL f) = a ∧
      t.f (R.FRG_MC_LOG_ANVIL f) = a ∧ t.f (R.FRG_MC_LOG_KIND f) = kind ∧ t.f (R.FRG_MC_LOG_UADDR f) = u ∧
      t.f (R.FRG_MC_LOG_CONTEXT f) = b.ctx ∧
      (2 ≤ near.length → t.flag (R.FRG_MC_STATUS_QUARANTINE f) = true ∧ t.flag (R.FRG_MC_STATUS_RELOADING f) = false ∧ t.reloadOf f = 0) ∧
      (near.length < 2 → s.reloadOf f = 0 → t.flag (R.FRG_MC_STATUS_RELOADING f) = true ∧ t.reloadOf f = 15 ∧
        t.flag (R.FRG_MC_STATUS_QUARANTINE f) = s.flag (R.FRG_MC_STATUS_QUARANTINE f)) ∧ t.clk = s.clk) ∧
  (∀ (f : Fin 32) (s : State) (n : Nat), s.forgeBusy f = false → s.rackOf f = [] → s.host.longs = [] → s.reloadOf f = n →
    (2 < n → n ≤ 15 → (n = 12 → s.copiesOk = true) → (n ≤ 6 → (sliceWords (6 - n)).all (fun i => s.reloadSame f i) = true) →
      Ends (exec (.forgeReloadStep f true) s) fun t =>
      t.reloadOf f = n - 1 ∧ t.regs = s.regs ∧ t.mem = s.mem ∧ t.fence = s.fence ∧
      (7 ≤ n → n ≤ 11 → ∀ i, 5120 * (11 - n) ≤ i → i < 5120 * (12 - n) → i < 8192 →
        tget (fun _ => 0) t.fab.cs (8192 * f + i) = ucodeWord s.fab.golden i) ∧
      (7 ≤ n → n ≤ 11 → ∀ i ∈ sliceWords (11 - n), t.reloadSame f i = true) ∧
      ((12 ≤ n ∨ n ≤ 6) → t.fab.cs = s.fab.cs ∧ t.fab.dt = s.fab.dt ∧ t.fab.ks = s.fab.ks)) ∧
    (n = 2 → s.repliesOut (0x20 + f) = false → (sliceWords 4).all (fun i => s.reloadSame f i) = true → Ends (exec (.forgeReloadStep f true) s) fun t =>
      t.reloadOf f = 0 ∧ t.forgeUp f = true ∧ t.f (R.FRG_UCODE_ID f) = s.fab.ucode % 2 ^ 32 ∧
      t.flag (R.FRG_MC_STATUS_RELOADING f) = false ∧ (∀ a, a < 32 → (t.anvN f a).ttag = none)) ∧
    (∀ ok : Bool, ((n = 12 ∧ (ok = false ∨ s.copiesOk = false)) ∨
        (2 ≤ n ∧ n ≤ 6 ∧ (ok = false ∨ (sliceWords (6 - n)).all (fun i => s.reloadSame f i) = false))) →
      Ends (exec (.forgeReloadStep f ok) s) fun t =>
      t.reloadOf f = 0 ∧ t.flag (R.FRG_MC_STATUS_RELOAD_FAIL f) = true ∧ t.flag (R.FRG_MC_STATUS_RELOADING f) = false ∧
      t.blk (0x20 + f) = s.blk (0x20 + f) ∧ t.fab.cs = s.fab.cs)) ∧
  (∀ (pf : Fin 2) (f a : Fin 32) (s : State), s.Opens pf (0x100500 + 0x4000 * f) → s.anvHalted f a = false →
    Ends (exec (.debugHalt pf f (BitVec.ofNat 32 (2 ^ a.val))) s) fun t =>
      ((s.anvN f a).pin = none → t.haltWaits f a = true ∧ t.f (R.FRG_DBG_STATUS_RESULT f) = 0) ∧
      ((s.anvN f a).pin ≠ none → t.haltWaits f a = s.haltWaits f a ∧ t.f (R.FRG_DBG_STATUS_RESULT f) = 0x22) ∧
      (∀ i, i < 32 → i ≠ a.val → t.haltWaits f i = s.haltWaits f i) ∧ t.fab = s.fab ∧ t.mem = s.mem) ∧
  (∀ (f a : Fin 32) (s : State), s.haltWaits f a = true → (s.anvN f a).rep = 0 → (s.anvN f a).move = none →
    (s.anvN f a).copying = false → (∀ b, (s.anvN f a).run = some b → b.ctx < 3072 ∧ b.home < 32 ∧ s.homeOf b.ctx < 32) →
    Ends (exec (.haltApplied f a) s) fun t =>
      t.haltWaits f a = false ∧ t.anvHalted f a = true ∧ (t.anvN f a).run = none ∧ (t.anvN f a).v = (s.anvN f a).v ∧
      (t.anvN f a).sr = (s.anvN f a).sr ∧ (t.anvN f a).scratch = (s.anvN f a).scratch ∧ t.anvReady f a = false) ∧
  (∀ (pf : Fin 2) (f a : Fin 32) (s : State), s.Opens pf (0x100508 + 0x4000 * f) → s.anvHalted f a = true →
    Ends (exec (.debugRelease pf f (BitVec.ofNat 32 (2 ^ a.val))) s) fun t =>
      t.anvHalted f a = false ∧ (t.anvN f a).ttag = none ∧ (t.anvN f a).scratch = (s.anvN f a).scratch ∧
      (∀ i, i < 32 → i ≠ a.val → t.anvHalted f i = s.anvHalted f i ∧ t.anvN f i = s.anvN f i)) ∧
  ∀ (pf : Fin 2) (f : Fin 32) (s : State), s.Opens pf (0x100A04 + 0x4000 * f) → s.hostOff = false →
    let a := s.f (R.FRG_DBG_SEL_ANVIL f)
    let w := s.f (R.FRG_DBG_SADDR_ADDR f)
    Ends (exec (.dbgSdataRead pf f) s) fun t =>
      t.out = s.out ++ [.readReply pf (0x100A04 + 0x4000 * f) 4
        (if s.anvHalted f a then leNat ((s.anvN f a).bytes (4 * w) 4) else 0)] ∧
      t.f (R.FRG_DBG_SADDR_ADDR f) = (w + 1) % 2 ^ 14 ∧ FieldsKept [R.FRG_DBG_SADDR_ADDR f] s t ∧ t.fab = s.fab ∧ t.mem = s.mem

/-- KERNEL_LOAD and UCODE_LOAD with an image that the host delivers and no other load in progress, FORGE_RELOAD and FORGE_OFFLINE of a forge that holds no pinned anvil and that no command holds: the ring passes the entry and the command goes on among the long ones. FORGE_RELOAD takes a forge in service out of it and starts its reload, lets an OFFLINE forge enter OFFLINE again with the next epoch, and starts no second reload where one runs. UCODE_LOAD while a PIN context runs, and FORGE_RELOAD and FORGE_OFFLINE of a forge with a pinned anvil, complete REFUSED_BUSY and change nothing else of the fabric. -/
def Obligations.ForgeCommands : Prop :=
  ∀ (k : Fin 16) (c : Fetch) (s : State),
    let f := c.entry.param 0 % 32
    (s.Starts k c true false [2 ^ 64 - 1, 0xFFFFFFFF, 0xFFFFFFFF, 0x3FFF] → c.read 0 ≠ none →
      (∀ l ∈ s.host.longs, l.entry.opcode ≠ 0x30 ∧ l.entry.opcode ≠ 0x31) → s.host.longs.length < 8 →
      Ends (exec (.kernelLoad k c) s) fun t => Continues s t k c ∧ t.fab = s.fab ∧ t.mem = s.mem ∧ t.clk = s.clk) ∧
    (s.Starts k c true false [2 ^ 64 - 1, 0xFFFFFFFF] →
      (c.read 0 ≠ none → (∀ l ∈ s.host.longs, l.entry.opcode ≠ 0x30 ∧ l.entry.opcode ≠ 0x31 ∧ l.entry.opcode ≠ 0x32 ∧ l.entry.opcode ≠ 0x33) →
        s.pinRuns = false → Ends (exec (.ucodeLoad k c) s) fun t => Continues s t k c ∧ t.fab = s.fab ∧ t.mem = s.mem) ∧
      (s.pinRuns = true → Ends (exec (.ucodeLoad k c) s) fun t => Completed s t k c 0x22 0 ∧ t.fab = s.fab)) ∧
    (s.Starts k c true false [0x1F] →
      (s.flag (R.FRG_STATUS_PINNED f) = true →
        Ends (exec (.forgeReload k c) s) (fun t => Completed s t k c 0x22 0 ∧ t.fab = s.fab) ∧
        Ends (exec (.forgeOffline k c) s) (fun t => Completed s t k c 0x22 0 ∧ t.fab = s.fab)) ∧
      (s.flag (R.FRG_STATUS_PINNED f) = false → s.forgeHeld f = false →
        (s.reloadOf f ≠ 0 → s.blk (0x20 + f) = .offline → s.flag (R.FRG_MC_STATUS_QUARANTINE f) = false →
          Ends (exec (.forgeReload k c) s) fun t => Continues s t k c ∧ t.fab = s.fab) ∧
        (s.reloadOf f = 0 → s.forgeUp f = true → (∀ b ∈ s.liveBillets, b.ctx < 3072 ∧ b.home < 32) →
          (∀ a b, (s.anvN f a).run = some b → b.ctx < 3072 ∧ s.homeOf b.ctx < 32) →
          Ends (exec (.forgeReload k c) s) fun t =>
          t.f (R.HI_RING_PTR_HEAD k) = (s.f (R.HI_RING_PTR_HEAD k) + 1) % s.cmdSize k ∧ t.blk (0x20 + f) = .offline ∧
          t.reloadOf f = 15 ∧ t.flag (R.FRG_MC_STATUS_RELOADING f) = true ∧ t.flag (R.FRG_MC_STATUS_QUARANTINE f) = false) ∧
        (s.reloadOf f = 0 → s.blk (0x20 + f) = .offline → Ends (exec (.forgeReload k c) s) fun t =>
          Continues s t k c ∧ t.blk (0x20 + f) = .offline ∧ t.reloadOf f = 15 ∧ t.flag (R.FRG_MC_STATUS_RELOADING f) = true ∧
          t.f (epochFld (0x20 + f)) = (s.f (epochFld (0x20 + f)) + 1) % 2 ^ 8) ∧
        (s.blk (0x20 + f) = .running → Ends (exec (.forgeOffline k c) s) fun t => Continues s t k c ∧ t.fab = s.fab) ∧
        (s.blk (0x20 + f) = .offline → s.reloadOf f = 0 →
          Ends (exec (.forgeOffline k c) s) fun t => Completed s t k c 0x31 0 ∧ t.fab = s.fab)))

/-- CTX_START of a STOPPED or FAULT context that passes the checks: the context is STARTING on the chosen home, its counters and NEXT_SEQ are 0, CX_EPOCH has gone up by one, H, the load and GAPLESS are shown, and the command completes OK with the home as RESULT; of a context in another state it completes REFUSED_BUSY. CTX_STOP of a RUNNING context stops its cutter; with billets left the context is STOPPING and the command waits, without any the context is STOPPED and the command completes OK; of a STOPPED or FAULT context it completes OK. CTX_MODIFY that passes its checks is pending, with the settings in force unchanged; of a context that does not run it completes REFUSED_BUSY. DENS_CLEAR sets the first quarter of the plane to 0, leaves every other byte alone and goes on as a long command. -/
def Obligations.ContextCommands : Prop :=
  ∀ (k : Fin 16) (q : Fetch) (s : State),
    let c := q.entry.param 0 % 4096
    let r := s.fetchCmd k
    let cfg := r.cfgNow c
    let chain := cfgF cfg (R.CTX_SRC_SRC_CHAIN 0)
    let d := r.actD chain
    let st := s.ctxState c
    c < 3072 → r.ctxReach k c = stOk →
    (s.Starts k q false false [0xFFF, 2 ^ 64 - 1, 2 ^ 64 - 1] → q.entry.param 1 = 0 → q.entry.param 2 = 0 → r.ctxCrosses c cfg = false →
      (∀ (im : KImage) (e place : Nat × Nat × Nat) (f : Nat), (st = 0 ∨ st = 4) → fieldsOk cfg d false = true → r.fchOn chain = true →
        r.imageOf cfg = some (im, e) → im.repMax ≤ r.repLimitOf cfg → im.ucodeMin ≤ r.fab.ucode →
        cfgF cfg (R.CTX_PRODUCTS_PRODUCTS 0) &&& e.2.1 = cfgF cfg (R.CTX_PRODUCTS_PRODUCTS 0) →
        r.chooseHome cfg d e.2.2 (r.cfgLoad cfg d e.2.2) = some f →
        r.hearthFit f (cfgRing cfg) (cfgPlane cfg) (cfgWork cfg im) = some place →
        Ends (exec (.ctxStart k q) s) fun t =>
          Completed s t k q 0 f ∧ t.ctxState c = 1 ∧ t.homeOf c = f ∧ t.f (R.CTX_NEXT_SEQ c) = 0 ∧
          t.cxEpoch c = (s.cxEpoch c + 1) % 2 ^ 16 ∧ t.f (R.CTX_HOPACT_HOP_ACT c) = cfgH cfg ∧
          t.f (R.CTX_LOAD c) = r.cfgLoad cfg d e.2.2 % 2 ^ 64 ∧ (t.flag (R.CTX_STATE_GAPLESS c) = true ↔ cfgH cfg ≤ cfgL cfg) ∧
          (∀ x ∈ [R.CTX_COMPLETED c, R.CTX_LATE c, R.CTX_SHED c, R.CTX_CYCLES c, R.CTX_RECORDS c, R.CTX_DROPPED c, R.CTX_WITHDRAWN c],
            t.f x = 0) ∧
          t.f (R.CTX_STATE_RESULT c) = 0 ∧ (t.ctxN c).cutting = true ∧ (t.ctxN c).l = cfgL cfg ∧ (t.ctxN c).h = cfgH cfg ∧
          t.cfgNow c = cfg ∧ (∀ g, g ≠ c → t.ctxN g = s.ctxN g) ∧ t.clk = s.clk) ∧
      (st = 1 ∨ st = 2 ∨ st = 3 → Ends (exec (.ctxStart k q) s) fun t =>
        Completed s t k q 0x22 0 ∧ t.ctxState c = st ∧ t.f (R.CTX_STATE_RESULT c) = 0x22 ∧ t.ctx = s.ctx ∧ t.fab = s.fab)) ∧
    (s.Starts k q false false [0xFFF] → s.host.defs.length < 256 → (s.ctxN c).oldAlloc = [] → (s.ctxN c).waitPub = [] →
      (s.ctxN c).avgs = [] → (s.ctxN c).pend = none → (s.ctxN c).fault = none →
      (st = 2 → s.liveOf c ≠ [] → Ends (exec (.ctxStop k q) s) fun t =>
        Waits s t k q c ∧ t.ctxState c = 3 ∧ (t.ctxN c).cutting = false ∧ t.fab = s.fab ∧ t.mem = s.mem) ∧
      (st = 2 → s.liveOf c = [] → s.runsOf c = false → s.pinLeft c = false → (s.ctxN c).moveTo = none → (∀ w ∈ s.host.defs, ¬ (w.entry.opcode = 0x41 ∧ w.target = c)) →
        Ends (exec (.ctxStop k q) s) fun t => Completed s t k q 0 0 ∧ t.ctxState c = 0 ∧ (t.ctxN c).cutting = false ∧
          (t.ctxN c).ringLen = 0 ∧ (t.ctxN c).planeLen = 0) ∧
      (st = 0 ∨ st = 4 → Ends (exec (.ctxStop k q) s) fun t =>
        Completed s t k q 0 0 ∧ t.ctxState c = st ∧ t.ctx = s.ctx ∧ t.fab = s.fab ∧ t.mem = s.mem)) ∧
    (s.Starts k q false false [0xFFF, 2 ^ 64 - 1, 2 ^ 64 - 1] → s.host.defs.length < 256 → q.entry.param 2 = 0 →
      ∀ bs, q.read 0 = some bs → r.ctxCrosses c (cfgWords bs) = false →
      ((st = 1 ∨ st = 2) → (s.ctxN c).fault = none → (s.ctxN c).pend = none → modAllowed cfg (cfgWords bs) = true →
        fieldsOk (cfgWords bs) (r.actD (cfgF (cfgWords bs) (R.CTX_SRC_SRC_CHAIN 0))) (!(s.ctxN c).window.isEmpty) = true →
        cfgClass (cfgWords bs) = cfgClass cfg → Ends (exec (.ctxModify k q) s) fun t =>
          Waits s t k q c ∧ t.flag (R.CTX_STATE_MOD_PEND c) = true ∧ t.cfgNow c = cfg ∧ t.cxEpoch c = s.cxEpoch c ∧
          (∃ m, (t.ctxN c).pend = some m ∧ m.cfg = cfgWords bs) ∧ t.fab = s.fab ∧ t.mem = s.mem) ∧
      (st ≠ 1 → st ≠ 2 → Ends (exec (.ctxModify k q) s) fun t =>
        Completed s t k q 0x22 0 ∧ t.ctx = s.ctx ∧ t.cfgNow c = cfg ∧ t.fab = s.fab)) ∧
    (s.Starts k q true false [0xFFF] → (s.ctxN c).planeLen ≠ 0 → (∀ l ∈ s.host.longs, l.entry.opcode ≠ 0x43) →
      s.isFenced (0x40 + s.homeOf c) = false → Ends (exec (.densClear k q) s) fun t =>
        let lo := hearthAddr (s.homeOf c) (s.ctxN c).plane
        Continues s t k q ∧ (∀ i, i < 262144 → t.byteAt 1 (lo + i) = 0) ∧
        (∀ sp a, a < 2 ^ 40 → (sp ≠ 1 ∨ a < lo ∨ lo + 262144 ≤ a) → lo + 262144 ≤ 2 ^ 40 → t.byteAt sp a = s.byteAt sp a) ∧
        t.ctx = s.ctx ∧ t.fab = s.fab)

/-- Outside P3, an edge on TRIGINi of the polarity in force is an event of the enabled unit that names it, stamped with its place in the control cycle, counted and stored; an edge of the other polarity changes nothing. It reaches the combiner 24 fc later (Table 8-3). An event that reaches the combiner no later than the PTIME of its stamp plus the TRG_ALIGN in force at its stamp stays in the store as arrived; a later one leaves it, counts in TRG_LATE_EVENTS and sets ALIGN_LATE; one whose time has not come does nothing. The candidate of a term is its earliest event by stamp, then by unit. Once the events whose time has come have reached the combiner, a term without a candidate, or whose candidate is not yet due, does nothing; an OR term whose candidate is due counts an output at its stamp; an AND term that lacks a member counts none; the candidate is used up. -/
def Obligations.TriggerEvents : Prop :=
  (∀ (l : List TrgEv) (e : TrgEv), evFirst l = some e → e ∈ l ∧ ∀ x ∈ l, evBefore e x = true) ∧
  (∀ (i : Fin 4) (rising : Bool) (k : Fin 160) (s : State), s.f R.PWR_STATUS_STATE ≠ 3 → rising ≠ ((s.trg.inPol[i.val]?).getD 0 == 0) →
    exec (.triginEdge i rising k) s = .next s) ∧
  (∀ (i : Fin 4) (rising : Bool) (k : Fin 160) (u : Nat) (s : State), u < 32 → s.f R.PWR_STATUS_STATE ≠ 3 → rising = ((s.trg.inPol[i.val]?).getD 0 == 0) →
    (∀ v, v < 32 → (s.unitOf v 7 i = true ↔ v = u)) → (s.unitN u).lastRep = none → (s.unitN u).repFc = none →
    s.trg.store.countP (fun e => e.unit == u) < 256 → s.flag (R.CL_FIRE_UNITS.bit u) = false →
    Ends (exec (.triginEdge i rising k) s) fun t =>
      let stamp := 256 * s.clk.sampleIdx + 128 * k
      t.trg.store = s.trg.store ++ [{ unit := u, stamp := stamp, pt := s.stampTime stamp, due := s.stampTime stamp + s.fcTime 24 }] ∧
      t.f (R.TRG_EVENTS u) = min (s.f (R.TRG_EVENTS u) + 1) (2 ^ 32 - 1) ∧ t.f (R.TRG_LAST u) = stamp / 256 % 2 ^ 64 ∧
      t.f (R.TRG_LAST_FRAC_FRAC u) = stamp % 256 ∧ t.acq = s.acq ∧ t.mem = s.mem ∧ t.clk = s.clk) ∧
  (∀ (u : Fin 32) (s : State), (∀ e ∈ s.trg.store, e.unit = u → e.arrived = true ∨ s.now + s.increment ≤ e.due) →
    exec (.eventArrival u) s = .next s) ∧
  (∀ (u : Fin 32) (e : TrgEv) (s : State),
    s.trg.store.find? (fun x => x.unit == u.val && (!x.arrived && decide (x.due < s.now + s.increment))) = some e →
    let bound := e.pt + min 1000000 (bitsOf (((s.bankAt e.pt).1[0]?).getD 0).toNat 0 20) * nsUnit
    (bound < e.due → Ends (exec (.eventArrival u) s) fun t =>
      t.trg.store = s.trg.store.erase e ∧ t.flag R.TRG_STATUS_ALIGN_LATE = true ∧
      t.f R.TRG_LATE_EVENTS = min (s.f R.TRG_LATE_EVENTS + 1) (2 ^ 32 - 1) ∧
      FieldsKept [R.TRG_STATUS_ALIGN_LATE, R.TRG_LATE_EVENTS] s t ∧ t = { s with regs := t.regs, sets := t.sets, trg := t.trg }) ∧
    (e.due ≤ bound → s.namers e ≠ [] → e.used = [] → Ends (exec (.eventArrival u) s) fun t =>
      { e with arrived := true } ∈ t.trg.store ∧ t = { s with trg := { s.trg with store := t.trg.store } })) ∧
  (∀ s : State, (∀ e ∈ s.trg.store, s.reached e = false) → s.arriveAll = s) ∧
  ∀ (n : Fin 16) (s : State),
    let r := s.arriveAll
    (r.termEvents n = [] → exec (.termEvaluate n) s = .next r) ∧
    ∀ e0, evFirst (r.termEvents n) = some e0 →
      let bank := r.bankAt e0.pt
      let x := termOf bank.1 n
      let due := e0.pt + r.spanTime (256 * x.w) + alignTime ((bank.1[0]?).getD 0).toNat
      (r.now + r.increment ≤ due ∨ e0.arrived = false → exec (.termEvaluate n) s = .next r) ∧
      (due < r.now + r.increment → e0.arrived = true → (∀ y ∈ r.trg.store, y.unit = e0.unit → y.stamp = e0.stamp → y = e0) →
        (∀ q, q < 64 → r.f (R.ACQ_MODE_TERM q) ≠ n) →
        (bitsOf x.cfg 0 2 = 1 → bitOf x.cfg 21 = false → Ends (exec (.termEvaluate n) s) fun t =>
          t.f (R.TRM_FIRES n) = min (r.f (R.TRM_FIRES n) + 1) (2 ^ 32 - 1) ∧ t.f (R.TRM_LAST n) = e0.stamp / 256 % 2 ^ 64 ∧
          e0 ∉ t.trg.store ∧ t.acq = r.acq ∧ t.mem = r.mem ∧ FieldsKept [R.TRM_FIRES n, R.TRM_LAST n] r t) ∧
        (∀ u, bitsOf x.cfg 0 2 = 0 → bitOf x.members u = true → u < 32 → (∀ y ∈ r.trg.store, y.unit ≠ u) →
          Ends (exec (.termEvaluate n) s) fun t => t.regs = r.regs ∧ e0 ∉ t.trg.store ∧
            t = { r with trg := { r.trg with store := t.trg.store, evals := t.trg.evals } }))

/-- COMMIT with an allowed shadow bank and none pending reports OK and sets PENDING; with a refused one it reports the code and PENDING stays 0; with one pending it sets SHADOW_BUSY and leaves the rest. a commit whose PTIME has passed sets LATE_HO and is due at the next tick. CANCEL of a pending commit clears PENDING and reports CANCELLED, unless the control cycle contains its hand-over, which then stands. An alignment tick with a commit pending that is due copies the whole shadow bank to the active one, counts TRG_EPOCH up by one modulo 2^16, restarts every unit and leaves the stored events in place; before its PTIME, between ticks and in the control cycle of the commit it does nothing. PENDING clears at the end of the control cycle of the hand-over. The settings of TRGIN and TRGOUT in force follow their registers at the tick. -/
def Obligations.TriggerBank : Prop :=
  (∀ (pf : Fin 2) (v : BitVec 32) (s : State), s.Opens pf 0x400000 → v.getLsbD 3 = false →
    Ends (exec (.trgCommit pf v) s) fun t =>
      t.flag R.TRG_CTRL_COMMIT = false ∧ t.trg.units = s.trg.units ∧ t.trg.store = s.trg.store ∧ t.f R.TRG_EPOCH_EPOCH = s.f R.TRG_EPOCH_EPOCH ∧
      (s.flag R.TRG_STATUS_PENDING = true → t.flag R.TRG_STATUS_PENDING = true ∧ t.flag R.TRG_STATUS_SHADOW_BUSY = true ∧
        t.f R.TRG_STATUS_RESULT = s.f R.TRG_STATUS_RESULT) ∧
      (s.flag R.TRG_STATUS_PENDING = false → t.f R.TRG_STATUS_RESULT = s.trgChecks ∧
        (t.flag R.TRG_STATUS_PENDING = true ↔ s.trgChecks = 0) ∧ (s.trgChecks = 0 → t.trg.atPtime = v.getLsbD 2 ∧
          (v.getLsbD 2 = true → s.ptimeAt 0x400010 < s.now → t.flag R.TRG_STATUS_LATE_HO = true ∧ t.trg.late = true))) ∧
      WordsKept (fun o => o = 0x400000 ∨ o = 0x400004) s t) ∧
  (∀ s : State, (s.trgChecks = 0 ↔ (∀ u, u < 32 → s.unitCrosses u = false ∧ s.unitBad u = false) ∧ ∀ n, n < 16 → s.termBad n = false)) ∧
  (∀ (pf : Fin 2) (v : BitVec 32) (s : State), s.Opens pf 0x400000 → v.getLsbD 1 = false → s.flag R.TRG_STATUS_PENDING = true →
    Ends (exec (.trgCancel pf v) s) fun t =>
      (s.trgStands = false → t.flag R.TRG_STATUS_PENDING = false ∧ t.f R.TRG_STATUS_RESULT = 0x70) ∧
      (s.trgStands = true → t.flag R.TRG_STATUS_PENDING = true ∧ t.f R.TRG_STATUS_RESULT = s.f R.TRG_STATUS_RESULT) ∧ t.trg = s.trg ∧
      WordsKept (fun o => o = 0x400000 ∨ o = 0x400004) s t) ∧
  (∀ s : State,
    (s.flag R.TRG_STATUS_PENDING = false ∨ s.trg.handed = true ∨ s.atTick = false ∨ s.trg.pendCyc = s.clk.cycles →
      exec .trgHandOver s = .next s) ∧
    (s.trg.atPtime = true → s.trg.late = false → s.now < s.ptimeAt 0x400010 → exec .trgHandOver s = .next s) ∧
    (s.flag R.TRG_STATUS_PENDING = true → s.trg.handed = false → s.atTick = true → s.trg.pendCyc ≠ s.clk.cycles →
      (s.trg.atPtime = false ∨ s.trg.late = true ∨ s.ptimeAt 0x400010 ≤ s.now) →
      Ends (exec .trgHandOver s) fun t =>
        t.flag R.TRG_STATUS_PENDING = true ∧ t.trg.handed = true ∧ t.f R.TRG_EPOCH_EPOCH = (s.f R.TRG_EPOCH_EPOCH + 1) % 2 ^ 16 ∧ t.trg.units = [] ∧
        t.trg.since = 256 * (s.clk.sampleIdx : ℤ) ∧ t.trg.store = s.trg.store ∧ t.word 0x404100 = s.word 0x400100 ∧
        (∀ u i, u < 32 → i < 6 → t.word (0x405000 + 0x40 * u + 4 * i) = s.word (0x401000 + 0x40 * u + 4 * i)) ∧
        (∀ n i, n < 16 → i < 3 → t.word (0x406000 + 0x20 * n + 4 * i) = s.word (0x402000 + 0x20 * n + 4 * i)) ∧
        WordsKept (fun o => o = 0x400008 ∨ (0x404000 ≤ o ∧ o < 0x407000)) s t ∧
        t = { s with regs := t.regs, sets := t.sets, trg := t.trg }) ∧
    (s.trg.handed = true → s.trgTick.flag R.TRG_STATUS_PENDING = false ∧ s.trgTick.trg = { s.trg with handed := false } ∧
      FieldsKept [R.TRG_STATUS_PENDING] s s.trgTick)) ∧
  (∀ s : State, s.atTick = false → exec .trgIoApply s = .next s) ∧
  ∀ s : State, s.atTick = true → Ends (exec .trgIoApply s) fun t =>
    (∀ i, i < 4 → t.trg.inPol[i]? = some (s.f (R.TRGIN_CFG_POL i))) ∧
    (∀ o, o < 4 → t.outSet o = (max 1 (s.f (R.TRGOUT_CFG_WIDTH o)), s.flag (R.TRGOUT_CFG_POL o), s.f (R.TRGOUT_CFG_SEL o))) ∧
    t = { s with trg := { s.trg with inPol := t.trg.inPol, outCfg := t.trg.outCfg } }

/-- ARM with every check passed reports OK, starts the acquisition count at 0 in segment 0 and waits for the tick; the failing check's code is reported and the slot stays as it was. At the tick the slot is in PREFILL, or in ARMED with PRE = 0, with u_arm shown. It is ARMED once PRE units are written. A term output is discarded and counted in MISSED_REARM unless the slot is in PREFILL or ARMED and its trigger unit is at or after u_arm, is discarded and counted in MISSED_PREFILL where WAIT_FULL finds too few units, and else puts the slot in POST with that trigger unit. A complete window counts, takes the next acquisition number and puts its record in ACQs_LAST; a slot of REARM = single is then DONE, one of REARM = continuous in REARM, from which the next segment starts. STOP waits for the tick. -/
def Obligations.AcquisitionSlots : Prop :=
  (∀ (pf : Fin 2) (n : Fin 64) (v : BitVec 32) (s : State), s.Opens pf (0x410000 + 0x100 * n) →
    (v.getLsbD 1 = false → Ends (exec (.acqArm pf n v) s) fun t =>
      t.f (R.ACQ_STATUS_RESULT n) = s.armChecks n % 256 ∧ t.f (R.ACQ_STATUS_STATE n) = s.f (R.ACQ_STATUS_STATE n) ∧
      (s.armChecks n = 0 → (t.acqN n).starting = true ∧ (t.acqN n).number = 0 ∧ (t.acqN n).windows = 0 ∧
        t.f (R.ACQ_STATUS_SEG n) = 0 ∧ t.slotPending n = true) ∧
      (s.armChecks n ≠ 0 → t.acqN n = s.acqN n) ∧ (∀ m, m ≠ n.val → t.acqN m = s.acqN m) ∧
      WordsKept (fun o => o = 0x410000 + 0x100 * n ∨ o = 0x410004 + 0x100 * n) s t ∧ t.mem = s.mem) ∧
    (v.getLsbD 0 = false → Ends (exec (.acqStop pf n v) s) fun t =>
      t.acqN n = { s.acqN n with stopReq := true } ∧ (∀ m, m ≠ n.val → t.acqN m = s.acqN m) ∧
      WordsKept (fun o => o = 0x410000 + 0x100 * n) s t ∧ t.mem = s.mem)) ∧
  (∀ (n : Fin 64) (s : State),
    (s.acqState n ≠ 0 → s.acqState n ≠ 5 → s.acqState n ≠ 6 → s.armChecks n = 0x22 ∨ s.armChecks n = 0x12) ∧
    (s.atTick = true → (s.acqN n).starting = true → Ends (exec (.acqWriteStart n) s) fun t =>
      let u := s.firstUnit n s.clk.sampleIdx
      t.acqState n = (if s.f (R.ACQ_PRE_UNITS n) = 0 then 2 else 1) ∧ t.f (R.ACQ_ARM_UNIT n) = u % 2 ^ 64 ∧
      (t.acqN n).uArm = u ∧ (t.acqN n).w = u ∧ (t.acqN n).trig = none ∧ (t.acqN n).starting = false ∧
      (s.f (R.ACQ_MODE_KIND n) = 0 → u = s.clk.sampleIdx) ∧
      FieldsKept [R.ACQ_STATUS_STATE n, R.ACQ_ARM_UNIT n] s t ∧ t.mem = s.mem) ∧
    (s.atTick = false ∨ (s.acqN n).starting = false → exec (.acqWriteStart n) s = .next s) ∧
    (s.acqState n = 1 → (s.acqN n).uArm + s.f (R.ACQ_PRE_UNITS n) ≤ (s.acqN n).w →
      Ends (exec (.prefillComplete n) s) fun t =>
        t.acqState n = 2 ∧ t.acq = s.acq ∧ FieldsKept [R.ACQ_STATUS_STATE n] s t ∧ t = { s with regs := t.regs, sets := t.sets })) ∧
  (∀ (n term : Nat) (o : TermOut) (s : State), n < 64 →
    let a := s.acqN n
    let u := s.trigUnit n o.stamp
    let t := s.acqTrigger n term o
    let open_ := (s.acqState n = 1 ∨ s.acqState n = 2) ∧ a.uArm ≤ u
    let full := a.uArm + s.f (R.ACQ_PRE_UNITS n) ≤ u
    (¬ open_ → t.f (R.ACQ_MISSED_REARM n) = min (s.f (R.ACQ_MISSED_REARM n) + 1) (2 ^ 32 - 1) ∧ t.acqState n = s.acqState n ∧
      (t.acqN n).trig = a.trig ∧ FieldsKept [R.ACQ_MISSED_REARM n] s t) ∧
    (open_ → ¬ full → s.flag (R.ACQ_MODE_PREFILL n) = true →
      t.f (R.ACQ_MISSED_PREFILL n) = min (s.f (R.ACQ_MISSED_PREFILL n) + 1) (2 ^ 32 - 1) ∧ t.acqState n = s.acqState n ∧
      (t.acqN n).trig = a.trig ∧ FieldsKept [R.ACQ_MISSED_PREFILL n] s t) ∧
    (open_ → (full ∨ s.flag (R.ACQ_MODE_PREFILL n) = false) → t.acqState n = 3 ∧
      (∃ g, (t.acqN n).trig = some g ∧ g.unit = u ∧ g.stamp = o.stamp ∧ g.term = term ∧ (g.short = true ↔ ¬ full) ∧ a.uArm ≤ g.start) ∧
      FieldsKept [R.ACQ_STATUS_STATE n] s t) ∧ t.mem = s.mem ∧ ∀ m, m ≠ n → t.acqN m = s.acqN m) ∧
  ∀ (n : Fin 64) (g : AcqTrig) (e : Nat) (s : State), (s.acqN n).trig = some g → s.endUnit n = some e →
    (s.acqState n = 3 → e ≤ (s.acqN n).w → s.flag (R.ACQ_MODE_MASK_EN n) = false → s.flag (R.ACQ_MODE_ROUTE_EN n) = false →
      Ends (exec (.windowComplete n) s) fun t =>
        (t.acqN n).number = (s.acqN n).number + 1 ∧ t.f (R.ACQ_DONE_COUNT n) = min (s.f (R.ACQ_DONE_COUNT n) + 1) (2 ^ 32 - 1) ∧
        t.f (R.ACQ_LAST n 0) = 0x4151 + 2 ^ 16 * (n + 2 ^ 12) ∧ t.f (R.ACQ_LAST n 1) = (s.acqN n).number % 2 ^ 32 ∧
        (s.f (R.ACQ_MODE_REARM n) = 0 → t.acqState n = 5) ∧ (s.f (R.ACQ_MODE_REARM n) = 2 → t.acqState n = 4) ∧
        (∀ m, m ≠ n.val → t.acqN m = s.acqN m)) ∧
    (s.acqState n = 4 → Ends (exec (.rearmDone n) s) fun t =>
      t.f (R.ACQ_STATUS_SEG n) = (s.f (R.ACQ_STATUS_SEG n) + 1) % max 1 (s.f (R.ACQ_COUNTS_SEGS n)) ∧
      t.acqState n = (if s.f (R.ACQ_PRE_UNITS n) = 0 then 2 else 1) ∧ (t.acqN n).trig = none ∧ (t.acqN n).w = (t.acqN n).uArm ∧
      (t.acqN n).number = (s.acqN n).number ∧ t.mem = s.mem ∧ ∀ m, m ≠ n.val → t.acqN m = s.acqN m)

/-- A query shows the selected half of its entry on TPA while the port is enabled. An update from a source that the entry does not name changes no entry and is counted as a drop; from its source it is written to the half that is not selected, so the shown value stays until a TPCLK edge selects it; while TPCLK is absent it is selected as it reaches the table, a publish 8 fc after BDONE, a detector result and a host write within the control cycle. A rising TPCLK edge selects the updates that have waited 4 fc and shows on TPP a bit for every primitive due. An edge missing for 1 µs clears CLK_OK. Without TPCLK nothing is launched and no command is taken. ACCEPT, REJECT, ARM and MARK count; ACCEPT and REJECT make a decision record (and a FIRE with ACC_FIRE), ARM waits for the tick, MARK is an event of the units of kind 8; a reserved code is counted and marked. -/
def Obligations.TriggerPort : Prop :=
  (∀ (v : Bool) (q : Fin 64) (s : State), s.flag (R.PWR_PADHOLD_GROUPS.bit 2) = false →
    exec (.tpQuery v q) s = .next { s with tp := { s.tp with tpv := v, tpq := q, tpa := if s.flag R.TP_CTRL_EN ∧ v = true then s.ansValue q else 0 } }) ∧
  (∀ (e : Fin 64) (src : Fin 3) (value : BitVec 16) (s : State),
    (min 2 (s.f (R.TP_ANS_CFG_SRC e)) ≠ src → Ends (exec (.answerUpdate e src value) s) fun t =>
      t.f R.TP_ANS_DROPS = min (s.f R.TP_ANS_DROPS + 1) (2 ^ 32 - 1) ∧ t.flag R.TP_STATUS_ANS_DROP = true ∧
      (t.flag R.TP_STATUS_ANS_WR_DROP = true ↔ s.flag R.TP_STATUS_ANS_WR_DROP = true ∨ src.val = 2) ∧
      FieldsKept [R.TP_ANS_DROPS, R.TP_STATUS_ANS_DROP, R.TP_STATUS_ANS_WR_DROP] s t ∧ t = { s with regs := t.regs, sets := t.sets }) ∧
    (min 2 (s.f (R.TP_ANS_CFG_SRC e)) = src → s.flag R.TP_STATUS_CLK_OK = true → Ends (exec (.answerUpdate e src value) s) fun t =>
      (∀ x, t.ansValue x = s.ansValue x) ∧ (t.ansSelect e).ansValue e = value.toNat ∧ t.tp.tpa = s.tp.tpa ∧
      tget (fun _ => 0) t.tp.fresh e = s.clk.elapsed + s.fcTime (if src.val = 0 then 8 else if src.val = 1 then 2 else 0) + 1 ∧
      t.f R.TP_ANS_OVERWR = (if tget (fun _ => 0) s.tp.fresh e = 0 then s.f R.TP_ANS_OVERWR else min (s.f R.TP_ANS_OVERWR + 1) (2 ^ 32 - 1)) ∧
      FieldsKept [R.TP_ANS_OVERWR] s t ∧ t = { s with regs := t.regs, sets := t.sets, tp := t.tp }) ∧
    (min 2 (s.f (R.TP_ANS_CFG_SRC e)) = src → s.flag R.TP_STATUS_CLK_OK = false → src.val = 0 → Ends (exec (.answerUpdate e src value) s) fun t =>
      (∀ x, t.ansValue x = s.ansValue x) ∧ (t.ansSelect e).ansValue e = value.toNat ∧
      tget (fun _ => 0) t.tp.fresh e = s.clk.elapsed + s.fcTime 8 + 1 ∧ FieldsKept [R.TP_ANS_OVERWR] s t) ∧
    (min 2 (s.f (R.TP_ANS_CFG_SRC e)) = src → s.flag R.TP_STATUS_CLK_OK = false → src.val ≠ 0 → 2 ≤ s.increment → Ends (exec (.answerUpdate e src value) s) fun t =>
      t.ansValue e = value.toNat ∧ (∀ x, x ≠ e.val → t.ansValue x = s.ansValue x) ∧ t.f (R.TP_ANS_VAL_VALUE e) = value.toNat ∧
      t.f (R.TP_ANS_VAL_SEQ e) = (s.f (R.TP_ANS_VAL_SEQ e) + 1) % 2 ^ 8 ∧
      FieldsKept [R.TP_ANS_OVERWR, R.TP_ANS_VAL_VALUE e, R.TP_ANS_VAL_SEQ e] s t ∧ t = { s with regs := t.regs, sets := t.sets, tp := t.tp })) ∧
  (∀ (e : Nat) (s : State), e < 64 → s.flag R.TP_STATUS_CLK_OK = false → tget (fun _ => 0) s.tp.fresh e ≠ 0 →
    (tget (fun _ => 0) s.tp.fresh e ≤ s.clk.elapsed + s.increment → s.ansFree e = s.ansSelect e) ∧
    (s.clk.elapsed + s.increment < tget (fun _ => 0) s.tp.fresh e → s.ansFree e = s)) ∧
  (∀ (k : Fin 160) (s : State), s.flag (R.PWR_PADHOLD_GROUPS.bit 2) = false → Ends (exec (.tpclkEdge k) s) fun t =>
    let at_ := s.clk.elapsed + k * s.increment / 160
    (∀ e, e < 64 → let fr := tget (fun _ => 0) s.tp.fresh e
      let ripe := fr ≠ 0 ∧ fr - 1 + s.fcTime 4 ≤ at_
      (ripe → t.ansSel e = !s.ansSel e ∧ t.f (R.TP_ANS_VAL_SEQ e) = (s.f (R.TP_ANS_VAL_SEQ e) + 1) % 2 ^ 8 ∧
        t.f (R.TP_ANS_VAL_VALUE e) = t.ansValue e % 2 ^ 16) ∧
      (¬ ripe → t.ansSel e = s.ansSel e ∧ t.word (0x480104 + 8 * e) = s.word (0x480104 + 8 * e))) ∧
    (s.tpLive = false → t.tp.tpp = 0) ∧
    (s.tpLive = true → t.tp.tpp < 2 ^ 16 ∧
      ∀ b, b < 16 → (bitOf t.tp.tpp b = true ↔ ∃ p ∈ s.trg.prims, p.2 ≤ at_ ∧ p.1 = s.f (R.TP_PSEL_SEL b))) ∧
    t.trg = { s.trg with prims := s.trg.prims.filter (fun p => at_ < p.2) } ∧ t.tp.edgeAt = at_ ∧ t.mem = s.mem ∧ t.acq = s.acq ∧ t.clk = s.clk) ∧
  (∀ s : State, s.flag (R.PWR_PADHOLD_GROUPS.bit 2) = false →
    (s.clk.elapsed < s.tp.edgeAt + 1000 * nsUnit → exec .tpclkLoss s = .next s) ∧
    (s.tp.edgeAt + 1000 * nsUnit ≤ s.clk.elapsed → Ends (exec .tpclkLoss s) fun t => t.flag R.TP_STATUS_CLK_OK = false ∧ t.tp = { s.tp with tpp := 0 } ∧
      FieldsKept [R.TP_STATUS_CLK_OK] s t ∧ t = { s with regs := t.regs, sets := t.sets, tp := t.tp }) ∧
    ∀ hz : BitVec 27, Ends (exec (.tpclkMeasurement hz) s) fun t =>
      t.f R.TP_CLK_HZ_HZ = hz.toNat ∧ (t.flag R.TP_STATUS_CLK_OK = true ↔ 10000000 ≤ hz.toNat ∧ hz.toNat ≤ 100000000) ∧
      t.tp = { s.tp with tpp := if 10000000 ≤ hz.toNat ∧ hz.toNat ≤ 100000000 then s.tp.tpp else 0 } ∧
      FieldsKept [R.TP_STATUS_CLK_OK, R.TP_CLK_HZ_HZ] s t ∧ t = { s with regs := t.regs, sets := t.sets, tp := t.tp }) ∧
  ∀ (k : Fin 160) (code : Fin 16) (s : State),
    (s.tpLive = false → exec (.accept k) s = .next s ∧ exec (.reject k) s = .next s ∧ exec (.tpArm k) s = .next s ∧
      exec (.mark k) s = .next s ∧ exec (.tpReservedCommand code) s = .next s) ∧
    (s.tpLive = true →
      (Ends (exec (.accept k) s) fun t =>
        t.f R.TP_ACCEPTS = min (s.f R.TP_ACCEPTS + 1) (2 ^ 32 - 1) ∧ t.tp.decisions = (s.tp.decisions + 1) % 2 ^ 32 ∧
        (s.flag R.TP_CTRL_ACC_FIRE = true → s.flag R.CL_STATUS_ARMED = false →
          t.f R.CL_FIRES_DROPPED = min (s.f R.CL_FIRES_DROPPED + 1) (2 ^ 32 - 1) ∧ t.cl = s.cl) ∧
        (s.flag R.TP_CTRL_ACC_FIRE = false → t.cl = s.cl ∧ t.trg = s.trg ∧
          (s.flag R.TP_REC_ROUTE_EN = false → FieldsKept [R.TP_ACCEPTS] s t ∧ t = { s with regs := t.regs, sets := t.sets, tp := t.tp }))) ∧
      (Ends (exec (.reject k) s) fun t =>
        t.f R.TP_REJECTS = min (s.f R.TP_REJECTS + 1) (2 ^ 32 - 1) ∧ t.tp.decisions = (s.tp.decisions + 1) % 2 ^ 32 ∧ t.cl = s.cl ∧
        (s.flag R.TP_REC_ROUTE_EN = false → FieldsKept [R.TP_REJECTS] s t ∧ t = { s with regs := t.regs, sets := t.sets, tp := t.tp })) ∧
      (Ends (exec (.tpArm k) s) fun t =>
        t.f R.TP_ARMS = min (s.f R.TP_ARMS + 1) (2 ^ 32 - 1) ∧ t.tp = { s.tp with armPend := some (s.timeIn k) } ∧
        FieldsKept [R.TP_ARMS] s t ∧ t = { s with regs := t.regs, sets := t.sets, tp := t.tp }) ∧
      (∀ u, u < 32 → (∀ v, v < 32 → (s.unitIs v 8 = true ↔ v = u)) → (s.unitN u).lastRep = none → (s.unitN u).repFc = none →
        s.trg.store.countP (fun e => e.unit == u) < 256 → s.flag (R.CL_FIRE_UNITS.bit u) = false → Ends (exec (.mark k) s) fun t =>
          let stamp := 256 * s.clk.sampleIdx + 128 * k
          t.f R.TP_MARKS = min (s.f R.TP_MARKS + 1) (2 ^ 32 - 1) ∧ t.f (R.TRG_EVENTS u) = min (s.f (R.TRG_EVENTS u) + 1) (2 ^ 32 - 1) ∧
          let lat := s.fcTime 24 + (if s.f R.TP_CLK_HZ_HZ = 0 then 0 else 2 * secUnit / s.f R.TP_CLK_HZ_HZ)
          t.trg.store = s.trg.store ++ [{ unit := u, stamp := stamp, pt := s.stampTime stamp, due := s.stampTime stamp + lat }] ∧ t.acq = s.acq ∧ t.mem = s.mem) ∧
      (5 ≤ code.val → Ends (exec (.tpReservedCommand code) s) fun t =>
        t.f R.TP_BAD_CMDS = min (s.f R.TP_BAD_CMDS + 1) (2 ^ 32 - 1) ∧ t.flag R.TP_STATUS_BAD_CMD = true ∧
        FieldsKept [R.TP_BAD_CMDS, R.TP_STATUS_BAD_CMD] s t ∧ t = { s with regs := t.regs, sets := t.sets })) ∧
    (code.val < 5 → exec (.tpReservedCommand code) s = .next s)

/-- A numbered carriage is acted on when its number is the next one, acknowledged again when it is an old one, and discarded when it is a later one. A FIRE that reaches the top manager is dropped while no arm is in force, merged when it lies within CL_MERGE of an earlier one, and else broadcast with the next number and delivered; a sub-manager sends it on unchanged, or counts it as dropped without a parent link. A broadcast FIRE shows its time, number and origin, and counts as late when PTIME has passed it by more than the horizon. An ARM carriage is acknowledged and acts when PTIME reaches ACT_PTIME: ARMED and ARM_ID are shown, and a disarm clears ARMED. CL_ARM is refused to a worker, too early, or with a child link down; without children it completes OK with the new ARM_ID, with children it waits for their acknowledgements, and at ACT_PTIME without them it ends with TIMEOUT and the arm acts all the same. -/
def Obligations.FiresAndArms : Prop :=
  (∀ (k : Nat) (c : Carriage) (s : State), (s.linkN k).rxSeq < 2 ^ 16 →
    (s.ctlTake k c = .act ↔ c.seq.toNat = (s.linkN k).rxSeq) ∧
    (s.ctlTake k c = .again ↔ 2 ^ 15 ≤ (c.seq - BitVec.ofNat 16 (s.linkN k).rxSeq).toNat)) ∧
  (∀ (k : Fin 16) (c : Carriage) (s : State), s.Hears k c cFIRE →
    let p := c.payload.toNat
    let pt := payPtime p
    let num := (s.f R.CL_FIRE_NUM_NUM + 1) % 2 ^ 16
    let ack : CtlCarriage := { seq := c.seq.toNat, type_ := cACK, flags := 0, payload := 2 ^ 8 * cFIRE }
    let wait := fun (r : State) (j : Nat) => (r.linkN j).waiting
    (bitOf c.flags.toNat 0 = false → s.isChild k = true →
      (s.ctlTake k c = .drop → exec (.fireUp k c) s = .next s) ∧
      (s.ctlTake k c = .again → exec (.fireUp k c) s = .next (s.sendCar k ack)) ∧
      (s.ctlTake k c = .act →
        (s.role = 1 → s.flag R.CL_STATUS_ARMED = false → Ends (exec (.fireUp k c) s) fun t =>
          t.f R.CL_FIRES_DROPPED = min (s.f R.CL_FIRES_DROPPED + 1) (2 ^ 32 - 1) ∧ wait t k = wait s k ++ [ack] ∧ t.out = s.out ∧ t.cl.recent = s.cl.recent ∧
          (t.linkN k).rxSeq = ((s.linkN k).rxSeq + 1) % 2 ^ 16 ∧ FieldsKept [R.CL_FIRES_DROPPED] s t ∧ t.trg = s.trg) ∧
        (s.role = 1 → s.flag R.CL_STATUS_ARMED = true → (∀ a, s.cl.inForce = some a → a.act ≤ pt ∧ a.firesMax = 0) →
          ((∃ r ∈ s.cl.recent, max pt r - min pt r ≤ s.f R.CL_MERGE_NS * 2 ^ 48) → Ends (exec (.fireUp k c) s) fun t =>
            t.f R.CL_MERGED = min (s.f R.CL_MERGED + 1) (2 ^ 32 - 1) ∧ wait t k = wait s k ++ [ack] ∧ t.out = s.out ∧ t.cl.recent = s.cl.recent ∧
            FieldsKept [R.CL_MERGED] s t ∧ t.trg = s.trg) ∧
          ((∀ r ∈ s.cl.recent, s.f R.CL_MERGE_NS * 2 ^ 48 < max pt r - min pt r) → Ends (exec (.fireUp k c) s) fun t =>
            t.f R.CL_FIRE_NUM_NUM = num ∧ t.f R.CL_FIRE_NUM_ORIGIN = bitsOf p 128 16 ∧ t.ptimeAt 0x4C0050 = pt ∧
            t.f R.CL_FIRES_RCVD = min (s.f R.CL_FIRES_RCVD + 1) (2 ^ 32 - 1) ∧ t.cl.recent = (pt :: s.cl.recent).take 64 ∧
            t.cl.fires = s.cl.fires + 1 ∧
            ∀ j ∈ s.children, s.linkUp j = true → wait t j = wait s j ++ (if j = k then [ack] else []) ++
              [{ seq := 0, type_ := cFIRE, flags := 1, payload := firePayload pt (bitsOf p 128 16) (bitsOf p 144 6) num (s.f R.CL_ARM_ID) }])) ∧
        (s.role = 2 → s.linkUp s.upLane = true → Ends (exec (.fireUp k c) s) fun t =>
          wait t s.upLane = wait s s.upLane ++ [{ seq := 0, type_ := cFIRE, flags := 0, payload := p }] ∧
          wait t k = wait s k ++ [ack] ∧ t.regs = s.regs ∧ t.trg = s.trg ∧ t.out = s.out) ∧
        (s.role = 2 → s.linkUp s.upLane = false → Ends (exec (.fireUp k c) s) fun t =>
          t.f R.CL_FIRES_DROPPED = min (s.f R.CL_FIRES_DROPPED + 1) (2 ^ 32 - 1) ∧ wait t k = wait s k ++ [ack] ∧ FieldsKept [R.CL_FIRES_DROPPED] s t))) ∧
    (bitOf c.flags.toNat 0 = true → s.isParent k = true →
      (s.ctlTake k c = .drop → exec (.fireDown k c) s = .next s) ∧
      (s.ctlTake k c = .again → exec (.fireDown k c) s = .next (s.sendCar k ack)) ∧
      (s.ctlTake k c = .act → Ends (exec (.fireDown k c) s) fun t =>
        t.f R.CL_FIRE_NUM_NUM = bitsOf p 160 16 ∧ t.f R.CL_FIRE_NUM_ORIGIN = bitsOf p 128 16 ∧ t.ptimeAt 0x4C0050 = pt ∧
        t.f R.CL_FIRES_RCVD = min (s.f R.CL_FIRES_RCVD + 1) (2 ^ 32 - 1) ∧ wait t k = wait s k ++ [ack] ∧
        (∀ j ∈ s.children, s.linkUp j = true → wait t j = wait s j ++ [{ seq := 0, type_ := cFIRE, flags := 1, payload := p }]) ∧
        (pt + s.horizon < s.now → t.flag R.CL_STATUS_FIRE_LATE = true ∧ t.f R.CL_LATE_FIRES = min (s.f R.CL_LATE_FIRES + 1) (2 ^ 32 - 1)) ∧
        (s.now ≤ pt + s.horizon → t.f R.CL_STATUS_FIRE_LATE = s.f R.CL_STATUS_FIRE_LATE ∧ t.f R.CL_LATE_FIRES = s.f R.CL_LATE_FIRES)))) ∧
  (∀ (k : Fin 16) (c : Carriage) (s : State), s.Hears k c cARM → s.isParent k = true → s.role = 3 → s.ctlTake k c = .act →
    s.cl.arms = [] → let p := c.payload.toNat
    Ends (exec (.armCarriage k c) s) fun t =>
      (t.linkN k).waiting = (s.linkN k).waiting ++
        [{ seq := c.seq.toNat, type_ := cACK, flags := 0, payload := 2 ^ 8 * cARM + 2 ^ 32 * s.f R.CL_PATH }] ∧ (t.linkN k).rxSeq = ((s.linkN k).rxSeq + 1) % 2 ^ 16 ∧
      (payPtime p ≤ s.now → t.cl.arms = [] ∧ (bitOf p 176 = true → t.flag R.CL_STATUS_ARMED = false) ∧
        (bitOf p 176 = false → t.flag R.CL_STATUS_ARMED = true ∧ t.f R.CL_ARM_ID = bitsOf p 128 32 ∧ t.cl.fires = 0)) ∧
      (s.now < payPtime p → t.flag R.CL_STATUS_ARMED = s.flag R.CL_STATUS_ARMED ∧ t.regs = s.regs ∧
        t.cl.arms = [{ act := payPtime p, id := bitsOf p 128 32, firesMax := bitsOf p 160 16, disarm := bitOf p 176, seq := c.seq.toNat, acked := true }])) ∧
  (∀ s : State,
    ((∀ a ∈ s.cl.arms, a.due = true → s.now < a.act) →
      exec .armActivate s = .next { s with cl := { s.cl with arms := s.cl.arms.filter (fun a => a.due || !a.acked) } }) ∧
    ∀ a, s.cl.arms = [a] → a.due = true → a.act ≤ s.now → a.acked = true → Ends (exec .armActivate s) fun t =>
      t.cl.arms = [] ∧ (a.disarm = true → t.flag R.CL_STATUS_ARMED = false ∧ FieldsKept [R.CL_STATUS_ARMED] s t) ∧
      (a.disarm = false → t.flag R.CL_STATUS_ARMED = true ∧ t.f R.CL_ARM_ID = a.id % 2 ^ 32 ∧ t.cl.inForce = some a ∧ t.cl.fires = 0)) ∧
  (∀ (k : Fin 16) (f : Fetch) (s : State), s.Starts k f false false [2 ^ 64 - 1, 2 ^ 64 - 1, 0x1FFFF] →
    let act := ptOf128 (f.entry.param 0 + 2 ^ 64 * f.entry.param 1)
    let id := (s.cl.armId + 1) % 2 ^ 32
    (s.role = 2 ∨ s.role = 3 ∨ act < s.now + s.horizon → Ends (exec (.clArm k f) s) fun t => Completed s t k f 0x11 0 ∧ t.cl = s.cl) ∧
    (s.now + s.horizon ≤ act →
      (s.role = 0 → s.cl.arms = [] → s.host.defs = [] → Ends (exec (.clArm k f) s) fun t =>
        Completed s t k f 0 id ∧ t.cl.armId = id ∧
        t.cl.arms = [{ act := act, id := id, firesMax := bitsOf (f.entry.param 2) 0 16, disarm := bitOf (f.entry.param 2) 16, acked := true }]) ∧
      (s.role = 1 → (∃ j ∈ s.children, s.linkUp j = false) → Ends (exec (.clArm k f) s) fun t => Completed s t k f 0x22 0 ∧ t.cl = s.cl) ∧
      (s.role = 1 → s.children ≠ [] → (∀ j ∈ s.children, s.linkUp j = true) → s.host.defs.length < 256 → Ends (exec (.clArm k f) s) fun t =>
        Waits s t k f id ∧ t.cl.armId = id ∧ ∃ a, t.cl.arms = s.cl.arms ++ [a] ∧ a.act = act ∧ a.id = id ∧ a.acked = false))) ∧
  ∀ (a : ArmSt) (d : DefCmd) (s : State), s.role = 1 → s.cl.arms = [a] → a.acked = false → a.due = true → a.act ≤ s.now → a.disarm = false →
    s.host.defs = [d] → d.entry.opcode = 0x60 → d.target = a.id → d.stopped = false → d.ring < 16 →
    s.f (R.HI_RING_STATUS_STATE d.ring) = 1 → s.cplFull d.ring = false → s.host.waiting = [] → s.hostOff = false →
    Ends (exec .clArmTimeout s) fun t =>
      t.host.defs = [] ∧ t.cl.arms = [] ∧ t.flag R.CL_STATUS_ARMED = true ∧ t.f R.CL_ARM_ID = a.id % 2 ^ 32 ∧
      Msg.hostWrite (s.f (R.HI_RING_CBASE d.ring) + 16 * s.f (R.HI_RING_CPTR_CTAIL d.ring))
        (leBytes 2 d.entry.tag.toNat ++ leBytes 1 0x40 ++ leBytes 1 (s.f (R.HI_RING_CPTR_PHASE d.ring))) ∈ t.out

/-- A carriage on a link that does not run does nothing. The errors of a codeword count once, in FEC_CORR where the code corrects them and in FEC_UNCORR where it cannot; a carriage of the first kind is then taken, one of the second is discarded. A carriage with a bad CRC or a reserved type is counted and ignored. The CRC is that of bits [223:0], so that a carriage that is sent is one whose CRC holds. A slot takes a control carriage that goes out again, else the oldest waiting carriage of the highest priority, a control one with the next number, else IDLE; a codeword has 20 slots, and every 21st begins with TIME. Training that finds every step good leaves the link RUNNING with its measured delay, its spread and its peer, and a worker with its device number; else the link is in FAULT with the code of the failing step. A worker's lanes other than its parent's do not train. Loss of lock is a FAULT with code 6. Every FAULT is logged. One millisecond into FAULT a link with AUTO, unless it is such a lane, trains anew and forgets what was unacknowledged. A TIME carriage shows UP_HOLDOVER and CL_PATH, and in mode 1 gives the time base its error. DATA from a child grows the packet in order and drops it on a gap, and number 0 begins a packet; a whole one enters its queue while that runs, and also one during which the queue was disabled; a packet to the parent leaves in parts of 24 bytes against credit, and a CREDIT carriage adds to it. An ACK removes what it names; without one for 2·(d + F) + 200 ns the unacknowledged carriages go again, and after three repeats the link is in FAULT with code 5 (deduced, log entry 7). -/
def Obligations.LinksAndCarriages : Prop :=
  (∀ (k : Fin 16) (c : Carriage) (trx : BitVec 128) (s : State),
    ∀ x ∈ ([(cTIME, fun c s => exec (.timeCarriage k c trx) s), (cARM, fun c s => exec (.armCarriage k c) s), (cFIRE, fun c s => exec (.fireUp k c) s),
      (cFIRE, fun c s => exec (.fireDown k c) s), (cCREDIT, fun c s => exec (.credit k c) s), (cACK, fun c s => exec (.ack k c) s),
      (cCFGSW, fun c s => exec (.cfgswPrepare k c) s), (cCFGSW, fun c s => exec (.cfgswCommit k c) s), (cCFGSW, fun c s => exec (.cfgswAbort k c) s)] ++
      (if s.isParent k then [] else [(cDATA, fun c s => exec (.dataCarriage k c false) s)]) :
        List (Nat × (Carriage → State → Host.Outcome State Fault Refusal))),
    (s.linkUp k = false → x.2 c s = .next s) ∧
    (s.linkUp k = true → cwCorrects c.errs = true → x.2 c s = x.2 { c with errs := 0 } (s.cwCount k c)) ∧
    (s.linkUp k = true → cwCorrects c.errs = false → x.2 c s = .next (s.cwCount k c)) ∧
    (s.linkUp k = true → c.errs = 0 → (carCrcOk c = false ∨ 9 ≤ c.type_.toNat) → Ends (x.2 c s) fun t =>
      t.f (R.CL_LINK_CRC_ERR k) = min (s.f (R.CL_LINK_CRC_ERR k) + 1) (2 ^ 32 - 1) ∧ FieldsKept [R.CL_LINK_CRC_ERR k] s t ∧ t = { s with regs := t.regs, sets := t.sets }) ∧
    (s.linkUp k = true → c.errs = 0 → carCrcOk c = true → c.type_.toNat < 9 → c.type_.toNat ≠ x.1 → x.2 c s = .next s)) ∧
  (∀ (k : Fin 16) (c : Carriage) (s : State),
    (c.errs = 0 ∨ (s.linkN k).rxCw = some c.cw → s.cwCount k c = s) ∧
    (c.errs ≠ 0 → (s.linkN k).rxCw ≠ some c.cw → let t := s.cwCount k c
      (t.linkN k).rxCw = some c.cw ∧
      (c.errs ≤ 15 → t.f (R.CL_LINK_FEC_CORR k) = min (s.f (R.CL_LINK_FEC_CORR k) + 1) (2 ^ 64 - 1) ∧ FieldsKept [R.CL_LINK_FEC_CORR k] s t) ∧
      (15 < c.errs → t.f (R.CL_LINK_FEC_UNCORR k) = min (s.f (R.CL_LINK_FEC_UNCORR k) + 1) (2 ^ 32 - 1) ∧ FieldsKept [R.CL_LINK_FEC_UNCORR k] s t))) ∧
  (∀ (x : CtlCarriage) (cw : BitVec 32) (errs : Nat), let b := (carriageBits x).toNat
    carCrcOk { cw := cw, errs := errs, type_ := BitVec.ofNat 8 b, flags := BitVec.ofNat 8 (bitsOf b 8 8), seq := BitVec.ofNat 16 (bitsOf b 16 16), payload := BitVec.ofNat 192 (bitsOf b 32 192), crc := BitVec.ofNat 32 (bitsOf b 224 32) } = true ∧
      bitsOf b 0 8 = x.type_ % 2 ^ 8 ∧ bitsOf b 8 8 = x.flags % 2 ^ 8 ∧ bitsOf b 16 16 = x.seq % 2 ^ 16 ∧ bitsOf b 32 192 = x.payload % 2 ^ 192) ∧
  (∀ (l : LinkSt) (now : Nat),
    (∀ c rest, l.again = c :: rest → l.slot now = ({ l with again := rest }, c)) ∧
    (l.again = [] → (∀ c ∈ l.waiting, l.mayGo c = false) → l.slot now = (l, { seq := 0, type_ := 0, flags := 0, payload := 0 })) ∧
    (l.again = [] → ∀ c ∈ l.waiting, l.mayGo c = true → ∃ d ∈ l.waiting, l.mayGo d = true ∧ slotRank d.type_ ≤ slotRank c.type_ ∧
      (isCtl d.type_ = false → l.slot now = ({ l with waiting := l.waiting.erase d }, d)) ∧
      (isCtl d.type_ = true → (l.slot now).2 = { d with seq := l.txSeq } ∧ (l.slot now).1.waiting = l.waiting.erase d ∧
        (l.slot now).1.unacked = l.unacked ++ [{ d with seq := l.txSeq }] ∧ (l.slot now).1.txSeq = (l.txSeq + 1) % 2 ^ 16))) ∧
  (∀ (k : Fin 16) (s : State), bitOf (s.f R.PWR_PADHOLD_GROUPS) (4 + k / 4) = false →
    let n := s.cwNext k
    let at_ := (s.linkN k).cwStart + 5440 * n * nsUnit / s.laneRate k
    (s.clk.elapsed + s.increment ≤ at_ → s.sendCodeword k = s) ∧
    (at_ < s.clk.elapsed + s.increment → let t := s.sendCodeword k
      (∃ h slots, t.out = s.out ++ [.codeword k h slots] ∧ slots.length = 20 ∧
        (n % 21 = 0 → slots[0]? = some (carriageBits (s.timeCar (s.now + (at_ - s.clk.elapsed) + 20 * nsUnit / s.laneRate k))))) ∧
      (t.linkN k).cwNum = n + 1 ∧ t.regs = s.regs)) ∧
  (∀ (k : Fin 16) (r : TrainResult) (s : State),
    (s.isLink k = false ∨ s.barredLane k = true → exec (.linkTrain k r) s = .next s) ∧
    (s.isLink k = true → s.barredLane k = false → Ends (exec (.linkTrain k r) s) fun t =>
      let fits := s.roleFits k r.peerRole = true
      t.flag (R.CL_LINK_CTRL_TRAIN k) = false ∧ (fits → (r.failStep = 0 ∨ r.failStep = 4) → t.f (R.CL_LINK_SPREAD_PS k) = min r.spread 65535) ∧
      (∀ j, j < 16 → j ≠ k.val → ∀ i, i < 16 → t.word (0x4C0100 + 0x40 * j + 4 * i) = s.word (0x4C0100 + 0x40 * j + 4 * i)) ∧
      (r.failStep = 0 → fits → r.spread ≤ 100 → t.linkUp k = true ∧
        (s.isChild k = true → t.f (R.CL_LINK_STATUS_PEER k) = (if s.role = 1 then 256 * (k.val + 1) else s.f R.CL_STATUS_DEV + k.val + 1) % 2 ^ 16 ∧
          t.f (R.CL_LINK_DELAY k) = wrapInt 32 (r.delay + roundDiv (s.fi (R.CL_LINK_ASYM k) * 65536) 1000) ∧ t.f R.CL_STATUS_DEV = s.f R.CL_STATUS_DEV) ∧
        (s.isParent k = true → t.flag R.CL_STATUS_UP_OK = true ∧ t.f (R.CL_LINK_STATUS_PEER k) = r.peerDev.toNat ∧ t.f (R.CL_LINK_DELAY k) = wrapInt 32 r.delay ∧
          t.f R.CL_STATUS_DEV = (if r.peerRole = 1 then 256 * (r.peerLane + 1) else r.peerDev.toNat + r.peerLane + 1) % 2 ^ 16)) ∧
      (∀ code, (r.failStep = 1 ∧ code = 1) ∨ (r.failStep = 2 ∧ code = 2) ∨ ((r.failStep = 3 ∨ (r.failStep = 0 ∧ ¬ fits)) ∧ code = 3) ∨
          (((r.failStep = 4 ∧ fits) ∨ (r.failStep = 0 ∧ fits ∧ 100 < r.spread)) ∧ code = 4) →
        t.f (R.CL_LINK_STATUS_STATE k) = 3 ∧ t.f (R.CL_LINK_STATUS_FAIL k) = code ∧ t.f R.CL_STATUS_DEV = s.f R.CL_STATUS_DEV))) ∧
  (∀ (k : Fin 16) (s : State),
    (s.linkUp k = false → exec (.linkLos k) s = .next s) ∧
    (s.linkUp k = true → Ends (exec (.linkLos k) s) fun t => t.f (R.CL_LINK_STATUS_STATE k) = 3 ∧ t.f (R.CL_LINK_STATUS_FAIL k) = 6 ∧
      (t.linkN k).unacked = (s.linkN k).unacked ∧ (t.linkN k).faultAt = s.clk.elapsed ∧
      WordsKept (fun o => LogWord o ∨ o = 0x4C0004 ∨ o = 0x4C0100 + 0x40 * k ∨ o = 0x4C0104 + 0x40 * k) s t ∧
      t = { s with regs := t.regs, sets := t.sets, cl := t.cl, sec := t.sec }) ∧
    (s.f (R.CL_LINK_STATUS_STATE k) = 3 → s.flag (R.CL_LINK_CTRL_AUTO k) = true → s.isLink k = true →
      (s.linkN k).faultAt + 1000000 * 2 ^ 48 ≤ s.clk.elapsed → (s.barredLane k = true → Ends (exec (.linkAutoRetrain k) s) fun t =>
        t.f (R.CL_LINK_STATUS_STATE k) = 3 ∧ t.flag (R.CL_LINK_CTRL_TRAIN k) = false ∧ FieldsKept [R.CL_LINK_CTRL_TRAIN k] s t) ∧
       (s.barredLane k = false → Ends (exec (.linkAutoRetrain k) s) fun t =>
        t.f (R.CL_LINK_STATUS_STATE k) = 1 ∧ t.flag (R.CL_LINK_CTRL_TRAIN k) = true ∧ (t.linkN k).unacked = [] ∧ (t.linkN k).waiting = [] ∧
        t.f R.CL_FIRES_DROPPED = min (s.f R.CL_FIRES_DROPPED + ((s.linkN k).unacked ++ (s.linkN k).waiting).countP (fun c => c.type_ == cFIRE)) (2 ^ 32 - 1) ∧
        (s.isRunning (0x67 + k / 4) = true → t.blk (0x67 + k / 4) = .fenced))) ∧
    (s.f (R.CL_LINK_STATUS_STATE k) ≠ 3 ∨ s.flag (R.CL_LINK_CTRL_AUTO k) = false ∨ s.clk.elapsed < (s.linkN k).faultAt + 1000000 * 2 ^ 48 →
      exec (.linkAutoRetrain k) s = .next s)) ∧
  (∀ (k : Fin 16) (c : Carriage) (trx : BitVec 128) (s : State), s.Hears k c cTIME → s.isParent k = true → Ends (exec (.timeCarriage k c trx) s) fun t =>
    let p := c.payload.toNat
    (t.flag R.CL_STATUS_UP_HOLDOVER = bitOf p 128) ∧ t.f R.CL_PATH = (bitsOf p 160 32 + ceilDiv (s.f (R.CL_LINK_DELAY k)) 65536 + s.hopF k) % 2 ^ 32 ∧
    (s.clk.mode = 1 → t.clk.refEdges = s.clk.refEdges + 1 ∧
      t.clk.refErr = ((ptOf128 trx.toNat : Int) - payPtime p) / 2 ^ 32 - s.f (R.CL_LINK_DELAY k)) ∧
    (s.clk.mode ≠ 1 → t.clk = s.clk) ∧ t.clk.ptime = s.clk.ptime ∧
    FieldsKept [R.CL_STATUS_UP_HOLDOVER, R.CL_PATH, R.TB_STATE_HOLDOVER] s t) ∧
  (∀ (k : Fin 16) (c : Carriage) (parity : Bool) (s : State),
    let q := bitsOf c.flags.toNat 0 5
    (s.Hears k c cDATA → s.isParent k = false → s.isChild k = true → bitOf c.flags.toNat 5 = false → (∀ a ∈ (s.linkN k).asm, a.queue ≠ q) →
      Ends (exec (.dataCarriage k c parity) s) fun t =>
        (t.linkN k).asm = (s.linkN k).asm ++ [{ queue := q, next := c.seq.toNat + 1, bad := c.seq.toNat != 0, bytes := if c.seq.toNat = 0 then leBytes 24 c.payload.toNat else [] }] ∧
        t.f (R.CL_LINK_DATA_DROP k) = min (s.f (R.CL_LINK_DATA_DROP k) + if c.seq.toNat = 0 then 0 else 1) (2 ^ 32 - 1) ∧ t.sq = s.sq ∧
        FieldsKept [R.CL_LINK_DATA_DROP k] s t) ∧
    (∀ a, s.Hears k c cDATA → s.isParent k = false → s.isChild k = true → bitOf c.flags.toNat 5 = false → c.seq.toNat = 0 →
      (s.linkN k).asm = [a] → a.queue = q → a.bad = false → a.next ≠ 0 → Ends (exec (.dataCarriage k c parity) s) fun t =>
        t.f (R.CL_LINK_DATA_DROP k) = min (s.f (R.CL_LINK_DATA_DROP k) + 1) (2 ^ 32 - 1) ∧
        (t.linkN k).asm = [{ a with next := 1, last := false, bytes := leBytes 24 c.payload.toNat }] ∧ t.sq = s.sq) ∧
    (∀ a, s.Hears k c cDATA → s.isParent k = false → s.isChild k = true → bitOf c.flags.toNat 5 = true → c.seq.toNat ≠ 0 → bitsOf c.flags.toNat 6 2 = 0 →
      (s.linkN k).asm = [a] → a.queue = q → a.bad = false → a.next = c.seq.toNat → (s.flag (R.SQ_STATUS_RUNNING q) = true ∨ a.last = true) → s.isFenced (0xC0 + q) = false →
      s.sqRoom q 3 { kind := 3, body := a.bytes ++ leBytes 24 c.payload.toNat } = true → Ends (exec (.dataCarriage k c parity) s) fun t =>
        (t.linkN k).asm = [] ∧ t.f (R.CL_LINK_DATA_DROP k) = s.f (R.CL_LINK_DATA_DROP k) ∧
        (∃ p, (t.sqN q).pkts = (s.sqN q).pkts ++ [p] ∧ p.kind = 3 ∧ p.body = a.bytes ++ leBytes 24 c.payload.toNat ∧ p.num = (s.sqN q).num) ∧
        ∀ j, j ≠ q → t.sqN j = s.sqN j) ∧
    (s.isParent k = true → (s.linkUp k = false ∨ s.dataQueue = none → exec (.dataCarriage k c parity) s = .next s) ∧
      ∀ o p rest, s.linkUp k = true → s.dataQueue = some o → (s.sqN o).pkts = p :: rest → parity = false → s.upLane = k →
        let part := (p.bytes.drop (s.sqN o).taken).take 24
        let eop := p.bytes.length ≤ (s.sqN o).taken + 24
        let rq := s.f (R.SQ_CFG_REMOTE_Q o)
        Ends (exec (.dataCarriage k c parity) s) fun t =>
          (t.linkN k).waiting = (s.linkN k).waiting ++
            [{ seq := (s.linkN k).outNum % 2 ^ 16, type_ := cDATA, flags := rq + if eop then 32 + 64 * (part.length / 8 % 3) else 0, payload := leNat part }] ∧ t.out = s.out ∧
          tget (fun _ => 0) (t.linkN k).credit rq = tget (fun _ => 0) (s.linkN k).credit rq - 1 ∧
          (t.linkN k).outNum = (if eop then 0 else (s.linkN k).outNum + 1) ∧ ∀ j, j ≠ o → t.sqN j = s.sqN j)) ∧
  (∀ (k : Fin 16) (c : Carriage) (s : State),
    (s.Hears k c cCREDIT → s.isParent k = true → Ends (exec (.credit k c) s) fun t =>
      let q := bitsOf c.flags.toNat 0 5
      tget (fun _ => 0) (t.linkN k).credit q = tget (fun _ => 0) (s.linkN k).credit q + bitsOf c.payload.toNat 0 16 ∧
      (∀ x, x ≠ q → tget (fun _ => 0) (t.linkN k).credit x = tget (fun _ => 0) (s.linkN k).credit x) ∧ t = { s with cl := t.cl }) ∧
    (s.Hears k c cACK →
      ((∀ x ∈ (s.linkN k).unacked, x.seq ≠ c.seq.toNat) → exec (.ack k c) s = .next s) ∧
      ∀ x, (s.linkN k).unacked.find? (fun y => y.seq == c.seq.toNat) = some x → x.type_ = cFIRE →
        Ends (exec (.ack k c) s) fun t => (t.linkN k).unacked = (s.linkN k).unacked.erase x ∧ (t.linkN k).again = (s.linkN k).again.erase x ∧
          (t.linkN k).waiting = (s.linkN k).waiting ∧ (t.linkN k).repeats = 0 ∧ t = { s with cl := t.cl })) ∧
  ∀ (k : Fin 16) (s : State),
    let limit := (s.linkN k).sentAt + (2 * (s.f (R.CL_LINK_DELAY k) + s.hopF k * 2 ^ 16) + 200 * 2 ^ 16) * 2 ^ 32
    (s.linkUp k = false ∨ (s.linkN k).unacked = [] ∨ s.clk.elapsed < limit → exec (.ackTimeout k) s = .next s) ∧
    (s.linkUp k = true → (s.linkN k).unacked ≠ [] → limit ≤ s.clk.elapsed →
      (3 ≤ (s.linkN k).repeats → Ends (exec (.ackTimeout k) s) fun t => t.f (R.CL_LINK_STATUS_STATE k) = 3 ∧ t.f (R.CL_LINK_STATUS_FAIL k) = 5) ∧
      ((s.linkN k).repeats < 3 → Ends (exec (.ackTimeout k) s) fun t =>
        (t.linkN k).again = (s.linkN k).unacked ∧ (t.linkN k).waiting = (s.linkN k).waiting ∧ t.out = s.out ∧
        (t.linkN k).repeats = (s.linkN k).repeats + 1 ∧ (t.linkN k).unacked = (s.linkN k).unacked ∧
        t.f (R.CL_LINK_RETX k) = min (s.f (R.CL_LINK_RETX k) + (s.linkN k).unacked.length) (2 ^ 32 - 1) ∧ FieldsKept [R.CL_LINK_RETX k] s t))

/-- A running channel counts every edge of its polarity, and no other; of two edges closer than 1.25 ns it marks FAST and may miss one. An edge whose count is no multiple of P is not offered; an offered one within the dead time, 8 or 32 fabric cycles, counts as missed and lost. A stamped one enters the queue with the time of the calibration formula, rounded to 2^-32 ns, and the marks of Table 10-2, or finds the queue full and is counted. EN acts at the next alignment tick, where a start sets the count to 0 and a stop ends the gate and keeps the queue. A read of POP0 takes the head entry, and nothing while a drain is chosen. A batch leaves as one record when BATCH entries are gathered or the first has waited TMO. -/
def Obligations.TimingInputs : Prop :=
  (∀ (c : Fin 16) (k n : Nat) (s : State),
    let w := fun (i : Nat) => (s.f (R.TDC_BIN_FS c i) : ℚ)
    let b := k % 16
    let fine : ℚ := if c.val < 12 then w b / 2 else n * s.f (R.TDC_VPER c) / 256 + s.fi (R.TDC_VNL_FS c n)
    let fs : ℚ := ((List.range b).map w).sum + fine - s.f (R.TDC_DLY c) - s.fi (R.TDC_TCO_FS c) * ((s.fi R.TDC_TEMP_TEMP - s.fi R.TDC_CAL_TEMP_CAL : ℤ) : ℚ) / 256
    let exact : ℚ := s.timeIn (k / 16 * 16) / 2 ^ 48 + fs / 10 ^ 6
    1 ≤ exact → exact + 1 < 2 ^ 64 * 10 ^ 9 →
      s.tdcStamp c k n % 2 ^ 16 = 0 ∧ |(s.tdcStamp c k n : ℚ) / 2 ^ 48 - exact| ≤ 1 / 2 ^ 33) ∧
  (∀ (c : Fin 16) (falling : Bool) (k : Fin 160) (n : Fin 64) (s : State),
    let x := s.tdcN c
    let now := s.clk.elapsed + k * s.increment / 160
    let taken := s.f (R.TDC_CFG_EDGE c) = 2 ∨ (falling = true ↔ s.f (R.TDC_CFG_EDGE c) = 1)
    let ev := min (s.f (R.TDC_EVENTS c) + 1) (2 ^ 64 - 1)
    let dead := (if c.val < 12 then 8 else 32) * s.increment / 5
    ((s.flag (R.TDC_STATUS_RUNNING c) = false ∨ ¬ taken) → exec (.tinEdge c falling k n) s = .next s) ∧
    (s.flag (R.TDC_STATUS_RUNNING c) = true → taken →
      (∀ p, x.lastEdge = some p → now < p + 5 * 2 ^ 46 → Ends (exec (.tinEdge c falling k n) s) fun t =>
        t.flag (R.TDC_STATUS_FAST c) = true ∧ (t.f (R.TDC_EVENTS c) = s.f (R.TDC_EVENTS c) ∨ t.f (R.TDC_EVENTS c) = ev) ∧
        ∀ j, j ≠ c.val → t.tdcN j = s.tdcN j) ∧
      ((∀ p, x.lastEdge = some p → p + 5 * 2 ^ 46 ≤ now) →
        (ev % (s.f (R.TDC_CFG_PRESC c) + 1) ≠ 0 → Ends (exec (.tinEdge c falling k n) s) fun t =>
          t.f (R.TDC_EVENTS c) = ev ∧ t.tdcN c = { x with lastEdge := some now } ∧ FieldsKept [R.TDC_EVENTS c] s t ∧ t = { s with regs := t.regs, sets := t.sets, tdc := t.tdc }) ∧
        (ev % (s.f (R.TDC_CFG_PRESC c) + 1) = 0 →
          (∀ p, x.lastStamp = some p → now < p + dead → Ends (exec (.tinEdge c falling k n) s) fun t =>
            t.f (R.TDC_EVENTS c) = ev ∧ t.f (R.TDC_MISSED c) = min (s.f (R.TDC_MISSED c) + 1) (2 ^ 32 - 1) ∧
            t.tdcN c = { x with lastEdge := some now, lost := x.lost + 1 } ∧ FieldsKept [R.TDC_EVENTS c, R.TDC_MISSED c] s t ∧
            t = { s with regs := t.regs, sets := t.sets, tdc := t.tdc }) ∧
          ((∀ p, x.lastStamp = some p → p + dead ≤ now) → s.f (R.TDC_QCFG_DRAIN c) ≠ 1 → Ends (exec (.tinEdge c falling k n) s) fun t =>
            let st := s.tdcStamp c k n
            t.f (R.TDC_EVENTS c) = ev ∧ (t.tdcN c).lastStamp = some now ∧ t.mem = s.mem ∧ (∀ j, j ≠ c.val → t.tdcN j = s.tdcN j) ∧
            (x.queue.length < 4096 → (t.tdcN c).lost = 0 ∧ t.f (R.TDC_QLEVEL_LEVEL c) = x.queue.length + 1 ∧
              (t.flag (R.TDC_STATUS_QFULL c) = true ↔ x.queue.length = 4095) ∧
              ∃ e, (t.tdcN c).queue = x.queue ++ [(e, s.clk.elapsed)] ∧ bitsOf e 0 32 = ptFrac st ∧ bitsOf e 32 30 = ptNs st ∧
                bitsOf e 64 48 = ptSec st % 2 ^ 48 ∧ bitOf e 63 = false ∧ bitsOf e 112 4 = c ∧ bitOf e 116 = falling ∧ bitOf e 117 = s.flag R.TB_STATE_HOLDOVER ∧
                bitOf e 118 = !s.flag R.CLK_STATUS_LOCKED ∧ bitOf e 119 = x.qovf ∧ bitsOf e 120 8 = min 255 x.lost ∧ (bitOf e 62 = true ↔ x.steps ≠ s.clk.steps)) ∧
            (4096 ≤ x.queue.length → (t.tdcN c).queue = x.queue ∧ (t.tdcN c).lost = x.lost + 1 ∧ (t.tdcN c).qovf = true ∧
              t.f (R.TDC_QOVF c) = min (s.f (R.TDC_QOVF c) + 1) (2 ^ 32 - 1))))))) ∧
  (∀ (pf : Fin 2) (c : Fin 16) (v : BitVec 32) (s : State),
    (s.Opens pf (0x21000 + 0x400 * c) → Ends (exec (.tdcEnable pf c v) s) fun t =>
      t.flag (R.TDC_CFG_EN c) = v.getLsbD 0 ∧ t.f (R.TDC_CFG_EDGE c) = (v.extractLsb' 2 2).toNat ∧ t.f (R.TDC_CFG_IO c) = (v.extractLsb' 4 2).toNat ∧
      t.f (R.TDC_CFG_PRESC c) = (v.extractLsb' 16 16).toNat ∧ t.tdc = s.tdc ∧ WordsKept (fun o => o = 0x21000 + 0x400 * c) s t) ∧
    (s.flag (R.TDC_CFG_EN c) = true → s.flag (R.TDC_STATUS_RUNNING c) = false → s.tdcTick.flag (R.TDC_STATUS_RUNNING c) = true ∧
      s.tdcTick.f (R.TDC_EVENTS c) = 0 ∧ (s.tdcTick.tdcN c).queue = (s.tdcN c).queue ∧ (s.tdcTick.tdcN c).lastStamp = none) ∧
    (s.flag (R.TDC_CFG_EN c) = false → s.flag (R.TDC_STATUS_RUNNING c) = true → s.tdcTick.flag (R.TDC_STATUS_RUNNING c) = false ∧
      s.tdcTick.f (R.TDC_EVENTS c) = s.f (R.TDC_EVENTS c) ∧ (s.tdcTick.tdcN c).queue = (s.tdcN c).queue ∧ (s.tdcTick.tdcN c).gate = none) ∧
    (s.Reaches pf (0x21040 + 0x400 * c) →
      (s.f (R.TDC_QCFG_DRAIN c) = 1 ∨ s.f (R.TDC_QCFG_DRAIN c) = 2 → Ends (exec (.tdcPop pf c) s) fun t =>
        t.out = s.out ++ [.readReply pf (0x21040 + 0x400 * c) 4 0] ∧ t.tdc = s.tdc ∧ t.regs = s.regs) ∧
      (s.f (R.TDC_QCFG_DRAIN c) = 0 ∨ s.f (R.TDC_QCFG_DRAIN c) = 3 →
        ((s.tdcN c).queue = [] → Ends (exec (.tdcPop pf c) s) fun t => t.out = s.out ++ [.readReply pf (0x21040 + 0x400 * c) 4 0] ∧
          t.tdc = s.tdc ∧ ∀ m, m < 3 → t.f (R.TDC_POP c m) = 0) ∧
        (∀ e at_ rest, (s.tdcN c).queue = (e, at_) :: rest → Ends (exec (.tdcPop pf c) s) fun t =>
          t.out = s.out ++ [.readReply pf (0x21040 + 0x400 * c) 4 (e % 2 ^ 32)] ∧ (t.tdcN c).queue = rest ∧
          (∀ m, m < 3 → t.f (R.TDC_POP c m) = e / 2 ^ (32 * (m + 1)) % 2 ^ 32) ∧ ∀ j, j ≠ c.val → t.tdcN j = s.tdcN j)))) ∧
  (∀ (x : BitVec 16) (s : State), Ends (exec (.tdcTempUpdate x) s) fun t =>
    t.f R.TDC_TEMP_TEMP = x.toNat ∧ FieldsKept [R.TDC_TEMP_TEMP] s t ∧ t = { s with regs := t.regs, sets := t.sets }) ∧
  ∀ (c : Fin 16) (e at_ : Nat) (rest : List (Nat × Nat)) (s : State),
    let x := s.tdcN c
    let batch := min 256 (max 1 (s.f (R.TDC_QCFG_BATCH c)))
    let tmo := max 1 (s.f (R.TDC_QCFG_TMO c)) * 1000 * 2 ^ 48
    let q := s.f (R.TDC_QCFG_SQ c)
    let m := min batch x.queue.length
    x.queue = (e, at_) :: rest →
    (s.f (R.TDC_QCFG_DRAIN c) ≠ 2 ∨ (x.queue.length < batch ∧ s.clk.elapsed < at_ + tmo) → exec (.tdcBatchEmit c) s = .next s) ∧
    (s.f (R.TDC_QCFG_DRAIN c) = 2 → batch ≤ x.queue.length ∨ at_ + tmo ≤ s.clk.elapsed → Ends (exec (.tdcBatchEmit c) s) fun t =>
      (t.tdcN c).queue = x.queue.drop m ∧ (t.tdcN c).seq = (x.seq + 1) % 2 ^ 32 ∧ t.f (R.TDC_QLEVEL_LEVEL c) = (x.queue.length - m) % 2 ^ 13 ∧
      (∀ j, j ≠ c.val → t.tdcN j = s.tdcN j) ∧
      (s.flag (R.SQ_STATUS_RUNNING q) = true → s.isFenced (0xC0 + q) = false → s.f (R.SQ_CFG_SRC q) = 0 → s.sqLevel q + 70 ≤ 4096 →
        t.f (R.TDC_DROP c) = s.f (R.TDC_DROP c) ∧ (t.tdcN c).recLost = false ∧
        ∃ p, (t.sqN q).pkts = (s.sqN q).pkts ++ [p] ∧ p.kind = 0 ∧ leAt p.body 0 2 = 0x5444 ∧ leAt p.body 2 2 = c + 2 ^ 12 ∧
          leAt p.body 4 4 = x.seq % 2 ^ 32 ∧ leAt p.body 36 4 = 16 * m ∧ (p.body.drop 64).take (16 * m) = (x.queue.take m).flatMap (fun y => leBytes 16 y.1)) ∧
      (s.flag (R.SQ_STATUS_RUNNING q) = false → (s.sqN q).rawOn = false →
        t.f (R.TDC_DROP c) = min (s.f (R.TDC_DROP c) + m) (2 ^ 32 - 1) ∧ (t.tdcN c).recLost = true ∧ t.sq = s.sq))

/-- Before its end a gate goes on. At its end COUNT is the number of its stamps, SEQ counts one up, and the next gate follows on the grid with no stamps. CAUSE is the first that applies: fewer than 3 stamps, a PTIME step since the gates began that left, met or passed over its span, a slope that is not positive or a FREQ out of range, and edges too close; all four results are then 0. Else FREQ is the rounded reciprocal of the least-squares slope, FEVENT the whole events up to the centre of the gate, and PHASE the rounded fraction, held below a whole cycle. -/
def Obligations.FrequencyGate : Prop :=
  ∀ (c : Fin 16) (x : GateSt) (s : State), (s.tdcN c).gate = some x →
    let g := s.gateLen c
    let d : ℤ := x.n * x.snn - x.sn * x.sn
    let b : ℤ := x.n * x.snt - x.sn * x.st
    let freq := roundDiv (d * 2 ^ 56 * 1000000000) b
    let stepped := ∃ p ∈ s.clk.stepLog.take (s.clk.steps - x.steps), min p.1 p.2 < x.start + g ∧ x.start ≤ max p.1 p.2
    (s.now < x.start + g → exec (.gateEnd c) s = .next s) ∧
    (x.start + g ≤ s.now → Ends (exec (.gateEnd c) s) fun t =>
      t.f (R.TDC_FCOUNT c) = x.n % 2 ^ 32 ∧ t.f (R.TDC_FSTAT_SEQ c) = (s.f (R.TDC_FSTAT_SEQ c) + 1) % 2 ^ 8 ∧
      (∃ y, (t.tdcN c).gate = some y ∧ y.k = x.k + 1 ∧ y.start = x.start + g ∧ y.n = 0 ∧ y.fast = false ∧ y.steps = x.steps) ∧
      (∀ j, j ≠ c.val → t.tdcN j = s.tdcN j) ∧ t.mem = s.mem ∧
      (s.flag (R.TDC_FCFG_ROUTE_EN c) = false → FieldsKept [R.TDC_FREQ c, R.TDC_FEVENT c, R.TDC_FPHASE c, R.TDC_FRESID c, R.TDC_FCOUNT c, R.TDC_FSTAT_SEQ c, R.TDC_FSTAT_CAUSE c] s t ∧
        t = { s with regs := t.regs, sets := t.sets, tdc := t.tdc }) ∧
      (∀ cause, (x.n < 3 ∧ cause = 1) ∨ (3 ≤ x.n ∧ stepped ∧ cause = 2) ∨ (3 ≤ x.n ∧ ¬ stepped ∧ (b ≤ 0 ∨ (2 ^ 64 - 1 : ℤ) < freq) ∧ cause = 3) ∨
          (3 ≤ x.n ∧ ¬ stepped ∧ 0 < b ∧ freq ≤ 2 ^ 64 - 1 ∧ x.fast = true ∧ cause = 4) →
        t.f (R.TDC_FSTAT_CAUSE c) = cause ∧ t.f (R.TDC_FREQ c) = 0 ∧ t.f (R.TDC_FEVENT c) = 0 ∧ t.f (R.TDC_FPHASE c) = 0 ∧ t.f (R.TDC_FRESID c) = 0) ∧
      (3 ≤ x.n → ¬ stepped → 0 < b → 0 < d → freq ≤ 2 ^ 64 - 1 → x.fast = false →
        let slope : ℚ := b / d
        let a : ℚ := (x.st - slope * x.sn) / x.n
        let y : ℚ := (g / 2 ^ 17 - a) / slope
        t.f (R.TDC_FSTAT_CAUSE c) = 0 ∧ |(t.f (R.TDC_FREQ c) : ℚ) - 2 ^ 56 * 10 ^ 9 / slope| ≤ 1 / 2 ∧
        (t.f (R.TDC_FEVENT c) : ℤ) = (x.n0 + ⌊y⌋) % 2 ^ 64 ∧
        ((t.f (R.TDC_FPHASE c) = 2 ^ 32 - 1 ∧ 1 - 3 / 2 ^ 33 ≤ Int.fract y) ∨ |(t.f (R.TDC_FPHASE c) : ℚ) / 2 ^ 32 - Int.fract y| ≤ 1 / 2 ^ 33)))

/-- Outside mode SW a write of NT_INCR or NT_STEP is dropped with MODE_DROP. In SW a written increment, clamped to the range around the nominal one and marked when it was, waits for the next alignment tick; a written step is pending until then, and a second one is dropped with STEP_BUSY. At the tick a pending step is added to PTIME, shown and counted, sets JUMP and is kept as a step from one PTIME to another, and a pending increment is in force; between ticks, and with neither pending, nothing happens. When NT_WDOG passes without a write, SERVO_OK clears, WDOG is set and HOLDOVER shows; else nothing happens. -/
def Obligations.ServoCommands : Prop :=
  (∀ (pf : Fin 2) (v : BitVec 64) (s : State), s.Reaches pf 0x30008 →
    let nom := iNom s.clk.nint s.clk.nfrac
    let w := v.toNat % 2 ^ 56
    let lo := (nom * 9995 + 9999) / 10000
    let hi := nom * 10005 / 10000
    let c := if w < lo then lo else if hi < w then hi else w
    (s.clk.mode ≠ 2 → Ends (exec (.ntIncrWrite pf v) s) fun t => t.flag R.NT_STATUS_MODE_DROP = true ∧ t.clk = s.clk ∧ FieldsKept [R.NT_STATUS_MODE_DROP] s t) ∧
    (s.clk.mode = 2 → Ends (exec (.ntIncrWrite pf v) s) fun t =>
      t.clk = { s.clk with incrPend := some c, servoAt := s.clk.elapsed } ∧ t.f R.NT_INCR_INCR = c % 2 ^ 56 ∧
      (t.flag R.NT_STATUS_INCR_CLAMP = true ↔ s.flag R.NT_STATUS_INCR_CLAMP = true ∨ c ≠ w) ∧ FieldsKept [R.NT_INCR_INCR, R.NT_STATUS_INCR_CLAMP] s t)) ∧
  (∀ (pf : Fin 2) (v : BitVec 64) (s : State), s.Reaches pf 0x30010 →
    (s.clk.mode ≠ 2 → Ends (exec (.ntStepWrite pf v) s) fun t => t.flag R.NT_STATUS_MODE_DROP = true ∧ t.clk = s.clk ∧ FieldsKept [R.NT_STATUS_MODE_DROP] s t) ∧
    (s.clk.mode = 2 → s.flag R.NT_STATUS_STEP_PEND = true → Ends (exec (.ntStepWrite pf v) s) fun t =>
      t.flag R.NT_STATUS_STEP_BUSY = true ∧ t.clk = s.clk ∧ FieldsKept [R.NT_STATUS_STEP_BUSY] s t) ∧
    (s.clk.mode = 2 → s.flag R.NT_STATUS_STEP_PEND = false → Ends (exec (.ntStepWrite pf v) s) fun t =>
      t.f R.NT_STEP = v.toNat ∧ t.flag R.NT_STATUS_STEP_PEND = true ∧ t.clk = { s.clk with servoAt := s.clk.elapsed } ∧
      FieldsKept [R.NT_STEP, R.NT_STATUS_STEP_PEND] s t)) ∧
  (∀ s : State,
    (s.atTick = false ∨ (s.flag R.NT_STATUS_STEP_PEND = false ∧ s.clk.incrPend = none) → exec .ntStepApply s = .next s) ∧
    (s.atTick = true → Ends (exec .ntStepApply s) fun t =>
      t.clk.incrPend = none ∧ (s.clk.incrPend = none → t.clk.incr = s.clk.incr) ∧ (∀ i, s.clk.incrPend = some i → t.clk.incr = i) ∧
      (s.flag R.NT_STATUS_STEP_PEND = false → t.clk.ptime = s.clk.ptime ∧ t.clk.steps = s.clk.steps ∧ t.clk.stepLog = s.clk.stepLog ∧ t.regs = s.regs) ∧
      (s.flag R.NT_STATUS_STEP_PEND = true → s.clk.ptime < ptimeSpan →
        let step := (BitVec.ofNat 64 (s.f R.NT_STEP)).toInt
        (t.clk.ptime : ℤ) = (s.clk.ptime + step * 2 ^ 32) % (2 ^ 64 * (1000000000 * 2 ^ 48)) ∧ t.clk.steps = s.clk.steps + 1 ∧
        t.clk.stepLog = (s.clk.ptime, t.clk.ptime) :: s.clk.stepLog ∧ t.f R.NT_STEP_LAST = s.f R.NT_STEP ∧
        t.f R.NT_STEPS = min (s.f R.NT_STEPS + 1) (2 ^ 32 - 1) ∧ t.flag R.TB_STATE_JUMP = true ∧ t.flag R.NT_STATUS_STEP_PEND = false ∧
        FieldsKept [R.NT_STEP_LAST, R.NT_STEPS, R.TB_STATE_JUMP, R.NT_STATUS_STEP_PEND] s t) ∧
      t = { s with regs := t.regs, sets := t.sets, clk := t.clk })) ∧
  ∀ s : State,
    let due := s.clk.servoAt + s.f R.NT_WDOG_MS * 1000000 * 2 ^ 48
    (s.clk.mode ≠ 2 ∨ s.f R.NT_WDOG_MS = 0 ∨ s.clk.elapsed < due → exec .servoWatchdog s = .next s) ∧
    (s.clk.mode = 2 → s.f R.NT_WDOG_MS ≠ 0 → due ≤ s.clk.elapsed → Ends (exec .servoWatchdog s) fun t =>
      t.flag R.NT_CTRL_SERVO_OK = false ∧ t.flag R.NT_STATUS_WDOG = true ∧ t.flag R.TB_STATE_HOLDOVER = true ∧ t.clk = { s.clk with servoAt := s.clk.elapsed } ∧
      FieldsKept [R.NT_CTRL_SERVO_OK, R.NT_STATUS_WDOG, R.TB_STATE_HOLDOVER] s t ∧ t = { s with regs := t.regs, sets := t.sets, clk := t.clk })

/-- The zero fill leaves every byte 0 and every sector valid. While requests are held nothing is served. A burst of the capture writer or of an output waits while the other goes first: under panic they take turns, else the round decides by grants of 256 bytes times the port's weight (log entry 133). A staged sector of the capture writer enters its controller's queue; the oldest entry drains into the stack by its byte mask, and its TAG becomes poison, data, or stays for a partial write. A read takes the youngest full entry of the queue, else the stack; an uncorrectable error poisons. A refresh that falls due is issued without panic, owed with panic, and the fifth makes a forced refresh of five that starts when the buffers allow or after 6 µs. HOT follows the stack temperatures with hysteresis. The scrubber goes on by one sector of its stack, holds the corrected sector for its write-back, and counts a pass at the end. MEM_CLEAR zeroes its range and clears poison, piece by piece, and is refused for a misaligned range or one in use. -/
def Obligations.CaptureMemory : Prop :=
  (∀ s : State,
    (s.flag R.MC_STATUS_INIT = false → exec .memInitDone s = .next s) ∧
    (s.flag R.MC_STATUS_INIT = true → Ends (exec .memInitDone s) fun t =>
      (∀ a, a < 2 ^ 40 → t.byteAt 0 a = 0) ∧ (∀ sp a, sp ≠ 0 → t.byteAt sp a = s.byteAt sp a) ∧ (∀ x, t.tagOf x = tagData) ∧
      t.flag R.MC_STATUS_INIT = false ∧ FieldsKept [R.MC_STATUS_INIT] s t)) ∧
  (∀ (p : Fin 6) (client : Fin 16) (wait : Nat) (errs : List SecErr) (s : State),
    (p.val = 0 ∨ p.val = 4 → s.mcHeld = false → s.goesFirst p (s.burstAsked p client) (4 - p) = true → exec (.portRequest p client wait errs) s = .next s) ∧
    (∀ n, s.goesFirst p n p = false ∧ (∀ q, s.asks q = [] → s.goesFirst p n q = false) ∧
      (s.asks 0 ≠ [] → s.asks 4 ≠ [] → s.panic = true → s.goesFirst 0 n 4 = decide (s.mem.panicLast = 0) ∧ s.goesFirst 4 n 0 = decide (s.mem.panicLast = 4) ∧
        s.goesFirst 3 n 0 = true ∧ s.goesFirst 3 n 4 = true) ∧
      (s.asks 4 ≠ [] → s.panic = false → s.mem.turn = 0 → n ≤ s.mem.left → s.goesFirst 0 n 4 = false) ∧
      (s.asks 4 ≠ [] → s.panic = false → s.mem.turn = 0 → s.mem.left < n → s.goesFirst 0 n 4 = true)) ∧
    (s.mcHeld = true → Ends (exec (.portRequest p client wait errs) s) fun t => t.mem = s.mem ∧ t.dac = s.dac ∧ t.fch = s.fch) ∧
    (s.mcHeld = false → p.val = 1 ∨ p.val = 2 ∨ p.val = 5 → Ends (exec (.portRequest p client wait errs) s) fun t =>
      t.f (R.MC_P_PANIC_WAIT p) = min (s.f (R.MC_P_PANIC_WAIT p) + wait) (2 ^ 64 - 1) ∧ FieldsKept [R.MC_P_PANIC_WAIT p] s t ∧ t = { s with regs := t.regs, sets := t.sets }) ∧
    (∀ x m, s.mcHeld = false → p.val = 0 → s.mem.stage = [x] → x.addr % 64 = 0 → x.bytes.length = 64 → m = ctlOf (x.addr / 64) →
      s.hasSecure 0 = false → s.isFenced (0x64 + m) = false → s.domState 12 ≠ dGated → s.domState 13 ≠ dGated → (s.mcN m).wq.length < 128 → (s.mcN m).scrub = none →
      s.goesFirst 0 64 4 = false → Ends (exec (.portRequest p client wait errs) s) fun t =>
        t.mem.turn = 0 ∧ t.mem.left = (if s.mem.turn = 0 ∧ 64 ≤ s.mem.left then s.mem.left else 256 * max 1 (s.f R.MC_WEIGHT_P0)) - 64 ∧
        (s.panic = true → t.mem.panicLast = 0) ∧ t.mem.stage = [] ∧ (t.mcN m).wq = (s.mcN m).wq ++ [{ sector := x.addr / 64, data := x.bytes, mask := List.replicate 64 true, poison := x.poison }] ∧
        t.f (R.MC_P_BYTES 0) = min (s.f (R.MC_P_BYTES 0) + 64) (2 ^ 64 - 1) ∧ t.f (R.MCM_WQ_LEVEL m) = (s.mcN m).wq.length + 1 ∧ BytesKept s t)) ∧
  (∀ (m : Fin 2) (s : State), (s.mcN m).scrub = none →
    (s.mcHeld = true ∨ (s.mcN m).wq = [] → exec (.writeQueueDrain m) s = .next s) ∧
    ∀ e rest, s.mcHeld = false → (s.mcN m).wq = e :: rest → e.sector < 2 ^ 29 → e.mask.length = 64 → e.data.length = 64 → Ends (exec (.writeQueueDrain m) s) fun t =>
      (t.mcN m).wq = rest ∧ t.f (R.MCM_WQ_LEVEL m) = rest.length % 2 ^ 8 ∧
      (∀ i, i < 64 → t.byteAt 0 (64 * e.sector + i) = if (e.mask[i]?).getD false = true then (e.data[i]?).getD 0 else s.byteAt 0 (64 * e.sector + i)) ∧
      (∀ sp a, a < 2 ^ 40 → (sp ≠ 0 ∨ a / 64 ≠ e.sector) → t.byteAt sp a = s.byteAt sp a) ∧
      t.tagOf e.sector = (if e.poison = true then tagPoison else if ∀ b ∈ e.mask, b = true then tagData else s.tagOf e.sector) ∧
      ∀ x, x ≠ e.sector → t.tagOf x = s.tagOf x) ∧
  (∀ (p sector : Nat) (err : Option SecErr) (scrub : Bool) (s : State), p < 6 →
    let hits := (s.mcN (ctlOf sector)).wq.filter (fun e => e.sector == sector)
    let r := s.readSector p sector err scrub
    (∀ e, hits.getLast? = some e → (∀ x ∈ hits, ∀ b ∈ x.mask, b = true) → r.2 = (e.data, e.poison) ∧ r.1.mem = s.mem ∧
      r.1.f (R.MCM_FWD (ctlOf sector)) = min (s.f (R.MCM_FWD (ctlOf sector)) + 1) (2 ^ 64 - 1)) ∧
    (hits = [] → err = none → r = (s, s.bytesAt 0 (64 * sector) 64, s.tagOf sector != tagData)) ∧
    (∀ e, hits = [] → err = some e → e.symbol = 127 → r.2.2 = true ∧ r.1.flag R.MC_STATUS_UE = true ∧ r.1.f (R.MCM_ERR_ADDR_SECTOR (ctlOf sector)) = sector % 2 ^ 29 ∧
      r.1.flag (R.MCM_ERR_INFO_UE (ctlOf sector)) = true ∧ (scrub = false → ∃ w ∈ (r.1.mcN (ctlOf sector)).wq, w.sector = sector ∧ w.poison = true ∧ w.data = r.2.1) ∧
      (scrub = true → ∃ w, (r.1.mcN (ctlOf sector)).scrub = some w ∧ w.sector = sector ∧ w.poison = true))) ∧
  (∀ s : State,
    let owed := s.f R.MC_STATUS_OWED
    let more := fun (x : Fld) (k : Nat) (t : State) => t.f x = min (s.f x + k) (2 ^ x.wd - 1)
    let forced := fun (t : State) => t.flag R.MC_STATUS_FORCING = false ∧ more (R.MCM_REFRESHES 0) 5 t ∧ more (R.MCM_REFRESHES 1) 5 t ∧
      more (R.MCM_FORCED 0) 1 t ∧ more (R.MCM_FORCED 1) 1 t ∧ t.f R.MC_STATUS_OWED = owed ∧ t = { s with regs := t.regs, sets := t.sets }
    (s.mcOff = true → exec .refreshDue s = .next s) ∧
    (s.mcOff = false → s.panic = false → s.flag R.MC_STATUS_FORCING = false → Ends (exec .refreshDue s) fun t =>
      more (R.MCM_REFRESHES 0) 1 t ∧ more (R.MCM_REFRESHES 1) 1 t ∧ FieldsKept [R.MCM_REFRESHES 0, R.MCM_REFRESHES 1] s t ∧ t = { s with regs := t.regs, sets := t.sets }) ∧
    (s.mcOff = false → (s.flag R.MC_STATUS_FORCING = true ∨ (s.panic = true ∧ owed < 4)) → Ends (exec .refreshDue s) fun t =>
      t.f R.MC_STATUS_OWED = min 4 (owed + 1) ∧ more (R.MCM_POSTPONED 0) 1 t ∧ more (R.MCM_POSTPONED 1) 1 t ∧
      FieldsKept [R.MC_STATUS_OWED, R.MCM_POSTPONED 0, R.MCM_POSTPONED 1] s t ∧ t = { s with regs := t.regs, sets := t.sets }) ∧
    (s.mcOff = false → s.panic = true → s.flag R.MC_STATUS_FORCING = false → 4 ≤ owed → Ends (exec .refreshDue s) fun t =>
      t.flag R.MC_STATUS_FORCING = true ∧ t.f R.MC_STATUS_OWED = 0 ∧ t.mem.forcedAt = s.clk.elapsed ∧ FieldsKept [R.MC_STATUS_FORCING, R.MC_STATUS_OWED] s t) ∧
    ((s.panic = true ∨ s.flag R.MC_STATUS_FORCING = true ∨ owed = 0) → exec .owedRefreshIssue s = .next s) ∧
    (s.panic = false → s.flag R.MC_STATUS_FORCING = false → owed ≠ 0 → Ends (exec .owedRefreshIssue s) fun t =>
      t.f R.MC_STATUS_OWED = owed - 1 ∧ more (R.MCM_REFRESHES 0) 1 t ∧ more (R.MCM_REFRESHES 1) 1 t ∧
      FieldsKept [R.MC_STATUS_OWED, R.MCM_REFRESHES 0, R.MCM_REFRESHES 1] s t ∧ t = { s with regs := t.regs, sets := t.sets }) ∧
    let ready := s.stageLevel ≤ 458752 ∧ ∀ n, n < 4 → s.playing n = true → 98304 ≤ 2 * (s.dacN n).prefetch.length
    let late := s.mem.forcedAt + 6000 * 2 ^ 48 ≤ s.clk.elapsed
    (s.flag R.MC_STATUS_FORCING = false ∨ ¬ ready → exec .forcedRefreshStart s = .next s) ∧
    (s.flag R.MC_STATUS_FORCING = true → ready → Ends (exec .forcedRefreshStart s) fun t => forced t ∧
      t.f (R.MCM_LATE_FORCED 0) = s.f (R.MCM_LATE_FORCED 0)) ∧
    (s.flag R.MC_STATUS_FORCING = false ∨ ¬ late → exec .forcedRefreshTimeout s = .next s) ∧
    (s.flag R.MC_STATUS_FORCING = true → late → Ends (exec .forcedRefreshTimeout s) fun t => forced t ∧
      more (R.MCM_LATE_FORCED 0) 1 t ∧ more (R.MCM_LATE_FORCED 1) 1 t)) ∧
  (∀ (m : Fin 2) (x : BitVec 16) (s : State), Ends (exec (.stackTemperature m x) s) fun t =>
    let other := s.fi (R.MCM_TEMP_TEMP (1 - m.val))
    t.f (R.MCM_TEMP_TEMP m) = x.toNat ∧ (85 * 256 < x.toInt ∨ 85 * 256 < other → t.flag R.MC_STATUS_HOT = true) ∧
    (x.toInt ≤ 83 * 256 → other ≤ 83 * 256 → t.flag R.MC_STATUS_HOT = false) ∧
    (x.toInt ≤ 85 * 256 → other ≤ 85 * 256 → (83 * 256 < x.toInt ∨ 83 * 256 < other) → t.f R.MC_STATUS_HOT = s.f R.MC_STATUS_HOT) ∧
    FieldsKept [R.MCM_TEMP_TEMP m, R.MC_STATUS_HOT] s t ∧ t = { s with regs := t.regs, sets := t.sets }) ∧
  (∀ (m : Fin 2) (errs : List SecErr) (s : State),
    (s.flag R.MC_CTRL_SCRUB_EN = false ∨ s.mcHeld = true ∨ s.isRunning (0x64 + m) = false → exec (.scrubRead m errs) s = .next s) ∧
    ∀ x, s.flag R.MC_CTRL_SCRUB_EN = true → s.mcHeld = false → s.isRunning (0x64 + m) = true → scrubSector m (s.f (R.MCM_SCRUB_ADDR_SECTOR m)) = some x →
      (∀ e ∈ (s.mcN m).wq, e.sector ≠ x) →
      (∀ e ∈ errs, e.at_ ≠ 0) ∨ (∃ e, errs = [e] ∧ e.at_ = 0 ∧ e.symbol < 127) → Ends (exec (.scrubRead m errs) s) fun t =>
        ctlOf x = m ∧ t.f (R.MCM_SCRUB_ADDR_SECTOR m) = (scrubSector m (x + 1)).getD 0 ∧ BytesKept s t ∧ t.mem.tag = s.mem.tag ∧ (t.mcN m).wq = (s.mcN m).wq ∧
        t.f (R.MCM_SCRUB_PASSES m) = min (s.f (R.MCM_SCRUB_PASSES m) + if scrubSector m (x + 1) = none then 1 else 0) (2 ^ 32 - 1) ∧
        (errs ≠ [] → (∃ e ∈ errs, e.at_ = 0) → t.f (R.MCM_CE m) = min (s.f (R.MCM_CE m) + 1) (2 ^ 32 - 1) ∧ t.f (R.MCM_ERR_ADDR_SECTOR m) = x ∧
          (t.mcN m).scrub = some { sector := x, data := s.bytesAt 0 (64 * x) 64, mask := List.replicate 64 true, poison := s.tagOf x != tagData })) ∧
  ∀ (k : Fin 16) (f : Fetch) (s : State),
    let base := f.entry.param 0
    let len := f.entry.param 1
    s.Starts k f true false [0x7FFFFFFFF, 0xFFFFFFFFF] →
      (base % 256 ≠ 0 ∨ len % 256 ≠ 0 ∨ len = 0 ∨ 2 ^ 35 < base + len → Ends (exec (.memClear k f) s) fun t => Completed s t k f 0x11 0 ∧ t.mem = s.mem) ∧
      (base % 256 = 0 → len % 256 = 0 → len ≠ 0 → base + len ≤ 2 ^ 35 →
        (s.rangeInUse base len = true → Ends (exec (.memClear k f) s) fun t => Completed s t k f 0x22 0 ∧ t.mem = s.mem) ∧
        (s.rangeInUse base len = false → (∀ c ∈ s.host.longs, c.entry.opcode ≠ 0x50) → (∀ m, m < 2 → s.isFenced (0x64 + m) = false ∧ (s.mcN m).wq = []) →
          s.mcHeld = false → s.hasSecure 0 = false → Ends (exec (.memClear k f) s) fun t =>
            let n := min (2 ^ 20) len
            (∀ i, i < n → t.byteAt 0 (base + i) = 0 ∧ t.tagOf ((base + i) / 64) = tagData) ∧
            (∀ sp a, a < 2 ^ 40 → (sp ≠ 0 ∨ a < base ∨ base + n ≤ a) → t.byteAt sp a = s.byteAt sp a) ∧
            (len ≤ 2 ^ 20 → Completed s t k f 0 len) ∧ (2 ^ 20 < len → Continues s t k f)))

/-- NOP completes OK, BAD_PARAM with a parameter that is not zero, and an unknown opcode BAD_OPCODE. CANCEL ends a long command below its limit with CANCELLED and its progress, or an announced command that has not started, and reports 1; it reports 0 when it finds nothing, and BAD_WORLD from a non-secure ring for a secure one. A round of the coachman advances MEM_CLEAR by at most 1 MiB and leaves commands that wait for events. A doorbell within the ring moves TAIL or CHEAD, a larger one sets BAD_DB, and waiting completions take freed entries. Enabling sets the pointers to 0 and PHASE to 1, or refuses with BAD_PARAM; disabling ends at once, ends MEM_CLEAR without a completion, or drains. A command read that fails halts its ring. PERST_N and a hot reset fence the endpoint and disable every ring and coach; a function reset does so in its own world only; training ends, within the limits of HI_LINK_CFG and with Flit mode at Gen6 only, with the endpoint RUNNING again. -/
def Obligations.RingsAndEndpoint : Prop :=
  (∀ (k : Fin 16) (f : Fetch) (s : State),
    let any : List Nat := List.replicate 7 (2 ^ 64 - 1)
    let quiet := fun (status : Nat) => Ends (exec (.nopCommand k f) s) fun t => Completed s t k f status 0 ∧
      FieldsKept [R.HI_RING_PTR_HEAD k, R.HI_RING_CPTR_CTAIL k, R.HI_RING_CPTR_PHASE k] s t ∧ t = { s with regs := t.regs, sets := t.sets, host := t.host, out := t.out }
    (f.entry.opcode = 1 → s.Starts k f false false [] → quiet 0x00) ∧
    (f.entry.opcode = 1 → s.Starts k f false false any → f.entry.clean [] = false → quiet 0x11) ∧
    (f.entry.opcode.toNat ∉ opcodes → s.Starts k f false false any → quiet 0x10)) ∧
  (∀ (k : Fin 16) (f : Fetch) (s : State),
    let r := f.entry.param 0 % 16
    let tag := f.entry.param 0 / 2 ^ 16 % 2 ^ 16
    let here := fun (status steps result : Nat) (t : State) =>
      let a := s.f (R.HI_RING_CBASE r) + 16 * s.f (R.HI_RING_CPTR_CTAIL r)
      .hostWrite (a + 4) (leBytes 2 steps ++ leBytes 2 (s.f (R.HI_RING_PTR_HEAD r)) ++ leBytes 8 result) ∈ t.out ∧
      .hostWrite a (leBytes 2 tag ++ leBytes 1 status ++ leBytes 1 (s.f (R.HI_RING_CPTR_PHASE r))) ∈ t.out
    s.Starts k f false false [0xFFFF000F] →
    (s.ringSecure r = true → s.ringSecure k = false → Ends (exec (.cancel k f) s) fun t => Completed s t k f 0x12 0 ∧ t.host.longs = s.host.longs ∧ t.host.defs = s.host.defs) ∧
    ((s.ringSecure r = true → s.ringSecure k = true) → r ≠ k.val →
      ((∀ c ∈ s.host.longs, c.ring = r → c.entry.tag.toNat ≠ tag) → (s.f (R.HI_RING_STATUS_STATE r) ≠ 1 ∨ s.f (R.HI_RING_PTR_HEAD r) = s.f (R.HI_RING_PTR_TAIL r)) →
        Ends (exec (.cancel k f) s) fun t => Completed s t k f 0x00 0 ∧
          FieldsKept [R.HI_RING_PTR_HEAD k, R.HI_RING_CPTR_CTAIL k, R.HI_RING_CPTR_PHASE k] s t ∧ t.host.longs = s.host.longs ∧ t.host.defs = s.host.defs) ∧
      (s.f (R.HI_RING_STATUS_STATE r) = 1 → s.cplFull r = false → (∀ w ∈ s.host.waiting, w.ring ≠ r) →
        (∀ c, s.host.longs = [c] → c.ring = r → c.entry.tag.toNat = tag → c.entry.opcode = 0x50 → c.stopped = false →
          Ends (exec (.cancel k f) s) fun t => Completed s t k f 0x00 1 ∧ t.host.longs = [] ∧ t.mem = s.mem ∧ here 0x70 (min c.steps 0xFFFF) c.pos t) ∧
        (∀ bytes, s.host.longs = [] → s.host.defs = [] → f.read 0 = some bytes → leAt bytes 4 2 = tag → s.cmdSize r ≤ 2 ^ 12 →
          s.f (R.HI_RING_PTR_HEAD r) < s.cmdSize r → s.f (R.HI_RING_PTR_TAIL r) < s.cmdSize r → s.f (R.HI_RING_PTR_HEAD r) ≠ s.f (R.HI_RING_PTR_TAIL r) →
          Ends (exec (.cancel k f) s) fun t => Completed s t k f 0x00 1 ∧ here 0x70 0 0 t ∧
            t.f (R.HI_RING_PTR_HEAD r) = (s.f (R.HI_RING_PTR_HEAD r) + 1) % s.cmdSize r)))) ∧
  (∀ s : State,
    (s.isRunning 0 = false ∨ (∀ c ∈ s.host.longs, c.entry.opcode = 0x61 ∨ c.entry.opcode = 0x62) → exec .coachmanRound s = .next s) ∧
    ∀ c, s.isRunning 0 = true → s.host.longs = [c] → c.entry.opcode = 0x50 → s.mcHeld = false → s.hasSecure 0 = false →
      (∀ m, m < 2 → (s.mcN m).wq = []) → c.entry.param 0 % 256 = 0 → c.entry.param 1 % 256 = 0 → c.pos % 256 = 0 → c.pos < c.entry.param 1 →
      c.entry.param 0 + c.entry.param 1 ≤ 2 ^ 35 → Ends (exec .coachmanRound s) fun t =>
        let a := c.entry.param 0 + c.pos
        let n := min (2 ^ 20) (c.entry.param 1 - c.pos)
        (∀ i, i < n → t.byteAt 0 (a + i) = 0 ∧ t.tagOf ((a + i) / 64) = tagData) ∧
        (∀ sp i, i < 2 ^ 40 → (sp ≠ 0 ∨ i < a ∨ a + n ≤ i) → t.byteAt sp i = s.byteAt sp i) ∧
        t.host.longs = if c.pos + n = c.entry.param 1 then [] else [{ c with pos := c.pos + n, steps := c.steps + 1 }]) ∧
  (∀ (pf : Fin 2) (k : Fin 16) (v : BitVec 32) (s : State),
    let serves := s.f R.ID_BOOT_STAGE = 7 ∧ (pf.val = 1 → s.flag R.SEC_STATUS_PF1_EN = true) ∧ s.isRunning 0x66 = true
    let st := s.f (R.HI_RING_STATUS_STATE k)
    let crosses := pf.val = 0 ∧ s.ringSecure k = true
    let bad := fun (c : Instr) => Ends (exec c s) fun t => t.flag (R.HI_RING_STATUS_BAD_DB k) = true ∧ FieldsKept [R.HI_RING_STATUS_BAD_DB k] s t ∧ t = { s with regs := t.regs, sets := t.sets }
    let refused := fun (c : Instr) => Ends (exec c s) fun t => t.f R.SEC_REF_COUNT = min (s.f R.SEC_REF_COUNT + 1) (2 ^ 32 - 1) ∧
      (∀ o, 0x601000 ≤ o → o < 0x601400 → t.word o = s.word o) ∧ t.host.waiting = s.host.waiting
    let drops := ¬ serves ∨ (¬ crosses ∧ st ≠ 1 ∧ st ≠ 2)
    (drops → exec (.cmdTail pf k v) s = .next s ∧ exec (.cplHead pf k v) s = .next s) ∧
    (serves → crosses → refused (.cmdTail pf k v) ∧ refused (.cplHead pf k v)) ∧
    (serves → ¬ crosses → st = 1 ∨ st = 2 →
      (s.cmdSize k ≤ v.toNat → bad (.cmdTail pf k v)) ∧ (s.cplSize k ≤ v.toNat → bad (.cplHead pf k v)) ∧
      (v.toNat < s.cmdSize k → Ends (exec (.cmdTail pf k v) s) fun t =>
        t.f (R.HI_RING_PTR_TAIL k) = v.toNat % 2 ^ 12 ∧ FieldsKept [R.HI_RING_PTR_TAIL k] s t ∧ t = { s with regs := t.regs, sets := t.sets }) ∧
      (v.toNat < s.cplSize k → (∀ w ∈ s.host.waiting, w.ring ≠ k.val) → Ends (exec (.cplHead pf k v) s) fun t =>
        t.f (R.HI_RING_CPTR_CHEAD k) = v.toNat % 2 ^ 12 ∧ t.flag (R.HI_RING_STATUS_CPL_FULL k) = false ∧
        FieldsKept [R.HI_RING_CPTR_CHEAD k, R.HI_RING_STATUS_CPL_FULL k] s t ∧ t = { s with regs := t.regs, sets := t.sets }) ∧
      (∀ w, v.toNat < s.cplSize k → s.cplSize k ≤ 2 ^ 12 → s.host.waiting = [w] → w.ring = k.val → s.hostOff = false →
        (s.f (R.HI_RING_CPTR_CTAIL k) + 1) % s.cplSize k ≠ v.toNat → Ends (exec (.cplHead pf k v) s) fun t =>
          let a := s.f (R.HI_RING_CBASE k) + 16 * s.f (R.HI_RING_CPTR_CTAIL k)
          t.host.waiting = [] ∧ t.flag (R.HI_RING_STATUS_CPL_FULL k) = false ∧ t.f (R.HI_RING_CPTR_CHEAD k) = v.toNat ∧
          t.f (R.HI_RING_CPTR_CTAIL k) = (s.f (R.HI_RING_CPTR_CTAIL k) + 1) % s.cplSize k ∧
          .hostWrite a (leBytes 2 w.tag.toNat ++ leBytes 1 w.status ++ leBytes 1 (s.f (R.HI_RING_CPTR_PHASE k))) ∈ t.out))) ∧
  (∀ (pf : Fin 2) (k : Fin 16) (v : BitVec 32) (s : State),
    let o := 0x601000 + 0x40 * k.val
    let ringWords := fun i => o ≤ i ∧ i < o + 0x40
    let sizes := 4 ≤ s.f (R.HI_RING_SIZE_CMD_LOG2 k) ∧ s.f (R.HI_RING_SIZE_CMD_LOG2 k) ≤ 12 ∧ 4 ≤ s.f (R.HI_RING_SIZE_CPL_LOG2 k) ∧ s.f (R.HI_RING_SIZE_CPL_LOG2 k) ≤ 12 ∧
      s.f (R.HI_RING_BASE k) % 64 = 0 ∧ s.f (R.HI_RING_CBASE k) % 16 = 0
    let st := s.f (R.HI_RING_STATUS_STATE k)
    (s.Opens pf o → s.flag (R.HI_RING_CTRL_EN k) = false → st = 0 →
      (sizes → Ends (exec (.ringEnable pf k v) s) fun t => t.flag (R.HI_RING_CTRL_EN k) = true ∧ t.f (R.HI_RING_STATUS_STATE k) = 1 ∧
        t.f (R.HI_RING_PTR_HEAD k) = 0 ∧ t.f (R.HI_RING_PTR_TAIL k) = 0 ∧ t.f (R.HI_RING_CPTR_CTAIL k) = 0 ∧ t.f (R.HI_RING_CPTR_CHEAD k) = 0 ∧
        t.f (R.HI_RING_CPTR_PHASE k) = 1 ∧ WordsKept ringWords s t ∧ t.out = s.out) ∧
      (¬ sizes → Ends (exec (.ringEnable pf k v) s) fun t => t.flag (R.HI_RING_CTRL_EN k) = false ∧ t.f (R.HI_RING_STATUS_STATE k) = 0 ∧
        t.f (R.HI_RING_STATUS_CAUSE k) = 0x11 ∧ WordsKept ringWords s t ∧ t.host = s.host)) ∧
    (s.Reaches pf o → s.cfgHolds o = false → s.flag (R.HI_RING_CTRL_EN k) = true → st = 1 ∨ st = 2 →
      (s.ringBusy k = false → Ends (exec (.ringDisable pf k v) s) fun t => t.flag (R.HI_RING_CTRL_EN k) = false ∧ t.f (R.HI_RING_STATUS_STATE k) = 0 ∧
        t.flag (R.HI_RING_STATUS_CPL_FULL k) = false ∧ t.host.waiting = s.host.waiting.filter (fun w => w.ring != k.val) ∧ WordsKept ringWords s t ∧ t.out = s.out) ∧
      (∀ c, s.host.longs = [c] → s.host.defs = [] → c.ring = k.val → Ends (exec (.ringDisable pf k v) s) fun t => t.flag (R.HI_RING_CTRL_EN k) = false ∧
        (c.entry.opcode = 0x50 → t.f (R.HI_RING_STATUS_STATE k) = 0 ∧ t.host.longs = [] ∧ t.out = s.out ∧ t.mem = s.mem) ∧
        (c.entry.opcode = 0x43 → t.f (R.HI_RING_STATUS_STATE k) = 3 ∧ t.host.longs = [{ c with stopped := true }] ∧ t.out = s.out ∧ t.mem = s.mem)))) ∧
  (∀ (n : Fin 64) (d : HostRead) (bs : List (BitVec 8)) (s : State),
    exec (.hostReadCompletion 0 n (some bs)) s = .next s ∧
    (n.val < 16 → s.f (R.HI_RING_STATUS_STATE n) = 1 → s.f (R.HI_RING_PTR_HEAD n) ≠ s.f (R.HI_RING_PTR_TAIL n) →
      Ends (exec (.hostReadCompletion 0 n none) s) fun t => t.f (R.HI_RING_STATUS_STATE n) = 2 ∧ t.f (R.HI_RING_STATUS_CAUSE n) = 0x42 ∧
        t.f (R.HI_RING_PTR_HEAD n) = s.f (R.HI_RING_PTR_HEAD n) ∧ t.f (R.HI_RING_PTR_TAIL n) = s.f (R.HI_RING_PTR_TAIL n) ∧ t.mem = s.mem) ∧
    exec (.hostReadCompletion 1 n d) s = exec (.descriptorProcess n d) s ∧
    (s.ceReady n = false → exec (.hostReadCompletion 2 n d) s = .next s)) ∧
  (∀ s : State,
    (s.isRunning 0x66 = false → exec .hotReset s = .next s) ∧ exec (.perstN true) s = exec .hotReset s ∧
    (s.f R.PWR_STATUS_STATE ≠ 3 → exec (.perstN false) s = .next s) ∧
    (s.f R.PWR_STATUS_STATE = 3 → s.pwr.waking = false → s.pwr.dark = false → s.flag (R.PWR_WAKE_EN_SRC.bit 4) = true →
      Ends (exec (.perstN false) s) fun t => t.f R.PWR_LASTWAKE_CODE = 4 ∧ t.ptimeAt (R.PWR_LASTWAKE_PTIME 0).off = s.now / 2 ^ 16 * 2 ^ 16 % ptimeSpan ∧ t.pwr.waking = true ∧
        t.pwr.vcore = s.f R.PWR_VCORE_RUN_MV) ∧
    (s.isRunning 0x66 = true → s.host.longs = [] → s.host.defs = [] → Ends (exec .hotReset s) fun t =>
      t.blk 0x66 = .fenced ∧ t.epoch 0x66 = (s.epoch 0x66 + 1) % 256 ∧ t.word R.HI_LINK.off = 0 ∧
      (∀ k, k < 16 → t.flag (R.HI_RING_CTRL_EN k) = false ∧ (s.f (R.HI_RING_STATUS_STATE k) = 1 ∨ s.f (R.HI_RING_STATUS_STATE k) = 2 → t.f (R.HI_RING_STATUS_STATE k) = 0)) ∧
      (∀ c, c < 64 → (t.ceState c = 0 ∨ t.ceState c = 3) ∧ (s.ceState c ≠ 0 → t.flag (R.CE_CTRL_EN c) = false)) ∧
      WordsKept (fun o => (0x100 ≤ o ∧ o < 0x300) ∨ (0x580000 ≤ o ∧ o < 0x584000) ∨ (0x600000 ≤ o ∧ o < 0x602000)) s t ∧
      t = { s with regs := t.regs, sets := t.sets, out := t.out, host := t.host, co := t.co, fence := t.fence })) ∧
  (∀ (pf : Fin 2) (s : State),
    (pf.val = 1 → s.flag R.SEC_STATUS_PF1_EN = false → exec (.flr pf) s = .next s) ∧
    ((pf.val = 1 → s.flag R.SEC_STATUS_PF1_EN = true) → s.host.longs = [] → s.host.defs = [] → Ends (exec (.flr pf) s) fun t =>
      (∀ k, k < 16 → if s.ringSecure k = (pf.val == 1) then t.flag (R.HI_RING_CTRL_EN k) = false else
        ∀ o, 0x601000 + 0x40 * k ≤ o → o < 0x601040 + 0x40 * k → t.word o = s.word o) ∧
      (∀ c, c < 64 → if s.blockSecure (0x80 + c) = (pf.val == 1) then t.ceState c = 0 ∨ t.ceState c = 3 else t.coN c = s.coN c ∧
        ∀ o, 0x581000 + 0x40 * c ≤ o → o < 0x581040 + 0x40 * c → t.word o = s.word o) ∧
      t = { s with regs := t.regs, sets := t.sets, out := t.out, host := t.host, co := t.co, fence := t.fence })) ∧
  ∀ (up : Bool) (gen : Fin 16) (width : Fin 32) (rev flit : Bool) (s : State),
    let g := s.f R.HI_LINK_CFG_MAX_GEN
    let w := s.f R.HI_LINK_CFG_MAX_WIDTH
    (s.blk 0x66 = .gated ∨ s.blk 0x66 = .waking → exec (.pcieLinkTraining up gen width rev flit) s = .next s) ∧
    (s.blk 0x66 ≠ .gated → s.blk 0x66 ≠ .waking → Ends (exec (.pcieLinkTraining up gen width rev flit) s) fun t =>
      t.flag R.HI_LINK_UP = up ∧ t.f R.HI_LINK_GEN = (if up = true then min gen.val (if 1 ≤ g ∧ g ≤ 6 then g else 6) else 0) ∧
      t.f R.HI_LINK_WIDTH = (if up = true then min width.val (if w = 1 ∨ w = 2 ∨ w = 4 ∨ w = 8 ∨ w = 16 then w else 16) else 0) ∧
      t.flag R.HI_LINK_REVERSED = (up && rev) ∧ (t.flag R.HI_LINK_FLIT = true ↔ up = true ∧ flit = true ∧ t.f R.HI_LINK_GEN = 6) ∧
      (up = true → s.blk 0x66 = .fenced → s.repliesOut 0x66 = false → t.blk 0x66 = .running) ∧ (∀ b, b ≠ 0x66 → t.blk b = s.blk b) ∧
      WordsKept (fun o => o = R.HI_LINK.off ∨ (0x250 ≤ o ∧ o < 0x258)) s t ∧ t = { s with regs := t.regs, sets := t.sets, fence := t.fence })

/-- A doorbell within the ring moves TAIL and wakes a WAITING coach; a larger one sets BAD_DB. EN = 1 starts the coach at index 0, or refuses with BAD_PARAM or BAD_WORLD; EN = 0 returns the descriptor in progress with TARGET_RESET, and beside RESET it abandons that descriptor first. STOP waits for the boundary of a descriptor and is discarded in the control cycle of a RESET, START continues a stopped coach, RESET restarts the descriptor with a new epoch, and on SQ_OUT counts its bytes lost. A descriptor that cannot be read, is faulty, or is the ninth pure link halts the coach; one that is not owned makes it wait; a pure link is followed; any other becomes the current one. A grant goes to a ready coach of the level that its number serves, else of the highest level that has one, the first after the last served. A burst moves at most a page of host bytes; a full descriptor is written back. Host data that do not come halt the coach; the read-back and the idle queue close a descriptor; an assembled SQ_IN packet enters its queue once there is room. -/
def Obligations.Coaches : Prop :=
  ∀ (c : Fin 64) (s : State),
    let x := s.coN c
    let st := s.ceState c
    let o := 0x581000 + 0x40 * c.val
    let mine := fun i => (o ≤ i ∧ i < o + 0x40) ∨ i = 0x580000 ∨ i = 0x580004
    let others := fun (t : State) => ∀ j, j ≠ c.val → t.coN j = s.coN j
    let wb := fun (d : CoDesc) (status : Nat) (t : State) =>
      let a := s.f (R.CE_RING_BASE c) + 32 * d.idx
      .hostWrite (a + 0x18) (leBytes 8 (status + (if d.pktEnd = true then 2 ^ 8 else 0) + (if d.loss = true then 2 ^ 9 else 0) + 2 ^ 32 * d.done)) ∈ t.out ∧
      .hostWrite (a + 0x0C) (leBytes 4 (d.ctl / 2 * 2)) ∈ t.out
    let closed := fun (d : CoDesc) (status : Nat) (t : State) => wb d status t ∧ (t.coN c).cur = none ∧ (t.coN c).readBack = false ∧
      t.f (R.CE_PTR_HEAD c) = s.nextIdx c d.idx d.ctl % 2 ^ 16 ∧ others t ∧ t.mem.bytes = s.mem.bytes
    let halted := fun (cause idx : Nat) (t : State) => t.ceState c = 5 ∧ t.f (R.CE_STATUS_CAUSE c) = cause ∧ t.flag (R.CE_HALTED.bit c) = true ∧
      t.f (R.CE_FAULT_IDX_INDEX c) = idx % 2 ^ 16 ∧ (t.coN c).cur = x.cur ∧ t.f (R.CE_PTR_HEAD c) = s.f (R.CE_PTR_HEAD c) ∧ others t ∧ t.mem = s.mem
    let noRb := fun (d : CoDesc) => bitOf d.ctl 4 = false ∧ (s.flag (R.CE_CTRL_RB_AUTO c) = false ∨ bitOf d.ctl 2 = false)
    (∀ (pf : Fin 2) (v : BitVec 32),
      let serves := s.f R.ID_BOOT_STAGE = 7 ∧ (pf.val = 1 → s.flag R.SEC_STATUS_PF1_EN = true) ∧ s.isRunning 0x66 = true
      let crosses := pf.val = 0 ∧ s.blockSecure (0x80 + c) = true
      (¬ serves → exec (.coachDoorbell pf c v) s = .next s) ∧
      (serves → crosses → Ends (exec (.coachDoorbell pf c v) s) fun t => t.f R.SEC_REF_COUNT = min (s.f R.SEC_REF_COUNT + 1) (2 ^ 32 - 1) ∧
        t.co = s.co ∧ ∀ i, mine i → t.word i = s.word i) ∧
      (serves → ¬ crosses → s.ceSize c ≤ v.toNat → Ends (exec (.coachDoorbell pf c v) s) fun t =>
        t.flag (R.CE_STATUS_BAD_DB c) = true ∧ FieldsKept [R.CE_STATUS_BAD_DB c] s t ∧ t = { s with regs := t.regs, sets := t.sets }) ∧
      (serves → ¬ crosses → v.toNat < s.ceSize c → Ends (exec (.coachDoorbell pf c v) s) fun t =>
        t.f (R.CE_PTR_TAIL c) = v.toNat % 2 ^ 16 ∧ t.ceState c = (if st = 2 then 1 else st) ∧
        FieldsKept [R.CE_PTR_TAIL c, R.CE_STATUS_STATE c, R.CE_HALTED.bit c] s t ∧ t = { s with regs := t.regs, sets := t.sets })) ∧
    (∀ (pf : Fin 2) (v : BitVec 32),
      let good := s.ceKind c < 6 ∧ (s.ceKind c = 5 → c.val = 63) ∧ 4 ≤ s.f (R.CE_CFG_LOG2 c) ∧ s.f (R.CE_CFG_LOG2 c) ≤ 16 ∧ s.f (R.CE_RING_BASE c) % 32 = 0
      let refused := fun (cause : Nat) => Ends (exec (.coachEnable pf c v) s) fun t => t.flag (R.CE_CTRL_EN c) = false ∧ t.ceState c = 0 ∧
        t.f (R.CE_STATUS_CAUSE c) = cause ∧ t.co = s.co ∧ WordsKept mine s t
      let on := s.Reaches pf o ∧ s.cfgHolds o = false ∧ s.flag (R.CE_CTRL_EN c) = true
      (s.Opens pf o → s.flag (R.CE_CTRL_EN c) = false → st = 0 →
        (s.ceCrosses c = true → refused 0x12) ∧ (s.ceCrosses c = false → ¬ good → refused 0x11) ∧
        (s.ceCrosses c = false → good → Ends (exec (.coachEnable pf c v) s) fun t => t.flag (R.CE_CTRL_EN c) = true ∧ t.ceState c = 1 ∧
          t.f (R.CE_PTR_HEAD c) = 0 ∧ t.f (R.CE_PTR_TAIL c) = 0 ∧ t.coN c = {} ∧ others t ∧ t.f (R.CE_CTRL_PRIO c) = (v.extractLsb' 4 2).toNat ∧
          t.f (R.CE_CTRL_VEC c) = (v.extractLsb' 8 8).toNat ∧ WordsKept mine s t ∧ t.out = s.out)) ∧
      (on → v.getLsbD 3 = true → st ≠ 0 → x.disabling = false → x.sqDescs = [] → Ends (exec (.coachDisable pf c v) s) fun t =>
        t.flag (R.CE_CTRL_EN c) = false ∧ (t.coN c).cur = none ∧ t.epoch (0x80 + c) = (s.epoch (0x80 + c) + 1) % 256 ∧ t.out = s.out ∧ others t ∧
        t.f (R.CE_PTR_HEAD c) = (match x.cur with | some d => d.idx % 2 ^ 16 | none => s.f (R.CE_PTR_HEAD c)) ∧
        if t.f (R.CE_PTR_HEAD c) = s.f (R.CE_PTR_TAIL c) then t.ceState c = 0 else t.ceState c = 3 ∧ (t.coN c).disabling = true) ∧
      (on → v.getLsbD 3 = false → s.hostOff = false →
        (∀ d, x.cur = some d → x.sqDescs = [] → Ends (exec (.coachDisable pf c v) s) fun t => t.flag (R.CE_CTRL_EN c) = false ∧ closed d 0x30 t ∧ (t.ceState c = 0 ∨ t.ceState c = 3)) ∧
        (x.cur = none → x.sqDescs = [] → Ends (exec (.coachDisable pf c v) s) fun t => t.flag (R.CE_CTRL_EN c) = false ∧ WordsKept mine s t ∧ t.out = s.out ∧ others t ∧
          if s.f (R.CE_PTR_HEAD c) = s.f (R.CE_PTR_TAIL c) then t.ceState c = 0 else t.ceState c = 3 ∧ (t.coN c).disabling = true)) ∧
      (on → v.getLsbD 0 = true →
        (x.resetAt = some s.clk.cycles → v.getLsbD 3 = false → v.getLsbD 2 = false → Ends (exec (.coachStop pf c v) s) fun t => t.ceState c = st ∧ t.co = s.co ∧ t.out = s.out) ∧
        (x.resetAt ≠ some s.clk.cycles → v.getLsbD 3 = false → Ends (exec (.coachStop pf c v) s) fun t => t.out = s.out ∧ others t ∧ WordsKept mine s t ∧
          (st = 1 ∨ st = 2 → ∀ d, x.cur = some d → t.ceState c = 3 ∧ t.coN c = { x with stop := true }) ∧
          (st = 1 ∨ st = 2 → x.cur = none → t.ceState c = 4 ∧ t.coN c = x) ∧ (st ≠ 1 → st ≠ 2 → t.ceState c = st ∧ t.coN c = x)) ∧
        (v.getLsbD 3 = false → v.getLsbD 1 = false → Ends (exec (.coachStart pf c v) s) fun t => t.out = s.out ∧ t.co = s.co ∧ WordsKept mine s t ∧
          t.ceState c = if st = 4 then 1 else st) ∧
        (st ≠ 0 → x.disabling = false → x.sqDescs = [] → Ends (exec (.coachReset pf c v) s) fun t =>
          t.ceState c = 1 ∧ t.epoch (0x80 + c) = (s.epoch (0x80 + c) + 1) % 256 ∧ others t ∧ t.mem = s.mem ∧ t.out = s.out ∧
          (x.cur = none → t.f (R.CE_PTR_HEAD c) = s.f (R.CE_PTR_HEAD c) ∧ t.coN c = { lossNext := x.lossNext, resetAt := some s.clk.cycles }) ∧
          ∀ d, x.cur = some d → t.f (R.CE_PTR_HEAD c) = d.idx % 2 ^ 16 ∧
            (s.ceKind c ≠ 2 → t.coN c = { lossNext := x.lossNext, resetAt := some s.clk.cycles } ∧ t.f (R.CE_LOST c) = s.f (R.CE_LOST c) ∧ t.sq = s.sq) ∧
            (s.ceKind c = 2 → t.coN c = { lossNext := true, resetAt := some s.clk.cycles } ∧ t.f (R.CE_LOST c) = min (s.f (R.CE_LOST c) + d.done) (2 ^ 64 - 1) ∧
              (∀ p rest, (s.sqN (d.dev % 32)).pkts = p :: rest → 0 < (s.sqN (d.dev % 32)).taken → (s.sqN (d.dev % 32)).taken < 64 * p.lines →
                (t.sqN (d.dev % 32)).pkts = rest ∧ (t.sqN (d.dev % 32)).taken = 0) ∧
              ((s.sqN (d.dev % 32)).taken = 0 → t.sq = s.sq))))) ∧
    (∀ desc, s.ceFetches c = false → exec (.descriptorProcess c desc) s = .next s) ∧
    (s.ceFetches c = true → x.disabling = false →
      Ends (exec (.descriptorProcess c none) s) (halted 0x42 (s.f (R.CE_PTR_HEAD c))) ∧
      ∀ bs : List (BitVec 8),
        let w8 := leAt bs 8 4
        let ctl := leAt bs 12 4
        let len := w8 % 2 ^ 25
        let dev := leAt bs 16 8
        let idx := s.f (R.CE_PTR_HEAD c)
        let owned := ctl % 2 = 1
        let faulty := s.descFaulty c len ctl dev (leAt bs 24 8) (w8 / 2 ^ 25 % 2 ^ 7) = true
        let d : CoDesc := { idx := idx, host := leAt bs 0 8, len := len, ctl := ctl, dev := dev, loss := x.lossNext }
        let pure_ := ctl / 2 % 2 = 1 ∧ len = 0
        (¬ owned → Ends (exec (.descriptorProcess c (some bs)) s) fun t => t.ceState c = 2 ∧ t.f (R.CE_NOTOWN c) = min (s.f (R.CE_NOTOWN c) + 1) (2 ^ 32 - 1) ∧
          t.flag (R.CE_STATUS_NOTOWN c) = true ∧ WordsKept mine s t ∧ t = { s with regs := t.regs, sets := t.sets }) ∧
        (owned → faulty → s.hostOff = false → Ends (exec (.descriptorProcess c (some bs)) s) fun t => wb d 0x11 t ∧ t.ceState c = 5 ∧ t.f (R.CE_STATUS_CAUSE c) = 0x11 ∧
          t.f (R.CE_PTR_HEAD c) = idx ∧ (t.coN c).cur = none ∧ others t ∧ t.mem = s.mem) ∧
        (owned → ¬ faulty → pure_ →
          (8 ≤ x.links → Ends (exec (.descriptorProcess c (some bs)) s) (halted 0x41 idx)) ∧
          (x.links < 8 → Ends (exec (.descriptorProcess c (some bs)) s) fun t => t.f (R.CE_PTR_HEAD c) = ctl / 2 ^ 16 % 2 ^ 16 ∧
            (t.coN c).links = x.links + 1 ∧ (t.coN c).cur = none ∧ (x.stop = true → t.ceState c = 4) ∧ (x.stop = false → t.ceState c = st) ∧ WordsKept mine s t ∧ t.out = s.out)) ∧
        (owned → ¬ faulty → ¬ pure_ → exec (.descriptorProcess c (some bs)) s = .next (s.setCo c { x with cur := some d, links := 0, lossNext := false }))) ∧
    ((∀ lv g, s.ceGrant = some (lv, g) → g < 64 ∧ s.ceReady g = true ∧ s.f (R.CE_CTRL_PRIO g) = lv ∧
      (∀ j, j < 64 → s.ceReady j = true → s.f (R.CE_CTRL_PRIO j) = lv →
        ((g : ℤ) - (s.arb.last[lv]?).getD 63 - 1) % 64 ≤ ((j : ℤ) - (s.arb.last[lv]?).getD 63 - 1) % 64) ∧
      ∀ j, j < 64 → s.ceReady j = true →
        (s.arb.grant = 5 * s.f (R.CE_CTRL_PRIO j) → 0 < s.f (R.CE_CTRL_PRIO j) → lv = s.f (R.CE_CTRL_PRIO j)) ∧ (lv ≤ s.f (R.CE_CTRL_PRIO j) ∨ (0 < lv ∧ s.arb.grant = 5 * lv))) ∧
     (s.ceGrant = none ↔ ∀ j, j < 64 → s.ceReady j = false)) ∧
    (∀ (data : HostRead) (errs : List SecErr) (parity : Bool), s.mcOff = false →
      (s.ceGrant = none → exec (.coachBurstGrant data errs parity) s = .next s) ∧
      ∀ lv d, s.ceGrant = some (lv, c.val) → x.cur = some d →
        let n := burstOf d
        let granted := fun (t : State) => t.arb = { grant := (s.arb.grant + 1) % 16, last := s.arb.last.set lv c } ∧ others t
        (s.ceKind c = 0 ∨ s.ceKind c = 3 → data = none → Ends (exec (.coachBurstGrant data errs parity) s) fun t => granted t ∧ halted 0x42 d.idx t) ∧
        (s.ceKind c = 1 → errs = [] → s.hasSecure 0 = false → s.isFenced 0x64 = false → s.isFenced 0x65 = false → (∀ m, m < 2 → (s.mcN m).wq = []) →
          d.dev + d.len ≤ 2 ^ 35 → (∀ k, s.tagOf k = tagData) → s.hostOff = false → s.domState 14 ≠ dGated → Ends (exec (.coachBurstGrant data errs parity) s) fun t =>
            granted t ∧ BytesKept s t ∧ .hostWrite (d.host + d.done) (s.bytesAt 0 (d.dev + d.done) n) ∈ t.out ∧
            t.f (R.CE_BYTES c) = min (s.f (R.CE_BYTES c) + n) (2 ^ 64 - 1) ∧
            (d.done + n < d.len → t.coN c = { x with cur := some { d with done := d.done + n } }) ∧
            (d.done + n = d.len → noRb d → closed { d with done := d.len } (if d.poison = true then 0x50 else 0) t) ∧
            (d.done + n = d.len → bitOf d.ctl 4 = true → t.coN c = { x with cur := some { d with done := d.len }, readBack := true })) ∧
        (∀ p rest, s.ceKind c = 2 → parity = false → (s.sqN (d.dev % 32)).pkts = p :: rest → s.hostOff = false → (s.sqN (d.dev % 32)).taken < 64 * p.lines →
          let q := d.dev % 32
          let k := (s.sqN q).taken
          let part := (p.bytes.drop k).take n
          Ends (exec (.coachBurstGrant data errs parity) s) fun t => granted t ∧ .hostWrite (d.host + d.done) part ∈ t.out ∧ t.mem = s.mem ∧
            (k + n < 64 * p.lines → (t.sqN q).pkts = p :: rest ∧ (t.sqN q).taken = k + n) ∧
            (64 * p.lines ≤ k + n → (t.sqN q).pkts = rest ∧ (t.sqN q).taken = 0) ∧
            (k + n < 64 * p.lines → d.done + n < d.len → t.coN c = { x with cur := some { d with done := d.done + n, pktEnd := false } }) ∧
            (64 * p.lines ≤ k + n → bitOf d.ctl 2 = true → noRb d →
              closed { d with done := d.done + (64 * p.lines - k), pktEnd := true } (if d.poison = true then 0x50 else 0) t))) ∧
    (∀ ok : Bool, (x.readBack = false ∨ x.cur = none → exec (.readBackReturn c ok) s = .next s) ∧
      ∀ d, x.readBack = true → x.cur = some d →
        (ok = true → s.hostOff = false → s.ceKind c ≠ 4 → Ends (exec (.readBackReturn c ok) s) (closed d (if d.poison = true then 0x50 else 0))) ∧
        (ok = false → Ends (exec (.readBackReturn c ok) s) (halted 0x42 d.idx))) ∧
    (∀ d, x.cur = some d →
      let y := s.sqN (d.dev % 32)
      let idle := st ≠ 5 ∧ s.ceKind c = 2 ∧ s.f (R.CE_CFG_CLOSE_US c) ≠ 0 ∧ d.done ≠ 0 ∧ x.readBack = false ∧ y.pkts = [] ∧ y.taken = 0 ∧
        y.emptyAt + s.f (R.CE_CFG_CLOSE_US c) * 1000 * 2 ^ 48 ≤ s.clk.elapsed
      (¬ idle → exec (.descriptorCloseTimeout c) s = .next s) ∧
      (idle → noRb d → s.hostOff = false → Ends (exec (.descriptorCloseTimeout c) s) (closed { d with pktEnd := true } (if d.poison = true then 0x50 else 0)))) ∧
    ((x.sqReady = false ∨ x.cur = none → exec (.sqInPacketEnter c) s = .next s) ∧
      ∀ d, x.sqReady = true → x.cur = some d → x.sqDescs = [] →
        let q := d.dev % 32
        let w := leAt x.sqin 0 4
        let p : SqPkt := { kind := 2, tcb := bitOf w 22, poison := bitOf w 21, index := leAt x.sqin 8 8, body := x.sqin.drop 16, time := s.now }
        (s.f (R.SQ_CFG_SRC q) = 2 → ((s.flag (R.SQ_STATUS_RUNNING q) = false ∧ x.sqLast = false) ∨ s.sqRoom q 2 p = false) → exec (.sqInPacketEnter c) s = .next s) ∧
        (s.hostOff = false → s.ceKind c = 3 → (s.flag (R.SQ_STATUS_RUNNING q) = true ∨ x.sqLast = true) → s.isFenced (0xC0 + q) = false →
          (s.f (R.SQ_CFG_SRC q) = 2 → s.sqRoom q 2 p = true → Ends (exec (.sqInPacketEnter c) s) fun t => closed d 0 t ∧ (t.coN c).sqin = [] ∧
            (t.sqN q).pkts = (s.sqN q).pkts ++ [{ p with num := (s.sqN q).num }]) ∧
          (s.f (R.SQ_CFG_SRC q) ≠ 2 → Ends (exec (.sqInPacketEnter c) s) fun t => closed d 0 t ∧ (t.coN c).sqin = [] ∧ (t.sqN q).pkts = (s.sqN q).pkts ∧
            t.flag (R.SQ_STATUS_DROP q) = true ∧ t.f (R.SQ_DROPS q) = min (s.f (R.SQ_DROPS q) + 1) (2 ^ 32 - 1))))

/-- A packet of the queue's producer with room enters it whole, with the next number; one without room, or of another producer, is dropped and counted. EN = 1 starts a queue that passes its checks, with the failing status otherwise. A flush waits for packet boundaries, then empties the queue, counts, and gives the discarded host frames their stamps. A received frame counts, and becomes a PTP record with its ingress stamp, a record of all frames, or is discarded; one whose FCS does not hold only counts, and a codeword that the PHY could not correct counts as well. A queue's next port is the named one with the fewest bytes waiting; a port serves its queues round-robin; a host frame leaves as it is, or is discarded when too long, and a packet that fits leaves in the template as one VITA packet. A timed frame leaves at its LAUNCH with its stamp, or when a port that was not free then becomes free. A context packet that is due leaves with its extension packet. A line change shows the first reason that holds the port down. A read of NT_TXTS0 takes the oldest stamp. -/
def Obligations.StreamQueuesAndEthernet : Prop :=
  (∀ (q : Fin 32) (prod : Fin 5) (poison : Bool) (index : BitVec 64) (body : List (BitVec 8)) (s : State),
    let p : SqPkt := { kind := prod, poison := poison, index := index.toNat, body := body, time := s.now }
    let x := s.sqN q
    let o := exec (.sqPacketWrite q prod poison index body) s
    (prod.val = 4 → s.slotOfQueue q = none → o = .next s) ∧
    (prod.val ≠ 4 →
      ((s.flag (R.SQ_STATUS_RUNNING q) = false ∧ x.rawOn = false) ∨ s.isFenced (0xC0 + q) = true → o = .next s) ∧
      (s.flag (R.SQ_STATUS_RUNNING q) = true → s.isFenced (0xC0 + q) = false →
        (s.f (R.SQ_CFG_SRC q) = prod.val → body.length ≤ 262128 → s.sqLevel q + p.lines ≤ 4096 → Ends o fun t =>
          t.sqN q = { x with pkts := x.pkts ++ [{ p with num := x.num }], num := (x.num + 1) % 2 ^ 32 } ∧ (∀ j, j ≠ q.val → t.sqN j = s.sqN j) ∧
          t.sqLevel q = s.sqLevel q + (body.length + 79) / 64 ∧ t.f (R.SQ_PKTS q) = min (s.f (R.SQ_PKTS q) + 1) (2 ^ 64 - 1) ∧
          (t.flag (R.SQ_STATUS_FULL q) = true ↔ t.sqLevel q = 4096) ∧
          FieldsKept [R.SQ_PTR_WPTR q, R.SQ_PKTS q, R.SQ_STATUS_FULL q, R.SQ_PEAK_LINES q] s t ∧ t = { s with regs := t.regs, sets := t.sets, sq := t.sq }) ∧
        (s.sqRoom q prod p = false → Ends o fun t => t.flag (R.SQ_STATUS_DROP q) = true ∧ (t.sqN q).pkts = x.pkts ∧ (t.sqN q).loss = true ∧
          t.f (R.SQ_DROPS q) = min (s.f (R.SQ_DROPS q) + if s.f (R.SQ_CFG_SRC q) ≠ prod.val ∨ prod.val = 1 then 1 else 0) (2 ^ 32 - 1) ∧
          FieldsKept [R.SQ_STATUS_DROP q, R.SQ_DROPS q] s t ∧ t = { s with regs := t.regs, sets := t.sets, sq := t.sq })))) ∧
  (∀ (pf : Fin 2) (q : Fin 32) (v : BitVec 32) (s : State),
    let mine := fun i => 0x584000 + 0x40 * q.val ≤ i ∧ i < 0x584040 + 0x40 * q.val
    s.Opens pf (0x584004 + 0x40 * q) →
    (s.flag (R.SQ_CTRL_EN q) = false → v.getLsbD 1 = false → Ends (exec (.sqEnable pf q v) s) fun t =>
      t.f (R.SQ_STATUS_RESULT q) = s.sqChecks q % 2 ^ 8 ∧ (t.flag (R.SQ_CTRL_EN q) = true ↔ s.sqChecks q = 0) ∧
      (s.sqChecks q = 0 → t.flag (R.SQ_STATUS_RUNNING q) = true ∧ (t.sqN q).raw = []) ∧
      (s.sqChecks q ≠ 0 → t.f (R.SQ_STATUS_RUNNING q) = s.f (R.SQ_STATUS_RUNNING q) ∧ t.sq = s.sq) ∧
      (t.sqN q).pkts = (s.sqN q).pkts ∧ WordsKept mine s t ∧ t.out = s.out) ∧
    (s.flag (R.SQ_CTRL_EN q) = v.getLsbD 0 → Ends (exec (.sqFlush pf q v) s) fun t =>
      t.flag (R.SQ_STATUS_FLUSHING q) = true ∧ t.flag (R.SQ_CTRL_FLUSH q) = true ∧ t.flag (R.SQ_CTRL_EN q) = s.flag (R.SQ_CTRL_EN q) ∧
      t.sq = s.sq ∧ WordsKept mine s t ∧ t.out = s.out)) ∧
  (∀ (q : Fin 32) (s : State),
    let x := s.sqN q
    let acts := s.flag (R.SQ_STATUS_FLUSHING q) = true ∧ x.taken = 0 ∧ x.raw = [] ∧ s.sqMid q = false
    (¬ acts → exec (.flushAct q) s = .next s) ∧
    (acts → Ends (exec (.flushAct q) s) fun t => (t.sqN q).pkts = [] ∧ t.sqEmpty q = true ∧ t.flag (R.SQ_STATUS_FLUSHING q) = false ∧
      t.flag (R.SQ_CTRL_FLUSH q) = false ∧ t.f (R.SQ_FLUSHED q) = min (s.f (R.SQ_FLUSHED q) + x.pkts.length) (2 ^ 32 - 1) ∧
      (∀ j, j ≠ q.val → t.sqN j = s.sqN j) ∧ t.out = s.out ∧ ((∀ k ∈ x.pkts, k.tcb = false) → t.txts = s.txts) ∧
      ∀ k b, x.pkts = [k] → k.block = some b → s.f (R.SQ_CFG_DRAIN q) = 2 → b.tsReq = true → s.txts.length < 64 →
        ∃ e, t.txts = s.txts ++ [e] ∧ e.tag = b.tag ∧ e.status = 3)) ∧
  (∀ (p : Fin 16) (all : List (BitVec 8)) (arr : BitVec 128) (s : State),
    let pt := ptOf128 arr.toNat
    let o := exec (.ethRxFrame p all false arr) s
    let fr := all.take (all.length - 4)
    let ok := 4 ≤ all.length ∧ crc32 fr = leAt all (all.length - 4) 4
    let up := s.flag (R.ETH_PORT_STATUS_UP p) = true
    let counts := fun (t : State) => t.f (R.ETH_PORT_RX_FRAMES p) = min (s.f (R.ETH_PORT_RX_FRAMES p) + 1) (2 ^ 64 - 1)
    let takes := fun (q : Nat) => s.flag (R.SQ_STATUS_RUNNING q) = true ∧ s.isFenced (0xC0 + q) = false ∧ s.f (R.SQ_CFG_SRC q) = 0 ∧ fr.length ≤ 9216 ∧ s.sqLevel q + 147 ≤ 4096
    let record := fun (q prod time : Nat) => Ends o fun t => counts t ∧ t.f (R.ETH_PORT_RX_DISCARD p) = s.f (R.ETH_PORT_RX_DISCARD p) ∧
      ∃ k, (t.sqN q).pkts = (s.sqN q).pkts ++ [k] ∧ k.kind = 0 ∧ leAt k.body 0 2 = 0x4E54 ∧ leAt k.body 2 2 = p.val + 2 ^ 12 * prod ∧
        leAt k.body 8 16 = pt128 time ∧ leAt k.body 36 4 = fr.length ∧ (k.body.drop 64).take fr.length = fr
    let stamped := fun (tr : Nat) => s.flag R.NT_CTRL_RX_EN = true ∧ s.flag (R.NT_PORT_CTRL_TS_EN p) = true ∧ s.ptpOn p tr = true
    (∀ bad, exec (.ptpRx p all bad arr) s = exec (.ethRxFrame p all bad arr) s) ∧ (¬ up → o = .next s ∧ exec (.ethRxFrame p all true arr) s = .next s) ∧
    (up → exec (.ethRxFrame p all true arr) s = exec (.ethRxFrame p all false arr) (s.incSat (R.ETH_PORT_FEC_UNCORR p))) ∧
    (up → ¬ ok → Ends o fun t => t.f (R.ETH_PORT_RX_FCS_ERR p) = min (s.f (R.ETH_PORT_RX_FCS_ERR p) + 1) (2 ^ 32 - 1) ∧
      FieldsKept [R.ETH_PORT_RX_FCS_ERR p] s t ∧ t = { s with regs := t.regs, sets := t.sets }) ∧
    (up → ok → pauseOf fr = none →
      (∀ tr m ip, ptpOf fr = some (tr, m, ip, true) → stamped tr → takes (s.f R.NT_CTRL_RX_SQ) → record (s.f R.NT_CTRL_RX_SQ) 1 (s.ingressStamp p pt)) ∧
      (∀ tr m ip, ptpOf fr = some (tr, m, ip, false) → stamped tr → takes (s.f R.NT_CTRL_RX_SQ) → record (s.f R.NT_CTRL_RX_SQ) 1 pt) ∧
      ((ptpOf fr = none ∨ s.flag R.NT_CTRL_RX_EN = false) → s.flag R.ETH_CTRL_RX_ALL = true → takes (s.f R.ETH_CTRL_RX_SQ) → record (s.f R.ETH_CTRL_RX_SQ) 2 pt) ∧
      ((ptpOf fr = none ∨ s.flag R.NT_CTRL_RX_EN = false) → s.flag R.ETH_CTRL_RX_ALL = false → Ends o fun t => counts t ∧
        t.f (R.ETH_PORT_RX_DISCARD p) = min (s.f (R.ETH_PORT_RX_DISCARD p) + 1) (2 ^ 32 - 1) ∧
        FieldsKept [R.ETH_PORT_RX_FRAMES p, R.ETH_PORT_RX_DISCARD p] s t ∧ t = { s with regs := t.regs, sets := t.sets })) ∧
    (∀ quanta, up → ok → pauseOf fr = some quanta → s.flag (R.ETH_PORT_CFG_PAUSE p) = true → Ends o fun t => counts t ∧
      (t.flag (R.ETH_PORT_STATUS_PAUSED p) = true ↔ quanta ≠ 0) ∧ FieldsKept [R.ETH_PORT_RX_FRAMES p, R.ETH_PORT_STATUS_PAUSED p] s t ∧ t.sq = s.sq)) ∧
  (∀ (p : Fin 16) (line an : Bool) (s : State), Ends (exec (.ethLinkChange p line an) s) fun t =>
    let en := s.flag (R.ETH_PORT_CFG_EN p) = true
    let held := s.ethHeld p
    let noAn := s.flag (R.ETH_PORT_CFG_AN p) = true ∧ an = false
    let dead := line = false ∨ s.isRunning (0x67 + p.val / 4) = false
    FieldsKept [R.ETH_PORT_STATUS_UP p, R.ETH_PORT_STATUS_PAUSED p, R.ETH_PORT_STATUS_FAIL p] s t ∧ t = { s with regs := t.regs, sets := t.sets } ∧
    (¬ en → t.flag (R.ETH_PORT_STATUS_UP p) = false ∧ t.f (R.ETH_PORT_STATUS_FAIL p) = 0) ∧
    (en → held ≠ 0 → t.flag (R.ETH_PORT_STATUS_UP p) = false ∧ t.f (R.ETH_PORT_STATUS_FAIL p) = held) ∧
    (en → held = 0 → t.f (R.ETH_PORT_STATUS_FAIL p) = (if noAn then 3 else if dead then 4 else 0) ∧
      (t.flag (R.ETH_PORT_STATUS_UP p) = true ↔ ¬ noAn ∧ ¬ dead))) ∧
  (∀ (pf : Fin 2) (s : State), s.Reaches pf 0x30040 →
    (s.txts = [] → Ends (exec (.txtsRead pf) s) fun t => t.out = s.out ++ [.readReply pf 0x30040 4 0] ∧ t.txts = [] ∧ t.regs = s.regs) ∧
    ∀ e rest, s.txts = e :: rest → Ends (exec (.txtsRead pf) s) fun t =>
      t.out = s.out ++ [.readReply pf 0x30040 4 (2 ^ 31 + 2 ^ 20 * e.status + 2 ^ 16 * e.port + e.tag)] ∧ t.txts = rest ∧
      t.ptimeAt (R.NT_TXTS 0).off = e.pt / 2 ^ 16 * 2 ^ 16 % ptimeSpan ∧ (t.flag R.NT_STATUS_TXTS = true ↔ rest ≠ []) ∧
      WordsKept (fun i => i = R.NT_STATUS_TXTS.off ∨ (0x30044 ≤ i ∧ i < 0x30054)) s t) ∧
  (∀ (q : Nat) (s : State),
    (∀ p, s.targetPort q = some p → p < 16 ∧ bitOf (s.f (R.SQ_PORTS_PORTS q)) p = true ∧ ∀ j, j < 16 → bitOf (s.f (R.SQ_PORTS_PORTS q)) j = true →
      s.wireLeft p * s.ethRate p ≤ s.wireLeft j * s.ethRate j ∧ (s.wireLeft p * s.ethRate p = s.wireLeft j * s.ethRate j → p ≤ j)) ∧
    ∀ p, s.nextQueue p = some q → q < 32 ∧ s.mayLeave p q = true ∧ ∀ j, j < 32 → s.mayLeave p j = true →
      ((q : ℤ) - (s.ethN p).last - 1) % 32 ≤ ((j : ℤ) - (s.ethN p).last - 1) % 32) ∧
  (∀ (p : Fin 16) (bad : Option (Fin 256)) (tx : BitVec 128) (s : State),
    let o := exec (.ethEgress p bad tx) s
    (s.ethFree p = false ∨ s.nextQueue p = none → o = .next s) ∧
    ∀ q k rest, s.ethFree p = true → s.nextQueue p = some q → (s.sqN q).pkts = k :: rest → bitOf (s.f R.PWR_PADHOLD_GROUPS) (4 + p.val / 4) = false →
      let left := fun (t : State) => (t.sqN q).pkts = rest ∧ (t.sqN q).taken = 0 ∧ (t.ethN p).last = q ∧ (∀ j, j ≠ q → t.sqN j = s.sqN j) ∧ (∀ j, j ≠ p.val → t.ethN j = s.ethN j) ∧ t.mem = s.mem
      let sent := fun (n : Nat) (t : State) => t.f (R.ETH_PORT_TX_FRAMES p) = min (s.f (R.ETH_PORT_TX_FRAMES p) + 1) (2 ^ 64 - 1) ∧
        t.f (R.ETH_PORT_TX_BYTES p) = min (s.f (R.ETH_PORT_TX_BYTES p) + (n + 4)) (2 ^ 64 - 1)
      (k.kind = 2 → k.frame.length + 4 ≤ s.maxFrame p → k.tcb = false → Ends o fun t => left t ∧ sent k.frame.length t ∧ t.txts = s.txts ∧
        t.out = s.out ++ [.frame p (withFcs k.frame bad.isNone) (s.nextStart p)]) ∧
      (k.kind = 2 → s.maxFrame p < k.frame.length + 4 → Ends o fun t => left t ∧ t.out = s.out ∧
        t.f (R.ETH_PORT_TX_DISCARD p) = min (s.f (R.ETH_PORT_TX_DISCARD p) + 1) (2 ^ 32 - 1)) ∧
      (k.kind ≠ 2 → bad = none → k.body.length ≤ s.pMax p q →
        let x := s.sqN q
        let fr := s.templateFrame q x.ident (s.vita q 1 x.countData (0x100 + k.kind) (s.partTime q k 0) k.body)
        Ends o fun t => left t ∧ sent fr.length t ∧ t.out = s.out ++ [.frame p (withFcs fr true) (s.nextStart p)] ∧
          (t.sqN q).countData = (x.countData + 1) % 16 ∧ (t.sqN q).ident = (x.ident + 1) % 65536)) ∧
  (∀ (q : Fin 32) (dev : Fin 524289) (tx : BitVec 128) (s : State),
    let o := exec (.timedLaunch q dev tx) s
    (s.timedHead q = none ∨ s.targetPort q = none ∨ (s.sqN q).timed ≠ 1 → o = .next s) ∧
    ∀ b p k rest, s.timedHead q = some b → s.targetPort q = some p → (s.sqN q).pkts = k :: rest → (s.sqN q).timed = 1 →
      let free := min s.clk.elapsed (max (s.ethN p).busyUntil (s.ethN p).pausedUntil)
      (free + (s.now - b.launch) ≤ s.clk.elapsed → s.launchStart p b.launch ((dev.val : ℤ) - 262144) = shiftTime b.launch ((dev.val : ℤ) - 262144)) ∧
      (s.clk.elapsed < free + (s.now - b.launch) → s.launchStart p b.launch ((dev.val : ℤ) - 262144) = (s.now - (s.clk.elapsed - free)) % ptimeSpan) ∧
      (s.now < b.launch ∨ s.ethFree p = false → o = .next s) ∧
      (b.launch ≤ s.now → s.ethFree p = true → b.oneStep = false → k.frame.length + 4 ≤ s.maxFrame p → bitOf (s.f R.PWR_PADHOLD_GROUPS) (4 + p / 4) = false →
        s.txts.length < 64 → Ends o fun t => (t.sqN q).pkts = rest ∧ (t.sqN q).timed = 0 ∧
          t.out = s.out ++ [.frame p (withFcs k.frame true) (s.launchStart p b.launch ((dev.val : ℤ) - 262144))] ∧
          t.txts = s.txts ++ (if b.tsReq = true then [⟨b.tag, p, 0, s.egressStamp p (ptOf128 tx.toNat)⟩] else []) ∧ ∀ j, j ≠ q.val → t.sqN j = s.sqN j)) ∧
  ∀ (q : Fin 32) (s : State),
    let x := s.sqN q
    (s.targetPort q = none ∨ s.contextDue q = false → exec (.contextPacket q) s = .next s) ∧
    ∀ p, s.targetPort q = some p → (s.ethFree p = false ∨ s.launchBars p 500 = true → exec (.contextPacket q) s = .next s) ∧
      (s.contextDue q = true → s.ethFree p = true → s.launchBars p 500 = false → bitOf (s.f R.PWR_PADHOLD_GROUPS) (4 + p / 4) = false →
        Ends (exec (.contextPacket q) s) fun t =>
          let c := s.vita q 4 x.countCtx 0x100 s.now (s.contextBody q (x.ctxDue || s.indicators q != x.ctxInd || s.ctxRate q != x.ctxRate))
          let e := s.vita q 5 x.countExt 0x200 s.now (s.extensionBody q)
          (∃ at_, t.out = s.out ++ [.frame p (withFcs (s.templateFrame q x.ident c) true) (s.nextStart p), .frame p (withFcs (s.templateFrame q ((x.ident + 1) % 65536) e) true) at_]) ∧
          t.sqN q = { x with ident := ((x.ident + 1) % 65536 + 1) % 65536, countCtx := (x.countCtx + 1) % 16, countExt := (x.countExt + 1) % 16, ctxDue := false,
                             ctxAt := s.clk.elapsed, ctxInd := s.indicators q, ctxRate := s.ctxRate q, sat := false, loss := false, sentFlags := 0 } ∧
          (∀ j, j ≠ q.val → t.sqN j = s.sqN j) ∧ t.mem = s.mem)

/-- An HPD change shows, and an unplug takes the link down. Training ends with LINK_UP or with LINK_FAIL and TIMEOUT, and scan-out starts at line 0 of a first front porch. EN = 1 and MODESET run the checks of Table 14-4, which are stated here with their rates; a failure leaves the timing. COMMIT makes a checked shadow bank pending, is refused, or is dropped while one is pending; CANCEL ends it, unless its copy falls in the same control cycle. At the sample instant a commit written before S is copied whole into the active bank; the front porch then lasts the lines that the mode, the first frame, the copy or a later commit give it. The mapper takes one record at a time and maps one cell each fabric cycle: the block of every cell holds its entry of the colour table and nothing outside the back buffer changes; cells mapped while a commit pends are discarded, and at the end a display frame counts, unless cells were. The blend rounds to nearest; at the last pixel of a check rectangle its CRC is shown, learnt, or counted as a mismatch. An AUX transaction ends with the reply, TIMEOUT or BAD_PARAM. -/
def Obligations.RasterOutput : Prop :=
  (∀ (plugged irq : Bool) (s : State),
    let changed := s.flag R.RS_STATUS_HPD ≠ plugged
    let fn := if s.blockSecure 0x6B = true then 1 else 0
    let vec := s.f R.RS_CTRL_VEC
    Ends (exec (.hpdChange plugged irq) s) fun t => t.flag R.RS_STATUS_HPD = plugged ∧
      t.flag R.RS_STATUS_LINK_UP = (plugged && s.flag R.RS_STATUS_LINK_UP) ∧ t.flag R.RS_STATUS_HPD_IRQ = (irq || s.flag R.RS_STATUS_HPD_IRQ) ∧
      FieldsKept [R.RS_STATUS_HPD, R.RS_STATUS_LINK_UP, R.RS_STATUS_HPD_IRQ] s t ∧ t = { s with regs := t.regs, sets := t.sets, host := t.host, out := t.out } ∧
      (¬ changed → irq = false → t.out = s.out ∧ t.host = s.host) ∧
      (changed ∨ irq = true → s.hostOff = false → (s.msixWord fn (16 * vec + 12)).getLsbD 0 = false → ∃ a d, t.out = s.out ++ [.msix fn vec a d])) ∧
  (∀ (ok : Bool) (s : State), (s.rs.training = false → exec (.rsTrain ok) s = .next s) ∧
    (s.rs.training = true → Ends (exec (.rsTrain ok) s) fun t =>
      let up := ok = true ∧ s.flag R.RS_STATUS_HPD = true
      (t.flag R.RS_STATUS_LINK_UP = true ↔ up) ∧ t.flag R.RS_CTRL_TRAIN = false ∧ t.rs.training = false ∧ t.mem = s.mem ∧ t.out = s.out ∧
      (up → t.f R.RS_STATUS_RESULT = 0 ∧ t.f R.RS_STATUS_LINK_FAIL = s.f R.RS_STATUS_LINK_FAIL) ∧ (¬ up → t.f R.RS_STATUS_RESULT = 0x40 ∧ t.flag R.RS_STATUS_LINK_FAIL = true) ∧
      (s.rs.resume ≠ .porch → t.rs.phase = s.rs.phase ∧ t.rs.at_ = s.rs.at_ ∧ t.f R.RS_STATUS_MODESET_PEND = s.f R.RS_STATUS_MODESET_PEND) ∧
      (s.rs.resume = .porch → t.rs.phase = .porch ∧ t.rs.at_ = 160 * s.clk.cycles ∧ t.rs.first = true ∧ t.flag R.RS_STATUS_RUNNING = true ∧ t.flag R.RS_STATUS_VBLANK = true ∧
        t.flag R.RS_STATUS_MODESET_PEND = false ∧ (s.flag R.RS_STATUS_MODESET_PEND = true → t.flag R.RS_STATUS_MODE_SWITCHED = true)) ∧
      WordsKept (fun o => o = 0x700000 ∨ o = 0x700004) s t)) ∧
  (∀ s : State,
    let root : ℚ := s.rootHz / 2 ^ 76
    let d := s.f R.RS_PIXDIV_D_PIX
    let lanes := s.f R.RS_LINK_LANES
    let rate : ℚ := if s.f R.RS_LINK_RATE = 0 then 1620000000 else if s.f R.RS_LINK_RATE = 1 then 2700000000 else if s.f R.RS_LINK_RATE = 2 then 5400000000 else 8100000000
    let line : ℚ := s.f R.RS_HTIM_HTOTAL * d / root
    let fixed := s.f R.RS_VTIM_VACT + s.f R.RS_VBL_VSYNC + s.f R.RS_VBL_VBP
    let vmin := s.f R.RS_VRATE_VMIN_HZ
    let vmax := s.f R.RS_VRATE_VMAX_HZ
    let fpMin : ℤ := max (s.f R.RS_VBL_VFP_MIN) (⌈1 / (vmax * line)⌉ - fixed)
    let fpMax : ℤ := ⌊1 / (vmin * line)⌋ - fixed
    let one := 60 ≤ d ∧ 64 ≤ s.f R.RS_HTIM_HACT ∧ s.f R.RS_HTIM_HACT ≤ 2560 ∧ 64 ≤ s.f R.RS_VTIM_VACT ∧ s.f R.RS_VTIM_VACT ≤ 1600 ∧
      s.f R.RS_HTIM_HACT + s.f R.RS_HSYNC_HSTART + s.f R.RS_HSYNC_HWIDTH + 1 ≤ s.f R.RS_HTIM_HTOTAL ∧ 1 ≤ s.f R.RS_VBL_VSYNC ∧ (lanes = 1 ∨ lanes = 2 ∨ lanes = 4)
    let two := if s.flag R.RS_CTRL_ADAPTIVE = true then 24 ≤ vmin ∧ vmin ≤ vmax ∧ vmax ≤ 144 ∧ fpMin ≤ fpMax
      else fixed + s.f R.RS_VBL_VFP_MIN ≤ s.f R.RS_VTIM_VTOTAL
    let three := root / d * 24 ≤ lanes * rate * (4 / 5)
    0 < root → s.rsChecks = (if one ∧ two then (if three then 0 else 0x20) else 0x11)) ∧
  (∀ (pf : Fin 2) (v : BitVec 32) (s : State), s.Opens pf 0x700000 →
    let w := s.setB R.RS_CTRL_ADAPTIVE (v.getLsbD 1)
    let ctl := WordsKept (fun o => o = 0x700000 ∨ o = 0x700004) s
    let pend := s.flag R.RS_STATUS_PENDING = true
    let ends := fun (n : Nat) => s.rs.at_ + n * s.lineRoot rsUse
    let due := (s.rs.phase = .porch ∧ s.porchPlan.2 = true ∧ ends s.porchPlan.1 < 160 * (s.clk.cycles + 1)) ∨
      (s.rs.phase = .active ∧ s.flag R.RS_STATUS_MODESET_PEND = false ∧ ends (s.f (rsUse R.RS_VTIM_VACT)) < 160 * (s.clk.cycles + 1) ∧ s.beforeS (ends (s.f (rsUse R.RS_VTIM_VACT))) = true)
    (s.flag R.RS_CTRL_EN = false → (∀ i, 3 ≤ i → i ≤ 6 → v.getLsbD i = false) → Ends (exec (.rsEnable pf v) s) fun t =>
      t.f R.RS_STATUS_RESULT = w.rsChecks ∧ t.mem = s.mem ∧ t.out = s.out ∧
      (w.rsChecks ≠ 0 → t.flag R.RS_CTRL_EN = false ∧ t.rs = s.rs ∧ ctl t) ∧
      (w.rsChecks = 0 → t.flag R.RS_CTRL_EN = true ∧ t.rs.phase = .training ∧ t.rs.training = true ∧ t.rs.resume = .porch ∧ t.rs.adaptive = v.getLsbD 1 ∧
        (∀ i, i < 7 → t.word (0x700808 + 4 * i) = s.word (0x700008 + 4 * i)) ∧
        WordsKept (fun o => o = 0x700000 ∨ o = 0x700004 ∨ o = 0x700030 ∨ (0x700808 ≤ o ∧ o < 0x700824)) s t)) ∧
    (s.flag R.RS_CTRL_EN = v.getLsbD 0 →
      (v.getLsbD 4 = false → v.getLsbD 5 = false → v.getLsbD 6 = false → Ends (exec (.rsCommit pf v) s) fun t => ctl t ∧ t.mem = (if ¬ pend ∧ s.rsCommitOk = true then s.mapAdvance.mem else s.mem) ∧ t.out = s.out ∧
        (pend → t.flag R.RS_STATUS_SHADOW_BUSY = true ∧ t.flag R.RS_STATUS_PENDING = true ∧ t.f R.RS_STATUS_RESULT = s.f R.RS_STATUS_RESULT ∧ t.rs = s.rs) ∧
        (¬ pend → s.rsCommitOk = false → t.flag R.RS_STATUS_PENDING = false ∧ t.f R.RS_STATUS_RESULT = 0x11 ∧ t.rs = s.rs) ∧
        (¬ pend → s.rsCommitOk = true → t.rs = { s.mapAdvance.rs with commitAt := s.clk.cycles, host := true } ∧ t.flag R.RS_STATUS_PENDING = true ∧ t.f R.RS_STATUS_RESULT = 0)) ∧
      (v.getLsbD 3 = false → v.getLsbD 5 = false → v.getLsbD 6 = false → Ends (exec (.rsCancel pf v) s) fun t => ctl t ∧ t.mem = s.mem ∧ t.out = s.out ∧ t.rs = s.rs ∧
        (t.flag R.RS_STATUS_PENDING = true ↔ pend ∧ due) ∧ t.f R.RS_STATUS_RESULT = if pend ∧ ¬ due then 0x70 else s.f R.RS_STATUS_RESULT) ∧
      (v.getLsbD 3 = false → v.getLsbD 4 = false → v.getLsbD 6 = false → Ends (exec (.modeset pf v) s) fun t => ctl t ∧ t.mem = s.mem ∧ t.out = s.out ∧
        (s.flag R.RS_STATUS_RUNNING = false ∨ s.flag R.RS_STATUS_MODESET_PEND = true → t.rs = s.rs ∧ t.f R.RS_STATUS_RESULT = s.f R.RS_STATUS_RESULT ∧
          t.f R.RS_STATUS_MODESET_PEND = s.f R.RS_STATUS_MODESET_PEND) ∧
        (s.flag R.RS_STATUS_RUNNING = true → s.flag R.RS_STATUS_MODESET_PEND = false → t.f R.RS_STATUS_RESULT = w.rsChecks ∧
          t.rs = { s.rs with checked := if w.rsChecks = 0 then some (s.wordsAt 0x700008 7, v.getLsbD 1) else none } ∧ (t.flag R.RS_STATUS_MODESET_PEND = true ↔ w.rsChecks = 0))))) ∧
  (∀ s : State, s.regsWf = true →
    let line := s.lineRoot rsUse
    let fixed := s.fixedLines rsUse
    let past := fun (n : Nat) => s.rs.at_ + n * line ≤ 160 * s.clk.cycles
    let copied := fun (t : State) => t.flag R.RS_STATUS_PENDING = false ∧ (∀ o, 0x701000 < o → o < 0x702000 → t.word (o + 0x1000) = s.word o) ∧
      t.word 0x702000 = if s.flag R.RS_CTRL_AUTO = true ∧ s.rs.host = true then s.word 0x702000 else s.word 0x701000
    let bank := fun (t : State) => ∀ o, 0x702000 ≤ o → o < 0x703000 → t.word o = s.word o
    let vact := s.f (rsUse R.RS_VTIM_VACT)
    let before := s.beforeS (s.rs.at_ + vact * line) = true
    let hi := s.f R.RS_FP_LIM_FP_MAX
    let lo := s.f R.RS_FP_LIM_FP_MIN
    let pend := s.flag R.RS_STATUS_PENDING = true
    let l := (160 * s.rs.commitAt - s.rs.at_) / line
    (s.rs.phase ≠ .active → s.rs.phase ≠ .blank → exec .sampleInstant s = .next s) ∧
    (s.rs.phase = .active → ¬ past vact → exec .sampleInstant s = .next s) ∧
    (s.rs.phase = .active → past vact → Ends (exec .sampleInstant s) fun t =>
      t.f R.RS_FRAMES = min (s.f R.RS_FRAMES + 1) (2 ^ 64 - 1) ∧ t.flag R.RS_STATUS_VBLANK = true ∧ t.rs.at_ = s.rs.at_ + vact * line ∧
      t.mem = (if s.flag R.RS_STATUS_MODESET_PEND = false ∧ before then s.mapAdvance.mem else s.mem) ∧ t.out = s.out ∧
      (s.flag R.RS_STATUS_MODESET_PEND = true → t.rs.phase = .idle ∧ t.f R.RS_STATUS_PENDING = s.f R.RS_STATUS_PENDING ∧ bank t) ∧
      (s.flag R.RS_STATUS_MODESET_PEND = false → t.rs.phase = .porch ∧ t.rs.first = false ∧ (t.rs.copied = true ↔ before) ∧ (before → copied t) ∧
        (¬ before → t.f R.RS_STATUS_PENDING = s.f R.RS_STATUS_PENDING ∧ bank t))) ∧
    (s.rs.phase ≠ .porch → exec .frontPorchEnd s = .next s) ∧
    ∀ n (c : Prop), s.rs.phase = .porch →
      ((s.rs.adaptive = false ∧ n = s.f (rsUse R.RS_VTIM_VTOTAL) - fixed ∧ ¬ c) ∨
       (s.rs.adaptive = true ∧ s.rs.first = true ∧ n = hi ∧ (c ↔ pend)) ∨
       (s.rs.adaptive = true ∧ s.rs.first = false ∧ s.rs.copied = true ∧ n = lo ∧ ¬ c) ∨
       (s.rs.adaptive = true ∧ s.rs.first = false ∧ s.rs.copied = false ∧ (¬ pend ∨ hi < l + 2) ∧ n = hi ∧ ¬ c) ∨
       (s.rs.adaptive = true ∧ s.rs.first = false ∧ s.rs.copied = false ∧ pend ∧ l + 2 ≤ hi ∧ n = min hi (max (l + 2) lo) ∧ c)) →
      (¬ past n → exec .frontPorchEnd s = .next s) ∧
      (past n → Ends (exec .frontPorchEnd s) fun t => t.rs.phase = .blank ∧ t.rs.at_ = s.rs.at_ + n * line ∧ t.f R.RS_LAST_FP_LINES = n % 2 ^ 14 ∧ t.out = s.out ∧
        (c → copied t ∧ t.mem = s.mapAdvance.mem) ∧ (¬ c → t.f R.RS_STATUS_PENDING = s.f R.RS_STATUS_PENDING ∧ bank t ∧ t.mem = s.mem))) ∧
  (∀ s : State, (s.rs.maps = [] → exec .densMapStart s = .next s) ∧
    (∀ m rest, s.rs.maps = m :: rest →
      (s.isFenced 0x6B = true → Ends (exec .densMapStart s) fun t => t.rs = { s.rs with maps := rest } ∧ t.f R.RS_WR_DROPS = min (s.f R.RS_WR_DROPS + 1) (2 ^ 32 - 1) ∧
        FieldsKept [R.RS_WR_DROPS] s t ∧ t.mem = s.mem) ∧
      (s.isRunning 0x6B = false → s.isFenced 0x6B = false → s.pwr.dark = false → Ends (exec .densMapStart s) fun t => t.rs = s.rs ∧ t.mem = s.mem ∧ t.domState 19 = if s.domState 19 = 1 then 2 else s.domState 19) ∧
      (s.isRunning 0x6B = true → (∀ b, s.rs.map = some b → Ends (exec .densMapStart s) fun t => t.rs = { s.rs with maps := rest } ∧
          t.f (R.RS_REG_LATE m.region) = min (s.f (R.RS_REG_LATE m.region) + 1) (2 ^ 32 - 1) ∧ FieldsKept [R.RS_REG_LATE m.region] s t ∧ t.mem = s.mem) ∧
        (s.rs.map = none → s.f (rsAct (R.RS_REG_CFG_KIND m.region)) = 3 → Ends (exec .densMapStart s) fun t =>
          t.rs = { s.rs with maps := rest, map := some m, mapAt := 160 * s.clk.cycles, mapCells := 0, mapLost := false } ∧ t.regs = s.regs ∧ t.mem = s.mem))) ∧
    (s.rs.map = none → s.mapAdvance = s ∧ exec .mapperDone s = .next s) ∧
    ∀ m, s.rs.map = some m →
      let r := m.region
      let from_ := s.rs.mapCells
      let k := min 262144 ((160 * s.clk.cycles - s.rs.mapAt) / 32)
      let late := 160 * s.clk.cycles < s.rs.mapAt + 32 * 262144
      let a := s.mapAdvance
      (k ≤ from_ → a = s) ∧
      (from_ < k → s.regionBars r = true → a.rs = { s.rs with mapCells := k, mapLost := true } ∧ a.mem = s.mem ∧ FieldsKept [R.RS_STATUS_LATE_WR, R.RS_REG_LATE r] s a ∧
        (s.rs.mapLost = false → a.flag R.RS_STATUS_LATE_WR = true ∧ a.f (R.RS_REG_LATE r) = min (s.f (R.RS_REG_LATE r) + 1) (2 ^ 32 - 1)) ∧
        (s.rs.mapLost = true → a.regs = s.regs)) ∧
      (from_ < k → s.regionBars r = false → r < 16 →
        let x := s.f (rsAct (R.RS_REG_POS_X r))
        let y := s.f (rsAct (R.RS_REG_POS_Y r))
        let sx := s.f (rsAct (R.RS_REG_CFG_SXM1 r)) + 1
        let sy := s.f (rsAct (R.RS_REG_CFG_SYM1 r)) + 1
        let tbl := s.f (rsAct (R.RS_REG_TBL_ADDR r))
        let fb := if s.f (rsAct R.RS_FB_SEL_SEL) = 0 then 0xFA0000 else 0
        s.f (rsAct (R.RS_REG_CFG_KIND r)) = 3 → x + 1024 * sx ≤ 2560 → y + 256 * sy ≤ 1600 → 0x1F40000 ≤ tbl →
          a.regs = s.regs ∧ a.rs = { s.rs with mapCells := k } ∧
          (∀ c row dx dy, c < 1024 → row < 256 → dx < sx → dy < sy → from_ ≤ 1024 * row + c → 1024 * row + c < k →
            let n := leAt m.cells (4 * (1024 * row + c)) 4
            let i := if n = 0 then 0 else min 255 (1 + log2a n / 32)
            a.bytesAt 2 (fb + 10240 * (y + sy * (255 - row) + dy) + 4 * (x + sx * c + dx)) 4 = s.bytesAt 2 (tbl + 4 * i) 4) ∧
          ∀ sp b, b < 2 ^ 40 → (sp ≠ 2 ∨ b < fb ∨ fb + 16384000 ≤ b) → a.byteAt sp b = s.byteAt sp b) ∧
      (late ∨ s.isRunning 0x6B = false → exec .mapperDone s = .next s) ∧
      (¬ late → s.isRunning 0x6B = true → Ends (exec .mapperDone s) fun t => t.rs.map = none ∧
        (a.rs.mapLost = true → t.regs = a.regs ∧ t.mem = a.mem) ∧
        (a.rs.mapLost = false → t.mem = a.mem ∧ (r < 16 → t.f (R.RS_REG_FRAMES r) = min (s.f (R.RS_REG_FRAMES r) + 1) (2 ^ 32 - 1))))) ∧
  (∀ a p f : Nat, a ≤ 255 → p ≤ 255 → f ≤ 255 → blend a p f ≤ 255 ∧ |(blend a p f : ℚ) - (a * p + (255 - a) * f) / 255| ≤ 1 / 2) ∧
  (∀ (k : Fin 4) (s : State), s.rs.phase = .active →
    let r := s.crcRect rsAct k
    let at_ := s.rs.at_ + (r.y + r.h - 1) * s.lineRoot rsUse + (r.x + r.w) * s.f (rsUse R.RS_PIXDIV_D_PIX)
    let idle := s.flag (rsAct (R.RS_CRC_POS_EN k)) = false ∨ bitOf s.rs.crcDone k = true ∨ 160 * s.clk.cycles < at_
    let a := s.mapAdvance
    let v := a.rectCrc r
    (idle → exec (.crcCheck k) s = .next s) ∧
    (¬ idle → Ends (exec (.crcCheck k) s) fun t => t.f (R.RS_CRC_VAL k) = v ∧ v < 2 ^ 32 ∧ bitOf t.rs.crcDone k = true ∧ t.mem = a.mem ∧
      (s.flag (R.RS_CRC_CTRL_LEARN k) = true → t.f (rsAct (R.RS_CRC_EXP k)) = v ∧ t.flag (R.RS_CRC_CTRL_LEARN k) = false ∧
        FieldsKept [R.RS_CRC_VAL k, rsAct (R.RS_CRC_EXP k), R.RS_CRC_CTRL_LEARN k] a t) ∧
      (s.flag (R.RS_CRC_CTRL_LEARN k) = false → v = s.f (rsAct (R.RS_CRC_EXP k)) → FieldsKept [R.RS_CRC_VAL k] a t) ∧
      (s.flag (R.RS_CRC_CTRL_LEARN k) = false → v ≠ s.f (rsAct (R.RS_CRC_EXP k)) → t.flag R.RS_STATUS_CRC_MISS = true ∧
        t.f (R.RS_CRC_MISMATCH k) = min (s.f (R.RS_CRC_MISMATCH k) + 1) (2 ^ 32 - 1) ∧ FieldsKept [R.RS_CRC_VAL k, R.RS_CRC_MISMATCH k, R.RS_STATUS_CRC_MISS] a t))) ∧
  ∀ (pf : Fin 2) (v : BitVec 32) (reply : Option (List (BitVec 8))) (s : State), s.Opens pf 0x700050 →
    let cmd := v.toNat % 16
    let n := v.toNat / 16 % 16 + 1
    Ends (exec (.auxTransaction pf v reply) s) fun t => t.flag R.RS_AUX_CTRL_GO = false ∧ t.rs = s.rs ∧ t.out = s.out ∧
      (10 ≤ cmd → t.f R.RS_AUX_CTRL_RESULT = 0x11 ∧ WordsKept (fun o => o = 0x700050) s t) ∧
      (cmd < 10 → reply = none → t.f R.RS_AUX_CTRL_RESULT = 0x40 ∧ WordsKept (fun o => o = 0x700050) s t) ∧
      (∀ bs, cmd < 10 → reply = some bs → t.f R.RS_AUX_CTRL_RESULT = 0 ∧ (cmd % 2 = 0 → WordsKept (fun o => o = 0x700050) s t) ∧
        (cmd % 2 = 1 → bs.length = n → leBytes n (t.wordsAt 0x700060 4) = bs ∧ WordsKept (fun o => o = 0x700050 ∨ (0x700060 ≤ o ∧ o < 0x700070)) s t))

/-- PWR_STATE for the present state completes OK; a lower one asks the powered domains in the order of Table 15-2's sequence, LINKP always; a higher one starts domains; the same target merges, another becomes the one pending request. A domain that agrees stops in FENCED with a new epoch, a refusal is recorded and undone, and the request then completes REFUSED_POWER; when all have agreed and no block has replies of an earlier epoch out, the domains gate and latch their pads. An idle domain gates itself in P1; PWR_DOMCTRL gates or wakes one in P0. A pad release counts for the groups whose domain is up. A failed AVSBus write sets AVS_FAULT, keeps the old voltage, and repeats a raise. A poll and an alert show the rails and mark a faulty one. A thermal trip and the loss of VDD_AON gate everything and lose capture memory, PWR_TRIP keeping the first sensor. A domain that reports readiness is ON with its blocks RUNNING. -/
def Obligations.PowerControl : Prop :=
  (∀ (k : Fin 16) (f : Fetch) (s : State),
    let target := f.entry.param 0
    let st := s.f R.PWR_STATUS_STATE
    let busy := s.flag R.PWR_STATUS_BUSY = true
    let pend := s.flag R.PWR_STATUS_PEND = true
    let o := exec (.pwrState k f) s
    s.Starts k f true false [0x7] →
    (4 < target → Ends o fun t => Completed s t k f 0x11 0 ∧ t.pwr = s.pwr) ∧
    (¬ busy → target = st → target ≤ 4 → Ends o fun t => Completed s t k f 0x00 0 ∧ t.pwr = s.pwr ∧
      FieldsKept [R.HI_RING_PTR_HEAD k, R.HI_RING_CPTR_CTAIL k, R.HI_RING_CPTR_PHASE k] s t) ∧
    (¬ busy → st < target → target ≤ 4 → Ends o fun t => Continues s t k f ∧ t.flag R.PWR_STATUS_BUSY = true ∧ t.f R.PWR_STATUS_TARGET = target ∧
      t.f R.PWR_STATUS_STATE = st ∧ (3 ≤ target → t.f R.PWR_STATUS_RESUME = st) ∧ (2 ≤ st → t.pwr.phase = .off) ∧
      (st < 2 → t.pwr.phase = .ask ∧ t.pwr.agreed = [] ∧ (target = 1 → t.pwr.todo = [14]) ∧
        (2 ≤ target → (∀ d, d < 96 → s.domState d = 0) →
          t.pwr.todo = 19 :: (List.range 64).map (· + 32) ++ [8, 9, 10, 11, 7, 20, 3, 4, 5, 6, 15, 16, 17, 18, 14, 12, 13]))) ∧
    (¬ busy → target < st → target ≤ 4 → Ends o fun t => Continues s t k f ∧ t.flag R.PWR_STATUS_BUSY = true ∧ t.f R.PWR_STATUS_TARGET = target ∧
      t.f R.PWR_LASTWAKE_CODE = 2 ∧ t.pwr.phase = .raise ∧ t.pwr.hold = false ∧ t.pwr.todo = if target = 0 then domOrder.reverse else []) ∧
    (busy → target ≤ 4 →
      (pend → s.f R.PWR_STATUS_PEND_TGT = target → Ends o fun t => Continues s t k f ∧ t.pwr = s.pwr ∧ t.f R.PWR_STATUS = s.f R.PWR_STATUS) ∧
      (¬ pend → s.f R.PWR_STATUS_TARGET = target → Ends o fun t => Continues s t k f ∧ t.pwr = s.pwr ∧ t.f R.PWR_STATUS = s.f R.PWR_STATUS) ∧
      (¬ pend → s.f R.PWR_STATUS_TARGET ≠ target → s.pwrCmds 2 4 = [] → Ends o fun t => Continues s t k f ∧ t.pwr = s.pwr ∧
        t.flag R.PWR_STATUS_PEND = true ∧ t.f R.PWR_STATUS_PEND_TGT = target) ∧
      (pend → s.f R.PWR_STATUS_PEND_TGT ≠ target → Ends o fun t => t.flag R.PWR_STATUS_PEND = true ∧ t.f R.PWR_STATUS_PEND_TGT = target ∧ t.pwr = s.pwr ∧
        (t.pwrCmds 2 4).length = 1))) ∧
  (∀ (c : LongCmd) (s : State), s.isRunning 0 = true → s.host.longs = [c] → c.ring < 16 → c.entry.opcode = 0x80 → c.phase = 1 →
    let st := s.f R.PWR_STATUS_STATE
    (∀ d rest, s.pwr.phase = .ask → s.pwr.todo = d :: rest →
      (s.domRefuses d = none → Ends (exec .coachmanRound s) fun t => t.pwr.todo = rest ∧ t.pwr.agreed = d :: s.pwr.agreed ∧ t.pwr.phase = .ask ∧ t.f R.PWR_STATUS_STATE = st ∧
        (d = 14 → t.pwr.hold = true ∧ t.domState 14 = s.domState 14 ∧ ∀ b, t.blk b = s.blk b) ∧
        (d = 19 ∨ (3 ≤ d ∧ d ≤ 11) ∨ (15 ≤ d ∧ d ≤ 18) ∨ (64 ≤ d ∧ d < 96) → t.domState d = 3 ∧ ∀ b ∈ domBlocks d, s.blk b ≠ .offline → s.blk b ≠ .gated →
          t.blk b = .fenced ∧ t.epoch b = (s.epoch b + 1) % 256)) ∧
      (∀ why det, s.domRefuses d = some (why, det) → why ≠ 5 → why < 16 → det < 2 ^ 16 → d < 96 → Ends (exec .coachmanRound s) fun t => t.pwr.phase = .undo ∧ t.pwr.todo = s.pwr.agreed ∧
        t.f R.PWR_REFUSAL_DOMAIN = d ∧ t.f R.PWR_REFUSAL_REASON = why ∧ t.f R.PWR_REFUSAL_DETAIL = det ∧ t.f R.PWR_STATUS_STATE = st)) ∧
    (∀ d rest, s.pwr.phase = .undo → s.pwr.todo = d :: rest → d ≠ 14 → d < 96 → Ends (exec .coachmanRound s) fun t => t.pwr.todo = rest ∧ t.domState d = 0 ∧
      t.f R.PWR_STATUS_STATE = st ∧ ∀ b ∈ domBlocks d, t.epoch b = s.epoch b ∧ (s.blk b = .fenced → s.repliesOut b = false → t.blk b = .running)) ∧
    (s.pwr.phase = .undo → s.pwr.todo = [] → s.flag R.PWR_STATUS_PEND = false → Ends (exec .coachmanRound s) fun t => t.host.longs = [] ∧ t.pwr.phase = .idle ∧
      t.flag R.PWR_STATUS_BUSY = false ∧ t.f R.PWR_STATUS_STATE = st ∧
      (s.f (R.HI_RING_STATUS_STATE c.ring) = 1 → s.cplFull c.ring = false → (∀ w ∈ s.host.waiting, w.ring ≠ c.ring) → s.hostOff = false → c.stopped = false → c.entry.flags = 0 →
        .hostWrite (s.f (R.HI_RING_CBASE c.ring) + 16 * s.f (R.HI_RING_CPTR_CTAIL c.ring))
          (leBytes 2 c.entry.tag.toNat ++ leBytes 1 0x23 ++ leBytes 1 (s.f (R.HI_RING_CPTR_PHASE c.ring))) ∈ t.out)) ∧
    (s.pwr.phase = .gate → s.f R.PWR_STATUS_TARGET = 2 → s.pwr.agreed = [14, 19] → s.pwr.toP1 = none → s.flag R.PWR_STATUS_PEND = false → s.blk 0x6B ≠ .offline →
      (s.unsettled 0x6B = true → Ends (exec .coachmanRound s) fun t => t.f R.PWR_STATUS_STATE = st ∧ t.domState 19 = s.domState 19 ∧ t.pwr.phase = .gate ∧ ∀ b, t.blk b = s.blk b) ∧
      (s.unsettled 0x6B = false → Ends (exec .coachmanRound s) fun t => t.f R.PWR_STATUS_STATE = 2 ∧ t.domState 19 = 1 ∧ t.blk 0x6B = .gated ∧ t.pwr.l1 = true ∧ t.flag R.PWR_STATUS_BUSY = false ∧
        t.f R.PWR_PADHOLD_GROUPS = s.f R.PWR_PADHOLD_GROUPS ||| 8 ∧ t.host.longs = [] ∧ (∀ a, a < 2 ^ 40 → t.byteAt 2 a = 0) ∧
        ∀ sp a, sp ≠ 2 → a < 2 ^ 40 → t.byteAt sp a = s.byteAt sp a))) ∧
  (∀ (d : Fin 96) (s : State),
    let idle := s.f R.PWR_STATUS_STATE = 1 ∧ s.pwr.phase = .idle ∧ d.val ∈ domOrder ∧ s.flag (p1Fld d) = true ∧ s.domState d = 0 ∧ s.domInUse d = false ∧
      tget (fun _ => 0) s.pwr.lastUse d + s.f R.PWR_IDLE_US * 1000 * 2 ^ 48 ≤ s.clk.elapsed
    (¬ idle → exec (.p1IdleGate d) s = .next s) ∧
    (idle → Ends (exec (.p1IdleGate d) s) fun t => t.domState d = 1 ∨ (t.domState d = 3 ∧ d.val ∈ t.pwr.gateWait)) ∧
    (idle → s.quiet d → Ends (exec (.p1IdleGate d) s) fun t => t.domState d = 1 ∧ t.f R.PWR_STATUS_STATE = 1 ∧ t.f R.PWR_PADHOLD_GROUPS = s.f R.PWR_PADHOLD_GROUPS ||| padBits d ∧
      ∀ b ∈ domBlocks d, s.blk b ≠ .offline → t.blk b = .gated)) ∧
  (∀ (pf : Fin 2) (v : BitVec 32) (s : State), s.Opens pf 0x780070 →
    let d := v.toNat % 128
    let gate := v.getLsbD 8 = true
    let busy := s.f R.PWR_STATUS_STATE ≠ 0 ∨ s.flag R.PWR_STATUS_BUSY = true ∨ s.pwr.domAsk ≠ none
    let o := exec (.domctrl pf v) s
    let only := fun (code : Nat) => Ends o fun t => t.f R.PWR_STATUS_DRESULT = code ∧ FieldsKept [R.PWR_STATUS_DRESULT] s t ∧ ∀ b, t.blk b = s.blk b
    (busy → only 0x22) ∧
    (¬ busy → d ∉ domOrder → only 0x11) ∧
    (¬ busy → d ∈ domOrder →
      (¬ gate → s.domState d = 1 → s.pwr.dark = false → Ends o fun t => t.f R.PWR_STATUS_DRESULT = 0 ∧ t.domState d = 2 ∧ ∀ b ∈ domBlocks d, s.blk b ≠ .offline → t.blk b = .waking) ∧
      (¬ gate → s.domState d ≠ 1 → only 0) ∧ (gate → s.domState d ≠ 0 → only 0) ∧
      (∀ why det, gate → s.domState d = 0 → s.domRefuses d = some (why, det) → why ≠ 5 → Ends o fun t => t.f R.PWR_STATUS_DRESULT = 0x23 ∧
        t.f R.PWR_REFUSAL = (d + 2 ^ 8 * why + 2 ^ 16 * det) % 2 ^ 32 ∧ FieldsKept [R.PWR_STATUS_DRESULT, R.PWR_REFUSAL] s t ∧ ∀ b, t.blk b = s.blk b) ∧
      (gate → s.domState d = 0 → s.domRefuses d = none → Ends o fun t => t.f R.PWR_STATUS_DRESULT = 0 ∧ (t.domState d = 1 ∨ (t.domState d = 3 ∧ d ∈ t.pwr.gateWait))) ∧
      (gate → s.domState d = 0 → s.domRefuses d = none → s.quiet d → Ends o fun t => t.domState d = 1 ∧
        ∀ b ∈ domBlocks d, s.blk b ≠ .offline → t.blk b = .gated))) ∧
  (∀ (pf : Fin 2) (v : BitVec 32) (s : State), s.Opens pf 0x780074 →
    (Ends (exec (.padRelease pf v) s) fun t => t.f R.PWR_PADREL = 0 ∧ t.f R.PWR_PADHOLD = s.f R.PWR_PADHOLD ∧ t.out = s.out ∧ WordsKept (fun o => o = 0x780074) s t ∧
      ∀ g, g < 9 → bitOf t.pwr.padRel g = (bitOf s.pwr.padRel g || (v.getLsbD g && s.domState (padDom g) != 1 && s.domState (padDom g) != 2))) ∧
    ∀ g, g < 9 → bitOf (s.padTick.f R.PWR_PADHOLD_GROUPS) g = (bitOf (s.f R.PWR_PADHOLD_GROUPS) g && !bitOf s.pwr.padRel g)) ∧
  (∀ s : State,
    let wakes := s.ptimeAt (R.PWR_WAKE_AT 0).off ≤ s.now ∧ s.f R.PWR_STATUS_STATE = 3 ∧ s.pwr.waking = false ∧ s.pwr.dark = false ∧ s.flag (R.PWR_WAKE_EN_SRC.bit 6) = true
    (¬ wakes → exec .wakeAt s = .next s) ∧
    (wakes → Ends (exec .wakeAt s) fun t => t.f R.PWR_LASTWAKE_CODE = 6 ∧ t.f R.PWR_LASTWAKE_DETAIL = 0 ∧ t.pwr.waking = true ∧ t.f R.PWR_STATUS_STATE = 3 ∧
      t.pwr.vcore = s.f R.PWR_VCORE_RUN_MV ∧ t.out = s.out ++ [.avsWrite (s.f R.PWR_VCORE_RUN_MV)]) ∧
    (s.pwr.avs = none → exec .avsTimeout s = .next s) ∧
    ∀ mv old, s.pwr.avs = some (mv, old) → Ends (exec .avsTimeout s) fun t => t.flag R.PWR_STATUS_AVS_FAULT = true ∧
      t.f R.PWR_AVS_STAT_FAULTS = min (s.f R.PWR_AVS_STAT_FAULTS + 1) (2 ^ 16 - 1) ∧ t.f R.PWR_AVS_STAT_RETRIES = min (s.f R.PWR_AVS_STAT_RETRIES + 3) (2 ^ 16 - 1) ∧
      t.pwr.vcore = old ∧ t.f R.PWR_STATUS_STATE = s.f R.PWR_STATUS_STATE ∧ (mv < old → t.pwr.avs = none) ∧ (old ≤ mv → t.pwr.avs = some (mv, old) ∧ .avsWrite mv ∈ t.out)) ∧
  (∀ (rails : List (Option (BitVec 16 × BitVec 16 × BitVec 16))) (s : State),
    (s.f R.PWR_POLL_MS = 0 ∨ s.pwr.dark = true → exec (.pmbusPoll rails) s = .next s) ∧
    (s.f R.PWR_POLL_MS ≠ 0 → s.pwr.dark = false → Ends (exec (.pmbusPoll rails) s) fun t => t.pwr = s.pwr ∧ ∀ r x, r < 8 → rails[r]? = some x →
      let kept := t.f (R.PWR_RAIL_VAL r) = s.f (R.PWR_RAIL_VAL r) ∧ t.f (R.PWR_RAIL_STAT r) = s.f (R.PWR_RAIL_STAT r)
      let fault := t.flag R.PWR_STATUS_PM_FAULT = true
      (s.flag (R.PWR_RAIL_CFG_EN r) = false → kept) ∧
      (s.flag (R.PWR_RAIL_CFG_EN r) = true → (x = none → kept ∧ fault) ∧
        ∀ vo io w, x = some (vo, io, w) → t.f (R.PWR_RAIL_VAL_VOUT r) = vo.toNat ∧ t.f (R.PWR_RAIL_VAL_IOUT r) = io.toNat ∧
          t.f (R.PWR_RAIL_STAT_STATUS_WORD r) = w.toNat ∧ (w ≠ 0 → fault)))) ∧
  (∀ s : State, exec (.pmAlert none) s = .next s ∧ ∀ (r : Fin 8) (w : BitVec 16), Ends (exec (.pmAlert (some (r, w))) s) fun t =>
    t.f (R.PWR_RAIL_STAT_STATUS_WORD r) = w.toNat ∧ (w = 0 → FieldsKept [R.PWR_RAIL_STAT_STATUS_WORD r] s t) ∧ (w ≠ 0 → t.flag R.PWR_STATUS_PM_FAULT = true)) ∧
  (∀ (sensor : Fin 12) (s : State),
    let dead := fun (t : State) => t.pwr.dark = true ∧ (∀ a, a < 2 ^ 40 → t.byteAt 0 a = 0) ∧ (∀ b, isBlock b = true → s.blk b ≠ .offline → t.blk b = .gated)
    Ends (exec (.thermtrip sensor) s) (fun t => dead t ∧ t.pwr.thermtrip = true ∧ t.flag R.PWR_TRIP_TRIPPED = true ∧
      t.f R.PWR_TRIP_SENSOR = (if s.flag R.PWR_TRIP_TRIPPED = true then s.f R.PWR_TRIP_SENSOR else sensor.val) ∧
      (∀ d, (1 ≤ d ∧ d ≤ 20) ∨ (32 ≤ d ∧ d < 96) → t.domState d = 1) ∧ t.clk.ptime = s.clk.ptime ∧ t.clk.released = false) ∧
    Ends (exec .vddAonLoss s) (fun t => dead t ∧ (∀ o, 0x780000 ≤ o → o < 0x790000 → t.word o = resetWord o) ∧ t.clk = {} ∧ t.word R.ID_RESET_CAUSE.off = 1)) ∧
  ∀ (d : Fin 96) (s : State),
    (s.pwr.dark = true ∨ (s.domState d ≠ 2 ∧ ¬ (d.val = 1 ∧ s.pwr.waking = true)) → exec (.domainReady d) s = .next s) ∧
    (s.pwr.dark = false → s.domState d = 2 → ¬ (d.val = 1 ∧ s.pwr.waking = true) → s.fence.heldAcc = [] → Ends (exec (.domainReady d) s) fun t =>
      t.domState d = 0 ∧ t.fence.heldAcc = [] ∧ (d.val = 19 → t.rs.held = []) ∧ ((d.val = 19 → s.rs.held = []) → BytesKept s t) ∧ (∀ b ∈ domBlocks d, (s.blk b ≠ .offline → s.blk b ≠ .fenced → t.blk b = .running) ∧
        (s.blk b = .fenced → t.blk b = if s.repliesOut b = true then .fenced else .running) ∧ ∀ r ∈ t.fence.held, r.block ≠ b) ∧
      (∀ j, j ≠ d.val → j < 96 → t.domState j = s.domState j) ∧ (32 ≤ d.val → d.val < 64 → ∀ a, a < 32 → (t.anvN (d.val - 32) a).ttag = none))

/-- A tick starts a regular sequence on every enabled converter, or is skipped and counted while one runs or calibrates. A waiting injected conversion goes first and leaves the sequence where it stands; a calibration lets only those queued before it pass. Every conversion writes its buffer entry, with value, input, converter, marks and time, and shows the latest value. The corrected value is the calibrated code times GAIN, rounded, plus OFS, saturated. Two HK31 values further apart than the limit count a fault, and the third in a row sets SUSPECT; a passing comparison clears it; a sequence with a calibration compares nothing. The end of a sequence shows the highest temperature, and THROTTLE follows it with hysteresis, 2 while SUSPECT. A request to a full queue is dropped; calibration requests merge; runs that agree replace the correction, others are rejected. -/
def Obligations.Housekeeping : Prop :=
  (∀ s : State,
    let a := s.hkN 0
    let b := s.hkN 1
    (s.isRunning 0x0F = false → exec .hkSequenceTick s = .next s) ∧
    (s.isRunning 0x0F = true → a.active = true ∨ b.active = true ∨ a.cal = true ∨ b.cal = true → Ends (exec .hkSequenceTick s) fun t =>
      t.f R.HK_SEQ_SKIP = min (s.f R.HK_SEQ_SKIP + 1) (2 ^ 32 - 1) ∧ FieldsKept [R.HK_SEQ_SKIP] s t ∧ t = { s with regs := t.regs, sets := t.sets }) ∧
    (s.isRunning 0x0F = true → a.active = false → b.active = false → a.cal = false → b.cal = false → Ends (exec .hkSequenceTick s) fun t =>
      t.hkN 0 = { a with active := s.flag R.HK_CTRL_EN_A, pos := 0, hk31 := none } ∧ t.hkN 1 = { b with active := s.flag R.HK_CTRL_EN_B, pos := 0, hk31 := none } ∧
      t.hk.tmax = none ∧ t.hk.noCmp = false ∧ t.hk.faults = s.hk.faults ∧ t = { s with hk := t.hk })) ∧
  (∀ (x input code : Nat) (s : State),
    let c := s.hkN x
    let g : ℚ := s.f (R.HK_COR_GAIN input)
    let cal : ℚ := if c.calibrated = true then (code - c.zero / 8) * (4096 / (12 / 10)) / ((c.ref - c.zero) / 8) else code
    (c.calibrated = true → c.zero ≠ c.ref) → ∃ n : ℤ, |(n : ℚ) - cal * g / 4096| ≤ 1 / 2 ∧ s.hkValue x input code = satS 16 (n + s.fi (R.HK_COR_OFS input))) ∧
  (∀ (x : Fin 2) (code : BitVec 12) (s : State),
    let c := s.hkN x
    let o := exec (.hkConversion x code) s
    let other := 1 - x.val
    let v := fun (i : Nat) => s.hkValue x i code.toNat
    let entered := fun (i : Nat) (inj : Bool) (t : State) =>
      let w := t.wordsAt (0x70000 + 16 * (s.hk.written % 4096)) 4
      t.hk.written = s.hk.written + 1 ∧ t.f R.HK_BUF_HEAD = (s.f R.HK_BUF_HEAD + 1) % 2 ^ 32 ∧ t.fi (R.HK_LAST_VALUE i) = v i ∧
      sext 16 (bitsOf w 0 16) = v i ∧ bitsOf w 16 5 = i ∧ (bitOf w 21 = true ↔ x.val = 1) ∧ bitOf w 22 = inj ∧ bitOf w 23 = s.flag R.HK_STATUS_SUSPECT ∧
      bitsOf w 32 32 = ptNs s.now ∧ bitsOf w 64 32 = ptSec s.now % 2 ^ 32 ∧ bitsOf w 96 12 = code.toNat ∧ t.mem = s.mem ∧ t.clk = s.clk
    (s.isRunning 0x0F = false → o = .next s) ∧
    (s.isRunning 0x0F = true →
      ((c.inj = [] ∨ (c.cal = true ∧ c.calAfter = 0)) → (c.active = false ∨ c.cal = true) → o = .next s) ∧
      (∀ i rest, c.inj = i :: rest → i < 32 → (c.cal = false ∨ 0 < c.calAfter) → Ends o fun t => entered i true t ∧
        t.hkN x = { c with inj := rest, calAfter := c.calAfter - 1 } ∧ t.hkN other = s.hkN other ∧ t.fi (R.HK_INJ_RES_VALUE x) = v i ∧ t.f (R.HK_INJ_RES_INPUT x) = i ∧
        t.f (R.HK_INJ_RES_SEQ x) = (s.f (R.HK_INJ_RES_SEQ x) + 1) % 2 ^ 8 ∧ t.f R.HK_STATUS = s.f R.HK_STATUS ∧ t.hk.tmax = s.hk.tmax ∧ t.out = s.out) ∧
      (c.inj = [] → c.active = true → c.cal = false →
        let len := min 32 (s.f (if x.val = 0 then R.HK_SEQ_LEN_LEN_A else R.HK_SEQ_LEN_LEN_B))
        let i := if c.pos = 0 then 31 else s.f (R.HK_SEQ x ((c.pos - 1) / 4)) / 2 ^ (8 * ((c.pos - 1) % 4)) % 32
        let faults := s.hk.faults
        let apart := fun (r : ℤ) => s.f R.HK_PLAUS_LIM_LIM < (v 31 - r).natAbs
        Ends o fun t => entered i false t ∧ (t.hkN x).pos = c.pos + 1 ∧ ((t.hkN x).active = true ↔ c.pos < len) ∧ (t.hkN x).inj = [] ∧ (t.hkN other).pos = (s.hkN other).pos ∧
          (i < 12 → ∃ m k, t.hk.tmax = some (m, k) ∧ v i ≤ m ∧ (∀ y, s.hk.tmax = some y → y.1 ≤ m) ∧ (m = v i ∨ s.hk.tmax = some (m, k))) ∧ (12 ≤ i → t.hk.tmax = s.hk.tmax) ∧
          (0 < c.pos → t.f R.HK_STATUS_SUSPECT = s.f R.HK_STATUS_SUSPECT ∧ t.f R.HK_PLAUS_COUNT = s.f R.HK_PLAUS_COUNT ∧ t.hk.faults = faults) ∧
          (∀ r, c.pos = 0 → (s.hkN other).hk31 = some r →
            (s.hk.noCmp = true → t.f R.HK_STATUS_SUSPECT = s.f R.HK_STATUS_SUSPECT ∧ t.f R.HK_PLAUS_COUNT = s.f R.HK_PLAUS_COUNT ∧ t.hk.faults = faults) ∧
            (s.hk.noCmp = false → apart r → t.flag R.HK_STATUS_PLAUS_FAULT = true ∧ t.f R.HK_PLAUS_COUNT = min (s.f R.HK_PLAUS_COUNT + 1) (2 ^ 32 - 1) ∧ t.hk.faults = faults + 1 ∧
              (2 ≤ faults → t.flag R.HK_STATUS_SUSPECT = true ∧ t.f R.FAB_STATUS_THROTTLE = 2) ∧ (faults < 2 → t.f R.HK_STATUS_SUSPECT = s.f R.HK_STATUS_SUSPECT)) ∧
            (s.hk.noCmp = false → ¬ apart r → t.flag R.HK_STATUS_SUSPECT = false ∧ t.f R.HK_PLAUS_COUNT = s.f R.HK_PLAUS_COUNT ∧ t.hk.faults = 0)) ∧
          (∀ m k, 0 < c.pos → len ≤ c.pos → (s.hkN other).active = false → t.hk.tmax = some (m, k) → -(2 ^ 15) ≤ m → m < 2 ^ 15 → k < 12 →
            let old := s.f R.HK_STATUS_THROTTLE
            let t1 := s.fi R.HK_THERM_T1
            let t2 := s.fi R.HK_THERM_T2
            let h : ℤ := s.f R.HK_THERM_HYST_HYST
            t.fi R.HK_TMAX_T = m ∧ t.f R.HK_TMAX_SENSOR = k ∧ t.f R.FAB_STATUS_THROTTLE = t.f R.HK_STATUS_THROTTLE ∧
            (s.flag R.HK_STATUS_SUSPECT = true ∨ t2 ≤ m ∨ (old = 2 ∧ t2 - h ≤ m) → t.f R.HK_STATUS_THROTTLE = 2) ∧
            (s.flag R.HK_STATUS_SUSPECT = false → m < t2 → (old = 2 → m < t2 - h) →
              t.f R.HK_STATUS_THROTTLE = if t1 ≤ m ∨ (old ≠ 0 ∧ t1 - h ≤ m) then 1 else 0))))) ∧
  (∀ (pf : Fin 2) (x : Fin 2) (v : BitVec 32) (s : State), s.Opens pf (0x60200 + 4 * x) →
    let c := s.hkN x
    (4 ≤ c.inj.length → Ends (exec (.hkInject pf x v) s) fun t => t.flag R.HK_STATUS_INJ_DROP = true ∧ t.hk = s.hk ∧ FieldsKept [R.HK_STATUS_INJ_DROP] s t) ∧
    (c.inj.length < 4 → Ends (exec (.hkInject pf x v) s) fun t => t.hkN x = { c with inj := c.inj ++ [v.toNat % 32] } ∧ t.hkN (1 - x.val) = s.hkN (1 - x.val) ∧
      FieldsKept [] s t ∧ t.out = s.out)) ∧
  (∀ (x : Fin 2) (s : State),
    let c := s.hkN x
    let bit := if x.val = 0 then R.HK_CTRL_CAL_A else R.HK_CTRL_CAL_B
    (s.isRunning 0x0F = false → exec (.hkCalRequest x) s = .next s) ∧
    (s.isRunning 0x0F = true → Ends (exec (.hkCalRequest x) s) fun t => t.flag bit = true ∧ FieldsKept [bit] s t ∧ t = { s with regs := t.regs, sets := t.sets, hk := t.hk } ∧
      (c.cal = true → t.hk = s.hk) ∧
      (c.cal = false → t.hkN x = { c with cal := true, calAfter := c.inj.length } ∧ t.hk.noCmp = true ∧ t.hkN (1 - x.val) = s.hkN (1 - x.val)))) ∧
  ∀ (x : Fin 2) (z1 r1 z2 r2 : Fin 16384) (s : State),
    let c := s.hkN x
    let bit := if x.val = 0 then R.HK_CTRL_CAL_A else R.HK_CTRL_CAL_B
    let agree := z1.val ≤ z2 + 8 ∧ z2.val ≤ z1 + 8 ∧ r1.val ≤ r2 + 8 ∧ r2.val ≤ r1 + 8
    let o := exec (.hkCalDone x z1 r1 z2 r2) s
    (s.isRunning 0x0F = false ∨ c.cal = false ∨ 0 < c.calAfter → o = .next s) ∧
    (s.isRunning 0x0F = true → c.cal = true → c.calAfter = 0 →
      (agree → Ends o fun t => t.hkN x = { c with cal := false, zero := z1.val + z2.val, ref := r1.val + r2.val, calibrated := true } ∧ t.flag bit = false ∧
        t.f (R.HK_CAL_OK x) = min (s.f (R.HK_CAL_OK x) + 1) (2 ^ 32 - 1) ∧ t.ptimeAt (R.HK_CAL_PTIME x 0).off = s.now / 2 ^ 16 * 2 ^ 16 % ptimeSpan ∧
        t.f (R.HK_CAL_REJ x) = s.f (R.HK_CAL_REJ x) ∧ t.hkN (1 - x.val) = s.hkN (1 - x.val)) ∧
      (¬ agree → Ends o fun t => t.hkN x = { c with cal := false } ∧ t.flag bit = false ∧ t.flag R.HK_STATUS_CAL_REJ = true ∧
        t.f (R.HK_CAL_REJ x) = min (s.f (R.HK_CAL_REJ x) + 1) (2 ^ 32 - 1) ∧ FieldsKept [bit, R.HK_STATUS_CAL_REJ, R.HK_CAL_REJ x] s t ∧ t.hkN (1 - x.val) = s.hkN (1 - x.val)))

/-- CFG_SWITCH and CFG_REVERT complete BAD_PARAM on a device that is no manager, for an ACT_PTIME too near, and without a valid previous slot; else they load the slot that holds the version and wait, changing no item. A device without the version answers BAD_PARAM. At ACT_PTIME minus CL_HORIZON the switch is committed when every answer is OK; else it is aborted, with BAD_PARAM when an answer was a failure and TIMEOUT when one is missing. A worker acknowledges a PREPARE with its own check; a COMMIT makes it switch at ACT_PTIME, or at its arrival with CFG_LATE; an ABORT drops the target; without either it drops it at ACT_PTIME plus CL_HORIZON with CFG_MISS. At ACT_PTIME a slot in POST goes on to the end of its window, any other stops and takes its words; an arm that fails keeps its old words and is recorded with APPLY_FAIL. With the last item the versions move on. CFG_SAVE refuses version 0, one that another slot holds, and the active and previous slots; it takes the words as they stand, and the slot changes with its last step. -/
def Obligations.ConfigSwitch : Prop :=
  let manager := fun (s : State) => s.role = 0 ∨ s.role = 1
  let itemsKept := fun (s t : State) => ∀ o i, cfgItemOf o = some i → t.word o = s.word o
  let dropped := fun (t : State) => t.cl.prep = none ∧ t.flag R.CFG_STATUS_PENDING = false ∧ t.f R.CFG_STATUS_PEND_SLOT = 0 ∧ t.f R.CFG_PEND_VERSION = 0 ∧ t.cfg.items = []
  let frame := fun (s t : State) => WordsKept (fun o => o = 0x7E0000 ∨ o = 0x7E0008 ∨ (0x7E0020 ≤ o ∧ o < 0x7E0030)) s t ∧
    t.f R.CFG_STATUS_ACTIVE = s.f R.CFG_STATUS_ACTIVE ∧ t.f R.CFG_STATUS_PREV = s.f R.CFG_STATUS_PREV ∧ t.f R.CFG_STATUS_PREV_VALID = s.f R.CFG_STATUS_PREV_VALID
  let moved := fun (s t : State) => dropped t ∧ t.f R.CFG_STATUS_ACTIVE = s.cfg.slot % 4 ∧ t.f R.CFG_STATUS_PREV = s.f R.CFG_STATUS_ACTIVE ∧
    (t.flag R.CFG_STATUS_PREV_VALID = true ↔ s.f R.CFG_VERSION ≠ 0) ∧ t.f R.CFG_VERSION = s.f R.CFG_PEND_VERSION ∧
    t.f R.CFG_SWITCHES = min (s.f R.CFG_SWITCHES + 1) (2 ^ 32 - 1)
  let finished := fun (s t : State) (c : LongCmd) (status : Nat) => t.host.longs = [] ∧
    (s.f (R.HI_RING_STATUS_STATE c.ring) = 1 → s.cplFull c.ring = false → (∀ w ∈ s.host.waiting, w.ring ≠ c.ring) → s.hostOff = false → c.stopped = false →
      .hostWrite (s.f (R.HI_RING_CBASE c.ring) + 16 * s.f (R.HI_RING_CPTR_CTAIL c.ring))
        (leBytes 2 c.entry.tag.toNat ++ leBytes 1 status ++ leBytes 1 (s.f (R.HI_RING_CPTR_PHASE c.ring))) ∈ t.out)
  let held := fun (s t : State) (act version : Nat) (revert : Bool) (slot : Option Nat) => itemsKept s t ∧ t.f R.CFG_VERSION = s.f R.CFG_VERSION ∧
    ∃ p : PrepSt, t.cl.prep = some p ∧ p.act = act ∧ p.version = version ∧ p.revert = revert ∧ p.commit = false ∧
      (slot = none → p.own = 0x11 ∧ t.cfg = s.cfg ∧ t.f R.CFG_STATUS_PENDING = s.f R.CFG_STATUS_PENDING) ∧
      (∀ n, slot = some n → n < 4 → t.flag R.CFG_STATUS_PENDING = true ∧ t.f R.CFG_STATUS_PEND_SLOT = n ∧ t.f R.CFG_PEND_VERSION = (s.cfgSlot n).version % 2 ^ 32 ∧
        t.cfg.slot = n ∧ t.cfg.image = (s.cfgSlot n).image ∧ t.cfg.acting = false ∧ t.cfg.slots = s.cfg.slots ∧ ∀ x ∈ t.cfg.items, x.2 = .stop)
  (∀ (k : Fin 16) (f : Fetch) (s : State),
    let act := ptOf128 (f.entry.param 0 + 2 ^ 64 * f.entry.param 1)
    let v := f.entry.param 2
    let o := exec (.cfgSwitch k f) s
    let o' := exec (.cfgRevert k f) s
    let prev := s.f R.CFG_STATUS_PREV
    let fails := fun (o : Host.Outcome State Fault Refusal) (code : Nat) => Ends o fun t => Completed s t k f code 0 ∧ t.cfg = s.cfg ∧ t.cl.prep = s.cl.prep ∧ itemsKept s t
    (s.Starts k f true false [2 ^ 64 - 1, 2 ^ 64 - 1, 0xFFFFFFFF] →
      (¬ manager s ∨ act < s.now + 2 * s.horizon → fails o 0x11) ∧
      (manager s → s.now + 2 * s.horizon ≤ act → s.storeHeld = true → fails o 0x22) ∧
      (manager s → s.now + 2 * s.horizon ≤ act → s.storeHeld = false → Ends o fun t => Continues s t k f ∧ held s t act v false (s.slotOf v))) ∧
    (s.Starts k f true false [2 ^ 64 - 1, 2 ^ 64 - 1] →
      (¬ manager s ∨ s.flag R.CFG_STATUS_PREV_VALID = false ∨ act < s.now + 2 * s.horizon → fails o' 0x11) ∧
      (manager s → s.flag R.CFG_STATUS_PREV_VALID = true → s.now + 2 * s.horizon ≤ act → s.storeHeld = false → Ends o' fun t => Continues s t k f ∧
        held s t act (s.cfgSlot prev).version true (if (s.cfgSlot prev).ok = true then some prev else none)))) ∧
  (∀ (p : PrepSt) (c : LongCmd) (s : State), s.cl.prep = some p →
    let o := exec .cfgAnswerDeadline s
    let answered := ∀ j ∈ s.children, ∃ a ∈ p.answers, a.1 = j
    (p.commit = true ∨ ¬ manager s ∨ s.now + s.horizon < p.act → o = .next s) ∧
    (p.commit = false → manager s → p.act ≤ s.now + s.horizon → s.host.longs = [c] → c.ring < 16 → c.entry.opcode = 0x61 ∨ c.entry.opcode = 0x62 →
      (p.own ≠ 0 ∨ (∃ a ∈ p.answers, a.2.1 ≠ 0) → Ends o fun t => finished s t c 0x11 ∧ dropped t ∧ itemsKept s t) ∧
      (p.own = 0 → (∀ a ∈ p.answers, a.2.1 = 0) → ¬ answered → Ends o fun t => finished s t c 0x40 ∧ dropped t ∧ itemsKept s t) ∧
      (p.own = 0 → (∀ a ∈ p.answers, a.2.1 = 0) → answered → Ends o fun t => finished s t c 0x00 ∧ t.cl.prep = some { p with commit := true } ∧ t.cfg = s.cfg ∧ itemsKept s t))) ∧
  (∀ (p : PrepSt) (s : State), s.cl.prep = some p →
    let o := exec .cfgActivate s
    let due := p.commit = true ∧ s.cfg.acting = false ∧ s.flag R.CFG_STATUS_PENDING = true ∧ p.act ≤ s.now
    (¬ due → o = .next s) ∧
    (due →
      (s.cfg.items = [] → Ends o fun t => moved s t ∧ itemsKept s t ∧ t.out = s.out ∧ t.mem = s.mem) ∧
      ∀ n, n < 64 → s.cfg.items = [(.slot n, .stop)] →
        (s.acqState n = aPost → o = .next { s with cfg := { s.cfg with acting := true } }) ∧
        (s.acqState n ≠ aPost → n ∉ s.cfg.image.armed → Ends o fun t => moved s t ∧ (∀ w, cfgItemOf w = some (.slot n) → t.word w = tget resetWord s.cfg.image.regs w &&& BitVec.ofNat 32 (fieldBits w)) ∧
          (s.slotPending n = true → t.acqState n = aIdle) ∧ t.f R.CFG_STATUS_APPLY_FAIL = s.f R.CFG_STATUS_APPLY_FAIL ∧
          ∀ w i, cfgItemOf w = some i → i ≠ .slot n → t.word w = s.word w) ∧
        (s.slotPending n = false → s.acqState n ≠ aPost → n ∈ s.cfg.image.armed → bitsOf (tget resetWord s.cfg.image.regs (R.ACQ_MODE_KIND n).off).toNat 0 2 = 3 →
          Ends o fun t => moved s t ∧ itemsKept s t ∧ t.flag R.CFG_STATUS_APPLY_FAIL = true ∧ t.acqState n = s.acqState n ∧
            (s.cfg.failed = false → t.f R.CFG_FAIL_BLOCK = 0x61 ∧ t.f R.CFG_FAIL_CODE = t.f (R.ACQ_STATUS_RESULT n) ∧ t.f R.CFG_FAIL_CODE ≠ 0)))) ∧
  (∀ (k : Fin 16) (c : Carriage) (s : State), s.Hears k c cCFGSW → s.isParent k = true → s.role = 3 → s.ctlTake k c = .act →
    let p := c.payload.toNat
    let rev := bitOf c.flags.toNat 2
    let phase := bitsOf c.flags.toNat 0 2
    let v := bitsOf p 128 32
    let ack := fun (status dev : Nat) => ({ seq := c.seq.toNat, type_ := cACK, flags := 0, payload := status + 2 ^ 8 * cCFGSW + 2 ^ 16 * dev + 2 ^ 32 * s.f R.CL_PATH } : CtlCarriage)
    let sent := fun (t : State) (status dev : Nat) => ∃ post, (t.linkN k).waiting = (s.linkN k).waiting ++ ack status dev :: post
    let next := fun (t : State) => (t.linkN k).rxSeq = ((s.linkN k).rxSeq + 1) % 2 ^ 16
    (phase = 0 →
      (∀ q, s.cl.prep = some q → Ends (exec (.cfgswPrepare k c) s) fun t => sent t 0x22 (s.f R.CL_STATUS_DEV) ∧ next t ∧ t.cl.prep = some q ∧ t.cfg = s.cfg ∧ t.regs = s.regs) ∧
      (s.cl.prep = none → Ends (exec (.cfgswPrepare k c) s) fun t => next t ∧ itemsKept s t ∧
        (∃ q, t.cl.prep = some q ∧ q.act = payPtime p ∧ q.answered = true ∧ q.commit = false ∧ sent t q.own (if q.own = 0 then 0 else s.f R.CL_STATUS_DEV)) ∧
        (rev = false → s.slotOf v = none → sent t 0x11 (s.f R.CL_STATUS_DEV) ∧ t.cfg = s.cfg) ∧
        (∀ n, n < 4 → rev = false → s.slotOf v = some n → t.flag R.CFG_STATUS_PENDING = true ∧ t.f R.CFG_STATUS_PEND_SLOT = n ∧ t.cfg.image = (s.cfgSlot n).image))) ∧
    (phase = 1 →
      (s.cl.prep = none → Ends (exec (.cfgswCommit k c) s) fun t => sent t 0 0 ∧ next t ∧ t.cl.prep = none ∧ t.cfg = s.cfg ∧ t.regs = s.regs) ∧
      ∀ q, s.cl.prep = some q →
        (s.now ≤ q.act → Ends (exec (.cfgswCommit k c) s) fun t => sent t 0 0 ∧ next t ∧ t.cl.prep = some { q with commit := true } ∧ t.cfg = s.cfg ∧ t.regs = s.regs) ∧
        (q.act < s.now → s.cfg.acting = false → s.flag R.CFG_STATUS_PENDING = true → s.cfg.items = [] → Ends (exec (.cfgswCommit k c) s) fun t => sent t 0 0 ∧ next t ∧
          moved s t ∧ t.flag R.CL_STATUS_CFG_LATE = true ∧ t.f R.CL_CFG_LATE = min (s.f R.CL_CFG_LATE + 1) (2 ^ 32 - 1))) ∧
    (phase = 2 → ∀ q, s.cl.prep = some q →
      (q.commit = false → Ends (exec (.cfgswAbort k c) s) fun t => sent t 0 0 ∧ next t ∧ dropped t ∧ frame s t) ∧
      (q.commit = true → Ends (exec (.cfgswAbort k c) s) fun t => sent t 0 0 ∧ next t ∧ t.cl.prep = some q ∧ t.cfg = s.cfg ∧ t.regs = s.regs))) ∧
  (∀ (p : PrepSt) (s : State), s.cl.prep = some p →
    (p.commit = true ∨ manager s ∨ s.now < p.act + s.horizon → exec .cfgPrepareExpiry s = .next s) ∧
    (p.commit = false → ¬ manager s → p.act + s.horizon ≤ s.now → Ends (exec .cfgPrepareExpiry s) fun t => t.flag R.CL_STATUS_CFG_MISS = true ∧ dropped t ∧ itemsKept s t ∧
      t.f R.CFG_VERSION = s.f R.CFG_VERSION ∧ t.f R.CFG_STATUS_ACTIVE = s.f R.CFG_STATUS_ACTIVE ∧ t.f R.CFG_SWITCHES = s.f R.CFG_SWITCHES)) ∧
  (∀ (k : Fin 16) (f : Fetch) (s : State), s.Starts k f true false [0x3, 0xFFFFFFFF] →
    let slot := f.entry.param 0
    let v := f.entry.param 1
    let o := exec (.cfgSave k f) s
    let taken := ∃ n, n < 4 ∧ n ≠ slot ∧ (s.cfgSlot n).version = v ∧ (s.cfgSlot n).ok = true
    let used := (s.f R.CFG_VERSION ≠ 0 ∧ s.f R.CFG_STATUS_ACTIVE = slot) ∨ (s.flag R.CFG_STATUS_PREV_VALID = true ∧ s.f R.CFG_STATUS_PREV = slot) ∨ s.storeHeld = true
    (v = 0 ∨ taken → Ends o fun t => Completed s t k f 0x11 0 ∧ t.cfg = s.cfg) ∧
    (v ≠ 0 → ¬ taken → used → Ends o fun t => Completed s t k f 0x22 0 ∧ t.cfg = s.cfg) ∧
    (v ≠ 0 → ¬ taken → ¬ used → Ends o fun t => Continues s t k f ∧ itemsKept s t ∧ ∃ x, t.cfg = { s.cfg with save := some (slot, x) } ∧ x.version = v ∧ x.ok = true ∧
      (s.regsWf = true → ∀ w i, cfgItemOf w = some i → s.cfgMine (s.ringSecure k) i = true → tget resetWord x.image.regs w = cfgPart w (s.word w)))) ∧
  ∀ (c : LongCmd) (slot : Nat) (x : CfgSlot) (s : State), s.isRunning 0 = true → s.host.longs = [c] → c.ring < 16 → c.entry.opcode = 0x63 → s.cfg.save = some (slot, x) → slot < 4 →
    let last := ∀ n, c.env[0]? = some n → n.toNat ≤ c.phase + 1
    (¬ last → Ends (exec .coachmanRound s) fun t => t.cfg = s.cfg ∧ ∀ n, n < 4 → t.f (R.CFG_SLOT_VER n) = s.f (R.CFG_SLOT_VER n)) ∧
    (last → Ends (exec .coachmanRound s) fun t => finished s t c 0x00 ∧ t.cfgSlot slot = x ∧ t.f (R.CFG_SLOT_VER slot) = x.version % 2 ^ 32 ∧ t.cfg.save = none ∧
      (∀ n, n < 4 → n ≠ slot → t.f (R.CFG_SLOT_VER n) = s.f (R.CFG_SLOT_VER n) ∧ t.cfgSlot n = s.cfgSlot n) ∧ itemsKept s t)

/-- The secure commands complete BAD_WORLD from a non-secure ring. SEC_ASSIGN refuses unknown objects, blocks out of service and objects in use; a chain, a disabled ring and an idle context group change world with their registers at reset, and a chain with a new epoch and no state. SEC_REGION refuses a misaligned, empty or too large region, an overlap with another enabled entry of the space, and a change that an allocation forbids; else the entry holds what was asked (which space and whether it is enabled is free, for the spec names no parameter for them). IMAGE_VERIFY and ATTEST wait while another command holds the Keccak engine. The verdict on an image follows the order of the table: layout, key slot, key hash, signature, version. ATTEST without a checked certificate completes SIG_INVALID, into too small a buffer REFUSED_SIZE with the size needed, and else writes the report with its fields, signature and certificate. KEY_REVOKE burns the slot's fuse unless no other firmware slot would remain. -/
def Obligations.Security : Prop :=
  let finished := fun (s t : State) (c : LongCmd) (status : Nat) => t.host.longs = [] ∧
    (s.f (R.HI_RING_STATUS_STATE c.ring) = 1 → s.cplFull c.ring = false → (∀ w ∈ s.host.waiting, w.ring ≠ c.ring) → s.hostOff = false → c.stopped = false →
      .hostWrite (s.f (R.HI_RING_CBASE c.ring) + 16 * s.f (R.HI_RING_CPTR_CTAIL c.ring))
        (leBytes 2 c.entry.tag.toNat ++ leBytes 1 status ++ leBytes 1 (s.f (R.HI_RING_CPTR_PHASE c.ring))) ∈ t.out)
  let owners : List Owner := (List.range 256).map .block ++ (List.range 16).map .ring ++ (List.range 48).map .group
  let worldsKept := fun (s t : State) (but : List Owner) => ∀ o ∈ owners, o ∉ but → t.ownerSecure o = s.ownerSecure o
  (∀ (k : Fin 16) (f : Fetch) (s : State),
    let n := f.entry.param 0 % 256
    let kind := f.entry.param 0 / 256 % 4
    let w := (f.entry.param 1 % 2 == 1)
    let o := exec (.secAssign k f) s
    let fails := fun (code : Nat) => Ends o fun t => Completed s t k f code 0 ∧ worldsKept s t [] ∧ t.fch = s.fch ∧ t.ctx = s.ctx
    let asleep := kind = 0 ∧ (s.blk n = .gated ∨ s.blk n = .waking)
    (s.Starts k f false false [0x3FF, 0x1] → s.ringSecure k = false → fails 0x12) ∧
    (s.Starts k f false true [0x3FF, 0x1] →
      (asleep → Ends o fun t => t.f (R.HI_RING_PTR_HEAD k) = s.f (R.HI_RING_PTR_HEAD k) ∧ t.out = s.out ∧ worldsKept s t []) ∧
      (¬ asleep →
        (kind = 3 ∨ (kind = 0 ∧ (isBlock n = false ∨ n = 0x00 ∨ n = 0x6C)) ∨ (kind = 1 ∧ 16 ≤ n) ∨ (kind = 2 ∧ 48 ≤ n) → fails 0x11) ∧
        (kind = 0 → isBlock n = true → n ≠ 0x00 → n ≠ 0x6C → (s.blk n = .fenced → fails 0x30) ∧ (s.blk n = .offline → fails 0x31) ∧
          (s.blk n = .running → (s.blkUse n).isSome = true → fails 0x22)) ∧
        (kind = 0 → 0x10 ≤ n → n < 0x20 → s.blk n = .running → s.flag (R.FCH_CTRL_EN (n - 0x10)) = false → (∀ r ∈ s.fence.replies, r.1.block ≠ n) → (∀ r ∈ s.fence.accepted, r.block ≠ n) →
          Ends o fun t => Completed s t k f 0 0 ∧ t.ownerSecure (.block n) = w ∧ worldsKept s t [.block n] ∧ t.epoch n = (s.epoch n + 1) % 256 ∧ t.blk n = .running ∧
            t.fchN (n - 0x10) = {} ∧ (∀ j, j ≠ n - 0x10 → t.fchN j = s.fchN j) ∧ (∀ a, ownerOf a = .block n → t.word a = resetWord a) ∧ t.mem = s.mem ∧ t.ctx = s.ctx) ∧
        (kind = 1 → n < 16 → (s.f (R.HI_RING_STATUS_STATE n) ≠ 0 → fails 0x22) ∧
          (s.f (R.HI_RING_STATUS_STATE n) = 0 → Ends o fun t => Completed s t k f 0 0 ∧ t.ownerSecure (.ring n) = w ∧ worldsKept s t [.ring n] ∧ t.mem = s.mem ∧
            ∀ a, ownerOf a = .ring n → a ≠ (R.HI_RING_CTRL_WORLD n).off → t.word a = resetWord a)) ∧
        (kind = 2 → n < 48 → ((∃ c ∈ s.liveCtxs, c / 64 = n) → fails 0x22) ∧
          ((∀ c ∈ s.liveCtxs, c / 64 ≠ n) → Ends o fun t => Completed s t k f 0 0 ∧ t.ownerSecure (.group n) = w ∧ worldsKept s t [.group n] ∧
            (∀ a, ownerOf a = .group n → t.word a = resetWord a) ∧ (∀ c, c / 64 = n → t.ctxN c = {}) ∧ ∀ c, c / 64 ≠ n → t.ctxN c = s.ctxN c))))) ∧
  (∀ (k : Fin 16) (f : Fetch) (s : State),
    let e := f.entry.param 0 % 64
    let base := f.entry.param 1
    let size := f.entry.param 2
    let w := f.entry.param 3 % 2 = 1
    let sp := (Config.regionSpace e base size).1 % 4
    let en := (Config.regionSpace e base size).2
    let bad := base % 4096 ≠ 0 ∨ size % 4096 ≠ 0 ∨ size = 0 ∨ spaceSize sp < base + size
    let clash := en = true ∧ ∃ i, i < 64 ∧ i ≠ e ∧ s.flag (R.SEC_REGION_CFG_EN i) = true ∧ s.f (R.SEC_REGION_CFG_SPACE i) = sp ∧ base < s.entryEnd i ∧ s.entryBase i < base + size
    let kept := fun (t : State) (P : Nat → Prop) => ∀ i, i < 64 → P i → t.f (R.SEC_REGION_CFG i) = s.f (R.SEC_REGION_CFG i) ∧
      t.f (R.SEC_REGION_BASE i) = s.f (R.SEC_REGION_BASE i) ∧ t.f (R.SEC_REGION_SIZE i) = s.f (R.SEC_REGION_SIZE i)
    let o := exec (.secRegion k f) s
    let masks := [0x3F, 2 ^ 64 - 1, 2 ^ 64 - 1, 0x1]
    (s.Starts k f false false masks → s.ringSecure k = false → Ends o fun t => Completed s t k f 0x12 0 ∧ kept t fun _ => True) ∧
    (s.Starts k f false true masks →
      (bad ∨ clash → Ends o fun t => Completed s t k f 0x11 0 ∧ kept t fun _ => True) ∧
      (¬ bad → ¬ clash →
        (en = true → w → s.secureEntry sp e = false → (∃ b n, (false, sp, b, n) ∈ s.allocations ∧ max b base < min (b + n) (base + size)) →
          Ends o fun t => Completed s t k f 0x22 0 ∧ kept t fun _ => True) ∧
        (s.allocations = [] → Ends o fun t => Completed s t k f 0x00 0 ∧ t.entryBase e = base ∧ t.entryEnd e = base + size ∧ t.f (R.SEC_REGION_CFG_SPACE e) = sp ∧
          (t.flag (R.SEC_REGION_CFG_WORLD e) = true ↔ w) ∧ t.flag (R.SEC_REGION_CFG_EN e) = en ∧ t.mem = s.mem ∧ kept t fun i => i ≠ e)))) ∧
  (∀ (k : Fin 16) (f : Fetch) (s : State),
    (s.Starts k f true false [2 ^ 64 - 1, 0xFFFFFFFF] →
      (f.read 0 = none → Ends (exec (.imageVerify k f) s) fun t => Completed s t k f 0x42 0 ∧ t.sec = s.sec) ∧
      (f.read 0 ≠ none → Ends (exec (.imageVerify k f) s) fun t => Continues s t k f ∧ t.sec = s.sec)) ∧
    (s.Starts k f true false [2 ^ 64 - 1, 2 ^ 64 - 1, 0xFFFFFFFF] →
      (f.read 0 = none → Ends (exec (.attest k f) s) fun t => Completed s t k f 0x42 0 ∧ t.sec = s.sec) ∧
      (f.read 0 ≠ none → Ends (exec (.attest k f) s) fun t => Continues s t k f ∧ t.sec = s.sec)) ∧
    (s.Starts k f true false [0x3] → s.ringSecure k = false → Ends (exec (.keyRevoke k f) s) fun t => Completed s t k f 0x12 0 ∧ FieldsKept [R.HI_RING_PTR_HEAD k, R.HI_RING_CPTR_CTAIL k, R.HI_RING_CPTR_PHASE k] s t) ∧
    (s.Starts k f true true [0x3] →
      let n := f.entry.param 0
      let others := ∃ i, i < 4 ∧ i ≠ n ∧ s.flag (R.SEC_KEYS_VALID i) = true ∧ s.flag (R.SEC_KEYS_REVOKED i) = false ∧ bitOf (s.f (R.SEC_KEYS_USE i)) 2 = true
      let ends := fun (code : Nat) => Ends (exec (.keyRevoke k f) s) fun t => Completed s t k f code 0 ∧ ∀ i, i < 4 → t.f (R.SEC_KEYS i) = s.f (R.SEC_KEYS i)
      ((∃ c ∈ s.host.longs, c.entry.opcode = 0x74) → ends 0x22) ∧
      ((∀ c ∈ s.host.longs, c.entry.opcode ≠ 0x74) →
        (s.flag (R.SEC_KEYS_REVOKED n) = true → ends 0x00) ∧ (s.flag (R.SEC_KEYS_REVOKED n) = false → ¬ others → ends 0x11) ∧
        (s.flag (R.SEC_KEYS_REVOKED n) = false → others → Ends (exec (.keyRevoke k f) s) fun t => Continues s t k f ∧ ∀ i, i < 4 → t.f (R.SEC_KEYS i) = s.f (R.SEC_KEYS i))))) ∧
  ∀ (c : LongCmd) (s : State), s.isRunning 0 = true → s.host.longs = [c] → c.ring < 16 →
    let o := exec .coachmanRound s
    let busy := s.reloadMeasures = true ∨ ∃ h, s.sec.keccak = some h ∧ h ≠ (c.ring, c.entry.tag)
    let more := ((c.aux[0]?).getD 0) + 1 < c.engineSteps
    let works := fun (t : State) => t.sec.keccak = some (c.ring, c.entry.tag) ∧ ∃ d, t.host.longs = [d] ∧ d.steps = c.steps + 1 ∧ d.phase = 1
    (c.entry.opcode = 0x74 → let n := c.entry.param 0 % 4
      Ends o fun t => finished s t c 0 ∧ t.flag (R.SEC_KEYS_REVOKED n) = true ∧ bitOf (t.f R.SEC_STATUS_REVOKED) n = true ∧
        t.f (R.SEC_KEYS_VALID n) = s.f (R.SEC_KEYS_VALID n) ∧ t.f (R.SEC_KEYS_USE n) = s.f (R.SEC_KEYS_USE n) ∧
        ∀ i, i < 4 → i ≠ n → t.f (R.SEC_KEYS i) = s.f (R.SEC_KEYS i) ∧ bitOf (t.f R.SEC_STATUS_REVOKED) i = bitOf (s.f R.SEC_STATUS_REVOKED) i) ∧
    (c.entry.opcode = 0x70 →
      let im := c.image
      let slot := leAt im 8 1
      let kind := leAt im 6 2
      let len := leAt im 0x0C 4
      let signed := im.take (0x80 + len)
      let malformed := leAt im 0 4 ≠ 0x4C534731 ∨ leAt im 4 2 ≠ 1 ∨ kind < 1 ∨ 3 < kind ∨ im.length < 0x80 + len + 29792 ∨ 1 < leAt im 0x0A 2 ∨ ∃ b ∈ (im.drop 0x50).take 48, b ≠ 0
      let admits := slot < 4 ∧ s.flag (R.SEC_KEYS_VALID slot) = true ∧ s.flag (R.SEC_KEYS_REVOKED slot) = false ∧ bitOf (s.f (R.SEC_KEYS_USE slot)) (kind - 1) = true
      let keyOk := shake256 ((im.drop 0x10).take 64) = Config.keyHash slot
      let sigOk := Config.sigOk ((im.drop 0x10).take 64) signed ((im.drop (0x80 + len)).take 29792) = true
      let old := kind ≠ 1 ∧ leAt im 9 1 < s.f R.SEC_STATUS_SVN
      (busy → o = .next s) ∧ (¬ busy → more → Ends o works) ∧
      (¬ busy → ¬ more →
        let ends := fun (code : Nat) => Ends o fun t => finished s t c code ∧ t.sec.keccak = none ∧ t.mem = s.mem ∧ t.fab = s.fab
        (malformed → ends 0x11) ∧ (¬ malformed → ¬ (admits ∧ keyOk ∧ sigOk) → ends 0x60) ∧
        (¬ malformed → admits → keyOk → sigOk → (old → ends 0x61) ∧ (¬ old → ends 0x00)))) ∧
    (c.entry.opcode = 0x71 → c.phase = 0 → ∀ nonce, c.reads[0]? = some (some nonce) → nonce.length = 64 →
      let m := (if s.fab.golden = [] then 1 else 2) + s.fab.images.length
      let size := 192 + 80 * m + 49856
      (busy → o = .next s) ∧
      (¬ busy → s.sec.certOk = false → Ends o fun t => finished s t c 0x60 ∧ t.sec = s.sec) ∧
      (¬ busy → s.sec.certOk = true → c.entry.param 2 < size + s.sec.cert.length → Ends o fun t => finished s t c 0x21 ∧ t.sec = s.sec) ∧
      (¬ busy → s.sec.certOk = true → size + s.sec.cert.length ≤ c.entry.param 2 → c.aux = [0] → (1 < c.engineSteps → Ends o works) ∧
        (c.engineSteps = 1 → s.hostOff = false → Ends o fun t => finished s t c 0x00 ∧ t.sec.keccak = none ∧
          ∃ body sig, body.length = 192 + 80 * m ∧ sig.length = 49856 ∧ .hostWrite (c.entry.param 1) (body ++ sig ++ s.sec.cert) ∈ t.out ∧
            leAt body 0 4 = 0x41545331 ∧ leAt body 4 4 = size % 2 ^ 32 ∧ leAt body 8 8 = s.f R.SEC_SERIAL ∧ (body.drop 0x10).take 64 = nonce ∧
            leAt body 0x60 4 = s.f R.CFG_VERSION ∧ leAt body 0x64 4 = s.f R.CFG_PEND_VERSION ∧ leAt body 0x6A 2 = m % 2 ^ 16 ∧
            leAt body 0x80 64 = s.wordsAt (R.SEC_IDPK 0).off 16 ∧ leAt body 0xC0 4 = 3 ∧ leAt body 0xD0 64 = s.wordsAt (R.SEC_MEAS_FW 0).off 16)))

/-- PORST_N returns every register but fuses, flash versions and PWR_TRIP to its reset value and clears all memories. A WARM_N pulse under 100 ns does nothing; a longer one and the watchdog restart every domain but AON at the ROM stage: PTIME, capture memory, error log and fuses stay, ID_WARM_INDEX takes the sample index, every block enters FENCED with its epoch up by one, what it had accepted or held is answered TARGET_RESET, and it runs once no reply of an earlier epoch is out. The watchdog expires 100 ms after its last write once READY, and is logged. A stage that fails is recorded with its code: without crystal the boot holds, without good firmware it waits for the host, without microcode, certificate or kernels it goes on. The clock stage ends with LOCKED held for 5 ms, if these end within its 100 ms: the dividers release at the next alignment tick, the tracker enters ACQUIRE (COAST after a warm reset or a sleep), first passes and housekeeping calibrations begin; after 100 ms without it the boot stops. READY raises the anti-rollback counter and begins the configuration boot. ID_BRESET drops a GO while BUSY, refuses the numbers that have no reset, the other world and a hearth in use, leaves a gated block alone, and clears a hearth with a new epoch. -/
def Obligations.ResetAndBoot : Prop :=
  let fuses := fun (s t : State) => t.f R.SEC_STATUS_SVN = s.f R.SEC_STATUS_SVN ∧ t.f R.SEC_STATUS_REVOKED = s.f R.SEC_STATUS_REVOKED ∧
    t.f R.SEC_STATUS_PF1_EN = s.f R.SEC_STATUS_PF1_EN ∧ t.f R.SEC_STATUS_BOOT_SLOT = 0 ∧ t.cfg.slots = s.cfg.slots ∧
    ∀ i, i < 4 → t.f (R.SEC_KEYS i) = s.f (R.SEC_KEYS i) ∧ t.f (R.CFG_SLOT_VER i) = s.f (R.CFG_SLOT_VER i)
  let burnt := fun (o : Nat) => o = 0x7C0000 ∨ (0x7C0010 ≤ o ∧ o < 0x7C0020) ∨ (0x7E0010 ≤ o ∧ o < 0x7E0020)
  let log := fun (o : Nat) => o = 0x264 ∨ o = 0x268 ∨ (0x1000 ≤ o ∧ o < 0x5000)
  let warm := fun (s t : State) (cause : Nat) => fuses s t ∧ t.f R.ID_RESET_CAUSE_CAUSE = cause ∧ t.f R.ID_BOOT_STAGE = 2 ∧
    t.clk.ptime = s.clk.ptime ∧ t.clk.released = false ∧ t.f R.ID_WARM_INDEX = s.clk.sampleIdx % 2 ^ 64 ∧ t.f R.PWR_STATUS_STATE = 0 ∧ t.f R.PWR_TRIP = s.f R.PWR_TRIP ∧
    t.pending = s.pending ∧ (∃ mv, t.out = s.out ++ [.avsWrite mv]) ∧
    (∀ b, isBlock b = true → t.epoch b = (s.epoch b + 1) % 256 ∧ t.blk b = if t.repliesOut b = true then .fenced else .running) ∧
    (∀ r, isBlock r.block = true → (r ∈ s.fence.accepted → (r, stTargetReset) ∈ t.fence.replies) ∧ (r ∈ s.fence.held → ({ r with epoch := s.epoch r.block }, stTargetReset) ∈ t.fence.replies) ∧
      r ∉ t.fence.accepted) ∧ t.fence.held = [] ∧ t.fence.heldAcc = [] ∧ t.tp.decisions = s.tp.decisions ∧
    (∀ f, f < 32 → t.f (R.FRG_MC_STATUS_COUNT f) = s.f (R.FRG_MC_STATUS_COUNT f)) ∧
    (∀ a, a < 2 ^ 40 → ((∀ m, m < 2 → (s.mcN m).wq = []) → t.byteAt 0 a = s.byteAt 0 a) ∧ ∀ sp, 0 < sp → t.byteAt sp a = 0) ∧
    ∀ o, 0x10000 ≤ o → ¬ burnt o → o ≠ R.MC_STATUS_INIT.off → o ≠ R.CLK_STATUS_LOCKA_NET.off → ¬ (0x41000 ≤ o ∧ o < 0x49000) → ¬ (0x780000 ≤ o ∧ o < 0x790000) →
      (∀ f, f < 32 → o ≠ (R.FRG_MC_STATUS_COUNT f).off) → t.word o = resetWord o
  let failed := fun (s t : State) (code : Nat) => t.f R.ID_BOOT_CAUSE = code ∧ t.f R.ID_ERRLOG_HEAD = (s.f R.ID_ERRLOG_HEAD + 1) % 2 ^ 32
  (∀ s : State, Ends (exec .porstN s) fun t => fuses s t ∧ t.pending = s.pending ∧ t.out = s.out ∧ t.clk = {} ∧ t.host = {} ∧ t.fence = {} ∧ t.f R.PWR_TRIP = s.f R.PWR_TRIP ∧
    t.f R.ID_RESET_CAUSE_CAUSE = (if s.flag R.PWR_TRIP_TRIPPED = true then 9 else 1) ∧ (∀ sp a, t.byteAt sp a = 0) ∧
    ∀ o, ¬ burnt o → o ≠ 0x78007C → o ≠ R.ID_RESET_CAUSE_CAUSE.off → t.word o = resetWord o) ∧
  (∀ (ns : Nat) (s : State), (ns < 100 ∨ s.pwr.dark = true → exec (.warmN ns) s = .next s) ∧
    (100 ≤ ns → s.pwr.dark = false → Ends (exec (.warmN ns) s) fun t => warm s t 2 ∧ ∀ o, log o → t.word o = s.word o)) ∧
  (∀ s : State,
    let due := s.f R.ID_BOOT_STAGE = 7 ∧ s.pwr.dark = false ∧ s.f R.PWR_STATUS_STATE < 3 ∧ s.boot.kick + 100000000 * 2 ^ 48 ≤ s.clk.elapsed
    (¬ due → exec .watchdogExpiry s = .next s) ∧
    (due → Ends (exec .watchdogExpiry s) fun t => warm s t 4 ∧ t.f R.ID_ERRLOG_HEAD = (s.f R.ID_ERRLOG_HEAD + 1) % 2 ^ 32 ∧
      let e := 0x1000 + 64 * (s.f R.ID_ERRLOG_HEAD % 256)
      t.wordsAt e 1 % 2 ^ 16 = 0x0E + 2 ^ 8 * 3 ∧ t.wordsAt (e + 4) 1 = s.f R.ID_ERRLOG_HEAD ∧ t.wordsAt (e + 32) 4 = pt128 s.boot.kickPt)) ∧
  (∀ (pf : Fin 2) (v : BitVec 32) (s : State), s.Opens pf 0x30 → Ends (exec (.wdogKick pf v) s) fun t =>
    t.boot = { s.boot with kick := s.clk.elapsed, kickPt := s.now } ∧ WordsKept (fun o => o = 0x30) s t ∧ t.out = s.out ∧ t.mem = s.mem) ∧
  (∀ (d : BootData) (s : State),
    let st := s.f R.ID_BOOT_STAGE
    let o := exec (.bootStage d) s
    let image := fun (i : Nat) => (d.images[i]?).getD []
    let a := s.verifyFw (image 0) (2 ^ 22)
    let b := s.verifyFw (image 1) (2 ^ 22)
    let taken := fun (t : State) (im : List (BitVec 8)) (copy : Nat) => t.f R.ID_BOOT_COPY = copy ∧ t.f R.ID_BOOT_STAGE = 3 ∧
      t.f R.SEC_STATUS_BOOT_SLOT = leAt im 8 1 ∧ t.wordsAt (R.SEC_MEAS_FW 0).off 16 = leNat (shake256 (im.take (0x80 + leAt im 0x0C 4))) % 2 ^ 512
    (s.pwr.dark = true ∨ (st ≠ 1 ∧ st ≠ 2 ∧ st ≠ 4 ∧ st ≠ 5 ∧ st ≠ 6) → o = .next s) ∧
    (s.pwr.dark = false →
      (st = 1 → s.boot.halted = true → o = .next s) ∧
      (st = 1 → s.boot.halted = false → d.crystalOk = false → Ends o fun t => t.boot.halted = true ∧ t.f R.ID_BOOT_STAGE = 1 ∧
        t.f R.ID_ERRLOG_HEAD = (s.f R.ID_ERRLOG_HEAD + 1) % 2 ^ 32) ∧
      (st = 1 → s.boot.halted = false → d.crystalOk = true → Ends o fun t => t.f R.ID_BOOT_STAGE = (if s.flag R.ID_BOOT_MODE = true then 8 else 2) ∧
        (t.flag R.CLK_STATUS_LOCKA_NET = true ↔ ¬ (150 ≤ d.locka02 ∧ d.locka02 ≤ 450 ∧ 900 ≤ d.locka15 ∧ d.locka15 ≤ 1320)) ∧ t.boot = s.boot) ∧
      (st = 2 → s.flag R.ID_BOOT_MODE = false → s.flag R.CLK_STATUS_LOCKA_NET = false →
        (a = 0 → Ends o fun t => taken t (image 0) 0 ∧ t.f R.ID_BOOT_CAUSE = s.f R.ID_BOOT_CAUSE) ∧
        (a ≠ 0 → b = 0 → Ends o fun t => taken t (image 1) 1 ∧ failed s t a) ∧
        (a ≠ 0 → b ≠ 0 → Ends o fun t => t.f R.ID_BOOT_STAGE = 8 ∧ t.f R.ID_BOOT_CAUSE = b ∧ t.f R.ID_ERRLOG_HEAD = (s.f R.ID_ERRLOG_HEAD + 2) % 2 ^ 32 ∧
          t.f R.SEC_STATUS_BOOT_SLOT = s.f R.SEC_STATUS_BOOT_SLOT)) ∧
      (st = 2 → s.flag R.ID_BOOT_MODE = false → s.flag R.CLK_STATUS_LOCKA_NET = true → a = 0 → Ends o fun t => taken t (image 0) 0 ∧ t.boot.halted = true ∧ failed s t 0x40) ∧
      (st = 2 → s.flag R.ID_BOOT_MODE = true → Ends o fun t => t.f R.ID_BOOT_STAGE = 8 ∧ FieldsKept [R.ID_BOOT_STAGE] s t) ∧
      (st = 4 → s.boot.resume = false →
        let v := s.verify (image 0) (2 ^ 20)
        let code := if v ≠ 0 then v else if leAt (image 0) 6 2 ≠ 2 ∨ ucodeOk (envContent (image 0)) = false then 0x11 else 0
        (image 0 = [] → Ends o fun t => t.f R.ID_BOOT_STAGE = 5 ∧ (∀ f, f < 32 → s.blk (0x20 + f) = .running → t.blk (0x20 + f) = .offline) ∧ t.fab.golden = s.fab.golden) ∧
        (image 0 ≠ [] → code ≠ 0 → Ends o fun t => t.f R.ID_BOOT_STAGE = 5 ∧ failed s t code ∧ t.fab.golden = s.fab.golden ∧
          ∀ f, f < 32 → t.flag (R.FRG_MC_STATUS_RELOAD_FAIL f) = true ∧ (s.blk (0x20 + f) = .running → t.blk (0x20 + f) = .offline)) ∧
        (image 0 ≠ [] → code = 0 → Ends o fun t => t.f R.ID_BOOT_STAGE = 5 ∧ t.fab.golden = envContent (image 0) ∧ t.f R.ID_BOOT_CAUSE = s.f R.ID_BOOT_CAUSE)) ∧
      (st = 5 → (shake256 (image 0) = Config.certHash → Ends o fun t => t.f R.ID_BOOT_STAGE = 6 ∧ t.sec.certOk = true ∧ t.sec.cert = image 0) ∧
        (shake256 (image 0) ≠ Config.certHash → Ends o fun t => t.f R.ID_BOOT_STAGE = 6 ∧ t.sec.certOk = s.sec.certOk ∧ failed s t 0x60)) ∧
      (st = 6 → d.images = [] → s.boot.resume = false →
        let svn := s.f R.SEC_STATUS_SVN
        let slot := s.f R.CFG_BOOT_SLOT
        let lacks := (s.cfgSlot slot).version = 0 ∨ (s.cfgSlot slot).ok = false
        let ms := 1000000 * 2 ^ 48
        Ends o fun t => t.f R.ID_BOOT_STAGE = 7 ∧ t.boot.kick = s.clk.elapsed ∧
          t.f R.SEC_STATUS_SVN = (if s.boot.burn = true ∧ svn < s.boot.svn then min 64 s.boot.svn else svn) ∧
          (s.flag R.CFG_BOOT_EN = false → t.cl = s.cl ∧ t.cfg = s.cfg) ∧
          (s.flag R.CFG_BOOT_EN = true → lacks → t.flag R.CFG_STATUS_APPLY_FAIL = true ∧ t.cl = s.cl ∧ t.cfg = s.cfg) ∧
          (s.flag R.CFG_BOOT_EN = true → ¬ lacks → t.flag R.CFG_STATUS_APPLY_FAIL = true ∨ ∃ p, t.cl.prep = some p ∧ p.commit = true ∧ p.act % ms = 0 ∧
            s.now + 2 * s.horizon ≤ p.act ∧ p.act < s.now + 2 * s.horizon + ms ∧ t.flag R.CFG_STATUS_PENDING = true ∧ t.f R.CFG_STATUS_PEND_SLOT = slot)))) ∧
  (∀ s : State,
    let o := exec .clockStageQualified s
    let waits := s.f R.ID_BOOT_STAGE = 3 ∧ s.boot.halted = false ∧ s.pwr.dark = false
    let inTime := s.flag R.CLK_STATUS_LOCKED = true ∧ s.clk.lockedAt + 5000000 * 2 ^ 48 ≤ s.clk.relockAt + 100000000 * 2 ^ 48
    let locked := s.clk.lockedAt + 5000000 * 2 ^ 48 ≤ s.clk.elapsed
    let late := s.clk.relockAt + 100000000 * 2 ^ 48 ≤ s.clk.elapsed
    (¬ waits ∨ (¬ inTime ∧ ¬ late) ∨ (inTime ∧ ¬ locked) → o = .next s) ∧
    (waits → ¬ inTime → late → Ends o fun t => t.boot.halted = true ∧ t.f R.ID_BOOT_STAGE = 3 ∧ failed s t 0x40) ∧
    (waits → inTime → locked → Ends o fun t => t.f R.ID_BOOT_STAGE = 4 ∧ t.clk.releaseDue = true ∧ t.clk.released = s.clk.released ∧
      t.f R.TB_STATE_STATE = (if s.boot.warm = true ∨ s.boot.resume = true then tbCoast else tbAcquire) ∧ (t.hkN 0).cal = true ∧ (t.hkN 1).cal = true ∧
      ∀ n, n < 8 → s.isRunning (2 + n) = true → t.flag (R.ADC_STATUS_FIRST n) = true ∧ t.flag (R.ADC_STATUS_SETTLED n) = false)) ∧
  (∀ (pf : Fin 2) (image : HostRead) (s : State),
    (s.reaches pf = false → exec (.hostBootGo pf image) s = .next s) ∧
    (s.Opens pf 0x24 →
      let o := exec (.hostBootGo pf image) s
      let len := s.f R.ID_BOOT_LEN_LEN
      (s.f R.ID_BOOT_STAGE ≠ 8 → Ends o fun t => t.flag R.ID_BOOT_CTRL_GO = false ∧ WordsKept (fun o => o = 0x24) s t ∧ t.boot = s.boot) ∧
      (s.f R.ID_BOOT_STAGE = 8 →
        (image = none → Ends o fun t => t.flag R.ID_BOOT_CTRL_GO = false ∧ t.f R.ID_BOOT_STAGE = 8 ∧ failed s t 0x42) ∧
        ∀ bs, image = some bs →
          let r := if 2 ^ 22 < len then 0x11 else s.verifyFw (bs.take len) len
          (r ≠ 0 → Ends o fun t => t.flag R.ID_BOOT_CTRL_GO = false ∧ t.f R.ID_BOOT_STAGE = 8 ∧ failed s t r) ∧
          (r = 0 → Ends o fun t => t.flag R.ID_BOOT_CTRL_GO = false ∧ t.f R.ID_BOOT_STAGE = 3 ∧ t.f R.ID_BOOT_COPY = 1 ∧ t.boot.fwId = leAt (envContent (bs.take len)) 8 4)))) ∧
  ∀ (pf : Fin 2) (v : BitVec 32) (s : State), s.Opens pf 0x250 →
    let b := v.toNat % 256
    let o := exec (.blockReset pf v) s
    let only := fun (code : Nat) => Ends o fun t => t.f R.ID_BRESET_STATUS_RESULT = code ∧ WordsKept (fun o => o = 0x250 ∨ o = 0x254) s t ∧ (∀ x, t.blk x = s.blk x) ∧ t.mem = s.mem
    let never := b = 0x00 ∨ b = 0x01 ∨ b = 0x6C ∨ isBlock b = false
    (s.flag R.ID_BRESET_STATUS_BUSY = true → Ends o fun t => t.flag R.ID_BRESET_STATUS_DROP = true ∧ WordsKept (fun o => o = 0x250 ∨ o = 0x254) s t ∧ (∀ x, t.blk x = s.blk x) ∧ t.mem = s.mem) ∧
    (s.flag R.ID_BRESET_STATUS_BUSY = false →
      (never → only 0x11) ∧
      (¬ never → pf.val = 0 ∧ s.blockSecure b = true → only 0x12) ∧
      (¬ never → ¬ (pf.val = 0 ∧ s.blockSecure b = true) →
        (s.blk b = .gated ∨ s.blk b = .waking → only 0x00) ∧
        (0x40 ≤ b → b < 0x60 → s.blk b = .running →
          ((∃ c ∈ s.liveCtxs, s.homeOf c = b - 0x40) → only 0x22) ∧
          ((∀ c ∈ s.liveCtxs, s.homeOf c ≠ b - 0x40) → (∀ r ∈ s.fence.replies, r.1.block ≠ b) → (∀ r ∈ s.fence.accepted, r.block ≠ b) → Ends o fun t =>
            t.f R.ID_BRESET_STATUS_RESULT = 0 ∧ t.flag R.ID_BRESET_STATUS_BUSY = false ∧ t.epoch b = (s.epoch b + 1) % 256 ∧ t.blk b = .running ∧
            (∀ a, a < 2 ^ 22 → t.byteAt 1 ((b - 0x40) * 2 ^ 22 + a) = 0) ∧
            (∀ sp a, a < 2 ^ 40 → ¬ (sp = 1 ∧ (b - 0x40) * 2 ^ 22 ≤ a ∧ a < (b - 0x3F) * 2 ^ 22) → t.byteAt sp a = s.byteAt sp a) ∧
            ∀ x, x ≠ b → t.blk x = s.blk x ∧ (x < 256 → t.epoch x = s.epoch x)))))

/-- An access in a wrong form is dropped with BAD_ACCESS and its offset shown, and a read of that kind answers unsupported. Before READY only the ID_ registers are served: other writes set EARLY_WR, other reads return zero. A write to the other world is dropped and counted, and a read of it returns zero. An access to a block that sleeps is held for it. A write of a context entry word changes exactly the bits that the register map makes writable, and a clear leaves a bit that the device has set in the same control cycle; settings of a context that runs are kept and CFG_BUSY is set. A read returns the word and gives its read-clear bits their reset values. The read of the low word of a 64-bit register keeps the high word of the same moment for the next read of it; the write of a low word is kept for the write of the high word, which then writes both; an access of 8 bytes has both words at once. -/
def Obligations.RegisterAccess : Prop :=
  let form := fun (off size : Nat) (full : Bool) => full = true ∧ ((size = 4 ∧ off % 4 = 0) ∨ (size = 8 ∧ off % 8 = 0))
  let plain := fun (off : Nat) => ¬ (0x21000 ≤ off ∧ off < 0x25000 ∧ off % 0x400 = 0x40) ∧ off ≠ 0x30040 ∧ ¬ (0x100000 ≤ off ∧ off < 0x180000)
  let shown := fun (off : Nat) => plain off ∧ ¬ (0x200 ≤ off ∧ off < 0x21C) ∧ ¬ (0x608000 ≤ off ∧ off < 0x60A000) ∧ ¬ (0x7C0004 ≤ off ∧ off < 0x7E0000)
  let cleared := fun (s t : State) (off : Nat) => ∀ w, wordSpec off = some w → ∀ b, b < 32 →
    (t.word off).getLsbD b = if bitOf w.rc b = true then (resetWord off).getLsbD b else (s.word off).getLsbD b
  (∀ (pf : Fin 2) (off : BitVec 24) (size : Fin 65) (full : Bool) (data : BitVec 64) (s : State),
    let a := off.toNat
    let o := exec (.registerWrite pf off size full data) s
    (s.reaches pf = false → o = .next s) ∧
    (s.reaches pf = true →
      (¬ form a size full → Ends o fun t => t.flag R.HI_STATUS_BAD_ACCESS = true ∧ t.f R.HI_BAD_ADDR_OFFSET = a ∧ FieldsKept [R.HI_STATUS_BAD_ACCESS, R.HI_BAD_ADDR_OFFSET] s t ∧ t = { s with regs := t.regs, sets := t.sets }) ∧
      (form a size full → s.f R.ID_BOOT_STAGE ≠ 7 → 0x10000 ≤ a → Ends o fun t => t.flag R.ID_BOOT_EARLY_WR = true ∧ FieldsKept [R.ID_BOOT_EARLY_WR] s t ∧ t = { s with regs := t.regs, sets := t.sets }) ∧
      (form a size full → size.val = 4 → s.early a = false →
        (s.worldRefused pf a = true → Ends o fun t => t.f R.SEC_REF_COUNT = min (s.f R.SEC_REF_COUNT + 1) (2 ^ 32 - 1) ∧
          WordsKept (fun x => x = 0x7C0050 ∨ x = 0x7C0054 ∨ (0x7C0100 ≤ x ∧ x < 0x7C0200) ∨ x = 0x264 ∨ x = 0x268 ∨ (0x1000 ≤ x ∧ x < 0x5000)) s t ∧ t.mem = s.mem) ∧
        (s.worldRefused pf a = false → ∀ b, s.holds a = some b → Ends o fun t => t.fence.heldAcc = s.fence.heldAcc ++ [⟨b, true, pf, a, 4, data.toNat % 2 ^ 32⟩] ∧ t.mem = s.mem ∧
          ∀ x, ¬ (0x780000 ≤ x ∧ x < 0x790000) → t.word x = s.word x)) ∧
      (form a size full → size.val = 4 → s.Reaches pf a → 0x200000 ≤ a → a < 0x400000 → isHalf a 1 = false → isHalf a 2 = false →
        let c := (a - 0x200000) / 0x200
        let free := s.f (R.CTX_STATE_STATE c) = 0 ∨ s.f (R.CTX_STATE_STATE c) = 4
        (wordSpec a = none → Ends o fun t => ∀ x, t.word x = s.word x) ∧
        ∀ w, wordSpec a = some w → a ≠ (R.CTX_STATE_CFG_BUSY c).off → s.cfgHolds a = false →
          (free → Ends o fun t => WordsKept (fun x => x = a) s t ∧ ∀ b, b < 32 → (t.word a).getLsbD b =
            if bitOf w.rw b = true ∨ bitOf w.rwl b = true then data.getLsbD b
            else if bitOf w.w1c b = true ∧ data.getLsbD b = true then (s.word a).getLsbD b && (s.setNow a).getLsbD b else ((s.word a).getLsbD b || (bitOf w.w1s b && data.getLsbD b))) ∧
          (¬ free → w.rw = 0 → w.w1c = 0 → w.w1s = 0 → w.rwl ≠ 0 → Ends o fun t => t.word a = s.word a ∧ t.flag (R.CTX_STATE_CFG_BUSY c) = true ∧ FieldsKept [R.CTX_STATE_CFG_BUSY c] s t)) ∧
      (size.val = 8 → full = true → a = 0x18 → s.Reaches pf 0x18 → Ends o fun t => t.f R.ID_BOOT_ADDR = data.toNat ∧ FieldsKept [R.ID_BOOT_ADDR] s t))) ∧
  (∀ (pf : Fin 2) (off : BitVec 24) (size : Fin 65) (full : Bool) (s : State),
    let a := off.toNat
    let o := exec (.rcRead pf off size full) s
    let reply := fun (t : State) (v : Nat) => t.out = s.out ++ [.readReply pf a size v]
    (s.reaches pf = false → o = .next s) ∧
    (s.reaches pf = true → s.hostOff = false →
      (¬ form a size full → Ends o fun t => t.out = s.out ++ [.unsupported pf a] ∧ t.flag R.HI_STATUS_BAD_ACCESS = true ∧ t.f R.HI_BAD_ADDR_OFFSET = a) ∧
      (form a size full → s.f R.ID_BOOT_STAGE ≠ 7 → 0x10000 ≤ a → Ends o fun t => reply t 0 ∧ ∀ x, t.word x = s.word x) ∧
      (form a size full → size.val = 4 → s.early a = false → s.worldRefused pf a = true → Ends o fun t => (∃ pre, t.out = s.out ++ pre ++ [.readReply pf a 4 0]) ∧
        t.f R.SEC_REF_COUNT = min (s.f R.SEC_REF_COUNT + 1) (2 ^ 32 - 1)) ∧
      (form a size full → size.val = 4 → s.early a = false → s.worldRefused pf a = false → ∀ b, s.holds a = some b → Ends o fun t =>
        t.fence.heldAcc = s.fence.heldAcc ++ [⟨b, false, pf, a, 4, 0⟩] ∧ t.out = s.out) ∧
      (form a size full → size.val = 4 → s.Reaches pf a → plain a → isHalf a 1 = false → isHalf a 2 = false → Ends o fun t => reply t (s.view pf a) ∧
        (shown a → s.view pf a = (s.word a).toNat) ∧ cleared s t a ∧ WordsKept (fun x => x = a) s t ∧ t.mem = s.mem) ∧
      (form a size full → size.val = 8 → s.Reaches pf a → s.holds (a + 4) = none → plain a → isHalf a 1 = true → Ends o fun t =>
        reply t (s.view pf a + 2 ^ 32 * s.view pf (a + 4)) ∧ cleared s t a ∧ WordsKept (fun x => x = a ∨ x = a + 4) s t))) ∧
  (∀ (pf : Fin 2) (off : BitVec 24) (s : State), off.toNat % 4 = 0 → s.Reaches pf off.toNat → s.hostOff = false → plain off.toNat →
    let a := off.toNat
    let key := pf.val * 2 ^ 24 + a
    (isHalf a 1 = true → Ends (exec (.lowWordRead pf off) s) fun t => t.out = s.out ++ [.readReply pf a 4 (s.view pf a)] ∧ cleared s t a ∧
      tget (fun _ => none) t.host.snaps (key + 4) = some (BitVec.ofNat 32 (s.view pf (a + 4)))) ∧
    (isHalf a 2 = true → ∀ v, tget (fun _ => none) s.host.snaps key = some v → Ends (exec (.highWordRead pf off) s) fun t =>
      t.out = s.out ++ [.readReply pf a 4 v.toNat] ∧ tget (fun _ => none) t.host.snaps key = none ∧ t.regs = s.regs)) ∧
  (∀ (pf : Fin 2) (off : BitVec 24) (data : BitVec 32) (s : State), off.toNat % 4 = 0 → s.Reaches pf off.toNat → isHalf off.toNat 1 = true → ¬ (0x608000 ≤ off.toNat ∧ off.toNat < 0x609000) →
    Ends (exec (.lowWordWrite pf off data) s) fun t => t.regs = s.regs ∧ tget (fun _ => none) t.host.heldLow (pf.val * 2 ^ 24 + off.toNat) = some data ∧ t.mem = s.mem) ∧
  ∀ (pf : Fin 2) (data : BitVec 32) (s : State), s.Reaches pf 0x1C →
    let held := tget (fun _ => none) s.host.heldLow (pf.val * 2 ^ 24 + 0x18)
    Ends (exec (.highWordWrite pf 0x1C data) s) fun t => FieldsKept [R.ID_BOOT_ADDR] s t ∧ tget (fun _ => none) t.host.heldLow (pf.val * 2 ^ 24 + 0x18) = none ∧
      t.f R.ID_BOOT_ADDR = held.elim (s.f R.ID_BOOT_ADDR % 2 ^ 32) BitVec.toNat + 2 ^ 32 * data.toNat
end

