-- ==== Sys2Proof/Laws/Table.lean ====
section
/-!
SUPPORT. Laws of the sparse tables: what a read after a write gives, and that every operation keeps the canonical form.
-/
namespace Sys2Proof.Machine

variable {α : Type}

theorem tget_filter_of_true (d : Nat → α) (p : Nat × α → Bool) (t : Tbl α) (k : Nat) (h : ∀ v, p (k, v) = true) :
    tget d (t.filter p) k = tget d t k := by
  induction t with
  | nil => rfl
  | cons x t ih =>
    obtain ⟨k', v⟩ := x
    by_cases e : k = k'
    · subst e; simp [h, tget]
    · by_cases q : p (k', v) = true <;> simp [q, tget, e, ih]

theorem tget_filter_of_false (d : Nat → α) (p : Nat × α → Bool) (t : Tbl α) (k : Nat) (h : ∀ v, p (k, v) = false) :
    tget d (t.filter p) k = d k := by
  induction t with
  | nil => rfl
  | cons x t ih =>
    obtain ⟨k', v⟩ := x
    by_cases e : k = k'
    · subst e; simp [h, ih]
    · by_cases q : p (k', v) = true <;> simp [q, tget, e, ih]

@[simp] theorem tget_tdel_self (d : Nat → α) (t : Tbl α) (k : Nat) : tget d (tdel t k) k = d k :=
  tget_filter_of_false d _ t k (by simp)

theorem tget_tdel_ne (d : Nat → α) (t : Tbl α) {k j : Nat} (h : j ≠ k) : tget d (tdel t k) j = tget d t j :=
  tget_filter_of_true d _ t j (fun _ => by simpa using h)

theorem tget_tins_ne (d : Nat → α) (t : Tbl α) {k j : Nat} (v : α) (h : j ≠ k) :
    tget d (tins t k v) j = tget d t j := by
  induction t with
  | nil => simp [tins, tget, h]
  | cons x t ih =>
    obtain ⟨k', w⟩ := x
    by_cases q : k < k' <;> simp [tins, q, tget, h, ih]

theorem tget_tins_self (d : Nat → α) (t : Tbl α) (k : Nat) (v : α) (h : ∀ x ∈ t, x.1 ≠ k) :
    tget d (tins t k v) k = v := by
  induction t with
  | nil => simp [tins, tget]
  | cons x t ih =>
    obtain ⟨k', w⟩ := x
    have h' : k ≠ k' := fun e => h (k', w) (by simp) e.symm
    have ih' := ih (fun y hy => h y (by simp [hy]))
    by_cases q : k < k' <;> simp [tins, q, tget, h', ih']

theorem tdel_ne (t : Tbl α) (k : Nat) : ∀ x ∈ tdel t k, x.1 ≠ k := by
  intro x hx
  simpa using (List.mem_filter.mp hx).2

/-- What a write does to every read: the key written reads the value, every other key reads as before. -/
theorem tget_tset [DecidableEq α] (d : Nat → α) (t : Tbl α) (k j : Nat) (v : α) :
    tget d (tset d t k v) j = if j = k then v else tget d t j := by
  unfold tset
  by_cases e : j = k
  · subst e
    by_cases q : v = d j
    · simp [q]
    · simp [q, tget_tins_self d (tdel t j) j v (tdel_ne t j)]
  · by_cases q : v = d k
    · simp [q, e, tget_tdel_ne d t e]
    · simp [q, e, tget_tins_ne d _ v e, tget_tdel_ne d t e]

@[simp] theorem tget_tset_self [DecidableEq α] (d : Nat → α) (t : Tbl α) (k : Nat) (v : α) :
    tget d (tset d t k v) k = v := by simp [tget_tset]

theorem tget_tset_ne [DecidableEq α] (d : Nat → α) (t : Tbl α) {k j : Nat} (v : α) (h : j ≠ k) :
    tget d (tset d t k v) j = tget d t j := by simp [tget_tset, h]

/-- What clearing a span does to every read. -/
theorem tget_tclear (d : Nat → α) (t : Tbl α) (lo hi j : Nat) :
    tget d (tclear t lo hi) j = if lo ≤ j ∧ j < hi then d j else tget d t j := by
  unfold tclear
  by_cases q : lo ≤ j ∧ j < hi
  · rw [if_pos q]; exact tget_filter_of_false d _ t j (fun _ => by simp; omega)
  · rw [if_neg q]; exact tget_filter_of_true d _ t j (fun _ => by simp; omega)

/-! ## The canonical form -/

variable [DecidableEq α]

theorem twfFrom_mono {d : Nat → α} {t : Tbl α} {a b : Nat} (h : a ≤ b) (ht : twfFrom d b t = true) :
    twfFrom d a t = true := by
  cases t with
  | nil => rfl
  | cons x t =>
    obtain ⟨k, v⟩ := x
    simp only [twfFrom, Bool.and_eq_true, decide_eq_true_eq] at ht ⊢
    exact ⟨⟨by omega, ht.1.2⟩, ht.2⟩

theorem twfFrom_filter {d : Nat → α} (p : Nat × α → Bool) {t : Tbl α} {a : Nat} (ht : twfFrom d a t = true) :
    twfFrom d a (t.filter p) = true := by
  induction t generalizing a with
  | nil => rfl
  | cons x t ih =>
    obtain ⟨k, v⟩ := x
    simp only [twfFrom, Bool.and_eq_true, decide_eq_true_eq] at ht
    by_cases q : p (k, v) = true
    · simp only [List.filter_cons, q, if_true, twfFrom, Bool.and_eq_true, decide_eq_true_eq]
      exact ⟨ht.1, ih ht.2⟩
    · simp only [List.filter_cons, q]
      exact twfFrom_mono (by omega) (ih ht.2)

theorem twfFrom_tins {d : Nat → α} {t : Tbl α} {a k : Nat} {v : α} (ht : twfFrom d a t = true) (ha : a ≤ k)
    (hv : v ≠ d k) (hk : ∀ x ∈ t, x.1 ≠ k) : twfFrom d a (tins t k v) = true := by
  induction t generalizing a with
  | nil => simp [tins, twfFrom, ha, hv]
  | cons x t ih =>
    obtain ⟨k', w⟩ := x
    have ne : k' ≠ k := hk (k', w) (by simp)
    simp only [twfFrom, Bool.and_eq_true, decide_eq_true_eq] at ht
    by_cases q : k < k'
    · simp only [tins, q, if_true, twfFrom, Bool.and_eq_true, decide_eq_true_eq]
      exact ⟨⟨ha, hv⟩, ⟨by omega, ht.1.2⟩, ht.2⟩
    · simp only [tins, q, if_false, twfFrom, Bool.and_eq_true, decide_eq_true_eq]
      exact ⟨ht.1, ih ht.2 (by omega) (fun y hy => hk y (by simp [hy]))⟩

theorem twf_filter {d : Nat → α} (p : Nat × α → Bool) {t : Tbl α} (ht : twf d t = true) : twf d (t.filter p) = true :=
  twfFrom_filter p ht

theorem twf_tclear {d : Nat → α} {t : Tbl α} (lo hi : Nat) (ht : twf d t = true) : twf d (tclear t lo hi) = true :=
  twfFrom_filter _ ht

/-- Every write keeps the canonical form. -/
theorem twf_tset {d : Nat → α} {t : Tbl α} (k : Nat) (v : α) (ht : twf d t = true) : twf d (tset d t k v) = true := by
  unfold tset
  by_cases q : v = d k
  · rw [if_pos q]; exact twf_filter _ ht
  · simp only [q, if_false]
    exact twfFrom_tins (twf_filter _ ht) (Nat.zero_le k) q (tdel_ne t k)

theorem twf_tsetN {d : Nat → α} (vs : List α) {t : Tbl α} (k : Nat) (ht : twf d t = true) :
    twf d (tsetN d t k vs) = true := by
  induction vs generalizing t k with
  | nil => exact ht
  | cons v vs ih => exact ih (k + 1) (twf_tset k v ht)

/-- Reading after writing consecutive values. -/
theorem tget_tsetN_out {d : Nat → α} (vs : List α) (t : Tbl α) (k j : Nat) (h : j < k ∨ k + vs.length ≤ j) :
    tget d (tsetN d t k vs) j = tget d t j := by
  induction vs generalizing t k with
  | nil => rfl
  | cons v vs ih =>
    simp only [List.length_cons] at h
    simp only [tsetN]
    rw [ih _ _ (by omega), tget_tset_ne d t v (by omega)]

/-- Two tables in canonical form that read alike are equal. -/
theorem twfFrom_lt {d : Nat → α} {t : Tbl α} {a : Nat} (ht : twfFrom d a t = true) : ∀ x ∈ t, a ≤ x.1 := by
  induction t generalizing a with
  | nil => simp
  | cons y t ih =>
    obtain ⟨k, v⟩ := y
    simp only [twfFrom, Bool.and_eq_true, decide_eq_true_eq] at ht
    intro x hx
    rcases List.mem_cons.mp hx with rfl | hx
    · exact ht.1.1
    · have := ih ht.2 x hx; omega

end Sys2Proof.Machine
end

