-- ==== Sys2Proof/Laws/Kept.lean ====
section
/-!
SUPPORT. What no command takes away: the canonical form of registers and memories, the commands that wait, what the device
has sent, and the order of free values. `Kept s0 t` says so of a state `t` reached from `s0`; here are the forms in which
a meaning builds its result and the operations that write these parts. Laws/Kept<Module>.lean has one lemma for every
function that answers a state.
-/
namespace Sys2Proof.Machine

/-- `t` keeps what `s0` promises: canonical forms, the waiting commands, the messages sent, the free values used up. -/
structure Kept (s0 t : State) : Prop where
  inv : s0.Inv → t.Inv
  pending : t.pending = s0.pending
  out : s0.out <+: t.out
  freeCtr : s0.freeCtr ≤ t.freeCtr

theorem Kept.refl (s : State) : Kept s s := ⟨id, rfl, List.prefix_refl _, Nat.le_refl _⟩

/-- A next state of the outcome keeps what `s0` promises. -/
def OutKept (s0 : State) (o : Out) : Prop := ∀ t, o = .next t → Kept s0 t

/-- A state that an optional answer holds keeps what `s0` promises. -/
def OptKept (s0 : State) (o : Option State) : Prop := ∀ t, o = some t → Kept s0 t

section
variable {s0 : State}

theorem OutKept.next {s : State} (h : Kept s0 s) : OutKept s0 (.next s) := by intro t e; cases e; exact h

theorem OptKept.none : OptKept s0 none := by intro t e; cases e

theorem OptKept.some {s : State} (h : Kept s0 s) : OptKept s0 (some s) := by intro t e; cases e; exact h

theorem ite_kept {c : Prop} [Decidable c] {a b : State} (ha : Kept s0 a) (hb : Kept s0 b) : Kept s0 (if c then a else b) := by
  split <;> assumption

theorem ite_fst_kept {α : Type} {c : Prop} [Decidable c] {a b : State × α} (ha : Kept s0 a.1) (hb : Kept s0 b.1) :
    Kept s0 (if c then a else b).1 := by split <;> assumption

theorem ite_res_kept {c : Prop} [Decidable c] {a b : CmdRes} (ha : Kept s0 a.st) (hb : Kept s0 b.st) :
    Kept s0 (if c then a else b).st := by split <;> assumption

theorem ite_out_kept {c : Prop} [Decidable c] {a b : Out} (ha : OutKept s0 a) (hb : OutKept s0 b) :
    OutKept s0 (if c then a else b) := by split <;> assumption

theorem ite_opt_kept {c : Prop} [Decidable c] {a b : Option State} (ha : OptKept s0 a) (hb : OptKept s0 b) :
    OptKept s0 (if c then a else b) := by split <;> assumption

theorem foldl_kept {α : Type} {f : State → α → State} (hf : ∀ t x, Kept s0 t → Kept s0 (f t x)) (l : List α) {s : State}
    (h : Kept s0 s) : Kept s0 (l.foldl f s) := by
  induction l generalizing s with
  | nil => exact h
  | cons x l ih => exact ih (hf s x h)

theorem foldl_fst_kept {α β : Type} {f : State × β → α → State × β} (hf : ∀ p x, Kept s0 p.1 → Kept s0 (f p x).1)
    (l : List α) {p : State × β} (h : Kept s0 p.1) : Kept s0 (l.foldl f p).1 := by
  induction l generalizing p with
  | nil => exact h
  | cons x l ih => exact ih (hf p x h)

theorem foldr_kept {α : Type} {f : α → State → State} (hf : ∀ x t, Kept s0 t → Kept s0 (f x t)) (l : List α) {s : State}
    (h : Kept s0 s) : Kept s0 (l.foldr f s) := by
  induction l with
  | nil => exact h
  | cons x l ih => exact hf x _ ih

variable {t : State} {fence : FenceSt} {clk : ClkSt} {host : HostSt} {sec : SecSt} {adc : Tbl AdcSt} {dac : Tbl DacSt}
  {fch : Tbl FchSt} {fab : FabSt} {ctx : Tbl CtxSt} {trg : TrgSt} {acq : Tbl AcqSt} {tp : TpSt} {cl : ClSt} {tdc : Tbl TdcSt}
  {txts : List TxStamp} {rxLost : Tbl Bool} {eth : Tbl EthSt} {sq : Tbl SqSt} {co : Tbl CoSt} {arb : ArbSt} {rs : RsSt}
  {hk : HkSt} {pwr : PwrSt} {boot : BootSt} {cfg : CfgSt} {tag : Tbl Nat} {mc : Tbl McSt} {stage : List StageSeg}
  {outPanic : Tbl Bool} {forcedAt turn left panicLast : Nat} {sets : Tbl Nat}

/-- A state that differs in neither registers, memories, messages, free values nor waiting commands. -/
theorem upd_kept (h : Kept s0 t) :
    Kept s0 (State.mk t.regs fence clk host sec t.mem adc dac fch fab ctx trg acq tp cl tdc txts rxLost eth sq co arb rs hk
      pwr boot cfg t.out sets t.freeCtr t.pending) := ⟨h.inv, h.pending, h.out, h.freeCtr⟩

theorem updMem_kept (h : Kept s0 t) :
    Kept s0 (State.mk t.regs fence clk host sec ⟨t.mem.bytes, tag, mc, stage, outPanic, forcedAt, turn, left, panicLast⟩ adc dac fch fab ctx trg acq
      tp cl tdc txts rxLost eth sq co arb rs hk pwr boot cfg t.out sets t.freeCtr t.pending) :=
  ⟨h.inv, h.pending, h.out, h.freeCtr⟩

theorem updRegs_kept {r : Tbl (BitVec 32)} (h : Kept s0 t) (hr : twf resetWord t.regs = true → twf resetWord r = true) :
    Kept s0 (State.mk r fence clk host sec t.mem adc dac fch fab ctx trg acq tp cl tdc txts rxLost eth sq co arb rs hk
      pwr boot cfg t.out sets t.freeCtr t.pending) :=
  ⟨fun i => ⟨hr (h.inv i).1, (h.inv i).2⟩, h.pending, h.out, h.freeCtr⟩

theorem updBytes_kept {m : Tbl (BitVec 8)} (h : Kept s0 t) (hm : twf byteDflt t.mem.bytes = true → twf byteDflt m = true) :
    Kept s0 (State.mk t.regs fence clk host sec ⟨m, tag, mc, stage, outPanic, forcedAt, turn, left, panicLast⟩ adc dac fch fab ctx trg acq tp cl tdc
      txts rxLost eth sq co arb rs hk pwr boot cfg t.out sets t.freeCtr t.pending) :=
  ⟨fun i => ⟨(h.inv i).1, hm (h.inv i).2⟩, h.pending, h.out, h.freeCtr⟩

end

end Sys2Proof.Machine
end

