-- ==== Sys2Proof/Laws/KeptOps.lean ====
section
/-!
SUPPORT. Every function of Machine/Ops.lean that answers a state keeps what `Kept` names.
-/
set_option linter.all false
namespace Sys2Proof.Machine

theorem State.setWord_kept {s0 : State} (s : State) (off : ℕ) (w : BitVec 32) (hs : Kept s0 s) : Kept s0 (s.setWord off w) :=
  updRegs_kept hs (twf_tset off w)

theorem State.setWordsAt_kept {s0 : State} (s : State) (off n v : ℕ) (hs : Kept s0 s) : Kept s0 (s.setWordsAt off n v) := by
  induction n generalizing s off v with
  | zero => exact hs
  | succ n ih => exact ih _ _ _ (State.setWord_kept s off _ hs)

theorem State.setF_kept {s0 : State} (s : State) (x : Fld) (v : ℕ) (hs : Kept s0 s) : Kept s0 (State.setF s x v) := by
  unfold State.setF
  repeat' (first | (with_reducible (first | assumption | apply State.setWordsAt_kept | fail_if_no_progress (apply upd_kept))) | split | (dsimp only; split))

theorem State.noteSet_kept {s0 : State} (s : State) (x : Fld) (hs : Kept s0 s) : Kept s0 (State.noteSet s x) := by
  unfold State.noteSet
  repeat' (first | (with_reducible (first | assumption | fail_if_no_progress (apply upd_kept))) | split | (dsimp only; split))

theorem State.setB_kept {s0 : State} (s : State) (x : Fld) (b : Bool) (hs : Kept s0 s) : Kept s0 (State.setB s x b) := by
  unfold State.setB
  repeat' (first | (with_reducible (first | assumption | apply State.noteSet_kept | apply State.setF_kept | apply ite_kept | fail_if_no_progress (apply upd_kept))) | split | (dsimp only; split))

theorem State.setFi_kept {s0 : State} (s : State) (x : Fld) (i : ℤ) (hs : Kept s0 s) : Kept s0 (State.setFi s x i) := by
  unfold State.setFi
  repeat' (first | (with_reducible (first | assumption | apply State.setF_kept | fail_if_no_progress (apply upd_kept))) | split | (dsimp only; split))

theorem State.addSat_kept {s0 : State} (s : State) (x : Fld) (k : ℕ) (hs : Kept s0 s) : Kept s0 (State.addSat s x k) := by
  unfold State.addSat
  repeat' (first | (with_reducible (first | assumption | apply State.setF_kept | fail_if_no_progress (apply upd_kept))) | split | (dsimp only; split))

theorem State.incSat_kept {s0 : State} (s : State) (x : Fld) (hs : Kept s0 s) : Kept s0 (State.incSat s x) := by
  unfold State.incSat
  repeat' (first | (with_reducible (first | assumption | apply State.addSat_kept | fail_if_no_progress (apply upd_kept))) | split | (dsimp only; split))

theorem State.addWrap_kept {s0 : State} (s : State) (x : Fld) (k : ℕ) (hs : Kept s0 s) : Kept s0 (State.addWrap s x k) := by
  unfold State.addWrap
  repeat' (first | (with_reducible (first | assumption | apply State.setF_kept | fail_if_no_progress (apply upd_kept))) | split | (dsimp only; split))

theorem State.resetRegs_kept {s0 : State} (s : State) (lo hi : ℕ) (hs : Kept s0 s) : Kept s0 (s.resetRegs lo hi) :=
  updRegs_kept hs (twf_tclear lo hi)

/-- What the device sends goes after all it has sent. -/
theorem State.emit_kept {s0 : State} (s : State) (m : Msg) (hs : Kept s0 s) : Kept s0 (s.emit m) := by
  unfold State.emit
  split
  · exact hs
  · exact ⟨hs.inv, hs.pending, hs.out.trans (List.prefix_append _ _), hs.freeCtr⟩

theorem State.next_kept {s0 : State} (s : State) (hs : Kept s0 s) : Kept s0 s.next :=
  ⟨hs.inv, hs.pending, hs.out, Nat.le_succ_of_le hs.freeCtr⟩

theorem State.setPtimeAt_kept {s0 : State} (s : State) (off : ℕ) (t : ℕ) (hs : Kept s0 s) : Kept s0 (State.setPtimeAt s off t) := by
  unfold State.setPtimeAt
  repeat' (first | (with_reducible (first | assumption | apply State.setWordsAt_kept | fail_if_no_progress (apply upd_kept))) | split | (dsimp only; split))

theorem State.stepPtime_kept {s0 : State} (s : State) (d : ℤ) (hs : Kept s0 s) : Kept s0 (State.stepPtime s d) := by
  unfold State.stepPtime
  repeat' (first | (with_reducible (first | assumption | fail_if_no_progress (apply upd_kept))) | split | (dsimp only; split))

theorem State.raise_kept {s0 : State} (s : State) (fn : ℕ) (vec : ℕ) (hs : Kept s0 s) : Kept s0 (State.raise s fn vec) := by
  unfold State.raise
  repeat' (first | (with_reducible (first | assumption | apply State.emit_kept | apply ite_kept | fail_if_no_progress (apply upd_kept))) | split | (dsimp only; split))

theorem State.raiseBlk_kept {s0 : State} (s : State) (b : ℕ) (vec : ℕ) (hs : Kept s0 s) : Kept s0 (State.raiseBlk s b vec) := by
  unfold State.raiseBlk
  repeat' (first | (with_reducible (first | assumption | apply State.raise_kept | apply ite_kept | fail_if_no_progress (apply upd_kept))) | split | (dsimp only; split))

theorem State.setBlk_kept {s0 : State} (s : State) (b : ℕ) (v : BlkState) (hs : Kept s0 s) : Kept s0 (State.setBlk s b v) := by
  unfold State.setBlk
  repeat' (first | (with_reducible (first | assumption | fail_if_no_progress (apply upd_kept))) | split | (dsimp only; split))

theorem State.answerAll_kept {s0 : State} (s : State) (b : ℕ) (status : ℕ) (hs : Kept s0 s) : Kept s0 (State.answerAll s b status) := by
  unfold State.answerAll
  repeat' (first | (with_reducible (first | assumption | fail_if_no_progress (apply upd_kept))) | split | (dsimp only; split))

theorem State.fenceEnter_kept {s0 : State} (s : State) (b : ℕ) (st : BlkState) (hs : Kept s0 s) : Kept s0 (State.fenceEnter s b st) := by
  unfold State.fenceEnter
  repeat' (first | (with_reducible (first | assumption | apply State.setBlk_kept | apply State.answerAll_kept | apply State.addWrap_kept | fail_if_no_progress (apply upd_kept))) | split | (dsimp only; split))

theorem State.bresetEnd_kept {s0 : State} (s : State) (b : ℕ) (status : ℕ) (hs : Kept s0 s) : Kept s0 (State.bresetEnd s b status) := by
  unfold State.bresetEnd
  repeat' (first | (with_reducible (first | assumption | apply State.setF_kept | apply State.setB_kept | apply ite_kept | fail_if_no_progress (apply upd_kept))) | split | (dsimp only; split))

theorem State.blkLeft_kept {s0 : State} (s : State) (b : ℕ) (hs : Kept s0 s) : Kept s0 (State.blkLeft s b) := by
  unfold State.blkLeft
  repeat' (first | (with_reducible (first | assumption | apply State.bresetEnd_kept | apply State.setBlk_kept | fail_if_no_progress (apply upd_kept))) | split | (dsimp only; split))

theorem State.fenceLeave_kept {s0 : State} (s : State) (b : ℕ) (hs : Kept s0 s) : Kept s0 (State.fenceLeave s b) := by
  unfold State.fenceLeave
  repeat' (first | (with_reducible (first | assumption | apply State.blkLeft_kept | apply ite_kept | fail_if_no_progress (apply upd_kept))) | split | (dsimp only; split))

theorem State.fencePulse_kept {s0 : State} (s : State) (b : ℕ) (hs : Kept s0 s) : Kept s0 (State.fencePulse s b) := by
  unfold State.fencePulse
  repeat' (first | (with_reducible (first | assumption | apply State.fenceLeave_kept | apply State.fenceEnter_kept | fail_if_no_progress (apply upd_kept))) | split | (dsimp only; split))

theorem State.whileRunning_kept {s0 : State} (s : State) (b : ℕ) (t : State) (hs : Kept s0 s) (ht : Kept s0 t) : OutKept s0 (State.whileRunning s b t) := by
  unfold State.whileRunning
  repeat' (first | (with_reducible (first | assumption | intro _ | apply OutKept.next | apply ite_out_kept | apply ite_kept | fail_if_no_progress (apply upd_kept))) | split | (dsimp only; split))

theorem State.errLog_kept {s0 : State} (s : State) (type : ℕ) (sev : ℕ) (block : ℕ) (code : ℕ) (detail : List ℕ) (hs : Kept s0 s) : Kept s0 (State.errLog s type sev block code detail) := by
  unfold State.errLog
  repeat' (first | (with_reducible (first | assumption | intro _ | apply State.incSat_kept | apply State.setWordsAt_kept | apply State.setPtimeAt_kept | apply State.setF_kept | apply State.raiseBlk_kept | apply ite_kept | fail_if_no_progress (apply upd_kept) | apply foldr_kept)) | split | (dsimp only; split))

theorem State.logRefused_kept {s0 : State} (s : State) (src : ℕ) (kind : ℕ) (write : Bool) (addr : ℕ) (hs : Kept s0 s) : Kept s0 (State.logRefused s src kind write addr) := by
  unfold State.logRefused
  repeat' (first | (with_reducible (first | assumption | apply State.setWordsAt_kept | apply State.incSat_kept | apply State.setF_kept | apply State.errLog_kept | apply ite_kept | fail_if_no_progress (apply upd_kept))) | split | (dsimp only; split))

end Sys2Proof.Machine
end

