-- ==== Sys2Proof/Laws/KeptDomains.lean ====
section
/-!
SUPPORT. Every function of Machine/Domains.lean that answers a state keeps what `Kept` names.
-/
set_option linter.all false
namespace Sys2Proof.Machine

theorem State.setDom_kept {s0 : State} (s : State) (d : ℕ) (v : ℕ) (hs : Kept s0 s) : Kept s0 (State.setDom s d v) := by
  unfold State.setDom
  repeat' (first | (with_reducible (first | assumption | apply State.setF_kept | fail_if_no_progress (apply upd_kept))) | split | (dsimp only; split))

theorem State.lastWake_kept {s0 : State} (s : State) (code : ℕ) (detail : ℕ) (hs : Kept s0 s) : Kept s0 (State.lastWake s code detail) := by
  unfold State.lastWake
  repeat' (first | (with_reducible (first | assumption | apply State.setPtimeAt_kept | apply State.setF_kept | fail_if_no_progress (apply upd_kept))) | split | (dsimp only; split))

theorem State.moveBlks_kept {s0 : State} (s : State) (d : ℕ) (b : BlkState) (hs : Kept s0 s) : Kept s0 (State.moveBlks s d b) := by
  unfold State.moveBlks
  repeat' (first | (with_reducible (first | assumption | intro _ | apply State.setBlk_kept | apply ite_kept | apply foldl_kept | fail_if_no_progress (apply upd_kept))) | split | (dsimp only; split))

theorem State.runBlks_kept {s0 : State} (s : State) (d : ℕ) (hs : Kept s0 s) : Kept s0 (State.runBlks s d) := by
  unfold State.runBlks
  repeat' (first | (with_reducible (first | assumption | intro _ | apply State.fenceLeave_kept | apply State.setBlk_kept | apply ite_kept | apply foldl_kept | fail_if_no_progress (apply upd_kept))) | split | (dsimp only; split))

theorem State.startDomain_kept {s0 : State} (s : State) (d : ℕ) (hs : Kept s0 s) : Kept s0 (State.startDomain s d) := by
  unfold State.startDomain
  repeat' (first | (with_reducible (first | assumption | apply State.moveBlks_kept | apply State.setDom_kept | apply ite_kept | fail_if_no_progress (apply upd_kept))) | split | (dsimp only; split))

theorem State.wakeDomain_kept {s0 : State} (s : State) (d : ℕ) (hs : Kept s0 s) : Kept s0 (State.wakeDomain s d) := by
  unfold State.wakeDomain
  repeat' (first | (with_reducible (first | assumption | apply State.startDomain_kept | apply State.lastWake_kept | apply State.setF_kept | apply ite_kept | fail_if_no_progress (apply upd_kept))) | split | (dsimp only; split))

theorem State.wakeBlk_kept {s0 : State} (s : State) (b : ℕ) (hs : Kept s0 s) : Kept s0 (State.wakeBlk s b) := by
  unfold State.wakeBlk
  repeat' (first | (with_reducible (first | assumption | apply State.wakeDomain_kept | fail_if_no_progress (apply upd_kept))) | split | (dsimp only; split))

end Sys2Proof.Machine
end

