-- ==== Sys2Proof/Laws/KeptHostOps.lean ====
section
/-!
SUPPORT. Every function of Machine/HostOps.lean that answers a state keeps what `Kept` names.
-/
set_option linter.all false
namespace Sys2Proof.Machine

theorem State.writeCpl_kept {s0 : State} (s : State) (k : ℕ) (w : WaitCpl) (hs : Kept s0 s) : Kept s0 (State.writeCpl s k w) := by
  unfold State.writeCpl
  repeat' (first | (with_reducible (first | assumption | apply State.emit_kept | apply State.setF_kept | apply State.raise_kept | apply ite_kept | fail_if_no_progress (apply upd_kept))) | split | (dsimp only; split))

theorem State.complete_kept {s0 : State} (s : State) (k : ℕ) (tag : BitVec 16) (irq : Bool) (status : ℕ) (steps : ℕ) (result : ℕ) (hs : Kept s0 s) : Kept s0 (State.complete s k tag irq status steps result) := by
  unfold State.complete
  repeat' (first | (with_reducible (first | assumption | apply State.setB_kept | apply State.writeCpl_kept | apply ite_kept | fail_if_no_progress (apply upd_kept))) | split | (dsimp only; split))

theorem State.drainCpl_kept {s0 : State} (s : State) (k n : ℕ) (hs : Kept s0 s) : Kept s0 (s.drainCpl k n) := by
  induction n generalizing s with
  | zero => exact hs
  | succ n ih =>
    unfold State.drainCpl
    repeat' (first | (with_reducible (first | assumption | apply ih | apply State.setB_kept | apply State.writeCpl_kept | apply ite_kept | fail_if_no_progress (apply upd_kept))) | split | (dsimp only; split))

theorem State.syncWork_kept {s0 : State} (s : State) (hs : Kept s0 s) : Kept s0 (State.syncWork s) := by
  unfold State.syncWork
  repeat' (first | (with_reducible (first | assumption | apply State.setF_kept | fail_if_no_progress (apply upd_kept))) | split | (dsimp only; split))

theorem State.drainRing_kept {s0 : State} (s : State) (k : ℕ) (hs : Kept s0 s) : Kept s0 (State.drainRing s k) := by
  unfold State.drainRing
  repeat' (first | (with_reducible (first | assumption | apply State.setF_kept | apply ite_kept | fail_if_no_progress (apply upd_kept))) | split | (dsimp only; split))

theorem State.finishLong_kept {s0 : State} (s : State) (c : LongCmd) (status : ℕ) (result : ℕ) (hs : Kept s0 s) : Kept s0 (State.finishLong s c status result) := by
  unfold State.finishLong
  repeat' (first | (with_reducible (first | assumption | apply State.complete_kept | apply State.drainRing_kept | apply State.syncWork_kept | apply ite_kept | fail_if_no_progress (apply upd_kept))) | split | (dsimp only; split))

theorem State.putLong_kept {s0 : State} (s : State) (c : LongCmd) (hs : Kept s0 s) : Kept s0 (State.putLong s c) := by
  unfold State.putLong
  repeat' (first | (with_reducible (first | assumption | apply ite_kept | fail_if_no_progress (apply upd_kept))) | split | (dsimp only; split))

theorem State.finishDef_kept {s0 : State} (s : State) (c : DefCmd) (status : ℕ) (result : ℕ) (hs : Kept s0 s) : Kept s0 (State.finishDef s c status result) := by
  unfold State.finishDef
  repeat' (first | (with_reducible (first | assumption | apply State.complete_kept | apply State.drainRing_kept | apply State.syncWork_kept | apply ite_kept | fail_if_no_progress (apply upd_kept))) | split | (dsimp only; split))

theorem State.finishDefs_kept {s0 : State} (s : State) (opcode : ℕ) (target : ℕ) (status : ℕ) (result : ℕ) (hs : Kept s0 s) : Kept s0 (State.finishDefs s opcode target status result) := by
  unfold State.finishDefs
  repeat' (first | (with_reducible (first | assumption | intro _ | apply State.finishDef_kept | apply foldl_kept | fail_if_no_progress (apply upd_kept))) | split | (dsimp only; split))

theorem State.finishOp_kept {s0 : State} (s : State) (opcode : ℕ) (status : ℕ) (result : ℕ) (hs : Kept s0 s) : Kept s0 (State.finishOp s opcode status result) := by
  unfold State.finishOp
  repeat' (first | (with_reducible (first | assumption | apply State.finishLong_kept | fail_if_no_progress (apply upd_kept))) | split | (dsimp only; split))

theorem resDone_kept {s0 : State} (s : State) (status : ℕ) (result : optParam ℕ 0) (hs : Kept s0 s) : Kept s0 (resDone s status result).st := by
  unfold resDone
  repeat' (first | (with_reducible (first | assumption | intro _ | fail_if_no_progress (apply upd_kept))) | split | (dsimp only; split))

theorem State.skipCancelled_kept {s0 : State} (s : State) (k n : ℕ) (hs : Kept s0 s) : Kept s0 (s.skipCancelled k n) := by
  induction n generalizing s with
  | zero => exact hs
  | succ n ih =>
    unfold State.skipCancelled
    repeat' (first | (with_reducible (first | assumption | apply ih | apply State.setF_kept | apply ite_kept | fail_if_no_progress (apply upd_kept))) | split | (dsimp only; split))

theorem State.fetchCmd_kept {s0 : State} (s : State) (k : ℕ) (hs : Kept s0 s) : Kept s0 (State.fetchCmd s k) := by
  unfold State.fetchCmd
  repeat' (first | (with_reducible (first | assumption | apply State.skipCancelled_kept | apply State.setF_kept | fail_if_no_progress (apply upd_kept))) | split | (dsimp only; split))

theorem State.partialEntry_kept {s0 : State} (s : State) (c : LongCmd) (hs : Kept s0 s) : Kept s0 (State.partialEntry s c) := by
  unfold State.partialEntry
  repeat' (first | (with_reducible (first | assumption | apply State.complete_kept | apply ite_kept | fail_if_no_progress (apply upd_kept))) | split | (dsimp only; split))

theorem State.startCmd_kept {s0 : State} (s : State) (k : ℕ) (f : Fetch) (opcode : ℕ) (long : Bool) (secure : Bool) (masks : List ℕ) (body : State → CmdRes) (hs : Kept s0 s) (hbody : ∀ (y0 : State), Kept s0 y0 → Kept s0 (body y0).st) : Kept s0 (State.startCmd s k f opcode long secure masks body) := by
  unfold State.startCmd
  repeat' (first | (with_reducible (first | assumption | intro _ | apply hbody | apply State.fetchCmd_kept | apply State.complete_kept | apply State.syncWork_kept | apply State.partialEntry_kept | apply ite_kept | fail_if_no_progress (apply upd_kept))) | split | (dsimp only; split))

end Sys2Proof.Machine
end

