-- ==== Sys2Proof/Laws/KeptClock.lean ====
section
/-!
SUPPORT. Every function of Machine/Clock.lean that answers a state keeps what `Kept` names.
-/
set_option linter.all false
namespace Sys2Proof.Machine

theorem State.noteRate_kept {s0 : State} (s : State) (hs : Kept s0 s) : Kept s0 (State.noteRate s) := by
  unfold State.noteRate
  repeat' (first | (with_reducible (first | assumption | apply ite_fst_kept | apply ite_kept | fail_if_no_progress (apply upd_kept))) | split | (dsimp only; split))

theorem State.syncHoldover_kept {s0 : State} (s : State) (hs : Kept s0 s) : Kept s0 (State.syncHoldover s) := by
  unfold State.syncHoldover
  repeat' (first | (with_reducible (first | assumption | apply State.setB_kept | apply ite_kept | fail_if_no_progress (apply upd_kept))) | split | (dsimp only; split))

theorem State.setTracker_kept {s0 : State} (s : State) (st : ℕ) (hs : Kept s0 s) : Kept s0 (State.setTracker s st) := by
  unfold State.setTracker
  repeat' (first | (with_reducible (first | assumption | apply State.syncHoldover_kept | apply State.setF_kept | fail_if_no_progress (apply upd_kept))) | split | (dsimp only; split))

theorem State.setSteer_kept {s0 : State} (s : State) (v : ℤ) (hs : Kept s0 s) : Kept s0 (State.setSteer s v) := by
  unfold State.setSteer
  repeat' (first | (with_reducible (first | assumption | apply State.setB_kept | apply State.setFi_kept | fail_if_no_progress (apply upd_kept))) | split | (dsimp only; split))

theorem State.steerWith_kept {s0 : State} (s : State) (base : ℤ) (term : ℤ) (hs : Kept s0 s) : Kept s0 (State.steerWith s base term) := by
  unfold State.steerWith
  repeat' (first | (with_reducible (first | assumption | apply State.setSteer_kept | fail_if_no_progress (apply upd_kept))) | split | (dsimp only; split))

theorem State.slewSet_kept {s0 : State} (s : State) (left : ℤ) (hs : Kept s0 s) : Kept s0 (State.slewSet s left) := by
  unfold State.slewSet
  repeat' (first | (with_reducible (first | assumption | apply State.setB_kept | apply State.steerWith_kept | fail_if_no_progress (apply upd_kept))) | split | (dsimp only; split))

theorem State.endSlew_kept {s0 : State} (s : State) (hs : Kept s0 s) : Kept s0 (State.endSlew s) := by
  unfold State.endSlew
  repeat' (first | (with_reducible (first | assumption | apply State.slewSet_kept | apply ite_kept | fail_if_no_progress (apply upd_kept))) | split | (dsimp only; split))

theorem State.enterAcquire_kept {s0 : State} (s : State) (hs : Kept s0 s) : Kept s0 (State.enterAcquire s) := by
  unfold State.enterAcquire
  repeat' (first | (with_reducible (first | assumption | apply State.endSlew_kept | apply State.setTracker_kept | apply State.setF_kept | fail_if_no_progress (apply upd_kept))) | split | (dsimp only; split))

theorem State.enterCoast_kept {s0 : State} (s : State) (hs : Kept s0 s) : Kept s0 (State.enterCoast s) := by
  unfold State.enterCoast
  repeat' (first | (with_reducible (first | assumption | apply State.endSlew_kept | apply State.setTracker_kept | apply State.incSat_kept | apply State.errLog_kept | apply ite_kept | fail_if_no_progress (apply upd_kept))) | split | (dsimp only; split))

theorem State.setLocked_kept {s0 : State} (s : State) (b : Bool) (hs : Kept s0 s) : Kept s0 (State.setLocked s b) := by
  unfold State.setLocked
  repeat' (first | (with_reducible (first | assumption | apply State.setB_kept | apply ite_kept | fail_if_no_progress (apply upd_kept))) | split | (dsimp only; split))

theorem State.saveClock_kept {s0 : State} (s : State) (hs : Kept s0 s) : Kept s0 (State.saveClock s) := by
  unfold State.saveClock
  repeat' (first | (with_reducible (first | assumption | fail_if_no_progress (apply upd_kept))) | split | (dsimp only; split))

theorem State.unlockClock_kept {s0 : State} (s : State) (r : Relock) (hs : Kept s0 s) : Kept s0 (State.unlockClock s r) := by
  unfold State.unlockClock
  repeat' (first | (with_reducible (first | assumption | apply State.setB_kept | apply State.setLocked_kept | apply State.enterCoast_kept | fail_if_no_progress (apply upd_kept))) | split | (dsimp only; split))

theorem State.relockTo_kept {s0 : State} (s : State) (r : Relock) (nint : ℕ) (nfrac : ℕ) (band : ℕ) (hs : Kept s0 s) : Kept s0 (State.relockTo s r nint nfrac band) := by
  unfold State.relockTo
  repeat' (first | (with_reducible (first | assumption | apply State.setLocked_kept | apply State.setF_kept | fail_if_no_progress (apply upd_kept))) | split | (dsimp only; split))

theorem State.restoreClock_kept {s0 : State} (s : State) (hs : Kept s0 s) : Kept s0 (State.restoreClock s) := by
  unfold State.restoreClock
  repeat' (first | (with_reducible (first | assumption | apply State.setF_kept | apply State.relockTo_kept | fail_if_no_progress (apply upd_kept))) | split | (dsimp only; split))

theorem State.restoreTable_kept {s0 : State} (s : State) (hs : Kept s0 s) : Kept s0 (State.restoreTable s) := by
  unfold State.restoreTable
  repeat' (first | (with_reducible (first | assumption | intro _ | apply State.setWordsAt_kept | fail_if_no_progress (apply upd_kept) | apply foldr_kept)) | split | (dsimp only; split))

theorem retuneStart_kept {s0 : State} (s : State) (hs : Kept s0 s) : Kept s0 (retuneStart s).st := by
  unfold retuneStart
  repeat' (first | (with_reducible (first | assumption | intro _ | apply resDone_kept | apply State.setB_kept | apply State.relockTo_kept | apply State.unlockClock_kept | apply State.saveClock_kept | apply ite_res_kept | apply ite_kept | fail_if_no_progress (apply upd_kept))) | split | (dsimp only; split))

theorem bandscanStart_kept {s0 : State} (s : State) (hs : Kept s0 s) : Kept s0 (bandscanStart s).st := by
  unfold bandscanStart
  repeat' (first | (with_reducible (first | assumption | intro _ | apply resDone_kept | apply State.unlockClock_kept | apply State.saveClock_kept | apply ite_res_kept | apply ite_kept | fail_if_no_progress (apply upd_kept))) | split | (dsimp only; split))

theorem bandscanStep_kept {s0 : State} (c : LongCmd) (s : State) (hs : Kept s0 s) : Kept s0 (bandscanStep c s) := by
  unfold bandscanStep
  repeat' (first | (with_reducible (first | assumption | apply State.setWord_kept | apply State.partialEntry_kept | apply State.putLong_kept | apply State.restoreClock_kept | apply State.finishLong_kept | apply State.setB_kept | apply State.relockTo_kept | apply ite_kept | fail_if_no_progress (apply upd_kept))) | split | (dsimp only; split))

theorem bandscanCancel_kept {s0 : State} (c : LongCmd) (s : State) (hs : Kept s0 s) : Kept s0 (bandscanCancel c s) := by
  unfold bandscanCancel
  repeat' (first | (with_reducible (first | assumption | apply State.restoreClock_kept | apply State.restoreTable_kept | apply State.finishLong_kept | fail_if_no_progress (apply upd_kept))) | split | (dsimp only; split))

theorem execRetune_kept {s0 : State} (k : Fin 16) (f : Fetch) (s : State) (hs : Kept s0 s) : OutKept s0 (execRetune k f s) := by
  unfold execRetune
  repeat' (first | (with_reducible (first | assumption | intro _ | apply OutKept.next | apply State.startCmd_kept | apply retuneStart_kept | fail_if_no_progress (apply upd_kept))) | split | (dsimp only; split))

theorem execBandscan_kept {s0 : State} (k : Fin 16) (f : Fetch) (s : State) (hs : Kept s0 s) : OutKept s0 (execBandscan k f s) := by
  unfold execBandscan
  repeat' (first | (with_reducible (first | assumption | intro _ | apply OutKept.next | apply State.startCmd_kept | apply bandscanStart_kept | fail_if_no_progress (apply upd_kept))) | split | (dsimp only; split))

theorem State.releaseDividers_kept {s0 : State} (s : State) (hs : Kept s0 s) : Kept s0 (State.releaseDividers s) := by
  unfold State.releaseDividers
  repeat' (first | (with_reducible (first | assumption | apply State.setF_kept | fail_if_no_progress (apply upd_kept))) | split | (dsimp only; split))

theorem State.relockDone_kept {s0 : State} (s : State) (hs : Kept s0 s) : Kept s0 (State.relockDone s) := by
  unfold State.relockDone
  repeat' (first | (with_reducible (first | assumption | apply State.setF_kept | apply State.setB_kept | fail_if_no_progress (apply upd_kept))) | split | (dsimp only; split))

theorem relockQualified_kept {s0 : State} (s : State) (hs : Kept s0 s) : Kept s0 (relockQualified s) := by
  unfold relockQualified
  repeat' (first | (with_reducible (first | assumption | apply State.finishOp_kept | apply State.relockDone_kept | apply ite_kept | fail_if_no_progress (apply upd_kept))) | split | (dsimp only; split))

theorem execRelockQualified_kept {s0 : State} (s : State) (hs : Kept s0 s) : OutKept s0 (execRelockQualified s) := by
  unfold execRelockQualified
  repeat' (first | (with_reducible (first | assumption | intro _ | apply OutKept.next | apply relockQualified_kept | fail_if_no_progress (apply upd_kept))) | split | (dsimp only; split))

theorem relockTimeout_kept {s0 : State} (s : State) (hs : Kept s0 s) : Kept s0 (relockTimeout s) := by
  unfold relockTimeout
  repeat' (first | (with_reducible (first | assumption | apply State.restoreClock_kept | apply State.restoreTable_kept | apply State.finishOp_kept | apply ite_kept | fail_if_no_progress (apply upd_kept))) | split | (dsimp only; split))

theorem execRelockTimeout_kept {s0 : State} (s : State) (hs : Kept s0 s) : OutKept s0 (execRelockTimeout s) := by
  unfold execRelockTimeout
  repeat' (first | (with_reducible (first | assumption | intro _ | apply OutKept.next | apply relockTimeout_kept | fail_if_no_progress (apply upd_kept))) | split | (dsimp only; split))

theorem lockedRise_kept {s0 : State} (s : State) (hs : Kept s0 s) : Kept s0 (lockedRise s) := by
  unfold lockedRise
  repeat' (first | (with_reducible (first | assumption | apply State.setLocked_kept | apply ite_kept | fail_if_no_progress (apply upd_kept))) | split | (dsimp only; split))

theorem execLockedRise_kept {s0 : State} (s : State) (hs : Kept s0 s) : OutKept s0 (execLockedRise s) := by
  unfold execLockedRise
  repeat' (first | (with_reducible (first | assumption | intro _ | apply OutKept.next | apply lockedRise_kept | fail_if_no_progress (apply upd_kept))) | split | (dsimp only; split))

theorem lockLoss_kept {s0 : State} (s : State) (hs : Kept s0 s) : Kept s0 (lockLoss s) := by
  unfold lockLoss
  repeat' (first | (with_reducible (first | assumption | apply State.setLocked_kept | apply State.incSat_kept | apply State.setB_kept | apply State.errLog_kept | apply ite_kept | fail_if_no_progress (apply upd_kept))) | split | (dsimp only; split))

theorem execLockLoss_kept {s0 : State} (s : State) (hs : Kept s0 s) : OutKept s0 (execLockLoss s) := by
  unfold execLockLoss
  repeat' (first | (with_reducible (first | assumption | intro _ | apply OutKept.next | apply lockLoss_kept | fail_if_no_progress (apply upd_kept))) | split | (dsimp only; split))

theorem refinEdge_kept {s0 : State} (k : ℕ) (s : State) (hs : Kept s0 s) : Kept s0 (refinEdge k s) := by
  unfold refinEdge
  repeat' (first | (with_reducible (first | assumption | apply ite_kept | fail_if_no_progress (apply upd_kept))) | split | (dsimp only; split))

theorem execRefinEdge_kept {s0 : State} (k : Fin 160) (s : State) (hs : Kept s0 s) : OutKept s0 (execRefinEdge k s) := by
  unfold execRefinEdge
  repeat' (first | (with_reducible (first | assumption | intro _ | apply OutKept.next | apply refinEdge_kept | fail_if_no_progress (apply upd_kept))) | split | (dsimp only; split))

theorem State.loadPtime_kept {s0 : State} (s : State) (t : ℕ) (hs : Kept s0 s) : Kept s0 (State.loadPtime s t) := by
  unfold State.loadPtime
  repeat' (first | (with_reducible (first | assumption | apply State.setB_kept | apply State.setF_kept | fail_if_no_progress (apply upd_kept))) | split | (dsimp only; split))

theorem ppsinEdge_kept {s0 : State} (k : ℕ) (s : State) (hs : Kept s0 s) : Kept s0 (ppsinEdge k s) := by
  unfold ppsinEdge
  repeat' (first | (with_reducible (first | assumption | apply State.loadPtime_kept | apply State.setPtimeAt_kept | apply ite_kept | fail_if_no_progress (apply upd_kept))) | split | (dsimp only; split))

theorem execPpsinEdge_kept {s0 : State} (k : Fin 160) (s : State) (hs : Kept s0 s) : OutKept s0 (execPpsinEdge k s) := by
  unfold execPpsinEdge
  repeat' (first | (with_reducible (first | assumption | intro _ | apply OutKept.next | apply ppsinEdge_kept | fail_if_no_progress (apply upd_kept))) | split | (dsimp only; split))

theorem State.updateSteer_kept {s0 : State} (s : State) (err : ℤ) (meas : ℤ) (hs : Kept s0 s) : Kept s0 (State.updateSteer s err meas) := by
  unfold State.updateSteer
  repeat' (first | (with_reducible (first | assumption | apply State.steerWith_kept | fail_if_no_progress (apply upd_kept))) | split | (dsimp only; split))

theorem State.recordJump_kept {s0 : State} (s : State) (e : ℤ) (hs : Kept s0 s) : Kept s0 (State.recordJump s e) := by
  unfold State.recordJump
  repeat' (first | (with_reducible (first | assumption | apply State.setFi_kept | fail_if_no_progress (apply upd_kept))) | split | (dsimp only; split))

theorem State.regain_kept {s0 : State} (s : State) (e : ℤ) (hs : Kept s0 s) : Kept s0 (State.regain s e) := by
  unfold State.regain
  repeat' (first | (with_reducible (first | assumption | apply State.recordJump_kept | apply State.setB_kept | apply State.incSat_kept | apply State.slewSet_kept | apply State.stepPtime_kept | apply State.setFi_kept | apply ite_kept | fail_if_no_progress (apply upd_kept))) | split | (dsimp only; split))

theorem State.slewOn_kept {s0 : State} (s : State) (ms : ℕ) (hs : Kept s0 s) : Kept s0 (State.slewOn s ms) := by
  unfold State.slewOn
  repeat' (first | (with_reducible (first | assumption | apply State.slewSet_kept | apply ite_kept | fail_if_no_progress (apply upd_kept))) | split | (dsimp only; split))

theorem State.trackerMove_kept {s0 : State} (s : State) (ok : Bool) (err : ℤ) (stepErr : ℤ) (meas : ℤ) (ms : ℕ) (hs : Kept s0 s) : Kept s0 (State.trackerMove s ok err stepErr meas ms) := by
  unfold State.trackerMove
  repeat' (first | (with_reducible (first | assumption | apply State.setB_kept | apply State.recordJump_kept | apply State.setSteer_kept | apply State.stepPtime_kept | apply State.setTracker_kept | apply State.updateSteer_kept | apply State.enterCoast_kept | apply State.regain_kept | apply State.slewOn_kept | apply ite_kept | fail_if_no_progress (apply upd_kept))) | split | (dsimp only; split))

theorem intervalClose_kept {s0 : State} (meas : ℤ) (s : State) (hs : Kept s0 s) : Kept s0 (intervalClose meas s) := by
  unfold intervalClose
  repeat' (first | (with_reducible (first | assumption | apply State.setFi_kept | apply State.setB_kept | apply State.trackerMove_kept | apply ite_kept | fail_if_no_progress (apply upd_kept))) | split | (dsimp only; split))

theorem execTrackerIntervalClose_kept {s0 : State} (meas : ℤ) (s : State) (hs : Kept s0 s) : OutKept s0 (execTrackerIntervalClose meas s) := by
  unfold execTrackerIntervalClose
  repeat' (first | (with_reducible (first | assumption | intro _ | apply OutKept.next | apply intervalClose_kept | fail_if_no_progress (apply upd_kept))) | split | (dsimp only; split))

theorem State.crystalStep_kept {s0 : State} (s : State) (hs : Kept s0 s) : Kept s0 (State.crystalStep s) := by
  unfold State.crystalStep
  repeat' (first | (with_reducible (first | assumption | fail_if_no_progress (apply upd_kept))) | split | (dsimp only; split))

theorem State.cycleNotes_kept {s0 : State} (s : State) (hs : Kept s0 s) : Kept s0 (State.cycleNotes s) := by
  unfold State.cycleNotes
  repeat' (first | (with_reducible (first | assumption | apply State.noteRate_kept | fail_if_no_progress (apply upd_kept))) | split | (dsimp only; split))

theorem State.cycleStep_kept {s0 : State} (s : State) (hs : Kept s0 s) : Kept s0 (State.cycleStep s) := by
  unfold State.cycleStep
  repeat' (first | (with_reducible (first | assumption | apply State.loadPtime_kept | apply State.addWrap_kept | apply ite_kept | fail_if_no_progress (apply upd_kept))) | split | (dsimp only; split))

theorem ptimeIncrement_kept {s0 : State} (s : State) (hs : Kept s0 s) : Kept s0 (ptimeIncrement s) := by
  unfold ptimeIncrement
  repeat' (first | (with_reducible (first | assumption | apply State.releaseDividers_kept | apply State.crystalStep_kept | apply State.cycleStep_kept | apply State.cycleNotes_kept | apply ite_kept | fail_if_no_progress (apply upd_kept))) | split | (dsimp only; split))

theorem tbModeChange_kept {s0 : State} (s : State) (hs : Kept s0 s) : Kept s0 (tbModeChange s) := by
  unfold tbModeChange
  repeat' (first | (with_reducible (first | assumption | apply State.setSteer_kept | apply State.setB_kept | apply State.setF_kept | apply State.syncHoldover_kept | apply State.enterAcquire_kept | apply ite_kept | fail_if_no_progress (apply upd_kept))) | split | (dsimp only; split))

theorem execTbModeChange_kept {s0 : State} (s : State) (hs : Kept s0 s) : OutKept s0 (execTbModeChange s) := by
  unfold execTbModeChange
  repeat' (first | (with_reducible (first | assumption | intro _ | apply OutKept.next | apply tbModeChange_kept | fail_if_no_progress (apply upd_kept))) | split | (dsimp only; split))

theorem State.snap_kept {s0 : State} (s : State) (hs : Kept s0 s) : Kept s0 (State.snap s) := by
  unfold State.snap
  repeat' (first | (with_reducible (first | assumption | apply State.setWordsAt_kept | apply State.setPtimeAt_kept | fail_if_no_progress (apply upd_kept))) | split | (dsimp only; split))

theorem ppsoutPulse_kept {s0 : State} (s : State) (hs : Kept s0 s) : Kept s0 (ppsoutPulse s) := by
  unfold ppsoutPulse
  repeat' (first | (with_reducible (first | assumption | apply State.emit_kept | apply ite_kept | fail_if_no_progress (apply upd_kept))) | split | (dsimp only; split))

theorem execPpsoutPulse_kept {s0 : State} (s : State) (hs : Kept s0 s) : OutKept s0 (execPpsoutPulse s) := by
  unfold execPpsoutPulse
  repeat' (first | (with_reducible (first | assumption | intro _ | apply OutKept.next | apply ppsoutPulse_kept | fail_if_no_progress (apply upd_kept))) | split | (dsimp only; split))

end Sys2Proof.Machine
end

