-- ==== Sys2Proof/Laws/KeptAdc.lean ====
section
/-!
SUPPORT. Every function of Machine/Adc.lean that answers a state keeps what `Kept` names.
-/
set_option linter.all false
namespace Sys2Proof.Machine

theorem State.setAdc_kept {s0 : State} (s : State) (n : ℕ) (a : AdcSt) (hs : Kept s0 s) : Kept s0 (State.setAdc s n a) := by
  unfold State.setAdc
  repeat' (first | (with_reducible (first | assumption | fail_if_no_progress (apply upd_kept))) | split | (dsimp only; split))

theorem State.markChan_kept {s0 : State} (s : State) (n : ℕ) (lo : ℕ) (hi : ℕ) (flags : ℕ) (hs : Kept s0 s) : Kept s0 (State.markChan s n lo hi flags) := by
  unfold State.markChan
  repeat' (first | (with_reducible (first | assumption | apply State.setAdc_kept | apply ite_kept | fail_if_no_progress (apply upd_kept))) | split | (dsimp only; split))

theorem State.markBlock_kept {s0 : State} (s : State) (n idx base : ℕ) (l : List (ℤ × Bool)) (hs : Kept s0 s) :
    Kept s0 (s.markBlock n idx base l) := by
  induction l generalizing s idx with
  | nil => exact hs
  | cons y ys ih => exact ih _ _ (State.markChan_kept _ _ _ _ _ hs)

theorem State.channelBus_kept {s0 : State} (s : State) (n : ℕ) (sub : ℕ) (codes : List (BitVec 12)) (hs : Kept s0 s) : Kept s0 (State.channelBus s n sub codes) := by
  unfold State.channelBus
  repeat' (first | (with_reducible (first | assumption | apply State.setAdc_kept | apply State.setB_kept | apply State.addSat_kept | apply State.markBlock_kept | apply ite_fst_kept | apply ite_kept | fail_if_no_progress (apply upd_kept))) | split | (dsimp only; split))

theorem State.firstPassStart_kept {s0 : State} (s : State) (n : ℕ) (hs : Kept s0 s) : Kept s0 (State.firstPassStart s n) := by
  unfold State.firstPassStart
  repeat' (first | (with_reducible (first | assumption | apply State.setAdc_kept | apply State.setB_kept | fail_if_no_progress (apply upd_kept))) | split | (dsimp only; split))

theorem State.showHeld_kept {s0 : State} (s : State) (n : ℕ) (hs : Kept s0 s) : Kept s0 (State.showHeld s n) := by
  unfold State.showHeld
  repeat' (first | (with_reducible (first | assumption | apply State.setB_kept | apply ite_kept | fail_if_no_progress (apply upd_kept))) | split | (dsimp only; split))

theorem State.stepEnd_kept {s0 : State} (s : State) (n : ℕ) (hs : Kept s0 s) : Kept s0 (State.stepEnd s n) := by
  unfold State.stepEnd
  repeat' (first | (with_reducible (first | assumption | apply State.setAdc_kept | apply State.showHeld_kept | apply State.setB_kept | apply State.firstPassStart_kept | apply ite_kept | fail_if_no_progress (apply upd_kept))) | split | (dsimp only; split))

theorem State.handOver_kept {s0 : State} (s : State) (n : ℕ) (hs : Kept s0 s) : Kept s0 (State.handOver s n) := by
  unfold State.handOver
  repeat' (first | (with_reducible (first | assumption | apply State.markChan_kept | apply State.setAdc_kept | apply State.setF_kept | fail_if_no_progress (apply upd_kept))) | split | (dsimp only; split))

theorem State.retire_kept {s0 : State} (s : State) (n : ℕ) (hs : Kept s0 s) : Kept s0 (State.retire s n) := by
  unfold State.retire
  repeat' (first | (with_reducible (first | assumption | apply State.markChan_kept | apply State.setAdc_kept | apply State.setB_kept | apply State.setF_kept | apply State.errLog_kept | apply State.firstPassStart_kept | apply ite_kept | fail_if_no_progress (apply upd_kept))) | split | (dsimp only; split))

theorem State.plausDecide_kept {s0 : State} (s : State) (n : ℕ) (count : ℕ) (sum : ℕ) (hs : Kept s0 s) : Kept s0 (State.plausDecide s n count sum) := by
  unfold State.plausDecide
  repeat' (first | (with_reducible (first | assumption | apply State.stepEnd_kept | apply State.incSat_kept | apply State.setAdc_kept | apply State.handOver_kept | apply State.retire_kept | apply ite_kept | fail_if_no_progress (apply upd_kept))) | split | (dsimp only; split))

theorem rotationStepStart_kept {s0 : State} (n : ℕ) (s : State) (hs : Kept s0 s) : Kept s0 (rotationStepStart n s) := by
  unfold rotationStepStart
  repeat' (first | (with_reducible (first | assumption | apply State.setB_kept | apply State.setAdc_kept | apply ite_kept | fail_if_no_progress (apply upd_kept))) | split | (dsimp only; split))

theorem execRotationStepStart_kept {s0 : State} (n : Fin 8) (s : State) (hs : Kept s0 s) : OutKept s0 (execRotationStepStart n s) := by
  unfold execRotationStepStart
  repeat' (first | (with_reducible (first | assumption | intro _ | apply OutKept.next | apply State.whileRunning_kept | apply rotationStepStart_kept | fail_if_no_progress (apply upd_kept))) | split | (dsimp only; split))

theorem plausibilityDecision_kept {s0 : State} (n : ℕ) (window : List (BitVec 12 × BitVec 12)) (s : State) (hs : Kept s0 s) : Kept s0 (plausibilityDecision n window s) := by
  unfold plausibilityDecision
  repeat' (first | (with_reducible (first | assumption | apply State.plausDecide_kept | apply ite_kept | fail_if_no_progress (apply upd_kept))) | split | (dsimp only; split))

theorem execPlausibilityDecision_kept {s0 : State} (n : Fin 8) (spare : List (BitVec 12)) (outgoing : List (BitVec 12)) (s : State) (hs : Kept s0 s) : OutKept s0 (execPlausibilityDecision n spare outgoing s) := by
  unfold execPlausibilityDecision
  repeat' (first | (with_reducible (first | assumption | intro _ | apply OutKept.next | apply State.whileRunning_kept | apply plausibilityDecision_kept | fail_if_no_progress (apply upd_kept))) | split | (dsimp only; split))

theorem plausibilityRetry_kept {s0 : State} (n : ℕ) (window : List (BitVec 12 × BitVec 12)) (s : State) (hs : Kept s0 s) : Kept s0 (plausibilityRetry n window s) := by
  unfold plausibilityRetry
  repeat' (first | (with_reducible (first | assumption | apply State.plausDecide_kept | apply State.setAdc_kept | apply ite_kept | fail_if_no_progress (apply upd_kept))) | split | (dsimp only; split))

theorem execPlausibilityRetry_kept {s0 : State} (n : Fin 8) (spare : List (BitVec 12)) (outgoing : List (BitVec 12)) (s : State) (hs : Kept s0 s) : OutKept s0 (execPlausibilityRetry n spare outgoing s) := by
  unfold execPlausibilityRetry
  repeat' (first | (with_reducible (first | assumption | intro _ | apply OutKept.next | apply State.whileRunning_kept | apply plausibilityRetry_kept | fail_if_no_progress (apply upd_kept))) | split | (dsimp only; split))

theorem State.setTrims_kept {s0 : State} (s : State) (n : ℕ) (k : ℕ) (m : TrimSet) (hs : Kept s0 s) : Kept s0 (State.setTrims s n k m) := by
  unfold State.setTrims
  repeat' (first | (with_reducible (first | assumption | apply State.setF_kept | apply State.setFi_kept | fail_if_no_progress (apply upd_kept))) | split | (dsimp only; split))

theorem measurementCompare_kept {s0 : State} (n : ℕ) (m1 : TrimSet) (m2 : TrimSet) (s : State) (hs : Kept s0 s) : Kept s0 (measurementCompare n m1 m2 s) := by
  unfold measurementCompare
  repeat' (first | (with_reducible (first | assumption | apply State.addWrap_kept | apply State.setTrims_kept | apply State.setPtimeAt_kept | apply State.setF_kept | apply State.incSat_kept | apply State.stepEnd_kept | apply State.setAdc_kept | apply ite_kept | fail_if_no_progress (apply upd_kept))) | split | (dsimp only; split))

theorem execMeasurementCompare_kept {s0 : State} (n : Fin 8) (m1 : TrimSet) (m2 : TrimSet) (s : State) (hs : Kept s0 s) : OutKept s0 (execMeasurementCompare n m1 m2 s) := by
  unfold execMeasurementCompare
  repeat' (first | (with_reducible (first | assumption | intro _ | apply OutKept.next | apply State.whileRunning_kept | apply measurementCompare_kept | fail_if_no_progress (apply upd_kept))) | split | (dsimp only; split))

theorem handBack_kept {s0 : State} (n : ℕ) (s : State) (hs : Kept s0 s) : Kept s0 (handBack n s) := by
  unfold handBack
  repeat' (first | (with_reducible (first | assumption | apply State.markChan_kept | apply State.setAdc_kept | apply State.stepEnd_kept | apply State.setF_kept | apply ite_kept | fail_if_no_progress (apply upd_kept))) | split | (dsimp only; split))

theorem execHandBack_kept {s0 : State} (n : Fin 8) (s : State) (hs : Kept s0 s) : OutKept s0 (execHandBack n s) := by
  unfold execHandBack
  repeat' (first | (with_reducible (first | assumption | intro _ | apply OutKept.next | apply State.whileRunning_kept | apply handBack_kept | fail_if_no_progress (apply upd_kept))) | split | (dsimp only; split))

theorem State.stepUndo_kept {s0 : State} (s : State) (n : ℕ) (hs : Kept s0 s) : Kept s0 (State.stepUndo s n) := by
  unfold State.stepUndo
  repeat' (first | (with_reducible (first | assumption | apply State.setWord_kept | apply State.setF_kept | apply State.setWordsAt_kept | fail_if_no_progress (apply upd_kept))) | split | (dsimp only; split))

theorem State.stepKill_kept {s0 : State} (s0_ : State) (n : ℕ) (hs0_ : Kept s0 s0_) : Kept s0 (State.stepKill s0_ n) := by
  unfold State.stepKill
  repeat' (first | (with_reducible (first | assumption | apply State.stepUndo_kept | apply State.incSat_kept | apply State.setAdc_kept | apply State.setF_kept | apply State.stepEnd_kept | apply ite_kept | fail_if_no_progress (apply upd_kept))) | split | (dsimp only; split))

theorem adcCtrlWritten_kept {s0 : State} (n : ℕ) (old : ℕ) (v : ℕ) (s : State) (hs : Kept s0 s) : Kept s0 (adcCtrlWritten n old v s) := by
  unfold adcCtrlWritten
  repeat' (first | (with_reducible (first | assumption | apply State.setF_kept | apply State.setB_kept | apply State.stepKill_kept | apply State.setAdc_kept | apply State.firstPassStart_kept | apply ite_kept | fail_if_no_progress (apply upd_kept))) | split | (dsimp only; split))

theorem State.heldTick_kept {s0 : State} (s : State) (hs : Kept s0 s) : Kept s0 (State.heldTick s) := by
  unfold State.heldTick
  repeat' (first | (with_reducible (first | assumption | intro _ | apply State.showHeld_kept | apply foldl_kept | fail_if_no_progress (apply upd_kept))) | split | (dsimp only; split))

theorem State.factoryTrims_kept {s0 : State} (s : State) (n : ℕ) (k : ℕ) (hs : Kept s0 s) : Kept s0 (State.factoryTrims s n k) := by
  unfold State.factoryTrims
  repeat' (first | (with_reducible (first | assumption | apply State.setF_kept | apply State.setWord_kept | fail_if_no_progress (apply upd_kept))) | split | (dsimp only; split))

theorem State.firstPassOne_kept {s0 : State} (s : State) (n : ℕ) (k : ℕ) (tries : List (TrimSet × TrimSet)) (hs : Kept s0 s) : Kept s0 (State.firstPassOne s n k tries) := by
  unfold State.firstPassOne
  repeat' (first | (with_reducible (first | assumption | apply State.setF_kept | apply State.setTrims_kept | apply State.setB_kept | apply State.factoryTrims_kept | fail_if_no_progress (apply upd_kept))) | split | (dsimp only; split))

theorem firstPassDone_kept {s0 : State} (n : ℕ) (res : List (List (TrimSet × TrimSet))) (s : State) (hs : Kept s0 s) : Kept s0 (firstPassDone n res s) := by
  unfold firstPassDone
  repeat' (first | (with_reducible (first | assumption | intro _ | apply State.firstPassOne_kept | apply State.setB_kept | apply State.setAdc_kept | apply State.finishLong_kept | apply ite_kept | apply foldl_kept | fail_if_no_progress (apply upd_kept))) | split | (dsimp only; split))

theorem execFirstPassDone_kept {s0 : State} (n : Fin 8) (res : List (List (TrimSet × TrimSet))) (s : State) (hs : Kept s0 s) : OutKept s0 (execFirstPassDone n res s) := by
  unfold execFirstPassDone
  repeat' (first | (with_reducible (first | assumption | intro _ | apply OutKept.next | apply State.whileRunning_kept | apply firstPassDone_kept | fail_if_no_progress (apply upd_kept))) | split | (dsimp only; split))

theorem calSweepStart_kept {s0 : State} (mask : ℕ) (s : State) (hs : Kept s0 s) : Kept s0 (calSweepStart mask s).st := by
  unfold calSweepStart
  repeat' (first | (with_reducible (first | assumption | intro _ | apply resDone_kept | apply State.setB_kept | apply State.setAdc_kept | apply State.firstPassStart_kept | apply ite_res_kept | apply ite_kept | apply foldl_kept | fail_if_no_progress (apply upd_kept))) | split | (dsimp only; split))

theorem execCalSweep_kept {s0 : State} (k : Fin 16) (f : Fetch) (s : State) (hs : Kept s0 s) : OutKept s0 (execCalSweep k f s) := by
  unfold execCalSweep
  repeat' (first | (with_reducible (first | assumption | intro _ | apply OutKept.next | apply State.startCmd_kept | apply calSweepStart_kept | fail_if_no_progress (apply upd_kept))) | split | (dsimp only; split))

theorem dcorApply_kept {s0 : State} (n : ℕ) (s : State) (hs : Kept s0 s) : Kept s0 (dcorApply n s) := by
  unfold dcorApply
  repeat' (first | (with_reducible (first | assumption | apply State.setAdc_kept | apply ite_kept | fail_if_no_progress (apply upd_kept))) | split | (dsimp only; split))

theorem execDcorApply_kept {s0 : State} (n : Fin 8) (s : State) (hs : Kept s0 s) : OutKept s0 (execDcorApply n s) := by
  unfold execDcorApply
  repeat' (first | (with_reducible (first | assumption | intro _ | apply OutKept.next | apply State.whileRunning_kept | apply dcorApply_kept | fail_if_no_progress (apply upd_kept))) | split | (dsimp only; split))

theorem State.trimsHeld_kept {s0 : State} (s : State) (n : ℕ) (k : ℕ) (trim : BitVec 32) (skew : BitVec 32) (hs : Kept s0 s) : Kept s0 (State.trimsHeld s n k trim skew) := by
  unfold State.trimsHeld
  repeat' (first | (with_reducible (first | assumption | apply State.setAdc_kept | apply ite_fst_kept | apply ite_kept | fail_if_no_progress (apply upd_kept))) | split | (dsimp only; split))

theorem trimWritten_kept {s0 : State} (n : ℕ) (off : ℕ) (old : ℕ) (v : ℕ) (s : State) (hs : Kept s0 s) : Kept s0 (trimWritten n off old v s) := by
  unfold trimWritten
  repeat' (first | (with_reducible (first | assumption | apply State.trimsHeld_kept | apply ite_kept | fail_if_no_progress (apply upd_kept))) | split | (dsimp only; split))

theorem State.trimTick_kept {s0 : State} (s : State) (hs : Kept s0 s) : Kept s0 (State.trimTick s) := by
  unfold State.trimTick
  repeat' (first | (with_reducible (first | assumption | intro _ | apply State.setAdc_kept | apply ite_kept | apply foldl_kept | fail_if_no_progress (apply upd_kept))) | split | (dsimp only; split))

theorem loopbackSwitch_kept {s0 : State} (n : ℕ) (s : State) (hs : Kept s0 s) : Kept s0 (loopbackSwitch n s) := by
  unfold loopbackSwitch
  repeat' (first | (with_reducible (first | assumption | apply State.setAdc_kept | apply ite_kept | fail_if_no_progress (apply upd_kept))) | split | (dsimp only; split))

theorem execLoopbackSwitch_kept {s0 : State} (n : Fin 8) (s : State) (hs : Kept s0 s) : OutKept s0 (execLoopbackSwitch n s) := by
  unfold execLoopbackSwitch
  repeat' (first | (with_reducible (first | assumption | intro _ | apply OutKept.next | apply State.whileRunning_kept | apply loopbackSwitch_kept | fail_if_no_progress (apply upd_kept))) | split | (dsimp only; split))

theorem State.adcRestart_kept {s0 : State} (s : State) (n : ℕ) (hs : Kept s0 s) : Kept s0 (State.adcRestart s n) := by
  unfold State.adcRestart
  repeat' (first | (with_reducible (first | assumption | intro _ | apply State.stepKill_kept | apply State.setF_kept | apply State.factoryTrims_kept | apply State.setB_kept | apply State.setAdc_kept | apply State.firstPassStart_kept | apply ite_kept | apply foldl_kept | fail_if_no_progress (apply upd_kept))) | split | (dsimp only; split))

end Sys2Proof.Machine
end

