-- ==== Sys2Proof/Laws/KeptDac.lean ====
section
/-!
SUPPORT. Every function of Machine/Dac.lean that answers a state keeps what `Kept` names.
-/
set_option linter.all false
namespace Sys2Proof.Machine

theorem State.setDac_kept {s0 : State} (s : State) (n : ℕ) (d : DacSt) (hs : Kept s0 s) : Kept s0 (State.setDac s n d) := by
  unfold State.setDac
  repeat' (first | (with_reducible (first | assumption | fail_if_no_progress (apply upd_kept))) | split | (dsimp only; split))

theorem State.prefetchStart_kept {s0 : State} (s : State) (n : ℕ) (hs : Kept s0 s) : Kept s0 (State.prefetchStart s n) := by
  unfold State.prefetchStart
  repeat' (first | (with_reducible (first | assumption | apply State.setDac_kept | fail_if_no_progress (apply upd_kept))) | split | (dsimp only; split))

theorem State.dacEnable_kept {s0 : State} (s : State) (n : ℕ) (hs : Kept s0 s) : Kept s0 (State.dacEnable s n) := by
  unfold State.dacEnable
  repeat' (first | (with_reducible (first | assumption | apply State.setF_kept | apply State.setB_kept | apply State.prefetchStart_kept | apply State.setDac_kept | apply ite_kept | fail_if_no_progress (apply upd_kept))) | split | (dsimp only; split))

theorem dacCtrlWritten_kept {s0 : State} (n : ℕ) (old : ℕ) (v : ℕ) (s : State) (hs : Kept s0 s) : Kept s0 (dacCtrlWritten n old v s) := by
  unfold dacCtrlWritten
  repeat' (first | (with_reducible (first | assumption | apply State.setB_kept | apply State.setF_kept | apply State.setDac_kept | apply State.dacEnable_kept | apply State.prefetchStart_kept | apply ite_kept | fail_if_no_progress (apply upd_kept))) | split | (dsimp only; split))

theorem dacGainWritten_kept {s0 : State} (n : ℕ) (s : State) (hs : Kept s0 s) : Kept s0 (dacGainWritten n s) := by
  unfold dacGainWritten
  repeat' (first | (with_reducible (first | assumption | apply State.setDac_kept | apply ite_kept | fail_if_no_progress (apply upd_kept))) | split | (dsimp only; split))

theorem State.dacBegin_kept {s0 : State} (s : State) (n : ℕ) (first : ℕ) (hs : Kept s0 s) : Kept s0 (State.dacBegin s n first) := by
  unfold State.dacBegin
  repeat' (first | (with_reducible (first | assumption | apply State.setB_kept | apply State.setDac_kept | fail_if_no_progress (apply upd_kept))) | split | (dsimp only; split))

theorem State.dacTimed_kept {s0 : State} (s : State) (n : ℕ) (hs : Kept s0 s) : Kept s0 (State.dacTimed s n) := by
  unfold State.dacTimed
  repeat' (first | (with_reducible (first | assumption | apply State.dacBegin_kept | apply ite_kept | fail_if_no_progress (apply upd_kept))) | split | (dsimp only; split))

theorem State.dacTick_kept {s0 : State} (s : State) (hs : Kept s0 s) : Kept s0 (State.dacTick s) := by
  unfold State.dacTick
  repeat' (first | (with_reducible (first | assumption | intro _ | apply State.dacTimed_kept | apply foldl_kept | fail_if_no_progress (apply upd_kept))) | split | (dsimp only; split))

theorem dacStart_kept {s0 : State} (n : ℕ) (s : State) (hs : Kept s0 s) : Kept s0 (dacStart n s) := by
  unfold dacStart
  repeat' (first | (with_reducible (first | assumption | apply State.dacBegin_kept | apply State.dacTimed_kept | apply ite_kept | fail_if_no_progress (apply upd_kept))) | split | (dsimp only; split))

theorem execDacStart_kept {s0 : State} (n : Fin 4) (s : State) (hs : Kept s0 s) : OutKept s0 (execDacStart n s) := by
  unfold execDacStart
  repeat' (first | (with_reducible (first | assumption | intro _ | apply OutKept.next | apply dacStart_kept | fail_if_no_progress (apply upd_kept))) | split | (dsimp only; split))

theorem State.dacChange_kept {s0 : State} (s : State) (n : ℕ) (hs : Kept s0 s) : Kept s0 (State.dacChange s n) := by
  unfold State.dacChange
  repeat' (first | (with_reducible (first | assumption | apply State.setDac_kept | fail_if_no_progress (apply upd_kept))) | split | (dsimp only; split))

theorem dacPrefetchReady_kept {s0 : State} (n : ℕ) (s : State) (hs : Kept s0 s) : Kept s0 (dacPrefetchReady n s) := by
  unfold dacPrefetchReady
  repeat' (first | (with_reducible (first | assumption | apply State.dacBegin_kept | apply State.dacChange_kept | apply ite_kept | fail_if_no_progress (apply upd_kept))) | split | (dsimp only; split))

theorem execDacPrefetchReady_kept {s0 : State} (n : Fin 4) (s : State) (hs : Kept s0 s) : OutKept s0 (execDacPrefetchReady n s) := by
  unfold execDacPrefetchReady
  repeat' (first | (with_reducible (first | assumption | intro _ | apply OutKept.next | apply dacPrefetchReady_kept | fail_if_no_progress (apply upd_kept))) | split | (dsimp only; split))

theorem State.dacHalt_kept {s0 : State} (s : State) (n : ℕ) (hs : Kept s0 s) : Kept s0 (State.dacHalt s n) := by
  unfold State.dacHalt
  repeat' (first | (with_reducible (first | assumption | apply State.setB_kept | apply State.setDac_kept | fail_if_no_progress (apply upd_kept))) | split | (dsimp only; split))

theorem dacStop_kept {s0 : State} (n : ℕ) (s : State) (hs : Kept s0 s) : Kept s0 (dacStop n s) := by
  unfold dacStop
  repeat' (first | (with_reducible (first | assumption | apply State.dacHalt_kept | apply ite_kept | fail_if_no_progress (apply upd_kept))) | split | (dsimp only; split))

theorem execDacStop_kept {s0 : State} (n : Fin 4) (s : State) (hs : Kept s0 s) : OutKept s0 (execDacStop n s) := by
  unfold execDacStop
  repeat' (first | (with_reducible (first | assumption | intro _ | apply OutKept.next | apply dacStop_kept | fail_if_no_progress (apply upd_kept))) | split | (dsimp only; split))

theorem dacSourceChange_kept {s0 : State} (n : ℕ) (s : State) (hs : Kept s0 s) : Kept s0 (dacSourceChange n s) := by
  unfold dacSourceChange
  repeat' (first | (with_reducible (first | assumption | apply State.setDac_kept | apply State.dacChange_kept | apply ite_kept | fail_if_no_progress (apply upd_kept))) | split | (dsimp only; split))

theorem execDacSourceChange_kept {s0 : State} (n : Fin 4) (s : State) (hs : Kept s0 s) : OutKept s0 (execDacSourceChange n s) := by
  unfold execDacSourceChange
  repeat' (first | (with_reducible (first | assumption | intro _ | apply OutKept.next | apply dacSourceChange_kept | fail_if_no_progress (apply upd_kept))) | split | (dsimp only; split))

theorem ncoFtwApply_kept {s0 : State} (n : ℕ) (i : ℕ) (s : State) (hs : Kept s0 s) : Kept s0 (ncoFtwApply n i s) := by
  unfold ncoFtwApply
  repeat' (first | (with_reducible (first | assumption | apply State.setDac_kept | apply ite_kept | fail_if_no_progress (apply upd_kept))) | split | (dsimp only; split))

theorem execNcoFtwApply_kept {s0 : State} (n : Fin 4) (i : Fin 2) (s : State) (hs : Kept s0 s) : OutKept s0 (execNcoFtwApply n i s) := by
  unfold execNcoFtwApply
  repeat' (first | (with_reducible (first | assumption | intro _ | apply OutKept.next | apply ncoFtwApply_kept | fail_if_no_progress (apply upd_kept))) | split | (dsimp only; split))

theorem State.playSample_kept {s0 : State} (s : State) (n : ℕ) (hs : Kept s0 s) : Kept s0 (State.playSample s n).1 := by
  unfold State.playSample
  repeat' (first | (with_reducible (first | assumption | intro _ | apply State.setB_kept | apply State.setDac_kept | apply State.incSat_kept | apply ite_fst_kept | apply ite_kept | fail_if_no_progress (apply upd_kept))) | split | (dsimp only; split))

theorem State.toneSample_kept {s0 : State} (s : State) (n : ℕ) (hs : Kept s0 s) : Kept s0 (State.toneSample s n).1 := by
  unfold State.toneSample
  repeat' (first | (with_reducible (first | assumption | intro _ | apply State.setDac_kept | fail_if_no_progress (apply upd_kept))) | split | (dsimp only; split))

theorem State.synthSample_kept {s0 : State} (s : State) (n : ℕ) (hs : Kept s0 s) : Kept s0 (State.synthSample s n).1 := by
  unfold State.synthSample
  repeat' (first | (with_reducible (first | assumption | intro _ | apply State.setDac_kept | apply State.setB_kept | apply State.incSat_kept | fail_if_no_progress (apply upd_kept))) | split | (dsimp only; split))

theorem State.dueSample_kept {s0 : State} (s : State) (n : ℕ) (hs : Kept s0 s) : Kept s0 (State.dueSample s n).1 := by
  unfold State.dueSample
  repeat' (first | (with_reducible (first | assumption | intro _ | apply State.playSample_kept | apply State.toneSample_kept | apply State.synthSample_kept | apply State.setB_kept | apply State.setDac_kept | apply ite_fst_kept | apply ite_kept | fail_if_no_progress (apply upd_kept))) | split | (dsimp only; split))

theorem dacSampleDue_kept {s0 : State} (n : ℕ) (s : State) (hs : Kept s0 s) : Kept s0 (dacSampleDue n s) := by
  unfold dacSampleDue
  repeat' (first | (with_reducible (first | assumption | apply State.dueSample_kept | apply State.setDac_kept | fail_if_no_progress (apply upd_kept))) | split | (dsimp only; split))

theorem State.synthRecord_kept {s0 : State} (s : State) (n : ℕ) (xs : List (BitVec 16)) (hs : Kept s0 s) : Kept s0 (State.synthRecord s n xs) := by
  unfold State.synthRecord
  repeat' (first | (with_reducible (first | assumption | apply State.setDac_kept | apply State.setB_kept | apply State.addSat_kept | apply ite_kept | fail_if_no_progress (apply upd_kept))) | split | (dsimp only; split))

theorem execSynthRecord_kept {s0 : State} (n : Fin 4) (samples : List (BitVec 16)) (s : State) (hs : Kept s0 s) : OutKept s0 (execSynthRecord n samples s) := by
  unfold execSynthRecord
  repeat' (first | (with_reducible (first | assumption | intro _ | apply OutKept.next | apply State.synthRecord_kept | fail_if_no_progress (apply upd_kept))) | split | (dsimp only; split))

theorem State.prefetchArrive_kept {s0 : State} (s : State) (n : ℕ) (xs : List (BitVec 16)) (hs : Kept s0 s) : Kept s0 (State.prefetchArrive s n xs) := by
  unfold State.prefetchArrive
  repeat' (first | (with_reducible (first | assumption | apply State.setDac_kept | apply ite_kept | fail_if_no_progress (apply upd_kept))) | split | (dsimp only; split))

end Sys2Proof.Machine
end

