-- ==== Sys2Proof/Laws/KeptChain.lean ====
section
/-!
SUPPORT. Every function of Machine/Chain.lean that answers a state keeps what `Kept` names.
-/
set_option linter.all false
namespace Sys2Proof.Machine

theorem State.setFch_kept {s0 : State} (s : State) (n : ℕ) (c : FchSt) (hs : Kept s0 s) : Kept s0 (State.setFch s n c) := by
  unfold State.setFch
  repeat' (first | (with_reducible (first | assumption | fail_if_no_progress (apply upd_kept))) | split | (dsimp only; split))

theorem State.syncLoad_kept {s0 : State} (s : State) (hs : Kept s0 s) : Kept s0 (State.syncLoad s) := by
  unfold State.syncLoad
  repeat' (first | (with_reducible (first | assumption | apply State.setF_kept | fail_if_no_progress (apply upd_kept))) | split | (dsimp only; split))

theorem State.syncDelay_kept {s0 : State} (s : State) (n : ℕ) (hs : Kept s0 s) : Kept s0 (State.syncDelay s n) := by
  unfold State.syncDelay
  repeat' (first | (with_reducible (first | assumption | apply State.setB_kept | apply State.setF_kept | fail_if_no_progress (apply upd_kept))) | split | (dsimp only; split))

theorem State.copyWords_kept {s0 : State} (s : State) (dst : ℕ → ℕ) (src : ℕ → ℕ) (k : ℕ) (hs : Kept s0 s) : Kept s0 (State.copyWords s dst src k) := by
  unfold State.copyWords
  repeat' (first | (with_reducible (first | assumption | intro _ | apply State.setWord_kept | apply foldl_kept | fail_if_no_progress (apply upd_kept))) | split | (dsimp only; split))

theorem State.takeMN_kept {s0 : State} (s : State) (n : ℕ) (hs : Kept s0 s) : Kept s0 (State.takeMN s n) := by
  unfold State.takeMN
  repeat' (first | (with_reducible (first | assumption | apply State.setF_kept | fail_if_no_progress (apply upd_kept))) | split | (dsimp only; split))

theorem State.copyBank_kept {s0 : State} (s : State) (n : ℕ) (hs : Kept s0 s) : Kept s0 (State.copyBank s n) := by
  unfold State.copyBank
  repeat' (first | (with_reducible (first | assumption | apply State.copyWords_kept | apply State.syncLoad_kept | apply State.syncDelay_kept | apply State.takeMN_kept | fail_if_no_progress (apply upd_kept))) | split | (dsimp only; split))

theorem State.endCommit_kept {s0 : State} (s : State) (n : ℕ) (hs : Kept s0 s) : Kept s0 (State.endCommit s n) := by
  unfold State.endCommit
  repeat' (first | (with_reducible (first | assumption | apply State.setB_kept | apply State.setFch_kept | fail_if_no_progress (apply upd_kept))) | split | (dsimp only; split))

theorem State.fchStop_kept {s0 : State} (s : State) (n : ℕ) (hs : Kept s0 s) : Kept s0 (State.fchStop s n) := by
  unfold State.fchStop
  repeat' (first | (with_reducible (first | assumption | apply State.syncLoad_kept | apply State.setB_kept | apply State.setFch_kept | fail_if_no_progress (apply upd_kept))) | split | (dsimp only; split))

theorem State.fchDisable_kept {s0 : State} (s : State) (n : ℕ) (hs : Kept s0 s) : Kept s0 (State.fchDisable s n) := by
  unfold State.fchDisable
  repeat' (first | (with_reducible (first | assumption | apply State.setF_kept | apply State.setB_kept | apply State.fchStop_kept | apply State.endCommit_kept | apply ite_kept | fail_if_no_progress (apply upd_kept))) | split | (dsimp only; split))

theorem State.fchCancel_kept {s0 : State} (s : State) (n : ℕ) (hs : Kept s0 s) : Kept s0 (State.fchCancel s n) := by
  unfold State.fchCancel
  repeat' (first | (with_reducible (first | assumption | apply State.setF_kept | apply State.setB_kept | apply State.setFch_kept | apply ite_kept | fail_if_no_progress (apply upd_kept))) | split | (dsimp only; split))

theorem fchCtrlWritten_kept {s0 : State} (n : ℕ) (old : ℕ) (v : ℕ) (s : State) (hs : Kept s0 s) : Kept s0 (fchCtrlWritten n old v s) := by
  unfold fchCtrlWritten
  repeat' (first | (with_reducible (first | assumption | apply State.setB_kept | apply State.fchCancel_kept | apply State.fchDisable_kept | apply State.setFch_kept | apply ite_kept | fail_if_no_progress (apply upd_kept))) | split | (dsimp only; split))

theorem fchChecksDone_kept {s0 : State} (n : ℕ) (s : State) (hs : Kept s0 s) : Kept s0 (fchChecksDone n s) := by
  unfold fchChecksDone
  repeat' (first | (with_reducible (first | assumption | apply State.setB_kept | apply State.setFch_kept | apply State.setF_kept | apply State.addWrap_kept | apply State.copyBank_kept | apply State.syncLoad_kept | apply ite_kept | fail_if_no_progress (apply upd_kept))) | split | (dsimp only; split))

theorem execFchChecksDone_kept {s0 : State} (n : Fin 16) (s : State) (hs : Kept s0 s) : OutKept s0 (execFchChecksDone n s) := by
  unfold execFchChecksDone
  repeat' (first | (with_reducible (first | assumption | intro _ | apply OutKept.next | apply fchChecksDone_kept | fail_if_no_progress (apply upd_kept))) | split | (dsimp only; split))

theorem fchStart_kept {s0 : State} (n : ℕ) (s : State) (hs : Kept s0 s) : Kept s0 (fchStart n s) := by
  unfold fchStart
  repeat' (first | (with_reducible (first | assumption | apply State.syncLoad_kept | apply State.setB_kept | apply State.setFch_kept | apply ite_fst_kept | apply ite_kept | fail_if_no_progress (apply upd_kept))) | split | (dsimp only; split))

theorem execFchStart_kept {s0 : State} (n : Fin 16) (s : State) (hs : Kept s0 s) : OutKept s0 (execFchStart n s) := by
  unfold execFchStart
  repeat' (first | (with_reducible (first | assumption | intro _ | apply OutKept.next | apply fchStart_kept | fail_if_no_progress (apply upd_kept))) | split | (dsimp only; split))

theorem State.detResult_kept {s0 : State} (s : State) (n : ℕ) (d : DetRes) (hs : Kept s0 s) : Kept s0 (State.detResult s n d) := by
  unfold State.detResult
  repeat' (first | (with_reducible (first | assumption | apply State.setF_kept | apply ite_kept | fail_if_no_progress (apply upd_kept))) | split | (dsimp only; split))

theorem State.chainHandOver_kept {s0 : State} (s : State) (n : ℕ) (hs : Kept s0 s) : Kept s0 (State.chainHandOver s n).1 := by
  unfold State.chainHandOver
  repeat' (first | (with_reducible (first | assumption | intro _ | apply State.detResult_kept | apply State.setF_kept | apply State.addWrap_kept | apply State.copyBank_kept | apply State.setB_kept | apply State.setFch_kept | apply ite_fst_kept | apply foldl_fst_kept | apply ite_kept | apply foldl_kept | fail_if_no_progress (apply upd_kept))) | split | (dsimp only; split))

theorem State.fchTick_kept {s0 : State} (s : State) (hs : Kept s0 s) : Kept s0 (State.fchTick s) := by
  unfold State.fchTick
  repeat' (first | (with_reducible (first | assumption | intro _ | apply State.setB_kept | apply State.setFch_kept | apply ite_kept | apply foldl_kept | fail_if_no_progress (apply upd_kept))) | split | (dsimp only; split))

theorem State.playbackIn_kept {s0 : State} (s : State) (n : ℕ) (c : FchSt) (hs : Kept s0 s) : Kept s0 (State.playbackIn s n c).1 := by
  unfold State.playbackIn
  repeat' (first | (with_reducible (first | assumption | intro _ | apply State.setB_kept | apply State.incSat_kept | apply ite_fst_kept | apply ite_kept | fail_if_no_progress (apply upd_kept))) | split | (dsimp only; split))

theorem State.takePlayback_kept {s0 : State} (n : ℕ) (cs : ChainSet) (m : ℕ) (p : State × FchSt) (hs : Kept s0 p.1) :
    Kept s0 (State.takePlayback n cs m p).1 := by
  induction m generalizing p with
  | zero => exact hs
  | succ m ih => exact ih _ (State.playbackIn_kept _ _ _ hs)

theorem State.emitOutput_kept {s0 : State} (s : State) (n : ℕ) (hs : Kept s0 s) : Kept s0 (State.emitOutput s n).1 := by
  unfold State.emitOutput
  repeat' (first | (with_reducible (first | assumption | intro _ | apply State.takePlayback_kept | apply State.setFch_kept | apply State.incSat_kept | apply State.setB_kept | apply State.detResult_kept | apply ite_fst_kept | apply foldl_fst_kept | apply ite_kept | apply foldl_kept | fail_if_no_progress (apply upd_kept))) | split | (dsimp only; split))

theorem State.chainOutput_kept {s0 : State} (s : State) (n : ℕ) (hs : Kept s0 s) : Kept s0 (State.chainOutput s n).1 := by
  unfold State.chainOutput
  repeat' (first | (with_reducible (first | assumption | intro _ | apply State.chainHandOver_kept | apply State.emitOutput_kept | apply ite_fst_kept | apply ite_kept | fail_if_no_progress (apply upd_kept))) | split | (dsimp only; split))

theorem State.chainIn_kept {s0 : State} (s : State) (n : ℕ) (active : Bool) (k : ℕ) (x : ℤ) (hs : Kept s0 s) : Kept s0 (State.chainIn s n active k x) := by
  unfold State.chainIn
  repeat' (first | (with_reducible (first | assumption | apply State.setFch_kept | apply ite_fst_kept | apply ite_kept | fail_if_no_progress (apply upd_kept))) | split | (dsimp only; split))

theorem State.feedChains_kept {s0 : State} (s : State) (src : ℕ) (xs : List (ℕ × ℤ)) (hs : Kept s0 s) : Kept s0 (State.feedChains s src xs) := by
  unfold State.feedChains
  repeat' (first | (with_reducible (first | assumption | intro _ | apply State.chainIn_kept | apply ite_kept | apply foldl_kept | fail_if_no_progress (apply upd_kept))) | split | (dsimp only; split))

theorem State.shadowSource_kept {s0 : State} (s : State) (n : ℕ) (hs : Kept s0 s) : Kept s0 (State.shadowSource s n) := by
  unfold State.shadowSource
  repeat' (first | (with_reducible (first | assumption | apply State.setFch_kept | apply ite_kept | fail_if_no_progress (apply upd_kept))) | split | (dsimp only; split))

theorem State.chainPlayback_kept {s0 : State} (s : State) (n : ℕ) (xs : List (BitVec 16 × Bool)) (hs : Kept s0 s) : Kept s0 (State.chainPlayback s n xs) := by
  unfold State.chainPlayback
  repeat' (first | (with_reducible (first | assumption | apply State.setFch_kept | apply ite_kept | fail_if_no_progress (apply upd_kept))) | split | (dsimp only; split))

theorem State.fchReset_kept {s0 : State} (s : State) (n : ℕ) (hs : Kept s0 s) : Kept s0 (State.fchReset s n) := by
  unfold State.fchReset
  repeat' (first | (with_reducible (first | assumption | apply State.fchStop_kept | apply State.endCommit_kept | apply State.setF_kept | apply State.setB_kept | apply State.setFch_kept | apply State.addWrap_kept | apply State.syncLoad_kept | apply ite_kept | fail_if_no_progress (apply upd_kept))) | split | (dsimp only; split))

end Sys2Proof.Machine
end

