-- ==== Sys2Proof/Laws/KeptMemory.lean ====
section
/-!
SUPPORT. Every function of Machine/Memory.lean that answers a state keeps what `Kept` names.
-/
set_option linter.all false
namespace Sys2Proof.Machine

/-- A write of a memory keeps its canonical form. -/
theorem State.putBytes_kept {s0 : State} (s : State) (sp a : ℕ) (bs : List (BitVec 8)) (hs : Kept s0 s) :
    Kept s0 (s.putBytes sp a bs) := updBytes_kept hs (twf_tsetN bs _)

theorem State.logMask_kept {s0 : State} (s : State) (src : ℕ) (sp : ℕ) (write : Bool) (a : ℕ) (mask : List Bool) (hs : Kept s0 s) : Kept s0 (State.logMask s src sp write a mask) := by
  unfold State.logMask
  repeat' (first | (with_reducible (first | assumption | apply State.logRefused_kept | fail_if_no_progress (apply upd_kept))) | split | (dsimp only; split))

theorem State.spaceWrite_kept {s0 : State} (s : State) (src : ℕ) (secure : Bool) (sp : ℕ) (a : ℕ) (bs : List (BitVec 8)) (hs : Kept s0 s) : Kept s0 (State.spaceWrite s src secure sp a bs) := by
  unfold State.spaceWrite
  repeat' (first | (with_reducible (first | assumption | apply State.putBytes_kept | apply State.logMask_kept | fail_if_no_progress (apply upd_kept))) | split | (dsimp only; split))

theorem State.spaceRead_kept {s0 : State} (s : State) (src : ℕ) (secure : Bool) (sp : ℕ) (a : ℕ) (n : ℕ) (hs : Kept s0 s) : Kept s0 (State.spaceRead s src secure sp a n).1 := by
  unfold State.spaceRead
  repeat' (first | (with_reducible (first | assumption | intro _ | apply State.logMask_kept | fail_if_no_progress (apply upd_kept))) | split | (dsimp only; split))

theorem State.setMc_kept {s0 : State} (s : State) (m : ℕ) (c : McSt) (hs : Kept s0 s) : Kept s0 (State.setMc s m c) := by
  unfold State.setMc
  repeat' (first | (with_reducible (first | assumption | fail_if_no_progress (apply upd_kept) | fail_if_no_progress (apply updMem_kept))) | split | (dsimp only; split))

theorem State.setTag_kept {s0 : State} (s : State) (sector : ℕ) (t : ℕ) (hs : Kept s0 s) : Kept s0 (State.setTag s sector t) := by
  unfold State.setTag
  repeat' (first | (with_reducible (first | assumption | fail_if_no_progress (apply upd_kept) | fail_if_no_progress (apply updMem_kept))) | split | (dsimp only; split))

theorem State.syncWq_kept {s0 : State} (s : State) (m : ℕ) (hs : Kept s0 s) : Kept s0 (State.syncWq s m) := by
  unfold State.syncWq
  repeat' (first | (with_reducible (first | assumption | apply State.setF_kept | fail_if_no_progress (apply upd_kept))) | split | (dsimp only; split))

theorem State.storeEntry_kept {s0 : State} (s : State) (e : WqEntry) (hs : Kept s0 s) : Kept s0 (State.storeEntry s e) := by
  unfold State.storeEntry
  repeat' (first | (with_reducible (first | assumption | apply State.putBytes_kept | apply State.setTag_kept | apply ite_kept | fail_if_no_progress (apply upd_kept))) | split | (dsimp only; split))

theorem State.memWake_kept {s0 : State} (s : State) (hs : Kept s0 s) : Kept s0 (State.memWake s) := by
  unfold State.memWake
  repeat' (first | (with_reducible (first | assumption | apply State.wakeDomain_kept | fail_if_no_progress (apply upd_kept))) | split | (dsimp only; split))

theorem State.drainOne_kept {s0 : State} (s : State) (m : ℕ) (hs : Kept s0 s) : Kept s0 (State.drainOne s m) := by
  unfold State.drainOne
  repeat' (first | (with_reducible (first | assumption | apply State.syncWq_kept | apply State.setMc_kept | apply State.storeEntry_kept | fail_if_no_progress (apply upd_kept))) | split | (dsimp only; split))

theorem State.drainAll_kept {s0 : State} (s : State) (m n : ℕ) (hs : Kept s0 s) : Kept s0 (s.drainAll m n) := by
  induction n generalizing s with
  | zero => exact hs
  | succ n ih =>
    unfold State.drainAll
    repeat' (first | (with_reducible (first | assumption | apply ih | apply State.drainOne_kept | apply ite_kept | fail_if_no_progress (apply upd_kept))) | split | (dsimp only; split))

theorem State.drainSector_kept {s0 : State} (s : State) (m sector n : ℕ) (hs : Kept s0 s) : Kept s0 (s.drainSector m sector n) := by
  induction n generalizing s with
  | zero => exact hs
  | succ n ih =>
    unfold State.drainSector
    repeat' (first | (with_reducible (first | assumption | apply ih | apply State.drainOne_kept | apply ite_kept | fail_if_no_progress (apply upd_kept))) | split | (dsimp only; split))

theorem State.writesFirst_kept {s0 : State} (s : State) (m : ℕ) (hs : Kept s0 s) : Kept s0 (State.writesFirst s m) := by
  unfold State.writesFirst
  repeat' (first | (with_reducible (first | assumption | apply State.drainAll_kept | apply ite_kept | fail_if_no_progress (apply upd_kept))) | split | (dsimp only; split))

theorem State.drainQueue_kept {s0 : State} (s : State) (m : ℕ) (hs : Kept s0 s) : Kept s0 (State.drainQueue s m) := by
  unfold State.drainQueue
  repeat' (first | (with_reducible (first | assumption | apply State.drainAll_kept | fail_if_no_progress (apply upd_kept))) | split | (dsimp only; split))

theorem State.wqPush_kept {s0 : State} (s : State) (e : WqEntry) (hs : Kept s0 s) : Kept s0 (State.wqPush s e) := by
  unfold State.wqPush
  repeat' (first | (with_reducible (first | assumption | apply State.drainOne_kept | apply State.incSat_kept | apply State.syncWq_kept | apply State.setMc_kept | apply ite_kept | fail_if_no_progress (apply upd_kept))) | split | (dsimp only; split))

theorem State.useGrant_kept {s0 : State} (s : State) (p : ℕ) (n : ℕ) (hs : Kept s0 s) : Kept s0 (State.useGrant s p n) := by
  unfold State.useGrant
  repeat' (first | (with_reducible (first | assumption | apply ite_kept | fail_if_no_progress (apply upd_kept) | fail_if_no_progress (apply updMem_kept))) | split | (dsimp only; split))

theorem State.portBurst_kept {s0 : State} (s : State) (p : ℕ) (a : ℕ) (n : ℕ) (hs : Kept s0 s) : Kept s0 (State.portBurst s p a n) := by
  unfold State.portBurst
  repeat' (first | (with_reducible (first | assumption | intro _ | apply State.memWake_kept | apply State.addSat_kept | apply State.useGrant_kept | apply State.setMc_kept | apply State.incSat_kept | apply State.next_kept | apply ite_kept | apply foldl_kept | fail_if_no_progress (apply upd_kept))) | split | (dsimp only; split))

theorem State.mcWrite_kept {s0 : State} (s : State) (p : ℕ) (src : ℕ) (secure : Bool) (a : ℕ) (bs : List (BitVec 8)) (poison : Bool) (hs : Kept s0 s) : Kept s0 (State.mcWrite s p src secure a bs poison).1 := by
  unfold State.mcWrite
  repeat' (first | (with_reducible (first | assumption | intro _ | apply State.portBurst_kept | apply State.logMask_kept | apply State.wqPush_kept | apply State.next_kept | apply ite_fst_kept | apply foldl_fst_kept | apply ite_kept | apply foldl_kept | fail_if_no_progress (apply upd_kept))) | split | (dsimp only; split))

theorem State.mcRecord_kept {s0 : State} (s : State) (m : ℕ) (p : ℕ) (sector : ℕ) (symbol : ℕ) (scrub : Bool) (ue : Bool) (hs : Kept s0 s) : Kept s0 (State.mcRecord s m p sector symbol scrub ue) := by
  unfold State.mcRecord
  repeat' (first | (with_reducible (first | assumption | apply State.setF_kept | apply State.setB_kept | fail_if_no_progress (apply upd_kept))) | split | (dsimp only; split))

theorem State.readSector_kept {s0 : State} (s : State) (p : ℕ) (sector : ℕ) (err : Option SecErr) (scrub : Bool) (hs : Kept s0 s) : Kept s0 (State.readSector s p sector err scrub).1 := by
  unfold State.readSector
  repeat' (first | (with_reducible (first | assumption | intro _ | apply State.incSat_kept | apply State.drainSector_kept | apply State.mcRecord_kept | apply State.setB_kept | apply State.errLog_kept | apply State.setMc_kept | apply State.wqPush_kept | apply ite_fst_kept | apply ite_kept | fail_if_no_progress (apply upd_kept))) | split | (dsimp only; split))

theorem State.readSectors_kept {s0 : State} (s : State) (p : ℕ) (errs : List SecErr) (i : ℕ) (xs : List ℕ) (hs : Kept s0 s) :
    Kept s0 (s.readSectors p errs i xs).1 := by
  induction xs generalizing s i with
  | nil => exact hs
  | cons x xs ih =>
    refine ih _ _ ?_
    exact ite_kept (State.incSat_kept _ _ (State.readSector_kept _ _ _ _ _ hs)) (State.readSector_kept _ _ _ _ _ hs)

theorem State.mcRead_kept {s0 : State} (s : State) (p : ℕ) (src : ℕ) (secure : Bool) (a : ℕ) (n : ℕ) (errs : List SecErr) (hs : Kept s0 s) : Kept s0 (State.mcRead s p src secure a n errs).st := by
  unfold State.mcRead
  repeat' (first | (with_reducible (first | assumption | intro _ | apply State.portBurst_kept | apply State.logMask_kept | apply State.readSectors_kept | apply State.writesFirst_kept | apply ite_res_kept | apply ite_fst_kept | apply ite_kept | fail_if_no_progress (apply upd_kept))) | split | (dsimp only; split))

theorem State.syncPanic_kept {s0 : State} (s : State) (hs : Kept s0 s) : Kept s0 (State.syncPanic s) := by
  unfold State.syncPanic
  repeat' (first | (with_reducible (first | assumption | intro _ | apply State.setB_kept | apply State.setF_kept | apply foldl_kept | fail_if_no_progress (apply updBytes_kept) | exact twf_tclear _ _ | exact twf_filter _ | exact id | assumption | fail_if_no_progress (apply upd_kept) | fail_if_no_progress (apply updMem_kept))) | split | (dsimp only; split))

theorem State.captureWrite_kept {s0 : State} (s : State) (a : ℕ) (bs : List (BitVec 8)) (hs : Kept s0 s) : Kept s0 (State.captureWrite s a bs) := by
  unfold State.captureWrite
  repeat' (first | (with_reducible (first | assumption | apply State.next_kept | apply State.syncPanic_kept | apply State.setB_kept | apply State.addSat_kept | apply ite_kept | fail_if_no_progress (apply upd_kept) | fail_if_no_progress (apply updMem_kept))) | split | (dsimp only; split))

theorem State.closeStage_kept {s0 : State} (s : State) (hs : Kept s0 s) : Kept s0 (State.closeStage s) := by
  unfold State.closeStage
  repeat' (first | (with_reducible (first | assumption | fail_if_no_progress (apply upd_kept) | fail_if_no_progress (apply updMem_kept))) | split | (dsimp only; split))

theorem State.serveStage_kept {s0 : State} (s : State) (hs : Kept s0 s) : Kept s0 (State.serveStage s) := by
  unfold State.serveStage
  repeat' (first | (with_reducible (first | assumption | apply State.syncPanic_kept | apply State.mcWrite_kept | fail_if_no_progress (apply upd_kept) | fail_if_no_progress (apply updMem_kept))) | split | (dsimp only; split))

theorem State.serveChain_kept {s0 : State} (s : State) (n : ℕ) (errs : List SecErr) (hs : Kept s0 s) : Kept s0 (State.serveChain s n errs) := by
  unfold State.serveChain
  repeat' (first | (with_reducible (first | assumption | apply State.mcRead_kept | apply State.chainPlayback_kept | apply ite_res_kept | apply ite_fst_kept | apply ite_kept | fail_if_no_progress (apply upd_kept))) | split | (dsimp only; split))

theorem State.serveOutput_kept {s0 : State} (s : State) (n : ℕ) (errs : List SecErr) (hs : Kept s0 s) : Kept s0 (State.serveOutput s n errs) := by
  unfold State.serveOutput
  repeat' (first | (with_reducible (first | assumption | apply State.mcRead_kept | apply State.syncPanic_kept | apply State.prefetchArrive_kept | apply ite_res_kept | apply ite_kept | fail_if_no_progress (apply upd_kept))) | split | (dsimp only; split))

theorem State.setTdc_kept {s0 : State} (s : State) (c : ℕ) (x : TdcSt) (hs : Kept s0 s) : Kept s0 (State.setTdc s c x) := by
  unfold State.setTdc
  repeat' (first | (with_reducible (first | assumption | fail_if_no_progress (apply upd_kept))) | split | (dsimp only; split))

theorem State.syncTdc_kept {s0 : State} (s : State) (c : ℕ) (hs : Kept s0 s) : Kept s0 (State.syncTdc s c) := by
  unfold State.syncTdc
  repeat' (first | (with_reducible (first | assumption | apply State.setB_kept | apply State.setF_kept | fail_if_no_progress (apply upd_kept))) | split | (dsimp only; split))

theorem State.tdcToMemory_kept {s0 : State} (s : State) (c : ℕ) (hs : Kept s0 s) : Kept s0 (State.tdcToMemory s c) := by
  unfold State.tdcToMemory
  repeat' (first | (with_reducible (first | assumption | apply State.memWake_kept | apply State.mcWrite_kept | apply State.syncTdc_kept | apply State.incSat_kept | apply State.setTdc_kept | apply ite_fst_kept | apply ite_kept | fail_if_no_progress (apply upd_kept))) | split | (dsimp only; split))

theorem State.serveP3_kept {s0 : State} (s : State) (n : ℕ) (errs : List SecErr) (hs : Kept s0 s) : Kept s0 (State.serveP3 s n errs) := by
  unfold State.serveP3
  repeat' (first | (with_reducible (first | assumption | apply State.serveChain_kept | apply State.tdcToMemory_kept | apply ite_kept | fail_if_no_progress (apply upd_kept))) | split | (dsimp only; split))

theorem portRequest_kept {s0 : State} (p : ℕ) (client : ℕ) (wait : ℕ) (errs : List SecErr) (s : State) (hs : Kept s0 s) : Kept s0 (portRequest p client wait errs s) := by
  unfold portRequest
  repeat' (first | (with_reducible (first | assumption | apply State.memWake_kept | apply State.serveStage_kept | apply State.serveOutput_kept | apply State.addSat_kept | apply State.serveP3_kept | apply ite_kept | fail_if_no_progress (apply upd_kept) | fail_if_no_progress (apply updMem_kept))) | split | (dsimp only; split))

theorem execPortRequest_kept {s0 : State} (p : Fin 6) (client : Fin 16) (wait : ℕ) (errs : List SecErr) (s : State) (hs : Kept s0 s) : OutKept s0 (execPortRequest p client wait errs s) := by
  unfold execPortRequest
  repeat' (first | (with_reducible (first | assumption | intro _ | apply OutKept.next | apply portRequest_kept | fail_if_no_progress (apply upd_kept))) | split | (dsimp only; split))

theorem State.clearCapture_kept {s0 : State} (s : State) (hs : Kept s0 s) : Kept s0 (s.clearCapture) :=
  updBytes_kept hs (twf_tclear _ _)

theorem memInitDone_kept {s0 : State} (s : State) (hs : Kept s0 s) : Kept s0 (memInitDone s) := by
  unfold memInitDone
  repeat' (first | (with_reducible (first | assumption | apply State.setB_kept | apply State.clearCapture_kept | apply ite_kept | fail_if_no_progress (apply upd_kept))) | split | (dsimp only; split))

theorem execMemInitDone_kept {s0 : State} (s : State) (hs : Kept s0 s) : OutKept s0 (execMemInitDone s) := by
  unfold execMemInitDone
  repeat' (first | (with_reducible (first | assumption | intro _ | apply OutKept.next | apply memInitDone_kept | fail_if_no_progress (apply upd_kept))) | split | (dsimp only; split))

theorem writeQueueDrain_kept {s0 : State} (m : ℕ) (s : State) (hs : Kept s0 s) : Kept s0 (writeQueueDrain m s) := by
  unfold writeQueueDrain
  repeat' (first | (with_reducible (first | assumption | apply State.drainOne_kept | apply State.wqPush_kept | apply State.setMc_kept | apply ite_kept | fail_if_no_progress (apply upd_kept))) | split | (dsimp only; split))

theorem execWriteQueueDrain_kept {s0 : State} (m : Fin 2) (s : State) (hs : Kept s0 s) : OutKept s0 (execWriteQueueDrain m s) := by
  unfold execWriteQueueDrain
  repeat' (first | (with_reducible (first | assumption | intro _ | apply OutKept.next | apply writeQueueDrain_kept | fail_if_no_progress (apply upd_kept))) | split | (dsimp only; split))

theorem State.refreshes_kept {s0 : State} (s : State) (k : ℕ) (hs : Kept s0 s) : Kept s0 (State.refreshes s k) := by
  unfold State.refreshes
  repeat' (first | (with_reducible (first | assumption | apply State.addSat_kept | fail_if_no_progress (apply upd_kept))) | split | (dsimp only; split))

theorem refreshDue_kept {s0 : State} (s : State) (hs : Kept s0 s) : Kept s0 (refreshDue s) := by
  unfold refreshDue
  repeat' (first | (with_reducible (first | assumption | apply State.refreshes_kept | apply State.incSat_kept | apply State.setF_kept | apply State.setB_kept | apply ite_kept | fail_if_no_progress (apply upd_kept) | fail_if_no_progress (apply updMem_kept))) | split | (dsimp only; split))

theorem execRefreshDue_kept {s0 : State} (s : State) (hs : Kept s0 s) : OutKept s0 (execRefreshDue s) := by
  unfold execRefreshDue
  repeat' (first | (with_reducible (first | assumption | intro _ | apply OutKept.next | apply refreshDue_kept | fail_if_no_progress (apply upd_kept))) | split | (dsimp only; split))

theorem owedRefreshIssue_kept {s0 : State} (s : State) (hs : Kept s0 s) : Kept s0 (owedRefreshIssue s) := by
  unfold owedRefreshIssue
  repeat' (first | (with_reducible (first | assumption | apply State.refreshes_kept | apply State.setF_kept | apply ite_kept | fail_if_no_progress (apply upd_kept))) | split | (dsimp only; split))

theorem execOwedRefreshIssue_kept {s0 : State} (s : State) (hs : Kept s0 s) : OutKept s0 (execOwedRefreshIssue s) := by
  unfold execOwedRefreshIssue
  repeat' (first | (with_reducible (first | assumption | intro _ | apply OutKept.next | apply owedRefreshIssue_kept | fail_if_no_progress (apply upd_kept))) | split | (dsimp only; split))

theorem State.forcedRefresh_kept {s0 : State} (s : State) (hs : Kept s0 s) : Kept s0 (State.forcedRefresh s) := by
  unfold State.forcedRefresh
  repeat' (first | (with_reducible (first | assumption | apply State.incSat_kept | apply State.refreshes_kept | apply State.setB_kept | fail_if_no_progress (apply upd_kept))) | split | (dsimp only; split))

theorem forcedRefreshStart_kept {s0 : State} (s : State) (hs : Kept s0 s) : Kept s0 (forcedRefreshStart s) := by
  unfold forcedRefreshStart
  repeat' (first | (with_reducible (first | assumption | apply State.forcedRefresh_kept | apply ite_kept | fail_if_no_progress (apply upd_kept))) | split | (dsimp only; split))

theorem execForcedRefreshStart_kept {s0 : State} (s : State) (hs : Kept s0 s) : OutKept s0 (execForcedRefreshStart s) := by
  unfold execForcedRefreshStart
  repeat' (first | (with_reducible (first | assumption | intro _ | apply OutKept.next | apply forcedRefreshStart_kept | fail_if_no_progress (apply upd_kept))) | split | (dsimp only; split))

theorem forcedRefreshTimeout_kept {s0 : State} (s : State) (hs : Kept s0 s) : Kept s0 (forcedRefreshTimeout s) := by
  unfold forcedRefreshTimeout
  repeat' (first | (with_reducible (first | assumption | apply State.incSat_kept | apply State.forcedRefresh_kept | apply ite_kept | fail_if_no_progress (apply upd_kept))) | split | (dsimp only; split))

theorem execForcedRefreshTimeout_kept {s0 : State} (s : State) (hs : Kept s0 s) : OutKept s0 (execForcedRefreshTimeout s) := by
  unfold execForcedRefreshTimeout
  repeat' (first | (with_reducible (first | assumption | intro _ | apply OutKept.next | apply forcedRefreshTimeout_kept | fail_if_no_progress (apply upd_kept))) | split | (dsimp only; split))

theorem stackTemperature_kept {s0 : State} (m : ℕ) (t : BitVec 16) (s : State) (hs : Kept s0 s) : Kept s0 (stackTemperature m t s) := by
  unfold stackTemperature
  repeat' (first | (with_reducible (first | assumption | apply State.setF_kept | apply State.setB_kept | apply ite_kept | fail_if_no_progress (apply upd_kept))) | split | (dsimp only; split))

theorem execStackTemperature_kept {s0 : State} (m : Fin 2) (t : BitVec 16) (s : State) (hs : Kept s0 s) : OutKept s0 (execStackTemperature m t s) := by
  unfold execStackTemperature
  repeat' (first | (with_reducible (first | assumption | intro _ | apply OutKept.next | apply stackTemperature_kept | fail_if_no_progress (apply upd_kept))) | split | (dsimp only; split))

theorem scrubRead_kept {s0 : State} (m : ℕ) (errs : List SecErr) (s : State) (hs : Kept s0 s) : Kept s0 (scrubRead m errs s) := by
  unfold scrubRead
  repeat' (first | (with_reducible (first | assumption | apply State.setF_kept | apply State.incSat_kept | apply State.readSector_kept | apply State.portBurst_kept | apply ite_fst_kept | apply ite_kept | fail_if_no_progress (apply upd_kept))) | split | (dsimp only; split))

theorem execScrubRead_kept {s0 : State} (m : Fin 2) (errs : List SecErr) (s : State) (hs : Kept s0 s) : OutKept s0 (execScrubRead m errs s) := by
  unfold execScrubRead
  repeat' (first | (with_reducible (first | assumption | intro _ | apply OutKept.next | apply scrubRead_kept | fail_if_no_progress (apply upd_kept))) | split | (dsimp only; split))

theorem State.dropScrub_kept {s0 : State} (s : State) (m : ℕ) (a : ℕ) (n : ℕ) (hs : Kept s0 s) : Kept s0 (State.dropScrub s m a n) := by
  unfold State.dropScrub
  repeat' (first | (with_reducible (first | assumption | apply State.incSat_kept | apply State.setMc_kept | apply ite_kept | fail_if_no_progress (apply upd_kept))) | split | (dsimp only; split))

theorem State.clearRange_kept {s0 : State} (s : State) (secure : Bool) (a : ℕ) (n : ℕ) (hs : Kept s0 s) : Kept s0 (State.clearRange s secure a n) := by
  unfold State.clearRange
  repeat' (first | (with_reducible (first | assumption | apply State.dropScrub_kept | apply State.drainQueue_kept | apply State.logRefused_kept | apply State.addSat_kept | apply State.useGrant_kept | apply ite_kept | fail_if_no_progress (apply updBytes_kept) | exact twf_tclear _ _ | exact twf_filter _ | exact id | assumption | fail_if_no_progress (apply upd_kept) | fail_if_no_progress (apply updMem_kept))) | split | (dsimp only; split))

theorem memClearStep_kept {s0 : State} (c : LongCmd) (s : State) (hs : Kept s0 s) : Kept s0 (memClearStep c s) := by
  unfold memClearStep
  repeat' (first | (with_reducible (first | assumption | apply State.memWake_kept | apply State.putLong_kept | apply State.clearRange_kept | apply State.finishLong_kept | apply State.partialEntry_kept | apply ite_kept | fail_if_no_progress (apply upd_kept))) | split | (dsimp only; split))

theorem memClearStart_kept {s0 : State} (secure : Bool) (base : ℕ) (len : ℕ) (s : State) (hs : Kept s0 s) : Kept s0 (memClearStart secure base len s).st := by
  unfold memClearStart
  repeat' (first | (with_reducible (first | assumption | intro _ | apply resDone_kept | apply State.memWake_kept | apply State.clearRange_kept | apply ite_res_kept | apply ite_kept | fail_if_no_progress (apply upd_kept))) | split | (dsimp only; split))

theorem execMemClear_kept {s0 : State} (k : Fin 16) (f : Fetch) (s : State) (hs : Kept s0 s) : OutKept s0 (execMemClear k f s) := by
  unfold execMemClear
  repeat' (first | (with_reducible (first | assumption | intro _ | apply OutKept.next | apply State.startCmd_kept | apply memClearStart_kept | fail_if_no_progress (apply upd_kept))) | split | (dsimp only; split))

theorem State.mcFence_kept {s0 : State} (s : State) (m : ℕ) (hs : Kept s0 s) : Kept s0 (State.mcFence s m) := by
  unfold State.mcFence
  repeat' (first | (with_reducible (first | assumption | apply State.drainQueue_kept | apply State.setMc_kept | fail_if_no_progress (apply upd_kept))) | split | (dsimp only; split))

end Sys2Proof.Machine
end

