-- ==== Sys2Proof/Laws/KeptStream.lean ====
section
/-!
SUPPORT. Every function of Machine/Stream.lean that answers a state keeps what `Kept` names.
-/
set_option linter.all false
namespace Sys2Proof.Machine

theorem State.setSq_kept {s0 : State} (s : State) (q : ℕ) (x : SqSt) (hs : Kept s0 s) : Kept s0 (State.setSq s q x) := by
  unfold State.setSq
  repeat' (first | (with_reducible (first | assumption | fail_if_no_progress (apply upd_kept))) | split | (dsimp only; split))

theorem State.syncSq_kept {s0 : State} (s : State) (q : ℕ) (hs : Kept s0 s) : Kept s0 (State.syncSq s q) := by
  unfold State.syncSq
  repeat' (first | (with_reducible (first | assumption | apply State.setF_kept | apply State.setB_kept | fail_if_no_progress (apply upd_kept))) | split | (dsimp only; split))

theorem State.sqDrop_kept {s0 : State} (s : State) (q : ℕ) (count : Bool) (hs : Kept s0 s) : Kept s0 (State.sqDrop s q count) := by
  unfold State.sqDrop
  repeat' (first | (with_reducible (first | assumption | apply State.setSq_kept | apply State.setB_kept | apply State.incSat_kept | apply ite_kept | fail_if_no_progress (apply upd_kept))) | split | (dsimp only; split))

theorem State.sqPut_kept {s0 : State} (s : State) (q : ℕ) (src : ℕ) (p : SqPkt) (hs : Kept s0 s) : Kept s0 (State.sqPut s q src p).1 := by
  unfold State.sqPut
  repeat' (first | (with_reducible (first | assumption | intro _ | apply State.sqDrop_kept | apply State.addWrap_kept | apply State.setSq_kept | apply State.syncSq_kept | apply State.addSat_kept | apply ite_fst_kept | apply ite_kept | fail_if_no_progress (apply upd_kept))) | split | (dsimp only; split))

theorem State.sqWrite_kept {s0 : State} (s : State) (q : ℕ) (src : ℕ) (p : SqPkt) (hs : Kept s0 s) : Kept s0 (State.sqWrite s q src p).1 := by
  unfold State.sqWrite
  repeat' (first | (with_reducible (first | assumption | intro _ | apply State.sqPut_kept | apply ite_fst_kept | apply ite_kept | fail_if_no_progress (apply upd_kept))) | split | (dsimp only; split))

theorem State.sqRecord_kept {s0 : State} (s : State) (q : ℕ) (bytes : List (BitVec 8)) (time : ℕ) (flags : ℕ) (poison : Bool) (hs : Kept s0 s) : Kept s0 (State.sqRecord s q bytes time flags poison).1 := by
  unfold State.sqRecord
  repeat' (first | (with_reducible (first | assumption | intro _ | apply State.sqWrite_kept | fail_if_no_progress (apply upd_kept))) | split | (dsimp only; split))

theorem State.sqTake_kept {s0 : State} (s : State) (q : ℕ) (n : ℕ) (hs : Kept s0 s) : Kept s0 (State.sqTake s q n) := by
  unfold State.sqTake
  repeat' (first | (with_reducible (first | assumption | apply State.syncSq_kept | apply State.addWrap_kept | apply State.setSq_kept | apply ite_kept | fail_if_no_progress (apply upd_kept))) | split | (dsimp only; split))

theorem State.sqClear_kept {s0 : State} (s : State) (q : ℕ) (hs : Kept s0 s) : Kept s0 (State.sqClear s q) := by
  unfold State.sqClear
  repeat' (first | (with_reducible (first | assumption | apply State.setSq_kept | apply State.syncSq_kept | apply State.setF_kept | fail_if_no_progress (apply upd_kept))) | split | (dsimp only; split))

theorem State.sqLasts_kept {s0 : State} (s : State) (q : ℕ) (hs : Kept s0 s) : Kept s0 (State.sqLasts s q) := by
  unfold State.sqLasts
  repeat' (first | (with_reducible (first | assumption | apply ite_fst_kept | apply ite_kept | fail_if_no_progress (apply upd_kept))) | split | (dsimp only; split))

theorem sqCtrlWritten_kept {s0 : State} (q : ℕ) (old : ℕ) (v : ℕ) (s : State) (hs : Kept s0 s) : Kept s0 (sqCtrlWritten q old v s) := by
  unfold sqCtrlWritten
  repeat' (first | (with_reducible (first | assumption | apply State.setF_kept | apply State.setB_kept | apply State.setSq_kept | apply State.sqLasts_kept | apply ite_kept | fail_if_no_progress (apply upd_kept))) | split | (dsimp only; split))

theorem flushAct_kept {s0 : State} (q : ℕ) (s : State) (hs : Kept s0 s) : Kept s0 (flushAct q s) := by
  unfold flushAct
  repeat' (first | (with_reducible (first | assumption | apply State.setF_kept | apply State.addSat_kept | apply State.syncSq_kept | apply State.setSq_kept | apply State.setB_kept | apply ite_kept | fail_if_no_progress (apply upd_kept))) | split | (dsimp only; split))

theorem State.rawPack_kept {s0 : State} (s : State) (q : ℕ) (idx : ℕ) (sub : ℕ) (ys : List ℤ) (flags : ℕ) (hs : Kept s0 s) : Kept s0 (State.rawPack s q idx sub ys flags) := by
  unfold State.rawPack
  repeat' (first | (with_reducible (first | assumption | apply State.setSq_kept | apply State.sqWrite_kept | apply ite_fst_kept | apply ite_kept | fail_if_no_progress (apply upd_kept))) | split | (dsimp only; split))

theorem State.feedRaw_kept {s0 : State} (s : State) (n : ℕ) (sub : ℕ) (hs : Kept s0 s) : Kept s0 (State.feedRaw s n sub) := by
  unfold State.feedRaw
  repeat' (first | (with_reducible (first | assumption | intro _ | apply State.rawPack_kept | apply ite_kept | apply foldl_kept | fail_if_no_progress (apply upd_kept))) | split | (dsimp only; split))

end Sys2Proof.Machine
end

