-- ==== Sys2Proof/Laws/KeptLinks.lean ====
section
/-!
SUPPORT. Every function of Machine/Links.lean that answers a state keeps what `Kept` names.
-/
set_option linter.all false
namespace Sys2Proof.Machine

theorem State.setLink_kept {s0 : State} (s : State) (k : ℕ) (l : LinkSt) (hs : Kept s0 s) : Kept s0 (State.setLink s k l) := by
  unfold State.setLink
  repeat' (first | (with_reducible (first | assumption | fail_if_no_progress (apply upd_kept))) | split | (dsimp only; split))

theorem State.sendCar_kept {s0 : State} (s : State) (k : ℕ) (c : CtlCarriage) (hs : Kept s0 s) : Kept s0 (State.sendCar s k c) := by
  unfold State.sendCar
  repeat' (first | (with_reducible (first | assumption | apply State.setLink_kept | fail_if_no_progress (apply upd_kept))) | split | (dsimp only; split))

theorem State.sendPlain_kept {s0 : State} (s : State) (k : ℕ) (type_ : ℕ) (flags : ℕ) (seq : ℕ) (payload : ℕ) (hs : Kept s0 s) : Kept s0 (State.sendPlain s k type_ flags seq payload) := by
  unfold State.sendPlain
  repeat' (first | (with_reducible (first | assumption | apply State.sendCar_kept | fail_if_no_progress (apply upd_kept))) | split | (dsimp only; split))

theorem State.sendCtl_kept {s0 : State} (s : State) (k : ℕ) (type_ : ℕ) (flags : ℕ) (payload : ℕ) (hs : Kept s0 s) : Kept s0 (State.sendCtl s k type_ flags payload) := by
  unfold State.sendCtl
  repeat' (first | (with_reducible (first | assumption | apply State.sendCar_kept | fail_if_no_progress (apply upd_kept))) | split | (dsimp only; split))

theorem State.broadcast_kept {s0 : State} (s : State) (type_ : ℕ) (flags : ℕ) (payload : ℕ) (hs : Kept s0 s) : Kept s0 (State.broadcast s type_ flags payload) := by
  unfold State.broadcast
  repeat' (first | (with_reducible (first | assumption | intro _ | apply State.sendCtl_kept | apply foldl_kept | fail_if_no_progress (apply upd_kept))) | split | (dsimp only; split))

theorem State.sendAck_kept {s0 : State} (s : State) (k : ℕ) (seq : ℕ) (type_ : ℕ) (status : ℕ) (dev : ℕ) (path : ℕ) (hs : Kept s0 s) : Kept s0 (State.sendAck s k seq type_ status dev path) := by
  unfold State.sendAck
  repeat' (first | (with_reducible (first | assumption | apply State.sendPlain_kept | fail_if_no_progress (apply upd_kept))) | split | (dsimp only; split))

theorem State.cwCount_kept {s0 : State} (s : State) (k : ℕ) (c : Carriage) (hs : Kept s0 s) : Kept s0 (State.cwCount s k c) := by
  unfold State.cwCount
  repeat' (first | (with_reducible (first | assumption | apply State.setLink_kept | apply State.addSat_kept | apply State.incSat_kept | apply ite_kept | fail_if_no_progress (apply upd_kept))) | split | (dsimp only; split))

theorem State.carriageOk_kept {s0 : State} (s : State) (k : ℕ) (c : Carriage) (type_ : ℕ) (hs : Kept s0 s) : Kept s0 (State.carriageOk s k c type_).1 := by
  unfold State.carriageOk
  repeat' (first | (with_reducible (first | assumption | intro _ | apply State.cwCount_kept | apply State.incSat_kept | apply ite_fst_kept | apply ite_kept | fail_if_no_progress (apply upd_kept))) | split | (dsimp only; split))

theorem State.ctlNext_kept {s0 : State} (s : State) (k : ℕ) (hs : Kept s0 s) : Kept s0 (State.ctlNext s k) := by
  unfold State.ctlNext
  repeat' (first | (with_reducible (first | assumption | apply State.setLink_kept | fail_if_no_progress (apply upd_kept))) | split | (dsimp only; split))

end Sys2Proof.Machine
end

