-- ==== Sys2Proof/Laws/KeptTrigger.lean ====
section
/-!
SUPPORT. Every function of Machine/Trigger.lean that answers a state keeps what `Kept` names.
-/
set_option linter.all false
namespace Sys2Proof.Machine

theorem State.setUnit_kept {s0 : State} (s : State) (u : ℕ) (x : TrgUnit) (hs : Kept s0 s) : Kept s0 (State.setUnit s u x) := by
  unfold State.setUnit
  repeat' (first | (with_reducible (first | assumption | fail_if_no_progress (apply upd_kept))) | split | (dsimp only; split))

theorem State.pruneStore_kept {s0 : State} (s : State) (hs : Kept s0 s) : Kept s0 (State.pruneStore s) := by
  unfold State.pruneStore
  repeat' (first | (with_reducible (first | assumption | fail_if_no_progress (apply upd_kept))) | split | (dsimp only; split))

theorem State.trigPulse_kept {s0 : State} (s : State) (o : ℕ) (at_ : ℕ) (hs : Kept s0 s) : Kept s0 (State.trigPulse s o at_) := by
  unfold State.trigPulse
  repeat' (first | (with_reducible (first | assumption | apply State.emit_kept | apply ite_kept | fail_if_no_progress (apply upd_kept))) | split | (dsimp only; split))

theorem State.trigSel_kept {s0 : State} (s : State) (sel : ℕ) (at_ : ℕ) (hs : Kept s0 s) : Kept s0 (State.trigSel s sel at_) := by
  unfold State.trigSel
  repeat' (first | (with_reducible (first | assumption | intro _ | apply State.trigPulse_kept | apply ite_kept | apply foldl_kept | fail_if_no_progress (apply upd_kept))) | split | (dsimp only; split))

theorem State.tell_kept {s0 : State} (s : State) (sel : ℕ) (trigout : Bool) (pt : ℕ) (hs : Kept s0 s) : Kept s0 (State.tell s sel trigout pt) := by
  unfold State.tell
  repeat' (first | (with_reducible (first | assumption | apply State.trigSel_kept | apply ite_fst_kept | apply ite_kept | fail_if_no_progress (apply upd_kept))) | split | (dsimp only; split))

theorem State.report_kept {s0 : State} (s : State) (u : ℕ) (stamp : ℕ) (fc : ℕ) (lat : ℕ) (hs : Kept s0 s) : Kept s0 (State.report s u stamp fc lat).1 := by
  unfold State.report
  repeat' (first | (with_reducible (first | assumption | intro _ | apply State.incSat_kept | apply State.setUnit_kept | apply State.setF_kept | apply State.setB_kept | apply State.tell_kept | apply ite_fst_kept | apply ite_kept | fail_if_no_progress (apply upd_kept))) | split | (dsimp only; split))

theorem State.deliverFire_kept {s0 : State} (s : State) (pt : ℕ) (origin : ℕ) (num : ℕ) (checkLate : Bool) (hs : Kept s0 s) : Kept s0 (State.deliverFire s pt origin num checkLate) := by
  unfold State.deliverFire
  repeat' (first | (with_reducible (first | assumption | intro _ | apply State.report_kept | apply State.incSat_kept | apply State.setPtimeAt_kept | apply State.setF_kept | apply State.setB_kept | apply ite_fst_kept | apply foldl_fst_kept | apply ite_kept | apply foldl_kept | fail_if_no_progress (apply upd_kept))) | split | (dsimp only; split))

theorem State.topFire_kept {s0 : State} (s : State) (pt : ℕ) (origin : ℕ) (source : ℕ) (hs : Kept s0 s) : Kept s0 (State.topFire s pt origin source) := by
  unfold State.topFire
  repeat' (first | (with_reducible (first | assumption | apply State.incSat_kept | apply State.broadcast_kept | apply State.deliverFire_kept | apply State.setB_kept | apply ite_kept | fail_if_no_progress (apply upd_kept))) | split | (dsimp only; split))

theorem State.originate_kept {s0 : State} (s : State) (source : ℕ) (pt : ℕ) (hs : Kept s0 s) : Kept s0 (State.originate s source pt) := by
  unfold State.originate
  repeat' (first | (with_reducible (first | assumption | apply State.incSat_kept | apply State.topFire_kept | apply State.sendCtl_kept | apply ite_kept | fail_if_no_progress (apply upd_kept))) | split | (dsimp only; split))

theorem State.unitEvent_kept {s0 : State} (s : State) (u : ℕ) (stamp : ℕ) (fc : ℕ) (lat : ℕ) (hs : Kept s0 s) : Kept s0 (State.unitEvent s u stamp fc lat) := by
  unfold State.unitEvent
  repeat' (first | (with_reducible (first | assumption | apply State.report_kept | apply State.originate_kept | apply ite_fst_kept | apply ite_kept | fail_if_no_progress (apply upd_kept))) | split | (dsimp only; split))

theorem State.unitEvents_kept {s0 : State} (s : State) (p : State → ℕ → Bool) (stamp : ℕ) (hs : Kept s0 s) : Kept s0 (State.unitEvents s p stamp) := by
  unfold State.unitEvents
  repeat' (first | (with_reducible (first | assumption | intro _ | apply State.unitEvent_kept | apply ite_kept | apply foldl_kept | fail_if_no_progress (apply upd_kept))) | split | (dsimp only; split))

theorem State.unitValue_kept {s0 : State} (s : State) (u : ℕ) (c : UnitSet) (quiet : Bool) (fc : ℕ) (step : ℤ) (v : ℤ) (p : ℤ) (hs : Kept s0 s) : Kept s0 (State.unitValue s u c quiet fc step v p) := by
  unfold State.unitValue
  repeat' (first | (with_reducible (first | assumption | intro _ | apply State.setUnit_kept | apply State.unitEvent_kept | apply ite_fst_kept | apply foldl_fst_kept | apply ite_kept | apply foldl_kept | fail_if_no_progress (apply upd_kept))) | split | (dsimp only; split))

theorem State.fastUnit_kept {s0 : State} (s : State) (u : ℕ) (idx : ℕ) (quiet : Bool) (coarse : List ℤ) (blockTime : ℕ) (hs : Kept s0 s) : Kept s0 (State.fastUnit s u idx quiet coarse blockTime) := by
  unfold State.fastUnit
  repeat' (first | (with_reducible (first | assumption | apply State.setUnit_kept | apply State.trigSel_kept | apply ite_kept | fail_if_no_progress (apply upd_kept))) | split | (dsimp only; split))

theorem State.feedRawUnits_kept {s0 : State} (s : State) (n : ℕ) (sub : ℕ) (codes : List (BitVec 12)) (hs : Kept s0 s) : Kept s0 (State.feedRawUnits s n sub codes) := by
  unfold State.feedRawUnits
  repeat' (first | (with_reducible (first | assumption | intro _ | apply State.fastUnit_kept | apply State.unitValue_kept | apply ite_kept | apply foldl_kept | fail_if_no_progress (apply upd_kept))) | split | (dsimp only; split))

theorem State.feedChainUnits_kept {s0 : State} (s : State) (n : ℕ) (o : ChainOut) (hs : Kept s0 s) : Kept s0 (State.feedChainUnits s n o) := by
  unfold State.feedChainUnits
  repeat' (first | (with_reducible (first | assumption | intro _ | apply State.unitValue_kept | apply ite_kept | apply foldl_kept | fail_if_no_progress (apply upd_kept))) | split | (dsimp only; split))

theorem State.feedDetUnits_kept {s0 : State} (s : State) (n : ℕ) (d : DetRes) (hs : Kept s0 s) : Kept s0 (State.feedDetUnits s n d) := by
  unfold State.feedDetUnits
  repeat' (first | (with_reducible (first | assumption | intro _ | apply State.unitValue_kept | apply ite_kept | apply foldl_kept | fail_if_no_progress (apply upd_kept))) | split | (dsimp only; split))

theorem State.maskEvent_kept {s0 : State} (s : State) (ctx : ℕ) (side : ℕ) (idx : ℕ) (lat : ℕ) (hs : Kept s0 s) : Kept s0 (State.maskEvent s ctx side idx lat) := by
  unfold State.maskEvent
  repeat' (first | (with_reducible (first | assumption | intro _ | apply State.unitEvent_kept | apply ite_kept | apply foldl_kept | fail_if_no_progress (apply upd_kept))) | split | (dsimp only; split))

theorem State.tinEvent_kept {s0 : State} (s : State) (i : ℕ) (pt : ℕ) (hs : Kept s0 s) : Kept s0 (State.tinEvent s i pt) := by
  unfold State.tinEvent
  repeat' (first | (with_reducible (first | assumption | apply State.unitEvents_kept | fail_if_no_progress (apply upd_kept))) | split | (dsimp only; split))

theorem triginEdge_kept {s0 : State} (i : ℕ) (rising : Bool) (k : ℕ) (s : State) (hs : Kept s0 s) : Kept s0 (triginEdge i rising k s) := by
  unfold triginEdge
  repeat' (first | (with_reducible (first | assumption | apply State.unitEvents_kept | apply ite_kept | fail_if_no_progress (apply upd_kept))) | split | (dsimp only; split))

theorem State.arrive_kept {s0 : State} (s : State) (e : TrgEv) (hs : Kept s0 s) : Kept s0 (State.arrive s e) := by
  unfold State.arrive
  repeat' (first | (with_reducible (first | assumption | apply State.pruneStore_kept | apply State.incSat_kept | apply State.setB_kept | apply ite_kept | fail_if_no_progress (apply upd_kept))) | split | (dsimp only; split))

theorem eventArrival_kept {s0 : State} (u : ℕ) (s : State) (hs : Kept s0 s) : Kept s0 (eventArrival u s) := by
  unfold eventArrival
  repeat' (first | (with_reducible (first | assumption | apply State.arrive_kept | fail_if_no_progress (apply upd_kept))) | split | (dsimp only; split))

theorem execEventArrival_kept {s0 : State} (u : Fin 32) (s : State) (hs : Kept s0 s) : OutKept s0 (execEventArrival u s) := by
  unfold execEventArrival
  repeat' (first | (with_reducible (first | assumption | intro _ | apply OutKept.next | apply eventArrival_kept | fail_if_no_progress (apply upd_kept))) | split | (dsimp only; split))

theorem State.arriveAll_kept {s0 : State} (s : State) (hs : Kept s0 s) : Kept s0 (State.arriveAll s) := by
  unfold State.arriveAll
  repeat' (first | (with_reducible (first | assumption | intro _ | apply State.arrive_kept | apply foldl_kept | fail_if_no_progress (apply upd_kept))) | split | (dsimp only; split))

theorem State.evaluate_kept {s0 : State} (s : State) (t : ℕ) (hs : Kept s0 s) : Kept s0 (State.evaluate s t).1 := by
  unfold State.evaluate
  repeat' (first | (with_reducible (first | assumption | intro _ | apply State.pruneStore_kept | apply State.tell_kept | apply State.setF_kept | apply State.incSat_kept | apply ite_fst_kept | apply ite_kept | fail_if_no_progress (apply upd_kept))) | split | (dsimp only; split))

theorem trgCtrlWritten_kept {s0 : State} (v : ℕ) (s : State) (hs : Kept s0 s) : Kept s0 (trgCtrlWritten v s) := by
  unfold trgCtrlWritten
  repeat' (first | (with_reducible (first | assumption | apply State.setB_kept | apply State.setF_kept | apply ite_kept | fail_if_no_progress (apply upd_kept))) | split | (dsimp only; split))

theorem State.restartUnits_kept {s0 : State} (s : State) (hs : Kept s0 s) : Kept s0 (State.restartUnits s) := by
  unfold State.restartUnits
  repeat' (first | (with_reducible (first | assumption | fail_if_no_progress (apply upd_kept))) | split | (dsimp only; split))

theorem State.copyTrgBank_kept {s0 : State} (s : State) (hs : Kept s0 s) : Kept s0 (State.copyTrgBank s) := by
  unfold State.copyTrgBank
  repeat' (first | (with_reducible (first | assumption | intro _ | apply State.setWord_kept | apply foldl_kept | fail_if_no_progress (apply upd_kept))) | split | (dsimp only; split))

theorem trgHandOver_kept {s0 : State} (s : State) (hs : Kept s0 s) : Kept s0 (trgHandOver s) := by
  unfold trgHandOver
  repeat' (first | (with_reducible (first | assumption | apply State.restartUnits_kept | apply State.addWrap_kept | apply State.copyTrgBank_kept | apply ite_fst_kept | apply ite_kept | fail_if_no_progress (apply upd_kept))) | split | (dsimp only; split))

theorem execTrgHandOver_kept {s0 : State} (s : State) (hs : Kept s0 s) : OutKept s0 (execTrgHandOver s) := by
  unfold execTrgHandOver
  repeat' (first | (with_reducible (first | assumption | intro _ | apply OutKept.next | apply trgHandOver_kept | fail_if_no_progress (apply upd_kept))) | split | (dsimp only; split))

theorem State.trgTick_kept {s0 : State} (s : State) (hs : Kept s0 s) : Kept s0 (State.trgTick s) := by
  unfold State.trgTick
  repeat' (first | (with_reducible (first | assumption | apply State.setB_kept | apply ite_kept | fail_if_no_progress (apply upd_kept))) | split | (dsimp only; split))

theorem trgIoApply_kept {s0 : State} (s : State) (hs : Kept s0 s) : Kept s0 (trgIoApply s) := by
  unfold trgIoApply
  repeat' (first | (with_reducible (first | assumption | apply ite_kept | fail_if_no_progress (apply upd_kept))) | split | (dsimp only; split))

theorem execTrgIoApply_kept {s0 : State} (s : State) (hs : Kept s0 s) : OutKept s0 (execTrgIoApply s) := by
  unfold execTrgIoApply
  repeat' (first | (with_reducible (first | assumption | intro _ | apply OutKept.next | apply trgIoApply_kept | fail_if_no_progress (apply upd_kept))) | split | (dsimp only; split))

end Sys2Proof.Machine
end

