-- ==== Sys2Proof/Laws/KeptAcq.lean ====
section
/-!
SUPPORT. Every function of Machine/Acq.lean that answers a state keeps what `Kept` names.
-/
set_option linter.all false
namespace Sys2Proof.Machine

theorem State.setAcq_kept {s0 : State} (s : State) (n : ℕ) (a : AcqSt) (hs : Kept s0 s) : Kept s0 (State.setAcq s n a) := by
  unfold State.setAcq
  repeat' (first | (with_reducible (first | assumption | fail_if_no_progress (apply upd_kept))) | split | (dsimp only; split))

theorem State.setAcqState_kept {s0 : State} (s : State) (n : ℕ) (st : ℕ) (hs : Kept s0 s) : Kept s0 (State.setAcqState s n st) := by
  unfold State.setAcqState
  repeat' (first | (with_reducible (first | assumption | apply State.setF_kept | fail_if_no_progress (apply upd_kept))) | split | (dsimp only; split))

theorem State.acqArm_kept {s0 : State} (s : State) (n : ℕ) (hs : Kept s0 s) : Kept s0 (State.acqArm s n) := by
  unfold State.acqArm
  repeat' (first | (with_reducible (first | assumption | apply State.setF_kept | apply State.setAcq_kept | apply ite_kept | fail_if_no_progress (apply upd_kept))) | split | (dsimp only; split))

theorem State.armSlots_kept {s0 : State} (s : State) (mask : ℕ) (hs : Kept s0 s) : Kept s0 (State.armSlots s mask) := by
  unfold State.armSlots
  repeat' (first | (with_reducible (first | assumption | intro _ | apply State.acqArm_kept | apply foldl_kept | fail_if_no_progress (apply upd_kept))) | split | (dsimp only; split))

theorem acqCtrlWritten_kept {s0 : State} (n : ℕ) (v : ℕ) (s : State) (hs : Kept s0 s) : Kept s0 (acqCtrlWritten n v s) := by
  unfold acqCtrlWritten
  repeat' (first | (with_reducible (first | assumption | apply State.setB_kept | apply State.setAcq_kept | apply State.acqArm_kept | apply ite_kept | fail_if_no_progress (apply upd_kept))) | split | (dsimp only; split))

theorem State.startSegment_kept {s0 : State} (s : State) (n : ℕ) (unit : ℕ) (hs : Kept s0 s) : Kept s0 (State.startSegment s n unit) := by
  unfold State.startSegment
  repeat' (first | (with_reducible (first | assumption | apply State.setAcq_kept | apply State.setAcqState_kept | apply State.setF_kept | apply ite_kept | fail_if_no_progress (apply upd_kept))) | split | (dsimp only; split))

theorem acqWriteStart_kept {s0 : State} (n : ℕ) (s : State) (hs : Kept s0 s) : Kept s0 (acqWriteStart n s) := by
  unfold acqWriteStart
  repeat' (first | (with_reducible (first | assumption | apply State.startSegment_kept | apply ite_kept | fail_if_no_progress (apply upd_kept))) | split | (dsimp only; split))

theorem execAcqWriteStart_kept {s0 : State} (n : Fin 64) (s : State) (hs : Kept s0 s) : OutKept s0 (execAcqWriteStart n s) := by
  unfold execAcqWriteStart
  repeat' (first | (with_reducible (first | assumption | intro _ | apply OutKept.next | apply acqWriteStart_kept | fail_if_no_progress (apply upd_kept))) | split | (dsimp only; split))

theorem prefillComplete_kept {s0 : State} (n : ℕ) (s : State) (hs : Kept s0 s) : Kept s0 (prefillComplete n s) := by
  unfold prefillComplete
  repeat' (first | (with_reducible (first | assumption | apply State.setAcqState_kept | apply ite_kept | fail_if_no_progress (apply upd_kept))) | split | (dsimp only; split))

theorem execPrefillComplete_kept {s0 : State} (n : Fin 64) (s : State) (hs : Kept s0 s) : OutKept s0 (execPrefillComplete n s) := by
  unfold execPrefillComplete
  repeat' (first | (with_reducible (first | assumption | intro _ | apply OutKept.next | apply prefillComplete_kept | fail_if_no_progress (apply upd_kept))) | split | (dsimp only; split))

theorem State.acqRecord_kept {s0 : State} (s : State) (n : ℕ) (t : AcqTrig) (stopped : Bool) (overrun : Bool) (viol : Viol) (hs : Kept s0 s) : Kept s0 (State.acqRecord s n t stopped overrun viol) := by
  unfold State.acqRecord
  repeat' (first | (with_reducible (first | assumption | apply State.setWordsAt_kept | apply State.setAcq_kept | apply State.sqRecord_kept | apply State.setB_kept | apply State.incSat_kept | apply ite_fst_kept | apply ite_kept | fail_if_no_progress (apply upd_kept))) | split | (dsimp only; split))

theorem State.endWriting_kept {s0 : State} (s : State) (n : ℕ) (hs : Kept s0 s) : Kept s0 (State.endWriting s n) := by
  unfold State.endWriting
  repeat' (first | (with_reducible (first | assumption | apply State.closeStage_kept | apply State.setAcq_kept | apply ite_kept | fail_if_no_progress (apply upd_kept))) | split | (dsimp only; split))

theorem State.endWindow_kept {s0 : State} (s : State) (n : ℕ) (t : AcqTrig) (stopped : Bool) (overrun : Bool) (hs : Kept s0 s) : Kept s0 (State.endWindow s n t stopped overrun).1 := by
  unfold State.endWindow
  repeat' (first | (with_reducible (first | assumption | intro _ | apply State.incSat_kept | apply State.setB_kept | apply State.acqRecord_kept | apply ite_fst_kept | apply ite_kept | fail_if_no_progress (apply upd_kept))) | split | (dsimp only; split))

theorem State.acqHalt_kept {s0 : State} (s : State) (n : ℕ) (st : ℕ) (hs : Kept s0 s) : Kept s0 (State.acqHalt s n st) := by
  unfold State.acqHalt
  repeat' (first | (with_reducible (first | assumption | apply State.setAcq_kept | apply State.endWindow_kept | apply State.setAcqState_kept | apply State.endWriting_kept | fail_if_no_progress (apply upd_kept))) | split | (dsimp only; split))

theorem State.acqStops_kept {s0 : State} (s : State) (hs : Kept s0 s) : Kept s0 (State.acqStops s) := by
  unfold State.acqStops
  repeat' (first | (with_reducible (first | assumption | intro _ | apply State.acqHalt_kept | apply ite_kept | apply foldl_kept | fail_if_no_progress (apply upd_kept))) | split | (dsimp only; split))

theorem State.acqFence_kept {s0 : State} (s : State) (hs : Kept s0 s) : Kept s0 (State.acqFence s) := by
  unfold State.acqFence
  repeat' (first | (with_reducible (first | assumption | intro _ | apply State.setF_kept | apply State.acqHalt_kept | apply ite_kept | apply foldl_kept | fail_if_no_progress (apply upd_kept))) | split | (dsimp only; split))

theorem State.streamOverrun_kept {s0 : State} (s : State) (n : ℕ) (hs : Kept s0 s) : Kept s0 (State.streamOverrun s n) := by
  unfold State.streamOverrun
  repeat' (first | (with_reducible (first | assumption | apply State.setB_kept | apply State.endWindow_kept | apply State.setAcqState_kept | apply State.endWriting_kept | fail_if_no_progress (apply upd_kept))) | split | (dsimp only; split))

theorem State.writeUnits_kept {s0 : State} (s : State) (n : ℕ) (l : List (List (BitVec 8))) (hs : Kept s0 s) : Kept s0 (s.writeUnits n l) := by
  induction l generalizing s with
  | nil => exact hs
  | cons x xs ih =>
    unfold State.writeUnits
    repeat' (first | (with_reducible (first | assumption | apply ih | apply State.streamOverrun_kept | apply State.setAcq_kept | apply State.mcWrite_kept | apply State.captureWrite_kept | apply ite_kept | fail_if_no_progress (apply upd_kept))) | split | (dsimp only; split))

theorem State.skipTo_kept {s0 : State} (s : State) (n : ℕ) (unit : ℕ) (hs : Kept s0 s) : Kept s0 (State.skipTo s n unit) := by
  unfold State.skipTo
  repeat' (first | (with_reducible (first | assumption | apply State.setAcq_kept | apply State.setF_kept | apply ite_kept | fail_if_no_progress (apply upd_kept))) | split | (dsimp only; split))

theorem State.minMaxBlock_kept {s0 : State} (s : State) (n : ℕ) (idx : ℕ) (ys : List ℤ) (hs : Kept s0 s) : Kept s0 (State.minMaxBlock s n idx ys) := by
  unfold State.minMaxBlock
  repeat' (first | (with_reducible (first | assumption | apply State.setAcq_kept | apply State.writeUnits_kept | apply State.skipTo_kept | apply ite_kept | fail_if_no_progress (apply upd_kept))) | split | (dsimp only; split))

theorem State.feedRawSlots_kept {s0 : State} (s : State) (ch : ℕ) (hs : Kept s0 s) : Kept s0 (State.feedRawSlots s ch) := by
  unfold State.feedRawSlots
  repeat' (first | (with_reducible (first | assumption | intro _ | apply State.skipTo_kept | apply State.writeUnits_kept | apply State.minMaxBlock_kept | apply ite_kept | apply foldl_kept | fail_if_no_progress (apply upd_kept))) | split | (dsimp only; split))

theorem State.feedChainSlots_kept {s0 : State} (s : State) (ch : ℕ) (o : ChainOut) (hs : Kept s0 s) : Kept s0 (State.feedChainSlots s ch o) := by
  unfold State.feedChainSlots
  repeat' (first | (with_reducible (first | assumption | intro _ | apply State.setAcq_kept | apply State.writeUnits_kept | apply State.skipTo_kept | apply ite_fst_kept | apply foldl_fst_kept | apply ite_kept | apply foldl_kept | fail_if_no_progress (apply upd_kept))) | split | (dsimp only; split))

theorem State.acqTrigger_kept {s0 : State} (s : State) (n : ℕ) (term : ℕ) (o : TermOut) (hs : Kept s0 s) : Kept s0 (State.acqTrigger s n term o) := by
  unfold State.acqTrigger
  repeat' (first | (with_reducible (first | assumption | apply State.incSat_kept | apply State.setAcq_kept | apply State.setAcqState_kept | apply ite_kept | fail_if_no_progress (apply upd_kept))) | split | (dsimp only; split))

theorem State.feedTerm_kept {s0 : State} (s : State) (term : ℕ) (o : TermOut) (hs : Kept s0 s) : Kept s0 (State.feedTerm s term o) := by
  unfold State.feedTerm
  repeat' (first | (with_reducible (first | assumption | intro _ | apply State.acqTrigger_kept | apply ite_kept | apply foldl_kept | fail_if_no_progress (apply upd_kept))) | split | (dsimp only; split))

theorem termEvaluate_kept {s0 : State} (t : ℕ) (s : State) (hs : Kept s0 s) : Kept s0 (termEvaluate t s) := by
  unfold termEvaluate
  repeat' (first | (with_reducible (first | assumption | apply State.evaluate_kept | apply State.arriveAll_kept | apply State.feedTerm_kept | fail_if_no_progress (apply upd_kept))) | split | (dsimp only; split))

theorem execTermEvaluate_kept {s0 : State} (t : Fin 16) (s : State) (hs : Kept s0 s) : OutKept s0 (execTermEvaluate t s) := by
  unfold execTermEvaluate
  repeat' (first | (with_reducible (first | assumption | intro _ | apply OutKept.next | apply termEvaluate_kept | fail_if_no_progress (apply upd_kept))) | split | (dsimp only; split))

theorem windowComplete_kept {s0 : State} (n : ℕ) (s : State) (hs : Kept s0 s) : Kept s0 (windowComplete n s) := by
  unfold windowComplete
  repeat' (first | (with_reducible (first | assumption | apply State.endWindow_kept | apply State.incSat_kept | apply State.setAcq_kept | apply State.setAcqState_kept | apply State.endWriting_kept | apply State.closeStage_kept | apply ite_fst_kept | apply ite_kept | fail_if_no_progress (apply upd_kept))) | split | (dsimp only; split))

theorem execWindowComplete_kept {s0 : State} (n : Fin 64) (s : State) (hs : Kept s0 s) : OutKept s0 (execWindowComplete n s) := by
  unfold execWindowComplete
  repeat' (first | (with_reducible (first | assumption | intro _ | apply OutKept.next | apply windowComplete_kept | fail_if_no_progress (apply upd_kept))) | split | (dsimp only; split))

theorem rearmDone_kept {s0 : State} (n : ℕ) (s : State) (hs : Kept s0 s) : Kept s0 (rearmDone n s) := by
  unfold rearmDone
  repeat' (first | (with_reducible (first | assumption | apply State.setF_kept | apply State.startSegment_kept | apply ite_kept | fail_if_no_progress (apply upd_kept))) | split | (dsimp only; split))

theorem execRearmDone_kept {s0 : State} (n : Fin 64) (s : State) (hs : Kept s0 s) : OutKept s0 (execRearmDone n s) := by
  unfold execRearmDone
  repeat' (first | (with_reducible (first | assumption | intro _ | apply OutKept.next | apply rearmDone_kept | fail_if_no_progress (apply upd_kept))) | split | (dsimp only; split))

theorem State.drainAdvance_kept {s0 : State} (s : State) (n : ℕ) (k : ℕ) (hs : Kept s0 s) : Kept s0 (State.drainAdvance s n k) := by
  unfold State.drainAdvance
  repeat' (first | (with_reducible (first | assumption | apply State.setAcq_kept | fail_if_no_progress (apply upd_kept))) | split | (dsimp only; split))

theorem State.drainFree_kept {s0 : State} (s : State) (n : ℕ) (hs : Kept s0 s) : Kept s0 (State.drainFree s n) := by
  unfold State.drainFree
  repeat' (first | (with_reducible (first | assumption | apply State.setAcq_kept | apply ite_kept | fail_if_no_progress (apply upd_kept))) | split | (dsimp only; split))

theorem State.slotPacket_kept {s0 : State} (s : State) (q : ℕ) (hs : Kept s0 s) : Kept s0 (State.slotPacket s q) := by
  unfold State.slotPacket
  repeat' (first | (with_reducible (first | assumption | apply State.memWake_kept | apply State.mcRead_kept | apply State.drainFree_kept | apply State.drainAdvance_kept | apply State.sqWrite_kept | apply ite_res_kept | apply ite_fst_kept | apply ite_kept | fail_if_no_progress (apply upd_kept))) | split | (dsimp only; split))

theorem sqPacketWrite_kept {s0 : State} (q : ℕ) (producer : ℕ) (poison : Bool) (index : ℕ) (body : List (BitVec 8)) (s : State) (hs : Kept s0 s) : Kept s0 (sqPacketWrite q producer poison index body s) := by
  unfold sqPacketWrite
  repeat' (first | (with_reducible (first | assumption | apply State.slotPacket_kept | apply State.sqWrite_kept | apply ite_fst_kept | apply ite_kept | fail_if_no_progress (apply upd_kept))) | split | (dsimp only; split))

theorem execSqPacketWrite_kept {s0 : State} (q : Fin 32) (producer : Fin 5) (poison : Bool) (index : BitVec 64) (body : List (BitVec 8)) (s : State) (hs : Kept s0 s) : OutKept s0 (execSqPacketWrite q producer poison index body s) := by
  unfold execSqPacketWrite
  repeat' (first | (with_reducible (first | assumption | intro _ | apply OutKept.next | apply sqPacketWrite_kept | fail_if_no_progress (apply upd_kept))) | split | (dsimp only; split))

end Sys2Proof.Machine
end

