-- ==== Sys2Proof/Laws/KeptTrigPort.lean ====
section
/-!
SUPPORT. Every function of Machine/TrigPort.lean that answers a state keeps what `Kept` names.
-/
set_option linter.all false
namespace Sys2Proof.Machine

theorem State.syncTpa_kept {s0 : State} (s : State) (hs : Kept s0 s) : Kept s0 (State.syncTpa s) := by
  unfold State.syncTpa
  repeat' (first | (with_reducible (first | assumption | apply ite_kept | fail_if_no_progress (apply upd_kept))) | split | (dsimp only; split))

theorem State.setTpp_kept {s0 : State} (s : State) (w : ℕ) (hs : Kept s0 s) : Kept s0 (State.setTpp s w) := by
  unfold State.setTpp
  repeat' (first | (with_reducible (first | assumption | apply ite_kept | fail_if_no_progress (apply upd_kept))) | split | (dsimp only; split))

theorem tpCtrlWritten_kept {s0 : State} (s : State) (hs : Kept s0 s) : Kept s0 (tpCtrlWritten s) := by
  unfold tpCtrlWritten
  repeat' (first | (with_reducible (first | assumption | apply State.syncTpa_kept | apply State.setTpp_kept | apply ite_kept | fail_if_no_progress (apply upd_kept))) | split | (dsimp only; split))

theorem tpQuery_kept {s0 : State} (v : Bool) (q : ℕ) (s : State) (hs : Kept s0 s) : Kept s0 (tpQuery v q s) := by
  unfold tpQuery
  repeat' (first | (with_reducible (first | assumption | apply State.syncTpa_kept | fail_if_no_progress (apply upd_kept))) | split | (dsimp only; split))

theorem execTpQuery_kept {s0 : State} (v : Bool) (q : Fin 64) (s : State) (hs : Kept s0 s) : OutKept s0 (execTpQuery v q s) := by
  unfold execTpQuery
  repeat' (first | (with_reducible (first | assumption | intro _ | apply OutKept.next | apply tpQuery_kept | fail_if_no_progress (apply upd_kept))) | split | (dsimp only; split))

theorem State.ansSelect_kept {s0 : State} (s : State) (e : ℕ) (hs : Kept s0 s) : Kept s0 (State.ansSelect s e) := by
  unfold State.ansSelect
  repeat' (first | (with_reducible (first | assumption | apply State.addWrap_kept | apply State.setF_kept | apply State.syncTpa_kept | fail_if_no_progress (apply upd_kept))) | split | (dsimp only; split))

theorem State.ansFree_kept {s0 : State} (s : State) (e : ℕ) (hs : Kept s0 s) : Kept s0 (State.ansFree s e) := by
  unfold State.ansFree
  repeat' (first | (with_reducible (first | assumption | apply State.ansSelect_kept | apply ite_kept | fail_if_no_progress (apply upd_kept))) | split | (dsimp only; split))

theorem State.ansTick_kept {s0 : State} (s : State) (hs : Kept s0 s) : Kept s0 (State.ansTick s) := by
  unfold State.ansTick
  repeat' (first | (with_reducible (first | assumption | intro _ | apply State.ansFree_kept | apply ite_kept | apply foldl_kept | fail_if_no_progress (apply upd_kept))) | split | (dsimp only; split))

theorem answerUpdate_kept {s0 : State} (e : ℕ) (src : ℕ) (value : ℕ) (s : State) (hs : Kept s0 s) : Kept s0 (answerUpdate e src value s) := by
  unfold answerUpdate
  repeat' (first | (with_reducible (first | assumption | apply State.setB_kept | apply State.incSat_kept | apply State.ansFree_kept | apply ite_kept | fail_if_no_progress (apply upd_kept))) | split | (dsimp only; split))

theorem execAnswerUpdate_kept {s0 : State} (e : Fin 64) (src : Fin 3) (value : BitVec 16) (s : State) (hs : Kept s0 s) : OutKept s0 (execAnswerUpdate e src value s) := by
  unfold execAnswerUpdate
  repeat' (first | (with_reducible (first | assumption | intro _ | apply OutKept.next | apply answerUpdate_kept | fail_if_no_progress (apply upd_kept))) | split | (dsimp only; split))

theorem State.feedAnswers_kept {s0 : State} (s : State) (n : ℕ) (d : DetRes) (hs : Kept s0 s) : Kept s0 (State.feedAnswers s n d) := by
  unfold State.feedAnswers
  repeat' (first | (with_reducible (first | assumption | intro _ | apply answerUpdate_kept | apply ite_kept | apply foldl_kept | fail_if_no_progress (apply upd_kept))) | split | (dsimp only; split))

theorem tpclkEdge_kept {s0 : State} (k : ℕ) (s : State) (hs : Kept s0 s) : Kept s0 (tpclkEdge k s) := by
  unfold tpclkEdge
  repeat' (first | (with_reducible (first | assumption | intro _ | apply State.ansSelect_kept | apply State.setTpp_kept | apply State.setB_kept | apply State.addSat_kept | apply ite_kept | apply foldl_kept | fail_if_no_progress (apply upd_kept))) | split | (dsimp only; split))

theorem execTpclkEdge_kept {s0 : State} (k : Fin 160) (s : State) (hs : Kept s0 s) : OutKept s0 (execTpclkEdge k s) := by
  unfold execTpclkEdge
  repeat' (first | (with_reducible (first | assumption | intro _ | apply OutKept.next | apply tpclkEdge_kept | fail_if_no_progress (apply upd_kept))) | split | (dsimp only; split))

theorem tpclkLoss_kept {s0 : State} (s : State) (hs : Kept s0 s) : Kept s0 (tpclkLoss s) := by
  unfold tpclkLoss
  repeat' (first | (with_reducible (first | assumption | apply State.setTpp_kept | apply State.setB_kept | apply ite_kept | fail_if_no_progress (apply upd_kept))) | split | (dsimp only; split))

theorem execTpclkLoss_kept {s0 : State} (s : State) (hs : Kept s0 s) : OutKept s0 (execTpclkLoss s) := by
  unfold execTpclkLoss
  repeat' (first | (with_reducible (first | assumption | intro _ | apply OutKept.next | apply tpclkLoss_kept | fail_if_no_progress (apply upd_kept))) | split | (dsimp only; split))

theorem tpclkMeasurement_kept {s0 : State} (hz : ℕ) (s : State) (hs : Kept s0 s) : Kept s0 (tpclkMeasurement hz s) := by
  unfold tpclkMeasurement
  repeat' (first | (with_reducible (first | assumption | apply State.setB_kept | apply State.setF_kept | apply State.setTpp_kept | apply ite_kept | fail_if_no_progress (apply upd_kept))) | split | (dsimp only; split))

theorem execTpclkMeasurement_kept {s0 : State} (hz : BitVec 27) (s : State) (hs : Kept s0 s) : OutKept s0 (execTpclkMeasurement hz s) := by
  unfold execTpclkMeasurement
  repeat' (first | (with_reducible (first | assumption | intro _ | apply OutKept.next | apply tpclkMeasurement_kept | fail_if_no_progress (apply upd_kept))) | split | (dsimp only; split))

theorem State.decision_kept {s0 : State} (s : State) (product : ℕ) (pt : ℕ) (hs : Kept s0 s) : Kept s0 (State.decision s product pt) := by
  unfold State.decision
  repeat' (first | (with_reducible (first | assumption | apply State.sqRecord_kept | apply ite_fst_kept | apply ite_kept | fail_if_no_progress (apply upd_kept))) | split | (dsimp only; split))

theorem tpAccept_kept {s0 : State} (k : ℕ) (s : State) (hs : Kept s0 s) : Kept s0 (tpAccept k s) := by
  unfold tpAccept
  repeat' (first | (with_reducible (first | assumption | apply State.decision_kept | apply State.incSat_kept | apply State.originate_kept | apply ite_kept | fail_if_no_progress (apply upd_kept))) | split | (dsimp only; split))

theorem execAccept_kept {s0 : State} (k : Fin 160) (s : State) (hs : Kept s0 s) : OutKept s0 (execAccept k s) := by
  unfold execAccept
  repeat' (first | (with_reducible (first | assumption | intro _ | apply OutKept.next | apply tpAccept_kept | fail_if_no_progress (apply upd_kept))) | split | (dsimp only; split))

theorem tpReject_kept {s0 : State} (k : ℕ) (s : State) (hs : Kept s0 s) : Kept s0 (tpReject k s) := by
  unfold tpReject
  repeat' (first | (with_reducible (first | assumption | apply State.decision_kept | apply State.incSat_kept | apply ite_kept | fail_if_no_progress (apply upd_kept))) | split | (dsimp only; split))

theorem execReject_kept {s0 : State} (k : Fin 160) (s : State) (hs : Kept s0 s) : OutKept s0 (execReject k s) := by
  unfold execReject
  repeat' (first | (with_reducible (first | assumption | intro _ | apply OutKept.next | apply tpReject_kept | fail_if_no_progress (apply upd_kept))) | split | (dsimp only; split))

theorem tpArm_kept {s0 : State} (k : ℕ) (s : State) (hs : Kept s0 s) : Kept s0 (tpArm k s) := by
  unfold tpArm
  repeat' (first | (with_reducible (first | assumption | apply State.incSat_kept | apply ite_kept | fail_if_no_progress (apply upd_kept))) | split | (dsimp only; split))

theorem execTpArm_kept {s0 : State} (k : Fin 160) (s : State) (hs : Kept s0 s) : OutKept s0 (execTpArm k s) := by
  unfold execTpArm
  repeat' (first | (with_reducible (first | assumption | intro _ | apply OutKept.next | apply tpArm_kept | fail_if_no_progress (apply upd_kept))) | split | (dsimp only; split))

theorem tpMark_kept {s0 : State} (k : ℕ) (s : State) (hs : Kept s0 s) : Kept s0 (tpMark k s) := by
  unfold tpMark
  repeat' (first | (with_reducible (first | assumption | apply State.unitEvents_kept | apply State.incSat_kept | apply ite_kept | fail_if_no_progress (apply upd_kept))) | split | (dsimp only; split))

theorem execMark_kept {s0 : State} (k : Fin 160) (s : State) (hs : Kept s0 s) : OutKept s0 (execMark k s) := by
  unfold execMark
  repeat' (first | (with_reducible (first | assumption | intro _ | apply OutKept.next | apply tpMark_kept | fail_if_no_progress (apply upd_kept))) | split | (dsimp only; split))

theorem tpReserved_kept {s0 : State} (code : ℕ) (s : State) (hs : Kept s0 s) : Kept s0 (tpReserved code s) := by
  unfold tpReserved
  repeat' (first | (with_reducible (first | assumption | apply State.setB_kept | apply State.incSat_kept | apply ite_kept | fail_if_no_progress (apply upd_kept))) | split | (dsimp only; split))

theorem execTpReservedCommand_kept {s0 : State} (code : Fin 16) (s : State) (hs : Kept s0 s) : OutKept s0 (execTpReservedCommand code s) := by
  unfold execTpReservedCommand
  repeat' (first | (with_reducible (first | assumption | intro _ | apply OutKept.next | apply tpReserved_kept | fail_if_no_progress (apply upd_kept))) | split | (dsimp only; split))

end Sys2Proof.Machine
end

