-- ==== Sys2Proof/Laws/KeptCluster.lean ====
section
/-!
SUPPORT. Every function of Machine/Cluster.lean that answers a state keeps what `Kept` names.
-/
set_option linter.all false
namespace Sys2Proof.Machine

theorem State.syncUp_kept {s0 : State} (s : State) (hs : Kept s0 s) : Kept s0 (State.syncUp s) := by
  unfold State.syncUp
  repeat' (first | (with_reducible (first | assumption | apply State.setB_kept | fail_if_no_progress (apply upd_kept))) | split | (dsimp only; split))

theorem State.linkFault_kept {s0 : State} (s : State) (k : ℕ) (code : ℕ) (hs : Kept s0 s) : Kept s0 (State.linkFault s k code) := by
  unfold State.linkFault
  repeat' (first | (with_reducible (first | assumption | apply State.errLog_kept | apply State.setF_kept | apply State.syncUp_kept | apply State.setB_kept | apply State.setLink_kept | fail_if_no_progress (apply upd_kept))) | split | (dsimp only; split))

theorem State.linkStart_kept {s0 : State} (s : State) (k : ℕ) (hs : Kept s0 s) : Kept s0 (State.linkStart s k) := by
  unfold State.linkStart
  repeat' (first | (with_reducible (first | assumption | apply State.setB_kept | apply State.linkFault_kept | apply State.setLink_kept | apply State.addSat_kept | apply State.setF_kept | apply State.fenceEnter_kept | apply State.syncUp_kept | apply ite_kept | fail_if_no_progress (apply upd_kept))) | split | (dsimp only; split))

theorem State.linkEnd_kept {s0 : State} (s : State) (k : ℕ) (r : TrainResult) (hs : Kept s0 s) : Kept s0 (State.linkEnd s k r) := by
  unfold State.linkEnd
  repeat' (first | (with_reducible (first | assumption | apply State.fenceLeave_kept | apply State.setF_kept | apply State.setB_kept | apply State.linkFault_kept | apply State.syncUp_kept | apply State.setLink_kept | apply ite_kept | fail_if_no_progress (apply upd_kept))) | split | (dsimp only; split))

theorem linkTrain_kept {s0 : State} (k : ℕ) (r : TrainResult) (s : State) (hs : Kept s0 s) : Kept s0 (linkTrain k r s) := by
  unfold linkTrain
  repeat' (first | (with_reducible (first | assumption | apply State.linkStart_kept | apply State.linkEnd_kept | apply ite_kept | fail_if_no_progress (apply upd_kept))) | split | (dsimp only; split))

theorem execLinkTrain_kept {s0 : State} (k : Fin 16) (r : TrainResult) (s : State) (hs : Kept s0 s) : OutKept s0 (execLinkTrain k r s) := by
  unfold execLinkTrain
  repeat' (first | (with_reducible (first | assumption | intro _ | apply OutKept.next | apply linkTrain_kept | fail_if_no_progress (apply upd_kept))) | split | (dsimp only; split))

theorem linkLos_kept {s0 : State} (k : ℕ) (s : State) (hs : Kept s0 s) : Kept s0 (linkLos k s) := by
  unfold linkLos
  repeat' (first | (with_reducible (first | assumption | apply State.linkFault_kept | apply ite_kept | fail_if_no_progress (apply upd_kept))) | split | (dsimp only; split))

theorem execLinkLos_kept {s0 : State} (k : Fin 16) (s : State) (hs : Kept s0 s) : OutKept s0 (execLinkLos k s) := by
  unfold execLinkLos
  repeat' (first | (with_reducible (first | assumption | intro _ | apply OutKept.next | apply linkLos_kept | fail_if_no_progress (apply upd_kept))) | split | (dsimp only; split))

theorem linkAutoRetrain_kept {s0 : State} (k : ℕ) (s : State) (hs : Kept s0 s) : Kept s0 (linkAutoRetrain k s) := by
  unfold linkAutoRetrain
  repeat' (first | (with_reducible (first | assumption | apply State.linkStart_kept | apply ite_kept | fail_if_no_progress (apply upd_kept))) | split | (dsimp only; split))

theorem execLinkAutoRetrain_kept {s0 : State} (k : Fin 16) (s : State) (hs : Kept s0 s) : OutKept s0 (execLinkAutoRetrain k s) := by
  unfold execLinkAutoRetrain
  repeat' (first | (with_reducible (first | assumption | intro _ | apply OutKept.next | apply linkAutoRetrain_kept | fail_if_no_progress (apply upd_kept))) | split | (dsimp only; split))

theorem linkCtrlWritten_kept {s0 : State} (k : ℕ) (v : ℕ) (s : State) (hs : Kept s0 s) : Kept s0 (linkCtrlWritten k v s) := by
  unfold linkCtrlWritten
  repeat' (first | (with_reducible (first | assumption | apply State.linkStart_kept | apply ite_kept | fail_if_no_progress (apply upd_kept))) | split | (dsimp only; split))

theorem clLanesWritten_kept {s0 : State} (s : State) (hs : Kept s0 s) : Kept s0 (clLanesWritten s) := by
  unfold clLanesWritten
  repeat' (first | (with_reducible (first | assumption | intro _ | apply State.setF_kept | apply State.syncUp_kept | apply State.setLink_kept | apply State.setB_kept | apply State.linkStart_kept | apply ite_kept | apply foldl_kept | fail_if_no_progress (apply upd_kept))) | split | (dsimp only; split))

theorem timeCarriage_kept {s0 : State} (k : ℕ) (c : Carriage) (trx : ℕ) (s : State) (hs : Kept s0 s) : Kept s0 (timeCarriage k c trx s) := by
  unfold timeCarriage
  repeat' (first | (with_reducible (first | assumption | apply State.carriageOk_kept | apply State.setF_kept | apply State.setB_kept | apply State.setLink_kept | apply State.syncHoldover_kept | apply ite_fst_kept | apply ite_kept | fail_if_no_progress (apply upd_kept))) | split | (dsimp only; split))

theorem execTimeCarriage_kept {s0 : State} (k : Fin 16) (c : Carriage) (trx : BitVec 128) (s : State) (hs : Kept s0 s) : OutKept s0 (execTimeCarriage k c trx s) := by
  unfold execTimeCarriage
  repeat' (first | (with_reducible (first | assumption | intro _ | apply OutKept.next | apply timeCarriage_kept | fail_if_no_progress (apply upd_kept))) | split | (dsimp only; split))

theorem State.sendCodeword_kept {s0 : State} (s : State) (k : ℕ) (hs : Kept s0 s) : Kept s0 (State.sendCodeword s k) := by
  unfold State.sendCodeword
  repeat' (first | (with_reducible (first | assumption | apply State.emit_kept | apply State.setLink_kept | apply ite_kept | fail_if_no_progress (apply upd_kept))) | split | (dsimp only; split))

theorem State.sendTimes_kept {s0 : State} (s : State) (hs : Kept s0 s) : Kept s0 (State.sendTimes s) := by
  unfold State.sendTimes
  repeat' (first | (with_reducible (first | assumption | intro _ | apply State.sendCodeword_kept | apply foldl_kept | fail_if_no_progress (apply upd_kept))) | split | (dsimp only; split))

theorem State.armAct_kept {s0 : State} (s : State) (a : ArmSt) (hs : Kept s0 s) : Kept s0 (State.armAct s a) := by
  unfold State.armAct
  repeat' (first | (with_reducible (first | assumption | apply State.setB_kept | apply State.setF_kept | apply State.armSlots_kept | apply ite_kept | fail_if_no_progress (apply upd_kept))) | split | (dsimp only; split))

theorem State.pruneArms_kept {s0 : State} (s : State) (hs : Kept s0 s) : Kept s0 (State.pruneArms s) := by
  unfold State.pruneArms
  repeat' (first | (with_reducible (first | assumption | fail_if_no_progress (apply upd_kept))) | split | (dsimp only; split))

theorem State.actArms_kept {s0 : State} (s : State) (n : ℕ) (hs : Kept s0 s) : Kept s0 (s.actArms n) := by
  induction n generalizing s with
  | zero => exact hs
  | succ n ih =>
    unfold State.actArms
    repeat' (first | (with_reducible (first | assumption | apply ih | apply State.pruneArms_kept | apply State.armAct_kept | apply ite_kept | fail_if_no_progress (apply upd_kept))) | split | (dsimp only; split))

theorem armActivate_kept {s0 : State} (s : State) (hs : Kept s0 s) : Kept s0 (armActivate s) := by
  unfold armActivate
  repeat' (first | (with_reducible (first | assumption | apply State.actArms_kept | fail_if_no_progress (apply upd_kept))) | split | (dsimp only; split))

theorem execArmActivate_kept {s0 : State} (s : State) (hs : Kept s0 s) : OutKept s0 (execArmActivate s) := by
  unfold execArmActivate
  repeat' (first | (with_reducible (first | assumption | intro _ | apply OutKept.next | apply armActivate_kept | fail_if_no_progress (apply upd_kept))) | split | (dsimp only; split))

theorem State.settleArm_kept {s0 : State} (s : State) (a : ArmSt) (hs : Kept s0 s) : Kept s0 (State.settleArm s a) := by
  unfold State.settleArm
  repeat' (first | (with_reducible (first | assumption | apply State.pruneArms_kept | apply State.setF_kept | apply State.finishDefs_kept | apply State.sendAck_kept | apply ite_kept | fail_if_no_progress (apply upd_kept))) | split | (dsimp only; split))

theorem State.settleArms_kept {s0 : State} (s : State) (hs : Kept s0 s) : Kept s0 (State.settleArms s) := by
  unfold State.settleArms
  repeat' (first | (with_reducible (first | assumption | intro _ | apply State.settleArm_kept | apply foldl_kept | fail_if_no_progress (apply upd_kept))) | split | (dsimp only; split))

theorem armCarriage_kept {s0 : State} (k : ℕ) (c : Carriage) (s : State) (hs : Kept s0 s) : Kept s0 (armCarriage k c s) := by
  unfold armCarriage
  repeat' (first | (with_reducible (first | assumption | apply State.carriageOk_kept | apply State.sendAck_kept | apply State.ctlNext_kept | apply State.broadcast_kept | apply armActivate_kept | apply State.settleArms_kept | apply ite_fst_kept | apply ite_kept | fail_if_no_progress (apply upd_kept))) | split | (dsimp only; split))

theorem execArmCarriage_kept {s0 : State} (k : Fin 16) (c : Carriage) (s : State) (hs : Kept s0 s) : OutKept s0 (execArmCarriage k c s) := by
  unfold execArmCarriage
  repeat' (first | (with_reducible (first | assumption | intro _ | apply OutKept.next | apply armCarriage_kept | fail_if_no_progress (apply upd_kept))) | split | (dsimp only; split))

theorem State.startArm_kept {s0 : State} (s : State) (act_ : ℕ) (firesMax : ℕ) (disarm : Bool) (hs : Kept s0 s) : Kept s0 (State.startArm s act_ firesMax disarm) := by
  unfold State.startArm
  repeat' (first | (with_reducible (first | assumption | apply State.broadcast_kept | fail_if_no_progress (apply upd_kept))) | split | (dsimp only; split))

theorem clArmStart_kept {s0 : State} (act_ : ℕ) (firesMax : ℕ) (disarm : Bool) (s : State) (hs : Kept s0 s) : Kept s0 (clArmStart act_ firesMax disarm s).st := by
  unfold clArmStart
  repeat' (first | (with_reducible (first | assumption | intro _ | apply resDone_kept | apply State.startArm_kept | apply State.settleArms_kept | apply ite_res_kept | apply ite_kept | fail_if_no_progress (apply upd_kept))) | split | (dsimp only; split))

theorem execClArm_kept {s0 : State} (k : Fin 16) (f : Fetch) (s : State) (hs : Kept s0 s) : OutKept s0 (execClArm k f s) := by
  unfold execClArm
  repeat' (first | (with_reducible (first | assumption | intro _ | apply OutKept.next | apply State.startCmd_kept | apply clArmStart_kept | fail_if_no_progress (apply upd_kept))) | split | (dsimp only; split))

theorem clArmTimeout_kept {s0 : State} (s : State) (hs : Kept s0 s) : Kept s0 (clArmTimeout s) := by
  unfold clArmTimeout
  repeat' (first | (with_reducible (first | assumption | intro _ | apply State.finishDefs_kept | apply armActivate_kept | apply ite_kept | apply foldl_kept | fail_if_no_progress (apply upd_kept))) | split | (dsimp only; split))

theorem execClArmTimeout_kept {s0 : State} (s : State) (hs : Kept s0 s) : OutKept s0 (execClArmTimeout s) := by
  unfold execClArmTimeout
  repeat' (first | (with_reducible (first | assumption | intro _ | apply OutKept.next | apply clArmTimeout_kept | fail_if_no_progress (apply upd_kept))) | split | (dsimp only; split))

theorem State.tpArmTick_kept {s0 : State} (s : State) (hs : Kept s0 s) : Kept s0 (State.tpArmTick s) := by
  unfold State.tpArmTick
  repeat' (first | (with_reducible (first | assumption | apply State.armSlots_kept | apply State.startArm_kept | apply ite_kept | fail_if_no_progress (apply upd_kept))) | split | (dsimp only; split))

theorem fireUp_kept {s0 : State} (k : ℕ) (c : Carriage) (s : State) (hs : Kept s0 s) : Kept s0 (fireUp k c s) := by
  unfold fireUp
  repeat' (first | (with_reducible (first | assumption | apply State.carriageOk_kept | apply State.sendAck_kept | apply State.ctlNext_kept | apply State.topFire_kept | apply State.sendCtl_kept | apply State.incSat_kept | apply ite_fst_kept | apply ite_kept | fail_if_no_progress (apply upd_kept))) | split | (dsimp only; split))

theorem execFireUp_kept {s0 : State} (k : Fin 16) (c : Carriage) (s : State) (hs : Kept s0 s) : OutKept s0 (execFireUp k c s) := by
  unfold execFireUp
  repeat' (first | (with_reducible (first | assumption | intro _ | apply OutKept.next | apply fireUp_kept | fail_if_no_progress (apply upd_kept))) | split | (dsimp only; split))

theorem fireDown_kept {s0 : State} (k : ℕ) (c : Carriage) (s : State) (hs : Kept s0 s) : Kept s0 (fireDown k c s) := by
  unfold fireDown
  repeat' (first | (with_reducible (first | assumption | apply State.carriageOk_kept | apply State.sendAck_kept | apply State.ctlNext_kept | apply State.deliverFire_kept | apply State.broadcast_kept | apply ite_fst_kept | apply ite_kept | fail_if_no_progress (apply upd_kept))) | split | (dsimp only; split))

theorem execFireDown_kept {s0 : State} (k : Fin 16) (c : Carriage) (s : State) (hs : Kept s0 s) : OutKept s0 (execFireDown k c s) := by
  unfold execFireDown
  repeat' (first | (with_reducible (first | assumption | intro _ | apply OutKept.next | apply fireDown_kept | fail_if_no_progress (apply upd_kept))) | split | (dsimp only; split))

theorem State.dataIn_kept {s0 : State} (s : State) (k : ℕ) (c : Carriage) (hs : Kept s0 s) : Kept s0 (State.dataIn s k c) := by
  unfold State.dataIn
  repeat' (first | (with_reducible (first | assumption | apply State.incSat_kept | apply State.setLink_kept | apply State.sqPut_kept | apply State.sqWrite_kept | apply ite_fst_kept | apply ite_kept | fail_if_no_progress (apply upd_kept))) | split | (dsimp only; split))

theorem State.dataOut_kept {s0 : State} (s : State) (parity : Bool) (hs : Kept s0 s) : Kept s0 (State.dataOut s parity) := by
  unfold State.dataOut
  repeat' (first | (with_reducible (first | assumption | apply State.setLink_kept | apply State.sqTake_kept | apply State.setB_kept | apply State.incSat_kept | apply State.sendPlain_kept | apply ite_kept | fail_if_no_progress (apply upd_kept))) | split | (dsimp only; split))

theorem dataCarriage_kept {s0 : State} (k : ℕ) (c : Carriage) (parity : Bool) (s : State) (hs : Kept s0 s) : Kept s0 (dataCarriage k c parity s) := by
  unfold dataCarriage
  repeat' (first | (with_reducible (first | assumption | apply State.dataOut_kept | apply State.carriageOk_kept | apply State.dataIn_kept | apply ite_fst_kept | apply ite_kept | fail_if_no_progress (apply upd_kept))) | split | (dsimp only; split))

theorem execDataCarriage_kept {s0 : State} (k : Fin 16) (c : Carriage) (parity : Bool) (s : State) (hs : Kept s0 s) : OutKept s0 (execDataCarriage k c parity s) := by
  unfold execDataCarriage
  repeat' (first | (with_reducible (first | assumption | intro _ | apply OutKept.next | apply dataCarriage_kept | fail_if_no_progress (apply upd_kept))) | split | (dsimp only; split))

theorem creditCarriage_kept {s0 : State} (k : ℕ) (c : Carriage) (s : State) (hs : Kept s0 s) : Kept s0 (creditCarriage k c s) := by
  unfold creditCarriage
  repeat' (first | (with_reducible (first | assumption | apply State.carriageOk_kept | apply State.setLink_kept | apply ite_fst_kept | apply ite_kept | fail_if_no_progress (apply upd_kept))) | split | (dsimp only; split))

theorem execCredit_kept {s0 : State} (k : Fin 16) (c : Carriage) (s : State) (hs : Kept s0 s) : OutKept s0 (execCredit k c s) := by
  unfold execCredit
  repeat' (first | (with_reducible (first | assumption | intro _ | apply OutKept.next | apply creditCarriage_kept | fail_if_no_progress (apply upd_kept))) | split | (dsimp only; split))

theorem State.grantCredit_kept {s0 : State} (s : State) (hs : Kept s0 s) : Kept s0 (State.grantCredit s) := by
  unfold State.grantCredit
  repeat' (first | (with_reducible (first | assumption | intro _ | apply State.sendPlain_kept | apply State.setLink_kept | apply ite_kept | apply foldl_kept | fail_if_no_progress (apply upd_kept))) | split | (dsimp only; split))

theorem State.prepAnswer_kept {s0 : State} (s : State) (k : ℕ) (status : ℕ) (dev : ℕ) (hs : Kept s0 s) : Kept s0 (State.prepAnswer s k status dev) := by
  unfold State.prepAnswer
  repeat' (first | (with_reducible (first | assumption | apply ite_fst_kept | apply ite_kept | fail_if_no_progress (apply upd_kept))) | split | (dsimp only; split))

theorem State.settlePrep_kept {s0 : State} (s : State) (hs : Kept s0 s) : Kept s0 (State.settlePrep s) := by
  unfold State.settlePrep
  repeat' (first | (with_reducible (first | assumption | apply State.sendAck_kept | apply ite_kept | fail_if_no_progress (apply upd_kept))) | split | (dsimp only; split))

theorem State.ackOf_kept {s0 : State} (s : State) (k : ℕ) (status : ℕ) (dev : ℕ) (c : CtlCarriage) (hs : Kept s0 s) : Kept s0 (State.ackOf s k status dev c) := by
  unfold State.ackOf
  repeat' (first | (with_reducible (first | assumption | apply State.settleArms_kept | apply State.settlePrep_kept | apply State.prepAnswer_kept | apply ite_kept | fail_if_no_progress (apply upd_kept))) | split | (dsimp only; split))

theorem ackCarriage_kept {s0 : State} (k : ℕ) (c : Carriage) (s : State) (hs : Kept s0 s) : Kept s0 (ackCarriage k c s) := by
  unfold ackCarriage
  repeat' (first | (with_reducible (first | assumption | apply State.carriageOk_kept | apply State.setLink_kept | apply State.ackOf_kept | apply ite_fst_kept | apply ite_kept | fail_if_no_progress (apply upd_kept))) | split | (dsimp only; split))

theorem execAck_kept {s0 : State} (k : Fin 16) (c : Carriage) (s : State) (hs : Kept s0 s) : OutKept s0 (execAck k c s) := by
  unfold execAck
  repeat' (first | (with_reducible (first | assumption | intro _ | apply OutKept.next | apply ackCarriage_kept | fail_if_no_progress (apply upd_kept))) | split | (dsimp only; split))

theorem ackTimeout_kept {s0 : State} (k : ℕ) (s : State) (hs : Kept s0 s) : Kept s0 (ackTimeout k s) := by
  unfold ackTimeout
  repeat' (first | (with_reducible (first | assumption | apply State.linkFault_kept | apply State.addSat_kept | apply State.setLink_kept | apply ite_kept | fail_if_no_progress (apply upd_kept))) | split | (dsimp only; split))

theorem execAckTimeout_kept {s0 : State} (k : Fin 16) (s : State) (hs : Kept s0 s) : OutKept s0 (execAckTimeout k s) := by
  unfold execAckTimeout
  repeat' (first | (with_reducible (first | assumption | intro _ | apply OutKept.next | apply ackTimeout_kept | fail_if_no_progress (apply upd_kept))) | split | (dsimp only; split))

end Sys2Proof.Machine
end

