-- ==== Sys2Proof/Laws/KeptTdc.lean ====
section
/-!
SUPPORT. Every function of Machine/Tdc.lean that answers a state keeps what `Kept` names.
-/
set_option linter.all false
namespace Sys2Proof.Machine

theorem State.tdcPush_kept {s0 : State} (s : State) (c : ℕ) (t : ℕ) (falling : Bool) (hs : Kept s0 s) : Kept s0 (State.tdcPush s c t falling) := by
  unfold State.tdcPush
  repeat' (first | (with_reducible (first | assumption | apply State.incSat_kept | apply State.setTdc_kept | apply State.syncTdc_kept | apply State.tdcToMemory_kept | apply ite_fst_kept | apply ite_kept | fail_if_no_progress (apply upd_kept))) | split | (dsimp only; split))

theorem State.gateClose_kept {s0 : State} (s : State) (c : ℕ) (x : GateSt) (hs : Kept s0 s) : Kept s0 (State.gateClose s c x) := by
  unfold State.gateClose
  repeat' (first | (with_reducible (first | assumption | apply State.setF_kept | apply State.addWrap_kept | apply State.setTdc_kept | apply State.sqRecord_kept | apply ite_fst_kept | apply ite_kept | fail_if_no_progress (apply upd_kept))) | split | (dsimp only; split))

theorem gateEnd_kept {s0 : State} (c : ℕ) (s : State) (hs : Kept s0 s) : Kept s0 (gateEnd c s) := by
  unfold gateEnd
  repeat' (first | (with_reducible (first | assumption | apply State.gateClose_kept | apply ite_kept | fail_if_no_progress (apply upd_kept))) | split | (dsimp only; split))

theorem execGateEnd_kept {s0 : State} (c : Fin 16) (s : State) (hs : Kept s0 s) : OutKept s0 (execGateEnd c s) := by
  unfold execGateEnd
  repeat' (first | (with_reducible (first | assumption | intro _ | apply OutKept.next | apply gateEnd_kept | fail_if_no_progress (apply upd_kept))) | split | (dsimp only; split))

theorem State.gateCatch_kept {s0 : State} (s : State) (c t n : ℕ) (hs : Kept s0 s) : Kept s0 (s.gateCatch c t n) := by
  induction n generalizing s with
  | zero => exact hs
  | succ n ih =>
    unfold State.gateCatch
    repeat' (first | (with_reducible (first | assumption | apply ih | apply State.gateClose_kept | apply ite_kept | fail_if_no_progress (apply upd_kept))) | split | (dsimp only; split))

theorem State.gatesTo_kept {s0 : State} (s : State) (c : ℕ) (t : ℕ) (hs : Kept s0 s) : Kept s0 (State.gatesTo s c t) := by
  unfold State.gatesTo
  repeat' (first | (with_reducible (first | assumption | apply State.gateCatch_kept | fail_if_no_progress (apply upd_kept))) | split | (dsimp only; split))

theorem State.gateStamp_kept {s0 : State} (s : State) (c : ℕ) (t : ℕ) (ev : ℕ) (hs : Kept s0 s) : Kept s0 (State.gateStamp s c t ev) := by
  unfold State.gateStamp
  repeat' (first | (with_reducible (first | assumption | apply State.gatesTo_kept | apply State.setTdc_kept | apply ite_kept | fail_if_no_progress (apply upd_kept))) | split | (dsimp only; split))

theorem State.tdcFast_kept {s0 : State} (s : State) (c : ℕ) (t : ℕ) (d : ℕ) (hs : Kept s0 s) : Kept s0 (State.tdcFast s c t d) := by
  unfold State.tdcFast
  repeat' (first | (with_reducible (first | assumption | apply State.gatesTo_kept | apply State.setB_kept | apply State.setTdc_kept | fail_if_no_progress (apply upd_kept))) | split | (dsimp only; split))

theorem State.tdcOffer_kept {s0 : State} (s : State) (c : ℕ) (falling : Bool) (k : ℕ) (n : ℕ) (at_ : ℕ) (ev : ℕ) (hs : Kept s0 s) : Kept s0 (State.tdcOffer s c falling k n at_ ev) := by
  unfold State.tdcOffer
  repeat' (first | (with_reducible (first | assumption | apply State.incSat_kept | apply State.setTdc_kept | apply State.tdcPush_kept | apply State.gateStamp_kept | apply State.tinEvent_kept | apply ite_kept | fail_if_no_progress (apply upd_kept))) | split | (dsimp only; split))

theorem tinEdge_kept {s0 : State} (c : ℕ) (falling : Bool) (k : ℕ) (n : ℕ) (s : State) (hs : Kept s0 s) : Kept s0 (tinEdge c falling k n s) := by
  unfold tinEdge
  repeat' (first | (with_reducible (first | assumption | apply State.setTdc_kept | apply State.next_kept | apply State.tdcFast_kept | apply State.setF_kept | apply State.tdcOffer_kept | apply ite_kept | fail_if_no_progress (apply upd_kept))) | split | (dsimp only; split))

theorem execTinEdge_kept {s0 : State} (c : Fin 16) (falling : Bool) (k : Fin 160) (n : Fin 64) (s : State) (hs : Kept s0 s) : OutKept s0 (execTinEdge c falling k n s) := by
  unfold execTinEdge
  repeat' (first | (with_reducible (first | assumption | intro _ | apply OutKept.next | apply tinEdge_kept | fail_if_no_progress (apply upd_kept))) | split | (dsimp only; split))

theorem State.tdcTick_kept {s0 : State} (s : State) (hs : Kept s0 s) : Kept s0 (State.tdcTick s) := by
  unfold State.tdcTick
  repeat' (first | (with_reducible (first | assumption | intro _ | apply State.setTdc_kept | apply State.setB_kept | apply State.setF_kept | apply ite_kept | apply foldl_kept | fail_if_no_progress (apply upd_kept))) | split | (dsimp only; split))

theorem tdcBatchEmit_kept {s0 : State} (c : ℕ) (s : State) (hs : Kept s0 s) : Kept s0 (tdcBatchEmit c s) := by
  unfold tdcBatchEmit
  repeat' (first | (with_reducible (first | assumption | apply State.syncTdc_kept | apply State.setTdc_kept | apply State.sqRecord_kept | apply State.addSat_kept | apply ite_fst_kept | apply ite_kept | fail_if_no_progress (apply upd_kept))) | split | (dsimp only; split))

theorem execTdcBatchEmit_kept {s0 : State} (c : Fin 16) (s : State) (hs : Kept s0 s) : OutKept s0 (execTdcBatchEmit c s) := by
  unfold execTdcBatchEmit
  repeat' (first | (with_reducible (first | assumption | intro _ | apply OutKept.next | apply tdcBatchEmit_kept | fail_if_no_progress (apply upd_kept))) | split | (dsimp only; split))

theorem State.tdcPop_kept {s0 : State} (s : State) (c : ℕ) (hs : Kept s0 s) : Kept s0 (State.tdcPop s c).1 := by
  unfold State.tdcPop
  repeat' (first | (with_reducible (first | assumption | intro _ | apply State.setWordsAt_kept | apply State.syncTdc_kept | apply State.setTdc_kept | apply ite_fst_kept | apply ite_kept | fail_if_no_progress (apply upd_kept))) | split | (dsimp only; split))

theorem execTdcTempUpdate_kept {s0 : State} (t : BitVec 16) (s : State) (hs : Kept s0 s) : OutKept s0 (execTdcTempUpdate t s) := by
  unfold execTdcTempUpdate
  repeat' (first | (with_reducible (first | assumption | intro _ | apply OutKept.next | apply State.setF_kept | fail_if_no_progress (apply upd_kept))) | split | (dsimp only; split))

theorem ntIncrWritten_kept {s0 : State} (v : ℕ) (s : State) (hs : Kept s0 s) : Kept s0 (ntIncrWritten v s) := by
  unfold ntIncrWritten
  repeat' (first | (with_reducible (first | assumption | apply State.setB_kept | apply State.setF_kept | apply ite_kept | fail_if_no_progress (apply upd_kept))) | split | (dsimp only; split))

theorem ntStepWritten_kept {s0 : State} (v : ℕ) (s : State) (hs : Kept s0 s) : Kept s0 (ntStepWritten v s) := by
  unfold ntStepWritten
  repeat' (first | (with_reducible (first | assumption | apply State.setB_kept | apply State.setF_kept | apply ite_kept | fail_if_no_progress (apply upd_kept))) | split | (dsimp only; split))

theorem ntStepApply_kept {s0 : State} (s : State) (hs : Kept s0 s) : Kept s0 (ntStepApply s) := by
  unfold ntStepApply
  repeat' (first | (with_reducible (first | assumption | apply State.setFi_kept | apply State.stepPtime_kept | apply State.setB_kept | apply State.incSat_kept | apply ite_kept | fail_if_no_progress (apply upd_kept))) | split | (dsimp only; split))

theorem State.servoTick_kept {s0 : State} (s : State) (hs : Kept s0 s) : Kept s0 (State.servoTick s) := by
  unfold State.servoTick
  repeat' (first | (with_reducible (first | assumption | apply ntStepApply_kept | fail_if_no_progress (apply upd_kept))) | split | (dsimp only; split))

theorem execNtStepApply_kept {s0 : State} (s : State) (hs : Kept s0 s) : OutKept s0 (execNtStepApply s) := by
  unfold execNtStepApply
  repeat' (first | (with_reducible (first | assumption | intro _ | apply OutKept.next | apply State.servoTick_kept | apply ite_out_kept | apply ite_kept | fail_if_no_progress (apply upd_kept))) | split | (dsimp only; split))

theorem servoWatchdog_kept {s0 : State} (s : State) (hs : Kept s0 s) : Kept s0 (servoWatchdog s) := by
  unfold servoWatchdog
  repeat' (first | (with_reducible (first | assumption | apply State.syncHoldover_kept | apply State.setB_kept | apply ite_kept | fail_if_no_progress (apply upd_kept))) | split | (dsimp only; split))

theorem execServoWatchdog_kept {s0 : State} (s : State) (hs : Kept s0 s) : OutKept s0 (execServoWatchdog s) := by
  unfold execServoWatchdog
  repeat' (first | (with_reducible (first | assumption | intro _ | apply OutKept.next | apply servoWatchdog_kept | fail_if_no_progress (apply upd_kept))) | split | (dsimp only; split))

theorem State.txtsPush_kept {s0 : State} (s : State) (e : TxStamp) (hs : Kept s0 s) : Kept s0 (State.txtsPush s e) := by
  unfold State.txtsPush
  repeat' (first | (with_reducible (first | assumption | apply State.incSat_kept | apply State.setB_kept | apply ite_kept | fail_if_no_progress (apply upd_kept))) | split | (dsimp only; split))

theorem State.txtsPop_kept {s0 : State} (s : State) (hs : Kept s0 s) : Kept s0 (State.txtsPop s).1 := by
  unfold State.txtsPop
  repeat' (first | (with_reducible (first | assumption | intro _ | apply State.setPtimeAt_kept | apply State.setB_kept | fail_if_no_progress (apply upd_kept))) | split | (dsimp only; split))

end Sys2Proof.Machine
end

