-- ==== Sys2Proof/Laws/KeptHk.lean ====
section
/-!
SUPPORT. Every function of Machine/Hk.lean that answers a state keeps what `Kept` names.
-/
set_option linter.all false
namespace Sys2Proof.Machine

theorem State.setHk_kept {s0 : State} (s : State) (x : ℕ) (c : HkConv) (hs : Kept s0 s) : Kept s0 (State.setHk s x c) := by
  unfold State.setHk
  repeat' (first | (with_reducible (first | assumption | fail_if_no_progress (apply upd_kept))) | split | (dsimp only; split))

theorem hkSequenceTick_kept {s0 : State} (s : State) (hs : Kept s0 s) : Kept s0 (hkSequenceTick s) := by
  unfold hkSequenceTick
  repeat' (first | (with_reducible (first | assumption | apply State.incSat_kept | apply State.setHk_kept | apply ite_kept | fail_if_no_progress (apply upd_kept))) | split | (dsimp only; split))

theorem execHkSequenceTick_kept {s0 : State} (s : State) (hs : Kept s0 s) : OutKept s0 (execHkSequenceTick s) := by
  unfold execHkSequenceTick
  repeat' (first | (with_reducible (first | assumption | intro _ | apply OutKept.next | apply State.whileRunning_kept | apply hkSequenceTick_kept | fail_if_no_progress (apply upd_kept))) | split | (dsimp only; split))

theorem State.hkBuffer_kept {s0 : State} (s : State) (x : ℕ) (input : ℕ) (code : ℕ) (inj : Bool) (r : ℤ) (hs : Kept s0 s) : Kept s0 (State.hkBuffer s x input code inj r) := by
  unfold State.hkBuffer
  repeat' (first | (with_reducible (first | assumption | apply State.setWordsAt_kept | apply State.setFi_kept | apply State.addWrap_kept | apply ite_kept | fail_if_no_progress (apply upd_kept))) | split | (dsimp only; split))

theorem State.setThrottle_kept {s0 : State} (s : State) (t : Option ℤ) (hs : Kept s0 s) : Kept s0 (State.setThrottle s t) := by
  unfold State.setThrottle
  repeat' (first | (with_reducible (first | assumption | apply State.setF_kept | apply State.errLog_kept | apply ite_kept | fail_if_no_progress (apply upd_kept))) | split | (dsimp only; split))

theorem State.hkCompare_kept {s0 : State} (s : State) (hs : Kept s0 s) : Kept s0 (State.hkCompare s) := by
  unfold State.hkCompare
  repeat' (first | (with_reducible (first | assumption | apply State.setHk_kept | apply State.errLog_kept | apply State.raiseBlk_kept | apply State.incSat_kept | apply State.setB_kept | apply State.setThrottle_kept | apply ite_kept | fail_if_no_progress (apply upd_kept))) | split | (dsimp only; split))

theorem State.hkSeqEnd_kept {s0 : State} (s : State) (hs : Kept s0 s) : Kept s0 (State.hkSeqEnd s) := by
  unfold State.hkSeqEnd
  repeat' (first | (with_reducible (first | assumption | apply State.setThrottle_kept | apply State.setF_kept | apply State.setFi_kept | apply ite_kept | fail_if_no_progress (apply upd_kept))) | split | (dsimp only; split))

theorem State.hkInjected_kept {s0 : State} (s : State) (x : ℕ) (code : ℕ) (hs : Kept s0 s) : Kept s0 (State.hkInjected s x code) := by
  unfold State.hkInjected
  repeat' (first | (with_reducible (first | assumption | apply State.hkBuffer_kept | apply State.setHk_kept | apply State.addWrap_kept | apply State.setF_kept | apply State.setFi_kept | fail_if_no_progress (apply upd_kept))) | split | (dsimp only; split))

theorem State.hkRegular_kept {s0 : State} (s : State) (x : ℕ) (code : ℕ) (hs : Kept s0 s) : Kept s0 (State.hkRegular s x code) := by
  unfold State.hkRegular
  repeat' (first | (with_reducible (first | assumption | apply State.hkBuffer_kept | apply State.setHk_kept | apply State.hkCompare_kept | apply State.hkSeqEnd_kept | apply ite_fst_kept | apply ite_kept | fail_if_no_progress (apply upd_kept))) | split | (dsimp only; split))

theorem hkConversion_kept {s0 : State} (x : ℕ) (code : ℕ) (s : State) (hs : Kept s0 s) : Kept s0 (hkConversion x code s) := by
  unfold hkConversion
  repeat' (first | (with_reducible (first | assumption | apply State.hkInjected_kept | apply State.hkRegular_kept | apply ite_kept | fail_if_no_progress (apply upd_kept))) | split | (dsimp only; split))

theorem execHkConversion_kept {s0 : State} (x : Fin 2) (code : BitVec 12) (s : State) (hs : Kept s0 s) : OutKept s0 (execHkConversion x code s) := by
  unfold execHkConversion
  repeat' (first | (with_reducible (first | assumption | intro _ | apply OutKept.next | apply State.whileRunning_kept | apply hkConversion_kept | fail_if_no_progress (apply upd_kept))) | split | (dsimp only; split))

theorem hkInjWritten_kept {s0 : State} (x : ℕ) (v : ℕ) (s : State) (hs : Kept s0 s) : Kept s0 (hkInjWritten x v s) := by
  unfold hkInjWritten
  repeat' (first | (with_reducible (first | assumption | apply State.setB_kept | apply State.setHk_kept | apply ite_kept | fail_if_no_progress (apply upd_kept))) | split | (dsimp only; split))

theorem hkCalRequest_kept {s0 : State} (x : ℕ) (s : State) (hs : Kept s0 s) : Kept s0 (hkCalRequest x s) := by
  unfold hkCalRequest
  repeat' (first | (with_reducible (first | assumption | apply State.setB_kept | apply State.setHk_kept | apply ite_kept | fail_if_no_progress (apply upd_kept))) | split | (dsimp only; split))

theorem execHkCalRequest_kept {s0 : State} (x : Fin 2) (s : State) (hs : Kept s0 s) : OutKept s0 (execHkCalRequest x s) := by
  unfold execHkCalRequest
  repeat' (first | (with_reducible (first | assumption | intro _ | apply OutKept.next | apply State.whileRunning_kept | apply hkCalRequest_kept | fail_if_no_progress (apply upd_kept))) | split | (dsimp only; split))

theorem hkCalDone_kept {s0 : State} (x : ℕ) (z1 : ℕ) (r1 : ℕ) (z2 : ℕ) (r2 : ℕ) (s : State) (hs : Kept s0 s) : Kept s0 (hkCalDone x z1 r1 z2 r2 s) := by
  unfold hkCalDone
  repeat' (first | (with_reducible (first | assumption | apply State.setB_kept | apply State.setHk_kept | apply State.setPtimeAt_kept | apply State.incSat_kept | apply ite_kept | fail_if_no_progress (apply upd_kept))) | split | (dsimp only; split))

theorem execHkCalDone_kept {s0 : State} (x : Fin 2) (z1 : Fin 16384) (r1 : Fin 16384) (z2 : Fin 16384) (r2 : Fin 16384) (s : State) (hs : Kept s0 s) : OutKept s0 (execHkCalDone x z1 r1 z2 r2 s) := by
  unfold execHkCalDone
  repeat' (first | (with_reducible (first | assumption | intro _ | apply OutKept.next | apply State.whileRunning_kept | apply hkCalDone_kept | fail_if_no_progress (apply upd_kept))) | split | (dsimp only; split))

end Sys2Proof.Machine
end

