-- ==== Sys2Proof/Laws/KeptCoach.lean ====
section
/-!
SUPPORT. Every function of Machine/Coach.lean that answers a state keeps what `Kept` names.
-/
set_option linter.all false
namespace Sys2Proof.Machine

theorem State.setCo_kept {s0 : State} (s : State) (c : ℕ) (x : CoSt) (hs : Kept s0 s) : Kept s0 (State.setCo s c x) := by
  unfold State.setCo
  repeat' (first | (with_reducible (first | assumption | fail_if_no_progress (apply upd_kept))) | split | (dsimp only; split))

theorem State.setCe_kept {s0 : State} (s : State) (c : ℕ) (st : ℕ) (hs : Kept s0 s) : Kept s0 (State.setCe s c st) := by
  unfold State.setCe
  repeat' (first | (with_reducible (first | assumption | apply State.setB_kept | apply State.setF_kept | fail_if_no_progress (apply upd_kept))) | split | (dsimp only; split))

theorem State.ceHalt_kept {s0 : State} (s : State) (c : ℕ) (cause : ℕ) (hs : Kept s0 s) : Kept s0 (State.ceHalt s c cause) := by
  unfold State.ceHalt
  repeat' (first | (with_reducible (first | assumption | apply State.setCo_kept | apply State.raiseBlk_kept | apply State.setF_kept | apply State.setCe_kept | apply State.errLog_kept | fail_if_no_progress (apply upd_kept))) | split | (dsimp only; split))

theorem State.ceHaltAt_kept {s0 : State} (s : State) (c : ℕ) (cause : ℕ) (idx : ℕ) (hs : Kept s0 s) : Kept s0 (State.ceHaltAt s c cause idx) := by
  unfold State.ceHaltAt
  repeat' (first | (with_reducible (first | assumption | apply State.ceHalt_kept | apply State.setF_kept | fail_if_no_progress (apply upd_kept))) | split | (dsimp only; split))

theorem State.ceBoundary_kept {s0 : State} (s : State) (c : ℕ) (hs : Kept s0 s) : Kept s0 (State.ceBoundary s c) := by
  unfold State.ceBoundary
  repeat' (first | (with_reducible (first | assumption | apply State.setCe_kept | apply State.setCo_kept | apply ite_kept | fail_if_no_progress (apply upd_kept))) | split | (dsimp only; split))

theorem State.writeBack_kept {s0 : State} (s : State) (c : ℕ) (d : CoDesc) (status : ℕ) (hs : Kept s0 s) : Kept s0 (State.writeBack s c d status) := by
  unfold State.writeBack
  repeat' (first | (with_reducible (first | assumption | apply State.emit_kept | apply State.incSat_kept | apply State.setB_kept | apply State.raiseBlk_kept | apply ite_kept | fail_if_no_progress (apply upd_kept))) | split | (dsimp only; split))

theorem State.ceClose_kept {s0 : State} (s : State) (c : ℕ) (status : ℕ) (hs : Kept s0 s) : Kept s0 (State.ceClose s c status) := by
  unfold State.ceClose
  repeat' (first | (with_reducible (first | assumption | apply State.setCo_kept | apply State.writeBack_kept | apply State.setF_kept | apply State.drainFree_kept | apply State.ceBoundary_kept | apply ite_kept | fail_if_no_progress (apply upd_kept))) | split | (dsimp only; split))

theorem State.ceDone_kept {s0 : State} (s : State) (c : ℕ) (hs : Kept s0 s) : Kept s0 (State.ceDone s c) := by
  unfold State.ceDone
  repeat' (first | (with_reducible (first | assumption | apply State.setCo_kept | apply State.ceClose_kept | apply ite_kept | fail_if_no_progress (apply upd_kept))) | split | (dsimp only; split))

theorem State.ceDisableEnd_kept {s0 : State} (s : State) (c : ℕ) (hs : Kept s0 s) : Kept s0 (State.ceDisableEnd s c) := by
  unfold State.ceDisableEnd
  repeat' (first | (with_reducible (first | assumption | apply State.setCe_kept | apply State.setCo_kept | apply ite_kept | fail_if_no_progress (apply upd_kept))) | split | (dsimp only; split))

theorem State.ceTake_kept {s0 : State} (s : State) (c : ℕ) (bs : List (BitVec 8)) (hs : Kept s0 s) : Kept s0 (State.ceTake s c bs) := by
  unfold State.ceTake
  repeat' (first | (with_reducible (first | assumption | apply State.setF_kept | apply State.ceDisableEnd_kept | apply State.setCo_kept | apply State.writeBack_kept | apply State.setB_kept | apply State.incSat_kept | apply State.setCe_kept | apply State.ceHalt_kept | apply State.ceHaltAt_kept | apply State.ceBoundary_kept | apply ite_kept | fail_if_no_progress (apply upd_kept))) | split | (dsimp only; split))

theorem descriptorProcess_kept {s0 : State} (c : ℕ) (desc : HostRead) (s : State) (hs : Kept s0 s) : Kept s0 (descriptorProcess c desc s) := by
  unfold descriptorProcess
  repeat' (first | (with_reducible (first | assumption | apply State.ceTake_kept | apply State.ceDisableEnd_kept | apply State.setF_kept | apply State.ceHaltAt_kept | apply ite_kept | fail_if_no_progress (apply upd_kept))) | split | (dsimp only; split))

theorem execDescriptorProcess_kept {s0 : State} (c : Fin 64) (desc : HostRead) (s : State) (hs : Kept s0 s) : OutKept s0 (execDescriptorProcess c desc s) := by
  unfold execDescriptorProcess
  repeat' (first | (with_reducible (first | assumption | intro _ | apply OutKept.next | apply descriptorProcess_kept | fail_if_no_progress (apply upd_kept))) | split | (dsimp only; split))

theorem State.ceMoved_kept {s0 : State} (s : State) (c : ℕ) (d : CoDesc) (n : ℕ) (hs : Kept s0 s) : Kept s0 (State.ceMoved s c d n) := by
  unfold State.ceMoved
  repeat' (first | (with_reducible (first | assumption | apply State.addSat_kept | apply State.setCo_kept | apply State.ceDone_kept | apply ite_kept | fail_if_no_progress (apply upd_kept))) | split | (dsimp only; split))

theorem State.burstMemIn_kept {s0 : State} (s : State) (c : ℕ) (d : CoDesc) (bs : List (BitVec 8)) (hs : Kept s0 s) : Kept s0 (State.burstMemIn s c d bs) := by
  unfold State.burstMemIn
  repeat' (first | (with_reducible (first | assumption | apply State.mcWrite_kept | apply State.ceMoved_kept | apply State.ceClose_kept | apply ite_fst_kept | apply ite_kept | fail_if_no_progress (apply upd_kept))) | split | (dsimp only; split))

theorem State.burstMemOut_kept {s0 : State} (s : State) (c : ℕ) (d : CoDesc) (errs : List SecErr) (hs : Kept s0 s) : Kept s0 (State.burstMemOut s c d errs) := by
  unfold State.burstMemOut
  repeat' (first | (with_reducible (first | assumption | apply State.mcRead_kept | apply State.ceMoved_kept | apply State.emit_kept | apply State.ceClose_kept | apply ite_res_kept | apply ite_kept | fail_if_no_progress (apply upd_kept))) | split | (dsimp only; split))

theorem State.burstSqOut_kept {s0 : State} (s : State) (c : ℕ) (d : CoDesc) (parity : Bool) (hs : Kept s0 s) : Kept s0 (State.burstSqOut s c d parity) := by
  unfold State.burstSqOut
  repeat' (first | (with_reducible (first | assumption | apply State.setB_kept | apply State.incSat_kept | apply State.sqTake_kept | apply State.emit_kept | apply State.ceMoved_kept | apply State.ceDone_kept | apply ite_kept | fail_if_no_progress (apply upd_kept))) | split | (dsimp only; split))

theorem State.burstSqIn_kept {s0 : State} (s : State) (c : ℕ) (d : CoDesc) (bs : List (BitVec 8)) (hs : Kept s0 s) : Kept s0 (State.burstSqIn s c d bs) := by
  unfold State.burstSqIn
  repeat' (first | (with_reducible (first | assumption | intro _ | apply State.addSat_kept | apply State.setCo_kept | apply State.ceBoundary_kept | apply State.setF_kept | apply State.writeBack_kept | apply State.ceClose_kept | apply ite_kept | apply foldl_kept | fail_if_no_progress (apply upd_kept))) | split | (dsimp only; split))

theorem State.burstAcqOut_kept {s0 : State} (s : State) (c : ℕ) (d : CoDesc) (errs : List SecErr) (hs : Kept s0 s) : Kept s0 (State.burstAcqOut s c d errs) := by
  unfold State.burstAcqOut
  repeat' (first | (with_reducible (first | assumption | apply State.mcRead_kept | apply State.ceClose_kept | apply State.drainAdvance_kept | apply State.emit_kept | apply State.ceMoved_kept | apply State.ceDone_kept | apply ite_res_kept | apply ite_kept | fail_if_no_progress (apply upd_kept))) | split | (dsimp only; split))

theorem State.burstHkOut_kept {s0 : State} (s : State) (c : ℕ) (d : CoDesc) (hs : Kept s0 s) : Kept s0 (State.burstHkOut s c d) := by
  unfold State.burstHkOut
  repeat' (first | (with_reducible (first | assumption | apply State.addSat_kept | apply State.setCo_kept | apply State.ceMoved_kept | apply State.emit_kept | apply ite_kept | fail_if_no_progress (apply upd_kept))) | split | (dsimp only; split))

theorem State.ceBurst_kept {s0 : State} (s : State) (c : ℕ) (data : HostRead) (errs : List SecErr) (parity : Bool) (hs : Kept s0 s) : Kept s0 (State.ceBurst s c data errs parity) := by
  unfold State.ceBurst
  repeat' (first | (with_reducible (first | assumption | apply State.ceHaltAt_kept | apply State.burstMemIn_kept | apply State.burstSqIn_kept | apply State.burstMemOut_kept | apply State.burstSqOut_kept | apply State.burstAcqOut_kept | apply State.burstHkOut_kept | apply ite_kept | fail_if_no_progress (apply upd_kept))) | split | (dsimp only; split))

theorem coachBurstGrant_kept {s0 : State} (data : HostRead) (errs : List SecErr) (parity : Bool) (s0_ : State) (hs0_ : Kept s0 s0_) : Kept s0 (coachBurstGrant data errs parity s0_) := by
  unfold coachBurstGrant
  repeat' (first | (with_reducible (first | assumption | apply State.memWake_kept | apply State.ceBurst_kept | apply ite_kept | fail_if_no_progress (apply upd_kept))) | split | (dsimp only; split))

theorem execCoachBurstGrant_kept {s0 : State} (data : HostRead) (errs : List SecErr) (parity : Bool) (s : State) (hs : Kept s0 s) : OutKept s0 (execCoachBurstGrant data errs parity s) := by
  unfold execCoachBurstGrant
  repeat' (first | (with_reducible (first | assumption | intro _ | apply OutKept.next | apply coachBurstGrant_kept | fail_if_no_progress (apply upd_kept))) | split | (dsimp only; split))

theorem readBackReturn_kept {s0 : State} (c : ℕ) (ok : Bool) (s : State) (hs : Kept s0 s) : Kept s0 (readBackReturn c ok s) := by
  unfold readBackReturn
  repeat' (first | (with_reducible (first | assumption | apply State.ceClose_kept | apply State.ceHaltAt_kept | apply ite_kept | fail_if_no_progress (apply upd_kept))) | split | (dsimp only; split))

theorem execReadBackReturn_kept {s0 : State} (c : Fin 64) (ok : Bool) (s : State) (hs : Kept s0 s) : OutKept s0 (execReadBackReturn c ok s) := by
  unfold execReadBackReturn
  repeat' (first | (with_reducible (first | assumption | intro _ | apply OutKept.next | apply readBackReturn_kept | fail_if_no_progress (apply upd_kept))) | split | (dsimp only; split))

theorem descriptorCloseTimeout_kept {s0 : State} (c : ℕ) (s : State) (hs : Kept s0 s) : Kept s0 (descriptorCloseTimeout c s) := by
  unfold descriptorCloseTimeout
  repeat' (first | (with_reducible (first | assumption | apply State.ceDone_kept | apply State.setCo_kept | apply ite_kept | fail_if_no_progress (apply upd_kept))) | split | (dsimp only; split))

theorem execDescriptorCloseTimeout_kept {s0 : State} (c : Fin 64) (s : State) (hs : Kept s0 s) : OutKept s0 (execDescriptorCloseTimeout c s) := by
  unfold execDescriptorCloseTimeout
  repeat' (first | (with_reducible (first | assumption | intro _ | apply OutKept.next | apply descriptorCloseTimeout_kept | fail_if_no_progress (apply upd_kept))) | split | (dsimp only; split))

theorem sqInPacketEnter_kept {s0 : State} (c : ℕ) (s : State) (hs : Kept s0 s) : Kept s0 (sqInPacketEnter c s) := by
  unfold sqInPacketEnter
  repeat' (first | (with_reducible (first | assumption | intro _ | apply State.sqPut_kept | apply State.sqWrite_kept | apply State.writeBack_kept | apply State.ceClose_kept | apply State.setCo_kept | apply ite_fst_kept | apply foldl_fst_kept | apply ite_kept | apply foldl_kept | fail_if_no_progress (apply upd_kept))) | split | (dsimp only; split))

theorem execSqInPacketEnter_kept {s0 : State} (c : Fin 64) (s : State) (hs : Kept s0 s) : OutKept s0 (execSqInPacketEnter c s) := by
  unfold execSqInPacketEnter
  repeat' (first | (with_reducible (first | assumption | intro _ | apply OutKept.next | apply sqInPacketEnter_kept | fail_if_no_progress (apply upd_kept))) | split | (dsimp only; split))

theorem coachDoorbell_kept {s0 : State} (pf : ℕ) (c : ℕ) (v : ℕ) (s : State) (hs : Kept s0 s) : Kept s0 (coachDoorbell pf c v s) := by
  unfold coachDoorbell
  repeat' (first | (with_reducible (first | assumption | apply State.logRefused_kept | apply State.setB_kept | apply State.setF_kept | apply State.setCe_kept | apply ite_kept | fail_if_no_progress (apply upd_kept))) | split | (dsimp only; split))

theorem execCoachDoorbell_kept {s0 : State} (pf : Fin 2) (c : Fin 64) (v : BitVec 32) (s : State) (hs : Kept s0 s) : OutKept s0 (execCoachDoorbell pf c v s) := by
  unfold execCoachDoorbell
  repeat' (first | (with_reducible (first | assumption | intro _ | apply OutKept.next | apply coachDoorbell_kept | fail_if_no_progress (apply upd_kept))) | split | (dsimp only; split))

theorem State.ceEnable_kept {s0 : State} (s : State) (c : ℕ) (hs : Kept s0 s) : Kept s0 (State.ceEnable s c) := by
  unfold State.ceEnable
  repeat' (first | (with_reducible (first | assumption | apply State.setF_kept | apply State.setB_kept | apply State.setCo_kept | apply State.setCe_kept | apply ite_kept | fail_if_no_progress (apply upd_kept))) | split | (dsimp only; split))

theorem State.ceDisable_kept {s0 : State} (s : State) (c : ℕ) (hs : Kept s0 s) : Kept s0 (State.ceDisable s c) := by
  unfold State.ceDisable
  repeat' (first | (with_reducible (first | assumption | intro _ | apply State.writeBack_kept | apply State.setF_kept | apply State.ceDisableEnd_kept | apply State.setCe_kept | apply State.setCo_kept | apply foldl_kept | fail_if_no_progress (apply upd_kept))) | split | (dsimp only; split))

theorem State.ceReset_kept {s0 : State} (s : State) (c : ℕ) (hs : Kept s0 s) : Kept s0 (State.ceReset s c) := by
  unfold State.ceReset
  repeat' (first | (with_reducible (first | assumption | apply State.setB_kept | apply State.fencePulse_kept | apply State.setF_kept | apply State.sqTake_kept | apply State.addSat_kept | apply State.setAcq_kept | apply State.setCe_kept | apply State.setCo_kept | apply ite_kept | fail_if_no_progress (apply upd_kept))) | split | (dsimp only; split))

theorem ceCtrlWritten_kept {s0 : State} (c : ℕ) (old : ℕ) (v : ℕ) (s : State) (hs : Kept s0 s) : Kept s0 (ceCtrlWritten c old v s) := by
  unfold ceCtrlWritten
  repeat' (first | (with_reducible (first | assumption | apply State.setB_kept | apply State.ceEnable_kept | apply State.ceDisable_kept | apply State.ceReset_kept | apply State.setCe_kept | apply State.setCo_kept | apply ite_kept | fail_if_no_progress (apply upd_kept))) | split | (dsimp only; split))

theorem State.sqFence_kept {s0 : State} (s : State) (q : ℕ) (hs : Kept s0 s) : Kept s0 (State.sqFence s q) := by
  unfold State.sqFence
  repeat' (first | (with_reducible (first | assumption | intro _ | apply State.ceClose_kept | apply State.sqClear_kept | apply ite_kept | apply foldl_kept | fail_if_no_progress (apply upd_kept))) | split | (dsimp only; split))

theorem State.cePcieReset_kept {s0 : State} (s : State) (c : ℕ) (hs : Kept s0 s) : Kept s0 (State.cePcieReset s c) := by
  unfold State.cePcieReset
  repeat' (first | (with_reducible (first | assumption | apply State.ceDisable_kept | apply State.setB_kept | apply State.fencePulse_kept | apply ite_kept | fail_if_no_progress (apply upd_kept))) | split | (dsimp only; split))

end Sys2Proof.Machine
end

