-- ==== Sys2Proof/Laws/KeptEthernet.lean ====
section
/-!
SUPPORT. Every function of Machine/Ethernet.lean that answers a state keeps what `Kept` names.
-/
set_option linter.all false
namespace Sys2Proof.Machine

theorem State.setEth_kept {s0 : State} (s : State) (p : ℕ) (x : EthSt) (hs : Kept s0 s) : Kept s0 (State.setEth s p x) := by
  unfold State.setEth
  repeat' (first | (with_reducible (first | assumption | fail_if_no_progress (apply upd_kept))) | split | (dsimp only; split))

theorem State.ethSync_kept {s0 : State} (s : State) (p : ℕ) (hs : Kept s0 s) : Kept s0 (State.ethSync s p) := by
  unfold State.ethSync
  repeat' (first | (with_reducible (first | assumption | apply State.setB_kept | apply State.setF_kept | apply ite_kept | fail_if_no_progress (apply upd_kept))) | split | (dsimp only; split))

theorem State.ethSyncAll_kept {s0 : State} (s : State) (hs : Kept s0 s) : Kept s0 (State.ethSyncAll s) := by
  unfold State.ethSyncAll
  repeat' (first | (with_reducible (first | assumption | intro _ | apply State.ethSync_kept | apply foldl_kept | fail_if_no_progress (apply upd_kept))) | split | (dsimp only; split))

theorem ethLinkChange_kept {s0 : State} (p : ℕ) (line : Bool) (an : Bool) (s : State) (hs : Kept s0 s) : Kept s0 (ethLinkChange p line an s) := by
  unfold ethLinkChange
  repeat' (first | (with_reducible (first | assumption | apply State.ethSync_kept | apply State.setB_kept | apply State.setF_kept | apply ite_kept | fail_if_no_progress (apply upd_kept))) | split | (dsimp only; split))

theorem execEthLinkChange_kept {s0 : State} (p : Fin 16) (line : Bool) (an : Bool) (s : State) (hs : Kept s0 s) : OutKept s0 (execEthLinkChange p line an s) := by
  unfold execEthLinkChange
  repeat' (first | (with_reducible (first | assumption | intro _ | apply OutKept.next | apply ethLinkChange_kept | fail_if_no_progress (apply upd_kept))) | split | (dsimp only; split))

theorem State.rxRecord_kept {s0 : State} (s : State) (p : ℕ) (q : ℕ) (prod : ℕ) (pt : ℕ) (fr : List (BitVec 8)) (hs : Kept s0 s) : Kept s0 (State.rxRecord s p q prod pt fr) := by
  unfold State.rxRecord
  repeat' (first | (with_reducible (first | assumption | apply State.sqRecord_kept | apply State.next_kept | fail_if_no_progress (apply upd_kept))) | split | (dsimp only; split))

theorem State.ethRx_kept {s0 : State} (s0_ : State) (p : ℕ) (all : List (BitVec 8)) (uncorr : Bool) (arr : ℕ) (hs0_ : Kept s0 s0_) : Kept s0 (State.ethRx s0_ p all uncorr arr) := by
  unfold State.ethRx
  repeat' (first | (with_reducible (first | assumption | apply State.incSat_kept | apply State.rxRecord_kept | apply State.setB_kept | apply State.setEth_kept | apply ite_kept | fail_if_no_progress (apply upd_kept))) | split | (dsimp only; split))

theorem execPtpRx_kept {s0 : State} (p : Fin 16) (frame : List (BitVec 8)) (uncorr : Bool) (arr : BitVec 128) (s : State) (hs : Kept s0 s) : OutKept s0 (execPtpRx p frame uncorr arr s) := by
  unfold execPtpRx
  repeat' (first | (with_reducible (first | assumption | intro _ | apply OutKept.next | apply State.ethRx_kept | fail_if_no_progress (apply upd_kept))) | split | (dsimp only; split))

theorem execEthRxFrame_kept {s0 : State} (p : Fin 16) (frame : List (BitVec 8)) (uncorr : Bool) (arr : BitVec 128) (s : State) (hs : Kept s0 s) : OutKept s0 (execEthRxFrame p frame uncorr arr s) := by
  unfold execEthRxFrame
  repeat' (first | (with_reducible (first | assumption | intro _ | apply OutKept.next | apply State.ethRx_kept | fail_if_no_progress (apply upd_kept))) | split | (dsimp only; split))

theorem State.sqPop_kept {s0 : State} (s : State) (q : ℕ) (hs : Kept s0 s) : Kept s0 (State.sqPop s q) := by
  unfold State.sqPop
  repeat' (first | (with_reducible (first | assumption | apply State.sqTake_kept | apply State.setSq_kept | fail_if_no_progress (apply upd_kept))) | split | (dsimp only; split))

theorem State.ethSend_kept {s0 : State} (s : State) (p : ℕ) (pt : ℕ) (fr : List (BitVec 8)) (good : Bool) (hs : Kept s0 s) : Kept s0 (State.ethSend s p pt fr good) := by
  unfold State.ethSend
  repeat' (first | (with_reducible (first | assumption | apply State.setEth_kept | apply State.emit_kept | apply State.addSat_kept | apply State.incSat_kept | apply ite_kept | fail_if_no_progress (apply upd_kept))) | split | (dsimp only; split))

theorem State.ethParts_kept {s0 : State} (s : State) (p q : ℕ) (bad : Option ℕ) (l : List (ℕ × List (BitVec 8))) (hs : Kept s0 s) : Kept s0 (s.ethParts p q bad l) := by
  induction l generalizing s with
  | nil => exact hs
  | cons x xs ih =>
    unfold State.ethParts
    repeat' (first | (with_reducible (first | assumption | apply ih | apply State.ethSend_kept | apply State.setSq_kept | apply ite_kept | fail_if_no_progress (apply upd_kept))) | split | (dsimp only; split))

theorem State.ethHostFrame_kept {s0 : State} (s : State) (p : ℕ) (k : SqPkt) (bad : Bool) (first : ℕ) (tx : ℕ) (late : ℕ) (hs : Kept s0 s) : Kept s0 (State.ethHostFrame s p k bad first tx late) := by
  unfold State.ethHostFrame
  repeat' (first | (with_reducible (first | assumption | apply State.incSat_kept | apply State.ethSend_kept | apply State.txtsPush_kept | apply ite_kept | fail_if_no_progress (apply upd_kept))) | split | (dsimp only; split))

theorem State.ethPacket_kept {s0 : State} (s : State) (p : ℕ) (q : ℕ) (k : SqPkt) (bad : Option ℕ) (tx : ℕ) (late : ℕ) (hs : Kept s0 s) : Kept s0 (State.ethPacket s p q k bad tx late) := by
  unfold State.ethPacket
  repeat' (first | (with_reducible (first | assumption | apply State.incSat_kept | apply State.setB_kept | apply State.ethHostFrame_kept | apply State.ethParts_kept | apply State.setSq_kept | apply ite_fst_kept | apply ite_kept | fail_if_no_progress (apply upd_kept))) | split | (dsimp only; split))

theorem ethEgress_kept {s0 : State} (p : ℕ) (bad : Option ℕ) (tx : ℕ) (s : State) (hs : Kept s0 s) : Kept s0 (ethEgress p bad tx s) := by
  unfold ethEgress
  repeat' (first | (with_reducible (first | assumption | apply State.sqPop_kept | apply State.ethPacket_kept | apply State.setEth_kept | apply ite_kept | fail_if_no_progress (apply upd_kept))) | split | (dsimp only; split))

theorem execEthEgress_kept {s0 : State} (p : Fin 16) (bad : Option (Fin 256)) (tx : BitVec 128) (s : State) (hs : Kept s0 s) : OutKept s0 (execEthEgress p bad tx s) := by
  unfold execEthEgress
  repeat' (first | (with_reducible (first | assumption | intro _ | apply OutKept.next | apply ethEgress_kept | fail_if_no_progress (apply upd_kept))) | split | (dsimp only; split))

theorem State.timedLate_kept {s0 : State} (s : State) (q : ℕ) (b : Tcb) (hs : Kept s0 s) : Kept s0 (State.timedLate s q b) := by
  unfold State.timedLate
  repeat' (first | (with_reducible (first | assumption | apply State.incSat_kept | apply State.setSq_kept | apply State.sqPop_kept | apply State.txtsPush_kept | apply State.next_kept | apply ite_kept | fail_if_no_progress (apply upd_kept))) | split | (dsimp only; split))

theorem State.judgeTimed_kept {s0 : State} (s : State) (q : ℕ) (hs : Kept s0 s) : Kept s0 (State.judgeTimed s q) := by
  unfold State.judgeTimed
  repeat' (first | (with_reducible (first | assumption | apply State.timedLate_kept | apply State.setSq_kept | apply ite_kept | fail_if_no_progress (apply upd_kept))) | split | (dsimp only; split))

theorem State.endPause_kept {s0 : State} (s : State) (p : ℕ) (hs : Kept s0 s) : Kept s0 (State.endPause s p) := by
  unfold State.endPause
  repeat' (first | (with_reducible (first | assumption | apply State.setB_kept | apply ite_kept | fail_if_no_progress (apply upd_kept))) | split | (dsimp only; split))

theorem State.ethTick_kept {s0 : State} (s : State) (hs : Kept s0 s) : Kept s0 (State.ethTick s) := by
  unfold State.ethTick
  repeat' (first | (with_reducible (first | assumption | intro _ | apply State.judgeTimed_kept | apply State.endPause_kept | apply foldl_kept | fail_if_no_progress (apply upd_kept))) | split | (dsimp only; split))

theorem timedLaunch_kept {s0 : State} (q : ℕ) (dev : ℤ) (tx : ℕ) (s : State) (hs : Kept s0 s) : Kept s0 (timedLaunch q dev tx s) := by
  unfold timedLaunch
  repeat' (first | (with_reducible (first | assumption | apply State.sqPop_kept | apply State.ethHostFrame_kept | apply ite_kept | fail_if_no_progress (apply upd_kept))) | split | (dsimp only; split))

theorem execTimedLaunch_kept {s0 : State} (q : Fin 32) (dev : Fin 524289) (tx : BitVec 128) (s : State) (hs : Kept s0 s) : OutKept s0 (execTimedLaunch q dev tx s) := by
  unfold execTimedLaunch
  repeat' (first | (with_reducible (first | assumption | intro _ | apply OutKept.next | apply timedLaunch_kept | fail_if_no_progress (apply upd_kept))) | split | (dsimp only; split))

theorem contextPacket_kept {s0 : State} (q : ℕ) (s : State) (hs : Kept s0 s) : Kept s0 (contextPacket q s) := by
  unfold contextPacket
  repeat' (first | (with_reducible (first | assumption | apply State.ethParts_kept | apply State.setSq_kept | apply State.next_kept | apply ite_fst_kept | apply ite_kept | fail_if_no_progress (apply upd_kept))) | split | (dsimp only; split))

theorem execContextPacket_kept {s0 : State} (q : Fin 32) (s : State) (hs : Kept s0 s) : OutKept s0 (execContextPacket q s) := by
  unfold execContextPacket
  repeat' (first | (with_reducible (first | assumption | intro _ | apply OutKept.next | apply contextPacket_kept | fail_if_no_progress (apply upd_kept))) | split | (dsimp only; split))

theorem State.flushStamps_kept {s0 : State} (s : State) (q : ℕ) (l : List SqPkt) (hs : Kept s0 s) : Kept s0 (s.flushStamps q l) := by
  induction l generalizing s with
  | nil => exact hs
  | cons x xs ih =>
    unfold State.flushStamps
    repeat' (first | (with_reducible (first | assumption | apply ih | apply State.txtsPush_kept | apply State.next_kept | apply ite_kept | fail_if_no_progress (apply upd_kept))) | split | (dsimp only; split))

theorem execFlushAct_kept {s0 : State} (q : Fin 32) (s : State) (hs : Kept s0 s) : OutKept s0 (execFlushAct q s) := by
  unfold execFlushAct
  repeat' (first | (with_reducible (first | assumption | intro _ | apply OutKept.next | apply flushAct_kept | apply State.flushStamps_kept | apply State.setSq_kept | apply ite_out_kept | apply ite_kept | fail_if_no_progress (apply upd_kept))) | split | (dsimp only; split))

end Sys2Proof.Machine
end

