-- ==== Sys2Proof/Laws/KeptRaster.lean ====
section
/-!
SUPPORT. Every function of Machine/Raster.lean that answers a state keeps what `Kept` names.
-/
set_option linter.all false
namespace Sys2Proof.Machine

theorem State.rsTake_kept {s0 : State} (s : State) (t : ℕ × Bool) (hs : Kept s0 s) : Kept s0 (State.rsTake s t) := by
  unfold State.rsTake
  repeat' (first | (with_reducible (first | assumption | apply State.setWordsAt_kept | apply State.setF_kept | apply State.setWord_kept | apply ite_kept | fail_if_no_progress (apply upd_kept))) | split | (dsimp only; split))

theorem State.rsTrainStart_kept {s0 : State} (s : State) (resume : RsPhase) (hs : Kept s0 s) : Kept s0 (State.rsTrainStart s resume) := by
  unfold State.rsTrainStart
  repeat' (first | (with_reducible (first | assumption | apply State.setB_kept | fail_if_no_progress (apply upd_kept))) | split | (dsimp only; split))

theorem State.rsPorch_kept {s0 : State} (s : State) (hs : Kept s0 s) : Kept s0 (State.rsPorch s) := by
  unfold State.rsPorch
  repeat' (first | (with_reducible (first | assumption | apply State.setB_kept | fail_if_no_progress (apply upd_kept))) | split | (dsimp only; split))

theorem rsTrain_kept {s0 : State} (ok : Bool) (s : State) (hs : Kept s0 s) : Kept s0 (rsTrain ok s) := by
  unfold rsTrain
  repeat' (first | (with_reducible (first | assumption | apply State.setF_kept | apply State.setB_kept | apply State.rsPorch_kept | apply ite_kept | fail_if_no_progress (apply upd_kept))) | split | (dsimp only; split))

theorem execRsTrain_kept {s0 : State} (ok : Bool) (s : State) (hs : Kept s0 s) : OutKept s0 (execRsTrain ok s) := by
  unfold execRsTrain
  repeat' (first | (with_reducible (first | assumption | intro _ | apply OutKept.next | apply rsTrain_kept | fail_if_no_progress (apply upd_kept))) | split | (dsimp only; split))

theorem hpdChange_kept {s0 : State} (plugged : Bool) (irq : Bool) (s : State) (hs : Kept s0 s) : Kept s0 (hpdChange plugged irq s) := by
  unfold hpdChange
  repeat' (first | (with_reducible (first | assumption | apply State.setB_kept | apply State.raiseBlk_kept | apply ite_kept | fail_if_no_progress (apply upd_kept))) | split | (dsimp only; split))

theorem execHpdChange_kept {s0 : State} (plugged : Bool) (irq : Bool) (s : State) (hs : Kept s0 s) : OutKept s0 (execHpdChange plugged irq s) := by
  unfold execHpdChange
  repeat' (first | (with_reducible (first | assumption | intro _ | apply OutKept.next | apply hpdChange_kept | fail_if_no_progress (apply upd_kept))) | split | (dsimp only; split))

theorem State.auxDone_kept {s0 : State} (s : State) (reply : Option (List (BitVec 8))) (hs : Kept s0 s) : Kept s0 (State.auxDone s reply) := by
  unfold State.auxDone
  repeat' (first | (with_reducible (first | assumption | apply State.setB_kept | apply State.setF_kept | apply State.setWordsAt_kept | apply ite_kept | fail_if_no_progress (apply upd_kept))) | split | (dsimp only; split))

theorem State.regionLate_kept {s0 : State} (s : State) (r : ℕ) (hs : Kept s0 s) : Kept s0 (State.regionLate s r) := by
  unfold State.regionLate
  repeat' (first | (with_reducible (first | assumption | apply State.setB_kept | apply State.incSat_kept | fail_if_no_progress (apply upd_kept))) | split | (dsimp only; split))

theorem State.mapCell_kept {s0 : State} (s : State) (m : MapRec) (cell : ℕ) (hs : Kept s0 s) : Kept s0 (State.mapCell s m cell) := by
  unfold State.mapCell
  repeat' (first | (with_reducible (first | assumption | intro _ | apply State.putBytes_kept | apply ite_kept | apply foldl_kept | fail_if_no_progress (apply upd_kept))) | split | (dsimp only; split))

theorem State.mapAdvance_kept {s0 : State} (s : State) (hs : Kept s0 s) : Kept s0 (State.mapAdvance s) := by
  unfold State.mapAdvance
  repeat' (first | (with_reducible (first | assumption | intro _ | apply State.regionLate_kept | apply State.mapCell_kept | apply ite_kept | apply foldl_kept | fail_if_no_progress (apply upd_kept))) | split | (dsimp only; split))

theorem State.rsCommit_kept {s0 : State} (s : State) (host : Bool) (hs : Kept s0 s) : Kept s0 (State.rsCommit s host) := by
  unfold State.rsCommit
  repeat' (first | (with_reducible (first | assumption | apply State.setB_kept | apply State.setF_kept | apply State.mapAdvance_kept | apply ite_kept | fail_if_no_progress (apply upd_kept))) | split | (dsimp only; split))

theorem State.copyShadow_kept {s0 : State} (s : State) (hs : Kept s0 s) : Kept s0 s.copyShadow := by
  refine updRegs_kept hs (fun h => ?_)
  have key : ∀ (l t : Tbl (BitVec 32)), twf resetWord t = true →
      twf resetWord (l.foldl (fun t p => tset resetWord t (p.1 + 0x1000) p.2) t) = true := by
    intro l
    induction l with
    | nil => exact fun _ h => h
    | cons x l ih => exact fun t h => ih _ (twf_tset _ _ h)
  exact key _ _ (twf_tclear _ _ h)

theorem State.rsCopy_kept {s0 : State} (s : State) (hs : Kept s0 s) : Kept s0 (State.rsCopy s) := by
  unfold State.rsCopy
  repeat' (first | (with_reducible (first | assumption | apply State.copyShadow_kept | apply State.mapAdvance_kept | apply State.setF_kept | apply State.setB_kept | apply ite_kept | fail_if_no_progress (apply upd_kept))) | split | (dsimp only; split))

theorem State.rsAuto_kept {s0 : State} (s : State) (hs : Kept s0 s) : Kept s0 (State.rsAuto s) := by
  unfold State.rsAuto
  repeat' (first | (with_reducible (first | assumption | apply State.rsCommit_kept | apply State.setF_kept | apply ite_kept | fail_if_no_progress (apply upd_kept))) | split | (dsimp only; split))

theorem State.rsBlank_kept {s0 : State} (s : State) (hs : Kept s0 s) : Kept s0 (State.rsBlank s) := by
  unfold State.rsBlank
  repeat' (first | (with_reducible (first | assumption | apply State.setB_kept | apply ite_kept | fail_if_no_progress (apply upd_kept))) | split | (dsimp only; split))

theorem State.rsIdle_kept {s0 : State} (s : State) (hs : Kept s0 s) : Kept s0 (State.rsIdle s) := by
  unfold State.rsIdle
  repeat' (first | (with_reducible (first | assumption | apply State.rsTake_kept | apply State.rsTrainStart_kept | apply State.rsPorch_kept | apply State.setB_kept | apply ite_kept | fail_if_no_progress (apply upd_kept))) | split | (dsimp only; split))

theorem State.rsTick_kept {s0 : State} (s : State) (hs : Kept s0 s) : Kept s0 (State.rsTick s) := by
  unfold State.rsTick
  repeat' (first | (with_reducible (first | assumption | apply State.rsAuto_kept | apply State.rsIdle_kept | apply State.rsBlank_kept | apply ite_kept | fail_if_no_progress (apply upd_kept))) | split | (dsimp only; split))

theorem sampleInstant_kept {s0 : State} (s : State) (hs : Kept s0 s) : Kept s0 (sampleInstant s) := by
  unfold sampleInstant
  repeat' (first | (with_reducible (first | assumption | apply State.rsBlank_kept | apply State.setB_kept | apply State.addSat_kept | apply State.rsCopy_kept | apply ite_kept | fail_if_no_progress (apply upd_kept))) | split | (dsimp only; split))

theorem execSampleInstant_kept {s0 : State} (s : State) (hs : Kept s0 s) : OutKept s0 (execSampleInstant s) := by
  unfold execSampleInstant
  repeat' (first | (with_reducible (first | assumption | intro _ | apply OutKept.next | apply sampleInstant_kept | fail_if_no_progress (apply upd_kept))) | split | (dsimp only; split))

theorem State.rsCancel_kept {s0 : State} (s : State) (hs : Kept s0 s) : Kept s0 (State.rsCancel s) := by
  unfold State.rsCancel
  repeat' (first | (with_reducible (first | assumption | apply State.setB_kept | apply State.setF_kept | apply ite_kept | fail_if_no_progress (apply upd_kept))) | split | (dsimp only; split))

theorem frontPorchEnd_kept {s0 : State} (s : State) (hs : Kept s0 s) : Kept s0 (frontPorchEnd s) := by
  unfold frontPorchEnd
  repeat' (first | (with_reducible (first | assumption | apply State.rsCopy_kept | apply State.setF_kept | apply ite_kept | fail_if_no_progress (apply upd_kept))) | split | (dsimp only; split))

theorem execFrontPorchEnd_kept {s0 : State} (s : State) (hs : Kept s0 s) : OutKept s0 (execFrontPorchEnd s) := by
  unfold execFrontPorchEnd
  repeat' (first | (with_reducible (first | assumption | intro _ | apply OutKept.next | apply frontPorchEnd_kept | fail_if_no_progress (apply upd_kept))) | split | (dsimp only; split))

theorem rsCtrlWritten_kept {s0 : State} (old : ℕ) (v : ℕ) (s : State) (hs : Kept s0 s) : Kept s0 (rsCtrlWritten old v s) := by
  unfold rsCtrlWritten
  repeat' (first | (with_reducible (first | assumption | apply State.setF_kept | apply State.setB_kept | apply State.rsTake_kept | apply State.rsTrainStart_kept | apply State.rsCancel_kept | apply State.rsCommit_kept | apply ite_kept | fail_if_no_progress (apply upd_kept))) | split | (dsimp only; split))

theorem State.regionDone_kept {s0 : State} (s : State) (r : ℕ) (hs : Kept s0 s) : Kept s0 (State.regionDone s r) := by
  unfold State.regionDone
  repeat' (first | (with_reducible (first | assumption | apply State.incSat_kept | apply State.rsAuto_kept | fail_if_no_progress (apply upd_kept))) | split | (dsimp only; split))

theorem State.rasterWrite_kept {s0 : State} (s : State) (h_ : RasterPut) (hs : Kept s0 s) : Kept s0 (State.rasterWrite s h_).1 := by
  unfold State.rasterWrite
  repeat' (first | (with_reducible (first | assumption | intro _ | apply State.incSat_kept | apply State.wakeBlk_kept | apply State.regionLate_kept | apply State.spaceWrite_kept | apply State.regionDone_kept | apply ite_fst_kept | apply foldl_fst_kept | apply ite_kept | apply foldl_kept | fail_if_no_progress (apply upd_kept))) | split | (dsimp only; split))

theorem densMapStart_kept {s0 : State} (s : State) (hs : Kept s0 s) : Kept s0 (densMapStart s) := by
  unfold densMapStart
  repeat' (first | (with_reducible (first | assumption | apply State.incSat_kept | apply State.wakeBlk_kept | apply ite_kept | fail_if_no_progress (apply upd_kept))) | split | (dsimp only; split))

theorem execDensMapStart_kept {s0 : State} (s : State) (hs : Kept s0 s) : OutKept s0 (execDensMapStart s) := by
  unfold execDensMapStart
  repeat' (first | (with_reducible (first | assumption | intro _ | apply OutKept.next | apply densMapStart_kept | fail_if_no_progress (apply upd_kept))) | split | (dsimp only; split))

theorem mapperDone_kept {s0 : State} (s : State) (hs : Kept s0 s) : Kept s0 (mapperDone s) := by
  unfold mapperDone
  repeat' (first | (with_reducible (first | assumption | apply State.mapAdvance_kept | apply State.regionDone_kept | apply ite_kept | fail_if_no_progress (apply upd_kept))) | split | (dsimp only; split))

theorem execMapperDone_kept {s0 : State} (s : State) (hs : Kept s0 s) : OutKept s0 (execMapperDone s) := by
  unfold execMapperDone
  repeat' (first | (with_reducible (first | assumption | intro _ | apply OutKept.next | apply mapperDone_kept | fail_if_no_progress (apply upd_kept))) | split | (dsimp only; split))

theorem crcCheck_kept {s0 : State} (k : ℕ) (s : State) (hs : Kept s0 s) : Kept s0 (crcCheck k s) := by
  unfold crcCheck
  repeat' (first | (with_reducible (first | assumption | apply State.rsBlank_kept | apply State.mapAdvance_kept | apply State.setF_kept | apply State.setB_kept | apply State.incSat_kept | apply State.raiseBlk_kept | apply ite_kept | fail_if_no_progress (apply upd_kept))) | split | (dsimp only; split))

theorem execCrcCheck_kept {s0 : State} (k : Fin 4) (s : State) (hs : Kept s0 s) : OutKept s0 (execCrcCheck k s) := by
  unfold execCrcCheck
  repeat' (first | (with_reducible (first | assumption | intro _ | apply OutKept.next | apply crcCheck_kept | fail_if_no_progress (apply upd_kept))) | split | (dsimp only; split))

theorem State.rsReset_kept {s0 : State} (s : State) (hs : Kept s0 s) : Kept s0 (State.rsReset s) := by
  unfold State.rsReset
  repeat' (first | (with_reducible (first | assumption | apply State.setB_kept | apply State.rsTrainStart_kept | apply ite_kept | fail_if_no_progress (apply upd_kept))) | split | (dsimp only; split))

end Sys2Proof.Machine
end

