-- ==== Sys2Proof/Laws/KeptPublish.lean ====
section
/-!
SUPPORT. Every function of Machine/Publish.lean that answers a state keeps what `Kept` names.
-/
set_option linter.all false
namespace Sys2Proof.Machine

theorem State.setCtx_kept {s0 : State} (s : State) (c : ℕ) (x : CtxSt) (hs : Kept s0 s) : Kept s0 (State.setCtx s c x) := by
  unfold State.setCtx
  repeat' (first | (with_reducible (first | assumption | fail_if_no_progress (apply upd_kept))) | split | (dsimp only; split))

theorem State.setAnv_kept {s0 : State} (s : State) (f : ℕ) (a : ℕ) (x : AnvSt) (hs : Kept s0 s) : Kept s0 (State.setAnv s f a x) := by
  unfold State.setAnv
  repeat' (first | (with_reducible (first | assumption | fail_if_no_progress (apply upd_kept))) | split | (dsimp only; split))

theorem State.cmRecord_kept {s0 : State} (s : State) (c : ℕ) (cfg : List (BitVec 32)) (bytes : List (BitVec 8)) (hs : Kept s0 s) : Kept s0 (State.cmRecord s c cfg bytes) := by
  unfold State.cmRecord
  repeat' (first | (with_reducible (first | assumption | intro _ | apply State.mcWrite_kept | apply State.setCtx_kept | apply ite_fst_kept | apply foldl_fst_kept | apply ite_kept | apply foldl_kept | fail_if_no_progress (apply upd_kept))) | split | (dsimp only; split))

theorem State.recSent_kept {s0 : State} (s : State) (c : ℕ) (epoch : ℕ) (product : ℕ) (hs : Kept s0 s) : Kept s0 (State.recSent s c epoch product) := by
  unfold State.recSent
  repeat' (first | (with_reducible (first | assumption | apply State.addSat_kept | apply State.setCtx_kept | fail_if_no_progress (apply upd_kept))) | split | (dsimp only; split))

theorem State.recQueue_kept {s0 : State} (s : State) (c : ℕ) (epoch : ℕ) (product : ℕ) (q : ℕ) (h_ : RecHead) (bytes : List (BitVec 8)) (hs : Kept s0 s) : Kept s0 (State.recQueue s c epoch product q h_ bytes) := by
  unfold State.recQueue
  repeat' (first | (with_reducible (first | assumption | apply State.sqRecord_kept | apply State.recSent_kept | apply State.addSat_kept | apply State.setCtx_kept | apply ite_fst_kept | apply ite_kept | fail_if_no_progress (apply upd_kept))) | split | (dsimp only; split))

theorem State.recEmit_kept {s0 : State} (s : State) (c : ℕ) (epoch : ℕ) (product : ℕ) (i : FoldInfo) (payload : List (BitVec 8)) (len : ℕ) (hs : Kept s0 s) : Kept s0 (State.recEmit s c epoch product i payload len) := by
  unfold State.recEmit
  repeat' (first | (with_reducible (first | assumption | apply State.recQueue_kept | apply State.recSent_kept | apply State.cmRecord_kept | apply answerUpdate_kept | apply State.synthRecord_kept | apply ite_kept | fail_if_no_progress (apply upd_kept))) | split | (dsimp only; split))

theorem State.putAvg_kept {s0 : State} (s : State) (c : ℕ) (a : AvgSt) (hs : Kept s0 s) : Kept s0 (State.putAvg s c a) := by
  unfold State.putAvg
  repeat' (first | (with_reducible (first | assumption | apply State.setCtx_kept | fail_if_no_progress (apply upd_kept))) | split | (dsimp only; split))

theorem State.avgEmit_kept {s0 : State} (s : State) (c : ℕ) (a : AvgSt) (hs : Kept s0 s) : Kept s0 (State.avgEmit s c a) := by
  unfold State.avgEmit
  repeat' (first | (with_reducible (first | assumption | apply State.recEmit_kept | apply ite_kept | fail_if_no_progress (apply upd_kept))) | split | (dsimp only; split))

theorem State.avgFold_kept {s0 : State} (s : State) (b : Billet) (product : ℕ) (i : FoldInfo) (payload : List (BitVec 8)) (hs : Kept s0 s) : Kept s0 (State.avgFold s b product i payload) := by
  unfold State.avgFold
  repeat' (first | (with_reducible (first | assumption | apply State.putAvg_kept | apply State.avgEmit_kept | apply ite_kept | fail_if_no_progress (apply upd_kept))) | split | (dsimp only; split))

theorem State.closeAvgs_kept {s0 : State} (s : State) (c : ℕ) (hs : Kept s0 s) : Kept s0 (State.closeAvgs s c) := by
  unfold State.closeAvgs
  repeat' (first | (with_reducible (first | assumption | intro _ | apply State.avgEmit_kept | apply State.setCtx_kept | apply ite_kept | apply foldl_kept | fail_if_no_progress (apply upd_kept))) | split | (dsimp only; split))

theorem State.flushAvgs_kept {s0 : State} (s : State) (c : ℕ) (hs : Kept s0 s) : Kept s0 (State.flushAvgs s c) := by
  unfold State.flushAvgs
  repeat' (first | (with_reducible (first | assumption | intro _ | apply State.avgEmit_kept | apply State.setCtx_kept | apply foldl_kept | fail_if_no_progress (apply upd_kept))) | split | (dsimp only; split))

theorem State.densInc_kept {s0 : State} (s : State) (home : ℕ) (plane : ℕ) (secure : Bool) (w : ℕ) (hs : Kept s0 s) : Kept s0 (State.densInc s home plane secure w) := by
  unfold State.densInc
  repeat' (first | (with_reducible (first | assumption | apply State.spaceWrite_kept | apply ite_kept | fail_if_no_progress (apply upd_kept))) | split | (dsimp only; split))

theorem State.densDecay_kept {s0 : State} (s : State) (home : ℕ) (plane : ℕ) (sh : ℕ) (hs : Kept s0 s) : Kept s0 (State.densDecay s home plane sh) := by
  unfold State.densDecay
  repeat' (first | (with_reducible (first | assumption | intro _ | apply State.putBytes_kept | apply foldl_kept | fail_if_no_progress (apply upd_kept))) | split | (dsimp only; split))

theorem State.densClear_kept {s0 : State} (s : State) (home : ℕ) (plane : ℕ) (hs : Kept s0 s) : Kept s0 (State.densClear s home plane) := by
  unfold State.densClear
  repeat' (first | (with_reducible (first | assumption | fail_if_no_progress (apply updBytes_kept) | exact twf_tclear _ _ | exact twf_filter _ | exact id | assumption | fail_if_no_progress (apply upd_kept) | fail_if_no_progress (apply updMem_kept))) | split | (dsimp only; split))

theorem State.densFrame_kept {s0 : State} (s : State) (b : Billet) (i : FoldInfo) (hs : Kept s0 s) : Kept s0 (State.densFrame s b i) := by
  unfold State.densFrame
  repeat' (first | (with_reducible (first | assumption | apply State.setCtx_kept | apply State.densDecay_kept | apply State.recEmit_kept | apply ite_kept | fail_if_no_progress (apply upd_kept))) | split | (dsimp only; split))

theorem State.pubRecord_kept {s0 : State} (s : State) (b : Billet) (i : FoldInfo) (payload : List (BitVec 8)) (hs : Kept s0 s) : Kept s0 (State.pubRecord s b i payload) := by
  unfold State.pubRecord
  repeat' (first | (with_reducible (first | assumption | apply State.avgFold_kept | apply State.recEmit_kept | apply ite_kept | fail_if_no_progress (apply upd_kept))) | split | (dsimp only; split))

theorem State.rasterPut_kept {s0 : State} (s : State) (h_ : RasterPut) (hs : Kept s0 s) : Kept s0 (State.rasterPut s h_) := by
  unfold State.rasterPut
  repeat' (first | (with_reducible (first | assumption | apply State.rasterWrite_kept | apply State.setCtx_kept | apply State.recEmit_kept | apply ite_fst_kept | apply ite_kept | fail_if_no_progress (apply upd_kept))) | split | (dsimp only; split))

theorem State.serveRaster_kept {s0 : State} (s : State) (hs : Kept s0 s) : Kept s0 (State.serveRaster s) := by
  unfold State.serveRaster
  repeat' (first | (with_reducible (first | assumption | intro _ | apply State.rasterPut_kept | apply foldl_kept | fail_if_no_progress (apply upd_kept))) | split | (dsimp only; split))

theorem State.pubEntry_kept {s0 : State} (s : State) (b : Billet) (i : FoldInfo) (copy : ℕ) (e : PubEntry) (hs : Kept s0 s) : Kept s0 (State.pubEntry s b i copy e) := by
  unfold State.pubEntry
  repeat' (first | (with_reducible (first | assumption | intro _ | apply State.pubRecord_kept | apply State.densInc_kept | apply State.maskEvent_kept | apply State.rasterPut_kept | apply answerUpdate_kept | apply State.setCtx_kept | apply ite_kept | apply foldl_kept | fail_if_no_progress (apply upd_kept))) | split | (dsimp only; split))

theorem State.publish_kept {s0 : State} (s : State) (w : WaitPub) (hs : Kept s0 s) : Kept s0 (State.publish s w) := by
  unfold State.publish
  repeat' (first | (with_reducible (first | assumption | intro _ | apply State.pubEntry_kept | apply State.densFrame_kept | apply ite_kept | apply foldl_kept | fail_if_no_progress (apply upd_kept))) | split | (dsimp only; split))

theorem State.endRecord_kept {s0 : State} (s : State) (c : ℕ) (product : ℕ) (prefix_ : List (BitVec 8)) (hs : Kept s0 s) : Kept s0 (State.endRecord s c product prefix_) := by
  unfold State.endRecord
  repeat' (first | (with_reducible (first | assumption | apply State.next_kept | apply State.recQueue_kept | apply State.recSent_kept | apply State.cmRecord_kept | apply ite_kept | fail_if_no_progress (apply upd_kept))) | split | (dsimp only; split))

theorem State.dropLoad_kept {s0 : State} (s : State) (cls : ℕ) (home : ℕ) (load : ℕ) (hs : Kept s0 s) : Kept s0 (State.dropLoad s cls home load) := by
  unfold State.dropLoad
  repeat' (first | (with_reducible (first | assumption | apply State.setF_kept | apply ite_kept | fail_if_no_progress (apply upd_kept))) | split | (dsimp only; split))

theorem State.addLoad_kept {s0 : State} (s : State) (cls : ℕ) (home : ℕ) (load : ℕ) (hs : Kept s0 s) : Kept s0 (State.addLoad s cls home load) := by
  unfold State.addLoad
  repeat' (first | (with_reducible (first | assumption | apply State.addSat_kept | apply ite_kept | fail_if_no_progress (apply upd_kept))) | split | (dsimp only; split))

theorem State.freeHearth_kept {s0 : State} (s : State) (f : ℕ) (n : ℕ) (hs : Kept s0 s) : Kept s0 (State.freeHearth s f n) := by
  unfold State.freeHearth
  repeat' (first | (with_reducible (first | assumption | apply State.setF_kept | fail_if_no_progress (apply upd_kept))) | split | (dsimp only; split))

theorem State.ctxRelease_kept {s0 : State} (s : State) (c : ℕ) (hs : Kept s0 s) : Kept s0 (State.ctxRelease s c) := by
  unfold State.ctxRelease
  repeat' (first | (with_reducible (first | assumption | intro _ | apply State.freeHearth_kept | apply State.dropLoad_kept | apply State.setCtx_kept | apply State.setAnv_kept | apply State.setF_kept | apply ite_kept | apply foldl_kept | fail_if_no_progress (apply upd_kept))) | split | (dsimp only; split))

theorem State.homeSettle_kept {s0 : State} (s : State) (c : ℕ) (hs : Kept s0 s) : Kept s0 (State.homeSettle s c) := by
  unfold State.homeSettle
  repeat' (first | (with_reducible (first | assumption | intro _ | apply State.freeHearth_kept | apply State.setCtx_kept | apply State.publish_kept | apply ite_kept | apply foldl_kept | fail_if_no_progress (apply upd_kept))) | split | (dsimp only; split))

theorem State.ctxSettle_kept {s0 : State} (s : State) (c : ℕ) (hs : Kept s0 s) : Kept s0 (State.ctxSettle s c) := by
  unfold State.ctxSettle
  repeat' (first | (with_reducible (first | assumption | apply State.closeAvgs_kept | apply State.homeSettle_kept | apply State.flushAvgs_kept | apply State.ctxRelease_kept | apply State.endRecord_kept | apply State.finishDefs_kept | apply State.setF_kept | apply ite_kept | fail_if_no_progress (apply upd_kept))) | split | (dsimp only; split))

end Sys2Proof.Machine
end

