-- ==== Sys2Proof/Laws/KeptFabric.lean ====
section
/-!
SUPPORT. Every function of Machine/Fabric.lean that answers a state keeps what `Kept` names.
-/
set_option linter.all false
namespace Sys2Proof.Machine

theorem State.setRack_kept {s0 : State} (s : State) (f : ℕ) (r : List Billet) (hs : Kept s0 s) : Kept s0 (State.setRack s f r) := by
  unfold State.setRack
  repeat' (first | (with_reducible (first | assumption | apply State.setB_kept | apply State.setF_kept | fail_if_no_progress (apply upd_kept))) | split | (dsimp only; split))

theorem budgetWritten_kept {s0 : State} (old : ℕ) (v : ℕ) (s : State) (hs : Kept s0 s) : Kept s0 (budgetWritten old v s) := by
  unfold budgetWritten
  repeat' (first | (with_reducible (first | assumption | apply State.setB_kept | apply State.setF_kept | apply ite_kept | fail_if_no_progress (apply upd_kept))) | split | (dsimp only; split))

theorem fabCtrlWritten_kept {s0 : State} (old : ℕ) (v : ℕ) (s : State) (hs : Kept s0 s) : Kept s0 (fabCtrlWritten old v s) := by
  unfold fabCtrlWritten
  repeat' (first | (with_reducible (first | assumption | apply State.setB_kept | apply State.setF_kept | apply ite_kept | fail_if_no_progress (apply upd_kept))) | split | (dsimp only; split))

theorem State.startRun_kept {s0 : State} (s : State) (f : ℕ) (a : ℕ) (b0 : Billet) (seg : ℕ) (hs : Kept s0 s) : Kept s0 (State.startRun s f a b0 seg) := by
  unfold State.startRun
  repeat' (first | (with_reducible (first | assumption | apply State.setAnv_kept | fail_if_no_progress (apply upd_kept))) | split | (dsimp only; split))

theorem State.takeBillet_kept {s0 : State} (s : State) (f : ℕ) (a : ℕ) (b : Billet) (hs : Kept s0 s) : Kept s0 (State.takeBillet s f a b) := by
  unfold State.takeBillet
  repeat' (first | (with_reducible (first | assumption | apply State.startRun_kept | fail_if_no_progress (apply upd_kept))) | split | (dsimp only; split))

theorem State.abandon_kept {s0 : State} (s : State) (f : ℕ) (a : ℕ) (hs : Kept s0 s) : Kept s0 (State.abandon s f a) := by
  unfold State.abandon
  repeat' (first | (with_reducible (first | assumption | apply State.addWrap_kept | apply State.incSat_kept | apply State.setAnv_kept | fail_if_no_progress (apply upd_kept))) | split | (dsimp only; split))

theorem State.dropRun_kept {s0 : State} (s : State) (f : ℕ) (a : ℕ) (hs : Kept s0 s) : Kept s0 (State.dropRun s f a) := by
  unfold State.dropRun
  repeat' (first | (with_reducible (first | assumption | apply State.setAnv_kept | apply State.abandon_kept | apply ite_kept | fail_if_no_progress (apply upd_kept))) | split | (dsimp only; split))

theorem State.skipFrame_kept {s0 : State} (s : State) (c : ℕ) (cls : ℕ) (hs : Kept s0 s) : Kept s0 (State.skipFrame s c cls) := by
  unfold State.skipFrame
  repeat' (first | (with_reducible (first | assumption | apply State.addWrap_kept | apply State.setCtx_kept | apply ite_kept | fail_if_no_progress (apply upd_kept))) | split | (dsimp only; split))

theorem State.dropFrame_kept {s0 : State} (s : State) (c : ℕ) (seq : ℕ) (hs : Kept s0 s) : Kept s0 (State.dropFrame s c seq) := by
  unfold State.dropFrame
  repeat' (first | (with_reducible (first | assumption | intro _ | apply State.setRack_kept | apply State.dropRun_kept | apply State.setCtx_kept | apply ite_kept | apply foldl_kept | fail_if_no_progress (apply upd_kept))) | split | (dsimp only; split))

theorem State.reclass_kept {s0 : State} (s : State) (c : ℕ) (old : ℕ) (new : ℕ) (hs : Kept s0 s) : Kept s0 (State.reclass s c old new) := by
  unfold State.reclass
  repeat' (first | (with_reducible (first | assumption | apply State.addLoad_kept | apply State.dropLoad_kept | apply ite_kept | fail_if_no_progress (apply upd_kept))) | split | (dsimp only; split))

theorem State.ctxResult_kept {s0 : State} (s : State) (c : ℕ) (status : ℕ) (hs : Kept s0 s) : Kept s0 (State.ctxResult s c status) := by
  unfold State.ctxResult
  repeat' (first | (with_reducible (first | assumption | apply State.setF_kept | fail_if_no_progress (apply upd_kept))) | split | (dsimp only; split))

theorem State.cancelMod_kept {s0 : State} (s : State) (c : ℕ) (status : ℕ) (hs : Kept s0 s) : Kept s0 (State.cancelMod s c status) := by
  unfold State.cancelMod
  repeat' (first | (with_reducible (first | assumption | apply State.setB_kept | apply State.setCtx_kept | apply State.finishDefs_kept | apply State.ctxResult_kept | apply State.reclass_kept | fail_if_no_progress (apply upd_kept))) | split | (dsimp only; split))

theorem State.ctxFault_kept {s0 : State} (s : State) (c : ℕ) (cause : ℕ) (detail : List ℕ) (hs : Kept s0 s) : Kept s0 (State.ctxFault s c cause detail) := by
  unfold State.ctxFault
  repeat' (first | (with_reducible (first | assumption | apply State.incSat_kept | apply State.setF_kept | apply State.errLog_kept | apply State.ctxSettle_kept | apply State.cancelMod_kept | apply State.setCtx_kept | apply ite_fst_kept | apply ite_kept | fail_if_no_progress (apply upd_kept))) | split | (dsimp only; split))

theorem State.loseFrame_kept {s0 : State} (s : State) (c : ℕ) (cause : ℕ) (hs : Kept s0 s) : Kept s0 (State.loseFrame s c cause) := by
  unfold State.loseFrame
  repeat' (first | (with_reducible (first | assumption | apply State.ctxFault_kept | apply State.addSat_kept | fail_if_no_progress (apply upd_kept))) | split | (dsimp only; split))

theorem State.enqueue_kept {s0 : State} (s : State) (g : ℕ) (b : Billet) (hs : Kept s0 s) : Kept s0 (State.enqueue s g b) := by
  unfold State.enqueue
  repeat' (first | (with_reducible (first | assumption | apply State.setRack_kept | fail_if_no_progress (apply upd_kept))) | split | (dsimp only; split))

theorem State.placeBillet_kept {s0 : State} (s : State) (b : Billet) (hs : Kept s0 s) : Kept s0 (State.placeBillet s b).1 := by
  unfold State.placeBillet
  repeat' (first | (with_reducible (first | assumption | intro _ | apply State.enqueue_kept | apply State.skipFrame_kept | apply State.dropFrame_kept | apply State.ctxSettle_kept | apply ite_fst_kept | apply ite_kept | fail_if_no_progress (apply upd_kept))) | split | (dsimp only; split))

theorem State.place_kept {s0 : State} (s : State) (b : Billet) (hs : Kept s0 s) : Kept s0 (State.place s b).1 := by
  unfold State.place
  repeat' (first | (with_reducible (first | assumption | intro _ | apply State.placeBillet_kept | apply State.ctxSettle_kept | apply State.skipFrame_kept | apply State.dropFrame_kept | apply State.loseFrame_kept | apply State.setB_kept | fail_if_no_progress (apply upd_kept))) | split | (dsimp only; split))

theorem State.placeParts_kept {s0 : State} (s : State) (b : Billet) (n : ℕ) (hs : Kept s0 s) : Kept s0 (State.placeParts s b n).1 := by
  unfold State.placeParts
  repeat' (first | (with_reducible (first | assumption | intro _ | apply State.place_kept | apply ite_fst_kept | apply foldl_fst_kept | apply ite_kept | apply foldl_kept | fail_if_no_progress (apply upd_kept))) | split | (dsimp only; split))

theorem State.reissue_kept {s0 : State} (s : State) (b : Billet) (hs : Kept s0 s) : Kept s0 (State.reissue s b) := by
  unfold State.reissue
  repeat' (first | (with_reducible (first | assumption | apply State.place_kept | fail_if_no_progress (apply upd_kept))) | split | (dsimp only; split))

theorem State.syncWindow_kept {s0 : State} (s : State) (c : ℕ) (l : ℕ) (hs : Kept s0 s) : Kept s0 (State.syncWindow s c l) := by
  unfold State.syncWindow
  repeat' (first | (with_reducible (first | assumption | apply State.setFi_kept | apply State.next_kept | apply State.setF_kept | fail_if_no_progress (apply upd_kept))) | split | (dsimp only; split))

theorem State.setCfg_kept {s0 : State} (s : State) (c : ℕ) (cfg : List (BitVec 32)) (hs : Kept s0 s) : Kept s0 (State.setCfg s c cfg) := by
  unfold State.setCfg
  repeat' (first | (with_reducible (first | assumption | intro _ | apply State.setWord_kept | apply foldl_kept | fail_if_no_progress (apply upd_kept))) | split | (dsimp only; split))

theorem State.applyMod_kept {s0 : State} (s : State) (c : ℕ) (hs : Kept s0 s) : Kept s0 (State.applyMod s c) := by
  unfold State.applyMod
  repeat' (first | (with_reducible (first | assumption | apply State.setF_kept | apply State.setCfg_kept | apply State.setCtx_kept | apply State.ctxResult_kept | apply State.setB_kept | apply State.syncWindow_kept | apply State.densClear_kept | apply State.finishDefs_kept | apply ite_fst_kept | apply ite_kept | fail_if_no_progress (apply upd_kept))) | split | (dsimp only; split))

theorem State.copyHearth_kept {s0 : State} (s : State) (f : ℕ) (a : ℕ) (g : ℕ) (b : ℕ) (n : ℕ) (hs : Kept s0 s) : Kept s0 (State.copyHearth s f a g b n) := by
  unfold State.copyHearth
  repeat' (first | (with_reducible (first | assumption | apply State.putBytes_kept | fail_if_no_progress (apply upd_kept))) | split | (dsimp only; split))

theorem homeMove_kept {s0 : State} (c : ℕ) (f : ℕ) (s : State) (hs : Kept s0 s) : Kept s0 (homeMove c f s) := by
  unfold homeMove
  repeat' (first | (with_reducible (first | assumption | apply State.setCtx_kept | apply State.setF_kept | apply ite_fst_kept | apply ite_kept | fail_if_no_progress (apply upd_kept))) | split | (dsimp only; split))

theorem execHomeMove_kept {s0 : State} (c : Fin 3072) (f : Fin 32) (s : State) (hs : Kept s0 s) : OutKept s0 (execHomeMove c f s) := by
  unfold execHomeMove
  repeat' (first | (with_reducible (first | assumption | intro _ | apply OutKept.next | apply homeMove_kept | fail_if_no_progress (apply upd_kept))) | split | (dsimp only; split))

theorem State.homeTake_kept {s0 : State} (s : State) (c : ℕ) (hs : Kept s0 s) : Kept s0 (State.homeTake s c) := by
  unfold State.homeTake
  repeat' (first | (with_reducible (first | assumption | apply State.setCtx_kept | apply State.freeHearth_kept | apply State.copyHearth_kept | apply State.addLoad_kept | apply State.dropLoad_kept | apply State.homeSettle_kept | apply State.setF_kept | apply ite_fst_kept | apply ite_kept | fail_if_no_progress (apply upd_kept))) | split | (dsimp only; split))

theorem State.cutBillets_kept {s0 : State} (s : State) (c : ℕ) (b : Billet) (hs : Kept s0 s) : Kept s0 (State.cutBillets s c b) := by
  unfold State.cutBillets
  repeat' (first | (with_reducible (first | assumption | apply State.setCtx_kept | apply State.place_kept | apply State.placeParts_kept | apply ite_fst_kept | apply ite_kept | fail_if_no_progress (apply upd_kept))) | split | (dsimp only; split))

theorem State.cutFrame_kept {s0 : State} (s : State) (c : ℕ) (hs : Kept s0 s) : Kept s0 (State.cutFrame s c) := by
  unfold State.cutFrame
  repeat' (first | (with_reducible (first | assumption | apply State.homeTake_kept | apply State.applyMod_kept | apply State.setF_kept | apply State.setCtx_kept | apply State.ctxSettle_kept | apply State.skipFrame_kept | apply State.loseFrame_kept | apply State.cutBillets_kept | apply ite_kept | fail_if_no_progress (apply upd_kept))) | split | (dsimp only; split))

theorem execFrameCut_kept {s0 : State} (c : Fin 3072) (s : State) (hs : Kept s0 s) : OutKept s0 (execFrameCut c s) := by
  unfold execFrameCut
  repeat' (first | (with_reducible (first | assumption | intro _ | apply OutKept.next | apply State.cutFrame_kept | fail_if_no_progress (apply upd_kept))) | split | (dsimp only; split))

theorem State.cutDue_kept {s0 : State} (s : State) (c n : ℕ) (hs : Kept s0 s) : Kept s0 (s.cutDue c n) := by
  induction n generalizing s with
  | zero => exact hs
  | succ n ih =>
    unfold State.cutDue
    repeat' (first | (with_reducible (first | assumption | apply ih | apply State.cutFrame_kept | apply ite_kept | fail_if_no_progress (apply upd_kept))) | split | (dsimp only; split))

theorem State.withdraw_kept {s0 : State} (s : State) (c : ℕ) (k : ℕ) (hs : Kept s0 s) : Kept s0 (State.withdraw s c k) := by
  unfold State.withdraw
  repeat' (first | (with_reducible (first | assumption | intro _ | apply State.dropFrame_kept | apply State.loseFrame_kept | apply State.ctxSettle_kept | apply State.skipFrame_kept | apply ite_fst_kept | apply foldl_fst_kept | apply ite_kept | apply foldl_kept | fail_if_no_progress (apply upd_kept))) | split | (dsimp only; split))

theorem State.ringWrite_kept {s0 : State} (s : State) (c : ℕ) (n : ℕ) (o : ChainOut) (hs : Kept s0 s) : Kept s0 (State.ringWrite s c n o) := by
  unfold State.ringWrite
  repeat' (first | (with_reducible (first | assumption | apply State.withdraw_kept | apply State.spaceWrite_kept | apply State.setCtx_kept | apply ite_fst_kept | apply ite_kept | fail_if_no_progress (apply upd_kept))) | split | (dsimp only; split))

theorem State.pinOutput_kept {s0 : State} (s : State) (c : ℕ) (n : ℕ) (o : ChainOut) (hs : Kept s0 s) : Kept s0 (State.pinOutput s c n o) := by
  unfold State.pinOutput
  repeat' (first | (with_reducible (first | assumption | apply State.setCtx_kept | apply ite_fst_kept | apply ite_kept | fail_if_no_progress (apply upd_kept))) | split | (dsimp only; split))

theorem State.ctxOutput_kept {s0 : State} (s : State) (c : ℕ) (n : ℕ) (o : ChainOut) (hs : Kept s0 s) : Kept s0 (State.ctxOutput s c n o) := by
  unfold State.ctxOutput
  repeat' (first | (with_reducible (first | assumption | apply State.setCtx_kept | apply State.pinOutput_kept | apply State.ringWrite_kept | apply State.cutDue_kept | apply ite_kept | fail_if_no_progress (apply upd_kept))) | split | (dsimp only; split))

theorem State.feedContexts_kept {s0 : State} (s : State) (n : ℕ) (o : ChainOut) (hs : Kept s0 s) : Kept s0 (State.feedContexts s n o) := by
  unfold State.feedContexts
  repeat' (first | (with_reducible (first | assumption | intro _ | apply State.ctxOutput_kept | apply foldl_kept | fail_if_no_progress (apply upd_kept))) | split | (dsimp only; split))

theorem State.pinBegin_kept {s0 : State} (s : State) (f : ℕ) (a : ℕ) (hs : Kept s0 s) : Kept s0 (State.pinBegin s f a) := by
  unfold State.pinBegin
  repeat' (first | (with_reducible (first | assumption | apply State.startRun_kept | apply State.setAnv_kept | apply ite_kept | fail_if_no_progress (apply upd_kept))) | split | (dsimp only; split))

theorem pinSegment_kept {s0 : State} (c : ℕ) (s : State) (hs : Kept s0 s) : Kept s0 (pinSegment c s) := by
  unfold pinSegment
  repeat' (first | (with_reducible (first | assumption | apply State.applyMod_kept | apply State.setF_kept | apply State.setAnv_kept | apply State.setCtx_kept | apply State.skipFrame_kept | apply State.incSat_kept | apply State.pinBegin_kept | apply ite_kept | fail_if_no_progress (apply upd_kept))) | split | (dsimp only; split))

theorem execPinSegment_kept {s0 : State} (c : Fin 3072) (s : State) (hs : Kept s0 s) : OutKept s0 (execPinSegment c s) := by
  unfold execPinSegment
  repeat' (first | (with_reducible (first | assumption | intro _ | apply OutKept.next | apply pinSegment_kept | fail_if_no_progress (apply upd_kept))) | split | (dsimp only; split))

theorem localTake_kept {s0 : State} (f : ℕ) (s : State) (hs : Kept s0 s) : Kept s0 (localTake f s) := by
  unfold localTake
  repeat' (first | (with_reducible (first | assumption | apply State.takeBillet_kept | apply State.setRack_kept | fail_if_no_progress (apply upd_kept))) | split | (dsimp only; split))

theorem execLocalTake_kept {s0 : State} (f : Fin 32) (s : State) (hs : Kept s0 s) : OutKept s0 (execLocalTake f s) := by
  unfold execLocalTake
  repeat' (first | (with_reducible (first | assumption | intro _ | apply OutKept.next | apply localTake_kept | fail_if_no_progress (apply upd_kept))) | split | (dsimp only; split))

theorem State.noteSteal_kept {s0 : State} (s : State) (g : ℕ) (f : ℕ) (a : ℕ) (hs : Kept s0 s) : Kept s0 (State.noteSteal s g f a) := by
  unfold State.noteSteal
  repeat' (first | (with_reducible (first | assumption | fail_if_no_progress (apply upd_kept))) | split | (dsimp only; split))

theorem stealProbe_kept {s0 : State} (f : ℕ) (a : ℕ) (lost : Bool) (s : State) (hs : Kept s0 s) : Kept s0 (stealProbe f a lost s) := by
  unfold stealProbe
  repeat' (first | (with_reducible (first | assumption | apply State.setAnv_kept | apply State.incSat_kept | apply State.setRack_kept | apply State.takeBillet_kept | apply State.noteSteal_kept | apply ite_kept | fail_if_no_progress (apply upd_kept))) | split | (dsimp only; split))

theorem execStealProbe_kept {s0 : State} (f : Fin 32) (a : Fin 32) (lost : Bool) (s : State) (hs : Kept s0 s) : OutKept s0 (execStealProbe f a lost s) := by
  unfold execStealProbe
  repeat' (first | (with_reducible (first | assumption | intro _ | apply OutKept.next | apply stealProbe_kept | fail_if_no_progress (apply upd_kept))) | split | (dsimp only; split))

end Sys2Proof.Machine
end

