-- ==== Sys2Proof/Laws/KeptAnvil.lean ====
section
/-!
SUPPORT. Every function of Machine/Anvil.lean that answers a state keeps what `Kept` names.
-/
set_option linter.all false
namespace Sys2Proof.Machine

theorem State.pinPop_kept {s0 : State} (s : State) (f : ℕ) (a : ℕ) (hs : Kept s0 s) : Kept s0 (State.pinPop s f a) := by
  unfold State.pinPop
  repeat' (first | (with_reducible (first | assumption | apply State.setAnv_kept | apply ite_kept | fail_if_no_progress (apply upd_kept))) | split | (dsimp only; split))

theorem State.kernelFault_kept {s0 : State} (s : State) (f : ℕ) (a : ℕ) (cause : ℕ) (detail : ℕ) (hs : Kept s0 s) : Kept s0 (State.kernelFault s f a cause detail) := by
  unfold State.kernelFault
  repeat' (first | (with_reducible (first | assumption | intro _ | apply State.dropFrame_kept | apply State.pinPop_kept | apply State.abandon_kept | apply State.setWordsAt_kept | apply State.ctxFault_kept | apply State.addSat_kept | apply State.incSat_kept | apply State.pinBegin_kept | fail_if_no_progress (apply upd_kept) | apply foldr_kept)) | split | (dsimp only; split))

theorem State.moveEntry_kept {s0 : State} (s : State) (f : ℕ) (b : Billet) (hs : Kept s0 s) : Kept s0 (State.moveEntry s f b) := by
  unfold State.moveEntry
  repeat' (first | (with_reducible (first | assumption | apply State.setRack_kept | apply State.loseFrame_kept | apply State.setB_kept | apply State.dropFrame_kept | apply State.ctxSettle_kept | apply State.skipFrame_kept | apply ite_kept | fail_if_no_progress (apply upd_kept))) | split | (dsimp only; split))

theorem State.drainRack_kept {s0 : State} (s : State) (f n : ℕ) (hs : Kept s0 s) : Kept s0 (s.drainRack f n) := by
  induction n generalizing s with
  | zero => exact hs
  | succ n ih =>
    unfold State.drainRack
    repeat' (first | (with_reducible (first | assumption | apply ih | apply State.moveEntry_kept | apply State.setRack_kept | apply ite_kept | fail_if_no_progress (apply upd_kept))) | split | (dsimp only; split))

theorem State.drainForge_kept {s0 : State} (s : State) (f : ℕ) (hs : Kept s0 s) : Kept s0 (State.drainForge s f) := by
  unfold State.drainForge
  repeat' (first | (with_reducible (first | assumption | apply State.drainRack_kept | apply ite_kept | fail_if_no_progress (apply upd_kept))) | split | (dsimp only; split))

theorem State.giveUp_kept {s0 : State} (s : State) (f : ℕ) (a : ℕ) (hs : Kept s0 s) : Kept s0 (State.giveUp s f a) := by
  unfold State.giveUp
  repeat' (first | (with_reducible (first | assumption | apply State.abandon_kept | apply State.ctxSettle_kept | apply State.drainForge_kept | apply State.pinPop_kept | apply State.reissue_kept | apply ite_kept | fail_if_no_progress (apply upd_kept))) | split | (dsimp only; split))

theorem State.setReload_kept {s0 : State} (s : State) (f : ℕ) (v : ℕ) (hs : Kept s0 s) : Kept s0 (State.setReload s f v) := by
  unfold State.setReload
  repeat' (first | (with_reducible (first | assumption | fail_if_no_progress (apply upd_kept))) | split | (dsimp only; split))

theorem State.setDrain_kept {s0 : State} (s : State) (f : ℕ) (v : ℕ) (hs : Kept s0 s) : Kept s0 (State.setDrain s f v) := by
  unfold State.setDrain
  repeat' (first | (with_reducible (first | assumption | fail_if_no_progress (apply upd_kept))) | split | (dsimp only; split))

theorem State.forgeLeave_kept {s0 : State} (s : State) (f : ℕ) (hs : Kept s0 s) : Kept s0 (State.forgeLeave s f) := by
  unfold State.forgeLeave
  repeat' (first | (with_reducible (first | assumption | intro _ | apply State.setDrain_kept | apply State.fenceEnter_kept | apply State.giveUp_kept | apply State.drainForge_kept | apply ite_kept | apply foldl_kept | fail_if_no_progress (apply upd_kept))) | split | (dsimp only; split))

theorem State.reloadStart_kept {s0 : State} (s : State) (f : ℕ) (hs : Kept s0 s) : Kept s0 (State.reloadStart s f) := by
  unfold State.reloadStart
  repeat' (first | (with_reducible (first | assumption | apply State.setB_kept | apply State.setReload_kept | fail_if_no_progress (apply upd_kept))) | split | (dsimp only; split))

theorem State.pinMchk_kept {s0 : State} (s : State) (f : ℕ) (a : ℕ) (hs : Kept s0 s) : Kept s0 (State.pinMchk s f a) := by
  unfold State.pinMchk
  repeat' (first | (with_reducible (first | assumption | intro _ | apply State.abandon_kept | apply State.dropRun_kept | apply State.setAnv_kept | apply State.ctxFault_kept | apply State.addSat_kept | apply ite_kept | apply foldl_kept | fail_if_no_progress (apply upd_kept))) | split | (dsimp only; split))

theorem State.ucodePass_kept {s0 : State} (s : State) (f : ℕ) (hs : Kept s0 s) : Kept s0 (State.ucodePass s f) := by
  unfold State.ucodePass
  repeat' (first | (with_reducible (first | assumption | apply State.putLong_kept | apply ite_kept | fail_if_no_progress (apply upd_kept))) | split | (dsimp only; split))

theorem State.quarantine_kept {s0 : State} (s : State) (f : ℕ) (hs : Kept s0 s) : Kept s0 (State.quarantine s f) := by
  unfold State.quarantine
  repeat' (first | (with_reducible (first | assumption | intro _ | apply State.setB_kept | apply State.setReload_kept | apply State.finishLong_kept | apply State.ucodePass_kept | apply State.bresetEnd_kept | apply foldl_kept | fail_if_no_progress (apply upd_kept))) | split | (dsimp only; split))

theorem State.checkAnvil_kept {s0 : State} (s : State) (f : ℕ) (a : ℕ) (kind : ℕ) (uaddr : ℕ) (ran : Bool) (hs : Kept s0 s) : Kept s0 (State.checkAnvil s f a kind uaddr ran) := by
  unfold State.checkAnvil
  repeat' (first | (with_reducible (first | assumption | apply State.incSat_kept | apply State.setF_kept | apply State.errLog_kept | apply State.next_kept | apply State.setAnv_kept | apply State.abandon_kept | apply State.pinMchk_kept | apply State.forgeLeave_kept | apply State.ctxSettle_kept | apply State.reissue_kept | apply State.drainForge_kept | apply State.quarantine_kept | apply State.reloadStart_kept | apply ite_kept | fail_if_no_progress (apply upd_kept))) | split | (dsimp only; split))

theorem State.endInstr_kept {s0 : State} (s : State) (f : ℕ) (a : ℕ) (cyc : ℕ) (pc : ℤ) (x : AnvSt) (hs : Kept s0 s) : Kept s0 (State.endInstr s f a cyc pc x) := by
  unfold State.endInstr
  repeat' (first | (with_reducible (first | assumption | apply State.setAnv_kept | apply State.giveUp_kept | apply State.kernelFault_kept | apply ite_kept | fail_if_no_progress (apply upd_kept))) | split | (dsimp only; split))

theorem State.dispatch_kept {s0 : State} (s : State) (f a op : ℕ) (go : ℕ → State → State) (hs : Kept s0 s)
    (hgo : ∀ (y0 : ℕ) (y1 : State), Kept s0 y1 → Kept s0 (go y0 y1)) : Kept s0 (s.dispatch f a op go) := by
  unfold State.dispatch
  split
  · exact hs
  · split
    · rename_i cyc upc uses _
      have h := State.setAnv_kept s f a { s.anvN f a with upc := upc } hs
      exact hgo _ _ ⟨h.inv, h.pending, h.out, Nat.le_trans hs.freeCtr (Nat.le_add_right _ _)⟩
    · exact State.checkAnvil_kept _ _ _ _ _ _ hs
    · exact State.kernelFault_kept _ _ _ _ _ hs
    · exact hs

theorem State.anvOp_kept {s0 : State} (s : State) (f : ℕ) (a : ℕ) (op : ℕ) (body : ℕ → AnvSt → AnvSt) (hs : Kept s0 s) : Kept s0 (State.anvOp s f a op body) := by
  unfold State.anvOp
  repeat' (first | (with_reducible (first | assumption | intro _ | apply State.dispatch_kept | apply State.endInstr_kept | apply ite_kept | fail_if_no_progress (apply upd_kept))) | split | (dsimp only; split))

theorem State.anvBranch_kept {s0 : State} (s : State) (f : ℕ) (a : ℕ) (op : ℕ) (body : ℕ → AnvSt → AnvSt × Bool) (hs : Kept s0 s) : Kept s0 (State.anvBranch s f a op body) := by
  unfold State.anvBranch
  repeat' (first | (with_reducible (first | assumption | intro _ | apply State.dispatch_kept | apply State.endInstr_kept | apply ite_kept | fail_if_no_progress (apply upd_kept))) | split | (dsimp only; split))

theorem State.startRepeat_kept {s0 : State} (s : State) (f : ℕ) (a : ℕ) (cyc : ℕ) (n : ℕ) (hs : Kept s0 s) : Kept s0 (State.startRepeat s f a cyc n) := by
  unfold State.startRepeat
  repeat' (first | (with_reducible (first | assumption | apply State.kernelFault_kept | apply State.checkAnvil_kept | apply State.endInstr_kept | apply ite_kept | fail_if_no_progress (apply upd_kept))) | split | (dsimp only; split))

theorem machineCheck_kept {s0 : State} (f : ℕ) (a : ℕ) (kind : ℕ) (uaddr : ℕ) (s : State) (hs : Kept s0 s) : Kept s0 (machineCheck f a kind uaddr s) := by
  unfold machineCheck
  repeat' (first | (with_reducible (first | assumption | apply State.checkAnvil_kept | fail_if_no_progress (apply upd_kept))) | split | (dsimp only; split))

theorem execMachineCheck_kept {s0 : State} (f : Fin 32) (a : Fin 32) (kind : Fin 4) (uaddr : Fin 8192) (s : State) (hs : Kept s0 s) : OutKept s0 (execMachineCheck f a kind uaddr s) := by
  unfold execMachineCheck
  repeat' (first | (with_reducible (first | assumption | intro _ | apply OutKept.next | apply machineCheck_kept | fail_if_no_progress (apply upd_kept))) | split | (dsimp only; split))

theorem execNop_kept {s0 : State} (f : Fin 32) (a : Fin 32) (s : State) (hs : Kept s0 s) : OutKept s0 (execNop f a s) := by
  unfold execNop
  repeat' (first | (with_reducible (first | assumption | intro _ | apply OutKept.next | apply State.anvOp_kept | fail_if_no_progress (apply upd_kept))) | split | (dsimp only; split))

theorem rep_kept {s0 : State} (f : ℕ) (a : ℕ) (s : State) (hs : Kept s0 s) : Kept s0 (rep f a s) := by
  unfold rep
  repeat' (first | (with_reducible (first | assumption | intro _ | apply State.dispatch_kept | apply State.startRepeat_kept | fail_if_no_progress (apply upd_kept))) | split | (dsimp only; split))

theorem execRep_kept {s0 : State} (f : Fin 32) (a : Fin 32) (s : State) (hs : Kept s0 s) : OutKept s0 (execRep f a s) := by
  unfold execRep
  repeat' (first | (with_reducible (first | assumption | intro _ | apply OutKept.next | apply rep_kept | fail_if_no_progress (apply upd_kept))) | split | (dsimp only; split))

theorem reps_kept {s0 : State} (f : ℕ) (a : ℕ) (s : State) (hs : Kept s0 s) : Kept s0 (reps f a s) := by
  unfold reps
  repeat' (first | (with_reducible (first | assumption | intro _ | apply State.dispatch_kept | apply State.kernelFault_kept | apply State.startRepeat_kept | apply ite_kept | fail_if_no_progress (apply upd_kept))) | split | (dsimp only; split))

theorem execReps_kept {s0 : State} (f : Fin 32) (a : Fin 32) (s : State) (hs : Kept s0 s) : OutKept s0 (execReps f a s) := by
  unfold execReps
  repeat' (first | (with_reducible (first | assumption | intro _ | apply OutKept.next | apply reps_kept | fail_if_no_progress (apply upd_kept))) | split | (dsimp only; split))

theorem execBr_kept {s0 : State} (f : Fin 32) (a : Fin 32) (s : State) (hs : Kept s0 s) : OutKept s0 (execBr f a s) := by
  unfold execBr
  repeat' (first | (with_reducible (first | assumption | intro _ | apply OutKept.next | apply State.anvBranch_kept | fail_if_no_progress (apply upd_kept))) | split | (dsimp only; split))

theorem execBnz_kept {s0 : State} (f : Fin 32) (a : Fin 32) (s : State) (hs : Kept s0 s) : OutKept s0 (execBnz f a s) := by
  unfold execBnz
  repeat' (first | (with_reducible (first | assumption | intro _ | apply OutKept.next | apply State.anvBranch_kept | fail_if_no_progress (apply upd_kept))) | split | (dsimp only; split))

theorem execBz_kept {s0 : State} (f : Fin 32) (a : Fin 32) (s : State) (hs : Kept s0 s) : OutKept s0 (execBz f a s) := by
  unfold execBz
  repeat' (first | (with_reducible (first | assumption | intro _ | apply OutKept.next | apply State.anvBranch_kept | fail_if_no_progress (apply upd_kept))) | split | (dsimp only; split))

theorem execSli_kept {s0 : State} (f : Fin 32) (a : Fin 32) (s : State) (hs : Kept s0 s) : OutKept s0 (execSli f a s) := by
  unfold execSli
  repeat' (first | (with_reducible (first | assumption | intro _ | apply OutKept.next | apply State.anvOp_kept | fail_if_no_progress (apply upd_kept))) | split | (dsimp only; split))

theorem execSlui_kept {s0 : State} (f : Fin 32) (a : Fin 32) (s : State) (hs : Kept s0 s) : OutKept s0 (execSlui f a s) := by
  unfold execSlui
  repeat' (first | (with_reducible (first | assumption | intro _ | apply OutKept.next | apply State.anvOp_kept | fail_if_no_progress (apply upd_kept))) | split | (dsimp only; split))

theorem execSadd_kept {s0 : State} (f : Fin 32) (a : Fin 32) (s : State) (hs : Kept s0 s) : OutKept s0 (execSadd f a s) := by
  unfold execSadd
  repeat' (first | (with_reducible (first | assumption | intro _ | apply OutKept.next | apply State.anvOp_kept | fail_if_no_progress (apply upd_kept))) | split | (dsimp only; split))

theorem execSsub_kept {s0 : State} (f : Fin 32) (a : Fin 32) (s : State) (hs : Kept s0 s) : OutKept s0 (execSsub f a s) := by
  unfold execSsub
  repeat' (first | (with_reducible (first | assumption | intro _ | apply OutKept.next | apply State.anvOp_kept | fail_if_no_progress (apply upd_kept))) | split | (dsimp only; split))

theorem execSaddi_kept {s0 : State} (f : Fin 32) (a : Fin 32) (s : State) (hs : Kept s0 s) : OutKept s0 (execSaddi f a s) := by
  unfold execSaddi
  repeat' (first | (with_reducible (first | assumption | intro _ | apply OutKept.next | apply State.anvOp_kept | fail_if_no_progress (apply upd_kept))) | split | (dsimp only; split))

theorem execSlog_kept {s0 : State} (f : Fin 32) (a : Fin 32) (s : State) (hs : Kept s0 s) : OutKept s0 (execSlog f a s) := by
  unfold execSlog
  repeat' (first | (with_reducible (first | assumption | intro _ | apply OutKept.next | apply State.anvOp_kept | fail_if_no_progress (apply upd_kept))) | split | (dsimp only; split))

theorem ssh_kept {s0 : State} (f : ℕ) (a : ℕ) (s : State) (hs : Kept s0 s) : Kept s0 (ssh f a s) := by
  unfold ssh
  repeat' (first | (with_reducible (first | assumption | intro _ | apply State.dispatch_kept | apply State.endInstr_kept | apply State.next_kept | apply ite_kept | fail_if_no_progress (apply upd_kept))) | split | (dsimp only; split))

theorem execSsh_kept {s0 : State} (f : Fin 32) (a : Fin 32) (s : State) (hs : Kept s0 s) : OutKept s0 (execSsh f a s) := by
  unfold execSsh
  repeat' (first | (with_reducible (first | assumption | intro _ | apply OutKept.next | apply ssh_kept | fail_if_no_progress (apply upd_kept))) | split | (dsimp only; split))

theorem execAimm_kept {s0 : State} (f : Fin 32) (a : Fin 32) (s : State) (hs : Kept s0 s) : OutKept s0 (execAimm f a s) := by
  unfold execAimm
  repeat' (first | (with_reducible (first | assumption | intro _ | apply OutKept.next | apply State.anvOp_kept | fail_if_no_progress (apply upd_kept))) | split | (dsimp only; split))

theorem execOimm_kept {s0 : State} (f : Fin 32) (a : Fin 32) (s : State) (hs : Kept s0 s) : OutKept s0 (execOimm f a s) := by
  unfold execOimm
  repeat' (first | (with_reducible (first | assumption | intro _ | apply OutKept.next | apply State.anvOp_kept | fail_if_no_progress (apply upd_kept))) | split | (dsimp only; split))

theorem execLimm_kept {s0 : State} (f : Fin 32) (a : Fin 32) (s : State) (hs : Kept s0 s) : OutKept s0 (execLimm f a s) := by
  unfold execLimm
  repeat' (first | (with_reducible (first | assumption | intro _ | apply OutKept.next | apply State.anvOp_kept | fail_if_no_progress (apply upd_kept))) | split | (dsimp only; split))

theorem execAmov_kept {s0 : State} (f : Fin 32) (a : Fin 32) (s : State) (hs : Kept s0 s) : OutKept s0 (execAmov f a s) := by
  unfold execAmov
  repeat' (first | (with_reducible (first | assumption | intro _ | apply OutKept.next | apply State.anvOp_kept | fail_if_no_progress (apply upd_kept))) | split | (dsimp only; split))

theorem execSmova_kept {s0 : State} (f : Fin 32) (a : Fin 32) (s : State) (hs : Kept s0 s) : OutKept s0 (execSmova f a s) := by
  unfold execSmova
  repeat' (first | (with_reducible (first | assumption | intro _ | apply OutKept.next | apply State.anvOp_kept | fail_if_no_progress (apply upd_kept))) | split | (dsimp only; split))

theorem execRdsat_kept {s0 : State} (f : Fin 32) (a : Fin 32) (s : State) (hs : Kept s0 s) : OutKept s0 (execRdsat f a s) := by
  unfold execRdsat
  repeat' (first | (with_reducible (first | assumption | intro _ | apply OutKept.next | apply State.anvOp_kept | apply ite_out_kept | apply ite_kept | fail_if_no_progress (apply upd_kept))) | split | (dsimp only; split))

theorem execVld_kept {s0 : State} (f : Fin 32) (a : Fin 32) (s : State) (hs : Kept s0 s) : OutKept s0 (execVld f a s) := by
  unfold execVld
  repeat' (first | (with_reducible (first | assumption | intro _ | apply OutKept.next | apply State.anvOp_kept | fail_if_no_progress (apply upd_kept))) | split | (dsimp only; split))

theorem execVst_kept {s0 : State} (f : Fin 32) (a : Fin 32) (s : State) (hs : Kept s0 s) : OutKept s0 (execVst f a s) := by
  unfold execVst
  repeat' (first | (with_reducible (first | assumption | intro _ | apply OutKept.next | apply State.anvOp_kept | fail_if_no_progress (apply upd_kept))) | split | (dsimp only; split))

theorem execVld2_kept {s0 : State} (f : Fin 32) (a : Fin 32) (s : State) (hs : Kept s0 s) : OutKept s0 (execVld2 f a s) := by
  unfold execVld2
  repeat' (first | (with_reducible (first | assumption | intro _ | apply OutKept.next | apply State.anvOp_kept | fail_if_no_progress (apply upd_kept))) | split | (dsimp only; split))

theorem execSld_kept {s0 : State} (f : Fin 32) (a : Fin 32) (s : State) (hs : Kept s0 s) : OutKept s0 (execSld f a s) := by
  unfold execSld
  repeat' (first | (with_reducible (first | assumption | intro _ | apply OutKept.next | apply State.anvOp_kept | fail_if_no_progress (apply upd_kept))) | split | (dsimp only; split))

theorem execSst_kept {s0 : State} (f : Fin 32) (a : Fin 32) (s : State) (hs : Kept s0 s) : OutKept s0 (execSst f a s) := by
  unfold execSst
  repeat' (first | (with_reducible (first | assumption | intro _ | apply OutKept.next | apply State.anvOp_kept | fail_if_no_progress (apply upd_kept))) | split | (dsimp only; split))

theorem execAld_kept {s0 : State} (f : Fin 32) (a : Fin 32) (s : State) (hs : Kept s0 s) : OutKept s0 (execAld f a s) := by
  unfold execAld
  repeat' (first | (with_reducible (first | assumption | intro _ | apply OutKept.next | apply State.anvOp_kept | fail_if_no_progress (apply upd_kept))) | split | (dsimp only; split))

theorem execAst_kept {s0 : State} (f : Fin 32) (a : Fin 32) (s : State) (hs : Kept s0 s) : OutKept s0 (execAst f a s) := by
  unfold execAst
  repeat' (first | (with_reducible (first | assumption | intro _ | apply OutKept.next | apply State.anvOp_kept | fail_if_no_progress (apply upd_kept))) | split | (dsimp only; split))

theorem execVadd_kept {s0 : State} (f : Fin 32) (a : Fin 32) (s : State) (hs : Kept s0 s) : OutKept s0 (execVadd f a s) := by
  unfold execVadd
  repeat' (first | (with_reducible (first | assumption | intro _ | apply OutKept.next | apply State.anvOp_kept | fail_if_no_progress (apply upd_kept))) | split | (dsimp only; split))

theorem execVsub_kept {s0 : State} (f : Fin 32) (a : Fin 32) (s : State) (hs : Kept s0 s) : OutKept s0 (execVsub f a s) := by
  unfold execVsub
  repeat' (first | (with_reducible (first | assumption | intro _ | apply OutKept.next | apply State.anvOp_kept | fail_if_no_progress (apply upd_kept))) | split | (dsimp only; split))

theorem execVmul_kept {s0 : State} (f : Fin 32) (a : Fin 32) (s : State) (hs : Kept s0 s) : OutKept s0 (execVmul f a s) := by
  unfold execVmul
  repeat' (first | (with_reducible (first | assumption | intro _ | apply OutKept.next | apply State.anvOp_kept | fail_if_no_progress (apply upd_kept))) | split | (dsimp only; split))

theorem execVmac_kept {s0 : State} (f : Fin 32) (a : Fin 32) (s : State) (hs : Kept s0 s) : OutKept s0 (execVmac f a s) := by
  unfold execVmac
  repeat' (first | (with_reducible (first | assumption | intro _ | apply OutKept.next | apply State.anvOp_kept | fail_if_no_progress (apply upd_kept))) | split | (dsimp only; split))

theorem execVmax_kept {s0 : State} (f : Fin 32) (a : Fin 32) (s : State) (hs : Kept s0 s) : OutKept s0 (execVmax f a s) := by
  unfold execVmax
  repeat' (first | (with_reducible (first | assumption | intro _ | apply OutKept.next | apply State.anvOp_kept | fail_if_no_progress (apply upd_kept))) | split | (dsimp only; split))

theorem execVmin_kept {s0 : State} (f : Fin 32) (a : Fin 32) (s : State) (hs : Kept s0 s) : OutKept s0 (execVmin f a s) := by
  unfold execVmin
  repeat' (first | (with_reducible (first | assumption | intro _ | apply OutKept.next | apply State.anvOp_kept | fail_if_no_progress (apply upd_kept))) | split | (dsimp only; split))

theorem execVshr_kept {s0 : State} (f : Fin 32) (a : Fin 32) (s : State) (hs : Kept s0 s) : OutKept s0 (execVshr f a s) := by
  unfold execVshr
  repeat' (first | (with_reducible (first | assumption | intro _ | apply OutKept.next | apply State.anvOp_kept | fail_if_no_progress (apply upd_kept))) | split | (dsimp only; split))

theorem execVshl_kept {s0 : State} (f : Fin 32) (a : Fin 32) (s : State) (hs : Kept s0 s) : OutKept s0 (execVshl f a s) := by
  unfold execVshl
  repeat' (first | (with_reducible (first | assumption | intro _ | apply OutKept.next | apply State.anvOp_kept | fail_if_no_progress (apply upd_kept))) | split | (dsimp only; split))

theorem execVlog_kept {s0 : State} (f : Fin 32) (a : Fin 32) (s : State) (hs : Kept s0 s) : OutKept s0 (execVlog f a s) := by
  unfold execVlog
  repeat' (first | (with_reducible (first | assumption | intro _ | apply OutKept.next | apply State.anvOp_kept | fail_if_no_progress (apply upd_kept))) | split | (dsimp only; split))

theorem execVswap_kept {s0 : State} (f : Fin 32) (a : Fin 32) (s : State) (hs : Kept s0 s) : OutKept s0 (execVswap f a s) := by
  unfold execVswap
  repeat' (first | (with_reducible (first | assumption | intro _ | apply OutKept.next | apply State.anvOp_kept | apply ite_fst_kept | apply ite_out_kept | apply ite_kept | fail_if_no_progress (apply upd_kept))) | split | (dsimp only; split))

theorem execAclr_kept {s0 : State} (f : Fin 32) (a : Fin 32) (s : State) (hs : Kept s0 s) : OutKept s0 (execAclr f a s) := by
  unfold execAclr
  repeat' (first | (with_reducible (first | assumption | intro _ | apply OutKept.next | apply State.anvOp_kept | fail_if_no_progress (apply upd_kept))) | split | (dsimp only; split))

theorem execArnd_kept {s0 : State} (f : Fin 32) (a : Fin 32) (s : State) (hs : Kept s0 s) : OutKept s0 (execArnd f a s) := by
  unfold execArnd
  repeat' (first | (with_reducible (first | assumption | intro _ | apply OutKept.next | apply State.anvOp_kept | fail_if_no_progress (apply upd_kept))) | split | (dsimp only; split))

theorem execVbcast_kept {s0 : State} (f : Fin 32) (a : Fin 32) (s : State) (hs : Kept s0 s) : OutKept s0 (execVbcast f a s) := by
  unfold execVbcast
  repeat' (first | (with_reducible (first | assumption | intro _ | apply OutKept.next | apply State.anvOp_kept | fail_if_no_progress (apply upd_kept))) | split | (dsimp only; split))

theorem execVlane_kept {s0 : State} (f : Fin 32) (a : Fin 32) (s : State) (hs : Kept s0 s) : OutKept s0 (execVlane f a s) := by
  unfold execVlane
  repeat' (first | (with_reducible (first | assumption | intro _ | apply OutKept.next | apply State.anvOp_kept | fail_if_no_progress (apply upd_kept))) | split | (dsimp only; split))

theorem execCmul_kept {s0 : State} (f : Fin 32) (a : Fin 32) (s : State) (hs : Kept s0 s) : OutKept s0 (execCmul f a s) := by
  unfold execCmul
  repeat' (first | (with_reducible (first | assumption | intro _ | apply OutKept.next | apply State.anvOp_kept | fail_if_no_progress (apply upd_kept))) | split | (dsimp only; split))

theorem execCmac_kept {s0 : State} (f : Fin 32) (a : Fin 32) (s : State) (hs : Kept s0 s) : OutKept s0 (execCmac f a s) := by
  unfold execCmac
  repeat' (first | (with_reducible (first | assumption | intro _ | apply OutKept.next | apply State.anvOp_kept | fail_if_no_progress (apply upd_kept))) | split | (dsimp only; split))

theorem execBfly4_kept {s0 : State} (f : Fin 32) (a : Fin 32) (s : State) (hs : Kept s0 s) : OutKept s0 (execBfly4 f a s) := by
  unfold execBfly4
  repeat' (first | (with_reducible (first | assumption | intro _ | apply OutKept.next | apply State.anvOp_kept | fail_if_no_progress (apply upd_kept))) | split | (dsimp only; split))

theorem execBfly2_kept {s0 : State} (f : Fin 32) (a : Fin 32) (s : State) (hs : Kept s0 s) : OutKept s0 (execBfly2 f a s) := by
  unfold execBfly2
  repeat' (first | (with_reducible (first | assumption | intro _ | apply OutKept.next | apply State.anvOp_kept | fail_if_no_progress (apply upd_kept))) | split | (dsimp only; split))

theorem execWin_kept {s0 : State} (f : Fin 32) (a : Fin 32) (s : State) (hs : Kept s0 s) : OutKept s0 (execWin f a s) := by
  unfold execWin
  repeat' (first | (with_reducible (first | assumption | intro _ | apply OutKept.next | apply State.anvOp_kept | fail_if_no_progress (apply upd_kept))) | split | (dsimp only; split))

theorem execMag2_kept {s0 : State} (f : Fin 32) (a : Fin 32) (s : State) (hs : Kept s0 s) : OutKept s0 (execMag2 f a s) := by
  unfold execMag2
  repeat' (first | (with_reducible (first | assumption | intro _ | apply OutKept.next | apply State.anvOp_kept | apply ite_out_kept | apply ite_kept | fail_if_no_progress (apply upd_kept))) | split | (dsimp only; split))

theorem execMag2Db_kept {s0 : State} (f : Fin 32) (a : Fin 32) (s : State) (hs : Kept s0 s) : OutKept s0 (execMag2Db f a s) := by
  unfold execMag2Db
  repeat' (first | (with_reducible (first | assumption | intro _ | apply OutKept.next | apply State.anvOp_kept | apply ite_out_kept | apply ite_kept | fail_if_no_progress (apply upd_kept))) | split | (dsimp only; split))

theorem execLog2a_kept {s0 : State} (f : Fin 32) (a : Fin 32) (s : State) (hs : Kept s0 s) : OutKept s0 (execLog2a f a s) := by
  unfold execLog2a
  repeat' (first | (with_reducible (first | assumption | intro _ | apply OutKept.next | apply State.anvOp_kept | fail_if_no_progress (apply upd_kept))) | split | (dsimp only; split))

theorem execVmaxi_kept {s0 : State} (f : Fin 32) (a : Fin 32) (s : State) (hs : Kept s0 s) : OutKept s0 (execVmaxi f a s) := by
  unfold execVmaxi
  repeat' (first | (with_reducible (first | assumption | intro _ | apply OutKept.next | apply State.anvOp_kept | fail_if_no_progress (apply upd_kept))) | split | (dsimp only; split))

theorem execVmini_kept {s0 : State} (f : Fin 32) (a : Fin 32) (s : State) (hs : Kept s0 s) : OutKept s0 (execVmini f a s) := by
  unfold execVmini
  repeat' (first | (with_reducible (first | assumption | intro _ | apply OutKept.next | apply State.anvOp_kept | fail_if_no_progress (apply upd_kept))) | split | (dsimp only; split))

theorem execHist_kept {s0 : State} (f : Fin 32) (a : Fin 32) (s : State) (hs : Kept s0 s) : OutKept s0 (execHist f a s) := by
  unfold execHist
  repeat' (first | (with_reducible (first | assumption | intro _ | apply OutKept.next | apply State.anvOp_kept | fail_if_no_progress (apply upd_kept))) | split | (dsimp only; split))

theorem State.startMove_kept {s0 : State} (s : State) (f : ℕ) (a : ℕ) (m : MoveSt) (hs : Kept s0 s) : Kept s0 (State.startMove s f a m) := by
  unfold State.startMove
  repeat' (first | (with_reducible (first | assumption | apply State.kernelFault_kept | apply State.setAnv_kept | apply ite_kept | fail_if_no_progress (apply upd_kept))) | split | (dsimp only; split))

theorem moveStart_kept {s0 : State} (f : ℕ) (a : ℕ) (s : State) (hs : Kept s0 s) : Kept s0 (moveStart f a s) := by
  unfold moveStart
  repeat' (first | (with_reducible (first | assumption | intro _ | apply State.dispatch_kept | apply State.startMove_kept | fail_if_no_progress (apply upd_kept))) | split | (dsimp only; split))

theorem execMove_kept {s0 : State} (f : Fin 32) (a : Fin 32) (s : State) (hs : Kept s0 s) : OutKept s0 (execMove f a s) := by
  unfold execMove
  repeat' (first | (with_reducible (first | assumption | intro _ | apply OutKept.next | apply moveStart_kept | fail_if_no_progress (apply upd_kept))) | split | (dsimp only; split))

theorem tload_kept {s0 : State} (f : ℕ) (a : ℕ) (s : State) (hs : Kept s0 s) : Kept s0 (tload f a s) := by
  unfold tload
  repeat' (first | (with_reducible (first | assumption | intro _ | apply State.dispatch_kept | apply State.endInstr_kept | apply State.startMove_kept | apply ite_kept | fail_if_no_progress (apply upd_kept))) | split | (dsimp only; split))

theorem execTload_kept {s0 : State} (f : Fin 32) (a : Fin 32) (s : State) (hs : Kept s0 s) : OutKept s0 (execTload f a s) := by
  unfold execTload
  repeat' (first | (with_reducible (first | assumption | intro _ | apply OutKept.next | apply tload_kept | fail_if_no_progress (apply upd_kept))) | split | (dsimp only; split))

theorem State.moverRead_kept {s0 : State} (s : State) (b : Billet) (m : MoveSt) (errs : List SecErr) (hs : Kept s0 s) : Kept s0 (State.moverRead s b m errs).1 := by
  unfold State.moverRead
  repeat' (first | (with_reducible (first | assumption | intro _ | apply State.mcRead_kept | apply State.next_kept | apply State.spaceRead_kept | apply ite_res_kept | apply ite_fst_kept | apply foldl_fst_kept | apply ite_kept | apply foldl_kept | fail_if_no_progress (apply upd_kept))) | split | (dsimp only; split))

theorem State.moverWrite_kept {s0 : State} (s : State) (b : Billet) (m : MoveSt) (bytes : List (BitVec 8)) (hs : Kept s0 s) : Kept s0 (State.moverWrite s b m bytes) := by
  unfold State.moverWrite
  repeat' (first | (with_reducible (first | assumption | intro _ | apply State.mcWrite_kept | apply State.spaceWrite_kept | apply ite_fst_kept | apply foldl_fst_kept | apply ite_kept | apply foldl_kept | fail_if_no_progress (apply upd_kept))) | split | (dsimp only; split))

theorem moveComplete_kept {s0 : State} (f : ℕ) (a : ℕ) (wait : ℕ) (errs : List SecErr) (s : State) (hs : Kept s0 s) : Kept s0 (moveComplete f a wait errs s) := by
  unfold moveComplete
  repeat' (first | (with_reducible (first | assumption | apply State.memWake_kept | apply State.moverWrite_kept | apply State.endInstr_kept | apply State.moverRead_kept | apply ite_fst_kept | apply ite_kept | fail_if_no_progress (apply upd_kept))) | split | (dsimp only; split))

theorem execMoveComplete_kept {s0 : State} (f : Fin 32) (a : Fin 32) (wait : ℕ) (errs : List SecErr) (s : State) (hs : Kept s0 s) : OutKept s0 (execMoveComplete f a wait errs s) := by
  unfold execMoveComplete
  repeat' (first | (with_reducible (first | assumption | intro _ | apply OutKept.next | apply moveComplete_kept | fail_if_no_progress (apply upd_kept))) | split | (dsimp only; split))

theorem State.groupStep_kept {s0 : State} (s : State) (b : Billet) (hs : Kept s0 s) : Kept s0 (State.groupStep s b) := by
  unfold State.groupStep
  repeat' (first | (with_reducible (first | assumption | apply State.setCtx_kept | apply State.placeParts_kept | apply ite_fst_kept | apply ite_kept | fail_if_no_progress (apply upd_kept))) | split | (dsimp only; split))

theorem State.completeBillet_kept {s0 : State} (s : State) (f : ℕ) (a : ℕ) (b : Billet) (cyc : ℕ) (sn : ℕ) (list : List (BitVec 8)) (hs : Kept s0 s) : Kept s0 (State.completeBillet s f a b cyc sn list) := by
  unfold State.completeBillet
  repeat' (first | (with_reducible (first | assumption | apply State.pinPop_kept | apply State.setAnv_kept | apply State.addWrap_kept | apply State.groupStep_kept | apply State.setCtx_kept | apply State.publish_kept | apply State.ctxFault_kept | apply State.ctxSettle_kept | apply State.pinBegin_kept | apply ite_kept | fail_if_no_progress (apply upd_kept))) | split | (dsimp only; split))

theorem bdone_kept {s0 : State} (f : ℕ) (a : ℕ) (s : State) (hs : Kept s0 s) : Kept s0 (bdone f a s) := by
  unfold bdone
  repeat' (first | (with_reducible (first | assumption | intro _ | apply State.dispatch_kept | apply State.kernelFault_kept | apply State.completeBillet_kept | apply ite_kept | fail_if_no_progress (apply upd_kept))) | split | (dsimp only; split))

theorem execBdone_kept {s0 : State} (f : Fin 32) (a : Fin 32) (s : State) (hs : Kept s0 s) : OutKept s0 (execBdone f a s) := by
  unfold execBdone
  repeat' (first | (with_reducible (first | assumption | intro _ | apply OutKept.next | apply bdone_kept | fail_if_no_progress (apply upd_kept))) | split | (dsimp only; split))

theorem publishCopyEnd_kept {s0 : State} (f : ℕ) (a : ℕ) (s : State) (hs : Kept s0 s) : Kept s0 (publishCopyEnd f a s) := by
  unfold publishCopyEnd
  repeat' (first | (with_reducible (first | assumption | apply State.pinBegin_kept | apply State.setAnv_kept | apply ite_kept | fail_if_no_progress (apply upd_kept))) | split | (dsimp only; split))

theorem execPublishCopyEnd_kept {s0 : State} (f : Fin 32) (a : Fin 32) (s : State) (hs : Kept s0 s) : OutKept s0 (execPublishCopyEnd f a s) := by
  unfold execPublishCopyEnd
  repeat' (first | (with_reducible (first | assumption | intro _ | apply OutKept.next | apply publishCopyEnd_kept | fail_if_no_progress (apply upd_kept))) | split | (dsimp only; split))

theorem State.haltRequest_kept {s0 : State} (s : State) (f : ℕ) (a : ℕ) (hs : Kept s0 s) : Kept s0 (State.haltRequest s f a) := by
  unfold State.haltRequest
  repeat' (first | (with_reducible (first | assumption | apply State.setF_kept | apply State.setB_kept | apply ite_kept | fail_if_no_progress (apply upd_kept))) | split | (dsimp only; split))

theorem brk_kept {s0 : State} (f : ℕ) (a : ℕ) (s : State) (hs : Kept s0 s) : Kept s0 (brk f a s) := by
  unfold brk
  repeat' (first | (with_reducible (first | assumption | intro _ | apply State.dispatch_kept | apply State.haltRequest_kept | apply State.endInstr_kept | apply ite_kept | fail_if_no_progress (apply upd_kept))) | split | (dsimp only; split))

theorem execBrk_kept {s0 : State} (f : Fin 32) (a : Fin 32) (s : State) (hs : Kept s0 s) : OutKept s0 (execBrk f a s) := by
  unfold execBrk
  repeat' (first | (with_reducible (first | assumption | intro _ | apply OutKept.next | apply brk_kept | fail_if_no_progress (apply upd_kept))) | split | (dsimp only; split))

theorem runaway_kept {s0 : State} (f : ℕ) (a : ℕ) (s : State) (hs : Kept s0 s) : Kept s0 (runaway f a s) := by
  unfold runaway
  repeat' (first | (with_reducible (first | assumption | apply State.kernelFault_kept | apply ite_kept | fail_if_no_progress (apply upd_kept))) | split | (dsimp only; split))

theorem execRunaway_kept {s0 : State} (f : Fin 32) (a : Fin 32) (s : State) (hs : Kept s0 s) : OutKept s0 (execRunaway f a s) := by
  unfold execRunaway
  repeat' (first | (with_reducible (first | assumption | intro _ | apply OutKept.next | apply runaway_kept | fail_if_no_progress (apply upd_kept))) | split | (dsimp only; split))

theorem badOpcode_kept {s0 : State} (f : ℕ) (a : ℕ) (s : State) (hs : Kept s0 s) : Kept s0 (badOpcode f a s) := by
  unfold badOpcode
  repeat' (first | (with_reducible (first | assumption | apply State.kernelFault_kept | apply ite_kept | fail_if_no_progress (apply upd_kept))) | split | (dsimp only; split))

theorem execBadOpcode_kept {s0 : State} (f : Fin 32) (a : Fin 32) (s : State) (hs : Kept s0 s) : OutKept s0 (execBadOpcode f a s) := by
  unfold execBadOpcode
  repeat' (first | (with_reducible (first | assumption | intro _ | apply OutKept.next | apply badOpcode_kept | fail_if_no_progress (apply upd_kept))) | split | (dsimp only; split))

end Sys2Proof.Machine
end

