-- ==== Sys2Proof/Laws/KeptImages.lean ====
section
/-!
SUPPORT. Every function of Machine/Images.lean that answers a state keeps what `Kept` names.
-/
set_option linter.all false
namespace Sys2Proof.Machine

theorem State.takeEngine_kept {s0 : State} (s : State) (c : LongCmd) (hs : Kept s0 s) : Kept s0 (State.takeEngine s c) := by
  unfold State.takeEngine
  repeat' (first | (with_reducible (first | assumption | fail_if_no_progress (apply upd_kept))) | split | (dsimp only; split))

theorem State.freeEngine_kept {s0 : State} (s : State) (c : LongCmd) (hs : Kept s0 s) : Kept s0 (State.freeEngine s c) := by
  unfold State.freeEngine
  repeat' (first | (with_reducible (first | assumption | apply ite_fst_kept | apply ite_kept | fail_if_no_progress (apply upd_kept))) | split | (dsimp only; split))

theorem State.engineStep_kept {s0 : State} (s : State) (c : LongCmd) (done : LongCmd → State → State) (hs : Kept s0 s) (hdone : ∀ (y0 : LongCmd) (y1 : State), Kept s0 y1 → Kept s0 (done y0 y1)) : Kept s0 (State.engineStep s c done) := by
  unfold State.engineStep
  repeat' (first | (with_reducible (first | assumption | intro _ | apply hdone | apply State.takeEngine_kept | apply State.partialEntry_kept | apply State.putLong_kept | apply State.freeEngine_kept | apply ite_kept | fail_if_no_progress (apply upd_kept))) | split | (dsimp only; split))

end Sys2Proof.Machine
end

