-- ==== Sys2Proof/Laws/KeptForge.lean ====
section
/-!
SUPPORT. Every function of Machine/Forge.lean that answers a state keeps what `Kept` names.
-/
set_option linter.all false
namespace Sys2Proof.Machine

theorem State.reloadWord_kept {s0 : State} (s : State) (f : ℕ) (i : ℕ) (hs : Kept s0 s) : Kept s0 (State.reloadWord s f i) := by
  unfold State.reloadWord
  repeat' (first | (with_reducible (first | assumption | apply ite_kept | fail_if_no_progress (apply upd_kept))) | split | (dsimp only; split))

theorem State.dropTags_kept {s0 : State} (s : State) (f : ℕ) (hs : Kept s0 s) : Kept s0 (State.dropTags s f) := by
  unfold State.dropTags
  repeat' (first | (with_reducible (first | assumption | intro _ | apply State.setAnv_kept | apply foldl_kept | fail_if_no_progress (apply upd_kept))) | split | (dsimp only; split))

theorem State.masterDir_kept {s0 : State} (s : State) (f : ℕ) (hs : Kept s0 s) : Kept s0 (State.masterDir s f) := by
  unfold State.masterDir
  repeat' (first | (with_reducible (first | assumption | intro _ | apply State.setF_kept | apply foldl_kept | fail_if_no_progress (apply upd_kept))) | split | (dsimp only; split))

theorem State.reloadTry_kept {s0 : State} (s : State) (f : ℕ) (hs : Kept s0 s) : Kept s0 (State.reloadTry s f).1 := by
  unfold State.reloadTry
  repeat' (first | (with_reducible (first | assumption | intro _ | apply State.reloadStart_kept | apply State.fenceEnter_kept | apply State.forgeLeave_kept | apply State.wakeBlk_kept | apply ite_fst_kept | apply ite_kept | fail_if_no_progress (apply upd_kept))) | split | (dsimp only; split))

theorem ucodeNext_kept {s0 : State} (c : LongCmd) (s : State) (hs : Kept s0 s) : Kept s0 (ucodeNext c s) := by
  unfold ucodeNext
  repeat' (first | (with_reducible (first | assumption | apply State.finishLong_kept | apply State.putLong_kept | apply State.reloadTry_kept | apply ite_fst_kept | apply ite_kept | fail_if_no_progress (apply upd_kept))) | split | (dsimp only; split))

theorem State.reloadTell_kept {s0 : State} (s : State) (f : ℕ) (ok : Bool) (hs : Kept s0 s) : Kept s0 (State.reloadTell s f ok) := by
  unfold State.reloadTell
  repeat' (first | (with_reducible (first | assumption | intro _ | apply State.finishLong_kept | apply ucodeNext_kept | apply State.partialEntry_kept | apply State.putLong_kept | apply ite_kept | apply foldl_kept | fail_if_no_progress (apply upd_kept))) | split | (dsimp only; split))

theorem State.reloadEnd_kept {s0 : State} (s : State) (f : ℕ) (ok : Bool) (hs : Kept s0 s) : Kept s0 (State.reloadEnd s f ok) := by
  unfold State.reloadEnd
  repeat' (first | (with_reducible (first | assumption | apply State.setB_kept | apply State.setDrain_kept | apply State.setReload_kept | apply State.bresetEnd_kept | apply State.reloadTell_kept | apply ite_kept | fail_if_no_progress (apply upd_kept))) | split | (dsimp only; split))

theorem State.reloadRun_kept {s0 : State} (s : State) (f : ℕ) (hs : Kept s0 s) : Kept s0 (State.reloadRun s f) := by
  unfold State.reloadRun
  repeat' (first | (with_reducible (first | assumption | apply State.reloadEnd_kept | apply ite_kept | fail_if_no_progress (apply upd_kept))) | split | (dsimp only; split))

theorem forgeReloadStep_kept {s0 : State} (f : ℕ) (ok : Bool) (s : State) (hs : Kept s0 s) : Kept s0 (forgeReloadStep f ok s) := by
  unfold forgeReloadStep
  repeat' (first | (with_reducible (first | assumption | intro _ | apply State.reloadRun_kept | apply State.partialEntry_kept | apply State.putLong_kept | apply State.reloadEnd_kept | apply State.setReload_kept | apply State.reloadWord_kept | apply State.fenceLeave_kept | apply State.masterDir_kept | apply State.dropTags_kept | apply State.setDrain_kept | apply ite_kept | apply foldl_kept | fail_if_no_progress (apply upd_kept))) | split | (dsimp only; split))

theorem execForgeReloadStep_kept {s0 : State} (f : Fin 32) (ok : Bool) (s : State) (hs : Kept s0 s) : OutKept s0 (execForgeReloadStep f ok s) := by
  unfold execForgeReloadStep
  repeat' (first | (with_reducible (first | assumption | intro _ | apply OutKept.next | apply forgeReloadStep_kept | fail_if_no_progress (apply upd_kept))) | split | (dsimp only; split))

theorem forgeReloadStart_kept {s0 : State} (f : ℕ) (s : State) (hs : Kept s0 s) : Kept s0 (forgeReloadStart f s).st := by
  unfold forgeReloadStart
  repeat' (first | (with_reducible (first | assumption | intro _ | apply resDone_kept | apply State.setB_kept | apply State.reloadTry_kept | apply ite_res_kept | apply ite_fst_kept | apply ite_kept | fail_if_no_progress (apply upd_kept))) | split | (dsimp only; split))

theorem forgeReloadCmdStep_kept {s0 : State} (c : LongCmd) (s : State) (hs : Kept s0 s) : Kept s0 (forgeReloadCmdStep c s) := by
  unfold forgeReloadCmdStep
  repeat' (first | (with_reducible (first | assumption | apply State.finishLong_kept | apply State.reloadTry_kept | apply State.putLong_kept | apply ite_fst_kept | apply ite_kept | fail_if_no_progress (apply upd_kept))) | split | (dsimp only; split))

theorem execForgeReload_kept {s0 : State} (k : Fin 16) (f : Fetch) (s : State) (hs : Kept s0 s) : OutKept s0 (execForgeReload k f s) := by
  unfold execForgeReload
  repeat' (first | (with_reducible (first | assumption | intro _ | apply OutKept.next | apply State.startCmd_kept | apply forgeReloadStart_kept | fail_if_no_progress (apply upd_kept))) | split | (dsimp only; split))

theorem forgeOfflineStart_kept {s0 : State} (f : ℕ) (s : State) (hs : Kept s0 s) : Kept s0 (forgeOfflineStart f s).st := by
  unfold forgeOfflineStart
  repeat' (first | (with_reducible (first | assumption | intro _ | apply resDone_kept | apply ite_res_kept | apply ite_kept | fail_if_no_progress (apply upd_kept))) | split | (dsimp only; split))

theorem forgeOfflineStep_kept {s0 : State} (c : LongCmd) (s : State) (hs : Kept s0 s) : Kept s0 (forgeOfflineStep c s) := by
  unfold forgeOfflineStep
  repeat' (first | (with_reducible (first | assumption | apply State.finishLong_kept | apply State.forgeLeave_kept | apply State.putLong_kept | apply State.wakeBlk_kept | apply State.setDrain_kept | apply ite_kept | fail_if_no_progress (apply upd_kept))) | split | (dsimp only; split))

theorem execForgeOffline_kept {s0 : State} (k : Fin 16) (f : Fetch) (s : State) (hs : Kept s0 s) : OutKept s0 (execForgeOffline k f s) := by
  unfold execForgeOffline
  repeat' (first | (with_reducible (first | assumption | intro _ | apply OutKept.next | apply State.startCmd_kept | apply forgeOfflineStart_kept | fail_if_no_progress (apply upd_kept))) | split | (dsimp only; split))

theorem State.kernelWrite_kept {s0 : State} (s : State) (f : ℕ) (base : ℕ) (code : List (BitVec 32)) (hs : Kept s0 s) : Kept s0 (State.kernelWrite s f base code) := by
  unfold State.kernelWrite
  repeat' (first | (with_reducible (first | assumption | intro _ | apply State.setF_kept | apply ite_kept | apply foldl_kept | fail_if_no_progress (apply upd_kept))) | split | (dsimp only; split))

theorem State.masterWrite_kept {s0 : State} (s : State) (im : KImage) (code : List (BitVec 32)) (hs : Kept s0 s) : Kept s0 (State.masterWrite s im code) := by
  unfold State.masterWrite
  repeat' (first | (with_reducible (first | assumption | fail_if_no_progress (apply upd_kept))) | split | (dsimp only; split))

theorem kernelVerified_kept {s0 : State} (c : LongCmd) (s : State) (hs : Kept s0 s) : Kept s0 (kernelVerified c s) := by
  unfold kernelVerified
  repeat' (first | (with_reducible (first | assumption | apply State.finishLong_kept | apply State.putLong_kept | apply ite_kept | fail_if_no_progress (apply upd_kept))) | split | (dsimp only; split))

theorem kernelLoadStep_kept {s0 : State} (c : LongCmd) (s : State) (hs : Kept s0 s) : Kept s0 (kernelLoadStep c s) := by
  unfold kernelLoadStep
  repeat' (first | (with_reducible (first | assumption | intro _ | apply State.engineStep_kept | apply kernelVerified_kept | apply State.finishLong_kept | apply State.wakeBlk_kept | apply State.putLong_kept | apply State.kernelWrite_kept | apply State.partialEntry_kept | apply State.masterWrite_kept | apply ite_kept | fail_if_no_progress (apply upd_kept))) | split | (dsimp only; split))

theorem kernelLoadStart_kept {s0 : State} (image : HostRead) (s : State) (hs : Kept s0 s) : Kept s0 (kernelLoadStart image s).st := by
  unfold kernelLoadStart
  repeat' (first | (with_reducible (first | assumption | intro _ | apply resDone_kept | apply ite_res_kept | apply ite_kept | fail_if_no_progress (apply upd_kept))) | split | (dsimp only; split))

theorem execKernelLoad_kept {s0 : State} (k : Fin 16) (f : Fetch) (s : State) (hs : Kept s0 s) : OutKept s0 (execKernelLoad k f s) := by
  unfold execKernelLoad
  repeat' (first | (with_reducible (first | assumption | intro _ | apply OutKept.next | apply State.startCmd_kept | apply kernelLoadStart_kept | fail_if_no_progress (apply upd_kept))) | split | (dsimp only; split))

theorem ucodeInstall_kept {s0 : State} (c : LongCmd) (s : State) (hs : Kept s0 s) : Kept s0 (ucodeInstall c s) := by
  unfold ucodeInstall
  repeat' (first | (with_reducible (first | assumption | apply State.putLong_kept | apply State.setWordsAt_kept | apply ucodeNext_kept | apply ite_kept | fail_if_no_progress (apply upd_kept))) | split | (dsimp only; split))

theorem ucodeVerified_kept {s0 : State} (c : LongCmd) (s : State) (hs : Kept s0 s) : Kept s0 (ucodeVerified c s) := by
  unfold ucodeVerified
  repeat' (first | (with_reducible (first | assumption | apply State.finishLong_kept | apply State.putLong_kept | apply ite_kept | fail_if_no_progress (apply upd_kept))) | split | (dsimp only; split))

theorem ucodeLoadStep_kept {s0 : State} (c : LongCmd) (s : State) (hs : Kept s0 s) : Kept s0 (ucodeLoadStep c s) := by
  unfold ucodeLoadStep
  repeat' (first | (with_reducible (first | assumption | intro _ | apply State.engineStep_kept | apply ucodeVerified_kept | apply ucodeInstall_kept | apply ucodeNext_kept | apply ite_kept | fail_if_no_progress (apply upd_kept))) | split | (dsimp only; split))

theorem ucodeLoadStart_kept {s0 : State} (image : HostRead) (s : State) (hs : Kept s0 s) : Kept s0 (ucodeLoadStart image s).st := by
  unfold ucodeLoadStart
  repeat' (first | (with_reducible (first | assumption | intro _ | apply resDone_kept | apply ite_res_kept | apply ite_kept | fail_if_no_progress (apply upd_kept))) | split | (dsimp only; split))

theorem execUcodeLoad_kept {s0 : State} (k : Fin 16) (f : Fetch) (s : State) (hs : Kept s0 s) : OutKept s0 (execUcodeLoad k f s) := by
  unfold execUcodeLoad
  repeat' (first | (with_reducible (first | assumption | intro _ | apply OutKept.next | apply State.startCmd_kept | apply ucodeLoadStart_kept | fail_if_no_progress (apply upd_kept))) | split | (dsimp only; split))

theorem State.forgeTick_kept {s0 : State} (s : State) (hs : Kept s0 s) : Kept s0 (State.forgeTick s) := by
  unfold State.forgeTick
  repeat' (first | (with_reducible (first | assumption | intro _ | apply State.drainForge_kept | apply State.reloadRun_kept | apply ite_kept | apply foldl_kept | fail_if_no_progress (apply upd_kept))) | split | (dsimp only; split))

theorem dbgHaltWritten_kept {s0 : State} (f : ℕ) (v : ℕ) (s : State) (hs : Kept s0 s) : Kept s0 (dbgHaltWritten f v s) := by
  unfold dbgHaltWritten
  repeat' (first | (with_reducible (first | assumption | intro _ | apply State.setF_kept | apply State.haltRequest_kept | apply ite_kept | apply foldl_kept | fail_if_no_progress (apply upd_kept))) | split | (dsimp only; split))

theorem haltApplied_kept {s0 : State} (f : ℕ) (a : ℕ) (s : State) (hs : Kept s0 s) : Kept s0 (haltApplied f a s) := by
  unfold haltApplied
  repeat' (first | (with_reducible (first | assumption | apply State.setB_kept | apply State.giveUp_kept | apply State.setAnv_kept | apply ite_kept | fail_if_no_progress (apply upd_kept))) | split | (dsimp only; split))

theorem execHaltApplied_kept {s0 : State} (f : Fin 32) (a : Fin 32) (s : State) (hs : Kept s0 s) : OutKept s0 (execHaltApplied f a s) := by
  unfold execHaltApplied
  repeat' (first | (with_reducible (first | assumption | intro _ | apply OutKept.next | apply haltApplied_kept | fail_if_no_progress (apply upd_kept))) | split | (dsimp only; split))

theorem dbgReleaseWritten_kept {s0 : State} (f : ℕ) (v : ℕ) (s : State) (hs : Kept s0 s) : Kept s0 (dbgReleaseWritten f v s) := by
  unfold dbgReleaseWritten
  repeat' (first | (with_reducible (first | assumption | intro _ | apply State.setAnv_kept | apply State.setB_kept | apply State.setF_kept | apply ite_kept | apply foldl_kept | fail_if_no_progress (apply upd_kept))) | split | (dsimp only; split))

theorem State.dbgSdata_kept {s0 : State} (s : State) (f : ℕ) (hs : Kept s0 s) : Kept s0 (State.dbgSdata s f).1 := by
  unfold State.dbgSdata
  repeat' (first | (with_reducible (first | assumption | intro _ | apply State.setF_kept | apply ite_fst_kept | apply ite_kept | fail_if_no_progress (apply upd_kept))) | split | (dsimp only; split))

end Sys2Proof.Machine
end

