-- ==== Sys2Proof/Laws/KeptCtxCmd.lean ====
section
/-!
SUPPORT. Every function of Machine/CtxCmd.lean that answers a state keeps what `Kept` names.
-/
set_option linter.all false
namespace Sys2Proof.Machine

theorem State.ctxBegin_kept {s0 : State} (s : State) (c : ℕ) (home : ℕ) (load : ℕ) (im : KImage) (e : ℕ × ℕ × ℕ) (place : ℕ × ℕ × ℕ) (window : Option (List (BitVec 8))) (limits : Option (List (BitVec 8))) (hs : Kept s0 s) : Kept s0 (State.ctxBegin s c home load im e place window limits) := by
  unfold State.ctxBegin
  repeat' (first | (with_reducible (first | assumption | apply State.setWordsAt_kept | apply State.setCtx_kept | apply State.setF_kept | apply State.setB_kept | apply State.addLoad_kept | apply State.densClear_kept | apply State.putBytes_kept | apply State.syncWindow_kept | apply State.setAnv_kept | apply ite_fst_kept | apply ite_kept | fail_if_no_progress (apply upd_kept))) | split | (dsimp only; split))

theorem State.ctxStart_kept {s0 : State} (s : State) (c : ℕ) (window : Option (List (BitVec 8))) (limits : Option (List (BitVec 8))) (hs : Kept s0 s) : Kept s0 (State.ctxStart s c window limits).1 := by
  unfold State.ctxStart
  repeat' (first | (with_reducible (first | assumption | intro _ | apply State.wakeBlk_kept | apply State.ctxBegin_kept | apply ite_fst_kept | apply ite_kept | fail_if_no_progress (apply upd_kept))) | split | (dsimp only; split))

theorem ctxStartCmd_kept {s0 : State} (k : ℕ) (c : ℕ) (window : Option HostRead) (limits : Option HostRead) (s : State) (hs : Kept s0 s) : Kept s0 (ctxStartCmd k c window limits s).st := by
  unfold ctxStartCmd
  repeat' (first | (with_reducible (first | assumption | intro _ | apply resDone_kept | apply State.ctxResult_kept | apply State.ctxStart_kept | apply ite_res_kept | apply ite_fst_kept | apply ite_kept | fail_if_no_progress (apply upd_kept))) | split | (dsimp only; split))

theorem execCtxStart_kept {s0 : State} (k : Fin 16) (f : Fetch) (s : State) (hs : Kept s0 s) : OutKept s0 (execCtxStart k f s) := by
  unfold execCtxStart
  repeat' (first | (with_reducible (first | assumption | intro _ | apply OutKept.next | apply State.startCmd_kept | apply ctxStartCmd_kept | fail_if_no_progress (apply upd_kept))) | split | (dsimp only; split))

theorem State.ctxHalt_kept {s0 : State} (s : State) (c : ℕ) (hs : Kept s0 s) : Kept s0 (State.ctxHalt s c) := by
  unfold State.ctxHalt
  repeat' (first | (with_reducible (first | assumption | apply State.cancelMod_kept | apply State.setF_kept | apply State.setCtx_kept | fail_if_no_progress (apply upd_kept))) | split | (dsimp only; split))

theorem ctxStopCmd_kept {s0 : State} (k : ℕ) (c : ℕ) (s : State) (hs : Kept s0 s) : Kept s0 (ctxStopCmd k c s).st := by
  unfold ctxStopCmd
  repeat' (first | (with_reducible (first | assumption | intro _ | apply resDone_kept | apply State.ctxResult_kept | apply State.ctxHalt_kept | apply ite_res_kept | apply ite_kept | fail_if_no_progress (apply upd_kept))) | split | (dsimp only; split))

theorem execCtxStop_kept {s0 : State} (k : Fin 16) (f : Fetch) (s : State) (hs : Kept s0 s) : OutKept s0 (execCtxStop k f s) := by
  unfold execCtxStop
  repeat' (first | (with_reducible (first | assumption | intro _ | apply OutKept.next | apply State.ctxSettle_kept | apply State.startCmd_kept | apply ctxStopCmd_kept | fail_if_no_progress (apply upd_kept))) | split | (dsimp only; split))

theorem State.modSet_kept {s0 : State} (s : State) (c : ℕ) (m : ModSt) (hs : Kept s0 s) : Kept s0 (State.modSet s c m) := by
  unfold State.modSet
  repeat' (first | (with_reducible (first | assumption | apply State.cancelMod_kept | apply State.setB_kept | apply State.setCtx_kept | apply State.reclass_kept | fail_if_no_progress (apply upd_kept))) | split | (dsimp only; split))

theorem ctxModifyCmd_kept {s0 : State} (k : ℕ) (c : ℕ) (image : HostRead) (limits : Option HostRead) (s : State) (hs : Kept s0 s) : Kept s0 (ctxModifyCmd k c image limits s).st := by
  unfold ctxModifyCmd
  repeat' (first | (with_reducible (first | assumption | intro _ | apply resDone_kept | apply State.ctxResult_kept | apply State.modSet_kept | apply ite_res_kept | apply ite_kept | fail_if_no_progress (apply upd_kept))) | split | (dsimp only; split))

theorem execCtxModify_kept {s0 : State} (k : Fin 16) (f : Fetch) (s : State) (hs : Kept s0 s) : OutKept s0 (execCtxModify k f s) := by
  unfold execCtxModify
  repeat' (first | (with_reducible (first | assumption | intro _ | apply OutKept.next | apply State.startCmd_kept | apply ctxModifyCmd_kept | fail_if_no_progress (apply upd_kept))) | split | (dsimp only; split))

theorem State.clearQuarter_kept {s0 : State} (s : State) (c : ℕ) (i : ℕ) (hs : Kept s0 s) : Kept s0 (State.clearQuarter s c i) := by
  unfold State.clearQuarter
  repeat' (first | (with_reducible (first | assumption | fail_if_no_progress (apply updBytes_kept) | exact twf_tclear _ _ | exact twf_filter _ | exact id | assumption | fail_if_no_progress (apply upd_kept) | fail_if_no_progress (apply updMem_kept))) | split | (dsimp only; split))

theorem densClearStart_kept {s0 : State} (k : ℕ) (c : ℕ) (s : State) (hs : Kept s0 s) : Kept s0 (densClearStart k c s).st := by
  unfold densClearStart
  repeat' (first | (with_reducible (first | assumption | intro _ | apply resDone_kept | apply State.ctxResult_kept | apply State.clearQuarter_kept | apply ite_res_kept | apply ite_kept | fail_if_no_progress (apply upd_kept))) | split | (dsimp only; split))

theorem densClearStep_kept {s0 : State} (x : LongCmd) (s : State) (hs : Kept s0 s) : Kept s0 (densClearStep x s) := by
  unfold densClearStep
  repeat' (first | (with_reducible (first | assumption | apply State.finishLong_kept | apply State.ctxResult_kept | apply State.putLong_kept | apply State.clearQuarter_kept | apply State.partialEntry_kept | apply ite_kept | fail_if_no_progress (apply upd_kept))) | split | (dsimp only; split))

theorem execDensClear_kept {s0 : State} (k : Fin 16) (f : Fetch) (s : State) (hs : Kept s0 s) : OutKept s0 (execDensClear k f s) := by
  unfold execDensClear
  repeat' (first | (with_reducible (first | assumption | intro _ | apply OutKept.next | apply State.startCmd_kept | apply densClearStart_kept | fail_if_no_progress (apply upd_kept))) | split | (dsimp only; split))

end Sys2Proof.Machine
end

