-- ==== Sys2Proof/Laws/KeptSwitch.lean ====
section
/-!
SUPPORT. Every function of Machine/Switch.lean that answers a state keeps what `Kept` names.
-/
set_option linter.all false
namespace Sys2Proof.Machine

theorem State.putItem_kept {s0 : State} (s : State) (img : CfgImage) (i : CfgItem) (ctl : Bool) (hs : Kept s0 s) : Kept s0 (State.putItem s img i ctl) := by
  unfold State.putItem
  repeat' (first | (with_reducible (first | assumption | intro _ | apply State.setWord_kept | apply ite_kept | apply foldl_kept | fail_if_no_progress (apply upd_kept))) | split | (dsimp only; split))

theorem State.checkItem_kept {s0 : State} (img : CfgImage) (p : State × ℕ) (i : CfgItem) (hp : Kept s0 p.1) : Kept s0 (State.checkItem img p i).1 := by
  unfold State.checkItem
  repeat' (first | (with_reducible (first | assumption | intro _ | apply State.putItem_kept | apply State.setB_kept | apply State.copyBank_kept | apply State.fchStop_kept | apply State.ctxStart_kept | apply State.copyTrgBank_kept | apply State.acqArm_kept | apply ite_fst_kept | apply ite_kept | fail_if_no_progress (apply upd_kept))) | split | (dsimp only; split))

theorem State.stopAll_kept {s0 : State} (s : State) (img : CfgImage) (xs : List CfgItem) (hs : Kept s0 s) : Kept s0 (State.stopAll s img xs) := by
  unfold State.stopAll
  repeat' (first | (with_reducible (first | assumption | intro _ | apply State.setAcqState_kept | apply State.setF_kept | apply State.ctxRelease_kept | apply ite_kept | apply foldl_kept | fail_if_no_progress (apply upd_kept))) | split | (dsimp only; split))

theorem State.cfgLoadSlot_kept {s0 : State} (s : State) (slot : ℕ) (act_ : ℕ) (secure : Bool) (items : List CfgItem) (hs : Kept s0 s) : Kept s0 (State.cfgLoadSlot s slot act_ secure items) := by
  unfold State.cfgLoadSlot
  repeat' (first | (with_reducible (first | assumption | apply State.setF_kept | apply State.setB_kept | apply State.setPtimeAt_kept | fail_if_no_progress (apply upd_kept))) | split | (dsimp only; split))

theorem State.cfgDrop_kept {s0 : State} (s : State) (hs : Kept s0 s) : Kept s0 (State.cfgDrop s) := by
  unfold State.cfgDrop
  repeat' (first | (with_reducible (first | assumption | apply State.setF_kept | apply State.setB_kept | apply State.setPtimeAt_kept | fail_if_no_progress (apply upd_kept))) | split | (dsimp only; split))

theorem State.cfgPrepare_kept {s0 : State} (s : State) (p : PrepSt) (slot : Option ℕ) (secure : Bool) (hs : Kept s0 s) : Kept s0 (State.cfgPrepare s p slot secure) := by
  unfold State.cfgPrepare
  repeat' (first | (with_reducible (first | assumption | apply State.setPtimeAt_kept | apply State.setB_kept | apply State.cfgLoadSlot_kept | fail_if_no_progress (apply upd_kept))) | split | (dsimp only; split))

theorem cfgSwitchStart_kept {s0 : State} (k : ℕ) (act_ : ℕ) (version : ℕ) (revert : Bool) (s : State) (hs : Kept s0 s) : Kept s0 (cfgSwitchStart k act_ version revert s).st := by
  unfold cfgSwitchStart
  repeat' (first | (with_reducible (first | assumption | intro _ | apply resDone_kept | apply State.cfgPrepare_kept | apply State.broadcast_kept | apply ite_res_kept | apply ite_kept | fail_if_no_progress (apply upd_kept))) | split | (dsimp only; split))

theorem execCfgSwitch_kept {s0 : State} (k : Fin 16) (f : Fetch) (s : State) (hs : Kept s0 s) : OutKept s0 (execCfgSwitch k f s) := by
  unfold execCfgSwitch
  repeat' (first | (with_reducible (first | assumption | intro _ | apply OutKept.next | apply State.startCmd_kept | apply cfgSwitchStart_kept | fail_if_no_progress (apply upd_kept))) | split | (dsimp only; split))

theorem execCfgRevert_kept {s0 : State} (k : Fin 16) (f : Fetch) (s : State) (hs : Kept s0 s) : OutKept s0 (execCfgRevert k f s) := by
  unfold execCfgRevert
  repeat' (first | (with_reducible (first | assumption | intro _ | apply OutKept.next | apply State.startCmd_kept | apply cfgSwitchStart_kept | fail_if_no_progress (apply upd_kept))) | split | (dsimp only; split))

theorem State.finishSwitch_kept {s0 : State} (s : State) (status : ℕ) (result : ℕ) (hs : Kept s0 s) : Kept s0 (State.finishSwitch s status result) := by
  unfold State.finishSwitch
  repeat' (first | (with_reducible (first | assumption | apply State.finishOp_kept | fail_if_no_progress (apply upd_kept))) | split | (dsimp only; split))

theorem State.cfgAbort_kept {s0 : State} (s : State) (hs : Kept s0 s) : Kept s0 (State.cfgAbort s) := by
  unfold State.cfgAbort
  repeat' (first | (with_reducible (first | assumption | apply State.cfgDrop_kept | apply State.broadcast_kept | fail_if_no_progress (apply upd_kept))) | split | (dsimp only; split))

theorem answerDeadline_kept {s0 : State} (s : State) (hs : Kept s0 s) : Kept s0 (answerDeadline s) := by
  unfold answerDeadline
  repeat' (first | (with_reducible (first | assumption | apply State.finishSwitch_kept | apply State.cfgAbort_kept | apply State.broadcast_kept | apply ite_kept | fail_if_no_progress (apply upd_kept))) | split | (dsimp only; split))

theorem execCfgAnswerDeadline_kept {s0 : State} (s : State) (hs : Kept s0 s) : OutKept s0 (execCfgAnswerDeadline s) := by
  unfold execCfgAnswerDeadline
  repeat' (first | (with_reducible (first | assumption | intro _ | apply OutKept.next | apply answerDeadline_kept | fail_if_no_progress (apply upd_kept))) | split | (dsimp only; split))

theorem State.itemFailed_kept {s0 : State} (s : State) (i : CfgItem) (code : ℕ) (hs : Kept s0 s) : Kept s0 (State.itemFailed s i code) := by
  unfold State.itemFailed
  repeat' (first | (with_reducible (first | assumption | apply State.setB_kept | apply State.setF_kept | apply ite_kept | fail_if_no_progress (apply upd_kept))) | split | (dsimp only; split))

theorem State.itemEnd_kept {s0 : State} (s : State) (i : CfgItem) (code : ℕ) (hs : Kept s0 s) : Kept s0 (State.itemEnd s i code).1 := by
  unfold State.itemEnd
  repeat' (first | (with_reducible (first | assumption | intro _ | apply State.itemFailed_kept | apply ite_fst_kept | apply ite_kept | fail_if_no_progress (apply upd_kept))) | split | (dsimp only; split))

theorem State.itemStop_kept {s0 : State} (s : State) (img : CfgImage) (clear : Bool) (i : CfgItem) (hs : Kept s0 s) : Kept s0 (State.itemStop s img clear i).1 := by
  unfold State.itemStop
  repeat' (first | (with_reducible (first | assumption | intro _ | apply State.acqHalt_kept | apply State.ctxSettle_kept | apply State.ctxHalt_kept | apply State.fchDisable_kept | apply State.itemEnd_kept | apply sqCtrlWritten_kept | apply State.setB_kept | apply ite_fst_kept | apply ite_kept | fail_if_no_progress (apply upd_kept))) | split | (dsimp only; split))

theorem State.itemChange_kept {s0 : State} (s : State) (img : CfgImage) (i : CfgItem) (hs : Kept s0 s) : Kept s0 (State.itemChange s img i).1 := by
  unfold State.itemChange
  repeat' (first | (with_reducible (first | assumption | intro _ | apply State.putItem_kept | apply sqCtrlWritten_kept | apply State.setB_kept | apply State.itemEnd_kept | apply State.setF_kept | apply fchCtrlWritten_kept | apply State.modSet_kept | apply State.ctxStart_kept | apply State.ctxResult_kept | apply trgCtrlWritten_kept | apply State.acqArm_kept | apply rsCtrlWritten_kept | apply ite_fst_kept | apply ite_kept | fail_if_no_progress (apply upd_kept))) | split | (dsimp only; split))

theorem State.itemWait_kept {s0 : State} (s : State) (i : CfgItem) (hs : Kept s0 s) : Kept s0 (State.itemWait s i).1 := by
  unfold State.itemWait
  repeat' (first | (with_reducible (first | assumption | intro _ | apply State.itemEnd_kept | apply ite_fst_kept | apply ite_kept | fail_if_no_progress (apply upd_kept))) | split | (dsimp only; split))

theorem State.itemGo_kept {s0 : State} (s : State) (go : CfgStage) (p : CfgItem × CfgStage) (hs : Kept s0 s) : Kept s0 (State.itemGo s go p) := by
  unfold State.itemGo
  repeat' (first | (with_reducible (first | assumption | apply State.itemStop_kept | apply State.itemChange_kept | apply State.itemWait_kept | apply ite_fst_kept | apply ite_kept | fail_if_no_progress (apply upd_kept))) | split | (dsimp only; split))

theorem State.cfgDone_kept {s0 : State} (s : State) (hs : Kept s0 s) : Kept s0 (State.cfgDone s) := by
  unfold State.cfgDone
  repeat' (first | (with_reducible (first | assumption | apply State.setF_kept | apply State.setB_kept | apply State.cfgDrop_kept | apply State.incSat_kept | fail_if_no_progress (apply upd_kept))) | split | (dsimp only; split))

theorem State.cfgAdvance_kept {s0 : State} (s : State) (hs : Kept s0 s) : Kept s0 (State.cfgAdvance s) := by
  unfold State.cfgAdvance
  repeat' (first | (with_reducible (first | assumption | intro _ | apply State.itemGo_kept | apply State.cfgDone_kept | apply ite_kept | apply foldl_kept | fail_if_no_progress (apply upd_kept))) | split | (dsimp only; split))

theorem cfgActivate_kept {s0 : State} (s : State) (hs : Kept s0 s) : Kept s0 (cfgActivate s) := by
  unfold cfgActivate
  repeat' (first | (with_reducible (first | assumption | apply State.cfgAdvance_kept | apply ite_kept | fail_if_no_progress (apply upd_kept))) | split | (dsimp only; split))

theorem execCfgActivate_kept {s0 : State} (s : State) (hs : Kept s0 s) : OutKept s0 (execCfgActivate s) := by
  unfold execCfgActivate
  repeat' (first | (with_reducible (first | assumption | intro _ | apply OutKept.next | apply cfgActivate_kept | fail_if_no_progress (apply upd_kept))) | split | (dsimp only; split))

theorem State.cfgswTake_kept {s0 : State} (s : State) (k : ℕ) (c : Carriage) (phase : ℕ) (answer : Bool) (act_ : State → State) (hs : Kept s0 s) (hact_ : ∀ (y0 : State), Kept s0 y0 → Kept s0 (act_ y0)) : Kept s0 (State.cfgswTake s k c phase answer act_) := by
  unfold State.cfgswTake
  repeat' (first | (with_reducible (first | assumption | intro _ | apply hact_ | apply State.carriageOk_kept | apply State.sendAck_kept | apply State.ctlNext_kept | apply ite_fst_kept | apply ite_kept | fail_if_no_progress (apply upd_kept))) | split | (dsimp only; split))

theorem cfgswPrepare_kept {s0 : State} (k : ℕ) (c : Carriage) (s : State) (hs : Kept s0 s) : Kept s0 (cfgswPrepare k c s) := by
  unfold cfgswPrepare
  repeat' (first | (with_reducible (first | assumption | intro _ | apply State.cfgswTake_kept | apply State.sendAck_kept | apply State.cfgPrepare_kept | apply State.settlePrep_kept | apply State.broadcast_kept | apply ite_kept | fail_if_no_progress (apply upd_kept))) | split | (dsimp only; split))

theorem execCfgswPrepare_kept {s0 : State} (k : Fin 16) (c : Carriage) (s : State) (hs : Kept s0 s) : OutKept s0 (execCfgswPrepare k c s) := by
  unfold execCfgswPrepare
  repeat' (first | (with_reducible (first | assumption | intro _ | apply OutKept.next | apply cfgswPrepare_kept | fail_if_no_progress (apply upd_kept))) | split | (dsimp only; split))

theorem cfgswCommit_kept {s0 : State} (k : ℕ) (c : Carriage) (s : State) (hs : Kept s0 s) : Kept s0 (cfgswCommit k c s) := by
  unfold cfgswCommit
  repeat' (first | (with_reducible (first | assumption | intro _ | apply State.cfgswTake_kept | apply State.broadcast_kept | apply cfgActivate_kept | apply State.incSat_kept | apply State.setB_kept | apply ite_kept | fail_if_no_progress (apply upd_kept))) | split | (dsimp only; split))

theorem execCfgswCommit_kept {s0 : State} (k : Fin 16) (c : Carriage) (s : State) (hs : Kept s0 s) : OutKept s0 (execCfgswCommit k c s) := by
  unfold execCfgswCommit
  repeat' (first | (with_reducible (first | assumption | intro _ | apply OutKept.next | apply cfgswCommit_kept | fail_if_no_progress (apply upd_kept))) | split | (dsimp only; split))

theorem cfgswAbort_kept {s0 : State} (k : ℕ) (c : Carriage) (s : State) (hs : Kept s0 s) : Kept s0 (cfgswAbort k c s) := by
  unfold cfgswAbort
  repeat' (first | (with_reducible (first | assumption | intro _ | apply State.cfgswTake_kept | apply State.broadcast_kept | apply State.cfgDrop_kept | apply ite_kept | fail_if_no_progress (apply upd_kept))) | split | (dsimp only; split))

theorem execCfgswAbort_kept {s0 : State} (k : Fin 16) (c : Carriage) (s : State) (hs : Kept s0 s) : OutKept s0 (execCfgswAbort k c s) := by
  unfold execCfgswAbort
  repeat' (first | (with_reducible (first | assumption | intro _ | apply OutKept.next | apply cfgswAbort_kept | fail_if_no_progress (apply upd_kept))) | split | (dsimp only; split))

theorem prepareExpiry_kept {s0 : State} (s : State) (hs : Kept s0 s) : Kept s0 (prepareExpiry s) := by
  unfold prepareExpiry
  repeat' (first | (with_reducible (first | assumption | apply State.setB_kept | apply State.cfgDrop_kept | apply ite_kept | fail_if_no_progress (apply upd_kept))) | split | (dsimp only; split))

theorem execCfgPrepareExpiry_kept {s0 : State} (s : State) (hs : Kept s0 s) : OutKept s0 (execCfgPrepareExpiry s) := by
  unfold execCfgPrepareExpiry
  repeat' (first | (with_reducible (first | assumption | intro _ | apply OutKept.next | apply prepareExpiry_kept | fail_if_no_progress (apply upd_kept))) | split | (dsimp only; split))

theorem cfgSaveStart_kept {s0 : State} (k : ℕ) (slot : ℕ) (version : ℕ) (s : State) (hs : Kept s0 s) : Kept s0 (cfgSaveStart k slot version s).st := by
  unfold cfgSaveStart
  repeat' (first | (with_reducible (first | assumption | intro _ | apply resDone_kept | apply ite_res_kept | apply ite_fst_kept | apply ite_kept | fail_if_no_progress (apply upd_kept))) | split | (dsimp only; split))

theorem cfgSaveStep_kept {s0 : State} (c : LongCmd) (s : State) (hs : Kept s0 s) : Kept s0 (cfgSaveStep c s) := by
  unfold cfgSaveStep
  repeat' (first | (with_reducible (first | assumption | apply State.partialEntry_kept | apply State.putLong_kept | apply State.finishLong_kept | apply State.setF_kept | apply ite_kept | fail_if_no_progress (apply upd_kept))) | split | (dsimp only; split))

theorem execCfgSave_kept {s0 : State} (k : Fin 16) (f : Fetch) (s : State) (hs : Kept s0 s) : OutKept s0 (execCfgSave k f s) := by
  unfold execCfgSave
  repeat' (first | (with_reducible (first | assumption | intro _ | apply OutKept.next | apply State.startCmd_kept | apply cfgSaveStart_kept | fail_if_no_progress (apply upd_kept))) | split | (dsimp only; split))

theorem State.cfgBoot_kept {s0 : State} (s : State) (hs : Kept s0 s) : Kept s0 (State.cfgBoot s) := by
  unfold State.cfgBoot
  repeat' (first | (with_reducible (first | assumption | apply State.setB_kept | apply State.cfgPrepare_kept | apply State.cfgDrop_kept | apply ite_kept | fail_if_no_progress (apply upd_kept))) | split | (dsimp only; split))

end Sys2Proof.Machine
end

