-- ==== Sys2Proof/Laws/KeptRingCtl.lean ====
section
/-!
SUPPORT. Every function of Machine/RingCtl.lean that answers a state keeps what `Kept` names.
-/
set_option linter.all false
namespace Sys2Proof.Machine

theorem State.cancelLong_kept {s0 : State} (s : State) (c : LongCmd) (hs : Kept s0 s) : OptKept s0 (State.cancelLong s c) := by
  unfold State.cancelLong
  repeat' (first | (with_reducible (first | assumption | intro _ | apply OptKept.none | apply OptKept.some | apply ite_opt_kept | apply bandscanCancel_kept | apply State.finishLong_kept | apply State.freeEngine_kept | apply State.cfgAbort_kept | apply ite_kept | fail_if_no_progress (apply upd_kept))) | split | (dsimp only; split))

theorem State.ringEnable_kept {s0 : State} (s : State) (k : ℕ) (hs : Kept s0 s) : Kept s0 (State.ringEnable s k) := by
  unfold State.ringEnable
  repeat' (first | (with_reducible (first | assumption | apply State.setB_kept | apply State.setF_kept | apply State.setWord_kept | apply ite_kept | fail_if_no_progress (apply upd_kept))) | split | (dsimp only; split))

theorem State.ringDisable_kept {s0 : State} (s : State) (k : ℕ) (hs : Kept s0 s) : Kept s0 (State.ringDisable s k) := by
  unfold State.ringDisable
  repeat' (first | (with_reducible (first | assumption | intro _ | apply State.setB_kept | apply State.setF_kept | apply State.drainRing_kept | apply ite_kept | apply foldl_kept | fail_if_no_progress (apply upd_kept))) | refine State.cancelLong_kept _ _ ?_ _ (by assumption) | split | (dsimp only; split))

theorem ringCtrlWritten_kept {s0 : State} (k : ℕ) (old : ℕ) (v : ℕ) (s : State) (hs : Kept s0 s) : Kept s0 (ringCtrlWritten k old v s) := by
  unfold ringCtrlWritten
  repeat' (first | (with_reducible (first | assumption | apply State.ringEnable_kept | apply State.ringDisable_kept | apply ite_kept | fail_if_no_progress (apply upd_kept))) | split | (dsimp only; split))

theorem State.doorbellOk_kept {s0 : State} (s : State) (pf : ℕ) (k : ℕ) (off : ℕ) (hs : Kept s0 s) : Kept s0 (State.doorbellOk s pf k off).1 := by
  unfold State.doorbellOk
  repeat' (first | (with_reducible (first | assumption | intro _ | apply State.logRefused_kept | apply ite_fst_kept | apply ite_kept | fail_if_no_progress (apply upd_kept))) | split | (dsimp only; split))

theorem cmdTail_kept {s0 : State} (pf : ℕ) (k : ℕ) (v : ℕ) (s : State) (hs : Kept s0 s) : Kept s0 (cmdTail pf k v s) := by
  unfold cmdTail
  repeat' (first | (with_reducible (first | assumption | apply State.doorbellOk_kept | apply State.setB_kept | apply State.setF_kept | apply ite_fst_kept | apply ite_kept | fail_if_no_progress (apply upd_kept))) | split | (dsimp only; split))

theorem execCmdTail_kept {s0 : State} (pf : Fin 2) (k : Fin 16) (v : BitVec 32) (s : State) (hs : Kept s0 s) : OutKept s0 (execCmdTail pf k v s) := by
  unfold execCmdTail
  repeat' (first | (with_reducible (first | assumption | intro _ | apply OutKept.next | apply cmdTail_kept | fail_if_no_progress (apply upd_kept))) | split | (dsimp only; split))

theorem cplHead_kept {s0 : State} (pf : ℕ) (k : ℕ) (v : ℕ) (s : State) (hs : Kept s0 s) : Kept s0 (cplHead pf k v s) := by
  unfold cplHead
  repeat' (first | (with_reducible (first | assumption | apply State.doorbellOk_kept | apply State.setB_kept | apply State.setF_kept | apply State.drainCpl_kept | apply ite_fst_kept | apply ite_kept | fail_if_no_progress (apply upd_kept))) | split | (dsimp only; split))

theorem execCplHead_kept {s0 : State} (pf : Fin 2) (k : Fin 16) (v : BitVec 32) (s : State) (hs : Kept s0 s) : OutKept s0 (execCplHead pf k v s) := by
  unfold execCplHead
  repeat' (first | (with_reducible (first | assumption | intro _ | apply OutKept.next | apply cplHead_kept | fail_if_no_progress (apply upd_kept))) | split | (dsimp only; split))

theorem execNopCommand_kept {s0 : State} (k : Fin 16) (f : Fetch) (s : State) (hs : Kept s0 s) : OutKept s0 (execNopCommand k f s) := by
  unfold execNopCommand
  repeat' (first | (with_reducible (first | assumption | intro _ | apply OutKept.next | apply State.startCmd_kept | apply resDone_kept | apply State.complete_kept | apply State.fetchCmd_kept | apply ite_res_kept | apply ite_out_kept | apply ite_kept | fail_if_no_progress (apply upd_kept))) | split | (dsimp only; split))

theorem cancelStart_kept {s0 : State} (k : ℕ) (r : ℕ) (tag : ℕ) (bytes : List (BitVec 8)) (s : State) (hs : Kept s0 s) : Kept s0 (cancelStart k r tag bytes s).st := by
  unfold cancelStart
  repeat' (first | (with_reducible (first | assumption | intro _ | apply resDone_kept | apply State.complete_kept | apply State.skipCancelled_kept | apply ite_res_kept | apply ite_fst_kept | apply ite_kept | fail_if_no_progress (apply upd_kept))) | refine State.cancelLong_kept _ _ ?_ _ (by assumption) | split | (dsimp only; split))

theorem execCancel_kept {s0 : State} (k : Fin 16) (f : Fetch) (s : State) (hs : Kept s0 s) : OutKept s0 (execCancel k f s) := by
  unfold execCancel
  repeat' (first | (with_reducible (first | assumption | intro _ | apply OutKept.next | apply State.startCmd_kept | apply cancelStart_kept | fail_if_no_progress (apply upd_kept))) | split | (dsimp only; split))

theorem State.ringHalt_kept {s0 : State} (s : State) (k : ℕ) (hs : Kept s0 s) : Kept s0 (State.ringHalt s k) := by
  unfold State.ringHalt
  repeat' (first | (with_reducible (first | assumption | apply State.setF_kept | apply State.errLog_kept | apply ite_kept | fail_if_no_progress (apply upd_kept))) | split | (dsimp only; split))

theorem hostReadCompletion_kept {s0 : State} (what : ℕ) (n : ℕ) (data : HostRead) (s : State) (hs : Kept s0 s) : Kept s0 (hostReadCompletion what n data s) := by
  unfold hostReadCompletion
  repeat' (first | (with_reducible (first | assumption | apply State.ringHalt_kept | apply descriptorProcess_kept | apply State.ceBurst_kept | apply ite_kept | fail_if_no_progress (apply upd_kept))) | split | (dsimp only; split))

theorem execHostReadCompletion_kept {s0 : State} (what : Fin 3) (n : Fin 64) (data : HostRead) (s : State) (hs : Kept s0 s) : OutKept s0 (execHostReadCompletion what n data s) := by
  unfold execHostReadCompletion
  repeat' (first | (with_reducible (first | assumption | intro _ | apply OutKept.next | apply hostReadCompletion_kept | fail_if_no_progress (apply upd_kept))) | split | (dsimp only; split))

theorem State.dropHost_kept {s0 : State} (s : State) (ring : ℕ → Bool) (coach : ℕ → Bool) (hs : Kept s0 s) : Kept s0 (State.dropHost s ring coach) := by
  unfold State.dropHost
  repeat' (first | (with_reducible (first | assumption | intro _ | apply State.ringDisable_kept | apply State.cePcieReset_kept | apply foldl_kept | fail_if_no_progress (apply upd_kept))) | split | (dsimp only; split))

theorem State.pcieFence_kept {s0 : State} (s : State) (hs : Kept s0 s) : Kept s0 (State.pcieFence s) := by
  unfold State.pcieFence
  repeat' (first | (with_reducible (first | assumption | apply State.dropHost_kept | apply State.setWord_kept | apply State.fenceEnter_kept | fail_if_no_progress (apply upd_kept))) | split | (dsimp only; split))

theorem hotReset_kept {s0 : State} (s : State) (hs : Kept s0 s) : Kept s0 (hotReset s) := by
  unfold hotReset
  repeat' (first | (with_reducible (first | assumption | apply State.pcieFence_kept | apply ite_kept | fail_if_no_progress (apply upd_kept))) | split | (dsimp only; split))

theorem execHotReset_kept {s0 : State} (s : State) (hs : Kept s0 s) : OutKept s0 (execHotReset s) := by
  unfold execHotReset
  repeat' (first | (with_reducible (first | assumption | intro _ | apply OutKept.next | apply hotReset_kept | fail_if_no_progress (apply upd_kept))) | split | (dsimp only; split))

theorem flr_kept {s0 : State} (pf : ℕ) (s : State) (hs : Kept s0 s) : Kept s0 (flr pf s) := by
  unfold flr
  repeat' (first | (with_reducible (first | assumption | apply State.dropHost_kept | apply ite_kept | fail_if_no_progress (apply upd_kept))) | split | (dsimp only; split))

theorem execFlr_kept {s0 : State} (pf : Fin 2) (s : State) (hs : Kept s0 s) : OutKept s0 (execFlr pf s) := by
  unfold execFlr
  repeat' (first | (with_reducible (first | assumption | intro _ | apply OutKept.next | apply flr_kept | fail_if_no_progress (apply upd_kept))) | split | (dsimp only; split))

theorem linkTraining_kept {s0 : State} (up : Bool) (gen : ℕ) (width : ℕ) (reversed : Bool) (flit : Bool) (s : State) (hs : Kept s0 s) : Kept s0 (linkTraining up gen width reversed flit s) := by
  unfold linkTraining
  repeat' (first | (with_reducible (first | assumption | apply State.setWord_kept | apply State.setB_kept | apply State.setF_kept | apply State.fenceLeave_kept | apply ite_kept | fail_if_no_progress (apply upd_kept))) | split | (dsimp only; split))

theorem execPcieLinkTraining_kept {s0 : State} (up : Bool) (gen : Fin 16) (width : Fin 32) (reversed : Bool) (flit : Bool) (s : State) (hs : Kept s0 s) : OutKept s0 (execPcieLinkTraining up gen width reversed flit s) := by
  unfold execPcieLinkTraining
  repeat' (first | (with_reducible (first | assumption | intro _ | apply OutKept.next | apply linkTraining_kept | fail_if_no_progress (apply upd_kept))) | split | (dsimp only; split))

end Sys2Proof.Machine
end

