-- ==== Sys2Proof/Laws/KeptBlocks.lean ====
section
/-!
SUPPORT. Every function of Machine/Blocks.lean that answers a state keeps what `Kept` names.
-/
set_option linter.all false
namespace Sys2Proof.Machine

theorem State.reply_kept {s0 : State} (s : State) (r : BlkReq) (status : ℕ) (hs : Kept s0 s) : Kept s0 (State.reply s r status) := by
  unfold State.reply
  repeat' (first | (with_reducible (first | assumption | fail_if_no_progress (apply upd_kept))) | split | (dsimp only; split))

theorem State.accept_kept {s0 : State} (s : State) (b : ℕ) (tag : BitVec 16) (answered : Bool) (hs : Kept s0 s) : Kept s0 (State.accept s b tag answered) := by
  unfold State.accept
  repeat' (first | (with_reducible (first | assumption | apply State.reply_kept | apply ite_kept | fail_if_no_progress (apply upd_kept))) | split | (dsimp only; split))

theorem blockRequest_kept {s0 : State} (b : ℕ) (tag : BitVec 16) (epoch : ℕ) (answered : Bool) (s : State) (hs : Kept s0 s) : Kept s0 (blockRequest b tag epoch answered s) := by
  unfold blockRequest
  repeat' (first | (with_reducible (first | assumption | apply State.wakeBlk_kept | apply State.accept_kept | apply State.reply_kept | apply ite_kept | fail_if_no_progress (apply upd_kept))) | split | (dsimp only; split))

theorem execBlockRequest_kept {s0 : State} (b : Fin 256) (tag : BitVec 16) (epoch : BitVec 8) (answered : Bool) (s : State) (hs : Kept s0 s) : OutKept s0 (execBlockRequest b tag epoch answered s) := by
  unfold execBlockRequest
  repeat' (first | (with_reducible (first | assumption | intro _ | apply OutKept.next | apply blockRequest_kept | fail_if_no_progress (apply upd_kept))) | split | (dsimp only; split))

theorem State.serveHeldReqs_kept {s0 : State} (s : State) (b : ℕ) (hs : Kept s0 s) : Kept s0 (State.serveHeldReqs s b) := by
  unfold State.serveHeldReqs
  repeat' (first | (with_reducible (first | assumption | intro _ | apply State.accept_kept | apply foldl_kept | fail_if_no_progress (apply upd_kept))) | split | (dsimp only; split))

theorem State.leaveIfSettled_kept {s0 : State} (s : State) (b : ℕ) (hs : Kept s0 s) : Kept s0 (State.leaveIfSettled s b) := by
  unfold State.leaveIfSettled
  repeat' (first | (with_reducible (first | assumption | apply State.fenceLeave_kept | apply ite_kept | fail_if_no_progress (apply upd_kept))) | split | (dsimp only; split))

theorem replyReceived_kept {s0 : State} (b : ℕ) (tag : BitVec 16) (epoch : ℕ) (s : State) (hs : Kept s0 s) : Kept s0 (replyReceived b tag epoch s) := by
  unfold replyReceived
  repeat' (first | (with_reducible (first | assumption | apply State.incSat_kept | apply State.leaveIfSettled_kept | apply ite_kept | fail_if_no_progress (apply upd_kept))) | split | (dsimp only; split))

theorem execReplyReceived_kept {s0 : State} (b : Fin 256) (tag : BitVec 16) (epoch : BitVec 8) (s : State) (hs : Kept s0 s) : OutKept s0 (execReplyReceived b tag epoch s) := by
  unfold execReplyReceived
  repeat' (first | (with_reducible (first | assumption | intro _ | apply OutKept.next | apply replyReceived_kept | fail_if_no_progress (apply upd_kept))) | split | (dsimp only; split))

theorem fenceExit_kept {s0 : State} (b : ℕ) (s : State) (hs : Kept s0 s) : Kept s0 (fenceExit b s) := by
  unfold fenceExit
  repeat' (first | (with_reducible (first | assumption | apply State.fenceLeave_kept | apply ite_kept | fail_if_no_progress (apply upd_kept))) | split | (dsimp only; split))

theorem execFenceExit_kept {s0 : State} (b : Fin 256) (s : State) (hs : Kept s0 s) : OutKept s0 (execFenceExit b s) := by
  unfold execFenceExit
  repeat' (first | (with_reducible (first | assumption | intro _ | apply OutKept.next | apply fenceExit_kept | fail_if_no_progress (apply upd_kept))) | split | (dsimp only; split))

theorem State.captureFence_kept {s0 : State} (s : State) (hs : Kept s0 s) : Kept s0 (State.captureFence s) := by
  unfold State.captureFence
  repeat' (first | (with_reducible (first | assumption | apply State.fenceEnter_kept | apply State.serveStage_kept | apply State.closeStage_kept | apply State.acqFence_kept | apply State.setF_kept | apply State.syncPanic_kept | fail_if_no_progress (apply upd_kept) | fail_if_no_progress (apply updMem_kept))) | split | (dsimp only; split))

theorem captureWriterRestart_kept {s0 : State} (s : State) (hs : Kept s0 s) : Kept s0 (captureWriterRestart s) := by
  unfold captureWriterRestart
  repeat' (first | (with_reducible (first | assumption | apply State.fenceLeave_kept | apply ite_kept | fail_if_no_progress (apply upd_kept))) | split | (dsimp only; split))

theorem execCaptureWriterRestart_kept {s0 : State} (s : State) (hs : Kept s0 s) : OutKept s0 (execCaptureWriterRestart s) := by
  unfold execCaptureWriterRestart
  repeat' (first | (with_reducible (first | assumption | intro _ | apply OutKept.next | apply captureWriterRestart_kept | fail_if_no_progress (apply upd_kept))) | split | (dsimp only; split))

theorem State.tdcReset_kept {s0 : State} (s : State) (c : ℕ) (hs : Kept s0 s) : Kept s0 (State.tdcReset s c) := by
  unfold State.tdcReset
  repeat' (first | (with_reducible (first | assumption | apply State.syncTdc_kept | apply State.setTdc_kept | fail_if_no_progress (apply upd_kept))) | split | (dsimp only; split))

theorem State.hkReset_kept {s0 : State} (s : State) (hs : Kept s0 s) : Kept s0 (State.hkReset s) := by
  unfold State.hkReset
  repeat' (first | (with_reducible (first | assumption | apply State.setF_kept | apply State.setWord_kept | apply State.setB_kept | apply hkCalRequest_kept | fail_if_no_progress (apply upd_kept))) | split | (dsimp only; split))

theorem State.trgReset_kept {s0 : State} (s : State) (hs : Kept s0 s) : Kept s0 (State.trgReset s) := by
  unfold State.trgReset
  repeat' (first | (with_reducible (first | assumption | apply State.restartUnits_kept | apply State.setF_kept | apply State.setB_kept | apply ite_kept | fail_if_no_progress (apply upd_kept))) | split | (dsimp only; split))

theorem State.tpReset_kept {s0 : State} (s : State) (hs : Kept s0 s) : Kept s0 (State.tpReset s) := by
  unfold State.tpReset
  repeat' (first | (with_reducible (first | assumption | intro _ | apply State.syncTpa_kept | apply State.setF_kept | apply foldl_kept | fail_if_no_progress (apply upd_kept))) | split | (dsimp only; split))

theorem State.quadRetrain_kept {s0 : State} (s : State) (g : ℕ) (hs : Kept s0 s) : Kept s0 (State.quadRetrain s g) := by
  unfold State.quadRetrain
  repeat' (first | (with_reducible (first | assumption | intro _ | apply State.linkStart_kept | apply foldl_kept | fail_if_no_progress (apply upd_kept))) | split | (dsimp only; split))

theorem State.hearthClear_kept {s0 : State} (s : State) (f : ℕ) (hs : Kept s0 s) : Kept s0 (s.hearthClear f) :=
  updBytes_kept hs (twf_tclear _ _)

theorem State.rasterClear_kept {s0 : State} (s : State) (hs : Kept s0 s) : Kept s0 (s.rasterClear) :=
  updBytes_kept hs (twf_tclear _ _)

theorem State.memFence_kept {s0 : State} (s : State) (m : ℕ) (hs : Kept s0 s) : Kept s0 (State.memFence s m) := by
  unfold State.memFence
  repeat' (first | (with_reducible (first | assumption | apply State.captureFence_kept | apply State.mcFence_kept | apply ite_kept | fail_if_no_progress (apply upd_kept))) | split | (dsimp only; split))

theorem State.blockInit_kept {s0 : State} (s : State) (b : ℕ) (hs : Kept s0 s) : Kept s0 (State.blockInit s b) := by
  unfold State.blockInit
  repeat' (first | (with_reducible (first | assumption | intro _ | apply State.adcRestart_kept | apply State.dacHalt_kept | apply State.setB_kept | apply State.tdcReset_kept | apply State.hkReset_kept | apply State.fchReset_kept | apply State.hearthClear_kept | apply State.trgReset_kept | apply State.acqFence_kept | apply State.tpReset_kept | apply State.memFence_kept | apply State.rsReset_kept | apply State.sqFence_kept | apply ite_kept | apply foldl_kept | fail_if_no_progress (apply upd_kept))) | split | (dsimp only; split))

theorem State.bresetDone_kept {s0 : State} (s : State) (status : ℕ) (hs : Kept s0 s) : Kept s0 (State.bresetDone s status) := by
  unfold State.bresetDone
  repeat' (first | (with_reducible (first | assumption | apply State.setF_kept | fail_if_no_progress (apply upd_kept))) | split | (dsimp only; split))

theorem State.bresetBegin_kept {s0 : State} (s : State) (b : ℕ) (hs : Kept s0 s) : Kept s0 (State.bresetBegin s b) := by
  unfold State.bresetBegin
  repeat' (first | (with_reducible (first | assumption | apply State.setB_kept | fail_if_no_progress (apply upd_kept))) | split | (dsimp only; split))

theorem State.forgeReset_kept {s0 : State} (s : State) (f : ℕ) (hs : Kept s0 s) : Kept s0 (State.forgeReset s f) := by
  unfold State.forgeReset
  repeat' (first | (with_reducible (first | assumption | apply State.bresetDone_kept | apply State.bresetBegin_kept | apply State.setB_kept | apply State.reloadTry_kept | apply ite_fst_kept | apply ite_kept | fail_if_no_progress (apply upd_kept))) | split | (dsimp only; split))

theorem State.blockReset_kept {s0 : State} (s : State) (b : ℕ) (hs : Kept s0 s) : Kept s0 (State.blockReset s b) := by
  unfold State.blockReset
  repeat' (first | (with_reducible (first | assumption | apply State.bresetDone_kept | apply State.forgeReset_kept | apply State.pcieFence_kept | apply State.bresetBegin_kept | apply State.quadRetrain_kept | apply State.fenceEnter_kept | apply State.fenceLeave_kept | apply State.captureFence_kept | apply State.ceReset_kept | apply State.blockInit_kept | apply ite_kept | fail_if_no_progress (apply upd_kept))) | split | (dsimp only; split))

theorem bresetWritten_kept {s0 : State} (pf : ℕ) (v : ℕ) (s : State) (hs : Kept s0 s) : Kept s0 (bresetWritten pf v s) := by
  unfold bresetWritten
  repeat' (first | (with_reducible (first | assumption | apply State.setB_kept | apply State.bresetDone_kept | apply State.blockReset_kept | apply ite_kept | fail_if_no_progress (apply upd_kept))) | split | (dsimp only; split))

end Sys2Proof.Machine
end

