-- ==== Sys2Proof/Laws/KeptPower.lean ====
section
/-!
SUPPORT. Every function of Machine/Power.lean that answers a state keeps what `Kept` names.
-/
set_option linter.all false
namespace Sys2Proof.Machine

theorem State.forgeStop_kept {s0 : State} (s : State) (f : ℕ) (hs : Kept s0 s) : Kept s0 (State.forgeStop s f) := by
  unfold State.forgeStop
  repeat' (first | (with_reducible (first | assumption | intro _ | apply State.setDrain_kept | apply State.giveUp_kept | apply State.drainForge_kept | apply foldl_kept | fail_if_no_progress (apply upd_kept))) | split | (dsimp only; split))

theorem State.stopBlk_kept {s0 : State} (s : State) (b : ℕ) (hs : Kept s0 s) : Kept s0 (State.stopBlk s b) := by
  unfold State.stopBlk
  repeat' (first | (with_reducible (first | assumption | apply State.fenceEnter_kept | apply State.forgeStop_kept | apply State.trgReset_kept | apply State.acqFence_kept | apply State.captureFence_kept | apply State.memFence_kept | apply ite_kept | fail_if_no_progress (apply upd_kept))) | split | (dsimp only; split))

theorem State.stopDomain_kept {s0 : State} (s : State) (d : ℕ) (hs : Kept s0 s) : Kept s0 (State.stopDomain s d) := by
  unfold State.stopDomain
  repeat' (first | (with_reducible (first | assumption | intro _ | apply State.setDom_kept | apply State.stopBlk_kept | apply foldl_kept | fail_if_no_progress (apply upd_kept))) | split | (dsimp only; split))

theorem State.restartDomain_kept {s0 : State} (s : State) (d : ℕ) (hs : Kept s0 s) : Kept s0 (State.restartDomain s d) := by
  unfold State.restartDomain
  repeat' (first | (with_reducible (first | assumption | intro _ | apply State.fenceLeave_kept | apply State.setDom_kept | apply ite_kept | apply foldl_kept | fail_if_no_progress (apply upd_kept))) | split | (dsimp only; split))

theorem State.loseDomain_kept {s0 : State} (s : State) (d : ℕ) (hs : Kept s0 s) : Kept s0 (State.loseDomain s d) := by
  unfold State.loseDomain
  repeat' (first | (with_reducible (first | assumption | intro _ | apply State.setFch_kept | apply State.rasterClear_kept | apply State.blockInit_kept | apply State.hearthClear_kept | apply ite_kept | apply foldl_kept | fail_if_no_progress (apply updBytes_kept) | exact twf_tclear _ _ | exact twf_filter _ | exact id | assumption | fail_if_no_progress (apply upd_kept) | fail_if_no_progress (apply updMem_kept))) | split | (dsimp only; split))

theorem State.gateDomain_kept {s0 : State} (s : State) (d : ℕ) (hs : Kept s0 s) : Kept s0 (State.gateDomain s d) := by
  unfold State.gateDomain
  repeat' (first | (with_reducible (first | assumption | apply State.setF_kept | apply State.setDom_kept | apply State.moveBlks_kept | apply State.loseDomain_kept | apply ite_kept | fail_if_no_progress (apply upd_kept))) | split | (dsimp only; split))

theorem State.gateOrWait_kept {s0 : State} (s : State) (d : ℕ) (hs : Kept s0 s) : Kept s0 (State.gateOrWait s d) := by
  unfold State.gateOrWait
  repeat' (first | (with_reducible (first | assumption | apply State.gateDomain_kept | apply ite_kept | fail_if_no_progress (apply upd_kept))) | split | (dsimp only; split))

theorem State.gateTick_kept {s0 : State} (s : State) (hs : Kept s0 s) : Kept s0 (State.gateTick s) := by
  unfold State.gateTick
  repeat' (first | (with_reducible (first | assumption | intro _ | apply State.gateOrWait_kept | apply foldl_kept | fail_if_no_progress (apply upd_kept))) | split | (dsimp only; split))

theorem padRelWritten_kept {s0 : State} (v : ℕ) (s : State) (hs : Kept s0 s) : Kept s0 (padRelWritten v s) := by
  unfold padRelWritten
  repeat' (first | (with_reducible (first | assumption | intro _ | apply foldl_kept | fail_if_no_progress (apply upd_kept))) | split | (dsimp only; split))

theorem State.padTick_kept {s0 : State} (s : State) (hs : Kept s0 s) : Kept s0 (State.padTick s) := by
  unfold State.padTick
  repeat' (first | (with_reducible (first | assumption | apply State.setF_kept | apply State.syncTpa_kept | apply ite_kept | fail_if_no_progress (apply upd_kept))) | split | (dsimp only; split))

theorem State.pwrBegin_kept {s0 : State} (s : State) (target : ℕ) (hs : Kept s0 s) : Kept s0 (State.pwrBegin s target) := by
  unfold State.pwrBegin
  repeat' (first | (with_reducible (first | assumption | apply State.setF_kept | apply State.setB_kept | apply State.lastWake_kept | apply ite_kept | fail_if_no_progress (apply upd_kept))) | split | (dsimp only; split))

theorem State.pwrNext_kept {s0 : State} (s : State) (hs : Kept s0 s) : Kept s0 (State.pwrNext s) := by
  unfold State.pwrNext
  repeat' (first | (with_reducible (first | assumption | intro _ | apply State.setF_kept | apply State.setB_kept | apply State.finishLong_kept | apply State.putLong_kept | apply State.pwrBegin_kept | apply ite_kept | apply foldl_kept | fail_if_no_progress (apply upd_kept))) | split | (dsimp only; split))

theorem State.pwrDone_kept {s0 : State} (s : State) (status : ℕ) (result : ℕ) (hs : Kept s0 s) : Kept s0 (State.pwrDone s status result) := by
  unfold State.pwrDone
  repeat' (first | (with_reducible (first | assumption | intro _ | apply State.finishLong_kept | apply State.setF_kept | apply State.setB_kept | apply foldl_kept | fail_if_no_progress (apply upd_kept))) | split | (dsimp only; split))

theorem pwrStateStart_kept {s0 : State} (target : ℕ) (s : State) (hs : Kept s0 s) : Kept s0 (pwrStateStart target s).st := by
  unfold pwrStateStart
  repeat' (first | (with_reducible (first | assumption | intro _ | apply resDone_kept | apply State.pwrBegin_kept | apply State.finishLong_kept | apply State.setF_kept | apply State.setB_kept | apply ite_res_kept | apply ite_kept | apply foldl_kept | fail_if_no_progress (apply upd_kept))) | split | (dsimp only; split))

theorem execPwrState_kept {s0 : State} (k : Fin 16) (f : Fetch) (s : State) (hs : Kept s0 s) : OutKept s0 (execPwrState k f s) := by
  unfold execPwrState
  repeat' (first | (with_reducible (first | assumption | intro _ | apply OutKept.next | apply State.startCmd_kept | apply pwrStateStart_kept | fail_if_no_progress (apply upd_kept))) | split | (dsimp only; split))

theorem State.pwrRefused_kept {s0 : State} (s : State) (d : ℕ) (reason : ℕ) (detail : ℕ) (hs : Kept s0 s) : Kept s0 (State.pwrRefused s d reason detail) := by
  unfold State.pwrRefused
  repeat' (first | (with_reducible (first | assumption | apply State.setF_kept | fail_if_no_progress (apply upd_kept))) | split | (dsimp only; split))

theorem State.pwrAgreed_kept {s0 : State} (s : State) (d : ℕ) (hs : Kept s0 s) : Kept s0 (State.pwrAgreed s d) := by
  unfold State.pwrAgreed
  repeat' (first | (with_reducible (first | assumption | apply State.stopDomain_kept | apply ite_kept | fail_if_no_progress (apply upd_kept))) | split | (dsimp only; split))

theorem State.pwrAsk_kept {s0 : State} (s : State) (d : ℕ) (hs : Kept s0 s) : Kept s0 (State.pwrAsk s d) := by
  unfold State.pwrAsk
  repeat' (first | (with_reducible (first | assumption | apply State.pwrAgreed_kept | apply State.pwrRefused_kept | apply ite_kept | fail_if_no_progress (apply upd_kept))) | split | (dsimp only; split))

theorem State.pwrGate_kept {s0 : State} (s : State) (hs : Kept s0 s) : Kept s0 (State.pwrGate s) := by
  unfold State.pwrGate
  repeat' (first | (with_reducible (first | assumption | intro _ | apply State.gateDomain_kept | apply State.pwrDone_kept | apply State.setF_kept | apply State.lastWake_kept | apply ite_kept | apply foldl_kept | fail_if_no_progress (apply upd_kept))) | split | (dsimp only; split))

theorem State.dropDomain_kept {s0 : State} (s : State) (d : ℕ) (hs : Kept s0 s) : Kept s0 (State.dropDomain s d) := by
  unfold State.dropDomain
  repeat' (first | (with_reducible (first | assumption | intro _ | apply State.fenceEnter_kept | apply State.gateOrWait_kept | apply State.setDom_kept | apply ite_kept | apply foldl_kept | fail_if_no_progress (apply upd_kept))) | split | (dsimp only; split))

theorem State.stopClk_kept {s0 : State} (s : State) (hs : Kept s0 s) : Kept s0 (State.stopClk s) := by
  unfold State.stopClk
  repeat' (first | (with_reducible (first | assumption | apply State.setLocked_kept | apply State.dropDomain_kept | apply State.enterCoast_kept | fail_if_no_progress (apply upd_kept))) | split | (dsimp only; split))

theorem State.gateLinkp_kept {s0 : State} (s : State) (hs : Kept s0 s) : Kept s0 (State.gateLinkp s) := by
  unfold State.gateLinkp
  repeat' (first | (with_reducible (first | assumption | intro _ | apply State.dropDomain_kept | apply State.setWord_kept | apply State.cePcieReset_kept | apply foldl_kept | fail_if_no_progress (apply upd_kept))) | split | (dsimp only; split))

theorem State.loseStores_kept {s0 : State} (s : State) (hs : Kept s0 s) : Kept s0 (State.loseStores s) := by
  unfold State.loseStores
  repeat' (first | (with_reducible (first | assumption | fail_if_no_progress (apply upd_kept))) | split | (dsimp only; split))

theorem State.avsSet_kept {s0 : State} (s : State) (mv : ℕ) (hs : Kept s0 s) : Kept s0 (State.avsSet s mv) := by
  unfold State.avsSet
  repeat' (first | (with_reducible (first | assumption | apply State.emit_kept | fail_if_no_progress (apply upd_kept))) | split | (dsimp only; split))

theorem State.railsOff_kept {s0 : State} (s : State) (hs : Kept s0 s) : Kept s0 (State.railsOff s) := by
  unfold State.railsOff
  repeat' (first | (with_reducible (first | assumption | intro _ | apply State.emit_kept | apply foldl_kept | fail_if_no_progress (apply upd_kept))) | split | (dsimp only; split))

theorem State.pwrOff_kept {s0 : State} (s : State) (hs : Kept s0 s) : Kept s0 (State.pwrOff s) := by
  unfold State.pwrOff
  repeat' (first | (with_reducible (first | assumption | apply State.pwrDone_kept | apply State.setF_kept | apply State.stopClk_kept | apply State.dropDomain_kept | apply State.gateLinkp_kept | apply State.setB_kept | apply State.loseStores_kept | apply State.clearCapture_kept | apply State.avsSet_kept | apply State.railsOff_kept | apply ite_kept | fail_if_no_progress (apply upd_kept))) | split | (dsimp only; split))

theorem pwrStep_kept {s0 : State} (c : LongCmd) (s0_ : State) (hs0_ : Kept s0 s0_) : Kept s0 (pwrStep c s0_) := by
  unfold pwrStep
  repeat' (first | (with_reducible (first | assumption | apply State.partialEntry_kept | apply State.putLong_kept | apply State.pwrAsk_kept | apply State.pwrNext_kept | apply State.pwrDone_kept | apply State.restartDomain_kept | apply State.pwrGate_kept | apply State.pwrOff_kept | apply State.startDomain_kept | apply State.setF_kept | apply ite_kept | fail_if_no_progress (apply upd_kept))) | split | (dsimp only; split))

theorem State.domGate_kept {s0 : State} (s : State) (d : ℕ) (hs : Kept s0 s) : Kept s0 (State.domGate s d) := by
  unfold State.domGate
  repeat' (first | (with_reducible (first | assumption | apply State.gateOrWait_kept | apply State.stopDomain_kept | fail_if_no_progress (apply upd_kept))) | split | (dsimp only; split))

theorem State.domRefused_kept {s0 : State} (s : State) (d : ℕ) (reason : ℕ) (detail : ℕ) (hs : Kept s0 s) : Kept s0 (State.domRefused s d reason detail) := by
  unfold State.domRefused
  repeat' (first | (with_reducible (first | assumption | apply State.setF_kept | fail_if_no_progress (apply upd_kept))) | split | (dsimp only; split))

theorem domCtrlWritten_kept {s0 : State} (v : ℕ) (s : State) (hs : Kept s0 s) : Kept s0 (domCtrlWritten v s) := by
  unfold domCtrlWritten
  repeat' (first | (with_reducible (first | assumption | apply State.setF_kept | apply State.startDomain_kept | apply State.domGate_kept | apply State.domRefused_kept | apply ite_fst_kept | apply ite_kept | fail_if_no_progress (apply upd_kept))) | split | (dsimp only; split))

theorem State.domAskTick_kept {s0 : State} (s : State) (hs : Kept s0 s) : Kept s0 (State.domAskTick s) := by
  unfold State.domAskTick
  repeat' (first | (with_reducible (first | assumption | apply State.setF_kept | apply State.domGate_kept | apply State.domRefused_kept | apply ite_kept | fail_if_no_progress (apply upd_kept))) | split | (dsimp only; split))

theorem p1IdleGate_kept {s0 : State} (d : ℕ) (s : State) (hs : Kept s0 s) : Kept s0 (p1IdleGate d s) := by
  unfold p1IdleGate
  repeat' (first | (with_reducible (first | assumption | apply State.domGate_kept | apply ite_kept | fail_if_no_progress (apply upd_kept))) | split | (dsimp only; split))

theorem execP1IdleGate_kept {s0 : State} (d : Fin 96) (s : State) (hs : Kept s0 s) : OutKept s0 (execP1IdleGate d s) := by
  unfold execP1IdleGate
  repeat' (first | (with_reducible (first | assumption | intro _ | apply OutKept.next | apply p1IdleGate_kept | fail_if_no_progress (apply upd_kept))) | split | (dsimp only; split))

theorem State.pwrTick_kept {s0 : State} (s : State) (hs : Kept s0 s) : Kept s0 (State.pwrTick s) := by
  unfold State.pwrTick
  repeat' (first | (with_reducible (first | assumption | intro _ | apply State.padTick_kept | apply State.gateTick_kept | apply State.domAskTick_kept | apply State.wakeDomain_kept | apply ite_kept | apply foldl_kept | fail_if_no_progress (apply upd_kept))) | split | (dsimp only; split))

theorem State.p3Wake_kept {s0 : State} (s : State) (code : ℕ) (detail : ℕ) (hs : Kept s0 s) : Kept s0 (State.p3Wake s code detail) := by
  unfold State.p3Wake
  repeat' (first | (with_reducible (first | assumption | apply State.avsSet_kept | apply State.lastWake_kept | apply ite_kept | fail_if_no_progress (apply upd_kept))) | split | (dsimp only; split))

theorem wakeAt_kept {s0 : State} (s : State) (hs : Kept s0 s) : Kept s0 (wakeAt s) := by
  unfold wakeAt
  repeat' (first | (with_reducible (first | assumption | apply State.p3Wake_kept | apply ite_kept | fail_if_no_progress (apply upd_kept))) | split | (dsimp only; split))

theorem execWakeAt_kept {s0 : State} (s : State) (hs : Kept s0 s) : OutKept s0 (execWakeAt s) := by
  unfold execWakeAt
  repeat' (first | (with_reducible (first | assumption | intro _ | apply OutKept.next | apply wakeAt_kept | fail_if_no_progress (apply upd_kept))) | split | (dsimp only; split))

theorem perstN_kept {s0 : State} (low : Bool) (s : State) (hs : Kept s0 s) : Kept s0 (perstN low s) := by
  unfold perstN
  repeat' (first | (with_reducible (first | assumption | apply State.pcieFence_kept | apply State.p3Wake_kept | apply ite_kept | fail_if_no_progress (apply upd_kept))) | split | (dsimp only; split))

theorem execPerstN_kept {s0 : State} (low : Bool) (s : State) (hs : Kept s0 s) : OutKept s0 (execPerstN low s) := by
  unfold execPerstN
  repeat' (first | (with_reducible (first | assumption | intro _ | apply OutKept.next | apply perstN_kept | fail_if_no_progress (apply upd_kept))) | split | (dsimp only; split))

theorem avsTimeout_kept {s0 : State} (s : State) (hs : Kept s0 s) : Kept s0 (avsTimeout s) := by
  unfold avsTimeout
  repeat' (first | (with_reducible (first | assumption | apply State.addSat_kept | apply State.incSat_kept | apply State.setB_kept | apply State.errLog_kept | apply State.emit_kept | apply ite_kept | fail_if_no_progress (apply upd_kept))) | split | (dsimp only; split))

theorem execAvsTimeout_kept {s0 : State} (s : State) (hs : Kept s0 s) : OutKept s0 (execAvsTimeout s) := by
  unfold execAvsTimeout
  repeat' (first | (with_reducible (first | assumption | intro _ | apply OutKept.next | apply avsTimeout_kept | fail_if_no_progress (apply upd_kept))) | split | (dsimp only; split))

theorem State.pmFault_kept {s0 : State} (s : State) (r : ℕ) (status : ℕ) (hs : Kept s0 s) : Kept s0 (State.pmFault s r status) := by
  unfold State.pmFault
  repeat' (first | (with_reducible (first | assumption | apply State.raiseBlk_kept | apply State.errLog_kept | apply State.setB_kept | fail_if_no_progress (apply upd_kept))) | split | (dsimp only; split))

theorem State.pollRail_kept {s0 : State} (s : State) (r : ℕ) (x : Option (BitVec 16 × BitVec 16 × BitVec 16)) (hs : Kept s0 s) : Kept s0 (State.pollRail s r x) := by
  unfold State.pollRail
  repeat' (first | (with_reducible (first | assumption | apply State.pmFault_kept | apply State.setF_kept | apply ite_kept | fail_if_no_progress (apply upd_kept))) | split | (dsimp only; split))

theorem pmbusPoll_kept {s0 : State} (rails : List (Option (BitVec 16 × BitVec 16 × BitVec 16))) (s : State) (hs : Kept s0 s) : Kept s0 (pmbusPoll rails s) := by
  unfold pmbusPoll
  repeat' (first | (with_reducible (first | assumption | intro _ | apply State.pollRail_kept | apply ite_kept | apply foldl_kept | fail_if_no_progress (apply upd_kept))) | split | (dsimp only; split))

theorem execPmbusPoll_kept {s0 : State} (rails : List (Option (BitVec 16 × BitVec 16 × BitVec 16))) (s : State) (hs : Kept s0 s) : OutKept s0 (execPmbusPoll rails s) := by
  unfold execPmbusPoll
  repeat' (first | (with_reducible (first | assumption | intro _ | apply OutKept.next | apply pmbusPoll_kept | fail_if_no_progress (apply upd_kept))) | split | (dsimp only; split))

theorem pmAlert_kept {s0 : State} (rail : Option (Fin 8 × BitVec 16)) (s : State) (hs : Kept s0 s) : Kept s0 (pmAlert rail s) := by
  unfold pmAlert
  repeat' (first | (with_reducible (first | assumption | apply State.setF_kept | apply State.pmFault_kept | apply ite_kept | fail_if_no_progress (apply upd_kept))) | split | (dsimp only; split))

theorem execPmAlert_kept {s0 : State} (rail : Option (Fin 8 × BitVec 16)) (s : State) (hs : Kept s0 s) : OutKept s0 (execPmAlert rail s) := by
  unfold execPmAlert
  repeat' (first | (with_reducible (first | assumption | intro _ | apply OutKept.next | apply pmAlert_kept | fail_if_no_progress (apply upd_kept))) | split | (dsimp only; split))

theorem State.lostDomain_kept {s0 : State} (s : State) (d : ℕ) (hs : Kept s0 s) : Kept s0 (State.lostDomain s d) := by
  unfold State.lostDomain
  repeat' (first | (with_reducible (first | assumption | intro _ | apply State.fenceEnter_kept | apply State.setDom_kept | apply State.gateDomain_kept | apply ite_kept | apply foldl_kept | fail_if_no_progress (apply upd_kept))) | split | (dsimp only; split))

theorem State.allOff_kept {s0 : State} (s : State) (hs : Kept s0 s) : Kept s0 (State.allOff s) := by
  unfold State.allOff
  repeat' (first | (with_reducible (first | assumption | intro _ | apply State.lostDomain_kept | apply State.clearCapture_kept | apply State.loseStores_kept | apply foldl_kept | fail_if_no_progress (apply upd_kept))) | split | (dsimp only; split))

theorem thermtrip_kept {s0 : State} (sensor : ℕ) (s : State) (hs : Kept s0 s) : Kept s0 (thermtrip sensor s) := by
  unfold thermtrip
  repeat' (first | (with_reducible (first | assumption | apply State.setF_kept | apply State.setB_kept | apply State.allOff_kept | apply ite_kept | fail_if_no_progress (apply upd_kept))) | split | (dsimp only; split))

theorem execThermtrip_kept {s0 : State} (sensor : Fin 12) (s : State) (hs : Kept s0 s) : OutKept s0 (execThermtrip sensor s) := by
  unfold execThermtrip
  repeat' (first | (with_reducible (first | assumption | intro _ | apply OutKept.next | apply thermtrip_kept | fail_if_no_progress (apply upd_kept))) | split | (dsimp only; split))

theorem vddAonLoss_kept {s0 : State} (s : State) (hs : Kept s0 s) : Kept s0 (vddAonLoss s) := by
  unfold vddAonLoss
  repeat' (first | (with_reducible (first | assumption | apply State.setWord_kept | apply State.resetRegs_kept | apply State.allOff_kept | fail_if_no_progress (apply upd_kept))) | split | (dsimp only; split))

theorem execVddAonLoss_kept {s0 : State} (s : State) (hs : Kept s0 s) : OutKept s0 (execVddAonLoss s) := by
  unfold execVddAonLoss
  repeat' (first | (with_reducible (first | assumption | intro _ | apply OutKept.next | apply vddAonLoss_kept | fail_if_no_progress (apply upd_kept))) | split | (dsimp only; split))

end Sys2Proof.Machine
end

