-- ==== Sys2Proof/Laws/KeptBoot.lean ====
section
/-!
SUPPORT. Every function of Machine/Boot.lean that answers a state keeps what `Kept` names.
-/
set_option linter.all false
namespace Sys2Proof.Machine

theorem State.coldState_kept {s0 : State} (s : State) (keep : ℕ → Bool) (hs : Kept s0 s) : Kept s0 (s.coldState keep) := by
  refine State.setF_kept _ _ _ ?_
  exact ⟨fun i => ⟨twf_filter _ (hs.inv i).1, rfl⟩, hs.pending, hs.out, hs.freeCtr⟩

theorem State.seedMc_kept {s0 : State} (s : State) (m : ℕ) (hs : Kept s0 s) : Kept s0 (State.seedMc s m) := by
  unfold State.seedMc
  repeat' (first | (with_reducible (first | assumption | apply State.next_kept | apply State.setMc_kept | apply ite_kept | fail_if_no_progress (apply upd_kept))) | split | (dsimp only; split))

theorem porst_kept {s0 : State} (s : State) (hs : Kept s0 s) : Kept s0 (porst s) := by
  unfold porst
  repeat' (first | (with_reducible (first | assumption | apply State.seedMc_kept | apply State.coldState_kept | apply State.setF_kept | apply ite_kept | fail_if_no_progress (apply upd_kept))) | split | (dsimp only; split))

theorem execPorstN_kept {s0 : State} (s : State) (hs : Kept s0 s) : OutKept s0 (execPorstN s) := by
  unfold execPorstN
  repeat' (first | (with_reducible (first | assumption | intro _ | apply OutKept.next | apply porst_kept | fail_if_no_progress (apply upd_kept))) | split | (dsimp only; split))

theorem State.keepDegraded_kept {s0 : State} (old : State) (t : State) (n : ℕ) (hold : Kept s0 old) (ht : Kept s0 t) : Kept s0 (State.keepDegraded old t n) := by
  unfold State.keepDegraded
  repeat' (first | (with_reducible (first | assumption | intro _ | apply State.setF_kept | apply State.setB_kept | apply State.setAdc_kept | apply ite_kept | apply foldl_kept | fail_if_no_progress (apply upd_kept))) | split | (dsimp only; split))

theorem State.powerOn_kept {s0 : State} (s : State) (hs : Kept s0 s) : Kept s0 (State.powerOn s) := by
  unfold State.powerOn
  repeat' (first | (with_reducible (first | assumption | apply State.setF_kept | apply State.resetRegs_kept | apply State.setB_kept | fail_if_no_progress (apply upd_kept))) | split | (dsimp only; split))

theorem State.warmKeep_kept {s0 : State} (d t : State) (hd : Kept s0 d) (ht : Kept s0 t) : Kept s0 (d.warmKeep t) :=
  ⟨fun i => ⟨(ht.inv i).1, twf_filter _ (hd.inv i).2⟩, ht.pending, ht.out, ht.freeCtr⟩

theorem State.fenceAll_kept {s0 : State} (s : State) (hs : Kept s0 s) : Kept s0 (State.fenceAll s) := by
  unfold State.fenceAll
  repeat' (first | (with_reducible (first | assumption | intro _ | apply State.fenceEnter_kept | apply foldl_fst_kept | apply foldl_kept | fail_if_no_progress (apply upd_kept))) | split | (dsimp only; split))

theorem State.leaveAll_kept {s0 : State} (s : State) (hs : Kept s0 s) : Kept s0 (State.leaveAll s) := by
  unfold State.leaveAll
  repeat' (first | (with_reducible (first | assumption | intro _ | apply State.fenceLeave_kept | apply foldl_kept | fail_if_no_progress (apply upd_kept))) | split | (dsimp only; split))

theorem State.keepCounts_kept {s0 : State} (old : State) (t : State) (hold : Kept s0 old) (ht : Kept s0 t) : Kept s0 (State.keepCounts old t) := by
  unfold State.keepCounts
  repeat' (first | (with_reducible (first | assumption | intro _ | apply State.setF_kept | apply foldl_kept | fail_if_no_progress (apply upd_kept))) | split | (dsimp only; split))

theorem State.warmReset_kept {s0 : State} (s : State) (cause : ℕ) (hs : Kept s0 s) : Kept s0 (State.warmReset s cause) := by
  unfold State.warmReset
  repeat' (first | (with_reducible (first | assumption | intro _ | apply State.fenceAll_kept | apply State.mcFence_kept | apply State.coldState_kept | apply State.warmKeep_kept | apply State.setB_kept | apply State.powerOn_kept | apply State.setF_kept | apply State.keepDegraded_kept | apply State.avsSet_kept | apply State.leaveAll_kept | apply State.keepCounts_kept | apply foldl_kept | fail_if_no_progress (apply upd_kept))) | split | (dsimp only; split))

theorem warmN_kept {s0 : State} (ns : ℕ) (s : State) (hs : Kept s0 s) : Kept s0 (warmN ns s) := by
  unfold warmN
  repeat' (first | (with_reducible (first | assumption | apply State.warmReset_kept | apply ite_kept | fail_if_no_progress (apply upd_kept))) | split | (dsimp only; split))

theorem execWarmN_kept {s0 : State} (ns : ℕ) (s : State) (hs : Kept s0 s) : OutKept s0 (execWarmN ns s) := by
  unfold execWarmN
  repeat' (first | (with_reducible (first | assumption | intro _ | apply OutKept.next | apply warmN_kept | fail_if_no_progress (apply upd_kept))) | split | (dsimp only; split))

theorem watchdogExpiry_kept {s0 : State} (s : State) (hs : Kept s0 s) : Kept s0 (watchdogExpiry s) := by
  unfold watchdogExpiry
  repeat' (first | (with_reducible (first | assumption | apply State.errLog_kept | apply State.warmReset_kept | apply ite_kept | fail_if_no_progress (apply upd_kept))) | split | (dsimp only; split))

theorem execWatchdogExpiry_kept {s0 : State} (s : State) (hs : Kept s0 s) : OutKept s0 (execWatchdogExpiry s) := by
  unfold execWatchdogExpiry
  repeat' (first | (with_reducible (first | assumption | intro _ | apply OutKept.next | apply watchdogExpiry_kept | fail_if_no_progress (apply upd_kept))) | split | (dsimp only; split))

theorem wdogWritten_kept {s0 : State} (s : State) (hs : Kept s0 s) : Kept s0 (wdogWritten s) := by
  unfold wdogWritten
  repeat' (first | (with_reducible (first | assumption | fail_if_no_progress (apply upd_kept))) | split | (dsimp only; split))

theorem State.bootFail_kept {s0 : State} (s : State) (stage : ℕ) (copy : ℕ) (off : ℕ) (code : ℕ) (hs : Kept s0 s) : Kept s0 (State.bootFail s stage copy off code) := by
  unfold State.bootFail
  repeat' (first | (with_reducible (first | assumption | apply State.setF_kept | apply State.errLog_kept | fail_if_no_progress (apply upd_kept))) | split | (dsimp only; split))

theorem State.clockStage_kept {s0 : State} (s : State) (hs : Kept s0 s) : Kept s0 (State.clockStage s) := by
  unfold State.clockStage
  repeat' (first | (with_reducible (first | assumption | apply State.setF_kept | apply State.bootFail_kept | apply State.setB_kept | apply ite_kept | fail_if_no_progress (apply upd_kept))) | split | (dsimp only; split))

theorem State.takeFirmware_kept {s0 : State} (s : State) (im : List (BitVec 8)) (copy : ℕ) (hs : Kept s0 s) : Kept s0 (State.takeFirmware s im copy) := by
  unfold State.takeFirmware
  repeat' (first | (with_reducible (first | assumption | apply State.setWordsAt_kept | apply State.setF_kept | apply State.clockStage_kept | fail_if_no_progress (apply upd_kept))) | split | (dsimp only; split))

theorem State.stageAon_kept {s0 : State} (s : State) (d : BootData) (hs : Kept s0 s) : Kept s0 (State.stageAon s d) := by
  unfold State.stageAon
  repeat' (first | (with_reducible (first | assumption | apply State.next_kept | apply State.bootFail_kept | apply State.avsSet_kept | apply State.setB_kept | apply State.setF_kept | apply ite_kept | fail_if_no_progress (apply upd_kept))) | split | (dsimp only; split))

theorem State.stageRom_kept {s0 : State} (s : State) (d : BootData) (hs : Kept s0 s) : Kept s0 (State.stageRom s d) := by
  unfold State.stageRom
  repeat' (first | (with_reducible (first | assumption | apply State.setF_kept | apply State.takeFirmware_kept | apply State.bootFail_kept | apply ite_kept | fail_if_no_progress (apply upd_kept))) | split | (dsimp only; split))

theorem State.bootForge_kept {s0 : State} (s : State) (f : ℕ) (hs : Kept s0 s) : Kept s0 (State.bootForge s f) := by
  unfold State.bootForge
  repeat' (first | (with_reducible (first | assumption | intro _ | apply State.reloadWord_kept | apply State.masterDir_kept | apply State.dropTags_kept | apply State.fenceLeave_kept | apply ite_kept | apply foldl_kept | fail_if_no_progress (apply upd_kept))) | split | (dsimp only; split))

theorem State.forgesLeave_kept {s0 : State} (s : State) (hs : Kept s0 s) : Kept s0 (State.forgesLeave s) := by
  unfold State.forgesLeave
  repeat' (first | (with_reducible (first | assumption | intro _ | apply State.fenceEnter_kept | apply ite_kept | apply foldl_kept | fail_if_no_progress (apply upd_kept))) | split | (dsimp only; split))

theorem State.loadForges_kept {s0 : State} (s : State) (hs : Kept s0 s) : Kept s0 (State.loadForges s) := by
  unfold State.loadForges
  repeat' (first | (with_reducible (first | assumption | intro _ | apply State.bootForge_kept | apply State.setB_kept | apply ite_kept | apply foldl_kept | fail_if_no_progress (apply upd_kept))) | split | (dsimp only; split))

theorem State.stageUcode_kept {s0 : State} (s : State) (d : BootData) (hs : Kept s0 s) : Kept s0 (State.stageUcode s d) := by
  unfold State.stageUcode
  repeat' (first | (with_reducible (first | assumption | intro _ | apply State.forgesLeave_kept | apply State.loadForges_kept | apply State.setF_kept | apply State.setB_kept | apply State.bootFail_kept | apply State.setWordsAt_kept | apply ite_kept | apply foldl_kept | fail_if_no_progress (apply upd_kept))) | split | (dsimp only; split))

theorem State.stageCert_kept {s0 : State} (s : State) (d : BootData) (hs : Kept s0 s) : Kept s0 (State.stageCert s d) := by
  unfold State.stageCert
  repeat' (first | (with_reducible (first | assumption | apply State.setF_kept | apply State.bootFail_kept | apply ite_kept | fail_if_no_progress (apply upd_kept))) | split | (dsimp only; split))

theorem State.bundleKernel_kept {s0 : State} (s : State) (i : ℕ) (im : List (BitVec 8)) (hs : Kept s0 s) : Kept s0 (State.bundleKernel s i im) := by
  unfold State.bundleKernel
  repeat' (first | (with_reducible (first | assumption | intro _ | apply State.bootFail_kept | apply State.masterWrite_kept | apply State.kernelWrite_kept | apply ite_kept | apply foldl_kept | fail_if_no_progress (apply upd_kept))) | split | (dsimp only; split))

theorem State.bootReady_kept {s0 : State} (s : State) (hs : Kept s0 s) : Kept s0 (State.bootReady s) := by
  unfold State.bootReady
  repeat' (first | (with_reducible (first | assumption | apply State.setF_kept | apply State.pwrNext_kept | apply State.cfgBoot_kept | apply ite_kept | fail_if_no_progress (apply upd_kept))) | split | (dsimp only; split))

theorem State.stageKernels_kept {s0 : State} (s : State) (d : BootData) (hs : Kept s0 s) : Kept s0 (State.stageKernels s d) := by
  unfold State.stageKernels
  repeat' (first | (with_reducible (first | assumption | intro _ | apply State.bootReady_kept | apply State.bundleKernel_kept | apply foldl_kept | fail_if_no_progress (apply upd_kept))) | split | (dsimp only; split))

theorem bootStage_kept {s0 : State} (d : BootData) (s : State) (hs : Kept s0 s) : Kept s0 (bootStage d s) := by
  unfold bootStage
  repeat' (first | (with_reducible (first | assumption | apply State.stageAon_kept | apply State.stageRom_kept | apply State.bootReady_kept | apply State.stageUcode_kept | apply State.stageCert_kept | apply State.stageKernels_kept | apply ite_kept | fail_if_no_progress (apply upd_kept))) | split | (dsimp only; split))

theorem execBootStage_kept {s0 : State} (d : BootData) (s : State) (hs : Kept s0 s) : OutKept s0 (execBootStage d s) := by
  unfold execBootStage
  repeat' (first | (with_reducible (first | assumption | intro _ | apply OutKept.next | apply bootStage_kept | fail_if_no_progress (apply upd_kept))) | split | (dsimp only; split))

theorem clockStageQualified_kept {s0 : State} (s : State) (hs : Kept s0 s) : Kept s0 (clockStageQualified s) := by
  unfold clockStageQualified
  repeat' (first | (with_reducible (first | assumption | intro _ | apply State.relockDone_kept | apply State.enterCoast_kept | apply State.enterAcquire_kept | apply State.firstPassStart_kept | apply State.setF_kept | apply hkCalRequest_kept | apply State.bootFail_kept | apply ite_kept | apply foldl_kept | fail_if_no_progress (apply upd_kept))) | split | (dsimp only; split))

theorem execClockStageQualified_kept {s0 : State} (s : State) (hs : Kept s0 s) : OutKept s0 (execClockStageQualified s) := by
  unfold execClockStageQualified
  repeat' (first | (with_reducible (first | assumption | intro _ | apply OutKept.next | apply clockStageQualified_kept | fail_if_no_progress (apply upd_kept))) | split | (dsimp only; split))

theorem hostGo_kept {s0 : State} (image : HostRead) (s : State) (hs : Kept s0 s) : Kept s0 (hostGo image s) := by
  unfold hostGo
  repeat' (first | (with_reducible (first | assumption | apply State.setB_kept | apply State.bootFail_kept | apply State.takeFirmware_kept | apply ite_kept | fail_if_no_progress (apply upd_kept))) | split | (dsimp only; split))

end Sys2Proof.Machine
end

