-- ==== Sys2Proof/Laws/KeptSecurity.lean ====
section
/-!
SUPPORT. Every function of Machine/Security.lean that answers a state keeps what `Kept` names.
-/
set_option linter.all false
namespace Sys2Proof.Machine

theorem State.blockClear_kept {s0 : State} (s : State) (b : ℕ) (hs : Kept s0 s) : Kept s0 (State.blockClear s b) := by
  unfold State.blockClear
  repeat' (first | (with_reducible (first | assumption | apply State.forgeStop_kept | apply State.hearthClear_kept | apply State.memFence_kept | apply State.rasterClear_kept | apply ite_kept | fail_if_no_progress (apply updBytes_kept) | exact twf_tclear _ _ | exact twf_filter _ | exact id | assumption | fail_if_no_progress (apply upd_kept) | fail_if_no_progress (apply updMem_kept))) | split | (dsimp only; split))

theorem State.ownerReset_kept {s0 : State} (s : State) (o : Owner) (hs : Kept s0 s) : Kept s0 (s.ownerReset o) :=
  updRegs_kept hs (twf_filter _)

theorem State.assignBlock_kept {s0 : State} (s : State) (b : ℕ) (secure : Bool) (hs : Kept s0 s) : Kept s0 (State.assignBlock s b secure) := by
  unfold State.assignBlock
  repeat' (first | (with_reducible (first | assumption | apply State.captureFence_kept | apply State.blockInit_kept | apply State.fenceEnter_kept | apply State.ownerReset_kept | apply State.blockClear_kept | apply State.keepDegraded_kept | apply State.setB_kept | apply State.fenceLeave_kept | apply ite_kept | fail_if_no_progress (apply upd_kept))) | split | (dsimp only; split))

theorem State.assignRing_kept {s0 : State} (s : State) (k : ℕ) (secure : Bool) (hs : Kept s0 s) : Kept s0 (State.assignRing s k secure) := by
  unfold State.assignRing
  repeat' (first | (with_reducible (first | assumption | apply State.setB_kept | apply State.ownerReset_kept | fail_if_no_progress (apply upd_kept))) | split | (dsimp only; split))

theorem State.assignGroup_kept {s0 : State} (s : State) (g : ℕ) (secure : Bool) (hs : Kept s0 s) : Kept s0 (State.assignGroup s g secure) := by
  unfold State.assignGroup
  repeat' (first | (with_reducible (first | assumption | apply State.ownerReset_kept | apply State.setB_kept | fail_if_no_progress (apply upd_kept))) | split | (dsimp only; split))

theorem secAssignStart_kept {s0 : State} (n : ℕ) (kind : ℕ) (secure : Bool) (s : State) (hs : Kept s0 s) : Kept s0 (secAssignStart n kind secure s).st := by
  unfold secAssignStart
  repeat' (first | (with_reducible (first | assumption | intro _ | apply resDone_kept | apply State.assignBlock_kept | apply State.assignRing_kept | apply State.assignGroup_kept | apply ite_res_kept | apply ite_kept | fail_if_no_progress (apply upd_kept))) | split | (dsimp only; split))

theorem execSecAssign_kept {s0 : State} (k : Fin 16) (f : Fetch) (s : State) (hs : Kept s0 s) : OutKept s0 (execSecAssign k f s) := by
  unfold execSecAssign
  repeat' (first | (with_reducible (first | assumption | intro _ | apply OutKept.next | apply State.wakeBlk_kept | apply State.startCmd_kept | apply secAssignStart_kept | apply ite_res_kept | apply ite_out_kept | apply ite_kept | fail_if_no_progress (apply upd_kept))) | split | (dsimp only; split))

theorem secRegionStart_kept {s0 : State} (e : ℕ) (base : ℕ) (size : ℕ) (secure : Bool) (s : State) (hs : Kept s0 s) : Kept s0 (secRegionStart e base size secure s).st := by
  unfold secRegionStart
  repeat' (first | (with_reducible (first | assumption | intro _ | apply resDone_kept | apply State.setF_kept | apply State.setB_kept | apply ite_res_kept | apply ite_fst_kept | apply ite_kept | fail_if_no_progress (apply upd_kept))) | split | (dsimp only; split))

theorem execSecRegion_kept {s0 : State} (k : Fin 16) (f : Fetch) (s : State) (hs : Kept s0 s) : OutKept s0 (execSecRegion k f s) := by
  unfold execSecRegion
  repeat' (first | (with_reducible (first | assumption | intro _ | apply OutKept.next | apply State.startCmd_kept | apply secRegionStart_kept | fail_if_no_progress (apply upd_kept))) | split | (dsimp only; split))

theorem imageVerified_kept {s0 : State} (c : LongCmd) (s : State) (hs : Kept s0 s) : Kept s0 (imageVerified c s) := by
  unfold imageVerified
  repeat' (first | (with_reducible (first | assumption | apply State.finishLong_kept | apply ite_kept | fail_if_no_progress (apply upd_kept))) | split | (dsimp only; split))

theorem imageVerifyStep_kept {s0 : State} (c : LongCmd) (s : State) (hs : Kept s0 s) : Kept s0 (imageVerifyStep c s) := by
  unfold imageVerifyStep
  repeat' (first | (with_reducible (first | assumption | intro _ | apply State.engineStep_kept | apply imageVerified_kept | fail_if_no_progress (apply upd_kept))) | split | (dsimp only; split))

theorem imageVerifyStart_kept {s0 : State} (image : HostRead) (s : State) (hs : Kept s0 s) : Kept s0 (imageVerifyStart image s).st := by
  unfold imageVerifyStart
  repeat' (first | (with_reducible (first | assumption | intro _ | apply resDone_kept | apply ite_res_kept | apply ite_kept | fail_if_no_progress (apply upd_kept))) | split | (dsimp only; split))

theorem execImageVerify_kept {s0 : State} (k : Fin 16) (f : Fetch) (s : State) (hs : Kept s0 s) : OutKept s0 (execImageVerify k f s) := by
  unfold execImageVerify
  repeat' (first | (with_reducible (first | assumption | intro _ | apply OutKept.next | apply State.startCmd_kept | apply imageVerifyStart_kept | fail_if_no_progress (apply upd_kept))) | split | (dsimp only; split))

theorem attested_kept {s0 : State} (c : LongCmd) (s : State) (hs : Kept s0 s) : Kept s0 (attested c s) := by
  unfold attested
  repeat' (first | (with_reducible (first | assumption | apply State.finishLong_kept | apply State.emit_kept | fail_if_no_progress (apply upd_kept))) | split | (dsimp only; split))

theorem attestStep_kept {s0 : State} (c : LongCmd) (s : State) (hs : Kept s0 s) : Kept s0 (attestStep c s) := by
  unfold attestStep
  repeat' (first | (with_reducible (first | assumption | intro _ | apply State.engineStep_kept | apply attested_kept | apply State.finishLong_kept | apply State.putLong_kept | apply ite_kept | fail_if_no_progress (apply upd_kept))) | split | (dsimp only; split))

theorem attestStart_kept {s0 : State} (nonce : HostRead) (s : State) (hs : Kept s0 s) : Kept s0 (attestStart nonce s).st := by
  unfold attestStart
  repeat' (first | (with_reducible (first | assumption | intro _ | apply resDone_kept | apply ite_res_kept | apply ite_kept | fail_if_no_progress (apply upd_kept))) | split | (dsimp only; split))

theorem execAttest_kept {s0 : State} (k : Fin 16) (f : Fetch) (s : State) (hs : Kept s0 s) : OutKept s0 (execAttest k f s) := by
  unfold execAttest
  repeat' (first | (with_reducible (first | assumption | intro _ | apply OutKept.next | apply State.startCmd_kept | apply attestStart_kept | fail_if_no_progress (apply upd_kept))) | split | (dsimp only; split))

theorem keyRevokeStart_kept {s0 : State} (slot : ℕ) (s : State) (hs : Kept s0 s) : Kept s0 (keyRevokeStart slot s).st := by
  unfold keyRevokeStart
  repeat' (first | (with_reducible (first | assumption | intro _ | apply resDone_kept | apply ite_res_kept | apply ite_kept | fail_if_no_progress (apply upd_kept))) | split | (dsimp only; split))

theorem keyRevokeStep_kept {s0 : State} (c : LongCmd) (s : State) (hs : Kept s0 s) : Kept s0 (keyRevokeStep c s) := by
  unfold keyRevokeStep
  repeat' (first | (with_reducible (first | assumption | apply State.setB_kept | apply State.finishLong_kept | fail_if_no_progress (apply upd_kept))) | split | (dsimp only; split))

theorem execKeyRevoke_kept {s0 : State} (k : Fin 16) (f : Fetch) (s : State) (hs : Kept s0 s) : OutKept s0 (execKeyRevoke k f s) := by
  unfold execKeyRevoke
  repeat' (first | (with_reducible (first | assumption | intro _ | apply OutKept.next | apply State.startCmd_kept | apply keyRevokeStart_kept | fail_if_no_progress (apply upd_kept))) | split | (dsimp only; split))

theorem State.longStep_kept {s0 : State} (s : State) (c : LongCmd) (hs : Kept s0 s) : Kept s0 (State.longStep s c) := by
  unfold State.longStep
  repeat' (first | (with_reducible (first | assumption | apply bandscanStep_kept | apply kernelLoadStep_kept | apply ucodeLoadStep_kept | apply forgeReloadCmdStep_kept | apply forgeOfflineStep_kept | apply densClearStep_kept | apply memClearStep_kept | apply cfgSaveStep_kept | apply imageVerifyStep_kept | apply attestStep_kept | apply keyRevokeStep_kept | apply pwrStep_kept | apply ite_kept | fail_if_no_progress (apply upd_kept))) | split | (dsimp only; split))

theorem coachmanRound_kept {s0 : State} (s : State) (hs : Kept s0 s) : Kept s0 (coachmanRound s) := by
  unfold coachmanRound
  repeat' (first | (with_reducible (first | assumption | intro _ | apply State.longStep_kept | apply ite_kept | apply foldl_kept | fail_if_no_progress (apply upd_kept))) | split | (dsimp only; split))

theorem execCoachmanRound_kept {s0 : State} (s : State) (hs : Kept s0 s) : OutKept s0 (execCoachmanRound s) := by
  unfold execCoachmanRound
  repeat' (first | (with_reducible (first | assumption | intro _ | apply OutKept.next | apply coachmanRound_kept | fail_if_no_progress (apply upd_kept))) | split | (dsimp only; split))

end Sys2Proof.Machine
end

