-- ==== Sys2Proof/Laws/KeptAccess.lean ====
section
/-!
SUPPORT. Every function of Machine/Access.lean that answers a state keeps what `Kept` names.
-/
set_option linter.all false
namespace Sys2Proof.Machine

theorem State.setFlags_kept {s0 : State} (s : State) (fs : List Fld) (hs : Kept s0 s) : Kept s0 (State.setFlags s fs) := by
  unfold State.setFlags
  repeat' (first | (with_reducible (first | assumption | intro _ | apply State.setB_kept | apply foldl_kept | fail_if_no_progress (apply upd_kept))) | split | (dsimp only; split))

theorem State.wroteClock_kept {s0 : State} (s : State) (off : ℕ) (old : ℕ) (v : ℕ) (hs : Kept s0 s) : Kept s0 (State.wroteClock s off old v) := by
  unfold State.wroteClock
  repeat' (first | (with_reducible (first | assumption | apply State.setF_kept | apply State.setB_kept | apply State.snap_kept | apply State.enterAcquire_kept | apply State.syncHoldover_kept | apply ite_kept | fail_if_no_progress (apply upd_kept))) | split | (dsimp only; split))

theorem State.wroteId_kept {s0 : State} (s : State) (pf : ℕ) (off : ℕ) (v : ℕ) (hs : Kept s0 s) : Kept s0 (State.wroteId s pf off v) := by
  unfold State.wroteId
  repeat' (first | (with_reducible (first | assumption | apply State.setB_kept | apply wdogWritten_kept | apply bresetWritten_kept | apply ite_kept | fail_if_no_progress (apply upd_kept))) | split | (dsimp only; split))

theorem State.wroteConv_kept {s0 : State} (s : State) (off : ℕ) (old : ℕ) (v : ℕ) (hs : Kept s0 s) : Kept s0 (State.wroteConv s off old v) := by
  unfold State.wroteConv
  repeat' (first | (with_reducible (first | assumption | apply adcCtrlWritten_kept | apply trimWritten_kept | apply State.syncPanic_kept | apply dacCtrlWritten_kept | apply dacGainWritten_kept | apply hkCalRequest_kept | apply hkInjWritten_kept | apply fchCtrlWritten_kept | apply State.shadowSource_kept | apply ite_kept | fail_if_no_progress (apply upd_kept))) | split | (dsimp only; split))

theorem State.wroteFabric_kept {s0 : State} (s : State) (off : ℕ) (old : ℕ) (v : ℕ) (hs : Kept s0 s) : Kept s0 (State.wroteFabric s off old v) := by
  unfold State.wroteFabric
  repeat' (first | (with_reducible (first | assumption | apply fabCtrlWritten_kept | apply budgetWritten_kept | apply dbgHaltWritten_kept | apply State.setF_kept | apply dbgReleaseWritten_kept | apply ite_kept | fail_if_no_progress (apply upd_kept))) | split | (dsimp only; split))

theorem State.wroteTrigger_kept {s0 : State} (s : State) (off : ℕ) (old : ℕ) (v : ℕ) (hs : Kept s0 s) : Kept s0 (State.wroteTrigger s off old v) := by
  unfold State.wroteTrigger
  repeat' (first | (with_reducible (first | assumption | apply trgCtrlWritten_kept | apply acqCtrlWritten_kept | apply tpCtrlWritten_kept | apply answerUpdate_kept | apply State.setF_kept | apply State.ethSyncAll_kept | apply clLanesWritten_kept | apply linkCtrlWritten_kept | apply ite_kept | fail_if_no_progress (apply upd_kept))) | split | (dsimp only; split))

theorem State.wroteHost_kept {s0 : State} (s : State) (off : ℕ) (old : ℕ) (v : ℕ) (hs : Kept s0 s) : Kept s0 (State.wroteHost s off old v) := by
  unfold State.wroteHost
  repeat' (first | (with_reducible (first | assumption | apply ceCtrlWritten_kept | apply sqCtrlWritten_kept | apply State.setB_kept | apply ringCtrlWritten_kept | apply State.ethSyncAll_kept | apply State.ethSync_kept | apply rsCtrlWritten_kept | apply domCtrlWritten_kept | apply padRelWritten_kept | apply State.setWord_kept | apply ite_kept | fail_if_no_progress (apply upd_kept))) | split | (dsimp only; split))

theorem State.wrote_kept {s0 : State} (s : State) (pf : ℕ) (off : ℕ) (old : ℕ) (v : ℕ) (hs : Kept s0 s) : Kept s0 (State.wrote s pf off old v) := by
  unfold State.wrote
  repeat' (first | (with_reducible (first | assumption | apply State.wroteId_kept | apply State.wroteClock_kept | apply State.wroteConv_kept | apply State.wroteFabric_kept | apply State.wroteTrigger_kept | apply State.wroteHost_kept | apply ite_kept | fail_if_no_progress (apply upd_kept))) | split | (dsimp only; split))

theorem State.writeWord_kept {s0 : State} (s : State) (pf : ℕ) (off : ℕ) (v : BitVec 32) (hs : Kept s0 s) : Kept s0 (State.writeWord s pf off v) := by
  unfold State.writeWord
  repeat' (first | (with_reducible (first | assumption | apply State.setWord_kept | apply State.setFlags_kept | apply State.wrote_kept | fail_if_no_progress (apply upd_kept))) | split | (dsimp only; split))

theorem State.writePair_kept {s0 : State} (s : State) (pf : ℕ) (off : ℕ) (lo : Option (BitVec 32)) (hi : BitVec 32) (hs : Kept s0 s) : Kept s0 (State.writePair s pf off lo hi) := by
  unfold State.writePair
  repeat' (first | (with_reducible (first | assumption | apply ntIncrWritten_kept | apply ntStepWritten_kept | apply State.writeWord_kept | apply ite_kept | fail_if_no_progress (apply upd_kept))) | split | (dsimp only; split))

theorem State.msixWrite_kept {s0 : State} (s : State) (pf : ℕ) (o : ℕ) (v : BitVec 32) (hs : Kept s0 s) : Kept s0 (State.msixWrite s pf o v) := by
  unfold State.msixWrite
  repeat' (first | (with_reducible (first | assumption | apply State.raise_kept | apply ite_kept | fail_if_no_progress (apply upd_kept))) | split | (dsimp only; split))

theorem State.write4_kept {s0 : State} (s : State) (pf : ℕ) (off : ℕ) (v : BitVec 32) (hs : Kept s0 s) : Kept s0 (State.write4 s pf off v) := by
  unfold State.write4
  repeat' (first | (with_reducible (first | assumption | apply State.msixWrite_kept | apply State.writePair_kept | apply State.writeWord_kept | apply ite_kept | fail_if_no_progress (apply upd_kept))) | split | (dsimp only; split))

theorem State.rcClear_kept {s0 : State} (s : State) (off : ℕ) (hs : Kept s0 s) : Kept s0 (State.rcClear s off) := by
  unfold State.rcClear
  repeat' (first | (with_reducible (first | assumption | apply State.setWord_kept | apply ite_kept | fail_if_no_progress (apply upd_kept))) | split | (dsimp only; split))

theorem State.readWord_kept {s0 : State} (s : State) (pf : ℕ) (off : ℕ) (hs : Kept s0 s) : Kept s0 (State.readWord s pf off).1 := by
  unfold State.readWord
  repeat' (first | (with_reducible (first | assumption | intro _ | apply State.tdcPop_kept | apply State.txtsPop_kept | apply State.dbgSdata_kept | apply State.rcClear_kept | apply ite_fst_kept | apply ite_kept | fail_if_no_progress (apply upd_kept))) | split | (dsimp only; split))

theorem State.read4_kept {s0 : State} (s : State) (pf : ℕ) (off : ℕ) (hs : Kept s0 s) : Kept s0 (State.read4 s pf off).1 := by
  unfold State.read4
  repeat' (first | (with_reducible (first | assumption | intro _ | apply State.readWord_kept | apply ite_fst_kept | apply ite_kept | fail_if_no_progress (apply upd_kept))) | split | (dsimp only; split))

theorem State.touch_kept {s0 : State} (s : State) (off : ℕ) (hs : Kept s0 s) : Kept s0 (State.touch s off) := by
  unfold State.touch
  repeat' (first | (with_reducible (first | assumption | apply State.wakeBlk_kept | fail_if_no_progress (apply upd_kept))) | split | (dsimp only; split))

theorem State.holdAccess_kept {s0 : State} (s : State) (h_ : HeldAccess) (hs : Kept s0 s) : Kept s0 (State.holdAccess s h_) := by
  unfold State.holdAccess
  repeat' (first | (with_reducible (first | assumption | apply State.wakeBlk_kept | fail_if_no_progress (apply upd_kept))) | split | (dsimp only; split))

theorem State.badAccess_kept {s0 : State} (s : State) (off : ℕ) (hs : Kept s0 s) : Kept s0 (State.badAccess s off) := by
  unfold State.badAccess
  repeat' (first | (with_reducible (first | assumption | apply State.setF_kept | apply State.setB_kept | fail_if_no_progress (apply upd_kept))) | split | (dsimp only; split))

theorem State.put4_kept {s0 : State} (s : State) (pf : ℕ) (off : ℕ) (v : BitVec 32) (hs : Kept s0 s) : Kept s0 (State.put4 s pf off v) := by
  unfold State.put4
  repeat' (first | (with_reducible (first | assumption | apply State.logRefused_kept | apply State.holdAccess_kept | apply State.write4_kept | apply State.touch_kept | apply ite_kept | fail_if_no_progress (apply upd_kept))) | split | (dsimp only; split))

theorem State.put8_kept {s0 : State} (s : State) (pf : ℕ) (off : ℕ) (data : ℕ) (hs : Kept s0 s) : Kept s0 (State.put8 s pf off data) := by
  unfold State.put8
  repeat' (first | (with_reducible (first | assumption | apply State.put4_kept | apply State.logRefused_kept | apply State.holdAccess_kept | apply State.writePair_kept | apply State.touch_kept | apply ite_kept | fail_if_no_progress (apply upd_kept))) | split | (dsimp only; split))

theorem State.get4_kept {s0 : State} (s : State) (pf : ℕ) (off : ℕ) (one : Bool) (hs : Kept s0 s) : Kept s0 (State.get4 s pf off one).1 := by
  unfold State.get4
  repeat' (first | (with_reducible (first | assumption | intro _ | apply State.logRefused_kept | apply State.touch_kept | apply State.readWord_kept | apply State.read4_kept | apply ite_fst_kept | apply ite_kept | fail_if_no_progress (apply upd_kept))) | split | (dsimp only; split))

theorem State.get8_kept {s0 : State} (s : State) (pf : ℕ) (off : ℕ) (hs : Kept s0 s) : Kept s0 (State.get8 s pf off).1 := by
  unfold State.get8
  repeat' (first | (with_reducible (first | assumption | intro _ | apply State.get4_kept | apply ite_fst_kept | apply ite_kept | fail_if_no_progress (apply upd_kept))) | split | (dsimp only; split))

theorem State.serveRead_kept {s0 : State} (s : State) (pf : ℕ) (off : ℕ) (size : ℕ) (hs : Kept s0 s) : Kept s0 (State.serveRead s pf off size) := by
  unfold State.serveRead
  repeat' (first | (with_reducible (first | assumption | apply State.holdAccess_kept | apply State.get8_kept | apply State.get4_kept | apply State.emit_kept | apply ite_fst_kept | apply ite_kept | fail_if_no_progress (apply upd_kept))) | split | (dsimp only; split))

theorem regWrite_kept {s0 : State} (pf : ℕ) (off : ℕ) (size : ℕ) (full : Bool) (data : ℕ) (s : State) (hs : Kept s0 s) : Kept s0 (regWrite pf off size full data s) := by
  unfold regWrite
  repeat' (first | (with_reducible (first | assumption | apply State.badAccess_kept | apply State.setB_kept | apply State.put8_kept | apply State.put4_kept | apply ite_kept | fail_if_no_progress (apply upd_kept))) | split | (dsimp only; split))

theorem regRead_kept {s0 : State} (pf : ℕ) (off : ℕ) (size : ℕ) (full : Bool) (s : State) (hs : Kept s0 s) : Kept s0 (regRead pf off size full s) := by
  unfold regRead
  repeat' (first | (with_reducible (first | assumption | apply State.emit_kept | apply State.badAccess_kept | apply State.serveRead_kept | apply ite_kept | fail_if_no_progress (apply upd_kept))) | split | (dsimp only; split))

theorem execRegisterWrite_kept {s0 : State} (pf : Fin 2) (off : BitVec 24) (size : Fin 65) (full : Bool) (data : BitVec 64) (s : State) (hs : Kept s0 s) : OutKept s0 (execRegisterWrite pf off size full data s) := by
  unfold execRegisterWrite
  repeat' (first | (with_reducible (first | assumption | intro _ | apply OutKept.next | apply regWrite_kept | fail_if_no_progress (apply upd_kept))) | split | (dsimp only; split))

theorem execRcRead_kept {s0 : State} (pf : Fin 2) (off : BitVec 24) (size : Fin 65) (full : Bool) (s : State) (hs : Kept s0 s) : OutKept s0 (execRcRead pf off size full s) := by
  unfold execRcRead
  repeat' (first | (with_reducible (first | assumption | intro _ | apply OutKept.next | apply regRead_kept | fail_if_no_progress (apply upd_kept))) | split | (dsimp only; split))

theorem execLowWordRead_kept {s0 : State} (pf : Fin 2) (off : BitVec 24) (s : State) (hs : Kept s0 s) : OutKept s0 (execLowWordRead pf off s) := by
  unfold execLowWordRead
  repeat' (first | (with_reducible (first | assumption | intro _ | apply OutKept.next | apply regRead_kept | fail_if_no_progress (apply upd_kept))) | split | (dsimp only; split))

theorem execHighWordRead_kept {s0 : State} (pf : Fin 2) (off : BitVec 24) (s : State) (hs : Kept s0 s) : OutKept s0 (execHighWordRead pf off s) := by
  unfold execHighWordRead
  repeat' (first | (with_reducible (first | assumption | intro _ | apply OutKept.next | apply regRead_kept | fail_if_no_progress (apply upd_kept))) | split | (dsimp only; split))

theorem execLowWordWrite_kept {s0 : State} (pf : Fin 2) (off : BitVec 24) (data : BitVec 32) (s : State) (hs : Kept s0 s) : OutKept s0 (execLowWordWrite pf off data s) := by
  unfold execLowWordWrite
  repeat' (first | (with_reducible (first | assumption | intro _ | apply OutKept.next | apply regWrite_kept | fail_if_no_progress (apply upd_kept))) | split | (dsimp only; split))

theorem execHighWordWrite_kept {s0 : State} (pf : Fin 2) (off : BitVec 24) (data : BitVec 32) (s : State) (hs : Kept s0 s) : OutKept s0 (execHighWordWrite pf off data s) := by
  unfold execHighWordWrite
  repeat' (first | (with_reducible (first | assumption | intro _ | apply OutKept.next | apply regWrite_kept | fail_if_no_progress (apply upd_kept))) | split | (dsimp only; split))

theorem State.domainInit_kept {s0 : State} (s : State) (d : ℕ) (hs : Kept s0 s) : Kept s0 (State.domainInit s d) := by
  unfold State.domainInit
  repeat' (first | (with_reducible (first | assumption | apply State.adcRestart_kept | apply State.dropTags_kept | apply State.setMc_kept | apply State.serveRaster_kept | apply ite_kept | fail_if_no_progress (apply upd_kept))) | split | (dsimp only; split))

theorem State.serveHeld_kept {s0 : State} (s : State) (h_ : HeldAccess) (hs : Kept s0 s) : Kept s0 (State.serveHeld s h_) := by
  unfold State.serveHeld
  repeat' (first | (with_reducible (first | assumption | apply State.serveRead_kept | apply State.put8_kept | apply State.put4_kept | apply ite_kept | fail_if_no_progress (apply upd_kept))) | split | (dsimp only; split))

theorem State.domainUp_kept {s0 : State} (s : State) (d : ℕ) (hs : Kept s0 s) : Kept s0 (State.domainUp s d) := by
  unfold State.domainUp
  repeat' (first | (with_reducible (first | assumption | intro _ | apply State.domainInit_kept | apply State.runBlks_kept | apply State.setDom_kept | apply State.serveHeldReqs_kept | apply State.serveHeld_kept | apply foldl_kept | fail_if_no_progress (apply upd_kept))) | split | (dsimp only; split))

theorem State.sleepEnd_kept {s0 : State} (s : State) (hs : Kept s0 s) : Kept s0 (State.sleepEnd s) := by
  unfold State.sleepEnd
  repeat' (first | (with_reducible (first | assumption | intro _ | apply State.runBlks_kept | apply State.setDom_kept | apply State.clockStage_kept | apply State.startDomain_kept | apply ite_kept | apply foldl_kept | fail_if_no_progress (apply upd_kept))) | split | (dsimp only; split))

theorem domainReady_kept {s0 : State} (d : ℕ) (s : State) (hs : Kept s0 s) : Kept s0 (domainReady d s) := by
  unfold domainReady
  repeat' (first | (with_reducible (first | assumption | apply State.sleepEnd_kept | apply State.domainUp_kept | apply ite_kept | fail_if_no_progress (apply upd_kept))) | split | (dsimp only; split))

theorem execDomainReady_kept {s0 : State} (d : Fin 96) (s : State) (hs : Kept s0 s) : OutKept s0 (execDomainReady d s) := by
  unfold execDomainReady
  repeat' (first | (with_reducible (first | assumption | intro _ | apply OutKept.next | apply domainReady_kept | fail_if_no_progress (apply upd_kept))) | split | (dsimp only; split))

end Sys2Proof.Machine
end

