-- ==== Sys2Proof/Laws/KeptHostRows.lean ====
section
/-!
SUPPORT. Every function of Machine/HostRows.lean that answers a state keeps what `Kept` names.
-/
set_option linter.all false
namespace Sys2Proof.Machine

theorem hostWrite_kept {s0 : State} (pf : Fin 2) (off : ℕ) (v : ℕ) (s : State) (hs : Kept s0 s) : Kept s0 (hostWrite pf off v s) := by
  unfold hostWrite
  repeat' (first | (with_reducible (first | assumption | apply regWrite_kept | fail_if_no_progress (apply upd_kept))) | split | (dsimp only; split))

theorem execWdogKick_kept {s0 : State} (pf : Fin 2) (v : BitVec 32) (s : State) (hs : Kept s0 s) : OutKept s0 (execWdogKick pf v s) := by
  unfold execWdogKick
  repeat' (first | (with_reducible (first | assumption | intro _ | apply OutKept.next | apply hostWrite_kept | fail_if_no_progress (apply upd_kept))) | split | (dsimp only; split))

theorem hostBootGo_kept {s0 : State} (pf : Fin 2) (image : HostRead) (s : State) (hs : Kept s0 s) : Kept s0 (hostBootGo pf image s) := by
  unfold hostBootGo
  repeat' (first | (with_reducible (first | assumption | apply hostGo_kept | apply hostWrite_kept | apply ite_kept | fail_if_no_progress (apply upd_kept))) | split | (dsimp only; split))

theorem execHostBootGo_kept {s0 : State} (pf : Fin 2) (image : HostRead) (s : State) (hs : Kept s0 s) : OutKept s0 (execHostBootGo pf image s) := by
  unfold execHostBootGo
  repeat' (first | (with_reducible (first | assumption | intro _ | apply OutKept.next | apply hostBootGo_kept | fail_if_no_progress (apply upd_kept))) | split | (dsimp only; split))

theorem execBlockReset_kept {s0 : State} (pf : Fin 2) (v : BitVec 32) (s : State) (hs : Kept s0 s) : OutKept s0 (execBlockReset pf v s) := by
  unfold execBlockReset
  repeat' (first | (with_reducible (first | assumption | intro _ | apply OutKept.next | apply hostWrite_kept | fail_if_no_progress (apply upd_kept))) | split | (dsimp only; split))

theorem tbBit_kept {s0 : State} (pf : Fin 2) (i : ℕ) (s : State) (hs : Kept s0 s) : Kept s0 (tbBit pf i s) := by
  unfold tbBit
  repeat' (first | (with_reducible (first | assumption | apply hostWrite_kept | fail_if_no_progress (apply upd_kept))) | split | (dsimp only; split))

theorem execLoad_kept {s0 : State} (pf : Fin 2) (s : State) (hs : Kept s0 s) : OutKept s0 (execLoad pf s) := by
  unfold execLoad
  repeat' (first | (with_reducible (first | assumption | intro _ | apply OutKept.next | apply tbBit_kept | fail_if_no_progress (apply upd_kept))) | split | (dsimp only; split))

theorem execSnap_kept {s0 : State} (pf : Fin 2) (s : State) (hs : Kept s0 s) : OutKept s0 (execSnap pf s) := by
  unfold execSnap
  repeat' (first | (with_reducible (first | assumption | intro _ | apply OutKept.next | apply tbBit_kept | fail_if_no_progress (apply upd_kept))) | split | (dsimp only; split))

theorem adcCtrl_kept {s0 : State} (pf : Fin 2) (n : Fin 8) (v : ℕ) (s : State) (hs : Kept s0 s) : Kept s0 (adcCtrl pf n v s) := by
  unfold adcCtrl
  repeat' (first | (with_reducible (first | assumption | apply hostWrite_kept | fail_if_no_progress (apply upd_kept))) | split | (dsimp only; split))

theorem execAdcEnWrite_kept {s0 : State} (pf : Fin 2) (n : Fin 8) (v : BitVec 32) (s : State) (hs : Kept s0 s) : OutKept s0 (execAdcEnWrite pf n v s) := by
  unfold execAdcEnWrite
  repeat' (first | (with_reducible (first | assumption | intro _ | apply OutKept.next | apply adcCtrl_kept | fail_if_no_progress (apply upd_kept))) | split | (dsimp only; split))

theorem execRotHold_kept {s0 : State} (pf : Fin 2) (n : Fin 8) (v : BitVec 32) (s : State) (hs : Kept s0 s) : OutKept s0 (execRotHold pf n v s) := by
  unfold execRotHold
  repeat' (first | (with_reducible (first | assumption | intro _ | apply OutKept.next | apply adcCtrl_kept | fail_if_no_progress (apply upd_kept))) | split | (dsimp only; split))

theorem execFpRun_kept {s0 : State} (pf : Fin 2) (n : Fin 8) (v : BitVec 32) (s : State) (hs : Kept s0 s) : OutKept s0 (execFpRun pf n v s) := by
  unfold execFpRun
  repeat' (first | (with_reducible (first | assumption | intro _ | apply OutKept.next | apply adcCtrl_kept | fail_if_no_progress (apply upd_kept))) | split | (dsimp only; split))

theorem execTrimWrite_kept {s0 : State} (pf : Fin 2) (n : Fin 8) (k : Fin 33) (skew : Bool) (v : BitVec 32) (s : State) (hs : Kept s0 s) : OutKept s0 (execTrimWrite pf n k skew v s) := by
  unfold execTrimWrite
  repeat' (first | (with_reducible (first | assumption | intro _ | apply OutKept.next | apply hostWrite_kept | apply ite_out_kept | apply ite_kept | fail_if_no_progress (apply upd_kept))) | split | (dsimp only; split))

theorem execDacEnable_kept {s0 : State} (pf : Fin 2) (n : Fin 4) (v : BitVec 32) (s : State) (hs : Kept s0 s) : OutKept s0 (execDacEnable pf n v s) := by
  unfold execDacEnable
  repeat' (first | (with_reducible (first | assumption | intro _ | apply OutKept.next | apply hostWrite_kept | fail_if_no_progress (apply upd_kept))) | split | (dsimp only; split))

theorem fchCtrl_kept {s0 : State} (pf : Fin 2) (n : Fin 16) (v : ℕ) (s : State) (hs : Kept s0 s) : Kept s0 (fchCtrl pf n v s) := by
  unfold fchCtrl
  repeat' (first | (with_reducible (first | assumption | apply hostWrite_kept | fail_if_no_progress (apply upd_kept))) | split | (dsimp only; split))

theorem execFchCommit_kept {s0 : State} (pf : Fin 2) (n : Fin 16) (v : BitVec 32) (s : State) (hs : Kept s0 s) : OutKept s0 (execFchCommit pf n v s) := by
  unfold execFchCommit
  repeat' (first | (with_reducible (first | assumption | intro _ | apply OutKept.next | apply fchCtrl_kept | fail_if_no_progress (apply upd_kept))) | split | (dsimp only; split))

theorem execFchCancel_kept {s0 : State} (pf : Fin 2) (n : Fin 16) (v : BitVec 32) (s : State) (hs : Kept s0 s) : OutKept s0 (execFchCancel pf n v s) := by
  unfold execFchCancel
  repeat' (first | (with_reducible (first | assumption | intro _ | apply OutKept.next | apply fchCtrl_kept | fail_if_no_progress (apply upd_kept))) | split | (dsimp only; split))

theorem execFchEnable_kept {s0 : State} (pf : Fin 2) (n : Fin 16) (v : BitVec 32) (s : State) (hs : Kept s0 s) : OutKept s0 (execFchEnable pf n v s) := by
  unfold execFchEnable
  repeat' (first | (with_reducible (first | assumption | intro _ | apply OutKept.next | apply fchCtrl_kept | fail_if_no_progress (apply upd_kept))) | split | (dsimp only; split))

theorem execFchDisable_kept {s0 : State} (pf : Fin 2) (n : Fin 16) (v : BitVec 32) (s : State) (hs : Kept s0 s) : OutKept s0 (execFchDisable pf n v s) := by
  unfold execFchDisable
  repeat' (first | (with_reducible (first | assumption | intro _ | apply OutKept.next | apply fchCtrl_kept | fail_if_no_progress (apply upd_kept))) | split | (dsimp only; split))

theorem execFabBudgetWrite_kept {s0 : State} (pf : Fin 2) (radius : Bool) (v : BitVec 32) (s : State) (hs : Kept s0 s) : OutKept s0 (execFabBudgetWrite pf radius v s) := by
  unfold execFabBudgetWrite
  repeat' (first | (with_reducible (first | assumption | intro _ | apply OutKept.next | apply hostWrite_kept | apply ite_out_kept | apply ite_kept | fail_if_no_progress (apply upd_kept))) | split | (dsimp only; split))

theorem execDebugHalt_kept {s0 : State} (pf : Fin 2) (f : Fin 32) (v : BitVec 32) (s : State) (hs : Kept s0 s) : OutKept s0 (execDebugHalt pf f v s) := by
  unfold execDebugHalt
  repeat' (first | (with_reducible (first | assumption | intro _ | apply OutKept.next | apply hostWrite_kept | fail_if_no_progress (apply upd_kept))) | split | (dsimp only; split))

theorem execDebugRelease_kept {s0 : State} (pf : Fin 2) (f : Fin 32) (v : BitVec 32) (s : State) (hs : Kept s0 s) : OutKept s0 (execDebugRelease pf f v s) := by
  unfold execDebugRelease
  repeat' (first | (with_reducible (first | assumption | intro _ | apply OutKept.next | apply hostWrite_kept | fail_if_no_progress (apply upd_kept))) | split | (dsimp only; split))

theorem execDbgSdataRead_kept {s0 : State} (pf : Fin 2) (f : Fin 32) (s : State) (hs : Kept s0 s) : OutKept s0 (execDbgSdataRead pf f s) := by
  unfold execDbgSdataRead
  repeat' (first | (with_reducible (first | assumption | intro _ | apply OutKept.next | apply regRead_kept | fail_if_no_progress (apply upd_kept))) | split | (dsimp only; split))

theorem execTrgCommit_kept {s0 : State} (pf : Fin 2) (v : BitVec 32) (s : State) (hs : Kept s0 s) : OutKept s0 (execTrgCommit pf v s) := by
  unfold execTrgCommit
  repeat' (first | (with_reducible (first | assumption | intro _ | apply OutKept.next | apply hostWrite_kept | fail_if_no_progress (apply upd_kept))) | split | (dsimp only; split))

theorem execTrgCancel_kept {s0 : State} (pf : Fin 2) (v : BitVec 32) (s : State) (hs : Kept s0 s) : OutKept s0 (execTrgCancel pf v s) := by
  unfold execTrgCancel
  repeat' (first | (with_reducible (first | assumption | intro _ | apply OutKept.next | apply hostWrite_kept | fail_if_no_progress (apply upd_kept))) | split | (dsimp only; split))

theorem execAcqArm_kept {s0 : State} (pf : Fin 2) (n : Fin 64) (v : BitVec 32) (s : State) (hs : Kept s0 s) : OutKept s0 (execAcqArm pf n v s) := by
  unfold execAcqArm
  repeat' (first | (with_reducible (first | assumption | intro _ | apply OutKept.next | apply hostWrite_kept | fail_if_no_progress (apply upd_kept))) | split | (dsimp only; split))

theorem execAcqStop_kept {s0 : State} (pf : Fin 2) (n : Fin 64) (v : BitVec 32) (s : State) (hs : Kept s0 s) : OutKept s0 (execAcqStop pf n v s) := by
  unfold execAcqStop
  repeat' (first | (with_reducible (first | assumption | intro _ | apply OutKept.next | apply hostWrite_kept | fail_if_no_progress (apply upd_kept))) | split | (dsimp only; split))

theorem execTdcEnable_kept {s0 : State} (pf : Fin 2) (c : Fin 16) (v : BitVec 32) (s : State) (hs : Kept s0 s) : OutKept s0 (execTdcEnable pf c v s) := by
  unfold execTdcEnable
  repeat' (first | (with_reducible (first | assumption | intro _ | apply OutKept.next | apply hostWrite_kept | fail_if_no_progress (apply upd_kept))) | split | (dsimp only; split))

theorem execTdcPop_kept {s0 : State} (pf : Fin 2) (c : Fin 16) (s : State) (hs : Kept s0 s) : OutKept s0 (execTdcPop pf c s) := by
  unfold execTdcPop
  repeat' (first | (with_reducible (first | assumption | intro _ | apply OutKept.next | apply regRead_kept | fail_if_no_progress (apply upd_kept))) | split | (dsimp only; split))

theorem execTxtsRead_kept {s0 : State} (pf : Fin 2) (s : State) (hs : Kept s0 s) : OutKept s0 (execTxtsRead pf s) := by
  unfold execTxtsRead
  repeat' (first | (with_reducible (first | assumption | intro _ | apply OutKept.next | apply regRead_kept | fail_if_no_progress (apply upd_kept))) | split | (dsimp only; split))

theorem execNtIncrWrite_kept {s0 : State} (pf : Fin 2) (v : BitVec 64) (s : State) (hs : Kept s0 s) : OutKept s0 (execNtIncrWrite pf v s) := by
  unfold execNtIncrWrite
  repeat' (first | (with_reducible (first | assumption | intro _ | apply OutKept.next | apply regWrite_kept | fail_if_no_progress (apply upd_kept))) | split | (dsimp only; split))

theorem execNtStepWrite_kept {s0 : State} (pf : Fin 2) (v : BitVec 64) (s : State) (hs : Kept s0 s) : OutKept s0 (execNtStepWrite pf v s) := by
  unfold execNtStepWrite
  repeat' (first | (with_reducible (first | assumption | intro _ | apply OutKept.next | apply regWrite_kept | fail_if_no_progress (apply upd_kept))) | split | (dsimp only; split))

theorem ringCtrl_kept {s0 : State} (pf : Fin 2) (k : Fin 16) (v : ℕ) (s : State) (hs : Kept s0 s) : Kept s0 (ringCtrl pf k v s) := by
  unfold ringCtrl
  repeat' (first | (with_reducible (first | assumption | apply hostWrite_kept | fail_if_no_progress (apply upd_kept))) | split | (dsimp only; split))

theorem execRingEnable_kept {s0 : State} (pf : Fin 2) (k : Fin 16) (v : BitVec 32) (s : State) (hs : Kept s0 s) : OutKept s0 (execRingEnable pf k v s) := by
  unfold execRingEnable
  repeat' (first | (with_reducible (first | assumption | intro _ | apply OutKept.next | apply ringCtrl_kept | fail_if_no_progress (apply upd_kept))) | split | (dsimp only; split))

theorem execRingDisable_kept {s0 : State} (pf : Fin 2) (k : Fin 16) (v : BitVec 32) (s : State) (hs : Kept s0 s) : OutKept s0 (execRingDisable pf k v s) := by
  unfold execRingDisable
  repeat' (first | (with_reducible (first | assumption | intro _ | apply OutKept.next | apply ringCtrl_kept | fail_if_no_progress (apply upd_kept))) | split | (dsimp only; split))

theorem ceCtrl_kept {s0 : State} (pf : Fin 2) (c : Fin 64) (v : ℕ) (s : State) (hs : Kept s0 s) : Kept s0 (ceCtrl pf c v s) := by
  unfold ceCtrl
  repeat' (first | (with_reducible (first | assumption | apply hostWrite_kept | fail_if_no_progress (apply upd_kept))) | split | (dsimp only; split))

theorem execCoachEnable_kept {s0 : State} (pf : Fin 2) (c : Fin 64) (v : BitVec 32) (s : State) (hs : Kept s0 s) : OutKept s0 (execCoachEnable pf c v s) := by
  unfold execCoachEnable
  repeat' (first | (with_reducible (first | assumption | intro _ | apply OutKept.next | apply ceCtrl_kept | fail_if_no_progress (apply upd_kept))) | split | (dsimp only; split))

theorem execCoachStop_kept {s0 : State} (pf : Fin 2) (c : Fin 64) (v : BitVec 32) (s : State) (hs : Kept s0 s) : OutKept s0 (execCoachStop pf c v s) := by
  unfold execCoachStop
  repeat' (first | (with_reducible (first | assumption | intro _ | apply OutKept.next | apply ceCtrl_kept | fail_if_no_progress (apply upd_kept))) | split | (dsimp only; split))

theorem execCoachStart_kept {s0 : State} (pf : Fin 2) (c : Fin 64) (v : BitVec 32) (s : State) (hs : Kept s0 s) : OutKept s0 (execCoachStart pf c v s) := by
  unfold execCoachStart
  repeat' (first | (with_reducible (first | assumption | intro _ | apply OutKept.next | apply ceCtrl_kept | fail_if_no_progress (apply upd_kept))) | split | (dsimp only; split))

theorem execCoachReset_kept {s0 : State} (pf : Fin 2) (c : Fin 64) (v : BitVec 32) (s : State) (hs : Kept s0 s) : OutKept s0 (execCoachReset pf c v s) := by
  unfold execCoachReset
  repeat' (first | (with_reducible (first | assumption | intro _ | apply OutKept.next | apply ceCtrl_kept | fail_if_no_progress (apply upd_kept))) | split | (dsimp only; split))

theorem execCoachDisable_kept {s0 : State} (pf : Fin 2) (c : Fin 64) (v : BitVec 32) (s : State) (hs : Kept s0 s) : OutKept s0 (execCoachDisable pf c v s) := by
  unfold execCoachDisable
  repeat' (first | (with_reducible (first | assumption | intro _ | apply OutKept.next | apply ceCtrl_kept | fail_if_no_progress (apply upd_kept))) | split | (dsimp only; split))

theorem sqCtrl_kept {s0 : State} (pf : Fin 2) (q : Fin 32) (v : ℕ) (s : State) (hs : Kept s0 s) : Kept s0 (sqCtrl pf q v s) := by
  unfold sqCtrl
  repeat' (first | (with_reducible (first | assumption | apply hostWrite_kept | fail_if_no_progress (apply upd_kept))) | split | (dsimp only; split))

theorem execSqEnable_kept {s0 : State} (pf : Fin 2) (q : Fin 32) (v : BitVec 32) (s : State) (hs : Kept s0 s) : OutKept s0 (execSqEnable pf q v s) := by
  unfold execSqEnable
  repeat' (first | (with_reducible (first | assumption | intro _ | apply OutKept.next | apply sqCtrl_kept | fail_if_no_progress (apply upd_kept))) | split | (dsimp only; split))

theorem execSqFlush_kept {s0 : State} (pf : Fin 2) (q : Fin 32) (v : BitVec 32) (s : State) (hs : Kept s0 s) : OutKept s0 (execSqFlush pf q v s) := by
  unfold execSqFlush
  repeat' (first | (with_reducible (first | assumption | intro _ | apply OutKept.next | apply sqCtrl_kept | fail_if_no_progress (apply upd_kept))) | split | (dsimp only; split))

theorem execRsEnable_kept {s0 : State} (pf : Fin 2) (v : BitVec 32) (s : State) (hs : Kept s0 s) : OutKept s0 (execRsEnable pf v s) := by
  unfold execRsEnable
  repeat' (first | (with_reducible (first | assumption | intro _ | apply OutKept.next | apply hostWrite_kept | fail_if_no_progress (apply upd_kept))) | split | (dsimp only; split))

theorem execRsCommit_kept {s0 : State} (pf : Fin 2) (v : BitVec 32) (s : State) (hs : Kept s0 s) : OutKept s0 (execRsCommit pf v s) := by
  unfold execRsCommit
  repeat' (first | (with_reducible (first | assumption | intro _ | apply OutKept.next | apply hostWrite_kept | fail_if_no_progress (apply upd_kept))) | split | (dsimp only; split))

theorem execRsCancel_kept {s0 : State} (pf : Fin 2) (v : BitVec 32) (s : State) (hs : Kept s0 s) : OutKept s0 (execRsCancel pf v s) := by
  unfold execRsCancel
  repeat' (first | (with_reducible (first | assumption | intro _ | apply OutKept.next | apply hostWrite_kept | fail_if_no_progress (apply upd_kept))) | split | (dsimp only; split))

theorem execModeset_kept {s0 : State} (pf : Fin 2) (v : BitVec 32) (s : State) (hs : Kept s0 s) : OutKept s0 (execModeset pf v s) := by
  unfold execModeset
  repeat' (first | (with_reducible (first | assumption | intro _ | apply OutKept.next | apply hostWrite_kept | fail_if_no_progress (apply upd_kept))) | split | (dsimp only; split))

theorem auxTransaction_kept {s0 : State} (pf : Fin 2) (v : BitVec 32) (reply : Option (List (BitVec 8))) (s : State) (hs : Kept s0 s) : Kept s0 (auxTransaction pf v reply s) := by
  unfold auxTransaction
  repeat' (first | (with_reducible (first | assumption | apply State.auxDone_kept | apply hostWrite_kept | fail_if_no_progress (apply upd_kept))) | split | (dsimp only; split))

theorem execAuxTransaction_kept {s0 : State} (pf : Fin 2) (v : BitVec 32) (reply : Option (List (BitVec 8))) (s : State) (hs : Kept s0 s) : OutKept s0 (execAuxTransaction pf v reply s) := by
  unfold execAuxTransaction
  repeat' (first | (with_reducible (first | assumption | intro _ | apply OutKept.next | apply auxTransaction_kept | fail_if_no_progress (apply upd_kept))) | split | (dsimp only; split))

theorem execPadRelease_kept {s0 : State} (pf : Fin 2) (v : BitVec 32) (s : State) (hs : Kept s0 s) : OutKept s0 (execPadRelease pf v s) := by
  unfold execPadRelease
  repeat' (first | (with_reducible (first | assumption | intro _ | apply OutKept.next | apply hostWrite_kept | fail_if_no_progress (apply upd_kept))) | split | (dsimp only; split))

theorem execDomctrl_kept {s0 : State} (pf : Fin 2) (v : BitVec 32) (s : State) (hs : Kept s0 s) : OutKept s0 (execDomctrl pf v s) := by
  unfold execDomctrl
  repeat' (first | (with_reducible (first | assumption | intro _ | apply OutKept.next | apply hostWrite_kept | fail_if_no_progress (apply upd_kept))) | split | (dsimp only; split))

theorem execHkInject_kept {s0 : State} (pf : Fin 2) (x : Fin 2) (v : BitVec 32) (s : State) (hs : Kept s0 s) : OutKept s0 (execHkInject pf x v s) := by
  unfold execHkInject
  repeat' (first | (with_reducible (first | assumption | intro _ | apply OutKept.next | apply hostWrite_kept | fail_if_no_progress (apply upd_kept))) | split | (dsimp only; split))

end Sys2Proof.Machine
end

