-- ==== Sys2Proof/Laws/KeptSamples.lean ====
section
/-!
SUPPORT. Every function of Machine/Samples.lean that answers a state keeps what `Kept` names.
-/
set_option linter.all false
namespace Sys2Proof.Machine

theorem State.inputCodes_kept {s0 : State} (s : State) (n : ℕ) (codes : List (BitVec 12)) (hs : Kept s0 s) :
    Kept s0 (s.inputCodes n codes).1 := by
  unfold State.inputCodes
  dsimp only
  split
  · exact ⟨hs.inv, hs.pending, hs.out, Nat.le_trans hs.freeCtr (Nat.le_add_right _ _)⟩
  · exact hs

theorem channelSamples_kept {s0 : State} (n : ℕ) (sub : ℕ) (codes : List (BitVec 12)) (s : State) (hs : Kept s0 s) : Kept s0 (channelSamples n sub codes s) := by
  unfold channelSamples
  repeat' (first | (with_reducible (first | assumption | apply State.inputCodes_kept | apply State.channelBus_kept | apply State.feedRaw_kept | apply State.feedRawSlots_kept | apply State.feedRawUnits_kept | apply State.feedChains_kept | apply ite_fst_kept | apply ite_kept | fail_if_no_progress (apply upd_kept))) | split | (dsimp only; split))

theorem execChannelSamples_kept {s0 : State} (n : Fin 8) (sub : Fin 5) (codes : List (BitVec 12)) (s : State) (hs : Kept s0 s) : OutKept s0 (execChannelSamples n sub codes s) := by
  unfold execChannelSamples
  repeat' (first | (with_reducible (first | assumption | intro _ | apply OutKept.next | apply State.whileRunning_kept | apply channelSamples_kept | fail_if_no_progress (apply upd_kept))) | split | (dsimp only; split))

theorem State.feedDet_kept {s0 : State} (s : State) (n : ℕ) (d : DetRes) (hs : Kept s0 s) : Kept s0 (State.feedDet s n d) := by
  unfold State.feedDet
  repeat' (first | (with_reducible (first | assumption | apply State.feedAnswers_kept | apply State.feedDetUnits_kept | fail_if_no_progress (apply upd_kept))) | split | (dsimp only; split))

theorem State.feedOut_kept {s0 : State} (s : State) (n : ℕ) (o : ChainOut) (hs : Kept s0 s) : Kept s0 (State.feedOut s n o) := by
  unfold State.feedOut
  repeat' (first | (with_reducible (first | assumption | apply State.feedChainSlots_kept | apply State.feedChainUnits_kept | apply State.feedContexts_kept | fail_if_no_progress (apply upd_kept))) | split | (dsimp only; split))

theorem chainOutput_kept {s0 : State} (n : ℕ) (s : State) (hs : Kept s0 s) : Kept s0 (chainOutput n s) := by
  unfold chainOutput
  repeat' (first | (with_reducible (first | assumption | intro _ | apply State.chainOutput_kept | apply State.feedOut_kept | apply State.feedDet_kept | apply foldl_fst_kept | apply foldl_kept | fail_if_no_progress (apply upd_kept))) | split | (dsimp only; split))

theorem execChainOutput_kept {s0 : State} (n : Fin 16) (s : State) (hs : Kept s0 s) : OutKept s0 (execChainOutput n s) := by
  unfold execChainOutput
  repeat' (first | (with_reducible (first | assumption | intro _ | apply OutKept.next | apply State.whileRunning_kept | apply chainOutput_kept | fail_if_no_progress (apply upd_kept))) | split | (dsimp only; split))

theorem fchHandOver_kept {s0 : State} (n : ℕ) (s : State) (hs : Kept s0 s) : Kept s0 (fchHandOver n s) := by
  unfold fchHandOver
  repeat' (first | (with_reducible (first | assumption | intro _ | apply State.chainHandOver_kept | apply State.feedDet_kept | apply ite_fst_kept | apply foldl_fst_kept | apply ite_kept | apply foldl_kept | fail_if_no_progress (apply upd_kept))) | split | (dsimp only; split))

theorem execFchHandOver_kept {s0 : State} (n : Fin 16) (s : State) (hs : Kept s0 s) : OutKept s0 (execFchHandOver n s) := by
  unfold execFchHandOver
  repeat' (first | (with_reducible (first | assumption | intro _ | apply OutKept.next | apply State.whileRunning_kept | apply fchHandOver_kept | fail_if_no_progress (apply upd_kept))) | split | (dsimp only; split))

theorem outputSample_kept {s0 : State} (n : ℕ) (s : State) (hs : Kept s0 s) : Kept s0 (outputSample n s) := by
  unfold outputSample
  repeat' (first | (with_reducible (first | assumption | apply State.feedChains_kept | apply dacSampleDue_kept | apply State.dueSample_kept | fail_if_no_progress (apply upd_kept))) | split | (dsimp only; split))

theorem execDacSampleDue_kept {s0 : State} (n : Fin 4) (s : State) (hs : Kept s0 s) : OutKept s0 (execDacSampleDue n s) := by
  unfold execDacSampleDue
  repeat' (first | (with_reducible (first | assumption | intro _ | apply OutKept.next | apply State.whileRunning_kept | apply State.syncPanic_kept | apply outputSample_kept | fail_if_no_progress (apply upd_kept))) | split | (dsimp only; split))

theorem triginEdgeAt_kept {s0 : State} (i : ℕ) (rising : Bool) (k : ℕ) (s : State) (hs : Kept s0 s) : Kept s0 (triginEdgeAt i rising k s) := by
  unfold triginEdgeAt
  repeat' (first | (with_reducible (first | assumption | apply State.p3Wake_kept | apply triginEdge_kept | apply ite_kept | fail_if_no_progress (apply upd_kept))) | split | (dsimp only; split))

theorem execTriginEdge_kept {s0 : State} (i : Fin 4) (rising : Bool) (k : Fin 160) (s : State) (hs : Kept s0 s) : OutKept s0 (execTriginEdge i rising k s) := by
  unfold execTriginEdge
  repeat' (first | (with_reducible (first | assumption | intro _ | apply OutKept.next | apply triginEdgeAt_kept | fail_if_no_progress (apply upd_kept))) | split | (dsimp only; split))

theorem State.tickWork_kept {s0 : State} (s : State) (hs : Kept s0 s) : Kept s0 (State.tickWork s) := by
  unfold State.tickWork
  repeat' (first | (with_reducible (first | assumption | apply State.trimTick_kept | apply State.servoTick_kept | apply State.tdcTick_kept | apply State.tpArmTick_kept | apply State.acqStops_kept | fail_if_no_progress (apply upd_kept))) | split | (dsimp only; split))

theorem State.cycleWork_kept {s0 : State} (s : State) (hs : Kept s0 s) : Kept s0 (State.cycleWork s) := by
  unfold State.cycleWork
  repeat' (first | (with_reducible (first | assumption | apply State.forgeTick_kept | apply State.ansTick_kept | apply State.dacTick_kept | apply State.heldTick_kept | apply State.trgTick_kept | apply State.fchTick_kept | apply State.tickWork_kept | apply State.grantCredit_kept | apply State.sendTimes_kept | apply State.cfgAdvance_kept | apply State.rsTick_kept | apply State.ethTick_kept | apply ite_kept | fail_if_no_progress (apply upd_kept))) | split | (dsimp only; split))

theorem controlCycle_kept {s0 : State} (s : State) (hs : Kept s0 s) : Kept s0 (controlCycle s) := by
  unfold controlCycle
  repeat' (first | (with_reducible (first | assumption | apply ptimeIncrement_kept | apply State.cycleWork_kept | apply State.pwrTick_kept | apply ite_kept | fail_if_no_progress (apply upd_kept))) | split | (dsimp only; split))

theorem execPtimeIncrement_kept {s0 : State} (s : State) (hs : Kept s0 s) : OutKept s0 (execPtimeIncrement s) := by
  unfold execPtimeIncrement
  repeat' (first | (with_reducible (first | assumption | intro _ | apply OutKept.next | apply controlCycle_kept | fail_if_no_progress (apply upd_kept))) | split | (dsimp only; split))

end Sys2Proof.Machine
end

