-- ==== Sys2Proof/Laws/KeptDispatch.lean ====
section
/-!
SUPPORT. Every function of Machine/Dispatch.lean that answers a state keeps what `Kept` names.
-/
set_option linter.all false
namespace Sys2Proof.Machine

theorem exec_kept {s0 : State} (i : Instr) (s : State) (hs : Kept s0 s) : OutKept s0 (exec i s) := by
  unfold exec
  repeat' (first | (with_reducible (first | assumption | intro _ | apply OutKept.next | apply execRegisterWrite_kept | apply execRcRead_kept | apply execLowWordRead_kept | apply execHighWordRead_kept | apply execLowWordWrite_kept | apply execHighWordWrite_kept | apply execBlockRequest_kept | apply execReplyReceived_kept | apply execFenceExit_kept | apply execDomainReady_kept | apply execCaptureWriterRestart_kept | apply execPorstN_kept | apply execWarmN_kept | apply execWatchdogExpiry_kept | apply execWdogKick_kept | apply execBootStage_kept | apply execHostBootGo_kept | apply execBlockReset_kept | apply execRetune_kept | apply execBandscan_kept | apply execRelockQualified_kept | apply execRelockTimeout_kept | apply execClockStageQualified_kept | apply execLockedRise_kept | apply execLockLoss_kept | apply execRefinEdge_kept | apply execPpsinEdge_kept | apply execTrackerIntervalClose_kept | apply execPtimeIncrement_kept | apply execTbModeChange_kept | apply execLoad_kept | apply execSnap_kept | apply execPpsoutPulse_kept | apply execChannelSamples_kept | apply execAdcEnWrite_kept | apply execDcorApply_kept | apply execRotationStepStart_kept | apply execPlausibilityDecision_kept | apply execPlausibilityRetry_kept | apply execMeasurementCompare_kept | apply execHandBack_kept | apply execRotHold_kept | apply execTrimWrite_kept | apply execFpRun_kept | apply execFirstPassDone_kept | apply execLoopbackSwitch_kept | apply execDacEnable_kept | apply execDacStart_kept | apply execDacPrefetchReady_kept | apply execDacStop_kept | apply execDacSourceChange_kept | apply execNcoFtwApply_kept | apply execDacSampleDue_kept | apply execSynthRecord_kept | apply execFchCommit_kept | apply execFchChecksDone_kept | apply execFchCancel_kept | apply execFchEnable_kept | apply execFchStart_kept | apply execFchDisable_kept | apply execFchHandOver_kept | apply execChainOutput_kept | apply execFrameCut_kept | apply execLocalTake_kept | apply execStealProbe_kept | apply execPinSegment_kept | apply execHomeMove_kept | apply execFabBudgetWrite_kept | apply execNop_kept | apply execRep_kept | apply execReps_kept | apply execBr_kept | apply execBnz_kept | apply execBz_kept | apply execSli_kept | apply execSlui_kept | apply execSadd_kept | apply execSsub_kept | apply execSaddi_kept | apply execSlog_kept | apply execSsh_kept | apply execAimm_kept | apply execOimm_kept | apply execLimm_kept | apply execAmov_kept | apply execSmova_kept | apply execRdsat_kept | apply execVld_kept | apply execVst_kept | apply execVld2_kept | apply execSld_kept | apply execSst_kept | apply execAld_kept | apply execAst_kept | apply execVadd_kept | apply execVsub_kept | apply execVmul_kept | apply execVmac_kept | apply execVmax_kept | apply execVmin_kept | apply execVshr_kept | apply execVshl_kept | apply execVlog_kept | apply execVswap_kept | apply execAclr_kept | apply execArnd_kept | apply execVbcast_kept | apply execVlane_kept | apply execCmul_kept | apply execCmac_kept | apply execBfly4_kept | apply execBfly2_kept | apply execWin_kept | apply execMag2_kept | apply execMag2Db_kept | apply execLog2a_kept | apply execVmaxi_kept | apply execVmini_kept | apply execHist_kept | apply execMove_kept | apply execMoveComplete_kept | apply execTload_kept | apply execBdone_kept | apply execBrk_kept | apply execPublishCopyEnd_kept | apply execRunaway_kept | apply execMachineCheck_kept | apply execForgeReloadStep_kept | apply execDebugHalt_kept | apply execHaltApplied_kept | apply execDebugRelease_kept | apply execDbgSdataRead_kept | apply execNopCommand_kept | apply execCancel_kept | apply execCalSweep_kept | apply execKernelLoad_kept | apply execUcodeLoad_kept | apply execForgeReload_kept | apply execForgeOffline_kept | apply execCtxStart_kept | apply execCtxStop_kept | apply execCtxModify_kept | apply execDensClear_kept | apply execMemClear_kept | apply execClArm_kept | apply execClArmTimeout_kept | apply execCfgSwitch_kept | apply execCfgRevert_kept | apply execCfgSave_kept | apply execCfgAnswerDeadline_kept | apply execCfgActivate_kept | apply execImageVerify_kept | apply execAttest_kept | apply execSecAssign_kept | apply execSecRegion_kept | apply execKeyRevoke_kept | apply execPwrState_kept | apply execTriginEdge_kept | apply execEventArrival_kept | apply execTermEvaluate_kept | apply execTrgCommit_kept | apply execTrgCancel_kept | apply execTrgHandOver_kept | apply execTrgIoApply_kept | apply execAcqArm_kept | apply execAcqWriteStart_kept | apply execPrefillComplete_kept | apply execWindowComplete_kept | apply execRearmDone_kept | apply execAcqStop_kept | apply execTpQuery_kept | apply execAnswerUpdate_kept | apply execAccept_kept | apply execReject_kept | apply execTpArm_kept | apply execMark_kept | apply execTpReservedCommand_kept | apply execTpclkLoss_kept | apply execLinkTrain_kept | apply execLinkLos_kept | apply execLinkAutoRetrain_kept | apply execTimeCarriage_kept | apply execArmCarriage_kept | apply execArmActivate_kept | apply execFireUp_kept | apply execFireDown_kept | apply execCfgswPrepare_kept | apply execCfgswCommit_kept | apply execCfgswAbort_kept | apply execCfgPrepareExpiry_kept | apply execDataCarriage_kept | apply execCredit_kept | apply execAck_kept | apply execAckTimeout_kept | apply execTinEdge_kept | apply execTdcEnable_kept | apply execTdcPop_kept | apply execTdcBatchEmit_kept | apply execGateEnd_kept | apply execTdcTempUpdate_kept | apply execPtpRx_kept | apply execEthRxFrame_kept | apply execTimedLaunch_kept | apply execTxtsRead_kept | apply execNtIncrWrite_kept | apply execNtStepWrite_kept | apply execNtStepApply_kept | apply execServoWatchdog_kept | apply execMemInitDone_kept | apply execPortRequest_kept | apply execWriteQueueDrain_kept | apply execRefreshDue_kept | apply execOwedRefreshIssue_kept | apply execForcedRefreshStart_kept | apply execForcedRefreshTimeout_kept | apply execStackTemperature_kept | apply execScrubRead_kept | apply execPerstN_kept | apply execHotReset_kept | apply execFlr_kept | apply execCmdTail_kept | apply execCplHead_kept | apply execRingEnable_kept | apply execRingDisable_kept | apply execCoachmanRound_kept | apply execCoachDoorbell_kept | apply execCoachEnable_kept | apply execDescriptorProcess_kept | apply execCoachBurstGrant_kept | apply execReadBackReturn_kept | apply execDescriptorCloseTimeout_kept | apply execSqInPacketEnter_kept | apply execCoachStop_kept | apply execCoachStart_kept | apply execCoachReset_kept | apply execCoachDisable_kept | apply execSqPacketWrite_kept | apply execSqEnable_kept | apply execSqFlush_kept | apply execFlushAct_kept | apply execEthEgress_kept | apply execContextPacket_kept | apply execHpdChange_kept | apply execRsTrain_kept | apply execRsEnable_kept | apply execRsCommit_kept | apply execRsCancel_kept | apply execModeset_kept | apply execSampleInstant_kept | apply execFrontPorchEnd_kept | apply execDensMapStart_kept | apply execMapperDone_kept | apply execCrcCheck_kept | apply execAuxTransaction_kept | apply execP1IdleGate_kept | apply execPadRelease_kept | apply execDomctrl_kept | apply execWakeAt_kept | apply execAvsTimeout_kept | apply execPmbusPoll_kept | apply execPmAlert_kept | apply execHkSequenceTick_kept | apply execHkConversion_kept | apply execHkInject_kept | apply execHkCalRequest_kept | apply execHkCalDone_kept | apply execThermtrip_kept | apply execTpclkEdge_kept | apply execTpclkMeasurement_kept | apply execEthLinkChange_kept | apply execBadOpcode_kept | apply execHostReadCompletion_kept | apply execPcieLinkTraining_kept | apply execVddAonLoss_kept | fail_if_no_progress (apply upd_kept))) | split | (dsimp only; split))

end Sys2Proof.Machine
end

