-- ==== Sys2Proof/Laws/KeptSafety.lean ====
section
/-!
SUPPORT. Every function of Machine/Safety.lean that answers a state keeps what `Kept` names.
-/
set_option linter.all false
namespace Sys2Proof.Machine

theorem State.ranTo_kept {s0 : State} (s : State) (f a pc rep : ℕ) (y : AnvSt) (hs : Kept s0 s) : Kept s0 (s.ranTo f a pc rep y) :=
  let h := State.setAnv_kept s f a { y with pc := pc, upc := (s.issued f a).2.1, rep := rep, cyc := (s.anvN f a).cyc + (s.issued f a).1 } hs
  ⟨h.inv, h.pending, h.out, Nat.le_trans hs.freeCtr (Nat.le_add_right _ _)⟩

theorem State.stepsTo_kept {s0 : State} (s : State) (f : ℕ) (a : ℕ) (y : AnvSt) (hs : Kept s0 s) : Kept s0 (State.stepsTo s f a y) := by
  unfold State.stepsTo
  repeat' (first | (with_reducible (first | assumption | apply State.ranTo_kept | fail_if_no_progress (apply upd_kept))) | split | (dsimp only; split))

end Sys2Proof.Machine
end

