-- ==== Sys2Proof/Laws/State.lean ====
section
/-!
SUPPORT. What the register writes leave alone: one lemma for every component of the state and every operation that writes
registers, sends a message or uses up a free value.
-/
namespace Sys2Proof.Machine

/-- A write of consecutive words changes only the registers. -/
theorem State.setWordsAt_eq (s : State) (off n v : Nat) :
    s.setWordsAt off n v = { s with regs := (s.setWordsAt off n v).regs } := by
  induction n generalizing s off v with
  | zero => rfl
  | succ n ih => exact (ih (s.setWord off (BitVec.ofNat 32 v)) (off + 4) (v / 2 ^ 32))

/-- A write of one bit changes only the registers and the note of the bits that the device sets. -/
theorem State.setB_eq (s : State) (x : Fld) (b : Bool) : s.setB x b = { s with regs := (s.setB x b).regs, sets := (s.setB x b).sets } := by
  unfold State.setB State.noteSet State.setF
  split <;> rw [State.setWordsAt_eq]

/-! ## setWord -/

@[simp] theorem State.setWord_fence (s : State) (off : Nat) (w : BitVec 32) : (s.setWord off w).fence = s.fence := rfl
@[simp] theorem State.setWord_clk (s : State) (off : Nat) (w : BitVec 32) : (s.setWord off w).clk = s.clk := rfl
@[simp] theorem State.setWord_host (s : State) (off : Nat) (w : BitVec 32) : (s.setWord off w).host = s.host := rfl
@[simp] theorem State.setWord_sec (s : State) (off : Nat) (w : BitVec 32) : (s.setWord off w).sec = s.sec := rfl
@[simp] theorem State.setWord_mem (s : State) (off : Nat) (w : BitVec 32) : (s.setWord off w).mem = s.mem := rfl
@[simp] theorem State.setWord_adc (s : State) (off : Nat) (w : BitVec 32) : (s.setWord off w).adc = s.adc := rfl
@[simp] theorem State.setWord_dac (s : State) (off : Nat) (w : BitVec 32) : (s.setWord off w).dac = s.dac := rfl
@[simp] theorem State.setWord_fch (s : State) (off : Nat) (w : BitVec 32) : (s.setWord off w).fch = s.fch := rfl
@[simp] theorem State.setWord_fab (s : State) (off : Nat) (w : BitVec 32) : (s.setWord off w).fab = s.fab := rfl
@[simp] theorem State.setWord_ctx (s : State) (off : Nat) (w : BitVec 32) : (s.setWord off w).ctx = s.ctx := rfl
@[simp] theorem State.setWord_trg (s : State) (off : Nat) (w : BitVec 32) : (s.setWord off w).trg = s.trg := rfl
@[simp] theorem State.setWord_acq (s : State) (off : Nat) (w : BitVec 32) : (s.setWord off w).acq = s.acq := rfl
@[simp] theorem State.setWord_tp (s : State) (off : Nat) (w : BitVec 32) : (s.setWord off w).tp = s.tp := rfl
@[simp] theorem State.setWord_cl (s : State) (off : Nat) (w : BitVec 32) : (s.setWord off w).cl = s.cl := rfl
@[simp] theorem State.setWord_tdc (s : State) (off : Nat) (w : BitVec 32) : (s.setWord off w).tdc = s.tdc := rfl
@[simp] theorem State.setWord_txts (s : State) (off : Nat) (w : BitVec 32) : (s.setWord off w).txts = s.txts := rfl
@[simp] theorem State.setWord_rxLost (s : State) (off : Nat) (w : BitVec 32) : (s.setWord off w).rxLost = s.rxLost := rfl
@[simp] theorem State.setWord_eth (s : State) (off : Nat) (w : BitVec 32) : (s.setWord off w).eth = s.eth := rfl
@[simp] theorem State.setWord_sq (s : State) (off : Nat) (w : BitVec 32) : (s.setWord off w).sq = s.sq := rfl
@[simp] theorem State.setWord_co (s : State) (off : Nat) (w : BitVec 32) : (s.setWord off w).co = s.co := rfl
@[simp] theorem State.setWord_arb (s : State) (off : Nat) (w : BitVec 32) : (s.setWord off w).arb = s.arb := rfl
@[simp] theorem State.setWord_rs (s : State) (off : Nat) (w : BitVec 32) : (s.setWord off w).rs = s.rs := rfl
@[simp] theorem State.setWord_hk (s : State) (off : Nat) (w : BitVec 32) : (s.setWord off w).hk = s.hk := rfl
@[simp] theorem State.setWord_pwr (s : State) (off : Nat) (w : BitVec 32) : (s.setWord off w).pwr = s.pwr := rfl
@[simp] theorem State.setWord_boot (s : State) (off : Nat) (w : BitVec 32) : (s.setWord off w).boot = s.boot := rfl
@[simp] theorem State.setWord_cfg (s : State) (off : Nat) (w : BitVec 32) : (s.setWord off w).cfg = s.cfg := rfl
@[simp] theorem State.setWord_out (s : State) (off : Nat) (w : BitVec 32) : (s.setWord off w).out = s.out := rfl
@[simp] theorem State.setWord_sets (s : State) (off : Nat) (w : BitVec 32) : (s.setWord off w).sets = s.sets := rfl
@[simp] theorem State.setWord_freeCtr (s : State) (off : Nat) (w : BitVec 32) : (s.setWord off w).freeCtr = s.freeCtr := rfl
@[simp] theorem State.setWord_pending (s : State) (off : Nat) (w : BitVec 32) : (s.setWord off w).pending = s.pending := rfl

/-! ## setWordsAt -/

@[simp] theorem State.setWordsAt_fence (s : State) (off n v : Nat) : (s.setWordsAt off n v).fence = s.fence := by rw [State.setWordsAt_eq]
@[simp] theorem State.setWordsAt_clk (s : State) (off n v : Nat) : (s.setWordsAt off n v).clk = s.clk := by rw [State.setWordsAt_eq]
@[simp] theorem State.setWordsAt_host (s : State) (off n v : Nat) : (s.setWordsAt off n v).host = s.host := by rw [State.setWordsAt_eq]
@[simp] theorem State.setWordsAt_sec (s : State) (off n v : Nat) : (s.setWordsAt off n v).sec = s.sec := by rw [State.setWordsAt_eq]
@[simp] theorem State.setWordsAt_mem (s : State) (off n v : Nat) : (s.setWordsAt off n v).mem = s.mem := by rw [State.setWordsAt_eq]
@[simp] theorem State.setWordsAt_adc (s : State) (off n v : Nat) : (s.setWordsAt off n v).adc = s.adc := by rw [State.setWordsAt_eq]
@[simp] theorem State.setWordsAt_dac (s : State) (off n v : Nat) : (s.setWordsAt off n v).dac = s.dac := by rw [State.setWordsAt_eq]
@[simp] theorem State.setWordsAt_fch (s : State) (off n v : Nat) : (s.setWordsAt off n v).fch = s.fch := by rw [State.setWordsAt_eq]
@[simp] theorem State.setWordsAt_fab (s : State) (off n v : Nat) : (s.setWordsAt off n v).fab = s.fab := by rw [State.setWordsAt_eq]
@[simp] theorem State.setWordsAt_ctx (s : State) (off n v : Nat) : (s.setWordsAt off n v).ctx = s.ctx := by rw [State.setWordsAt_eq]
@[simp] theorem State.setWordsAt_trg (s : State) (off n v : Nat) : (s.setWordsAt off n v).trg = s.trg := by rw [State.setWordsAt_eq]
@[simp] theorem State.setWordsAt_acq (s : State) (off n v : Nat) : (s.setWordsAt off n v).acq = s.acq := by rw [State.setWordsAt_eq]
@[simp] theorem State.setWordsAt_tp (s : State) (off n v : Nat) : (s.setWordsAt off n v).tp = s.tp := by rw [State.setWordsAt_eq]
@[simp] theorem State.setWordsAt_cl (s : State) (off n v : Nat) : (s.setWordsAt off n v).cl = s.cl := by rw [State.setWordsAt_eq]
@[simp] theorem State.setWordsAt_tdc (s : State) (off n v : Nat) : (s.setWordsAt off n v).tdc = s.tdc := by rw [State.setWordsAt_eq]
@[simp] theorem State.setWordsAt_txts (s : State) (off n v : Nat) : (s.setWordsAt off n v).txts = s.txts := by rw [State.setWordsAt_eq]
@[simp] theorem State.setWordsAt_rxLost (s : State) (off n v : Nat) : (s.setWordsAt off n v).rxLost = s.rxLost := by rw [State.setWordsAt_eq]
@[simp] theorem State.setWordsAt_eth (s : State) (off n v : Nat) : (s.setWordsAt off n v).eth = s.eth := by rw [State.setWordsAt_eq]
@[simp] theorem State.setWordsAt_sq (s : State) (off n v : Nat) : (s.setWordsAt off n v).sq = s.sq := by rw [State.setWordsAt_eq]
@[simp] theorem State.setWordsAt_co (s : State) (off n v : Nat) : (s.setWordsAt off n v).co = s.co := by rw [State.setWordsAt_eq]
@[simp] theorem State.setWordsAt_arb (s : State) (off n v : Nat) : (s.setWordsAt off n v).arb = s.arb := by rw [State.setWordsAt_eq]
@[simp] theorem State.setWordsAt_rs (s : State) (off n v : Nat) : (s.setWordsAt off n v).rs = s.rs := by rw [State.setWordsAt_eq]
@[simp] theorem State.setWordsAt_hk (s : State) (off n v : Nat) : (s.setWordsAt off n v).hk = s.hk := by rw [State.setWordsAt_eq]
@[simp] theorem State.setWordsAt_pwr (s : State) (off n v : Nat) : (s.setWordsAt off n v).pwr = s.pwr := by rw [State.setWordsAt_eq]
@[simp] theorem State.setWordsAt_boot (s : State) (off n v : Nat) : (s.setWordsAt off n v).boot = s.boot := by rw [State.setWordsAt_eq]
@[simp] theorem State.setWordsAt_cfg (s : State) (off n v : Nat) : (s.setWordsAt off n v).cfg = s.cfg := by rw [State.setWordsAt_eq]
@[simp] theorem State.setWordsAt_out (s : State) (off n v : Nat) : (s.setWordsAt off n v).out = s.out := by rw [State.setWordsAt_eq]
@[simp] theorem State.setWordsAt_sets (s : State) (off n v : Nat) : (s.setWordsAt off n v).sets = s.sets := by rw [State.setWordsAt_eq]
@[simp] theorem State.setWordsAt_freeCtr (s : State) (off n v : Nat) : (s.setWordsAt off n v).freeCtr = s.freeCtr := by rw [State.setWordsAt_eq]
@[simp] theorem State.setWordsAt_pending (s : State) (off n v : Nat) : (s.setWordsAt off n v).pending = s.pending := by rw [State.setWordsAt_eq]

/-! ## setF -/

@[simp] theorem State.setF_fence (s : State) (x : Fld) (v : Nat) : (s.setF x v).fence = s.fence := State.setWordsAt_fence ..
@[simp] theorem State.setF_clk (s : State) (x : Fld) (v : Nat) : (s.setF x v).clk = s.clk := State.setWordsAt_clk ..
@[simp] theorem State.setF_host (s : State) (x : Fld) (v : Nat) : (s.setF x v).host = s.host := State.setWordsAt_host ..
@[simp] theorem State.setF_sec (s : State) (x : Fld) (v : Nat) : (s.setF x v).sec = s.sec := State.setWordsAt_sec ..
@[simp] theorem State.setF_mem (s : State) (x : Fld) (v : Nat) : (s.setF x v).mem = s.mem := State.setWordsAt_mem ..
@[simp] theorem State.setF_adc (s : State) (x : Fld) (v : Nat) : (s.setF x v).adc = s.adc := State.setWordsAt_adc ..
@[simp] theorem State.setF_dac (s : State) (x : Fld) (v : Nat) : (s.setF x v).dac = s.dac := State.setWordsAt_dac ..
@[simp] theorem State.setF_fch (s : State) (x : Fld) (v : Nat) : (s.setF x v).fch = s.fch := State.setWordsAt_fch ..
@[simp] theorem State.setF_fab (s : State) (x : Fld) (v : Nat) : (s.setF x v).fab = s.fab := State.setWordsAt_fab ..
@[simp] theorem State.setF_ctx (s : State) (x : Fld) (v : Nat) : (s.setF x v).ctx = s.ctx := State.setWordsAt_ctx ..
@[simp] theorem State.setF_trg (s : State) (x : Fld) (v : Nat) : (s.setF x v).trg = s.trg := State.setWordsAt_trg ..
@[simp] theorem State.setF_acq (s : State) (x : Fld) (v : Nat) : (s.setF x v).acq = s.acq := State.setWordsAt_acq ..
@[simp] theorem State.setF_tp (s : State) (x : Fld) (v : Nat) : (s.setF x v).tp = s.tp := State.setWordsAt_tp ..
@[simp] theorem State.setF_cl (s : State) (x : Fld) (v : Nat) : (s.setF x v).cl = s.cl := State.setWordsAt_cl ..
@[simp] theorem State.setF_tdc (s : State) (x : Fld) (v : Nat) : (s.setF x v).tdc = s.tdc := State.setWordsAt_tdc ..
@[simp] theorem State.setF_txts (s : State) (x : Fld) (v : Nat) : (s.setF x v).txts = s.txts := State.setWordsAt_txts ..
@[simp] theorem State.setF_rxLost (s : State) (x : Fld) (v : Nat) : (s.setF x v).rxLost = s.rxLost := State.setWordsAt_rxLost ..
@[simp] theorem State.setF_eth (s : State) (x : Fld) (v : Nat) : (s.setF x v).eth = s.eth := State.setWordsAt_eth ..
@[simp] theorem State.setF_sq (s : State) (x : Fld) (v : Nat) : (s.setF x v).sq = s.sq := State.setWordsAt_sq ..
@[simp] theorem State.setF_co (s : State) (x : Fld) (v : Nat) : (s.setF x v).co = s.co := State.setWordsAt_co ..
@[simp] theorem State.setF_arb (s : State) (x : Fld) (v : Nat) : (s.setF x v).arb = s.arb := State.setWordsAt_arb ..
@[simp] theorem State.setF_rs (s : State) (x : Fld) (v : Nat) : (s.setF x v).rs = s.rs := State.setWordsAt_rs ..
@[simp] theorem State.setF_hk (s : State) (x : Fld) (v : Nat) : (s.setF x v).hk = s.hk := State.setWordsAt_hk ..
@[simp] theorem State.setF_pwr (s : State) (x : Fld) (v : Nat) : (s.setF x v).pwr = s.pwr := State.setWordsAt_pwr ..
@[simp] theorem State.setF_boot (s : State) (x : Fld) (v : Nat) : (s.setF x v).boot = s.boot := State.setWordsAt_boot ..
@[simp] theorem State.setF_cfg (s : State) (x : Fld) (v : Nat) : (s.setF x v).cfg = s.cfg := State.setWordsAt_cfg ..
@[simp] theorem State.setF_out (s : State) (x : Fld) (v : Nat) : (s.setF x v).out = s.out := State.setWordsAt_out ..
@[simp] theorem State.setF_sets (s : State) (x : Fld) (v : Nat) : (s.setF x v).sets = s.sets := State.setWordsAt_sets ..
@[simp] theorem State.setF_freeCtr (s : State) (x : Fld) (v : Nat) : (s.setF x v).freeCtr = s.freeCtr := State.setWordsAt_freeCtr ..
@[simp] theorem State.setF_pending (s : State) (x : Fld) (v : Nat) : (s.setF x v).pending = s.pending := State.setWordsAt_pending ..

/-! ## setB -/

@[simp] theorem State.setB_fence (s : State) (x : Fld) (b : Bool) : (s.setB x b).fence = s.fence := by unfold State.setB State.noteSet; split <;> exact State.setWordsAt_fence ..
@[simp] theorem State.setB_clk (s : State) (x : Fld) (b : Bool) : (s.setB x b).clk = s.clk := by unfold State.setB State.noteSet; split <;> exact State.setWordsAt_clk ..
@[simp] theorem State.setB_host (s : State) (x : Fld) (b : Bool) : (s.setB x b).host = s.host := by unfold State.setB State.noteSet; split <;> exact State.setWordsAt_host ..
@[simp] theorem State.setB_sec (s : State) (x : Fld) (b : Bool) : (s.setB x b).sec = s.sec := by unfold State.setB State.noteSet; split <;> exact State.setWordsAt_sec ..
@[simp] theorem State.setB_mem (s : State) (x : Fld) (b : Bool) : (s.setB x b).mem = s.mem := by unfold State.setB State.noteSet; split <;> exact State.setWordsAt_mem ..
@[simp] theorem State.setB_adc (s : State) (x : Fld) (b : Bool) : (s.setB x b).adc = s.adc := by unfold State.setB State.noteSet; split <;> exact State.setWordsAt_adc ..
@[simp] theorem State.setB_dac (s : State) (x : Fld) (b : Bool) : (s.setB x b).dac = s.dac := by unfold State.setB State.noteSet; split <;> exact State.setWordsAt_dac ..
@[simp] theorem State.setB_fch (s : State) (x : Fld) (b : Bool) : (s.setB x b).fch = s.fch := by unfold State.setB State.noteSet; split <;> exact State.setWordsAt_fch ..
@[simp] theorem State.setB_fab (s : State) (x : Fld) (b : Bool) : (s.setB x b).fab = s.fab := by unfold State.setB State.noteSet; split <;> exact State.setWordsAt_fab ..
@[simp] theorem State.setB_ctx (s : State) (x : Fld) (b : Bool) : (s.setB x b).ctx = s.ctx := by unfold State.setB State.noteSet; split <;> exact State.setWordsAt_ctx ..
@[simp] theorem State.setB_trg (s : State) (x : Fld) (b : Bool) : (s.setB x b).trg = s.trg := by unfold State.setB State.noteSet; split <;> exact State.setWordsAt_trg ..
@[simp] theorem State.setB_acq (s : State) (x : Fld) (b : Bool) : (s.setB x b).acq = s.acq := by unfold State.setB State.noteSet; split <;> exact State.setWordsAt_acq ..
@[simp] theorem State.setB_tp (s : State) (x : Fld) (b : Bool) : (s.setB x b).tp = s.tp := by unfold State.setB State.noteSet; split <;> exact State.setWordsAt_tp ..
@[simp] theorem State.setB_cl (s : State) (x : Fld) (b : Bool) : (s.setB x b).cl = s.cl := by unfold State.setB State.noteSet; split <;> exact State.setWordsAt_cl ..
@[simp] theorem State.setB_tdc (s : State) (x : Fld) (b : Bool) : (s.setB x b).tdc = s.tdc := by unfold State.setB State.noteSet; split <;> exact State.setWordsAt_tdc ..
@[simp] theorem State.setB_txts (s : State) (x : Fld) (b : Bool) : (s.setB x b).txts = s.txts := by unfold State.setB State.noteSet; split <;> exact State.setWordsAt_txts ..
@[simp] theorem State.setB_rxLost (s : State) (x : Fld) (b : Bool) : (s.setB x b).rxLost = s.rxLost := by unfold State.setB State.noteSet; split <;> exact State.setWordsAt_rxLost ..
@[simp] theorem State.setB_eth (s : State) (x : Fld) (b : Bool) : (s.setB x b).eth = s.eth := by unfold State.setB State.noteSet; split <;> exact State.setWordsAt_eth ..
@[simp] theorem State.setB_sq (s : State) (x : Fld) (b : Bool) : (s.setB x b).sq = s.sq := by unfold State.setB State.noteSet; split <;> exact State.setWordsAt_sq ..
@[simp] theorem State.setB_co (s : State) (x : Fld) (b : Bool) : (s.setB x b).co = s.co := by unfold State.setB State.noteSet; split <;> exact State.setWordsAt_co ..
@[simp] theorem State.setB_arb (s : State) (x : Fld) (b : Bool) : (s.setB x b).arb = s.arb := by unfold State.setB State.noteSet; split <;> exact State.setWordsAt_arb ..
@[simp] theorem State.setB_rs (s : State) (x : Fld) (b : Bool) : (s.setB x b).rs = s.rs := by unfold State.setB State.noteSet; split <;> exact State.setWordsAt_rs ..
@[simp] theorem State.setB_hk (s : State) (x : Fld) (b : Bool) : (s.setB x b).hk = s.hk := by unfold State.setB State.noteSet; split <;> exact State.setWordsAt_hk ..
@[simp] theorem State.setB_pwr (s : State) (x : Fld) (b : Bool) : (s.setB x b).pwr = s.pwr := by unfold State.setB State.noteSet; split <;> exact State.setWordsAt_pwr ..
@[simp] theorem State.setB_boot (s : State) (x : Fld) (b : Bool) : (s.setB x b).boot = s.boot := by unfold State.setB State.noteSet; split <;> exact State.setWordsAt_boot ..
@[simp] theorem State.setB_cfg (s : State) (x : Fld) (b : Bool) : (s.setB x b).cfg = s.cfg := by unfold State.setB State.noteSet; split <;> exact State.setWordsAt_cfg ..
@[simp] theorem State.setB_out (s : State) (x : Fld) (b : Bool) : (s.setB x b).out = s.out := by unfold State.setB State.noteSet; split <;> exact State.setWordsAt_out ..
@[simp] theorem State.setB_freeCtr (s : State) (x : Fld) (b : Bool) : (s.setB x b).freeCtr = s.freeCtr := by unfold State.setB State.noteSet; split <;> exact State.setWordsAt_freeCtr ..
@[simp] theorem State.setB_pending (s : State) (x : Fld) (b : Bool) : (s.setB x b).pending = s.pending := by unfold State.setB State.noteSet; split <;> exact State.setWordsAt_pending ..

/-! ## setFi -/

@[simp] theorem State.setFi_fence (s : State) (x : Fld) (i : Int) : (s.setFi x i).fence = s.fence := State.setWordsAt_fence ..
@[simp] theorem State.setFi_clk (s : State) (x : Fld) (i : Int) : (s.setFi x i).clk = s.clk := State.setWordsAt_clk ..
@[simp] theorem State.setFi_host (s : State) (x : Fld) (i : Int) : (s.setFi x i).host = s.host := State.setWordsAt_host ..
@[simp] theorem State.setFi_sec (s : State) (x : Fld) (i : Int) : (s.setFi x i).sec = s.sec := State.setWordsAt_sec ..
@[simp] theorem State.setFi_mem (s : State) (x : Fld) (i : Int) : (s.setFi x i).mem = s.mem := State.setWordsAt_mem ..
@[simp] theorem State.setFi_adc (s : State) (x : Fld) (i : Int) : (s.setFi x i).adc = s.adc := State.setWordsAt_adc ..
@[simp] theorem State.setFi_dac (s : State) (x : Fld) (i : Int) : (s.setFi x i).dac = s.dac := State.setWordsAt_dac ..
@[simp] theorem State.setFi_fch (s : State) (x : Fld) (i : Int) : (s.setFi x i).fch = s.fch := State.setWordsAt_fch ..
@[simp] theorem State.setFi_fab (s : State) (x : Fld) (i : Int) : (s.setFi x i).fab = s.fab := State.setWordsAt_fab ..
@[simp] theorem State.setFi_ctx (s : State) (x : Fld) (i : Int) : (s.setFi x i).ctx = s.ctx := State.setWordsAt_ctx ..
@[simp] theorem State.setFi_trg (s : State) (x : Fld) (i : Int) : (s.setFi x i).trg = s.trg := State.setWordsAt_trg ..
@[simp] theorem State.setFi_acq (s : State) (x : Fld) (i : Int) : (s.setFi x i).acq = s.acq := State.setWordsAt_acq ..
@[simp] theorem State.setFi_tp (s : State) (x : Fld) (i : Int) : (s.setFi x i).tp = s.tp := State.setWordsAt_tp ..
@[simp] theorem State.setFi_cl (s : State) (x : Fld) (i : Int) : (s.setFi x i).cl = s.cl := State.setWordsAt_cl ..
@[simp] theorem State.setFi_tdc (s : State) (x : Fld) (i : Int) : (s.setFi x i).tdc = s.tdc := State.setWordsAt_tdc ..
@[simp] theorem State.setFi_txts (s : State) (x : Fld) (i : Int) : (s.setFi x i).txts = s.txts := State.setWordsAt_txts ..
@[simp] theorem State.setFi_rxLost (s : State) (x : Fld) (i : Int) : (s.setFi x i).rxLost = s.rxLost := State.setWordsAt_rxLost ..
@[simp] theorem State.setFi_eth (s : State) (x : Fld) (i : Int) : (s.setFi x i).eth = s.eth := State.setWordsAt_eth ..
@[simp] theorem State.setFi_sq (s : State) (x : Fld) (i : Int) : (s.setFi x i).sq = s.sq := State.setWordsAt_sq ..
@[simp] theorem State.setFi_co (s : State) (x : Fld) (i : Int) : (s.setFi x i).co = s.co := State.setWordsAt_co ..
@[simp] theorem State.setFi_arb (s : State) (x : Fld) (i : Int) : (s.setFi x i).arb = s.arb := State.setWordsAt_arb ..
@[simp] theorem State.setFi_rs (s : State) (x : Fld) (i : Int) : (s.setFi x i).rs = s.rs := State.setWordsAt_rs ..
@[simp] theorem State.setFi_hk (s : State) (x : Fld) (i : Int) : (s.setFi x i).hk = s.hk := State.setWordsAt_hk ..
@[simp] theorem State.setFi_pwr (s : State) (x : Fld) (i : Int) : (s.setFi x i).pwr = s.pwr := State.setWordsAt_pwr ..
@[simp] theorem State.setFi_boot (s : State) (x : Fld) (i : Int) : (s.setFi x i).boot = s.boot := State.setWordsAt_boot ..
@[simp] theorem State.setFi_cfg (s : State) (x : Fld) (i : Int) : (s.setFi x i).cfg = s.cfg := State.setWordsAt_cfg ..
@[simp] theorem State.setFi_out (s : State) (x : Fld) (i : Int) : (s.setFi x i).out = s.out := State.setWordsAt_out ..
@[simp] theorem State.setFi_sets (s : State) (x : Fld) (i : Int) : (s.setFi x i).sets = s.sets := State.setWordsAt_sets ..
@[simp] theorem State.setFi_freeCtr (s : State) (x : Fld) (i : Int) : (s.setFi x i).freeCtr = s.freeCtr := State.setWordsAt_freeCtr ..
@[simp] theorem State.setFi_pending (s : State) (x : Fld) (i : Int) : (s.setFi x i).pending = s.pending := State.setWordsAt_pending ..

/-! ## addSat -/

@[simp] theorem State.addSat_fence (s : State) (x : Fld) (k : Nat) : (s.addSat x k).fence = s.fence := State.setWordsAt_fence ..
@[simp] theorem State.addSat_clk (s : State) (x : Fld) (k : Nat) : (s.addSat x k).clk = s.clk := State.setWordsAt_clk ..
@[simp] theorem State.addSat_host (s : State) (x : Fld) (k : Nat) : (s.addSat x k).host = s.host := State.setWordsAt_host ..
@[simp] theorem State.addSat_sec (s : State) (x : Fld) (k : Nat) : (s.addSat x k).sec = s.sec := State.setWordsAt_sec ..
@[simp] theorem State.addSat_mem (s : State) (x : Fld) (k : Nat) : (s.addSat x k).mem = s.mem := State.setWordsAt_mem ..
@[simp] theorem State.addSat_adc (s : State) (x : Fld) (k : Nat) : (s.addSat x k).adc = s.adc := State.setWordsAt_adc ..
@[simp] theorem State.addSat_dac (s : State) (x : Fld) (k : Nat) : (s.addSat x k).dac = s.dac := State.setWordsAt_dac ..
@[simp] theorem State.addSat_fch (s : State) (x : Fld) (k : Nat) : (s.addSat x k).fch = s.fch := State.setWordsAt_fch ..
@[simp] theorem State.addSat_fab (s : State) (x : Fld) (k : Nat) : (s.addSat x k).fab = s.fab := State.setWordsAt_fab ..
@[simp] theorem State.addSat_ctx (s : State) (x : Fld) (k : Nat) : (s.addSat x k).ctx = s.ctx := State.setWordsAt_ctx ..
@[simp] theorem State.addSat_trg (s : State) (x : Fld) (k : Nat) : (s.addSat x k).trg = s.trg := State.setWordsAt_trg ..
@[simp] theorem State.addSat_acq (s : State) (x : Fld) (k : Nat) : (s.addSat x k).acq = s.acq := State.setWordsAt_acq ..
@[simp] theorem State.addSat_tp (s : State) (x : Fld) (k : Nat) : (s.addSat x k).tp = s.tp := State.setWordsAt_tp ..
@[simp] theorem State.addSat_cl (s : State) (x : Fld) (k : Nat) : (s.addSat x k).cl = s.cl := State.setWordsAt_cl ..
@[simp] theorem State.addSat_tdc (s : State) (x : Fld) (k : Nat) : (s.addSat x k).tdc = s.tdc := State.setWordsAt_tdc ..
@[simp] theorem State.addSat_txts (s : State) (x : Fld) (k : Nat) : (s.addSat x k).txts = s.txts := State.setWordsAt_txts ..
@[simp] theorem State.addSat_rxLost (s : State) (x : Fld) (k : Nat) : (s.addSat x k).rxLost = s.rxLost := State.setWordsAt_rxLost ..
@[simp] theorem State.addSat_eth (s : State) (x : Fld) (k : Nat) : (s.addSat x k).eth = s.eth := State.setWordsAt_eth ..
@[simp] theorem State.addSat_sq (s : State) (x : Fld) (k : Nat) : (s.addSat x k).sq = s.sq := State.setWordsAt_sq ..
@[simp] theorem State.addSat_co (s : State) (x : Fld) (k : Nat) : (s.addSat x k).co = s.co := State.setWordsAt_co ..
@[simp] theorem State.addSat_arb (s : State) (x : Fld) (k : Nat) : (s.addSat x k).arb = s.arb := State.setWordsAt_arb ..
@[simp] theorem State.addSat_rs (s : State) (x : Fld) (k : Nat) : (s.addSat x k).rs = s.rs := State.setWordsAt_rs ..
@[simp] theorem State.addSat_hk (s : State) (x : Fld) (k : Nat) : (s.addSat x k).hk = s.hk := State.setWordsAt_hk ..
@[simp] theorem State.addSat_pwr (s : State) (x : Fld) (k : Nat) : (s.addSat x k).pwr = s.pwr := State.setWordsAt_pwr ..
@[simp] theorem State.addSat_boot (s : State) (x : Fld) (k : Nat) : (s.addSat x k).boot = s.boot := State.setWordsAt_boot ..
@[simp] theorem State.addSat_cfg (s : State) (x : Fld) (k : Nat) : (s.addSat x k).cfg = s.cfg := State.setWordsAt_cfg ..
@[simp] theorem State.addSat_out (s : State) (x : Fld) (k : Nat) : (s.addSat x k).out = s.out := State.setWordsAt_out ..
@[simp] theorem State.addSat_sets (s : State) (x : Fld) (k : Nat) : (s.addSat x k).sets = s.sets := State.setWordsAt_sets ..
@[simp] theorem State.addSat_freeCtr (s : State) (x : Fld) (k : Nat) : (s.addSat x k).freeCtr = s.freeCtr := State.setWordsAt_freeCtr ..
@[simp] theorem State.addSat_pending (s : State) (x : Fld) (k : Nat) : (s.addSat x k).pending = s.pending := State.setWordsAt_pending ..

/-! ## incSat -/

@[simp] theorem State.incSat_fence (s : State) (x : Fld) : (s.incSat x).fence = s.fence := State.setWordsAt_fence ..
@[simp] theorem State.incSat_clk (s : State) (x : Fld) : (s.incSat x).clk = s.clk := State.setWordsAt_clk ..
@[simp] theorem State.incSat_host (s : State) (x : Fld) : (s.incSat x).host = s.host := State.setWordsAt_host ..
@[simp] theorem State.incSat_sec (s : State) (x : Fld) : (s.incSat x).sec = s.sec := State.setWordsAt_sec ..
@[simp] theorem State.incSat_mem (s : State) (x : Fld) : (s.incSat x).mem = s.mem := State.setWordsAt_mem ..
@[simp] theorem State.incSat_adc (s : State) (x : Fld) : (s.incSat x).adc = s.adc := State.setWordsAt_adc ..
@[simp] theorem State.incSat_dac (s : State) (x : Fld) : (s.incSat x).dac = s.dac := State.setWordsAt_dac ..
@[simp] theorem State.incSat_fch (s : State) (x : Fld) : (s.incSat x).fch = s.fch := State.setWordsAt_fch ..
@[simp] theorem State.incSat_fab (s : State) (x : Fld) : (s.incSat x).fab = s.fab := State.setWordsAt_fab ..
@[simp] theorem State.incSat_ctx (s : State) (x : Fld) : (s.incSat x).ctx = s.ctx := State.setWordsAt_ctx ..
@[simp] theorem State.incSat_trg (s : State) (x : Fld) : (s.incSat x).trg = s.trg := State.setWordsAt_trg ..
@[simp] theorem State.incSat_acq (s : State) (x : Fld) : (s.incSat x).acq = s.acq := State.setWordsAt_acq ..
@[simp] theorem State.incSat_tp (s : State) (x : Fld) : (s.incSat x).tp = s.tp := State.setWordsAt_tp ..
@[simp] theorem State.incSat_cl (s : State) (x : Fld) : (s.incSat x).cl = s.cl := State.setWordsAt_cl ..
@[simp] theorem State.incSat_tdc (s : State) (x : Fld) : (s.incSat x).tdc = s.tdc := State.setWordsAt_tdc ..
@[simp] theorem State.incSat_txts (s : State) (x : Fld) : (s.incSat x).txts = s.txts := State.setWordsAt_txts ..
@[simp] theorem State.incSat_rxLost (s : State) (x : Fld) : (s.incSat x).rxLost = s.rxLost := State.setWordsAt_rxLost ..
@[simp] theorem State.incSat_eth (s : State) (x : Fld) : (s.incSat x).eth = s.eth := State.setWordsAt_eth ..
@[simp] theorem State.incSat_sq (s : State) (x : Fld) : (s.incSat x).sq = s.sq := State.setWordsAt_sq ..
@[simp] theorem State.incSat_co (s : State) (x : Fld) : (s.incSat x).co = s.co := State.setWordsAt_co ..
@[simp] theorem State.incSat_arb (s : State) (x : Fld) : (s.incSat x).arb = s.arb := State.setWordsAt_arb ..
@[simp] theorem State.incSat_rs (s : State) (x : Fld) : (s.incSat x).rs = s.rs := State.setWordsAt_rs ..
@[simp] theorem State.incSat_hk (s : State) (x : Fld) : (s.incSat x).hk = s.hk := State.setWordsAt_hk ..
@[simp] theorem State.incSat_pwr (s : State) (x : Fld) : (s.incSat x).pwr = s.pwr := State.setWordsAt_pwr ..
@[simp] theorem State.incSat_boot (s : State) (x : Fld) : (s.incSat x).boot = s.boot := State.setWordsAt_boot ..
@[simp] theorem State.incSat_cfg (s : State) (x : Fld) : (s.incSat x).cfg = s.cfg := State.setWordsAt_cfg ..
@[simp] theorem State.incSat_out (s : State) (x : Fld) : (s.incSat x).out = s.out := State.setWordsAt_out ..
@[simp] theorem State.incSat_sets (s : State) (x : Fld) : (s.incSat x).sets = s.sets := State.setWordsAt_sets ..
@[simp] theorem State.incSat_freeCtr (s : State) (x : Fld) : (s.incSat x).freeCtr = s.freeCtr := State.setWordsAt_freeCtr ..
@[simp] theorem State.incSat_pending (s : State) (x : Fld) : (s.incSat x).pending = s.pending := State.setWordsAt_pending ..

/-! ## addWrap -/

@[simp] theorem State.addWrap_fence (s : State) (x : Fld) (k : Nat) : (s.addWrap x k).fence = s.fence := State.setWordsAt_fence ..
@[simp] theorem State.addWrap_clk (s : State) (x : Fld) (k : Nat) : (s.addWrap x k).clk = s.clk := State.setWordsAt_clk ..
@[simp] theorem State.addWrap_host (s : State) (x : Fld) (k : Nat) : (s.addWrap x k).host = s.host := State.setWordsAt_host ..
@[simp] theorem State.addWrap_sec (s : State) (x : Fld) (k : Nat) : (s.addWrap x k).sec = s.sec := State.setWordsAt_sec ..
@[simp] theorem State.addWrap_mem (s : State) (x : Fld) (k : Nat) : (s.addWrap x k).mem = s.mem := State.setWordsAt_mem ..
@[simp] theorem State.addWrap_adc (s : State) (x : Fld) (k : Nat) : (s.addWrap x k).adc = s.adc := State.setWordsAt_adc ..
@[simp] theorem State.addWrap_dac (s : State) (x : Fld) (k : Nat) : (s.addWrap x k).dac = s.dac := State.setWordsAt_dac ..
@[simp] theorem State.addWrap_fch (s : State) (x : Fld) (k : Nat) : (s.addWrap x k).fch = s.fch := State.setWordsAt_fch ..
@[simp] theorem State.addWrap_fab (s : State) (x : Fld) (k : Nat) : (s.addWrap x k).fab = s.fab := State.setWordsAt_fab ..
@[simp] theorem State.addWrap_ctx (s : State) (x : Fld) (k : Nat) : (s.addWrap x k).ctx = s.ctx := State.setWordsAt_ctx ..
@[simp] theorem State.addWrap_trg (s : State) (x : Fld) (k : Nat) : (s.addWrap x k).trg = s.trg := State.setWordsAt_trg ..
@[simp] theorem State.addWrap_acq (s : State) (x : Fld) (k : Nat) : (s.addWrap x k).acq = s.acq := State.setWordsAt_acq ..
@[simp] theorem State.addWrap_tp (s : State) (x : Fld) (k : Nat) : (s.addWrap x k).tp = s.tp := State.setWordsAt_tp ..
@[simp] theorem State.addWrap_cl (s : State) (x : Fld) (k : Nat) : (s.addWrap x k).cl = s.cl := State.setWordsAt_cl ..
@[simp] theorem State.addWrap_tdc (s : State) (x : Fld) (k : Nat) : (s.addWrap x k).tdc = s.tdc := State.setWordsAt_tdc ..
@[simp] theorem State.addWrap_txts (s : State) (x : Fld) (k : Nat) : (s.addWrap x k).txts = s.txts := State.setWordsAt_txts ..
@[simp] theorem State.addWrap_rxLost (s : State) (x : Fld) (k : Nat) : (s.addWrap x k).rxLost = s.rxLost := State.setWordsAt_rxLost ..
@[simp] theorem State.addWrap_eth (s : State) (x : Fld) (k : Nat) : (s.addWrap x k).eth = s.eth := State.setWordsAt_eth ..
@[simp] theorem State.addWrap_sq (s : State) (x : Fld) (k : Nat) : (s.addWrap x k).sq = s.sq := State.setWordsAt_sq ..
@[simp] theorem State.addWrap_co (s : State) (x : Fld) (k : Nat) : (s.addWrap x k).co = s.co := State.setWordsAt_co ..
@[simp] theorem State.addWrap_arb (s : State) (x : Fld) (k : Nat) : (s.addWrap x k).arb = s.arb := State.setWordsAt_arb ..
@[simp] theorem State.addWrap_rs (s : State) (x : Fld) (k : Nat) : (s.addWrap x k).rs = s.rs := State.setWordsAt_rs ..
@[simp] theorem State.addWrap_hk (s : State) (x : Fld) (k : Nat) : (s.addWrap x k).hk = s.hk := State.setWordsAt_hk ..
@[simp] theorem State.addWrap_pwr (s : State) (x : Fld) (k : Nat) : (s.addWrap x k).pwr = s.pwr := State.setWordsAt_pwr ..
@[simp] theorem State.addWrap_boot (s : State) (x : Fld) (k : Nat) : (s.addWrap x k).boot = s.boot := State.setWordsAt_boot ..
@[simp] theorem State.addWrap_cfg (s : State) (x : Fld) (k : Nat) : (s.addWrap x k).cfg = s.cfg := State.setWordsAt_cfg ..
@[simp] theorem State.addWrap_out (s : State) (x : Fld) (k : Nat) : (s.addWrap x k).out = s.out := State.setWordsAt_out ..
@[simp] theorem State.addWrap_sets (s : State) (x : Fld) (k : Nat) : (s.addWrap x k).sets = s.sets := State.setWordsAt_sets ..
@[simp] theorem State.addWrap_freeCtr (s : State) (x : Fld) (k : Nat) : (s.addWrap x k).freeCtr = s.freeCtr := State.setWordsAt_freeCtr ..
@[simp] theorem State.addWrap_pending (s : State) (x : Fld) (k : Nat) : (s.addWrap x k).pending = s.pending := State.setWordsAt_pending ..

/-! ## setPtimeAt -/

@[simp] theorem State.setPtimeAt_fence (s : State) (off t : Nat) : (s.setPtimeAt off t).fence = s.fence := State.setWordsAt_fence ..
@[simp] theorem State.setPtimeAt_clk (s : State) (off t : Nat) : (s.setPtimeAt off t).clk = s.clk := State.setWordsAt_clk ..
@[simp] theorem State.setPtimeAt_host (s : State) (off t : Nat) : (s.setPtimeAt off t).host = s.host := State.setWordsAt_host ..
@[simp] theorem State.setPtimeAt_sec (s : State) (off t : Nat) : (s.setPtimeAt off t).sec = s.sec := State.setWordsAt_sec ..
@[simp] theorem State.setPtimeAt_mem (s : State) (off t : Nat) : (s.setPtimeAt off t).mem = s.mem := State.setWordsAt_mem ..
@[simp] theorem State.setPtimeAt_adc (s : State) (off t : Nat) : (s.setPtimeAt off t).adc = s.adc := State.setWordsAt_adc ..
@[simp] theorem State.setPtimeAt_dac (s : State) (off t : Nat) : (s.setPtimeAt off t).dac = s.dac := State.setWordsAt_dac ..
@[simp] theorem State.setPtimeAt_fch (s : State) (off t : Nat) : (s.setPtimeAt off t).fch = s.fch := State.setWordsAt_fch ..
@[simp] theorem State.setPtimeAt_fab (s : State) (off t : Nat) : (s.setPtimeAt off t).fab = s.fab := State.setWordsAt_fab ..
@[simp] theorem State.setPtimeAt_ctx (s : State) (off t : Nat) : (s.setPtimeAt off t).ctx = s.ctx := State.setWordsAt_ctx ..
@[simp] theorem State.setPtimeAt_trg (s : State) (off t : Nat) : (s.setPtimeAt off t).trg = s.trg := State.setWordsAt_trg ..
@[simp] theorem State.setPtimeAt_acq (s : State) (off t : Nat) : (s.setPtimeAt off t).acq = s.acq := State.setWordsAt_acq ..
@[simp] theorem State.setPtimeAt_tp (s : State) (off t : Nat) : (s.setPtimeAt off t).tp = s.tp := State.setWordsAt_tp ..
@[simp] theorem State.setPtimeAt_cl (s : State) (off t : Nat) : (s.setPtimeAt off t).cl = s.cl := State.setWordsAt_cl ..
@[simp] theorem State.setPtimeAt_tdc (s : State) (off t : Nat) : (s.setPtimeAt off t).tdc = s.tdc := State.setWordsAt_tdc ..
@[simp] theorem State.setPtimeAt_txts (s : State) (off t : Nat) : (s.setPtimeAt off t).txts = s.txts := State.setWordsAt_txts ..
@[simp] theorem State.setPtimeAt_rxLost (s : State) (off t : Nat) : (s.setPtimeAt off t).rxLost = s.rxLost := State.setWordsAt_rxLost ..
@[simp] theorem State.setPtimeAt_eth (s : State) (off t : Nat) : (s.setPtimeAt off t).eth = s.eth := State.setWordsAt_eth ..
@[simp] theorem State.setPtimeAt_sq (s : State) (off t : Nat) : (s.setPtimeAt off t).sq = s.sq := State.setWordsAt_sq ..
@[simp] theorem State.setPtimeAt_co (s : State) (off t : Nat) : (s.setPtimeAt off t).co = s.co := State.setWordsAt_co ..
@[simp] theorem State.setPtimeAt_arb (s : State) (off t : Nat) : (s.setPtimeAt off t).arb = s.arb := State.setWordsAt_arb ..
@[simp] theorem State.setPtimeAt_rs (s : State) (off t : Nat) : (s.setPtimeAt off t).rs = s.rs := State.setWordsAt_rs ..
@[simp] theorem State.setPtimeAt_hk (s : State) (off t : Nat) : (s.setPtimeAt off t).hk = s.hk := State.setWordsAt_hk ..
@[simp] theorem State.setPtimeAt_pwr (s : State) (off t : Nat) : (s.setPtimeAt off t).pwr = s.pwr := State.setWordsAt_pwr ..
@[simp] theorem State.setPtimeAt_boot (s : State) (off t : Nat) : (s.setPtimeAt off t).boot = s.boot := State.setWordsAt_boot ..
@[simp] theorem State.setPtimeAt_cfg (s : State) (off t : Nat) : (s.setPtimeAt off t).cfg = s.cfg := State.setWordsAt_cfg ..
@[simp] theorem State.setPtimeAt_out (s : State) (off t : Nat) : (s.setPtimeAt off t).out = s.out := State.setWordsAt_out ..
@[simp] theorem State.setPtimeAt_sets (s : State) (off t : Nat) : (s.setPtimeAt off t).sets = s.sets := State.setWordsAt_sets ..
@[simp] theorem State.setPtimeAt_freeCtr (s : State) (off t : Nat) : (s.setPtimeAt off t).freeCtr = s.freeCtr := State.setWordsAt_freeCtr ..
@[simp] theorem State.setPtimeAt_pending (s : State) (off t : Nat) : (s.setPtimeAt off t).pending = s.pending := State.setWordsAt_pending ..

/-! ## resetRegs -/

@[simp] theorem State.resetRegs_fence (s : State) (lo hi : Nat) : (s.resetRegs lo hi).fence = s.fence := rfl
@[simp] theorem State.resetRegs_clk (s : State) (lo hi : Nat) : (s.resetRegs lo hi).clk = s.clk := rfl
@[simp] theorem State.resetRegs_host (s : State) (lo hi : Nat) : (s.resetRegs lo hi).host = s.host := rfl
@[simp] theorem State.resetRegs_sec (s : State) (lo hi : Nat) : (s.resetRegs lo hi).sec = s.sec := rfl
@[simp] theorem State.resetRegs_mem (s : State) (lo hi : Nat) : (s.resetRegs lo hi).mem = s.mem := rfl
@[simp] theorem State.resetRegs_adc (s : State) (lo hi : Nat) : (s.resetRegs lo hi).adc = s.adc := rfl
@[simp] theorem State.resetRegs_dac (s : State) (lo hi : Nat) : (s.resetRegs lo hi).dac = s.dac := rfl
@[simp] theorem State.resetRegs_fch (s : State) (lo hi : Nat) : (s.resetRegs lo hi).fch = s.fch := rfl
@[simp] theorem State.resetRegs_fab (s : State) (lo hi : Nat) : (s.resetRegs lo hi).fab = s.fab := rfl
@[simp] theorem State.resetRegs_ctx (s : State) (lo hi : Nat) : (s.resetRegs lo hi).ctx = s.ctx := rfl
@[simp] theorem State.resetRegs_trg (s : State) (lo hi : Nat) : (s.resetRegs lo hi).trg = s.trg := rfl
@[simp] theorem State.resetRegs_acq (s : State) (lo hi : Nat) : (s.resetRegs lo hi).acq = s.acq := rfl
@[simp] theorem State.resetRegs_tp (s : State) (lo hi : Nat) : (s.resetRegs lo hi).tp = s.tp := rfl
@[simp] theorem State.resetRegs_cl (s : State) (lo hi : Nat) : (s.resetRegs lo hi).cl = s.cl := rfl
@[simp] theorem State.resetRegs_tdc (s : State) (lo hi : Nat) : (s.resetRegs lo hi).tdc = s.tdc := rfl
@[simp] theorem State.resetRegs_txts (s : State) (lo hi : Nat) : (s.resetRegs lo hi).txts = s.txts := rfl
@[simp] theorem State.resetRegs_rxLost (s : State) (lo hi : Nat) : (s.resetRegs lo hi).rxLost = s.rxLost := rfl
@[simp] theorem State.resetRegs_eth (s : State) (lo hi : Nat) : (s.resetRegs lo hi).eth = s.eth := rfl
@[simp] theorem State.resetRegs_sq (s : State) (lo hi : Nat) : (s.resetRegs lo hi).sq = s.sq := rfl
@[simp] theorem State.resetRegs_co (s : State) (lo hi : Nat) : (s.resetRegs lo hi).co = s.co := rfl
@[simp] theorem State.resetRegs_arb (s : State) (lo hi : Nat) : (s.resetRegs lo hi).arb = s.arb := rfl
@[simp] theorem State.resetRegs_rs (s : State) (lo hi : Nat) : (s.resetRegs lo hi).rs = s.rs := rfl
@[simp] theorem State.resetRegs_hk (s : State) (lo hi : Nat) : (s.resetRegs lo hi).hk = s.hk := rfl
@[simp] theorem State.resetRegs_pwr (s : State) (lo hi : Nat) : (s.resetRegs lo hi).pwr = s.pwr := rfl
@[simp] theorem State.resetRegs_boot (s : State) (lo hi : Nat) : (s.resetRegs lo hi).boot = s.boot := rfl
@[simp] theorem State.resetRegs_cfg (s : State) (lo hi : Nat) : (s.resetRegs lo hi).cfg = s.cfg := rfl
@[simp] theorem State.resetRegs_out (s : State) (lo hi : Nat) : (s.resetRegs lo hi).out = s.out := rfl
@[simp] theorem State.resetRegs_sets (s : State) (lo hi : Nat) : (s.resetRegs lo hi).sets = s.sets := rfl
@[simp] theorem State.resetRegs_freeCtr (s : State) (lo hi : Nat) : (s.resetRegs lo hi).freeCtr = s.freeCtr := rfl
@[simp] theorem State.resetRegs_pending (s : State) (lo hi : Nat) : (s.resetRegs lo hi).pending = s.pending := rfl

/-! ## emit and next -/

@[simp] theorem State.emit_regs (s : State) (m : Msg) : (s.emit m).regs = s.regs := by unfold State.emit; split <;> rfl
@[simp] theorem State.next_regs (s : State) : s.next.regs = s.regs := rfl
@[simp] theorem State.emit_fence (s : State) (m : Msg) : (s.emit m).fence = s.fence := by unfold State.emit; split <;> rfl
@[simp] theorem State.next_fence (s : State) : s.next.fence = s.fence := rfl
@[simp] theorem State.emit_clk (s : State) (m : Msg) : (s.emit m).clk = s.clk := by unfold State.emit; split <;> rfl
@[simp] theorem State.next_clk (s : State) : s.next.clk = s.clk := rfl
@[simp] theorem State.emit_host (s : State) (m : Msg) : (s.emit m).host = s.host := by unfold State.emit; split <;> rfl
@[simp] theorem State.next_host (s : State) : s.next.host = s.host := rfl
@[simp] theorem State.emit_sec (s : State) (m : Msg) : (s.emit m).sec = s.sec := by unfold State.emit; split <;> rfl
@[simp] theorem State.next_sec (s : State) : s.next.sec = s.sec := rfl
@[simp] theorem State.emit_mem (s : State) (m : Msg) : (s.emit m).mem = s.mem := by unfold State.emit; split <;> rfl
@[simp] theorem State.next_mem (s : State) : s.next.mem = s.mem := rfl
@[simp] theorem State.emit_adc (s : State) (m : Msg) : (s.emit m).adc = s.adc := by unfold State.emit; split <;> rfl
@[simp] theorem State.next_adc (s : State) : s.next.adc = s.adc := rfl
@[simp] theorem State.emit_dac (s : State) (m : Msg) : (s.emit m).dac = s.dac := by unfold State.emit; split <;> rfl
@[simp] theorem State.next_dac (s : State) : s.next.dac = s.dac := rfl
@[simp] theorem State.emit_fch (s : State) (m : Msg) : (s.emit m).fch = s.fch := by unfold State.emit; split <;> rfl
@[simp] theorem State.next_fch (s : State) : s.next.fch = s.fch := rfl
@[simp] theorem State.emit_fab (s : State) (m : Msg) : (s.emit m).fab = s.fab := by unfold State.emit; split <;> rfl
@[simp] theorem State.next_fab (s : State) : s.next.fab = s.fab := rfl
@[simp] theorem State.emit_ctx (s : State) (m : Msg) : (s.emit m).ctx = s.ctx := by unfold State.emit; split <;> rfl
@[simp] theorem State.next_ctx (s : State) : s.next.ctx = s.ctx := rfl
@[simp] theorem State.emit_trg (s : State) (m : Msg) : (s.emit m).trg = s.trg := by unfold State.emit; split <;> rfl
@[simp] theorem State.next_trg (s : State) : s.next.trg = s.trg := rfl
@[simp] theorem State.emit_acq (s : State) (m : Msg) : (s.emit m).acq = s.acq := by unfold State.emit; split <;> rfl
@[simp] theorem State.next_acq (s : State) : s.next.acq = s.acq := rfl
@[simp] theorem State.emit_tp (s : State) (m : Msg) : (s.emit m).tp = s.tp := by unfold State.emit; split <;> rfl
@[simp] theorem State.next_tp (s : State) : s.next.tp = s.tp := rfl
@[simp] theorem State.emit_cl (s : State) (m : Msg) : (s.emit m).cl = s.cl := by unfold State.emit; split <;> rfl
@[simp] theorem State.next_cl (s : State) : s.next.cl = s.cl := rfl
@[simp] theorem State.emit_tdc (s : State) (m : Msg) : (s.emit m).tdc = s.tdc := by unfold State.emit; split <;> rfl
@[simp] theorem State.next_tdc (s : State) : s.next.tdc = s.tdc := rfl
@[simp] theorem State.emit_txts (s : State) (m : Msg) : (s.emit m).txts = s.txts := by unfold State.emit; split <;> rfl
@[simp] theorem State.next_txts (s : State) : s.next.txts = s.txts := rfl
@[simp] theorem State.emit_rxLost (s : State) (m : Msg) : (s.emit m).rxLost = s.rxLost := by unfold State.emit; split <;> rfl
@[simp] theorem State.next_rxLost (s : State) : s.next.rxLost = s.rxLost := rfl
@[simp] theorem State.emit_eth (s : State) (m : Msg) : (s.emit m).eth = s.eth := by unfold State.emit; split <;> rfl
@[simp] theorem State.next_eth (s : State) : s.next.eth = s.eth := rfl
@[simp] theorem State.emit_sq (s : State) (m : Msg) : (s.emit m).sq = s.sq := by unfold State.emit; split <;> rfl
@[simp] theorem State.next_sq (s : State) : s.next.sq = s.sq := rfl
@[simp] theorem State.emit_co (s : State) (m : Msg) : (s.emit m).co = s.co := by unfold State.emit; split <;> rfl
@[simp] theorem State.next_co (s : State) : s.next.co = s.co := rfl
@[simp] theorem State.emit_arb (s : State) (m : Msg) : (s.emit m).arb = s.arb := by unfold State.emit; split <;> rfl
@[simp] theorem State.next_arb (s : State) : s.next.arb = s.arb := rfl
@[simp] theorem State.emit_rs (s : State) (m : Msg) : (s.emit m).rs = s.rs := by unfold State.emit; split <;> rfl
@[simp] theorem State.next_rs (s : State) : s.next.rs = s.rs := rfl
@[simp] theorem State.emit_hk (s : State) (m : Msg) : (s.emit m).hk = s.hk := by unfold State.emit; split <;> rfl
@[simp] theorem State.next_hk (s : State) : s.next.hk = s.hk := rfl
@[simp] theorem State.emit_pwr (s : State) (m : Msg) : (s.emit m).pwr = s.pwr := by unfold State.emit; split <;> rfl
@[simp] theorem State.next_pwr (s : State) : s.next.pwr = s.pwr := rfl
@[simp] theorem State.emit_boot (s : State) (m : Msg) : (s.emit m).boot = s.boot := by unfold State.emit; split <;> rfl
@[simp] theorem State.next_boot (s : State) : s.next.boot = s.boot := rfl
@[simp] theorem State.emit_cfg (s : State) (m : Msg) : (s.emit m).cfg = s.cfg := by unfold State.emit; split <;> rfl
@[simp] theorem State.next_cfg (s : State) : s.next.cfg = s.cfg := rfl
@[simp] theorem State.next_out (s : State) : s.next.out = s.out := rfl
@[simp] theorem State.emit_sets (s : State) (m : Msg) : (s.emit m).sets = s.sets := by unfold State.emit; split <;> rfl
@[simp] theorem State.next_sets (s : State) : s.next.sets = s.sets := rfl
@[simp] theorem State.emit_freeCtr (s : State) (m : Msg) : (s.emit m).freeCtr = s.freeCtr := by unfold State.emit; split <;> rfl
@[simp] theorem State.emit_pending (s : State) (m : Msg) : (s.emit m).pending = s.pending := by unfold State.emit; split <;> rfl
@[simp] theorem State.next_pending (s : State) : s.next.pending = s.pending := rfl

@[simp] theorem State.next_freeCtr (s : State) : s.next.freeCtr = s.freeCtr + 1 := rfl

end Sys2Proof.Machine
end

