-- ==== Sys2Proof/Laws/Regs.lean ====
section
/-!
SUPPORT. Laws of register words and fields: a field reads what was last written to it, and a write of one field leaves
every field apart from it alone.
-/
namespace Sys2Proof.Machine

/-! ## Bit fields of a number -/

theorem bitsOf_lt (n lo wd : Nat) : bitsOf n lo wd < 2 ^ wd := Nat.mod_lt _ (Nat.two_pow_pos wd)

/-- A number as the bits above a field, the field and the bits below it. -/
theorem bits_split (n lo wd : Nat) :
    n = (n / 2 ^ (lo + wd) * 2 ^ wd + bitsOf n lo wd) * 2 ^ lo + n % 2 ^ lo := by
  unfold bitsOf
  rw [Nat.pow_add, ← Nat.div_div_eq_div_mul]
  have h1 := Nat.div_add_mod (n / 2 ^ lo) (2 ^ wd)
  have h2 := Nat.div_add_mod n (2 ^ lo)
  rw [Nat.mul_comm (n / 2 ^ lo / 2 ^ wd), h1, Nat.mul_comm, h2]

theorem putBits_eq (n lo wd v : Nat) :
    putBits n lo wd v = (n / 2 ^ (lo + wd) * 2 ^ wd + v % 2 ^ wd) * 2 ^ lo + n % 2 ^ lo := by
  unfold putBits
  have h := bits_split n lo wd
  rw [Nat.add_mul] at h
  have e : n - bitsOf n lo wd * 2 ^ lo = n / 2 ^ (lo + wd) * 2 ^ wd * 2 ^ lo + n % 2 ^ lo := by
    generalize bitsOf n lo wd * 2 ^ lo = b at h ⊢
    generalize n / 2 ^ (lo + wd) * 2 ^ wd * 2 ^ lo = a at h ⊢
    omega
  rw [e, Nat.add_mul]
  omega

/-- A field reads what was put into it. -/
theorem bitsOf_putBits_self (n lo wd v : Nat) : bitsOf (putBits n lo wd v) lo wd = v % 2 ^ wd := by
  rw [putBits_eq]
  unfold bitsOf
  have hp : 0 < 2 ^ lo := Nat.two_pow_pos lo
  rw [Nat.mul_comm _ (2 ^ lo), Nat.mul_add_div hp, Nat.div_eq_of_lt (Nat.mod_lt _ hp), Nat.add_zero, Nat.add_comm,
    Nat.add_mul_mod_self_right, Nat.mod_mod]

/-- Bits below a field keep their values. -/
theorem putBits_mod (n lo wd v : Nat) : putBits n lo wd v % 2 ^ lo = n % 2 ^ lo := by
  rw [putBits_eq, Nat.add_comm, Nat.add_mul_mod_self_right, Nat.mod_mod]

/-- Bits above a field keep their values. -/
theorem putBits_div (n lo wd v : Nat) : putBits n lo wd v / 2 ^ (lo + wd) = n / 2 ^ (lo + wd) := by
  rw [putBits_eq, Nat.pow_add, ← Nat.div_div_eq_div_mul]
  have hp : 0 < 2 ^ lo := Nat.two_pow_pos lo
  rw [Nat.mul_comm _ (2 ^ lo), Nat.mul_add_div hp, Nat.div_eq_of_lt (Nat.mod_lt _ hp), Nat.add_zero]
  rw [Nat.mul_comm _ (2 ^ wd), Nat.mul_add_div (Nat.two_pow_pos wd),
    Nat.div_eq_of_lt (Nat.mod_lt _ (Nat.two_pow_pos wd)), Nat.add_zero]

/-- A field apart from the one written keeps its value. -/
theorem bitsOf_putBits_apart (n lo wd v lo' wd' : Nat) (h : lo + wd ≤ lo' ∨ lo' + wd' ≤ lo) :
    bitsOf (putBits n lo wd v) lo' wd' = bitsOf n lo' wd' := by
  unfold bitsOf
  rcases h with h | h
  · obtain ⟨k, rfl⟩ := Nat.exists_eq_add_of_le h
    rw [Nat.pow_add, ← Nat.div_div_eq_div_mul, putBits_div, Nat.div_div_eq_div_mul]
  · obtain ⟨k, rfl⟩ := Nat.exists_eq_add_of_le h
    have e : ∀ m, m / 2 ^ lo' % 2 ^ wd' = m % 2 ^ (lo' + wd' + k) / 2 ^ lo' % 2 ^ wd' := by
      intro m
      rw [Nat.add_assoc, Nat.pow_add, Nat.mod_mul_right_div_self, Nat.pow_add, Nat.mod_mul_right_mod]
    rw [e, putBits_mod, ← e]

theorem bitsOf_mod (n lo wd m : Nat) (h : lo + wd ≤ m) : bitsOf (n % 2 ^ m) lo wd = bitsOf n lo wd := by
  unfold bitsOf
  obtain ⟨k, rfl⟩ := Nat.exists_eq_add_of_le h
  rw [Nat.add_assoc, Nat.pow_add, Nat.mod_mul_right_div_self, Nat.pow_add, Nat.mod_mul_right_mod]

/-! ## Words -/

/-- What a write of a word does to every word. -/
theorem State.word_setWord (s : State) (a b : Nat) (w : BitVec 32) :
    (s.setWord a w).word b = if b = a then w else s.word b := tget_tset _ _ _ _ _

theorem State.word_congr {s t : State} (h : s.regs = t.regs) (a : Nat) : s.word a = t.word a := by
  unfold State.word; rw [h]

/-- Words outside those written keep their values. -/
theorem State.word_setWordsAt_out (s : State) (off n v a : Nat) (h : a < off ∨ off + 4 * n ≤ a) :
    (s.setWordsAt off n v).word a = s.word a := by
  induction n generalizing s off v with
  | zero => rfl
  | succ n ih =>
    show ((s.setWord off (BitVec.ofNat 32 v)).setWordsAt (off + 4) n (v / 2 ^ 32)).word a = s.word a
    rw [ih _ _ _ (by omega), State.word_setWord, if_neg (by omega)]

theorem State.wordsAt_setWordsAt_out (s : State) (off n v a m : Nat) (h : a + 4 * m ≤ off ∨ off + 4 * n ≤ a) :
    (s.setWordsAt off n v).wordsAt a m = s.wordsAt a m := by
  induction m generalizing a with
  | zero => rfl
  | succ m ih =>
    show _ + 2 ^ 32 * _ = _ + 2 ^ 32 * _
    rw [ih _ (by omega)]
    by_cases hn : n = 0
    · subst hn; rfl
    · rw [State.word_setWordsAt_out s off n v a (by omega)]

/-- Consecutive words read the value written to them. -/
theorem State.wordsAt_setWordsAt_self (s : State) (off n v : Nat) :
    (s.setWordsAt off n v).wordsAt off n = v % 2 ^ (32 * n) := by
  induction n generalizing s off v with
  | zero => simp [State.wordsAt, Nat.mod_one]
  | succ n ih =>
    show (((s.setWord off (BitVec.ofNat 32 v)).setWordsAt (off + 4) n (v / 2 ^ 32)).word off).toNat
      + 2 ^ 32 * ((s.setWord off (BitVec.ofNat 32 v)).setWordsAt (off + 4) n (v / 2 ^ 32)).wordsAt (off + 4) n = _
    rw [State.word_setWordsAt_out _ _ _ _ _ (by omega), State.word_setWord, if_pos rfl, BitVec.toNat_ofNat]
    rw [ih, show 32 * (n + 1) = 32 + 32 * n by omega, Nat.pow_add, Nat.mod_mul]

theorem State.wordsAt_lt (s : State) (off n : Nat) : s.wordsAt off n < 2 ^ (32 * n) := by
  induction n generalizing off with
  | zero => simp [State.wordsAt]
  | succ n ih =>
    show (s.word off).toNat + 2 ^ 32 * s.wordsAt (off + 4) n < _
    have h1 := (s.word off).isLt
    have h2 := ih (off + 4)
    rw [show 32 * (n + 1) = 32 + 32 * n by omega, Nat.pow_add]
    generalize 2 ^ (32 * n) = M at h2 ⊢
    have : 2 ^ 32 * (s.wordsAt (off + 4) n + 1) ≤ 2 ^ 32 * M := Nat.mul_le_mul_left _ h2
    omega

/-! ## Fields -/

/-- The field lies in its words. -/
theorem Fld.fits (x : Fld) : x.lo % 32 + x.wd ≤ 32 * x.words := by unfold Fld.words; omega

theorem State.f_lt (s : State) (x : Fld) : s.f x < 2 ^ x.wd := bitsOf_lt _ _ _

/-- A field reads what was last written to it. -/
theorem State.f_setF_self (s : State) (x : Fld) (v : Nat) : (s.setF x v).f x = v % 2 ^ x.wd := by
  unfold State.f State.setF
  rw [State.wordsAt_setWordsAt_self, bitsOf_mod _ _ _ _ x.fits, bitsOf_putBits_self]

/-- A write of a field leaves every field apart from it alone. -/
theorem State.f_setF_apart (s : State) (x y : Fld) (v : Nat) (h : x.apart y) : (s.setF x v).f y = s.f y := by
  unfold State.f State.setF
  rcases h with h | h | ⟨hb, hw, h⟩
  · rw [State.wordsAt_setWordsAt_out _ _ _ _ _ _ (Or.inr h)]
  · rw [State.wordsAt_setWordsAt_out _ _ _ _ _ _ (Or.inl h)]
  · rw [← hb, ← hw, State.wordsAt_setWordsAt_self]
    rw [bitsOf_mod _ _ _ _ (by rw [hw]; exact y.fits), bitsOf_putBits_apart _ _ _ _ _ _ h]

/-- A write of a field leaves every word outside the field's words alone. -/
theorem State.word_setF_out (s : State) (x : Fld) (v a : Nat) (h : a < x.base ∨ x.base + 4 * x.words ≤ a) :
    (s.setF x v).word a = s.word a := State.word_setWordsAt_out _ _ _ _ _ h

theorem State.f_congr {s t : State} (h : s.regs = t.regs) (x : Fld) : s.f x = t.f x := by
  have e : ∀ n a, s.wordsAt a n = t.wordsAt a n := by
    intro n
    induction n with
    | zero => intro a; rfl
    | succ n ih => intro a; show _ + _ = _ + _; rw [State.word_congr h, ih]
  unfold State.f; rw [e]

/-- Fields whose words read alike read alike. -/
theorem State.f_of_words {s t : State} (x : Fld) (h : ∀ a, x.base ≤ a → a < x.base + 4 * x.words → s.word a = t.word a) :
    s.f x = t.f x := by
  have e : ∀ n a, (∀ b, a ≤ b → b < a + 4 * n → s.word b = t.word b) → s.wordsAt a n = t.wordsAt a n := by
    intro n
    induction n with
    | zero => intro a _; rfl
    | succ n ih =>
      intro a ha
      show _ + _ = _ + _
      rw [ha a (by omega) (by omega), ih (a + 4) (fun b h1 h2 => ha b (by omega) (by omega))]
  unfold State.f; rw [e _ _ h]

/-- A write of a field keeps every field apart from it. -/
theorem FieldsKept.setF (s : State) (x : Fld) (v : Nat) : FieldsKept [x] s (s.setF x v) :=
  fun y h => State.f_setF_apart s x y v (h x (by simp))

theorem FieldsKept.of_regs {s t : State} (h : t.regs = s.regs) : FieldsKept [] s t := fun y _ => State.f_congr h y

theorem FieldsKept.trans {xs ys : List Fld} {s t u : State} (h1 : FieldsKept xs s t) (h2 : FieldsKept ys t u) :
    FieldsKept (xs ++ ys) s u := fun y h =>
  (h2 y (fun x hx => h x (List.mem_append_right _ hx))).trans (h1 y (fun x hx => h x (List.mem_append_left _ hx)))

theorem FieldsKept.mono {xs ys : List Fld} {s t : State} (h : FieldsKept xs s t) (hs : ∀ x ∈ xs, x ∈ ys) :
    FieldsKept ys s t := fun y hy => h y (fun x hx => hy x (hs x hx))

theorem State.flag_setB_self (s : State) (x : Fld) (b : Bool) (h : 0 < x.wd) : (s.setB x b).flag x = b := by
  have : 2 ≤ 2 ^ x.wd := by
    calc 2 = 2 ^ 1 := rfl
      _ ≤ 2 ^ x.wd := Nat.pow_le_pow_right (by decide) h
  have e : (s.setB x b).f x = (s.setF x (if b then 1 else 0)).f x := by
    cases b
    · rfl
    · exact State.f_congr (s := (s.setF x 1).noteSet x) (t := s.setF x 1) rfl x
  unfold State.flag
  rw [e, State.f_setF_self]
  cases b
  · simp
  · simp [Nat.mod_eq_of_lt this]

end Sys2Proof.Machine
end

