-- ==== Sys2Proof/Tests/Slice0.lean ====
section
/-!
SUPPORT. The author's own tests: the checks of WellFormed on an ill-formed term each; small states that meet the
hypotheses of the statements, clause by clause, at boundary values; and single steps with results taken from the tables
and worked examples of spec/.
-/
open Sys2Proof Sys2Proof.Machine

namespace Sys2Proof.Tests

set_option Elab.async false
set_option maxRecDepth 4000

/-! ## Building states -/

/-- The state with register words put in, whatever their reset values. -/
def words (s : State) (ws : List (Nat × BitVec 32)) : State :=
  { s with regs := ws.foldl (fun t p => tins (tdel t p.1) p.1 p.2) s.regs }

/-- A device after its boot, without secure world. -/
def up : State := words {} [(0x10, 0x7), (0x7C0000, 0)]

/-- Such a device with a secure world. -/
def up2 : State := words {} [(0x10, 0x7), (0x7C0000, 1)]

/-- Several fields set. -/
def sets (s : State) (xs : List (Fld × Nat)) : State := xs.foldl (fun t p => t.setF p.1 p.2) s

/-- The next state that a command answers, or the empty state. -/
def nx (c : Instr) (s : State) : State :=
  match exec c s with
  | .next t => t
  | _ => {}

/-- Ring 0 runs with four entries, one announced, and its completions go to host address 0x1000. -/
def ringed (s : State) : State :=
  sets s [(R.HI_RING_STATUS_STATE 0, 1), (R.HI_RING_SIZE_CMD_LOG2 0, 2), (R.HI_RING_SIZE_CPL_LOG2 0, 2),
    (R.HI_RING_PTR_TAIL 0, 1), (R.HI_RING_CBASE 0, 0x1000), (R.HI_RING_CTRL_EN 0, 1)]

/-- A device that can start a command of ring 0. -/
def host : State := ringed up

/-- The same with a secure ring. -/
def shost : State := (ringed up2).setB (R.HI_RING_CTRL_WORLD 0) true

/-- A fetched command with these parameters. -/
def cmd (ps : List (BitVec 64)) (reads : List HostRead := []) : Fetch :=
  { entry := { opcode := 0, flags := 0, tag := 7, rsv := 0, params := ps }, reads := reads, env := [] }

/-- A long command in progress on ring 0. -/
def long (op : BitVec 16) (ps : List (BitVec 64) := []) : LongCmd :=
  { ring := 0, entry := { opcode := op, flags := 0, tag := 9, rsv := 0, params := ps } }

/-- The same device in a control cycle that is an alignment tick. -/
def tk (s : State) : State := { s with clk := { s.clk with released := true, cycles := 0 } }

/-- One nanosecond and one second of PTIME. -/
def ns (n : Nat) : Nat := n * 2 ^ 48

/-! ## The queue, canonical form and fence blocks -/

/-- The hypotheses of StepRunsFrontCommand, StepKeepsCanonicalForm and StepTakesOneCommandAndSendsOnly. -/
theorem test_step_front : State.reset.pending = [] ∧ State.reset.regsWf = true ∧ State.reset.mem.wf = true ∧
    (nx .wakeAt { up with pending := [.wakeAt] }).pending = [.wakeAt] := by decide +kernel

/-- A request reaches the lowest and the highest fence block in each of its states. -/
theorem test_block_request_states : isBlock 0 = true ∧ isBlock 0xDF = true ∧ isBlock 0x6D = false ∧
    (nx (.blockRequest 0xDF 5 0 true) up).fence.replies = [(⟨0xDF, 5, 0⟩, 0x00)] ∧
    (nx (.blockRequest 0xDF 5 0 false) up).fence.accepted = [⟨0xDF, 5, 0⟩] ∧
    (nx (.blockRequest 0x20 5 0 false) (up.setBlk 0x20 .fenced)).fence.replies = [(⟨0x20, 5, 0⟩, 0x30)] ∧
    (nx (.blockRequest 0x20 5 0 false) (up.setBlk 0x20 .offline)).fence.replies = [(⟨0x20, 5, 0⟩, 0x31)] ∧
    (nx (.blockRequest 0x20 5 0 false) (up.setBlk 0x20 .gated)).fence.held = [⟨0x20, 5, 0⟩] ∧
    (nx (.blockRequest 0x20 5 0 false) (up.setBlk 0x20 .waking)).fence.held = [⟨0x20, 5, 0⟩] := by decide +kernel

/-- A reply with an outstanding request, and a stale one (R25). -/
theorem test_reply_received :
    let s : State := { up with fence := { outstanding := [⟨4, 5, 0⟩] } }
    (nx (.replyReceived 4 5 0) s).fence.outstanding = [] ∧ (nx (.replyReceived 4 5 0) s).f R.ID_STALE_DROPS = 0 ∧
    (nx (.replyReceived 4 5 1) s).fence.outstanding = [⟨4, 5, 0⟩] ∧ (nx (.replyReceived 4 5 1) s).f R.ID_STALE_DROPS = 1 ∧
    (nx (.replyReceived 4 5 1) (s.setF R.ID_STALE_DROPS 0xFFFFFFFF)).f R.ID_STALE_DROPS = 0xFFFFFFFF := by decide +kernel

/-- Epochs wrap at 256 (R20), for the last block too. -/
theorem test_fence_enter_wraps :
    let s : State := { up.setF (epochFld 223) 255 with fence := { accepted := [⟨223, 1, 255⟩, ⟨3, 2, 0⟩] } }
    let t := s.fenceEnter 223 .fenced
    t.epoch 223 = 0 ∧ t.blk 223 = .fenced ∧ t.fence.accepted = [⟨3, 2, 0⟩] ∧ t.fence.replies = [(⟨223, 1, 255⟩, 0x30)] := by
  decide +kernel

/-- A fenced block with and without an old reply in flight, and the capture writer with both. -/
theorem test_fence_exit :
    let s := (up.setBlk 0x60 .fenced).setF (epochFld 0x60) 1
    let r : State := { s with fence := { s.fence with replies := [(⟨0x60, 1, 0⟩, 0x30)] } }
    s.isFenced 0x60 = true ∧ s.fenceHeld 0x60 = false ∧ s.repliesOut 0x60 = false ∧ (nx (.fenceExit 0x60) s).blk 0x60 = .running ∧
    r.fenceHeld 0x60 = false ∧ r.repliesOut 0x60 = true ∧ (nx (.fenceExit 0x60) r).blk 0x60 = .fenced := by decide +kernel

theorem test_capture_writer_restart :
    let s := tk ((up.setBlk 0x63 .fenced).setF (epochFld 0x63) 1)
    let r : State := { s with fence := { s.fence with replies := [(⟨0x63, 1, 0⟩, 0x30)] } }
    s.atTick = true ∧ up.atTick = false ∧
    s.isFenced 0x63 = true ∧ s.isRunning 0x64 = true ∧ s.isRunning 0x65 = true ∧ s.domState 20 ≠ dStopped ∧ s.repliesOut 0x63 = false ∧
    (nx .captureWriterRestart s).blk 0x63 = .running ∧ r.repliesOut 0x63 = true ∧ (nx .captureWriterRestart r).blk 0x63 = .fenced := by
  decide +kernel

/-! ## Clocks and the time base -/

/-- RETUNE and BANDSCAN: clocks in use, a ratio outside R33, no band, and a start. -/
theorem test_retune_hyps :
    let bad := sets host [(R.CLK_NINT_NINT, 511)]
    let use := host.setB (R.FCH_CTRL_EN 3) true
    host.canStart 0 (cmd []).entry true = true ∧ (cmd []).entry.clean [] = true ∧
    ((use.fetchCmd 0).clockInUse = true ∧ (nx (.retune 0 (cmd [])) use).out ≠ []) ∧
    ((bad.fetchCmd 0).clockInUse = false ∧ ratioOk (ratioOf 511 (bad.f R.CLK_NFRAC)) = false ∧
      (nx (.bandscan 0 (cmd [])) bad).out ≠ []) ∧
    ((host.fetchCmd 0).clockInUse = false ∧ ratioOk (ratioOf (host.f R.CLK_NINT_NINT) (host.f R.CLK_NFRAC)) = true ∧
      (nx (.bandscan 0 (cmd [])) host).clk.relock = .bandscan) := by decide +kernel

/-- A relock that has been LOCKED for exactly 5 ms, one whose LOCKED rises at 97 ms and so comes too late, a restoring relock, and
a relock that has run for exactly 100 ms. -/
theorem test_relock_hyps :
    let s : State := { up.setB R.CLK_STATUS_LOCKED true with clk := { up.clk with relock := .retune, lockedAt := 0, elapsed := 5000000 * nsUnit } }
    let late : State := { s with clk := { s.clk with lockedAt := 97000000 * nsUnit, elapsed := 102000000 * nsUnit } }
    let l : State := { up with clk := { up.clk with relock := .retune, relockAt := 0, elapsed := 100000000 * nsUnit, savedNint := 511, savedNfrac := 0, savedBand := 63 } }
    let r : State := { s with clk := { s.clk with relock := .restore, lockedAt := 200000000 * nsUnit, elapsed := 205000000 * nsUnit } }
    late.lockQualified = true ∧ late.lockInTime = false ∧ (nx .relockQualified late).clk.relock = .retune ∧
    s.relocking = true ∧ s.lockQualified = true ∧ s.lockInTime = true ∧ (nx .relockQualified s).clk.releaseDue = true ∧
    r.relocking = true ∧ r.lockQualified = true ∧ r.clk.relock = .restore ∧ (nx .relockQualified r).clk.releaseDue = true ∧
    l.lockInTime = false ∧ l.relocking = true ∧ l.clk.relock ≠ .restore ∧ (nx .relockTimeout l).clk.relock = .restore := by decide +kernel

theorem test_lock_hyps :
    let s := up.setB R.CLK_STATUS_LOCKED true
    s.flag R.CLK_STATUS_LOCKED = true ∧ s.clk.relock = .idle ∧ (nx .lockLoss s).f R.CLK_LOCKLOSS = 1 ∧
    (nx .lockLoss s).flag R.CLK_STATUS_LOCKED = false ∧
    up.flag R.CLK_STATUS_LOCKA_NET = false ∧ (nx .lockedRise up).flag R.CLK_STATUS_LOCKED = true := by decide +kernel

/-- REFIN in use; a PPSIN edge without and with a load that waits for it. -/
theorem test_edge_hyps :
    let r := up.setF R.TB_CTRL_SRC 0
    let l := (up.setB R.TB_CTRL_LOAD true).setB R.TB_CTRL_LOAD_AT_PPS true
    r.usesRefin = true ∧ r.clk.mode ≠ 1 ∧ (nx (.refinEdge 159) r).clk.refEdges = 1 ∧
    up.flag R.TB_CTRL_LOAD = false ∧ (nx (.ppsinEdge 0) l).flag R.TB_CTRL_LOAD = false ∧ l.increment ≤ ptimeSpan := by decide +kernel

/-- The rows of the tracker's table (spec/02), by the state before it. -/
theorem test_tracker_hyps :
    let s := fun (st : Nat) => up.setF R.TB_STATE_STATE st
    up.clk.mode = 0 ∧ up.clk.relock = .idle ∧ up.f R.TB_CTRL_SRC = 0 ∧
    (s tbTrack).intervalOk (s tbTrack).clk.refEdges 0 = false ∧
    (nx (.trackerIntervalClose 0) (s tbTrack)).f R.TB_STATE_STATE = tbCoast ∧
    (nx (.trackerIntervalClose 0) (s tbTrack)).f R.TB_EVENTS_COASTS = 1 ∧
    (nx (.trackerIntervalClose 0) (s tbRegain)).f R.TB_STATE_STATE = tbCoast ∧
    (nx (.trackerIntervalClose 0) (s tbCoast)).f R.TB_STATE_STATE = tbCoast ∧
    (nx (.trackerIntervalClose 0) (s tbAcquire)).f R.TB_STATE_STATE = tbAcquire := by decide +kernel

/-- The counters at a tick: 80 samples and 5 fc. -/
theorem test_ptime_hyps :
    let s : State := { up with clk := { up.clk with released := true } }
    let l := s.setB R.TB_CTRL_LOAD true
    s.clk.released = true ∧ (ptimeIncrement s).clk.sampleIdx = 80 ∧ (ptimeIncrement s).f R.FAB_FC = 5 ∧
    l.flag R.TB_CTRL_LOAD_AT_PPS = false ∧ (ptimeIncrement l).flag R.TB_CTRL_LOAD = false ∧
    up.clk.released = false ∧ up.clk.releaseDue = false ∧
    (ptimeIncrement { up with clk := { up.clk with releaseDue := true, cycles := 3 } }).atTick = true := by decide +kernel

theorem test_tb_commands_hyps :
    let w := tk (words up [(R.TB_AGE.off, 0), (0x11000, 2)])
    let l := tk (up.setF R.TB_CTRL_MODE 1)
    let h : State := { tk up with clk := { (tk up).clk with mode := 2 } }
    let p := tk (sets up [(R.TB_CTRL_PPSOUT_EN, 1)])
    let q : State := { p with clk := { p.clk with ptime := ns 500000000 } }
    w.atTick = true ∧ w.f R.TB_CTRL_MODE ≠ w.clk.mode ∧ w.f R.TB_CTRL_MODE ≠ 3 ∧ (nx .tbModeChange w).clk.mode = 2 ∧
    l.f R.TB_CTRL_MODE ≠ l.clk.mode ∧ (nx .tbModeChange l).clk.mode = 1 ∧
    h.f R.TB_CTRL_MODE ≠ h.clk.mode ∧ h.clk.slew = 0 ∧ (nx .tbModeChange h).f R.TB_STATE_STATE = tbAcquire ∧
    up.Opens 0 0x11000 ∧ up2.Opens 1 0x11000 ∧ (nx (.snap 0) { up with clk := { up.clk with ptime := ns 7 } }).ptimeAt 0x110A0 = ns 7 ∧
    (nx (.load 1) up2).flag R.TB_CTRL_LOAD = true ∧
    p.flag (R.PWR_PADHOLD_GROUPS.bit 8) = false ∧ p.clk.ppsAt ≠ some p.clk.sampleIdx ∧
    p.ppsEdge = some 0 ∧ (nx .ppsoutPulse p).out.length = 1 ∧ q.ppsEdge = none ∧ (nx .ppsoutPulse q).out = [] := by decide +kernel

/-! ## Converters -/

/-- The correction at its limits: gain 1.0 is 0x4000 (R64), a positive and a negative full scale, and a sum that saturates. -/
theorem test_correct_sample :
    correctSample 0x40000000 5 = (80, false) ∧ correctSample 0x40000000 2047 = (32752, true) ∧
    correctSample 0x40000000 2048 = (-32768, true) ∧ correctSample 0x40000100 2046 = (32767, true) ∧
    correctSample 0x40007FFF 2000 = (32767, true) := by decide +kernel

theorem test_channel_samples :
    let s : State := sets { up with clk := { up.clk with released := true, sampleIdx := 2 ^ 64 - 16 } } [(R.ADC_CTRL_EN 7, 1), (R.ADC_STATUS_FIRST 7, 0)]
    let f := s.setB (R.ADC_STATUS_FIRST 7) true
    s.flag (R.ADC_CTRL_EN 7) = true ∧ s.isRunning 9 = true ∧ (s.channelBus 7 1 [2047]).flag (R.ADC_STATUS_OVR 7) = true ∧
    ((s.channelBus 7 1 [2047]).adcN 7).busIdx = 0 ∧ (f.channelBus 7 4 [2047]).f (R.ADC_OVR_COUNT 7) = f.f (R.ADC_OVR_COUNT 7) ∧
    ((f.channelBus 7 4 [2047]).adcN 7).bus = [0] := by decide +kernel

/-- A channel that may rotate. -/
def rot : State := sets up [(R.ADC_CTRL_EN 0, 1), (R.ADC_CTRL_ROT_EN 0, 1), (R.ADC_STATUS_SETTLED 0, 1), (R.ADC_STATUS_FIRST 0, 0)]

/-- The same in a phase of a step, with slot 31 and outgoing sub-converter 32 at their limits. -/
def stepping (ph : RotPhase) : State := rot.setAdc 0 { rot.adcN 0 with phase := ph, slot := 31, outgoing := 32, attempt := 1 }

theorem test_rotation_hyps :
    rot.flag (R.ADC_CTRL_ROT_HOLD 0) = false ∧ rot.flag (R.ADC_STATUS_DEGRADED 0) = false ∧ rot.flag (R.ADC_STATUS_STEP 0) = false ∧
    ((nx (.rotationStepStart 0) rot).adcN 0).phase = .plaus ∧
    ((nx (.rotationStepStart 0) (rot.setAdc 0 { rot.adcN 0 with nextStep := 32 })).adcN 0).phase = .measure := by decide +kernel

/-- A window that defers, one that defers for the third time, one below the limit; abort runs of 0 and at least 2. -/
theorem test_plausibility_hyps :
    let s := stepping .plaus
    let third := s.setAdc 0 { s.adcN 0 with attempt := 3 }
    let lim := max 1 (s.f R.ADC_PLAUS_LIM_LIM)
    let w := fun (n d : Nat) => List.replicate n ((BitVec.ofNat 12 d, 0) : BitVec 12 × BitVec 12) ++ [(2047, 0), (0, 2048)]
    let decide_ := fun (n d : Nat) (s : State) => nx (.plausibilityDecision 0 (w n d).unzip.1 (w n d).unzip.2) s
    (s.adcN 0).fpWait = false ∧
    (plausFigure (w 2047 0)).1 = 2047 ∧ plausFigure (w 2048 lim) = (2048, 2048 * lim) ∧
    ((decide_ 2047 0 s).adcN 0).phase = .deferred ∧
    (decide_ 2047 0 third).f (R.ADC_CAL_SKIP 0) = 1 ∧
    ((decide_ 2048 (lim - 1) s).adcN 0).phase = .measure ∧
    (words s [(0x41180, 0)]).f (R.ADC_TRIM_ABRUN 0 32) = 0 ∧ (words s [(0x41180, 0xFFFFFFFF)]).f (R.ADC_TRIM_ABRUN 0 32) ≥ 2 ∧ 1 ≤ lim := by
  decide +kernel

theorem test_measurement_hyps :
    let m : TrimSet := { ofs := 3, gain := 0, bw := 0, skew := 0 }
    let m' : TrimSet := { ofs := 300, gain := 0, bw := 0, skew := 0 }
    TrimAgree m m = true ∧ TrimAgree m m' = false ∧
    ((stepping .measure).adcN 0).fpWait = false ∧
    (nx (.measurementCompare 0 m m') (stepping .measure)).f (R.ADC_CAL_REJ 0) = 1 ∧
    (nx (.handBack 0) (stepping .settle)).f (R.ADC_STATUS_SPARE_SLOT 0) = 63 := by decide +kernel

theorem test_channel_control_hyps :
    let used := sets rot [(R.FCH_CTRL_EN 2, 1), (R.FCH_STATUS_RUNNING 2, 1)]
    let off := rot.setB (R.ADC_CTRL_ROT_EN 0) false
    let tw : List (Nat × BitVec 32) := [(0x41180, 9), (0x41280, 7)]
    let held := off.setB (R.ADC_STATUS_HELD 0) true
    rot.Opens 0 0x41000 ∧ up2.Opens 1 0x48000 ∧ held.Opens 0 0x41180 ∧
    (nx (.adcEnWrite 0 0 0) rot).flag (R.ADC_CTRL_EN 0) = false ∧
    (nx (.adcEnWrite 0 0 1) (rot.setB (R.ADC_CTRL_EN 0) false)).flag (R.ADC_CTRL_EN 0) = true ∧
    (used.channelNamed 0 = true ∧ (nx (.adcEnWrite 0 0 0) used).f (R.ADC_STATUS_RESULT 0) = 0x22) ∧
    (nx (.rotHold 0 0 9) rot).flag (R.ADC_CTRL_ROT_HOLD 0) = true ∧ (nx (.rotHold 0 0 9) rot).flag (R.ADC_STATUS_HELD 0) = false ∧
    (nx (.rotHold 0 0 9) rot).heldTick.flag (R.ADC_STATUS_HELD 0) = true ∧
    (rot.adcN 0).undo = none ∧ (rot.adcN 0).fpWait = false ∧
    ((nx (.fpRun 0 0 17) ((stepping .measure).setB (R.ADC_STATUS_STEP 0) true)).adcN 0).fpWait = true ∧
    off.Opens 0 0x41180 ∧ (words off tw).trimsInForce 0 32 = (9, 7) ∧
    (nx (.fpRun 0 0 1) off).flag (R.ADC_STATUS_FIRST 0) = true := by decide +kernel

theorem test_channel_events_hyps :
    let d := stepping .deferred
    let l := tk (rot.setB (R.ADC_CTRL_LOOP_EN 0) true)
    let m : TrimSet := { ofs := 3, gain := 0, bw := 0, skew := 0 }
    let f := rot.setB (R.ADC_STATUS_FIRST 0) true
    ((nx (.dcorApply 0) ((tk rot).setWord 0x41008 7)).adcN 0).dcor = 7 ∧ rot.atTick = false ∧
    ((nx (.loopbackSwitch 0) l).adcN 0).loopEn = true ∧
    ((nx (.plausibilityRetry 0 (List.replicate 2047 0) (List.replicate 2047 0)) d).adcN 0).attempt = 2 ∧
    (firstAgree [(m, { m with ofs := 300 }), (m, m)]).isSome = true ∧ firstAgree [(m, { m with ofs := 300 })] = none ∧
    (words f [(0x41100, 0)]).flag (R.ADC_TRIM_RET 0 0) = false ∧ (words f [(0x41100, 0x04000000)]).flag (R.ADC_TRIM_RET 0 0) = true ∧
    f.longOf 0x20 = none ∧
    (host.canStart 0 (cmd [0x80]).entry true = true ∧ (cmd [0x80]).entry.clean [0xFF] = true ∧
      (nx (.calSweep 0 (cmd [0x80])) host).flag (R.ADC_STATUS_FIRST 7) = true) := by decide +kernel

/-- An output that is off, and a playback region that R90 admits. -/
def pb : State := sets up [(R.DAC_PB_LEN_LEN 3, 4096)]

theorem test_dac_enable_hyps :
    let t0 := { pb with clk := { pb.clk with ptime := ns 0 } }
    let ahead := t0.setPtimeAt 0x53010 (ns 1000)
    up.Opens 0 0x53000 ∧ (up.dacN 3).start = .none ∧
    (up.pbRegionOk 3 = false ∧ (nx (.dacEnable 0 3 2) up).f (R.DAC_STATUS_RESULT 3) = 0x11) ∧
    ((nx (.dacEnable 0 3 6) up).dacN 3).start = .tick ∧
    ((nx (.dacEnable 0 3 14) ahead).dacN 3).start = .timed ∧
    (nx (.dacEnable 0 3 14) t0).flag (R.DAC_STATUS_LATE_START 3) = true ∧
    (pb.pbRegionOk 3 = true ∧ ((nx (.dacEnable 0 3 2) pb).dacN 3).start = .prefetch) := by decide +kernel

theorem test_dac_events_hyps :
    let at_ := fun (st : DacWait) => (tk pb).setDac 3 { pb.dacN 3 with start := st }
    let timed : State := (at_ .timed).setPtimeAt 0x53010 ((tk pb).sampleTime 79 + pb.outLatency)
    let full := { pb.dacN 3 with prefetch := List.replicate 49152 0 }
    timed.timedSample 3 = some 79 ∧ ((nx (.dacStart 3) timed).dacN 3).idx = timed.clk.sampleIdx + 79 ∧
    (nx (.dacPrefetchReady 3) ((tk pb).setDac 3 { full with start := .prefetch })).flag (R.DAC_STATUS_RUNNING 3) = true ∧
    ((nx (.dacPrefetchReady 3) ((tk pb).setDac 3 { full with change := .prefetch })).dacN 3).change = .none ∧
    (nx (.dacStart 3) (pb.setDac 3 { pb.dacN 3 with start := .tick })).flag (R.DAC_STATUS_RUNNING 3) = false ∧
    (nx (.dacStart 3) (at_ .tick)).flag (R.DAC_STATUS_RUNNING 3) = true ∧
    (nx (.dacStop 3) ((tk pb).setDac 3 { pb.dacN 3 with stop := true })).flag (R.DAC_STATUS_RUNNING 3) = false ∧
    ((nx (.dacSourceChange 3) (((tk pb).setDac 3 { pb.dacN 3 with change := .tick }).setF (R.DAC_CTRL_SRC 3) 3)).dacN 3).src = 3 ∧
    ((nx (.ncoFtwApply 3 1) ((tk pb).setF (R.DAC_NCO_FTW_FTW 3 1) 9)).dacN 3).ftw1 = 9 := by decide +kernel

/-- A record into a running output and into a stopped one; sample sources 0, 3 and 1 with and without data. -/
theorem test_dac_samples_hyps :
    let r := pb.setB (R.DAC_STATUS_RUNNING 3) true
    let src := fun (n : Nat) (d : DacSt) => r.setDac 3 { d with src := n }
    ((nx (.synthRecord 3 [1, 2]) r).dacN 3).synth = [1, 2] ∧ ((nx (.synthRecord 3 [1, 2]) pb).dacN 3).synth = [] ∧
    (nx (.dacSampleDue 3) (src 3 {})).flag (R.DAC_STATUS_STARVE 3) = true ∧
    ((nx (.dacSampleDue 3) (src 3 { synth := [5] })).dacN 3).synth = [] ∧
    (nx (.dacSampleDue 3) (src 1 { pbLen := 2, playPos := 0 })).f (R.DAC_UNDERRUN_COUNT 3) = 1 ∧
    ((nx (.dacSampleDue 3) (src 1 { pbLen := 2, playPos := 0, prefetch := [5] })).dacN 3).prefetch = [] ∧
    (nx (.dacSampleDue 3) (src 1 { pbLen := 2, playPos := 1 })).flag (R.DAC_STATUS_RUNNING 3) = false := by decide +kernel

/-! ## Filter chains -/

/-- D = 1 and 17 (prime above 16), D out of range on both sides, and MAN with its limits (R111, R112). -/
theorem test_factor_MN :
    factorMN false 1 0 0 = some (1, 1) ∧ factorMN false 17 0 0 = some (17, 1) ∧ factorMN false 1048576 0 0 = some (65536, 16) ∧
    factorMN false 1048577 0 0 = none ∧ factorMN false 0 0 0 = none ∧ factorMN true 0 65536 16 = some (65536, 16) ∧
    factorMN true 0 65537 1 = none ∧ factorMN true 0 0 1 = none := by decide +kernel

/-- Chain 15 with a shadow bank that passes: D = 4, one tap. -/
def ch : State := sets up [(R.FCH_DEC_D 15, 4), (R.FCH_FIR_TAPS 15, 1), (R.FCH_SRC_SRC 15, 3), (R.FCH_GAIN_GAIN 15, 4096)]

/-- The same chain enabled and running, its bank taken. -/
def chOn : State := sets ch [(R.FCH_CTRL_EN 15, 1), (act (R.FCH_DEC_D 15), 4), (act (R.FCH_FIR_TAPS 15), 1), (act (R.FCH_SRC_SRC 15), 3),
  (act (R.FCH_GAIN_GAIN 15), 4096), (R.FCH_MN_ACT_M 15, 1), (R.FCH_MN_ACT_N 15, 4), (R.FCH_STATUS_RUNNING 15, 1)]

theorem test_chain_writes_hyps :
    let p := chOn.setB (R.FCH_STATUS_PENDING 15) true
    let far := p.setFch 15 { nextE := 80 }
    ch.Opens 0 0x8F000 ∧ chOn.flag (R.FCH_CTRL_CANCEL 15) = false ∧
    (ch.shadowHeld 15 = false ∧ ((nx (.fchCommit 0 15 2) ch).fchN 15).chk = .commit) ∧
    (p.shadowHeld 15 = true ∧ (nx (.fchCommit 0 15 3) p).flag (R.FCH_STATUS_SHADOW_BUSY 15) = true) ∧
    far.handOverStands 15 = false ∧ (nx (.fchCancel 0 15 0x11) far).f (R.FCH_STATUS_RESULT 15) = 0x70 ∧
    p.handOverStands 15 = true ∧ (nx (.fchCancel 0 15 0x11) p).flag (R.FCH_STATUS_PENDING 15) = true ∧
    ((nx (.fchEnable 0 15 1) ch).fchN 15).chk = .enable := by decide +kernel

theorem test_chain_disable_hyps :
    let named := sets chOn [(R.TP_ANS_CFG_SRC 0, 1), (R.TP_ANS_CFG_CHAIN 0, 15), (R.FCH_STATUS_PENDING 15, 0)]
    chOn.flag (R.FCH_CTRL_EN 15) = true ∧ chOn.chainNamed 15 = false ∧
    (nx (.fchDisable 0 15 0) chOn).flag (R.FCH_STATUS_RUNNING 15) = false ∧
    (named.chainNamed 15 = true → (nx (.fchDisable 0 15 0) named).f (R.FCH_STATUS_RESULT 15) = 0x22) := by decide +kernel

/-- The checks that pass, and one that fails (no taps), for an enable and a commit; a start at sample 100: the next emit
index is 104. -/
theorem test_chain_checks_hyps :
    let en := (ch.setB (R.FCH_CTRL_EN 15) true).setFch 15 { chk := .enable }
    let bad := en.setF (R.FCH_FIR_TAPS 15) 0
    let cm := chOn.setFch 15 { chk := .commit }
    let off := ch.setFch 15 { chk := .commit }
    (en.fchChecks 15 true = 0 ∧ (en.fchN 15).chk = .enable) ∧
    (bad.fchChecks 15 true = 0x11 ∧ (nx (.fchChecksDone 15) bad).flag (R.FCH_CTRL_EN 15) = false) ∧
    (cm.fchOn 15 = true ∧ (nx (.fchChecksDone 15) cm).flag (R.FCH_STATUS_PENDING 15) = true) ∧
    (off.fchOn 15 = false ∧ off.fchChecks 15 false = 0 ∧ chOn.actD 15 = 4) := by decide +kernel

theorem test_chain_start_hyps :
    let s : State := tk { chOn.setFch 15 { startWait := true } with clk := { chOn.clk with sampleIdx := 100 } }
    s.atTick = true ∧ (s.fchN 15).startWait = true ∧ 0 < s.actD 15 ∧ ((nx (.fchStart 15) s).fchN 15).nextE = 104 := by decide +kernel

theorem test_hand_over_hyps :
    let s := (chOn.setB (R.FCH_STATUS_PENDING 15) true).setFch 15 { nextE := 80 }
    let fl := s.setFch 15 { nextE := 80, flush := true }
    s.isRunning 0x1F = true ∧ s.handOverDue 15 = true ∧
    (s.fchN 15).flush = false ∧ (fl.handOverDue 15 = true ∧ (fl.fchN 15).flush = true) := by decide +kernel

theorem test_chain_output_hyps :
    let s := chOn.setFch 15 { nextE := 8, fifo := [(31, 5)] }
    s.flag (R.FCH_STATUS_RUNNING 15) = true ∧ s.handOverDue 15 = false ∧
    s.inputReady 15 = true ∧ (s.setFch 15 { nextE := 8 }).inputReady 15 = false ∧
    ((s.setB (R.FCH_STATUS_PENDING 15) true).setFch 15 { nextE := 8, fifo := [(31, 5)] }).handOverDue 15 = true := by decide +kernel

/-! ## The fabric -/

/-- A billet of context 5 at home on forge 0. -/
def bil : Billet := { ctx := 5, home := 0, cls := 1, deadline := 100, created := 10, kentry := 0, seq := 3, cxEpoch := 0 }

/-- Deadlines that wrap: 0xFFFFFFFF is earlier than 0 (R149); ties by creation and context. -/
theorem test_rack_order :
    billetBefore { bil with deadline := 0xFFFFFFFF } { bil with deadline := 0 } = true ∧
    billetBefore { bil with deadline := 0x80000000 } { bil with deadline := 0 } = true ∧
    billetBefore { bil with created := 9 } bil = true ∧ billetBefore { bil with ctx := 4 } bil = true ∧
    billetBefore bil bil = false ∧ rackIns bil [{ bil with ctx := 4 }, { bil with ctx := 6 }] = [{ bil with ctx := 4 }, bil, { bil with ctx := 6 }] := by
  decide +kernel

/-- A take by the first idle anvil after the one last served, steals upwards and downwards, and a probe without victim. -/
theorem test_taking_work_hyps :
    let b2 := { bil with ctx := 6 }
    let s := (sets up [(R.FAB_CTRL_STEAL_RADIUS, 16), (R.FAB_CTRL_STEAL_MIN, 1)]).setRack 1 [bil, b2]
    let up1 := s.victim 0 1
    let after : State := { s with fab := { s.fab with stole := [(1, [0, 0, 31, 31])] } }
    (after.outrun 1 2 0 = true ∧ after.outrun 1 0 30 = true ∧ (after.outrun 1 1 0 = false) ∧ after.victim 2 1 = some (1, bil) ∧
      ((nx (.stealProbe 2 0 true) after).anvN 2 0).run = none ∧ ((nx (.stealProbe 2 0 false) after).anvN 2 0).run = some { bil with stolen := true }) ∧
    s.rackOf 1 = [bil, b2] ∧ (s.anvIdle 1 0 = true ∧ (s.anvN 1 0).probe = 0) ∧
    ((nx (.localTake 1) s).anvN 1 0).run = some { bil with stolen := true } ∧
    (s.anvIdle 0 31 = true ∧ s.rackOf 0 = [] ∧ s.radius = 16 ∧ up1 = some (1, bil)) ∧
    ((nx (.stealProbe 0 31 false) s).anvN 0 31).run = some bil ∧
    (s.victim 2 1 = some (1, bil) ∧ s.victim 3 1 = none) ∧ ((nx (.stealProbe 3 0 true) s).anvN 3 0).probe = 1 := by decide +kernel

/-- The limits of R162 with a budget of one half and the full capacity, and a budget and radius refused. -/
theorem test_budget_hyps :
    let s := sets up [(R.FAB_CAPACITY, 32 * 40960000000), (R.FAB_G_LOAD, 16 * 40960000000)]
    let h := s.setF (R.FRG_G_HOME 31) 40960000000
    s.Opens 0 0x180004 ∧ s.Opens 0 0x180000 ∧ s.limitsOk 0x8000 0 = true ∧ s.limitsOk 0x7FFF 0 = false ∧
    h.limitsOk 0x8000 1 = true ∧ h.limitsOk 0x8000 0 = false ∧
    (nx (.fabBudgetWrite 0 false 0x7FFF) s).flag R.FAB_STATUS_LIMIT_REFUSED = true ∧
    (nx (.fabBudgetWrite 0 false 0x9000) s).f R.FAB_G_BUDGET_BUDGET = 0x9000 ∧
    (nx (.fabBudgetWrite 0 true 0) (h.setF R.FAB_G_BUDGET_BUDGET 0x8000)).flag R.FAB_STATUS_LIMIT_REFUSED = true := by decide +kernel

/-- A running context of class E with a frame to cut. -/
def ctx5 : State :=
  let s := sets up [(R.CTX_STATE_STATE 5, 2), (R.CTX_DEADLINE_DEADLINE 5, 20), (R.CTX_SRC_CLASS 5, 1)]
  { s with ctx := tins s.ctx 5 { cutting := true, l := 256, h := 256, starts := [(0, 7, 0, 0)], nextJ := 256 } }

theorem test_frame_cut_hyps :
    let sh := ctx5.setF R.FAB_STATUS_THROTTLE 2
    ctx5.ctxState 5 = 2 ∧ cfgLong (ctx5.cfgNow 5) = false ∧ ctx5.cutSkips 5 1 (ctx5.cfgNow 5) = false ∧
    cfgClass (ctx5.cfgNow 5) = 1 ∧ ctx5.forgeUp (ctx5.homeOf 5) = true ∧
    ((nx (.frameCut 5) ctx5).rackOf 0).map (fun b => b.deadline) = [20] ∧
    (sh.cutSkips 5 1 (sh.cfgNow 5) = true ∧ (nx (.frameCut 5) sh).f (R.CTX_SHED 5) = 1) := by decide +kernel

theorem test_home_move_hyps :
    let s := sets ctx5 [(R.FRG_HEARTH_FREE_BYTES 31, 4194304)]
    (up.ctxN 3071).cutting = false ∧ cfgB (s.cfgNow 5) (R.CTX_SRC_PIN 0) = false ∧ s.hearthFit 31 0 0 0 = some (65536, 0, 65536) ∧
    s.moveFits 5 31 = true ∧ (s.ctxN 5).planeLen = 0 ∧ s.homeOf 5 = 0 ∧ (nx (.homeMove 5 31) s).homeOf 5 = 0 ∧
    ((nx (.homeMove 5 31) s).ctxN 5).moveTo = some (31, 65536, 65536) ∧ ((nx (.homeMove 5 31) s).homeTake 5).homeOf 5 = 31 := by decide +kernel

theorem test_pin_segment_hyps :
    let pin := fun (segs : List Seg) => (({ ctx5 with ctx := tins [] 5 { cutting := true, segDue := [([1], {})] } } : State).setAnv 0 0 { pin := some 5, segs := segs })
    let full := pin (List.replicate 16 ⟨0, bil⟩)
    ((pin []).ctxN 5).pend = none ∧ ((nx (.pinSegment 5) (pin [])).ctxN 5).segDue = [] ∧
    (full.anvN 0 0).segs.length = 16 ∧ (nx (.pinSegment 5) full).f (R.FRG_PIN_OVR 0) = 1 := by decide +kernel

/-! ## The anvil -/

/-- A microword of CL + 1 cycles, with its parity bit. -/
def micro (cl : Nat) (eoi : Bool) : BitVec 41 := BitVec.ofNat 41 (withParity 40 (6 * 2 ^ 31 + (if eoi then 2 ^ 37 else 0) + cl * 2 ^ 38))

/-- Routines of 1, 2, 3, 4 and 8 cycles from micro-addresses 1 to 5 of forge 31. -/
def routines : Tbl (BitVec 41) :=
  [micro 0 true, micro 1 true, micro 2 true, micro 3 true, micro 3 false, micro 3 true].zipIdx.map (fun p => (8192 * 31 + 1 + p.2, p.1))

/-- The dispatch entry that gives an instruction word the routine of its cycles; without VALID for an opcode outside Table 6-5. -/
def entryOf (w : Nat) : BitVec 16 :=
  let op := bitsOf w 24 8
  let at_ := match tableFc w with
    | some 8 => 5
    | some n => n
    | none => 1
  BitVec.ofNat 16 (withParity 15 (if opValid.contains op then 2 ^ 13 + (if opNoRep.contains op then 0 else 2 ^ 14) + at_ else 0))

/-- Forge 31 with these words at the start of its kernel store, and the microcode that they and NOP need. -/
def inStore (ws : List (BitVec 32)) : State :=
  let ks := ws.zipIdx.map (fun p => (16384 * 31 + p.2, BitVec.ofNat 33 (withParity 32 p.1.toNat)))
  let dt := (0 :: ws).foldl (fun t w => tset (fun _ => 0) t (256 * 31 + bitsOf w.toNat 24 8) (entryOf w.toNat)) []
  { up with fab := { up.fab with ks := ks, cs := routines, dt := dt } }

/-- Anvil 31 of forge 31 runs a billet at its word `w`, the last place but one of a full image following. -/
def anv (w : BitVec 32) (x : AnvSt := {}) : State :=
  (inStore [w]).setAnv 31 31 { x with run := some bil, kHi := 16384, repLimit := 4 }

/-- The stores of these words realise Table 6-5 (R223), each in its cycles. -/
theorem test_dispatch :
    (anv 0x48000000).asTable 31 31 = true ∧ ((anv 0x48000000).issued 31 31).1 = 8 ∧ (anv 0x50000200).asTable 31 31 = true ∧
    (anv 0x4A000000).asTable 31 31 = true ∧ (anv 0).asTable 31 31 = true ∧ (anv 0x03000000).issue 31 31 = .bad ∧
    ({ anv 0 with fab := { (anv 0).fab with dt := [] } } : State).issue 31 31 = .check 1 0 false ∧
    ({ anv 0 with fab := { (anv 0).fab with cs := [] } } : State).issue 31 31 = .check 0 1 false ∧
    ({ anv 0 with fab := { (anv 0).fab with ks := [(16384 * 31, 0)] } } : State).issue 31 31 = .check 2 0 false := by decide +kernel

/-- The anvil after the command. -/
def after (c : Fin 32 → Fin 32 → Instr) (w : BitVec 32) (x : AnvSt := {}) : AnvSt := (nx (c 31 31) (anv w x)).anvN 31 31

/-- Every opcode of Table 6-5 can step. -/
theorem test_steps_hyps : ∀ op ∈ opValid, (anv (BitVec.ofNat 32 (op * 2 ^ 24))).Steps 31 31 op := by decide +kernel

/-- In a repeat too, to its last execution. -/
theorem test_repeat_steps_hyps :
    (anv 0x0A323000 { rep := 3 }).Steps 31 31 0x0A ∧ ((after .sadd 0x0A323000 { rep := 3 }).pc, (after .sadd 0x0A323000 { rep := 3 }).rep) = (0, 2) ∧
    (anv 0x0A323000 { rep := 1 }).Steps 31 31 0x0A ∧ ((after .sadd 0x0A323000 { rep := 1 }).pc, (after .sadd 0x0A323000 { rep := 1 }).rep) = (1, 0) := by
  decide +kernel

/-- A modulo buffer of 5 from 8 to 12, forwards and back; 16-bit wrap; bit reversal steps through 0, 2048, 1024 (R192 to R194). -/
theorem test_post_mod :
    postMod 12 1 5 false = 8 ∧ postMod 8 0xFFFF 5 false = 12 ∧ postMod 0xFFFF 2 0 false = 1 ∧
    postMod 0x0005 0x8000 0 true = 0x8005 ∧ postMod 0x8005 0x8000 0 true = 0x4005 := by decide +kernel

theorem test_scalar_results :
    (after .sli 0x08F80000).s_ 15 = 0xFFF80000 ∧ (after .slui 0x0910BEEF { sr := [(1, 0x12345678)] }).s_ 1 = 0xBEEF5678 ∧
    (after .sadd 0x0A323000 { sr := [(2, 0xFFFFFFFF), (3, 2)] }).s_ 3 = 1 ∧
    (after .ssub 0x0B023000 { sr := [(3, 1)] }).s_ 0 = 0xFFFFFFFF ∧ (after .saddi 0x0C4FFFFF).s_ 4 = 0xFFFFFFFF ∧
    (after .slog 0x0D012003 { sr := [(1, 0xFF), (2, 0x0F)] }).s_ 0 = 0xF0 ∧
    (after .ssh 0x0E01005F { sr := [(1, 0x80000000)] }).s_ 0 = 0xFFFFFFFF ∧ (after .ssh 0x0E01003F { sr := [(1, 0x80000000)] }).s_ 0 = 1 := by
  decide +kernel

theorem test_address_results :
    (after .aimm 0x1070FFF0).a_ 7 = 0xFFF0 ∧ (after .oimm 0x1120FFFF).o_ 2 = 0xFFFF ∧
    (after .limm 0x12310005).l_ 3 = 5 ∧ (after .limm 0x12310005).br_ 3 = true ∧
    (after .amov 0x13110000 { sr := [(1, 0x12345)] }).a_ 1 = 0x2345 ∧ (after .smova 0x14910000 { a := [(1, 7)] }).s_ 9 = 7 ∧
    (after .rdsat 0x15200000 { sat := true }).s_ 2 = 1 ∧ (after .rdsat 0x15200000 { sat := true }).sat = false ∧
    (after .nop 0).pc = 1 := by decide +kernel

/-- Loads and stores ignore the low address bits; a store at the top of scratch. -/
theorem test_load_store_results :
    let x : AnvSt := { a := [(1, 0xFFF5)], o := [(1, 16)], v := [(0, 0x8000), (7, 1)], sr := [(0, 0x01020304)], scratch := [(0xFFF0, 5), (0xFFF1, 0x80)] }
    (after .vld 0x20320000 x).vec 3 = [-32763, 0, 0, 0, 0, 0, 0, 0] ∧ (after .vld 0x20320000 x).a_ 1 = 5 ∧
    (after .vst 0x21020000 x).bytes 0xFFF0 2 = [0, 0x80] ∧ (after .sst 0x24020000 x).bytes 0xFFF4 4 = [4, 3, 2, 1] ∧
    (after .sld 0x23020000 x).s_ 0 = 0 ∧ ((after .vld2 0x22320000 x).vec 3)[0]? = some (-32763) ∧
    ((after .ald 0x25020000 x).grp 0)[0]? = some 0x8005 := by decide +kernel

/-- Accumulators are stored as three vectors, the low part first (R197). -/
theorem test_ast_result :
    (after .ast 0x26000000 { acc := [(0, 0xFF00010002)], o := [(0, 16)] }).bytes 0 1 = [2] ∧
    (after .ast 0x26000000 { acc := [(0, 0xFF00010002)], o := [(0, 16)] }).bytes 16 2 = [1, 0] ∧
    (after .ast 0x26000000 { acc := [(0, 0xFF00010002)], o := [(0, 16)] }).bytes 32 2 = [0xFF, 0xFF] := by decide +kernel

/-- Saturation at both ends, rounding half away from zero (R196), and the accumulator's symmetric limits (R197). -/
theorem test_lane_results :
    let x : AnvSt := { v := [(0, 0x7FFF), (1, 0x8000), (2, 3), (8, 0x7FFF), (9, 0x8000), (10, 0x4000)], acc := [(0, 0x7FFFFFFFFF), (1, 0x8000000001)], sr := [(0, 0x12348001)] }
    ((after .vadd 0x30201000 x).vec 2).take 3 = [32767, -32768, 16387] ∧ (after .vadd 0x30201000 x).sat = true ∧
    ((after .vsub 0x31201000 x).vec 2).take 3 = [0, 0, -16381] ∧ ((after .vmul 0x32201000 x).vec 2).take 3 = [32766, 32767, 2] ∧
    ((after .vmac 0x33001000 x).grp 0).take 2 = [549755813887, -548682072063] ∧ ((after .vmax 0x34201000 x).vec 2).take 3 = [32767, -32768, 16384] ∧
    ((after .vmin 0x35201000 x).vec 2).take 3 = [32767, -32768, 3] ∧ ((after .vshr 0x36200001 x).vec 2).take 3 = [16384, -16384, 2] ∧
    ((after .vshl 0x37200001 x).vec 2).take 3 = [32767, -32768, 6] := by decide +kernel

theorem test_lane_moves :
    let x : AnvSt := { v := [(0, 0x7FFF), (1, 0x8000), (2, 3), (8, 0x7FFF)], acc := [(0, 0x180)], sr := [(0, 0x12348001)] }
    ((after .vlog 0x38201002 x).vec 2).take 2 = [0, -32768] ∧ ((after .vswap 0x39200000 x).vec 2).take 2 = [-32768, 32767] ∧
    ((after .vswap 0x39200001 x).vec 2).take 2 = [32767, 32767] ∧ (after .aclr 0x3A000000 x).grp 0 = List.replicate 8 0 ∧
    ((after .arnd 0x3B200008 x).vec 2).take 1 = [2] ∧ (after .vbcast 0x3C200000 x).vec 2 = List.replicate 8 (-32767) ∧
    (after .vlane 0x3D200001 x).s_ 2 = 0xFFFF8000 ∧
    ((after .cmul 0x40202000 { v := [(0, 0x4000), (1, 0x4000), (16, 0x4000), (17, 0x4000)] }).vec 2).take 2 = [0, 16384] ∧
    ((after .cmac 0x41002001 { v := [(0, 2), (1, 3), (16, 5), (17, 7)] }).grp 0).take 2 = [31, 1] := by decide +kernel

/-- The conjugate product of the last line: (2 + 3j)(5 − 7j) = 31 + j. LOG2A of 1 and 2^39 − 1; HIST out of range; butterflies. -/
theorem test_transform_results :
    log2a 1 = 0 ∧ log2a 256 = 2048 ∧ 256 * 38 ≤ log2a (2 ^ 39 - 1) ∧ histWord (-1) 5 = 0 ∧ histWord 1024 5 = 0 ∧
    histWord 1023 (-1) = 0x800003FF ∧ histWord 0 300 = 0x8003FC00 ∧
    bfly4 false (1, 0) (1, 0) (1, 0) (1, 0) = [(4, 0), (0, 0), (0, 0), (0, 0)] ∧ (after .bfly4 0x48000000).pc = 1 ∧
    (after .bfly2 0x49000000).cyc = 4 ∧ (after .win 0x4A000000).cyc = 3 ∧ (after .hist 0x60000000).cyc = 1 ∧
    (after .log2a 0x52000000 { acc := [(0, 0x100)] }).vec 0 = [2048, 0, 0, 0, 0, 0, 0, 0] := by decide +kernel

theorem test_magnitude_results :
    let x : AnvSt := { scratch := [(0, 3), (2, 4)], sr := [(0, 2), (2, 16)] }
    bitOf 0x50000000 9 = false ∧ ((after .mag2 0x50000000 x).grp 0)[0]? = some 25 ∧
    bitOf 0x50000200 9 = true ∧ (after .mag2Db 0x50000200 x).cyc = 2 ∧ (after .vmaxi 0x58000000 x).s_ 0 = 4 ∧
    (after .vmaxi 0x58000000 x).s_ 1 = 17 ∧ (after .vmaxi 0x58000000 x).s_ 2 = 24 ∧ (after .vmini 0x59000000 x).s_ 0 = 0 ∧
    (after .vmini 0x59000000 x).s_ 1 = 18 := by decide +kernel

/-- Branches to both ends of the image, a loop that ends, repeats at their limits. -/
theorem test_control_hyps :
    let on := (anv 0x7F000000).setB ((R.FRG_DBG_BRK_EN 31).bit 31) true
    (after .br 0x04003FFF { pc := 0 }).run = none ∧ (after .br 0x04000005).pc = 5 ∧
    (after .bnz 0x05100005 { sr := [(1, 1)] }).pc = 1 ∧ (after .bnz 0x05100005).pc = 5 ∧ (after .bz 0x06100005).pc = 5 ∧
    (after .rep 0x01000003).rep = 4 ∧ (after .reps 0x02100000 { sr := [(1, 4)] }).rep = 4 ∧
    (anv 0x7F000000).flag ((R.FRG_DBG_BRK_EN 31).bit 31) = false ∧ (after .brk 0x7F000000).pc = 1 ∧
    on.flag ((R.FRG_DBG_BRK_EN 31).bit 31) = true ∧ on.Steps 31 31 0x7F ∧
    (nx (.brk 31 31) on).flag ((R.FRG_DBG_HALT 31).bit 31) = true := by decide +kernel

/-- One kernel fault of each cause; the stop at 2^24 cycles. -/
theorem test_kernel_fault_hyps :
    let cause := fun (c : Fin 32 → Fin 32 → Instr) (s : State) => (nx (c 31 31) s).f (R.FRG_KFAULT_CAUSE 31)
    let next := fun (w : BitVec 32) => (inStore [w, 0x04000000]).setAnv 31 31 { run := some bil, kHi := 16384, repLimit := 4 }
    cause .rep (anv 0x01000004) = 2 ∧ cause .rep (next 0x01000000) = 4 ∧ cause .reps (anv 0x02100000) = 3 ∧
    opValid.contains 0x03 = false ∧ bitOf (entryOf 0x04000000).toNat 14 = false ∧ bitOf (entryOf 0).toNat 14 = true ∧
    oddOnes 33 ((next 0).storeWord 31 1) = true ∧ oddOnes 16 ((next 0).dtEntry 31 0) = true ∧ cause .badOpcode (anv 0x03000000) = 1 ∧
    cause .runaway (anv 0 { cyc := 2 ^ 24 }) = 7 ∧ bil.ctx < 3072 ∧ up.homeOf 5 < 32 := by decide +kernel

/-- A billet with a work area at 65,536, of class E. -/
def wb : Billet := { bil with ring := 131072, ringLen := 4096, work := 65536, workLen := 64 }

/-- The anvil that runs it. -/
def mv (w : BitVec 32) (x : AnvSt) : State := (inStore [w]).setAnv 31 31 { x with run := some wb, kHi := 16384, repLimit := 4 }

/-- The whole work area moves; one vector too many, an odd count and a count of 0 fault (R206, R207). -/
theorem test_move_hyps :
    let x := fun (n : BitVec 32) => ({ sr := [(1, 65536), (2, n)] } : AnvSt)
    let st := fun (w n : BitVec 32) => (nx (.move 31 31) (mv w (x n))).anvN 31 31
    (mv 0x68120000 (x 64)).anvRuns 31 31 = true ∧ (mv 0x68120000 (x 64)).hearthOk wb 65536 64 = true ∧
    (st 0x68120000 64).move = some { load := false, addr := 65536, sa := 0, n := 64 } ∧ (st 0x68120000 80).run = none ∧
    (st 0x68120000 8).run = none ∧ (st 0x68120000 0).run = none ∧ (mv 0x68120002 (x 0)).ltOk wb 65536 0 = false ∧
    ((anv 0).ltOk bil 0 0 = true) := by decide +kernel

theorem test_tload_hyps :
    let x : AnvSt := { sr := [(1, 65536), (2, 64), (3, 9)] }
    ((nx (.tload 31 31) (mv 0x69123000 x)).anvN 31 31).move = some { load := true, addr := 65536, sa := 0, n := 64, tag := 9 } ∧
    ((nx (.tload 31 31) (mv 0x69123000 { x with ttag := some (9, 0, 64) })).anvN 31 31).pc = 1 := by decide +kernel

/-- A transfer in, out, and of a table, 16 bytes each. -/
theorem test_move_complete_hyps :
    let x := fun (m : MoveSt) => ({ move := some m, scratch := [(3, 7)] } : AnvSt)
    let s := fun (m : MoveSt) => ({ mv 0x68120000 (x m) with mem := ({ bytes := [(memKey 1 (hearthAddr 0 65536), 5)] } : MemSt) } : State)
    let m : MoveSt := { load := false, addr := 65536, sa := 0, n := 16 }
    let y := fun (m : MoveSt) => nx (.moveComplete 31 31 0 []) (s m)
    (s m).hasSecure 1 = false ∧ ((y m).anvN 31 31).bytes 0 4 = [5, 0, 0, 0] ∧ ((y m).anvN 31 31).pc = 1 ∧
    (y { m with out := true }).byteAt 1 (hearthAddr 0 65539) = 7 ∧ ((y { m with load := true, tag := 9 }).anvN 31 31).ttag = some (9, 0, 16) := by
  decide +kernel

/-- BDONE that publishes nothing, one of a length that is no multiple of 16, the end of a copy. -/
theorem test_bdone_hyps :
    let s := mv 0x70120000 { sr := [(2, 0)] }
    let odd := mv 0x70120000 { sr := [(2, 8)] }
    let c := up.setAnv 31 31 { copying := true }
    s.anvRuns 31 31 = true ∧ (nx (.bdone 31 31) s).f (R.FRG_BILLETS 31) = 1 ∧
    (nx (.bdone 31 31) odd).f (R.FRG_KFAULT_CAUSE 31) = 6 ∧ ((nx (.publishCopyEnd 31 31) c).anvN 31 31).copying = false := by
  decide +kernel

theorem test_machine_check_hyps :
    let s := mv 0 {}
    let two : State := { s with clk := { s.clk with elapsed := 10 * secUnit }, fab := { s.fab with checks := [(31, [ns 1, 0])] } }
    s.forgeUp 31 = true ∧ s.reloadOf 31 = 0 ∧ (nx (.machineCheck 31 31 2 8191) s).reloadOf 31 = 15 ∧
    (nx (.machineCheck 31 31 2 8191) s).f (R.FRG_MC_LOG_UADDR 31) = 8191 ∧
    (nx (.machineCheck 31 31 2 8191) two).flag (R.FRG_MC_STATUS_QUARANTINE 31) = true := by decide +kernel

/-- Forge 31 with slices of a reload to run. -/
def reloading (n : Nat) : State := { up.setBlk 0x3F .offline with fab := { reload := [(31, n)] } }

/-- The first slice of a reload, the last one before its words are read back, and failed slices. -/
theorem test_reload_step_hyps :
    (reloading 15).forgeBusy 31 = false ∧ (reloading 15).rackOf 31 = [] ∧ (reloading 2).repliesOut 0x3F = false ∧
    (nx (.forgeReloadStep 31 true) (reloading 15)).reloadOf 31 = 14 ∧
    (reloading 2).reloadOf 31 = 2 ∧ (reloading 2).fab.golden = [] ∧ (reloading 2).fab.cs = [] ∧
    (nx (.forgeReloadStep 31 false) (reloading 12)).flag (R.FRG_MC_STATUS_RELOAD_FAIL 31) = true ∧
    (nx (.forgeReloadStep 31 false) (reloading 2)).flag (R.FRG_MC_STATUS_RELOAD_FAIL 31) = true := by decide +kernel

theorem test_reload_fail_hyps :
    (reloading 12).copiesOk = false ∧ (nx (.forgeReloadStep 31 true) (reloading 12)).flag (R.FRG_MC_STATUS_RELOAD_FAIL 31) = true := by decide +kernel

/-- A golden copy with its measurement. -/
def golden : FabSt := { golden := [0xA3], goldenSum := shake256 [0xA3], reload := [(31, 12)] }

theorem test_reload_copies_hyps :
    ({ up.setBlk 0x3F .offline with fab := golden } : State).copiesOk = true ∧
    (nx (.forgeReloadStep 31 true) { up.setBlk 0x3F .offline with fab := golden }).reloadOf 31 = 11 := by decide +kernel

/-- The last slice of the reading back of cleared stores. -/
theorem test_reload_last_hyps : (sliceWords 4).all (fun i => (reloading 2).reloadSame 31 i) = true := by
  rw [List.all_eq_true]
  intro i h
  have h1 : 20480 ≤ i := by
    simp [sliceWords] at h
    omega
  unfold State.reloadSame
  rw [if_neg (by omega), if_neg (by omega)]
  show ((0x100000000 : BitVec 33) == ksWord 0) = true
  decide +kernel

/-- The first slice of it, and one word that differs. -/
theorem test_reload_same_hyps :
    (sliceWords 0).all (fun i => up.reloadSame 31 i) = true ∧
    ({ up with fab := { cs := [(8192 * 31 + 5119, 1)] } } : State).reloadSame 31 5119 = false := by decide +kernel

theorem test_debug_hyps :
    let h := up.setB ((R.FRG_DBG_HALT 31).bit 31) true
    let d := nx (.haltApplied 31 31) h
    up.Opens 0 0x17C500 ∧ up.anvHalted 31 31 = false ∧ (nx (.debugHalt 0 31 0x80000000) up).haltWaits 31 31 = true ∧
    (nx (.debugHalt 0 31 0x80000000) (up.setAnv 31 31 { pin := some 5 })).f (R.FRG_DBG_STATUS_RESULT 31) = 0x22 ∧
    h.haltWaits 31 31 = true ∧ d.anvHalted 31 31 = true ∧ d.Opens 0 0x17C508 ∧
    (nx (.debugRelease 0 31 0x80000000) d).anvHalted 31 31 = false ∧ up.Opens 0 0x17CA04 ∧ up.hostOff = false ∧
    (nx (.dbgSdataRead 0 31) (up.setF (R.FRG_DBG_SADDR_ADDR 31) 16383)).f (R.FRG_DBG_SADDR_ADDR 31) = 0 := by decide +kernel

/-- The commands on images and forges on a free ring. -/
theorem test_forge_commands_hyps :
    let im := cmd [0x1000, 64, 0, 0] [some []]
    let f := cmd [31]
    let off := host.setBlk 0x3F .offline
    let pin := host.setB (R.FRG_STATUS_PINNED 31) true
    host.Starts 0 im true false [2 ^ 64 - 1, 0xFFFFFFFF, 0xFFFFFFFF, 0x3FFF] ∧ (nx (.kernelLoad 0 im) host).host.longs.length = 1 ∧
    host.Starts 0 (cmd [0x1000, 64] [some []]) true false [2 ^ 64 - 1, 0xFFFFFFFF] ∧ host.pinRuns = false ∧ pin.pinRuns = true ∧
    (nx (.ucodeLoad 0 (cmd [0x1000, 64] [some []])) host).host.longs.length = 1 ∧ host.Starts 0 f true false [0x1F] ∧
    host.forgeHeld 31 = false ∧ (nx (.forgeReload 0 f) host).reloadOf 31 = 15 ∧
    (nx (.forgeReload 0 f) { off with fab := { reload := [(31, 5)] } }).reloadOf 31 = 5 ∧
    (nx (.forgeOffline 0 f) host).host.longs.length = 1 ∧ (nx (.forgeOffline 0 f) off).host.longs = [] ∧
    (nx (.forgeOffline 0 f) pin).host.longs = [] := by decide +kernel

/-! ## Contexts -/

/-- A kernel image with one entry. -/
def img : KImage := { id := 1, version := 1, base := 0, words := 16, ucodeMin := 0, work := 64, repMax := 256, entries := [(0, 0x3FE, 0)], tables := [], meas := [] }

/-- A device whose context 5 is configured: class B, L = 64, H = 64, on chain 15 with D = 4, at home where there is room. -/
def ctxCfg : State :=
  let s := sets (ringed chOn) [(R.CTX_SRC_CLASS 5, 2), (R.CTX_SRC_SRC_CHAIN 5, 15), (R.CTX_WIN_LOG2L 5, 6), (R.CTX_HOP_HOP 5, 64),
    (R.CTX_DEADLINE_DEADLINE 5, 64), (R.CTX_RING_RING_DEPTH 5, 4), (R.CTX_IMAGE 5, 1), (R.CTX_REP_REP_LIMIT 5, 256)]
  { s with fab := { s.fab with images := [img] } }

/-- Its command. -/
def ctxCmd5 : Fetch := cmd [5]

theorem test_ctx_start_hyps :
    let s := ctxCfg
    let r := s.fetchCmd 0
    let cfg := r.cfgNow 5
    r.ctxReach 0 5 = 0 ∧ s.Starts 0 ctxCmd5 false false [0xFFF, 2 ^ 64 - 1, 2 ^ 64 - 1] ∧ r.ctxCrosses 5 cfg = false ∧
    fieldsOk cfg 4 false = true ∧ r.actD 15 = 4 ∧ r.fchOn 15 = true ∧ r.imageOf cfg = some (img, (0, 0x3FE, 0)) ∧
    img.repMax ≤ r.repLimitOf cfg ∧ r.chooseHome cfg 4 0 (r.cfgLoad cfg 4 0) = some 0 ∧
    (r.hearthFit 0 (cfgRing cfg) (cfgPlane cfg) (cfgWork cfg img)).isSome = true := by decide +kernel

theorem test_ctx_start_runs :
    let t := nx (.ctxStart 0 ctxCmd5) ctxCfg
    t.ctxState 5 = 1 ∧ t.cxEpoch 5 = 1 ∧ t.flag (R.CTX_STATE_GAPLESS 5) = true := by decide +kernel

/-- The states in which a start is refused, and a stop with a billet left, without one, and of a stopped context. -/
theorem test_ctx_stop_hyps :
    let run := ctxCfg.setF (R.CTX_STATE_STATE 5) 2
    let busy := run.setRack 0 [bil]
    (nx (.ctxStart 0 ctxCmd5) run).f (R.CTX_STATE_RESULT 5) = 0x22 ∧
    ctxCfg.Starts 0 ctxCmd5 false false [0xFFF] ∧ busy.liveOf 5 ≠ [] ∧ run.liveOf 5 = [] ∧ run.pinLeft 5 = false ∧ run.runsOf 5 = false ∧ (run.ctxN 5).moveTo = none ∧
    (nx (.ctxStop 0 ctxCmd5) busy).ctxState 5 = 3 ∧ (nx (.ctxStop 0 ctxCmd5) run).ctxState 5 = 0 ∧
    (nx (.ctxStop 0 ctxCmd5) (ctxCfg.setF (R.CTX_STATE_STATE 5) 4)).ctxState 5 = 4 := by decide +kernel

/-- A modification to the same settings is allowed; one of a stopped context is refused. -/
theorem test_ctx_modify_hyps :
    let run := ctxCfg.setF (R.CTX_STATE_STATE 5) 1
    let img5 := ((run.cfgNow 5).map (fun w => leBytes 4 w.toNat)).flatten
    let q := cmd [5, 0x1000] [some img5]
    run.Starts 0 q false false [0xFFF, 2 ^ 64 - 1, 2 ^ 64 - 1] ∧ cfgWords img5 = run.cfgNow 5 ∧
    modAllowed (run.cfgNow 5) (cfgWords img5) = true ∧ (nx (.ctxModify 0 q) run).flag (R.CTX_STATE_MOD_PEND 5) = true ∧
    (nx (.ctxModify 0 q) ctxCfg).flag (R.CTX_STATE_MOD_PEND 5) = false := by decide +kernel

theorem test_dens_clear_hyps :
    let s : State := { ctxCfg with ctx := [(5, { plane := 1048576, planeLen := 1048576 })] }
    s.Starts 0 ctxCmd5 true false [0xFFF] ∧ (s.ctxN 5).planeLen ≠ 0 ∧ s.isFenced (0x40 + s.homeOf 5) = false := by decide +kernel

/-! ## Triggers -/

/-- Unit 31 takes TRIGIN 3, in both banks; the term 15 names it. -/
def trig : State := sets up [(R.TRG_SRC_EN 31, 1), (R.TRG_SRC_KIND 31, 7), (R.TRG_SRC_INDEX 31, 3), (tact (R.TRG_SRC_EN 31), 1),
  (tact (R.TRG_SRC_KIND 31), 7), (tact (R.TRG_SRC_INDEX 31), 3), (tact (R.TRM_MEMBERS 15), 2 ^ 31), (tact (R.TRM_CFG_EN 15), 1),
  (tact (R.TRM_CFG_OP 15), 1)]

/-- An event of unit 31 that has arrived. -/
def ev : TrgEv := { unit := 31, stamp := 256, pt := 0, due := ns 10, arrived := true }

/-- The state with these events stored, at 10 ns. -/
def stored (es : List TrgEv) : State := { trig with trg := { trig.trg with store := es }, clk := { trig.clk with ptime := ns 10 } }

/-- The edge of the polarity in force at the last place of a control cycle, and the other edge. -/
theorem test_trigin_hyps :
    trig.f R.PWR_STATUS_STATE ≠ 3 ∧ (∀ v, v < 32 → (trig.unitOf v 7 3 = true ↔ v = 31)) ∧ (trig.unitN 31).lastRep = none ∧
    (nx (.triginEdge 3 true 159) trig).trg.store.map (fun e => e.stamp) = [128 * 159] ∧ (nx (.triginEdge 3 false 159) trig).trg.store = [] := by
  decide +kernel

theorem test_event_hyps :
    let s := (stored [{ ev with arrived := false }]).setF (tact R.TRG_ALIGN_NS) 10
    let late := (stored [{ ev with arrived := false }]).setF (tact R.TRG_ALIGN_NS) 9
    evFirst [{ ev with unit := 2 }, { ev with unit := 1 }] = some { ev with unit := 1 } ∧
    s.namers ev = [15] ∧ (nx (.eventArrival 31) s).trg.store = [ev] ∧ (nx (.eventArrival 31) late).f R.TRG_LATE_EVENTS = 1 ∧
    ((stored []).termEvents 15 = []) ∧ ((stored [ev]).setF (tact R.TRG_ALIGN_NS) 10).termEvents 15 = [ev] ∧
    (nx (.termEvaluate 15) ((stored [ev]).setF (tact R.TRG_ALIGN_NS) 10)).f (R.TRM_FIRES 15) = 1 ∧
    (nx (.termEvaluate 15) ((stored [ev]).setF (tact R.TRG_ALIGN_NS) 14)).f (R.TRM_FIRES 15) = 0 ∧
    (nx (.eventArrival 31) (stored [{ ev with arrived := false, due := ns 14 }])).trg.store = [{ ev with arrived := false, due := ns 14 }] ∧
    s.reached { ev with arrived := false } = true ∧ s.reached ev = false ∧ (stored [ev]).arriveAll = stored [ev] := by decide +kernel

/-- An AND term that names unit 30 too, which has no event. -/
theorem test_term_and_hyps :
    let s := (sets (stored [ev]) [(tact (R.TRM_CFG_OP 15), 0), (tact (R.TRM_MEMBERS 15), 0xC0000000), (tact R.TRG_ALIGN_NS, 0)])
    let x := termOf (s.bankAt 0).1 15
    bitsOf x.cfg 0 2 = 0 ∧ bitOf x.members 30 = true ∧ (nx (.termEvaluate 15) s).trg.store = [] ∧
    (nx (.termEvaluate 15) s).f (R.TRM_FIRES 15) = 0 := by decide +kernel

theorem test_trigger_bank_hyps :
    let p0 := tk (trig.setB R.TRG_STATUS_PENDING true)
    let p : State := { p0 with trg := { p0.trg with pendCyc := 2 } }
    let h : State := { p with trg := { p.trg with handed := true } }
    let at_ : State := { p.setPtimeAt 0x400010 (ns 5) with trg := { p.trg with atPtime := true } }
    trig.Opens 0 0x400000 ∧ trig.trgChecks = 0 ∧ (nx (.trgCommit 0 6) trig).flag R.TRG_STATUS_PENDING = true ∧
    (nx (.trgCommit 0 2) (trig.setF (R.TRG_SRC_KIND 0) 10)).f R.TRG_STATUS_RESULT = 0x11 ∧
    (nx (.trgCommit 0 2) p).flag R.TRG_STATUS_SHADOW_BUSY = true ∧ (nx (.trgCancel 0 8) p0).f R.TRG_STATUS_RESULT = 0x70 ∧
    p.atTick = true ∧ p.trg.handed = false ∧ p.trg.pendCyc ≠ p.clk.cycles ∧ p0.trg.pendCyc = p0.clk.cycles ∧ p.trgStands = true ∧
    (nx .trgHandOver p).f R.TRG_EPOCH_EPOCH = 1 ∧ (nx .trgHandOver p).trgTick.flag R.TRG_STATUS_PENDING = false ∧
    (nx .trgHandOver h).f R.TRG_EPOCH_EPOCH = 0 ∧
    (nx .trgIoApply ((tk trig).setF (R.TRGIN_CFG_POL 3) 1)).trg.inPol[3]? = some 1 ∧ trig.atTick = false ∧
    (at_.now < at_.ptimeAt 0x400010 ∧ (nx .trgHandOver at_).flag R.TRG_STATUS_PENDING = true) := by
  decide +kernel

/-- Slot 63 on the samples of channel 7, one segment of 256 units before and after. -/
def acq : State := sets up [(R.ACQ_SIZE_LEN 63, 65536), (R.ACQ_PRE_UNITS 63, 16), (R.ACQ_POST_UNITS 63, 16), (R.ACQ_MODE_INDEX 63, 7), (R.ADC_CTRL_EN 7, 1),
  (R.ACQ_COUNTS_SEGS 63, 1)]

theorem test_acq_arm_hyps :
    let st := tk (acq.setAcq 63 { starting := true })
    let pre := acq.setF (R.ACQ_STATUS_STATE 63) 1
    acq.Opens 0 0x413F00 ∧ st.atTick = true ∧ acq.atTick = false ∧ acq.armChecks 63 = 0 ∧ (nx (.acqArm 0 63 1) acq).slotPending 63 = true ∧
    (acq.setF (R.ACQ_SIZE_LEN 63) 0).armChecks 63 = 0x11 ∧ (acq.setF (R.ACQ_STATUS_STATE 63) 3).armChecks 63 = 0x22 ∧
    ((nx (.acqStop 0 63 2) acq).acqN 63).stopReq = true ∧ (nx (.acqWriteStart 63) st).acqState 63 = 1 ∧
    (nx (.acqWriteStart 63) (st.setF (R.ACQ_PRE_UNITS 63) 0)).acqState 63 = 2 ∧
    (nx (.prefillComplete 63) (pre.setAcq 63 { w := 16 })).acqState 63 = 2 := by decide +kernel

/-- A trigger before u_arm, one with too few units under WAIT_FULL, and one that is taken. -/
theorem test_acq_trigger_hyps :
    let s := (acq.setF (R.ACQ_STATUS_STATE 63) 2).setAcq 63 { uArm := 4, w := 40 }
    let t := fun (s : State) (u : Nat) => s.acqTrigger 63 0 { stamp := 256 * u, epoch := 0 }
    s.trigUnit 63 (256 * 3) = 3 ∧ (t s 3).f (R.ACQ_MISSED_REARM 63) = 1 ∧
    (t (s.setB (R.ACQ_MODE_PREFILL 63) true) 19).f (R.ACQ_MISSED_PREFILL 63) = 1 ∧ (t s 20).acqState 63 = 3 := by decide +kernel

theorem test_window_hyps :
    let g : AcqTrig := { unit := 20, stamp := 5120, pt := 0, start := 4, short := false, epoch := 0, term := 0 }
    let s := (acq.setF (R.ACQ_STATUS_STATE 63) 3).setAcq 63 { uArm := 4, w := 36, trig := some g }
    let r := (acq.setF (R.ACQ_STATUS_STATE 63) 4).setAcq 63 { uArm := 4, w := 36, trig := some g }
    s.endUnit 63 = some 36 ∧ (nx (.windowComplete 63) s).acqState 63 = 5 ∧ (nx (.windowComplete 63) s).f (R.ACQ_DONE_COUNT 63) = 1 ∧
    (nx (.windowComplete 63) (s.setF (R.ACQ_MODE_REARM 63) 2)).acqState 63 = 4 ∧ (nx (.rearmDone 63) r).acqState 63 = 1 := by decide +kernel

/-! ## The Trigger Port and the cluster -/

/-- The Trigger Port enabled with a good TPCLK. -/
def tpOn : State := sets up [(R.TP_CTRL_EN, 1), (R.TP_STATUS_CLK_OK, 1), (R.PWR_PADHOLD_GROUPS, 0)]

theorem test_tp_answer_hyps :
    let s := tpOn.setF (R.TP_ANS_CFG_SRC 63) 1
    let off := s.setB R.TP_STATUS_CLK_OK false
    s.flag (R.PWR_PADHOLD_GROUPS.bit 2) = false ∧ (nx (.answerUpdate 63 2 5) s).flag R.TP_STATUS_ANS_WR_DROP = true ∧
    (nx (.answerUpdate 63 0 5) s).f R.TP_ANS_DROPS = 1 ∧ ((nx (.answerUpdate 63 1 5) s).ansSelect 63).ansValue 63 = 5 ∧
    (nx (.tpQuery true 63) (nx (.answerUpdate 63 1 5) off)).tp.tpa = 5 ∧ (nx (.tpQuery false 63) (nx (.answerUpdate 63 1 5) off)).tp.tpa = 0 := by
  decide +kernel

/-- An update that has waited 4 fc, and one that has waited one control cycle less; a primitive that is due. -/
theorem test_tpclk_hyps :
    let s := { tpOn with tp := { tpOn.tp with fresh := [(5, 1), (6, 2)] }, clk := { tpOn.clk with elapsed := tpOn.fcTime 4 } }
    let lost : State := { tpOn with clk := { tpOn.clk with elapsed := 1000 * nsUnit } }
    let off (n : Nat) : State := { (tpOn.setB R.TP_STATUS_CLK_OK false) with tp := { tpOn.tp with fresh := [(5, n)] } }
    let p := { tpOn.setF (R.TP_PSEL_SEL 15) 3 with trg := { tpOn.trg with prims := [(3, 0)] } }
    (nx (.tpclkEdge 0) s).ansSel 5 = !s.ansSel 5 ∧ (nx (.tpclkEdge 0) s).ansSel 6 = s.ansSel 6 ∧ (nx (.tpclkEdge 0) p).tp.tpp = 32768 ∧
    (nx .tpclkLoss s).flag R.TP_STATUS_CLK_OK = true ∧ (nx .tpclkLoss lost).flag R.TP_STATUS_CLK_OK = false ∧
    ((off (up.increment)).ansFree 5).ansSel 5 = true ∧ ((off (up.increment + 1)).ansFree 5).ansSel 5 = false ∧ (nx (.tpclkMeasurement 10000000) tpOn).flag R.TP_STATUS_CLK_OK = true ∧
    (nx (.tpclkMeasurement 9999999) tpOn).flag R.TP_STATUS_CLK_OK = false ∧ (nx (.tpclkMeasurement 100000001) tpOn).flag R.TP_STATUS_CLK_OK = false := by
  decide +kernel

theorem test_tp_command_hyps :
    let m := sets tpOn [(tact (R.TRG_SRC_EN 31), 1), (tact (R.TRG_SRC_KIND 31), 8)]
    up.tpLive = false ∧ tpOn.tpLive = true ∧ (nx (.accept 159) tpOn).f R.TP_ACCEPTS = 1 ∧ (nx (.reject 0) tpOn).tp.decisions = 1 ∧
    (nx (.accept 0) (tpOn.setB R.TP_CTRL_ACC_FIRE true)).f R.CL_FIRES_DROPPED = 1 ∧
    (nx (.tpArm 0) tpOn).tp.armPend = some tpOn.now ∧ (∀ v, v < 32 → (m.unitIs v 8 = true ↔ v = 31)) ∧ (nx (.mark 0) m).f R.TP_MARKS = 1 ∧
    (nx (.tpReservedCommand 5) tpOn).f R.TP_BAD_CMDS = 1 ∧ (nx (.tpReservedCommand 4) tpOn).f R.TP_BAD_CMDS = 0 := by decide +kernel

/-- Lanes 3 and 9 of a top manager, a sub-manager or a worker, both running; lane 9 is the parent lane of the latter two. -/
def clu (role : Nat) : State := sets up [(R.CL_CTRL_ROLE, role), (R.CL_CTRL_UP_LANE, 9), (R.CL_LANES_LANES.bit 3, 1), (R.CL_LANES_LANES.bit 9, 1),
  (R.CL_LINK_STATUS_STATE 3, 2), (R.CL_LINK_STATUS_STATE 9, 2), (R.PWR_PADHOLD_GROUPS, 0)]

/-- A carriage of a sound codeword, with its CRC. -/
def car (type_ : BitVec 8) (flags : BitVec 8) (seq : BitVec 16 := 0) (payload : BitVec 192 := 0) : Carriage :=
  let c : Carriage := ⟨1, 0, type_, flags, seq, payload, 0⟩
  { c with crc := BitVec.ofNat 32 (crc32 (leBytes 28 (carBody c))) }

/-- Numbers that are the next, old and later ones (R334). -/
theorem test_ctl_take :
    (clu 1).ctlTake 3 (car 3 0 0) = .act ∧ (clu 1).ctlTake 3 (car 3 0 0x8000) = .again ∧ (clu 1).ctlTake 3 (car 3 0 0xFFFF) = .again ∧
    (clu 1).ctlTake 3 (car 3 0 1) = .drop ∧ (clu 1).ctlTake 3 (car 3 0 0x7FFF) = .drop ∧ (clu 1).isChild 3 = true ∧ (clu 3).isParent 9 = true ∧
    (clu 1).Hears 3 (car 3 0) cFIRE := by decide +kernel

theorem test_fire_up_hyps :
    let armed := (clu 1).setB R.CL_STATUS_ARMED true
    let old : State := { armed with cl := { armed.cl with recent := [0] } }
    let sub := clu 2
    (nx (.fireUp 3 (car 3 0)) (clu 1)).f R.CL_FIRES_DROPPED = 1 ∧ (nx (.fireUp 3 (car 3 0)) old).f R.CL_MERGED = 1 ∧
    (nx (.fireUp 3 (car 3 0)) armed).f R.CL_FIRE_NUM_NUM = 1 ∧ ((nx (.fireUp 3 (car 3 0)) armed).linkN 9).waiting.length = 1 ∧
    sub.isChild 3 = true ∧ ((nx (.fireUp 3 (car 3 0)) sub).linkN 9).waiting.length = 1 ∧
    (nx (.fireUp 3 (car 3 0)) (sub.setF (R.CL_LINK_STATUS_STATE 9) 1)).f R.CL_FIRES_DROPPED = 1 := by decide +kernel

theorem test_fire_down_hyps :
    let w := clu 3
    let late : State := { w with clk := { w.clk with ptime := w.horizon + 1 } }
    (nx (.fireDown 9 (car 3 1)) w).f R.CL_FIRES_RCVD = 1 ∧ (nx (.fireDown 9 (car 3 1)) w).flag R.CL_STATUS_FIRE_LATE = false ∧
    (nx (.fireDown 9 (car 3 1)) late).f R.CL_LATE_FIRES = 1 := by decide +kernel

/-- An arm that acts at once, a disarm that waits, and the tick at which an arm held falls due. -/
theorem test_arm_hyps :
    let w := clu 3
    let a : ArmSt := { act := 0, id := 7, firesMax := 0, disarm := false, acked := true }
    let s := fun (a : ArmSt) => ({ w with cl := { w.cl with arms := [a] } } : State)
    w.role = 3 ∧ (nx (.armCarriage 9 (car 2 0)) w).flag R.CL_STATUS_ARMED = true ∧
    ((nx (.armCarriage 9 (car 2 0 0 (BitVec.ofNat 192 (2 ^ 176 + 2 ^ 80)))) w).cl.arms.map (fun a => a.disarm)) = [true] ∧
    (nx .armActivate (s a)).f R.CL_ARM_ID = 7 ∧ (nx .armActivate (s { a with disarm := true })).cl.arms = [] ∧
    (nx .armActivate (s { a with act := 1 })).cl.arms = [{ a with act := 1 }] := by decide +kernel

theorem test_cl_arm_hyps :
    let h := fun (role : Nat) => ringed (clu role)
    let f := cmd [0, 1]
    let d : DefCmd := { ring := 0, entry := { opcode := 0x60, flags := 0, tag := 9, rsv := 0, params := [] }, target := 1 }
    let a : ArmSt := { act := 0, id := 1, firesMax := 0, disarm := false }
    let t := { h 1 with cl := { (h 1).cl with arms := [a] }, host := { (h 1).host with defs := [d] } }
    (h 0).Starts 0 f false false [2 ^ 64 - 1, 2 ^ 64 - 1, 0x1FFFF] ∧ (h 0).now + (h 0).horizon ≤ ptOf128 (2 ^ 64) ∧
    (nx (.clArm 0 f) (h 0)).cl.armId = 1 ∧ (nx (.clArm 0 f) (h 3)).cl.armId = 0 ∧ (nx (.clArm 0 (cmd [0])) (h 0)).cl.armId = 0 ∧
    (nx (.clArm 0 f) (h 1)).host.defs.length = 1 ∧ (nx (.clArm 0 f) ((h 1).setF (R.CL_LINK_STATUS_STATE 3) 3)).host.defs = [] ∧
    (nx .clArmTimeout t).flag R.CL_STATUS_ARMED = true ∧ (nx .clArmTimeout t).host.defs = [] := by decide +kernel

theorem test_carriage_check_hyps :
    let down := (clu 3).setF (R.CL_LINK_STATUS_STATE 9) 0
    (nx (.credit 9 { car 6 0 with crc := 0 }) (clu 3)).f (R.CL_LINK_CRC_ERR 9) = 1 ∧ (nx (.ack 9 (car 6 0)) (clu 3)) = clu 3 ∧
    down.linkUp 9 = false ∧ (nx (.ack 9 (car 6 0)) down).f (R.CL_LINK_CRC_ERR 9) = 0 ∧
    cwCorrects 15 = true ∧ cwCorrects 16 = false ∧ (nx (.credit 9 { car 6 7 0 5 with errs := 15 }) (clu 3)).f (R.CL_LINK_FEC_CORR 9) = 1 ∧
    (nx (.credit 9 { car 6 7 0 5 with errs := 16 }) (clu 3)).f (R.CL_LINK_FEC_UNCORR 9) = 1 ∧
    (nx (.credit 9 (car 9 0)) (clu 3)).f (R.CL_LINK_CRC_ERR 9) = 1 := by decide +kernel

/-- Slots: a repeat first, then FIRE before ARM before DATA, none numbered beyond 64, and IDLE; a codeword at the start of a link. -/
theorem test_slots_hyps :
    let fire : CtlCarriage := ⟨0, cFIRE, 0, 0⟩
    let arm : CtlCarriage := ⟨0, cARM, 0, 0⟩
    let data : CtlCarriage := ⟨9, cDATA, 0, 0⟩
    let l : LinkSt := { waiting := [data, arm, fire], txSeq := 65535 }
    let full : LinkSt := { l with unacked := List.replicate 64 fire }
    (({ l with again := [arm] } : LinkSt).slot 0).2 = arm ∧ (l.slot 0).2 = { fire with seq := 65535 } ∧ (l.slot 0).1.txSeq = 0 ∧
    (full.slot 0).2 = data ∧ (({ full with waiting := [fire] } : LinkSt).slot 0).2 = idleCarriage ∧
    bitOf ((clu 1).f R.PWR_PADHOLD_GROUPS) 4 = false ∧ (clu 1).cwNext 3 = 0 := by decide +kernel

/-- Training: good at 100 ps, too wide at 101 ps, and each failing step (R330, R337). -/
theorem test_train_hyps :
    let r : TrainResult := { failStep := 0, peerRole := 1, peerDev := 0, peerLane := 2, delay := 65536, spread := 100 }
    let w := clu 3
    let c := clu 1
    w.isLink 9 = true ∧ w.isLink 8 = false ∧ w.roleFits 9 1 = true ∧ w.roleFits 9 3 = false ∧ c.roleFits 3 3 = true ∧
    (nx (.linkTrain 9 r) w).f R.CL_STATUS_DEV = 768 ∧ (nx (.linkTrain 9 { r with spread := 101 }) w).f (R.CL_LINK_STATUS_FAIL 9) = 4 ∧
    (nx (.linkTrain 9 { r with peerRole := 3 }) w).f (R.CL_LINK_STATUS_FAIL 9) = 3 ∧ (nx (.linkTrain 9 { r with failStep := 1 }) w).f (R.CL_LINK_STATUS_FAIL 9) = 1 ∧
    (nx (.linkTrain 3 { r with peerRole := 3 }) c).f (R.CL_LINK_STATUS_PEER 3) = 1024 := by decide +kernel

/-- A worker's other lanes do not train (R329): they stand in FAULT with code 3. -/
theorem test_barred_lane :
    let b := sets (clu 3) [(R.CL_LANES_LANES, 0x300), (R.CL_LINK_CTRL_AUTO 8, 1), (R.CL_LINK_STATUS_STATE 8, 0)]
    let t := b.linkStart 8
    b.barredLane 8 = true ∧ b.barredLane 9 = false ∧ t.f (R.CL_LINK_STATUS_STATE 8) = 3 ∧ t.f (R.CL_LINK_STATUS_FAIL 8) = 3 ∧
    (nx (.linkAutoRetrain 8) { t with clk := { t.clk with elapsed := ns 1000000 } }).f (R.CL_LINK_STATUS_STATE 8) = 3 := by decide +kernel

theorem test_link_fault_hyps :
    let f := sets (clu 3) [(R.CL_LINK_STATUS_STATE 9, 3), (R.CL_LINK_CTRL_AUTO 9, 1)]
    let l : State := { f with clk := { f.clk with elapsed := 1000000 * 2 ^ 48 } }
    (nx (.linkLos 9) (clu 3)).f (R.CL_LINK_STATUS_FAIL 9) = 6 ∧ (nx (.linkAutoRetrain 9) f).f (R.CL_LINK_STATUS_STATE 9) = 3 ∧
    (nx (.linkAutoRetrain 9) l).f (R.CL_LINK_STATUS_STATE 9) = 1 := by decide +kernel

theorem test_time_carriage_hyps :
    let w := clu 3
    let m : State := { w with clk := { w.clk with mode := 1 } }
    w.Hears 9 (car 1 0) cTIME ∧ (nx (.timeCarriage 9 (car 1 0 0 (BitVec.ofNat 192 (2 ^ 128))) 0) w).flag R.CL_STATUS_UP_HOLDOVER = true ∧
    (nx (.timeCarriage 9 (car 1 0) 0) m).clk.refEdges = 1 := by decide +kernel

/-- The first carriage of a packet, one out of order, the last carriage; and a packet that leaves for the parent. -/
theorem test_data_carriage_hyps :
    let top := clu 1
    let run := (top.setB (R.SQ_STATUS_RUNNING 31) true).setF (R.SQ_CFG_SRC 31) 3
    let part : State := run.setLink 3 { run.linkN 3 with asm := [{ queue := 31, next := 1, bytes := leBytes 24 1 }] }
    (((nx (.dataCarriage 3 (car 5 31) false) top).linkN 3).asm.map (fun a => a.next)) = [1] ∧
    (nx (.dataCarriage 3 (car 5 31 4) false) top).f (R.CL_LINK_DATA_DROP 3) = 1 ∧
    part.sqRoom 31 3 { kind := 3, body := leBytes 24 1 ++ leBytes 24 0 } = true ∧
    ((nx (.dataCarriage 3 (car 5 63 1) false) part).sqN 31).pkts.length = 1 ∧ (clu 3).dataQueue = none := by decide +kernel

theorem test_data_up_hyps :
    let w := sets (clu 3) [(R.SQ_STATUS_RUNNING 31, 1), (R.SQ_CFG_REMOTE_Q 31, 7), (R.SQ_CFG_DRAIN 31, 3)]
    let s : State := { w.setLink 9 { w.linkN 9 with credit := [(7, 5)] } with sq := tset (fun _ => {}) w.sq 31 { pkts := [{ kind := 3, body := leBytes 24 1 }] } }
    s.upLane = 9 ∧ s.dataQueue = some 31 ∧ ((nx (.dataCarriage 9 (car 5 0) false) s).linkN 9).waiting.length = 1 ∧ s.linkUp 9 = true ∧
    tget (fun _ => 0) ((nx (.credit 9 (car 6 7 0 65535)) w).linkN 9).credit 7 = 65535 := by decide +kernel

theorem test_ack_hyps :
    let w := clu 3
    let x : CtlCarriage := { seq := 4, type_ := 3, flags := 0, payload := 0 }
    let s := fun (n : Nat) => w.setLink 9 { w.linkN 9 with unacked := [x], repeats := n }
    let late := fun (n : Nat) => ({ s n with clk := { w.clk with elapsed := (2 * w.hopF 9 + 200) * 2 ^ 48 } } : State)
    ((nx (.ack 9 (car 7 0 4)) (s 0)).linkN 9).unacked = [] ∧ ((nx (.ack 9 (car 7 0 5)) (s 0)).linkN 9).unacked = [x] ∧
    (nx (.ackTimeout 9) (s 2)).f (R.CL_LINK_RETX 9) = 0 ∧ (nx (.ackTimeout 9) (late 2)).f (R.CL_LINK_RETX 9) = 1 ∧
    (nx (.ackTimeout 9) (late 3)).f (R.CL_LINK_STATUS_FAIL 9) = 5 ∧ (w.linkN 9).unacked = [] := by
  decide +kernel

/-! ## Timing inputs and network time -/

/-- Timing channel 15 runs on both edges, its calibration words named. -/
def tdc : State := words (sets up [(R.TDC_CFG_EN 15, 1), (R.TDC_STATUS_RUNNING 15, 1), (R.TDC_CFG_EDGE 15, 2)])
  ([(0x20000, 0), (0x20004, 0), (0x24D00, 0), (0x24D04, 0), (0x24D08, 2560)] ++ (List.range 16).map (fun i => (0x24D40 + 4 * i, 39062))
    ++ (List.range 64).map (fun i => (0x24E00 + 4 * i, 0)))

/-- The same at 1 ms. -/
def tdc1 : State := { tdc with clk := { tdc.clk with elapsed := ns 1000000, ptime := ns 1000000 } }

/-- Stamps: bin 0 and offset 0 are the time itself; bin 1 of channel 15 is one bin of 39,062 fs later, 0.039062 ns. -/
theorem test_tdc_stamp :
    tdc1.tdcStamp 15 0 0 = ns 1000000 ∧ tdc1.tdcStamp 15 1 0 = roundDiv (39062 * 2 ^ 32) 1000000 * 2 ^ 16 + ns 1000000 := by decide +kernel

theorem test_tin_edge_hyps :
    let x := tdc1.tdcN 15
    let e := fun (y : TdcSt) => nx (.tinEdge 15 true 0 0) (tdc1.setTdc 15 y)
    let dead := 32 * tdc1.increment / 5
    let full := e { x with queue := List.replicate 4096 (0, 0) }
    tdc1.f (R.TDC_CFG_EDGE 15) = 2 ∧ tdc1.clk.elapsed + 0 * tdc1.increment / 160 < (ns 1000000 - 5 * 2 ^ 46 + 1) + 5 * 2 ^ 46 ∧
    (nx (.tinEdge 15 true 0 0) (tdc1.setF (R.TDC_CFG_PRESC 15) 1)).f (R.TDC_EVENTS 15) = 1 ∧
    ((e { x with lastEdge := some 0, lastStamp := some (ns 1000000 - dead + 1) }).tdcN 15).lost = 1 ∧
    ((e { x with lastStamp := some (ns 1000000 - dead), lost := 300 }).tdcN 15).queue.map (fun p => bitsOf p.1 120 8) = [255] ∧
    full.f (R.TDC_QOVF 15) = 1 ∧ (full.tdcN 15).qovf = true ∧
    ((nx (.tinEdge 15 false 0 0) (tdc1.setF (R.TDC_CFG_EDGE 15) 1)).tdcN 15).queue = [] := by decide +kernel

theorem test_tdc_commands_hyps :
    let off := tdc1.setB (R.TDC_CFG_EN 15) false
    let q := tdc1.setTdc 15 { tdc1.tdcN 15 with queue := [(5 * 2 ^ 96 + 7, 0)] }
    let d := q.setF (R.TDC_QCFG_DRAIN 15) 2
    tdc1.Opens 0 0x24C00 ∧ (nx (.tdcEnable 0 15 0) tdc1).flag (R.TDC_CFG_EN 15) = false ∧ off.tdcTick.flag (R.TDC_STATUS_RUNNING 15) = false ∧
    ((tdc1.setB (R.TDC_STATUS_RUNNING 15) false).tdcTick.flag (R.TDC_STATUS_RUNNING 15) = true) ∧ tdc1.Reaches 0 0x24C40 ∧
    (nx (.tdcPop 0 15) q).f (R.TDC_POP 15 2) = 5 ∧ ((nx (.tdcPop 0 15) d).tdcN 15).queue.length = 1 ∧
    (nx (.tdcPop 0 15) tdc1).out.length = 1 ∧ (nx (.tdcTempUpdate 0x1A00) tdc1).f R.TDC_TEMP_TEMP = 0x1A00 := by decide +kernel

/-- A batch: the time-out of 1 µs reached, not reached, and the record in a running queue. -/
theorem test_tdc_batch_hyps :
    let s := fun (at_ : Nat) => sets (tdc1.setTdc 15 { tdc1.tdcN 15 with queue := [(7, at_)] }) [(R.TDC_QCFG_DRAIN 15, 2), (R.TDC_QCFG_BATCH 15, 256), (R.TDC_QCFG_TMO 15, 0), (R.TDC_QCFG_SQ 15, 31)]
    let r := (s (ns 999000)).setB (R.SQ_STATUS_RUNNING 31) true
    ((nx (.tdcBatchEmit 15) (s (ns 999001))).tdcN 15).queue.length = 1 ∧ (nx (.tdcBatchEmit 15) (s (ns 999000))).f (R.TDC_DROP 15) = 1 ∧
    r.sqLevel 31 + 70 ≤ 4096 ∧ ((nx (.tdcBatchEmit 15) r).sqN 31).pkts.map (fun p => leAt p.body 36 4) = [16] := by decide +kernel

/-- A gate that goes on, one with 2 stamps, a good one, steps that meet its span and one that begins at its end, a falling slope and FAST: 3 stamps 1,000 ns apart
are 1 MHz (R367 to R371). -/
theorem test_gate_hyps :
    let g := fun (x : GateSt) => ({ tdc1.setTdc 15 { tdc1.tdcN 15 with gate := some x } with clk := { tdc1.clk with ptime := tdc1.gateLen 15 } } : State)
    let x : GateSt := { k := 0, start := 0, steps := 0, n := 3, n0 := 10, sn := 3, snn := 5, st := 3000 * 2 ^ 32, snt := 5000 * 2 ^ 32, stt := 5000000 * 2 ^ 64 }
    let cause := fun (x : GateSt) => (nx (.gateEnd 15) (g x)).f (R.TDC_FSTAT_CAUSE 15)
    let stepped := fun (p q : Nat) => (nx (.gateEnd 15) { g x with clk := { (g x).clk with steps := 1, stepLog := [(p, q)] } }).f (R.TDC_FSTAT_CAUSE 15)
    (nx (.gateEnd 15) (g { x with start := 1 })).f (R.TDC_FSTAT_SEQ 15) = 0 ∧ cause { x with n := 2 } = 1 ∧ stepped 0 1 = 2 ∧ stepped 0 0 = 2 ∧
    stepped (tdc1.gateLen 15) (tdc1.gateLen 15 + 1) = 0 ∧
    cause { x with snt := 0 } = 3 ∧ cause { x with fast := true } = 4 ∧ cause x = 0 ∧ (nx (.gateEnd 15) (g x)).f (R.TDC_FREQ 15) = 1000000 * 2 ^ 24 := by
  decide +kernel

theorem test_servo_hyps :
    let sw : State := { up with clk := { up.clk with mode := 2 } }
    let nom := iNom up.clk.nint up.clk.nfrac
    let p := tk <| sets sw [(R.NT_STATUS_STEP_PEND, 1), (R.NT_STEP, 2 ^ 16)]
    up.Reaches 0 0x30008 ∧ up.Reaches 0 0x30010 ∧ (nx (.ntIncrWrite 0 5) up).flag R.NT_STATUS_MODE_DROP = true ∧
    (nx (.ntIncrWrite 0 0) sw).clk.incrPend = some ((nom * 9995 + 9999) / 10000) ∧
    (nx (.ntIncrWrite 0 (BitVec.ofNat 64 (nom * 10005 / 10000))) sw).flag R.NT_STATUS_INCR_CLAMP = false ∧
    (nx (.ntStepWrite 0 9) sw).flag R.NT_STATUS_STEP_PEND = true ∧ (nx (.ntStepWrite 0 9) p).flag R.NT_STATUS_STEP_BUSY = true ∧
    (nx .ntStepApply p).clk.ptime = 2 ^ 48 ∧ (nx .ntStepApply p).flag R.TB_STATE_JUMP = true ∧ p.atTick = true ∧ sw.atTick = false ∧
    (nx .servoWatchdog ((sets sw [(R.NT_WDOG_MS, 1), (R.NT_CTRL_SERVO_OK, 1)]))).flag R.NT_CTRL_SERVO_OK = true ∧
    (nx .servoWatchdog { sets sw [(R.NT_WDOG_MS, 1)] with clk := { sw.clk with elapsed := ns 1000000 } }).flag R.NT_STATUS_WDOG = true := by decide +kernel

/-! ## Capture memory -/

/-- Capture memory served, its zero fill over. -/
def mem : State := sets host [(R.MC_STATUS_INIT, 0)]

/-- One entry of controller `m`'s write queue. -/
def inWq (s : State) (m : Nat) (es : List WqEntry) : State := { s with mem := { s.mem with mc := [(m, { wq := es })] } }

theorem test_mem_port_hyps :
    let seg : StageSeg := { addr := 64, bytes := List.replicate 64 5 }
    let s : State := { mem with mem := { mem.mem with stage := [seg] } }
    let both : State := s.setDac 0 { s.dacN 0 with filling := true, pbLen := 1024 }
    let left (n : Nat) : State := { both with mem := { both.mem with turn := 0, left := n } }
    let hot (p : Nat) : State := { both.setB R.MC_STATUS_P0_PANIC true with mem := { both.mem with panicLast := p } }
    let i := mem.setB R.MC_STATUS_INIT true
    both.asks 0 = [64] ∧ both.asks 4 ≠ [] ∧ both.panic = false ∧ both.burstAsked 0 0 = 64 ∧ (left 64).goesFirst 0 64 4 = false ∧
    (left 63).goesFirst 0 64 4 = true ∧ (hot 0).panic = true ∧ (hot 0).goesFirst 0 64 4 = true ∧ (hot 4).goesFirst 0 64 4 = false ∧
    nx (.portRequest 0 0 0 []) (left 63) = left 63 ∧
    (nx .memInitDone i).flag R.MC_STATUS_INIT = false ∧ mem.mcHeld = false ∧ i.mcHeld = true ∧ s.hasSecure 0 = false ∧
    s.isFenced (0x64 + ctlOf 1) = false ∧ s.domState 12 ≠ dGated ∧ s.domState 13 ≠ dGated ∧ seg.addr % 64 = 0 ∧ seg.bytes.length = 64 ∧ (s.mcN (ctlOf 1)).wq = [] ∧ (nx (.portRequest 5 0 9 []) mem).f (R.MC_P_PANIC_WAIT 5) = 9 := by
  decide +kernel

/-- A drain by the byte mask; a partial write of a poisoned sector keeps the TAG. -/
theorem test_drain_hyps :
    let e : WqEntry := { sector := 1, data := List.replicate 64 5, mask := true :: List.replicate 63 false }
    let s := fun (e : WqEntry) => inWq mem 1 [e]
    (nx (.writeQueueDrain 1) (s e)).byteAt 0 64 = 5 ∧ (nx (.writeQueueDrain 1) (s e)).byteAt 0 65 = 0 ∧
    (nx (.writeQueueDrain 1) (s { e with poison := true })).tagOf 1 = tagPoison ∧ (nx (.writeQueueDrain 1) mem).byteAt 0 64 = 0 := by decide +kernel

theorem test_read_sector_hyps :
    let e : WqEntry := { sector := 1, data := List.replicate 64 5, mask := List.replicate 64 true }
    let s := inWq mem (ctlOf 1) [e]
    (s.readSector 3 1 none false).2.1 = e.data ∧ (mem.readSector 3 1 none false).2 = (List.replicate 64 0, false) ∧
    (mem.readSector 3 1 (some { at_ := 0, symbol := 127, data := [] }) false).2.2 = true := by decide +kernel

theorem test_refresh_hyps :
    let panic := mem.setB R.MC_STATUS_P4_PANIC true
    let p4 := panic.setF R.MC_STATUS_OWED 4
    let f := mem.setB R.MC_STATUS_FORCING true
    let late : State := { f with clk := { f.clk with elapsed := 6000 * 2 ^ 48 } }
    mem.mcOff = false ∧ mem.panic = false ∧ panic.panic = true ∧ (nx .refreshDue mem).f (R.MCM_REFRESHES 0) = 1 ∧ (nx .refreshDue panic).f R.MC_STATUS_OWED = 1 ∧
    (nx .refreshDue p4).flag R.MC_STATUS_FORCING = true ∧ (nx .owedRefreshIssue (mem.setF R.MC_STATUS_OWED 1)).f R.MC_STATUS_OWED = 0 ∧
    f.stageLevel = 0 ∧ (nx .forcedRefreshStart f).f (R.MCM_FORCED 1) = 1 ∧ (nx .forcedRefreshTimeout f).flag R.MC_STATUS_FORCING = true ∧
    (nx .forcedRefreshTimeout late).f (R.MCM_LATE_FORCED 1) = 1 := by decide +kernel

/-- HOT above 85 °C, held above 83 °C, and off at 83 °C. -/
theorem test_hot_hyps :
    let t := fun (s : State) (x : BitVec 16) => (nx (.stackTemperature 1 x) s).flag R.MC_STATUS_HOT
    t mem 0x5501 = true ∧ t mem 0x5500 = false ∧ t (mem.setB R.MC_STATUS_HOT true) 0x5301 = true ∧ t (mem.setB R.MC_STATUS_HOT true) 0x5300 = false := by
  decide +kernel

theorem test_scrub_hyps :
    let s := mem.setB R.MC_CTRL_SCRUB_EN true
    s.isRunning 0x65 = true ∧ ((mem.setB R.MC_CTRL_SCRUB_EN false).flag R.MC_CTRL_SCRUB_EN = false) ∧
    s.mcHeld = false ∧ scrubSector 1 (s.f (R.MCM_SCRUB_ADDR_SECTOR 1)) = some 128 ∧
    scrubSector 1 (2 ^ 29) = none ∧ scrubSector 1 (2 ^ 29 - 1) ≠ some (2 ^ 29) ∧ (s.mcN 1).wq = [] := by decide +kernel

/-- MEM_CLEAR of one sector group, with a misaligned range, and in a range that an armed slot uses. -/
theorem test_mem_clear_hyps :
    let f := cmd [256, 256]
    let used := (sets mem [(R.ACQ_BASE_ADDR 63, 0), (R.ACQ_SIZE_LEN 63, 4096), (R.ACQ_STATUS_STATE 63, 1)])
    mem.Starts 0 f true false [0x7FFFFFFFF, 0xFFFFFFFFF] ∧ mem.rangeInUse 256 256 = false ∧ used.rangeInUse 256 256 = true ∧
    mem.isFenced 0x65 = false ∧ (nx (.memClear 0 (cmd [1, 256])) mem).out.length = 2 ∧ (nx (.memClear 0 f) used).out.length = 2 := by decide +kernel

/-! ## Rings and the endpoint -/

/-- The command of an opcode. -/
def opc (op : BitVec 16) (ps : List (BitVec 64)) (reads : List HostRead := []) : Fetch :=
  { entry := { opcode := op, flags := 0, tag := 7, rsv := 0, params := ps }, reads := reads, env := [] }

theorem test_nop_hyps :
    host.Starts 0 (opc 1 []) false false [] ∧ host.Starts 0 (opc 1 [5]) false false (List.replicate 7 (2 ^ 64 - 1)) ∧
    (opc 1 [5]).entry.clean [] = false ∧ (0xFFFF ∉ opcodes) ∧ (nx (.nopCommand 0 (opc 1 [])) host).out =
      [.hostWrite 0x1004 (leBytes 2 1 ++ leBytes 2 1 ++ leBytes 8 0), .hostWrite 0x1000 (leBytes 2 7 ++ leBytes 1 0 ++ leBytes 1 0)] ∧
    ((nx (.nopCommand 0 (opc 1 [5])) host).out.drop 1).take 1 = [.hostWrite 0x1000 (leBytes 2 7 ++ leBytes 1 0x11 ++ leBytes 1 0)] ∧
    ((nx (.nopCommand 0 (opc 0xFFFF [])) host).out.drop 1).take 1 = [.hostWrite 0x1000 (leBytes 2 7 ++ leBytes 1 0x10 ++ leBytes 1 0)] := by
  decide +kernel

/-- Ring 1 beside ring 0, with MEM_CLEAR of tag 9 in progress, with an announced entry of tag 9, and secure. -/
theorem test_cancel_hyps :
    let two := sets host [(R.HI_RING_STATUS_STATE 1, 1), (R.HI_RING_SIZE_CMD_LOG2 1, 2), (R.HI_RING_SIZE_CPL_LOG2 1, 2), (R.HI_RING_CBASE 1, 0x2000)]
    let f := cmd [0x90001] [some (leBytes 4 0 ++ leBytes 2 9)]
    let run : State := { two with host := { two.host with longs := [{ long 0x50 [0, 0x200000] with ring := 1, pos := 256 }] } }
    let ann := two.setF (R.HI_RING_PTR_TAIL 1) 1
    let sec := (sets (ringed up2) [(R.HI_RING_STATUS_STATE 1, 1)]).setB (R.HI_RING_CTRL_WORLD 1) true
    two.Starts 0 f false false [0xFFFF000F] ∧ (nx (.cancel 0 f) two).out.length = 2 ∧ two.cplFull 1 = false ∧
    (nx (.cancel 0 f) run).host.longs = [] ∧ (nx (.cancel 0 f) ann).f (R.HI_RING_PTR_HEAD 1) = 1 ∧
    (sec.ringSecure 1 = true ∧ sec.ringSecure 0 = false ∧ sec.Starts 0 f false false [0xFFFF000F]) := by decide +kernel

theorem test_coachman_hyps :
    let w : State := { host with host := { host.host with longs := [long 0x61] } }
    let m : State := { mem with host := { mem.host with longs := [long 0x50 [0, 512]] } }
    (nx .coachmanRound w).host.longs.length = 1 ∧ m.isRunning 0 = true ∧ m.mcHeld = false ∧ m.hasSecure 0 = false ∧ m.host.longs = [long 0x50 [0, 512]] := by
  decide +kernel

/-- Doorbells below and at the ring's size, on a disabled ring, and with a waiting completion. -/
theorem test_doorbell_hyps :
    let full : State := { sets host [(R.HI_RING_CPTR_CTAIL 0, 3), (R.HI_RING_CPTR_CHEAD 0, 0)] with host := { host.host with waiting := [⟨0, 9, false, 0, 1, 0⟩] } }
    let sec := shost
    host.isRunning 0x66 = true ∧ host.f R.ID_BOOT_STAGE = 7 ∧ host.cmdSize 0 = 4 ∧ (nx (.cmdTail 0 0 3) host).f (R.HI_RING_PTR_TAIL 0) = 3 ∧
    (nx (.cmdTail 0 0 4) host).flag (R.HI_RING_STATUS_BAD_DB 0) = true ∧ (nx (.cplHead 0 0 4) host).flag (R.HI_RING_STATUS_BAD_DB 0) = true ∧
    (nx (.cplHead 0 0 3) host).f (R.HI_RING_CPTR_CHEAD 0) = 3 ∧ (nx (.cmdTail 0 1 1) host).f (R.HI_RING_PTR_TAIL 1) = 0 ∧
    (nx (.cplHead 0 0 2) full).host.waiting = [] ∧ (nx (.cmdTail 0 0 3) sec).f (R.HI_RING_PTR_TAIL 0) = 1 := by decide +kernel

theorem test_ring_switch_hyps :
    let off := sets up [(R.HI_RING_SIZE_CMD_LOG2 15, 12), (R.HI_RING_SIZE_CPL_LOG2 15, 4), (R.HI_RING_BASE 15, 64), (R.HI_RING_CBASE 15, 16)]
    let on := sets off [(R.HI_RING_STATUS_STATE 15, 1), (R.HI_RING_CTRL_EN 15, 1)]
    let busy := fun (op : BitVec 16) => ({ on with host := { on.host with longs := [{ long op with ring := 15 }] } } : State)
    off.Opens 0 0x6013C0 ∧ (nx (.ringEnable 0 15 1) off).f (R.HI_RING_STATUS_STATE 15) = 1 ∧ (nx (.ringEnable 0 15 1) off).f (R.HI_RING_CPTR_PHASE 15) = 1 ∧
    (nx (.ringEnable 0 15 1) (off.setF (R.HI_RING_BASE 15) 32)).f (R.HI_RING_STATUS_CAUSE 15) = 0x11 ∧ on.Reaches 0 0x6013C0 ∧ on.cfgHolds 0x6013C0 = false ∧
    on.ringBusy 15 = false ∧ (nx (.ringDisable 0 15 0) on).f (R.HI_RING_STATUS_STATE 15) = 0 ∧ (nx (.ringDisable 0 15 0) (busy 0x50)).host.longs = [] ∧
    (nx (.ringDisable 0 15 0) (busy 0x43)).f (R.HI_RING_STATUS_STATE 15) = 3 := by decide +kernel

theorem test_host_read_hyps :
    (nx (.hostReadCompletion 0 0 none) host).f (R.HI_RING_STATUS_CAUSE 0) = 0x42 ∧ (nx (.hostReadCompletion 0 0 (some [])) host).f (R.HI_RING_STATUS_STATE 0) = 1 ∧
    host.f (R.HI_RING_PTR_HEAD 0) ≠ host.f (R.HI_RING_PTR_TAIL 0) ∧ host.ceReady 63 = false := by decide +kernel

theorem test_endpoint_reset_hyps :
    let ce := host.setB (R.CE_CTRL_EN 63) true
    let p3 := sets up [(R.PWR_STATUS_STATE, 3), (R.PWR_WAKE_EN_SRC.bit 4, 1)]
    let fenced := up.setBlk 0x66 .fenced
    let slow := sets up [(R.HI_LINK_CFG_MAX_GEN, 5), (R.HI_LINK_CFG_MAX_WIDTH, 8)]
    host.host.longs = [] ∧ host.host.defs = [] ∧ (nx .hotReset ce).blk 0x66 = .fenced ∧ (nx (.perstN true) host).f (R.HI_RING_STATUS_STATE 0) = 0 ∧
    (nx (.perstN false) up).blk 0x66 = .running ∧ (nx (.perstN false) p3).f R.PWR_LASTWAKE_CODE = 4 ∧
    (nx .hotReset fenced).epoch 0x66 = 0 ∧ fenced.repliesOut 0x66 = false ∧ (nx (.pcieLinkTraining true 6 16 false true) fenced).blk 0x66 = .running ∧
    (nx (.pcieLinkTraining true 6 16 false true) up).f R.HI_LINK_WIDTH = 16 ∧
    (nx (.pcieLinkTraining true 6 16 false true) up).flag R.HI_LINK_FLIT = true ∧
    ((nx (.pcieLinkTraining true 6 16 false true) slow).f R.HI_LINK_GEN, (nx (.pcieLinkTraining true 6 16 false true) slow).f R.HI_LINK_WIDTH,
      (nx (.pcieLinkTraining true 6 16 false true) slow).flag R.HI_LINK_FLIT) = (5, 8, false) ∧
    (nx (.flr 0) host).f (R.HI_RING_STATUS_STATE 0) = 0 ∧ (nx (.flr 1) shost).flag (R.HI_RING_CTRL_EN 0) = false ∧
    (nx (.flr 0) shost).flag (R.HI_RING_CTRL_EN 0) = true ∧ (nx (.flr 1) host).flag (R.HI_RING_CTRL_EN 0) = true := by decide +kernel

/-! ## Coaches -/

/-- Coach 63 runs as a kind, with a ring of 16 descriptors and two announced. -/
def coach (kind : Nat) (x : CoSt := {}) : State :=
  (sets mem [(R.CE_CTRL_EN 63, 1), (R.CE_CFG_KIND 63, kind), (R.CE_CFG_LOG2 63, 4), (R.CE_STATUS_STATE 63, 1), (R.CE_PTR_TAIL 63, 2)]).setCo 63 x

/-- A descriptor of `len` bytes with these control bits. -/
def desc (len ctl dev : Nat) : List (BitVec 8) := leBytes 8 0x2000 ++ leBytes 4 len ++ leBytes 4 ctl ++ leBytes 8 dev ++ leBytes 8 0

theorem test_coach_doorbell_hyps :
    let w := (coach 1).setF (R.CE_STATUS_STATE 63) 2
    (nx (.coachDoorbell 0 63 15) w).f (R.CE_PTR_TAIL 63) = 15 ∧ (nx (.coachDoorbell 0 63 15) w).ceState 63 = 1 ∧
    (nx (.coachDoorbell 0 63 16) w).flag (R.CE_STATUS_BAD_DB 63) = true ∧ w.ceSize 63 = 16 := by decide +kernel

theorem test_coach_control_hyps :
    let off := sets (coach 5) [(R.CE_CTRL_EN 63, 0), (R.CE_STATUS_STATE 63, 0)]
    let d : CoDesc := { idx := 1, host := 0x2000, len := 64, ctl := 1, dev := 0 }
    let busy := coach 1 { cur := some d }
    let st := (coach 1).setF (R.CE_STATUS_STATE 63) 4
    off.Opens 0 0x581FC0 ∧ off.ceCrosses 63 = false ∧ (nx (.coachEnable 0 63 1) off).ceState 63 = 1 ∧
    (nx (.coachEnable 0 63 1) (off.setF (R.CE_CFG_LOG2 63) 3)).f (R.CE_STATUS_CAUSE 63) = 0x11 ∧
    (coach 1).Reaches 0 0x581FC0 ∧ (coach 1).cfgHolds 0x581FC0 = false ∧ (nx (.coachDisable 0 63 0) (coach 1)).ceState 63 = 3 ∧
    ((nx (.coachDisable 0 63 0) busy).coN 63).cur = none ∧ (nx (.coachStop 0 63 3) busy).ceState 63 = 3 ∧ (nx (.coachStop 0 63 3) (coach 1)).ceState 63 = 4 ∧
    (nx (.coachStart 0 63 5) st).ceState 63 = 1 ∧ (nx (.coachReset 0 63 9) busy).epoch 0xBF = 1 ∧ (nx (.coachReset 0 63 9) busy).f (R.CE_PTR_HEAD 63) = 1 ∧
    (nx (.coachDisable 0 63 8) busy).epoch 0xBF = 1 ∧ (nx (.coachDisable 0 63 8) busy).f (R.CE_PTR_HEAD 63) = 1 ∧
    ((nx (.coachDisable 0 63 8) busy).coN 63).disabling = true ∧ (nx (.coachDisable 0 63 8) (busy.setF (R.CE_PTR_TAIL 63) 1)).ceState 63 = 0 ∧
    (nx (.coachStop 0 63 3) (nx (.coachReset 0 63 9) busy)).ceState 63 = (nx (.coachReset 0 63 9) busy).ceState 63 := by
  decide +kernel

/-- A reset in the middle of a packet on SQ_OUT loses its bytes. -/
theorem test_coach_reset_sq_hyps :
    let d : CoDesc := { idx := 1, host := 0x2000, len := 128, ctl := 5, dev := 0, done := 64 }
    let p : SqPkt := { kind := 0, body := List.replicate 112 0 }
    let s : State := { coach 2 { cur := some d } with sq := [(0, { pkts := [p], taken := 64 })] }
    p.lines = 2 ∧ (nx (.coachReset 0 63 9) s).f (R.CE_LOST 63) = 64 ∧ ((nx (.coachReset 0 63 9) s).sqN 0).pkts = [] := by decide +kernel

theorem test_descriptor_hyps :
    let s := coach 1
    let run := fun (bs : List (BitVec 8)) => nx (.descriptorProcess 63 (some bs)) s
    s.ceFetches 63 = true ∧ (nx (.descriptorProcess 63 none) s).f (R.CE_STATUS_CAUSE 63) = 0x42 ∧ (run (desc 64 0 0)).ceState 63 = 2 ∧
    s.descFaulty 63 0 1 0 0 0 = true ∧ (run (desc 0 1 0)).f (R.CE_STATUS_CAUSE 63) = 0x11 ∧ s.descFaulty 63 0 0xF0003 0 0 0 = false ∧
    (run (desc 0 0xF0003 0)).f (R.CE_PTR_HEAD 63) = 15 ∧ (nx (.descriptorProcess 63 (some (desc 0 0xF0003 0))) (coach 1 { links := 8 })).f (R.CE_STATUS_CAUSE 63) = 0x41 ∧
    s.descFaulty 63 16777216 1 (2 ^ 35 - 2 ^ 24) 0 0 = false ∧ s.descFaulty 63 16777217 1 0 0 0 = true ∧
    ((run (desc 64 1 0)).coN 63).cur = some { idx := 0, host := 0x2000, len := 64, ctl := 1, dev := 0 } := by decide +kernel

/-- Grants: the level of number 5 is level 1, else the highest level with a ready coach (R457). -/
theorem test_grant_hyps :
    let d : CoDesc := { idx := 0, host := 0x2000, len := 64, ctl := 1, dev := 0 }
    let one := coach 1 { cur := some d }
    let both := (sets one [(R.CE_CTRL_EN 2, 1), (R.CE_CFG_KIND 2, 1), (R.CE_STATUS_STATE 2, 1), (R.CE_CTRL_PRIO 2, 1)]).setCo 2 { cur := some d }
    one.ceGrant = some (0, 63) ∧ both.ceGrant = some (0, 63) ∧ ({ both with arb := { grant := 5 } } : State).ceGrant = some (1, 2) ∧
    mem.ceGrant = none ∧ one.mcOff = false ∧ one.domState 14 ≠ dGated ∧
    (nx (.coachBurstGrant none [] false) (coach 0 { cur := some d })).f (R.CE_STATUS_CAUSE 63) = 0x42 := by decide +kernel

theorem test_burst_sq_hyps :
    let d : CoDesc := { idx := 0, host := 0x2000, len := 128, ctl := 5, dev := 0 }
    let p : SqPkt := { kind := 0, body := List.replicate 48 0 }
    let s : State := { (sets (coach 2 { cur := some d }) [(R.SQ_CFG_DRAIN 0, 1), (R.SQ_CFG_COACH 0, 63)]).setB (R.CE_CTRL_RB_AUTO 63) false with sq := [(0, { pkts := [p] })] }
    s.ceGrant = some (0, 63) ∧ 64 * p.lines = 64 ∧ bitOf d.ctl 2 = true ∧ ((nx (.coachBurstGrant none [] false) s).sqN 0).pkts = [] ∧
    ((nx (.coachBurstGrant none [] false) s).coN 63).cur = none := by decide +kernel

theorem test_coach_end_hyps :
    let d : CoDesc := { idx := 0, host := 0x2000, len := 64, ctl := 0x11, dev := 0, done := 64 }
    let rb := coach 1 { cur := some d, readBack := true }
    let idle : State := { (coach 2 { cur := some d }).setF (R.CE_CFG_CLOSE_US 63) 1 with clk := { up.clk with elapsed := ns 1000 } }
    let sq := coach 3 { cur := some { d with ctl := 1 }, sqReady := true, sqin := leBytes 16 0 ++ [1, 2] }
    ((nx (.readBackReturn 63 true) rb).coN 63).cur = none ∧ (nx (.readBackReturn 63 false) rb).ceState 63 = 5 ∧
    ((nx (.descriptorCloseTimeout 63) { idle with clk := { up.clk with elapsed := ns 999 } }).coN 63).cur ≠ none ∧
    bitOf 1 4 = false ∧ ((nx (.sqInPacketEnter 63) ((sets sq [(R.SQ_STATUS_RUNNING 0, 1), (R.SQ_CFG_SRC 0, 2)]))).sqN 0).pkts.length = 1 ∧
    (nx (.sqInPacketEnter 63) (sets sq [(R.SQ_STATUS_RUNNING 0, 1), (R.SQ_CFG_SRC 0, 1)])).f (R.SQ_DROPS 0) = 1 ∧
    ((nx (.sqInPacketEnter 63) (sq.setF (R.SQ_CFG_SRC 0) 2)).coN 63).sqReady = true ∧
    ((nx (.sqInPacketEnter 63) ((sq.setF (R.SQ_CFG_SRC 0) 2).sqLasts 0)).sqN 0).pkts.length = 1 := by decide +kernel

/-- A queue that no drain serves makes no descriptor faulty, one that another drain serves does (R470). -/
theorem test_descFaulty_queue :
    let c := coach 2
    c.descFaulty 63 128 1 0 0 0 = false ∧ (c.setF (R.SQ_CFG_DRAIN 0) 2).descFaulty 63 128 1 0 0 0 = true ∧
    (sets c [(R.SQ_CFG_DRAIN 0, 1), (R.SQ_CFG_COACH 0, 62)]).descFaulty 63 128 1 0 0 0 = true ∧
    (sets c [(R.SQ_CFG_DRAIN 0, 1), (R.SQ_CFG_COACH 0, 63)]).descFaulty 63 128 1 0 0 0 = false := by decide +kernel

/-! ## Stream queues and Ethernet -/

/-- Stream queue 31 runs for a producer and a drain. -/
def sqOn (src drain : Nat) (x : SqSt := {}) : State :=
  (sets up [(R.SQ_STATUS_RUNNING 31, 1), (R.SQ_CTRL_EN 31, 1), (R.SQ_CFG_SRC 31, src), (R.SQ_CFG_DRAIN 31, drain), (R.PWR_PADHOLD_GROUPS, 0)]).setSq 31 x

/-- The largest body, 262,128 bytes, fills the queue of 4,096 lines to the last; one byte more does not enter (R468). -/
theorem test_sq_room :
    ({ kind := 1, body := List.replicate 112 0 } : SqPkt).lines = 2 ∧ (sqOn 1 0).sqRoom 31 1 { kind := 1, body := [0] } = true ∧
    (sqOn 1 0).sqRoom 31 0 { kind := 0, body := [0] } = false ∧ (262128 + 79) / 64 = 4096 := by decide +kernel

theorem test_sq_write_hyps :
    let t := nx (.sqPacketWrite 31 1 false 5 [1, 2]) (sqOn 1 0)
    let other := nx (.sqPacketWrite 31 0 false 5 [1, 2]) (sqOn 1 0)
    (sqOn 1 0).slotOfQueue 31 = none ∧ (t.sqN 31).pkts.length = 1 ∧ t.sqLevel 31 = 1 ∧ other.f (R.SQ_DROPS 31) = 1 ∧ (other.sqN 31).loss = true ∧
    ((nx (.sqPacketWrite 30 1 false 5 [1, 2]) (sqOn 1 0)).sqN 30).pkts = [] ∧ (sqOn 1 0).isFenced 0xDF = false := by decide +kernel

theorem test_sq_control_hyps :
    let off := sets up [(R.SQ_CFG_SRC 31, 1)]
    let bad := up.setF (R.SQ_CFG_SRC 31) 5
    let fl := (sqOn 1 2 { pkts := [{ kind := 1, body := [1] }] }).setB (R.SQ_STATUS_FLUSHING 31) true
    off.Opens 0 0x5847C4 ∧ off.sqChecks 31 = 0 ∧ (nx (.sqEnable 0 31 1) off).flag (R.SQ_STATUS_RUNNING 31) = true ∧
    (nx (.sqEnable 0 31 1) bad).f (R.SQ_STATUS_RESULT 31) = 0x11 ∧ (nx (.sqFlush 0 31 3) (sqOn 1 0)).flag (R.SQ_STATUS_FLUSHING 31) = true ∧
    (nx (.flushAct 31) fl).f (R.SQ_FLUSHED 31) = 1 ∧ (nx (.flushAct 31) (fl.setSq 31 { pkts := [{ kind := 1, body := [1] }], taken := 64 })).f (R.SQ_FLUSHED 31) = 0 ∧ fl.sqMid 31 = false ∧
    (((fl.setF (R.SQ_CFG_SRC 31) 2).setCo 5 { sqin := [1], cur := some { idx := 0, host := 0, len := 64, ctl := 0, dev := 31 } }).sqMid 31) = true := by
  decide +kernel

/-- A host frame of `n` zero bytes behind its 32-byte time control block, if it has one. -/
def hostFrame (n : Nat) (tcb : List (BitVec 8) := []) : SqPkt := { kind := 2, tcb := !tcb.isEmpty, body := tcb ++ List.replicate n 0 }

/-- Port 15 up with queue 31 on it. -/
def port (x : SqSt := {}) : State := sets (sqOn 2 2 x) [(R.SQ_PORTS_PORTS 31, 2 ^ 15), (R.ETH_PORT_STATUS_UP 15, 1), (R.ETH_PORT_CFG_EN 15, 1)]

theorem test_rx_hyps :
    let all := sets port [(R.ETH_CTRL_RX_ALL, 1), (R.ETH_CTRL_RX_SQ, 31), (R.SQ_CFG_SRC 31, 0)]
    let fr := List.replicate 60 (0 : BitVec 8)
    let pause : List (BitVec 8) := List.replicate 12 0 ++ [0x88, 0x08, 0, 1, 0, 1]
    let ptp : List (BitVec 8) := List.replicate 12 0 ++ [0x88, 0xF7, 0x08]
    pauseOf fr = none ∧ pauseOf pause = some 1 ∧ ptpOf fr = none ∧ ptpOf ptp = some (0, 14, 14, false) ∧ ptpOf (ptp.take 14 ++ [0x07]) = some (0, 14, 14, true) ∧
    (nx (.ethRxFrame 15 (withFcs fr false) false 0) port).f (R.ETH_PORT_RX_FCS_ERR 15) = 1 ∧ (nx (.ethRxFrame 15 (withFcs fr true) true 0) port).f (R.ETH_PORT_RX_DISCARD 15) = 1 ∧
    (nx (.ethRxFrame 15 [1, 2, 3] true 0) port).f (R.ETH_PORT_FEC_UNCORR 15) = 1 ∧ (nx (.ethRxFrame 15 [1, 2, 3] true 0) port).f (R.ETH_PORT_RX_FCS_ERR 15) = 1 ∧
    ((nx (.ethRxFrame 15 (withFcs fr true) false 0) all).sqN 31).pkts.length = 1 ∧ (nx (.ethRxFrame 14 (withFcs fr true) false 0) port).f (R.ETH_PORT_RX_FRAMES 14) = 0 ∧
    (nx (.ethRxFrame 15 (withFcs pause true) false 0) (port.setB (R.ETH_PORT_CFG_PAUSE 15) true)).flag (R.ETH_PORT_STATUS_PAUSED 15) = true := by decide +kernel

theorem test_rx_ptp_hyps :
    let ptp : List (BitVec 8) := List.replicate 12 0 ++ [0x88, 0xF7, 0x08]
    let s := sets port [(R.NT_CTRL_RX_EN, 1), (R.NT_PORT_CTRL_TS_EN 15, 1), (R.NT_PORT_CTRL_L2 15, 1), (R.NT_CTRL_RX_SQ, 31), (R.SQ_CFG_SRC 31, 0)]
    s.ptpOn 15 0 = true ∧ ((nx (.ethRxFrame 15 (withFcs ptp true) false 0) s).sqN 31).pkts.map (fun p => leAt p.body 2 2) = [15 + 2 ^ 12] := by decide +kernel

theorem test_eth_link_hyps :
    let an := port.setB (R.ETH_PORT_CFG_AN 15) true
    port.ethHeld 15 = 0 ∧ (nx (.ethLinkChange 15 true false) port).flag (R.ETH_PORT_STATUS_UP 15) = true ∧
    (nx (.ethLinkChange 15 true false) an).f (R.ETH_PORT_STATUS_FAIL 15) = 3 ∧ (nx (.ethLinkChange 15 false true) an).f (R.ETH_PORT_STATUS_FAIL 15) = 4 ∧
    (nx (.ethLinkChange 15 true true) (port.setB (R.ETH_PORT_CFG_EN 15) false)).flag (R.ETH_PORT_STATUS_UP 15) = false := by decide +kernel

theorem test_txts_hyps :
    let s : State := { up with txts := [⟨5, 15, 3, 0⟩] }
    up.Reaches 0 0x30040 ∧ (nx (.txtsRead 0) s).out = [.readReply 0 0x30040 4 (2 ^ 31 + 2 ^ 20 * 3 + 2 ^ 16 * 15 + 5)] ∧
    (nx (.txtsRead 0) up).out = [.readReply 0 0x30040 4 0] := by decide +kernel

/-- The port with the fewest bytes waiting, the lowest of equal ones; queues in turn; a frame that leaves, and one too long. -/
theorem test_egress_hyps :
    let s := port { pkts := [hostFrame 60] }
    let big := port { pkts := [hostFrame 9300] }
    s.targetPort 31 = some 15 ∧ (s.setF (R.SQ_PORTS_PORTS 31) 0x8001).targetPort 31 = some 0 ∧ s.nextQueue 15 = some 31 ∧ s.ethFree 15 = true ∧
    port.nextQueue 15 = none ∧ (nx (.ethEgress 15 none 0) s).f (R.ETH_PORT_TX_BYTES 15) = 64 ∧ (nx (.ethEgress 15 none 0) big).f (R.ETH_PORT_TX_DISCARD 15) = 1 := by
  decide +kernel

theorem test_timed_hyps :
    let tcb := leBytes 16 0 ++ leBytes 2 5 ++ leBytes 14 3
    let s := port { pkts := [hostFrame 60 tcb], timed := 1 }
    s.targetPort 31 = some 15 ∧ (s.timedHead 31).isSome = true ∧ (port.timedHead 31).isSome = false ∧ (nx (.timedLaunch 31 262144 0) s).out.length = 1 ∧ (nx (.timedLaunch 31 262144 0) s).txts.map (fun e => e.tag) = [5] ∧
    s.launchStart 15 s.now 65536 = s.now + ns 1 ∧ ({ s with clk := { s.clk with ptime := 10, elapsed := 10 }, eth := [(15, { busyUntil := 8 })] } : State).launchStart 15 5 65536 = 8 := by decide +kernel

theorem test_context_packet_hyps :
    let s := port { ctxDue := true, ctxInd := 0 }
    s.contextDue 31 = true ∧ s.launchBars 15 500 = false ∧ (nx (.contextPacket 31) s).out.length = 2 ∧
    (sets s [(R.SQ_STATUS_RUNNING 31, 0)]).contextDue 31 = false := by decide +kernel

/-! ## Raster output -/

/-- A picture of 640 by 480 at D_PIX = 400 on four lanes of 1.62 Gb/s, in the held timing and in that in use. -/
def timing (m : Fld → Fld) : List (Fld × Nat) :=
  [(m R.RS_PIXDIV_D_PIX, 400), (m R.RS_HTIM_HACT, 640), (m R.RS_HTIM_HTOTAL, 800), (m R.RS_HSYNC_HSTART, 16), (m R.RS_HSYNC_HWIDTH, 96), (m R.RS_VTIM_VACT, 480),
   (m R.RS_VTIM_VTOTAL, 525), (m R.RS_VBL_VSYNC, 2), (m R.RS_VBL_VBP, 33), (m R.RS_VBL_VFP_MIN, 10), (m R.RS_LINK_LANES, 4), (m R.RS_LINK_RATE, 0),
   (m R.RS_VRATE_VMIN_HZ, 48), (m R.RS_VRATE_VMAX_HZ, 144)]

/-- The raster output off with that timing, and in a phase of its scan. -/
def ras : State := sets (words up [(R.TB_AGE.off, 0)]) (timing id)
def scan (p : RsPhase) : State :=
  { sets ras (timing rsUse ++ [(R.RS_CTRL_EN, 1), (R.RS_STATUS_RUNNING, 1)]) with rs := { up.rs with phase := p }, clk := { up.clk with cycles := 10 ^ 9 } }

/-- Table 14-4: the picture passes; D_PIX = 59, a line too short, 1,000 lines over VTOTAL and too little rate do not; the
adaptive limits at 48 to 144 Hz pass, with VMIN_HZ = 23 they do not. -/
theorem test_raster_checks :
    ras.rsChecks = 0 ∧ (ras.setF R.RS_PIXDIV_D_PIX 59).rsChecks = 0x11 ∧ (ras.setF R.RS_HTIM_HTOTAL 752).rsChecks = 0x11 ∧
    (ras.setF R.RS_HTIM_HTOTAL 753).rsChecks = 0 ∧ (ras.setF R.RS_VTIM_VTOTAL 524).rsChecks = 0x11 ∧ (ras.setF R.RS_LINK_LANES 1).rsChecks = 0x20 ∧
    (ras.setB R.RS_CTRL_ADAPTIVE true).rsChecks = 0 ∧ ((ras.setB R.RS_CTRL_ADAPTIVE true).setF R.RS_VRATE_VMIN_HZ 23).rsChecks = 0x11 ∧
    0 < ras.rootHz := by decide +kernel

theorem test_hpd_train_hyps :
    let t := { up with rs := { up.rs with training := true, resume := .porch } }
    (nx (.hpdChange true false) up).flag R.RS_STATUS_HPD = true ∧ (nx (.hpdChange false true) up).flag R.RS_STATUS_HPD_IRQ = true ∧
    (nx (.rsTrain true) up).rs = up.rs ∧ (nx (.rsTrain true) t).f R.RS_STATUS_RESULT = 0x40 ∧
    (nx (.rsTrain true) (t.setB R.RS_STATUS_HPD true)).rs.phase = .porch ∧ (nx (.rsTrain false) { t with rs := { t.rs with resume := .off } }).flag R.RS_STATUS_LINK_FAIL = true := by
  decide +kernel

theorem test_raster_control_hyps :
    let on := scan .porch
    let p := on.setB R.RS_STATUS_PENDING true
    let due : State := sets { on with rs := { on.rs with first := true, adaptive := true }, clk := up.clk } [(R.RS_FP_LIM_FP_MAX, 0)]
    let bad := sets on [(R.RS_REG_CFG_KIND 15, 1), (R.RS_REG_SIZE_W 15, 641), (R.RS_REG_SIZE_H 15, 1)]
    ras.Opens 0 0x700000 ∧ on.Opens 0 0x700000 ∧ (nx (.rsEnable 0 1) ras).rs.phase = .training ∧
    (nx (.rsEnable 0 1) (ras.setF R.RS_LINK_LANES 3)).flag R.RS_CTRL_EN = false ∧ on.rsCommitOk = true ∧ bad.rsCommitOk = false ∧
    (nx (.rsCommit 0 9) on).flag R.RS_STATUS_PENDING = true ∧ (nx (.rsCommit 0 9) bad).f R.RS_STATUS_RESULT = 0x11 ∧ (nx (.rsCommit 0 9) p).flag R.RS_STATUS_SHADOW_BUSY = true ∧
    (nx (.rsCancel 0 17) p).f R.RS_STATUS_RESULT = 0x70 ∧ (nx (.modeset 0 33) on).flag R.RS_STATUS_MODESET_PEND = true ∧ ((nx (.modeset 0 33) on).rs.checked).isSome = true ∧
    (nx (.rsCancel 0 17) (due.setB R.RS_STATUS_PENDING true)).flag R.RS_STATUS_PENDING = true ∧ on.flag R.RS_CTRL_EN = true := by
  decide +kernel

/-- The sample instant with and without a mode change, and the length of a front porch: fixed, first, after a copy, without
a commit and with one. -/
theorem test_scan_hyps :
    let a := scan .active
    let porch := fun (ad first copied : Bool) => ({ sets (scan .porch) [(R.RS_FP_LIM_FP_MAX, 100), (R.RS_FP_LIM_FP_MIN, 10)] with
      rs := { up.rs with phase := .porch, adaptive := ad, first := first, copied := copied } } : State)
    (sets State.reset (timing rsUse)).regsWf = true ∧ (nx .sampleInstant a).rs.phase = .porch ∧ (nx .sampleInstant a).f R.RS_FRAMES = 1 ∧
    (nx .sampleInstant (a.setB R.RS_STATUS_MODESET_PEND true)).rs.phase = .idle ∧ (nx .sampleInstant { a with clk := up.clk }).f R.RS_FRAMES = 0 ∧
    (nx .frontPorchEnd (porch false false false)).f R.RS_LAST_FP_LINES = 10 ∧ (nx .frontPorchEnd (porch true true false)).f R.RS_LAST_FP_LINES = 100 ∧
    (nx .frontPorchEnd (porch true false true)).f R.RS_LAST_FP_LINES = 10 ∧ (nx .frontPorchEnd (porch true false false)).f R.RS_LAST_FP_LINES = 100 := by decide +kernel

theorem test_mapper_hyps :
    let m : MapRec := { region := 15, cells := [] }
    let s := fun (x : Option MapRec) => ({ up.setF (rsAct (R.RS_REG_CFG_KIND 15)) 3 with rs := { up.rs with maps := [m], map := x } } : State)
    let sync := (s (some m)).setB (rsAct (R.RS_REG_CFG_SYNC 15)) true
    let done := fun (t : State) => ({ t with clk := { t.clk with cycles := 52429 } } : State)
    let at5 : State := { s (some m) with clk := { up.clk with cycles := 1 } }
    (at5.regionBars 15 = false ∧ at5.mapAdvance.rs.mapCells = 5 ∧ at5.mapAdvance.rs.mapLost = false ∧ at5.mapAdvance.mapAdvance = at5.mapAdvance) ∧
    (at5.setB R.RS_STATUS_PENDING true).regionBars 15 = false ∧
    ({ sync with clk := { up.clk with cycles := 1 } }.setB R.RS_STATUS_PENDING true).mapAdvance.rs.mapLost = true ∧
    (nx .densMapStart ((s none).setBlk 0x6B .gated)).rs.maps = [m] ∧
    up.isRunning 0x6B = true ∧ (nx .densMapStart (s none)).rs.map = some m ∧ (nx .densMapStart (s (some m))).f (R.RS_REG_LATE 15) = 1 ∧
    (nx .densMapStart ((s none).setBlk 0x6B .fenced)).f R.RS_WR_DROPS = 1 ∧ (nx .mapperDone (s (some m))).rs.map = some m ∧
    (nx .mapperDone (done (sync.setB R.RS_STATUS_PENDING true))).flag R.RS_STATUS_LATE_WR = true ∧
    160 * 52429 ≥ 32 * 262144 ∧ (sets (s none) [(rsAct (R.RS_REG_TBL_ADDR 15), 0x1F40000)]).f (rsAct (R.RS_REG_TBL_ADDR 15)) = 0x1F40000 := by decide +kernel

/-- CRC-32 of the bytes of "123456789" is 0xCBF43926 (the check value of the CRC that R504 names). -/
theorem test_crc32 : crc32 [0x31, 0x32, 0x33, 0x34, 0x35, 0x36, 0x37, 0x38, 0x39] = 0xCBF43926 := by
  decide +kernel

theorem test_crc_check_hyps :
    let s := sets (scan .active) [(rsAct (R.RS_CRC_POS_EN 3), 1), (rsAct (R.RS_CRC_SIZE_W 3), 1), (rsAct (R.RS_CRC_SIZE_H 3), 1)]
    let l := s.setB (R.RS_CRC_CTRL_LEARN 3) true
    s.rs.phase = .active ∧ bitOf (nx (.crcCheck 3) s).rs.crcDone 3 = true ∧ (nx (.crcCheck 3) s).f (R.RS_CRC_MISMATCH 3) = 1 ∧
    (nx (.crcCheck 3) l).f (R.RS_CRC_MISMATCH 3) = 0 ∧ (nx (.crcCheck 2) s).rs.crcDone = 0 ∧ blend 255 200 10 = 200 ∧ blend 0 200 10 = 10 ∧ blend 1 255 254 = 254 := by
  decide +kernel

theorem test_aux_hyps :
    up.Opens 0 0x700050 ∧ (nx (.auxTransaction 0 0x8000000A (some [])) up).f R.RS_AUX_CTRL_RESULT = 0x11 ∧ (nx (.auxTransaction 0 0x80000009 none) up).f R.RS_AUX_CTRL_RESULT = 0x40 ∧
    (nx (.auxTransaction 0 0x80000019 (some [5, 6])) up).f (R.RS_AUX_DATA 0) = 0x605 ∧ (nx (.auxTransaction 0 0x80000018 (some [])) up).f R.RS_AUX_CTRL_RESULT = 0 := by
  decide +kernel

/-! ## Power -/

/-- A power request in progress in a phase. -/
def pwr (p : PwrPhase) (todo agreed : List Nat := []) : State :=
  { sets host [(R.PWR_STATUS_BUSY, 1), (R.PWR_STATUS_TARGET, 2)] with
    host := { host.host with longs := [{ long 0x80 [2] with phase := 1 }] }, pwr := { host.pwr with phase := p, todo := todo, agreed := agreed } }

theorem test_pwr_state_hyps :
    let f := fun (n : BitVec 64) => cmd [n]
    let busy := sets host [(R.PWR_STATUS_BUSY, 1), (R.PWR_STATUS_TARGET, 2)]
    let pend := sets busy [(R.PWR_STATUS_PEND, 1), (R.PWR_STATUS_PEND_TGT, 1)]
    let p2 := host.setF R.PWR_STATUS_STATE 2
    host.Starts 0 (f 4) true false [0x7] ∧ (nx (.pwrState 0 (f 5)) host).host.longs = [] ∧ (nx (.pwrState 0 (f 0)) host).host.longs = [] ∧
    (nx (.pwrState 0 (f 1)) host).pwr.todo = [14] ∧ (nx (.pwrState 0 (f 2)) host).pwr.phase = .ask ∧ (nx (.pwrState 0 (f 3)) p2).pwr.phase = .off ∧
    (nx (.pwrState 0 (f 0)) p2).pwr.phase = .raise ∧ (nx (.pwrState 0 (f 2)) busy).host.longs.length = 1 ∧ (nx (.pwrState 0 (f 1)) pend).host.longs.length = 1 ∧
    (nx (.pwrState 0 (f 3)) busy).f R.PWR_STATUS_PEND_TGT = 3 ∧ (∀ d, d < 96 → host.domState d = 0) := by decide +kernel

theorem test_pwr_round_hyps :
    let used := (sets (pwr .ask [7]) [(R.DAC_STATUS_RUNNING 0, 1)])
    let gate := (pwr .gate [] [14, 19])
    let old : State := { gate.setBlk 0x6B .fenced with fence := { (gate.setBlk 0x6B .fenced).fence with replies := [(⟨0x6B, 1, 0xFF⟩, 0x30)] } }
    let undo := ((pwr .undo [19]).setBlk 0x6B .fenced).setF (domFld 19) 3
    (pwr .ask [19]).domRefuses 19 = none ∧ (nx .coachmanRound (pwr .ask [19])).domState 19 = 3 ∧ (nx .coachmanRound (pwr .ask [14])).pwr.hold = true ∧
    (used.domRefuses 7).isSome = true ∧ (nx .coachmanRound used).pwr.phase = .undo ∧ (nx .coachmanRound undo).blk 0x6B = .running ∧
    (nx .coachmanRound (pwr .undo)).flag R.PWR_STATUS_BUSY = false ∧ (nx .coachmanRound gate).f R.PWR_STATUS_STATE = 2 ∧ gate.unsettled 0x6B = false ∧
    old.unsettled 0x6B = true ∧ (nx .coachmanRound old).pwr.phase = .gate ∧ (nx .coachmanRound old).f R.PWR_STATUS_STATE = 0 := by decide +kernel

theorem test_domain_hyps :
    let p1 := sets up [(R.PWR_STATUS_STATE, 1), (p1Fld 95, 1), (R.PWR_IDLE_US, 0)]
    let gated := up.setF (domFld 19) 1
    p1.domInUse 95 = false ∧ (nx (.p1IdleGate 95) p1).domState 95 = 1 ∧ (nx (.p1IdleGate 95) up).domState 95 = 0 ∧ up.Opens 0 0x780070 ∧
    (nx (.domctrl 0 19) gated).domState 19 = 2 ∧ (nx (.domctrl 0 0x113) up).domState 19 = 1 ∧ (nx (.domctrl 0 0x100) up).f R.PWR_STATUS_DRESULT = 0x11 ∧
    (nx (.domctrl 0 0x107) (up.setB (R.DAC_STATUS_RUNNING 0) true)).f R.PWR_STATUS_DRESULT = 0x23 ∧ (nx (.domctrl 0 0x113) p1).f R.PWR_STATUS_DRESULT = 0x22 ∧
    (nx (.domctrl 0 19) up).f R.PWR_STATUS_DRESULT = 0 ∧ (nx (.domctrl 0 0x113) gated).domState 19 = 1 := by decide +kernel

/-- One whose reply is still out gates once it is gone. -/
theorem test_gate_waits_hyps :
    let p1 := sets up [(R.PWR_STATUS_STATE, 1), (p1Fld 95, 1), (R.PWR_IDLE_US, 0)]
    let b := (domBlocks 95).headD 0
    let out : State := { p1 with fence := { p1.fence with replies := [(⟨b, 1, 0⟩, 0)] } }
    (nx (.p1IdleGate 95) out).domState 95 = 3 ∧ (nx (.p1IdleGate 95) out).pwr.gateWait = [95] ∧
    (nx (.domainReady 19) ((up.setF (domFld 19) 2).setBlk 0x6B .fenced)).blk 0x6B = .running := by decide +kernel

theorem test_pad_wake_hyps :
    let w := sets up [(R.PWR_STATUS_STATE, 3), (R.PWR_WAKE_EN_SRC.bit 6, 1)]
    let avs := { up with pwr := { up.pwr with avs := some (900, 800) } }
    up.Opens 0 0x780074 ∧ (nx (.padRelease 0 0x1FF) (up.setF (domFld 7) 1)).pwr.padRel = 0x1FE ∧
    ({ up.setF R.PWR_PADHOLD_GROUPS 0x1FF with pwr := { up.pwr with padRel := 0x101 } } : State).padTick.f R.PWR_PADHOLD_GROUPS = 0xFE ∧
    (nx .wakeAt w).f R.PWR_LASTWAKE_CODE = 6 ∧ (nx .wakeAt (w.setPtimeAt (R.PWR_WAKE_AT 0).off (ns 1))).pwr.waking = false ∧
    (nx .avsTimeout avs).flag R.PWR_STATUS_AVS_FAULT = true ∧ (nx .avsTimeout { avs with pwr := { up.pwr with avs := some (700, 800) } }).pwr.avs = none ∧
    (nx .avsTimeout up).flag R.PWR_STATUS_AVS_FAULT = false := by decide +kernel

theorem test_rails_hyps :
    let s := sets up [(R.PWR_POLL_MS, 1), (R.PWR_RAIL_CFG_EN 7, 1)]
    let rails : List (Option (BitVec 16 × BitVec 16 × BitVec 16)) := List.replicate 7 none ++ [some (5, 6, 7)]
    (nx (.pmbusPoll rails) s).f (R.PWR_RAIL_STAT_STATUS_WORD 7) = 7 ∧ (nx (.pmbusPoll rails) s).flag R.PWR_STATUS_PM_FAULT = true ∧
    (nx (.pmbusPoll (List.replicate 8 none)) s).flag R.PWR_STATUS_PM_FAULT = true ∧ (nx (.pmbusPoll rails) (s.setF R.PWR_POLL_MS 0)).flag R.PWR_STATUS_PM_FAULT = false ∧
    (nx (.pmAlert (some (7, 1))) up).flag R.PWR_STATUS_PM_FAULT = true ∧ (nx (.pmAlert (some (7, 0))) up).flag R.PWR_STATUS_PM_FAULT = false := by decide +kernel

theorem test_ready_hyps :
       (nx (.domainReady 19) (up.setF (domFld 19) 2)).domState 19 = 0 ∧
    (nx (.domainReady 19) (up.setF (domFld 19) 1)).domState 19 = 1 := by decide +kernel

/-- An idle domain with nothing accepted and no reply out. -/
theorem test_quiet_hyps : up.quiet 95 ∧ up.quiet 19 := by unfold State.quiet; decide +kernel

/-! ## Housekeeping -/

/-- Housekeeping with converter 0 in a state. -/
def hk (c : HkConv := {}) : State := { words (up.setF R.HK_SEQ_LEN_LEN_A 1) ((List.range 32).map (fun i => ((R.HK_COR_GAIN i).off, BitVec.ofNat 32 (4096 * 2 ^ (R.HK_COR_GAIN i).lo)))) with hk := { conv := [(0, c)] } }

theorem test_hk_tick_hyps :
    up.isRunning 0x0F = true ∧ (nx .hkSequenceTick (hk { active := true })).f R.HK_SEQ_SKIP = 1 ∧ (nx .hkSequenceTick (hk { cal := true })).f R.HK_SEQ_SKIP = 1 ∧
    (nx .hkSequenceTick hk).f R.HK_SEQ_SKIP = 0 ∧ ((nx .hkSequenceTick (hk.setB R.HK_CTRL_EN_A true)).hkN 0).active = true := by decide +kernel

/-- A code without calibration and GAIN 1.0 is itself; the largest GAIN saturates nothing below 16 bits. -/
theorem test_hk_value :
    (hk).hkValue 0 5 4095 = 4095 ∧ (hk { calibrated := true, zero := 0, ref := 32 }).hkValue 0 5 4095 = 32767 ∧
    (hk { calibrated := true, zero := 0, ref := 27304 }).hkValue 0 5 3413 = 3413 := by decide +kernel

theorem test_hk_conversion_hyps :
    let inj := nx (.hkConversion 0 7) (hk { inj := [31], active := true, cal := true, calAfter := 1 })
    let reg := nx (.hkConversion 0 7) (hk { active := true, pos := 1 })
    (nx (.hkConversion 0 7) hk).hk.written = 0 ∧ (inj.f (R.HK_INJ_RES_INPUT 0) = 31 ∧ inj.fi (R.HK_INJ_RES_VALUE 0) = 7 ∧ (inj.hkN 0).calAfter = 0) ∧
    (reg.hkN 0).active = false ∧ (reg.hkN 0).pos = 2 ∧ (nx (.hkConversion 0 7) (hk { cal := true, inj := [1] })).hk.written = 0 := by decide +kernel

/-- HK31 apart by the limit and by one more; the third fault in a row; a sequence without comparison. -/
theorem test_hk_plausibility_hyps :
    let s := fun (r : Int) (faults : Nat) (noCmp : Bool) => ({ hk.setF R.HK_PLAUS_LIM_LIM 10 with
      hk := { conv := [(0, { active := true }), (1, { hk31 := some r })], faults := faults, noCmp := noCmp } } : State)
    let t := fun (r : Int) (faults : Nat) (noCmp : Bool) => nx (.hkConversion 0 100) (s r faults noCmp)
    (t 110 2 false).hk.faults = 0 ∧ (t 111 1 false).hk.faults = 2 ∧ (t 111 1 false).flag R.HK_STATUS_SUSPECT = false ∧ (t 89 2 false).flag R.HK_STATUS_SUSPECT = true ∧
    (t 89 2 true).hk.faults = 2 := by decide +kernel

theorem test_hk_throttle_hyps :
    let s := sets hk [(R.HK_SEQ_LEN_LEN_A, 1), (R.HK_SEQ 0 0, 5), (R.HK_THERM_T1, 100), (R.HK_THERM_T2, 200), (R.HK_THERM_HYST_HYST, 10)]
    let t := fun (old : Nat) (code : BitVec 12) => (nx (.hkConversion 0 code) { s.setF R.HK_STATUS_THROTTLE old with hk := { conv := [(0, { active := true, pos := 1 })] } }).f R.HK_STATUS_THROTTLE
    t 0 99 = 0 ∧ t 0 100 = 1 ∧ t 0 200 = 2 ∧ t 2 190 = 2 ∧ t 2 189 = 1 ∧ t 1 90 = 1 ∧ t 1 89 = 0 := by decide +kernel

theorem test_hk_commands_hyps :
    let full := hk { inj := [1, 2, 3, 4] }
    let cal := hk { cal := true }
    up.Opens 0 0x60204 ∧ (nx (.hkInject 0 0 31) full).flag R.HK_STATUS_INJ_DROP = true ∧ ((nx (.hkInject 0 1 63) full).hkN 1).inj = [31] ∧
    ((nx (.hkCalRequest 0) full).hkN 0).calAfter = 4 ∧ (nx (.hkCalRequest 0) cal).hk = cal.hk ∧ (nx (.hkCalDone 0 0 8 8 0) cal).f (R.HK_CAL_OK 0) = 1 ∧
    (nx (.hkCalDone 0 0 8 9 0) cal).f (R.HK_CAL_REJ 0) = 1 ∧ (nx (.hkCalDone 0 0 8 9 0) hk).f (R.HK_CAL_REJ 0) = 0 := by decide +kernel

/-! ## Configuration switches -/

/-- A manager with version 5 in slot 3, and a PREPARE of it held for 1 ms. -/
def cfg1 : State := { words host ((List.range 4).map (fun n => ((R.CFG_SLOT_VER n).off, 0))) with cfg := { host.cfg with slots := [(0, some {}), (1, some {}), (2, some {}), (3, some { version := 5 })] } }
def prep : PrepSt := { act := ns 1000000, version := 5, revert := false }
def switching (p : PrepSt) (op : BitVec 16 := 0x61) : State := { cfg1 with cl := { cfg1.cl with prep := some p }, host := { cfg1.host with longs := [long op] } }

theorem test_cfg_switch_hyps :
    let f := cmd [0, 1, 5]
    let rev := { sets cfg1 [(R.CFG_STATUS_PREV_VALID, 1), (R.CFG_STATUS_PREV, 3)] with cl := cfg1.cl }
    let worker := cfg1.setF R.CL_CTRL_ROLE 3
    cfg1.Starts 0 f true false [2 ^ 64 - 1, 2 ^ 64 - 1, 0xFFFFFFFF] ∧ rev.Starts 0 (cmd [0, 1]) true false [2 ^ 64 - 1, 2 ^ 64 - 1] ∧
    cfg1.now + 2 * cfg1.horizon ≤ ptOf128 (2 ^ 64) ∧ cfg1.storeHeld = false ∧ cfg1.slotOf 5 = some 3 ∧ cfg1.slotOf 6 = none ∧
    (switching prep).storeHeld = true ∧ worker.role = 3 ∧ (nx (.cfgSwitch 0 f) worker).out.length = 2 ∧ (nx (.cfgSwitch 0 (cmd [0, 0, 5])) cfg1).out.length = 2 := by
  decide +kernel

theorem test_cfg_deadline_hyps :
    let at_ := fun (s : State) => ({ s with clk := { s.clk with ptime := ns 1000000 } } : State)
    let top := sets (at_ (switching prep)) [(R.CL_CTRL_ROLE, 1), (R.CL_LANES_LANES.bit 3, 1)]
    (nx .cfgAnswerDeadline (switching prep)).cl.prep = some prep ∧ (nx .cfgAnswerDeadline (at_ (switching prep))).cl.prep = some { prep with commit := true } ∧
    (nx .cfgAnswerDeadline (at_ (switching { prep with own := 0x11 }))).cl.prep = none ∧ top.children = [3] ∧ (nx .cfgAnswerDeadline top).cl.prep = none := by decide +kernel

theorem test_cfg_activate_hyps :
    let s := fun (items : List (CfgItem × CfgStage)) (armed : List Nat) => ({ (switching { prep with commit := true, act := 0 }).setB R.CFG_STATUS_PENDING true with
      cfg := { cfg1.cfg with items := items, slot := 3, image := { armed := armed } } } : State)
    let post := (s [(.slot 63, .stop)] []).setF (R.ACQ_STATUS_STATE 63) 3
    (nx .cfgActivate (s [] [])).f R.CFG_STATUS_ACTIVE = 3 ∧ post.acqState 63 = aPost ∧ (nx .cfgActivate post).cfg.acting = true ∧
    (nx .cfgActivate (s [(.slot 63, .stop)] [])).f R.CFG_SWITCHES = 1 ∧ (s [(.slot 63, .stop)] [63]).slotPending 63 = false := by decide +kernel

/-- CFGSW carriages on a worker: a PREPARE of a version it lacks, one while another is held, COMMITs before and after
ACT_PTIME, and ABORTs. -/
theorem test_cfgsw_hyps :
    let w := clu 3
    let h := fun (p : PrepSt) (t : Nat) => ({ w with cl := { w.cl with prep := some p }, clk := { w.clk with ptime := t } } : State)
    (nx (.cfgswPrepare 9 (car 4 0)) w).cl.prep.isSome = true ∧ (nx (.cfgswPrepare 9 (car 4 0)) (h prep 0)).cl.prep = some prep ∧
    (nx (.cfgswCommit 9 (car 4 1)) w).cl.prep = none ∧ (nx (.cfgswCommit 9 (car 4 1)) (h prep 0)).cl.prep = some { prep with commit := true } ∧
    (nx (.cfgswCommit 9 (car 4 1)) ((h prep (ns 1000001)).setB R.CFG_STATUS_PENDING true)).flag R.CL_STATUS_CFG_LATE = true ∧
    (nx (.cfgswAbort 9 (car 4 2)) (h prep 0)).cl.prep = none ∧ (nx (.cfgswAbort 9 (car 4 2)) (h { prep with commit := true } 0)).cl.prep ≠ none := by decide +kernel

theorem test_cfg_expiry_save_hyps :
    let w : State := { clu 3 with cl := { (clu 3).cl with prep := some prep }, clk := { up.clk with ptime := ns 1000000 + (clu 3).horizon } }
    let f := cmd [2, 6]
    let saving : State := { cfg1 with host := { cfg1.host with longs := [{ long 0x63 [2, 6] with env := [2] }] }, cfg := { cfg1.cfg with save := some (2, { version := 6 }) } }
    let last : State := { saving with host := { saving.host with longs := [{ long 0x63 [2, 6] with env := [1] }] } }
    (nx .cfgPrepareExpiry w).flag R.CL_STATUS_CFG_MISS = true ∧ (nx .cfgPrepareExpiry { w with clk := up.clk }).cl.prep = some prep ∧
    cfg1.Starts 0 f true false [0x3, 0xFFFFFFFF] ∧ (nx (.cfgSave 0 (cmd [2, 5])) cfg1).cfg.save = none ∧ (nx (.cfgSave 0 (cmd [2, 0])) cfg1).cfg.save = none ∧
    (nx .coachmanRound saving).cfg.save.isSome = true ∧ last.cfg.save.isSome = true := by decide +kernel

/-! ## Security -/

def keys : State := words shost ([0, 1, 2, 3].map (fun n => ((R.SEC_KEYS n).off, if n < 2 then 0x11#32 else 0#32)))
def image (bs : List (BitVec 8)) (l : LongCmd) : LongCmd := { l with reads := [some bs] }

theorem test_sec_assign_hyps :
    let blk := cmd [0x10, 1]
    shost.Starts 0 blk false true [0x3FF, 0x1] ∧ (ringed up2).Starts 0 blk false false [0x3FF, 0x1] ∧ (ringed up2).ringSecure 0 = false ∧
    shost.blk 0x10 = .running ∧ shost.flag (R.FCH_CTRL_EN 0) = false ∧ shost.blkUse 0x10 = none ∧
    shost.f (R.HI_RING_STATUS_STATE 15) = 0 ∧ shost.f (R.HI_RING_STATUS_STATE 0) = 1 ∧ shost.liveCtxs = [] := by decide +kernel

theorem test_sec_assign :
    let s := nx (.secAssign 0 (cmd [0x1F, 1])) (shost.setF (R.FCH_PB_LEN_LEN 15) 9)
    s.ownerSecure (.block 0x1F) = true ∧ s.ownerSecure (.block 0x1E) = false ∧ s.epoch 0x1F = 1 ∧ s.f (R.FCH_PB_LEN_LEN 15) = 0 ∧
    (nx (.secAssign 0 (cmd [0x10F, 1])) shost).ringSecure 15 = true ∧ (nx (.secAssign 0 (cmd [0x22F, 1])) shost).ownerSecure (.group 47) = true ∧
    (nx (.secAssign 0 (cmd [0x22F, 1])) shost).ownerSecure (.group 46) = false := by decide +kernel

theorem test_sec_region_hyps :
    let f := cmd [63, 0x1000, 0x2000, 1]
    shost.Starts 0 f false true [0x3F, 2 ^ 64 - 1, 2 ^ 64 - 1, 0x1] ∧ (ringed up2).Starts 0 f false false [0x3F, 2 ^ 64 - 1, 2 ^ 64 - 1, 0x1] ∧
    shost.allocations = [] ∧ spaceSize 3 = 4194304 ∧ shost.flag (R.SEC_REGION_CFG_EN 63) = false := by decide +kernel

theorem test_secure_images_hyps :
    let f := { cmd [0, 0x40] with reads := [some []] }
    let busy := { shost with sec := { shost.sec with keccak := some (0, 5) } }
    let iv := { shost with host := { shost.host with longs := [{ long 0x70 with aux := [0] }] } }
    let at_ := { shost with sec := { shost.sec with certOk := true }, host := { shost.host with longs := [{ long 0x71 [0, 0, 0x100000] with aux := [0] }] } }
    shost.Starts 0 f true false [2 ^ 64 - 1, 0xFFFFFFFF] ∧ shost.Starts 0 { cmd [0, 0, 0x40] with reads := [none] } true false [2 ^ 64 - 1, 2 ^ 64 - 1, 0xFFFFFFFF] ∧
    (nx (.imageVerify 0 f) shost).host.longs.length = 1 ∧ (nx (.imageVerify 0 (cmd [0, 0x40])) shost).host.longs = [] ∧
    iv.isRunning 0 = true ∧ iv.sec.keccak ≠ some (1, 9) ∧ busy.sec.keccak = some (0, 5) ∧ at_.sec.certOk = true ∧ at_.reloadMeasures = false := by decide +kernel

theorem test_key_revoke_hyps :
    let f := cmd [1]
    keys.Starts 0 f true true [0x3] ∧ (ringed up2).Starts 0 f true false [0x3] ∧ (nx (.keyRevoke 0 f) keys).host.longs.length = 1 ∧
    (nx (.keyRevoke 0 (cmd [0])) (words keys [((R.SEC_KEYS 1).off, 0x13)])).host.longs = [] ∧
    (nx (.keyRevoke 0 f) { keys with host := { keys.host with longs := [long 0x74] } }).host.longs.length = 1 := by decide +kernel

/-! ## Resets and boot -/

/-- A device in a boot stage. -/
def stage (n : Nat) : State := words {} [(0x10, BitVec.ofNat 32 n), (0x7C0000, 0)]

/-- What a stage finds: a good crystal, the LOCKA network at its limits, and images. -/
def found (images : List (List (BitVec 8)) := []) : BootData := ⟨true, 150, 1320, images⟩

theorem test_resets_hyps :
    let due := { up with clk := { up.clk with elapsed := ns 100000000 } }
    nx (.warmN 99) up = up ∧ up.pwr.dark = false ∧ nx .watchdogExpiry up = up ∧
    due.f R.ID_BOOT_STAGE = 7 ∧ due.f R.PWR_STATUS_STATE < 3 ∧ due.boot.kick + 100000000 * 2 ^ 48 ≤ due.clk.elapsed ∧
    (nx .watchdogExpiry { due with clk := { due.clk with elapsed := ns 100000000 - 1 } }).f R.ID_BOOT_STAGE = 7 ∧ up.Opens 0 0x30 ∧
    (nx (.wdogKick 0 0) due).boot.kick = ns 100000000 := by decide +kernel

/-- The first stage: a network at its limits and beyond them; what the later stages find where no image is good. -/
theorem test_boot_stage_hyps :
    let halted := { stage 1 with boot := { halted := true } }
    let strap := words (stage 2) [(0x10, 0x102)]
    halted.boot.halted = true ∧ (stage 1).boot.halted = false ∧ (stage 1).flag R.ID_BOOT_MODE = false ∧ (found []).crystalOk = true ∧
    nx (.bootStage (found [])) halted = halted ∧ nx (.bootStage (found [])) up = up ∧
    strap.f R.ID_BOOT_STAGE = 2 ∧ strap.flag R.ID_BOOT_MODE = true ∧ (stage 2).flag R.CLK_STATUS_LOCKA_NET = false ∧ (stage 2).verifyFw [] (2 ^ 22) = 0x11 ∧
    (nx (.bootStage ⟨false, 150, 1320, []⟩) (stage 1)).boot.halted = true ∧ (stage 4).boot.resume = false ∧ (stage 4).blk 0x3F = .running ∧
    (stage 4).verify [0] (2 ^ 20) = 0x11 ∧ (stage 6).boot.resume = false ∧ (stage 6).flag R.CFG_BOOT_EN = false ∧
    ((stage 6).setB R.CFG_BOOT_EN true).flag R.CFG_BOOT_EN = true := by decide +kernel

theorem test_clock_stage_hyps :
    let locked := { words (stage 3) [(R.CLK_STATUS_LOCKED.off, BitVec.ofNat 32 (2 ^ R.CLK_STATUS_LOCKED.lo))] with clk := { up.clk with elapsed := ns 5000000 } }
    let late := { stage 3 with clk := { up.clk with elapsed := ns 100000000 } }
    locked.flag R.CLK_STATUS_LOCKED = true ∧ locked.clk.lockedAt + 5000000 * 2 ^ 48 ≤ locked.clk.elapsed ∧
    locked.clk.lockedAt + 5000000 * 2 ^ 48 ≤ locked.clk.relockAt + 100000000 * 2 ^ 48 ∧
    (nx .clockStageQualified { locked with clk := { locked.clk with lockedAt := ns 97000000, elapsed := ns 102000000 } }).boot.halted = true ∧ (stage 3).f R.ID_BOOT_STAGE = 3 ∧
    late.clk.relockAt + 100000000 * 2 ^ 48 ≤ late.clk.elapsed ∧ late.flag R.CLK_STATUS_LOCKED = false ∧ (nx .clockStageQualified late).boot.halted = true ∧ (nx .clockStageQualified (stage 3)).boot.halted = false := by decide +kernel

theorem test_host_boot_hyps :
    let wait := (stage 8).setF R.ID_BOOT_LEN_LEN 0x400001
    (stage 8).Opens 0 0x24 ∧ up.Opens 1 0x24 = False ∧ wait.f R.ID_BOOT_LEN_LEN = 0x400001 ∧
    (nx (.hostBootGo 0 (some [])) up).f R.ID_BOOT_CAUSE = 0 := by decide +kernel

theorem test_block_reset_hyps :
    let r := fun (s : State) (v : BitVec 32) => nx (.blockReset 0 v) s
    let code := fun (s : State) (v : BitVec 32) => (r s v).f R.ID_BRESET_STATUS_RESULT
    let busy := up.setB R.ID_BRESET_STATUS_BUSY true
    let sec := up2.setB ((R.SEC_WORLD 2).bit 0) true
    up.Opens 0 0x250 ∧ (r busy 0x40).flag R.ID_BRESET_STATUS_DROP = true ∧ code up 0x6C = 0x11 ∧ code up 0x00 = 0x11 ∧
    sec.blockSecure 0x40 = true ∧ code sec 0x40 = 0x12 ∧ code (up.setBlk 0x40 .gated) 0x40 = 0 ∧ up.blk 0x5F = .running ∧ up.liveCtxs = [] ∧
    (r up 0x5F).epoch 0x5F = 1 ∧ (r up 0x5F).blk 0x5F = .running := by decide +kernel

/-- SHAKE256 of no bytes, as FIPS 202's example gives it, and of one whole block of zeros, as another implementation of FIPS 202 gives it. -/
theorem test_shake256 :
    leNat (shake256 []) = 0xbec4b7b3ac2e294086b49a47491c82fcf692b5679d0105cb00f2c0d8ddc45dd72f76d56e64270cb5821bb862ea52cd3f24eb3e74eb3f3b23138da80b2bddb946 ∧
    leNat (shake256 (List.replicate 136 0)) = 0xfb0c3a1ce1edbfcc5645ce19612e81e49aead262312af3e1861ec6043ec55dd870fef6b7fa9a5abbccd5cba19999fd8178eb1d90baab7e0a9b1fec5f837b94ea := by decide +kernel

/-! ## Register accesses -/

theorem test_access_form_hyps :
    let early := words up [(0x10, 0x6)]
    let w := fun (off size : Nat) (full : Bool) (s : State) => nx (.registerWrite 0 (BitVec.ofNat 24 off) (Fin.ofNat 65 size) full 0) s
    up.reaches 0 = true ∧ up.reaches 1 = false ∧ up2.reaches 1 = true ∧
    (w 0x18 4 false up).flag R.HI_STATUS_BAD_ACCESS = true ∧ (w 0x1A 4 true up).f R.HI_BAD_ADDR_OFFSET = 0x1A ∧ (w 0x1C 8 true up).flag R.HI_STATUS_BAD_ACCESS = true ∧
    (w 0x18 4 true up).flag R.HI_STATUS_BAD_ACCESS = false ∧ early.early 0x10000 = true ∧ early.early 0xFFFC = false ∧ up.early 0xFFFFFC = false := by decide +kernel

theorem test_access_refused_hyps :
    let sec := up2.setB ((R.SEC_WORLD 0).bit 16) true
    let gated := up.setF (domFld 7) 1
    sec.worldRefused 0 0x100000 = false ∧ sec.worldRefused 0 (R.FCH_CTRL 0).off = true ∧ sec.worldRefused 1 (R.FCH_CTRL 0).off = false ∧
    (nx (.registerWrite 0 (BitVec.ofNat 24 (R.FCH_CTRL 0).off) 4 true 0) sec).f R.SEC_REF_COUNT = 1 ∧ (up.setBlk 0x10 .gated).holds (R.FCH_CTRL 0).off = some 0x10 ∧
    (nx (.registerWrite 0 (BitVec.ofNat 24 (R.FCH_CTRL 0).off) 4 true 5) (up.setBlk 0x10 .gated)).fence.heldAcc = [⟨0x10, true, 0, (R.FCH_CTRL 0).off, 4, 5⟩] ∧
    (nx (.rcRead 0 (BitVec.ofNat 24 (R.FCH_CTRL 0).off) 4 true) sec).out = [.readReply 0 (R.FCH_CTRL 0).off 4 0] ∧ gated.domState 7 = 1 := by decide +kernel

/-- Word 0 of a context entry, free and running; a word that the entry does not have. -/
theorem test_context_word_hyps :
    let run := up.setF (R.CTX_STATE_STATE 0) 2
    up.Reaches 0 0x200000 ∧ up.Reaches 0 0x3FFFFC ∧ isHalf 0x200000 1 = false ∧ up.f (R.CTX_STATE_STATE 0) = 0 ∧
    ((List.range 128).filter (fun i => (wordSpec (0x200000 + 4 * i)).isNone)).length ≠ 0 ∧
    ((List.range 128).filter (fun i => match wordSpec (0x200000 + 4 * i) with
      | some w => w.rwl != 0 && w.rw == 0 && w.w1c == 0 && w.w1s == 0 && !isHalf (0x200000 + 4 * i) 1 && !isHalf (0x200000 + 4 * i) 2
      | none => false)).length ≠ 0 ∧
    (({ up with sets := [(0x200000, 4)] } : State).setNow 0x200000).getLsbD 2 = true ∧ up.setNow 0x200000 = 0 ∧
    run.f (R.CTX_STATE_STATE 0) = 2 ∧ up.cfgHolds 0x200000 = false := by decide +kernel

theorem test_wide_hyps :
    let w := nx (.registerWrite 0 0x18 8 true 0x123456789) up
    let held := nx (.lowWordWrite 0 0x18 7) up
    let snap := nx (.lowWordRead 0 0x18) w
    up.Reaches 0 0x18 ∧ isHalf 0x18 1 = true ∧ isHalf 0x1C 2 = true ∧ w.f R.ID_BOOT_ADDR = 0x123456789 ∧ up.holds 0x1C = none ∧
    held.f R.ID_BOOT_ADDR = 0 ∧ (nx (.highWordWrite 0 0x1C 1) held).f R.ID_BOOT_ADDR = 0x100000007 ∧
    (nx (.highWordWrite 0 0x1C 1) (up.setF R.ID_BOOT_ADDR 5)).f R.ID_BOOT_ADDR = 0x100000005 ∧
    snap.out = [.readReply 0 0x18 4 0x23456789] ∧ (nx (.highWordRead 0 0x1C) snap).out = [.readReply 0 0x18 4 0x23456789, .readReply 0 0x1C 4 1] ∧
    (nx (.rcRead 0 0x18 8 true) w).out = [.readReply 0 0x18 8 0x123456789] ∧ (nx (.rcRead 0 0x1A 4 true) up).out = [.unsupported 0 0x1A] := by decide +kernel

/-! ## WellFormed refuses -/

/-- An entry with six parameter words in place of seven. -/
def shortEntry : Fetch := cmd [0, 0, 0, 0, 0, 0]

/-- The same with all seven. -/
def wholeEntry : Fetch := cmd [0, 0, 0, 0, 0, 0, 0]

/-- Accesses of no bytes, of data beyond their size, and of the wrong half of a 64-bit register. -/
theorem test_wf_accesses :
    (Instr.registerWrite 0 0 0 true 0).wf = false ∧ (Instr.registerWrite 0 0 4 true 0x100000000).wf = false ∧ (Instr.registerWrite 0 0 4 true 0xFFFFFFFF).wf = true ∧
    (Instr.rcRead 0 0 0 true).wf = false ∧ (Instr.rcRead 0 0 4 true).wf = true ∧ (Instr.lowWordRead 0 4).wf = false ∧ (Instr.highWordRead 0 0).wf = false ∧
    (Instr.lowWordWrite 0 4 0).wf = false ∧ (Instr.highWordWrite 0 0 0).wf = false ∧ (Instr.lowWordRead 0 0x18).wf = true ∧ (Instr.highWordWrite 0 0x1C 0).wf = true := by decide

/-- Every ring command needs its whole entry. -/
theorem test_wf_entries :
    ([Instr.retune 0, .bandscan 0, .nopCommand 0, .cancel 0, .calSweep 0, .kernelLoad 0, .ucodeLoad 0, .forgeReload 0, .forgeOffline 0, .ctxStart 0, .ctxStop 0,
      .ctxModify 0, .densClear 0, .memClear 0, .clArm 0, .cfgSwitch 0, .cfgRevert 0, .cfgSave 0, .imageVerify 0, .attest 0, .secAssign 0, .secRegion 0, .keyRevoke 0,
      .pwrState 0] : List (Fetch → Instr)).all (fun c => !(c shortEntry).wf && (c wholeEntry).wf) = true := by decide

/-- Samples, trims, first passes and windows: 16 codes, the trims' ranges, 33 sub-converters of at most 4 tries, 4,096 pairs. -/
theorem test_wf_converters :
    let ok : TrimSet := ⟨-512, 511, 4095, 63⟩
    let bad := fun (t : TrimSet) => (Instr.measurementCompare 0 ok t).wf = false ∧ (Instr.measurementCompare 0 t ok).wf = false ∧ (Instr.firstPassDone 0 (List.replicate 33 [(t, t)])).wf = false
    (Instr.channelSamples 0 0 (List.replicate 15 0)).wf = false ∧ (Instr.channelSamples 0 0 (List.replicate 16 0)).wf = true ∧ (Instr.measurementCompare 0 ok ok).wf = true ∧
    bad { ok with ofs := -513 } ∧ bad { ok with ofs := 512 } ∧ bad { ok with gain := -513 } ∧ bad { ok with gain := 512 } ∧ bad { ok with skew := 4096 } ∧ bad { ok with bw := 64 } ∧
    (Instr.firstPassDone 0 (List.replicate 32 [(ok, ok)])).wf = false ∧ (Instr.firstPassDone 0 (List.replicate 33 [(ok, ok)])).wf = true ∧
    (Instr.firstPassDone 0 (List.replicate 33 (List.replicate 5 (ok, ok)))).wf = false ∧ (Instr.plausibilityDecision 0 [0] [0]).wf = false ∧
    (Instr.plausibilityRetry 0 [0] [0]).wf = false := by decide

/-- Sector errors: an unknown symbol, an uncorrectable sector without its 64 bytes, sectors out of order. -/
theorem test_wf_sectors :
    let bad := fun (e : List SecErr) => (Instr.moveComplete 0 0 0 e).wf = false ∧ (Instr.portRequest 0 0 0 e).wf = false ∧ (Instr.scrubRead 0 e).wf = false ∧
      (Instr.coachBurstGrant none e false).wf = false
    bad [⟨0, 67, []⟩] ∧ bad [⟨0, 129, []⟩] ∧ bad [⟨0, 127, []⟩] ∧ bad [⟨1, 0, []⟩, ⟨1, 0, []⟩] ∧ secErrsWf [⟨0, 66, []⟩, ⟨1, 128, []⟩, ⟨2, 127, List.replicate 64 0⟩] = true := by decide

/-- Times, frames, training, codes, replies and rails. -/
theorem test_wf_others :
    let sec : BitVec 128 := 0x3B9ACA0000000000
    let car : Carriage := ⟨0, 0, 0, 0, 0, 0, 0⟩
    let tr : TrainResult := ⟨0, 0, 0, 0, 0, 0⟩
    ptimeWf sec = false ∧ ptimeWf (sec - 1) = true ∧ (Instr.timeCarriage 0 car sec).wf = false ∧ (Instr.timedLaunch 0 0 sec).wf = false ∧ (Instr.ethEgress 0 none sec).wf = false ∧
    (Instr.ptpRx 0 (List.replicate 18 0) true sec).wf = false ∧ (Instr.ethRxFrame 0 (List.replicate 18 0) true sec).wf = false ∧
    (Instr.ptpRx 0 (List.replicate 17 0) true 0).wf = false ∧ (Instr.ethRxFrame 0 (List.replicate 17 0) true 0).wf = false ∧
    (Instr.tpReservedCommand 4).wf = false ∧ (Instr.tpReservedCommand 5).wf = true ∧ (Instr.linkTrain 0 { tr with failStep := 5 }).wf = false ∧
    (Instr.linkTrain 0 { tr with peerLane := 16 }).wf = false ∧ (Instr.linkTrain 0 tr).wf = true ∧ (Instr.auxTransaction 0 0 (some (List.replicate 17 0))).wf = false ∧
    (Instr.auxTransaction 0 0 (some (List.replicate 16 0))).wf = true ∧ (Instr.pmbusPoll (List.replicate 7 none)).wf = false ∧ (Instr.pmbusPoll (List.replicate 8 none)).wf = true := by decide

end Sys2Proof.Tests
end

section
/-!
PROOF. Register accesses: what a refused, held, early or made access does to the words and fields of the register file
and to the parts of the state behind it (spec/00_scope.md, R4 to R9 and R598; spec/12, R418 to R421; spec/16, R534 and
R538; spec/17, R568).
-/
namespace Sys2Proof.Machine

/-! ## Words and fields that a write keeps -/

section
variable {W V : Nat → Prop} {s t u : State}

theorem WordsKept.refl (W : Nat → Prop) (s : State) : WordsKept W s s := fun _ _ => rfl

theorem WordsKept.trans (h1 : WordsKept W s t) (h2 : WordsKept W t u) : WordsKept W s u :=
  fun a ha => (h2 a ha).trans (h1 a ha)

theorem WordsKept.mono (h : WordsKept V s t) (hv : ∀ a, V a → W a) : WordsKept W s t := fun a ha => h a (mt (hv a) ha)

theorem WordsKept.of_regs (h : t.regs = s.regs) : WordsKept W s t := fun a _ => State.word_congr h a

theorem WordsKept.setWord (s : State) {a : Nat} (w : BitVec 32) (h : W a) : WordsKept W s (s.setWord a w) := by
  intro b hb
  rw [State.word_setWord, if_neg]
  rintro rfl
  exact hb h

theorem WordsKept.setWordsAt (s : State) {off n : Nat} (v : Nat) (h : ∀ i, i < n → W (off + 4 * i)) :
    WordsKept W s (s.setWordsAt off n v) := by
  induction n generalizing s off v with
  | zero => exact .refl W s
  | succ n ih =>
    have first : WordsKept W s (s.setWord off (BitVec.ofNat 32 v)) := .setWord s _ (h 0 (by omega))
    exact first.trans (ih _ _ fun i hi => by
      rw [show off + 4 + 4 * i = off + 4 * (i + 1) by omega]
      exact h (i + 1) (by omega))

theorem WordsKept.setF (s : State) {x : Fld} (v : Nat) (h : ∀ i, i < x.words → W (x.base + 4 * i)) :
    WordsKept W s (s.setF x v) := .setWordsAt s _ h

/-- A field of which no word was written keeps its value. -/
theorem WordsKept.f_eq {x : Fld} (h : WordsKept W s t) (hx : ∀ a, x.base ≤ a → a < x.base + 4 * x.words → ¬ W a) :
    t.f x = s.f x := State.f_of_words x fun a h1 h2 => h a (hx a h1 h2)

/-- States whose words read alike keep every field. -/
theorem FieldsKept.of_words (h : ∀ a, t.word a = s.word a) : FieldsKept [] s t :=
  fun y _ => State.f_of_words y fun a _ _ => h a

/-- A write inside the words of a field that fills its first word keeps every field apart from it. -/
theorem FieldsKept.of_wordsKept {x : Fld} (hlo : x.lo % 32 = 0) (hwd : 32 ≤ x.wd)
    (h : WordsKept (fun a => x.base ≤ a ∧ a < x.base + 4 * x.words) s t) : FieldsKept [x] s t := by
  intro y hy
  have hxy := hy x (by simp)
  refine h.f_eq fun a h1 h2 hc => ?_
  unfold Fld.apart at hxy
  unfold Fld.words at *
  omega

theorem FieldsKept.setB (s : State) (x : Fld) (b : Bool) : FieldsKept [x] s (s.setB x b) := by
  cases b
  · exact .setF s x 0
  · exact (FieldsKept.setF s x 1).trans (.of_regs rfl)

theorem WordsKept.setB (s : State) {x : Fld} (b : Bool) (h : ∀ i, i < x.words → W (x.base + 4 * i)) :
    WordsKept W s (s.setB x b) := by
  cases b
  · exact .setF s 0 h
  · exact (WordsKept.setF s 1 h).trans (.of_regs rfl)

end

/-! ## Bits of words -/

theorem bitOf_eq_testBit (n i : Nat) : bitOf n i = n.testBit i := by
  rw [Nat.testBit_eq_decide_div_mod_eq]; rfl

/-- A bit of a mask of the register map. -/
theorem getLsbD_mask (n : Nat) {b : Nat} (hb : b < 32) : (BitVec.ofNat 32 n).getLsbD b = bitOf n b := by
  rw [BitVec.getLsbD_ofNat, bitOf_eq_testBit, decide_eq_true hb, Bool.true_and]

/-- A bit of the 4 bytes that a write carries. -/
theorem getLsbD_data (v : BitVec 64) {b : Nat} (hb : b < 32) : (BitVec.ofNat 32 v.toNat).getLsbD b = v.getLsbD b := by
  rw [BitVec.getLsbD_ofNat, decide_eq_true hb, Bool.true_and, BitVec.testBit_toNat]

/-- What a write makes of a bit of a word (Table 0-3), for a word without a bit that is both write-1-to-clear and
write-1-to-set. -/
theorem getLsbD_mergeWord {w : WordSpec} (hw : w.w1s = 0) (keep old v : BitVec 32) {b : Nat} (hb : b < 32) :
    (mergeWord w 0 keep old v).getLsbD b =
      if bitOf w.rw b = true ∨ bitOf w.rwl b = true then v.getLsbD b
      else if bitOf w.w1c b = true ∧ v.getLsbD b = true then old.getLsbD b && keep.getLsbD b
      else (old.getLsbD b || (bitOf w.w1s b && v.getLsbD b)) := by
  have hs : bitOf w.w1s b = false := by simp [hw, bitOf_eq_testBit]
  simp only [mergeWord, BitVec.getLsbD_or, BitVec.getLsbD_and, BitVec.getLsbD_not, getLsbD_mask _ hb, hb, hs]
  split_ifs with hset hclear
  · rcases hset with h | h <;> simp [h]
  · obtain ⟨hrw, hrwl⟩ := not_or.mp hset
    simp [hrw, hrwl, hclear]
  · obtain ⟨hrw, hrwl⟩ := not_or.mp hset
    rcases not_and_or.mp hclear with h | h <;> simp [hrw, hrwl, h]

/-- A word of which every writable bit is held keeps its value. -/
theorem mergeWord_held {w : WordSpec} (hrw : w.rw = 0) (hc : w.w1c = 0) (hs : w.w1s = 0) (keep old v : BitVec 32) :
    mergeWord w (BitVec.ofNat 32 w.rwl) keep old v = old := by
  have all : old &&& 4294967295#32 = old := BitVec.and_allOnes
  simp [mergeWord, hrw, hc, hs, all]

/-! ## A wake on access (R507, R509) -/

/-- The words of the power control. -/
def PowerWord (off : Nat) : Prop := 0x780000 ≤ off ∧ off < 0x790000

/-- What a wake may change: the power control, its words, and the states of fence blocks. -/
structure WakesOnly (s t : State) : Prop where
  eq : ∃ r p st, t = { s with regs := r, pwr := p, fence := { s.fence with st := st } }
  words : WordsKept PowerWord s t

theorem WakesOnly.refl (s : State) : WakesOnly s s := ⟨⟨_, _, _, rfl⟩, .refl _ s⟩

theorem WakesOnly.trans {s t u : State} (h1 : WakesOnly s t) (h2 : WakesOnly t u) : WakesOnly s u := by
  refine ⟨?_, h1.words.trans h2.words⟩
  obtain ⟨_, _, _, rfl⟩ := h1.eq
  obtain ⟨_, _, _, rfl⟩ := h2.eq
  exact ⟨_, _, _, rfl⟩

theorem WakesOnly.pwr (s : State) (p : PwrSt) : WakesOnly s { s with pwr := p } := ⟨⟨_, _, _, rfl⟩, .of_regs rfl⟩

theorem WakesOnly.setWordsAt (s : State) {off n : Nat} (v : Nat) (h : ∀ i, i < n → PowerWord (off + 4 * i)) :
    WakesOnly s (s.setWordsAt off n v) := ⟨⟨_, _, _, State.setWordsAt_eq s off n v⟩, .setWordsAt s v h⟩

theorem WakesOnly.setF (s : State) {x : Fld} (v : Nat) (h : ∀ i, i < x.words → PowerWord (x.base + 4 * i)) :
    WakesOnly s (s.setF x v) := .setWordsAt s _ h

theorem WakesOnly.setBlk (s : State) (b : Nat) (v : BlkState) : WakesOnly s (s.setBlk b v) :=
  ⟨⟨_, _, _, rfl⟩, .of_regs rfl⟩

theorem WakesOnly.moveBlks (s : State) (d : Nat) (v : BlkState) : WakesOnly s (s.moveBlks d v) := by
  unfold State.moveBlks
  induction domBlocks d generalizing s with
  | nil => exact .refl s
  | cons b bs ih =>
    refine WakesOnly.trans ?_ (ih _)
    dsimp only
    split
    · exact .refl s
    · exact .setBlk s b v

theorem WakesOnly.setDom (s : State) {d : Nat} (v : Nat) (hd : d < 96) : WakesOnly s (s.setDom d v) := by
  refine .setF s v fun i hi => ?_
  simp only [domFld, Fld.base, Fld.words, PowerWord] at *
  omega

theorem WakesOnly.startDomain (s : State) {d : Nat} (hd : d < 96) : WakesOnly s (s.startDomain d) := by
  unfold State.startDomain
  split
  · exact (WakesOnly.setDom s dWaking hd).trans (.moveBlks _ d .waking)
  · exact .refl s

theorem powerWord_of_field {x : Fld} (h : 0x780000 ≤ x.base ∧ x.base + 4 * x.words ≤ 0x790000) (i : Nat) (hi : i < x.words) :
    PowerWord (x.base + 4 * i) := ⟨by omega, by omega⟩

theorem WakesOnly.lastWake (s : State) (code detail : Nat) : WakesOnly s (s.lastWake code detail) :=
  ((WakesOnly.setF s code (powerWord_of_field (by decide))).trans (.setF _ detail (powerWord_of_field (by decide)))).trans
    (.setWordsAt _ _ fun i hi => by simp only [R.PWR_LASTWAKE_PTIME, PowerWord]; omega)

theorem WakesOnly.wakeDomain (s : State) {d : Nat} (hd : d < 96) : WakesOnly s (s.wakeDomain d) := by
  have started (p : PwrSt) : WakesOnly s (({ s with pwr := p } : State).startDomain d) := (WakesOnly.pwr s p).trans (.startDomain _ hd)
  have noted (p : PwrSt) : WakesOnly s ((({ s with pwr := p } : State).startDomain d).lastWake 3 d) := (started p).trans (.lastWake _ 3 d)
  unfold State.wakeDomain
  dsimp only
  split_ifs
  · exact .pwr s _
  · exact (started _).trans (.pwr _ _)
  · exact noted _
  · exact ((noted _).trans (.setF _ 1 (powerWord_of_field (by decide)))).trans (.pwr _ _)
  · exact started _

theorem domOf_lt (b : Nat) : domOf b < 96 := by
  unfold domOf
  cases h : (List.range 96).find? (fun d => (domBlocks d).contains b) with
  | none => decide
  | some d => exact List.mem_range.mp (List.mem_of_find?_eq_some h)

theorem WakesOnly.wakeBlk (s : State) (b : Nat) : WakesOnly s (s.wakeBlk b) := .wakeDomain s (domOf_lt b)

/-- An access held for its block is the last of those held; the wake that it starts keeps the rest. -/
theorem State.holdAccess_spec (s : State) (h : HeldAccess) :
    (s.holdAccess h).fence.heldAcc = s.fence.heldAcc ++ [h] ∧ (s.holdAccess h).mem = s.mem ∧ (s.holdAccess h).out = s.out ∧
      WordsKept PowerWord s (s.holdAccess h) := by
  have hw := WakesOnly.wakeBlk { s with fence := { s.fence with heldAcc := s.fence.heldAcc ++ [h] } } h.block
  obtain ⟨r, p, st, he⟩ := hw.eq
  unfold State.holdAccess
  exact ⟨by rw [he], by rw [he], by rw [he], hw.words⟩

/-- An access to a block whose domain is not gated notes its time alone. -/
theorem State.touch_awake {s : State} {off : Nat} (h : ∀ b, gatedBlock off = some b → s.domState (domOf b) ≠ dGated) :
    ∃ p, s.touch off = { s with pwr := p } := by
  unfold State.touch
  cases hb : gatedBlock off with
  | none => exact ⟨s.pwr, rfl⟩
  | some b =>
    exact ⟨_, if_pos (by simp [h b hb])⟩

/-! ## The error log and refused accesses (R538, R544, R573) -/

/-- What logging may change: the words `W` and the log's own memory of times. -/
structure LogsOnly (W : Nat → Prop) (s t : State) : Prop where
  eq : ∃ r x, t = { s with regs := r, sec := x }
  words : WordsKept W s t

section
variable {W V : Nat → Prop}

theorem LogsOnly.refl (W : Nat → Prop) (s : State) : LogsOnly W s s := ⟨⟨_, _, rfl⟩, .refl W s⟩

theorem LogsOnly.trans {s t u : State} (h1 : LogsOnly W s t) (h2 : LogsOnly W t u) : LogsOnly W s u := by
  refine ⟨?_, h1.words.trans h2.words⟩
  obtain ⟨_, _, rfl⟩ := h1.eq
  obtain ⟨_, _, rfl⟩ := h2.eq
  exact ⟨_, _, rfl⟩

theorem LogsOnly.mono {s t : State} (h : LogsOnly V s t) (hv : ∀ a, V a → W a) : LogsOnly W s t := ⟨h.eq, h.words.mono hv⟩

theorem LogsOnly.ite {c : Prop} [Decidable c] {s t u : State} (h1 : LogsOnly W s t) (h2 : LogsOnly W s u) :
    LogsOnly W s (if c then t else u) := by split <;> assumption

theorem LogsOnly.setWordsAt (s : State) {off n : Nat} (v : Nat) (h : ∀ i, i < n → W (off + 4 * i)) :
    LogsOnly W s (s.setWordsAt off n v) := ⟨⟨_, _, State.setWordsAt_eq s off n v⟩, .setWordsAt s v h⟩

theorem LogsOnly.setF (s : State) {x : Fld} (v : Nat) (h : x.words = 1) (hx : W x.base) : LogsOnly W s (s.setF x v) :=
  .setWordsAt s _ fun i hi => by rw [h] at hi; rw [Nat.lt_one_iff.mp hi]; exact hx

theorem LogsOnly.sec (s : State) (x : SecSt) : LogsOnly W s { s with sec := x } := ⟨⟨_, _, rfl⟩, .of_regs rfl⟩

end

/-- An entry of the error log below severity 2 signals no vector: it writes the words of the log alone. -/
theorem State.errLog_minor (s : State) (type block code : Nat) (detail : List Nat) {sev : Nat} (h : sev < 2) :
    LogsOnly LogWord s (s.errLog type sev block code detail) := by
  have hn : s.f R.ID_ERRLOG_HEAD_INDEX < 256 := State.f_lt s _
  have entry (t : State) (o n v : Nat) (ho : o + 4 * n ≤ 64) :
      LogsOnly LogWord t (t.setWordsAt (0x1000 + 64 * s.f R.ID_ERRLOG_HEAD_INDEX + o) n v) :=
    .setWordsAt t v fun i hi => .inr (.inr ⟨by omega, by omega⟩)
  have lost (t : State) : LogsOnly LogWord t (t.incSat R.ID_ERRLOG_LOST) := .setF t _ rfl (.inr (.inl rfl))
  unfold State.errLog
  dsimp only
  rw [if_neg (by omega : ¬ 2 ≤ sev), if_pos h]
  refine .ite (lost s) (.trans (.trans ?_ (.ite (lost _) (.refl _ _))) (.sec _ _))
  refine .trans ?_ (.setF _ _ rfl (.inl rfl))
  exact ((((entry _ 0 1 _ (by decide)).trans (entry _ 8 4 _ (by decide))).trans (entry _ 24 2 _ (by decide))).trans
    (entry _ 32 8 _ (by decide))).trans (entry _ 4 1 _ (by decide))

/-- The words that a refused access writes: its count, its log and the error log. -/
def RefusalWord (off : Nat) : Prop := off = 0x7C0050 ∨ off = 0x7C0054 ∨ (0x7C0100 ≤ off ∧ off < 0x7C0200) ∨ LogWord off

/-- What follows the count of a refused access leaves the count alone. -/
theorem State.logRefused_counted (s : State) (src kind : Nat) (write : Bool) (addr : Nat) :
    LogsOnly (fun off => off ≠ 0x7C0050 ∧ RefusalWord off) (s.incSat R.SEC_REF_COUNT) (s.logRefused src kind write addr) := by
  have hi : s.f R.SEC_REFLOG_HEAD_INDEX < 16 := State.f_lt s _
  have noted (t : State) (v : Nat) :
      LogsOnly (fun off => off ≠ 0x7C0050 ∧ RefusalWord off) t (t.setWordsAt (0x7C0100 + 16 * s.f R.SEC_REFLOG_HEAD_INDEX) 4 v) :=
    .setWordsAt t v fun i hi => ⟨by omega, .inr (.inr (.inl ⟨by omega, by omega⟩))⟩
  have logged : ∀ off, LogWord off → off ≠ 0x7C0050 ∧ RefusalWord off := fun off h =>
    ⟨by unfold LogWord at h; omega, .inr (.inr (.inr h))⟩
  unfold State.logRefused
  dsimp only
  refine .trans ((noted _ _).trans (.setF _ _ rfl ⟨by decide, .inr (.inl rfl)⟩)) (.ite (.refl _ _) ?_)
  refine .trans ?_ ((State.errLog_minor _ _ _ _ _ (by decide)).mono logged)
  exact .sec _ _

/-- A refused access is counted and logged: besides, nothing changes but the log's memory of times. -/
theorem State.logRefused_spec (s : State) (src kind : Nat) (write : Bool) (addr : Nat) :
    LogsOnly RefusalWord s (s.logRefused src kind write addr) ∧
      (s.logRefused src kind write addr).f R.SEC_REF_COUNT = min (s.f R.SEC_REF_COUNT + 1) (2 ^ 32 - 1) := by
  have h := State.logRefused_counted s src kind write addr
  have count : LogsOnly RefusalWord s (s.incSat R.SEC_REF_COUNT) := .setF s _ rfl (.inl rfl)
  refine ⟨count.trans (h.mono fun _ => And.right), ?_⟩
  rw [h.words.f_eq fun a h1 h2 => ?_]
  · rw [State.incSat, State.addSat, State.f_setF_self]
    exact Nat.mod_eq_of_lt (by change min _ (2 ^ 32 - 1) < 2 ^ 32; omega)
  · rintro ⟨h3, h4⟩
    change 0x7C0050 ≤ a at h1
    change a < 0x7C0050 + 4 * 1 at h2
    unfold RefusalWord LogWord at h4
    omega

/-! ## Reads (R4, R7, R420) -/

/-- The read-clear bits of a word have their reset values, its other bits the values that they had. -/
def ReadCleared (s t : State) (off : Nat) : Prop := ∀ w, wordSpec off = some w → ∀ b, b < 32 →
  (t.word off).getLsbD b = if bitOf w.rc b = true then (resetWord off).getLsbD b else (s.word off).getLsbD b

/-- A bit of a word after its read-clear bits took their reset values. -/
theorem getLsbD_readClear (old rst : BitVec 32) (rc : Nat) {b : Nat} (hb : b < 32) :
    (old &&& ~~~BitVec.ofNat 32 rc ||| rst &&& BitVec.ofNat 32 rc).getLsbD b =
      if bitOf rc b = true then rst.getLsbD b else old.getLsbD b := by
  simp only [BitVec.getLsbD_or, BitVec.getLsbD_and, BitVec.getLsbD_not, getLsbD_mask _ hb, hb]
  cases bitOf rc b <;> simp

theorem State.rcClear_regs (s : State) (off : Nat) : ∃ r, s.rcClear off = { s with regs := r } := by
  unfold State.rcClear
  split
  · exact ⟨_, rfl⟩
  · dsimp only
    split_ifs <;> exact ⟨_, rfl⟩

/-- A read clears the read-clear bits of its word, and of the high word with the low word of a 64-bit register. -/
theorem State.rcClear_words (s : State) (off : Nat) :
    WordsKept (fun a => a = off ∨ (isHalf off 1 = true ∧ a = off + 4)) s (s.rcClear off) := by
  unfold State.rcClear
  split
  next => exact .refl _ s
  next w hw =>
    have first (v : BitVec 32) : WordsKept (fun a => a = off ∨ (isHalf off 1 = true ∧ a = off + 4)) s (s.setWord off v) :=
      .setWord s v (.inl rfl)
    dsimp only
    split_ifs with hrc hhalf
    · exact .refl _ s
    · exact (first _).trans (.setWord _ _ (.inr ⟨by simpa [isHalf, hw] using hhalf, rfl⟩))
    · exact first _

theorem State.rcClear_cleared (s : State) (off : Nat) : ReadCleared s (s.rcClear off) off := by
  intro w hw b hb
  unfold State.rcClear
  rw [hw]
  dsimp only
  have merged := getLsbD_readClear (s.word off) (resetWord off) w.rc hb
  by_cases hrc : (w.rc == 0) = true
  · rw [if_pos hrc, if_neg (by simp [beq_iff_eq.mp hrc, bitOf_eq_testBit])]
  · rw [if_neg hrc, ← merged]
    split_ifs <;> simp [State.word_setWord]

/-- The words whose read has no effect but its read-clear bits, and no value but the word's view (R4, R7). -/
def PlainRead (off : Nat) : Prop :=
  ¬ (0x21000 ≤ off ∧ off < 0x25000 ∧ off % 0x400 = 0x40) ∧ off ≠ 0x30040 ∧ ¬ (0x100000 ≤ off ∧ off < 0x180000)

theorem State.readWord_plain (s : State) (pf : Nat) {off : Nat} (h : PlainRead off) :
    s.readWord pf off = (s.rcClear off, s.view pf off) := by
  obtain ⟨htdc, htx, hforge⟩ := h
  unfold State.readWord
  rw [if_neg, if_neg, if_neg]
  · simp; omega
  · simpa using htx
  · simp; omega

/-- The words that a read returns as they stand. -/
theorem State.view_eq_word (s : State) (pf : Nat) {off : Nat} (hp : PlainRead off) (hf : ¬ (0x200 ≤ off ∧ off < 0x21C))
    (hm : ¬ (0x608000 ≤ off ∧ off < 0x60A000)) (hs : ¬ (0x7C0004 ≤ off ∧ off < 0x7E0000)) :
    s.view pf off = (s.word off).toNat := by
  obtain ⟨-, -, hforge⟩ := hp
  unfold State.view
  rw [if_neg, if_neg, if_neg, if_neg, if_neg, if_neg] <;> simp <;> omega

/-! ### A read does not depend on the power control -/

section
variable (s : State) (p : PwrSt)

theorem State.f_pwr (x : Fld) : ({ s with pwr := p } : State).f x = s.f x := State.f_congr (s := { s with pwr := p }) (t := s) rfl x

theorem State.flag_pwr (x : Fld) : ({ s with pwr := p } : State).flag x = s.flag x := by
  unfold State.flag; rw [State.f_pwr]

theorem State.forgeRead_pwr (f o : Nat) : ({ s with pwr := p } : State).forgeRead f o = s.forgeRead f o := by
  unfold State.forgeRead State.dbgReg State.anvHalted State.storeWord
  simp only [State.f_pwr, State.flag_pwr]
  rfl

theorem State.view_pwr (pf off : Nat) : ({ s with pwr := p } : State).view pf off = s.view pf off := by
  unfold State.view State.ringSecure
  simp only [State.forgeRead_pwr, State.flag_pwr]
  rfl

end

/-! ### Reads that are served -/

theorem State.emit_readReply {s : State} (h : s.hostOff = false) (pf off size v : Nat) :
    s.emit (.readReply pf off size v) = { s with out := s.out ++ [.readReply pf off size v] } := if_neg (by simp [State.padHeld, h])

section
variable {s : State} {pf off size : Nat}

/-- A 4-byte read that reaches its register. -/
theorem State.serveRead_four (h : s.Reaches pf off) (h4 : size = 4) : ∃ p, s.serveRead pf off size =
    (State.read4 { s with pwr := p } pf off).1.emit (.readReply pf off size (State.read4 { s with pwr := p } pf off).2) := by
  obtain ⟨-, -, hworld, hholds, -, hdom⟩ := h
  obtain ⟨p, hp⟩ := State.touch_awake hdom
  subst h4
  exact ⟨p, by simp [State.serveRead, State.readHolds, State.get4, hworld, hholds, hp]⟩

/-- An 8-byte read that reaches its 64-bit register: both words as they stand (R419). -/
theorem State.serveRead_eight (h : s.Reaches pf off) (hnext : s.holds (off + 4) = none) (hp : PlainRead off)
    (hhalf : isHalf off 1 = true) (h8 : size = 8) : ∃ p, s.serveRead pf off size =
      (State.rcClear { s with pwr := p } off).emit (.readReply pf off size (s.view pf off + 2 ^ 32 * s.view pf (off + 4))) := by
  obtain ⟨-, -, hworld, hholds, -, hdom⟩ := h
  obtain ⟨p, ht⟩ := State.touch_awake hdom
  subst h8
  refine ⟨p, ?_⟩
  simp [State.serveRead, State.readHolds, State.get8, State.get4, hworld, hholds, hnext, hhalf, ht, State.readWord_plain _ _ hp,
    State.view_pwr s p]

theorem State.read4_plain (hp : PlainRead off) (h1 : isHalf off 1 = false) (h2 : isHalf off 2 = false) :
    s.read4 pf off = (s.rcClear off, s.view pf off) := by
  unfold State.read4
  rw [if_neg (by simp [h1]), if_neg (by simp [h2]), State.readWord_plain s pf hp]

/-- The state after a read of which the completion leaves: its word's read-clear bits reset. -/
theorem State.rcClear_answered (hoff : s.hostOff = false) (p : PwrSt) (size v : Nat) :
    let t := (State.rcClear { s with pwr := p } off).emit (.readReply pf off size v)
    t.out = s.out ++ [.readReply pf off size v] ∧ ReadCleared s t off ∧
      WordsKept (fun a => a = off ∨ (isHalf off 1 = true ∧ a = off + 4)) s t ∧ t.mem = s.mem := by
  intro t
  have hcleared := State.rcClear_cleared { s with pwr := p } off
  have hwords := State.rcClear_words { s with pwr := p } off
  obtain ⟨r, hr⟩ := State.rcClear_regs { s with pwr := p } off
  rw [hr] at hcleared hwords
  have ht : t = { s with pwr := p, regs := r, out := s.out ++ [.readReply pf off size v] } := by
    rw [← State.emit_readReply (s := { s with pwr := p, regs := r }) hoff, ← hr]
  rw [ht]
  exact ⟨rfl, hcleared, hwords, rfl⟩

end

/-! ## Writes that are made (R4, R419, R421, R598) -/

section
variable {s : State} {pf off : Nat}

/-- A 4-byte write that reaches its register. -/
theorem State.put4_reached (h : s.Reaches pf off) (v : BitVec 32) : ∃ p, s.put4 pf off v = State.write4 { s with pwr := p } pf off v := by
  obtain ⟨-, -, hworld, hholds, hsec, hdom⟩ := h
  obtain ⟨p, hp⟩ := State.touch_awake hdom
  exact ⟨p, by simp [State.put4, hworld, hholds, hsec, hp]⟩

/-- An 8-byte write that reaches its 64-bit register. -/
theorem State.put8_reached (h : s.Reaches pf off) (hhalf : isHalf off 1 = true) (data : Nat) : ∃ p, s.put8 pf off data =
    State.writePair { s with pwr := p } pf off (some (BitVec.ofNat 32 data)) (BitVec.ofNat 32 (data / 2 ^ 32)) := by
  obtain ⟨-, -, hworld, hholds, hsec, hdom⟩ := h
  obtain ⟨p, hp⟩ := State.touch_awake hdom
  exact ⟨p, by simp [State.put8, hworld, hholds, hsec, hp, hhalf]⟩

end

/-! ### ID_BOOT_ADDR -/

/-- A word whose bits are all read-write, held by nothing, takes the value written. -/
theorem mergeWord_readWrite {w : WordSpec} (hrw : w.rw = 0xFFFFFFFF) (hl : w.rwl = 0) (hc : w.w1c = 0) (hs : w.w1s = 0)
    (keep old v : BitVec 32) : mergeWord w 0 keep old v = v := by
  have all : v &&& 4294967295#32 = v := BitVec.and_allOnes
  simp [mergeWord, hrw, hl, hc, hs, all]

/-- A word of ID_BOOT_ADDR takes what is written to it, and the write has no other effect. -/
theorem State.writeWord_bootAddr (s : State) (pf : Nat) {off : Nat} (h : off = 0x18 ∨ off = 0x1C) (v : BitVec 32) :
    s.writeWord pf off v = s.setWord off v := by
  obtain ⟨w, hw, hrw, hl, hc, hs⟩ : ∃ w, writeSpec off = some w ∧ w.rw = 0xFFFFFFFF ∧ w.rwl = 0 ∧ w.w1c = 0 ∧ w.w1s = 0 := by
    rcases h with rfl | rfl <;> exact ⟨_, rfl, rfl, rfl, rfl, rfl⟩
  have ho : writeOff off = off := by rcases h with rfl | rfl <;> rfl
  have hcfg : s.cfgHolds off = false := by rcases h with rfl | rfl <;> exact Bool.and_false _
  have hhold : s.holdBits pf off w = 0 := by
    rcases h with rfl | rfl <;> simp [State.holdBits, hl, ho, hcfg, R.RS_FB_SEL]
  have hdrop : s.dropFlags off w = [] := by simp [State.dropFlags, hl, ho, hcfg]
  have hwrote (t : State) (old new : Nat) : t.wrote pf off old new = t := by rcases h with rfl | rfl <;> rfl
  unfold State.writeWord
  rw [hw]
  dsimp only
  rw [hwrote, ho, hhold, hdrop, mergeWord_readWrite hrw hl hc hs]
  rfl

/-- ID_BOOT_ADDR is its two words. -/
theorem State.f_bootAddr (s : State) : s.f R.ID_BOOT_ADDR = (s.word 0x18).toNat + 2 ^ 32 * (s.word 0x1C).toNat := by
  have hlo := (s.word 0x18).isLt
  have hhi := (s.word 0x1C).isLt
  change ((s.word 0x18).toNat + 2 ^ 32 * ((s.word 0x1C).toNat + 2 ^ 32 * 0)) / 2 ^ 0 % 2 ^ 64 = _
  omega

theorem FieldsKept.of_bootAddr_words {s t : State} (h : WordsKept (fun a => a = 0x18 ∨ a = 0x1C) s t) :
    FieldsKept [R.ID_BOOT_ADDR] s t :=
  .of_wordsKept rfl (by decide) (h.mono fun a ha => by
    change 0x18 ≤ a ∧ a < 0x18 + 4 * 2
    omega)

/-- A write of both words of ID_BOOT_ADDR, or of its high word alone (R421). -/
theorem State.writePair_bootAddr (s : State) (pf : Nat) (lo : Option (BitVec 32)) (hi : BitVec 32) :
    (s.writePair pf 0x18 lo hi).f R.ID_BOOT_ADDR = lo.elim (s.f R.ID_BOOT_ADDR % 2 ^ 32) BitVec.toNat + 2 ^ 32 * hi.toNat ∧
      FieldsKept [R.ID_BOOT_ADDR] s (s.writePair pf 0x18 lo hi) ∧ (s.writePair pf 0x18 lo hi).host = s.host := by
  have high (t : State) : WordsKept (fun a => a = 0x18 ∨ a = 0x1C) t (t.setWord 0x1C hi) := .setWord t hi (.inr rfl)
  unfold State.writePair
  rw [if_neg (by decide), if_neg (by decide)]
  cases lo with
  | none =>
    dsimp only
    rw [show 0x18 + 4 = 0x1C from rfl, State.writeWord_bootAddr _ _ (.inr rfl)]
    refine ⟨?_, .of_bootAddr_words (high s), rfl⟩
    have hlt := (s.word 0x18).isLt
    rw [State.f_bootAddr, State.f_bootAddr, State.word_setWord, State.word_setWord, if_neg (by decide), if_pos rfl, Option.elim_none]
    omega
  | some x =>
    dsimp only
    rw [show 0x18 + 4 = 0x1C from rfl, State.writeWord_bootAddr _ _ (.inl rfl), State.writeWord_bootAddr _ _ (.inr rfl)]
    refine ⟨?_, .of_bootAddr_words (.trans (.setWord s x (.inl rfl)) (high _)), rfl⟩
    simp [State.f_bootAddr, State.word_setWord]

/-! ### Words of context entries -/

section
variable {off : Nat} (hlo : 0x200000 ≤ off) (hhi : off < 0x400000)
include hlo hhi

theorem gatedBlock_context : gatedBlock off = none := by
  have h : ownerOf off = .group ((off - 0x200000) / 0x200 / 64) := by
    unfold ownerOf
    iterate 12 rw [if_neg (by omega)]
    rw [if_pos hhi]
  unfold gatedBlock
  rw [h]

theorem writeOff_context : writeOff off = off := if_neg (by simp; omega)

theorem writeSpec_context : writeSpec off = wordSpec off := if_pos (by simp [writeOff_context hlo hhi])

/-- The RWL fields of a context are pending unless it is STOPPED or in FAULT. -/
theorem State.rwlLock_context (s : State) : s.rwlLock off =
    (s.ctxState ((off - 0x200000) / 0x200) != 0 && s.ctxState ((off - 0x200000) / 0x200) != 4,
      [R.CTX_STATE_CFG_BUSY ((off - 0x200000) / 0x200)]) := by
  unfold State.rwlLock State.lockMid
  rw [if_neg (by omega), if_pos (by omega), if_pos hhi]

theorem State.wrote_context (s : State) (pf old v : Nat) : s.wrote pf off old v = s := by
  unfold State.wrote State.wroteHost
  iterate 4 rw [if_neg (by omega)]
  iterate 10 rw [if_neg (by simp; omega)]

theorem State.writeWord_unassigned {s : State} (hw : wordSpec off = none) (pf : Nat) (v : BitVec 32) : s.writeWord pf off v = s := by
  unfold State.writeWord
  rw [writeSpec_context hlo hhi, hw]

/-- No word of a context entry has a write-1-to-set bit. -/
theorem w1s_context {w : WordSpec} (hw : wordSpec off = some w) : w.w1s = 0 := by
  have rows : ∀ q, q < 0x40 → 0x20 ≤ q → ∀ w ∈ rowsOfBlock q, w.w1s = 0 := by decide
  exact rows (off / 0x10000) (by omega) (by omega) w (List.mem_of_find?_eq_some hw)

/-- A write of a context word that no switch holds: its RWL bits keep their values while the context runs, and CFG_BUSY is
set (R598). -/
theorem State.writeWord_context {s : State} (hcfg : s.cfgHolds off = false) {w : WordSpec} (hw : wordSpec off = some w)
    (pf : Nat) (v : BitVec 32) : s.writeWord pf off v =
      (s.setFlags (if w.rwl != 0 && (s.rwlLock off).1 then (s.rwlLock off).2 else [])).setWord off
        (mergeWord w (if w.rwl != 0 && (s.rwlLock off).1 then BitVec.ofNat 32 w.rwl else 0) (s.setNow off) (s.word off) v) := by
  have hhold : s.holdBits pf off w = if w.rwl != 0 && (s.rwlLock off).1 then BitVec.ofNat 32 w.rwl else 0 := by
    unfold State.holdBits
    have hring : ¬ (0x601000 ≤ off && off < 0x601400 && off % 0x40 == 0 && pf == 0) = true := by simp; omega
    have hbuffer : ¬ (off == R.RS_FB_SEL.off && s.flag R.RS_CTRL_AUTO) = true := by simp [R.RS_FB_SEL]; omega
    rw [writeOff_context hlo hhi, hcfg, if_neg hring, if_neg hbuffer]
    simp
  have hdrop : s.dropFlags off w = if w.rwl != 0 && (s.rwlLock off).1 then (s.rwlLock off).2 else [] := by
    simp [State.dropFlags, writeOff_context hlo hhi, hcfg]
  unfold State.writeWord
  rw [writeSpec_context hlo hhi, hw]
  dsimp only
  rw [State.wrote_context hlo hhi, writeOff_context hlo hhi, hhold, hdrop]

end

/-! ## Accesses -/

theorem accessOk_iff (off size : Nat) (full : Bool) : accessOk off size full = true ↔
    full = true ∧ ((size = 4 ∧ off % 4 = 0) ∨ (size = 8 ∧ off % 8 = 0)) := by
  simp [accessOk]

theorem accessOk_word {off : Nat} (h : off % 4 = 0) : accessOk off 4 true = true := (accessOk_iff ..).mpr ⟨rfl, .inl ⟨rfl, h⟩⟩

theorem State.served_of_reaches {s : State} {pf off : Nat} (h : s.Reaches pf off) : s.reaches pf = true := h.1

theorem State.early_of_reaches {s : State} {pf off : Nat} (h : s.Reaches pf off) : s.early off = false := h.2.1

theorem State.early_of_stage {s : State} {off : Nat} (hs : s.f R.ID_BOOT_STAGE ≠ 7) (ho : 0x10000 ≤ off) : s.early off = true := by
  simp [State.early, hs, ho]

/-- A bad access shows its offset and sets BAD_ACCESS (R418). -/
theorem State.badAccess_spec (s : State) {off : Nat} (h : off < 2 ^ 24) :
    (s.badAccess off).flag R.HI_STATUS_BAD_ACCESS = true ∧ (s.badAccess off).f R.HI_BAD_ADDR_OFFSET = off ∧
      FieldsKept [R.HI_STATUS_BAD_ACCESS, R.HI_BAD_ADDR_OFFSET] s (s.badAccess off) ∧
      s.badAccess off = { s with regs := (s.badAccess off).regs, sets := (s.badAccess off).sets } := by
  refine ⟨?_, ?_, (FieldsKept.setB s _ true).trans (.setF _ _ off), ?_⟩
  · unfold State.flag State.badAccess
    rw [State.f_setF_apart _ _ _ _ (.inr (.inl (by decide)))]
    exact State.flag_setB_self s _ true (by decide)
  · exact (State.f_setF_self _ _ _).trans (Nat.mod_eq_of_lt h)
  · unfold State.badAccess State.setF
    rw [State.setWordsAt_eq, State.setB_eq]

section
variable {s : State} {pf off size : Nat} {full : Bool}

theorem regWrite_unreached (h : s.reaches pf = false) (data : Nat) : regWrite pf off size full data s = s := if_pos (by simp [h])

theorem regRead_unreached (h : s.reaches pf = false) : regRead pf off size full s = s := if_pos (by simp [h])

variable (hr : s.reaches pf = true)
include hr

theorem regWrite_bad (hf : accessOk off size full ≠ true) (data : Nat) : regWrite pf off size full data s = s.badAccess off := by
  simp [regWrite, hr, hf]

theorem regRead_bad (hf : accessOk off size full ≠ true) :
    regRead pf off size full s = (s.badAccess off).emit (.unsupported pf off) := by simp [regRead, hr, hf]

variable (hf : accessOk off size full = true)
include hf

theorem regWrite_early (he : s.early off = true) (data : Nat) : regWrite pf off size full data s = s.setB R.ID_BOOT_EARLY_WR true := by
  simp [regWrite, hr, hf, he]

theorem regRead_early (he : s.early off = true) : regRead pf off size full s = s.emit (.readReply pf off size 0) := by
  simp [regRead, hr, hf, he]

variable (he : s.early off = false)
include he

theorem regWrite_four (h4 : size = 4) (data : Nat) : regWrite pf off size full data s = s.put4 pf off (BitVec.ofNat 32 data) := by
  subst h4; simp [regWrite, hr, hf, he]

theorem regWrite_eight (h8 : size = 8) (data : Nat) : regWrite pf off size full data s = s.put8 pf off data := by
  subst h8; simp [regWrite, hr, hf, he]

theorem regRead_served : regRead pf off size full s = s.serveRead pf off size := by simp [regRead, hr, hf, he]

theorem regRead_four (h4 : size = 4) : regRead pf off size full s = s.serveRead pf off 4 := by
  rw [regRead_served hr hf he, h4]

end

/-- A 4-byte read at an aligned offset that it reaches. -/
theorem regRead_word {s : State} {pf off : Nat} (h : s.Reaches pf off) (hal : off % 4 = 0) :
    regRead pf off 4 true s = s.serveRead pf off 4 :=
  regRead_served (State.served_of_reaches h) (accessOk_word hal) (State.early_of_reaches h)

/-- A 4-byte write at an aligned offset that it reaches. -/
theorem regWrite_word {s : State} {pf off : Nat} (h : s.Reaches pf off) (hal : off % 4 = 0) (data : Nat) :
    regWrite pf off 4 true data s = s.put4 pf off (BitVec.ofNat 32 data) :=
  regWrite_four (State.served_of_reaches h) (accessOk_word hal) (State.early_of_reaches h) rfl data

/-- A 4-byte write of a context word that reaches it writes the word (R4). -/
theorem State.put4_context {s : State} {pf off : Nat} (hlo : 0x200000 ≤ off) (hhi : off < 0x400000) (h : s.Reaches pf off)
    (h1 : isHalf off 1 = false) (h2 : isHalf off 2 = false) (v : BitVec 32) : s.put4 pf off v = s.writeWord pf off v := by
  obtain ⟨-, -, hworld, hholds, hsec, -⟩ := h
  have hmsix : ¬ (0x608000 ≤ off ∧ off < 0x609000) := by omega
  simp [State.put4, hworld, hholds, hsec, State.touch, gatedBlock_context hlo hhi, State.write4, h1, h2, hmsix]

section
variable {s : State} {pf off : Nat} {w : WordSpec} (hlo : 0x200000 ≤ off) (hhi : off < 0x400000) (hcfg : s.cfgHolds off = false)
  (hw : wordSpec off = some w) (v : BitVec 32)
include hlo hhi hcfg hw

/-- A write of a word of a context that is STOPPED or in FAULT changes exactly the bits that the map makes writable. -/
theorem State.writeWord_stopped (hst : s.f (R.CTX_STATE_STATE ((off - 0x200000) / 0x200)) = 0 ∨
      s.f (R.CTX_STATE_STATE ((off - 0x200000) / 0x200)) = 4) :
    s.writeWord pf off v = s.setWord off (mergeWord w 0 (s.setNow off) (s.word off) v) := by
  have hlock : (s.rwlLock off).1 = false := by
    rw [State.rwlLock_context hlo hhi]
    rcases hst with h | h <;> simp [State.ctxState, h]
  rw [State.writeWord_context hlo hhi hcfg hw, hlock]
  simp [State.setFlags]

/-- A write of the settings of a context that runs keeps them and sets CFG_BUSY. -/
theorem State.writeWord_running (hst : ¬ (s.f (R.CTX_STATE_STATE ((off - 0x200000) / 0x200)) = 0 ∨
      s.f (R.CTX_STATE_STATE ((off - 0x200000) / 0x200)) = 4))
    (hrw : w.rw = 0) (hc : w.w1c = 0) (hs : w.w1s = 0) (hl : w.rwl ≠ 0) :
    s.writeWord pf off v = (s.setB (R.CTX_STATE_CFG_BUSY ((off - 0x200000) / 0x200)) true).setWord off (s.word off) := by
  obtain ⟨h0, h4⟩ := not_or.mp hst
  have hlock : (w.rwl != 0 && (s.rwlLock off).1) = true := by
    rw [State.rwlLock_context hlo hhi]
    simp [State.ctxState, hl, h0, h4]
  rw [State.writeWord_context hlo hhi hcfg hw, hlock, if_pos rfl, if_pos rfl, mergeWord_held hrw hc hs, State.rwlLock_context hlo hhi]
  rfl

end

/-- A write of the value that a word has, after the device set a bit of another word, changes that bit alone. -/
theorem State.setB_setWord_same (s : State) {x : Fld} (hx : x.lo + x.wd ≤ 32) (hwd : 0 < x.wd) {a : Nat} (ha : a ≠ x.off) :
    let t := (s.setB x true).setWord a (s.word a)
    t.word a = s.word a ∧ t.flag x = true ∧ FieldsKept [x] s t := by
  have hsame : (s.setB x true).word a = s.word a :=
    WordsKept.setB (W := fun b => b = x.off) s true (fun i hi => by unfold Fld.words at hi; unfold Fld.base; omega) a ha
  have hwords (b : Nat) : ((s.setB x true).setWord a (s.word a)).word b = (s.setB x true).word b := by
    rw [State.word_setWord]
    split
    next h => rw [h, hsame]
    next => rfl
  refine ⟨by rw [hwords, hsame], ?_, ((FieldsKept.setB s x true).trans (.of_words hwords)).mono (by simp)⟩
  unfold State.flag
  rw [State.f_of_words x fun b _ _ => hwords b]
  exact State.flag_setB_self s x true hwd

/-! ## Refused, held and 64-bit accesses -/

theorem ends_of_eq {u t : State} {P : State → Prop} (h : u = t) (hp : P t) : Ends (.next u) P := ⟨t, by rw [h], hp⟩

section
variable {s : State} {pf off : Nat}

theorem State.put4_refused (hw : s.worldRefused pf off = true) (v : BitVec 32) : s.put4 pf off v = s.logRefused 0xFE 0 true off :=
  if_pos hw

theorem State.put4_held (hw : s.worldRefused pf off = false) {b : Nat} (hb : s.holds off = some b) (v : BitVec 32) :
    s.put4 pf off v = s.holdAccess ⟨b, true, pf, off, 4, v.toNat⟩ := by simp [State.put4, hw, hb]

theorem State.serveRead_refused (hw : s.worldRefused pf off = true) :
    s.serveRead pf off 4 = (s.logRefused 0xFE 0 false off).emit (.readReply pf off 4 0) := by simp [State.serveRead, State.get4, hw]

theorem State.serveRead_held (hw : s.worldRefused pf off = false) {b : Nat} (hb : s.holds off = some b) (size : Nat) :
    s.serveRead pf off size = s.holdAccess ⟨b, false, pf, off, size, 0⟩ := by simp [State.serveRead, State.readHolds, hw, hb]

/-- A refused access leaves the fence blocks, the memories and what was sent alone. -/
theorem State.logRefused_frame (s : State) (src kind : Nat) (write : Bool) (addr : Nat) :
    (s.logRefused src kind write addr).fence = s.fence ∧ (s.logRefused src kind write addr).mem = s.mem ∧
      (s.logRefused src kind write addr).out = s.out := by
  obtain ⟨_, _, h⟩ := (State.logRefused_spec s src kind write addr).1.eq
  rw [h]
  exact ⟨rfl, rfl, rfl⟩

theorem State.hostOff_congr {s t : State} (h : t.fence = s.fence) : t.hostOff = s.hostOff := by unfold State.hostOff; rw [h]

/-- A refused read is counted and answers zero. -/
theorem State.logRefused_answered (hoff : s.hostOff = false) (write : Bool) :
    let t := (s.logRefused 0xFE 0 write off).emit (.readReply pf off 4 0)
    t.out = s.out ++ [] ++ [.readReply pf off 4 0] ∧ t.f R.SEC_REF_COUNT = min (s.f R.SEC_REF_COUNT + 1) (2 ^ 32 - 1) := by
  obtain ⟨hfence, -, hout⟩ := State.logRefused_frame s 0xFE 0 write off
  refine ⟨?_, (State.f_congr (State.emit_regs _ _) _).trans (State.logRefused_spec s 0xFE 0 write off).2⟩
  rw [State.emit_readReply ((State.hostOff_congr hfence).trans hoff), hout, List.append_nil]

/-- A read in a wrong form answers unsupported. -/
theorem State.badAccess_answered (hoff : s.hostOff = false) (h : off < 2 ^ 24) :
    let t := (s.badAccess off).emit (.unsupported pf off)
    t.out = s.out ++ [.unsupported pf off] ∧ t.flag R.HI_STATUS_BAD_ACCESS = true ∧ t.f R.HI_BAD_ADDR_OFFSET = off := by
  obtain ⟨hflag, hoffset, -, heq⟩ := State.badAccess_spec s h
  have hregs := State.f_congr (State.emit_regs (s.badAccess off) (.unsupported pf off))
  refine ⟨?_, by unfold State.flag at hflag ⊢; rw [hregs, hflag], by rw [hregs, hoffset]⟩
  rw [heq]
  exact congrArg State.out (if_neg (ne_true_of_eq_false hoff))

/-- The snapshot of a high word at a key (R420). -/
def State.setSnap (s : State) (k : Nat) (v : Option (BitVec 32)) : State :=
  { s with host := { s.host with snaps := tset (fun _ => none) s.host.snaps k v } }

/-- The low word kept at a key for the write of its high word (R421). -/
def State.setLow (s : State) (k : Nat) (v : Option (BitVec 32)) : State :=
  { s with host := { s.host with heldLow := tset (fun _ => none) s.host.heldLow k v } }

theorem State.snap_setSnap (s : State) (k : Nat) (v : Option (BitVec 32)) : tget (fun _ => none) (s.setSnap k v).host.snaps k = v :=
  tget_tset_self _ _ _ _

theorem State.low_setLow (s : State) (k : Nat) (v : Option (BitVec 32)) : tget (fun _ => none) (s.setLow k v).host.heldLow k = v :=
  tget_tset_self _ _ _ _

theorem isHalf_low_of_high (h : isHalf off 2 = true) : isHalf off 1 = false := by
  unfold isHalf at *
  split <;> simp_all

theorem State.read4_low (hp : PlainRead off) (h1 : isHalf off 1 = true) : s.read4 pf off =
    ((s.rcClear off).setSnap (halfKey pf (off + 4)) (some (BitVec.ofNat 32 (s.view pf (off + 4)))), s.view pf off) := by
  unfold State.read4
  rw [if_pos h1, State.readWord_plain s pf hp]
  rfl

theorem State.read4_high (h2 : isHalf off 2 = true) {v : BitVec 32}
    (hv : tget (fun _ => none) s.host.snaps (halfKey pf off) = some v) :
    s.read4 pf off = (s.setSnap (halfKey pf off) none, v.toNat) := by
  unfold State.read4
  rw [if_neg (by simp [isHalf_low_of_high h2]), if_pos h2, hv]
  rfl

/-- The read of a low word answers it and keeps the high word of the same moment (R420). -/
theorem State.serveRead_low (h : s.Reaches pf off) (hoff : s.hostOff = false) (hp : PlainRead off) (h1 : isHalf off 1 = true) :
    (s.serveRead pf off 4).out = s.out ++ [.readReply pf off 4 (s.view pf off)] ∧ ReadCleared s (s.serveRead pf off 4) off ∧
      tget (fun _ => none) (s.serveRead pf off 4).host.snaps (halfKey pf (off + 4)) = some (BitVec.ofNat 32 (s.view pf (off + 4))) := by
  obtain ⟨p, he⟩ := State.serveRead_four h rfl
  have hcleared := State.rcClear_cleared { s with pwr := p } off
  obtain ⟨r, hr⟩ := State.rcClear_regs { s with pwr := p } off
  rw [hr] at hcleared
  rw [he, State.read4_low hp h1, hr, State.view_pwr s p, State.view_pwr s p, State.emit_readReply (by exact hoff)]
  exact ⟨rfl, hcleared, State.snap_setSnap { s with pwr := p, regs := r } _ _⟩

/-- The read of a high word answers the one kept by the read of its low word, once. -/
theorem State.serveRead_high (h : s.Reaches pf off) (hoff : s.hostOff = false) (h2 : isHalf off 2 = true) {v : BitVec 32}
    (hv : tget (fun _ => none) s.host.snaps (halfKey pf off) = some v) :
    (s.serveRead pf off 4).out = s.out ++ [.readReply pf off 4 v.toNat] ∧
      tget (fun _ => none) (s.serveRead pf off 4).host.snaps (halfKey pf off) = none ∧ (s.serveRead pf off 4).regs = s.regs := by
  obtain ⟨p, he⟩ := State.serveRead_four h rfl
  rw [he, State.read4_high (s := { s with pwr := p }) h2 hv, State.emit_readReply (by exact hoff)]
  exact ⟨rfl, State.snap_setSnap { s with pwr := p } _ _, rfl⟩

/-- The write of a low word is kept for the write of its high word (R421). -/
theorem State.put4_low (h : s.Reaches pf off) (h1 : isHalf off 1 = true)
    (hm : ¬ (0x608000 ≤ off ∧ off < 0x609000)) (v : BitVec 32) :
    (s.put4 pf off v).regs = s.regs ∧ tget (fun _ => none) (s.put4 pf off v).host.heldLow (halfKey pf off) = some v ∧
      (s.put4 pf off v).mem = s.mem := by
  obtain ⟨p, he⟩ := State.put4_reached h v
  have hwrite : State.write4 { s with pwr := p } pf off v = State.setLow { s with pwr := p } (halfKey pf off) (some v) := by
    unfold State.write4
    rw [if_neg (by simpa using hm), if_pos h1]
    rfl
  rw [he, hwrite]
  exact ⟨rfl, State.low_setLow { s with pwr := p } _ _, rfl⟩

/-- An 8-byte write of ID_BOOT_ADDR writes both words (R419). -/
theorem State.put8_bootAddr (h : s.Reaches pf 0x18) {data : Nat} (hd : data < 2 ^ 64) :
    (s.put8 pf 0x18 data).f R.ID_BOOT_ADDR = data ∧ FieldsKept [R.ID_BOOT_ADDR] s (s.put8 pf 0x18 data) := by
  obtain ⟨p, he⟩ := State.put8_reached h (by decide) data
  obtain ⟨hf, hk, -⟩ := State.writePair_bootAddr { s with pwr := p } pf (some (BitVec.ofNat 32 data)) (BitVec.ofNat 32 (data / 2 ^ 32))
  rw [he]
  refine ⟨hf.trans ?_, (FieldsKept.of_regs (s := s) (t := { s with pwr := p }) rfl).trans hk⟩
  rw [Option.elim_some, BitVec.toNat_ofNat, BitVec.toNat_ofNat]
  omega

theorem State.write4_bootAddr (s : State) (pf : Nat) (v : BitVec 32) : s.write4 pf 0x1C v =
    (s.setLow (halfKey pf 0x18) none).writePair pf 0x18 (tget (fun _ => none) s.host.heldLow (halfKey pf 0x18)) v := by
  unfold State.write4
  rw [if_neg (by decide), if_neg (by decide), if_pos (by decide)]
  rfl

/-- The write of the high word of ID_BOOT_ADDR writes both words, with the low word kept for it when there is one (R421). -/
theorem State.put4_bootAddr (h : s.Reaches pf 0x1C) (v : BitVec 32) :
    FieldsKept [R.ID_BOOT_ADDR] s (s.put4 pf 0x1C v) ∧ tget (fun _ => none) (s.put4 pf 0x1C v).host.heldLow (halfKey pf 0x18) = none ∧
      (s.put4 pf 0x1C v).f R.ID_BOOT_ADDR =
        (tget (fun _ => none) s.host.heldLow (halfKey pf 0x18)).elim (s.f R.ID_BOOT_ADDR % 2 ^ 32) BitVec.toNat + 2 ^ 32 * v.toNat := by
  obtain ⟨p, he⟩ := State.put4_reached h v
  have hregs : (State.setLow { s with pwr := p } (halfKey pf 0x18) none).regs = s.regs := rfl
  obtain ⟨hf, hk, hh⟩ := State.writePair_bootAddr (State.setLow { s with pwr := p } (halfKey pf 0x18) none) pf
    (tget (fun _ => none) s.host.heldLow (halfKey pf 0x18)) v
  rw [State.f_congr hregs] at hf
  rw [he, State.write4_bootAddr]
  exact ⟨(FieldsKept.of_regs hregs).trans hk, by rw [hh]; exact State.low_setLow { s with pwr := p } _ _, hf⟩

end

end Sys2Proof.Machine

open Sys2Proof Sys2Proof.Machine

/-- Settles O60: by the checks of an access in their order (form, boot stage, world, sleeping block), each of which ends it with a
lemma about the one state that it leaves; an access past all of them is a read or a write of its word or pair of words. -/
theorem registerAccess : Obligations.RegisterAccess := by
  unfold Obligations.RegisterAccess
  intro form plain shown cleared
  refine ⟨fun pf off size full data s => ⟨?_, fun hr => ⟨?writeBad, ?writeEarly, ?writeFour, ?writeContext, ?writeEight⟩⟩,
    fun pf off size full s => ⟨?_, fun hr hoff => ⟨?readBad, ?readEarly, ?readRefused, ?readHeld, ?readFour, ?readEight⟩⟩,
    fun pf off s hal h hoff hp => ⟨?readLow, ?readHigh⟩, fun pf off data s hal h h1 hm => ?writeLow, fun pf data s h => ?writeHigh⟩
  · exact fun h => congrArg _ (regWrite_unreached h _)
  case writeBad =>
    exact fun hf => ends_of_eq (regWrite_bad hr (mt (accessOk_iff ..).mp hf) _) (s.badAccess_spec off.isLt)
  case writeEarly =>
    exact fun hf hs ha => ends_of_eq (regWrite_early hr ((accessOk_iff ..).mpr hf) (State.early_of_stage hs ha) _)
      ⟨s.flag_setB_self _ true (by decide), .setB s _ true, s.setB_eq _ true⟩
  case writeFour =>
    intro hf h4 he
    have hput := regWrite_four hr ((accessOk_iff ..).mpr hf) he h4 data.toNat
    refine ⟨fun hw => ends_of_eq (hput.trans (State.put4_refused hw _)) ?_,
      fun hw b hb => ends_of_eq (hput.trans (State.put4_held hw hb _)) ?_⟩
    · obtain ⟨hlog, hcount⟩ := State.logRefused_spec s 0xFE 0 true off.toNat
      obtain ⟨-, hmem, -⟩ := State.logRefused_frame s 0xFE 0 true off.toNat
      exact ⟨hcount, hlog.words, hmem⟩
    · obtain ⟨hacc, hmem, -, hwords⟩ := State.holdAccess_spec s ⟨b, true, pf, off.toNat, 4, data.toNat % 2 ^ 32⟩
      exact ⟨hacc, hmem, hwords⟩
  case writeContext =>
    intro hf h4 h hlo hhi h1 h2
    have hput := (regWrite_four hr ((accessOk_iff ..).mpr hf) (State.early_of_reaches h) h4 data.toNat).trans
      (State.put4_context hlo hhi h h1 h2 _)
    refine ⟨fun hw => ends_of_eq (hput.trans (State.writeWord_unassigned hlo hhi hw _ _)) fun _ => rfl,
      fun w hw ha hcfg => ⟨fun hst => ?_, fun hst hrw hc hs hl => ?_⟩⟩
    · refine ends_of_eq (hput.trans (State.writeWord_stopped hlo hhi hcfg hw _ hst)) ⟨.setWord s _ rfl, fun b hb => ?_⟩
      rw [State.word_setWord, if_pos rfl, getLsbD_mergeWord (w1s_context hlo hhi hw) _ _ _ hb, getLsbD_data _ hb]
    · exact ends_of_eq (hput.trans (State.writeWord_running hlo hhi hcfg hw _ hst hrw hc hs hl))
        (State.setB_setWord_same s (x := R.CTX_STATE_CFG_BUSY _) (show 3 + 1 ≤ 32 by decide) Nat.one_pos ha)
  case writeEight =>
    intro h8 hfull ha h
    have ha' : off.toNat = 0x18 := ha
    have hok : accessOk off.toNat size full = true := by rw [ha', h8, hfull]; rfl
    have hput := regWrite_eight hr hok (by rw [ha']; exact State.early_of_reaches h) h8 data.toNat
    rw [ha'] at hput
    obtain ⟨hwhole, hkept⟩ := State.put8_bootAddr h data.isLt
    exact ends_of_eq (by rw [ha']; exact hput) ⟨hwhole, hkept⟩
  · exact fun h => congrArg _ (regRead_unreached h)
  case readBad =>
    exact fun hf => ends_of_eq (regRead_bad hr (mt (accessOk_iff ..).mp hf)) (State.badAccess_answered hoff off.isLt)
  case readEarly =>
    intro hf hs ha
    have hread := regRead_early hr ((accessOk_iff ..).mpr hf) (State.early_of_stage hs ha)
    exact ends_of_eq (hread.trans (State.emit_readReply hoff ..)) ⟨rfl, fun _ => rfl⟩
  case readRefused =>
    intro hf h4 he hw
    have hread := regRead_four hr ((accessOk_iff ..).mpr hf) he h4
    obtain ⟨hout, hcount⟩ := State.logRefused_answered (pf := pf) (off := off.toNat) hoff false
    exact ends_of_eq (hread.trans (State.serveRead_refused hw)) ⟨⟨[], hout⟩, hcount⟩
  case readHeld =>
    intro hf h4 he hw b hb
    have hread := regRead_four hr ((accessOk_iff ..).mpr hf) he h4
    obtain ⟨hacc, -, hout, -⟩ := State.holdAccess_spec s ⟨b, false, pf, off.toNat, 4, 0⟩
    exact ends_of_eq (hread.trans (State.serveRead_held hw hb 4)) ⟨hacc, hout⟩
  case readFour =>
    intro hf h4 h hp h1 h2
    obtain ⟨p, hread⟩ := State.serveRead_four h h4
    rw [State.read4_plain hp h1 h2, State.view_pwr s p] at hread
    obtain ⟨hout, hcleared, hwords, hmem⟩ := State.rcClear_answered (pf := pf) (off := off.toNat) hoff p size (s.view pf off.toNat)
    refine ends_of_eq ((regRead_served hr ((accessOk_iff ..).mpr hf) (State.early_of_reaches h)).trans hread)
      ⟨hout, fun hs => ?_, hcleared, ?_, hmem⟩
    · obtain ⟨hplain, hfence, hmsix, hsec⟩ := hs
      exact s.view_eq_word pf hplain hfence hmsix hsec
    · exact hwords.mono fun a ha => ha.elim id fun hhalf => absurd hhalf.1 (by rw [h1]; decide)
  case readEight =>
    intro hf h8 h hnext hp h1
    obtain ⟨p, hread⟩ := State.serveRead_eight h hnext hp h1 h8
    obtain ⟨hout, hcleared, hwords, -⟩ := State.rcClear_answered (pf := pf) (off := off.toNat) hoff p size _
    exact ends_of_eq ((regRead_served hr ((accessOk_iff ..).mpr hf) (State.early_of_reaches h)).trans hread)
      ⟨hout, hcleared, hwords.mono fun a ha => ha.imp_right And.right⟩
  case readLow =>
    intro h1
    obtain ⟨hout, hcleared, hsnap⟩ := State.serveRead_low h hoff hp h1
    exact ends_of_eq (regRead_word h hal) ⟨hout, hcleared, by rw [Nat.add_assoc]; exact hsnap⟩
  case readHigh =>
    exact fun h2 v hv => ends_of_eq (regRead_word h hal) (State.serveRead_high h hoff h2 hv)
  case writeLow =>
    refine ends_of_eq (regWrite_word h hal _) ?_
    rw [BitVec.ofNat_toNat, BitVec.setWidth_eq]
    exact State.put4_low h h1 hm data
  case writeHigh =>
    refine ends_of_eq (regWrite_word h rfl _) ?_
    rw [BitVec.ofNat_toNat, BitVec.setWidth_eq]
    exact State.put4_bootAddr h data
end

section
/-!
PROOF. Fence blocks: what a request, a reply, a fence entry and a fence exit do to the fence state, and the few register
fields that they write (spec/01_architecture.md, R19 to R26).
-/
namespace Sys2Proof.Machine

/-! ## What the operations of a fence block leave alone -/

/-- `t` differs from `s` in the fence state and in the registers alone, and there in no field apart from those of `xs`. -/
structure FenceOnly (xs : List Fld) (s t : State) : Prop where
  eq : t = { s with regs := t.regs, sets := t.sets, fence := t.fence }
  fields : FieldsKept xs s t

section
variable {xs ys : List Fld} {s t u : State}

theorem FenceOnly.mono (h : FenceOnly xs s t) (hs : xs ⊆ ys) : FenceOnly ys s t := ⟨h.eq, h.fields.mono fun _ hx => hs hx⟩

theorem FenceOnly.trans (h1 : FenceOnly xs s t) (h2 : FenceOnly ys t u) : FenceOnly (xs ++ ys) s u :=
  ⟨h2.eq.trans (by rw [h1.eq]), h1.fields.trans h2.fields⟩

theorem FenceOnly.fence (s : State) (f : FenceSt) : FenceOnly [] s { s with fence := f } := ⟨rfl, .of_regs rfl⟩

theorem FenceOnly.refl (s : State) : FenceOnly [] s s := .fence s s.fence

theorem FenceOnly.setF (s : State) (x : Fld) (v : Nat) : FenceOnly [x] s (s.setF x v) :=
  ⟨by unfold State.setF; rw [State.setWordsAt_eq], .setF s x v⟩

theorem FenceOnly.setB (s : State) (x : Fld) (b : Bool) : FenceOnly [x] s (s.setB x b) :=
  ⟨by rw [State.setB_eq], .setB s x b⟩

end

/-! ## Fields and the fence state -/

/-- The fence state stands apart from the registers, so a field reads as before. -/
theorem State.f_fence (s : State) (f : FenceSt) (x : Fld) : ({ s with fence := f } : State).f x = s.f x :=
  State.f_congr (s := { s with fence := f }) (t := s) rfl x

@[simp] theorem State.epoch_fence (s : State) (f : FenceSt) (b : Nat) : ({ s with fence := f } : State).epoch b = s.epoch b :=
  State.f_fence s f _

/-! ## Leaving FENCED or OFFLINE (R26, R571) -/

/-- The two results of a block reset. -/
def bresetFlds : List Fld := [R.ID_BRESET_STATUS_BUSY, R.ID_BRESET_STATUS_RESULT]

theorem State.bresetEnd_fence (s : State) (b status : Nat) :
    ∃ r, (s.bresetEnd b status).fence = { s.fence with breset := r } := by
  unfold State.bresetEnd
  split
  · exact ⟨none, by simp⟩
  · exact ⟨s.fence.breset, rfl⟩

theorem FenceOnly.bresetEnd (s : State) (b status : Nat) : FenceOnly bresetFlds s (s.bresetEnd b status) := by
  unfold State.bresetEnd
  split
  · exact ((FenceOnly.fence s _).trans (.setB _ _ false)).trans (.setF _ _ status)
  · exact (FenceOnly.refl s).mono (by simp)

theorem State.blkLeft_fence (s : State) (b : Nat) :
    ∃ r, (s.blkLeft b).fence = { s.fence with st := tset (fun _ => .running) s.fence.st b .running, breset := r } :=
  State.bresetEnd_fence (s.setBlk b .running) b stOk

theorem State.blkLeft_blk (s : State) (b c : Nat) : (s.blkLeft b).blk c = if c = b then .running else s.blk c := by
  obtain ⟨r, hr⟩ := s.blkLeft_fence b
  simp only [State.blk, hr, tget_tset]

theorem State.blkLeft_outstanding (s : State) (b : Nat) : (s.blkLeft b).fence.outstanding = s.fence.outstanding := by
  obtain ⟨r, hr⟩ := s.blkLeft_fence b
  rw [hr]

theorem FenceOnly.blkLeft (s : State) (b : Nat) : FenceOnly bresetFlds s (s.blkLeft b) :=
  (FenceOnly.fence s _).trans (.bresetEnd _ b stOk)

/-- A block that leaves runs again unless a reply of an earlier epoch is in flight; every other block stays as it is. -/
theorem State.fenceLeave_blk (s : State) (b c : Nat) :
    (s.fenceLeave b).blk c = if c = b ∧ s.repliesOut b = false then .running else s.blk c := by
  cases ho : s.repliesOut b with
  | true => simp [State.fenceLeave, ho, State.blk]
  | false => simp [State.fenceLeave, ho, State.blkLeft_blk]; rfl

theorem FenceOnly.fenceLeave (s : State) (b : Nat) : FenceOnly bresetFlds s (s.fenceLeave b) := by
  unfold State.fenceLeave
  dsimp only
  split
  · exact (FenceOnly.fence s _).mono (by simp)
  · exact (FenceOnly.fence s _).trans (.blkLeft _ b)

theorem State.fenceLeave_outstanding (s : State) (b : Nat) : (s.fenceLeave b).fence.outstanding = s.fence.outstanding := by
  unfold State.fenceLeave
  dsimp only
  split
  · rfl
  · exact State.blkLeft_outstanding _ b

/-- A leave by R26, as FENCE_EXIT and the restart of the capture writer both make it: what it does to this block, to the others, to
the registers and to the rest of the state. -/
theorem State.fenceLeave_spec (s : State) (b : Nat) :
    (s.repliesOut b = false → (s.fenceLeave b).blk b = .running) ∧ (s.repliesOut b = true → (s.fenceLeave b).blk b = s.blk b) ∧
      (∀ c, c ≠ b → (s.fenceLeave b).blk c = s.blk c) ∧ FieldsKept bresetFlds s (s.fenceLeave b) ∧
      s.fenceLeave b = { s with regs := (s.fenceLeave b).regs, sets := (s.fenceLeave b).sets, fence := (s.fenceLeave b).fence } := by
  refine ⟨fun h => ?_, fun h => ?_, fun c hc => ?_, (FenceOnly.fenceLeave s b).fields, (FenceOnly.fenceLeave s b).eq⟩
  · rw [State.fenceLeave_blk, if_pos ⟨rfl, h⟩]
  · rw [State.fenceLeave_blk, if_neg (by simp [h])]
  · rw [State.fenceLeave_blk, if_neg (by simp [hc])]

/-! ## Replies (R25) -/

/-- Leaving out the first element equal to `a`. -/
theorem dropFirst_beq {α : Type} [BEq α] (a : α) (l : List α) : dropFirst (· == a) l = l.erase a := by
  induction l with
  | nil => rfl
  | cons x l ih => rw [dropFirst, List.erase_cons, ih]

/-- The test by which a reply finds its request is equality with the request of its block, tag and epoch. -/
theorem sameReq_eq (b : Nat) (tag : BitVec 16) (epoch : Nat) :
    (fun r : BlkReq => r.block == b && r.tag == tag && r.epoch == epoch) = (· == ⟨b, tag, epoch⟩) := by
  funext r
  obtain ⟨b', tag', epoch'⟩ := r
  rw [Bool.eq_iff_iff]
  simp [and_assoc]

theorem any_sameReq (b : Nat) (tag : BitVec 16) (epoch : Nat) (l : List BlkReq) :
    l.any (fun r => r.block == b && r.tag == tag && r.epoch == epoch) = true ↔ ⟨b, tag, epoch⟩ ∈ l := by
  rw [sameReq_eq, List.any_beq', List.contains_iff_mem]

theorem State.leaveIfSettled_outstanding (s : State) (b : Nat) : (s.leaveIfSettled b).fence.outstanding = s.fence.outstanding := by
  unfold State.leaveIfSettled
  split
  · exact State.fenceLeave_outstanding s b
  · rfl

theorem FenceOnly.leaveIfSettled (s : State) (b : Nat) : FenceOnly bresetFlds s (s.leaveIfSettled b) := by
  unfold State.leaveIfSettled
  split
  · exact .fenceLeave s b
  · exact (FenceOnly.refl s).mono (by simp)

section
variable {s : State} {b : Nat} {tag : BitVec 16} {epoch : Nat}

/-- A reply of an outstanding request closes one such request; then its block may leave. -/
theorem replyReceived_accepted (h : ⟨b, tag, epoch⟩ ∈ s.fence.outstanding) :
    ∃ f : FenceSt, f.outstanding = s.fence.outstanding.erase ⟨b, tag, epoch⟩ ∧
      replyReceived b tag epoch s = ({ s with fence := f } : State).leaveIfSettled b := by
  unfold replyReceived
  dsimp only
  rw [if_pos ((any_sameReq ..).mpr h)]
  refine ⟨_, ?_, rfl⟩
  dsimp only
  rw [sameReq_eq, dropFirst_beq]

/-- Any other reply closes none and is counted; then its block may leave. -/
theorem replyReceived_dropped (h : ⟨b, tag, epoch⟩ ∉ s.fence.outstanding) :
    ∃ f : FenceSt, f.outstanding = s.fence.outstanding ∧
      replyReceived b tag epoch s = (({ s with fence := f } : State).incSat R.ID_STALE_DROPS).leaveIfSettled b := by
  unfold replyReceived
  dsimp only
  rw [if_neg (mt (any_sameReq ..).mp h)]
  refine ⟨_, ?_, rfl⟩
  rfl

end

theorem State.f_incSat_self (s : State) (x : Fld) : (s.incSat x).f x = min (s.f x + 1) (2 ^ x.wd - 1) := by
  have hp := Nat.two_pow_pos x.wd
  exact (State.f_setF_self ..).trans (Nat.mod_eq_of_lt (by omega))

/-- The field that counts dropped replies shares no bit with the results of a block reset. -/
theorem staleDrops_apart : ∀ x ∈ bresetFlds, x.apart R.ID_STALE_DROPS := by
  unfold Fld.apart
  decide

/-! ## Fence entry (R20, R21) -/

/-- The epoch fields of two blocks share no bit. -/
theorem epochFld_apart {b c : Nat} (h : c ≠ b) : (epochFld b).apart (epochFld c) := by
  simp only [Fld.apart, epochFld, Fld.base, Fld.words]
  omega

/-- The fence state that the entry of a block leaves. -/
def FenceSt.entered (f : FenceSt) (b : Nat) (v : BlkState) : FenceSt :=
  { f with
    st := tset (fun _ => .running) f.st b v
    accepted := f.accepted.filter (fun r => r.block != b)
    replies := f.replies ++ (f.accepted.filter (fun r => r.block == b)).map (fun r => (r, stTargetReset))
    leaving := tset (fun _ => false) f.leaving b false }

theorem State.fenceEnter_eq (s : State) (b : Nat) (v : BlkState) :
    s.fenceEnter b v = ({ s with fence := s.fence.entered b v } : State).addWrap (epochFld b) 1 := rfl

theorem State.fenceEnter_fence (s : State) (b : Nat) (v : BlkState) : (s.fenceEnter b v).fence = s.fence.entered b v := by
  rw [State.fenceEnter_eq, State.addWrap_fence]

theorem State.fenceEnter_blk (s : State) (b c : Nat) (v : BlkState) :
    (s.fenceEnter b v).blk c = if c = b then v else s.blk c := by
  simp only [State.blk, State.fenceEnter_fence, FenceSt.entered, tget_tset]

theorem State.f_addWrap_self (s : State) (x : Fld) (k : Nat) : (s.addWrap x k).f x = (s.f x + k) % 2 ^ x.wd :=
  (State.f_setF_self ..).trans (Nat.mod_mod ..)

/-- The epoch of the block that enters is one higher modulo 256. -/
theorem State.fenceEnter_epoch (s : State) (b : Nat) (v : BlkState) : (s.fenceEnter b v).epoch b = (s.epoch b + 1) % 256 := by
  unfold State.epoch
  rw [State.fenceEnter_eq, State.f_addWrap_self, State.f_fence]
  rfl

theorem FenceOnly.fenceEnter (s : State) (b : Nat) (v : BlkState) : FenceOnly [epochFld b] s (s.fenceEnter b v) :=
  (FenceOnly.fence s _).trans (.setF _ (epochFld b) _)

/-! ## Requests (R19, R22, R23) -/

/-- The state with a request that waits at its requester. -/
def State.asked (s : State) (r : BlkReq) : State :=
  { s with fence := { s.fence with outstanding := s.fence.outstanding ++ [r] } }

/-- The state with a request that waits at its block (R23). -/
def State.heldReq (s : State) (r : BlkReq) : State := { s with fence := { s.fence with held := s.fence.held ++ [r] } }

/-- What becomes of a request, by the state of its block; the last case is a GATED or WAKING one. -/
theorem blockRequest_eq (s : State) {b : Nat} (hb : isBlock b = true) (tag : BitVec 16) (epoch : Nat) (answered : Bool) :
    blockRequest b tag epoch answered s =
      if s.blk b = .running then ((s.asked ⟨b, tag, epoch⟩).accept b tag answered).wakeBlk b
      else if s.blk b = .fenced then (s.asked ⟨b, tag, epoch⟩).reply ⟨b, tag, s.epoch b⟩ stTargetReset
      else if s.blk b = .offline then (s.asked ⟨b, tag, epoch⟩).reply ⟨b, tag, s.epoch b⟩ stTargetOffline
      else ((s.asked ⟨b, tag, epoch⟩).heldReq ⟨b, tag, epoch⟩).wakeBlk b := by
  have hblk : (s.asked ⟨b, tag, epoch⟩).blk b = s.blk b := rfl
  unfold State.asked at *
  simp only [blockRequest, hb, hblk, State.epoch_fence]
  cases s.blk b <;> rfl

end Sys2Proof.Machine

open Sys2Proof Sys2Proof.Machine

/-- Settles O6, by the state of the block; the wake that a request of a running or sleeping block may start leaves the fence lists,
the memories, the clocks and the messages alone. That the reply of a FENCED or OFFLINE block carries its present epoch is the model's
choice (log entry 136). -/
theorem blockRequestByState : Obligations.BlockRequestByState := by
  unfold Obligations.BlockRequestByState
  intro b tag epoch answered s hb
  have ht := blockRequest_eq s hb tag epoch.toNat answered
  have accepted := WakesOnly.wakeBlk ((s.asked ⟨b, tag, epoch.toNat⟩).accept b tag answered) b
  have held := WakesOnly.wakeBlk ((s.asked ⟨b, tag, epoch.toNat⟩).heldReq ⟨b, tag, epoch.toNat⟩) b
  cases hs : s.blk b <;> rw [hs] at ht
  case running =>
    obtain ⟨_, _, _, hw⟩ := accepted.eq
    refine ends_of_eq (ht.trans hw) ?_
    cases answered <;> simp [State.accept, State.reply, State.asked]
  case fenced | offline =>
    refine ends_of_eq ht ?_
    simp [State.reply, State.asked]
  case gated | waking =>
    obtain ⟨_, _, _, hw⟩ := held.eq
    refine ends_of_eq (ht.trans hw) ?_
    simp [State.heldReq, State.asked]

/-- Settles O7: a reply closes one request that equals it, or none; what it counts and what a leave of its block writes are fields
apart. -/
theorem replyAcceptedOrDropped : Obligations.ReplyAcceptedOrDropped := by
  unfold Obligations.ReplyAcceptedOrDropped
  intro b tag epoch s
  by_cases hr : (⟨b, tag, epoch.toNat⟩ : BlkReq) ∈ s.fence.outstanding
  · obtain ⟨f, hf, he⟩ := replyReceived_accepted hr
    have kept := (FenceOnly.fence s f).trans (.leaveIfSettled { s with fence := f } b)
    refine ends_of_eq he ⟨fun _ => ⟨?_, kept.fields _ staleDrops_apart⟩, fun hne => absurd rfl (hne _ hr), ?_, kept.eq⟩
    · rw [State.leaveIfSettled_outstanding]
      exact hf
    · exact (kept.mono (List.subset_cons_self _ _)).fields
  · obtain ⟨f, hf, he⟩ := replyReceived_dropped hr
    have counted : FenceOnly [R.ID_STALE_DROPS] s (({ s with fence := f } : State).incSat R.ID_STALE_DROPS) :=
      (FenceOnly.fence s f).trans (.setF _ _ _)
    have left := FenceOnly.leaveIfSettled (({ s with fence := f } : State).incSat R.ID_STALE_DROPS) b
    refine ends_of_eq he ⟨fun ⟨r, hmem, heq⟩ => absurd (heq ▸ hmem) hr, fun _ => ⟨?_, ?_⟩,
      (counted.trans left).fields, (counted.trans left).eq⟩
    · exact (State.leaveIfSettled_outstanding ..).trans ((congrArg FenceSt.outstanding (State.addSat_fence ..)).trans hf)
    · rw [left.fields _ staleDrops_apart, State.f_incSat_self, State.f_fence]
      rfl

/-- Settles O8: an entry rewrites the fence state outright and writes the epoch field of its block, apart from that of every other.
That the entry to OFFLINE answers TARGET_RESET too is the model's choice (log entry 135). -/
theorem fenceEntryAnswersAccepted : Obligations.FenceEntryAnswersAccepted := by
  unfold Obligations.FenceEntryAnswersAccepted
  intro b v s _ t
  have entered : FenceOnly [epochFld b] s t := .fenceEnter s b v
  have hfence : t.fence = s.fence.entered b v := State.fenceEnter_fence s b v
  refine ⟨?_, State.fenceEnter_epoch s b v, fun c _ hc => ⟨?_, ?_⟩, by rw [hfence]; rfl, by rw [hfence]; rfl,
    entered.fields, entered.eq⟩
  · exact (State.fenceEnter_blk s b b v).trans (if_pos rfl)
  · exact (State.fenceEnter_blk s b c v).trans (if_neg hc)
  · exact entered.fields (epochFld c) (by simpa using epochFld_apart hc)

/-- Settles O9: both commands are the one leave of a fenced block, whose guard their hypotheses meet. -/
theorem fenceExitWaitsForReplies : Obligations.FenceExitWaitsForReplies := by
  unfold Obligations.FenceExitWaitsForReplies
  refine ⟨fun b s hfenced hfree => ?_, fun s htick hfenced hmc0 hmc1 hacq => ?_⟩
  · exact ends_of_eq (if_pos (by simp [hfenced, hfree])) (s.fenceLeave_spec b)
  · exact ends_of_eq (if_pos (by simp [htick, hfenced, hmc0, hmc1, hacq])) (s.fenceLeave_spec 0x63)
end

section
/-!
PROOF. The reference tracker: what the operations of the clocks and the time base leave alone, and the moves of Table 2-1
(spec/02_clocks_and_time_base.md, R45 to R54).
-/
namespace Sys2Proof.Machine

/-! ## Fields -/

section
variable {xs ys : List Fld} {s t u : State}

/-- A field that shares no bit with one of `xs` reads as before, by a check on the numbers of the fields. -/
theorem FieldsKept.f_eq {y : Fld} (h : FieldsKept xs s t) (hy : ∀ x ∈ xs, x.base + 4 * x.words ≤ y.base ∨
      y.base + 4 * y.words ≤ x.base ∨ (x.base = y.base ∧ x.words = y.words ∧
        (x.lo % 32 + x.wd ≤ y.lo % 32 ∨ y.lo % 32 + y.wd ≤ x.lo % 32))) : t.f y = s.f y := h y hy

theorem State.flag_congr {x : Fld} (h : t.f x = s.f x) : t.flag x = s.flag x := by unfold State.flag; rw [h]

theorem State.fi_congr {x : Fld} (h : t.f x = s.f x) : t.fi x = s.fi x := by unfold State.fi; rw [h]

theorem satSym_bounds (i : Int) : -(2 ^ 31 - 1) ≤ satSym 32 i ∧ satSym 32 i ≤ 2 ^ 31 - 1 := by
  unfold satSym
  split_ifs <;> omega

theorem wrapInt_lt (wd : Nat) (i : Int) : wrapInt wd i < 2 ^ wd := by
  have h := Int.emod_lt_of_pos i (show (0 : Int) < 2 ^ wd by positivity)
  have h0 := Int.emod_nonneg i (show (2 : Int) ^ wd ≠ 0 by positivity)
  unfold wrapInt
  zify
  rwa [Int.toNat_of_nonneg h0]

/-- A signed field reads the limited value that was written to it. -/
theorem State.fi_setFi_sat (s : State) {x : Fld} (hx : x.wd = 32) (i : Int) :
    (s.setFi x (satSym 32 i)).fi x = satSym 32 i := by
  have hb := satSym_bounds i
  unfold State.fi State.setFi
  rw [State.f_setF_self, hx]
  unfold sext wrapInt
  split_ifs <;> omega

end

/-- The state with another clock state. -/
def State.setClk (s : State) (c : ClkSt) : State := { s with clk := c }

@[simp] theorem State.setClk_clk (s : State) (c : ClkSt) : (s.setClk c).clk = c := rfl

@[simp] theorem State.f_setClk (s : State) (c : ClkSt) (x : Fld) : (s.setClk c).f x = s.f x := State.f_congr (s := s.setClk c) (t := s) rfl x

@[simp] theorem State.flag_setClk (s : State) (c : ClkSt) (x : Fld) : (s.setClk c).flag x = s.flag x := State.flag_congr (s.f_setClk c x)

@[simp] theorem State.fi_setClk (s : State) (c : ClkSt) (x : Fld) : (s.setClk c).fi x = s.fi x := State.fi_congr (s.f_setClk c x)

/-! ## What the operations of the time base leave alone -/

/-- `t` differs from `s` in the clock state and in the registers alone, and there in no field apart from those of `xs`. -/
structure ClockOnly (xs : List Fld) (s t : State) : Prop where
  eq : t = { s with regs := t.regs, sets := t.sets, clk := t.clk }
  fields : FieldsKept xs s t

section
variable {xs ys : List Fld} {s t u : State}

theorem ClockOnly.mono (h : ClockOnly xs s t) (hs : xs ⊆ ys) : ClockOnly ys s t := ⟨h.eq, h.fields.mono fun _ hx => hs hx⟩

theorem ClockOnly.trans (h1 : ClockOnly xs s t) (h2 : ClockOnly ys t u) : ClockOnly (xs ++ ys) s u :=
  ⟨h2.eq.trans (by rw [h1.eq]), h1.fields.trans h2.fields⟩

theorem ClockOnly.clk (s : State) (c : ClkSt) : ClockOnly [] s (s.setClk c) := ⟨rfl, .of_regs rfl⟩

theorem ClockOnly.refl (s : State) : ClockOnly [] s s := .clk s s.clk

theorem ClockOnly.setF (s : State) (x : Fld) (v : Nat) : ClockOnly [x] s (s.setF x v) :=
  ⟨by unfold State.setF; rw [State.setWordsAt_eq], .setF s x v⟩

theorem ClockOnly.setFi (s : State) (x : Fld) (i : Int) : ClockOnly [x] s (s.setFi x i) := .setF s x _

theorem ClockOnly.incSat (s : State) (x : Fld) : ClockOnly [x] s (s.incSat x) := .setF s x _

theorem ClockOnly.setB (s : State) (x : Fld) (b : Bool) : ClockOnly [x] s (s.setB x b) :=
  ⟨by rw [State.setB_eq], .setB s x b⟩

theorem ClockOnly.ite {c : Prop} [Decidable c] (h1 : ClockOnly xs s t) (h2 : ClockOnly xs s u) :
    ClockOnly xs s (if c then t else u) := by split <;> assumption

end

/-- `t` differs from `s` in the clock state, in the error log and in the registers alone, and past the words of the log in no field
apart from those of `xs`. -/
structure ClockLogs (xs : List Fld) (s t : State) : Prop where
  eq : t = { s with regs := t.regs, sets := t.sets, clk := t.clk, sec := t.sec }
  fields : ∀ y : Fld, 0x5000 ≤ y.base → (∀ x ∈ xs, x.apart y) → t.f y = s.f y

section
variable {xs ys : List Fld} {s t u : State}

theorem ClockOnly.logs (h : ClockOnly xs s t) : ClockLogs xs s t := ⟨by rw [h.eq], fun y _ => h.fields y⟩

theorem ClockLogs.trans (h1 : ClockLogs xs s t) (h2 : ClockLogs ys t u) : ClockLogs (xs ++ ys) s u :=
  ⟨h2.eq.trans (by rw [h1.eq]), fun y hy h =>
    (h2.fields y hy fun x hx => h x (List.mem_append_right _ hx)).trans (h1.fields y hy fun x hx => h x (List.mem_append_left _ hx))⟩

theorem ClockLogs.mono (h : ClockLogs xs s t) (hs : xs ⊆ ys) : ClockLogs ys s t :=
  ⟨h.eq, fun y hy hx => h.fields y hy fun x h1 => hx x (hs h1)⟩

theorem ClockLogs.f_eq {y : Fld} (h : ClockLogs xs s t) (hy : 0x5000 ≤ y.base ∧ ∀ x ∈ xs, x.base + 4 * x.words ≤ y.base ∨
      y.base + 4 * y.words ≤ x.base ∨ (x.base = y.base ∧ x.words = y.words ∧
        (x.lo % 32 + x.wd ≤ y.lo % 32 ∨ y.lo % 32 + y.wd ≤ x.lo % 32))) : t.f y = s.f y := h.fields y hy.1 hy.2

/-- An entry of the error log below severity 2 changes no field past the log. -/
theorem ClockLogs.errLog (s : State) (type block code : Nat) (detail : List Nat) {sev : Nat} (h : sev < 2) :
    ClockLogs [] s (s.errLog type sev block code detail) := by
  obtain ⟨⟨r, x, he⟩, hw⟩ := State.errLog_minor s type block code detail h
  refine ⟨by rw [he], fun y hy _ => hw.f_eq fun a h1 _ hlog => ?_⟩
  unfold LogWord at hlog
  omega

end

theorem State.errLog_clk (s : State) (type block code : Nat) (detail : List Nat) {sev : Nat} (h : sev < 2) :
    (s.errLog type sev block code detail).clk = s.clk := by
  obtain ⟨⟨r, x, he⟩, -⟩ := State.errLog_minor s type block code detail h
  rw [he]

/-! ## The tracker's operations -/

section
variable (s : State)

@[simp] theorem State.syncHoldover_clk : s.syncHoldover.clk = s.clk := State.setB_clk ..

theorem ClockOnly.syncHoldover : ClockOnly [R.TB_STATE_HOLDOVER] s s.syncHoldover := .setB s _ _

@[simp] theorem State.setTracker_clk (st : Nat) : (s.setTracker st).clk = s.clk := by simp [State.setTracker]

theorem ClockOnly.setTracker (st : Nat) : ClockOnly [R.TB_STATE_STATE, R.TB_STATE_HOLDOVER] s (s.setTracker st) :=
  (ClockOnly.setF s _ st).trans (.syncHoldover _)

/-- The tracker shows the state that it moves to. -/
theorem State.setTracker_state {st : Nat} (h : st < 4) : (s.setTracker st).f R.TB_STATE_STATE = st := by
  rw [State.setTracker, (ClockOnly.syncHoldover _).fields.f_eq (by decide), State.f_setF_self]
  exact Nat.mod_eq_of_lt h

@[simp] theorem State.setSteer_clk (v : Int) : (s.setSteer v).clk = s.clk := by simp [State.setSteer]

/-- The fields that a change of the steering writes. -/
def steerFlds : List Fld := [R.TB_STEER, R.TB_STATE_STEER_LIMIT]

theorem ClockOnly.setSteer (v : Int) : ClockOnly steerFlds s (s.setSteer v) := (ClockOnly.setF s _ _).trans (.setB _ _ _)

/-- TB_STEER reads the limited value (R34). -/
theorem State.setSteer_steer (v : Int) : (s.setSteer v).fi R.TB_STEER = satSym 32 v := by
  rw [State.setSteer, State.fi_congr ((ClockOnly.setB _ _ _).fields.f_eq (by decide)), State.fi_setFi_sat s rfl]

@[simp] theorem State.steerWith_clk (base term : Int) :
    (s.steerWith base term).clk = { s.clk with slewTerm := satSym 32 (base + term) - base } := State.setSteer_clk ..

theorem ClockOnly.steerWith (base term : Int) : ClockOnly steerFlds s (s.steerWith base term) :=
  (ClockOnly.clk s _).trans (.setSteer _ _)

theorem State.steerWith_steer (base term : Int) : (s.steerWith base term).fi R.TB_STEER = satSym 32 (base + term) :=
  State.setSteer_steer _ _

/-- The fields that a slew writes. -/
def slewFlds : List Fld := [R.TB_STEER, R.TB_STATE_STEER_LIMIT, R.TB_STATE_SLEWING]

theorem State.slewSet_clk (left : Int) : ∃ term, (s.slewSet left).clk = { s.clk with slew := left, slewTerm := term } :=
  ⟨_, by rw [State.slewSet, State.setB_clk, State.steerWith_clk]⟩

theorem ClockOnly.slewSet (left : Int) : ClockOnly slewFlds s (s.slewSet left) :=
  ((ClockOnly.clk s _).trans (.steerWith _ _ _)).trans (.setB _ _ _)

theorem State.slewSet_slewing (left : Int) : (s.slewSet left).flag R.TB_STATE_SLEWING = (left != 0) :=
  State.flag_setB_self _ _ _ (by decide)

theorem State.endSlew_clk : ∃ term, s.endSlew.clk = { s.clk with slew := 0, slewTerm := term } := by
  unfold State.endSlew
  split
  next h => exact ⟨s.clk.slewTerm, by rw [← eq_of_beq h]⟩
  next => exact s.slewSet_clk 0

theorem State.endSlew_none (h : s.clk.slew = 0) : s.endSlew = s := if_pos (by simp [h])

theorem ClockOnly.endSlew : ClockOnly slewFlds s s.endSlew := by
  unfold State.endSlew
  exact .ite ((ClockOnly.refl s).mono (by simp)) (.slewSet s 0)

theorem ClockOnly.enterAcquire :
    ClockOnly (slewFlds ++ [R.TB_PBO, R.TB_STATE_STATE, R.TB_STATE_HOLDOVER]) s s.enterAcquire :=
  (((ClockOnly.endSlew s).trans (.clk _ _)).trans (.setF _ R.TB_PBO 0)).trans (.setTracker _ tbAcquire)

end

section
variable (s : State)

theorem State.enterAcquire_clk : ∃ term, s.enterAcquire.clk =
    { s.clk with slew := 0, slewTerm := term, qual := 0, near := 0, phaseSet := false } := by
  obtain ⟨term, h⟩ := s.endSlew_clk
  exact ⟨term, by simp [State.enterAcquire, h]⟩

theorem State.enterAcquire_state : s.enterAcquire.f R.TB_STATE_STATE = tbAcquire := State.setTracker_state _ (by decide)

theorem State.enterAcquire_buildOut : s.enterAcquire.f R.TB_PBO = 0 := by
  rw [State.enterAcquire, (ClockOnly.setTracker _ _).fields.f_eq (by decide), State.f_setF_self, Nat.zero_mod]

theorem State.enterAcquire_steer (h : s.clk.slew = 0) : s.enterAcquire.f R.TB_STEER = s.f R.TB_STEER := by
  rw [State.enterAcquire, s.endSlew_none h, (ClockOnly.setTracker _ _).fields.f_eq (by decide),
    (ClockOnly.setF _ _ _).fields.f_eq (by decide)]
  rfl

/-- The state as the tracker enters COAST, before the entry is logged. -/
def State.coasted : State :=
  ((s.endSlew.setClk { s.endSlew.clk with qual := 0, near := 0 }).incSat R.TB_EVENTS_COASTS).setTracker tbCoast

theorem State.enterCoast_eq (h : s.f R.TB_STATE_STATE ≠ tbCoast) : s.enterCoast =
    s.coasted.errLog 0x0A 1 0x01 0 [s.coasted.f R.CLK_LOCKLOSS, s.coasted.f R.TB_STATE] := if_neg (by simpa using h)

theorem State.enterCoast_again (h : s.f R.TB_STATE_STATE = tbCoast) : s.enterCoast = s := if_pos (by simpa using h)

/-- The fields that an entry into COAST writes, apart from the log. -/
def coastFlds : List Fld := slewFlds ++ [R.TB_EVENTS_COASTS, R.TB_STATE_STATE, R.TB_STATE_HOLDOVER]

theorem ClockOnly.coasted : ClockOnly coastFlds s s.coasted :=
  (((ClockOnly.endSlew s).trans (.clk _ _)).trans (.incSat _ _)).trans (.setTracker _ tbCoast)

theorem State.coasted_clk : ∃ term, s.coasted.clk = { s.clk with slew := 0, slewTerm := term, qual := 0, near := 0 } := by
  obtain ⟨term, h⟩ := s.endSlew_clk
  exact ⟨term, by simp [State.coasted, h]⟩

theorem ClockLogs.enterCoast : ClockLogs coastFlds s s.enterCoast := by
  by_cases h : s.f R.TB_STATE_STATE = tbCoast
  · rw [s.enterCoast_again h]
    exact ((ClockOnly.refl s).mono (by simp)).logs
  · rw [s.enterCoast_eq h]
    exact ((ClockOnly.coasted s).logs.trans (.errLog _ _ _ _ _ (by decide))).mono (by simp)

theorem State.enterCoast_state : s.enterCoast.f R.TB_STATE_STATE = tbCoast := by
  by_cases h : s.f R.TB_STATE_STATE = tbCoast
  · rw [s.enterCoast_again h, h]
  · rw [s.enterCoast_eq h, (ClockLogs.errLog _ _ _ _ _ (by decide)).f_eq (by decide)]
    exact State.setTracker_state _ (by decide)

/-- An entry into COAST touches the slew and the tracker's counts alone in the clock state. -/
theorem State.enterCoast_clk : ∃ slew term qual near,
    s.enterCoast.clk = { s.clk with slew := slew, slewTerm := term, qual := qual, near := near } := by
  by_cases h : s.f R.TB_STATE_STATE = tbCoast
  · exact ⟨_, _, _, _, by rw [s.enterCoast_again h]⟩
  · obtain ⟨term, hc⟩ := s.coasted_clk
    exact ⟨_, _, _, _, by rw [s.enterCoast_eq h, State.errLog_clk _ _ _ _ _ (by decide), hc]⟩

/-- Past the log, an entry into COAST from another state is seen as it was before it was logged. -/
theorem State.enterCoast_f (h : s.f R.TB_STATE_STATE ≠ tbCoast) {y : Fld} (hy : 0x5000 ≤ y.base) :
    s.enterCoast.f y = s.coasted.f y := by
  rw [s.enterCoast_eq h]
  exact (ClockLogs.errLog _ _ _ _ _ (by decide)).fields y hy (by simp)

/-- An entry into COAST from another state ends a slew and is counted. -/
theorem State.enterCoast_spec (h : s.f R.TB_STATE_STATE ≠ tbCoast) :
    s.enterCoast.clk.slew = 0 ∧ (s.clk.slew ≠ 0 → s.enterCoast.flag R.TB_STATE_SLEWING = false) ∧
      (s.clk.slew = 0 → s.enterCoast.f R.TB_STEER = s.f R.TB_STEER) ∧
      s.enterCoast.f R.TB_EVENTS_COASTS = min (s.f R.TB_EVENTS_COASTS + 1) (2 ^ 16 - 1) := by
  refine ⟨?_, fun hs => ?_, fun hs => ?_, ?_⟩
  · obtain ⟨term, hc⟩ := s.coasted_clk
    rw [s.enterCoast_eq h, State.errLog_clk _ _ _ _ _ (by decide), hc]
  · rw [State.flag_congr (s.enterCoast_f h (by decide)), State.coasted,
      State.flag_congr ((ClockOnly.setTracker _ _).fields.f_eq (by decide)),
      State.flag_congr ((ClockOnly.incSat _ _).fields.f_eq (by decide)), State.flag_setClk, State.endSlew,
      if_neg (by simpa using hs), State.slewSet_slewing]
    rfl
  · rw [s.enterCoast_f h (by decide), State.coasted, (ClockOnly.setTracker _ _).fields.f_eq (by decide),
      (ClockOnly.incSat _ _).fields.f_eq (by decide), State.f_setClk, s.endSlew_none hs]
  · rw [s.enterCoast_f h (by decide), State.coasted, (ClockOnly.setTracker _ _).fields.f_eq (by decide), State.f_incSat_self,
      State.f_setClk, (ClockOnly.endSlew s).fields.f_eq (by decide)]
    rfl

end

/-! ## The rows of Table 2-1 -/

section
variable (s : State) (ok : Bool) (err stepErr meas : Int) (ms : Nat)

/-- The state with the interval that closes counted: the qualified ones in a row, and those whose error is near. -/
def State.counted : State := s.setClk { s.clk with
  qual := if ok then s.clk.qual + 1 else 0
  near := if ok && decide (err.natAbs < s.f R.TB_PBO_THR) && s.clk.slew == 0 then s.clk.near + 1 else 0 }

theorem State.counted_near (hn : err.natAbs < s.f R.TB_PBO_THR) (hs : s.clk.slew = 0) :
    (s.counted true err).clk.near = s.clk.near + 1 := by simp [State.counted, hn, hs]

/-- An interval that is not qualified takes the tracker out of TRACK and REGAIN. -/
theorem State.trackerMove_unqualified : s.trackerMove false err stepErr meas ms =
    if s.f R.TB_STATE_STATE = tbAcquire then s.counted false err else (s.counted false err).enterCoast := by
  have hf : (s.counted false err).f R.TB_STATE_STATE = s.f R.TB_STATE_STATE := State.f_setClk ..
  unfold State.trackerMove
  by_cases ha : s.f R.TB_STATE_STATE = tbAcquire
  · simp [ha, State.counted, State.setClk]
  · by_cases ht : s.f R.TB_STATE_STATE = tbTrack
    · simp [ht, State.counted, State.setClk, tbAcquire, tbTrack]
    · by_cases hc : s.f R.TB_STATE_STATE = tbCoast
      · rw [State.enterCoast_again _ (hf.trans hc)]
        simp [hc, State.counted, State.setClk, tbAcquire, tbTrack, tbCoast]
      · simp [ha, ht, hc, State.counted, State.setClk]

/-- The phase step with which ACQUIRE sets PTIME (R51). -/
def State.phaseStep (meas stepErr : Int) : State :=
  let stepped := ((s.setSteer meas).recordJump (-stepErr)).setB R.TB_STATE_JUMP true
  (stepped.setClk { stepped.clk with phaseSet := true, near := 0 }).stepPtime (-(stepErr * 2 ^ 32))

/-- The rows of Table 2-1 for a qualified interval. -/
theorem State.trackerMove_qualified : s.trackerMove true err stepErr meas ms =
    let c := s.counted true err
    if s.f R.TB_STATE_STATE = tbAcquire then
      if s.clk.phaseSet = false then if s.clk.qual + 1 < s.qualN then c else c.phaseStep meas stepErr
      else if s.qualN ≤ c.clk.near then (c.updateSteer err meas).setTracker tbTrack
      else c.updateSteer err meas
    else if s.f R.TB_STATE_STATE = tbTrack then c.updateSteer err meas
    else if s.f R.TB_STATE_STATE = tbCoast then
      if s.qualN ≤ s.clk.qual + 1 then ((c.setClk { c.clk with near := 0 }).regain err).setTracker tbRegain else c
    else if s.qualN ≤ c.clk.near then c.setTracker tbTrack
    else (c.updateSteer err meas).slewOn ms := by
  unfold State.trackerMove
  simp only [beq_iff_eq, Bool.not_eq_true', Bool.not_true, Bool.true_and, decide_eq_true_eq, if_true, Bool.false_eq_true, if_false]
  rfl

theorem ClockOnly.recordJump (e : Int) : ClockOnly [R.TB_JUMP_FULL, R.TB_JUMP] s (s.recordJump e) :=
  (ClockOnly.setFi s _ e).trans (.setFi _ _ _)

/-- A phase step or regain error shows in full and limited (R51, R53). -/
theorem State.recordJump_spec (e : Int) :
    (s.recordJump e).f R.TB_JUMP_FULL = wrapInt 64 e ∧ (s.recordJump e).fi R.TB_JUMP = satSym 32 e := by
  refine ⟨?_, State.fi_setFi_sat _ rfl e⟩
  rw [State.recordJump, (ClockOnly.setFi _ _ _).fields.f_eq (by decide), State.setFi, State.f_setF_self]
  exact Nat.mod_eq_of_lt (wrapInt_lt 64 e)

@[simp] theorem State.recordJump_clk (e : Int) : (s.recordJump e).clk = s.clk := by simp [State.recordJump]

/-- The state with a regain error that is not near: it is recorded, counted and shown in JUMP. -/
def State.jumped (e : Int) : State := ((s.recordJump e).incSat R.TB_EVENTS_JUMPS).setB R.TB_STATE_JUMP true

/-- Table 2-2. -/
theorem State.regain_eq (e : Int) : s.regain e =
    if e.natAbs < s.f R.TB_PBO_THR then s.recordJump e
    else if s.f R.TB_CTRL_REGAIN = 1 ∨ (s.f R.TB_CTRL_REGAIN = 0 ∧ s.clk.mode = 1) then (s.jumped e).slewSet (1000 * e)
    else if s.f R.TB_CTRL_REGAIN = 2 then (s.jumped e).stepPtime (-(e * 2 ^ 32))
    else (s.jumped e).setFi R.TB_PBO ((s.jumped e).fi R.TB_PBO + e) := by
  unfold State.regain
  simp only [beq_iff_eq, Bool.or_eq_true, Bool.and_eq_true]
  rfl

theorem ClockOnly.jumped (e : Int) : ClockOnly [R.TB_EVENTS_JUMPS, R.TB_STATE_JUMP] (s.recordJump e) (s.jumped e) :=
  (ClockOnly.incSat _ _).trans (.setB _ _ true)

@[simp] theorem State.jumped_clk (e : Int) : (s.jumped e).clk = s.clk := by simp [State.jumped]

theorem State.jumped_spec (e : Int) : (s.jumped e).flag R.TB_STATE_JUMP = true ∧
    (s.jumped e).f R.TB_EVENTS_JUMPS = min (s.f R.TB_EVENTS_JUMPS + 1) (2 ^ 16 - 1) := by
  refine ⟨State.flag_setB_self _ _ _ (by decide), ?_⟩
  rw [State.jumped, (ClockOnly.setB _ _ _).fields.f_eq (by decide), State.f_incSat_self,
    (ClockOnly.recordJump s e).fields.f_eq (by decide)]
  rfl

theorem ClockOnly.stepPtime (d : Int) : ClockOnly [] s (s.stepPtime d) := .clk s _

/-- The fields that a regain writes after the error is recorded and shown. -/
def regainFlds : List Fld := slewFlds ++ [R.TB_PBO]

theorem ClockOnly.regain_far {e : Int} (h : ¬ e.natAbs < s.f R.TB_PBO_THR) : ClockOnly regainFlds (s.jumped e) (s.regain e) := by
  rw [State.regain_eq, if_neg h]
  split_ifs
  · exact (ClockOnly.slewSet _ _).mono (List.subset_append_left _ _)
  · exact (ClockOnly.stepPtime _ _).mono (List.nil_subset _)
  · exact (ClockOnly.setFi _ _ _).mono (List.subset_append_right _ _)

theorem ClockOnly.regain (e : Int) :
    ClockOnly ([R.TB_EVENTS_JUMPS, R.TB_STATE_JUMP] ++ regainFlds) (s.recordJump e) (s.regain e) := by
  by_cases h : e.natAbs < s.f R.TB_PBO_THR
  · rw [State.regain_eq, if_pos h]
    exact (ClockOnly.refl _).mono (List.nil_subset _)
  · exact (ClockOnly.jumped s e).trans (.regain_far s h)

/-- A regain leaves PTIME alone but with REGAIN = STEP (R53). -/
theorem State.regain_ptime (e : Int) (h : s.f R.TB_CTRL_REGAIN ≠ 2) : (s.regain e).clk.ptime = s.clk.ptime := by
  obtain ⟨term, hs⟩ := (s.jumped e).slewSet_clk (1000 * e)
  rw [State.regain_eq, if_neg h]
  split_ifs <;> simp [hs]

/-- A regain with REGAIN = SLEW begins to slew an error away that is not near (R53). -/
theorem State.regain_slew {e : Int} (h : ¬ e.natAbs < s.f R.TB_PBO_THR) (hr : s.f R.TB_CTRL_REGAIN = 1) :
    (s.regain e).clk.slew = 1000 * e ∧ (s.regain e).flag R.TB_STATE_SLEWING = (e != 0) := by
  obtain ⟨term, hs⟩ := (s.jumped e).slewSet_clk (1000 * e)
  rw [State.regain_eq, if_neg h, if_pos (.inl hr)]
  refine ⟨by rw [hs], (State.slewSet_slewing _ _).trans ?_⟩
  rw [Bool.eq_iff_iff]
  simp

/-- The fields that the tracker writes, apart from the log. -/
def trackerFlds : List Fld :=
  coastFlds ++ [R.TB_JUMP_FULL, R.TB_JUMP, R.TB_EVENTS_JUMPS, R.TB_STATE_JUMP, R.TB_PBO]

theorem ClockOnly.counted : ClockOnly [] s (s.counted ok err) := .clk s _

theorem ClockOnly.updateSteer : ClockOnly steerFlds s (s.updateSteer err meas) := .steerWith s _ _

theorem ClockOnly.phaseStep :
    ClockOnly (steerFlds ++ [R.TB_JUMP_FULL, R.TB_JUMP] ++ [R.TB_STATE_JUMP]) s (s.phaseStep meas stepErr) :=
  ((((ClockOnly.setSteer s meas).trans (.recordJump _ _)).trans (.setB _ _ true)).trans (.clk _ _)).trans (.stepPtime _ _) |>.mono
    (by simp)

theorem ClockOnly.slewOn : ClockOnly slewFlds s (s.slewOn ms) := by
  unfold State.slewOn
  exact .ite ((ClockOnly.refl s).mono (List.nil_subset _)) (.slewSet s _)

/-- A move of the tracker writes the tracker's fields and the log alone. -/
theorem ClockLogs.trackerMove : ClockLogs trackerFlds s (s.trackerMove ok err stepErr meas ms) := by
  cases ok with
  | false =>
    have counted := (ClockOnly.counted s false err).logs
    rw [State.trackerMove_unqualified]
    split_ifs
    · exact counted.mono (List.nil_subset _)
    · exact (counted.trans (.enterCoast _)).mono (List.subset_append_left _ _)
  | true =>
    have counted := ClockOnly.counted s true err
    have steered := counted.trans (.updateSteer _ err meas)
    rw [State.trackerMove_qualified]
    dsimp only
    refine ClockOnly.logs ?_
    split_ifs
    · exact counted.mono (List.nil_subset _)
    · exact (counted.trans (.phaseStep _ _ _)).mono (by decide)
    · exact (steered.trans (.setTracker _ _)).mono (by decide)
    · exact steered.mono (by decide)
    · exact steered.mono (by decide)
    · exact ((((counted.trans (.clk _ _)).trans (.recordJump _ err)).trans (.regain _ err)).trans (.setTracker _ _)).mono (by decide)
    · exact counted.mono (List.nil_subset _)
    · exact (counted.trans (.setTracker _ _)).mono (by decide)
    · exact (steered.trans (.slewOn _ _)).mono (by decide)

end

/-! ## The moves of the tracker, row by row -/

section
variable {s : State} {err stepErr meas : Int} {ms : Nat}

/-- An interval that is not qualified moves PTIME in no state, and TB_STEER only where a slew ends. -/
theorem State.unqualified_keeps : (s.trackerMove false err stepErr meas ms).clk.ptime = s.clk.ptime ∧
    (s.clk.slew = 0 → (s.trackerMove false err stepErr meas ms).f R.TB_STEER = s.f R.TB_STEER) := by
  rw [State.trackerMove_unqualified]
  split_ifs
  · exact ⟨rfl, fun _ => State.f_setClk ..⟩
  · obtain ⟨_, _, _, _, hc⟩ := (s.counted false err).enterCoast_clk
    refine ⟨by rw [hc]; rfl, fun hs => ?_⟩
    by_cases h : (s.counted false err).f R.TB_STATE_STATE = tbCoast
    · rw [State.enterCoast_again _ h]
      exact State.f_setClk ..
    · exact (((s.counted false err).enterCoast_spec h).2.2.1 hs).trans (State.f_setClk ..)

/-- TRACK and REGAIN go to COAST at an interval that is not qualified. -/
theorem State.unqualified_coasts (h : s.f R.TB_STATE_STATE = tbTrack ∨ s.f R.TB_STATE_STATE = tbRegain) :
    let t := s.trackerMove false err stepErr meas ms
    t.f R.TB_STATE_STATE = tbCoast ∧ t.clk.slew = 0 ∧ (s.clk.slew ≠ 0 → t.flag R.TB_STATE_SLEWING = false) ∧
      t.f R.TB_EVENTS_COASTS = min (s.f R.TB_EVENTS_COASTS + 1) (2 ^ 16 - 1) := by
  intro t
  obtain ⟨hacquire, hcoast⟩ : s.f R.TB_STATE_STATE ≠ tbAcquire ∧ s.f R.TB_STATE_STATE ≠ tbCoast := by
    rcases h with h | h <;> rw [h] <;> decide
  have ht : t = (s.counted false err).enterCoast := (State.trackerMove_unqualified ..).trans (if_neg hacquire)
  obtain ⟨hslew, hslewing, -, hcoasts⟩ := (s.counted false err).enterCoast_spec (ne_of_eq_of_ne (State.f_setClk ..) hcoast)
  rw [ht]
  exact ⟨State.enterCoast_state _, hslew, hslewing, by rw [hcoasts, State.counted, State.f_setClk]⟩

theorem State.acquire_unqualified (h : s.f R.TB_STATE_STATE = tbAcquire) :
    let t := s.trackerMove false err stepErr meas ms
    t.f R.TB_STATE_STATE = tbAcquire ∧ t.clk.qual = 0 := by
  intro t
  have ht : t = s.counted false err := (State.trackerMove_unqualified ..).trans (if_pos h)
  rw [ht]
  exact ⟨(State.f_setClk ..).trans h, rfl⟩

/-- COAST stays until QUAL_N qualified intervals in a row, steering and PTIME with it. -/
theorem State.coast_stays {ok : Bool} (h : s.f R.TB_STATE_STATE = tbCoast) (hq : ok = false ∨ s.clk.qual + 1 < s.qualN) :
    let t := s.trackerMove ok err stepErr meas ms
    t.f R.TB_STATE_STATE = tbCoast ∧ t.f R.TB_STEER = s.f R.TB_STEER ∧ t.clk.ptime = s.clk.ptime := by
  intro t
  have hcounted (ok : Bool) : (s.counted ok err).f R.TB_STATE_STATE = tbCoast := (State.f_setClk ..).trans h
  have ht : t = s.counted ok err := by
    cases ok with
    | false =>
      exact (State.trackerMove_unqualified ..).trans ((if_neg (by rw [h]; decide)).trans (State.enterCoast_again _ (hcounted false)))
    | true =>
      have hq' : ¬ s.qualN ≤ s.clk.qual + 1 := by simpa using hq
      simp [t, State.trackerMove_qualified, h, hq', tbAcquire, tbTrack, tbCoast]
  rw [ht]
  exact ⟨hcounted ok, State.f_setClk .., rfl⟩

/-- COAST goes to REGAIN after QUAL_N qualified intervals in a row, with the error recorded (R53). -/
theorem State.coast_regains (h : s.f R.TB_STATE_STATE = tbCoast) (hq : s.qualN ≤ s.clk.qual + 1) :
    let t := s.trackerMove true err stepErr meas ms
    t.f R.TB_STATE_STATE = tbRegain ∧ t.f R.TB_JUMP_FULL = wrapInt 64 err ∧ t.fi R.TB_JUMP = satSym 32 err ∧
      (s.f R.TB_PBO_THR ≤ err.natAbs →
        t.flag R.TB_STATE_JUMP = true ∧ t.f R.TB_EVENTS_JUMPS = min (s.f R.TB_EVENTS_JUMPS + 1) (2 ^ 16 - 1) ∧
        (s.f R.TB_CTRL_REGAIN = 1 → t.clk.slew = 1000 * err ∧ t.flag R.TB_STATE_SLEWING = (err != 0))) ∧
      (s.f R.TB_CTRL_REGAIN ≠ 2 → t.clk.ptime = s.clk.ptime) := by
  intro t
  let u := (s.counted true err).setClk { (s.counted true err).clk with near := 0 }
  have hu (x : Fld) : u.f x = s.f x := (State.f_setClk ..).trans (State.f_setClk ..)
  have ht : t = (u.regain err).setTracker tbRegain := by
    simp [t, u, State.trackerMove_qualified, h, hq, tbAcquire, tbTrack, tbCoast]
  have moved := (ClockOnly.setTracker (u.regain err) tbRegain).fields
  have recorded := (ClockOnly.regain u err).fields
  obtain ⟨hfull, hjump⟩ := u.recordJump_spec err
  have far (hfar : s.f R.TB_PBO_THR ≤ err.natAbs) : ¬ err.natAbs < u.f R.TB_PBO_THR := by rw [hu]; exact Nat.not_lt.mpr hfar
  rw [ht]
  refine ⟨State.setTracker_state _ (by decide), ?_, ?_, fun hfar => ⟨?_, ?_, fun hr => ?_⟩, fun hr => ?_⟩
  · rw [moved.f_eq (by decide), recorded.f_eq (by decide), hfull]
  · rw [State.fi_congr (moved.f_eq (by decide)), State.fi_congr (recorded.f_eq (by decide)), hjump]
  · rw [State.flag_congr (moved.f_eq (by decide)),
      State.flag_congr ((ClockOnly.regain_far u (far hfar)).fields.f_eq (by decide)), (u.jumped_spec err).1]
  · rw [moved.f_eq (by decide), (ClockOnly.regain_far u (far hfar)).fields.f_eq (by decide), (u.jumped_spec err).2, hu]
  · obtain ⟨hslew, hslewing⟩ := u.regain_slew (far hfar) (by rw [hu]; exact hr)
    rw [State.setTracker_clk, State.flag_congr (moved.f_eq (by decide))]
    exact ⟨hslew, hslewing⟩
  · rw [State.setTracker_clk, u.regain_ptime err (by rw [hu]; exact hr)]
    rfl

/-- TRACK stays at a qualified interval, and the loop steers. -/
theorem State.track_steers (h : s.f R.TB_STATE_STATE = tbTrack) :
    let t := s.trackerMove true err stepErr meas ms
    t.f R.TB_STATE_STATE = tbTrack ∧
      t.fi R.TB_STEER = satSym 32 (Config.loopSteer s.steerBase err s.loopBw meas + s.slewSteer s.clk.slew) := by
  intro t
  have ht : t = (s.counted true err).updateSteer err meas := by
    simp [t, State.trackerMove_qualified, h, tbAcquire, tbTrack]
  rw [ht]
  exact ⟨((ClockOnly.updateSteer _ _ _).fields.f_eq (by decide)).trans ((State.f_setClk ..).trans h), State.steerWith_steer ..⟩

/-- REGAIN goes to TRACK after QUAL_N near intervals in a row. -/
theorem State.regain_tracks (h : s.f R.TB_STATE_STATE = tbRegain) (hn : err.natAbs < s.f R.TB_PBO_THR)
    (hs : s.clk.slew = 0) (hq : s.qualN ≤ s.clk.near + 1) :
    let t := s.trackerMove true err stepErr meas ms
    t.f R.TB_STATE_STATE = tbTrack ∧ t.f R.TB_STEER = s.f R.TB_STEER := by
  intro t
  have ht : t = (s.counted true err).setTracker tbTrack := by
    simp [t, State.trackerMove_qualified, h, s.counted_near err hn hs, hq, tbAcquire, tbTrack, tbCoast, tbRegain]
  rw [ht]
  exact ⟨State.setTracker_state _ (by decide), ((ClockOnly.setTracker _ _).fields.f_eq (by decide)).trans (State.f_setClk ..)⟩

/-- ACQUIRE, once its phase is set, goes to TRACK after QUAL_N near intervals in a row. -/
theorem State.acquire_tracks (h : s.f R.TB_STATE_STATE = tbAcquire) (hp : s.clk.phaseSet = true)
    (hn : err.natAbs < s.f R.TB_PBO_THR) (hs : s.clk.slew = 0) (hq : s.qualN ≤ s.clk.near + 1) :
    (s.trackerMove true err stepErr meas ms).f R.TB_STATE_STATE = tbTrack := by
  have ht : s.trackerMove true err stepErr meas ms = ((s.counted true err).updateSteer err meas).setTracker tbTrack := by
    simp [State.trackerMove_qualified, h, s.counted_near err hn hs, hp, hq]
  rw [ht]
  exact State.setTracker_state _ (by decide)

end

/-- The state with what a closed interval measured shown (R46, R47). -/
def State.measured (s : State) (ok : Bool) (err : Int) : State := (s.setB R.TB_STATE_REF_OK ok).setFi R.TB_PHERR (satSym 32 err)

theorem ClockOnly.measured (s : State) (ok : Bool) (err : Int) :
    ClockOnly [R.TB_STATE_REF_OK, R.TB_PHERR] s (s.measured ok err) := (ClockOnly.setB s _ ok).trans (.setFi _ _ _)

/-- A close in HW_REF on REFIN alone is a move of the tracker on the last edge's error, between what it shows and the counts that
restart. -/
theorem intervalClose_refin (meas : Int) {s : State} (hm : s.clk.mode = 0) (hr : s.clk.relock = .idle) (hs : s.f R.TB_CTRL_SRC = 0) :
    let ok := s.intervalOk s.clk.refEdges meas
    let t := (s.measured ok s.clk.refErr).trackerMove ok s.clk.refErr s.clk.refErr meas 1
    ∃ drop pps, intervalClose meas s =
      t.setClk { t.clk with refSum := 0, refEdges := 0, dropWindow := drop, ppsEdges := pps } := by
  intro ok t
  refine ⟨!t.flag R.CLK_STATUS_LOCKED, if ptNs s.now < 1000000 then 0 else t.clk.ppsEdges, ?_⟩
  unfold intervalClose State.usesPps
  simp only [hm, hr, hs, Nat.reduceBEq, BEq.rfl, bne_self_eq_false, Bool.and_true, Bool.false_and, Bool.or_false, Bool.false_or,
    Bool.false_eq_true, if_false, decide_eq_true_eq]
  rfl

@[simp] theorem State.measured_clk (s : State) (ok : Bool) (err : Int) : (s.measured ok err).clk = s.clk := by simp [State.measured]

theorem State.measured_refOk (s : State) (ok : Bool) (err : Int) : (s.measured ok err).flag R.TB_STATE_REF_OK = ok := by
  rw [State.measured, State.flag_congr ((ClockOnly.setFi _ _ _).fields.f_eq (by decide)), State.flag_setB_self _ _ _ (by decide)]

/-- What a closed interval shows has no part in the steering that follows from it. -/
theorem State.measured_steering (s : State) (ok : Bool) (err meas : Int) (slew : Int) :
    Config.loopSteer (s.measured ok err).steerBase err (s.measured ok err).loopBw meas + (s.measured ok err).slewSteer slew =
      Config.loopSteer s.steerBase err s.loopBw meas + s.slewSteer slew := by
  have shown := (ClockOnly.measured s ok err).fields
  have hsteer : (s.measured ok err).f R.TB_STEER = s.f R.TB_STEER := shown.f_eq (by decide)
  have hsrc : (s.measured ok err).f R.TB_CTRL_SRC = s.f R.TB_CTRL_SRC := shown.f_eq (by decide)
  have hbw : (s.measured ok err).f R.TB_BW_BW = s.f R.TB_BW_BW := shown.f_eq (by decide)
  have hppb : (s.measured ok err).f R.TB_SLEW_PPB = s.f R.TB_SLEW_PPB := shown.f_eq (by decide)
  simp only [State.steerBase, State.loopBw, State.slewSteer, State.fi_congr hsteer, hsrc, hbw, hppb, State.measured_clk]

/-- A state of HW_REF on REFIN, in a state of the tracker, at the close of a qualified interval without error after many like it. -/
def atQualifiedClose (st : Nat) : State :=
  (({ clk := { refEdges := 1, qual := 255, near := 255, phaseSet := true } } : State).setB R.CLK_STATUS_LOCKED true).setF
    R.TB_STATE_STATE st

end Sys2Proof.Machine

open Sys2Proof Sys2Proof.Machine

/-- Settles O14, row by row of Table 2-1: the tracker moves from a state in which only REF_OK and TB_PHERR have changed, and after it
only counts restart. That COASTS counts the entry from REGAIN too, that the error is that of the newest edge, and what a slew takes out
of TB_STEER are the model's choices (log entries 16, 14 and 140). -/
theorem trackerMoves : Obligations.TrackerMoves := by
  unfold Obligations.TrackerMoves
  intro meas s hmode hidle hsrc
  obtain ⟨drop, pps, hclose⟩ := intervalClose_refin meas hmode hidle hsrc
  dsimp only at hclose ⊢
  generalize s.intervalOk s.clk.refEdges meas = ok at hclose ⊢
  generalize s.clk.refErr = e at hclose ⊢
  have shown := ClockOnly.measured s ok e
  have hrefOk : (s.measured ok e).flag R.TB_STATE_REF_OK = ok := s.measured_refOk ok e
  have hclk : (s.measured ok e).clk = s.clk := s.measured_clk ok e
  have hsteering := s.measured_steering ok e meas s.clk.slew
  generalize s.measured ok e = u at *
  have hstate : u.f R.TB_STATE_STATE = s.f R.TB_STATE_STATE := shown.fields.f_eq (by decide)
  have hsteer : u.f R.TB_STEER = s.f R.TB_STEER := shown.fields.f_eq (by decide)
  have hthr : u.f R.TB_PBO_THR = s.f R.TB_PBO_THR := shown.fields.f_eq (by decide)
  have hregain : u.f R.TB_CTRL_REGAIN = s.f R.TB_CTRL_REGAIN := shown.fields.f_eq (by decide)
  have hjumps : u.f R.TB_EVENTS_JUMPS = s.f R.TB_EVENTS_JUMPS := shown.fields.f_eq (by decide)
  have hcoasts : u.f R.TB_EVENTS_COASTS = s.f R.TB_EVENTS_COASTS := shown.fields.f_eq (by decide)
  have hqualN : u.qualN = s.qualN := congrArg (max 1) (shown.fields.f_eq (by decide))
  have moved := ClockLogs.trackerMove u ok e e meas 1
  refine ends_of_eq hclose ?_
  rw [← hsteering, ← hclk, ← hstate, ← hsteer, ← hthr, ← hregain, ← hjumps, ← hcoasts, ← hqualN]
  simp only [State.f_setClk, State.flag_setClk, State.fi_setClk, State.setClk_clk, decide_eq_true_eq, decide_eq_false_iff_not]
  refine ⟨?_, trivial, ?_, ?_, ?_, ?_, ?_, ?_, ?_, ?_, ?_⟩
  · rw [State.flag_congr (moved.f_eq (by decide)), hrefOk]
  · rintro rfl
    exact State.unqualified_keeps
  · rintro hst rfl
    exact State.track_steers hst
  · rintro hst rfl
    exact State.unqualified_coasts hst
  · exact fun hst hq => State.coast_stays hst hq
  · rintro hst rfl hq
    obtain ⟨hregained, hfull, hjump, hfar, hptime⟩ := State.coast_regains (err := e) (stepErr := e) (meas := meas) (ms := 1) hst hq
    refine ⟨hregained, hfull, hjump, fun hn => ?_, fun hn hr => ?_, hptime⟩
    · exact ⟨(hfar (Nat.not_lt.mp hn)).1, (hfar (Nat.not_lt.mp hn)).2.1⟩
    · exact (hfar (Nat.not_lt.mp hn)).2.2 hr
  · rintro hst rfl hn hq hs
    exact State.regain_tracks hst hn hs hq
  · rintro hst rfl
    exact State.acquire_unqualified hst
  · rintro hst hp rfl hn hs hq
    exact State.acquire_tracks hst hp hn hs hq
  · rw [moved.eq, shown.eq]
    rfl

/-- A state that meets each qualified row of Table 2-1, and the state that the tracker goes to from it. -/
theorem trackerMoves_qualified : ∀ p ∈ [(tbTrack, tbTrack), (tbCoast, tbRegain), (tbRegain, tbTrack), (tbAcquire, tbTrack)],
    Ends (exec (.trackerIntervalClose 0) (atQualifiedClose p.1)) fun t => t.f R.TB_STATE_STATE = p.2 := by
  have hok : ∀ st, st < 4 → (atQualifiedClose st).intervalOk (atQualifiedClose st).clk.refEdges 0 = true := by decide +kernel
  have hst : ∀ st, st < 4 → (atQualifiedClose st).f R.TB_STATE_STATE = st := by decide +kernel
  have hsrc : ∀ st, st < 4 → (atQualifiedClose st).f R.TB_CTRL_SRC = 0 := by decide +kernel
  have hnear : ∀ st, st < 4 → decide ((atQualifiedClose st).clk.refErr.natAbs < (atQualifiedClose st).f R.TB_PBO_THR) = true := by
    decide +kernel
  have hq : ∀ st, st < 4 → (atQualifiedClose st).qualN ≤ 256 := by decide +kernel
  intro p hp
  have hlt : p.1 < 4 := by revert p; decide
  obtain ⟨t, he, -, -, -, htrack, -, -, hcoast, hregain, -, hacquire, -⟩ :=
    trackerMoves 0 (atQualifiedClose p.1) rfl rfl (hsrc _ hlt)
  refine ⟨t, he, ?_⟩
  obtain rfl | rfl | rfl | rfl : p = (tbTrack, tbTrack) ∨ p = (tbCoast, tbRegain) ∨ p = (tbRegain, tbTrack) ∨
      p = (tbAcquire, tbTrack) := by simpa using hp
  · exact (htrack (hst _ hlt) (hok _ hlt)).1
  · exact (hcoast (hst _ hlt) (hok _ hlt) (hq _ hlt)).1
  · exact (hregain (hst _ hlt) (hok _ hlt) (hnear _ hlt) (hq _ hlt) rfl).1
  · exact hacquire (hst _ hlt) rfl (hok _ hlt) (hnear _ hlt) rfl (hq _ hlt)
end

section
/-!
PROOF. The root PLL: what a relock and its end do to the lock indication and to the settings in use, and what the commands RETUNE and
BANDSCAN leave to the rings (spec/02_clocks_and_time_base.md, R36 to R44 and R600).
-/
namespace Sys2Proof.Machine

/-! ## The lock indication (R41, R43) -/

section
variable (s : State) (b : Bool)

theorem ClockOnly.setLocked : ClockOnly [R.CLK_STATUS_LOCKED, R.CLK_STATUS_CHATTER] s (s.setLocked b) := by
  unfold State.setLocked
  dsimp only
  refine .ite ((ClockOnly.refl s).mono (List.nil_subset _)) (.ite ?_ ?_)
  · exact ((ClockOnly.clk s _).trans (.setB _ _ b)).trans (.setB _ _ true)
  · exact ((ClockOnly.clk s _).trans (.setB _ _ b)).mono (by simp)

theorem State.setLocked_locked : (s.setLocked b).flag R.CLK_STATUS_LOCKED = b := by
  unfold State.setLocked
  dsimp only
  split_ifs with h
  · exact eq_of_beq h
  · rw [State.flag_congr ((ClockOnly.setB _ _ _).fields.f_eq (by decide)), State.flag_setB_self _ _ _ (by decide)]
  · exact State.flag_setB_self _ _ _ (by decide)

/-- A change of LOCKED is noted in the clock state, which keeps the settings, the times and the tracker. -/
theorem State.setLocked_clk : ∃ changes at_ drop,
    (s.setLocked b).clk = { s.clk with lockChanges := changes, lockedAt := at_, dropWindow := drop } := by
  unfold State.setLocked
  dsimp only
  split_ifs
  · exact ⟨_, _, _, rfl⟩
  · exact ⟨_, _, _, (State.setB_clk ..).trans (State.setB_clk ..)⟩
  · exact ⟨_, _, _, State.setB_clk ..⟩

end

/-! ## What the rings write -/

/-- The words of the host interface and all above them. -/
def HostWord (off : Nat) : Prop := 0x600000 ≤ off

/-- `t` differs from `s` in the host interface, in its words and in what was sent alone. -/
structure RingsOnly (s t : State) : Prop where
  eq : ∃ r x h o, t = { s with regs := r, sets := x, host := h, out := o }
  words : WordsKept HostWord s t

namespace RingsOnly
variable {s t u : State}

theorem refl (s : State) : RingsOnly s s := ⟨⟨_, _, _, _, rfl⟩, .refl _ s⟩

theorem trans (h1 : RingsOnly s t) (h2 : RingsOnly t u) : RingsOnly s u := by
  refine ⟨?_, h1.words.trans h2.words⟩
  obtain ⟨_, _, _, _, rfl⟩ := h1.eq
  obtain ⟨_, _, _, _, rfl⟩ := h2.eq
  exact ⟨_, _, _, _, rfl⟩

theorem ite {c : Prop} [Decidable c] (h1 : RingsOnly s t) (h2 : RingsOnly s u) : RingsOnly s (if c then t else u) := by
  split <;> assumption

theorem clk (h : RingsOnly s t) : t.clk = s.clk := by
  obtain ⟨_, _, _, _, rfl⟩ := h.eq
  rfl

theorem mem (h : RingsOnly s t) : t.mem = s.mem := by
  obtain ⟨_, _, _, _, rfl⟩ := h.eq
  rfl

theorem pending (h : RingsOnly s t) : t.pending = s.pending := by
  obtain ⟨_, _, _, _, rfl⟩ := h.eq
  rfl

/-- A field below the host interface reads as before. -/
theorem f_eq (h : RingsOnly s t) {x : Fld} (hx : x.base + 4 * x.words ≤ 0x600000) : t.f x = s.f x :=
  h.words.f_eq fun a _ h2 hw => by unfold HostWord at hw; omega

theorem host (s : State) (h : HostSt) : RingsOnly s { s with host := h } := ⟨⟨_, _, _, _, rfl⟩, .of_regs rfl⟩

theorem setF (s : State) {x : Fld} (v : Nat) (h : 0x600000 ≤ x.base) : RingsOnly s (s.setF x v) :=
  ⟨⟨_, _, _, _, State.setWordsAt_eq ..⟩, .setF s v fun i _ => by unfold HostWord; omega⟩

theorem setB (s : State) {x : Fld} (b : Bool) (h : 0x600000 ≤ x.base) : RingsOnly s (s.setB x b) :=
  ⟨⟨_, _, _, _, State.setB_eq s x b⟩, .setB s b fun i _ => by unfold HostWord; omega⟩

theorem emit (s : State) (m : Msg) : RingsOnly s (s.emit m) := by
  unfold State.emit
  exact .ite (.refl s) ⟨⟨_, _, _, _, rfl⟩, .of_regs rfl⟩

theorem raise (s : State) (fn vec : Nat) : RingsOnly s (s.raise fn vec) := by
  unfold State.raise
  exact .ite (.host s _) (.emit s _)

/-- The registers of a ring lie in the host interface. -/
theorem ring_base (k : Nat) : 0x600000 ≤ (R.HI_RING_CPTR_CTAIL k).base ∧ 0x600000 ≤ (R.HI_RING_CPTR_PHASE k).base ∧
    0x600000 ≤ (R.HI_RING_STATUS_CPL_FULL k).base ∧ 0x600000 ≤ (R.HI_RING_STATUS_STATE k).base ∧
    0x600000 ≤ (R.HI_RING_PTR_HEAD k).base := by
  simp only [Fld.base, R.HI_RING_CPTR_CTAIL, R.HI_RING_CPTR_PHASE, R.HI_RING_STATUS_CPL_FULL, R.HI_RING_STATUS_STATE, R.HI_RING_PTR_HEAD]
  omega

theorem writeCpl (s : State) (k : Nat) (w : WaitCpl) : RingsOnly s (s.writeCpl k w) := by
  obtain ⟨htail, hphase, -⟩ := ring_base k
  have written (a b : Msg) (v p : Nat) :
      RingsOnly s ((((s.emit a).emit b).setF (R.HI_RING_CPTR_CTAIL k) v).setF (R.HI_RING_CPTR_PHASE k) p) :=
    (((emit s a).trans (emit _ b)).trans (setF _ v htail)).trans (setF _ p hphase)
  unfold State.writeCpl
  exact .ite ((written _ _ _ _).trans (raise _ _ _)) (written _ _ _ _)

theorem complete (s : State) (k : Nat) (tag : BitVec 16) (irq : Bool) (status steps result : Nat) :
    RingsOnly s (s.complete k tag irq status steps result) := by
  unfold State.complete
  exact .ite (.refl s) (.ite (.ite (.refl s) ((host s _).trans (setB _ true (ring_base k).2.2.1))) (writeCpl s k _))

theorem syncWork (s : State) : RingsOnly s s.syncWork := (setF s _ (by decide)).trans (setF _ _ (by decide))

theorem drainRing (s : State) (k : Nat) : RingsOnly s (s.drainRing k) := by
  unfold State.drainRing
  exact .ite (setF s _ (ring_base k).2.2.2.1) (.refl s)

theorem finishLong (s : State) (c : LongCmd) (status result : Nat) : RingsOnly s (s.finishLong c status result) := by
  unfold State.finishLong
  exact (((host s _).trans (.ite (.refl _) (complete _ _ _ _ _ _ _))).trans (syncWork _)).trans (drainRing _ _)

theorem finishOp (s : State) (opcode status result : Nat) : RingsOnly s (s.finishOp opcode status result) := by
  unfold State.finishOp
  split
  · exact .refl s
  · exact finishLong s _ status result

theorem partialEntry (s : State) (c : LongCmd) : RingsOnly s (s.partialEntry c) := by
  unfold State.partialEntry
  exact .ite (complete _ _ _ _ _ _ _) (.refl s)

theorem skipCancelled (s : State) (k n : Nat) : RingsOnly s (s.skipCancelled k n) := by
  induction n generalizing s with
  | zero => exact .refl s
  | succ n ih => exact .ite (.refl s) (((host s _).trans (setF _ _ (ring_base k).2.2.2.2)).trans (ih _))

theorem fetchCmd (s : State) (k : Nat) : RingsOnly s (s.fetchCmd k) :=
  (setF s _ (ring_base k).2.2.2.2).trans (skipCancelled _ k _)

end RingsOnly

/-! ## The start of a command of either world -/

section
variable {s : State} {k : Nat} {f : Fetch} {opcode : Nat} {masks : List Nat} {body : State → CmdRes}
  (hs : s.canStart k f.entry true = true) (hc : f.entry.clean masks = true)
include hs hc

/-- A command that its start completes. -/
theorem startCmd_completes {t : State} {status result : Nat} (hb : body (s.fetchCmd k) = resDone t status result) :
    s.startCmd k f opcode true false masks body = t.complete k f.entry.tag f.entry.irq status 1 result := by
  have hc' : ({ f.entry with opcode := BitVec.ofNat 16 opcode } : CmdEntry).clean masks = true := hc
  unfold State.startCmd
  rw [if_neg (by simp [hs])]
  dsimp only
  rw [if_neg (by simp), if_neg (by simp [hc']), hb]
  rfl

/-- A command that goes on as a long one: past its own start, the start writes the rings alone. -/
theorem startCmd_continues {t : State} (hb : body (s.fetchCmd k) = { st := t, kind := 2 }) :
    RingsOnly t (s.startCmd k f opcode true false masks body) := by
  have hc' : ({ f.entry with opcode := BitVec.ofNat 16 opcode } : CmdEntry).clean masks = true := hc
  unfold State.startCmd
  rw [if_neg (by simp [hs])]
  dsimp only
  rw [if_neg (by simp), if_neg (by simp [hc']), hb]
  exact ((RingsOnly.host t _).trans (.syncWork _)).trans (.partialEntry _ _)

end

/-! ## Unlock and relock (R36 to R39, R600) -/

theorem ClockLogs.mem {xs : List Fld} {s t : State} (h : ClockLogs xs s t) : t.mem = s.mem := by rw [h.eq]

theorem ClockLogs.pending {xs : List Fld} {s t : State} (h : ClockLogs xs s t) : t.pending = s.pending := by rw [h.eq]

theorem ClockOnly.setWordsAt (s : State) (off v : Nat) {n : Nat} (hn : 0 < n) :
    ClockOnly [⟨off, 0, 32 * n⟩] s (s.setWordsAt off n v) := by
  refine ⟨by rw [State.setWordsAt_eq], .of_wordsKept rfl (show 32 ≤ 32 * n by omega) (.setWordsAt s v fun i hi => ?_)⟩
  simp only [Fld.base, Fld.words]
  omega

section
variable (s : State)

/-- The fields that an unlock for a command writes, apart from the log. -/
def unlockFlds : List Fld := [R.CLK_STATUS_LOCKED, R.CLK_STATUS_CHATTER, R.CLK_STATUS_BUSY] ++ coastFlds

theorem ClockLogs.unlockClock (r : Relock) : ClockLogs unlockFlds s (s.unlockClock r) :=
  (((ClockOnly.setLocked s false).trans (.setB _ R.CLK_STATUS_BUSY true)).trans (.clk _ _)).logs.trans (.enterCoast _)

/-- An unlock for a command: LOCKED reads 0, BUSY reads 1 and the tracker is in COAST (R38, R39). -/
theorem State.unlockClock_spec (r : Relock) : (s.unlockClock r).flag R.CLK_STATUS_LOCKED = false ∧
    (s.unlockClock r).flag R.CLK_STATUS_BUSY = true ∧ (s.unlockClock r).f R.TB_STATE_STATE = tbCoast := by
  unfold State.unlockClock
  refine ⟨?_, ?_, State.enterCoast_state _⟩
  · rw [State.flag_congr ((ClockLogs.enterCoast _).f_eq (by decide))]
    refine (State.flag_setClk ..).trans ?_
    rw [State.flag_congr ((ClockOnly.setB _ _ _).fields.f_eq (by decide)), State.setLocked_locked]
  · rw [State.flag_congr ((ClockLogs.enterCoast _).f_eq (by decide))]
    exact (State.flag_setClk ..).trans (State.flag_setB_self _ _ _ (by decide))

theorem State.unlockClock_clk (r : Relock) : ∃ changes at_ drop slew term qual near, (s.unlockClock r).clk =
    { s.clk with relock := r, released := false, releaseDue := false, lockChanges := changes, lockedAt := at_, dropWindow := drop,
                 slew := slew, slewTerm := term, qual := qual, near := near } := by
  obtain ⟨changes, at_, drop, hl⟩ := s.setLocked_clk false
  unfold State.unlockClock
  dsimp only
  rw [State.setB_clk, hl]
  obtain ⟨slew, term, qual, near, hc⟩ := State.enterCoast_clk (((s.setLocked false).setB R.CLK_STATUS_BUSY true).setClk
    { s.clk with relock := r, released := false, releaseDue := false, lockChanges := changes, lockedAt := at_, dropWindow := drop })
  exact ⟨changes, at_, drop, slew, term, qual, near, hc⟩

theorem ClockOnly.relockTo (r : Relock) (nint nfrac band : Nat) :
    ClockOnly [R.CLK_STATUS_LOCKED, R.CLK_STATUS_CHATTER, R.CLK_STATUS_BAND_ACT] s (s.relockTo r nint nfrac band) :=
  ((ClockOnly.setLocked s false).trans (.clk _ _)).trans (.setF _ R.CLK_STATUS_BAND_ACT band)

/-- A relock begins with LOCKED at 0 and the band in use. -/
theorem State.relockTo_spec (r : Relock) (nint nfrac : Nat) {band : Nat} (h : band < 64) :
    (s.relockTo r nint nfrac band).flag R.CLK_STATUS_LOCKED = false ∧ (s.relockTo r nint nfrac band).f R.CLK_STATUS_BAND_ACT = band := by
  unfold State.relockTo
  refine ⟨?_, (State.f_setF_self ..).trans (Nat.mod_eq_of_lt h)⟩
  rw [State.flag_congr ((ClockOnly.setF _ _ _).fields.f_eq (by decide))]
  exact (State.flag_setClk ..).trans (s.setLocked_locked false)

theorem State.relockTo_clk (r : Relock) (nint nfrac band : Nat) : ∃ changes at_ drop, (s.relockTo r nint nfrac band).clk =
    { s.clk with relock := r, relockAt := s.clk.elapsed, nint := nint, nfrac := nfrac, released := false, releaseDue := false,
                 lockChanges := changes, lockedAt := at_, dropWindow := drop } := by
  obtain ⟨changes, at_, drop, hl⟩ := s.setLocked_clk false
  exact ⟨changes, at_, drop, by rw [State.relockTo, State.setF_clk, hl]⟩

/-- The fields that a return to the settings before a command writes. -/
def restoreFlds : List Fld :=
  [R.CLK_NINT_NINT, R.CLK_NFRAC, R.CLK_STATUS_LOCKED, R.CLK_STATUS_CHATTER, R.CLK_STATUS_BAND_ACT]

theorem ClockOnly.restoreClock : ClockOnly restoreFlds s s.restoreClock :=
  ((ClockOnly.setF s R.CLK_NINT_NINT _).trans (.setF _ R.CLK_NFRAC _)).trans (.relockTo _ _ _ _ _)

/-- The settings before the command are back in the registers and in use, and a relock to them runs (R600). -/
theorem State.restoreClock_spec (hn : s.clk.savedNint < 512) (hf : s.clk.savedNfrac < 2 ^ 32) (hb : s.clk.savedBand < 64) :
    let t := s.restoreClock
    t.f R.CLK_NINT_NINT = s.clk.savedNint ∧ t.f R.CLK_NFRAC = s.clk.savedNfrac ∧ t.f R.CLK_STATUS_BAND_ACT = s.clk.savedBand ∧
      t.clk.nint = s.clk.savedNint ∧ t.clk.nfrac = s.clk.savedNfrac ∧ t.clk.relock = .restore ∧ t.clk.released = false ∧
      t.flag R.CLK_STATUS_LOCKED = false ∧ t.clk.ptime = s.clk.ptime := by
  let u := (s.setF R.CLK_NINT_NINT s.clk.savedNint).setF R.CLK_NFRAC s.clk.savedNfrac
  intro t
  have ht : t = u.relockTo .restore s.clk.savedNint s.clk.savedNfrac s.clk.savedBand := by simp [t, u, State.restoreClock]
  have relocks := (ClockOnly.relockTo u .restore s.clk.savedNint s.clk.savedNfrac s.clk.savedBand).fields
  obtain ⟨hlocked, hband⟩ := u.relockTo_spec .restore s.clk.savedNint s.clk.savedNfrac hb
  obtain ⟨changes, at_, drop, hc⟩ := u.relockTo_clk .restore s.clk.savedNint s.clk.savedNfrac s.clk.savedBand
  have hu : u.clk = s.clk := by simp [u]
  rw [ht]
  refine ⟨?_, ?_, hband, by rw [hc], by rw [hc], by rw [hc], by rw [hc], hlocked, by rw [hc, hu]⟩
  · rw [relocks.f_eq (by decide), (ClockOnly.setF _ _ _).fields.f_eq (by decide), State.f_setF_self]
    exact Nat.mod_eq_of_lt hn
  · rw [relocks.f_eq (by decide), State.f_setF_self]
    exact Nat.mod_eq_of_lt hf

theorem ClockOnly.restoreTable : ClockOnly [⟨0x10100, 0, 32 * 64⟩] s s.restoreTable := .setWordsAt s _ _ (by decide)

theorem State.restoreTable_clk : s.restoreTable.clk = s.clk := State.setWordsAt_clk ..

end

/-! ## What RETUNE and BANDSCAN begin with (R36, R37) -/

section
variable {s : State}

theorem retuneStart_busy (h : s.clockInUse = true) : retuneStart s = resDone s stRefusedBusy := if_pos h

theorem bandscanStart_busy (h : s.clockInUse = true) : bandscanStart s = resDone s stRefusedBusy := if_pos h

theorem retuneStart_ratio (h : s.clockInUse = false) (hr : ratioOk (ratioOf (s.f R.CLK_NINT_NINT) (s.f R.CLK_NFRAC)) = false) :
    retuneStart s = resDone s stBadParam := by simp [retuneStart, h, hr]

theorem bandscanStart_ratio (h : s.clockInUse = false) (hr : ratioOk (ratioOf (s.f R.CLK_NINT_NINT) (s.f R.CLK_NFRAC)) = false) :
    bandscanStart s = resDone s stBadParam := by simp [bandscanStart, h, hr]

variable (h : s.clockInUse = false) (hr : ratioOk (ratioOf (s.f R.CLK_NINT_NINT) (s.f R.CLK_NFRAC)) = true)
include h hr

theorem retuneStart_noBand (hb : s.bandFor (ratioOf (s.f R.CLK_NINT_NINT) (s.f R.CLK_NFRAC)) = none) :
    retuneStart s = resDone (s.setB R.CLK_STATUS_NOBAND true) stBadParam := by simp [retuneStart, h, hr, hb]

theorem retuneStart_band {b : Nat} (hb : s.bandFor (ratioOf (s.f R.CLK_NINT_NINT) (s.f R.CLK_NFRAC)) = some b) :
    retuneStart s =
      { st := (s.saveClock.unlockClock .retune).relockTo .retune (s.f R.CLK_NINT_NINT) (s.f R.CLK_NFRAC) b, kind := 2 } := by
  simp [retuneStart, h, hr, hb]

theorem bandscanStart_scans : bandscanStart s = { st := s.saveClock.unlockClock .bandscan, kind := 2 } := by
  simp [bandscanStart, h, hr]

end

theorem ClockLogs.saveClock (s : State) : ClockLogs [] s s.saveClock := (ClockOnly.clk s _).logs

/-! ## The end of a relock (R38, R600) -/

/-- A relock that has qualified: BUSY reads 0, the capacity follows the frequency, and the dividers are due to release. -/
theorem State.relockDone_spec (s : State) : s.relockDone.flag R.CLK_STATUS_BUSY = false ∧
    s.relockDone.f R.FAB_CAPACITY = capacityOf s.clk.nint s.clk.nfrac % 2 ^ 64 ∧
    s.relockDone.clk = { s.clk with releaseDue := true, relock := .idle } := by
  refine ⟨?_, State.f_setF_self .., by simp [State.relockDone]⟩
  rw [State.relockDone, State.flag_congr ((ClockOnly.setF _ _ _).fields.f_eq (by decide)), State.flag_setB_self _ _ _ (by decide)]

theorem ClockOnly.relockDone (s : State) : ClockOnly [R.CLK_STATUS_BUSY, R.FAB_CAPACITY] s s.relockDone :=
  ((ClockOnly.clk s _).trans (.setB _ _ false)).trans (.setF _ _ _)

/-- A qualified relock ends the command that began it, if one did, and is done. -/
theorem relockQualified_eq {s : State} (h1 : s.relocking = true) (h2 : s.lockQualified = true)
    (h3 : s.clk.relock = .restore ∨ s.lockInTime = true) :
    ∃ u, RingsOnly s u ∧ relockQualified s = u.relockDone := by
  unfold relockQualified
  rw [if_neg (by simpa [h1, h2] using or_iff_not_imp_left.mp h3)]
  dsimp only
  cases s.clk.relock
  case retune => exact ⟨_, .finishOp s 0x10 stOk _, rfl⟩
  case bandscan => exact ⟨_, .finishOp s 0x11 stOk _, rfl⟩
  all_goals exact ⟨_, .refl s, rfl⟩

/-- A RETUNE or BANDSCAN that runs out of time ends, and the settings before it return. -/
theorem relockTimeout_eq {s : State} (h1 : s.relocking = true) (h2 : s.clk.relock ≠ .restore) (h3 : s.lockInTime = false)
    (h4 : s.clk.relockAt + 100000000 * nsUnit ≤ s.clk.elapsed) :
    ∃ u, RingsOnly s u ∧ relockTimeout s = u.restoreTable.restoreClock := by
  unfold relockTimeout
  rw [if_neg (by simpa [h1, h3] using h4)]
  cases hr : s.clk.relock
  case retune => exact ⟨_, .finishOp s 0x10 stTimeout 0, rfl⟩
  case bandscan => exact ⟨_, .finishOp s 0x11 stTimeout 0, rfl⟩
  case restore => exact absurd hr h2
  case idle => simp [State.relocking, hr] at h1

/-! ## A fall of LOCKED outside a command (R42) -/

section
variable (s : State)

/-- The state after a fall of LOCKED outside a command, before the loss is logged. -/
def State.lockFallen : State := ((s.setLocked false).setB R.CLK_STATUS_LOCK_LOST true).incSat R.CLK_LOCKLOSS

theorem ClockOnly.lockFallen :
    ClockOnly [R.CLK_STATUS_LOCKED, R.CLK_STATUS_CHATTER, R.CLK_STATUS_LOCK_LOST, R.CLK_LOCKLOSS] s s.lockFallen :=
  ((ClockOnly.setLocked s false).trans (.setB _ R.CLK_STATUS_LOCK_LOST true)).trans (.incSat _ R.CLK_LOCKLOSS)

theorem State.lockFallen_spec : s.lockFallen.flag R.CLK_STATUS_LOCKED = false ∧ s.lockFallen.flag R.CLK_STATUS_LOCK_LOST = true ∧
    s.lockFallen.f R.CLK_LOCKLOSS = min (s.f R.CLK_LOCKLOSS + 1) (2 ^ 32 - 1) := by
  have counted := (ClockOnly.incSat ((s.setLocked false).setB R.CLK_STATUS_LOCK_LOST true) R.CLK_LOCKLOSS).fields
  have lost := (ClockOnly.setB (s.setLocked false) R.CLK_STATUS_LOCK_LOST true).fields
  refine ⟨?_, ?_, ?_⟩
  · exact (State.flag_congr (counted.f_eq (by decide))).trans ((State.flag_congr (lost.f_eq (by decide))).trans (s.setLocked_locked false))
  · exact (State.flag_congr (counted.f_eq (by decide))).trans (State.flag_setB_self _ _ _ (by decide))
  · rw [State.lockFallen, State.f_incSat_self, lost.f_eq (by decide), (ClockOnly.setLocked s false).fields.f_eq (by decide)]
    rfl

theorem State.lockFallen_clk : ∃ changes at_ drop,
    s.lockFallen.clk = { s.clk with lockChanges := changes, lockedAt := at_, dropWindow := drop } := by
  obtain ⟨changes, at_, drop, hc⟩ := s.setLocked_clk false
  exact ⟨changes, at_, drop, by rw [State.lockFallen, State.incSat_clk, State.setB_clk, hc]⟩

theorem lockLoss_eq {s : State} (hl : s.flag R.CLK_STATUS_LOCKED = true) (hr : s.clk.relock = .idle) :
    lockLoss s = s.lockFallen.errLog 0x0A 1 0x01 0 [s.lockFallen.f R.CLK_LOCKLOSS, s.lockFallen.f R.TB_STATE] := by
  unfold lockLoss
  rw [if_neg (by simp [hl])]
  exact if_neg (by simp [hr])

end

end Sys2Proof.Machine

open Sys2Proof Sys2Proof.Machine

/-- Settles O10: a refused start completes at once; one that is made unlocks the clocks (and RETUNE relocks them) before the command
goes on in its ring, whose registers lie apart. -/
theorem retuneAndBandscanStart : Obligations.RetuneAndBandscanStart := by
  unfold Obligations.RetuneAndBandscanStart
  intro k f s hstart hclean u ratio
  have fetched : RingsOnly s u := .fetchCmd s k
  refine ⟨fun hb => ⟨?_, ?_⟩, fun hb hr => ⟨?_, ?_⟩, fun hb hr hn => ?_, fun b hlt hb hr hband => ?retune, fun hb hr => ?bandscan⟩
  · exact congrArg _ (startCmd_completes hstart hclean (retuneStart_busy hb))
  · exact congrArg _ (startCmd_completes hstart hclean (bandscanStart_busy hb))
  · exact congrArg _ (startCmd_completes hstart hclean (retuneStart_ratio hb hr))
  · exact congrArg _ (startCmd_completes hstart hclean (bandscanStart_ratio hb hr))
  · exact congrArg _ (startCmd_completes hstart hclean (retuneStart_noBand hb hr hn))
  case retune =>
    let v := u.saveClock.unlockClock .retune
    have queued := startCmd_continues (opcode := 0x10) hstart hclean (retuneStart_band hb hr hband)
    have unlocked : ClockLogs _ u v := (ClockLogs.saveClock u).trans (.unlockClock _ .retune)
    have relocks := ClockOnly.relockTo v .retune (u.f R.CLK_NINT_NINT) (u.f R.CLK_NFRAC) b
    have hold := unlocked.trans relocks.logs
    obtain ⟨-, hbusy, hcoast⟩ := u.saveClock.unlockClock_spec .retune
    obtain ⟨hlocked, hact⟩ := v.relockTo_spec .retune (u.f R.CLK_NINT_NINT) (u.f R.CLK_NFRAC) hlt
    obtain ⟨_, _, _, hrelock⟩ := v.relockTo_clk .retune (u.f R.CLK_NINT_NINT) (u.f R.CLK_NFRAC) b
    obtain ⟨_, _, _, _, _, _, _, hunlock⟩ := u.saveClock.unlockClock_clk .retune
    refine ⟨_, rfl, (State.flag_congr (queued.f_eq (by decide))).trans hlocked, ?_, (queued.f_eq (by decide)).trans hact, ?_, ?_⟩
    · rw [State.flag_congr (queued.f_eq (by decide)), State.flag_congr (relocks.fields.f_eq (by decide)), hbusy]
    · rw [queued.f_eq (by decide), relocks.fields.f_eq (by decide), hcoast]
    · rw [queued.clk, queued.mem, queued.pending, hold.mem, hold.pending, fetched.mem, fetched.pending, hrelock, hunlock,
        ← fetched.clk]
      exact ⟨rfl, rfl, rfl, rfl, rfl, rfl, rfl, rfl, rfl⟩
  case bandscan =>
    have queued := startCmd_continues (opcode := 0x11) hstart hclean (bandscanStart_scans hb hr)
    have unlocked := (ClockLogs.saveClock u).trans (.unlockClock _ .bandscan)
    obtain ⟨hlocked, hbusy, hcoast⟩ := u.saveClock.unlockClock_spec .bandscan
    obtain ⟨_, _, _, _, _, _, _, hunlock⟩ := u.saveClock.unlockClock_clk .bandscan
    refine ⟨_, rfl, (State.flag_congr (queued.f_eq (by decide))).trans hlocked, (State.flag_congr (queued.f_eq (by decide))).trans hbusy,
      (queued.f_eq (by decide)).trans hcoast, ?_⟩
    rw [queued.clk, queued.mem, queued.pending, unlocked.mem, unlocked.pending, fetched.mem, fetched.pending, hunlock, ← fetched.clk]
    exact ⟨rfl, rfl, rfl, rfl, rfl, rfl, rfl, rfl, rfl⟩

/-- Settles O11: the command that ends writes its ring alone; then the relock is done, or the settings before the command return. -/
theorem relockEnds : Obligations.RelockEnds := by
  unfold Obligations.RelockEnds
  refine ⟨fun s h1 h2 h3 => ?_, fun s h1 h2 h3 h4 hn hf hb => ?_⟩
  · obtain ⟨u, ended, he⟩ := relockQualified_eq h1 h2 h3
    have done := (ClockOnly.relockDone u).logs
    obtain ⟨hbusy, hcapacity, hclk⟩ := u.relockDone_spec
    rw [ended.clk] at hcapacity hclk
    exact ends_of_eq he ⟨hbusy, hcapacity, hclk, done.mem.trans ended.mem, done.pending.trans ended.pending⟩
  · obtain ⟨u, ended, he⟩ := relockTimeout_eq h1 h2 h3 h4
    have table := ClockOnly.restoreTable u
    have back := ClockOnly.restoreClock u.restoreTable
    have both := (table.trans back).logs
    have hclk : u.restoreTable.clk = s.clk := u.restoreTable_clk.trans ended.clk
    have settings := u.restoreTable.restoreClock_spec
    rw [hclk] at settings
    obtain ⟨hnint, hnfrac, hband, hnint', hnfrac', hrelock, hreleased, hlocked, hptime⟩ := settings hn hf hb
    refine ends_of_eq he ⟨hnint, hnfrac, hband, hnint', hnfrac', hrelock, hreleased, hlocked, ?_, hptime,
      both.mem.trans ended.mem, both.pending.trans ended.pending⟩
    rw [back.fields.f_eq (by decide), table.fields.f_eq (by decide), ended.f_eq (by decide)]

/-- Settles O12: a fall of LOCKED outside a command is shown and counted before it is logged, and the log lies apart; a rise shows
LOCKED alone. -/
theorem lockFallsAndRises : Obligations.LockFallsAndRises := by
  unfold Obligations.LockFallsAndRises
  refine ⟨fun s hlocked hidle => ?_, fun s hnet hidle => ?_⟩
  · have falls := ClockOnly.lockFallen s
    have logged := ClockLogs.errLog s.lockFallen 0x0A 0x01 0 [s.lockFallen.f R.CLK_LOCKLOSS, s.lockFallen.f R.TB_STATE]
      (sev := 1) (by decide)
    obtain ⟨hzero, hlost, hcount⟩ := s.lockFallen_spec
    obtain ⟨_, _, _, hc⟩ := s.lockFallen_clk
    have hclk := State.errLog_clk s.lockFallen 0x0A 0x01 0 [s.lockFallen.f R.CLK_LOCKLOSS, s.lockFallen.f R.TB_STATE]
      (sev := 1) (by decide)
    refine ends_of_eq (lockLoss_eq hlocked hidle) ⟨?_, ?_, ?_, ?_, ?_, ?_, (falls.logs.trans logged).eq⟩
    · exact (State.flag_congr (logged.f_eq (by decide))).trans hzero
    · exact (State.flag_congr (logged.f_eq (by decide))).trans hlost
    · exact (logged.f_eq (by decide)).trans hcount
    · exact (logged.f_eq (by decide)).trans (falls.fields.f_eq (by decide))
    · rw [hclk, hc]
    · rw [hclk, hc]
  · have rises := ClockOnly.setLocked s true
    exact ends_of_eq (if_neg (by simp [hnet, hidle])) ⟨s.setLocked_locked true, rises.fields, rises.eq⟩
end

section
/-!
PROOF. PTIME and the commands of the time base: the control cycle, loads and snapshots, reference edges, changes of mode and PPSOUT
(spec/02_clocks_and_time_base.md, R45, R46 and R55 to R62).
-/
namespace Sys2Proof.Machine

/-! ## PTIME in registers (R55) -/

theorem pt128_lt (t : Nat) : pt128 t < 2 ^ 128 := by
  unfold pt128 ptSec ptNs ptFrac secUnit nsUnit
  omega

/-- A PTIME whose fraction fits the registers reads back from them as it is. -/
theorem ptOf128_pt128 {t : Nat} (h : t < ptimeSpan) (hf : t % 2 ^ 16 = 0) : ptOf128 (pt128 t) = t := by
  unfold ptimeSpan secUnit at h
  unfold ptOf128 pt128 ptMake ptSec ptNs ptFrac ptimeSpan secUnit nsUnit
  omega

theorem ptOf128_lt (w : Nat) : ptOf128 w < ptimeSpan := Nat.mod_lt _ (by decide)

theorem ptOf128_fraction (w : Nat) : ptOf128 w % 2 ^ 16 = 0 := by
  unfold ptOf128 ptMake ptimeSpan secUnit nsUnit
  omega

section
variable (s : State) (off : Nat)

theorem Fld.words_off (n : Nat) : (⟨off, 0, 32 * n⟩ : Fld).base = off ∧ (⟨off, 0, 32 * n⟩ : Fld).words = n := by
  simp only [Fld.base, Fld.words]
  omega

/-- Whole words as a field. -/
theorem State.f_wordsAt (n : Nat) : s.f ⟨off, 0, 32 * n⟩ = s.wordsAt off n := by
  obtain ⟨hb, hw⟩ := Fld.words_off off n
  unfold State.f
  rw [hb, hw]
  simp [bitsOf, Nat.mod_eq_of_lt (s.wordsAt_lt off n)]

/-- The field of whole words reads what was written to them. -/
theorem State.f_setWordsAt_self (n v : Nat) : (s.setWordsAt off n v).f ⟨off, 0, 32 * n⟩ = v % 2 ^ (32 * n) := by
  rw [State.f_wordsAt, State.wordsAt_setWordsAt_self]

/-- A PTIME in registers is the field of its four words. -/
theorem State.ptimeAt_eq : s.ptimeAt off = ptOf128 (s.f ⟨off, 0, 128⟩) := congrArg ptOf128 (s.f_wordsAt off 4).symm

theorem State.f_setPtimeAt_self (t : Nat) : (s.setPtimeAt off t).f ⟨off, 0, 128⟩ = pt128 t :=
  (s.f_setWordsAt_self off 4 _).trans (Nat.mod_eq_of_lt (pt128_lt t))

theorem ClockOnly.setPtimeAt (t : Nat) : ClockOnly [⟨off, 0, 128⟩] s (s.setPtimeAt off t) :=
  .setWordsAt s off _ (n := 4) (by decide)

end

theorem State.loadValue_lt (s : State) : s.loadValue < ptimeSpan := ptOf128_lt _

/-! ## Loads (R59) -/

section
variable (s : State) (p : Nat)

theorem ClockOnly.loadPtime : ClockOnly [R.TB_PBO, R.TB_CTRL_LOAD] s (s.loadPtime p) :=
  ((ClockOnly.clk s _).trans (.setF _ _ 0)).trans (.setB _ _ false)

theorem State.loadPtime_clk : ∃ n log, (s.loadPtime p).clk = { s.clk with ptime := p % ptimeSpan, steps := n, stepLog := log } :=
  ⟨_, _, by rw [State.loadPtime, State.setB_clk, State.setF_clk]⟩

/-- After a load LOAD reads 0 and TB_PBO is 0. -/
theorem State.loadPtime_spec : (s.loadPtime p).flag R.TB_CTRL_LOAD = false ∧ (s.loadPtime p).f R.TB_PBO = 0 := by
  refine ⟨State.flag_setB_self _ _ _ (by decide), ?_⟩
  rw [State.loadPtime, (ClockOnly.setB _ _ _).fields.f_eq (by decide), State.f_setF_self, Nat.zero_mod]

theorem State.loadPtime_sets : (s.loadPtime p).sets = s.sets := by
  simp [State.loadPtime, State.setB]

end

/-! ## The control cycle (R39, R56) -/

/-- Equal settings give equal increments. -/
theorem State.increment_congr {s t : State} (h1 : t.clk.mode = s.clk.mode) (h2 : t.clk.incr = s.clk.incr)
    (h3 : t.clk.nint = s.clk.nint) (h4 : t.clk.nfrac = s.clk.nfrac) : t.increment = s.increment := by
  unfold State.increment
  rw [h1, h2, h3, h4]

section
variable (s : State)

/-- The notes of a control cycle change what later samples must know, in the clock state. -/
theorem State.cycleNotes_eq : ∃ rates hold unlock,
    s.cycleNotes = s.setClk { s.clk with rates := rates, holdMarks := hold, unlockMarks := unlock } := by
  unfold State.cycleNotes State.noteRate
  split_ifs
  · exact ⟨_, _, _, rfl⟩
  · exact ⟨_, _, _, rfl⟩

/-- The state with the counters of a control cycle advanced, before FAB_FC follows. -/
def State.advanced : State := s.setClk { s.clk with
  ptime := (s.now + s.increment) % ptimeSpan
  elapsed := s.clk.elapsed + s.increment
  cycles := s.clk.cycles + 1
  sampleIdx := (s.clk.sampleIdx + 80) % 2 ^ 64 }

/-- The state with PTIME advanced or loaded. -/
def State.timed : State :=
  if s.flag R.TB_CTRL_LOAD && !s.flag R.TB_CTRL_LOAD_AT_PPS then s.advanced.loadPtime s.loadValue else s.advanced

theorem State.cycleStep_eq : s.cycleStep = s.timed.addWrap R.FAB_FC 5 := rfl

theorem State.timed_run (h : s.flag R.TB_CTRL_LOAD = false ∨ s.flag R.TB_CTRL_LOAD_AT_PPS = true) : s.timed = s.advanced :=
  if_neg (by rcases h with h | h <;> simp [h])

theorem State.timed_load (h1 : s.flag R.TB_CTRL_LOAD = true) (h2 : s.flag R.TB_CTRL_LOAD_AT_PPS = false) :
    s.timed = s.advanced.loadPtime s.loadValue := if_pos (by simp [h1, h2])

theorem ClockOnly.timed : ClockOnly [R.TB_PBO, R.TB_CTRL_LOAD] s s.timed :=
  .ite ((ClockOnly.clk s _).trans (.loadPtime _ _)) ((ClockOnly.clk s _).mono (List.nil_subset _))

theorem State.timed_sets : s.timed.sets = s.sets := by
  unfold State.timed
  split
  · exact State.loadPtime_sets ..
  · rfl

/-- A load changes PTIME and the log of its steps alone among the counters. -/
theorem State.timed_clk : ∃ p n log, s.timed.clk = { s.advanced.clk with ptime := p, steps := n, stepLog := log } := by
  unfold State.timed
  split
  · obtain ⟨n, log, h⟩ := s.advanced.loadPtime_clk s.loadValue
    exact ⟨_, n, log, h⟩
  · exact ⟨_, _, _, rfl⟩

theorem ClockOnly.cycleStep : ClockOnly [R.TB_PBO, R.TB_CTRL_LOAD, R.FAB_FC] s s.cycleStep :=
  (ClockOnly.timed s).trans (.setF _ R.FAB_FC _)

/-- What a control cycle does to the counters, whether or not a load applies in it. -/
theorem State.cycleStep_counters : s.cycleStep.clk.elapsed = s.clk.elapsed + s.increment ∧
    s.cycleStep.clk.sampleIdx = (s.clk.sampleIdx + 80) % 2 ^ 64 ∧ s.cycleStep.clk.released = s.clk.released ∧
    s.cycleStep.clk.cycles = s.clk.cycles + 1 ∧ s.cycleStep.f R.FAB_FC = (s.f R.FAB_FC + 5) % 2 ^ 64 ∧
    s.cycleStep.sets = s.sets := by
  obtain ⟨p, n, log, hc⟩ := s.timed_clk
  rw [State.cycleStep_eq, State.addWrap_clk, State.addWrap_sets, State.f_addWrap_self, hc, s.timed_sets,
    (ClockOnly.timed s).fields.f_eq (by decide)]
  exact ⟨rfl, rfl, rfl, rfl, rfl, rfl⟩

/-- Without a load, PTIME moves by the increment (R56). -/
theorem State.cycleStep_run (h : s.flag R.TB_CTRL_LOAD = false ∨ s.flag R.TB_CTRL_LOAD_AT_PPS = true) :
    s.cycleStep.now = (s.now + s.increment) % ptimeSpan ∧ FieldsKept [R.FAB_FC] s s.cycleStep := by
  rw [State.cycleStep_eq, s.timed_run h]
  exact ⟨by rw [State.now, State.addWrap_clk]; rfl, ((ClockOnly.clk s _).trans (.setF _ R.FAB_FC _)).fields⟩

/-- With a load, PTIME takes the loaded value (R59). -/
theorem State.cycleStep_load (h1 : s.flag R.TB_CTRL_LOAD = true) (h2 : s.flag R.TB_CTRL_LOAD_AT_PPS = false) :
    s.cycleStep.now = s.loadValue % ptimeSpan ∧ s.cycleStep.flag R.TB_CTRL_LOAD = false ∧ s.cycleStep.f R.TB_PBO = 0 := by
  obtain ⟨n, log, hc⟩ := s.advanced.loadPtime_clk s.loadValue
  obtain ⟨hload, hpbo⟩ := s.advanced.loadPtime_spec s.loadValue
  have counted := (ClockOnly.setF (s.advanced.loadPtime s.loadValue) R.FAB_FC
    (((s.advanced.loadPtime s.loadValue).f R.FAB_FC + 5) % 2 ^ R.FAB_FC.wd)).fields
  rw [State.cycleStep_eq, s.timed_load h1 h2]
  refine ⟨by rw [State.now, State.addWrap_clk, hc], ?_, ?_⟩
  · exact (State.flag_congr (counted.f_eq (by decide))).trans hload
  · exact (counted.f_eq (by decide)).trans hpbo

/-- A control cycle with the dividers released, from the state whose notes are made. -/
theorem ptimeIncrement_released (h : s.clk.released = true) : ∃ rates hold unlock, ptimeIncrement s =
    ({ s with sets := [], clk := { s.clk with rates := rates, holdMarks := hold, unlockMarks := unlock } } : State).cycleStep := by
  obtain ⟨rates, hold, unlock, hn⟩ := ({ s with sets := [] } : State).cycleNotes_eq
  refine ⟨rates, hold, unlock, ?_⟩
  unfold ptimeIncrement
  rw [if_neg (by simp [h]), hn]
  rfl

/-- With the dividers stopped, PTIME moves on the crystal (R39). -/
theorem ptimeIncrement_stopped (h : s.clk.released = false) : ptimeIncrement s =
    if s.clk.releaseDue then ({ s with sets := [] } : State).crystalStep.releaseDividers
    else ({ s with sets := [] } : State).crystalStep := if_pos (by simp [h])

theorem State.releaseDividers_spec : s.releaseDividers.clk = { s.clk with released := true, releaseDue := false, cycles := 0 } ∧
    s.releaseDividers.f R.FAB_FC = 0 ∧ FieldsKept [R.FAB_FC] s s.releaseDividers ∧
    s.releaseDividers = { s with regs := s.releaseDividers.regs, clk := s.releaseDividers.clk } := by
  refine ⟨State.setF_clk .., State.f_setF_self .., ((ClockOnly.clk s _).trans (.setF _ R.FAB_FC 0)).fields, ?_⟩
  unfold State.releaseDividers State.setF
  rw [State.setWordsAt_eq]

end

/-! ## Reference edges (R46, R61) -/

/-- The PTIME of an edge is that of PTIME now and of the increment. -/
theorem State.timeIn_congr {s t : State} (h1 : t.now = s.now) (h2 : t.increment = s.increment) (k : Nat) :
    t.timeIn k = s.timeIn k := by
  unfold State.timeIn
  rw [h1, h2]

section
variable (s : State) (k : Nat)

/-- The state at a PPSIN edge, after the load that waits for it. -/
def State.ppsLoaded : State :=
  if s.flag R.TB_CTRL_LOAD && s.flag R.TB_CTRL_LOAD_AT_PPS
  then s.loadPtime (s.loadValue + ptimeSpan - k * s.increment / 160) else s

/-- The tracker counts and measures an edge in the clock state, where it uses PPSIN. -/
theorem State.measurePps (v : State) (e : Int) : ∃ edges err,
    (if !v.usesPps then v else v.setClk { v.clk with ppsEdges := v.clk.ppsEdges + 1, ppsErr := e }) =
      v.setClk { v.clk with ppsEdges := edges, ppsErr := err } := by
  split
  · exact ⟨_, _, rfl⟩
  · exact ⟨_, _, rfl⟩

/-- An edge is stamped, and the tracker counts and measures it in the clock state. -/
theorem ppsinEdge_eq : ∃ edges err, ppsinEdge k s = ((s.ppsLoaded k).setPtimeAt 0x110C0 ((s.ppsLoaded k).timeIn k)).setClk
    { (s.ppsLoaded k).clk with ppsEdges := edges, ppsErr := err } := by
  obtain ⟨edges, err, h⟩ := State.measurePps ((s.ppsLoaded k).setPtimeAt 0x110C0 ((s.ppsLoaded k).timeIn k))
    (phaseErr ((s.ppsLoaded k).timeIn k) 1 (((s.ppsLoaded k).setPtimeAt 0x110C0 ((s.ppsLoaded k).timeIn k)).fi R.TB_PBO))
  refine ⟨edges, err, Eq.trans ?_ (h.trans ?_)⟩
  · rfl
  · rw [State.setPtimeAt_clk]

/-- What an edge stamps, and what it leaves alone past a load that waits for it. -/
theorem ppsinEdge_spec : (ppsinEdge k s).ptimeAt 0x110C0 = ptOf128 (pt128 ((s.ppsLoaded k).timeIn k)) ∧
    (∃ edges err, (ppsinEdge k s).clk = { (s.ppsLoaded k).clk with ppsEdges := edges, ppsErr := err }) ∧
    ClockOnly [⟨0x110C0, 0, 128⟩] (s.ppsLoaded k) (ppsinEdge k s) := by
  obtain ⟨edges, err, he⟩ := ppsinEdge_eq s k
  generalize s.ppsLoaded k = u at he ⊢
  rw [he]
  refine ⟨?_, ⟨edges, err, rfl⟩, (ClockOnly.setPtimeAt u _ _).trans (.clk _ _)⟩
  rw [State.ptimeAt_eq, State.f_setClk, State.f_setPtimeAt_self]

/-- A load that waits for the edge. -/
theorem State.ppsLoaded_load (h1 : s.flag R.TB_CTRL_LOAD = true) (h2 : s.flag R.TB_CTRL_LOAD_AT_PPS = true) :
    s.ppsLoaded k = s.loadPtime (s.loadValue + ptimeSpan - k * s.increment / 160) := if_pos (by simp [h1, h2])

theorem State.ppsLoaded_none (h : s.flag R.TB_CTRL_LOAD = false ∨ s.flag R.TB_CTRL_LOAD_AT_PPS = false) : s.ppsLoaded k = s :=
  if_neg (by rcases h with h | h <;> simp [h])

theorem ClockOnly.ppsLoaded : ClockOnly [R.TB_PBO, R.TB_CTRL_LOAD] s (s.ppsLoaded k) :=
  .ite (.loadPtime s _) ((ClockOnly.refl s).mono (List.nil_subset _))

/-- A loaded PTIME holds at the edge itself: the part of the cycle before the edge is taken off at its start. -/
theorem State.timeIn_ppsLoaded (hk : k < 160) (hi : s.increment ≤ ptimeSpan) (h1 : s.flag R.TB_CTRL_LOAD = true)
    (h2 : s.flag R.TB_CTRL_LOAD_AT_PPS = true) : (s.ppsLoaded k).timeIn k = s.loadValue := by
  have hlead : k * s.increment / 160 ≤ ptimeSpan := by
    have : k * s.increment ≤ 160 * ptimeSpan := Nat.mul_le_mul hk.le hi
    omega
  have hl := s.ppsLoaded_load k h1 h2
  obtain ⟨n, log, hc⟩ := s.loadPtime_clk (s.loadValue + ptimeSpan - k * s.increment / 160)
  have hinc : (s.ppsLoaded k).increment = s.increment := by rw [hl]; apply State.increment_congr <;> rw [hc]
  rw [State.timeIn, hinc, State.now, hl, hc]
  dsimp only
  rw [Nat.mod_add_mod, Nat.sub_add_cancel (by omega), Nat.add_mod_right]
  exact Nat.mod_eq_of_lt s.loadValue_lt

end

/-! ## Changes of mode (R50, R58) -/

section
variable (s : State)

/-- HOLDOVER in SW follows SERVO_OK (R382). -/
theorem State.syncHoldover_sw (h : s.clk.mode = 2) : s.syncHoldover.flag R.TB_STATE_HOLDOVER = !s.flag R.NT_CTRL_SERVO_OK := by
  rw [State.syncHoldover, State.flag_setB_self _ _ _ (by decide), if_pos (by simp [h])]

/-- The state with another mode in force; the edges of the present interval count no more. -/
def State.inMode (m : Nat) : State := s.setClk { s.clk with mode := m, refEdges := 0, ppsEdges := 0 }

/-- The state with the slew and TB_STEER removed. -/
def State.unsteered : State := ((s.setClk { s.clk with slew := 0, slewTerm := 0 }).setB R.TB_STATE_SLEWING false).setSteer 0

/-- The increment with which SW keeps the rate of TB_STEER: I_nom scaled by what the steering adds to the ageing. -/
def State.swIncr : Nat :=
  (roundDiv (iNom s.clk.nint s.clk.nfrac * (2 ^ 44 + satSym 32 (s.fi R.TB_AGE) + s.fi R.TB_STEER))
    (2 ^ 44 + satSym 32 (s.fi R.TB_AGE))).toNat

/-- The state with an increment in NT_INCR and in force. -/
def State.withIncr (inc : Nat) : State :=
  (s.setF R.NT_INCR_INCR inc).setClk { s.clk with incr := inc, servoAt := s.clk.elapsed }

/-- The state on entry to SW (R58, R382). -/
def State.enteredSw (inc : Nat) : State := (((s.inMode 2).unsteered.withIncr inc).setB R.NT_CTRL_SERVO_OK false).syncHoldover

theorem ClockOnly.unsteered : ClockOnly [R.TB_STATE_SLEWING, R.TB_STEER, R.TB_STATE_STEER_LIMIT] s s.unsteered :=
  ((ClockOnly.clk s _).trans (.setB _ R.TB_STATE_SLEWING false)).trans (.setSteer _ 0)

theorem ClockOnly.withIncr (inc : Nat) : ClockOnly [R.NT_INCR_INCR] s (s.withIncr inc) := (ClockOnly.setF s _ inc).trans (.clk _ _)

@[simp] theorem State.unsteered_clk : s.unsteered.clk = { s.clk with slew := 0, slewTerm := 0 } := by simp [State.unsteered]

theorem State.unsteered_steer : s.unsteered.f R.TB_STEER = 0 := by
  rw [State.unsteered, State.setSteer, (ClockOnly.setB _ _ _).fields.f_eq (by decide), State.setFi, State.f_setF_self]
  rfl

variable {s} (ht : s.atTick = true)
include ht

theorem tbModeChange_sw (h : s.f R.TB_CTRL_MODE = 2) (hne : s.clk.mode ≠ 2) :
    tbModeChange s = s.enteredSw s.swIncr := by
  unfold tbModeChange
  rw [if_neg (by simp [ht, h, hne.symm]), if_pos (by simp [h]), h]
  unfold State.enteredSw State.withIncr
  rw [State.unsteered_clk]
  rfl

theorem tbModeChange_hwRef (h : s.f R.TB_CTRL_MODE = 0) (hne : s.clk.mode ≠ 0) :
    tbModeChange s = (s.inMode 0).enterAcquire := by
  unfold tbModeChange
  rw [if_neg (by simp [ht, h, hne.symm]), if_neg (by simp [h]), if_pos (by simp [h]), h]
  rfl

theorem tbModeChange_link (h : s.f R.TB_CTRL_MODE = 1) (hne : s.clk.mode ≠ 1) : tbModeChange s = (s.inMode 1).syncHoldover := by
  unfold tbModeChange
  rw [if_neg (by simp [ht, h, hne.symm]), if_neg (by simp [h]), if_neg (by simp [h]), h]
  rfl

end

section
variable (s : State) (inc : Nat)

theorem ClockOnly.enteredSw : ClockOnly [R.TB_STATE_SLEWING, R.TB_STEER, R.TB_STATE_STEER_LIMIT, R.NT_INCR_INCR,
    R.NT_CTRL_SERVO_OK, R.TB_STATE_HOLDOVER] s (s.enteredSw inc) :=
  ((((ClockOnly.clk s _).trans (.unsteered _)).trans (.withIncr _ inc)).trans (.setB _ R.NT_CTRL_SERVO_OK false)).trans (.syncHoldover _)

theorem State.enteredSw_clk : (s.enteredSw inc).clk = { s.clk with
    mode := 2, refEdges := 0, ppsEdges := 0, slew := 0, slewTerm := 0, incr := inc, servoAt := s.clk.elapsed } := by
  simp [State.enteredSw, State.withIncr, State.inMode]

theorem State.enteredSw_spec : (s.enteredSw inc).f R.TB_STEER = 0 ∧ (s.enteredSw inc).flag R.NT_CTRL_SERVO_OK = false ∧
    (s.enteredSw inc).flag R.TB_STATE_HOLDOVER = true ∧ (s.enteredSw inc).f R.NT_INCR_INCR = inc % 2 ^ 56 := by
  let v := (s.inMode 2).unsteered.withIncr inc
  have servo := (ClockOnly.setB v R.NT_CTRL_SERVO_OK false).fields
  have shown := (ClockOnly.syncHoldover (v.setB R.NT_CTRL_SERVO_OK false)).fields
  have hservo : (v.setB R.NT_CTRL_SERVO_OK false).flag R.NT_CTRL_SERVO_OK = false := State.flag_setB_self _ _ _ (by decide)
  refine ⟨?_, (State.flag_congr (shown.f_eq (by decide))).trans hservo, ?_, ?_⟩
  · refine (shown.f_eq (by decide)).trans ((servo.f_eq (by decide)).trans ?_)
    exact ((ClockOnly.withIncr _ inc).fields.f_eq (by decide)).trans (State.unsteered_steer _)
  · have hmode : (v.setB R.NT_CTRL_SERVO_OK false).clk.mode = 2 := by simp [v, State.withIncr, State.inMode]
    rw [State.enteredSw, State.syncHoldover_sw _ hmode, hservo]
    rfl
  · refine (shown.f_eq (by decide)).trans ((servo.f_eq (by decide)).trans ?_)
    exact (State.f_setClk ..).trans (State.f_setF_self ..)

end

/-- A change of mode at an alignment tick, by the mode that it puts in force. -/
theorem tbModeChange_spec {s : State} (ht : s.atTick = true) (hne : s.f R.TB_CTRL_MODE ≠ s.clk.mode)
    (h3 : s.f R.TB_CTRL_MODE ≠ 3) : Ends (exec .tbModeChange s) fun t =>
      t.clk.mode = s.f R.TB_CTRL_MODE ∧ t.now = s.now ∧ t.clk.elapsed = s.clk.elapsed ∧
      (s.f R.TB_CTRL_MODE = 2 → t.f R.TB_STEER = 0 ∧ t.flag R.NT_CTRL_SERVO_OK = false ∧ t.flag R.TB_STATE_HOLDOVER = true ∧
        t.clk.incr = s.swIncr ∧ t.f R.NT_INCR_INCR = t.clk.incr % 2 ^ 56) ∧
      (s.f R.TB_CTRL_MODE = 0 → t.f R.TB_STATE_STATE = tbAcquire ∧ t.f R.TB_PBO = 0 ∧
        (s.clk.slew = 0 → t.f R.TB_STEER = s.f R.TB_STEER)) ∧
      (s.f R.TB_CTRL_MODE = 1 → FieldsKept [R.TB_STATE_HOLDOVER] s t) ∧
      t = { s with regs := t.regs, sets := t.sets, clk := t.clk } := by
  have hlt : s.f R.TB_CTRL_MODE < 4 := State.f_lt s _
  obtain h | h | h : s.f R.TB_CTRL_MODE = 0 ∨ s.f R.TB_CTRL_MODE = 1 ∨ s.f R.TB_CTRL_MODE = 2 := by omega
  all_goals rw [h] at hne ⊢
  · obtain ⟨term, hc⟩ := (s.inMode 0).enterAcquire_clk
    refine ends_of_eq (tbModeChange_hwRef ht h hne.symm) ⟨by rw [hc]; rfl, by rw [State.now, hc]; rfl, by rw [hc]; rfl,
      nofun, fun _ => ⟨State.enterAcquire_state _, State.enterAcquire_buildOut _, fun hs => ?_⟩, nofun,
      ((ClockOnly.clk s _).trans (.enterAcquire _)).eq⟩
    exact ((s.inMode 0).enterAcquire_steer hs).trans (State.f_setClk ..)
  · have enters := (ClockOnly.clk s _).trans (.syncHoldover (s.inMode 1))
    have hc := (s.inMode 1).syncHoldover_clk
    exact ends_of_eq (tbModeChange_link ht h hne.symm) ⟨by rw [hc]; rfl, by rw [State.now, hc]; rfl, by rw [hc]; rfl,
      nofun, nofun, fun _ => enters.fields, enters.eq⟩
  · have hc := s.enteredSw_clk s.swIncr
    obtain ⟨hsteer, hservo, hhold, hincr⟩ := s.enteredSw_spec s.swIncr
    exact ends_of_eq (tbModeChange_sw ht h hne.symm) ⟨by rw [hc], by rw [State.now, hc]; rfl, by rw [hc],
      fun _ => ⟨hsteer, hservo, hhold, by rw [hc], by rw [hc, hincr]⟩,
      nofun, nofun, (ClockOnly.enteredSw s _).eq⟩

/-! ## SNAP and LOAD (R59, R60) -/

/-- A field of one word is bits of that word. -/
theorem State.f_word (s : State) {x : Fld} (h : x.words = 1) : s.f x = bitsOf (s.word x.base).toNat (x.lo % 32) x.wd := by
  unfold State.f
  rw [h]
  rfl

/-- Setting one bit of a number. -/
theorem putBits_one (n i : Nat) : putBits n i 1 1 = n ||| 2 ^ i := by
  refine Nat.eq_of_testBit_eq fun j => ?_
  have hbit (m : Nat) : m.testBit j = decide (bitsOf m j 1 = 1) := Nat.testBit_eq_decide_div_mod_eq
  rw [Nat.testBit_or, Nat.testBit_two_pow]
  by_cases h : i = j
  · subst h
    rw [hbit, bitsOf_putBits_self]
    simp
  · rw [hbit, bitsOf_putBits_apart _ _ _ _ _ _ (by omega), ← hbit]
    simp [h]

/-- A word written with one more bit set is the bit set. -/
theorem State.setWord_or_bit (s : State) (off : Nat) {i : Nat} (hi : i < 32) :
    s.setWord off (s.word off ||| BitVec.ofNat 32 (2 ^ i)) = s.setF ⟨off, i, 1⟩ 1 := by
  have hb : (⟨off, i, 1⟩ : Fld).base = off := by simp only [Fld.base]; omega
  have hw : (⟨off, i, 1⟩ : Fld).words = 1 := by simp only [Fld.words]; omega
  unfold State.setF
  rw [hb, hw]
  change _ = s.setWord off (BitVec.ofNat 32 (putBits ((s.word off).toNat + 2 ^ 32 * 0) (i % 32) 1 1))
  rw [Nat.mod_eq_of_lt hi, Nat.mul_zero, Nat.add_zero, putBits_one, BitVec.ofNat_or, BitVec.ofNat_toNat, BitVec.setWidth_eq]

/-- Writing the value that a field of one word has changes no field. -/
theorem FieldsKept.setF_same (s : State) {x : Fld} (h : x.words = 1) : FieldsKept [] s (s.setF x (s.f x)) := by
  refine .of_words fun a => ?_
  have hput (n : Nat) : putBits n (x.lo % 32) x.wd (bitsOf n (x.lo % 32) x.wd) = n := by
    have hsplit := bits_split n (x.lo % 32) x.wd
    rw [putBits_eq, Nat.mod_eq_of_lt (bitsOf_lt ..), ← hsplit]
  rw [s.f_word h]
  unfold State.setF
  rw [h]
  change (s.setWord x.base (BitVec.ofNat 32 (putBits (s.word x.base).toNat (x.lo % 32) x.wd _))).word a = _
  rw [hput, BitVec.ofNat_toNat, BitVec.setWidth_eq, State.word_setWord]
  split
  next ha => rw [ha]
  next => rfl

/-- A word written with write-1-to-set bits beside the bits that it has. -/
theorem mergeWord_or {w : WordSpec} (hc : w.w1c = 0) (keep old x : BitVec 32) (hx : BitVec.ofNat 32 w.w1s &&& x = x) :
    mergeWord w 0 keep old (old ||| x) = old ||| x := by
  refine BitVec.eq_of_getLsbD_eq fun b hb => ?_
  have hxb : ((BitVec.ofNat 32 w.w1s).getLsbD b && x.getLsbD b) = x.getLsbD b := by rw [← BitVec.getLsbD_and, hx]
  have hzero : (BitVec.ofNat 32 0).getLsbD b = false := BitVec.getLsbD_zero
  simp only [mergeWord, hc, BitVec.getLsbD_or, BitVec.getLsbD_and, BitVec.getLsbD_not, hb, hzero, decide_true,
    Bool.true_and, Bool.false_and, Bool.or_false]
  generalize ((BitVec.ofNat 32 w.rw).getLsbD b || (BitVec.ofNat 32 w.rwl).getLsbD b) = writable
  generalize (BitVec.ofNat 32 w.w1s).getLsbD b = sets at hxb ⊢
  generalize x.getLsbD b = bit at hxb ⊢
  cases writable <;> cases bit <;> simp_all

section
variable {s : State} {pf off : Nat}

/-- The state with the times of the domains' last accesses noted (R509). -/
def State.used (s : State) (l : Tbl Nat) : State := { s with pwr := { s.pwr with lastUse := l } }

theorem State.used_kept (s : State) (l : Tbl Nat) : FieldsKept [] s (s.used l) := .of_regs rfl

/-- An access to a block whose domain is not gated notes its time alone, with the domain. -/
theorem State.touch_lastUse (h : ∀ b, gatedBlock off = some b → s.domState (domOf b) ≠ dGated) :
    ∃ l, s.touch off = s.used l := by
  unfold State.touch
  cases hb : gatedBlock off with
  | none => exact ⟨s.pwr.lastUse, rfl⟩
  | some b => exact ⟨_, if_pos (by simp [h b hb])⟩

/-- A 4-byte write of TB_CTRL that meets no refusal writes its word. -/
theorem regWrite_tbCtrl (h : s.Opens pf 0x11000) (v : BitVec 32) : ∃ l, regWrite pf 0x11000 4 true v.toNat s =
    (s.used l).writeWord pf 0x11000 v := by
  obtain ⟨hreach, -, -⟩ := h
  have hput := regWrite_word hreach (by decide) v.toNat
  obtain ⟨-, -, hworld, hholds, hsec, hdom⟩ := hreach
  obtain ⟨l, hl⟩ := State.touch_lastUse hdom
  refine ⟨l, hput.trans ?_⟩
  rw [BitVec.ofNat_toNat, BitVec.setWidth_eq]
  simp only [State.put4, hworld, hholds, hsec, hl, Bool.false_eq_true, if_false]
  rfl

/-- TB_CTRL written with LOAD or SNAP set beside the bits that it has: the bit is set, and then the write has its effect. -/
theorem State.writeWord_tbCtrl (hcfg : s.cfgHolds 0x11000 = false) {i : Nat} (hi : i = 7 ∨ i = 9) :
    s.writeWord pf 0x11000 (s.word 0x11000 ||| BitVec.ofNat 32 (2 ^ i)) =
      (s.setF ⟨0x11000, i, 1⟩ 1).wroteClock 0x11000 (s.word 0x11000).toNat (s.word 0x11000 ||| BitVec.ofNat 32 (2 ^ i)).toNat := by
  obtain ⟨w, hw, hl, hc, hs⟩ : ∃ w, writeSpec 0x11000 = some w ∧ w.rwl = 0 ∧ w.w1c = 0 ∧ w.w1s = 0x280 := ⟨_, rfl, rfl, rfl, rfl⟩
  have hhold : s.holdBits pf 0x11000 w = 0 := by
    have hwo : writeOff 0x11000 = 0x11000 := rfl
    simp [State.holdBits, hl, hwo, hcfg, R.RS_FB_SEL]
  have hdrop : s.dropFlags 0x11000 w = [] := by
    have hwo : writeOff 0x11000 = 0x11000 := rfl
    simp [State.dropFlags, hl, hwo, hcfg]
  have hbit : BitVec.ofNat 32 w.w1s &&& BitVec.ofNat 32 (2 ^ i) = BitVec.ofNat 32 (2 ^ i) := by
    rw [hs]; rcases hi with rfl | rfl <;> decide
  unfold State.writeWord
  rw [hw]
  dsimp only
  rw [hhold, hdrop, show writeOff 0x11000 = 0x11000 from rfl, mergeWord_or hc _ _ _ hbit,
    ← s.setWord_or_bit 0x11000 (by omega)]
  have heff (v : BitVec 32) : v &&& ~~~(0 : BitVec 32) ||| s.word 0x11000 &&& 0 = v := by
    have all : v &&& 4294967295#32 = v := BitVec.and_allOnes
    simp [all]
  rw [heff]
  rfl

theorem bitOf_eq_bitsOf (n i : Nat) : bitOf n i = (bitsOf n i 1 != 0) := by
  unfold bitOf bitsOf
  rcases Nat.mod_two_eq_zero_or_one (n / 2 ^ i) with h | h <;> simp [h]

/-- The state after the mode that a write of TB_CTRL carries is put back, which it is for mode 3 (R58). -/
def State.remode (u : State) : State := if u.f R.TB_CTRL_MODE = 3 then u.setF R.TB_CTRL_MODE (u.f R.TB_CTRL_MODE) else u

theorem State.remode_clk (u : State) : u.remode.clk = u.clk := by
  unfold State.remode
  split
  · exact State.setF_clk ..
  · rfl

theorem ClockOnly.remode (u : State) : ClockOnly [] u u.remode := by
  unfold State.remode
  split
  · exact ⟨(ClockOnly.setF u _ _).eq, .setF_same u rfl⟩
  · exact .refl u

/-- What a write of TB_CTRL that changes neither MODE nor SRC does beyond its fields: it snaps where SNAP is set. -/
theorem State.wroteClock_tbCtrl {s u : State} (hmode : u.f R.TB_CTRL_MODE = s.f R.TB_CTRL_MODE)
    (hsrc : u.f R.TB_CTRL_SRC = s.f R.TB_CTRL_SRC) :
    u.wroteClock 0x11000 (s.word 0x11000).toNat (u.word 0x11000).toNat =
      if u.flag R.TB_CTRL_SNAP then u.remode.snap.setB R.TB_CTRL_SNAP false else u.remode := by
  have field (t : State) {x : Fld} (hw : x.words = 1) (hb : x.base = 0x11000) :
      bitsOf (t.word 0x11000).toNat (x.lo % 32) x.wd = t.f x := by rw [t.f_word hw, hb]
  have hsnap : bitOf (u.word 0x11000).toNat 9 = u.flag R.TB_CTRL_SNAP := by
    rw [bitOf_eq_bitsOf]
    exact congrArg (· != 0) (field u (x := R.TB_CTRL_SNAP) rfl rfl)
  have hmodes (t : State) : bitsOf (t.word 0x11000).toNat 0 2 = t.f R.TB_CTRL_MODE := field t (x := R.TB_CTRL_MODE) rfl rfl
  have hsrcs (t : State) : bitsOf (t.word 0x11000).toNat 2 2 = t.f R.TB_CTRL_SRC := field t (x := R.TB_CTRL_SRC) rfl rfl
  unfold State.wroteClock
  rw [if_pos (by decide)]
  dsimp only
  rw [hsnap, hmodes, hmodes, hsrcs, hsrcs, hsrc, if_neg (by simp), ← hmode]
  unfold State.remode
  simp only [beq_iff_eq]

/-- LOAD and SNAP as writes of TB_CTRL: the bit is set, and a snapshot follows where SNAP is then set. -/
theorem tbBit_eq {x : Fld} (hx : x = R.TB_CTRL_LOAD ∨ x = R.TB_CTRL_SNAP) (pf : Fin 2) {s : State} (h : s.Opens pf 0x11000) :
    ∃ l, tbBit pf x.lo s =
      let u := (s.used l).setF x 1
      if u.flag R.TB_CTRL_SNAP then u.remode.snap.setB R.TB_CTRL_SNAP false else u.remode := by
  have hi : x.lo = 7 ∨ x.lo = 9 := by rcases hx with rfl | rfl <;> decide
  have hbit : (⟨0x11000, x.lo, 1⟩ : Fld) = x := by rcases hx with rfl | rfl <;> rfl
  obtain ⟨l, hl⟩ := regWrite_tbCtrl h (s.word 0x11000 ||| BitVec.ofNat 32 (2 ^ x.lo))
  refine ⟨l, hl.trans ?_⟩
  have hcfg : (s.used l).cfgHolds 0x11000 = false := h.2.2
  have apart (y : Fld) (hy : y = R.TB_CTRL_MODE ∨ y = R.TB_CTRL_SRC) : ((s.used l).setF x 1).f y = (s.used l).f y := by
    rcases hx with rfl | rfl <;> rcases hy with rfl | rfl <;> exact (FieldsKept.setF _ _ 1).f_eq (by decide)
  have hword : ((s.used l).setF x 1).word 0x11000 = (s.used l).word 0x11000 ||| BitVec.ofNat 32 (2 ^ x.lo) := by
    rw [← hbit, ← State.setWord_or_bit _ _ (by omega), State.word_setWord, if_pos rfl]
  refine (State.writeWord_tbCtrl hcfg hi).trans ?_
  rw [← hword, hbit]
  exact State.wroteClock_tbCtrl (apart _ (.inl rfl)) (apart _ (.inr rfl))

theorem ClockOnly.snap (s : State) : ClockOnly [⟨0x110A0, 0, 192⟩] s s.snap := by
  refine ⟨((ClockOnly.setPtimeAt s 0x110A0 s.now).trans (.setWordsAt _ 0x110B0 _ (n := 2) (by decide))).eq, ?_⟩
  refine .of_wordsKept rfl (by decide) (.trans (.setWordsAt s _ fun i hi => ?_) (.setWordsAt _ _ fun i hi => ?_))
  all_goals
    change 0x110A0 ≤ _ ∧ _ < 0x110A0 + 4 * 6
    omega

/-- A snapshot holds PTIME and the sample index (R60). -/
theorem State.snap_spec (s : State) : s.snap.f ⟨0x110A0, 0, 128⟩ = pt128 s.now ∧
    s.snap.f ⟨0x110B0, 0, 64⟩ = s.clk.sampleIdx % 2 ^ 64 := by
  refine ⟨?_, State.f_setWordsAt_self _ 0x110B0 2 _⟩
  exact ((ClockOnly.setWordsAt _ 0x110B0 _ (n := 2) (by decide)).fields.f_eq (by decide)).trans (s.f_setPtimeAt_self _ _)


end

/-- What is left of a state whose access noted its time and whose clock state is as before. -/
theorem ClockOnly.lastUse {xs : List Fld} {s t : State} {l : Tbl Nat}
    (h : ClockOnly xs (s.used l) t) (hc : t.clk = s.clk) :
    t = { s with regs := t.regs, sets := t.sets, pwr := { s.pwr with lastUse := t.pwr.lastUse } } := by
  have hp : t.pwr = { s.pwr with lastUse := l } := (congrArg State.pwr h.eq : _)
  have he := h.eq
  rw [hc] at he
  rw [hp]
  exact he

/-- SNAP: PTIME and the sample index are latched, and SNAP reads 0 again (R60). -/
theorem snap_ends (pf : Fin 2) {s : State} (h : s.Opens pf 0x11000) : Ends (exec (.snap pf) s) fun t =>
    t.ptimeAt 0x110A0 = ptOf128 (pt128 s.now) ∧ t.wordsAt 0x110B0 2 = s.clk.sampleIdx % 2 ^ 64 ∧
    t.flag R.TB_CTRL_SNAP = false ∧ FieldsKept [R.TB_CTRL_SNAP, ⟨0x110A0, 0, 192⟩] s t ∧
    t = { s with regs := t.regs, sets := t.sets, pwr := { s.pwr with lastUse := t.pwr.lastUse } } := by
  obtain ⟨l, hl⟩ := tbBit_eq (x := R.TB_CTRL_SNAP) (.inr rfl) pf h
  have written := ClockOnly.setF (s.used l) R.TB_CTRL_SNAP 1
  have hset : ((s.used l).setF R.TB_CTRL_SNAP 1).flag R.TB_CTRL_SNAP = true := by
    rw [State.flag, State.f_setF_self]
    rfl
  have hclk : ((s.used l).setF R.TB_CTRL_SNAP 1).clk = s.clk := State.setF_clk ..
  have he := hl.trans (if_pos hset)
  generalize (s.used l).setF R.TB_CTRL_SNAP 1 = u at written hset hclk he
  have cleared := ClockOnly.setB u.remode.snap R.TB_CTRL_SNAP false
  have snapped := ((written.trans (.remode u)).trans (.snap _)).trans cleared
  obtain ⟨htime, hidx⟩ := u.remode.snap_spec
  refine ends_of_eq he ⟨?_, ?_, State.flag_setB_self _ _ _ (by decide), ?_, ?_⟩
  · rw [State.ptimeAt_eq, cleared.fields.f_eq (by decide), htime, State.now, u.remode_clk, hclk]
    rfl
  · rw [← State.f_wordsAt, cleared.fields.f_eq (by decide)]
    exact hidx.trans (by rw [u.remode_clk, hclk])
  · exact ((s.used_kept l).trans snapped.fields).mono (by simp)
  · refine snapped.lastUse ?_
    rw [State.setB_clk, State.snap, State.setWordsAt_clk, State.setPtimeAt_clk, u.remode_clk, hclk]

/-- LOAD: it reads 1 until the load applies (R59). -/
theorem load_ends (pf : Fin 2) {s : State} (h : s.Opens pf 0x11000) (hn : s.flag R.TB_CTRL_SNAP = false) :
    Ends (exec (.load pf) s) fun t => t.flag R.TB_CTRL_LOAD = true ∧ FieldsKept [R.TB_CTRL_LOAD] s t ∧
      t = { s with regs := t.regs, sets := t.sets, pwr := { s.pwr with lastUse := t.pwr.lastUse } } := by
  obtain ⟨l, hl⟩ := tbBit_eq (x := R.TB_CTRL_LOAD) (.inl rfl) pf h
  have written := ClockOnly.setF (s.used l) R.TB_CTRL_LOAD 1
  have loads := (s.used_kept l).trans written.fields
  have hset : ((s.used l).setF R.TB_CTRL_LOAD 1).flag R.TB_CTRL_LOAD = true := by
    rw [State.flag, State.f_setF_self]
    rfl
  have hsnap : ((s.used l).setF R.TB_CTRL_LOAD 1).flag R.TB_CTRL_SNAP = false :=
    (State.flag_congr (loads.f_eq (by decide))).trans hn
  have hclk : ((s.used l).setF R.TB_CTRL_LOAD 1).clk = s.clk := State.setF_clk ..
  have he := hl.trans (if_neg (ne_true_of_eq_false hsnap))
  generalize (s.used l).setF R.TB_CTRL_LOAD 1 = u at written loads hset hclk he
  have kept := ClockOnly.remode u
  exact ends_of_eq he ⟨(State.flag_congr (kept.fields.f_eq (by decide))).trans hset, loads.trans kept.fields,
    (written.trans kept).lastUse (u.remode_clk.trans hclk)⟩

/-! ## PPSOUT (R62) -/

/-- A bit of a field that lies in one word. -/
theorem State.bitOf_f (s : State) {x : Fld} {i : Nat} (hi : i < x.wd) (hx : x.lo + x.wd ≤ 32) :
    bitOf (s.f x) i = s.flag (x.bit i) := by
  have hw : x.words = 1 := by unfold Fld.words; omega
  have hw' : (x.bit i).words = 1 := by simp only [Fld.bit, Fld.words]; omega
  have hb : (x.bit i).base = x.base := by simp only [Fld.bit, Fld.base]; omega
  have hlo : (x.bit i).lo % 32 = x.lo % 32 + i := by simp only [Fld.bit]; omega
  rw [bitOf_eq_bitsOf, State.flag, s.f_word hw, s.f_word hw', hb, hlo]
  refine congrArg (· != 0) ?_
  generalize (s.word x.base).toNat = n
  calc bitsOf (bitsOf n (x.lo % 32) x.wd) i 1 = bitsOf (n / 2 ^ (x.lo % 32)) i 1 := bitsOf_mod _ _ _ _ (by omega)
    _ = bitsOf n (x.lo % 32 + i) 1 := by unfold bitsOf; rw [Nat.div_div_eq_div_mul, ← Nat.pow_add]

/-- A control cycle that holds the edge of a second boundary sends one pulse. -/
theorem ppsoutPulse_edge {s : State} (hr : s.clk.released = true) (hen : s.flag R.TB_CTRL_PPSOUT_EN = true)
    (hpad : s.flag (R.PWR_PADHOLD_GROUPS.bit 8) = false) (hone : s.clk.ppsAt ≠ some s.clk.sampleIdx) {j : Nat}
    (hj : s.ppsEdge = some j) : ppsoutPulse s = { s with
      clk := { s.clk with ppsAt := some s.clk.sampleIdx }
      out := s.out ++ [.ppsOut ((s.now + j * s.increment / 10) % ptimeSpan) (max 1 (s.f R.TB_PPSOUT_WIDTH))] } := by
  have hsends : (s.setClk { s.clk with ppsAt := some s.clk.sampleIdx }).padHeld
      (.ppsOut ((s.now + j * s.increment / 10) % ptimeSpan) (max 1 (s.f R.TB_PPSOUT_WIDTH))) = false := by
    rw [State.padHeld, State.bitOf_f _ (by decide) (by decide), State.flag_setClk, hpad]
  unfold ppsoutPulse
  rw [if_neg (by simp [hr, hen, hpad, hone]), hj]
  exact if_neg (ne_true_of_eq_false hsends)

theorem ppsoutPulse_none {s : State} (hj : s.ppsEdge = none) : ppsoutPulse s = s := by
  unfold ppsoutPulse
  rw [hj]
  exact ite_self s

end Sys2Proof.Machine

open Sys2Proof Sys2Proof.Machine

/-- Settles O15: the released cycle runs from a state whose notes for later samples are made, which neither the increment nor a load
sees. The instant of a LOAD, the restart of FAB_FC at a release and that the release falls in this command are the model's choices (log
entries 19, 20 and 9). -/
theorem ptimeIncrement_advances_or_loads : Obligations.PtimeIncrement := by
  unfold Obligations.PtimeIncrement
  refine ⟨fun s => ⟨rfl, rfl⟩, fun s hreleased => ?_, fun s hstopped => ?_⟩
  · intro u
    obtain ⟨rates, hold, unlock, hu⟩ := ptimeIncrement_released s hreleased
    let v : State := { s with sets := [], clk := { s.clk with rates := rates, holdMarks := hold, unlockMarks := unlock } }
    change u = v.cycleStep at hu
    have noted : FieldsKept [] s v := .of_regs rfl
    have cycle := ClockOnly.cycleStep v
    obtain ⟨helapsed, hidx, hrel, hcycles, hfc, hsets⟩ := v.cycleStep_counters
    rw [hu]
    refine ⟨helapsed, hidx, hrel.trans hreleased, hcycles, hfc, fun h => ?_, fun h1 h2 => ?_, ?_⟩
    · obtain ⟨hnow, hkept⟩ := v.cycleStep_run h
      exact ⟨hnow, noted.trans hkept⟩
    · obtain ⟨hnow, hload, hpbo⟩ := v.cycleStep_load h1 h2
      exact ⟨hnow, hload, hpbo, (noted.trans cycle.fields).mono (by simp)⟩
    · exact cycle.eq.trans (by rw [hsets])
  · intro d c
    refine ⟨fun hdue => ?_, fun hdue => ?_⟩
    · rw [ptimeIncrement_stopped s hstopped, hdue]
      rfl
    · let v := ({ s with sets := [] } : State).crystalStep
      have noted : FieldsKept [] s v := .of_regs rfl
      obtain ⟨hclk, hfc, hkept, heq⟩ := v.releaseDividers_spec
      rw [ptimeIncrement_stopped s hstopped, hdue]
      exact ⟨hclk, by unfold State.atTick; rw [if_pos rfl, hclk]; rfl, hfc, noted.trans hkept, heq⟩

/-- Settles O13: the stamp is the only register that an edge writes past a load that waits for it. That the load applies at the edge
itself, and that the tracker keeps the newest edge's error, are the model's choices (log entries 18 and 14). -/
theorem referenceEdges : Obligations.ReferenceEdges := by
  unfold Obligations.ReferenceEdges
  refine ⟨fun k s huse hmode => congrArg _ (if_neg (by simp [huse, hmode])), fun k s => ?_⟩
  obtain ⟨hstamp, ⟨edges, err, hclk⟩, stamped⟩ := ppsinEdge_spec s k
  refine ⟨_, rfl, fun h => ?_, fun h1 h2 hi => ?_, ((ClockOnly.ppsLoaded s k).trans stamped).eq⟩
  · rw [s.ppsLoaded_none k h] at hstamp hclk stamped
    exact ⟨hstamp, by rw [hclk], stamped.fields⟩
  · have hload : (s.ppsLoaded k).timeIn k = s.loadValue := s.timeIn_ppsLoaded k k.isLt hi h1 h2
    obtain ⟨hzero, hpbo⟩ := s.loadPtime_spec (s.loadValue + ptimeSpan - k * s.increment / 160)
    rw [← s.ppsLoaded_load k h1 h2] at hzero hpbo
    refine ⟨?_, ?_, ?_, ?_, ?_⟩
    · rw [hstamp, hload]
      exact ptOf128_pt128 s.loadValue_lt (ptOf128_fraction _)
    · rw [← hload]
      refine State.timeIn_congr ?_ ?_ k
      · rw [State.now, hclk]; rfl
      · apply State.increment_congr <;> rw [hclk]
    · exact (State.flag_congr (stamped.fields.f_eq (by decide))).trans hzero
    · exact (stamped.fields.f_eq (by decide)).trans hpbo
    · exact ((ClockOnly.ppsLoaded s k).trans stamped).fields.mono (by simp)

/-- Settles O16: each command by what it makes of the clock state and of the registers of the time base. That LINK goes on from the
present state, and that a PPSOUT row without its edge does nothing, are the model's choices (log entries 17 and 142). -/
theorem timeBaseCommands : Obligations.TimeBaseCommands := by
  unfold Obligations.TimeBaseCommands
  refine ⟨fun s ht hne h3 => tbModeChange_spec ht hne h3, fun pf s h => snap_ends pf h, fun pf s h hn => load_ends pf h hn,
    fun s hr hen hpad hone => ⟨fun j hj => ?_, fun hj => ?_⟩⟩
  · exact congrArg _ (ppsoutPulse_edge hr hen hpad hone hj)
  · exact congrArg _ (ppsoutPulse_none hj)
end

section
/-!
PROOF. Converter channels: what an operation of one input or output channel leaves alone, and how a field of the channel reads past
it (spec/03_converters.md).
-/
namespace Sys2Proof.Machine

/-! ## What the operations of a channel leave alone -/

/-- The two families of converter channels. -/
inductive ConvSide where
  | input | output

/-- `s` with the registers and the converter channels of one side as `t` has them. -/
def ConvSide.frame : ConvSide → State → State → State
  | .input, s, t => { s with regs := t.regs, sets := t.sets, adc := t.adc }
  | .output, s, t => { s with regs := t.regs, sets := t.sets, dac := t.dac }

/-- `t` differs from `s` in channel `n` of one side and in the registers alone, and there in no field apart from the fields `xs` of
that channel. -/
structure ConvOnly (side : ConvSide) (n : Nat) (xs : List (Nat → Fld)) (s t : State) : Prop where
  eq : t = side.frame s t
  others : ∀ m, m ≠ n → t.adcN m = s.adcN m ∧ t.dacN m = s.dacN m
  fields : FieldsKept (xs.map (fun x => x n)) s t

/-- The registers of channel `i` lie 0x1000 `i` further on than those of channel 0. -/
abbrev ChannelFld (y : Nat → Fld) : Prop := ∀ i, y i = (y 0).shift (0x1000 * i)

abbrev ChannelFlds (xs : List (Nat → Fld)) : Prop :=
  ∀ i, xs.map (fun x => x i) = (xs.map (fun x => x 0)).map (fun x => x.shift (0x1000 * i))

section
variable {side : ConvSide} {n : Nat} {xs ys : List (Nat → Fld)} {s t u : State}

theorem ConvOnly.trans (h1 : ConvOnly side n xs s t) (h2 : ConvOnly side n ys t u) : ConvOnly side n (xs ++ ys) s u := by
  refine ⟨?_, fun m hm => ?_, ?_⟩
  · cases side <;> exact h2.eq.trans (by rw [h1.eq]; rfl)
  · obtain ⟨ha1, hd1⟩ := h1.others m hm
    obtain ⟨ha2, hd2⟩ := h2.others m hm
    exact ⟨ha2.trans ha1, hd2.trans hd1⟩
  · rw [List.map_append]
    exact h1.fields.trans h2.fields

theorem ConvOnly.mono (h : ConvOnly side n xs s t) (hs : xs ⊆ ys) : ConvOnly side n ys s t :=
  ⟨h.eq, h.others, h.fields.mono fun _ hx => List.map_subset _ hs hx⟩

/-- Registers alone belong to either side. -/
theorem ConvOnly.regs (heq : t = { s with regs := t.regs, sets := t.sets }) (hf : FieldsKept (xs.map (fun x => x n)) s t) :
    ConvOnly side n xs s t := by
  refine ⟨?_, fun m _ => ?_, hf⟩
  · cases side <;> rw [heq] <;> rfl
  · rw [heq]; exact ⟨rfl, rfl⟩

theorem ConvOnly.refl (s : State) : ConvOnly side n [] s s := .regs rfl (.of_regs rfl)

theorem ConvOnly.setWordsAt (s : State) {off k : Nat} (v : Nat)
    (h : FieldsKept (xs.map (fun x => x n)) s (s.setWordsAt off k v)) : ConvOnly side n xs s (s.setWordsAt off k v) :=
  .regs (by rw [State.setWordsAt_eq]) h

theorem ConvOnly.setF (s : State) (x : Nat → Fld) (v : Nat) : ConvOnly side n [x] s (s.setF (x n) v) :=
  .setWordsAt s _ (.setF s (x n) v)

theorem ConvOnly.addSat (s : State) (x : Nat → Fld) (k : Nat) : ConvOnly side n [x] s (s.addSat (x n) k) := .setF s x _

theorem ConvOnly.incSat (s : State) (x : Nat → Fld) : ConvOnly side n [x] s (s.incSat (x n)) := .addSat s x 1

theorem ConvOnly.setB (s : State) (x : Nat → Fld) (b : Bool) : ConvOnly side n [x] s (s.setB (x n) b) :=
  .regs (by rw [State.setB_eq]) (.setB s (x n) b)

theorem ConvOnly.setAdc (s : State) (n : Nat) (a : AdcSt) : ConvOnly .input n [] s (s.setAdc n a) :=
  ⟨rfl, fun _ hm => ⟨tget_tset_ne _ _ _ hm, rfl⟩, .of_regs rfl⟩

theorem ConvOnly.setDac (s : State) (n : Nat) (d : DacSt) : ConvOnly .output n [] s (s.setDac n d) :=
  ⟨rfl, fun _ hm => ⟨rfl, tget_tset_ne _ _ _ hm⟩, .of_regs rfl⟩

theorem ConvOnly.ite {c : Prop} [Decidable c] (h1 : ConvOnly side n xs s t) (h2 : ConvOnly side n xs s u) :
    ConvOnly side n xs s (if c then t else u) := by split <;> assumption

/-- A field of the channel reads as before when it is apart from those of `xs` in channel 0. -/
theorem ConvOnly.f_eq (h : ConvOnly side n xs s t) (y : Nat → Fld) (hxs : ChannelFlds xs := by intro i; rfl)
    (hy : ChannelFld y := by intro i; rfl)
    (hapart : ∀ x ∈ xs.map (fun x => x 0), x.apart (y 0) := by unfold Fld.apart; decide) : t.f (y n) = s.f (y n) := by
  refine h.fields _ fun x hx => ?_
  rw [hxs n] at hx
  obtain ⟨x0, hx0, rfl⟩ := List.mem_map.mp hx
  have h0 := hapart x0 hx0
  rw [hy n]
  simp only [Fld.apart, Fld.base, Fld.words, Fld.shift] at h0 ⊢
  omega

theorem ConvOnly.flag_eq (h : ConvOnly side n xs s t) (y : Nat → Fld) (hxs : ChannelFlds xs := by intro i; rfl)
    (hy : ChannelFld y := by intro i; rfl)
    (hapart : ∀ x ∈ xs.map (fun x => x 0), x.apart (y 0) := by unfold Fld.apart; decide) : t.flag (y n) = s.flag (y n) :=
  State.flag_congr (h.f_eq y hxs hy hapart)

end

/-! ## Channels, registers and their values -/

section
variable (s : State) (n : Nat)

theorem State.adcN_congr {s t : State} (h : t.adc = s.adc) (n : Nat) : t.adcN n = s.adcN n := by unfold State.adcN; rw [h]

theorem State.dacN_congr {s t : State} (h : t.dac = s.dac) (n : Nat) : t.dacN n = s.dacN n := by unfold State.dacN; rw [h]

theorem State.flag_of_regs {s t : State} (h : t.regs = s.regs) (x : Fld) : t.flag x = s.flag x := State.flag_congr (State.f_congr h x)

@[simp] theorem State.adcN_setAdc (a : AdcSt) : (s.setAdc n a).adcN n = a := tget_tset_self ..
@[simp] theorem State.dacN_setDac (d : DacSt) : (s.setDac n d).dacN n = d := tget_tset_self ..
@[simp] theorem State.adcN_setF (x : Fld) (v : Nat) : (s.setF x v).adcN n = s.adcN n := State.adcN_congr (State.setF_adc ..) n
@[simp] theorem State.dacN_setF (x : Fld) (v : Nat) : (s.setF x v).dacN n = s.dacN n := State.dacN_congr (State.setF_dac ..) n
@[simp] theorem State.adcN_setB (x : Fld) (b : Bool) : (s.setB x b).adcN n = s.adcN n := State.adcN_congr (State.setB_adc ..) n
@[simp] theorem State.dacN_setB (x : Fld) (b : Bool) : (s.setB x b).dacN n = s.dacN n := State.dacN_congr (State.setB_dac ..) n
@[simp] theorem State.adcN_addSat (x : Fld) (k : Nat) : (s.addSat x k).adcN n = s.adcN n := s.adcN_setF n x _
@[simp] theorem State.dacN_addSat (x : Fld) (k : Nat) : (s.addSat x k).dacN n = s.dacN n := s.dacN_setF n x _
@[simp] theorem State.adcN_incSat (x : Fld) : (s.incSat x).adcN n = s.adcN n := s.adcN_addSat n x 1
@[simp] theorem State.dacN_incSat (x : Fld) : (s.incSat x).dacN n = s.dacN n := s.dacN_addSat n x 1
@[simp] theorem State.f_setAdc (a : AdcSt) (x : Fld) : (s.setAdc n a).f x = s.f x := State.f_congr (s := s.setAdc n a) (t := s) rfl x
@[simp] theorem State.f_setDac (d : DacSt) (x : Fld) : (s.setDac n d).f x = s.f x := State.f_congr (s := s.setDac n d) (t := s) rfl x
@[simp] theorem State.flag_setAdc (a : AdcSt) (x : Fld) : (s.setAdc n a).flag x = s.flag x := State.flag_congr (s.f_setAdc n a x)
@[simp] theorem State.flag_setDac (d : DacSt) (x : Fld) : (s.setDac n d).flag x = s.flag x := State.flag_congr (s.f_setDac n d x)

/-- A saturating counter stands at its sum or at its largest value. -/
theorem State.f_addSat_self (x : Fld) (k : Nat) : (s.addSat x k).f x = min (s.f x + k) (2 ^ x.wd - 1) := by
  have hp := Nat.two_pow_pos x.wd
  exact (State.f_setF_self ..).trans (Nat.mod_eq_of_lt (by omega))

end

end Sys2Proof.Machine
end


section
/-!
PROOF. What takes the samples of the channel bus (trigger units, acquisition slots, raw streams and chains) changes neither the input
channels nor the clock (spec/03_converters.md, R63; spec/08 and spec/13 for the consumers).
-/
namespace Sys2Proof.Machine

/-- The part of the state that samples come from: the input channels and the clock. -/
def State.front (s : State) : Tbl AdcSt × ClkSt := (s.adc, s.clk)

theorem State.adcN_of_front {s t : State} (h : t.front = s.front) (n : Nat) : t.adcN n = s.adcN n :=
  State.adcN_congr (congrArg Prod.fst h) n

theorem State.clk_of_front {s t : State} (h : t.front = s.front) : t.clk = s.clk := congrArg Prod.snd h

theorem foldl_front {α : Type} {f : State → α → State} (hf : ∀ t x, (f t x).front = t.front) (l : List α) (s : State) :
    (l.foldl f s).front = s.front := by
  induction l generalizing s with
  | nil => rfl
  | cons x l ih => exact (ih _).trans (hf s x)

/-! ## Registers, messages, logs and wakes -/

section
variable (s : State)

@[simp] theorem State.front_setF (x : Fld) (v : Nat) : (s.setF x v).front = s.front := by simp [State.front]
@[simp] theorem State.front_setB (x : Fld) (b : Bool) : (s.setB x b).front = s.front := by simp [State.front]
@[simp] theorem State.front_addSat (x : Fld) (k : Nat) : (s.addSat x k).front = s.front := by simp [State.front]
@[simp] theorem State.front_incSat (x : Fld) : (s.incSat x).front = s.front := by simp [State.front]
@[simp] theorem State.front_addWrap (x : Fld) (k : Nat) : (s.addWrap x k).front = s.front := by simp [State.front]
@[simp] theorem State.front_setWordsAt (off n v : Nat) : (s.setWordsAt off n v).front = s.front := by simp [State.front]
@[simp] theorem State.front_setPtimeAt (off t : Nat) : (s.setPtimeAt off t).front = s.front := by simp [State.front]
@[simp] theorem State.front_emit (m : Msg) : (s.emit m).front = s.front := by simp [State.front]
@[simp] theorem State.front_next : s.next.front = s.front := congrArg₂ Prod.mk rfl rfl

@[simp] theorem State.front_logRefused (src kind : Nat) (write : Bool) (addr : Nat) : (s.logRefused src kind write addr).front = s.front := by
  obtain ⟨r, x, h⟩ := (s.logRefused_spec src kind write addr).1.eq
  rw [h]; rfl

@[simp] theorem State.front_memWake : s.memWake.front = s.front := by
  obtain ⟨r, p, st, h⟩ := ((WakesOnly.wakeDomain s (d := 12) (by decide)).trans (.wakeDomain _ (d := 13) (by decide))).eq
  rw [State.memWake, h]; rfl

/-! ## Capture memory and its staging -/

@[simp] theorem State.front_setMc (m : Nat) (c : McSt) : (s.setMc m c).front = s.front := congrArg₂ Prod.mk rfl rfl

@[simp] theorem State.front_syncWq (m : Nat) : (s.syncWq m).front = s.front := by simp [State.syncWq]

@[simp] theorem State.front_storeEntry (e : WqEntry) : (s.storeEntry e).front = s.front := by
  unfold State.storeEntry
  dsimp only
  split_ifs <;> rfl

@[simp] theorem State.front_drainOne (m : Nat) : (s.drainOne m).front = s.front := by
  unfold State.drainOne
  dsimp only
  split <;> simp

@[simp] theorem State.front_wqPush (e : WqEntry) : (s.wqPush e).front = s.front := by
  unfold State.wqPush
  dsimp only
  split_ifs <;> simp

@[simp] theorem State.front_logMask (src sp : Nat) (write : Bool) (a : Nat) (mask : List Bool) :
    (s.logMask src sp write a mask).front = s.front := by
  unfold State.logMask
  split <;> simp

@[simp] theorem State.front_useGrant (p n : Nat) : (s.useGrant p n).front = s.front := by
  unfold State.useGrant
  dsimp only
  split <;> rfl

theorem State.front_portBurst (p a n : Nat) : (s.portBurst p a n).front = s.front := by
  unfold State.portBurst
  dsimp only
  rw [foldl_front]
  · split_ifs <;> simp
  · intro t i
    split <;> simp

@[simp] theorem State.front_mcWrite (p src : Nat) (secure : Bool) (a : Nat) (bs : List (BitVec 8)) (poison : Bool) :
    (s.mcWrite p src secure a bs poison).1.front = s.front := by
  unfold State.mcWrite
  dsimp only
  split <;> simp [foldl_front, State.front_portBurst]

@[simp] theorem State.front_syncPanic : s.syncPanic.front = s.front := by
  simp only [State.syncPanic, State.front_setF, State.front_setB]
  rfl

@[simp] theorem State.front_captureWrite (a : Nat) (bs : List (BitVec 8)) : (s.captureWrite a bs).front = s.front := by
  unfold State.captureWrite
  dsimp only
  split_ifs <;> simp <;> rfl

@[simp] theorem State.front_closeStage : s.closeStage.front = s.front := congrArg₂ Prod.mk rfl rfl

/-! ## Stream queues -/

@[simp] theorem State.front_setSq (q : Nat) (x : SqSt) : (s.setSq q x).front = s.front := congrArg₂ Prod.mk rfl rfl

@[simp] theorem State.front_syncSq (q : Nat) : (s.syncSq q).front = s.front := by simp [State.syncSq]

@[simp] theorem State.front_sqDrop (q : Nat) (count : Bool) : (s.sqDrop q count).front = s.front := by
  unfold State.sqDrop
  dsimp only
  split <;> simp

@[simp] theorem State.front_sqPut (q src : Nat) (p : SqPkt) : (s.sqPut q src p).1.front = s.front := by
  unfold State.sqPut
  dsimp only
  split_ifs <;> simp

@[simp] theorem State.front_sqWrite (q src : Nat) (p : SqPkt) : (s.sqWrite q src p).1.front = s.front := by
  unfold State.sqWrite
  split <;> simp

@[simp] theorem State.front_sqRecord (q : Nat) (bytes : List (BitVec 8)) (time flags : Nat) (poison : Bool) :
    (s.sqRecord q bytes time flags poison).1.front = s.front := s.front_sqWrite _ _ _

@[simp] theorem State.front_rawPack (q idx sub : Nat) (ys : List Int) (flags : Nat) : (s.rawPack q idx sub ys flags).front = s.front := by
  unfold State.rawPack
  dsimp only
  split_ifs <;> simp

theorem State.front_feedRaw (n sub : Nat) : (s.feedRaw n sub).front = s.front := by
  unfold State.feedRaw
  dsimp only
  rw [foldl_front]
  intro t q
  split <;> simp

/-! ## Acquisition slots -/

@[simp] theorem State.front_setAcq (n : Nat) (a : AcqSt) : (s.setAcq n a).front = s.front := congrArg₂ Prod.mk rfl rfl

@[simp] theorem State.front_acqRecord (n : Nat) (t : AcqTrig) (stopped overrun : Bool) (v : Viol) :
    (s.acqRecord n t stopped overrun v).front = s.front := by
  unfold State.acqRecord
  extract_lets a ws start last pre post addr vp w28 payload flags ch h bytes s1 s2
  have made : s2.front = s.front := (s1.front_setAcq n _).trans (s.front_setWordsAt _ _ _)
  clear_value s2
  split_ifs
  · exact made
  · exact (s2.front_sqRecord _ _ _ _ _).trans made
  · rw [State.front_setAcq, State.front_setB, State.front_incSat]
    exact (s2.front_sqRecord _ _ _ _ _).trans made

@[simp] theorem State.front_endWindow (n : Nat) (t : AcqTrig) (stopped overrun : Bool) :
    (s.endWindow n t stopped overrun).1.front = s.front := by
  simp only [State.endWindow, State.front_acqRecord]
  split_ifs <;> simp

@[simp] theorem State.front_endWriting (n : Nat) : (s.endWriting n).front = s.front := by simp [State.endWriting]

@[simp] theorem State.front_streamOverrun (n : Nat) : (s.streamOverrun n).front = s.front := by
  simp only [State.streamOverrun, State.setAcqState, State.front_setF, State.front_endWriting]
  split <;> simp

@[simp] theorem State.front_writeUnits (n : Nat) (us : List (List (BitVec 8))) : (s.writeUnits n us).front = s.front := by
  induction us generalizing s with
  | nil => rfl
  | cons u us ih =>
    unfold State.writeUnits
    dsimp only
    split_ifs <;> simp [ih]

@[simp] theorem State.front_skipTo (n unit : Nat) : (s.skipTo n unit).front = s.front := by
  unfold State.skipTo
  dsimp only
  split_ifs <;> simp

@[simp] theorem State.front_minMaxBlock (n idx : Nat) (ys : List Int) : (s.minMaxBlock n idx ys).front = s.front := by
  unfold State.minMaxBlock
  dsimp only
  split_ifs <;> simp

theorem State.front_feedRawSlots (ch : Nat) : (s.feedRawSlots ch).front = s.front := by
  unfold State.feedRawSlots
  dsimp only
  rw [foldl_front]
  intro t n
  split_ifs <;> simp

/-! ## Trigger units, and the fires that they originate -/

@[simp] theorem State.front_setUnit (u : Nat) (x : TrgUnit) : (s.setUnit u x).front = s.front := congrArg₂ Prod.mk rfl rfl

@[simp] theorem State.front_trigPulse (o at_ : Nat) : (s.trigPulse o at_).front = s.front := by
  unfold State.trigPulse
  dsimp only
  split
  · rfl
  · exact State.front_emit _ _

@[simp] theorem State.front_trigSel (sel at_ : Nat) : (s.trigSel sel at_).front = s.front := by
  unfold State.trigSel
  rw [foldl_front]
  intro t o
  split <;> simp

@[simp] theorem State.front_tell (sel : Nat) (trigout : Bool) (pt : Nat) : (s.tell sel trigout pt).front = s.front := by
  unfold State.tell
  cases trigout
  · rfl
  · exact s.front_trigSel _ _

@[simp] theorem State.front_report (u stamp fc lat : Nat) : (s.report u stamp fc lat).1.front = s.front := by
  unfold State.report
  dsimp only
  split_ifs
  · rfl
  · simp
  · simp
  · simp; rfl

@[simp] theorem State.front_deliverFire (pt origin num : Nat) (checkLate : Bool) :
    (s.deliverFire pt origin num checkLate).front = s.front := by
  have units (stamp fc lat : Nat) : ((List.range 32).foldl (fun (t : State) u =>
      if t.unitIs u 9 then (t.report u stamp fc lat).1 else t) s).front = s.front :=
    foldl_front (fun t u => by split <;> simp) _ s
  unfold State.deliverFire
  dsimp only
  split_ifs <;> simp [units]

@[simp] theorem State.front_sendCtl (k type_ flags payload : Nat) : (s.sendCtl k type_ flags payload).front = s.front := congrArg₂ Prod.mk rfl rfl

@[simp] theorem State.front_broadcast (type_ flags payload : Nat) : (s.broadcast type_ flags payload).front = s.front :=
  foldl_front (fun t k => t.front_sendCtl k type_ flags payload) _ s

@[simp] theorem State.front_topFire (pt origin source : Nat) : (s.topFire pt origin source).front = s.front := by
  unfold State.topFire
  dsimp only
  split_ifs <;> simp <;> rfl

@[simp] theorem State.front_originate (source pt : Nat) : (s.originate source pt).front = s.front := by
  unfold State.originate
  dsimp only
  split_ifs <;> simp

@[simp] theorem State.front_unitEvent (u stamp fc lat : Nat) : (s.unitEvent u stamp fc lat).front = s.front := by
  unfold State.unitEvent
  dsimp only
  split <;> simp

@[simp] theorem State.front_unitValue (u : Nat) (c : UnitSet) (quiet : Bool) (fc : Nat) (step v p : Int) :
    (s.unitValue u c quiet fc step v p).front = s.front := by
  unfold State.unitValue
  dsimp only
  split
  · rfl
  split
  · rfl
  · exact foldl_front (fun t ev => t.front_unitEvent _ _ _ _) _ _

@[simp] theorem State.front_fastUnit (u idx : Nat) (quiet : Bool) (coarse : List Int) (blockTime : Nat) :
    (s.fastUnit u idx quiet coarse blockTime).front = s.front := by
  unfold State.fastUnit
  dsimp only
  split_ifs <;> simp

theorem State.front_feedRawUnits (n sub : Nat) (codes : List (BitVec 12)) : (s.feedRawUnits n sub codes).front = s.front := by
  unfold State.feedRawUnits
  dsimp only
  rw [foldl_front]
  intro t u
  split
  · rfl
  · exact (foldl_front (fun w p => w.front_unitValue _ _ _ _ _ _ _) _ _).trans (t.front_fastUnit _ _ _ _ _)

/-! ## Chains -/

/-- A sample that reaches the crossbar of a chain changes the chains alone. -/
theorem State.chainIn_eq (n : Nat) (active : Bool) (k : Nat) (x : Int) : ∃ c, s.chainIn n active k x = { s with fch := c } := by
  unfold State.chainIn
  dsimp only
  split_ifs <;> exact ⟨_, rfl⟩

end

theorem foldl_fch {α : Type} {f : State → α → State} (hf : ∀ t x, ∃ c, f t x = { t with fch := c }) (l : List α) (s : State) :
    ∃ c, l.foldl f s = { s with fch := c } := by
  induction l generalizing s with
  | nil => exact ⟨s.fch, rfl⟩
  | cons x l ih =>
    obtain ⟨c, hc⟩ := hf s x
    obtain ⟨d, hd⟩ := ih (f s x)
    exact ⟨d, hd.trans (by rw [hc])⟩

/-- Samples that reach the crossbars change the chains alone. -/
theorem State.feedChains_eq (s : State) (src : Nat) (xs : List (Nat × Int)) : ∃ c, s.feedChains src xs = { s with fch := c } := by
  refine foldl_fch (fun t n => ?_) _ s
  dsimp only
  split
  · exact foldl_fch (fun u p => u.chainIn_eq _ _ _ _) _ _
  · exact ⟨t.fch, rfl⟩

theorem State.front_feedChains (s : State) (src : Nat) (xs : List (Nat × Int)) : (s.feedChains src xs).front = s.front := by
  obtain ⟨c, hc⟩ := s.feedChains_eq src xs
  rw [hc]; rfl

end Sys2Proof.Machine
end

section
/-!
PROOF. Input channels: the samples on the channel bus, and the marks that they carry (spec/03_converters.md, R64 to R68, R86 and R99).
-/
namespace Sys2Proof.Machine

/-! ## Marks (R68, R81) -/

/-- `t` differs from `s` in the marks of input channel `n` alone. -/
structure MarksOnly (n : Nat) (s t : State) : Prop where
  only : ConvOnly .input n [] s t
  regs : t.regs = s.regs
  marks : ∃ m, t.adcN n = { s.adcN n with marks := m }

section
variable {n : Nat} {s t u : State}

theorem MarksOnly.refl (n : Nat) (s : State) : MarksOnly n s s := ⟨.refl s, rfl, _, rfl⟩

theorem MarksOnly.trans (h1 : MarksOnly n s t) (h2 : MarksOnly n t u) : MarksOnly n s u := by
  obtain ⟨_, hm1⟩ := h1.marks
  obtain ⟨m2, hm2⟩ := h2.marks
  exact ⟨h1.only.trans h2.only, h2.regs.trans h1.regs, m2, by rw [hm2, hm1]⟩

theorem MarksOnly.markChan (s : State) (n lo hi flags : Nat) : MarksOnly n s (s.markChan n lo hi flags) := by
  unfold State.markChan
  split
  · exact .refl n s
  · exact ⟨.setAdc .., rfl, _, State.adcN_setAdc ..⟩

theorem MarksOnly.markBlock (s : State) (n idx base : Nat) (ys : List (Int × Bool)) : MarksOnly n s (s.markBlock n idx base ys) := by
  induction ys generalizing s idx with
  | nil => exact .refl n s
  | cons y ys ih => exact (MarksOnly.markChan s n idx idx _).trans (ih _ _)

theorem MarksOnly.f_eq (h : MarksOnly n s t) (x : Fld) : t.f x = s.f x := State.f_congr h.regs x

theorem MarksOnly.flag_eq (h : MarksOnly n s t) (x : Fld) : t.flag x = s.flag x := State.flag_congr (h.f_eq x)

end

/-! ## Correction (R64, R67) -/

theorem satS_sixteen (v : Int) : satS 16 v = max (-32768) (min 32767 v) := by
  unfold satS
  split_ifs <;> omega

theorem outS_sixteen (v : Int) : outS 16 v = true ↔ v < -32768 ∨ 32767 < v := by
  rw [outS, bne_iff_ne, satS_sixteen]
  omega

/-! ## The channel bus (R63, R66, R67, R86) -/

section
variable (s : State) (n sub : Nat) (codes : List (BitVec 12))

/-- The samples of a block with their saturation: zeros while the first pass runs, the corrected codes otherwise. -/
def State.busSamples : List (Int × Bool) :=
  codes.map (fun x => if s.flag (R.ADC_STATUS_FIRST n) then (0, false) else correctSample (s.adcN n).dcor x)

/-- The state with a block on the channel bus. -/
def State.onBus : State := s.setAdc n { s.adcN n with
  bus := (s.busSamples n codes).map (fun p => p.1), busIdx := (s.clk.sampleIdx + 16 * sub) % 2 ^ 64 }

/-- The state with saturated samples counted. -/
def State.overrange (k : Nat) : State :=
  if k == 0 then s else (s.addSat (R.ADC_OVR_COUNT n) k).setB (R.ADC_STATUS_OVR n) true

theorem MarksOnly.channelBus :
    MarksOnly n ((s.onBus n sub codes).overrange n ((s.busSamples n codes).countP (fun p => p.2))) (s.channelBus n sub codes) :=
  .markBlock ..

theorem ConvOnly.overrange (k : Nat) : ConvOnly .input n [R.ADC_OVR_COUNT, R.ADC_STATUS_OVR] s (s.overrange n k) := by
  refine .ite ((ConvOnly.refl s).mono (by simp)) ?_
  exact (ConvOnly.addSat s R.ADC_OVR_COUNT k).trans (.setB _ R.ADC_STATUS_OVR true)

theorem State.adcN_overrange (k : Nat) : (s.overrange n k).adcN n = s.adcN n := by
  unfold State.overrange
  split <;> simp

theorem State.overrange_spec (k : Nat) : (s.overrange n k).f (R.ADC_OVR_COUNT n) = min (s.f (R.ADC_OVR_COUNT n) + k) (2 ^ 32 - 1) ∧
    (0 < k → (s.overrange n k).flag (R.ADC_STATUS_OVR n) = true) := by
  have hlt := s.f_lt (R.ADC_OVR_COUNT n)
  unfold State.overrange
  split
  next h =>
    rw [beq_iff_eq.mp h]
    exact ⟨(Nat.min_eq_left (Nat.le_pred_of_lt hlt)).symm, fun hk => absurd hk (Nat.lt_irrefl 0)⟩
  next h =>
    refine ⟨?_, fun _ => State.flag_setB_self _ _ _ Nat.one_pos⟩
    rw [(ConvOnly.setB (side := .input) _ R.ADC_STATUS_OVR true).f_eq R.ADC_OVR_COUNT, State.f_addSat_self]
    rfl

theorem ConvOnly.channelBus : ConvOnly .input n [R.ADC_OVR_COUNT, R.ADC_STATUS_OVR] s (s.channelBus n sub codes) :=
  (((ConvOnly.setAdc ..).trans (.overrange ..)).trans (MarksOnly.channelBus s n sub codes).only).mono (by simp)

theorem State.channelBus_bus : ((s.channelBus n sub codes).adcN n).bus = (s.busSamples n codes).map (fun p => p.1) ∧
    ((s.channelBus n sub codes).adcN n).busIdx = (s.clk.sampleIdx + 16 * sub) % 2 ^ 64 := by
  obtain ⟨m, hm⟩ := (MarksOnly.channelBus s n sub codes).marks
  rw [hm, State.adcN_overrange, State.onBus, State.adcN_setAdc]
  exact ⟨rfl, rfl⟩

variable {s n}

/-- In the first pass nothing counts as saturated. -/
theorem State.channelBus_first (h : s.flag (R.ADC_STATUS_FIRST n) = true) : (s.channelBus n sub codes).regs = s.regs := by
  have hnone : (s.busSamples n codes).countP (fun p => p.2) = 0 := by simp [State.busSamples, h]
  rw [(MarksOnly.channelBus s n sub codes).regs, hnone]
  rfl

theorem State.channelBus_counts (h : s.flag (R.ADC_STATUS_FIRST n) = false) :
    let k := codes.countP (fun c => (correctSample (s.adcN n).dcor c).2)
    (s.channelBus n sub codes).f (R.ADC_OVR_COUNT n) = min (s.f (R.ADC_OVR_COUNT n) + k) (2 ^ 32 - 1) ∧
    (0 < k → (s.channelBus n sub codes).flag (R.ADC_STATUS_OVR n) = true) := by
  have hk : (s.busSamples n codes).countP (fun p => p.2) = codes.countP (fun c => (correctSample (s.adcN n).dcor c).2) := by
    simp [State.busSamples, h, List.countP_map, Function.comp_def]
  have marked := MarksOnly.channelBus s n sub codes
  rw [hk] at marked
  obtain ⟨hcount, hovr⟩ := (s.onBus n sub codes).overrange_spec n (codes.countP fun c => (correctSample (s.adcN n).dcor c).2)
  exact ⟨(marked.f_eq _).trans (by rw [hcount, State.onBus, State.f_setAdc]), fun hpos => (marked.flag_eq _).trans (hovr hpos)⟩

end

/-- The codes that a channel converts come with no other change than the free values used up. -/
theorem State.inputCodes_spec (s : State) (n : Nat) (codes : List (BitVec 12)) :
    (∃ k, (s.inputCodes n codes).1 = { s with freeCtr := k }) ∧
    ((s.adcN n).loopEn = false → (s.inputCodes n codes).2 = codes) ∧
    ((s.adcN n).loopEn = true → (s.inputCodes n codes).2 = s.loopCodes (s.adcN n).loopSrc) := by
  unfold State.inputCodes
  dsimp only
  split
  next h => exact ⟨⟨_, rfl⟩, fun hoff => absurd h (by simp [hoff]), fun _ => rfl⟩
  next h => exact ⟨⟨s.freeCtr, rfl⟩, fun _ => rfl, fun hon => absurd hon h⟩

/-- The consumers of a block leave the input channels and the clock as the channel bus has left them. -/
theorem channelSamples_front {n sub : Nat} {codes : List (BitVec 12)} {s : State} (hr : s.clk.released = true)
    (hen : s.flag (R.ADC_CTRL_EN n) = true) : (channelSamples n sub codes s).front =
      ((s.inputCodes n codes).1.channelBus n sub (s.inputCodes n codes).2).front := by
  unfold channelSamples
  rw [if_neg (by simp [hr, hen])]
  exact (State.front_feedChains ..).trans
    ((State.front_feedRaw ..).trans ((State.front_feedRawSlots ..).trans (State.front_feedRawUnits ..)))

end Sys2Proof.Machine

open Sys2Proof Sys2Proof.Machine

/-- Settles O17: the consumers of a block change neither the input channels nor the clock, so that the channel bus stands as the
correction has left it. Of a looped channel the codes are formed from its output's, which is the model's choice (log entry 23). -/
theorem digitalCorrection : Obligations.DigitalCorrection := by
  unfold Obligations.DigitalCorrection
  refine ⟨fun d x => ⟨satS_sixteen _, ?_⟩, fun n sub codes s hr hen hrun => ?_, fun n sub codes s _ => ?_⟩
  · simp only [correctSample, Bool.or_eq_true, beq_iff_eq, outS_sixteen, or_assoc]
  · obtain ⟨⟨k, hk⟩, hplain, hloop⟩ := s.inputCodes_spec n codes
    have hfront := channelSamples_front (sub := sub) (codes := codes) hr hen
    rw [hk] at hfront
    generalize (s.inputCodes n codes).2 = used at hplain hloop hfront ⊢
    have hbus := ({ s with freeCtr := k } : State).channelBus_bus n sub used
    have kept := ConvOnly.channelBus { s with freeCtr := k } n sub used
    refine ⟨_, congrArg Host.Outcome.next (if_pos hrun), hplain, hloop, ?_, ?_, fun m hm => ?_, ?_⟩
    · rw [State.adcN_of_front hfront, hbus.1, State.busSamples, List.map_map]
      refine List.map_congr_left fun c _ => ?_
      have hfirst : ({ s with freeCtr := k } : State).flag (R.ADC_STATUS_FIRST n) = s.flag (R.ADC_STATUS_FIRST n) :=
        State.flag_of_regs (by rfl) _
      rw [Function.comp_apply, hfirst]
      exact apply_ite Prod.fst (s.flag (R.ADC_STATUS_FIRST n) = true) _ _
    · rw [State.adcN_of_front hfront, hbus.2]
    · exact (State.adcN_of_front hfront m).trans (kept.others m hm).1
    · rw [State.clk_of_front hfront, kept.eq]
      rfl
  · have kept := ConvOnly.channelBus s n sub codes
    exact ⟨State.channelBus_first sub codes, State.channelBus_counts sub codes, kept.fields, kept.eq⟩
end

section
/-!
PROOF. Input channels: the trims of their sub-converters, the steps of the rotation, and the plausibility and measurement decisions
(spec/03_converters.md, R70 to R80, R83 and R84).
-/
namespace Sys2Proof.Machine

/-! ## Trims (Table 3-1) -/

/-- The field lies in the words of the trims of channel `n`. -/
def TrimFld (n : Nat) (x : Fld) : Prop := 0x41100 + 0x1000 * n ≤ x.base ∧ x.base + 4 * x.words ≤ 0x41300 + 0x1000 * n

section
variable {n k : Nat} {s t : State} {x z : Fld} {xs : List Fld}

theorem trimFld_trim (hk : k ≤ 32) {lo wd : Nat} (h : (⟨0, lo, wd⟩ : Fld).words = 1 ∧ lo < 32) :
    TrimFld n ⟨0x41100 + 0x1000 * n + 4 * k, lo, wd⟩ := by
  simp only [TrimFld, Fld.base, Fld.words] at h ⊢
  omega

theorem trimFld_skew (hk : k ≤ 32) {lo wd : Nat} (h : (⟨0, lo, wd⟩ : Fld).words = 1 ∧ lo < 32) :
    TrimFld n ⟨0x41200 + 0x1000 * n + 4 * k, lo, wd⟩ := by
  simp only [TrimFld, Fld.base, Fld.words] at h ⊢
  omega

/-- A write of trims leaves the control, status and counters of the channel alone. -/
theorem FieldsKept.head_eq (h : FieldsKept xs s t) (hxs : ∀ x ∈ xs, TrimFld n x) (y : Nat → Fld)
    (hy : ChannelFld y := by intro i; rfl) (h0 : (y 0).base + 4 * (y 0).words ≤ 0x41100 := by decide) : t.f (y n) = s.f (y n) := by
  refine h _ fun x hx => .inr (.inl ?_)
  obtain ⟨hlo, -⟩ := hxs x hx
  rw [hy n]
  simp only [Fld.base, Fld.words, Fld.shift] at h0 hlo ⊢
  omega

/-- A write of the control, status and counters of a channel leaves its trims alone. -/
theorem ConvOnly.trim_eq {ys : List (Nat → Fld)} (h : ConvOnly .input n ys s t) (hx : TrimFld n x)
    (hys : ChannelFlds ys := by intro i; rfl)
    (h0 : ∀ y ∈ ys.map (fun y => y 0), y.base + 4 * y.words ≤ 0x41100 := by decide) : t.f x = s.f x := by
  refine h.fields _ fun y hy => .inl ?_
  rw [hys n] at hy
  obtain ⟨y0, hy0, rfl⟩ := List.mem_map.mp hy
  have hy := h0 y0 hy0
  obtain ⟨hlo, -⟩ := hx
  simp only [Fld.base, Fld.words, Fld.shift] at hy hlo ⊢
  omega

/-- A field of one word is kept apart by whatever is apart from the whole word. -/
theorem FieldsKept.of_word (h : FieldsKept [x] s t) (hoff : z.off = x.off) (hx : x.words = 1 ∧ x.lo < 32)
    (hz : z.lo = 0 ∧ z.wd = 32) : FieldsKept [z] s t := by
  refine fun y hy => h y fun w hw => ?_
  obtain rfl := List.mem_singleton.mp hw
  have hzy := hy z (List.mem_singleton.mpr rfl)
  obtain ⟨hlo, hwd⟩ := hz
  simp only [Fld.apart, Fld.base, Fld.words, hlo, hwd, hoff] at hx hzy ⊢
  omega

/-- `t` differs from `s` in the trim words of sub-converter `k` of channel `n` alone. -/
abbrev TrimOnly (n k : Nat) (s t : State) : Prop := ConvOnly .input n [fun i => R.ADC_TRIM i k, fun i => R.ADC_SKEW i k] s t

theorem TrimOnly.trans {u : State} (h1 : TrimOnly n k s t) (h2 : TrimOnly n k t u) : TrimOnly n k s u :=
  (ConvOnly.trans h1 h2).mono (by simp)

theorem TrimOnly.trimF (s : State) (lo wd v : Nat) (h : (⟨0, lo, wd⟩ : Fld).words = 1 ∧ lo < 32) :
    TrimOnly n k s (s.setF ⟨0x41100 + 0x1000 * n + 4 * k, lo, wd⟩ v) := by
  have kept : FieldsKept [R.ADC_TRIM n k] s (s.setF ⟨0x41100 + 0x1000 * n + 4 * k, lo, wd⟩ v) :=
    (FieldsKept.setF s _ v).of_word rfl h ⟨rfl, rfl⟩
  exact .setWordsAt _ _ (kept.mono (by simp))

theorem TrimOnly.skewF (s : State) (lo wd v : Nat) (h : (⟨0, lo, wd⟩ : Fld).words = 1 ∧ lo < 32) :
    TrimOnly n k s (s.setF ⟨0x41200 + 0x1000 * n + 4 * k, lo, wd⟩ v) := by
  have kept : FieldsKept [R.ADC_SKEW n k] s (s.setF ⟨0x41200 + 0x1000 * n + 4 * k, lo, wd⟩ v) :=
    (FieldsKept.setF s _ v).of_word rfl h ⟨rfl, rfl⟩
  exact .setWordsAt _ _ (kept.mono (by simp))

theorem TrimOnly.head_eq (h : TrimOnly n k s t) (hk : k ≤ 32) (y : Nat → Fld) (hy : ChannelFld y := by intro i; rfl)
    (h0 : (y 0).base + 4 * (y 0).words ≤ 0x41100 := by decide) : t.f (y n) = s.f (y n) := by
  refine h.fields.head_eq (fun x hx => ?_) y hy h0
  rcases List.mem_pair.mp hx with rfl | rfl
  · exact trimFld_trim hk (by decide)
  · exact trimFld_skew hk (by decide)

/-- The fields of a word of trims do not touch one another. -/
theorem State.f_setF_sameWord (s : State) (v : Nat) {off lo wd lo' wd' : Nat}
    (h : (⟨0, lo, wd⟩ : Fld).apart ⟨0, lo', wd'⟩) : (s.setF ⟨off, lo, wd⟩ v).f ⟨off, lo', wd'⟩ = s.f ⟨off, lo', wd'⟩ := by
  refine State.f_setF_apart s _ _ v ?_
  simp only [Fld.apart, Fld.base, Fld.words] at h ⊢
  omega

/-- A write of the skew leaves the other trims alone. -/
theorem State.f_trim_setF_skew (s : State) (v : Nat) {lo wd : Nat} (h : (⟨0, lo, wd⟩ : Fld).words = 1 ∧ lo < 32) :
    (s.setF (R.ADC_SKEW_SKEW n k) v).f ⟨0x41100 + 0x1000 * n + 4 * k, lo, wd⟩ = s.f ⟨0x41100 + 0x1000 * n + 4 * k, lo, wd⟩ := by
  refine State.f_setF_apart s _ _ v (.inr (.inl ?_))
  simp only [R.ADC_SKEW_SKEW, Fld.base, Fld.words] at h ⊢
  omega

theorem TrimOnly.setTrims (s : State) (n k : Nat) (m : TrimSet) : TrimOnly n k s (s.setTrims n k m) :=
  (((TrimOnly.trimF s 0 10 _ (by decide)).trans (.trimF _ 10 10 _ (by decide))).trans (.trimF _ 20 6 _ (by decide))).trans
    (.skewF _ 0 12 _ (by decide))

/-- The trims that a sub-converter has been given. -/
theorem State.setTrims_spec (s : State) (n k : Nat) (m : TrimSet) :
    (s.setTrims n k m).f (R.ADC_TRIM_OFS n k) = wrapInt 10 m.ofs ∧ (s.setTrims n k m).f (R.ADC_TRIM_GAIN n k) = wrapInt 10 m.gain ∧
    (s.setTrims n k m).f (R.ADC_TRIM_BW n k) = m.bw % 2 ^ 6 ∧ (s.setTrims n k m).f (R.ADC_SKEW_SKEW n k) = m.skew % 2 ^ 12 := by
  have wrapped (i : Int) : wrapInt 10 i % 2 ^ 10 = wrapInt 10 i := Nat.mod_eq_of_lt (wrapInt_lt 10 i)
  refine ⟨?_, ?_, ?_, State.f_setF_self ..⟩
  · calc _ = _ := State.f_trim_setF_skew _ _ (by decide)
      _ = _ := State.f_setF_sameWord _ _ (by unfold Fld.apart; decide)
      _ = _ := State.f_setF_sameWord _ _ (by unfold Fld.apart; decide)
      _ = _ := State.f_setF_self ..
      _ = _ := wrapped m.ofs
  · calc _ = _ := State.f_trim_setF_skew _ _ (by decide)
      _ = _ := State.f_setF_sameWord _ _ (by unfold Fld.apart; decide)
      _ = _ := State.f_setF_self ..
      _ = _ := wrapped m.gain
  · exact (State.f_trim_setF_skew _ _ (by decide)).trans (State.f_setF_self ..)

end

end Sys2Proof.Machine
end

section
/-!
PROOF. Input channels: how a step of the rotation starts, ends, hands its slot over and back, and what its two decisions count
(spec/03_converters.md, R71 to R80, R83 and R84).
-/
namespace Sys2Proof.Machine

/-! ## The end of a step (R71, R83) -/

section
variable {s t : State} {n : Nat}

theorem ConvOnly.showHeld (s : State) (n : Nat) : ConvOnly .input n [R.ADC_STATUS_HELD] s (s.showHeld n) :=
  .ite (.setB s R.ADC_STATUS_HELD true) ((ConvOnly.refl s).mono (by simp))

theorem State.adcN_showHeld (s : State) (n m : Nat) : (s.showHeld n).adcN m = s.adcN m := by
  unfold State.showHeld
  split <;> simp

/-- A step that ends while no first pass waits for it. -/
theorem State.stepEnd_eq (h : (s.adcN n).fpWait = false) : s.stepEnd n =
    ((s.setAdc n { s.adcN n with phase := .idle, nextStep := ((s.adcN n).slot + 1) % 33, undo := none }).setB
      (R.ADC_STATUS_STEP n) false).showHeld n := if_neg (by simp [h])

theorem ConvOnly.stepEnd (h : (s.adcN n).fpWait = false) :
    ConvOnly .input n [R.ADC_STATUS_STEP, R.ADC_STATUS_HELD] s (s.stepEnd n) := by
  rw [State.stepEnd_eq h]
  exact ((ConvOnly.setAdc ..).trans (.setB _ R.ADC_STATUS_STEP false)).trans (.showHeld ..)

theorem State.stepEnd_spec (h : (s.adcN n).fpWait = false) : (s.stepEnd n).flag (R.ADC_STATUS_STEP n) = false ∧
    (s.stepEnd n).adcN n = { s.adcN n with phase := .idle, nextStep := ((s.adcN n).slot + 1) % 33, undo := none } := by
  rw [State.stepEnd_eq h]
  refine ⟨?_, by rw [State.adcN_showHeld, State.adcN_setB, State.adcN_setAdc]⟩
  rw [(ConvOnly.showHeld ..).flag_eq R.ADC_STATUS_STEP]
  exact State.flag_setB_self _ _ _ Nat.one_pos

/-! ## The start of a step (R71, R72) -/

/-- The channel in the step that starts: the sub-converter of the next slot, or the spare wheel in its own step. -/
def State.stepChannel (s : State) (n : Nat) : AdcSt :=
  let a := s.adcN n
  let own := a.nextStep == 32
  let out := if own then 32 else (a.slots[a.nextStep]?).getD a.nextStep
  { a with slot := a.nextStep, outgoing := out, attempt := 1, phase := if own then RotPhase.measure else RotPhase.plaus }

theorem rotationStepStart_eq (hen : s.flag (R.ADC_CTRL_EN n) = true) (hhold : s.flag (R.ADC_CTRL_ROT_HOLD n) = false)
    (hrot : s.flag (R.ADC_CTRL_ROT_EN n) = true) (hdeg : s.flag (R.ADC_STATUS_DEGRADED n) = false)
    (hset : s.flag (R.ADC_STATUS_SETTLED n) = true) (hstep : s.flag (R.ADC_STATUS_STEP n) = false) : rotationStepStart n s =
      ((s.setAdc n (s.stepChannel n)).setB (R.ADC_STATUS_STEP n) true).setB (R.ADC_STATUS_HELD n) false :=
  if_neg (by simp [hen, hhold, hrot, hdeg, hset, hstep])

theorem State.stepChannel_spec (s : State) (n : Nat) : (s.stepChannel n).slot = (s.adcN n).nextStep ∧
    ((s.adcN n).nextStep = 32 → (s.stepChannel n).outgoing = 32 ∧ (s.stepChannel n).phase = .measure) ∧
    ((s.adcN n).nextStep ≠ 32 → (s.stepChannel n).phase = .plaus ∧ (s.stepChannel n).attempt = 1 ∧
      (s.stepChannel n).outgoing = ((s.adcN n).slots[(s.adcN n).nextStep]?).getD (s.adcN n).nextStep) := by
  refine ⟨rfl, fun h => ?_, fun h => ?_⟩ <;> simp [State.stepChannel, h]

/-! ## The figure of a plausibility window (R73) -/

/-- Neither code of the pair is an end of the range. -/
def pairCounts (p : BitVec 12 × BitVec 12) : Bool := codeCounts p.1 && codeCounts p.2

def pairGap (p : BitVec 12 × BitVec 12) : Nat := (p.1.toInt - p.2.toInt).natAbs

def windowCount (w : List (BitVec 12 × BitVec 12)) : Nat := (w.filter pairCounts).length

def windowSum (w : List (BitVec 12 × BitVec 12)) : Nat := ((w.filter pairCounts).map pairGap).sum

/-- The figure counts the pairs that count, and sums their differences. -/
theorem plausFigure_eq (w : List (BitVec 12 × BitVec 12)) : plausFigure w = (windowCount w, windowSum w) := by
  have from_acc (acc : Nat × Nat) :
      w.foldl (fun acc p => if pairCounts p then (acc.1 + 1, acc.2 + pairGap p) else acc) acc =
        (acc.1 + windowCount w, acc.2 + windowSum w) := by
    unfold windowCount windowSum
    induction w generalizing acc with
    | nil => rfl
    | cons p w ih =>
      rw [List.foldl_cons, ih]
      by_cases h : pairCounts p = true
      · rw [if_pos h, List.filter_cons_of_pos h, List.length_cons, List.map_cons, List.sum_cons, Nat.add_assoc, Nat.add_comm 1,
          Nat.add_assoc]
      · rw [if_neg h, List.filter_cons_of_neg h]
  exact (from_acc (0, 0)).trans (Prod.ext (Nat.zero_add _) (Nat.zero_add _))

/-! ## The slot that the spare wheel takes, and its return (R71, R81) -/

/-- The channel with slot `k` served by sub-converter `c`, and the mark of the exchange. -/
def State.serve (s : State) (n k : Nat) (a : AdcSt) : State := (s.setAdc n a).markChan n k k fCAL

theorem ConvOnly.serve (s : State) (n k : Nat) (a : AdcSt) : ConvOnly .input n [] s (s.serve n k a) :=
  (ConvOnly.setAdc ..).trans (MarksOnly.markChan ..).only

theorem State.serve_spec (s : State) (n k : Nat) (a : AdcSt) :
    (∃ m, (s.serve n k a).adcN n = { a with marks := m }) ∧ (s.serve n k a).regs = s.regs := by
  have marked := MarksOnly.markChan (s.setAdc n a) n k k fCAL
  obtain ⟨m, hm⟩ := marked.marks
  exact ⟨⟨m, by rw [State.serve, hm, State.adcN_setAdc]⟩, marked.regs⟩

theorem ConvOnly.handOver (s : State) (n : Nat) : ConvOnly .input n [R.ADC_STATUS_SPARE_SLOT] s (s.handOver n) :=
  (ConvOnly.serve ..).trans (.setF _ R.ADC_STATUS_SPARE_SLOT _)

theorem State.handOver_spec (h : (s.adcN n).slot < 32) : ((s.handOver n).adcN n).slots = (s.adcN n).slots.set (s.adcN n).slot 32 ∧
    ((s.handOver n).adcN n).phase = .measure ∧ (s.handOver n).f (R.ADC_STATUS_SPARE_SLOT n) = (s.adcN n).slot := by
  obtain ⟨⟨m, hm⟩, -⟩ := s.serve_spec n (s.nextSlotSample (s.adcN n).slot)
    { s.adcN n with slots := (s.adcN n).slots.set (s.adcN n).slot 32, phase := .measure }
  have hadc := (State.adcN_setF _ n (R.ADC_STATUS_SPARE_SLOT n) (s.adcN n).slot).trans hm
  refine ⟨congrArg AdcSt.slots hadc, congrArg AdcSt.phase hadc, ?_⟩
  exact (State.f_setF_self ..).trans (Nat.mod_eq_of_lt (h.trans (show 32 < 2 ^ 6 by decide)))

/-! ## Retirement (R76, R77) -/

theorem trimRet_word (n k : Nat) : (R.ADC_TRIM_RET n k).words = 1 ∧ (R.ADC_TRIM_RET n k).lo < 32 := by
  simp only [Fld.words, R.ADC_TRIM_RET]
  decide

/-- The channel with the spare wheel in the slot of the step for good. -/
def State.retiredChannel (s : State) (n : Nat) : AdcSt :=
  let a := s.adcN n
  { a with slots := a.slots.set a.slot 32, phase := .idle, degradedAt := some (s.nextSlotSample a.slot) }

/-- The channel whose sub-converter is retired, before the entry of the error log. -/
def State.retired (s : State) (n : Nat) : State :=
  let a := s.adcN n
  let s1 := s.serve n (s.nextSlotSample a.slot) (s.retiredChannel n)
  let s2 := (s1.setF (R.ADC_STATUS_SPARE_SLOT n) a.slot).setB (R.ADC_STATUS_DEGRADED n) true
  let s3 := (s2.setF (R.ADC_STATUS_RETIRED n) a.outgoing).setB (R.ADC_TRIM_RET n a.outgoing) true
  (s3.setB (R.ADC_STATUS_STEP n) false).setB (R.ADC_STATUS_HELD n) true

theorem State.retire_eq (h : (s.adcN n).fpWait = false) :
    s.retire n = (s.retired n).errLog 0x0F 2 (0x02 + n) 0 [n, (s.adcN n).outgoing] := if_neg (by simp [h])

/-- What an entry of the error log may change: its own words, and, with its vector, the host interface and what was sent. -/
structure AlarmOnly (s t : State) : Prop where
  eq : ∃ r x c h o, t = { s with regs := r, sets := x, sec := c, host := h, out := o }
  words : WordsKept (fun a => LogWord a ∨ HostWord a) s t

theorem AlarmOnly.trans {u : State} (h1 : AlarmOnly s t) (h2 : AlarmOnly t u) : AlarmOnly s u := by
  refine ⟨?_, h1.words.trans h2.words⟩
  obtain ⟨_, _, _, _, _, rfl⟩ := h1.eq
  obtain ⟨_, _, _, _, _, rfl⟩ := h2.eq
  exact ⟨_, _, _, _, _, rfl⟩

theorem LogsOnly.alarm (h : LogsOnly LogWord s t) : AlarmOnly s t := by
  refine ⟨?_, h.words.mono fun _ ha => .inl ha⟩
  obtain ⟨_, _, rfl⟩ := h.eq
  exact ⟨_, _, _, _, _, rfl⟩

theorem RingsOnly.alarm (h : RingsOnly s t) : AlarmOnly s t := by
  refine ⟨?_, h.words.mono fun _ ha => .inr ha⟩
  obtain ⟨_, _, _, _, rfl⟩ := h.eq
  exact ⟨_, _, _, _, _, rfl⟩

/-- An entry of severity 2 or more writes what one below it writes, and signals its vector. -/
theorem AlarmOnly.errLog (s : State) (type block code : Nat) (detail : List Nat) {sev : Nat} (h : 2 ≤ sev) :
    AlarmOnly s (s.errLog type sev block code detail) := by
  have hn : s.f R.ID_ERRLOG_HEAD_INDEX < 256 := State.f_lt s _
  have entry (t : State) (o n v : Nat) (ho : o + 4 * n ≤ 64) :
      LogsOnly LogWord t (t.setWordsAt (0x1000 + 64 * s.f R.ID_ERRLOG_HEAD_INDEX + o) n v) :=
    .setWordsAt t v fun i hi => .inr (.inr ⟨by omega, by omega⟩)
  have lost (t : State) : LogsOnly LogWord t (t.incSat R.ID_ERRLOG_LOST) := .setF t _ rfl (.inr (.inl rfl))
  unfold State.errLog
  dsimp only
  rw [if_neg (by simp; omega), if_pos h, if_neg (by omega)]
  refine AlarmOnly.trans (LogsOnly.alarm (.trans ?_ (.ite (lost _) (.refl _ _)))) (RingsOnly.raise ..).alarm
  refine .trans ?_ (.setF _ _ rfl (.inl rfl))
  exact ((((entry _ 0 1 _ (by decide)).trans (entry _ 8 4 _ (by decide))).trans (entry _ 24 2 _ (by decide))).trans
    (entry _ 32 8 _ (by decide))).trans (entry _ 4 1 _ (by decide))

/-- A converter register reads as before. -/
theorem AlarmOnly.f_eq (h : AlarmOnly s t) (x : Fld) (hx : 0x5000 ≤ x.base ∧ x.base + 4 * x.words ≤ 0x600000) : t.f x = s.f x := by
  refine h.words.f_eq fun a h1 h2 ha => ?_
  unfold LogWord HostWord at ha
  omega

/-- The fields that tell of a retirement. -/
def retiredFlds (out : Nat) : List (Nat → Fld) :=
  [R.ADC_STATUS_SPARE_SLOT, R.ADC_STATUS_DEGRADED, R.ADC_STATUS_RETIRED, fun i => R.ADC_TRIM i out, R.ADC_STATUS_STEP, R.ADC_STATUS_HELD]

theorem ConvOnly.retired (s : State) (n : Nat) : ConvOnly .input n (retiredFlds (s.adcN n).outgoing) s (s.retired n) := by
  have ret (u : State) : ConvOnly .input n [fun i => R.ADC_TRIM i (s.adcN n).outgoing] u
      (u.setB (R.ADC_TRIM_RET n (s.adcN n).outgoing) true) :=
    .regs (by rw [State.setB_eq]) ((FieldsKept.setB u _ true).of_word rfl (trimRet_word ..) ⟨rfl, rfl⟩)
  exact (((((ConvOnly.serve ..).trans (.setF _ R.ADC_STATUS_SPARE_SLOT _)).trans (.setB _ R.ADC_STATUS_DEGRADED true)).trans
    (.setF _ R.ADC_STATUS_RETIRED _)).trans (ret _)).trans
      ((ConvOnly.setB _ R.ADC_STATUS_STEP false).trans (.setB _ R.ADC_STATUS_HELD true))

/-- The channel of which a sub-converter is retired. -/
theorem State.retired_spec (hout : (s.adcN n).outgoing ≤ 32) :
    (s.retired n).flag (R.ADC_STATUS_STEP n) = false ∧ (s.retired n).flag (R.ADC_STATUS_DEGRADED n) = true ∧
    (s.retired n).f (R.ADC_STATUS_RETIRED n) = (s.adcN n).outgoing ∧ (s.retired n).flag (R.ADC_TRIM_RET n (s.adcN n).outgoing) = true ∧
    ((s.retired n).adcN n).slots = (s.adcN n).slots.set (s.adcN n).slot 32 ∧
    ((s.retired n).adcN n).degradedAt = some (s.nextSlotSample (s.adcN n).slot) := by
  have ended (u : State) : ConvOnly .input n [R.ADC_STATUS_STEP, R.ADC_STATUS_HELD] u
      ((u.setB (R.ADC_STATUS_STEP n) false).setB (R.ADC_STATUS_HELD n) true) :=
    (ConvOnly.setB u R.ADC_STATUS_STEP false).trans (.setB _ R.ADC_STATUS_HELD true)
  have ret (u : State) (x : Nat → Fld) (hx : ChannelFld x) (h0 : (x 0).base + 4 * (x 0).words ≤ 0x41100) :
      (u.setB (R.ADC_TRIM_RET n (s.adcN n).outgoing) true).f (x n) = u.f (x n) :=
    (FieldsKept.setB u _ true).head_eq (fun y hy => by
      rw [List.mem_singleton.mp hy]; exact trimFld_trim hout (by decide)) x hx h0
  obtain ⟨⟨m, hm⟩, -⟩ := s.serve_spec n (s.nextSlotSample (s.adcN n).slot)
    (s.retiredChannel n)
  have hadc : (s.retired n).adcN n = { s.retiredChannel n with marks := m } := by
    unfold State.retired
    simp only [State.adcN_setB, State.adcN_setF]
    exact hm
  refine ⟨?_, ?_, ?_, ?_, congrArg AdcSt.slots hadc, congrArg AdcSt.degradedAt hadc⟩
  · exact ((ConvOnly.setB (side := .input) _ R.ADC_STATUS_HELD true).flag_eq R.ADC_STATUS_STEP).trans
      (State.flag_setB_self _ _ _ Nat.one_pos)
  · calc _ = _ := (ended _).flag_eq R.ADC_STATUS_DEGRADED
      _ = _ := State.flag_congr (ret _ R.ADC_STATUS_DEGRADED (fun _ => rfl) (by decide))
      _ = _ := (ConvOnly.setF (side := .input) _ R.ADC_STATUS_RETIRED _).flag_eq R.ADC_STATUS_DEGRADED
      _ = true := State.flag_setB_self _ _ _ Nat.one_pos
  · calc _ = _ := (ended _).f_eq R.ADC_STATUS_RETIRED
      _ = _ := ret _ R.ADC_STATUS_RETIRED (fun _ => rfl) (by decide)
      _ = _ := State.f_setF_self ..
      _ = _ := Nat.mod_eq_of_lt (hout.trans_lt (show 32 < 2 ^ 6 by decide))
  · calc _ = _ := State.flag_congr ((ended _).trim_eq (trimFld_trim hout (by decide)))
      _ = true := State.flag_setB_self _ _ _ Nat.one_pos

end

end Sys2Proof.Machine
end

section
/-!
PROOF. Input channels: the outcomes of a rotation step, each with its own counter (spec/03_converters.md, R73 to R80).
-/
namespace Sys2Proof.Machine

/-! ## The plausibility decision (R73 to R76) -/

section
variable {s : State} {n count sum : Nat}

theorem State.plausDecide_defers (hfew : count < 2048) (hatt : (s.adcN n).attempt < 3) :
    s.plausDecide n count sum = s.setAdc n { s.adcN n with phase := .deferred } := by
  unfold State.plausDecide
  exact (if_pos hfew).trans (if_neg (by omega))

theorem State.plausDecide_skips (hfew : count < 2048) (hatt : 3 ≤ (s.adcN n).attempt) :
    s.plausDecide n count sum = (s.incSat (R.ADC_CAL_SKIP n)).stepEnd n := by
  unfold State.plausDecide
  exact (if_pos hfew).trans (if_pos hatt)

theorem State.plausDecide_hands (hmany : 2048 ≤ count) (hlow : sum < max 1 (s.f R.ADC_PLAUS_LIM_LIM) * count) :
    s.plausDecide n count sum = s.handOver n := by
  unfold State.plausDecide
  exact (if_neg (by omega)).trans (if_pos hlow)

/-- The state with an abort counted, of the channel and in the run of its sub-converter. -/
def State.aborted (s : State) (n : Nat) : State :=
  (s.incSat (R.ADC_CAL_ABORT n)).incSat (R.ADC_TRIM_ABRUN n (s.adcN n).outgoing)

theorem trimAbrun_word (n k : Nat) : (R.ADC_TRIM_ABRUN n k).words = 1 ∧ (R.ADC_TRIM_ABRUN n k).lo < 32 := by
  simp only [Fld.words, R.ADC_TRIM_ABRUN]
  decide

theorem State.adcN_aborted (s : State) (n m : Nat) : (s.aborted n).adcN m = s.adcN m := by simp [State.aborted]

theorem ConvOnly.aborted (s : State) (n : Nat) :
    ConvOnly .input n [R.ADC_CAL_ABORT, fun i => R.ADC_TRIM i (s.adcN n).outgoing] s (s.aborted n) :=
  (ConvOnly.incSat s R.ADC_CAL_ABORT).trans
    (.setWordsAt _ _ ((FieldsKept.setF _ (R.ADC_TRIM_ABRUN n _) _).of_word rfl (trimAbrun_word ..) ⟨rfl, rfl⟩))

theorem State.aborted_head (hout : (s.adcN n).outgoing ≤ 32) (y : Nat → Fld) (hy : ChannelFld y := by intro i; rfl)
    (h0 : (y 0).base + 4 * (y 0).words ≤ 0x41100 := by decide) : (s.aborted n).f (y n) = (s.incSat (R.ADC_CAL_ABORT n)).f (y n) :=
  (FieldsKept.setF _ (R.ADC_TRIM_ABRUN n _) _).head_eq (fun x hx => by
    rw [List.mem_singleton.mp hx]; exact trimFld_trim hout (by decide)) y hy h0

theorem State.aborted_run (hout : (s.adcN n).outgoing ≤ 32) : (s.aborted n).f (R.ADC_TRIM_ABRUN n (s.adcN n).outgoing) =
    min (s.f (R.ADC_TRIM_ABRUN n (s.adcN n).outgoing) + 1) 3 := by
  refine (State.f_incSat_self ..).trans ?_
  have run : TrimFld n (R.ADC_TRIM_ABRUN n (s.adcN n).outgoing) := trimFld_trim hout (by decide)
  exact congrArg (fun k => min (k + 1) 3) ((ConvOnly.incSat s R.ADC_CAL_ABORT).trim_eq run)

theorem State.plausDecide_aborts (hmany : 2048 ≤ count) (hhigh : max 1 (s.f R.ADC_PLAUS_LIM_LIM) * count ≤ sum)
    (hout : (s.adcN n).outgoing ≤ 32) : s.plausDecide n count sum =
      if 2 ≤ s.f (R.ADC_TRIM_ABRUN n (s.adcN n).outgoing) then (s.aborted n).retire n else (s.aborted n).stepEnd n := by
  have hthird : 3 ≤ (s.aborted n).f (R.ADC_TRIM_ABRUN n (s.adcN n).outgoing) ↔
      2 ≤ s.f (R.ADC_TRIM_ABRUN n (s.adcN n).outgoing) := by
    rw [State.aborted_run hout]
    omega
  unfold State.plausDecide
  exact ((if_neg (by omega)).trans (if_neg (by omega))).trans (if_congr hthird rfl rfl)

end

/-- What a plausibility decision leaves alone, whatever it decides. -/
def DecisionKept (s t : State) : Prop := t.mem = s.mem ∧ t.clk = s.clk ∧ t.pending = s.pending

theorem ConvOnly.decisionKept {side : ConvSide} {n : Nat} {xs : List (Nat → Fld)} {s t : State} (h : ConvOnly side n xs s t) :
    DecisionKept s t := by
  rw [h.eq]
  cases side <;> exact ⟨rfl, rfl, rfl⟩

theorem AlarmOnly.decisionKept {s t : State} (h : AlarmOnly s t) : DecisionKept s t := by
  obtain ⟨_, _, _, _, _, rfl⟩ := h.eq
  exact ⟨rfl, rfl, rfl⟩

theorem DecisionKept.trans {s t u : State} (h1 : DecisionKept s t) (h2 : DecisionKept t u) : DecisionKept s u := by
  obtain ⟨hm1, hc1, hp1⟩ := h1
  obtain ⟨hm2, hc2, hp2⟩ := h2
  exact ⟨hm2.trans hm1, hc2.trans hc1, hp2.trans hp1⟩

section
variable {s : State} {n : Nat}

theorem State.skipped_spec (h : (s.adcN n).fpWait = false) : let t := (s.incSat (R.ADC_CAL_SKIP n)).stepEnd n
    t.f (R.ADC_CAL_SKIP n) = min (s.f (R.ADC_CAL_SKIP n) + 1) (2 ^ 32 - 1) ∧ t.flag (R.ADC_STATUS_STEP n) = false ∧
    (t.adcN n).slots = (s.adcN n).slots ∧ ConvOnly .input n [R.ADC_CAL_SKIP, R.ADC_STATUS_STEP, R.ADC_STATUS_HELD] s t := by
  have hwait : ((s.incSat (R.ADC_CAL_SKIP n)).adcN n).fpWait = false := by simpa using h
  obtain ⟨hstep, hadc⟩ := State.stepEnd_spec hwait
  refine ⟨?_, hstep, by rw [hadc, State.adcN_incSat], (ConvOnly.incSat s R.ADC_CAL_SKIP).trans (.stepEnd hwait)⟩
  rw [(ConvOnly.stepEnd hwait).f_eq R.ADC_CAL_SKIP, State.f_incSat_self]
  rfl

/-- The field is one of the words past the status of its channel and before the trims. -/
def CountFld (y : Nat → Fld) : Prop := ChannelFld y ∧ 0x41008 ≤ (y 0).base ∧ (y 0).base + 4 * (y 0).words ≤ 0x41100

/-- The end of a step and a retirement leave the counters of the channel alone. -/
theorem ConvOnly.count_eq {t : State} {out : Nat} (h : ConvOnly .input n (retiredFlds out) s t) (hout : out ≤ 32) {y : Nat → Fld}
    (hy : CountFld y) : t.f (y n) = s.f (y n) := by
  obtain ⟨hfar, hlo, hhi⟩ := hy
  refine h.fields _ fun x hx => ?_
  rw [hfar n]
  simp only [retiredFlds, List.map_cons, List.map_nil, List.mem_cons, List.not_mem_nil, or_false] at hx
  rcases hx with rfl | rfl | rfl | rfl | rfl | rfl <;>
    (simp only [Fld.apart, Fld.base, Fld.words, Fld.shift, R.ADC_STATUS_SPARE_SLOT, R.ADC_STATUS_DEGRADED, R.ADC_STATUS_RETIRED,
      R.ADC_TRIM, R.ADC_STATUS_STEP, R.ADC_STATUS_HELD] at hlo hhi ⊢; omega)

/-- What every abort leaves: the step over, the counters as the abort counted them. -/
structure StepAborted (n : Nat) (s t : State) : Prop where
  step : t.flag (R.ADC_STATUS_STEP n) = false
  counts : ∀ y : Nat → Fld, CountFld y → t.f (y n) = (s.aborted n).f (y n)
  kept : DecisionKept s t

/-- An abort that is not the third in a row ends the step. -/
theorem StepAborted.stepEnd (h : (s.adcN n).fpWait = false) (hout : (s.adcN n).outgoing ≤ 32) :
    StepAborted n s ((s.aborted n).stepEnd n) ∧ (((s.aborted n).stepEnd n).adcN n).slots = (s.adcN n).slots ∧
    ((s.aborted n).stepEnd n).flag (R.ADC_STATUS_DEGRADED n) = s.flag (R.ADC_STATUS_DEGRADED n) := by
  have hwait : ((s.aborted n).adcN n).fpWait = false := by rwa [State.adcN_aborted]
  obtain ⟨hstep, hadc⟩ := State.stepEnd_spec hwait
  have kept := ConvOnly.stepEnd hwait
  refine ⟨⟨hstep, fun y hy => ?_, ((ConvOnly.aborted s n).trans kept).decisionKept⟩, by rw [hadc, State.adcN_aborted], ?_⟩
  · exact (kept.mono (by simp [retiredFlds])).count_eq hout hy
  · calc _ = _ := kept.flag_eq R.ADC_STATUS_DEGRADED
      _ = _ := State.flag_congr (State.aborted_head hout R.ADC_STATUS_DEGRADED)
      _ = _ := (ConvOnly.incSat (side := .input) s R.ADC_CAL_ABORT).flag_eq R.ADC_STATUS_DEGRADED

theorem AlarmOnly.adcN {t : State} (h : AlarmOnly s t) (m : Nat) : t.adcN m = s.adcN m := by
  obtain ⟨_, _, _, _, _, rfl⟩ := h.eq
  rfl

/-- The entry of the error log leaves the registers of the input channels alone. -/
theorem AlarmOnly.channel_eq {t : State} (h : AlarmOnly s t) (hn : n < 8) {x : Fld}
    (hx : 0x41000 + 0x1000 * n ≤ x.base ∧ x.base + 4 * x.words ≤ 0x42000 + 0x1000 * n) : t.f x = s.f x := h.f_eq x (by omega)

/-- The third abort in a row retires the sub-converter. -/
theorem StepAborted.retire (h : (s.adcN n).fpWait = false) (hout : (s.adcN n).outgoing ≤ 32) (hn : n < 8) :
    let t := (s.aborted n).retire n
    StepAborted n s t ∧ (t.adcN n).slots = (s.adcN n).slots.set (s.adcN n).slot 32 ∧
    t.flag (R.ADC_STATUS_DEGRADED n) = true ∧ t.f (R.ADC_STATUS_RETIRED n) = (s.adcN n).outgoing ∧
    t.flag (R.ADC_TRIM_RET n (s.adcN n).outgoing) = true ∧ (t.adcN n).degradedAt = some (s.nextSlotSample (s.adcN n).slot) := by
  have hadc := State.adcN_aborted s n n
  have hnext : (s.aborted n).nextSlotSample (s.adcN n).slot = s.nextSlotSample (s.adcN n).slot := by
    unfold State.nextSlotSample
    rw [(ConvOnly.aborted s n).decisionKept.2.1]
  have hout' : ((s.aborted n).adcN n).outgoing ≤ 32 := by rwa [hadc]
  obtain ⟨hstep, hdeg, hret, hflag, hslots, hat⟩ := State.retired_spec hout'
  have kept := ConvOnly.retired (s.aborted n) n
  have alarm := AlarmOnly.errLog ((s.aborted n).retired n) 0x0F (0x02 + n) 0 [n, ((s.aborted n).adcN n).outgoing] (Nat.le_refl 2)
  rw [← State.retire_eq (by rwa [hadc])] at alarm
  have same {x : Fld} (hx : 0x41000 + 0x1000 * n ≤ x.base ∧ x.base + 4 * x.words ≤ 0x42000 + 0x1000 * n) := alarm.channel_eq hn hx
  have status (lo wd : Nat) (hx : lo < 32 ∧ (⟨0, lo, wd⟩ : Fld).words = 1) :
      ((s.aborted n).retire n).f ⟨0x41004 + 0x1000 * n, lo, wd⟩ = ((s.aborted n).retired n).f ⟨0x41004 + 0x1000 * n, lo, wd⟩ := by
    refine same ?_
    simp only [Fld.base, Fld.words] at hx ⊢
    omega
  have retTrim : TrimFld n (R.ADC_TRIM_RET n (s.adcN n).outgoing) := trimFld_trim hout (by decide)
  rw [hadc] at hret hflag hslots hat
  refine ⟨⟨?_, fun y hy => ?_, ?_⟩, ?_, ?_, ?_, ?_, ?_⟩
  · exact (State.flag_congr (status 0 1 (by decide))).trans hstep
  · refine Eq.trans (same ?_) (kept.count_eq hout' hy)
    obtain ⟨hfar, hlo, hhi⟩ := hy
    rw [hfar n]
    simp only [Fld.base, Fld.words, Fld.shift] at hlo hhi ⊢
    omega
  · exact ((ConvOnly.aborted s n).trans kept).decisionKept.trans alarm.decisionKept
  · rw [alarm.adcN, hslots]
  · exact (State.flag_congr (status 3 1 (by decide))).trans hdeg
  · exact (status 8 6 (by decide)).trans hret
  · refine (State.flag_congr (same ?_)).trans hflag
    obtain ⟨hlo, hhi⟩ := retTrim
    exact ⟨by omega, by omega⟩
  · rw [alarm.adcN, hat, hnext]

/-- An abort counts once, and in no other counter. -/
theorem StepAborted.counters {t : State} (h : StepAborted n s t) (hout : (s.adcN n).outgoing ≤ 32) :
    t.f (R.ADC_CAL_ABORT n) = min (s.f (R.ADC_CAL_ABORT n) + 1) (2 ^ 32 - 1) ∧ t.f (R.ADC_CAL_OK n) = s.f (R.ADC_CAL_OK n) ∧
    t.f (R.ADC_CAL_REJ n) = s.f (R.ADC_CAL_REJ n) ∧ t.f (R.ADC_CAL_SKIP n) = s.f (R.ADC_CAL_SKIP n) := by
  have counted := ConvOnly.incSat (side := .input) (n := n) s R.ADC_CAL_ABORT
  refine ⟨?_, ?_, ?_, ?_⟩
  · calc _ = _ := h.counts R.ADC_CAL_ABORT ⟨fun _ => rfl, by decide, by decide⟩
      _ = _ := State.aborted_head hout R.ADC_CAL_ABORT
      _ = _ := State.f_incSat_self ..
  · calc _ = _ := h.counts R.ADC_CAL_OK ⟨fun _ => rfl, by decide, by decide⟩
      _ = _ := State.aborted_head hout R.ADC_CAL_OK
      _ = _ := counted.f_eq R.ADC_CAL_OK
  · calc _ = _ := h.counts R.ADC_CAL_REJ ⟨fun _ => rfl, by decide, by decide⟩
      _ = _ := State.aborted_head hout R.ADC_CAL_REJ
      _ = _ := counted.f_eq R.ADC_CAL_REJ
  · calc _ = _ := h.counts R.ADC_CAL_SKIP ⟨fun _ => rfl, by decide, by decide⟩
      _ = _ := State.aborted_head hout R.ADC_CAL_SKIP
      _ = _ := counted.f_eq R.ADC_CAL_SKIP

theorem StepAborted.plausDecide {count sum : Nat} (hmany : 2048 ≤ count) (hhigh : max 1 (s.f R.ADC_PLAUS_LIM_LIM) * count ≤ sum)
    (h : (s.adcN n).fpWait = false) (hout : (s.adcN n).outgoing ≤ 32) (hn : n < 8) : StepAborted n s (s.plausDecide n count sum) := by
  rw [State.plausDecide_aborts hmany hhigh hout]
  split
  · exact (StepAborted.retire h hout hn).1
  · exact (StepAborted.stepEnd h hout).1

theorem State.plausDecide_leaves {count sum : Nat} (h : (s.adcN n).fpWait = false) (hout : (s.adcN n).outgoing ≤ 32) (hn : n < 8) :
    DecisionKept s (s.plausDecide n count sum) := by
  rcases Nat.lt_or_ge count 2048 with hfew | hmany
  · rcases Nat.lt_or_ge (s.adcN n).attempt 3 with hatt | hatt
    · rw [State.plausDecide_defers hfew hatt]
      exact (ConvOnly.setAdc ..).decisionKept
    · rw [State.plausDecide_skips hfew hatt]
      exact (State.skipped_spec h).2.2.2.decisionKept
  · rcases Nat.lt_or_ge sum (max 1 (s.f R.ADC_PLAUS_LIM_LIM) * count) with hlow | hhigh
    · rw [State.plausDecide_hands hmany hlow]
      exact (ConvOnly.handOver ..).decisionKept
    · exact (StepAborted.plausDecide hmany hhigh h hout hn).kept

end

end Sys2Proof.Machine
end

section
/-!
PROOF. Input channels: the comparison of the two measurements of a step (spec/03_converters.md, R72, R78 and R79).
-/
namespace Sys2Proof.Machine

section
variable {s : State} {n : Nat} {m m1 m2 : TrimSet}

/-- CAL_PTIME of a channel, its four words together. -/
def calPtime (n : Nat) : Fld := ⟨0x41030 + 0x1000 * n, 0, 128⟩

/-- The state with a calibration accepted: its trims written, counted and stamped, the run of aborts over. -/
def State.accepted (s : State) (n : Nat) (m : TrimSet) : State :=
  let t := (s.setTrims n (s.adcN n).outgoing m).addWrap (R.ADC_CAL_OK n) 1
  (t.setF (R.ADC_TRIM_ABRUN n (s.adcN n).outgoing) 0).setPtimeAt (R.ADC_CAL_PTIME n 0).off s.now

/-- The fields that an accepted calibration writes, beside the trims. -/
theorem ConvOnly.stamped (s : State) (n t : Nat) : ConvOnly .input n [calPtime] s (s.setPtimeAt (R.ADC_CAL_PTIME n 0).off t) :=
  .setWordsAt _ _ (.of_wordsKept rfl (by decide : 32 ≤ 128) (.setWordsAt _ _ fun i hi => ⟨by
    simp only [calPtime, Fld.base, R.ADC_CAL_PTIME]; omega, by simp only [calPtime, Fld.base, Fld.words, R.ADC_CAL_PTIME]; omega⟩))

theorem ConvOnly.accepted (s : State) (n : Nat) (m : TrimSet) : ConvOnly .input n
    [R.ADC_CAL_OK, calPtime, fun i => R.ADC_TRIM i (s.adcN n).outgoing, fun i => R.ADC_SKEW i (s.adcN n).outgoing] s (s.accepted n m) := by
  have reset (u : State) : TrimOnly n (s.adcN n).outgoing u (u.setF (R.ADC_TRIM_ABRUN n (s.adcN n).outgoing) 0) :=
    TrimOnly.trimF u 28 2 0 (by decide)
  have counted (u : State) : ConvOnly .input n [R.ADC_CAL_OK] u (u.addWrap (R.ADC_CAL_OK n) 1) := .setF u R.ADC_CAL_OK _
  exact (((ConvOnly.trans (TrimOnly.setTrims s n _ m) (counted _)).trans (reset _)).trans (.stamped ..)).mono (by simp)

theorem State.adcN_accepted (s : State) (n : Nat) (m : TrimSet) : (s.accepted n m).adc = s.adc := by
  simp [State.accepted, State.setTrims, State.setFi]

/-- What an accepted calibration has written. -/
theorem State.accepted_spec (hout : (s.adcN n).outgoing ≤ 32) : let t := s.accepted n m
    let k := (s.adcN n).outgoing
    t.f (R.ADC_CAL_OK n) = (s.f (R.ADC_CAL_OK n) + 1) % 2 ^ 64 ∧ t.f (R.ADC_CAL_REJ n) = s.f (R.ADC_CAL_REJ n) ∧
    t.f (R.ADC_TRIM_ABRUN n k) = 0 ∧ t.f (R.ADC_TRIM_OFS n k) = wrapInt 10 m.ofs ∧ t.f (R.ADC_TRIM_GAIN n k) = wrapInt 10 m.gain ∧
    t.f (R.ADC_TRIM_BW n k) = m.bw % 2 ^ 6 ∧ t.f (R.ADC_SKEW_SKEW n k) = m.skew % 2 ^ 12 ∧ t.f (calPtime n) = pt128 s.now := by
  have trims := TrimOnly.setTrims s n (s.adcN n).outgoing m
  obtain ⟨hofs, hgain, hbw, hskew⟩ := s.setTrims_spec n (s.adcN n).outgoing m
  generalize hk : (s.adcN n).outgoing = k at *
  have heq : s.accepted n m = ((((s.setTrims n k m).addWrap (R.ADC_CAL_OK n) 1).setF (R.ADC_TRIM_ABRUN n k) 0).setPtimeAt
    (R.ADC_CAL_PTIME n 0).off s.now) := by rw [← hk]; rfl
  generalize s.setTrims n k m = u at *
  have counted : ConvOnly .input n [R.ADC_CAL_OK] u (u.addWrap (R.ADC_CAL_OK n) 1) := .setF u R.ADC_CAL_OK _
  have reset : TrimOnly n k (u.addWrap (R.ADC_CAL_OK n) 1) ((u.addWrap (R.ADC_CAL_OK n) 1).setF (R.ADC_TRIM_ABRUN n k) 0) :=
    TrimOnly.trimF _ 28 2 0 (by decide)
  have stamped := ConvOnly.stamped ((u.addWrap (R.ADC_CAL_OK n) 1).setF (R.ADC_TRIM_ABRUN n k) 0) n s.now
  rw [← heq] at stamped
  have trim (lo wd : Nat) (h : (⟨0, lo, wd⟩ : Fld).words = 1 ∧ lo < 32) (ha : (⟨0, 28, 2⟩ : Fld).apart ⟨0, lo, wd⟩) :
      (s.accepted n m).f ⟨0x41100 + 0x1000 * n + 4 * k, lo, wd⟩ = u.f ⟨0x41100 + 0x1000 * n + 4 * k, lo, wd⟩ := by
    calc _ = _ := stamped.trim_eq (trimFld_trim hout h)
      _ = _ := State.f_setF_sameWord _ _ ha
      _ = _ := counted.trim_eq (trimFld_trim hout h)
  refine ⟨?_, ?_, ?_, (trim 0 10 (by decide) (by unfold Fld.apart; decide)).trans hofs,
    (trim 10 10 (by decide) (by unfold Fld.apart; decide)).trans hgain, (trim 20 6 (by decide) (by unfold Fld.apart; decide)).trans hbw,
    ?_, ?_⟩
  · calc _ = _ := stamped.f_eq R.ADC_CAL_OK
      _ = _ := reset.head_eq hout R.ADC_CAL_OK
      _ = _ := State.f_addWrap_self ..
      _ = _ := by rw [trims.head_eq hout R.ADC_CAL_OK]; rfl
  · calc _ = _ := stamped.f_eq R.ADC_CAL_REJ
      _ = _ := reset.head_eq hout R.ADC_CAL_REJ
      _ = _ := counted.f_eq R.ADC_CAL_REJ
      _ = _ := trims.head_eq hout R.ADC_CAL_REJ
  · exact (stamped.trim_eq (trimFld_trim hout (by decide))).trans (State.f_setF_self ..)
  · calc _ = _ := stamped.trim_eq (trimFld_skew hout (by decide))
      _ = _ := State.f_setF_apart _ _ _ _ (.inl (by simp only [R.ADC_TRIM_ABRUN, Fld.base, Fld.words]; omega))
      _ = _ := counted.trim_eq (trimFld_skew hout (by decide))
      _ = _ := hskew
  · rw [heq]
    exact State.f_setPtimeAt_self ..

/-- The state with the two measurements of a step compared. -/
def State.compared (s : State) (n : Nat) (m1 m2 : TrimSet) : State :=
  if TrimAgree m1 m2 then s.accepted n (trimMean m1 m2) else s.incSat (R.ADC_CAL_REJ n)

/-- The fields that a comparison writes beside the trims. -/
theorem State.compared_eq (s : State) (n : Nat) (m1 m2 : TrimSet) :
    s.compared n m1 m2 = ConvSide.input.frame s (s.compared n m1 m2) := by
  unfold State.compared
  split
  · exact (ConvOnly.accepted s n _).eq
  · exact (ConvOnly.incSat s R.ADC_CAL_REJ).eq

theorem State.adcN_compared (s : State) (n : Nat) (m1 m2 : TrimSet) (i : Nat) : (s.compared n m1 m2).adcN i = s.adcN i := by
  unfold State.compared
  split
  · exact State.adcN_congr (s.adcN_accepted n _) i
  · exact s.adcN_incSat i _

theorem measurementCompare_eq (h : (s.adcN n).phase = .measure) : measurementCompare n m1 m2 s =
    if (s.adcN n).slot == 32 then (s.compared n m1 m2).stepEnd n
    else (s.compared n m1 m2).setAdc n { (s.compared n m1 m2).adcN n with
      phase := .settle, undo := some (s.stepSave n (s.adcN n).outgoing) } := if_neg (by simp [h])

/-- A comparison ends the spare wheel's own step, and lets the new trims of any other settle. -/
theorem measurementCompare_spec (h : (s.adcN n).phase = .measure) (hwait : (s.adcN n).fpWait = false) :
    let t := measurementCompare n m1 m2 s
    ConvOnly .input n [R.ADC_STATUS_STEP, R.ADC_STATUS_HELD] (s.compared n m1 m2) t ∧
    ((s.adcN n).slot = 32 → t.flag (R.ADC_STATUS_STEP n) = false) ∧ ((s.adcN n).slot ≠ 32 → (t.adcN n).phase = .settle) ∧
    (t.adcN n).slots = (s.adcN n).slots := by
  have hadc := s.adcN_compared n m1 m2 n
  have hwait' : ((s.compared n m1 m2).adcN n).fpWait = false := by rwa [hadc]
  rw [measurementCompare_eq h]
  by_cases hslot : (s.adcN n).slot = 32
  · obtain ⟨hstep, hend⟩ := State.stepEnd_spec hwait'
    rw [if_pos (beq_iff_eq.mpr hslot)]
    exact ⟨.stepEnd hwait', fun _ => hstep, fun hne => absurd hslot hne, by rw [hend, hadc]⟩
  · rw [if_neg (by simpa using hslot)]
    refine ⟨(ConvOnly.setAdc ..).mono (by simp), fun heq => absurd heq hslot, fun _ => ?_, ?_⟩ <;> rw [State.adcN_setAdc]
    rw [hadc]

end

/-! ## Hand-back (R71, R81) -/

section
variable {s : State} {n : Nat}

/-- The channel with the slot of the step served by its sub-converter again. -/
def State.handedBack (s : State) (n : Nat) : State :=
  let a := s.adcN n
  (s.serve n (s.nextSlotSample a.slot) { a with slots := a.slots.set a.slot a.outgoing }).setF (R.ADC_STATUS_SPARE_SLOT n) 63

theorem handBack_eq (h : (s.adcN n).phase = .settle) : handBack n s = (s.handedBack n).stepEnd n := if_neg (by simp [h])

theorem handBack_spec (h : (s.adcN n).phase = .settle) (hwait : (s.adcN n).fpWait = false) : let t := handBack n s
    ConvOnly .input n [R.ADC_STATUS_SPARE_SLOT, R.ADC_STATUS_STEP, R.ADC_STATUS_HELD] s t ∧
    (t.adcN n).slots = (s.adcN n).slots.set (s.adcN n).slot (s.adcN n).outgoing ∧
    (t.adcN n).nextStep = ((s.adcN n).slot + 1) % 33 ∧ t.f (R.ADC_STATUS_SPARE_SLOT n) = 63 ∧ t.flag (R.ADC_STATUS_STEP n) = false := by
  obtain ⟨⟨m, hm⟩, -⟩ := s.serve_spec n (s.nextSlotSample (s.adcN n).slot)
    { s.adcN n with slots := (s.adcN n).slots.set (s.adcN n).slot (s.adcN n).outgoing }
  have hadc := (State.adcN_setF _ n (R.ADC_STATUS_SPARE_SLOT n) 63).trans hm
  change (s.handedBack n).adcN n = _ at hadc
  have hwait' : ((s.handedBack n).adcN n).fpWait = false := by rw [hadc]; exact hwait
  obtain ⟨hstep, hend⟩ := State.stepEnd_spec hwait'
  have kept := ConvOnly.stepEnd hwait'
  rw [handBack_eq h]
  refine ⟨((ConvOnly.serve ..).trans (.setF _ R.ADC_STATUS_SPARE_SLOT 63)).trans kept, ?_, ?_, ?_, hstep⟩
  · rw [hend, hadc]
  · rw [hend, hadc]
  · exact (kept.f_eq R.ADC_STATUS_SPARE_SLOT).trans (State.f_setF_self ..)

end

end Sys2Proof.Machine

open Sys2Proof Sys2Proof.Machine

/-- Settles O18, outcome by outcome: what a step counts is apart from the trims, from the status and from the error log, which the
outcomes write beside it. -/
theorem rotationSteps : Obligations.RotationSteps := by
  unfold Obligations.RotationSteps
  refine ⟨fun n s hrun hen hhold hrot hdeg hset hstep => ?_, fun n spare outgoing s hrun hph hwait hout hslot => ?_,
    fun n m1 m2 s hrun hph hwait hout => ?_, fun n s hrun hph hwait => ?_⟩
  · obtain ⟨hslot, hown, hother⟩ := s.stepChannel_spec n
    have kept := ((ConvOnly.setAdc s n (s.stepChannel n)).trans (.setB _ R.ADC_STATUS_STEP true)).trans (.setB _ R.ADC_STATUS_HELD false)
    refine ⟨_, congrArg Host.Outcome.next ((if_pos hrun).trans (rotationStepStart_eq hen hhold hrot hdeg hset hstep)), ?_,
      State.flag_setB_self _ _ _ Nat.one_pos, ?_, ?_, ?_, kept.fields, kept.eq⟩
    · exact ((ConvOnly.setB (side := .input) _ R.ADC_STATUS_HELD false).flag_eq R.ADC_STATUS_STEP).trans
        (State.flag_setB_self _ _ _ Nat.one_pos)
    all_goals simpa only [State.adcN_setB, State.adcN_setAdc]
  · have hexec : exec (.plausibilityDecision n spare outgoing) s =
        .next (s.plausDecide n (windowCount (spare.zip outgoing)) (windowSum (spare.zip outgoing))) := by
      refine congrArg Host.Outcome.next ((if_pos hrun).trans ((if_pos (by simp [hph])).trans ?_))
      rw [plausFigure_eq]
    refine ⟨_, hexec, fun (hfew : windowCount _ < _) hatt => ?_, fun (hfew : windowCount _ < _) hatt => ?_,
      fun (hmany : _ ≤ windowCount _) (hlow : windowSum _ < _ * windowCount _) => ?_,
      fun (hmany : _ ≤ windowCount _) (hhigh : _ * windowCount _ ≤ windowSum _) => ?_, State.plausDecide_leaves hwait hout n.isLt⟩
    · rw [State.plausDecide_defers hfew hatt]
      exact ⟨by rw [State.adcN_setAdc], rfl⟩
    · obtain ⟨hskip, hstep, hslots, kept⟩ := State.skipped_spec hwait
      rw [State.plausDecide_skips hfew hatt]
      exact ⟨hskip, hstep, hslots, kept.fields⟩
    · obtain ⟨hslots, hphase, hspare⟩ := State.handOver_spec hslot
      rw [State.plausDecide_hands hmany hlow]
      exact ⟨hslots, hphase, hspare, (ConvOnly.handOver s n).fields⟩
    · have aborted := StepAborted.plausDecide hmany hhigh hwait hout n.isLt
      obtain ⟨habort, hok, hrej, hskip⟩ := aborted.counters hout
      refine ⟨habort, aborted.step, hok, hrej, hskip, fun hrun => ?_, fun hrun => ?_⟩
      · rw [State.plausDecide_aborts hmany hhigh hout, if_neg (Nat.not_le.mpr hrun)]
        exact (StepAborted.stepEnd hwait hout).2
      · rw [State.plausDecide_aborts hmany hhigh hout, if_pos hrun]
        exact (StepAborted.retire hwait hout n.isLt).2
  · obtain ⟨kept, hown, hother, hslots⟩ := measurementCompare_spec (m1 := m1) (m2 := m2) hph hwait
    refine ⟨_, congrArg Host.Outcome.next (if_pos hrun), fun hagree => ?_, fun hagree => ?_, hown, hother, hslots,
      kept.eq.trans (by rw [s.compared_eq n m1 m2]; rfl)⟩
    · have hcomp : s.compared n m1 m2 = s.accepted n (trimMean m1 m2) := if_pos hagree
      obtain ⟨hok, hrej, habrun, hofs, hgain, hbw, hskew, hstamp⟩ := State.accepted_spec (m := trimMean m1 m2) hout
      rw [hcomp] at kept
      refine ⟨(kept.f_eq R.ADC_CAL_OK).trans hok, (kept.f_eq R.ADC_CAL_REJ).trans hrej,
        (kept.trim_eq (trimFld_trim hout (by decide))).trans habrun, (kept.trim_eq (trimFld_trim hout (by decide))).trans hofs,
        (kept.trim_eq (trimFld_trim hout (by decide))).trans hgain, (kept.trim_eq (trimFld_trim hout (by decide))).trans hbw,
        (kept.trim_eq (trimFld_skew hout (by decide))).trans hskew, ?_, ((ConvOnly.accepted s n _).trans kept).fields⟩
      rw [State.ptimeAt_eq]
      exact congrArg ptOf128 ((kept.f_eq calPtime).trans hstamp)
    · have hcomp : s.compared n m1 m2 = s.incSat (R.ADC_CAL_REJ n) := if_neg (by simp [hagree])
      rw [hcomp] at kept
      exact ⟨(kept.f_eq R.ADC_CAL_REJ).trans (State.f_incSat_self ..), ((ConvOnly.incSat s R.ADC_CAL_REJ).trans kept).fields⟩
  · obtain ⟨kept, hslots, hnext, hspare, hstep⟩ := handBack_spec hph hwait
    exact ⟨_, congrArg Host.Outcome.next (if_pos hrun), hslots, hspare, hstep, hnext, kept.fields, kept.eq⟩
end

section
/-!
PROOF. Output channels: the sample buffer of SYNTH, starts and stops, changes of source, and the samples that fall due
(spec/03_converters.md, R89 to R98, R602 and R604).
-/
namespace Sys2Proof.Machine

/-! ## The SYNTH buffer (R604) -/

section
variable {s : State} {n : Nat} {xs : List (BitVec 16)}

/-- The samples of the buffer and of a record that arrives, oldest first. -/
def State.synthAll (s : State) (n : Nat) (xs : List (BitVec 16)) : List (BitVec 16) := (s.dacN n).synth ++ xs

/-- The state in which the buffer holds the last 4,096 of its samples and a record's. -/
def State.synthKeep (s : State) (n : Nat) (xs : List (BitVec 16)) : State :=
  s.setDac n { s.dacN n with synth := lastN 4096 (s.synthAll n xs) }

theorem State.synthRecord_stopped (h : s.flag (R.DAC_STATUS_RUNNING n) = false) : s.synthRecord n xs = s := if_pos (by simp [h])

theorem State.synthRecord_fits (h : s.flag (R.DAC_STATUS_RUNNING n) = true) (hfit : (s.synthAll n xs).length ≤ 4096) :
    s.synthRecord n xs = s.synthKeep n xs := by
  unfold State.synthRecord
  rw [if_neg (by simp [h])]
  exact if_pos (beq_iff_eq.mpr (Nat.sub_eq_zero_of_le hfit))

theorem State.synthRecord_overflows (h : s.flag (R.DAC_STATUS_RUNNING n) = true) (hover : 4096 < (s.synthAll n xs).length) :
    s.synthRecord n xs = ((s.synthKeep n xs).addSat (R.DAC_SYNTH_DROP n) ((s.synthAll n xs).length - 4096)).setB
      (R.DAC_STATUS_SYNTH_OVR n) true := by
  unfold State.synthRecord
  rw [if_neg (by simp [h])]
  exact if_neg (by rw [beq_iff_eq]; exact Nat.sub_ne_zero_of_lt hover)

theorem ConvOnly.synthRecord : ConvOnly .output n [R.DAC_SYNTH_DROP, R.DAC_STATUS_SYNTH_OVR] s (s.synthRecord n xs) := by
  have kept : ConvOnly .output n [] s (s.synthKeep n xs) := .setDac ..
  cases h : s.flag (R.DAC_STATUS_RUNNING n) with
  | false =>
    rw [State.synthRecord_stopped h]
    exact (ConvOnly.refl s).mono (by simp)
  | true =>
    rcases Nat.lt_or_ge 4096 (s.synthAll n xs).length with hover | hfit
    · rw [State.synthRecord_overflows h hover]
      exact (kept.trans (.addSat _ R.DAC_SYNTH_DROP _)).trans (.setB _ R.DAC_STATUS_SYNTH_OVR true)
    · rw [State.synthRecord_fits h hfit]
      exact kept.mono (by simp)

/-- A record that a running output takes: what stays in the buffer, and the discarded samples, counted. -/
theorem State.synthRecord_running (h : s.flag (R.DAC_STATUS_RUNNING n) = true) :
    ((s.synthRecord n xs).dacN n).synth = lastN 4096 (s.synthAll n xs) ∧
    (s.synthRecord n xs).f (R.DAC_SYNTH_DROP n) = min (s.f (R.DAC_SYNTH_DROP n) + ((s.synthAll n xs).length - 4096)) (2 ^ 32 - 1) ∧
    (4096 < (s.synthAll n xs).length → (s.synthRecord n xs).flag (R.DAC_STATUS_SYNTH_OVR n) = true) := by
  rcases Nat.lt_or_ge 4096 (s.synthAll n xs).length with hover | hfit
  · rw [State.synthRecord_overflows h hover]
    refine ⟨by simp [State.synthKeep], ?_, fun _ => State.flag_setB_self _ _ _ Nat.one_pos⟩
    rw [(ConvOnly.setB (side := .output) _ R.DAC_STATUS_SYNTH_OVR true).f_eq R.DAC_SYNTH_DROP, State.f_addSat_self, State.synthKeep,
      State.f_setDac]
    rfl
  · have hlt := s.f_lt (R.DAC_SYNTH_DROP n)
    rw [State.synthRecord_fits h hfit]
    refine ⟨by simp [State.synthKeep], ?_, fun hover => absurd hover (by omega)⟩
    rw [State.synthKeep, State.f_setDac, Nat.sub_eq_zero_of_le hfit]
    exact (Nat.min_eq_left (Nat.le_pred_of_lt hlt)).symm

end

end Sys2Proof.Machine

open Sys2Proof Sys2Proof.Machine

/-- Settles O21, by whether the output runs and whether the buffer overflows. That an output which does not run takes no record is the
model's choice (log entry 25). -/
theorem synthBuffer : Obligations.SynthBuffer := by
  unfold Obligations.SynthBuffer
  intro n xs s
  have kept := ConvOnly.synthRecord (s := s) (n := n) (xs := xs)
  refine ⟨_, rfl, fun h => ?_, State.synthRecord_stopped, kept.fields, kept.eq⟩
  obtain ⟨hsynth, hdrop, hover⟩ := State.synthRecord_running (xs := xs) h
  refine ⟨hsynth, ?_, hdrop, hover⟩
  rw [hsynth, lastN, List.length_drop, State.synthAll]
  omega
end

section
/-!
PROOF. Output channels: the sample that falls due comes from the source in force (spec/03_converters.md, R89 to R95), and the panic
flags and levels that follow the buffers (spec/11, R390).
-/
namespace Sys2Proof.Machine

/-! ## The panic flags and levels (R390) -/

/-- The words of the panic flags and of the two levels. -/
def PanicWord (off : Nat) : Prop :=
  off = R.MC_STATUS_P0_PANIC.off ∨ off = (R.MC_P_LEVEL_BYTES 0).off ∨ off = (R.MC_P_LEVEL_BYTES 4).off

/-- `t` differs from `s` in the panic flags and levels alone. -/
structure PanicOnly (s t : State) : Prop where
  eq : t = { s with regs := t.regs, sets := t.sets, mem := { s.mem with outPanic := t.mem.outPanic } }
  words : WordsKept PanicWord s t

section
variable {s t : State}

theorem PanicOnly.f_eq (h : PanicOnly s t) (x : Fld) (hx : x.base + 4 * x.words ≤ 0x500000) : t.f x = s.f x :=
  h.words.f_eq fun a _ h2 ha => by
    unfold PanicWord at ha
    simp only [R.MC_STATUS_P0_PANIC, R.MC_P_LEVEL_BYTES] at ha
    omega

theorem PanicOnly.trans {u : State} (h1 : PanicOnly s t) (h2 : PanicOnly t u) : PanicOnly s u :=
  ⟨h2.eq.trans (by rw [h1.eq]), h1.words.trans h2.words⟩

theorem PanicOnly.setF (s : State) {x : Fld} (v : Nat) (h : x.words = 1) (hx : PanicWord x.base) : PanicOnly s (s.setF x v) :=
  ⟨by rw [State.setF, State.setWordsAt_eq], .setF s v fun i hi => by rw [h] at hi; rw [Nat.lt_one_iff.mp hi]; exact hx⟩

theorem PanicOnly.setB (s : State) {x : Fld} (b : Bool) (h : x.words = 1) (hx : PanicWord x.base) : PanicOnly s (s.setB x b) :=
  ⟨by rw [State.setB_eq], .setB s b fun i hi => by rw [h] at hi; rw [Nat.lt_one_iff.mp hi]; exact hx⟩

theorem PanicOnly.outPanic (s : State) (p : Tbl Bool) : PanicOnly s { s with mem := { s.mem with outPanic := p } } :=
  ⟨rfl, .of_regs rfl⟩

theorem PanicOnly.syncPanic (s : State) : PanicOnly s s.syncPanic :=
  ((((PanicOnly.outPanic s _).trans (.setB _ _ rfl (.inl rfl))).trans (.setB _ _ rfl (.inl rfl))).trans
    (.setF _ _ rfl (.inr (.inl rfl)))).trans (.setF _ _ rfl (.inr (.inr rfl)))

end

/-! ## The sample that falls due (R89 to R93) -/

section
variable {s : State} {n : Nat}

/-- One sample of the source in force, and the state after the source has given it. -/
def State.sourceSample (s : State) (n : Nat) : State × Int :=
  if (s.dacN n).src == 1 then s.playSample n
  else if (s.dacN n).src == 2 then s.toneSample n
  else if (s.dacN n).src == 3 then s.synthSample n
  else (s, 0)

theorem State.sourceSample_none (h : (s.dacN n).src = 0) : s.sourceSample n = (s, 0) := by
  simp [State.sourceSample, h]

theorem State.sourceSample_playback (h : (s.dacN n).src = 1) : s.sourceSample n = s.playSample n := by
  simp [State.sourceSample, h]

theorem State.sourceSample_tones (h : (s.dacN n).src = 2) : s.sourceSample n = s.toneSample n := by
  simp [State.sourceSample, h]

theorem State.sourceSample_synth (h : (s.dacN n).src = 3) : s.sourceSample n = s.synthSample n := by
  simp [State.sourceSample, h]

theorem State.synthSample_starves (h : (s.dacN n).synth = []) : s.synthSample n =
    ((s.incSat (R.DAC_STARVE_COUNT n)).setB (R.DAC_STATUS_STARVE n) true, 0) := by
  unfold State.synthSample
  dsimp only
  rw [h]

theorem State.synthSample_oldest {x : BitVec 16} {rest : List (BitVec 16)} (h : (s.dacN n).synth = x :: rest) :
    s.synthSample n = (s.setDac n { s.dacN n with synth := rest }, x.toInt) := by
  unfold State.synthSample
  dsimp only
  rw [h]

theorem State.playSample_ends (h : (s.dacN n).pbLen / 2 ≤ (s.dacN n).playPos) : s.playSample n =
    ((s.setDac n { s.dacN n with filling := false }).setB (R.DAC_STATUS_RUNNING n) false, 0) := if_pos h

/-- The position in the playback region after one more sample. -/
def State.playNext (s : State) (n : Nat) : Nat :=
  if (s.dacN n).playPos + 1 == (s.dacN n).pbLen / 2 && s.flag (R.DAC_CTRL_LOOP n) then 0 else (s.dacN n).playPos + 1

theorem State.playSample_oldest {x : BitVec 16} {rest : List (BitVec 16)} (h : (s.dacN n).playPos < (s.dacN n).pbLen / 2)
    (hx : (s.dacN n).prefetch = x :: rest) :
    s.playSample n = (s.setDac n { s.dacN n with prefetch := rest, playPos := s.playNext n }, x.toInt) := by
  unfold State.playSample
  dsimp only
  rw [hx]
  exact if_neg (Nat.not_le.mpr h)

theorem State.playSample_underruns (h : (s.dacN n).playPos < (s.dacN n).pbLen / 2) (hx : (s.dacN n).prefetch = []) :
    s.playSample n = (((s.setDac n { s.dacN n with playPos := s.playNext n, skip := (s.dacN n).skip + 1 }).incSat
      (R.DAC_UNDERRUN_COUNT n)).setB (R.DAC_STATUS_UNDERRUN n) true, 0) := by
  unfold State.playSample
  dsimp only
  rw [hx]
  exact if_neg (Nat.not_le.mpr h)

/-- The fields that a source may change. -/
def sourceFlds : List (Nat → Fld) :=
  [R.DAC_STATUS_RUNNING, R.DAC_UNDERRUN_COUNT, R.DAC_STATUS_UNDERRUN, R.DAC_STARVE_COUNT, R.DAC_STATUS_STARVE]

theorem ConvOnly.playSample (s : State) (n : Nat) : ConvOnly .output n sourceFlds s (s.playSample n).1 := by
  rcases Nat.lt_or_ge (s.dacN n).playPos ((s.dacN n).pbLen / 2) with h | h
  · rcases hx : (s.dacN n).prefetch with _ | ⟨x, rest⟩
    · rw [State.playSample_underruns h hx]
      exact (((ConvOnly.setDac ..).trans (.incSat _ R.DAC_UNDERRUN_COUNT)).trans (.setB _ R.DAC_STATUS_UNDERRUN true)).mono
        (by simp [sourceFlds])
    · rw [State.playSample_oldest h hx]
      exact (ConvOnly.setDac ..).mono (by simp)
  · rw [State.playSample_ends h]
    exact ((ConvOnly.setDac ..).trans (.setB _ R.DAC_STATUS_RUNNING false)).mono (by simp [sourceFlds])

theorem ConvOnly.synthSample (s : State) (n : Nat) : ConvOnly .output n sourceFlds s (s.synthSample n).1 := by
  rcases hx : (s.dacN n).synth with _ | ⟨x, rest⟩
  · rw [State.synthSample_starves hx]
    exact ((ConvOnly.incSat s R.DAC_STARVE_COUNT).trans (.setB _ R.DAC_STATUS_STARVE true)).mono (by simp [sourceFlds])
  · rw [State.synthSample_oldest hx]
    exact (ConvOnly.setDac ..).mono (by simp)

theorem ConvOnly.sourceSample (s : State) (n : Nat) : ConvOnly .output n sourceFlds s (s.sourceSample n).1 := by
  unfold State.sourceSample
  split
  · exact .playSample s n
  split
  · exact (ConvOnly.setDac ..).mono (by simp)
  split
  · exact .synthSample s n
  · exact (ConvOnly.refl s).mono (by simp)

/-- Whether the sample leaves the range, and CLIP shows it. -/
def State.clips (s : State) (n : Nat) : Bool := outS 16 (roundDiv ((s.sourceSample n).2 * (s.dacN n).gain) (2 ^ 14))

theorem State.dueSample_running (h : s.flag (R.DAC_STATUS_RUNNING n) = true) :
    let u := if s.clips n then (s.sourceSample n).1.setB (R.DAC_STATUS_CLIP n) true else (s.sourceSample n).1
    s.dueSample n = (u.setDac n { u.dacN n with sent := (s.dacN n).sent + 1 }, dacValue (s.sourceSample n).2 (s.dacN n).gain) :=
  if_neg (by simp [h])

theorem State.dueSample_stopped (h : s.flag (R.DAC_STATUS_RUNNING n) = false) : s.dueSample n = (s, 0) := if_pos (by simp [h])

/-- A 16-bit value without its two low bits fits the converter's code. -/
theorem converterCode (v : Int) : (BitVec.ofNat 14 (wrapInt 16 v / 4)).toNat = wrapInt 16 v / 4 := by
  have h := wrapInt_lt 16 v
  rw [BitVec.toNat_ofNat]
  exact Nat.mod_eq_of_lt (by omega)

/-- The state in which the value that falls due has gone to the converter. -/
theorem dacSampleDue_running (h : s.flag (R.DAC_STATUS_RUNNING n) = true) :
    ConvOnly .output n [R.DAC_STATUS_CLIP] (s.sourceSample n).1 (dacSampleDue n s) ∧
    (∃ r, (dacSampleDue n s).dacN n = { (s.sourceSample n).1.dacN n with
      sent := (s.dacN n).sent + 1, code := wrapInt 16 (dacValue (s.sourceSample n).2 (s.dacN n).gain) / 4,
      idx := s.dueIdx n + 1, recent := r }) ∧
    (s.clips n = true → (dacSampleDue n s).flag (R.DAC_STATUS_CLIP n) = true) := by
  unfold dacSampleDue
  rw [State.dueSample_running h]
  dsimp only
  rw [converterCode]
  split
  next hclip =>
    refine ⟨?_, ⟨_, by rw [State.dacN_setDac, State.dacN_setDac, State.dacN_setB]⟩, fun _ => ?_⟩
    · exact ((ConvOnly.setB _ R.DAC_STATUS_CLIP true).trans (.setDac ..)).trans (.setDac ..)
    · rw [State.flag_setDac, State.flag_setDac]
      exact State.flag_setB_self _ _ _ Nat.one_pos
  next hclip =>
    refine ⟨?_, ⟨_, by rw [State.dacN_setDac, State.dacN_setDac]⟩, fun hc => absurd hc hclip⟩
    exact ((ConvOnly.setDac ..).trans (.setDac ..)).mono (by simp)

/-- An output sample changes its output, the chains that loop it back, and the panic flags and levels. -/
structure SampleOnly (n : Nat) (s t : State) : Prop where
  dac : t.dac = (dacSampleDue n s).dac
  fields : ∀ x : Fld, x.base + 4 * x.words ≤ 0x500000 → t.f x = (dacSampleDue n s).f x
  clk : t.clk = (dacSampleDue n s).clk
  out : t.out = (dacSampleDue n s).out
  bytes : BytesKept (dacSampleDue n s) t

theorem outputSample_only (s : State) (n : Nat) : SampleOnly n s (outputSample n s).syncPanic := by
  obtain ⟨c, hc⟩ := (dacSampleDue n s).feedChains_eq (9 + n) [(s.dueIdx n, (s.dueSample n).2)]
  have panic := PanicOnly.syncPanic (outputSample n s)
  have hout : outputSample n s = { dacSampleDue n s with fch := c } := hc
  generalize (outputSample n s).syncPanic = t at panic
  rw [hout] at panic
  have heq := panic.eq
  exact ⟨by rw [heq], fun x hx => (panic.f_eq x hx).trans (State.f_congr (by rfl) x), by rw [heq], by rw [heq], fun sp a => by rw [heq]; rfl⟩

theorem SampleOnly.dacN {t : State} (h : SampleOnly n s t) (m : Nat) : t.dacN m = (dacSampleDue n s).dacN m :=
  State.dacN_congr h.dac m

theorem clipFits (n : Fin 4) : (R.DAC_STATUS_CLIP n).base + 4 * (R.DAC_STATUS_CLIP n).words ≤ 0x500000 := by
  simp only [R.DAC_STATUS_CLIP, Fld.base, Fld.words]
  omega

/-- What the source has written still stands when the sample has gone out. -/
theorem SampleOnly.source_f {t : State} (h : SampleOnly n s t) (hn : n < 4) (hrun : s.flag (R.DAC_STATUS_RUNNING n) = true)
    (y : Nat → Fld) (hy : ChannelFld y := by intro i; rfl)
    (h0 : 0x50000 ≤ (y 0).base ∧ (y 0).base + 4 * (y 0).words ≤ 0x51000 ∧ (R.DAC_STATUS_CLIP 0).apart (y 0) := by
      unfold Fld.apart; decide) : t.f (y n) = (s.sourceSample n).1.f (y n) := by
  obtain ⟨hlo, hhi, hclip⟩ := h0
  refine (h.fields (y n) ?_).trans ((dacSampleDue_running hrun).1.f_eq y (fun _ => rfl) hy ?_)
  · rw [hy n]
    simp only [Fld.base, Fld.words, Fld.shift] at hhi ⊢
    omega
  · exact fun x hx => by rw [List.mem_singleton.mp hx]; exact hclip

end
end Sys2Proof.Machine

open Sys2Proof Sys2Proof.Machine

/-- Settles O22, source by source: the sample of the source in force goes out as its 14-bit code, and what the chains and the panic
levels make of it touches no output channel. A tone's sample is one of the two integers next to an inexact product, which the model
leaves free (log entry 24). -/
theorem outputSamples : Obligations.OutputSamples := by
  unfold Obligations.OutputSamples
  refine ⟨fun n s hblk hrun => ?_, fun n s hblk hrun => ?_⟩
  · obtain ⟨clipped, ⟨r, hdac⟩, hclip⟩ := dacSampleDue_running hrun
    have sent := outputSample_only s n
    have given := ConvOnly.sourceSample s n
    have all := given.trans clipped
    refine ⟨_, congrArg Host.Outcome.next (if_pos hblk), ⟨(s.sourceSample n).2, ?_, fun hc => ?_, fun hsrc => ?_, fun hsrc => ?_,
      fun hsrc hempty => ?_, fun x rest hsrc hx => ?_, fun x rest hsrc hlt hx => ?_, fun hsrc hlt hempty => ?_, fun hsrc hend => ?_⟩,
      ?_, ?_, fun m hm => ?_, ?_, ?_, ?_⟩
    · rw [sent.dacN, hdac]
    · exact (State.flag_congr (sent.fields _ (clipFits n))).trans (hclip hc)
    · rw [State.sourceSample_none hsrc]
    · rw [sent.dacN, hdac, State.sourceSample_tones hsrc, State.toneSample]
      exact ⟨rfl, by rw [State.dacN_setDac], by rw [State.dacN_setDac]⟩
    · have hgive := (State.sourceSample_synth hsrc).trans (State.synthSample_starves hempty)
      refine ⟨congrArg Prod.snd hgive, ?_, ?_⟩
      · rw [State.flag_congr (sent.source_f n.isLt hrun R.DAC_STATUS_STARVE), hgive]
        exact State.flag_setB_self _ (R.DAC_STATUS_STARVE n) true Nat.one_pos
      · rw [sent.source_f n.isLt hrun R.DAC_STARVE_COUNT, hgive]
        exact ((ConvOnly.setB (side := .output) _ R.DAC_STATUS_STARVE true).f_eq R.DAC_STARVE_COUNT).trans (State.f_incSat_self ..)
    · have hgive := (State.sourceSample_synth hsrc).trans (State.synthSample_oldest hx)
      rw [sent.dacN, hdac, hgive, State.dacN_setDac]
      exact ⟨rfl, rfl⟩
    · have hgive := (State.sourceSample_playback hsrc).trans (State.playSample_oldest hlt hx)
      rw [sent.dacN, hdac, hgive, State.dacN_setDac]
      exact ⟨rfl, rfl⟩
    · have hgive := (State.sourceSample_playback hsrc).trans (State.playSample_underruns hlt hempty)
      refine ⟨congrArg Prod.snd hgive, ?_, ?_⟩
      · rw [sent.dacN, hdac, hgive, State.dacN_setB, State.dacN_incSat, State.dacN_setDac]
      · rw [sent.source_f n.isLt hrun R.DAC_UNDERRUN_COUNT, hgive]
        refine ((ConvOnly.setB (side := .output) _ R.DAC_STATUS_UNDERRUN true).f_eq R.DAC_UNDERRUN_COUNT).trans ?_
        rw [State.f_incSat_self, State.f_setDac]
        rfl
    · have hgive := (State.sourceSample_playback hsrc).trans (State.playSample_ends hend)
      refine ⟨congrArg Prod.snd hgive, ?_, ?_⟩
      · rw [State.flag_congr (sent.source_f n.isLt hrun R.DAC_STATUS_RUNNING), hgive]
        exact State.flag_setB_self _ (R.DAC_STATUS_RUNNING n) false Nat.one_pos
      · rw [sent.dacN, hdac, hgive, State.dacN_setB, State.dacN_setDac]
    · rw [sent.dacN, hdac]
    · rw [sent.dacN, hdac, State.dueIdx]
    · exact (sent.dacN m).trans (all.others m hm).2
    · exact sent.clk.trans (by rw [all.eq]; rfl)
    · exact sent.out.trans (by rw [all.eq]; rfl)
    · exact fun sp a => (sent.bytes sp a).trans (by rw [all.eq]; rfl)
  · have sent := outputSample_only s n
    have hstop : dacSampleDue n s = s.setDac n { s.dacN n with
        code := 0, idx := s.dueIdx n + 1, recent := lastN 16 ((s.dacN n).recent ++ [0]) } := by
      have hzero : BitVec.ofNat 14 (wrapInt 16 0 / 4) = 0 := by decide
      unfold dacSampleDue
      rw [State.dueSample_stopped hrun]
      dsimp only
      rw [hzero]
      rfl
    refine ⟨_, congrArg Host.Outcome.next (if_pos hblk), ?_, ?_, ?_, ?_, fun sp a => ?_⟩
    · rw [sent.dacN, hstop, State.dacN_setDac]
    · rw [sent.dacN, hstop, State.dacN_setDac]
    · rw [sent.clk, hstop, State.setDac]
    · rw [sent.out, hstop, State.setDac]
    · rw [sent.bytes sp a, hstop, State.setDac]
      rfl
end

section
/-!
PROOF. Converter channels: what a host write of a control register or of trims leaves in its word, before its further effect
(spec/00_scope.md, R4; spec/03_converters.md, R69, R84 and R90).
-/
namespace Sys2Proof.Machine

section
variable {s : State} {pf off : Nat} {w : WordSpec}

theorem writeOff_converter (h : off < 0x80000) : writeOff off = off := if_neg (by simp; omega)

/-- A word of the converters that is open takes a write as the map says, and the write has its further effect. -/
theorem State.writeWord_converter (hlo : 0x40000 ≤ off) (hhi : off < 0x60000) (hw : wordSpec off = some w)
    (hlock : w.rwl ≠ 0 → (s.rwlLock off).1 = false) (hcfg : s.cfgHolds off = false) (v : BitVec 32) : s.writeWord pf off v =
      (s.setWord off (mergeWord w 0 (s.setNow off) (s.word off) v)).wroteConv off (s.word off).toNat v.toNat := by
  have ho : writeOff off = off := writeOff_converter (by omega)
  have hspec : writeSpec off = some w := by simp [writeSpec, ho, hw]
  have hunlocked : (w.rwl != 0 && (s.rwlLock off).1) = false := by
    by_cases hz : w.rwl = 0
    · simp [hz]
    · simp [hlock hz]
  have hring : ¬ (0x601000 ≤ off) := by omega
  have hfb : off ≠ 0x701000 := by omega
  have hhold : s.holdBits pf off w = 0 := by simp [State.holdBits, hunlocked, ho, hcfg, hring, R.RS_FB_SEL, hfb]
  have hdrop : s.dropFlags off w = [] := by simp [State.dropFlags, hunlocked, ho, hcfg]
  have heff : v &&& ~~~(0 : BitVec 32) ||| s.word off &&& 0 = v := by
    have all : v &&& 4294967295#32 = v := BitVec.and_allOnes
    simp [all]
  unfold State.writeWord
  rw [hspec]
  dsimp only
  rw [hhold, hdrop, ho, heff]
  unfold State.wrote
  rw [if_neg (by omega), if_neg (by omega), if_pos (by omega)]
  rfl

theorem State.f_used (s : State) (l : Tbl Nat) (x : Fld) : (s.used l).f x = s.f x := State.f_congr (s := s.used l) (t := s) rfl x

theorem State.flag_used (s : State) (l : Tbl Nat) (x : Fld) : (s.used l).flag x = s.flag x := State.flag_congr (s.f_used l x)

/-- Noting the time of an access changes no lock. -/
theorem State.rwlLock_used (s : State) (l : Tbl Nat) (hlo : 0x40000 ≤ off) (hhi : off < 0x100000) :
    (s.used l).rwlLock off = s.rwlLock off := by
  unfold State.rwlLock
  rw [if_pos hhi, if_pos hhi]
  unfold State.lockLow
  simp only [if_neg (show ¬ off < 0x20000 by omega), if_neg (show ¬ off < 0x30000 by omega), if_neg (show ¬ off < 0x40000 by omega)]
  simp only [State.trimsPending, State.shadowHeld, State.flag_used]

/-- The word at an offset has been written, and the time of the access noted. -/
structure WordWritten (off : Nat) (s u : State) : Prop where
  eq : u = { s with regs := u.regs, pwr := { s.pwr with lastUse := u.pwr.lastUse } }
  words : WordsKept (fun o => o = off) s u

theorem WordWritten.f_eq {u : State} (h : WordWritten off s u) (y : Fld) (hy : y.base + 4 * y.words ≤ off ∨ off < y.base) :
    u.f y = s.f y := h.words.f_eq fun a h1 h2 ha => by omega

theorem WordWritten.kept {u : State} {x : Fld} (h : WordWritten off s u) (hx : x.off = off ∧ x.lo = 0 ∧ x.wd = 32) : FieldsKept [x] s u := by
  obtain ⟨hoff, hlo, hwd⟩ := hx
  refine .of_wordsKept (by rw [hlo]) (by rw [hwd]) (h.words.mono fun a ha => ?_)
  simp only [Fld.base, Fld.words, hoff, hlo, hwd]
  omega

/-- A host write of a word of the converters that meets no refusal notes its time, writes the word, and has its further effect. -/
theorem hostWrite_converter {pf : Fin 2} (hlo : 0x40000 ≤ off) (hhi : off < 0x60000) (hal : off % 4 = 0)
    (hw : wordSpec off = some w) (hhalf : w.half = 0) (h : s.Opens pf off) (v : BitVec 32) : ∃ u, WordWritten off s u ∧
      u.word off = mergeWord w 0 (s.setNow off) (s.word off) v ∧
      hostWrite pf off v.toNat s = u.wroteConv off (s.word off).toNat v.toNat := by
  obtain ⟨hreach, hlock, hcfg⟩ := h
  have hput := regWrite_word hreach hal v.toNat
  obtain ⟨-, -, hworld, hholds, hsec, hdom⟩ := hreach
  obtain ⟨l, hl⟩ := State.touch_lastUse hdom
  have ho : writeOff off = off := writeOff_converter (by omega)
  have hspec : writeSpec off = some w := by simp [writeSpec, ho, hw]
  rw [ho] at hcfg
  have hhalf1 : isHalf off 1 = false := by simp [isHalf, hw, hhalf]
  have hhalf2 : isHalf off 2 = false := by simp [isHalf, hw, hhalf]
  have hmsix : ¬ (0x608000 ≤ off ∧ off < 0x609000) := by omega
  have hword : (s.used l).writeWord pf off v = _ :=
    State.writeWord_converter (s := s.used l) hlo hhi hw
      (fun hz => by rw [s.rwlLock_used l hlo (by omega)]; exact hlock w hspec hz) hcfg v
  refine ⟨_, ⟨rfl, ?_⟩, ?_, hput.trans (Eq.trans ?_ hword)⟩
  · exact (WordsKept.of_regs (s := s) (t := s.used l) rfl).trans (.setWord _ _ rfl)
  · rw [State.word_setWord, if_pos rfl]
    rfl
  · rw [BitVec.ofNat_toNat, BitVec.setWidth_eq]
    simp [State.put4, hworld, hholds, hsec, hl, State.write4, hhalf1, hhalf2, hmsix]

end

/-! ## Bits and fields of the word written -/

section
variable {w : WordSpec} {keep old v : BitVec 32}

/-- A bit that the host may write takes the value written. -/
theorem getLsbD_mergeWord_writable {b : Nat} (hb : b < 32) (h : bitOf (w.rw ||| w.rwl) b = true) :
    (mergeWord w 0 keep old v).getLsbD b = v.getLsbD b := by
  rw [bitOf_eq_testBit, Nat.testBit_or, ← bitOf_eq_testBit, ← bitOf_eq_testBit] at h
  simp only [mergeWord, BitVec.getLsbD_or, BitVec.getLsbD_and, BitVec.getLsbD_not, getLsbD_mask _ hb, hb]
  rcases Bool.or_eq_true_iff.mp h with h | h <;> simp +contextual [h]

/-- A bit that the host may only set is set where it was, or where the value has it. -/
theorem getLsbD_mergeWord_settable {b : Nat} (hb : b < 32) (h : bitOf (w.rw ||| w.rwl ||| w.w1c) b = false)
    (hs : bitOf w.w1s b = true) : (mergeWord w 0 keep old v).getLsbD b = (old.getLsbD b || v.getLsbD b) := by
  rw [bitOf_eq_testBit, Nat.testBit_or, Nat.testBit_or, ← bitOf_eq_testBit, ← bitOf_eq_testBit, ← bitOf_eq_testBit] at h
  obtain ⟨⟨hrw, hrwl⟩, hc⟩ : (bitOf w.rw b = false ∧ bitOf w.rwl b = false) ∧ bitOf w.w1c b = false := by simpa using h
  simp only [mergeWord, BitVec.getLsbD_or, BitVec.getLsbD_and, BitVec.getLsbD_not, getLsbD_mask _ hb, hb, hrw, hrwl, hc, hs]
  simp

/-- A bit that the host may not write keeps its value. -/
theorem getLsbD_mergeWord_kept {b : Nat} (hb : b < 32) (h : bitOf (w.rw ||| w.rwl ||| w.w1c ||| w.w1s) b = false) :
    (mergeWord w 0 keep old v).getLsbD b = old.getLsbD b := by
  rw [bitOf_eq_testBit, Nat.testBit_or, Nat.testBit_or, Nat.testBit_or, ← bitOf_eq_testBit, ← bitOf_eq_testBit, ← bitOf_eq_testBit,
    ← bitOf_eq_testBit] at h
  obtain ⟨⟨⟨hrw, hrwl⟩, hc⟩, hs⟩ : ((bitOf w.rw b = false ∧ bitOf w.rwl b = false) ∧ bitOf w.w1c b = false) ∧ bitOf w.w1s b = false := by
    simpa using h
  simp only [mergeWord, BitVec.getLsbD_or, BitVec.getLsbD_and, BitVec.getLsbD_not, getLsbD_mask _ hb, hb, hrw, hrwl, hc, hs]
  simp

/-- Words that agree in the bits of a field agree in the field. -/
theorem bitsOf_congr {x y : BitVec 32} {lo wd : Nat} (h : ∀ b, lo ≤ b → b < lo + wd → x.getLsbD b = y.getLsbD b) :
    bitsOf x.toNat lo wd = bitsOf y.toNat lo wd := by
  refine Nat.eq_of_testBit_eq fun j => ?_
  simp only [bitsOf, Nat.testBit_mod_two_pow, Nat.testBit_div_two_pow, BitVec.testBit_toNat]
  by_cases hj : j < wd
  · rw [h (j + lo) (by omega) (by omega)]
  · simp [hj]

/-- A field of a word reads as the bits of the word. -/
theorem State.f_wordField (s : State) (off lo wd : Nat) (h : lo < 32 ∧ (⟨0, lo, wd⟩ : Fld).words = 1) :
    s.f ⟨off, lo, wd⟩ = bitsOf (s.word off).toNat lo wd := by
  obtain ⟨hlo, hw⟩ := h
  have hb : (⟨off, lo, wd⟩ : Fld).base = off := by simp only [Fld.base]; omega
  have hone : (⟨off, lo, wd⟩ : Fld).words = 1 := hw
  rw [State.f_word _ hone, hb]
  exact congrArg (fun i => bitsOf (s.word off).toNat i wd) (Nat.mod_eq_of_lt hlo)

/-- Every bit of a field that a mask fills. -/
theorem bitOf_of_full {m lo wd b : Nat} (h : bitsOf m lo wd = 2 ^ wd - 1) (h1 : lo ≤ b) (h2 : b < lo + wd) : bitOf m b = true := by
  have hbit := congrArg (fun k => k.testBit (b - lo)) h
  simp only [bitsOf, Nat.testBit_mod_two_pow, Nat.testBit_div_two_pow, Nat.testBit_two_pow_sub_one] at hbit
  have hin : b - lo < wd := by omega
  rw [Nat.sub_add_cancel h1] at hbit
  rw [bitOf_eq_testBit]
  simpa [hin] using hbit

/-- A field that the host may write reads the value written. -/
theorem State.f_written {s : State} {off lo wd : Nat} (hword : s.word off = mergeWord w 0 keep old v)
    (h : lo + wd ≤ 32 ∧ (⟨0, lo, wd⟩ : Fld).words = 1) (hw : bitsOf (w.rw ||| w.rwl) lo wd = 2 ^ wd - 1) :
    s.f ⟨off, lo, wd⟩ = bitsOf v.toNat lo wd := by
  obtain ⟨hin, hone⟩ := h
  have hlo : lo < 32 := by simp only [Fld.words] at hone; omega
  rw [State.f_wordField _ _ _ _ ⟨hlo, hone⟩, hword]
  exact bitsOf_congr fun b h1 h2 => getLsbD_mergeWord_writable (by omega) (bitOf_of_full hw h1 h2)

/-- A value with a bit set: the bit, and the others. -/
theorem getLsbD_withBit (v : BitVec 32) {i b : Nat} (hb : b < 32) :
    (v ||| BitVec.ofNat 32 (2 ^ i)).getLsbD b = (v.getLsbD b || decide (i = b)) := by
  rw [BitVec.getLsbD_or, BitVec.getLsbD_ofNat, decide_eq_true hb, Bool.true_and, Nat.testBit_two_pow]

end

theorem bitOf_withBit (v : BitVec 32) {i b : Nat} (hb : b < 32) : bitOf (withBit v i) b = (bitOf v.toNat b || decide (i = b)) := by
  rw [bitOf_eq_testBit, bitOf_eq_testBit, withBit, BitVec.testBit_toNat, BitVec.testBit_toNat, getLsbD_withBit v hb]

theorem bitsOf_withBit (v : BitVec 32) {i lo wd : Nat} (h : i < lo ∨ lo + wd ≤ i) (hw : lo + wd ≤ 32) :
    bitsOf (withBit v i) lo wd = bitsOf v.toNat lo wd :=
  bitsOf_congr fun b h1 h2 => by rw [getLsbD_withBit v (by omega), decide_eq_false (by omega), Bool.or_false]

end Sys2Proof.Machine
end

section
/-!
PROOF. Output channels: what a write of DACn_CTRL starts or changes (spec/03_converters.md, R90, R95, R96, R98 and R602).
-/
namespace Sys2Proof.Machine

/-! ## The words of control and status -/

/-- The words of DACn_CTRL and DACn_STATUS. -/
def ControlWord (n off : Nat) : Prop := off = 0x50000 + 0x1000 * n ∨ off = 0x50004 + 0x1000 * n

/-- `t` differs from `s` in output channel `n` alone, and in no words apart from those of its control and status. -/
structure ControlOnly (n : Nat) (s t : State) : Prop where
  eq : t = ConvSide.output.frame s t
  others : ∀ m, m ≠ n → t.dacN m = s.dacN m
  words : WordsKept (ControlWord n) s t

section
variable {n : Nat} {s t u : State}

theorem ControlOnly.trans (h1 : ControlOnly n s t) (h2 : ControlOnly n t u) : ControlOnly n s u :=
  ⟨h2.eq.trans (by rw [h1.eq]; rfl), fun m hm => (h2.others m hm).trans (h1.others m hm), h1.words.trans h2.words⟩

theorem ControlOnly.refl (n : Nat) (s : State) : ControlOnly n s s := ⟨rfl, fun _ _ => rfl, .refl _ s⟩

theorem ControlOnly.setDac (s : State) (n : Nat) (d : DacSt) : ControlOnly n s (s.setDac n d) :=
  ⟨rfl, fun _ hm => tget_tset_ne _ _ _ hm, .of_regs rfl⟩

theorem ControlOnly.setF (s : State) {x : Fld} (v : Nat) (h : x.words = 1 ∧ ControlWord n x.base) : ControlOnly n s (s.setF x v) := by
  obtain ⟨hw, hb⟩ := h
  refine ⟨by rw [State.setF, State.setWordsAt_eq]; rfl, fun m _ => s.dacN_setF m x v, .setF s v fun i hi => ?_⟩
  rw [hw] at hi
  rw [Nat.lt_one_iff.mp hi]
  exact hb

theorem ControlOnly.setB (s : State) {x : Fld} (b : Bool) (h : x.words = 1 ∧ ControlWord n x.base) : ControlOnly n s (s.setB x b) := by
  obtain ⟨hw, hb⟩ := h
  refine ⟨by rw [State.setB_eq]; rfl, fun m _ => s.dacN_setB m x b, .setB s b fun i hi => ?_⟩
  rw [hw] at hi
  rw [Nat.lt_one_iff.mp hi]
  exact hb

theorem ControlOnly.ite {c : Prop} [Decidable c] (h1 : ControlOnly n s t) (h2 : ControlOnly n s u) :
    ControlOnly n s (if c then t else u) := by split <;> assumption

/-- A field of the status or of the control lies in its word. -/
theorem controlWord_status (n : Nat) {lo wd : Nat} (h : lo < 32 ∧ (⟨0, lo, wd⟩ : Fld).words = 1) :
    (⟨0x50004 + 0x1000 * n, lo, wd⟩ : Fld).words = 1 ∧ ControlWord n (⟨0x50004 + 0x1000 * n, lo, wd⟩ : Fld).base :=
  ⟨h.2, .inr (by simp only [Fld.base]; omega)⟩

theorem controlWord_control (n : Nat) {lo wd : Nat} (h : lo < 32 ∧ (⟨0, lo, wd⟩ : Fld).words = 1) :
    (⟨0x50000 + 0x1000 * n, lo, wd⟩ : Fld).words = 1 ∧ ControlWord n (⟨0x50000 + 0x1000 * n, lo, wd⟩ : Fld).base :=
  ⟨h.2, .inl (by simp only [Fld.base]; omega)⟩

/-- The settings of the channel past its status read as before. -/
theorem ControlOnly.f_eq (h : ControlOnly n s t) (y : Nat → Fld) (hy : ChannelFld y := by intro i; rfl)
    (h0 : 0x50008 ≤ (y 0).base ∧ (y 0).base + 4 * (y 0).words ≤ 0x51000 := by decide) : t.f (y n) = s.f (y n) := by
  obtain ⟨hlo, hhi⟩ := h0
  refine h.words.f_eq fun a h1 h2 ha => ?_
  unfold ControlWord at ha
  rw [hy n] at h1 h2
  simp only [Fld.base, Fld.words, Fld.shift] at hlo hhi h1 h2
  omega

theorem ControlOnly.now (h : ControlOnly n s t) : t.now = s.now := by rw [h.eq]; rfl

theorem ControlOnly.pbRegionOk (h : ControlOnly n s t) : t.pbRegionOk n = s.pbRegionOk n := by
  unfold State.pbRegionOk
  rw [h.f_eq R.DAC_PB_BASE_ADDR, h.f_eq R.DAC_PB_LEN_LEN]

/-- DACn_START, its four words together. -/
def dacStartAt (n : Nat) : Fld := ⟨0x50010 + 0x1000 * n, 0, 128⟩

theorem ControlOnly.startAt (h : ControlOnly n s t) : t.ptimeAt (R.DAC_START n 0).off = s.ptimeAt (R.DAC_START n 0).off := by
  rw [State.ptimeAt_eq, State.ptimeAt_eq]
  exact congrArg ptOf128 (h.f_eq dacStartAt)

end

/-! ## A start (R90, R95, R96, R602) -/

section
variable {s : State} {n : Nat}

/-- Whether a timed start lies less than 1 µs ahead. -/
def State.startLate (s : State) (n : Nat) : Bool :=
  s.flag (R.DAC_CTRL_TIMED n) && decide (s.ptimeAt (R.DAC_START n 0).off < s.now + 1000 * nsUnit)

/-- What the start waits for. -/
def State.startWait (s : State) (n : Nat) : DacWait :=
  if s.flag (R.DAC_CTRL_TIMED n) && !s.startLate n then .timed
  else if s.f (R.DAC_CTRL_SRC n) == 1 && !s.flag (R.DAC_CTRL_TIMED n) then .prefetch
  else .tick

/-- The channel with its prefetch begun, where the source is playback, before a start. -/
def State.startFrom (s : State) (n : Nat) : State := if s.f (R.DAC_CTRL_SRC n) == 1 then s.prefetchStart n else s

/-- The state with the start accepted, before its flags. -/
def State.startAccepted (s : State) (n : Nat) : State :=
  ((s.startFrom n).setDac n { (s.startFrom n).dacN n with start := s.startWait n, stop := false }).setF (R.DAC_STATUS_RESULT n) stOk

theorem State.dacEnable_refused (hsrc : s.f (R.DAC_CTRL_SRC n) = 1) (hreg : s.pbRegionOk n = false) :
    s.dacEnable n = (s.setB (R.DAC_CTRL_EN n) false).setF (R.DAC_STATUS_RESULT n) stBadParam := if_pos (by simp [hsrc, hreg])

theorem State.dacEnable_accepted (h : s.f (R.DAC_CTRL_SRC n) ≠ 1 ∨ s.pbRegionOk n = true) : s.dacEnable n =
    let s3 := if s.startLate n then (s.startAccepted n).setB (R.DAC_STATUS_LATE_START n) true else s.startAccepted n
    if s.startWait n == .tick then s3 else s3.setB (R.DAC_STATUS_START_PEND n) true := by
  have hok : ¬ ((s.f (R.DAC_CTRL_SRC n) == 1 && !s.pbRegionOk n) = true) := by
    rcases h with h | h <;> simp [h]
  exact if_neg hok

theorem ControlOnly.startAccepted (s : State) (n : Nat) : ControlOnly n s (s.startAccepted n) := by
  have start : ControlOnly n s (s.startFrom n) := .ite (.setDac ..) (.refl n s)
  exact (start.trans (.setDac ..)).trans (.setF _ _ (controlWord_status n (by decide)))

theorem ControlOnly.dacEnable (s : State) (n : Nat) : ControlOnly n s (s.dacEnable n) := by
  by_cases h : s.f (R.DAC_CTRL_SRC n) = 1 ∧ s.pbRegionOk n = false
  · rw [State.dacEnable_refused h.1 h.2]
    exact (ControlOnly.setB s false (controlWord_control n (by decide))).trans (.setF _ _ (controlWord_status n (by decide)))
  · have hok : s.f (R.DAC_CTRL_SRC n) ≠ 1 ∨ s.pbRegionOk n = true := by
      rcases not_and_or.mp h with h | h
      · exact .inl h
      · exact .inr (by simpa using h)
    have late : ControlOnly n s
        (if s.startLate n then (s.startAccepted n).setB (R.DAC_STATUS_LATE_START n) true else s.startAccepted n) :=
      .ite ((ControlOnly.startAccepted s n).trans (.setB _ true (controlWord_status n (by decide)))) (.startAccepted s n)
    rw [State.dacEnable_accepted hok]
    exact .ite late (late.trans (.setB _ true (controlWord_status n (by decide))))

/-- The flags that an accepted start sets. -/
theorem State.dacEnable_flags (h : s.f (R.DAC_CTRL_SRC n) ≠ 1 ∨ s.pbRegionOk n = true) :
    ConvOnly .output n [R.DAC_STATUS_LATE_START, R.DAC_STATUS_START_PEND] (s.startAccepted n) (s.dacEnable n) ∧
    (s.startWait n ≠ .tick → (s.dacEnable n).flag (R.DAC_STATUS_START_PEND n) = true) ∧
    (s.startLate n = true → (s.dacEnable n).flag (R.DAC_STATUS_LATE_START n) = true) ∧
    (s.dacEnable n).dacN n = (s.startAccepted n).dacN n := by
  have late : ConvOnly .output n [R.DAC_STATUS_LATE_START] (s.startAccepted n)
      (if s.startLate n then (s.startAccepted n).setB (R.DAC_STATUS_LATE_START n) true else s.startAccepted n) :=
    .ite (.setB _ R.DAC_STATUS_LATE_START true) ((ConvOnly.refl _).mono (by simp))
  have hlate : s.startLate n = true → (if s.startLate n then (s.startAccepted n).setB (R.DAC_STATUS_LATE_START n) true
      else s.startAccepted n).flag (R.DAC_STATUS_LATE_START n) = true := fun hl => by
    rw [if_pos hl]
    exact State.flag_setB_self _ _ _ Nat.one_pos
  have hdac : (if s.startLate n then (s.startAccepted n).setB (R.DAC_STATUS_LATE_START n) true else s.startAccepted n).dacN n =
      (s.startAccepted n).dacN n := by split <;> simp
  rw [State.dacEnable_accepted h]
  dsimp only
  generalize (if s.startLate n then _ else _ : State) = s3 at late hlate hdac
  split
  next htick => exact ⟨late.mono (by simp), fun hne => absurd (beq_iff_eq.mp htick) hne, hlate, hdac⟩
  next =>
    have pend := ConvOnly.setB (side := .output) (n := n) s3 R.DAC_STATUS_START_PEND true
    exact ⟨late.trans pend, fun _ => State.flag_setB_self _ _ _ Nat.one_pos,
      fun hl => (pend.flag_eq R.DAC_STATUS_LATE_START).trans (hlate hl), (State.dacN_setB ..).trans hdac⟩

/-- The channel of an accepted start. -/
theorem State.dacN_startAccepted (s : State) (n : Nat) : ((s.startAccepted n).dacN n).start = s.startWait n ∧
    (s.f (R.DAC_CTRL_SRC n) = 1 → ((s.startAccepted n).dacN n).filling = true ∧ ((s.startAccepted n).dacN n).prefetch = [] ∧
      ((s.startAccepted n).dacN n).pbBase = s.f (R.DAC_PB_BASE_ADDR n) ∧ ((s.startAccepted n).dacN n).pbLen = s.f (R.DAC_PB_LEN_LEN n)) := by
  have hdac : (s.startAccepted n).dacN n = { (s.startFrom n).dacN n with start := s.startWait n, stop := false } := by
    rw [State.startAccepted, State.dacN_setF, State.dacN_setDac]
  rw [hdac]
  refine ⟨rfl, fun hsrc => ?_⟩
  have hfrom : s.startFrom n = s.prefetchStart n := if_pos (beq_iff_eq.mpr hsrc)
  rw [hfrom, State.prefetchStart, State.dacN_setDac]
  exact ⟨rfl, rfl, rfl, rfl⟩

theorem ConvOnly.startAccepted (s : State) (n : Nat) : ConvOnly .output n [R.DAC_STATUS_RESULT] s (s.startAccepted n) := by
  have start : ConvOnly .output n [] s (s.startFrom n) := .ite (.setDac ..) (.refl s)
  exact (start.trans (.setDac ..)).trans (.setF _ R.DAC_STATUS_RESULT _)

end

end Sys2Proof.Machine
end

section
/-!
PROOF. Output channels: the write of DACn_CTRL with EN = 1 as a whole (spec/03_converters.md, R90, R95, R96 and R98).
-/
namespace Sys2Proof.Machine

/-! ## The word written -/

/-- The word of DACn_CTRL written with a value, and the time of the access noted. -/
structure ControlWritten (n : Nat) (v : BitVec 32) (s u : State) : Prop extends WordWritten (0x50000 + 0x1000 * n) s u where
  bits : ∀ x ∈ [(0, 1), (1, 2), (3, 1)], u.f ⟨0x50000 + 0x1000 * n, x.1, x.2⟩ = bitsOf v.toNat x.1 x.2

section
variable {n : Nat} {v : BitVec 32} {s u : State}

theorem ControlWritten.flag (h : ControlWritten n v s u) {i : Nat} (hi : (i, 1) ∈ [(0, 1), (1, 2), (3, 1)]) :
    u.flag ⟨0x50000 + 0x1000 * n, i, 1⟩ = bitOf v.toNat i := by
  rw [State.flag, h.bits (i, 1) hi, bitOf_eq_bitsOf]

theorem ControlWritten.dacN (h : ControlWritten n v s u) (m : Nat) : u.dacN m = s.dacN m := by
  rw [h.eq]
  rfl

theorem ControlWritten.now (h : ControlWritten n v s u) : u.now = s.now := by
  rw [h.eq]
  rfl

/-- The registers of the channel past its control read as before. -/
theorem ControlWritten.f_eq (h : ControlWritten n v s u) (y : Nat → Fld) (hy : ChannelFld y := by intro i; rfl)
    (h0 : 0x50004 ≤ (y 0).base := by decide) : u.f (y n) = s.f (y n) := by
  refine h.toWordWritten.f_eq _ (.inr ?_)
  rw [hy n]
  simp only [Fld.base, Fld.shift] at h0 ⊢
  omega

theorem ControlWritten.flag_eq (h : ControlWritten n v s u) (y : Nat → Fld) (hy : ChannelFld y := by intro i; rfl)
    (h0 : 0x50004 ≤ (y 0).base := by decide) : u.flag (y n) = s.flag (y n) := State.flag_congr (h.f_eq y hy h0)

theorem ControlWritten.pbRegionOk (h : ControlWritten n v s u) : u.pbRegionOk n = s.pbRegionOk n := by
  unfold State.pbRegionOk
  rw [h.f_eq R.DAC_PB_BASE_ADDR, h.f_eq R.DAC_PB_LEN_LEN]

theorem ControlWritten.startAt (h : ControlWritten n v s u) :
    u.ptimeAt (R.DAC_START n 0).off = s.ptimeAt (0x50010 + 0x1000 * n) := by
  rw [State.ptimeAt_eq, State.ptimeAt_eq]
  exact congrArg ptOf128 (h.f_eq dacStartAt)

end

theorem dacCtrl_spec (n : Fin 4) : ∃ w, wordSpec (0x50000 + 0x1000 * n) = some w ∧ w.rw = 0x2F ∧ w.rwl = 0 ∧ w.half = 0 := by
  fin_cases n <;> exact ⟨_, rfl, rfl, rfl, rfl⟩

/-- A write of DACn_CTRL with EN = 1 that meets no refusal. -/
theorem dacEnable_written (pf : Fin 2) (n : Fin 4) (v : BitVec 32) {s : State} (h : s.Opens pf (0x50000 + 0x1000 * n)) :
    ∃ u, ControlWritten n (v ||| BitVec.ofNat 32 (2 ^ 0)) s u ∧ exec (.dacEnable pf n v) s =
      .next (dacCtrlWritten n (s.word (0x50000 + 0x1000 * n)).toNat (withBit v 0) u).syncPanic := by
  obtain ⟨w, hw, hrw, hrwl, hhalf⟩ := dacCtrl_spec n
  obtain ⟨u, written, hword, hwrite⟩ :=
    hostWrite_converter (by omega) (by omega) (by omega) hw hhalf h (v ||| BitVec.ofNat 32 (2 ^ 0))
  refine ⟨u, ⟨written, fun x hx => ?_⟩, congrArg Host.Outcome.next (hwrite.trans ?_)⟩
  · fin_cases hx <;> exact State.f_written hword (by decide) (by rw [hrw, hrwl]; decide)
  · unfold State.wroteConv
    have hn : (0x50000 + 0x1000 * n.val) / 0x1000 % 16 = n := by omega
    rw [if_neg (by omega), if_pos (by omega), if_pos (by simp), hn]
    rfl

/-! ## Its further effect (R90, R95, R98) -/

section
variable {n old v : Nat} {s : State}

theorem dacCtrlWritten_starts (hstop : bitOf v 4 = false) (hen : bitOf v 0 = true) (hrun : s.flag (R.DAC_STATUS_RUNNING n) = false)
    (hpend : s.flag (R.DAC_STATUS_START_PEND n) = false) (hidle : (s.dacN n).start = .none) :
    dacCtrlWritten n old v s = (s.setB (R.DAC_CTRL_STOP n) false).dacEnable n := by
  unfold dacCtrlWritten
  exact (if_neg (by simp [hstop, hen])).trans (if_pos (by simp [hrun, hpend, hidle]))

/-- The state of a channel that goes on running, with STOP cleared and the change so far accepted. -/
def State.changeAccepted (s : State) (n : Nat) : State := (s.setB (R.DAC_CTRL_STOP n) false).setF (R.DAC_STATUS_RESULT n) stOk

/-- The state with the source of a running channel asked for. -/
def State.sourceAsked (s : State) (n src old : Nat) : State :=
  if src == old then s.changeAccepted n
  else if src == 1 then
    if (s.changeAccepted n).pbRegionOk n then
      ((s.changeAccepted n).prefetchStart n).setDac n { ((s.changeAccepted n).prefetchStart n).dacN n with change := .prefetch }
    else ((s.changeAccepted n).setF (R.DAC_CTRL_SRC n) old).setF (R.DAC_STATUS_RESULT n) stBadParam
  else (s.changeAccepted n).setDac n { s.dacN n with
    change := .tick, start := if (s.dacN n).start == .prefetch then .tick else (s.dacN n).start }

theorem dacCtrlWritten_running (hstop : bitOf v 4 = false) (hen : bitOf v 0 = true) (hrun : s.flag (R.DAC_STATUS_RUNNING n) = true) :
    dacCtrlWritten n old v s = s.sourceAsked n (bitsOf v 1 2) (bitsOf old 1 2) := by
  unfold dacCtrlWritten
  exact (if_neg (by simp [hstop, hen])).trans (if_neg (by simp [hrun]))

theorem ConvOnly.changeAccepted (s : State) (n : Nat) :
    ConvOnly .output n [R.DAC_CTRL_STOP, R.DAC_STATUS_RESULT] s (s.changeAccepted n) :=
  (ConvOnly.setB s R.DAC_CTRL_STOP false).trans (.setF _ R.DAC_STATUS_RESULT stOk)

theorem State.changeAccepted_spec (s : State) (n : Nat) : (s.changeAccepted n).dac = s.dac ∧
    (s.changeAccepted n).f (R.DAC_STATUS_RESULT n) = stOk ∧ (s.changeAccepted n).pbRegionOk n = s.pbRegionOk n := by
  have only : ControlOnly n s (s.changeAccepted n) :=
    (ControlOnly.setB s false (controlWord_control n (by decide))).trans (.setF _ _ (controlWord_status n (by decide)))
  exact ⟨by simp [State.changeAccepted], State.f_setF_self .., only.pbRegionOk⟩

variable {src : Nat}

theorem State.sourceAsked_same : s.sourceAsked n old old = s.changeAccepted n := if_pos (by simp)

theorem State.sourceAsked_tick (h : src ≠ old) (h1 : src ≠ 1) : s.sourceAsked n src old = (s.changeAccepted n).setDac n { s.dacN n with
    change := .tick, start := if (s.dacN n).start == .prefetch then .tick else (s.dacN n).start } :=
  (if_neg (by simp [h])).trans (if_neg (by simp [h1]))

theorem State.sourceAsked_playback (h : 1 ≠ old) (hreg : s.pbRegionOk n = true) : s.sourceAsked n 1 old =
    ((s.changeAccepted n).prefetchStart n).setDac n { ((s.changeAccepted n).prefetchStart n).dacN n with change := .prefetch } :=
  (if_neg (by simp [h])).trans ((if_pos rfl).trans (if_pos ((s.changeAccepted_spec n).2.2.trans hreg)))

theorem State.sourceAsked_refused (h : 1 ≠ old) (hreg : s.pbRegionOk n = false) : s.sourceAsked n 1 old =
    ((s.changeAccepted n).setF (R.DAC_CTRL_SRC n) old).setF (R.DAC_STATUS_RESULT n) stBadParam :=
  (if_neg (by simp [h])).trans ((if_pos rfl).trans (if_neg (by simp [(s.changeAccepted_spec n).2.2, hreg])))

/-- A running channel goes on with the source in force until the change takes effect. -/
theorem State.sourceAsked_runs (s : State) (n src old : Nat) :
    (s.sourceAsked n src old).flag (R.DAC_STATUS_RUNNING n) = s.flag (R.DAC_STATUS_RUNNING n) ∧
    ((s.sourceAsked n src old).dacN n).src = (s.dacN n).src := by
  have accepted := ConvOnly.changeAccepted s n
  have hrun := accepted.flag_eq R.DAC_STATUS_RUNNING
  have hdac := State.dacN_congr (s.changeAccepted_spec n).1 n
  unfold State.sourceAsked
  split
  · exact ⟨hrun, by rw [hdac]⟩
  split
  · split
    · exact ⟨by rw [State.flag_setDac, State.prefetchStart, State.flag_setDac, hrun], by
        rw [State.dacN_setDac, State.prefetchStart, State.dacN_setDac, hdac]⟩
    · have refused := (ConvOnly.setF (side := .output) (n := n) (s.changeAccepted n) R.DAC_CTRL_SRC old).trans
        (.setF _ R.DAC_STATUS_RESULT stBadParam)
      exact ⟨(refused.flag_eq R.DAC_STATUS_RUNNING).trans hrun, by rw [State.dacN_setF, State.dacN_setF, hdac]⟩
  · exact ⟨by rw [State.flag_setDac, hrun], by rw [State.dacN_setDac]⟩

end

/-! ## The write as a whole -/

section
variable {n : Nat} {v : BitVec 32} {s u c t : State}

theorem PanicOnly.dacN (h : PanicOnly c t) (m : Nat) : t.dacN m = c.dacN m := by
  rw [h.eq]
  rfl

/-- A field of an output channel reads as before the panic flags and levels. -/
theorem PanicOnly.channel_eq (h : PanicOnly c t) (hn : n < 4) (y : Nat → Fld) (hy : ChannelFld y := by intro i; rfl)
    (h0 : (y 0).base + 4 * (y 0).words ≤ 0x51000 := by decide) : t.f (y n) = c.f (y n) := by
  refine h.f_eq (y n) ?_
  rw [hy n]
  simp only [Fld.base, Fld.words, Fld.shift] at h0 ⊢
  omega

/-- What a write of DACn_CTRL leaves alone. -/
theorem ControlWritten.frame (h : ControlWritten n v s u) (only : ControlOnly n u c) (panic : PanicOnly c t) :
    WordsKept (fun o => o = 0x50000 + 0x1000 * n ∨ o = 0x50004 + 0x1000 * n ∨ o = R.MC_STATUS_P0_PANIC.off ∨
      o = (R.MC_P_LEVEL_BYTES 0).off ∨ o = (R.MC_P_LEVEL_BYTES 4).off) s t ∧ (∀ m, m ≠ n → t.dacN m = s.dacN m) ∧
    t = { s with regs := t.regs, sets := t.sets, dac := t.dac, mem := { s.mem with outPanic := t.mem.outPanic },
                 pwr := { s.pwr with lastUse := t.pwr.lastUse } } := by
  refine ⟨?_, fun m hm => ?_, ?_⟩
  · refine ((h.words.mono fun a ha => .inl ha).trans (only.words.mono fun a ha => ?_)).trans
      (panic.words.mono fun a ha => .inr (.inr ha))
    exact ha.imp id .inl
  · rw [panic.dacN, only.others m hm, h.dacN]
  · obtain ⟨r, l, rfl⟩ : ∃ r l, u = { s with regs := r, pwr := { s.pwr with lastUse := l } } := ⟨_, _, h.eq⟩
    obtain ⟨r1, x1, d1, rfl⟩ : ∃ r x d, c = { s with regs := r, sets := x, dac := d, pwr := { s.pwr with lastUse := l } } :=
      ⟨_, _, _, only.eq⟩
    obtain ⟨r2, x2, p, rfl⟩ : ∃ r x p, t = { s with regs := r, sets := x, dac := d1, mem := { s.mem with outPanic := p },
                                                    pwr := { s.pwr with lastUse := l } } := ⟨_, _, _, panic.eq⟩
    rfl

/-- The channel as a write of DACn_CTRL with EN = 1 finds it, once STOP is cleared. -/
structure ControlFound (n : Nat) (v : BitVec 32) (s c : State) : Prop where
  en : c.flag (R.DAC_CTRL_EN n) = true
  src : c.f (R.DAC_CTRL_SRC n) = bitsOf v.toNat 1 2
  timed : c.flag (R.DAC_CTRL_TIMED n) = bitOf v.toNat 3
  region : c.pbRegionOk n = s.pbRegionOk n
  start : c.ptimeAt (R.DAC_START n 0).off = s.ptimeAt (0x50010 + 0x1000 * n)
  now : c.now = s.now
  dacN : c.dacN n = s.dacN n
  base : c.f (R.DAC_PB_BASE_ADDR n) = s.f (R.DAC_PB_BASE_ADDR n)
  len : c.f (R.DAC_PB_LEN_LEN n) = s.f (R.DAC_PB_LEN_LEN n)

theorem ControlOnly.clearStop (u : State) (n : Nat) : ControlOnly n u (u.setB (R.DAC_CTRL_STOP n) false) :=
  .setB u false (controlWord_control n (by decide))

theorem ControlWritten.found (h : ControlWritten n (v ||| BitVec.ofNat 32 (2 ^ 0)) s u) :
    ControlFound n v s (u.setB (R.DAC_CTRL_STOP n) false) := by
  have stop := ConvOnly.setB (side := .output) (n := n) u R.DAC_CTRL_STOP false
  have only := ControlOnly.clearStop u n
  have hsrc := (stop.f_eq R.DAC_CTRL_SRC).trans (h.bits (1, 2) (by decide))
  have hen := (stop.flag_eq R.DAC_CTRL_EN).trans (h.flag (i := 0) (by decide))
  have htimed := (stop.flag_eq R.DAC_CTRL_TIMED).trans (h.flag (i := 3) (by decide))
  exact ⟨hen.trans ((bitOf_withBit v (i := 0) (b := 0) (by decide)).trans (by simp)),
    hsrc.trans (bitsOf_withBit v (i := 0) (lo := 1) (by decide) (by decide)),
    htimed.trans ((bitOf_withBit v (i := 0) (b := 3) (by decide)).trans (by simp)),
    only.pbRegionOk.trans h.pbRegionOk, only.startAt.trans h.startAt, only.now.trans h.now,
    (State.dacN_setB ..).trans (h.dacN n), (only.f_eq R.DAC_PB_BASE_ADDR).trans (h.f_eq R.DAC_PB_BASE_ADDR),
    (only.f_eq R.DAC_PB_LEN_LEN).trans (h.f_eq R.DAC_PB_LEN_LEN)⟩

/-- A start from a region that breaks R90. -/
theorem ControlFound.refuses (h : ControlFound n v s c) (hsrc : bitsOf v.toNat 1 2 = 1) (hreg : s.pbRegionOk n = false) :
    (c.dacEnable n).flag (R.DAC_CTRL_EN n) = false ∧ (c.dacEnable n).f (R.DAC_STATUS_RESULT n) = stBadParam ∧
    (c.dacEnable n).dacN n = s.dacN n := by
  have result := ConvOnly.setF (side := .output) (n := n) (c.setB (R.DAC_CTRL_EN n) false) R.DAC_STATUS_RESULT stBadParam
  rw [State.dacEnable_refused (h.src.trans hsrc) (h.region.trans hreg)]
  refine ⟨(result.flag_eq R.DAC_CTRL_EN).trans (State.flag_setB_self _ (R.DAC_CTRL_EN n) false Nat.one_pos), State.f_setF_self .., ?_⟩
  rw [State.dacN_setF, State.dacN_setB, h.dacN]

/-- A start that is accepted. -/
theorem ControlFound.accepts (h : ControlFound n v s c) (hok : bitsOf v.toNat 1 2 ≠ 1 ∨ s.pbRegionOk n = true) :
    (c.dacEnable n).flag (R.DAC_CTRL_EN n) = true ∧ (c.dacEnable n).f (R.DAC_STATUS_RESULT n) = stOk ∧
    ((c.dacEnable n).dacN n).start = c.startWait n ∧ (c.startWait n ≠ .tick → (c.dacEnable n).flag (R.DAC_STATUS_START_PEND n) = true) ∧
    (c.startLate n = true → (c.dacEnable n).flag (R.DAC_STATUS_LATE_START n) = true) ∧
    (bitsOf v.toNat 1 2 = 1 → ((c.dacEnable n).dacN n).filling = true ∧ ((c.dacEnable n).dacN n).prefetch = [] ∧
      ((c.dacEnable n).dacN n).pbBase = s.f (R.DAC_PB_BASE_ADDR n) ∧ ((c.dacEnable n).dacN n).pbLen = s.f (R.DAC_PB_LEN_LEN n)) := by
  have hok' : c.f (R.DAC_CTRL_SRC n) ≠ 1 ∨ c.pbRegionOk n = true := by rwa [h.src, h.region]
  obtain ⟨flags, hpend, hlate, hdac⟩ := State.dacEnable_flags hok'
  obtain ⟨hstart, hfrom⟩ := c.dacN_startAccepted n
  rw [h.src, h.base, h.len] at hfrom
  refine ⟨?_, (flags.f_eq R.DAC_STATUS_RESULT).trans (State.f_setF_self ..), by rw [hdac, hstart], hpend, hlate, by rwa [hdac]⟩
  exact ((ConvOnly.startAccepted c n).trans flags).flag_eq R.DAC_CTRL_EN |>.trans h.en

theorem ControlFound.startLate (h : ControlFound n v s c) : c.startLate n =
    (bitOf v.toNat 3 && decide (s.ptimeAt (0x50010 + 0x1000 * n) < s.now + 1000 * nsUnit)) := by
  rw [State.startLate, h.timed, h.start, h.now]

theorem ControlFound.startWait (h : ControlFound n v s c) : c.startWait n =
    if bitOf v.toNat 3 && !decide (s.ptimeAt (0x50010 + 0x1000 * n) < s.now + 1000 * nsUnit) then .timed
    else if bitsOf v.toNat 1 2 == 1 && !bitOf v.toNat 3 then .prefetch else .tick := by
  rw [State.startWait, h.startLate, h.timed, h.src]
  cases bitOf v.toNat 3 <;> simp only [Bool.true_and, Bool.false_and]

end

/-! ## What falls due (R94 to R98, R602) -/

section
variable {s : State} {n : Nat}

/-- The channel that starts with the sample of an index. -/
def State.begunChannel (s : State) (n first : Nat) : DacSt :=
  { s.dacN n with start := .none, change := .none, gainDue := false, src := s.f (R.DAC_CTRL_SRC n), gain := s.f (R.DAC_GAIN_GAIN n),
                  filling := (s.dacN n).filling && s.f (R.DAC_CTRL_SRC n) == 1, phase0 := s.f (R.DAC_NCO_PA_PHASE n 0) * 2 ^ 32,
                  phase1 := s.f (R.DAC_NCO_PA_PHASE n 1) * 2 ^ 32, idx := first, ftw0 := s.f (R.DAC_NCO_FTW_FTW n 0),
                  ftw1 := s.f (R.DAC_NCO_FTW_FTW n 1), synth := [], sent := 0 }

theorem State.dacBegin_eq (s : State) (n first : Nat) : s.dacBegin n first =
    ((s.setDac n (s.begunChannel n first)).setB (R.DAC_STATUS_RUNNING n) true).setB (R.DAC_STATUS_START_PEND n) false := rfl

/-- Two flags of the channel written one after the other. -/
theorem flags_after (u : State) (a b : Bool) :
    let t := (u.setB (R.DAC_STATUS_RUNNING n) a).setB (R.DAC_STATUS_START_PEND n) b
    t.flag (R.DAC_STATUS_RUNNING n) = a ∧ t.flag (R.DAC_STATUS_START_PEND n) = b :=
  ⟨((ConvOnly.setB (side := .output) _ R.DAC_STATUS_START_PEND b).flag_eq R.DAC_STATUS_RUNNING).trans
    (State.flag_setB_self _ (R.DAC_STATUS_RUNNING n) a Nat.one_pos), State.flag_setB_self _ (R.DAC_STATUS_START_PEND n) b Nat.one_pos⟩

theorem ConvOnly.dacFlags (s : State) (n : Nat) (d : DacSt) (a b : Bool) : ConvOnly .output n
    [R.DAC_STATUS_RUNNING, R.DAC_STATUS_START_PEND] s
      (((s.setDac n d).setB (R.DAC_STATUS_RUNNING n) a).setB (R.DAC_STATUS_START_PEND n) b) :=
  ((ConvOnly.setDac ..).trans (.setB _ R.DAC_STATUS_RUNNING a)).trans (.setB _ R.DAC_STATUS_START_PEND b)

theorem ConvOnly.dacBegin (s : State) (n first : Nat) :
    ConvOnly .output n [R.DAC_STATUS_RUNNING, R.DAC_STATUS_START_PEND] s (s.dacBegin n first) := .dacFlags ..

theorem State.dacBegin_spec (s : State) (n first : Nat) : (s.dacBegin n first).flag (R.DAC_STATUS_RUNNING n) = true ∧
    (s.dacBegin n first).flag (R.DAC_STATUS_START_PEND n) = false ∧ (s.dacBegin n first).dacN n = s.begunChannel n first := by
  obtain ⟨hrun, hpend⟩ := flags_after (n := n) (s.setDac n (s.begunChannel n first)) true false
  exact ⟨hrun, hpend, by rw [State.dacBegin_eq, State.dacN_setB, State.dacN_setB, State.dacN_setDac]⟩

theorem dacStart_tick (h : (s.dacN n).start = .tick) (ht : s.atTick = true) : dacStart n s = s.dacBegin n s.clk.sampleIdx := by
  unfold dacStart
  rw [h]
  exact if_pos ht

theorem dacStart_timed {k : Nat} (h : (s.dacN n).start = .timed) (hr : s.clk.released = true) (hk : s.timedSample n = some k) :
    dacStart n s = s.dacBegin n (s.clk.sampleIdx + k) := by
  unfold dacStart
  rw [h]
  dsimp only
  unfold State.dacTimed
  rw [if_neg (by simp [h, hr]), hk]

theorem dacStart_waits (h : (s.dacN n).start ≠ .timed) (ht : s.atTick = false) : dacStart n s = s := by
  unfold dacStart
  cases hs : (s.dacN n).start
  case tick => exact if_neg (by simp [ht])
  case timed => exact absurd hs h
  all_goals rfl

theorem dacPrefetchReady_waits (ht : s.atTick = false) : dacPrefetchReady n s = s := if_pos (by simp [ht])

theorem dacStop_waits (ht : s.atTick = false) : dacStop n s = s := if_neg (by simp [ht])

theorem dacSourceChange_waits (ht : s.atTick = false) : dacSourceChange n s = s := if_pos (by simp [ht])

theorem ncoFtwApply_waits {i : Nat} (ht : s.atTick = false) : ncoFtwApply n i s = s := if_pos (by simp [ht])

theorem ncoFtwApply_first (ht : s.atTick = true) :
    ncoFtwApply n 0 s = s.setDac n { s.dacN n with ftw0 := s.f (R.DAC_NCO_FTW_FTW n 0) } := if_neg (by simp [ht])

theorem ncoFtwApply_second (ht : s.atTick = true) :
    ncoFtwApply n 1 s = s.setDac n { s.dacN n with ftw1 := s.f (R.DAC_NCO_FTW_FTW n 1) } := if_neg (by simp [ht])

/-- An alignment tick with enough prefetched starts a channel that waits for it, or changes its source. -/
theorem dacPrefetchReady_eq (ht : s.atTick = true) (hfull : 98304 ≤ 2 * (s.dacN n).prefetch.length) : dacPrefetchReady n s =
    if (s.dacN n).start == .prefetch then s.dacBegin n s.clk.sampleIdx
    else if (s.dacN n).change == .prefetch then s.dacChange n else s :=
  if_neg (by simp [ht]; omega)

/-- The channel that has ended. -/
def State.haltedChannel (s : State) (n : Nat) : DacSt :=
  { s.dacN n with start := .none, change := .none, stop := false, gainDue := false, src := 0, filling := false, prefetch := [],
                  skip := 0, synth := [], code := 0, recent := [] }

theorem dacStop_halts (ht : s.atTick = true) (hstop : (s.dacN n).stop = true) : dacStop n s =
    ((s.setDac n (s.haltedChannel n)).setB (R.DAC_STATUS_RUNNING n) false).setB (R.DAC_STATUS_START_PEND n) false :=
  if_pos (by simp [ht, hstop])

/-- The channel with a gain that waits taken. -/
def State.gainTaken (s : State) (n : Nat) : State :=
  if (s.dacN n).gainDue then s.setDac n { s.dacN n with gain := s.f (R.DAC_GAIN_GAIN n), gainDue := false } else s

theorem dacSourceChange_eq (ht : s.atTick = true) : dacSourceChange n s =
    if (s.dacN n).change == .tick then (s.gainTaken n).dacChange n else s.gainTaken n := if_neg (by simp [ht])

theorem State.gainTaken_spec (s : State) (n : Nat) : (s.gainTaken n).regs = s.regs ∧ s.gainTaken n = { s with dac := (s.gainTaken n).dac } ∧
    ((s.gainTaken n).dacN n).gain = (if (s.dacN n).gainDue then s.f (R.DAC_GAIN_GAIN n) else (s.dacN n).gain) ∧
    ((s.gainTaken n).dacN n).src = (s.dacN n).src := by
  unfold State.gainTaken
  split
  · exact ⟨rfl, rfl, by rw [State.dacN_setDac], by rw [State.dacN_setDac]⟩
  · exact ⟨rfl, rfl, rfl, rfl⟩

end

end Sys2Proof.Machine

open Sys2Proof Sys2Proof.Machine

/-- Settles O20: a write of DACn_CTRL leaves its word, then its effect on the channel, then the panic flags and levels, and each of these
reads past the others; what falls due does so by its own equation. -/
theorem outputStartsAndStops : Obligations.OutputStartsAndStops := by
  unfold Obligations.OutputStartsAndStops
  refine ⟨fun pf n v s hopen hstop hrun hpend hidle => ?_, fun pf n v s hopen hstop hrun => ?_, fun n k s hdue => ?_,
    fun n s ht hstart => ?_, fun n s ht hfull => ?_, fun n s ht hstop => ?_, fun n s ht => ?_, fun n i s ht => ?_⟩
  · obtain ⟨u, written, hexec⟩ := dacEnable_written pf n v hopen
    rw [dacCtrlWritten_starts (by rw [bitOf_withBit v (by decide), hstop]; rfl) (by rw [bitOf_withBit v (by decide)]; simp)
      ((written.flag_eq R.DAC_STATUS_RUNNING).trans hrun) ((written.flag_eq R.DAC_STATUS_START_PEND).trans hpend)
      (by rw [written.dacN]; exact hidle)] at hexec
    have found := written.found
    have panic := PanicOnly.syncPanic ((u.setB (R.DAC_CTRL_STOP n) false).dacEnable n)
    have only := (ControlOnly.clearStop u n).trans (.dacEnable _ n)
    obtain ⟨hwords, hothers, heq⟩ := written.frame only panic
    have late := found.startLate
    generalize u.setB (R.DAC_CTRL_STOP n) false = c at *
    refine ⟨_, hexec, fun hsrc hreg => ?_, fun hok => ?_, hwords, hothers, heq⟩
    · obtain ⟨hen, hresult, hdac⟩ := found.refuses hsrc hreg
      exact ⟨(State.flag_congr (panic.channel_eq n.isLt R.DAC_CTRL_EN)).trans hen,
        (panic.channel_eq n.isLt R.DAC_STATUS_RESULT).trans hresult, by rw [panic.dacN, hdac]; exact hidle⟩
    · obtain ⟨hen, hresult, hstart, hpend, hlate, hfrom⟩ := found.accepts hok
      have hwait := found.startWait
      rw [panic.dacN, hstart]
      have hpends (hne : c.startWait n ≠ .tick) := (State.flag_congr (panic.channel_eq n.isLt R.DAC_STATUS_START_PEND)).trans (hpend hne)
      refine ⟨(State.flag_congr (panic.channel_eq n.isLt R.DAC_CTRL_EN)).trans hen,
        (panic.channel_eq n.isLt R.DAC_STATUS_RESULT).trans hresult, fun ht hl => ?_, fun ht hl => ?_, fun ht hsrc => ?_,
        fun ht hsrc => ?_, hfrom⟩
      · have htimed := hwait.trans (if_pos (by simp [ht, hl]))
        exact ⟨htimed, hpends (by simp [htimed])⟩
      · refine ⟨hwait.trans ((if_neg (by simp [ht, hl])).trans (if_neg (by simp [ht]))), ?_⟩
        exact (State.flag_congr (panic.channel_eq n.isLt R.DAC_STATUS_LATE_START)).trans (hlate (by rw [late]; simp [ht, hl]))
      · have hpre := hwait.trans ((if_neg (by simp [ht])).trans (if_pos (by simp [ht, hsrc])))
        exact ⟨hpre, hpends (by simp [hpre])⟩
      · exact hwait.trans ((if_neg (by simp [ht])).trans (if_neg (by simp [hsrc])))
  · obtain ⟨u, written, hexec⟩ := dacEnable_written pf n v hopen
    have hold : bitsOf (s.word (0x50000 + 0x1000 * n)).toNat 1 2 = s.f (R.DAC_CTRL_SRC n) :=
      (s.f_wordField _ 1 2 (by decide)).symm
    have hudac : u.dac = s.dac := by rw [written.eq]
    have husrc : u.f (R.DAC_CTRL_SRC n) = bitsOf v.toNat 1 2 :=
      (written.bits (1, 2) (by decide)).trans (bitsOf_withBit v (i := 0) (lo := 1) (by decide) (by decide))
    have hlt := s.f_lt (R.DAC_CTRL_SRC n)
    rw [dacCtrlWritten_running (by rw [bitOf_withBit v (by decide), hstop]; rfl) (by rw [bitOf_withBit v (by decide)]; simp)
      ((written.flag_eq R.DAC_STATUS_RUNNING).trans hrun), hold, bitsOf_withBit v (by decide) (by decide)] at hexec
    obtain ⟨hruns, hsrcs⟩ := u.sourceAsked_runs n (bitsOf v.toNat 1 2) (s.f (R.DAC_CTRL_SRC n))
    have panic := PanicOnly.syncPanic (u.sourceAsked n (bitsOf v.toNat 1 2) (s.f (R.DAC_CTRL_SRC n)))
    have hdac : (u.sourceAsked n (bitsOf v.toNat 1 2) (s.f (R.DAC_CTRL_SRC n))).syncPanic.dac =
        (u.sourceAsked n (bitsOf v.toNat 1 2) (s.f (R.DAC_CTRL_SRC n))).dac := by rw [panic.eq]
    have accepted := ConvOnly.changeAccepted u n
    obtain ⟨hadac, haresult, -⟩ := u.changeAccepted_spec n
    refine ⟨_, hexec, ?_, ?_, fun hsame => ?_, fun hne h1 => ?_, fun hne h1 hreg => ?_, fun hne h1 hreg => ?_⟩
    · rw [State.flag_congr (panic.channel_eq n.isLt R.DAC_STATUS_RUNNING), hruns, written.flag_eq R.DAC_STATUS_RUNNING, hrun]
    · rw [panic.dacN, hsrcs, written.dacN]
    · rw [panic.channel_eq n.isLt R.DAC_STATUS_RESULT, hdac, hsame, State.sourceAsked_same]
      exact ⟨hadac.trans hudac, haresult⟩
    · rw [panic.channel_eq n.isLt R.DAC_STATUS_RESULT, panic.channel_eq n.isLt R.DAC_CTRL_SRC, panic.dacN,
        State.sourceAsked_tick hne h1, State.dacN_setDac, State.f_setDac, State.f_setDac]
      exact ⟨rfl, (accepted.f_eq R.DAC_CTRL_SRC).trans husrc, haresult⟩
    · rw [panic.channel_eq n.isLt R.DAC_CTRL_SRC, panic.dacN, h1, State.sourceAsked_playback (h1 ▸ hne) (written.pbRegionOk.trans hreg),
        State.dacN_setDac, State.f_setDac, State.prefetchStart, State.dacN_setDac, State.f_setDac]
      exact ⟨rfl, rfl, rfl, (accepted.f_eq R.DAC_CTRL_SRC).trans (husrc.trans h1)⟩
    · rw [panic.channel_eq n.isLt R.DAC_CTRL_SRC, panic.channel_eq n.isLt R.DAC_STATUS_RESULT, hdac, h1,
        State.sourceAsked_refused (h1 ▸ hne) (written.pbRegionOk.trans hreg)]
      refine ⟨by rw [State.setF_dac, State.setF_dac, hadac, hudac], ?_, State.f_setF_self ..⟩
      rw [(ConvOnly.setF (side := .output) _ R.DAC_STATUS_RESULT stBadParam).f_eq R.DAC_CTRL_SRC, State.f_setF_self]
      exact Nat.mod_eq_of_lt hlt
  · have hbegin : dacStart n s = s.dacBegin n (s.clk.sampleIdx + k) := by
      rcases hdue with ⟨hstart, ht, rfl⟩ | ⟨hstart, hr, hk⟩
      · exact dacStart_tick hstart ht
      · exact dacStart_timed hstart hr hk
    obtain ⟨hrun, hpend, hdac⟩ := s.dacBegin_spec n (s.clk.sampleIdx + k)
    have kept := ConvOnly.dacBegin s n (s.clk.sampleIdx + k)
    refine ⟨_, congrArg Host.Outcome.next hbegin, hrun, hpend, ?_, ?_, ?_, ?_, ?_, ?_, ?_, kept.fields, kept.eq⟩ <;> rw [hdac] <;> rfl
  · exact ⟨congrArg Host.Outcome.next (dacStart_waits hstart ht), congrArg Host.Outcome.next (dacPrefetchReady_waits ht),
      congrArg Host.Outcome.next (dacStop_waits ht), congrArg Host.Outcome.next (dacSourceChange_waits ht),
      fun _ => congrArg Host.Outcome.next (ncoFtwApply_waits ht)⟩
  · refine ⟨_, congrArg Host.Outcome.next (dacPrefetchReady_eq ht hfull), fun hstart => ?_, fun hstart hchange => ?_, ?_, ?_⟩
    · rw [if_pos (by simp [hstart])]
      obtain ⟨hrun, -, hdac⟩ := s.dacBegin_spec n s.clk.sampleIdx
      exact ⟨hrun, by rw [hdac]; rfl⟩
    · rw [if_neg (by simp [hstart]), if_pos (by simp [hchange]), State.dacChange, State.dacN_setDac]
      exact ⟨rfl, rfl, rfl⟩
    · split
      · rw [(s.dacBegin_spec n s.clk.sampleIdx).2.2]
        rfl
      split
      · rw [State.dacChange, State.dacN_setDac]
      · rfl
    · split
      · exact (ConvOnly.dacBegin s n _).eq
      split <;> rfl
  · obtain ⟨hrun, hpend⟩ := flags_after (n := n) (s.setDac n (s.haltedChannel n)) false false
    have kept := ConvOnly.dacFlags s n (s.haltedChannel n) false false
    refine ⟨_, congrArg Host.Outcome.next (dacStop_halts ht hstop), hrun, hpend, ?_, ?_, ?_, kept.fields, kept.eq⟩ <;>
      rw [State.dacN_setB, State.dacN_setB, State.dacN_setDac] <;> rfl
  · obtain ⟨hregs, heq, hgain, hsrc⟩ := s.gainTaken_spec n
    refine ⟨_, congrArg Host.Outcome.next (dacSourceChange_eq ht), fun hchange => ?_, fun hchange => ?_, ?_, ?_⟩
    · rw [if_pos (by simp [hchange]), State.dacChange, State.dacN_setDac]
      exact ⟨State.f_congr hregs _, rfl⟩
    · rw [if_neg (by simp [hchange]), hsrc]
    · split
      · rw [State.dacChange, State.dacN_setDac]
        exact hgain
      · exact hgain
    · split
      · rw [State.dacChange, State.setDac, heq]
      · exact heq
  · match i with
    | 0 =>
      refine ⟨_, congrArg Host.Outcome.next (ncoFtwApply_first ht), ?_, ?_, ?_, rfl⟩ <;> rw [State.dacN_setDac]
      rfl
    | 1 =>
      refine ⟨_, congrArg Host.Outcome.next (ncoFtwApply_second ht), ?_, ?_, ?_, rfl⟩ <;> rw [State.dacN_setDac]
      rfl
end

section
/-!
PROOF. Input channels: what a write of ADCn_CTRL does (spec/03_converters.md, R69, R83, R85 and R603).
-/
namespace Sys2Proof.Machine

/-! ## The consumers of a channel (R69) -/

/-- Whether a consumer names a channel follows from the registers past the converters and from the slots. -/
theorem State.channelNamed_congr {s t : State} (h : ∀ x : Fld, 0x80000 ≤ x.base → t.f x = s.f x) (hacq : t.acq = s.acq) (n : Nat) :
    t.channelNamed n = s.channelNamed n := by
  have far (off : Nat → Nat) (lo wd : Nat) (hoff : ∀ i, 0x80000 ≤ off i) (i : Nat) : t.f ⟨off i, lo, wd⟩ = s.f ⟨off i, lo, wd⟩ :=
    h _ ((hoff i).trans (Nat.le_add_right ..))
  have hslot (i : Nat) : t.slotPending i = s.slotPending i := by
    unfold State.slotPending
    rw [show t.f (R.ACQ_STATUS_STATE i) = s.f (R.ACQ_STATUS_STATE i) from far (fun i => 0x410004 + 0x100 * i) 0 3 (by omega) i,
      State.acqN, State.acqN, hacq]
  have fch (i : Nat) : t.f (R.FCH_CTRL_EN i) = s.f (R.FCH_CTRL_EN i) ∧
      t.f ((R.FCH_SRC_SRC i).shift 0x100) = s.f ((R.FCH_SRC_SRC i).shift 0x100) ∧
      t.f (R.FCH_STATUS_PENDING i) = s.f (R.FCH_STATUS_PENDING i) ∧ t.f (R.FCH_SRC_SRC i) = s.f (R.FCH_SRC_SRC i) :=
    ⟨far (fun i => 0x80000 + 0x1000 * i) 0 1 (by omega) i, far (fun i => 0x80100 + 0x1000 * i + 0x100) 0 4 (by omega) i,
      far (fun i => 0x80004 + 0x1000 * i) 2 1 (by omega) i, far (fun i => 0x80100 + 0x1000 * i) 0 4 (by omega) i⟩
  have acq (i : Nat) : t.f (R.ACQ_MODE_KIND i) = s.f (R.ACQ_MODE_KIND i) ∧ t.f (R.ACQ_MODE_INDEX i) = s.f (R.ACQ_MODE_INDEX i) :=
    ⟨far (fun i => 0x410008 + 0x100 * i) 0 2 (by omega) i, far (fun i => 0x410008 + 0x100 * i) 4 4 (by omega) i⟩
  have trg (i : Nat) : t.f ((R.TRG_SRC_EN i).shift 0x4000) = s.f ((R.TRG_SRC_EN i).shift 0x4000) ∧
      t.f ((R.TRG_SRC_KIND i).shift 0x4000) = s.f ((R.TRG_SRC_KIND i).shift 0x4000) ∧
      t.f ((R.TRG_SRC_INDEX i).shift 0x4000) = s.f ((R.TRG_SRC_INDEX i).shift 0x4000) :=
    ⟨far (fun i => 0x401000 + 0x40 * i + 0x4000) 31 1 (by omega) i, far (fun i => 0x401000 + 0x40 * i + 0x4000) 0 4 (by omega) i,
      far (fun i => 0x401000 + 0x40 * i + 0x4000) 8 4 (by omega) i⟩
  have sq (i : Nat) : t.f (R.SQ_STATUS_RUNNING i) = s.f (R.SQ_STATUS_RUNNING i) ∧ t.f (R.SQ_CFG_SRC i) = s.f (R.SQ_CFG_SRC i) ∧
      t.f (R.SQ_CFG_CHAN i) = s.f (R.SQ_CFG_CHAN i) :=
    ⟨far (fun i => 0x584008 + 0x40 * i) 0 1 (by omega) i, far (fun i => 0x584000 + 0x40 * i) 0 3 (by omega) i,
      far (fun i => 0x584000 + 0x40 * i) 4 3 (by omega) i⟩
  simp only [State.channelNamed, State.flag, hslot, fch, acq, trg, sq]

/-! ## The word written -/

/-- The word of ADCn_CTRL written with a value, and the time of the access noted. -/
structure AdcWritten (n : Nat) (v : BitVec 32) (s u : State) : Prop extends WordWritten (0x41000 + 0x1000 * n) s u where
  bits : ∀ i ∈ [0, 1, 3], u.flag ⟨0x41000 + 0x1000 * n, i, 1⟩ = bitOf v.toNat i
  run : u.flag (R.ADC_CTRL_FP_RUN n) = (s.flag (R.ADC_CTRL_FP_RUN n) || bitOf v.toNat 4)

section
variable {n : Nat} {v : BitVec 32} {s u : State}

/-- The registers of the channel past its control read as before. -/
theorem AdcWritten.f_eq (h : AdcWritten n v s u) (y : Nat → Fld) (hy : ChannelFld y := by intro i; rfl)
    (h0 : 0x41004 ≤ (y 0).base := by decide) : u.f (y n) = s.f (y n) := by
  refine h.toWordWritten.f_eq _ (.inr ?_)
  rw [hy n]
  simp only [Fld.base, Fld.shift] at h0 ⊢
  omega

theorem AdcWritten.flag_eq (h : AdcWritten n v s u) (y : Nat → Fld) (hy : ChannelFld y := by intro i; rfl)
    (h0 : 0x41004 ≤ (y 0).base := by decide) : u.flag (y n) = s.flag (y n) := State.flag_congr (h.f_eq y hy h0)

theorem AdcWritten.adc (h : AdcWritten n v s u) : u.adc = s.adc := by
  rw [h.eq]

theorem AdcWritten.channelNamed (h : AdcWritten n v s u) (hn : n < 8) : u.channelNamed n = s.channelNamed n :=
  State.channelNamed_congr (fun x hx => h.toWordWritten.f_eq x (.inr (by omega))) (by rw [h.eq]) n

/-- What a write of ADCn_CTRL and its further effect leave alone. -/
theorem AdcWritten.frame {t : State} {xs : List (Nat → Fld)} (h : AdcWritten n v s u) (only : ConvOnly .input n xs u t) :
    FieldsKept (⟨0x41000 + 0x1000 * n, 0, 32⟩ :: xs.map (fun x => x n)) s t ∧
    t = { s with regs := t.regs, sets := t.sets, adc := t.adc, pwr := { s.pwr with lastUse := t.pwr.lastUse } } := by
  refine ⟨(h.toWordWritten.kept ⟨rfl, rfl, rfl⟩).trans only.fields, ?_⟩
  obtain ⟨r, l, rfl⟩ : ∃ r l, u = { s with regs := r, pwr := { s.pwr with lastUse := l } } := ⟨_, _, h.eq⟩
  obtain ⟨r1, x1, a1, rfl⟩ : ∃ r x a, t = { s with regs := r, sets := x, adc := a, pwr := { s.pwr with lastUse := l } } :=
    ⟨_, _, _, only.eq⟩
  rfl

end

theorem adcCtrl_spec (n : Fin 8) : ∃ w, wordSpec (0x41000 + 0x1000 * n) = some w ∧ w.rw = 0xEB ∧ w.rwl = 0 ∧ w.w1c = 0 ∧
    w.w1s = 0x10 ∧ w.half = 0 := by
  fin_cases n <;> exact ⟨_, rfl, rfl, rfl, rfl, rfl, rfl⟩

/-- A write of ADCn_CTRL that meets no refusal. -/
theorem adcCtrl_written (pf : Fin 2) (n : Fin 8) (v : BitVec 32) {s : State} (h : s.Opens pf (0x41000 + 0x1000 * n)) :
    ∃ u, AdcWritten n v s u ∧ adcCtrl pf n v.toNat s = adcCtrlWritten n (s.word (0x41000 + 0x1000 * n)).toNat v.toNat u := by
  obtain ⟨w, hw, hrw, hrwl, hc, hs, hhalf⟩ := adcCtrl_spec n
  obtain ⟨u, written, hword, hwrite⟩ := hostWrite_converter (by omega) (by omega) (by omega) hw hhalf h v
  refine ⟨u, ⟨written, fun i hi => ?_, ?_⟩, hwrite.trans ?_⟩
  · rw [State.flag, bitOf_eq_bitsOf]
    fin_cases hi <;> exact congrArg (· != 0) (State.f_written hword (by decide) (by rw [hrw, hrwl]; decide))
  · have flag (t : State) : t.flag (R.ADC_CTRL_FP_RUN n) = (t.word (0x41000 + 0x1000 * n)).getLsbD 4 := by
      rw [State.flag, R.ADC_CTRL_FP_RUN, State.f_wordField _ _ _ _ (by decide), ← bitOf_eq_bitsOf, bitOf_eq_testBit, BitVec.testBit_toNat]
    rw [flag, flag, hword, getLsbD_mergeWord_settable (by decide) (by rw [hrw, hrwl, hc]; decide) (by rw [hs]; decide), bitOf_eq_testBit,
      BitVec.testBit_toNat]
  · unfold State.wroteConv
    have hn : (0x41000 + 0x1000 * n.val) / 0x1000 % 16 - 1 = n := by omega
    rw [if_pos (by omega), if_neg (by omega), if_pos (by simp), hn]

/-! ## A step in progress ended by EN = 0 (R603) -/

section
variable {s : State} {n old v : Nat}

/-- The slots of a channel with the slot of the step returned to its sub-converter. -/
def AdcSt.returned (a : AdcSt) : List Nat := if a.slot == 32 then a.slots else a.slots.set a.slot a.outgoing

/-- The state with a step counted as skipped and its slot returned. -/
def State.skippedBack (s : State) (n : Nat) : State :=
  let s1 := (s.setAdc n { s.adcN n with slots := (s.adcN n).returned }).incSat (R.ADC_CAL_SKIP n)
  if s.flag (R.ADC_STATUS_DEGRADED n) then s1 else s1.setF (R.ADC_STATUS_SPARE_SLOT n) 63

theorem State.stepUndo_none (h : (s.adcN n).undo = none) : s.stepUndo n = s := by
  unfold State.stepUndo
  dsimp only
  rw [h]

theorem State.stepKill_idle (h : (s.adcN n).undo = none) (hstep : s.flag (R.ADC_STATUS_STEP n) = false) : s.stepKill n = s := by
  unfold State.stepKill
  rw [State.stepUndo_none h]
  exact if_pos (by simp [hstep])

theorem State.stepKill_step (h : (s.adcN n).undo = none) (hstep : s.flag (R.ADC_STATUS_STEP n) = true) :
    s.stepKill n = (s.skippedBack n).stepEnd n := by
  unfold State.stepKill
  rw [State.stepUndo_none h]
  exact if_neg (by simp [hstep])

theorem State.skippedBack_spec (s : State) (n : Nat) : ConvOnly .input n [R.ADC_CAL_SKIP, R.ADC_STATUS_SPARE_SLOT] s (s.skippedBack n) ∧
    (s.skippedBack n).adcN n = { s.adcN n with slots := (s.adcN n).returned } ∧
    (s.skippedBack n).f (R.ADC_CAL_SKIP n) = min (s.f (R.ADC_CAL_SKIP n) + 1) (2 ^ 32 - 1) := by
  have skipped : ConvOnly .input n [R.ADC_CAL_SKIP] s
      ((s.setAdc n { s.adcN n with slots := (s.adcN n).returned }).incSat (R.ADC_CAL_SKIP n)) :=
    (ConvOnly.setAdc ..).trans (.incSat _ R.ADC_CAL_SKIP)
  have hskip : ((s.setAdc n { s.adcN n with slots := (s.adcN n).returned }).incSat (R.ADC_CAL_SKIP n)).f (R.ADC_CAL_SKIP n) =
      min (s.f (R.ADC_CAL_SKIP n) + 1) (2 ^ 32 - 1) := by
    rw [State.f_incSat_self, State.f_setAdc]
    rfl
  unfold State.skippedBack
  split
  · exact ⟨skipped.mono (by simp), by rw [State.adcN_incSat, State.adcN_setAdc], hskip⟩
  · refine ⟨skipped.trans (.setF _ R.ADC_STATUS_SPARE_SLOT 63), by rw [State.adcN_setF, State.adcN_incSat, State.adcN_setAdc], ?_⟩
    exact ((ConvOnly.setF (side := .input) _ R.ADC_STATUS_SPARE_SLOT 63).f_eq R.ADC_CAL_SKIP).trans hskip

/-- The fields that the end of a step by EN = 0 may change. -/
def killFlds : List (Nat → Fld) := [R.ADC_STATUS_STEP, R.ADC_STATUS_HELD, R.ADC_STATUS_SPARE_SLOT, R.ADC_CAL_SKIP]

theorem State.stepKill_spec (h : (s.adcN n).undo = none) (hwait : (s.adcN n).fpWait = false) :
    ConvOnly .input n killFlds s (s.stepKill n) ∧ (s.stepKill n).flag (R.ADC_STATUS_STEP n) = false ∧
    (s.flag (R.ADC_STATUS_STEP n) = true → (s.stepKill n).f (R.ADC_CAL_SKIP n) = min (s.f (R.ADC_CAL_SKIP n) + 1) (2 ^ 32 - 1) ∧
      ((s.stepKill n).adcN n).slots = (s.adcN n).returned) ∧
    (s.flag (R.ADC_STATUS_STEP n) = false → s.stepKill n = s) := by
  cases hstep : s.flag (R.ADC_STATUS_STEP n) with
  | false =>
    rw [State.stepKill_idle h hstep]
    exact ⟨(ConvOnly.refl s).mono (by simp), hstep, nofun, fun _ => rfl⟩
  | true =>
    obtain ⟨skipped, hadc, hskip⟩ := s.skippedBack_spec n
    have hwait' : ((s.skippedBack n).adcN n).fpWait = false := by rw [hadc]; exact hwait
    have ended := ConvOnly.stepEnd hwait'
    obtain ⟨hend, hslots⟩ := State.stepEnd_spec hwait'
    rw [State.stepKill_step h hstep]
    refine ⟨(skipped.trans ended).mono (by simp [killFlds]), hend, fun _ => ⟨(ended.f_eq R.ADC_CAL_SKIP).trans hskip, ?_⟩, nofun⟩
    rw [hslots, hadc]

/-! ## The further effect of the write -/

/-- Without FP_RUN the write has the effect of EN alone. -/
theorem adcCtrlWritten_eq (hrun : bitOf v 4 = false) : adcCtrlWritten n old v s =
    if bitOf v 0 then s.setF (R.ADC_STATUS_RESULT n) stOk
    else if bitOf old 0 && s.channelNamed n then (s.setB (R.ADC_CTRL_EN n) true).setF (R.ADC_STATUS_RESULT n) stRefusedBusy
    else (s.setF (R.ADC_STATUS_RESULT n) stOk).stepKill n := if_neg (by simp [hrun])

theorem adcCtrlWritten_enables (hrun : bitOf v 4 = false) (hen : bitOf v 0 = true) :
    adcCtrlWritten n old v s = s.setF (R.ADC_STATUS_RESULT n) stOk := (adcCtrlWritten_eq hrun).trans (if_pos hen)

theorem adcCtrlWritten_refuses (hrun : bitOf v 4 = false) (hen : bitOf v 0 = false) (hold : bitOf old 0 = true)
    (hnamed : s.channelNamed n = true) :
    adcCtrlWritten n old v s = (s.setB (R.ADC_CTRL_EN n) true).setF (R.ADC_STATUS_RESULT n) stRefusedBusy :=
  (adcCtrlWritten_eq hrun).trans ((if_neg (by simp [hen])).trans (if_pos (by simp [hold, hnamed])))

theorem adcCtrlWritten_disables (hrun : bitOf v 4 = false) (hen : bitOf v 0 = false)
    (h : ¬ (bitOf old 0 = true ∧ s.channelNamed n = true)) :
    adcCtrlWritten n old v s = (s.setF (R.ADC_STATUS_RESULT n) stOk).stepKill n :=
  (adcCtrlWritten_eq hrun).trans ((if_neg (by simp [hen])).trans (if_neg (by simpa using h)))

/-- FP_RUN starts the first pass, or has it wait for the step in progress. -/
theorem adcCtrlWritten_runs (hrun : bitOf v 4 = true) (hen : bitOf v 0 = true) (hfirst : s.flag (R.ADC_STATUS_FIRST n) = false) :
    adcCtrlWritten n old v s =
      if s.flag (R.ADC_STATUS_STEP n) then
        (s.setF (R.ADC_STATUS_RESULT n) stOk).setAdc n { (s.setF (R.ADC_STATUS_RESULT n) stOk).adcN n with fpWait := true }
      else (s.setF (R.ADC_STATUS_RESULT n) stOk).firstPassStart n := by
  have result := ConvOnly.setF (side := .input) (n := n) s R.ADC_STATUS_RESULT stOk
  unfold adcCtrlWritten
  rw [if_pos hen]
  dsimp only
  rw [result.flag_eq R.ADC_STATUS_FIRST, result.flag_eq R.ADC_STATUS_STEP]
  exact if_pos (by simp [hrun, hfirst])

theorem ConvOnly.firstPassStart (s : State) (n : Nat) :
    ConvOnly .input n [R.ADC_STATUS_FIRST, R.ADC_STATUS_SETTLED] s (s.firstPassStart n) :=
  ((ConvOnly.setAdc ..).trans (.setB _ R.ADC_STATUS_FIRST true)).trans (.setB _ R.ADC_STATUS_SETTLED false)

theorem State.firstPassStart_spec (s : State) (n : Nat) : (s.firstPassStart n).flag (R.ADC_STATUS_FIRST n) = true ∧
    (s.firstPassStart n).flag (R.ADC_STATUS_SETTLED n) = false :=
  ⟨((ConvOnly.setB (side := .input) _ R.ADC_STATUS_SETTLED false).flag_eq R.ADC_STATUS_FIRST).trans
    (State.flag_setB_self _ (R.ADC_STATUS_FIRST n) true Nat.one_pos), State.flag_setB_self _ (R.ADC_STATUS_SETTLED n) false Nat.one_pos⟩

end

end Sys2Proof.Machine
end

section
/-!
PROOF. Input channels: enables, holds, first passes and trims as host writes (spec/03_converters.md, R69, R83 to R85 and R603).
-/
namespace Sys2Proof.Machine

/-! ## EN, ROT_HOLD and FP_RUN as writes of ADCn_CTRL -/

section
variable {n : Nat} {v : BitVec 32} {s u : State}

/-- The status of a channel after a write that it accepts. -/
theorem AdcWritten.accepted (h : AdcWritten n v s u) (i : Nat) (hi : i ∈ [0, 1, 3]) :
    (u.setF (R.ADC_STATUS_RESULT n) stOk).flag ⟨0x41000 + 0x1000 * n, i, 1⟩ = bitOf v.toNat i := by
  rw [← h.bits i hi]
  refine State.flag_congr (State.f_setF_apart _ _ _ _ (.inr (.inl ?_)))
  have hlt : i < 32 := by fin_cases hi <;> decide
  simp only [R.ADC_STATUS_RESULT, Fld.base, Fld.words]
  omega

/-- EN taken with a value, and a step ended by EN = 0. -/
theorem adcDisabled_spec (h : AdcWritten n v s u) (hundo : (s.adcN n).undo = none) (hwait : (s.adcN n).fpWait = false) :
    let t := (u.setF (R.ADC_STATUS_RESULT n) stOk).stepKill n
    ConvOnly .input n (R.ADC_STATUS_RESULT :: killFlds) u t ∧ t.flag (R.ADC_CTRL_EN n) = bitOf v.toNat 0 ∧
    t.f (R.ADC_STATUS_RESULT n) = stOk ∧ t.flag (R.ADC_STATUS_STEP n) = false ∧
    (s.flag (R.ADC_STATUS_STEP n) = true → t.f (R.ADC_CAL_SKIP n) = min (s.f (R.ADC_CAL_SKIP n) + 1) (2 ^ 32 - 1) ∧
      (t.adcN n).slots = (s.adcN n).returned) ∧
    (s.flag (R.ADC_STATUS_STEP n) = false → t.adc = s.adc ∧ t.f (R.ADC_CAL_SKIP n) = s.f (R.ADC_CAL_SKIP n)) := by
  have result := ConvOnly.setF (side := .input) (n := n) u R.ADC_STATUS_RESULT stOk
  have hen := h.accepted 0 (by decide)
  have hok : (u.setF (R.ADC_STATUS_RESULT n) stOk).f (R.ADC_STATUS_RESULT n) = stOk := State.f_setF_self ..
  have hadc : (u.setF (R.ADC_STATUS_RESULT n) stOk).adc = s.adc := (State.setF_adc ..).trans h.adc
  have hstep := (result.flag_eq R.ADC_STATUS_STEP).trans (h.flag_eq R.ADC_STATUS_STEP)
  have hskip := (result.f_eq R.ADC_CAL_SKIP).trans (h.f_eq R.ADC_CAL_SKIP)
  generalize u.setF (R.ADC_STATUS_RESULT n) stOk = c at *
  have hn := State.adcN_congr hadc n
  obtain ⟨killed, hend, hskipped, hidle⟩ := State.stepKill_spec (s := c) (n := n) (by rw [hn]; exact hundo) (by rw [hn]; exact hwait)
  rw [hstep, hskip, hn] at hskipped
  rw [hstep] at hidle
  refine ⟨result.trans killed, ?_, (killed.f_eq R.ADC_STATUS_RESULT).trans hok, hend, hskipped, fun hs => ?_⟩
  · exact (killed.flag_eq R.ADC_CTRL_EN).trans hen
  · rw [hidle hs]
    exact ⟨hadc, hskip⟩

end

theorem adcEn_word (n : Nat) : (R.ADC_CTRL_EN n).words = 1 ∧ (R.ADC_CTRL_EN n).lo < 32 := by
  simp only [Fld.words, R.ADC_CTRL_EN]
  decide

theorem adcEnWrite_ends (pf : Fin 2) (n : Fin 8) (v : BitVec 32) {s : State} (hopen : s.Opens pf (0x41000 + 0x1000 * n))
    (hrun : bitOf v.toNat 4 = false) (hundo : (s.adcN n).undo = none) (hwait : (s.adcN n).fpWait = false) :
    Ends (exec (.adcEnWrite pf n v) s) fun t =>
      (bitOf v.toNat 0 = true → t.flag (R.ADC_CTRL_EN n) = true ∧ t.f (R.ADC_STATUS_RESULT n) = stOk ∧ t.adc = s.adc) ∧
      (bitOf v.toNat 0 = false → s.flag (R.ADC_CTRL_EN n) = true ∧ s.channelNamed n = true →
        t.flag (R.ADC_CTRL_EN n) = true ∧ t.f (R.ADC_STATUS_RESULT n) = stRefusedBusy ∧ t.adc = s.adc) ∧
      (bitOf v.toNat 0 = false → ¬ (s.flag (R.ADC_CTRL_EN n) = true ∧ s.channelNamed n = true) →
        t.flag (R.ADC_CTRL_EN n) = false ∧ t.f (R.ADC_STATUS_RESULT n) = stOk ∧ t.flag (R.ADC_STATUS_STEP n) = false ∧
        (s.flag (R.ADC_STATUS_STEP n) = true →
          t.f (R.ADC_CAL_SKIP n) = min (s.f (R.ADC_CAL_SKIP n) + 1) (2 ^ 32 - 1) ∧
          (t.adcN n).slots = (s.adcN n).returned) ∧
        (s.flag (R.ADC_STATUS_STEP n) = false → t.adc = s.adc ∧ t.f (R.ADC_CAL_SKIP n) = s.f (R.ADC_CAL_SKIP n))) ∧
      FieldsKept [⟨0x41000 + 0x1000 * n, 0, 32⟩, R.ADC_STATUS_RESULT n, R.ADC_STATUS_STEP n, R.ADC_STATUS_HELD n,
        R.ADC_STATUS_SPARE_SLOT n, R.ADC_CAL_SKIP n] s t ∧
      t = { s with regs := t.regs, sets := t.sets, adc := t.adc, pwr := { s.pwr with lastUse := t.pwr.lastUse } } := by
  obtain ⟨u, written, hexec⟩ := adcCtrl_written pf n v hopen
  have result := ConvOnly.setF (side := .input) (n := n) u R.ADC_STATUS_RESULT stOk
  have hold : bitOf (s.word (0x41000 + 0x1000 * n)).toNat 0 = s.flag (R.ADC_CTRL_EN n) := by
    rw [State.flag, R.ADC_CTRL_EN, State.f_wordField _ _ _ _ (by decide), bitOf_eq_bitsOf]
  cases hen : bitOf v.toNat 0 with
  | true =>
    rw [adcCtrlWritten_enables hrun hen] at hexec
    obtain ⟨hkept, heq⟩ := written.frame result
    refine ⟨_, congrArg Host.Outcome.next hexec, fun _ => ⟨?_, State.f_setF_self .., (State.setF_adc ..).trans written.adc⟩, nofun, nofun,
      hkept.mono (by simp), heq⟩
    exact (written.accepted 0 (by decide)).trans hen
  | false =>
    by_cases hnamed : s.flag (R.ADC_CTRL_EN n) = true ∧ s.channelNamed n = true
    · rw [adcCtrlWritten_refuses hrun hen (hold.trans hnamed.1) ((written.channelNamed n.isLt).trans hnamed.2)] at hexec
      have refused := ConvOnly.setF (side := .input) (n := n) (u.setB (R.ADC_CTRL_EN n) true) R.ADC_STATUS_RESULT stRefusedBusy
      have back : ConvOnly .input n [R.ADC_CTRL] u (u.setB (R.ADC_CTRL_EN n) true) :=
        .regs (by rw [State.setB_eq]) ((FieldsKept.setB u _ true).of_word rfl (adcEn_word n) ⟨rfl, rfl⟩)
      obtain ⟨hkept, heq⟩ := written.frame (back.trans refused)
      refine ⟨_, congrArg Host.Outcome.next hexec, nofun, fun _ _ => ⟨?_, State.f_setF_self .., ?_⟩, fun _ h => absurd hnamed h, ?_, heq⟩
      · exact (refused.flag_eq R.ADC_CTRL_EN).trans (State.flag_setB_self _ (R.ADC_CTRL_EN n) true Nat.one_pos)
      · rw [State.setF_adc, State.setB_adc, written.adc]
      · exact hkept.mono (by simp [R.ADC_CTRL])
    · rw [adcCtrlWritten_disables hrun hen (by rw [hold, written.channelNamed n.isLt]; exact hnamed)] at hexec
      obtain ⟨only, hoff, hok, hstep, hskipped, hidle⟩ := adcDisabled_spec written hundo hwait
      obtain ⟨hkept, heq⟩ := written.frame only
      exact ⟨_, congrArg Host.Outcome.next hexec, nofun, fun _ h => absurd h hnamed,
        fun _ _ => ⟨hoff.trans hen, hok, hstep, hskipped, hidle⟩, hkept.mono (by simp [killFlds]), heq⟩

theorem rotHold_ends (pf : Fin 2) (n : Fin 8) (v : BitVec 32) {s : State} (hopen : s.Opens pf (0x41000 + 0x1000 * n))
    (hrun : bitOf v.toNat 4 = false) (hen : bitOf v.toNat 0 = true) : Ends (exec (.rotHold pf n v) s) fun t =>
      t.flag (R.ADC_CTRL_ROT_HOLD n) = bitOf v.toNat 3 ∧ t.flag (R.ADC_CTRL_ROT_EN n) = bitOf v.toNat 1 ∧
      FieldsKept [⟨0x41000 + 0x1000 * n, 0, 32⟩, R.ADC_STATUS_RESULT n] s t := by
  obtain ⟨u, written, hexec⟩ := adcCtrl_written pf n v hopen
  rw [adcCtrlWritten_enables hrun hen] at hexec
  exact ⟨_, congrArg Host.Outcome.next hexec, written.accepted 3 (by decide), written.accepted 1 (by decide),
    (written.frame (.setF u R.ADC_STATUS_RESULT stOk)).1⟩

theorem fpRun_ends (pf : Fin 2) (n : Fin 8) (v : BitVec 32) {s : State} (hopen : s.Opens pf (0x41000 + 0x1000 * n))
    (hen : bitOf v.toNat 0 = true) (hfirst : s.flag (R.ADC_STATUS_FIRST n) = false) : Ends (exec (.fpRun pf n v) s) fun t =>
      t.flag (R.ADC_CTRL_FP_RUN n) = true ∧
      (s.flag (R.ADC_STATUS_STEP n) = false → t.flag (R.ADC_STATUS_FIRST n) = true ∧ t.flag (R.ADC_STATUS_SETTLED n) = false) ∧
      (s.flag (R.ADC_STATUS_STEP n) = true → (t.adcN n).fpWait = true ∧ t.flag (R.ADC_STATUS_FIRST n) = false) := by
  have hbit (b : Nat) (hb : b < 32) : bitOf (v ||| BitVec.ofNat 32 (2 ^ 4)).toNat b = (bitOf v.toNat b || decide (4 = b)) := bitOf_withBit v hb
  obtain ⟨u, written, hexec⟩ := adcCtrl_written pf n (v ||| BitVec.ofNat 32 (2 ^ 4)) hopen
  have result := ConvOnly.setF (side := .input) (n := n) u R.ADC_STATUS_RESULT stOk
  have hrun : (u.setF (R.ADC_STATUS_RESULT n) stOk).flag (R.ADC_CTRL_FP_RUN n) = true := by
    rw [result.flag_eq R.ADC_CTRL_FP_RUN, written.run, hbit 4 (by decide)]
    simp
  rw [adcCtrlWritten_runs (by rw [hbit 4 (by decide)]; simp) (by rw [hbit 0 (by decide), hen]; rfl)
    ((written.flag_eq R.ADC_STATUS_FIRST).trans hfirst), written.flag_eq R.ADC_STATUS_STEP] at hexec
  cases hstep : s.flag (R.ADC_STATUS_STEP n) with
  | true =>
    refine ⟨_, congrArg Host.Outcome.next (hexec.trans (if_pos hstep)), ?_, nofun, fun _ => ⟨?_, ?_⟩⟩
    · rw [State.flag_setAdc, hrun]
    · rw [State.adcN_setAdc]
    · rw [State.flag_setAdc, result.flag_eq R.ADC_STATUS_FIRST, written.flag_eq R.ADC_STATUS_FIRST, hfirst]
  | false =>
    obtain ⟨hset, hsettled⟩ := (u.setF (R.ADC_STATUS_RESULT n) stOk).firstPassStart_spec n
    refine ⟨_, congrArg Host.Outcome.next (hexec.trans (if_neg (by simp [hstep]))), ?_, fun _ => ⟨hset, hsettled⟩, nofun⟩
    rw [(ConvOnly.firstPassStart ..).flag_eq R.ADC_CTRL_FP_RUN, hrun]

end Sys2Proof.Machine
end

section
/-!
PROOF. Input channels: what the control cycle and the alignment tick do for every channel, and writes of trims
(spec/03_converters.md, R65, R83, R84 and R99).
-/
namespace Sys2Proof.Machine

/-! ## Operations of several channels or sub-converters in turn -/

section
variable {α : Type} {f : State → α → State} {P Q : State → Prop}

/-- What every operation of a fold keeps, the fold keeps. -/
theorem foldl_keeps {l : List α} (hf : ∀ u, ∀ j ∈ l, P u → P (f u j)) {s : State} (h : P s) : P (l.foldl f s) := by
  induction l generalizing s with
  | nil => exact h
  | cons j l ih => exact ih (fun u i hi => hf u i (List.mem_cons_of_mem _ hi)) (hf s j List.mem_cons_self h)

/-- What one operation of a fold does after those before it have kept what it needs stands at the end, if those after it keep it. -/
theorem foldl_reaches {l : List α} (hl : l.Nodup) {k : α} (hk : k ∈ l) (hbefore : ∀ u, ∀ j ∈ l, j ≠ k → Q u → Q (f u j))
    (hdoes : ∀ u, Q u → P (f u k)) (hafter : ∀ u, ∀ j ∈ l, j ≠ k → P u → P (f u j)) {s : State} (h : Q s) : P (l.foldl f s) := by
  induction l generalizing s with
  | nil => exact absurd hk List.not_mem_nil
  | cons j l ih =>
    obtain ⟨hj, hnd⟩ := List.nodup_cons.mp hl
    rcases List.mem_cons.mp hk with rfl | hmem
    · exact foldl_keeps (fun u i hi hp => hafter u i (List.mem_cons_of_mem _ hi) (fun he => hj (he ▸ hi)) hp) (hdoes s h)
    · have hne : j ≠ k := fun he => hj (he ▸ hmem)
      exact ih hnd hmem (fun u i hi => hbefore u i (List.mem_cons_of_mem _ hi)) (fun u i hi => hafter u i (List.mem_cons_of_mem _ hi))
        (hbefore s j List.mem_cons_self hne h)

end

/-! ## HELD (R83) -/

section
variable {s u : State} {n i : Nat}

/-- An operation of another channel leaves the fields of this one alone. -/
theorem ConvOnly.other_f {side : ConvSide} {xs : List (Nat → Fld)} {t : State} (h : ConvOnly side i xs s t) (hne : i ≠ n) (y : Nat → Fld)
    (hxs : ChannelFlds xs := by intro i; rfl) (hy : ChannelFld y := by intro i; rfl)
    (h0 : ∀ x ∈ (y :: xs).map (fun x => x 0), 0x41000 ≤ x.base ∧ x.base + 4 * x.words ≤ 0x42000 := by decide) :
    t.f (y n) = s.f (y n) := by
  refine h.fields _ fun x hx => ?_
  rw [hxs i] at hx
  obtain ⟨x0, hx0, rfl⟩ := List.mem_map.mp hx
  obtain ⟨hylo, hyhi⟩ := h0 (y 0) List.mem_cons_self
  obtain ⟨hxlo, hxhi⟩ := h0 x0 (List.mem_cons_of_mem _ hx0)
  rw [hy n]
  simp only [Fld.apart, Fld.base, Fld.words, Fld.shift] at hylo hyhi hxlo hxhi ⊢
  omega

theorem ConvOnly.other_flag {side : ConvSide} {xs : List (Nat → Fld)} {t : State} (h : ConvOnly side i xs s t) (hne : i ≠ n)
    (y : Nat → Fld) (hxs : ChannelFlds xs := by intro i; rfl) (hy : ChannelFld y := by intro i; rfl)
    (h0 : ∀ x ∈ (y :: xs).map (fun x => x 0), 0x41000 ≤ x.base ∧ x.base + 4 * x.words ≤ 0x42000 := by decide) :
    t.flag (y n) = s.flag (y n) := State.flag_congr (h.other_f hne y hxs hy h0)

/-- The rotation of a channel is held or stopped, with no step in progress. -/
def State.RotationStill (n : Nat) (s : State) : Prop := s.flag (R.ADC_STATUS_STEP n) = false ∧
  (s.flag (R.ADC_CTRL_ROT_HOLD n) = true ∨ s.flag (R.ADC_CTRL_ROT_EN n) = false)

theorem State.showHeld_still (h : s.RotationStill n) : (s.showHeld n).flag (R.ADC_STATUS_HELD n) = true := by
  obtain ⟨hstep, hrot⟩ := h
  have hshow : s.showHeld n = s.setB (R.ADC_STATUS_HELD n) true := if_pos (by rcases hrot with h | h <;> simp [h, hstep])
  rw [hshow]
  exact State.flag_setB_self _ _ _ Nat.one_pos

theorem State.heldTick_still (hn : n < 8) (h : s.RotationStill n) : s.heldTick.flag (R.ADC_STATUS_HELD n) = true := by
  refine foldl_reaches (P := fun u => u.flag (R.ADC_STATUS_HELD n) = true) (Q := State.RotationStill n) List.nodup_range
    (List.mem_range.mpr hn) (fun u j _ hne hu => ?_) (fun u hu => State.showHeld_still hu) (fun u j _ hne hu => ?_) h
  · have kept := ConvOnly.showHeld u j
    unfold State.RotationStill
    rw [kept.other_flag hne R.ADC_STATUS_STEP, kept.other_flag hne R.ADC_CTRL_ROT_HOLD, kept.other_flag hne R.ADC_CTRL_ROT_EN]
    exact hu
  · exact ((ConvOnly.showHeld u j).other_flag hne R.ADC_STATUS_HELD).trans hu

end

/-! ## Corrections and loopback at the alignment tick (R65, R99) -/

section
variable {s : State} {n : Nat}

/-- An operation that waits for the alignment tick changes its channel alone. -/
theorem State.setAdc_or_waits (s : State) (n : Nat) (a : AdcSt) (c : Bool) : let t := if c then s else s.setAdc n a
    (∀ m, m ≠ n → t.adcN m = s.adcN m) ∧ t = { s with adc := t.adc } := by
  cases c
  · exact ⟨fun m hm => ((ConvOnly.setAdc s n a).others m hm).1, rfl⟩
  · exact ⟨fun _ _ => rfl, rfl⟩

theorem dcorApply_waits (h : s.atTick = false) : dcorApply n s = s := if_pos (by simp [h])

theorem dcorApply_tick (h : s.atTick = true) : dcorApply n s = s.setAdc n { s.adcN n with dcor := s.word (R.ADC_DCOR n).off } :=
  if_neg (by simp [h])

theorem loopbackSwitch_waits (h : s.atTick = false) : loopbackSwitch n s = s := if_pos (by simp [h])

theorem loopbackSwitch_tick (h : s.atTick = true) : loopbackSwitch n s = s.setAdc n { s.adcN n with
    loopEn := s.flag (R.ADC_CTRL_LOOP_EN n), loopSrc := s.f (R.ADC_CTRL_LOOP_SRC n) } := if_neg (by simp [h])

end

/-! ## Trims in force (R84) -/

section
variable {s : State} {n k : Nat}

theorem State.trimsInForce_now (h : (s.adcN n).trimWait = []) :
    s.trimsInForce n k = (s.word (R.ADC_TRIM n k).off, s.word (R.ADC_SKEW n k).off) := by
  unfold State.trimsInForce
  rw [h]
  rfl

/-- At the alignment tick no trims wait, and the registers stand as they were. -/
theorem State.trimTick_spec (hn : n < 8) : (s.trimTick.adcN n).trimWait = [] ∧ s.trimTick.regs = s.regs := by
  have step (u : State) (j : Nat) : (if (u.adcN j).trimWait.isEmpty then u else u.setAdc j { u.adcN j with trimWait := [] }).regs = u.regs := by
    split <;> rfl
  refine ⟨?_, ?_⟩
  · refine foldl_reaches (P := fun u => (u.adcN n).trimWait = []) (Q := fun _ => True) List.nodup_range (List.mem_range.mpr hn)
      (fun _ _ _ _ _ => trivial) (fun u _ => ?_) (fun u j _ hne hu => ?_) trivial
    · split
      next h => exact List.isEmpty_iff.mp h
      next => rw [State.adcN_setAdc]
    · split
      · exact hu
      · rw [((ConvOnly.setAdc u j _).others n hne.symm).1]
        exact hu
  · exact foldl_keeps (P := fun u => u.regs = s.regs) (fun u j _ hu => (step u j).trans hu) rfl

/-- From the alignment tick on the trims in force are those of the registers. -/
theorem State.trimTick_inForce (hn : n < 8) :
    s.trimTick.trimsInForce n k = (s.word (R.ADC_TRIM n k).off, s.word (R.ADC_SKEW n k).off) := by
  obtain ⟨hwait, hregs⟩ := s.trimTick_spec hn
  rw [State.trimsInForce_now hwait, State.word_congr hregs, State.word_congr hregs]

/-- A write of trims that waits keeps in force the words that it is told, or what was in force before it. -/
theorem State.trimsHeld_inForce (s : State) (n k : Nat) (trim skew : BitVec 32) :
    (s.trimsHeld n k trim skew).trimsInForce n k = (((s.adcN n).trimWait.find? (fun p => p.1 == k)).map Prod.snd).getD (trim, skew) := by
  unfold State.trimsHeld
  dsimp only
  split
  next h =>
    obtain ⟨p, hp⟩ := List.find?_isSome.mpr (List.any_eq_true.mp h) |> Option.isSome_iff_exists.mp
    unfold State.trimsInForce
    rw [hp]
    rfl
  next h =>
    have hnone : (s.adcN n).trimWait.find? (fun p => p.1 == k) = none := by
      rw [List.find?_eq_none]
      exact fun p hp hpk => h (List.any_eq_true.mpr ⟨p, hp, hpk⟩)
    unfold State.trimsInForce
    rw [State.adcN_setAdc, hnone]
    simp

end

end Sys2Proof.Machine
end

section
/-!
PROOF. Input channels: writes of the trims of a sub-converter (spec/03_converters.md, R84).
-/
namespace Sys2Proof.Machine

/-! ## Words of trims in the register map -/

/-- A row of the map of 33 words for each of the 8 input channels, whose bits are writable while nothing is pending. -/
structure TrimRow (w : WordSpec) (rwl : Nat) : Prop where
  rw : w.rw = 0
  rwl : w.rwl = rwl
  w1c : w.w1c = 0
  w1s : w.w1s = 0
  half : w.half = 0

theorem trim_spec (n : Fin 8) (k : Fin 33) : ∃ w, wordSpec (0x41100 + 0x1000 * n + 4 * k) = some w ∧ TrimRow w 0x3FFFFFF := by
  have h : ∀ n : Fin 8, ∀ k : Fin 33, wordSpec (0x41100 + 0x1000 * n + 4 * k) =
    some { base := 0x41100, c1 := 8, s1 := 0x1000, c2 := 33, s2 := 0x4, fuse := 0x3FFFFFF, rwl := 0x3FFFFFF, ro := 0x34000000 } := by
    decide +kernel
  exact ⟨_, h n k, rfl, rfl, rfl, rfl, rfl⟩

theorem skew_spec (n : Fin 8) (k : Fin 33) : ∃ w, wordSpec (0x41200 + 0x1000 * n + 4 * k) = some w ∧ TrimRow w 0xFFF := by
  have h : ∀ n : Fin 8, ∀ k : Fin 33, wordSpec (0x41200 + 0x1000 * n + 4 * k) =
    some { base := 0x41200, c1 := 8, s1 := 0x1000, c2 := 33, s2 := 0x4, fuse := 0xFFF, rwl := 0xFFF } := by
    decide +kernel
  exact ⟨_, h n k, rfl, rfl, rfl, rfl, rfl⟩

/-- The word of the trims of a sub-converter, or of its skew. -/
def trimOff (skew : Bool) (n k : Nat) : Nat := (if skew then 0x41200 else 0x41100) + 0x1000 * n + 4 * k

/-- The bits of the word that a host may write. -/
def trimMask (skew : Bool) : Nat := if skew then 0xFFF else 0x3FFFFFF

theorem trimOff_spec (skew : Bool) (n : Fin 8) (k : Fin 33) : ∃ w, wordSpec (trimOff skew n k) = some w ∧ TrimRow w (trimMask skew) := by
  cases skew
  · exact trim_spec n k
  · exact skew_spec n k

/-- The word lies among the trims of its channel. -/
theorem trimOff_bounds (skew : Bool) (n : Nat) {k : Nat} (hk : k < 33) : 0x41100 + 0x1000 * n ≤ trimOff skew n k ∧
    trimOff skew n k < 0x41300 + 0x1000 * n ∧ trimOff skew n k % 4 = 0 := by
  cases skew <;> simp only [trimOff, Bool.false_eq_true, if_true, if_false] <;> omega

section
variable {w : WordSpec} {keep old v : BitVec 32}

/-- A word written with the value that it has keeps it. -/
theorem mergeWord_same {rwl : Nat} (h : TrimRow w rwl) : mergeWord w 0 keep old old = old := by
  refine BitVec.eq_of_getLsbD_eq fun b hb => ?_
  cases hw : bitOf (w.rw ||| w.rwl) b with
  | true => exact getLsbD_mergeWord_writable hb hw
  | false => exact getLsbD_mergeWord_kept hb (by rw [h.w1c, h.w1s, Nat.or_zero, Nat.or_zero]; exact hw)

/-- No bit of a field that a mask leaves out. -/
theorem bitOf_of_empty {m lo wd b : Nat} (h : bitsOf m lo wd = 0) (h1 : lo ≤ b) (h2 : b < lo + wd) : bitOf m b = false := by
  have hbit := congrArg (fun k => k.testBit (b - lo)) h
  have hin : b - lo < wd := by omega
  simp only [bitsOf, Nat.testBit_mod_two_pow, Nat.testBit_div_two_pow, Nat.zero_testBit, Nat.sub_add_cancel h1, decide_eq_true hin,
    Bool.true_and] at hbit
  rw [bitOf_eq_testBit, hbit]

/-- A field that the host may not write reads as before. -/
theorem State.f_unwritten {s u : State} {off lo wd : Nat} (hword : u.word off = mergeWord w 0 keep (s.word off) v)
    (h : lo + wd ≤ 32 ∧ (⟨0, lo, wd⟩ : Fld).words = 1) (hw : bitsOf (w.rw ||| w.rwl ||| w.w1c ||| w.w1s) lo wd = 0) :
    u.f ⟨off, lo, wd⟩ = s.f ⟨off, lo, wd⟩ := by
  obtain ⟨hin, hone⟩ := h
  have hlo : lo < 32 := by simp only [Fld.words] at hone; omega
  rw [State.f_wordField _ _ _ _ ⟨hlo, hone⟩, State.f_wordField _ _ _ _ ⟨hlo, hone⟩, hword]
  exact bitsOf_congr fun b h1 h2 => getLsbD_mergeWord_kept (by omega) (bitOf_of_empty hw h1 h2)

end

/-! ## The further effect of the write -/

section
variable {s u : State} {n k : Nat}

theorem State.trimsInForce_eq (s : State) (n k : Nat) : s.trimsInForce n k =
    (((s.adcN n).trimWait.find? (fun p => p.1 == k)).map Prod.snd).getD (s.word (R.ADC_TRIM n k).off, s.word (R.ADC_SKEW n k).off) := by
  unfold State.trimsInForce
  cases (s.adcN n).trimWait.find? (fun p => p.1 == k) <;> rfl

theorem trimWritten_trim (hk : k < 33) (old v : Nat) : trimWritten n (0x41100 + 0x1000 * n + 4 * k) old v u =
    if old == v then u else u.trimsHeld n k (BitVec.ofNat 32 old) (u.word (R.ADC_SKEW n k).off) := by
  have hoff : (0x41100 + 0x1000 * n + 4 * k) % 0x1000 = 0x100 + 4 * k := by omega
  have hidx : (0x100 + 4 * k - 0x100) / 4 = k := by omega
  have hskew : decide (0x200 ≤ 0x100 + 4 * k) = false := decide_eq_false (by omega)
  unfold trimWritten
  simp only [hoff, hskew, hidx, Bool.false_eq_true, if_false]
  by_cases h : old == v
  · simp [h]
  · simp [h, hk]

theorem trimWritten_skew (hk : k < 33) (old v : Nat) : trimWritten n (0x41200 + 0x1000 * n + 4 * k) old v u =
    if old == v then u else u.trimsHeld n k (u.word (R.ADC_TRIM n k).off) (BitVec.ofNat 32 old) := by
  have hoff : (0x41200 + 0x1000 * n + 4 * k) % 0x1000 = 0x200 + 4 * k := by omega
  have hidx : (0x200 + 4 * k - 0x200) / 4 = k := by omega
  have hskew : decide (0x200 ≤ 0x200 + 4 * k) = true := decide_eq_true (by omega)
  unfold trimWritten
  simp only [hoff, hskew, hidx, if_true]
  by_cases h : old == v
  · simp [h]
  · simp [h, hk]

/-- The words in force that a write of trims that waits is told: the one that it changes as it was, and the other one. -/
theorem trimWritten_eq (skew : Bool) (hk : k < 33) (old v : Nat) : trimWritten n (trimOff skew n k) old v u =
    if old == v then u
    else u.trimsHeld n k (if skew then u.word (R.ADC_TRIM n k).off else BitVec.ofNat 32 old)
      (if skew then BitVec.ofNat 32 old else u.word (R.ADC_SKEW n k).off) := by
  cases skew
  · exact trimWritten_trim hk old v
  · exact trimWritten_skew hk old v

theorem State.trimsHeld_regs (s : State) (n k : Nat) (trim skew : BitVec 32) : (s.trimsHeld n k trim skew).regs = s.regs := by
  unfold State.trimsHeld
  dsimp only
  split <;> rfl

/-- What holds of a write of trims: its word alone has changed, and what is in force has not. -/
structure TrimsWritten (off n k : Nat) (s u t : State) : Prop where
  regs : t.regs = u.regs
  words : WordsKept (fun o => o = off) s t
  force : t.trimsInForce n k = s.trimsInForce n k

theorem WordWritten.adcN {off : Nat} (h : WordWritten off s u) (m : Nat) : u.adcN m = s.adcN m := by
  rw [h.eq]
  rfl

/-- Trims whose words read as before are in force as before. -/
theorem WordWritten.force_same {off : Nat} (h : WordWritten off s u) (hsame : u.word off = s.word off) :
    u.trimsInForce n k = s.trimsInForce n k := by
  have word (a : Nat) : u.word a = s.word a := by
    by_cases ha : a = off
    · rw [ha, hsame]
    · exact h.words a ha
  rw [State.trimsInForce_eq, State.trimsInForce_eq, h.adcN, word, word]

/-- Trims that wait leave in force what was. -/
theorem WordWritten.force_held {off : Nat} (h : WordWritten off s u) {trim skew : BitVec 32}
    (htrim : trim = s.word (R.ADC_TRIM n k).off) (hskew : skew = s.word (R.ADC_SKEW n k).off) :
    (u.trimsHeld n k trim skew).trimsInForce n k = s.trimsInForce n k := by
  rw [State.trimsHeld_inForce, State.trimsInForce_eq, h.adcN, htrim, hskew]

end

/-- A write of the trims or the skew of a sub-converter that meets no refusal. -/
theorem trimWrite_written (pf : Fin 2) (n : Fin 8) (k : Fin 33) (skew : Bool) (v : BitVec 32) {s : State}
    (h : s.Opens pf (trimOff skew n k)) : ∃ u t w keep, TrimRow w (trimMask skew) ∧
      u.word (trimOff skew n k) = mergeWord w 0 keep (s.word (trimOff skew n k)) v ∧
      TrimsWritten (trimOff skew n k) n k s u t ∧ exec (.trimWrite pf n k skew v) s = .next t := by
  obtain ⟨hlo, hhi, hal⟩ := trimOff_bounds skew n k.isLt
  obtain ⟨w, hw, row⟩ := trimOff_spec skew n k
  obtain ⟨u, written, hword, hwrite⟩ := hostWrite_converter (by omega) (by omega) hal hw row.half h v
  have hconv (old new : Nat) : u.wroteConv (trimOff skew n k) old new = trimWritten n (trimOff skew n k) old new u := by
    have hn : trimOff skew n k / 0x1000 % 16 - 1 = n := by omega
    unfold State.wroteConv
    rw [if_pos (by omega), if_neg (by omega), if_neg (by simp; omega), if_pos (by simp; omega), hn]
  rw [hconv, trimWritten_eq skew k.isLt] at hwrite
  refine ⟨u, _, w, _, row, hword, ?_, congrArg Host.Outcome.next hwrite⟩
  split
  next hsame =>
    have hv : v = s.word (trimOff skew n k) := (BitVec.eq_of_toNat_eq (beq_iff_eq.mp hsame)).symm
    exact ⟨rfl, written.words, written.force_same (by rw [hword, hv, mergeWord_same row])⟩
  next =>
    refine ⟨State.trimsHeld_regs .., written.words.trans (.of_regs (State.trimsHeld_regs ..)), ?_⟩
    rw [BitVec.ofNat_toNat, BitVec.setWidth_eq]
    cases skew
    · exact written.force_held rfl (written.words _ (by simp only [R.ADC_SKEW, trimOff, Bool.false_eq_true, if_false]; omega))
    · exact written.force_held (written.words _ (by simp only [R.ADC_TRIM, trimOff, if_true]; omega)) rfl

end Sys2Proof.Machine
end

section
/-!
PROOF. Input channels: the end of a first pass, and CAL_SWEEP, which starts the first passes of several channels
(spec/03_converters.md, R70, R75, R78 and R85 to R87).
-/
namespace Sys2Proof.Machine

/-- An operation of a channel after others of the same side. -/
theorem ConvOnly.frame_trans {side : ConvSide} {n : Nat} {xs : List (Nat → Fld)} {s t u : State} (h : ConvOnly side n xs u t)
    (hu : u = side.frame s u) : t = side.frame s t := by
  refine h.eq.trans ?_
  rw [hu]
  cases side <;> rfl

/-! ## One sub-converter at the end of a first pass (R86) -/

section
variable {s u : State} {n j k : Nat} {tries : List (TrimSet × TrimSet)} {m : TrimSet}

theorem State.firstPassOne_some (h : firstAgree tries = some m) :
    s.firstPassOne n k tries = (s.setTrims n k m).setF (R.ADC_TRIM_ABRUN n k) 0 := by
  unfold State.firstPassOne
  rw [h]

theorem State.firstPassOne_none (h : firstAgree tries = none) :
    s.firstPassOne n k tries = (s.factoryTrims n k).setB (R.ADC_STATUS_FP_REJ n) true := by
  unfold State.firstPassOne
  rw [h]

theorem FieldsKept.setWord (s : State) (x : Fld) (w : BitVec 32) (hx : x.lo = 0 ∧ x.wd = 32) : FieldsKept [x] s (s.setWord x.off w) := by
  obtain ⟨hlo, hwd⟩ := hx
  refine .of_wordsKept (by rw [hlo]) (by rw [hwd]) (.setWord s w ?_)
  simp only [Fld.base, Fld.words, hlo, hwd]
  omega

theorem TrimOnly.setTrimWord (s : State) (w : BitVec 32) : TrimOnly n k s (s.setWord (R.ADC_TRIM n k).off w) :=
  .regs rfl ((FieldsKept.setWord s (R.ADC_TRIM n k) w ⟨rfl, rfl⟩).mono (by simp))

theorem TrimOnly.setSkewWord (s : State) (w : BitVec 32) : TrimOnly n k s (s.setWord (R.ADC_SKEW n k).off w) :=
  .regs rfl ((FieldsKept.setWord s (R.ADC_SKEW n k) w ⟨rfl, rfl⟩).mono (by simp))

theorem TrimOnly.factoryTrims (s : State) (n k : Nat) : TrimOnly n k s (s.factoryTrims n k) :=
  (((TrimOnly.setTrimWord s _).trans (.trimF _ 28 2 _ (by decide))).trans (.trimF _ 26 1 _ (by decide))).trans (.setSkewWord ..)

theorem State.f_setWord (s : State) (off lo wd : Nat) (x : BitVec 32) (h : lo < 32 ∧ (⟨0, lo, wd⟩ : Fld).words = 1) :
    (s.setWord off x).f ⟨off, lo, wd⟩ = bitsOf x.toNat lo wd := by
  rw [State.f_wordField _ _ _ _ h, State.word_setWord, if_pos rfl]

/-- The factory trims come from the reset value of their word. -/
theorem State.factoryTrims_ofs (s : State) (n k : Nat) :
    (s.factoryTrims n k).f (R.ADC_TRIM_OFS n k) = bitsOf (resetWord (R.ADC_TRIM n k).off).toNat 0 10 := by
  have past (t : State) (w : BitVec 32) : (t.setWord (R.ADC_SKEW n k).off w).f (R.ADC_TRIM_OFS n k) = t.f (R.ADC_TRIM_OFS n k) := by
    refine (FieldsKept.setWord t (R.ADC_SKEW n k) w ⟨rfl, rfl⟩) _ fun x hx => ?_
    rw [List.mem_singleton.mp hx]
    refine .inr (.inl ?_)
    simp only [R.ADC_SKEW, R.ADC_TRIM_OFS, Fld.base, Fld.words]
    omega
  calc _ = _ := past _ _
    _ = _ := State.f_setF_sameWord _ _ (by unfold Fld.apart; decide)
    _ = _ := State.f_setF_sameWord _ _ (by unfold Fld.apart; decide)
    _ = _ := State.f_setWord _ _ 0 10 _ (by decide)
    _ = _ := by rw [BitVec.ofNat_toNat, BitVec.setWidth_eq]

/-- What one sub-converter takes at the end of a first pass: its trims alone, and the flag of a rejection. -/
theorem ConvOnly.firstPassOne (s : State) (n k : Nat) (tries : List (TrimSet × TrimSet)) : ConvOnly .input n
    [fun i => R.ADC_TRIM i k, fun i => R.ADC_SKEW i k, R.ADC_STATUS_FP_REJ] s (s.firstPassOne n k tries) := by
  cases h : firstAgree tries with
  | some m =>
    rw [State.firstPassOne_some h]
    exact ((TrimOnly.setTrims s n k m).trans (.trimF _ 28 2 0 (by decide))).mono (by simp)
  | none =>
    rw [State.firstPassOne_none h]
    exact ConvOnly.trans (TrimOnly.factoryTrims s n k) (.setB _ R.ADC_STATUS_FP_REJ true)

/-- The control, status and counters of the channel read as before, apart from the flag of a rejection. -/
theorem State.firstPassOne_head (hk : k ≤ 32) (y : Nat → Fld) (hy : ChannelFld y := by intro i; rfl)
    (h0 : (y 0).base + 4 * (y 0).words ≤ 0x41100 ∧ (R.ADC_STATUS_FP_REJ 0).apart (y 0) := by unfold Fld.apart; decide) :
    (s.firstPassOne n k tries).f (y n) = s.f (y n) := by
  obtain ⟨hend, hapart⟩ := h0
  cases h : firstAgree tries with
  | some m =>
    rw [State.firstPassOne_some h]
    exact TrimOnly.head_eq ((TrimOnly.setTrims s n k m).trans (.trimF _ 28 2 0 (by decide))) hk y hy hend
  | none =>
    rw [State.firstPassOne_none h]
    refine ((ConvOnly.setB (side := .input) _ R.ADC_STATUS_FP_REJ true).f_eq y (fun _ => rfl) hy ?_).trans
      ((TrimOnly.factoryTrims s n k).head_eq hk y hy hend)
    exact fun x hx => by rw [List.mem_singleton.mp hx]; exact hapart

/-- The trim word of any other sub-converter reads as before. -/
theorem State.firstPassOne_other (hj : j ≤ 32) (hk : k ≤ 32) (hne : j ≠ k) {lo wd : Nat} (h : (⟨0, lo, wd⟩ : Fld).words = 1 ∧ lo < 32) :
    (s.firstPassOne n j tries).f ⟨0x41100 + 0x1000 * n + 4 * k, lo, wd⟩ = s.f ⟨0x41100 + 0x1000 * n + 4 * k, lo, wd⟩ := by
  refine (ConvOnly.firstPassOne s n j tries).fields _ fun x hx => ?_
  simp only [List.map_cons, List.map_nil, List.mem_cons, List.not_mem_nil, or_false] at hx
  rcases hx with rfl | rfl | rfl <;>
    (simp only [Fld.apart, Fld.base, Fld.words, R.ADC_TRIM, R.ADC_SKEW, R.ADC_STATUS_FP_REJ] at h ⊢; omega)

/-- The trims of a first pass whose measurements agree. -/
theorem State.firstPassOne_agrees (h : firstAgree tries = some m) :
    (s.firstPassOne n k tries).f (R.ADC_TRIM_OFS n k) = wrapInt 10 m.ofs ∧
    (s.firstPassOne n k tries).f (R.ADC_TRIM_GAIN n k) = wrapInt 10 m.gain ∧ (s.firstPassOne n k tries).f (R.ADC_TRIM_ABRUN n k) = 0 := by
  obtain ⟨hofs, hgain, -, -⟩ := s.setTrims_spec n k m
  rw [State.firstPassOne_some h]
  exact ⟨(State.f_setF_sameWord _ _ (by unfold Fld.apart; decide)).trans hofs,
    (State.f_setF_sameWord _ _ (by unfold Fld.apart; decide)).trans hgain, State.f_setF_self ..⟩

/-- The factory trims of a first pass whose measurements never agree. -/
theorem State.firstPassOne_rejects (hk : k ≤ 32) (h : firstAgree tries = none) :
    (s.firstPassOne n k tries).f (R.ADC_TRIM_OFS n k) = bitsOf (resetWord (R.ADC_TRIM n k).off).toNat 0 10 ∧
    (s.firstPassOne n k tries).flag (R.ADC_STATUS_FP_REJ n) = true := by
  rw [State.firstPassOne_none h]
  refine ⟨?_, State.flag_setB_self _ _ _ Nat.one_pos⟩
  have ofs : TrimFld n (R.ADC_TRIM_OFS n k) := trimFld_trim hk (by decide)
  exact ((ConvOnly.setB _ R.ADC_STATUS_FP_REJ true).trim_eq ofs).trans (State.factoryTrims_ofs s n k)

/-- A rejection that shows stays shown. -/
theorem State.firstPassOne_rej (hk : k ≤ 32) (h : s.flag (R.ADC_STATUS_FP_REJ n) = true) :
    (s.firstPassOne n k tries).flag (R.ADC_STATUS_FP_REJ n) = true := by
  cases hm : firstAgree tries with
  | some m =>
    rw [State.firstPassOne_some hm]
    have trims := TrimOnly.trans (TrimOnly.setTrims s n k m) (.trimF _ 28 2 0 (by decide))
    exact (State.flag_congr (trims.head_eq hk R.ADC_STATUS_FP_REJ)).trans h
  | none =>
    rw [State.firstPassOne_none hm]
    exact State.flag_setB_self _ _ _ Nat.one_pos

end

/-! ## All sub-converters of a channel (R86) -/

section
variable {s : State} {n k : Nat} {res : List (List (TrimSet × TrimSet))}

/-- The sub-converters that a first pass measures: those that are not retired. -/
def State.passMeasured (s : State) (n : Nat) : List Nat := (List.range 33).filter (fun k => !s.flag (R.ADC_TRIM_RET n k))

/-- The state with every measured sub-converter given its trims. -/
def State.firstPassAll (s : State) (n : Nat) (res : List (List (TrimSet × TrimSet))) : State :=
  (s.passMeasured n).foldl (fun (t : State) k => t.firstPassOne n k ((res[k]?).getD [])) s

theorem State.passMeasured_le (h : k ∈ s.passMeasured n) : k ≤ 32 := Nat.lt_succ_iff.mp (List.mem_range.mp (List.mem_filter.mp h).1)

theorem State.passMeasured_nodup (s : State) (n : Nat) : (s.passMeasured n).Nodup := List.nodup_range.filter _

theorem State.mem_passMeasured (hk : k ≤ 32) (h : s.flag (R.ADC_TRIM_RET n k) = false) : k ∈ s.passMeasured n :=
  List.mem_filter.mpr ⟨List.mem_range.mpr (Nat.lt_succ_of_le hk), by rw [h]; rfl⟩

theorem State.firstPassAll_eq (s : State) (n : Nat) (res : List (List (TrimSet × TrimSet))) :
    s.firstPassAll n res = ConvSide.input.frame s (s.firstPassAll n res) :=
  foldl_keeps (P := fun u => u = ConvSide.input.frame s u)
    (fun u k _ hu => (ConvOnly.firstPassOne u n k _).frame_trans hu) rfl

theorem State.firstPassAll_head (y : Nat → Fld) (hy : ChannelFld y := by intro i; rfl)
    (h0 : (y 0).base + 4 * (y 0).words ≤ 0x41100 ∧ (R.ADC_STATUS_FP_REJ 0).apart (y 0) := by unfold Fld.apart; decide) :
    (s.firstPassAll n res).f (y n) = s.f (y n) :=
  foldl_keeps (P := fun u => u.f (y n) = s.f (y n))
    (fun _ _ hk hu => (State.firstPassOne_head (State.passMeasured_le hk) y hy h0).trans hu) rfl

theorem State.firstPassAll_agrees {m : TrimSet} (hk : k ≤ 32) (hret : s.flag (R.ADC_TRIM_RET n k) = false)
    (h : firstAgree ((res[k]?).getD []) = some m) : (s.firstPassAll n res).f (R.ADC_TRIM_OFS n k) = wrapInt 10 m.ofs ∧
    (s.firstPassAll n res).f (R.ADC_TRIM_GAIN n k) = wrapInt 10 m.gain ∧ (s.firstPassAll n res).f (R.ADC_TRIM_ABRUN n k) = 0 := by
  refine foldl_reaches (P := fun u => u.f (R.ADC_TRIM_OFS n k) = wrapInt 10 m.ofs ∧ u.f (R.ADC_TRIM_GAIN n k) = wrapInt 10 m.gain ∧
      u.f (R.ADC_TRIM_ABRUN n k) = 0) (Q := fun _ => True) (s.passMeasured_nodup n) (State.mem_passMeasured hk hret) (fun _ _ _ _ _ => trivial)
    (fun u _ => State.firstPassOne_agrees h) (fun u j hj hne hu => ?_) trivial
  have other {lo wd : Nat} (hx : (⟨0, lo, wd⟩ : Fld).words = 1 ∧ lo < 32) :=
    State.firstPassOne_other (s := u) (n := n) (tries := (res[j]?).getD []) (State.passMeasured_le hj) hk hne hx
  obtain ⟨hofs, hgain, habrun⟩ := hu
  exact ⟨(other (by decide)).trans hofs, (other (by decide)).trans hgain, (other (by decide)).trans habrun⟩

theorem State.firstPassAll_rejects (hk : k ≤ 32) (hret : s.flag (R.ADC_TRIM_RET n k) = false)
    (h : firstAgree ((res[k]?).getD []) = none) :
    (s.firstPassAll n res).f (R.ADC_TRIM_OFS n k) = bitsOf (resetWord (R.ADC_TRIM n k).off).toNat 0 10 ∧
    (s.firstPassAll n res).flag (R.ADC_STATUS_FP_REJ n) = true := by
  refine foldl_reaches (P := fun u => u.f (R.ADC_TRIM_OFS n k) = bitsOf (resetWord (R.ADC_TRIM n k).off).toNat 0 10 ∧
      u.flag (R.ADC_STATUS_FP_REJ n) = true) (Q := fun _ => True) (s.passMeasured_nodup n) (State.mem_passMeasured hk hret)
    (fun _ _ _ _ _ => trivial) (fun u _ => State.firstPassOne_rejects hk h) (fun u j hj hne hu => ?_) trivial
  obtain ⟨hofs, hrej⟩ := hu
  exact ⟨(State.firstPassOne_other (State.passMeasured_le hj) hk hne (by decide)).trans hofs,
    State.firstPassOne_rej (State.passMeasured_le hj) hrej⟩

/-- A word read as a field. -/
theorem State.f_whole (s : State) (off : Nat) : s.f ⟨off, 0, 32⟩ = (s.word off).toNat := by
  rw [State.f_wordField _ _ _ _ (by decide)]
  have h := (s.word off).isLt
  simp only [bitsOf]
  omega

theorem State.firstPassAll_retired (hk : k ≤ 32) (hret : s.flag (R.ADC_TRIM_RET n k) = true) :
    (s.firstPassAll n res).f (R.ADC_TRIM n k) = s.f (R.ADC_TRIM n k) := by
  refine foldl_keeps (P := fun u => u.f (R.ADC_TRIM n k) = s.f (R.ADC_TRIM n k)) (fun u j hj hu => ?_) rfl
  have hne : j ≠ k := by
    rintro rfl
    have := (List.mem_filter.mp hj).2
    simp [hret] at this
  exact (State.firstPassOne_other (State.passMeasured_le hj) hk hne (by decide)).trans hu

/-! ## The channel at the end of its first pass (R85 to R87) -/

/-- The state with the first pass over: settled, the rotation from slot 0. -/
def State.firstPassOver (s : State) (n : Nat) : State :=
  let s2 := ((s.setB (R.ADC_STATUS_FIRST n) false).setB (R.ADC_STATUS_SETTLED n) true).setB (R.ADC_CTRL_FP_RUN n) false
  s2.setAdc n { s2.adcN n with nextStep := 0, phase := .idle }

theorem ConvOnly.firstPassOver (s : State) (n : Nat) :
    ConvOnly .input n [R.ADC_STATUS_FIRST, R.ADC_STATUS_SETTLED, R.ADC_CTRL_FP_RUN] s (s.firstPassOver n) :=
  (((ConvOnly.setB s R.ADC_STATUS_FIRST false).trans (.setB _ R.ADC_STATUS_SETTLED true)).trans (.setB _ R.ADC_CTRL_FP_RUN false)).trans
    (.setAdc ..)

theorem State.firstPassOver_spec (s : State) (n : Nat) : (s.firstPassOver n).flag (R.ADC_STATUS_FIRST n) = false ∧
    (s.firstPassOver n).flag (R.ADC_STATUS_SETTLED n) = true ∧ (s.firstPassOver n).flag (R.ADC_CTRL_FP_RUN n) = false ∧
    ((s.firstPassOver n).adcN n).nextStep = 0 := by
  have run (u : State) : ConvOnly .input n [R.ADC_CTRL_FP_RUN] u (u.setB (R.ADC_CTRL_FP_RUN n) false) := .setB u R.ADC_CTRL_FP_RUN false
  have settled (u : State) : ConvOnly .input n [R.ADC_STATUS_SETTLED] u (u.setB (R.ADC_STATUS_SETTLED n) true) :=
    .setB u R.ADC_STATUS_SETTLED true
  refine ⟨?_, ?_, ?_, congrArg AdcSt.nextStep (State.adcN_setAdc ..)⟩ <;> rw [State.firstPassOver, State.flag_setAdc]
  · rw [(run _).flag_eq R.ADC_STATUS_FIRST, (settled _).flag_eq R.ADC_STATUS_FIRST]
    exact State.flag_setB_self _ _ _ Nat.one_pos
  · rw [(run _).flag_eq R.ADC_STATUS_SETTLED]
    exact State.flag_setB_self _ _ _ Nat.one_pos
  · exact State.flag_setB_self _ _ _ Nat.one_pos

/-- The end of a first pass, and after it the end of a CAL_SWEEP that waited for it alone. -/
theorem firstPassDone_rings (h : s.flag (R.ADC_STATUS_FIRST n) = true) :
    RingsOnly ((s.firstPassAll n res).firstPassOver n) (firstPassDone n res s) ∧
    (((s.firstPassAll n res).firstPassOver n).longOf 0x20 = none → firstPassDone n res s = (s.firstPassAll n res).firstPassOver n) := by
  unfold firstPassDone
  rw [if_neg (by simp [h])]
  dsimp only
  split
  next => exact ⟨.refl _, fun _ => rfl⟩
  next c hc =>
    refine ⟨.ite (.refl _) (.finishLong ..), fun hnone => ?_⟩
    have hsome : ((s.firstPassAll n res).firstPassOver n).longOf 0x20 = some c := hc
    rw [hnone] at hsome
    exact nomatch hsome

end

end Sys2Proof.Machine
end

section
/-!
PROOF. Input channels: CAL_SWEEP over several channels, and the control of a channel as a whole (spec/03_converters.md, R69, R74, R83 to
R87, R99 and R603).
-/
namespace Sys2Proof.Machine

/-! ## CAL_SWEEP (R85, R436) -/

section
variable {s u : State} {n j k mask : Nat}

/-- CAL_SWEEP at one of its channels: the first pass starts, or waits for the step in progress. -/
def State.sweepOne (s : State) (n : Nat) : State :=
  let t1 := s.setB (R.ADC_CTRL_FP_RUN n) true
  if t1.flag (R.ADC_STATUS_FIRST n) then t1
  else if t1.flag (R.ADC_STATUS_STEP n) then t1.setAdc n { t1.adcN n with fpWait := true } else t1.firstPassStart n

theorem calSweepStart_eq (hidle : s.longOf 0x20 = none) (hmask : mask ≠ 0) :
    calSweepStart mask s = { st := (setBits 8 mask).foldl State.sweepOne s, kind := 2 } := by
  have hnone : (s.host.longs.any fun c => c.entry.opcode == 0x20 && (c.entry.param 0 &&& mask) != 0) = false := by
    refine List.any_eq_false.mpr fun c hc hsweep => ?_
    have hop := List.find?_eq_none.mp hidle c hc
    obtain ⟨hcode, -⟩ := Bool.and_eq_true_iff.mp hsweep
    exact hop (by rw [beq_iff_eq.mp hcode]; rfl)
  unfold calSweepStart
  rw [if_neg (by rw [hnone]; exact Bool.false_ne_true), if_neg (by simp [hmask])]
  rfl

theorem ConvOnly.sweepOne (s : State) (n : Nat) :
    ConvOnly .input n [R.ADC_CTRL_FP_RUN, R.ADC_STATUS_FIRST, R.ADC_STATUS_SETTLED] s (s.sweepOne n) := by
  have run : ConvOnly .input n [R.ADC_CTRL_FP_RUN] s (s.setB (R.ADC_CTRL_FP_RUN n) true) := .setB s R.ADC_CTRL_FP_RUN true
  unfold State.sweepOne
  dsimp only
  split
  · exact run.mono (by simp)
  split
  · exact (run.trans (.setAdc ..)).mono (by simp)
  · exact run.trans (.firstPassStart ..)

/-- What a channel of a CAL_SWEEP comes to, from its flags before. -/
structure Swept (n : Nat) (step first : Bool) (t : State) : Prop where
  run : t.flag (R.ADC_CTRL_FP_RUN n) = true
  starts : step = false → t.flag (R.ADC_STATUS_FIRST n) = true
  waits : step = true → first = false → (t.adcN n).fpWait = true

theorem Swept.sweepOne (s : State) (n : Nat) : Swept n (s.flag (R.ADC_STATUS_STEP n)) (s.flag (R.ADC_STATUS_FIRST n)) (s.sweepOne n) := by
  have run := ConvOnly.setB (side := .input) (n := n) s R.ADC_CTRL_FP_RUN true
  have hrun : (s.setB (R.ADC_CTRL_FP_RUN n) true).flag (R.ADC_CTRL_FP_RUN n) = true := State.flag_setB_self _ _ _ Nat.one_pos
  rw [← run.flag_eq R.ADC_STATUS_STEP, ← run.flag_eq R.ADC_STATUS_FIRST]
  unfold State.sweepOne
  dsimp only
  split
  next hfirst => exact ⟨hrun, fun _ => hfirst, fun _ hno => by rw [hno] at hfirst; exact nomatch hfirst⟩
  split
  next hstep =>
    refine ⟨(State.flag_setAdc ..).trans hrun, fun hno => ?_, fun _ _ => by rw [State.adcN_setAdc]⟩
    rw [hno] at hstep
    exact nomatch hstep
  next hstep =>
    refine ⟨((ConvOnly.firstPassStart _ n).flag_eq R.ADC_CTRL_FP_RUN).trans hrun, fun _ => (State.firstPassStart_spec _ n).1,
      fun hyes => absurd hyes hstep⟩

/-- The sweep of another channel leaves this one alone. -/
theorem Swept.other {step first : Bool} (h : Swept n step first u) (hne : j ≠ n) : Swept n step first (u.sweepOne j) := by
  have kept := ConvOnly.sweepOne u j
  refine ⟨(kept.other_flag hne R.ADC_CTRL_FP_RUN).trans h.run, fun hs => (kept.other_flag hne R.ADC_STATUS_FIRST).trans (h.starts hs),
    fun hs hf => ?_⟩
  rw [(kept.others n hne.symm).1]
  exact h.waits hs hf

theorem Swept.foldl (hn : n < 8) (hbit : bitOf mask n = true) :
    Swept n (s.flag (R.ADC_STATUS_STEP n)) (s.flag (R.ADC_STATUS_FIRST n)) ((setBits 8 mask).foldl State.sweepOne s) := by
  refine foldl_reaches (P := Swept n (s.flag (R.ADC_STATUS_STEP n)) (s.flag (R.ADC_STATUS_FIRST n)))
    (Q := fun u => u.flag (R.ADC_STATUS_STEP n) = s.flag (R.ADC_STATUS_STEP n) ∧
      u.flag (R.ADC_STATUS_FIRST n) = s.flag (R.ADC_STATUS_FIRST n))
    (List.nodup_range.filter _) (List.mem_filter.mpr ⟨List.mem_range.mpr hn, hbit⟩) (fun u j _ hne hu => ?_) (fun u hu => ?_)
    (fun u j _ hne hu => hu.other hne) ⟨rfl, rfl⟩
  · have kept := ConvOnly.sweepOne u j
    exact ⟨(kept.other_flag hne R.ADC_STATUS_STEP).trans hu.1, (kept.other_flag hne R.ADC_STATUS_FIRST).trans hu.2⟩
  · have swept := Swept.sweepOne u n
    rwa [hu.1, hu.2] at swept

theorem sweep_decisionKept (s : State) (l : List Nat) : DecisionKept s (l.foldl State.sweepOne s) :=
  foldl_keeps (P := DecisionKept s) (fun u j _ hu => hu.trans (ConvOnly.sweepOne u j).decisionKept) ⟨rfl, rfl, rfl⟩

/-- Fetching a command changes no long command in progress. -/
theorem State.fetchCmd_longs (s : State) (k : Nat) : (s.fetchCmd k).host.longs = s.host.longs := by
  have skip (m : Nat) (t : State) : (t.skipCancelled k m).host.longs = t.host.longs := by
    induction m generalizing t with
    | zero => rfl
    | succ m ih =>
      unfold State.skipCancelled
      dsimp only
      split
      · rfl
      · rw [ih, State.setF_host]
  rw [State.fetchCmd, skip, State.setF_host]

theorem RingsOnly.adcN {t : State} (h : RingsOnly s t) (m : Nat) : t.adcN m = s.adcN m := by
  obtain ⟨_, _, _, _, rfl⟩ := h.eq
  rfl

/-- A field of an input channel reads as before what the rings write. -/
theorem RingsOnly.channel_eq {t : State} (h : RingsOnly s t) (hn : n < 8) (y : Nat → Fld) (hy : ChannelFld y := by intro i; rfl)
    (h0 : (y 0).base + 4 * (y 0).words ≤ 0x42000 := by decide) : t.f (y n) = s.f (y n) := by
  refine h.f_eq ?_
  rw [hy n]
  simp only [Fld.base, Fld.words, Fld.shift] at h0 ⊢
  omega

theorem RingsOnly.channel_flag {t : State} (h : RingsOnly s t) (hn : n < 8) (y : Nat → Fld) (hy : ChannelFld y := by intro i; rfl)
    (h0 : (y 0).base + 4 * (y 0).words ≤ 0x42000 := by decide) : t.flag (y n) = s.flag (y n) :=
  State.flag_congr (h.channel_eq hn y hy h0)

/-- A field of the trims of an input channel reads as before what the rings write. -/
theorem RingsOnly.trim_eq {t : State} {x : Fld} (h : RingsOnly s t) (hn : n < 8) (hx : TrimFld n x) : t.f x = s.f x := by
  obtain ⟨-, hhi⟩ := hx
  exact h.f_eq (by omega)

end

theorem calSweep_ends (k : Fin 16) (f : Fetch) {s : State} (hs : s.canStart k f.entry true = true) (hc : f.entry.clean [0xFF] = true)
    (hmask : f.entry.param 0 ≠ 0) (hidle : s.longOf 0x20 = none) : Ends (exec (.calSweep k f) s) fun t =>
      (∀ n : Fin 8, bitOf (f.entry.param 0) n = true → Swept n (s.flag (R.ADC_STATUS_STEP n)) (s.flag (R.ADC_STATUS_FIRST n)) t) ∧
      t.mem = s.mem ∧ t.clk = s.clk := by
  have fetched := RingsOnly.fetchCmd s k
  have hlong : (s.fetchCmd k).longOf 0x20 = none := by
    unfold State.longOf
    rw [s.fetchCmd_longs]
    exact hidle
  have rings := startCmd_continues (opcode := 0x20) hs hc (calSweepStart_eq hlong hmask)
  obtain ⟨hmem, hclk, -⟩ := sweep_decisionKept (s.fetchCmd k) (setBits 8 (f.entry.param 0))
  refine ⟨_, rfl, fun n hbit => ?_, (rings.mem.trans hmem).trans fetched.mem, (rings.clk.trans hclk).trans fetched.clk⟩
  have swept := Swept.foldl (s := s.fetchCmd k) n.isLt hbit
  rw [fetched.channel_flag n.isLt R.ADC_STATUS_STEP, fetched.channel_flag n.isLt R.ADC_STATUS_FIRST] at swept
  refine ⟨(rings.channel_flag n.isLt R.ADC_CTRL_FP_RUN).trans swept.run,
    fun h => (rings.channel_flag n.isLt R.ADC_STATUS_FIRST).trans (swept.starts h), fun h hf => ?_⟩
  rw [rings.adcN]
  exact swept.waits h hf

/-! ## The end of a first pass (R85 to R87) -/

theorem firstPassDone_ends (n : Fin 8) (res : List (List (TrimSet × TrimSet))) {s : State} (hrun : s.isRunning (2 + n) = true)
    (hfirst : s.flag (R.ADC_STATUS_FIRST n) = true) : Ends (exec (.firstPassDone n res) s) fun t =>
      t.flag (R.ADC_STATUS_FIRST n) = false ∧ t.flag (R.ADC_STATUS_SETTLED n) = true ∧ t.flag (R.ADC_CTRL_FP_RUN n) = false ∧
      (t.adcN n).nextStep = 0 ∧ t.f (R.ADC_CAL_OK n) = s.f (R.ADC_CAL_OK n) ∧ t.f (R.ADC_CAL_REJ n) = s.f (R.ADC_CAL_REJ n) ∧
      t.f (R.ADC_CAL_ABORT n) = s.f (R.ADC_CAL_ABORT n) ∧ t.f (R.ADC_CAL_SKIP n) = s.f (R.ADC_CAL_SKIP n) ∧
      (∀ (k : Fin 33) (m : TrimSet), s.flag (R.ADC_TRIM_RET n k) = false → firstAgree ((res[k.val]?).getD []) = some m →
        t.f (R.ADC_TRIM_OFS n k) = wrapInt 10 m.ofs ∧ t.f (R.ADC_TRIM_GAIN n k) = wrapInt 10 m.gain ∧ t.f (R.ADC_TRIM_ABRUN n k) = 0) ∧
      (∀ k : Fin 33, s.flag (R.ADC_TRIM_RET n k) = false → firstAgree ((res[k.val]?).getD []) = none →
        t.f (R.ADC_TRIM_OFS n k) = bitsOf (resetWord (R.ADC_TRIM n k).off).toNat 0 10 ∧ t.flag (R.ADC_STATUS_FP_REJ n) = true) ∧
      (∀ k : Fin 33, s.flag (R.ADC_TRIM_RET n k) = true → t.word (R.ADC_TRIM n k).off = s.word (R.ADC_TRIM n k).off) ∧
      (s.longOf 0x20 = none → t = { s with regs := t.regs, sets := t.sets, adc := t.adc }) := by
  have ended := ConvOnly.firstPassOver (s.firstPassAll n res) n
  have hframe := ended.frame_trans (s.firstPassAll_eq n res)
  obtain ⟨rings, hnone⟩ := firstPassDone_rings (res := res) hfirst
  obtain ⟨hover, hsettled, hrunoff, hnext⟩ := (s.firstPassAll n res).firstPassOver_spec n
  have le (k : Fin 33) : k.val ≤ 32 := by omega
  have trim (k : Fin 33) {lo wd : Nat} (h : (⟨0, lo, wd⟩ : Fld).words = 1 ∧ lo < 32) :
      (firstPassDone n res s).f ⟨0x41100 + 0x1000 * n + 4 * k, lo, wd⟩ =
        (s.firstPassAll n res).f ⟨0x41100 + 0x1000 * n + 4 * k, lo, wd⟩ :=
    (rings.trim_eq n.isLt (trimFld_trim (le k) h)).trans (ended.trim_eq (trimFld_trim (le k) h))
  refine ⟨_, congrArg Host.Outcome.next (if_pos hrun), (rings.channel_flag n.isLt R.ADC_STATUS_FIRST).trans hover,
    (rings.channel_flag n.isLt R.ADC_STATUS_SETTLED).trans hsettled, (rings.channel_flag n.isLt R.ADC_CTRL_FP_RUN).trans hrunoff,
    by rw [rings.adcN, hnext], ?_, ?_, ?_, ?_, fun k m hret hm => ?_, fun k hret hm => ?_, fun k hret => ?_, fun hlong => ?_⟩
  · rw [rings.channel_eq n.isLt R.ADC_CAL_OK, ended.f_eq R.ADC_CAL_OK, State.firstPassAll_head R.ADC_CAL_OK]
  · rw [rings.channel_eq n.isLt R.ADC_CAL_REJ, ended.f_eq R.ADC_CAL_REJ, State.firstPassAll_head R.ADC_CAL_REJ]
  · rw [rings.channel_eq n.isLt R.ADC_CAL_ABORT, ended.f_eq R.ADC_CAL_ABORT, State.firstPassAll_head R.ADC_CAL_ABORT]
  · rw [rings.channel_eq n.isLt R.ADC_CAL_SKIP, ended.f_eq R.ADC_CAL_SKIP, State.firstPassAll_head R.ADC_CAL_SKIP]
  · obtain ⟨hofs, hgain, habrun⟩ := State.firstPassAll_agrees (le k) hret hm
    exact ⟨(trim k (by decide)).trans hofs, (trim k (by decide)).trans hgain, (trim k (by decide)).trans habrun⟩
  · obtain ⟨hofs, hrej⟩ := State.firstPassAll_rejects (le k) hret hm
    refine ⟨(trim k (by decide)).trans hofs, ?_⟩
    rw [rings.channel_flag n.isLt R.ADC_STATUS_FP_REJ, ended.flag_eq R.ADC_STATUS_FP_REJ, hrej]
  · refine BitVec.eq_of_toNat_eq ?_
    rw [← State.f_whole, ← State.f_whole]
    exact (trim k (by decide)).trans (State.firstPassAll_retired (le k) hret)
  · have hstill : ((s.firstPassAll n res).firstPassOver n).longOf 0x20 = none := by
      rw [hframe]
      exact hlong
    rw [hnone hstill]
    exact hframe

/-! ## A repeated plausibility window (R74) -/

/-- The state in which a deferred window has been repeated. -/
def State.retried (s : State) (n : Nat) : State :=
  s.setAdc n { s.adcN n with phase := .plaus, attempt := (s.adcN n).attempt + 1 }

theorem plausibilityRetry_eq {s : State} {n : Nat} (h : (s.adcN n).phase = .deferred) (w : List (BitVec 12 × BitVec 12)) :
    plausibilityRetry n w s = (s.retried n).plausDecide n (plausFigure w).1 (plausFigure w).2 := if_pos (by simp [h])

theorem plausibilityDecision_retried (s : State) (n : Nat) (w : List (BitVec 12 × BitVec 12)) :
    plausibilityDecision n w (s.retried n) = (s.retried n).plausDecide n (plausFigure w).1 (plausFigure w).2 :=
  if_pos (by simp [State.retried])

end Sys2Proof.Machine

open Sys2Proof Sys2Proof.Machine

/-- Settles O19, command by command: a write leaves its word and then its effect on the channel; the folds over channels and
sub-converters give each its own. That a sub-converter whose measurements never agree takes its factory trims, and that an accepted
calibration resets ABRUN, is the model's choice (log entry 21), as is what names a channel (log entry 22). -/
theorem channelControl : Obligations.ChannelControl := by
  unfold Obligations.ChannelControl
  refine ⟨fun pf n v s hopen hrun hundo hwait => ?_, fun pf n v s hopen hrun hen => rotHold_ends pf n v hopen hrun hen,
    fun n s hstep hrot => State.heldTick_still n.isLt ⟨hstep, hrot⟩, fun pf n v s hopen hen hfirst => fpRun_ends pf n v hopen hen hfirst,
    fun pf n k v s hopen => ?_, fun pf n k v s hopen => ?_, fun n s hrun => ?_, fun n s hrun => ?_,
    fun n spare outgoing s hrun hph => ⟨?_, fun hatt hfew => ?_⟩, fun n res s hrun hfirst => ?_, fun k f s hs hc hmask hidle => ?_⟩
  · obtain ⟨t, hexec, hon, hrefused, hoff, hkept, heq⟩ := adcEnWrite_ends pf n v hopen hrun hundo hwait
    refine ⟨t, hexec, hon, hrefused, fun h0 hno => ?_, hkept, heq⟩
    obtain ⟨hen, hok, hstep, hskipped, hidle⟩ := hoff h0 hno
    refine ⟨hen, hok, hstep, fun h => ⟨(hskipped h).1, (hskipped h).2.trans ?_⟩, hidle⟩
    exact if_congr beq_iff_eq rfl rfl
  · obtain ⟨u, t, w, keep, row, hword, written, hexec⟩ := trimWrite_written pf n k false v hopen
    have field (x : Fld) : t.f x = u.f x := State.f_congr written.regs x
    have hmask : w.rw ||| w.rwl = 0x3FFFFFF ∧ w.rw ||| w.rwl ||| w.w1c ||| w.w1s = 0x3FFFFFF := by
      rw [row.rw, row.rwl, row.w1c, row.w1s]; decide
    refine ⟨t, hexec, (field _).trans ?_, (field _).trans ?_, (field _).trans ?_, (field _).trans ?_, (field _).trans ?_, written.force,
      State.trimTick_inForce n.isLt, written.words⟩
    · exact State.f_written hword (by decide) (by rw [hmask.1]; decide)
    · exact State.f_written hword (by decide) (by rw [hmask.1]; decide)
    · exact State.f_written hword (by decide) (by rw [hmask.1]; decide)
    · exact State.f_unwritten hword (by decide) (by rw [hmask.2]; decide)
    · exact State.f_unwritten hword (by decide) (by rw [hmask.2]; decide)
  · obtain ⟨u, t, w, keep, row, hword, written, hexec⟩ := trimWrite_written pf n k true v hopen
    refine ⟨t, hexec, (State.f_congr written.regs _).trans (State.f_written hword (by decide) ?_), written.force, written.words⟩
    rw [row.rw, row.rwl]
    decide
  · obtain ⟨hothers, heq⟩ := s.setAdc_or_waits n { s.adcN n with dcor := s.word (R.ADC_DCOR n).off } (!s.atTick)
    refine ⟨_, congrArg Host.Outcome.next (if_pos hrun), fun ht => ?_, fun ht => dcorApply_waits ht, hothers, heq⟩
    rw [dcorApply_tick ht, State.adcN_setAdc]
    rfl
  · obtain ⟨hothers, heq⟩ := s.setAdc_or_waits n { s.adcN n with
      loopEn := s.flag (R.ADC_CTRL_LOOP_EN n), loopSrc := s.f (R.ADC_CTRL_LOOP_SRC n) } (!s.atTick)
    refine ⟨_, congrArg Host.Outcome.next (if_pos hrun), fun ht => ?_, fun ht => loopbackSwitch_waits ht, hothers, heq⟩
    rw [loopbackSwitch_tick ht, State.adcN_setAdc]
    exact ⟨rfl, rfl⟩
  · exact congrArg Host.Outcome.next ((if_pos hrun).trans ((plausibilityRetry_eq hph _).trans
      ((plausibilityDecision_retried s n _).symm.trans (if_pos hrun).symm)))
  · have hadc : (s.retried n).adcN n = { s.adcN n with phase := .plaus, attempt := (s.adcN n).attempt + 1 } := State.adcN_setAdc ..
    have hretry := (plausibilityRetry_eq hph (spare.zip outgoing)).trans
      (State.plausDecide_defers hfew (by rw [hadc]; exact Nat.succ_lt_succ hatt))
    refine ⟨_, congrArg Host.Outcome.next ((if_pos hrun).trans hretry), ?_, ?_, rfl⟩ <;> rw [State.adcN_setAdc]
    rw [hadc]
  · exact firstPassDone_ends n res hrun hfirst
  · obtain ⟨t, hexec, hswept, hmem, hclk⟩ := calSweep_ends k f hs hc hmask hidle
    exact ⟨t, hexec, fun n hbit => ⟨(hswept n hbit).run, (hswept n hbit).starts, (hswept n hbit).waits⟩, hmem, hclk⟩
end

section
/-!
PROOF. Filter chains: the decimation as the product of the CIC's and the FIR's factors (spec/04_filter_chains.md, R111 and R112).
-/
namespace Sys2Proof.Machine

/-- What a search from the top of a range finds is the largest number of the range that has the property. -/
theorem find?_reverse_range {k n : Nat} {p : Nat → Bool} :
    (List.range k).reverse.find? p = some n ↔ n < k ∧ p n = true ∧ ∀ j, n < j → j < k → p j = false := by
  induction k with
  | zero => simp
  | succ k ih =>
    rw [List.range_succ, List.reverse_append, List.reverse_singleton, List.singleton_append, List.find?_cons]
    cases hk : p k with
    | true =>
      refine ⟨fun h => ?_, fun ⟨hn, _, hlast⟩ => ?_⟩
      · obtain rfl := Option.some.inj h
        exact ⟨Nat.lt_succ_self _, hk, fun j h1 h2 => absurd h2 (by omega)⟩
      · by_contra hne
        have hlt : n < k := by
          have : k ≠ n := fun h => hne (congrArg some h)
          omega
        rw [hlast k hlt (Nat.lt_succ_self k)] at hk
        exact nomatch hk
    | false =>
      refine ih.trans ⟨fun ⟨hn, hp, hlast⟩ => ⟨by omega, hp, fun j h1 h2 => ?_⟩, fun ⟨hn, hp, hlast⟩ => ⟨?_, hp, fun j h1 h2 => ?_⟩⟩
      · rcases Nat.lt_succ_iff_lt_or_eq.mp h2 with h2 | rfl
        · exact hlast j h1 h2
        · exact hk
      · have : n ≠ k := by rintro rfl; rw [hp] at hk; exact nomatch hk
        omega
      · exact hlast j h1 (by omega)

/-- The FIR factors among which the automatic choice of R111 searches. -/
def firFits (d n : Nat) : Bool := 1 ≤ n && d % n == 0 && d / n ≤ 65536

theorem firFits_iff {d n : Nat} : firFits d n = true ↔ 1 ≤ n ∧ ∃ m, m * n = d ∧ m ≤ 65536 := by
  simp only [firFits, Bool.and_eq_true, decide_eq_true_eq, beq_iff_eq]
  constructor
  · rintro ⟨⟨hn, hmod⟩, hle⟩
    exact ⟨hn, d / n, Nat.div_mul_cancel (Nat.dvd_of_mod_eq_zero hmod), hle⟩
  · rintro ⟨hn, m, rfl, hle⟩
    exact ⟨⟨hn, Nat.mul_mod_left m n⟩, by rwa [Nat.mul_div_cancel m hn]⟩

theorem factorMN_manual (d a b m n : Nat) :
    factorMN true d a b = some (m, n) ↔ m = a ∧ n = b ∧ 1 ≤ a ∧ a ≤ 65536 ∧ 1 ≤ b ∧ b ≤ 16 := by
  unfold factorMN
  rw [if_pos rfl]
  split
  next h =>
    simp only [Bool.and_eq_true, decide_eq_true_eq] at h
    simp only [Option.some.injEq, Prod.mk.injEq]
    omega
  next h =>
    simp only [Bool.and_eq_true, decide_eq_true_eq] at h
    simp only [reduceCtorEq, false_iff]
    omega

theorem factorMN_outside {d : Nat} (h : ¬ (1 ≤ d ∧ d ≤ 1048576)) (a b : Nat) : factorMN false d a b = none := by
  unfold factorMN
  exact (if_neg Bool.false_ne_true).trans (if_pos (by simp; omega))

/-- Within its limits D factors by the largest divisor that leaves the CIC its part. -/
theorem factorMN_auto {d : Nat} (h : 1 ≤ d ∧ d ≤ 1048576) (a b m n : Nat) : factorMN false d a b = some (m, n) ↔
    (List.range 17).reverse.find? (firFits d) = some n ∧ m = d / n := by
  unfold factorMN
  rw [if_neg Bool.false_ne_true, if_neg (by simp; omega)]
  change (match (List.range 17).reverse.find? (firFits d) with
    | some n => some (d / n, n)
    | none => none) = some (m, n) ↔ _
  cases (List.range 17).reverse.find? (firFits d) with
  | none => simp
  | some k =>
    simp only [Option.some.injEq, Prod.mk.injEq]
    constructor
    · rintro ⟨rfl, rfl⟩
      exact ⟨rfl, rfl⟩
    · rintro ⟨rfl, rfl⟩
      exact ⟨rfl, rfl⟩

end Sys2Proof.Machine

open Sys2Proof Sys2Proof.Machine

/-- Settles O23: the search goes down from 16, so that the first factor which fits is the largest. -/
theorem decimationFactors : Obligations.DecimationFactors := by
  unfold Obligations.DecimationFactors
  refine ⟨fun d a b m n => ?_, factorMN_manual⟩
  by_cases hd : 1 ≤ d ∧ d ≤ 1048576
  · rw [factorMN_auto hd, find?_reverse_range]
    constructor
    · rintro ⟨⟨hn, hfits, hlast⟩, rfl⟩
      obtain ⟨hpos, m, rfl, hle⟩ := firFits_iff.mp hfits
      rw [Nat.mul_div_cancel m hpos]
      refine ⟨hd.1, hd.2, hpos, by omega, rfl, hle, fun n' m' hlt hle' heq => ?_⟩
      by_contra hm
      have hfits' := firFits_iff.mpr ⟨by omega, m', heq, Nat.le_of_not_lt hm⟩
      rw [hlast n' hlt (by omega)] at hfits'
      exact nomatch hfits'
    · rintro ⟨-, -, hpos, hn, rfl, hle, hlast⟩
      refine ⟨⟨by omega, firFits_iff.mpr ⟨hpos, m, rfl, hle⟩, fun j hlt hj => ?_⟩, (Nat.mul_div_cancel m hpos).symm⟩
      rw [← Bool.not_eq_true, firFits_iff]
      rintro ⟨-, m', heq, hm'⟩
      exact absurd (hlast j m' hlt (by omega) heq) (by omega)
  · rw [factorMN_outside hd]
    simp only [reduceCtorEq, false_iff]
    exact fun h => hd ⟨h.1, h.2.1⟩
end

section
/-!
PROOF. Filter chains: what an operation of one chain leaves alone, and how a field of the chain reads past it
(spec/04_filter_chains.md, R125, R126 and R137).
-/
namespace Sys2Proof.Machine

/-! ## Chains and their registers -/

section
variable (s : State) (n : Nat)

theorem State.fchN_congr {s t : State} (h : t.fch = s.fch) (n : Nat) : t.fchN n = s.fchN n := by unfold State.fchN; rw [h]

@[simp] theorem State.fchN_setFch (c : FchSt) : (s.setFch n c).fchN n = c := tget_tset_self ..
@[simp] theorem State.fchN_setF (x : Fld) (v : Nat) : (s.setF x v).fchN n = s.fchN n := State.fchN_congr (State.setF_fch ..) n
@[simp] theorem State.fchN_setB (x : Fld) (b : Bool) : (s.setB x b).fchN n = s.fchN n := State.fchN_congr (State.setB_fch ..) n
@[simp] theorem State.fchN_addWrap (x : Fld) (k : Nat) : (s.addWrap x k).fchN n = s.fchN n := s.fchN_setF n x _
@[simp] theorem State.fchN_syncLoad : s.syncLoad.fchN n = s.fchN n := s.fchN_setF n _ _
@[simp] theorem State.f_setFch (c : FchSt) (x : Fld) : (s.setFch n c).f x = s.f x := State.f_congr (s := s.setFch n c) (t := s) rfl x
@[simp] theorem State.flag_setFch (c : FchSt) (x : Fld) : (s.setFch n c).flag x = s.flag x := State.flag_congr (s.f_setFch n c x)

end

/-! ## What the operations of a chain leave alone -/

/-- The words that a field touches. -/
def Fld.covers (x : Fld) (a : Nat) : Prop := ∃ i, i < x.words ∧ a = x.base + 4 * i

/-- The words that the fields `xs` of chain `n` touch. -/
def Touched (n : Nat) (xs : List (Nat → Fld)) (a : Nat) : Prop := ∃ x ∈ xs, (x n).covers a

/-- `t` differs from `s` in chain `n` and in the registers alone, and there in no field apart from the fields `xs` of that chain and in
no word that they do not touch. -/
structure ChainOnly (n : Fin 16) (xs : List (Nat → Fld)) (s t : State) : Prop where
  eq : t = { s with regs := t.regs, sets := t.sets, fch := t.fch }
  others : ∀ m, m ≠ n.val → t.fchN m = s.fchN m
  fields : FieldsKept (xs.map (fun x => x n)) s t
  words : WordsKept (Touched n xs) s t

/-- A field of chain `i` from the same field of chain 0: the registers of the chains lie 0x1000 apart, and FCH_LOAD is one for all. -/
def Fld.ofChain (i : Nat) (x : Fld) : Fld := if x.base < 0x90000 then x.shift (0x1000 * i) else x

/-- How far the words of a field of chain `i` lie from those of chain 0. -/
def chainShift (i base : Nat) : Nat := if base < 0x90000 then 0x1000 * i else 0

theorem Fld.words_ofChain (i : Nat) (x : Fld) : (x.ofChain i).words = x.words := by
  unfold Fld.ofChain
  split <;> rfl

theorem Fld.base_ofChain (i : Nat) (x : Fld) : (x.ofChain i).base = x.base + chainShift i x.base := by
  unfold Fld.ofChain chainShift
  split
  · simp only [Fld.base, Fld.shift]
    omega
  · rfl

abbrev ChainFlds (xs : List (Nat → Fld)) : Prop := ∀ i, xs.map (fun x => x i) = (xs.map (fun x => x 0)).map (Fld.ofChain i)

/-- A field among the registers of chain 0. -/
abbrev Fld.inChain (y : Fld) : Prop := y.base + 4 * y.words ≤ 0x81000

/-- Fields apart in chain 0 are apart in every chain. -/
theorem Fld.apart_ofChain {x y : Fld} {i : Nat} (hi : i < 16) (hy : y.inChain) (h : x.apart y) :
    (x.ofChain i).apart (y.shift (0x1000 * i)) := by
  unfold Fld.inChain at hy
  unfold Fld.ofChain
  split
  next =>
    simp only [Fld.apart, Fld.base, Fld.words, Fld.shift] at h ⊢
    omega
  next hx =>
    simp only [Fld.apart, Fld.base, Fld.words, Fld.shift] at hx hy ⊢
    omega

section
variable {n : Fin 16} {xs ys : List (Nat → Fld)} {s t u : State}

theorem Touched.mono {n a : Nat} (h : Touched n xs a) (hs : xs ⊆ ys) : Touched n ys a := by
  obtain ⟨x, hx, hcov⟩ := h
  exact ⟨x, hs hx, hcov⟩

theorem ChainOnly.trans (h1 : ChainOnly n xs s t) (h2 : ChainOnly n ys t u) : ChainOnly n (xs ++ ys) s u := by
  refine ⟨h2.eq.trans (by rw [h1.eq]), fun m hm => (h2.others m hm).trans (h1.others m hm), ?_, ?_⟩
  · rw [List.map_append]
    exact h1.fields.trans h2.fields
  · exact (h1.words.mono fun _ h => h.mono (List.subset_append_left ..)).trans
      (h2.words.mono fun _ h => h.mono (List.subset_append_right ..))

theorem ChainOnly.mono (h : ChainOnly n xs s t) (hs : xs ⊆ ys) : ChainOnly n ys s t :=
  ⟨h.eq, h.others, h.fields.mono fun _ hx => List.map_subset _ hs hx, h.words.mono fun _ ha => ha.mono hs⟩

theorem ChainOnly.setFch (s : State) (n : Fin 16) (c : FchSt) : ChainOnly n [] s (s.setFch n c) :=
  ⟨rfl, fun _ hm => tget_tset_ne _ _ _ hm, .of_regs rfl, .of_regs rfl⟩

theorem ChainOnly.refl (s : State) : ChainOnly n [] s s := ⟨rfl, fun _ _ => rfl, .of_regs rfl, .refl _ s⟩

theorem touched_self (x : Nat → Fld) (i : Nat) (hi : i < (x n).words) : Touched n [x] ((x n).base + 4 * i) :=
  ⟨x, List.mem_singleton_self x, i, hi, rfl⟩

theorem ChainOnly.setF (s : State) (x : Nat → Fld) (v : Nat) : ChainOnly n [x] s (s.setF (x n) v) :=
  ⟨by rw [State.setF, State.setWordsAt_eq], fun m _ => s.fchN_setF m (x n) v, .setF s (x n) v, .setF s v (touched_self x)⟩

theorem ChainOnly.setB (s : State) (x : Nat → Fld) (b : Bool) : ChainOnly n [x] s (s.setB (x n) b) :=
  ⟨by rw [State.setB_eq], fun m _ => s.fchN_setB m (x n) b, .setB s (x n) b, .setB s b (touched_self x)⟩

theorem ChainOnly.addWrap (s : State) (x : Nat → Fld) (k : Nat) : ChainOnly n [x] s (s.addWrap (x n) k) := .setF s x _

theorem ChainOnly.syncLoad (s : State) : ChainOnly n [fun _ => R.FCH_LOAD] s s.syncLoad := .setF s (fun _ => R.FCH_LOAD) _

theorem ChainOnly.ite {c : Prop} [Decidable c] (h1 : ChainOnly n xs s t) (h2 : ChainOnly n xs s u) :
    ChainOnly n xs s (if c then t else u) := by split <;> assumption

/-- A field of the chain reads as before when it is apart from those of `xs` in chain 0. -/
theorem ChainOnly.f_eq (h : ChainOnly n xs s t) (y : Nat → Fld) (hxs : ChainFlds xs := by intro i; rfl)
    (hy : ChannelFld y := by intro i; rfl)
    (hapart : (y 0).inChain ∧ ∀ x ∈ xs.map (fun x => x 0), x.apart (y 0) := by unfold Fld.apart; decide) : t.f (y n) = s.f (y n) := by
  refine h.fields _ fun x hx => ?_
  rw [hxs n] at hx
  obtain ⟨x0, hx0, rfl⟩ := List.mem_map.mp hx
  rw [hy n]
  exact Fld.apart_ofChain n.isLt hapart.1 (hapart.2 x0 hx0)

theorem ChainOnly.flag_eq (h : ChainOnly n xs s t) (y : Nat → Fld) (hxs : ChainFlds xs := by intro i; rfl)
    (hy : ChannelFld y := by intro i; rfl)
    (hapart : (y 0).inChain ∧ ∀ x ∈ xs.map (fun x => x 0), x.apart (y 0) := by unfold Fld.apart; decide) :
    t.flag (y n) = s.flag (y n) := State.flag_congr (h.f_eq y hxs hy hapart)

theorem ChainOnly.clk (h : ChainOnly n xs s t) : t.clk = s.clk := by rw [h.eq]

end

end Sys2Proof.Machine
end

section
/-!
PROOF. Filter chains: what a write of FCHn_CTRL starts, cancels or stops (spec/04_filter_chains.md, R126, R127, R133, R137 and R138).
-/
namespace Sys2Proof.Machine

/-! ## What names a chain (R138) -/

/-- An entry at a key that a selection passes over changes nothing of what it selects. -/
theorem filterMap_tset {α β : Type} [DecidableEq α] (d : Nat → α) {g : Nat × α → Option β} {k : Nat} (hg : ∀ v, g (k, v) = none)
    (t : Tbl α) (v : α) : (tset d t k v).filterMap g = t.filterMap g := by
  have del : (tdel t k).filterMap g = t.filterMap g := by
    rw [tdel, List.filterMap_filter]
    refine List.filterMap_congr fun p _ => ?_
    obtain ⟨j, x⟩ := p
    by_cases hj : j = k
    · rw [hj, hg]
      split <;> rfl
    · exact if_pos (bne_iff_ne.mpr hj)
  have ins (u : Tbl α) : (tins u k v).filterMap g = u.filterMap g := by
    induction u with
    | nil => simp [tins, hg]
    | cons p u ih =>
      unfold tins
      split
      · rw [List.filterMap_cons_none (hg v)]
      · rw [List.filterMap_cons, List.filterMap_cons, ih]
  unfold tset
  split
  · exact del
  · exact (ins _).trans del

/-- Words below the context entries say nothing of which contexts are busy. -/
theorem State.busyCtxs_setWord (s : State) {off : Nat} (h : off < 0x200000) (w : BitVec 32) :
    (s.setWord off w).busyCtxs = s.busyCtxs :=
  filterMap_tset resetWord (fun v => if_neg (by simp; omega)) s.regs w

theorem State.busyCtxs_setWordsAt (s : State) {off n : Nat} (h : off + 4 * n ≤ 0x200000) (v : Nat) :
    (s.setWordsAt off n v).busyCtxs = s.busyCtxs := by
  induction n generalizing s off v with
  | zero => rfl
  | succ n ih => exact (ih _ (by omega) _).trans (s.busyCtxs_setWord (by omega) _)

theorem State.busyCtxs_setB (s : State) {x : Fld} (h : x.base + 4 * x.words ≤ 0x200000) (b : Bool) :
    (s.setB x b).busyCtxs = s.busyCtxs := by
  cases b <;> exact s.busyCtxs_setWordsAt h _

/-- Whether a consumer names a chain follows from the registers past the chains, from the busy contexts and from the slots. -/
theorem State.chainNamed_congr {s t : State} (h : ∀ x : Fld, 0x200000 ≤ x.base → t.f x = s.f x) (hbusy : t.busyCtxs = s.busyCtxs)
    (hacq : t.acq = s.acq) (n : Nat) : t.chainNamed n = s.chainNamed n := by
  have far {x : Fld} (hx : 0x200000 ≤ x.off) : t.f x = s.f x := h x (Nat.le_add_right_of_le hx)
  have ctx (i : Nat) : t.f (R.CTX_STATE_STATE i) = s.f (R.CTX_STATE_STATE i) ∧ t.f (R.CTX_SRC_SRC_CHAIN i) = s.f (R.CTX_SRC_SRC_CHAIN i) :=
    ⟨far (by simp only [R.CTX_STATE_STATE]; omega), far (by simp only [R.CTX_SRC_SRC_CHAIN]; omega)⟩
  have acq (i : Nat) : t.f (R.ACQ_STATUS_STATE i) = s.f (R.ACQ_STATUS_STATE i) ∧ t.f (R.ACQ_MODE_KIND i) = s.f (R.ACQ_MODE_KIND i) ∧
      t.f (R.ACQ_MODE_INDEX i) = s.f (R.ACQ_MODE_INDEX i) :=
    ⟨far (by simp only [R.ACQ_STATUS_STATE]; omega), far (by simp only [R.ACQ_MODE_KIND]; omega),
      far (by simp only [R.ACQ_MODE_INDEX]; omega)⟩
  have trg (i : Nat) : t.f ((R.TRG_SRC_EN i).shift 0x4000) = s.f ((R.TRG_SRC_EN i).shift 0x4000) ∧
      t.f ((R.TRG_SRC_KIND i).shift 0x4000) = s.f ((R.TRG_SRC_KIND i).shift 0x4000) ∧
      t.f ((R.TRG_SRC_INDEX i).shift 0x4000) = s.f ((R.TRG_SRC_INDEX i).shift 0x4000) :=
    ⟨far (by simp only [R.TRG_SRC_EN, Fld.shift]; omega), far (by simp only [R.TRG_SRC_KIND, Fld.shift]; omega),
      far (by simp only [R.TRG_SRC_INDEX, Fld.shift]; omega)⟩
  have tp (i : Nat) : t.f (R.TP_ANS_CFG_SRC i) = s.f (R.TP_ANS_CFG_SRC i) ∧ t.f (R.TP_ANS_CFG_CHAIN i) = s.f (R.TP_ANS_CFG_CHAIN i) :=
    ⟨far (by simp only [R.TP_ANS_CFG_SRC]; omega), far (by simp only [R.TP_ANS_CFG_CHAIN]; omega)⟩
  have hslot (i : Nat) : t.slotPending i = s.slotPending i := by
    unfold State.slotPending
    rw [(acq i).1, State.acqN, State.acqN, hacq]
  simp only [State.chainNamed, State.liveCtxs, State.ctxState, State.flag, hbusy, hslot, ctx, acq, trg, tp]

end Sys2Proof.Machine
end

section
/-!
PROOF. Filter chains: a host write of FCHn_CTRL up to its further effect (spec/00_scope.md, R4; spec/04_filter_chains.md, R126).
-/
namespace Sys2Proof.Machine

theorem fchCtrl_spec (n : Fin 16) : ∃ w, wordSpec (0x80000 + 0x1000 * n) = some w ∧ w.rw = 0xD ∧ w.rwl = 0 ∧ w.half = 0 := by
  fin_cases n <;> exact ⟨_, rfl, rfl, rfl, rfl⟩

theorem writeOff_fchCtrl (n : Fin 16) : writeOff (0x80000 + 0x1000 * n) = 0x80000 + 0x1000 * n := if_neg (by simp)

/-- The control word of a chain that no switch holds takes a write as the map says, and the write has its further effect. -/
theorem State.writeWord_fchCtrl {s : State} (n : Fin 16) {w : WordSpec} (hw : wordSpec (0x80000 + 0x1000 * n) = some w) (hl : w.rwl = 0)
    (hcfg : s.cfgHolds (0x80000 + 0x1000 * n) = false) (pf : Nat) (v : BitVec 32) : s.writeWord pf (0x80000 + 0x1000 * n) v =
      fchCtrlWritten n (s.word (0x80000 + 0x1000 * n)).toNat v.toNat (s.setWord (0x80000 + 0x1000 * n)
        (mergeWord w 0 (s.setNow (0x80000 + 0x1000 * n)) (s.word (0x80000 + 0x1000 * n)) v)) := by
  have ho := writeOff_fchCtrl n
  have hn : (0x80000 + 0x1000 * n.val) / 0x1000 % 16 = n := by omega
  have hmod : (0x80000 + 0x1000 * n.val) % 0x1000 = 0 := by omega
  have hspec : writeSpec (0x80000 + 0x1000 * n) = some w := by simp [writeSpec, ho, hw]
  generalize hoff : 0x80000 + 0x1000 * n.val = off at *
  have hhold : s.holdBits pf off w = 0 := by
    have hring : ¬ 0x601000 ≤ off := by omega
    have hfb : off ≠ 0x701000 := by omega
    simp [State.holdBits, hl, ho, hcfg, hring, R.RS_FB_SEL, hfb]
  have hdrop : s.dropFlags off w = [] := by simp [State.dropFlags, hl, ho, hcfg]
  have heff : v &&& ~~~(0 : BitVec 32) ||| s.word off &&& 0 = v := by
    have all : v &&& 4294967295#32 = v := BitVec.and_allOnes
    simp [all]
  unfold State.writeWord
  rw [hspec]
  dsimp only
  rw [hhold, hdrop, ho, heff]
  unfold State.wrote State.wroteConv
  rw [if_neg (by omega), if_neg (by omega), if_pos (by omega), if_neg (by omega), if_neg (by omega), if_neg (by omega),
    if_pos (by simp [hmod]), hn]
  rfl

/-- The control word of a chain written with a value, and the time of the access noted. -/
structure FchWritten (n : Fin 16) (v : BitVec 32) (s u : State) : Prop where
  made : ∃ l x, u = (s.used l).setWord (0x80000 + 0x1000 * n) x
  en : u.flag (R.FCH_CTRL_EN n) = bitOf v.toNat 0

/-- A write of FCHn_CTRL that meets no refusal. -/
theorem fchCtrl_written (pf : Fin 2) (n : Fin 16) (v : BitVec 32) {s : State} (h : s.Opens pf (0x80000 + 0x1000 * n)) :
    ∃ u, FchWritten n v s u ∧ fchCtrl pf n v.toNat s = fchCtrlWritten n (s.word (0x80000 + 0x1000 * n)).toNat v.toNat u := by
  obtain ⟨hreach, -, hcfg⟩ := h
  obtain ⟨w, hw, hrw, hl, hhalf⟩ := fchCtrl_spec n
  have hput := regWrite_word hreach (by omega) v.toNat
  obtain ⟨-, -, hworld, hholds, hsec, hdom⟩ := hreach
  obtain ⟨l, htouch⟩ := State.touch_lastUse hdom
  rw [writeOff_fchCtrl] at hcfg
  have hhalf1 : isHalf (0x80000 + 0x1000 * n) 1 = false := by simp [isHalf, hw, hhalf]
  have hhalf2 : isHalf (0x80000 + 0x1000 * n) 2 = false := by simp [isHalf, hw, hhalf]
  have hmsix : ¬ (0x608000 ≤ 0x80000 + 0x1000 * n.val ∧ 0x80000 + 0x1000 * n.val < 0x609000) := by omega
  have hwrite := State.writeWord_fchCtrl (s := s.used l) n hw hl hcfg pf v
  refine ⟨_, ⟨⟨l, _, rfl⟩, ?_⟩, hput.trans (Eq.trans ?_ hwrite)⟩
  · rw [State.flag, R.FCH_CTRL_EN, bitOf_eq_bitsOf]
    exact congrArg (· != 0)
      (State.f_written ((State.word_setWord ..).trans (if_pos rfl)) (by decide) (by rw [hrw, hl]; decide))
  · rw [BitVec.ofNat_toNat, BitVec.setWidth_eq]
    simp [State.put4, hworld, hholds, hsec, htouch, State.write4, hhalf1, hhalf2, hmsix]

end Sys2Proof.Machine
end

section
/-!
PROOF. Filter chains: commits, cancels, enables and disables as further effects of a write of FCHn_CTRL (spec/04_filter_chains.md,
R126, R127, R133, R137 and R138).
-/
namespace Sys2Proof.Machine

/-! ## The chain as the write finds it -/

/-- The state with CANCEL cleared and COMMIT as given. -/
def State.ctrlCleared (u : State) (n : Nat) (commit : Bool) : State :=
  (u.setB (R.FCH_CTRL_CANCEL n) false).setB (R.FCH_CTRL_COMMIT n) commit

/-- The chain as a write of FCHn_CTRL finds it: EN as written, the other control bits without effect, and all else as before. -/
structure FchFound (n : Fin 16) (v : BitVec 32) (s c : State) : Prop where
  fch : c.fch = s.fch
  clk : c.clk = s.clk
  words : WordsKept (fun o => o = 0x80000 + 0x1000 * n) s c
  en : c.flag (R.FCH_CTRL_EN n) = bitOf v.toNat 0
  commit : c.flag (R.FCH_CTRL_COMMIT n) = s.flag (R.FCH_CTRL_COMMIT n)
  named : c.chainNamed n = s.chainNamed n

section
variable {n : Fin 16} {v : BitVec 32} {s u c t : State}

theorem ChainOnly.ctrlCleared (u : State) (n : Fin 16) (commit : Bool) :
    ChainOnly n [R.FCH_CTRL_CANCEL, R.FCH_CTRL_COMMIT] u (u.ctrlCleared n commit) :=
  (ChainOnly.setB u R.FCH_CTRL_CANCEL false).trans (.setB _ R.FCH_CTRL_COMMIT commit)

/-- An operation whose fields lie in single words of a chain touches no other word. -/
theorem ChainOnly.wordsKept {xs : List (Nat → Fld)} (h : ChainOnly n xs s t) (os : List Nat) (hxs : ChainFlds xs := by intro i; rfl)
    (h0 : ∀ x ∈ xs.map (fun x => x 0), x.words = 1 ∧ x.base ∈ os := by decide) :
    WordsKept (fun a => ∃ o ∈ os, a = o + chainShift n o) s t := by
  refine h.words.mono fun a ⟨x, hx, i, hi, ha⟩ => ?_
  have hmem := List.mem_map_of_mem (f := fun x : Nat → Fld => x n) hx
  rw [hxs n] at hmem
  obtain ⟨x0, hx0, hx0n⟩ := List.mem_map.mp hmem
  obtain ⟨hone, hbase⟩ := h0 x0 hx0
  rw [← hx0n, Fld.words_ofChain] at hi
  rw [← hx0n, Fld.base_ofChain] at ha
  exact ⟨x0.base, hbase, by omega⟩

/-- The registers of the chain past its control read as before the write. -/
theorem FchFound.f_eq (h : FchFound n v s c) (y : Nat → Fld) (hy : ChannelFld y := by intro i; rfl)
    (h0 : 0x80004 ≤ (y 0).base := by decide) : c.f (y n) = s.f (y n) := by
  refine h.words.f_eq fun a h1 _ ha => ?_
  rw [hy n] at h1
  simp only [Fld.base, Fld.shift] at h0 h1
  omega

theorem FchFound.flag_eq (h : FchFound n v s c) (y : Nat → Fld) (hy : ChannelFld y := by intro i; rfl)
    (h0 : 0x80004 ≤ (y 0).base := by decide) : c.flag (y n) = s.flag (y n) := State.flag_congr (h.f_eq y hy h0)

theorem FchFound.fchN (h : FchFound n v s c) (m : Nat) : c.fchN m = s.fchN m := State.fchN_congr h.fch m

/-- What a write leaves alone, from the words that its further effect touches. -/
theorem FchFound.wordsKept {W : Nat → Prop} (h : FchFound n v s c) (hw : WordsKept W c t) :
    WordsKept (fun o => o = 0x80000 + 0x1000 * n ∨ W o) s t :=
  (h.words.mono fun _ => .inl).trans (hw.mono fun _ => .inr)

theorem FchWritten.found (h : FchWritten n v s u) :
    FchFound n v s (u.ctrlCleared n (bitOf (s.word (0x80000 + 0x1000 * n)).toNat 1)) := by
  have cleared := ChainOnly.ctrlCleared u n (bitOf (s.word (0x80000 + 0x1000 * n)).toNat 1)
  have hen := (cleared.flag_eq R.FCH_CTRL_EN).trans h.en
  have hcommit : s.flag (R.FCH_CTRL_COMMIT n) = bitOf (s.word (0x80000 + 0x1000 * n)).toNat 1 := by
    rw [State.flag, R.FCH_CTRL_COMMIT, State.f_wordField _ _ _ _ (by decide), ← bitOf_eq_bitsOf]
  obtain ⟨l, x, rfl⟩ := h.made
  have written : WordsKept (fun o => o = 0x80000 + 0x1000 * n) s ((s.used l).setWord (0x80000 + 0x1000 * n) x) :=
    (WordsKept.of_regs (s := s) (t := s.used l) rfl).trans (.setWord _ _ rfl)
  have words := written.trans ((cleared.wordsKept [0x80000]).mono (by simp [chainShift]))
  refine ⟨?_, cleared.clk, words, hen, ?_, ?_⟩
  · simp [State.ctrlCleared]
    rfl
  · rw [hcommit]
    exact State.flag_setB_self _ _ _ Nat.one_pos
  · refine State.chainNamed_congr (fun y hy => words.f_eq fun a h1 _ ha => by omega) ?_ ?_ n
    · have hcancel : (R.FCH_CTRL_CANCEL n).base + 4 * (R.FCH_CTRL_CANCEL n).words ≤ 0x200000 := by
        simp only [R.FCH_CTRL_CANCEL, Fld.base, Fld.words]; omega
      rw [State.ctrlCleared, State.busyCtxs_setB _ (by simp only [R.FCH_CTRL_COMMIT, Fld.base, Fld.words]; omega),
        State.busyCtxs_setB _ hcancel, State.busyCtxs_setWord _ (by omega)]
      rfl
    · simp [State.ctrlCleared]
      rfl

end

/-! ## The further effect, by what the write asks for -/

section
variable {n old v : Nat} {u : State}

/-- The chain with the checks of a commit begun, under the values in the write. -/
def State.commitChecks (c : State) (n v : Nat) : FchSt :=
  { c.fchN n with chk := .commit, atPtime := bitOf v 2, flush := bitOf v 3, align := max 1 (c.f (R.FCH_ALIGN_ALIGN n)),
                  hoPtime := c.ptimeAt (R.FCH_HO_PTIME n 0).off }

theorem fchCtrlWritten_commits (h4 : bitOf v 4 = false) (h0 : bitOf v 0 = bitOf old 0) (h1 : bitOf v 1 = true)
    (hfree : (u.ctrlCleared n (bitOf old 1)).shadowHeld n = false) : fchCtrlWritten n old v u =
      ((u.ctrlCleared n (bitOf old 1)).setFch n ((u.ctrlCleared n (bitOf old 1)).commitChecks n v)).setB (R.FCH_CTRL_COMMIT n) true := by
  unfold fchCtrlWritten
  simp only [h4, Bool.false_eq_true, if_false]
  exact (if_neg (by simp [h0])).trans ((if_neg (by simp [h0])).trans ((if_pos h1).trans (if_neg (ne_true_of_eq_false hfree))))

theorem fchCtrlWritten_busy (h4 : bitOf v 4 = false) (h0 : bitOf v 0 = bitOf old 0) (h1 : bitOf v 1 = true)
    (hheld : (u.ctrlCleared n (bitOf old 1)).shadowHeld n = true) :
    fchCtrlWritten n old v u = (u.ctrlCleared n (bitOf old 1)).setB (R.FCH_STATUS_SHADOW_BUSY n) true := by
  unfold fchCtrlWritten
  simp only [h4, Bool.false_eq_true, if_false]
  exact (if_neg (by simp [h0])).trans ((if_neg (by simp [h0])).trans ((if_pos h1).trans (if_pos hheld)))

theorem fchCtrlWritten_cancels (h4 : bitOf v 4 = true) (h0 : bitOf v 0 = bitOf old 0) (h1 : bitOf v 1 = false) :
    fchCtrlWritten n old v u = (u.ctrlCleared n (bitOf old 1)).fchCancel n := by
  unfold fchCtrlWritten
  simp only [h4, if_true]
  exact (if_neg (by simp [h0])).trans ((if_neg (by simp [h0])).trans (if_neg (ne_true_of_eq_false h1)))

theorem fchCtrlWritten_enables (h4 : bitOf v 4 = false) (h0 : bitOf v 0 = true) (hold : bitOf old 0 = false) :
    fchCtrlWritten n old v u = ((u.ctrlCleared n (bitOf old 1)).setFch n
      { (u.ctrlCleared n (bitOf old 1)).fchN n with chk := .enable }).setB (R.FCH_CTRL_COMMIT n) true := by
  unfold fchCtrlWritten
  simp only [h4, Bool.false_eq_true, if_false]
  exact (if_neg (by simp [h0])).trans (if_pos (by simp [h0, hold]))

theorem fchCtrlWritten_disables (h4 : bitOf v 4 = false) (h0 : bitOf v 0 = false) (hold : bitOf old 0 = true) :
    fchCtrlWritten n old v u = (u.ctrlCleared n (bitOf old 1)).fchDisable n := by
  unfold fchCtrlWritten
  simp only [h4, Bool.false_eq_true, if_false]
  exact if_pos (by simp [h0, hold])

end

/-! ## A cancel (R133) -/

section
variable {n : Fin 16} {s t c : State}

/-- The PTIME of a sample follows from the clock. -/
theorem State.idxTime_congr {s t : State} (h : t.clk = s.clk) (k : Nat) : t.idxTime k = s.idxTime k := by
  unfold State.idxTime State.stampTime State.lineAt State.now State.increment
  rw [h]

theorem State.handOverStands_congr {n : Nat} (hfch : t.fchN n = s.fchN n) (hclk : t.clk = s.clk)
    (hpend : t.flag (R.FCH_STATUS_PENDING n) = s.flag (R.FCH_STATUS_PENDING n))
    (hrun : t.flag (R.FCH_STATUS_RUNNING n) = s.flag (R.FCH_STATUS_RUNNING n)) (hd : t.actD n = s.actD n) :
    t.handOverStands n = s.handOverStands n := by
  unfold State.handOverStands State.handOverDue State.boundaryTime
  simp only [hfch, hclk, hpend, hrun, hd, State.idxTime_congr hclk]

/-- A cancel that finds a commit pending, and no hand-over in this control cycle. -/
theorem State.fchCancel_ends (hp : c.flag (R.FCH_STATUS_PENDING n) = true) (hs : c.handOverStands n = false) :
    (c.fchCancel n).flag (R.FCH_STATUS_PENDING n) = false ∧ (c.fchCancel n).f (R.FCH_STATUS_RESULT n) = stCancelled ∧
    ((c.fchCancel n).fchN n).late = false := by
  have hcancel : c.fchCancel n = ((c.setFch n { c.fchN n with late := false }).setB (R.FCH_STATUS_PENDING n) false).setF
      (R.FCH_STATUS_RESULT n) stCancelled := if_pos (by simp [hp, hs])
  rw [hcancel]
  refine ⟨?_, State.f_setF_self .., by simp⟩
  exact ((ChainOnly.setF _ R.FCH_STATUS_RESULT stCancelled).flag_eq R.FCH_STATUS_PENDING).trans (State.flag_setB_self _ _ _ Nat.one_pos)

theorem State.fchCancel_late (hs : c.handOverStands n = true) : c.fchCancel n = c := if_neg (by simp [hs])

theorem ChainOnly.fchCancel (c : State) (n : Fin 16) :
    ChainOnly n [R.FCH_STATUS_PENDING, R.FCH_STATUS_RESULT] c (c.fchCancel n) := by
  refine .ite ?_ ((ChainOnly.refl c).mono (by simp))
  exact ((ChainOnly.setFch ..).trans (.setB _ R.FCH_STATUS_PENDING false)).trans (.setF _ R.FCH_STATUS_RESULT _)

/-! ## A disable (R138) -/

theorem ChainOnly.endCommit (c : State) (n : Fin 16) :
    ChainOnly n [R.FCH_CTRL_COMMIT, R.FCH_STATUS_PENDING] c (c.endCommit n) :=
  ((ChainOnly.setFch ..).trans (.setB _ R.FCH_CTRL_COMMIT false)).trans (.setB _ R.FCH_STATUS_PENDING false)

theorem State.endCommit_spec (c : State) (n : Fin 16) : (c.endCommit n).flag (R.FCH_CTRL_COMMIT n) = false ∧
    (c.endCommit n).flag (R.FCH_STATUS_PENDING n) = false :=
  ⟨((ChainOnly.setB _ R.FCH_STATUS_PENDING false).flag_eq R.FCH_CTRL_COMMIT).trans
    (State.flag_setB_self _ (R.FCH_CTRL_COMMIT n) false Nat.one_pos), State.flag_setB_self _ (R.FCH_STATUS_PENDING n) false Nat.one_pos⟩

theorem ChainOnly.fchStop (c : State) (n : Fin 16) : ChainOnly n [R.FCH_STATUS_RUNNING, fun _ => R.FCH_LOAD] c (c.fchStop n) :=
  ((ChainOnly.setFch ..).trans (.setB _ R.FCH_STATUS_RUNNING false)).trans (.syncLoad _)

theorem State.fchStop_running (c : State) (n : Fin 16) : (c.fchStop n).flag (R.FCH_STATUS_RUNNING n) = false :=
  ((ChainOnly.syncLoad _).flag_eq R.FCH_STATUS_RUNNING).trans (State.flag_setB_self _ (R.FCH_STATUS_RUNNING n) false Nat.one_pos)

theorem State.fchDisable_named (h : c.chainNamed n = true) :
    c.fchDisable n = (c.setB (R.FCH_CTRL_EN n) true).setF (R.FCH_STATUS_RESULT n) stRefusedBusy := if_pos h

theorem State.fchDisable_stops (h : c.chainNamed n = false) : c.fchDisable n =
    (((c.endCommit n).fchStop n).setB (R.FCH_CTRL_EN n) false).setF (R.FCH_STATUS_RESULT n)
      (if c.flag (R.FCH_STATUS_PENDING n) || (c.fchN n).chk == .commit then stCancelled else stOk) :=
  if_neg (ne_true_of_eq_false h)

/-- A disable that a consumer's name refuses. -/
theorem State.fchDisable_refused (h : c.chainNamed n = true) : (c.fchDisable n).flag (R.FCH_CTRL_EN n) = true ∧
    (c.fchDisable n).f (R.FCH_STATUS_RESULT n) = stRefusedBusy ∧ (c.fchDisable n).fch = c.fch := by
  rw [State.fchDisable_named h]
  refine ⟨?_, State.f_setF_self .., by simp⟩
  exact ((ChainOnly.setF _ R.FCH_STATUS_RESULT stRefusedBusy).flag_eq R.FCH_CTRL_EN).trans (State.flag_setB_self _ _ _ Nat.one_pos)

/-- A disable that no consumer stands against. -/
theorem State.fchDisable_stopped (h : c.chainNamed n = false) : (c.fchDisable n).flag (R.FCH_CTRL_EN n) = false ∧
    (c.fchDisable n).flag (R.FCH_STATUS_RUNNING n) = false ∧ (c.fchDisable n).flag (R.FCH_STATUS_PENDING n) = false ∧
    (c.fchDisable n).flag (R.FCH_CTRL_COMMIT n) = false ∧ (c.fchDisable n).f (R.FCH_STATUS_RESULT n) =
      (if c.flag (R.FCH_STATUS_PENDING n) || (c.fchN n).chk == .commit then stCancelled else stOk) := by
  rw [State.fchDisable_stops h]
  generalize hcode : (if c.flag (R.FCH_STATUS_PENDING n) || (c.fchN n).chk == .commit then stCancelled else stOk) = code
  have hlt : code < 2 ^ 8 := by rw [← hcode]; split <;> decide
  obtain ⟨hcommit, hpend⟩ := c.endCommit_spec n
  have stopped := ChainOnly.fchStop (c.endCommit n) n
  have off := ChainOnly.setB (n := n) ((c.endCommit n).fchStop n) R.FCH_CTRL_EN false
  have result := ChainOnly.setF (n := n) (((c.endCommit n).fchStop n).setB (R.FCH_CTRL_EN n) false) R.FCH_STATUS_RESULT code
  refine ⟨?_, ?_, ?_, ?_, (State.f_setF_self ..).trans (Nat.mod_eq_of_lt hlt)⟩
  · exact (result.flag_eq R.FCH_CTRL_EN).trans (State.flag_setB_self _ _ _ Nat.one_pos)
  · exact ((off.trans result).flag_eq R.FCH_STATUS_RUNNING).trans (State.fchStop_running ..)
  · exact (((stopped.trans off).trans result).flag_eq R.FCH_STATUS_PENDING).trans hpend
  · exact (((stopped.trans off).trans result).flag_eq R.FCH_CTRL_COMMIT).trans hcommit

/-- The fields that a disable may change. -/
def disableFlds : List (Nat → Fld) :=
  [R.FCH_CTRL_EN, R.FCH_CTRL_COMMIT, R.FCH_STATUS_RUNNING, R.FCH_STATUS_PENDING, R.FCH_STATUS_RESULT, fun _ => R.FCH_LOAD]

theorem ChainOnly.fchDisable (c : State) (n : Fin 16) : ChainOnly n disableFlds c (c.fchDisable n) := by
  refine .ite ?_ ?_
  · exact ((ChainOnly.setB c R.FCH_CTRL_EN true).trans (.setF _ R.FCH_STATUS_RESULT _)).mono (by simp [disableFlds])
  · exact ((((ChainOnly.endCommit c n).trans (.fchStop ..)).trans (.setB _ R.FCH_CTRL_EN false)).trans (.setF _ R.FCH_STATUS_RESULT _)).mono
      (by simp [disableFlds])

end

end Sys2Proof.Machine
end

section
/-!
PROOF. Filter chains: the four commands that write FCHn_CTRL (spec/04_filter_chains.md, R126, R127, R133, R137 and R138).
-/
namespace Sys2Proof.Machine

theorem bitOf_withoutBit (v : BitVec 32) {i b : Nat} (hb : b < 32) : bitOf (withoutBit v i) b = (bitOf v.toNat b && decide (i ≠ b)) := by
  rw [bitOf_eq_testBit, bitOf_eq_testBit, withoutBit, BitVec.testBit_toNat, BitVec.testBit_toNat, BitVec.getLsbD_and, BitVec.getLsbD_not,
    BitVec.getLsbD_ofNat, Nat.testBit_two_pow]
  simp [hb]

section
variable {pf : Fin 2} {n : Fin 16} {v : BitVec 32} {s c : State}

theorem bitOf_fchEn (s : State) (n : Nat) : bitOf (s.word (0x80000 + 0x1000 * n)).toNat 0 = s.flag (R.FCH_CTRL_EN n) := by
  rw [State.flag, R.FCH_CTRL_EN, State.f_wordField _ _ _ _ (by decide), ← bitOf_eq_bitsOf]

theorem FchFound.shadowHeld (h : FchFound n v s c) : c.shadowHeld n = s.shadowHeld n := by
  rw [State.shadowHeld, State.shadowHeld, h.commit, h.flag_eq R.FCH_STATUS_PENDING]

theorem FchFound.handOverStands (h : FchFound n v s c) : c.handOverStands n = s.handOverStands n :=
  State.handOverStands_congr (h.fchN n) h.clk (h.flag_eq R.FCH_STATUS_PENDING) (h.flag_eq R.FCH_STATUS_RUNNING)
    (by rw [State.actD, State.actD, h.f_eq R.FCH_MN_ACT_M, h.f_eq R.FCH_MN_ACT_N])

/-- The words of control and status, from the words that a further effect on the two touches. -/
theorem FchFound.controlKept {xs : List (Nat → Fld)} {t : State} (h : FchFound n v s c) (only : ChainOnly n xs c t)
    (hxs : ChainFlds xs := by intro i; rfl)
    (h0 : ∀ x ∈ xs.map (fun x => x 0), x.words = 1 ∧ x.base ∈ [0x80000, 0x80004] := by decide) :
    WordsKept (fun o => o = 0x80000 + 0x1000 * n ∨ o = 0x80004 + 0x1000 * n) s t :=
  (h.wordsKept (only.wordsKept [0x80000, 0x80004] hxs h0)).mono (by simp [chainShift])

/-- A write of FCHn_CTRL that meets no refusal, from the chain as it finds it. -/
theorem fchCtrl_found (pf : Fin 2) (w : BitVec 32) (hopen : s.Opens pf (0x80000 + 0x1000 * n)) :
    let old := (s.word (0x80000 + 0x1000 * n)).toNat
    ∃ u, FchFound n w s (u.ctrlCleared n (bitOf old 1)) ∧ fchCtrl pf n w.toNat s = fchCtrlWritten n old w.toNat u := by
  obtain ⟨u, written, hwrite⟩ := fchCtrl_written pf n w hopen
  exact ⟨u, written.found, hwrite⟩

theorem fchCommit_ends (hopen : s.Opens pf (0x80000 + 0x1000 * n)) (h4 : bitOf v.toNat 4 = false)
    (h0 : bitOf v.toNat 0 = s.flag (R.FCH_CTRL_EN n)) : Ends (exec (.fchCommit pf n v) s) fun t =>
      (s.shadowHeld n = false → t.flag (R.FCH_CTRL_COMMIT n) = true ∧ (t.fchN n).chk = .commit ∧
        (t.fchN n).atPtime = bitOf v.toNat 2 ∧ (t.fchN n).flush = bitOf v.toNat 3 ∧
        (t.fchN n).align = max 1 (s.f (R.FCH_ALIGN_ALIGN n)) ∧ t.f (R.FCH_STATUS_RESULT n) = s.f (R.FCH_STATUS_RESULT n)) ∧
      (s.shadowHeld n = true → t.flag (R.FCH_STATUS_SHADOW_BUSY n) = true ∧
        t.flag (R.FCH_CTRL_COMMIT n) = s.flag (R.FCH_CTRL_COMMIT n) ∧ t.fch = s.fch) ∧
      WordsKept (fun o => o = 0x80000 + 0x1000 * n ∨ o = 0x80004 + 0x1000 * n) s t := by
  have bit (b : Nat) (hb : b < 32) : bitOf (withBit v 1) b = (bitOf v.toNat b || decide (1 = b)) := bitOf_withBit v hb
  have hexec : exec (.fchCommit pf n v) s = .next (fchCtrl pf n (withBit v 1) s) := rfl
  obtain ⟨w, hw⟩ : ∃ w : BitVec 32, withBit v 1 = w.toNat := ⟨_, rfl⟩
  rw [hw] at bit hexec
  obtain ⟨u, found, hwrite⟩ := fchCtrl_found pf w hopen
  have hb4 : bitOf w.toNat 4 = false := by rw [bit 4 (by decide), h4]; rfl
  have hb0 : bitOf w.toNat 0 = bitOf (s.word (0x80000 + 0x1000 * n)).toNat 0 := by rw [bit 0 (by decide), h0, bitOf_fchEn]; simp
  have hb1 : bitOf w.toNat 1 = true := by rw [bit 1 (by decide)]; simp
  cases hheld : s.shadowHeld n with
  | false =>
    have hmade := hwrite.trans (fchCtrlWritten_commits hb4 hb0 hb1 (found.shadowHeld.trans hheld))
    generalize u.ctrlCleared n _ = c at *
    have only : ChainOnly n [R.FCH_CTRL_COMMIT] c ((c.setFch n (c.commitChecks n w.toNat)).setB (R.FCH_CTRL_COMMIT n) true) :=
      (ChainOnly.setFch ..).trans (.setB _ R.FCH_CTRL_COMMIT true)
    refine ⟨_, hexec.trans (congrArg Host.Outcome.next hmade), fun _ => ⟨State.flag_setB_self _ _ _ Nat.one_pos, ?_⟩, nofun,
      found.controlKept only⟩
    rw [State.fchN_setB, State.fchN_setFch, only.f_eq R.FCH_STATUS_RESULT, found.f_eq R.FCH_STATUS_RESULT, State.commitChecks,
      found.f_eq R.FCH_ALIGN_ALIGN, bit 2 (by decide), bit 3 (by decide)]
    simp
  | true =>
    have hmade := hwrite.trans (fchCtrlWritten_busy hb4 hb0 hb1 (found.shadowHeld.trans hheld))
    generalize u.ctrlCleared n _ = c at *
    have only := ChainOnly.setB (n := n) c R.FCH_STATUS_SHADOW_BUSY true
    refine ⟨_, hexec.trans (congrArg Host.Outcome.next hmade), nofun, fun _ => ⟨State.flag_setB_self _ _ _ Nat.one_pos, ?_, ?_⟩,
      found.controlKept only⟩
    · exact (only.flag_eq R.FCH_CTRL_COMMIT).trans found.commit
    · exact (State.setB_fch ..).trans found.fch

theorem fchCancel_ends (hopen : s.Opens pf (0x80000 + 0x1000 * n)) (h1 : bitOf v.toNat 1 = false)
    (h0 : bitOf v.toNat 0 = s.flag (R.FCH_CTRL_EN n)) (hpend : s.flag (R.FCH_STATUS_PENDING n) = true) :
    Ends (exec (.fchCancel pf n v) s) fun t =>
      (s.handOverStands n = false →
        t.flag (R.FCH_STATUS_PENDING n) = false ∧ t.f (R.FCH_STATUS_RESULT n) = stCancelled ∧ (t.fchN n).late = false) ∧
      (s.handOverStands n = true → t.flag (R.FCH_STATUS_PENDING n) = true ∧
        t.f (R.FCH_STATUS_RESULT n) = s.f (R.FCH_STATUS_RESULT n) ∧ t.fch = s.fch) ∧
      (∀ m, m ≠ n.val → t.fchN m = s.fchN m) ∧
      WordsKept (fun o => o = 0x80000 + 0x1000 * n ∨ o = 0x80004 + 0x1000 * n) s t := by
  have bit (b : Nat) (hb : b < 32) : bitOf (withBit v 4) b = (bitOf v.toNat b || decide (4 = b)) := bitOf_withBit v hb
  have hexec : exec (.fchCancel pf n v) s = .next (fchCtrl pf n (withBit v 4) s) := rfl
  obtain ⟨w, hw⟩ : ∃ w : BitVec 32, withBit v 4 = w.toNat := ⟨_, rfl⟩
  rw [hw] at bit hexec
  obtain ⟨u, found, hwrite⟩ := fchCtrl_found pf w hopen
  have hmade := hwrite.trans (fchCtrlWritten_cancels (by rw [bit 4 (by decide)]; simp)
    (by rw [bit 0 (by decide), h0, bitOf_fchEn]; simp) (by rw [bit 1 (by decide), h1]; rfl))
  generalize u.ctrlCleared n _ = c at *
  have hstands := found.handOverStands
  have hp := (found.flag_eq R.FCH_STATUS_PENDING).trans hpend
  have only := ChainOnly.fchCancel c n
  refine ⟨_, hexec.trans (congrArg Host.Outcome.next hmade), fun hs => State.fchCancel_ends hp (hstands.trans hs), fun hs => ?_,
    fun m hm => (only.others m hm).trans (found.fchN m), found.controlKept only⟩
  rw [State.fchCancel_late (hstands.trans hs)]
  exact ⟨hp, found.f_eq R.FCH_STATUS_RESULT, found.fch⟩

theorem fchEnable_ends (hopen : s.Opens pf (0x80000 + 0x1000 * n)) (h4 : bitOf v.toNat 4 = false)
    (hoff : s.flag (R.FCH_CTRL_EN n) = false) : Ends (exec (.fchEnable pf n v) s) fun t =>
      t.flag (R.FCH_CTRL_EN n) = true ∧ t.flag (R.FCH_CTRL_COMMIT n) = true ∧ (t.fchN n).chk = .enable ∧
      t.f (R.FCH_STATUS_RESULT n) = s.f (R.FCH_STATUS_RESULT n) ∧ WordsKept (fun o => o = 0x80000 + 0x1000 * n) s t := by
  have bit (b : Nat) (hb : b < 32) : bitOf (withBit v 0) b = (bitOf v.toNat b || decide (0 = b)) := bitOf_withBit v hb
  have hexec : exec (.fchEnable pf n v) s = .next (fchCtrl pf n (withBit v 0) s) := rfl
  obtain ⟨w, hw⟩ : ∃ w : BitVec 32, withBit v 0 = w.toNat := ⟨_, rfl⟩
  rw [hw] at bit hexec
  obtain ⟨u, found, hwrite⟩ := fchCtrl_found pf w hopen
  have hon : bitOf w.toNat 0 = true := by rw [bit 0 (by decide)]; simp
  have hmade := hwrite.trans (fchCtrlWritten_enables (by rw [bit 4 (by decide), h4]; rfl) hon (by rw [bitOf_fchEn, hoff]))
  generalize u.ctrlCleared n _ = c at *
  have only : ChainOnly n [R.FCH_CTRL_COMMIT] c ((c.setFch n { c.fchN n with chk := .enable }).setB (R.FCH_CTRL_COMMIT n) true) :=
    (ChainOnly.setFch ..).trans (.setB _ R.FCH_CTRL_COMMIT true)
  refine ⟨_, hexec.trans (congrArg Host.Outcome.next hmade), ?_, State.flag_setB_self _ _ _ Nat.one_pos, by simp, ?_, ?_⟩
  · exact (only.flag_eq R.FCH_CTRL_EN).trans (found.en.trans hon)
  · exact (only.f_eq R.FCH_STATUS_RESULT).trans (found.f_eq R.FCH_STATUS_RESULT)
  · exact (found.wordsKept (only.wordsKept [0x80000])).mono (by simp [chainShift])

theorem fchDisable_ends (hopen : s.Opens pf (0x80000 + 0x1000 * n)) (h4 : bitOf v.toNat 4 = false)
    (hon : s.flag (R.FCH_CTRL_EN n) = true) : Ends (exec (.fchDisable pf n v) s) fun t =>
      (s.chainNamed n = true →
        t.flag (R.FCH_CTRL_EN n) = true ∧ t.f (R.FCH_STATUS_RESULT n) = stRefusedBusy ∧ t.fch = s.fch) ∧
      (s.chainNamed n = false →
        t.flag (R.FCH_CTRL_EN n) = false ∧ t.flag (R.FCH_STATUS_RUNNING n) = false ∧
        t.flag (R.FCH_STATUS_PENDING n) = false ∧ t.flag (R.FCH_CTRL_COMMIT n) = false ∧
        t.f (R.FCH_STATUS_RESULT n) =
          (if s.flag (R.FCH_STATUS_PENDING n) || (s.fchN n).chk == .commit then stCancelled else stOk)) ∧
      WordsKept (fun o => o = 0x80000 + 0x1000 * n ∨ o = 0x80004 + 0x1000 * n ∨ o = 0x90000) s t := by
  have bit (b : Nat) (hb : b < 32) : bitOf (withoutBit v 0) b = (bitOf v.toNat b && decide (0 ≠ b)) := bitOf_withoutBit v hb
  have hexec : exec (.fchDisable pf n v) s = .next (fchCtrl pf n (withoutBit v 0) s) := rfl
  obtain ⟨w, hw⟩ : ∃ w : BitVec 32, withoutBit v 0 = w.toNat := ⟨_, rfl⟩
  rw [hw] at bit hexec
  obtain ⟨u, found, hwrite⟩ := fchCtrl_found pf w hopen
  have hmade := hwrite.trans (fchCtrlWritten_disables (by rw [bit 4 (by decide), h4]; rfl) (by rw [bit 0 (by decide)]; simp)
    (by rw [bitOf_fchEn, hon]))
  generalize u.ctrlCleared n _ = c at *
  refine ⟨_, hexec.trans (congrArg Host.Outcome.next hmade), fun hnamed => ?_, fun hfree => ?_, ?_⟩
  · obtain ⟨hen, hresult, hfch⟩ := State.fchDisable_refused (found.named.trans hnamed)
    exact ⟨hen, hresult, hfch.trans found.fch⟩
  · have stopped := State.fchDisable_stopped (found.named.trans hfree)
    rwa [found.flag_eq R.FCH_STATUS_PENDING, found.fchN] at stopped
  · exact (found.wordsKept ((ChainOnly.fchDisable c n).wordsKept [0x80000, 0x80004, 0x90000])).mono (by simp [chainShift])

end

end Sys2Proof.Machine

open Sys2Proof Sys2Proof.Machine

/-- Settles O24, command by command: a write of FCHn_CTRL leaves its word, with EN as written and its commands cleared, and then its
further effect on the chain. That EN = 1 takes the place of the checks of a commit is the model's choice (log entry 138), as is what
names a chain (log entry 22). -/
theorem chainWrites : Obligations.ChainWrites := by
  unfold Obligations.ChainWrites
  exact fun pf n v s hopen _ => ⟨fchCommit_ends hopen, fchCancel_ends hopen, fchEnable_ends hopen, fchDisable_ends hopen⟩
end

section
/-!
PROOF. Filter chains: the copy of the shadow bank into the active one (spec/04_filter_chains.md, R111, R117 and R129).
-/
namespace Sys2Proof.Machine

/-! ## Words copied one after another -/

section
variable {s : State} {dst src : Nat → Nat} {k : Nat}

theorem State.copyWords_succ (s : State) (dst src : Nat → Nat) (k : Nat) : s.copyWords dst src (k + 1) =
    (s.copyWords dst src k).setWord (dst k) ((s.copyWords dst src k).word (src k)) := by
  unfold State.copyWords
  rw [List.range_succ, List.foldl_append]
  rfl

theorem State.copyWords_eq (s : State) (dst src : Nat → Nat) (k : Nat) :
    s.copyWords dst src k = { s with regs := (s.copyWords dst src k).regs } := by
  induction k with
  | zero => rfl
  | succ k ih =>
    rw [State.copyWords_succ, ih]
    rfl

theorem State.copyWords_words (s : State) (dst src : Nat → Nat) (k : Nat) :
    WordsKept (fun a => ∃ i, i < k ∧ a = dst i) s (s.copyWords dst src k) := by
  induction k with
  | zero => exact .of_regs rfl
  | succ k ih =>
    rw [State.copyWords_succ]
    exact (ih.mono fun a ⟨i, hi, ha⟩ => ⟨i, by omega, ha⟩).trans (.setWord _ _ ⟨k, Nat.lt_succ_self k, rfl⟩)

@[simp] theorem State.copyWords_fch (s : State) (dst src : Nat → Nat) (k : Nat) : (s.copyWords dst src k).fch = s.fch := by
  rw [State.copyWords_eq]

/-- A word copied to is the word copied from, where the destinations differ from each other and from every source. -/
theorem State.copyWords_copied (hdst : ∀ i j, i < k → j < k → dst i = dst j → i = j) (hsrc : ∀ i j, i < k → j < k → dst i ≠ src j)
    {i : Nat} (hi : i < k) : (s.copyWords dst src k).word (dst i) = s.word (src i) := by
  induction k with
  | zero => exact absurd hi (Nat.not_lt_zero i)
  | succ k ih =>
    rw [State.copyWords_succ, State.word_setWord]
    by_cases hik : i = k
    · rw [hik, if_pos rfl]
      exact State.copyWords_words s dst src k _ fun ⟨j, hj, he⟩ => hsrc j k (by omega) (Nat.lt_succ_self k) he.symm
    · rw [if_neg fun he => hik (hdst i k hi (Nat.lt_succ_self k) he)]
      exact ih (fun a b ha hb => hdst a b (by omega) (by omega)) (fun a b ha hb => hsrc a b (by omega) (by omega)) (by omega)

end

/-! ## The active bank -/

/-- The 14 words of the active bank, and its 512 coefficients. -/
def bankWords (n : Nat) : Fld := ⟨0x80200 + 0x1000 * n, 0, 32 * 14⟩
def coefWords (n : Nat) : Fld := ⟨0x80800 + 0x1000 * n, 0, 32 * 512⟩

section
variable {n : Fin 16} {s t : State}

theorem ChainOnly.copyWords (s : State) (x : Nat → Fld) {dst src : Nat → Nat} {k : Nat} (hk : 0 < k) (hx : (x n).lo = 0 ∧ (x n).wd = 32 * k)
    (hdst : ∀ i, dst i = (x n).off + 4 * i) : ChainOnly n [x] s (s.copyWords dst src k) := by
  obtain ⟨hlo, hwd⟩ := hx
  have hbase : (x n).base = (x n).off := by simp only [Fld.base, hlo]; omega
  have hwide : 32 ≤ (x n).wd := by omega
  have hwords : (x n).words = k := by simp only [Fld.words, hlo, hwd]; omega
  have kept := s.copyWords_words dst src k
  refine ⟨by rw [State.copyWords_eq], fun m _ => State.fchN_congr (s.copyWords_fch ..) m,
    .of_wordsKept (by rw [hlo]) hwide (kept.mono fun a ⟨i, hi, ha⟩ => ?_), kept.mono fun a ⟨i, hi, ha⟩ => ?_⟩
  · rw [hbase, hwords, ha, hdst]
    omega
  · exact ⟨x, List.mem_singleton_self x, i, by omega, by rw [ha, hdst, hbase]⟩

theorem ChainOnly.takeMN (s : State) (n : Fin 16) : ChainOnly n [R.FCH_MN_ACT_M, R.FCH_MN_ACT_N] s (s.takeMN n) := by
  unfold State.takeMN
  split
  · exact (ChainOnly.setF s R.FCH_MN_ACT_M _).trans (.setF _ R.FCH_MN_ACT_N _)
  · exact (ChainOnly.refl s).mono (by simp)

theorem ChainOnly.syncDelay (s : State) (n : Fin 16) :
    ChainOnly n [R.FCH_GDELAY_GDELAY, R.FCH_STATUS_GD_UNDEF] s (s.syncDelay n) :=
  (ChainOnly.setF s R.FCH_GDELAY_GDELAY _).trans (.setB _ R.FCH_STATUS_GD_UNDEF _)

/-- The state with the words of the shadow bank copied, before what follows them. -/
def State.bankCopied (s : State) (n : Nat) : State :=
  s.copyWords (fun i => 0x80000 + 0x1000 * n + 0x200 + 4 * i) (fun i => 0x80000 + 0x1000 * n + 0x100 + 4 * i) 14

/-- The state with its coefficients copied too. -/
def State.coefCopied (s : State) (n : Nat) : State :=
  (s.bankCopied n).copyWords (fun i => 0x80000 + 0x1000 * n + 0x800 + 4 * i) (fun i => coefOff n i) 512

theorem ChainOnly.bankCopied (s : State) (n : Fin 16) : ChainOnly n [bankWords] s (s.bankCopied n) :=
  .copyWords s bankWords (by decide) ⟨rfl, rfl⟩ fun i => by simp only [bankWords]; omega

theorem ChainOnly.coefCopied (s : State) (n : Fin 16) : ChainOnly n [coefWords] (s.bankCopied n) (s.coefCopied n) :=
  .copyWords _ coefWords (by decide) ⟨rfl, rfl⟩ fun i => by simp only [coefWords]; omega

/-- What follows the words: M, N, the delay and the load. -/
def followFlds : List (Nat → Fld) :=
  [R.FCH_MN_ACT_M, R.FCH_MN_ACT_N, R.FCH_GDELAY_GDELAY, R.FCH_STATUS_GD_UNDEF, fun _ => R.FCH_LOAD]

theorem ChainOnly.bankFollowed (s : State) (n : Fin 16) : ChainOnly n followFlds (s.coefCopied n) (s.copyBank n) :=
  ((ChainOnly.takeMN (s.coefCopied n) n).trans (.syncDelay _ n)).trans (.syncLoad _)

/-- The fields that a copy of the bank may change. -/
def copyFlds : List (Nat → Fld) := bankWords :: coefWords :: followFlds

theorem ChainOnly.copyBank (s : State) (n : Fin 16) : ChainOnly n copyFlds s (s.copyBank n) :=
  ((ChainOnly.bankCopied s n).trans (.coefCopied s n)).trans (.bankFollowed s n)

theorem State.copyBank_fch (s : State) (n : Nat) : (s.copyBank n).fch = s.fch := by
  have mn (t : State) : (t.takeMN n).fch = t.fch := by
    unfold State.takeMN
    split <;> simp
  rw [State.copyBank, State.syncLoad, State.setF_fch, State.syncDelay, State.setB_fch, State.setF_fch, mn, State.copyWords_fch,
    State.copyWords_fch]

theorem State.fchN_copyBank (s : State) (n m : Nat) : (s.copyBank n).fchN m = s.fchN m := State.fchN_congr (s.copyBank_fch n) m

/-- A word in a part of the chain's registers that no field of `xs` touches reads as before. -/
theorem ChainOnly.word_eq {xs : List (Nat → Fld)} (h : ChainOnly n xs s t) {a : Nat} (lo hi : Nat)
    (ha : lo + 0x1000 * n ≤ a ∧ a < hi + 0x1000 * n) (hxs : ChainFlds xs := by intro i; rfl)
    (h0 : hi ≤ 0x81000 ∧ ∀ x ∈ xs.map (fun x => x 0), x.base + 4 * x.words ≤ lo ∨ hi ≤ x.base := by decide) : t.word a = s.word a := by
  refine h.words a fun ⟨x, hx, i, hi, hax⟩ => ?_
  have hmem := List.mem_map_of_mem (f := fun x : Nat → Fld => x n) hx
  rw [hxs n] at hmem
  obtain ⟨x0, hx0, hx0n⟩ := List.mem_map.mp hmem
  have hapart := h0.2 x0 hx0
  rw [← hx0n, Fld.words_ofChain] at hi
  rw [← hx0n, Fld.base_ofChain, chainShift] at hax
  split at hax <;> omega

/-- The active bank after a copy is the shadow bank. -/
theorem State.copyBank_bank (s : State) (n : Fin 16) {i : Nat} (hi : i < 14) :
    (s.copyBank n).word (0x80200 + 0x1000 * n + 4 * i) = s.word (0x80100 + 0x1000 * n + 4 * i) := by
  have copied : (s.bankCopied n).word (0x80000 + 0x1000 * n + 0x200 + 4 * i) = s.word (0x80000 + 0x1000 * n + 0x100 + 4 * i) :=
    State.copyWords_copied (fun _ _ _ _ h => by omega) (fun _ _ _ _ h => by omega) hi
  rw [((ChainOnly.coefCopied s n).trans (.bankFollowed s n)).word_eq 0x80200 0x80238 (by omega)]
  rwa [show 0x80200 + 0x1000 * n.val = 0x80000 + 0x1000 * n + 0x200 by omega,
    show 0x80100 + 0x1000 * n.val = 0x80000 + 0x1000 * n + 0x100 by omega]

/-- The active coefficients after a copy are those of the shadow bank. -/
theorem State.copyBank_coefs (s : State) (n : Fin 16) {i : Nat} (hi : i < 512) :
    (s.copyBank n).word (0x80800 + 0x1000 * n + 4 * i) = s.word (coefOff n i) := by
  have copied : (s.coefCopied n).word (0x80000 + 0x1000 * n + 0x800 + 4 * i) = (s.bankCopied n).word (coefOff n i) :=
    State.copyWords_copied (fun _ _ _ _ h => by omega) (fun _ _ _ _ h => by unfold coefOff at h; split at h <;> omega) hi
  have source : (s.bankCopied n).word (coefOff n i) = s.word (coefOff n i) :=
    s.copyWords_words _ _ _ _ fun ⟨j, hj, he⟩ => by unfold coefOff at he; split at he <;> omega
  rw [(ChainOnly.bankFollowed s n).word_eq 0x80800 0x81000 (by omega),
    show 0x80800 + 0x1000 * n.val = 0x80000 + 0x1000 * n + 0x800 by omega, copied.trans source]

end

end Sys2Proof.Machine
end

section
/-!
PROOF. Filter chains: the end of the checks of an enable or a commit, and the start of a chain (spec/04_filter_chains.md, R126, R134, R136
and R137).
-/
namespace Sys2Proof.Machine

/-! ## The end of the checks, by what was checked -/

section
variable {n : Fin 16} {s : State} {r : Nat}

/-- The state with the checks over and their code in RESULT. -/
def State.checked (s : State) (n r : Nat) : State :=
  ((s.setFch n { s.fchN n with chk := .none }).setB (R.FCH_CTRL_COMMIT n) false).setF (R.FCH_STATUS_RESULT n) r

/-- The state with the shadow bank taken and the next epoch begun. -/
def State.nextBank (s : State) (n : Nat) : State := (s.copyBank n).addWrap (R.FCH_EPOCH_EPOCH n) 1

/-- The chain that waits for the alignment tick. -/
def FchSt.waiting (c : FchSt) : FchSt := dropWindows (clearHist { c with startWait := true, fifo := [] })

/-- The state with a commit pending, late or not. -/
def State.committed (s : State) (n : Nat) (late : Bool) : State :=
  let s3 := (s.setFch n { s.fchN n with late := late }).setB (R.FCH_STATUS_PENDING n) true
  if late then s3.setB (R.FCH_STATUS_LATE_HO n) true else s3

/-- Whether the PTIME of a commit has passed (R134). -/
def State.commitLate (s : State) (n : Nat) : Bool := (s.fchN n).atPtime && decide ((s.fchN n).hoPtime < s.now)

theorem fchChecksDone_enable_fails (h : (s.fchN n).chk = .enable) (hr : s.fchChecks n true ≠ stOk) :
    fchChecksDone n s = (s.checked n (s.fchChecks n true)).setB (R.FCH_CTRL_EN n) false := by
  unfold fchChecksDone
  dsimp only
  rw [h]
  exact if_pos (by simp [hr])

theorem fchChecksDone_enable_passes (h : (s.fchN n).chk = .enable) (hr : s.fchChecks n true = stOk) : fchChecksDone n s =
    (((s.checked n (s.fchChecks n true)).nextBank n).setFch n
      (((s.checked n (s.fchChecks n true)).nextBank n).fchN n).waiting).syncLoad := by
  unfold fchChecksDone
  dsimp only
  rw [h]
  exact if_neg (by simp [hr])

theorem fchChecksDone_commit_fails (h : (s.fchN n).chk = .commit) (hr : s.fchChecks n (s.fchOn n) ≠ stOk) :
    fchChecksDone n s = s.checked n (s.fchChecks n (s.fchOn n)) := by
  unfold fchChecksDone
  dsimp only
  rw [h]
  exact if_pos (by simp [hr])

theorem fchChecksDone_commit_copies (h : (s.fchN n).chk = .commit) (hr : s.fchChecks n (s.fchOn n) = stOk) (hoff : s.fchOn n = false) :
    fchChecksDone n s = (s.checked n (s.fchChecks n (s.fchOn n))).copyBank n := by
  unfold fchChecksDone
  dsimp only
  rw [h]
  exact (if_neg (by simp [hr])).trans (if_pos (by simp [hoff]))

theorem fchChecksDone_commit_pends (h : (s.fchN n).chk = .commit) (hr : s.fchChecks n (s.fchOn n) = stOk) (hon : s.fchOn n = true) :
    fchChecksDone n s = (s.checked n (s.fchChecks n (s.fchOn n))).committed n (s.commitLate n) := by
  unfold fchChecksDone
  dsimp only
  rw [h]
  exact (if_neg (by simp [hr])).trans (if_neg (by simp [hon]))

/-! ## What each end leaves -/

/-- Every code of the checks fits in RESULT. -/
theorem State.fchChecks_lt (s : State) (n : Nat) (capacity : Bool) : s.fchChecks n capacity < 2 ^ 8 := by
  unfold State.fchChecks
  dsimp only
  split_ifs
  iterate 3 decide
  split
  · decide
  · split_ifs <;> decide

theorem ChainOnly.checked (s : State) (n : Fin 16) (r : Nat) :
    ChainOnly n [R.FCH_CTRL_COMMIT, R.FCH_STATUS_RESULT] s (s.checked n r) :=
  ((ChainOnly.setFch ..).trans (.setB _ R.FCH_CTRL_COMMIT false)).trans (.setF _ R.FCH_STATUS_RESULT r)

theorem State.fchN_checked (s : State) (n r : Nat) : (s.checked n r).fchN n = { s.fchN n with chk := .none } := by
  rw [State.checked, State.fchN_setF, State.fchN_setB, State.fchN_setFch]

/-- The outcome of checks as their registers show it. -/
structure ChecksShown (n r : Nat) (t : State) : Prop where
  commit : t.flag (R.FCH_CTRL_COMMIT n) = false
  result : t.f (R.FCH_STATUS_RESULT n) = r
  chk : (t.fchN n).chk = .none

theorem ChecksShown.checked (s : State) (n : Fin 16) (hr : r < 2 ^ 8) : ChecksShown n r (s.checked n r) := by
  refine ⟨?_, (State.f_setF_self ..).trans (Nat.mod_eq_of_lt hr), by rw [State.fchN_checked]⟩
  exact ((ChainOnly.setF _ R.FCH_STATUS_RESULT r).flag_eq R.FCH_CTRL_COMMIT).trans
    (State.flag_setB_self _ (R.FCH_CTRL_COMMIT n) false Nat.one_pos)

/-- What follows the checks and leaves COMMIT and RESULT alone shows their outcome. -/
theorem ChecksShown.of_only {xs : List (Nat → Fld)} {t u : State} (h : ChecksShown n r t) (only : ChainOnly n xs t u)
    (hchk : (u.fchN n).chk = (t.fchN n).chk) (hxs : ChainFlds xs := by intro i; rfl)
    (hapart : ∀ y ∈ [R.FCH_CTRL_COMMIT 0, R.FCH_STATUS_RESULT 0], ∀ x ∈ xs.map (fun x => x 0), x.apart y := by
      unfold Fld.apart; decide) : ChecksShown n r u :=
  ⟨(only.flag_eq R.FCH_CTRL_COMMIT hxs (fun _ => rfl) ⟨by decide, hapart _ (by decide)⟩).trans h.commit,
    (only.f_eq R.FCH_STATUS_RESULT hxs (fun _ => rfl) ⟨by decide, hapart _ (by decide)⟩).trans h.result, hchk.trans h.chk⟩

/-- The words of the shadow bank read after the checks as before. -/
theorem State.checked_shadow (s : State) (n : Fin 16) (r : Nat) {i : Nat} (hi : i < 14) :
    (s.checked n r).word (0x80100 + 0x1000 * n + 4 * i) = s.word (0x80100 + 0x1000 * n + 4 * i) :=
  (ChainOnly.checked s n r).word_eq 0x80100 0x80138 (by omega)

theorem ChainOnly.nextBank (s : State) (n : Fin 16) : ChainOnly n (copyFlds ++ [R.FCH_EPOCH_EPOCH]) s (s.nextBank n) :=
  (ChainOnly.copyBank s n).trans (.addWrap _ R.FCH_EPOCH_EPOCH 1)

theorem State.fchN_nextBank (s : State) (n m : Nat) : (s.nextBank n).fchN m = s.fchN m := by
  rw [State.nextBank, State.fchN_addWrap, State.fchN_copyBank]

/-- A copy of the bank leaves the epoch alone, and the next bank moves it by one. -/
theorem State.nextBank_epoch (s : State) (n : Fin 16) :
    (s.nextBank n).f (R.FCH_EPOCH_EPOCH n) = (s.f (R.FCH_EPOCH_EPOCH n) + 1) % 2 ^ 16 := by
  rw [State.nextBank, State.f_addWrap_self, (ChainOnly.copyBank s n).f_eq R.FCH_EPOCH_EPOCH]
  rfl

theorem ChainOnly.committed (s : State) (n : Fin 16) (late : Bool) :
    ChainOnly n [R.FCH_STATUS_PENDING, R.FCH_STATUS_LATE_HO] s (s.committed n late) := by
  have pend : ChainOnly n [R.FCH_STATUS_PENDING] s
      ((s.setFch n { s.fchN n with late := late }).setB (R.FCH_STATUS_PENDING n) true) :=
    (ChainOnly.setFch ..).trans (.setB _ R.FCH_STATUS_PENDING true)
  exact .ite (pend.trans (.setB _ R.FCH_STATUS_LATE_HO true)) (pend.mono (by simp))

theorem State.fchN_committed (s : State) (n : Nat) (late : Bool) : (s.committed n late).fchN n = { s.fchN n with late := late } := by
  unfold State.committed
  dsimp only
  split <;> simp

/-- A commit that passes is pending, and LATE_HO shows a late one. -/
theorem State.committed_spec (s : State) (n : Fin 16) (late : Bool) : (s.committed n late).flag (R.FCH_STATUS_PENDING n) = true ∧
    (s.committed n late).flag (R.FCH_STATUS_LATE_HO n) = (s.flag (R.FCH_STATUS_LATE_HO n) || late) := by
  have hpend : ((s.setFch n { s.fchN n with late := late }).setB (R.FCH_STATUS_PENDING n) true).flag (R.FCH_STATUS_PENDING n) = true :=
    State.flag_setB_self _ _ _ Nat.one_pos
  have pend : ChainOnly n [R.FCH_STATUS_PENDING] s
      ((s.setFch n { s.fchN n with late := late }).setB (R.FCH_STATUS_PENDING n) true) :=
    (ChainOnly.setFch ..).trans (.setB _ R.FCH_STATUS_PENDING true)
  cases late with
  | false => exact ⟨hpend, (pend.flag_eq R.FCH_STATUS_LATE_HO).trans (Bool.or_false _).symm⟩
  | true =>
    refine ⟨((ChainOnly.setB _ R.FCH_STATUS_LATE_HO true).flag_eq R.FCH_STATUS_PENDING).trans hpend, ?_⟩
    exact (State.flag_setB_self _ (R.FCH_STATUS_LATE_HO n) true Nat.one_pos).trans (Bool.or_true _).symm

end

/-! ## The end of the checks as commands -/

section
variable {n : Fin 16} {s : State}

theorem enableChecks_end (h : (s.fchN n).chk = .enable) :
    let r := s.fchChecks n true
    Ends (exec (.fchChecksDone n) s) fun t => ChecksShown n r t ∧
      (r ≠ stOk → t.flag (R.FCH_CTRL_EN n) = false ∧ (t.fchN n).startWait = (s.fchN n).startWait ∧
        WordsKept (fun o => o = 0x80000 + 0x1000 * n ∨ o = 0x80004 + 0x1000 * n) s t) ∧
      (r = stOk → t.f (R.FCH_EPOCH_EPOCH n) = (s.f (R.FCH_EPOCH_EPOCH n) + 1) % 2 ^ 16 ∧ (t.fchN n).startWait = true ∧
        (t.fchN n).hb = [] ∧ (t.fchN n).fir = [] ∧
        (∀ i, i < 14 → t.word (0x80200 + 0x1000 * n + 4 * i) = s.word (0x80100 + 0x1000 * n + 4 * i))) := by
  intro r
  have checked := ChainOnly.checked s n r
  have shown := ChecksShown.checked s n (s.fchChecks_lt n true)
  have hchan := s.fchN_checked n r
  by_cases hr : r = stOk
  · have copy := ChainOnly.copyBank (s.checked n r) n
    have only : ChainOnly n [fun _ => R.FCH_LOAD] ((s.checked n r).nextBank n)
        (((s.checked n r).nextBank n).setFch n (((s.checked n r).nextBank n).fchN n).waiting).syncLoad :=
      (ChainOnly.setFch ..).trans (.syncLoad _)
    refine ⟨_, congrArg Host.Outcome.next (fchChecksDone_enable_passes h hr), shown.of_only ((ChainOnly.nextBank _ n).trans only) ?_,
      fun hne => absurd hr hne, fun _ => ⟨?_, ?_, ?_, ?_, fun i hi => ?_⟩⟩
    · rw [State.fchN_syncLoad, State.fchN_setFch, State.fchN_nextBank]
      rfl
    · rw [only.f_eq R.FCH_EPOCH_EPOCH, State.nextBank_epoch, checked.f_eq R.FCH_EPOCH_EPOCH]
    iterate 3 rw [State.fchN_syncLoad, State.fchN_setFch]; rfl
    · rw [((ChainOnly.addWrap _ R.FCH_EPOCH_EPOCH 1).trans only).word_eq 0x80200 0x80238 (by omega), State.copyBank_bank _ n hi,
        State.checked_shadow s n r hi]
  · have off := ChainOnly.setB (n := n) (s.checked n r) R.FCH_CTRL_EN false
    refine ⟨_, congrArg Host.Outcome.next (fchChecksDone_enable_fails h hr), shown.of_only off (by rw [State.fchN_setB]),
      fun _ => ⟨State.flag_setB_self _ _ _ Nat.one_pos, ?_, ?_⟩, fun heq => absurd heq hr⟩
    · rw [State.fchN_setB, hchan]
    · exact ((checked.trans off).wordsKept [0x80000, 0x80004]).mono (by simp [chainShift])

theorem commitChecks_end (h : (s.fchN n).chk = .commit) :
    let r := s.fchChecks n (s.fchOn n)
    Ends (exec (.fchChecksDone n) s) fun t => ChecksShown n r t ∧ t.f (R.FCH_EPOCH_EPOCH n) = s.f (R.FCH_EPOCH_EPOCH n) ∧
      (r ≠ stOk → WordsKept (fun o => o = 0x80000 + 0x1000 * n ∨ o = 0x80004 + 0x1000 * n) s t) ∧
      (r = stOk → s.fchOn n = true → t.flag (R.FCH_STATUS_PENDING n) = true ∧
        t.flag (R.FCH_STATUS_LATE_HO n) =
          (s.flag (R.FCH_STATUS_LATE_HO n) || ((s.fchN n).atPtime && decide ((s.fchN n).hoPtime < s.now))) ∧
        WordsKept (fun o => o = 0x80000 + 0x1000 * n ∨ o = 0x80004 + 0x1000 * n) s t) ∧
      (r = stOk → s.fchOn n = false → t.flag (R.FCH_STATUS_PENDING n) = s.flag (R.FCH_STATUS_PENDING n) ∧
        ∀ i, i < 14 → t.word (0x80200 + 0x1000 * n + 4 * i) = s.word (0x80100 + 0x1000 * n + 4 * i)) := by
  intro r
  have checked := ChainOnly.checked s n r
  have shown := ChecksShown.checked s n (s.fchChecks_lt n (s.fchOn n))
  by_cases hr : r = stOk
  · cases hon : s.fchOn n with
    | false =>
      have copy := ChainOnly.copyBank (s.checked n r) n
      have both := checked.trans copy
      refine ⟨_, congrArg Host.Outcome.next (fchChecksDone_commit_copies h hr hon), shown.of_only copy (by rw [State.fchN_copyBank]),
        both.f_eq R.FCH_EPOCH_EPOCH, fun hne => absurd hr hne, fun _ hyes => absurd hyes Bool.false_ne_true,
        fun _ _ => ⟨both.flag_eq R.FCH_STATUS_PENDING, fun i hi => ?_⟩⟩
      exact (State.copyBank_bank _ n hi).trans (State.checked_shadow s n r hi)
    | true =>
      have pend := ChainOnly.committed (s.checked n r) n (s.commitLate n)
      obtain ⟨hpend, hlate⟩ := (s.checked n r).committed_spec n (s.commitLate n)
      have both := checked.trans pend
      refine ⟨_, congrArg Host.Outcome.next (fchChecksDone_commit_pends h hr hon), shown.of_only pend (by rw [State.fchN_committed]),
        both.f_eq R.FCH_EPOCH_EPOCH, fun hne => absurd hr hne, fun _ _ => ⟨hpend, ?_, ?_⟩, fun _ hno => absurd hno.symm Bool.false_ne_true⟩
      · rw [hlate, checked.flag_eq R.FCH_STATUS_LATE_HO, State.commitLate]
      · exact (both.wordsKept [0x80000, 0x80004]).mono (by simp [chainShift])
  · exact ⟨_, congrArg Host.Outcome.next (fchChecksDone_commit_fails h hr), shown, checked.f_eq R.FCH_EPOCH_EPOCH,
      fun _ => (checked.wordsKept [0x80000, 0x80004]).mono (by simp [chainShift]), fun heq => absurd heq hr, fun heq => absurd heq hr⟩

end

/-! ## The start (R137) -/

/-- The multiple of `g` at or above `k`. -/
theorem alignUp_spec (k : Nat) {g : Nat} (hg : 0 < g) : k ≤ alignUp k g ∧ alignUp k g < k + g ∧ alignUp k g % g = 0 := by
  have hceil : alignUp k g = (k + g - 1) / g * g := congrArg (· * g) (if_neg (Nat.pos_iff_ne_zero.mp hg))
  have hdiv := Nat.div_add_mod (k + g - 1) g
  have hmod := Nat.mod_lt (k + g - 1) hg
  rw [Nat.mul_comm] at hdiv
  rw [hceil]
  exact ⟨by omega, by omega, Nat.mul_mod_left ..⟩

section
variable {n : Fin 16} {s : State}

/-- The chain at its start. -/
def State.startedChain (s : State) (n : Nat) : FchSt :=
  { s.fchN n with startWait := false, nextIdx := s.clk.sampleIdx, nextE := alignUp s.clk.sampleIdx (2 * s.actD n),
                  phase := s.f (act (R.FCH_NCO_POFS n)) * 2 ^ 32, lefts := [(s.settleCount n, fUNSETTLED)],
                  srcs := [(s.clk.sampleIdx, s.f (act (R.FCH_SRC_SRC n)))], fifo := [], shadowIn := [], handed := false, pb := [],
                  pbPos := 0, pbSkip := 0 }

theorem fchStart_starts (hwait : (s.fchN n).startWait = true) (ht : s.atTick = true) :
    fchStart n s = ((s.setFch n (s.startedChain n)).setB (R.FCH_STATUS_RUNNING n) true).syncLoad := if_neg (by simp [hwait, ht])

end

end Sys2Proof.Machine

open Sys2Proof Sys2Proof.Machine

/-- Settles O25: the end of the checks by what was checked and by their code, and the start by the chain that it sets up. -/
theorem chainChecksAndStart : Obligations.ChainChecksAndStart := by
  unfold Obligations.ChainChecksAndStart
  refine ⟨fun n s h => ?_, fun n s h => ?_, fun n s hwait ht => ?_⟩
  · obtain ⟨t, hexec, shown, hends⟩ := enableChecks_end h
    exact ⟨t, hexec, shown.commit, shown.result, shown.chk, hends⟩
  · obtain ⟨t, hexec, shown, hends⟩ := commitChecks_end h
    exact ⟨t, hexec, shown.commit, shown.result, shown.chk, hends⟩
  · have load := ChainOnly.syncLoad (n := n) ((s.setFch n (s.startedChain n)).setB (R.FCH_STATUS_RUNNING n) true)
    have only := ((ChainOnly.setFch s n (s.startedChain n)).trans (.setB _ R.FCH_STATUS_RUNNING true)).trans load
    have hchan : (((s.setFch n (s.startedChain n)).setB (R.FCH_STATUS_RUNNING n) true).syncLoad).fchN n = s.startedChain n := by simp
    refine ⟨_, congrArg Host.Outcome.next (fchStart_starts hwait ht), ?_, by rw [hchan]; rfl, by rw [hchan]; rfl, fun hd => ?_,
      by rw [hchan]; rfl, by rw [hchan]; rfl, only.others, only.fields, only.eq⟩
    · exact (load.flag_eq R.FCH_STATUS_RUNNING).trans (State.flag_setB_self _ _ _ Nat.one_pos)
    · rw [hchan]
      exact alignUp_spec _ (by omega)
end

section
/-!
PROOF. Filter chains: the hand-over to the next bank and the outputs of a chain (spec/04_filter_chains.md, R113 to R119, R123 and R128 to
R132).
-/
namespace Sys2Proof.Machine

/-! ## Detector results (R124) -/

section
variable {n : Fin 16} {s : State}

def detFlds : List (Nat → Fld) := [R.FCH_DET_PK, R.FCH_DET_RMS, R.FCH_DET_ENV]

theorem ChainOnly.detResult (s : State) (n : Fin 16) (d : DetRes) : ChainOnly n detFlds s (s.detResult n d) := by
  have set (x : Nat → Fld) (hx : x ∈ detFlds) (v : Nat) : ChainOnly n detFlds s (s.setF (x n) v) :=
    (ChainOnly.setF s x v).mono (by simpa using hx)
  unfold State.detResult
  dsimp only
  generalize (if d.part then 2 ^ 24 else 0) = part
  by_cases h0 : d.det = 0
  · simp only [h0]
    exact set R.FCH_DET_PK (by simp [detFlds]) _
  · by_cases h1 : d.det = 1
    · simp only [h1]
      exact set R.FCH_DET_RMS (by simp [detFlds]) _
    · simp only [beq_eq_false_iff_ne.mpr h0, beq_eq_false_iff_ne.mpr h1]
      exact set R.FCH_DET_ENV (by simp [detFlds]) _

theorem State.detResult_fch (s : State) (n : Nat) (d : DetRes) : (s.detResult n d).fch = s.fch := State.setF_fch ..

/-- The state with detector results in their registers. -/
def State.detResults (s : State) (n : Nat) (ds : List DetRes) : State := ds.foldl (fun (t : State) d => t.detResult n d) s

theorem ChainOnly.detResults (s : State) (n : Fin 16) (ds : List DetRes) : ChainOnly n detFlds s (s.detResults n ds) :=
  foldl_keeps (P := fun t => ChainOnly n detFlds s t) (fun t d _ h => (h.trans (.detResult t n d)).mono (by simp))
    ((ChainOnly.refl s).mono (List.nil_subset _))

theorem State.fchN_detResults (s : State) (n m : Nat) (ds : List DetRes) : (s.detResults n ds).fchN m = s.fchN m :=
  State.fchN_congr (foldl_keeps (P := fun t => t.fch = s.fch) (fun t d _ h => (t.detResult_fch n d).trans h) rfl) m

end

/-! ## The chain past its hand-over (R128, R129, R131 and R132) -/

/-- The chain with its next output at `e`, the outputs of the new bank marked, and its input from the new source. -/
def FchSt.handOver (c : FchSt) (e : Nat) (mark : Nat × Nat) (old new now : Nat) : FchSt :=
  let c2 := (dropWindows { c with nextE := e, lefts := mark :: c.lefts, handed := true, late := false }).newSource old new now
  if c.flush then clearHist c2 else c2

section
variable (c : FchSt) (e : Nat) (mark : Nat × Nat) (old new now : Nat)

theorem FchSt.newSource_keeps : (c.newSource old new now).hb = c.hb ∧ (c.newSource old new now).fir = c.fir ∧
    (c.newSource old new now).lefts = c.lefts ∧ (c.newSource old new now).nextE = c.nextE ∧ (c.newSource old new now).handed = c.handed := by
  unfold FchSt.newSource
  split_ifs <;> exact ⟨rfl, rfl, rfl, rfl, rfl⟩

theorem FchSt.handOver_next : (c.handOver e mark old new now).nextE = e ∧ (c.handOver e mark old new now).lefts = mark :: c.lefts ∧
    (c.handOver e mark old new now).handed = true := by
  obtain ⟨-, -, hlefts, hnext, hhanded⟩ := FchSt.newSource_keeps
    (dropWindows { c with nextE := e, lefts := mark :: c.lefts, handed := true, late := false }) old new now
  unfold FchSt.handOver
  dsimp only
  split <;> exact ⟨hnext, hlefts, hhanded⟩

theorem FchSt.handOver_flushed (h : c.flush = true) : (c.handOver e mark old new now).hb = [] ∧
    (c.handOver e mark old new now).fir = [] ∧ (c.handOver e mark old new now).env = 0 := by
  unfold FchSt.handOver
  rw [if_pos h]
  exact ⟨rfl, rfl, rfl⟩

theorem FchSt.handOver_kept (h : c.flush = false) : (c.handOver e mark old new now).hb = c.hb ∧
    (c.handOver e mark old new now).fir = c.fir := by
  obtain ⟨hhb, hfir, -⟩ := FchSt.newSource_keeps
    (dropWindows { c with nextE := e, lefts := mark :: c.lefts, handed := true, late := false }) old new now
  unfold FchSt.handOver
  rw [if_neg (ne_true_of_eq_false h)]
  exact ⟨hhb, hfir⟩

end

/-! ## The registers past a hand-over (R129, R130) -/

section
variable {n : Fin 16} {s t : State}

/-- The state with the results of the cut windows, the next bank and HO_INDEX. -/
def State.bankHanded (s : State) (n : Nat) : State :=
  ((s.detResults n (s.cutWindows n)).nextBank n).setF (R.FCH_HO_INDEX n) (s.fchN n).nextE

/-- The state with FLUSH cleared where the commit asked for it. -/
def State.flushTaken (s : State) (n : Nat) : State := if (s.fchN n).flush then s.setB (R.FCH_CTRL_FLUSH n) false else s

/-- The mark of the outputs of the bank in use. -/
def State.bankMark (s : State) (n : Nat) : Nat × Nat := (s.settleCount n, if (s.fchN n).flush then fUNSETTLED else fTRANSIENT)

/-- The chain past its hand-over, from the state before it and the state with the next bank. -/
def State.handedChain (s t : State) (n : Nat) : FchSt :=
  (t.fchN n).handOver (alignUp (s.fchN n).nextE (2 * t.actD n)) (t.bankMark n) (s.f (act (R.FCH_SRC_SRC n)))
    (t.f (act (R.FCH_SRC_SRC n))) s.clk.sampleIdx

theorem State.chainHandOver_eq (s : State) (n : Nat) : s.chainHandOver n =
    (((s.bankHanded n).flushTaken n).setFch n (s.handedChain (s.bankHanded n) n), s.cutWindows n) := by
  have hcut := s.fchN_detResults n n (s.cutWindows n)
  unfold State.detResults at hcut
  unfold State.chainHandOver State.handedChain State.bankHanded State.detResults
  rw [← hcut]
  rfl

theorem State.fchN_bankHanded (s : State) (n m : Nat) : (s.bankHanded n).fchN m = s.fchN m := by
  rw [State.bankHanded, State.fchN_setF, State.fchN_nextBank, State.fchN_detResults]

/-- The fields that a hand-over may change before it clears FLUSH. -/
def handFlds : List (Nat → Fld) := detFlds ++ (copyFlds ++ [R.FCH_EPOCH_EPOCH]) ++ [R.FCH_HO_INDEX]

theorem ChainOnly.bankHanded (s : State) (n : Fin 16) : ChainOnly n handFlds s (s.bankHanded n) :=
  ((ChainOnly.detResults s n _).trans (.nextBank _ n)).trans (.setF _ R.FCH_HO_INDEX _)

/-- What a hand-over does after the registers of the next bank. -/
theorem ChainOnly.handedOver (s : State) (n : Fin 16) : ChainOnly n [R.FCH_CTRL_FLUSH] (s.bankHanded n) (s.chainHandOver n).1 := by
  rw [State.chainHandOver_eq]
  have flush : ChainOnly n [R.FCH_CTRL_FLUSH] (s.bankHanded n) ((s.bankHanded n).flushTaken n) :=
    .ite (.setB _ R.FCH_CTRL_FLUSH false) ((ChainOnly.refl _).mono (List.nil_subset _))
  exact flush.trans (.setFch ..)

theorem ChainOnly.chainHandOver (s : State) (n : Fin 16) : ChainOnly n (handFlds ++ [R.FCH_CTRL_FLUSH]) s (s.chainHandOver n).1 :=
  (ChainOnly.bankHanded s n).trans (.handedOver s n)

theorem State.fchN_chainHandOver (s : State) (n : Nat) : ((s.chainHandOver n).1).fchN n = s.handedChain (s.bankHanded n) n := by
  rw [State.chainHandOver_eq, State.fchN_setFch]

theorem State.chainHandOver_epoch (s : State) (n : Fin 16) :
    (s.chainHandOver n).1.f (R.FCH_EPOCH_EPOCH n) = (s.f (R.FCH_EPOCH_EPOCH n) + 1) % 2 ^ 16 := by
  have after := (ChainOnly.setF ((s.detResults n (s.cutWindows n)).nextBank n) R.FCH_HO_INDEX (s.fchN n).nextE).trans (.handedOver s n)
  rw [after.f_eq R.FCH_EPOCH_EPOCH, State.nextBank_epoch, (ChainOnly.detResults s n _).f_eq R.FCH_EPOCH_EPOCH]

theorem State.chainHandOver_index (s : State) (n : Fin 16) :
    (s.chainHandOver n).1.f (R.FCH_HO_INDEX n) = (s.fchN n).nextE % 2 ^ 64 :=
  ((ChainOnly.handedOver s n).f_eq R.FCH_HO_INDEX).trans (State.f_setF_self ..)

theorem State.chainHandOver_flush (h : (s.fchN n).flush = true) : (s.chainHandOver n).1.flag (R.FCH_CTRL_FLUSH n) = false := by
  have flush : (s.bankHanded n).flushTaken n = (s.bankHanded n).setB (R.FCH_CTRL_FLUSH n) false :=
    if_pos (by rw [State.fchN_bankHanded, h])
  rw [State.chainHandOver_eq, State.flag_setFch, flush]
  exact State.flag_setB_self _ _ _ Nat.one_pos

/-- What a hand-over does after it has copied the bank. -/
theorem ChainOnly.bankTaken (s : State) (n : Fin 16) : ChainOnly n [R.FCH_EPOCH_EPOCH, R.FCH_HO_INDEX, R.FCH_CTRL_FLUSH]
    ((s.detResults n (s.cutWindows n)).copyBank n) (s.chainHandOver n).1 :=
  ((ChainOnly.addWrap _ R.FCH_EPOCH_EPOCH 1).trans (.setF _ R.FCH_HO_INDEX _)).trans (.handedOver s n)

theorem State.chainHandOver_bank (s : State) (n : Fin 16) {i : Nat} (hi : i < 14) :
    (s.chainHandOver n).1.word (0x80200 + 0x1000 * n + 4 * i) = s.word (0x80100 + 0x1000 * n + 4 * i) := by
  rw [(ChainOnly.bankTaken s n).word_eq 0x80200 0x80238 (by omega), State.copyBank_bank _ n hi,
    (ChainOnly.detResults s n _).word_eq 0x80100 0x80138 (by omega)]

/-- A word past the chains' registers reads as before what touches no such word. -/
theorem ChainOnly.far_word {xs : List (Nat → Fld)} (h : ChainOnly n xs s t) {a : Nat} (ha : 0x100000 ≤ a)
    (hxs : ChainFlds xs := by intro i; rfl)
    (h0 : ∀ x ∈ xs.map (fun x => x 0), x.base + 4 * x.words ≤ 0x90000 := by decide) : t.word a = s.word a := by
  refine h.words a fun ⟨x, hx, i, hi, hax⟩ => ?_
  have hmem := List.mem_map_of_mem (f := fun x : Nat → Fld => x n) hx
  rw [hxs n] at hmem
  obtain ⟨x0, hx0, hx0n⟩ := List.mem_map.mp hmem
  have hin := h0 x0 hx0
  rw [← hx0n, Fld.words_ofChain] at hi
  rw [← hx0n, Fld.base_ofChain, chainShift] at hax
  split at hax <;> omega

theorem State.chainHandOver_coefs (s : State) (n : Fin 16) {i : Nat} (hi : i < 512) :
    (s.chainHandOver n).1.word (0x80800 + 0x1000 * n + 4 * i) = s.word (coefOff n i) := by
  have source : (s.detResults n (s.cutWindows n)).word (coefOff n i) = s.word (coefOff n i) := by
    unfold coefOff
    split
    · exact (ChainOnly.detResults s n _).word_eq 0x80400 0x80800 (by omega)
    · exact (ChainOnly.detResults s n _).far_word (by omega)
  rw [(ChainOnly.bankTaken s n).word_eq 0x80800 0x81000 (by omega), State.copyBank_coefs _ n hi, source]

/-! ## The grid and the marks of the new bank (R128, R131) -/

theorem channelFld_act {x : Nat → Fld} (h : ChannelFld x) : ChannelFld (fun i => act (x i)) := fun i => by
  refine (congrArg act (h i)).trans ?_
  simp only [act, Fld.shift]
  congr 1
  omega

theorem State.chainHandOver_actD (s : State) (n : Fin 16) : (s.chainHandOver n).1.actD n = (s.bankHanded n).actD n := by
  have after := ChainOnly.handedOver s n
  unfold State.actD
  rw [after.f_eq R.FCH_MN_ACT_M, after.f_eq R.FCH_MN_ACT_N]

theorem State.chainHandOver_settleCount (s : State) (n : Fin 16) : (s.chainHandOver n).1.settleCount n = (s.bankHanded n).settleCount n := by
  have after := ChainOnly.handedOver s n
  unfold State.settleCount State.actSpan
  rw [State.chainHandOver_actD, after.f_eq R.FCH_MN_ACT_M,
    after.f_eq (fun i => act (R.FCH_FIR_TAPS i)) (hy := channelFld_act fun _ => rfl)]

theorem State.chainHandOver_next (s : State) (n : Fin 16) : ((s.chainHandOver n).1.fchN n).nextE =
    alignUp (s.fchN n).nextE (2 * (s.chainHandOver n).1.actD n) := by
  rw [State.fchN_chainHandOver, State.chainHandOver_actD]
  exact (FchSt.handOver_next ..).1

theorem State.chainHandOver_lefts (s : State) (n : Fin 16) : ((s.chainHandOver n).1.fchN n).lefts =
    ((s.chainHandOver n).1.settleCount n, if (s.fchN n).flush then fUNSETTLED else fTRANSIENT) :: (s.fchN n).lefts := by
  rw [State.fchN_chainHandOver, State.chainHandOver_settleCount, State.handedChain, (FchSt.handOver_next ..).2.1, State.bankMark,
    State.fchN_bankHanded]

theorem State.chainHandOver_flushed (h : (s.fchN n).flush = true) : ((s.chainHandOver n).1.fchN n).hb = [] ∧
    ((s.chainHandOver n).1.fchN n).fir = [] ∧ ((s.chainHandOver n).1.fchN n).env = 0 := by
  rw [State.fchN_chainHandOver]
  exact FchSt.handOver_flushed _ _ _ _ _ _ (by rw [State.fchN_bankHanded, h])

theorem State.chainHandOver_unflushed (h : (s.fchN n).flush = false) : ((s.chainHandOver n).1.fchN n).hb = (s.fchN n).hb ∧
    ((s.chainHandOver n).1.fchN n).fir = (s.fchN n).fir := by
  rw [State.fchN_chainHandOver, State.handedChain, State.fchN_bankHanded]
  exact FchSt.handOver_kept _ _ _ _ _ _ h

/-! ## PENDING to the end of the control cycle (R130) -/

theorem State.handOverDue_pending (h : s.handOverDue n = true) : s.flag (R.FCH_STATUS_PENDING n) = true := by
  unfold State.handOverDue at h
  simp only [Bool.and_eq_true] at h
  obtain ⟨⟨⟨hpend, -⟩, -⟩, -⟩ := h
  exact hpend

/-- The end of a hand-over in chain `n`. -/
def State.handOverOver (s : State) (n : Nat) : State :=
  if (s.fchN n).handed then (s.setFch n { s.fchN n with handed := false }).setB (R.FCH_STATUS_PENDING n) false else s

theorem ChainOnly.handOverOver (s : State) (n : Fin 16) : ChainOnly n [R.FCH_STATUS_PENDING] s (s.handOverOver n) :=
  .ite ((ChainOnly.setFch ..).trans (.setB _ R.FCH_STATUS_PENDING false)) ((ChainOnly.refl s).mono (List.nil_subset _))

/-- The end of a hand-over leaves another chain and its PENDING alone. -/
theorem State.handOverOver_other {j : Nat} (hj : j < 16) (hne : j ≠ n.val) : (s.handOverOver j).fchN n = s.fchN n ∧
    (s.handOverOver j).flag (R.FCH_STATUS_PENDING n) = s.flag (R.FCH_STATUS_PENDING n) := by
  have only : ChainOnly ⟨j, hj⟩ [R.FCH_STATUS_PENDING] s (s.handOverOver j) := .handOverOver s ⟨j, hj⟩
  refine ⟨only.others n (Ne.symm hne), State.flag_congr ((only.wordsKept [0x80004]).f_eq fun a h1 h2 ⟨o, ho, ha⟩ => ?_)⟩
  rw [List.mem_singleton.mp ho, chainShift, if_pos (by decide)] at ha
  dsimp only at ha
  simp only [R.FCH_STATUS_PENDING, Fld.base, Fld.words] at h1 h2
  omega

theorem State.fchTick_pending (h : (s.fchN n).handed = true) : s.fchTick.flag (R.FCH_STATUS_PENDING n) = false := by
  refine foldl_reaches (f := State.handOverOver) (Q := fun t => (t.fchN n).handed = true)
    (P := fun t => t.flag (R.FCH_STATUS_PENDING n) = false) List.nodup_range (List.mem_range.mpr n.isLt) (fun t j hj hne ht => ?_)
    (fun t ht => ?_) (fun t j hj hne ht => ?_) h
  · rwa [(State.handOverOver_other (List.mem_range.mp hj) hne).1]
  · rw [State.handOverOver, if_pos ht]
    exact State.flag_setB_self _ _ _ Nat.one_pos
  · rwa [(State.handOverOver_other (List.mem_range.mp hj) hne).2]

theorem State.chainHandOver_pending (h : s.handOverDue n = true) :
    (s.chainHandOver n).1.flag (R.FCH_STATUS_PENDING n) = true ∧
    (s.chainHandOver n).1.fchTick.flag (R.FCH_STATUS_PENDING n) = false := by
  refine ⟨((ChainOnly.chainHandOver s n).flag_eq R.FCH_STATUS_PENDING).trans (State.handOverDue_pending h), State.fchTick_pending ?_⟩
  rw [State.fchN_chainHandOver]
  exact (FchSt.handOver_next ..).2.2

end

/-! ## The input of an output (R101, R102 and R104 to R107) -/

section
variable {n : Fin 16} {s : State}

theorem State.takeSample_nextE (s : State) (n : Nat) (cs : ChainSet) (c : FchSt) (k : Nat) (x : Int) :
    (s.takeSample n cs c k x).nextE = c.nextE := by
  unfold State.takeSample
  dsimp only
  split
  · rfl
  · split <;> rfl

theorem State.takeQueued_nextE (s : State) (n : Nat) (cs : ChainSet) (upto : Nat) (xs : List (Nat × Int)) (c : FchSt) :
    (s.takeQueued n cs upto xs c).nextE = c.nextE := by
  induction xs generalizing c with
  | nil => rfl
  | cons x xs ih =>
    obtain ⟨k, v⟩ := x
    unfold State.takeQueued
    split
    · rfl
    · rw [ih, State.takeSample_nextE]

def playFlds : List (Nat → Fld) := [R.FCH_PB_UNDERRUN, R.FCH_STATUS_UNDERRUN]

theorem ChainOnly.incSat (s : State) (x : Nat → Fld) : ChainOnly n [x] s (s.incSat (x n)) := .setF s x _

theorem State.playbackIn_spec (s : State) (n : Fin 16) (c : FchSt) :
    ChainOnly n playFlds s (s.playbackIn n c).1 ∧ (s.playbackIn n c).2.1.nextE = c.nextE := by
  unfold State.playbackIn
  split
  · refine ⟨(ChainOnly.refl s).mono (List.nil_subset _), ?_⟩
    dsimp only
    split <;> rfl
  · exact ⟨(ChainOnly.incSat s R.FCH_PB_UNDERRUN).trans (.setB _ R.FCH_STATUS_UNDERRUN true), rfl⟩

theorem State.takePlayback_spec (n : Fin 16) (cs : ChainSet) (k : Nat) (s : State) (c : FchSt) :
    ChainOnly n playFlds s (State.takePlayback n cs k (s, c)).1 ∧ (State.takePlayback n cs k (s, c)).2.nextE = c.nextE := by
  induction k generalizing s c with
  | zero => exact ⟨(ChainOnly.refl s).mono (List.nil_subset _), rfl⟩
  | succ k ih =>
    obtain ⟨only, hnext⟩ := s.playbackIn_spec n c
    obtain ⟨rest, hrest⟩ := ih (s.playbackIn n c).1
      ((s.playbackIn n c).1.takeSample n cs (s.playbackIn n c).2.1 c.nextIdx (s.playbackIn n c).2.2)
    exact ⟨(only.trans rest).mono (by simp), hrest.trans ((State.takeSample_nextE ..).trans hnext)⟩

/-- The state and the chain with the input of the next output taken. -/
def State.inputTaken (s : State) (n : Nat) : State × FchSt :=
  let c := s.fchN n
  if s.f (act (R.FCH_SRC_SRC n)) == 8 then State.takePlayback n (s.chainSet n) (c.nextE + 23 + 1 - c.nextIdx) (s, c)
  else (s, s.takeQueued n (s.chainSet n) (c.nextE + 23) c.fifo c)

theorem State.inputTaken_spec (s : State) (n : Fin 16) :
    ChainOnly n playFlds s (s.inputTaken n).1 ∧ (s.inputTaken n).2.nextE = (s.fchN n).nextE := by
  unfold State.inputTaken
  dsimp only
  split
  · exact State.takePlayback_spec ..
  · exact ⟨(ChainOnly.refl s).mono (List.nil_subset _), State.takeQueued_nextE ..⟩

/-! ## The output (R113 to R118) -/

/-- The fields of an output: its place on the grid, its time, its epoch, and parts saturated to 16 bits. -/
theorem State.emitOutput_out (s : State) (n : Nat) : let e := (s.inputTaken n).2.nextE; let o := (s.emitOutput n).2.1
    o.e = e ∧ o.ptE = s.idxTime e ∧ o.j = e / (2 * s.actD n) ∧ (∃ v, o.i = satS 16 v) ∧ (∃ v, o.q = satS 16 v) ∧
    o.epoch = s.f (R.FCH_EPOCH_EPOCH n) := ⟨rfl, rfl, rfl, ⟨_, rfl⟩, ⟨_, rfl⟩, rfl⟩

theorem satS_sixteen_bounds (v : Int) : -32768 ≤ satS 16 v ∧ satS 16 v ≤ 32767 := by
  rw [satS_sixteen]
  omega

def clipFlds : List (Nat → Fld) := [R.FCH_STATUS_CLIP, R.FCH_CLIP_COUNT]

/-- The state with a clipped output counted. -/
def State.clipCounted (s : State) (n : Nat) (clip : Bool) : State :=
  if clip then (s.setB (R.FCH_STATUS_CLIP n) true).incSat (R.FCH_CLIP_COUNT n) else s

theorem ChainOnly.clipCounted (s : State) (n : Fin 16) (clip : Bool) : ChainOnly n clipFlds s (s.clipCounted n clip) :=
  .ite ((ChainOnly.setB s R.FCH_STATUS_CLIP true).trans (.incSat _ R.FCH_CLIP_COUNT)) ((ChainOnly.refl s).mono (List.nil_subset _))

/-- The state with an output given to the detectors of the chain `c`, which awaits the next one. -/
def State.detected (s : State) (n : Nat) (c : FchSt) (o : ChainOut) : State :=
  let d := (s.setFch n c).detOutput n o
  ((s.setFch n c).setFch n d.1).detResults n d.2

theorem ChainOnly.detected (s : State) (n : Fin 16) (c : FchSt) (o : ChainOut) : ChainOnly n detFlds s (s.detected n c o) :=
  ((ChainOnly.setFch s n c).trans (.setFch ..)).trans (.detResults ..)

theorem State.fchN_detected (s : State) (n : Nat) (c : FchSt) (o : ChainOut) :
    ((s.detected n c o).fchN n).nextE = c.nextE ∧ ((s.detected n c o).fchN n).last = o := by
  rw [State.detected, State.fchN_detResults, State.fchN_setFch, State.detOutput, State.fchN_setFch]
  exact ⟨rfl, rfl⟩

/-- The state past an output, from the state and the chain with its input taken. -/
theorem State.emitOutput_state (s : State) (n : Nat) : ∃ clip, (s.emitOutput n).1 =
    (((s.inputTaken n).1.setFch n (s.inputTaken n).2).clipCounted n clip).detected n
      { (s.inputTaken n).2 with nextE := (s.inputTaken n).2.nextE + 2 * s.actD n, lefts := leftNext (s.inputTaken n).2.lefts }
      (s.emitOutput n).2.1 := ⟨_, rfl⟩

theorem State.emitOutput_next (s : State) (n : Fin 16) : ((s.emitOutput n).1.fchN n).nextE = (s.fchN n).nextE + 2 * s.actD n ∧
    ((s.emitOutput n).1.fchN n).last = (s.emitOutput n).2.1 := by
  obtain ⟨clip, hstate⟩ := s.emitOutput_state n
  rw [hstate, ← (s.inputTaken_spec n).2]
  exact State.fchN_detected ..

theorem ChainOnly.emitOutput (s : State) (n : Fin 16) : ChainOnly n (playFlds ++ clipFlds ++ detFlds) s (s.emitOutput n).1 := by
  obtain ⟨clip, hstate⟩ := s.emitOutput_state n
  rw [hstate]
  exact (((s.inputTaken_spec n).1.trans (.setFch ..)).trans (.clipCounted ..)).trans (.detected ..)

/-! ## A chain output with what comes before it (R128) -/

theorem chainOutput_emits (hrun : s.flag (R.FCH_STATUS_RUNNING n) = true) (hdue : s.handOverDue n = false) (hin : s.inputReady n = true) :
    chainOutput n s = (s.emitOutput n).2.2.foldl (fun (t : State) d => t.feedDet n d) ((s.emitOutput n).1.feedOut n (s.emitOutput n).2.1) := by
  have out : s.chainOutput n = ((s.emitOutput n).1, some (s.emitOutput n).2.1, (s.emitOutput n).2.2) := by
    unfold State.chainOutput
    simp [hrun, hdue, hin]
  unfold chainOutput
  rw [out]

theorem chainOutput_hands (hrun : s.flag (R.FCH_STATUS_RUNNING n) = true) (hdue : s.handOverDue n = true) :
    let h := s.chainHandOver n
    let r := h.1.emitOutput n
    chainOutput n s = if h.1.inputReady n then (h.2 ++ r.2.2).foldl (fun (t : State) d => t.feedDet n d) (r.1.feedOut n r.2.1)
      else h.2.foldl (fun (t : State) d => t.feedDet n d) h.1 := by
  intro h r
  unfold chainOutput
  cases hin : h.1.inputReady n with
  | false =>
    have out : s.chainOutput n = (h.1, none, h.2) := by
      unfold State.chainOutput
      simp [hrun, hdue, h, hin]
    rw [out]
    rfl
  | true =>
    have out : s.chainOutput n = (r.1, some r.2.1, h.2 ++ r.2.2) := by
      unfold State.chainOutput
      simp [hrun, hdue, h, r, hin]
    rw [out]
    rfl

theorem fchHandOver_due (hdue : s.handOverDue n = true) :
    fchHandOver n s = (s.chainHandOver n).2.foldl (fun (t : State) d => t.feedDet n d) (s.chainHandOver n).1 := if_neg (by simp [hdue])

end

end Sys2Proof.Machine

open Sys2Proof Sys2Proof.Machine

/-- Settles O26: the hand-over by the registers and the chain that it leaves, an output by its fields and the chain past it, and the
order of the two. -/
theorem chainHandOverAndOutput : Obligations.ChainHandOverAndOutput := by
  unfold Obligations.ChainHandOverAndOutput
  refine ⟨fun n s hrun hdue => ?_, fun n s hon hrun hdue hin => ?_, fun n s hon hrun hdue => ?_⟩
  · obtain ⟨hpend, htick⟩ := State.chainHandOver_pending hdue
    have hlefts := s.chainHandOver_lefts n
    refine ⟨s.chainHandOver_epoch n, s.chainHandOver_index n, hpend, htick, fun _ hi => s.chainHandOver_bank n hi,
      fun _ hi => s.chainHandOver_coefs n hi, fun hd => ?_, fun hf => ?_, fun hf => ?_, (ChainOnly.chainHandOver s n).eq, ?_⟩
    · rw [s.chainHandOver_next n]
      exact alignUp_spec _ (by omega)
    · obtain ⟨hhb, hfir, henv⟩ := State.chainHandOver_flushed hf
      exact ⟨hhb, hfir, henv, State.chainHandOver_flush hf, by rwa [hf] at hlefts⟩
    · obtain ⟨hhb, hfir⟩ := State.chainHandOver_unflushed hf
      exact ⟨hhb, hfir, by rwa [hf] at hlefts⟩
    · exact congrArg Host.Outcome.next ((if_pos hrun).trans (fchHandOver_due hdue))
  · obtain ⟨he, hpt, hj, ⟨vi, hi⟩, ⟨vq, hq⟩, hepoch⟩ := s.emitOutput_out n
    obtain ⟨hnext, hlast⟩ := s.emitOutput_next n
    rw [(s.inputTaken_spec n).2] at he hpt hj
    refine ⟨he, hpt, hj, hi ▸ satS_sixteen_bounds vi, hq ▸ satS_sixteen_bounds vq, hepoch, hnext, hlast, (ChainOnly.emitOutput s n).eq, ?_⟩
    exact congrArg Host.Outcome.next ((if_pos hrun).trans (chainOutput_emits hon hdue hin))
  · exact congrArg Host.Outcome.next ((if_pos hrun).trans (chainOutput_hands hon hdue))
end

section
/-!
PROOF. The compute fabric: the order of a rack (spec/05_compute_fabric.md, R149).
-/
namespace Sys2Proof.Machine

/-- The earlier of two 32-bit times, by their difference modulo 2^32. -/
theorem fcBefore_iff {a b : Nat} (ha : a < 2 ^ 32) (hb : b < 2 ^ 32) :
    fcBefore a b = true ↔ 2 ^ 31 ≤ ((a : Int) - b) % 2 ^ 32 := by
  rw [fcBefore, decide_eq_true_iff, sub32]
  omega

section
variable {a b : Billet}

theorem billetBefore_of_deadline (h : a.deadline ≠ b.deadline) : billetBefore a b = fcBefore a.deadline b.deadline :=
  if_pos (bne_iff_ne.mpr h)

theorem billetBefore_of_created (hd : a.deadline = b.deadline) (h : a.created ≠ b.created) :
    billetBefore a b = fcBefore a.created b.created := (if_neg (by simp [hd])).trans (if_pos (bne_iff_ne.mpr h))

theorem billetBefore_of_ctx (hd : a.deadline = b.deadline) (hc : a.created = b.created) :
    billetBefore a b = decide (a.ctx < b.ctx) := (if_neg (by simp [hd])).trans (if_neg (by simp [hc]))

/-- A billet precedes another by its deadline, then by its CREATED, then by its CONTEXT. -/
theorem billetBefore_iff (hda : a.deadline < 2 ^ 32) (hdb : b.deadline < 2 ^ 32) (hca : a.created < 2 ^ 32) (hcb : b.created < 2 ^ 32) :
    billetBefore a b = true ↔
      (a.deadline ≠ b.deadline ∧ 2 ^ 31 ≤ ((a.deadline : Int) - b.deadline) % 2 ^ 32) ∨
      (a.deadline = b.deadline ∧ a.created ≠ b.created ∧ 2 ^ 31 ≤ ((a.created : Int) - b.created) % 2 ^ 32) ∨
      (a.deadline = b.deadline ∧ a.created = b.created ∧ a.ctx < b.ctx) := by
  by_cases hd : a.deadline = b.deadline
  · by_cases hc : a.created = b.created
    · simp [billetBefore_of_ctx hd hc, hd, hc]
    · rw [billetBefore_of_created hd hc, fcBefore_iff hca hcb]
      simp [hd, hc]
  · rw [billetBefore_of_deadline hd, fcBefore_iff hda hdb]
    simp [hd]

end

/-- A billet enters a rack behind those that it does not precede and in front of the first that it precedes. -/
theorem rackIns_split (b : Billet) (r : List Billet) : ∃ r1 r2, r = r1 ++ r2 ∧ rackIns b r = r1 ++ b :: r2 ∧
    (∀ x ∈ r1, billetBefore b x = false) ∧ ∀ x xs, r2 = x :: xs → billetBefore b x = true := by
  induction r with
  | nil => exact ⟨[], [], rfl, rfl, nofun, nofun⟩
  | cons y ys ih =>
    cases hy : billetBefore b y with
    | true =>
      refine ⟨[], y :: ys, rfl, if_pos hy, nofun, fun x xs he => ?_⟩
      obtain ⟨rfl, -⟩ := List.cons_eq_cons.mp he
      exact hy
    | false =>
      obtain ⟨r1, r2, hr, hins, hbehind, hfront⟩ := ih
      refine ⟨y :: r1, r2, congrArg (y :: ·) hr, ?_, List.forall_mem_cons.mpr ⟨hy, hbehind⟩, hfront⟩
      exact (if_neg (ne_true_of_eq_false hy)).trans (congrArg (y :: ·) hins)

end Sys2Proof.Machine

open Sys2Proof Sys2Proof.Machine

/-- Settles O27: the order of two billets key by key, and the place of a new one by induction on the rack. That CREATED is compared
modulo 2^32, as a deadline is, is the model's choice (log entry 126). -/
theorem rackOrder : Obligations.RackOrder := by
  unfold Obligations.RackOrder
  exact ⟨fun _ _ hda hdb hca hcb => billetBefore_iff hda hdb hca hcb, rackIns_split⟩
end

section
/-!
PROOF. The compute fabric: the limits of admission, and writes of FAB_G_BUDGET and FAB_CTRL (spec/05_compute_fabric.md, R162 and R166).
-/
namespace Sys2Proof.Machine

/-! ## The two tests of R162 -/

/-- The window test as an inequality for every forge. -/
theorem windowTest_iff (cap budget radius : Nat) (home : Nat → Nat) : windowTest cap budget radius home = true ↔
    ∀ f, f < 32 → 65536 * 32 * ((List.range (min (2 * radius + 1) 32)).map (fun i => home ((f + 32 - radius + i) % 32))).sum ≤
      budget * min (2 * radius + 1) 32 * cap := by
  simp only [windowTest, List.all_eq_true, List.mem_range, decide_eq_true_eq, List.sum_eq_foldl, List.foldl_map]

/-- Whether the class G loads fit a budget and a radius. -/
theorem State.limitsOk_iff (s : State) (b r : Nat) : s.limitsOk b r = true ↔ 65536 * s.f R.FAB_G_LOAD ≤ b * s.f R.FAB_CAPACITY ∧
    ∀ f, f < 32 → 65536 * 32 * ((List.range (min (2 * r + 1) 32)).map (fun i => s.f (R.FRG_G_HOME ((f + 32 - r + i) % 32)))).sum ≤
      b * min (2 * r + 1) 32 * s.f R.FAB_CAPACITY := by
  rw [State.limitsOk, Bool.and_eq_true, State.deviceTest, decide_eq_true_eq, windowTest_iff]

/-- The tests read the loads and the capacity alone. -/
theorem State.limitsOk_congr {s t : State} (hload : t.f R.FAB_G_LOAD = s.f R.FAB_G_LOAD) (hcap : t.f R.FAB_CAPACITY = s.f R.FAB_CAPACITY)
    (hhome : ∀ g, g < 32 → t.f (R.FRG_G_HOME g) = s.f (R.FRG_G_HOME g)) (b r : Nat) : t.limitsOk b r = s.limitsOk b r := by
  rw [Bool.eq_iff_iff, State.limitsOk_iff, State.limitsOk_iff, hload, hcap]
  simp only [hhome _ (Nat.mod_lt _ (show 0 < 32 by decide))]

/-! ## The word written -/

/-- The two words of the fabric whose writes are tested, FAB_CTRL and FAB_G_BUDGET, hold plain fields only. -/
theorem fabricSpec {off : Nat} (h : off = 0x180000 ∨ off = 0x180004) : ∃ w, wordSpec off = some w ∧ w.rwl = 0 ∧ w.half = 0 ∧
    (off = 0x180000 → w.rw = 0x1F1F) ∧ (off = 0x180004 → w.rw = 0xFFFF) := by
  rcases h with rfl | rfl
  · exact ⟨_, rfl, rfl, rfl, fun _ => rfl, nofun⟩
  · exact ⟨_, rfl, rfl, rfl, nofun, fun _ => rfl⟩

theorem State.writeWord_fabric (s : State) (pf : Nat) {off : Nat} (h : off = 0x180000 ∨ off = 0x180004) {w : WordSpec}
    (hw : wordSpec off = some w) (hl : w.rwl = 0) (v : BitVec 32) : s.writeWord pf off v =
      (s.setWord off (mergeWord w 0 (s.setNow off) (s.word off) v)).wroteFabric off (s.word off).toNat v.toNat := by
  have ho : writeOff off = off := by rcases h with rfl | rfl <;> rfl
  have hspec : writeSpec off = some w := by simp [writeSpec, ho, hw]
  have hcfg : s.cfgHolds off = false := by rcases h with rfl | rfl <;> exact Bool.and_false _
  have hhold : s.holdBits pf off w = 0 := by
    rcases h with rfl | rfl <;> simp [State.holdBits, hl, ho, hcfg, R.RS_FB_SEL]
  have hdrop : s.dropFlags off w = [] := by simp [State.dropFlags, hl, ho, hcfg]
  have heff : v &&& ~~~(0 : BitVec 32) ||| s.word off &&& 0 = v := by
    have all : v &&& 4294967295#32 = v := BitVec.and_allOnes
    simp [all]
  have hwrote (t : State) (old new : Nat) : t.wrote pf off old new = t.wroteFabric off old new := by
    rcases h with rfl | rfl <;> rfl
  unfold State.writeWord
  rw [hspec]
  dsimp only
  rw [hhold, hdrop, ho, heff, hwrote]
  rfl

/-- A host write of FAB_CTRL or FAB_G_BUDGET that meets no refusal notes its time, writes the word, and has its further effect. -/
theorem hostWrite_fabric {s : State} {pf : Fin 2} {off : Nat} (hoff : off = 0x180000 ∨ off = 0x180004) {w : WordSpec}
    (hw : wordSpec off = some w) (hl : w.rwl = 0) (hhalf : w.half = 0) (h : s.Opens pf off) (v : BitVec 32) : ∃ u, WordWritten off s u ∧
      u.word off = mergeWord w 0 (s.setNow off) (s.word off) v ∧
      hostWrite pf off v.toNat s = u.wroteFabric off (s.word off).toNat v.toNat := by
  obtain ⟨hreach, -, -⟩ := h
  have hput := regWrite_word hreach (by omega) v.toNat
  obtain ⟨-, -, hworld, hholds, hsec, hdom⟩ := hreach
  obtain ⟨l, ht⟩ := State.touch_lastUse hdom
  have hhalf1 : isHalf off 1 = false := by simp [isHalf, hw, hhalf]
  have hhalf2 : isHalf off 2 = false := by simp [isHalf, hw, hhalf]
  have hmsix : ¬ (0x608000 ≤ off ∧ off < 0x609000) := by omega
  refine ⟨_, ⟨rfl, ?_⟩, ?_, hput.trans (Eq.trans ?_ ((s.used l).writeWord_fabric pf hoff hw hl v))⟩
  · exact (WordsKept.of_regs (s := s) (t := s.used l) rfl).trans (.setWord _ _ rfl)
  · rw [State.word_setWord, if_pos rfl]
    rfl
  · rw [BitVec.ofNat_toNat, BitVec.setWidth_eq]
    simp [State.put4, hworld, hholds, hsec, ht, State.write4, hhalf1, hhalf2, hmsix]

section
variable {s u : State} {off : Nat}

/-- A write of either word leaves the loads and the capacity as they are, and LIMIT_REFUSED. -/
theorem WordWritten.limitsOk (h : WordWritten off s u) (hoff : off = 0x180000 ∨ off = 0x180004) (b r : Nat) :
    u.limitsOk b r = s.limitsOk b r := by
  refine State.limitsOk_congr (h.f_eq _ (.inr ?_)) (h.f_eq _ (.inr ?_)) (fun g hg => h.f_eq _ (.inl ?_)) b r <;>
    simp only [R.FAB_G_LOAD, R.FAB_CAPACITY, R.FRG_G_HOME, Fld.base, Fld.words] <;> omega

theorem WordWritten.limitRefused (h : WordWritten off s u) (hoff : off = 0x180000 ∨ off = 0x180004) :
    u.flag R.FAB_STATUS_LIMIT_REFUSED = s.flag R.FAB_STATUS_LIMIT_REFUSED :=
  State.flag_congr (h.f_eq _ (.inr (by simp only [R.FAB_STATUS_LIMIT_REFUSED, Fld.base]; omega)))

/-! ## The write refused (R166) -/

/-- A field of the word written put back, and LIMIT_REFUSED set. -/
def State.limitBack (u : State) (x : Fld) (old : Nat) : State := (u.setF x old).setB R.FAB_STATUS_LIMIT_REFUSED true

/-- The state after a tested write: its field as written, or put back. -/
def State.limited (u : State) (x : Fld) (old : Nat) (ok : Bool) : State := if ok then u else u.limitBack x old

theorem budgetWritten_eq (old v : Nat) (u : State) :
    budgetWritten old v u = u.limited R.FAB_G_BUDGET old (u.limitsOk (v % 65536) u.radius) := rfl

theorem fabCtrlWritten_eq (old v : Nat) (u : State) : fabCtrlWritten old v u =
    u.limited R.FAB_CTRL_STEAL_RADIUS (old % 32) (u.limitsOk (u.f R.FAB_G_BUDGET_BUDGET) (min 16 (v % 32))) := rfl

theorem State.limitBack_kept (u : State) (x : Fld) (old : Nat) : FieldsKept [x, R.FAB_STATUS_LIMIT_REFUSED] u (u.limitBack x old) :=
  (FieldsKept.setF u x old).trans (.setB _ _ true)

theorem State.limitBack_words (u : State) {x : Fld} (hx : x.words = 1) (old : Nat) :
    WordsKept (fun o => o = x.base ∨ o = 0x180010) u (u.limitBack x old) := by
  refine .trans (.setF u old fun i hi => ?_) (.setB _ true fun i hi => ?_)
  · exact .inl (by omega)
  · change i < 1 at hi
    exact .inr (by rw [Nat.lt_one_iff.mp hi]; rfl)

theorem State.limitBack_spec (u : State) {x : Fld} (hx : R.FAB_STATUS_LIMIT_REFUSED.apart x) (old : Nat) :
    (u.limitBack x old).f x = old % 2 ^ x.wd ∧ (u.limitBack x old).flag R.FAB_STATUS_LIMIT_REFUSED = true :=
  ⟨(FieldsKept.setB _ R.FAB_STATUS_LIMIT_REFUSED true x (by simpa using hx)).trans (State.f_setF_self ..),
    State.flag_setB_self _ _ true (by decide)⟩

/-- A tested write of a field of either word: taken or put back, and the word and FAB_STATUS alone changed. -/
theorem WordWritten.limited (h : WordWritten off s u) (hoff : off = 0x180000 ∨ off = 0x180004) {x : Fld} (hx : x.words = 1 ∧ x.base = off)
    (old : Nat) (ok : Bool) : let t := u.limited x old ok
    (ok = true → t = u ∧ t.flag R.FAB_STATUS_LIMIT_REFUSED = s.flag R.FAB_STATUS_LIMIT_REFUSED) ∧
      (ok = false → t.f x = old % 2 ^ x.wd ∧ t.flag R.FAB_STATUS_LIMIT_REFUSED = true) ∧
      WordsKept (fun o => o = off ∨ o = 0x180010) s t ∧
      t = { s with regs := t.regs, sets := t.sets, pwr := { s.pwr with lastUse := t.pwr.lastUse } } := by
  obtain ⟨hone, rfl⟩ := hx
  have first := h.words.mono fun o ho => Or.inl (b := o = 0x180010) ho
  cases ok with
  | true => exact ⟨fun _ => ⟨rfl, h.limitRefused hoff⟩, nofun, first, by rw [h.eq]; rfl⟩
  | false =>
    refine ⟨nofun, fun _ => u.limitBack_spec (.inr (.inl ?_)) old, first.trans (u.limitBack_words hone old), ?_⟩
    · simp only [R.FAB_STATUS_LIMIT_REFUSED, Fld.base] at hoff ⊢
      omega
    · obtain ⟨r, l, rfl⟩ : ∃ r l, u = { s with regs := r, pwr := { s.pwr with lastUse := l } } := ⟨_, _, h.eq⟩
      simp only [State.limited, State.limitBack, Bool.false_eq_true, if_false]
      rw [State.setB_eq, State.setF, State.setWordsAt_eq]

end

/-! ## The two commands -/

section
variable (pf : Fin 2) (v : BitVec 32) {s : State}

/-- The lowest bits of a word. -/
theorem State.f_lowBits (s : State) (off wd : Nat) (h : (⟨0, 0, wd⟩ : Fld).words = 1) : s.f ⟨off, 0, wd⟩ = (s.word off).toNat % 2 ^ wd := by
  rw [State.f_wordField _ _ _ _ ⟨by decide, h⟩, bitsOf, Nat.pow_zero, Nat.div_one]

theorem budgetWrite_ends (hopen : s.Opens pf 0x180004) : Ends (exec (.fabBudgetWrite pf false v) s) fun t =>
    (s.limitsOk (v.toNat % 65536) s.radius = true → t.f R.FAB_G_BUDGET_BUDGET = v.toNat % 65536 ∧
      t.flag R.FAB_STATUS_LIMIT_REFUSED = s.flag R.FAB_STATUS_LIMIT_REFUSED) ∧
    (s.limitsOk (v.toNat % 65536) s.radius = false → t.f R.FAB_G_BUDGET_BUDGET = s.f R.FAB_G_BUDGET_BUDGET ∧
      t.flag R.FAB_STATUS_LIMIT_REFUSED = true) ∧
    WordsKept (fun o => o = 0x180004 ∨ o = 0x180010) s t ∧
    t = { s with regs := t.regs, sets := t.sets, pwr := { s.pwr with lastUse := t.pwr.lastUse } } := by
  have hoff : (0x180004 : Nat) = 0x180000 ∨ (0x180004 : Nat) = 0x180004 := .inr rfl
  obtain ⟨w, hw, hl, hhalf, -, hrw⟩ := fabricSpec hoff
  obtain ⟨u, written, hword, hwrite⟩ := hostWrite_fabric hoff hw hl hhalf hopen v
  have hradius : u.radius = s.radius := by
    rw [State.radius, State.radius, written.f_eq R.FAB_CTRL_STEAL_RADIUS (.inl (by decide))]
  have hnew : u.f R.FAB_G_BUDGET_BUDGET = bitsOf v.toNat 0 16 := State.f_written hword (by decide) (by rw [hrw rfl, hl]; decide)
  have low (t : State) : t.f R.FAB_G_BUDGET_BUDGET = t.f R.FAB_G_BUDGET % 2 ^ 16 :=
    (t.f_lowBits 0x180004 16 (by decide)).trans (congrArg (· % 2 ^ 16) (t.f_whole 0x180004).symm)
  have hold : s.f R.FAB_G_BUDGET = (s.word 0x180004).toNat % 2 ^ 32 := s.f_lowBits 0x180004 32 (by decide)
  have hlow : bitsOf v.toNat 0 16 = v.toNat % 65536 := by simp [bitsOf]
  obtain ⟨htaken, hback, hwords, heq⟩ := written.limited hoff (x := R.FAB_G_BUDGET) (by decide) (s.word 0x180004).toNat
    (s.limitsOk (v.toNat % 65536) s.radius)
  refine ⟨_, congrArg Host.Outcome.next (hwrite.trans ?_), ?_, ?_, hwords, heq⟩
  · refine (budgetWritten_eq ..).trans ?_
    rw [written.limitsOk hoff, hradius]
  · exact fun h => (htaken h).imp_left fun hu => (congrArg (State.f · R.FAB_G_BUDGET_BUDGET) hu).trans (hnew.trans hlow)
  · exact fun h => (hback h).imp_left fun hput => by rw [low, low, hold, hput]; rfl

theorem radiusWrite_ends (hopen : s.Opens pf 0x180000) : Ends (exec (.fabBudgetWrite pf true v) s) fun t =>
    let ok := s.limitsOk (s.f R.FAB_G_BUDGET_BUDGET) (min 16 (v.toNat % 32))
    (ok = true → t.f R.FAB_CTRL_STEAL_RADIUS = v.toNat % 32 ∧
      t.flag R.FAB_STATUS_LIMIT_REFUSED = s.flag R.FAB_STATUS_LIMIT_REFUSED) ∧
    (ok = false → t.f R.FAB_CTRL_STEAL_RADIUS = s.f R.FAB_CTRL_STEAL_RADIUS ∧ t.flag R.FAB_STATUS_LIMIT_REFUSED = true) ∧
    t.f R.FAB_CTRL_STEAL_MIN = bitsOf v.toNat 8 5 ∧ WordsKept (fun o => o = 0x180000 ∨ o = 0x180010) s t := by
  have hoff : (0x180000 : Nat) = 0x180000 ∨ (0x180000 : Nat) = 0x180004 := .inl rfl
  obtain ⟨w, hw, hl, hhalf, hrw, -⟩ := fabricSpec hoff
  obtain ⟨u, written, hword, hwrite⟩ := hostWrite_fabric hoff hw hl hhalf hopen v
  have hnew : u.f R.FAB_CTRL_STEAL_RADIUS = bitsOf v.toNat 0 5 := State.f_written hword (by decide) (by rw [hrw rfl, hl]; decide)
  have hold : s.f R.FAB_CTRL_STEAL_RADIUS = _ := s.f_lowBits 0x180000 5 (by decide)
  have hlow : bitsOf v.toNat 0 5 = v.toNat % 32 := by simp [bitsOf]
  have hmin : u.f R.FAB_CTRL_STEAL_MIN = bitsOf v.toNat 8 5 := State.f_written hword (by decide) (by rw [hrw rfl, hl]; decide)
  obtain ⟨htaken, hback, hwords, -⟩ := written.limited hoff (x := R.FAB_CTRL_STEAL_RADIUS) (by decide) ((s.word 0x180000).toNat % 32)
    (s.limitsOk (s.f R.FAB_G_BUDGET_BUDGET) (min 16 (v.toNat % 32)))
  refine ⟨_, congrArg Host.Outcome.next (hwrite.trans ?_), ?_, ?_, ?_, hwords⟩
  · refine (fabCtrlWritten_eq ..).trans ?_
    rw [written.limitsOk hoff, written.f_eq R.FAB_G_BUDGET_BUDGET (.inr (by decide))]
  · exact fun h => (htaken h).imp_left fun hu => (congrArg (State.f · R.FAB_CTRL_STEAL_RADIUS) hu).trans (hnew.trans hlow)
  · rw [hold]
    exact fun h => (hback h).imp_left fun hput => hput.trans (Nat.mod_mod ..)
  · unfold State.limited
    split
    · exact hmin
    · exact ((u.limitBack_kept _ _).f_eq (by decide)).trans hmin

end

end Sys2Proof.Machine

open Sys2Proof Sys2Proof.Machine

/-- Settles O29: the tests as inequalities, and a write of either register by whether they hold. That W/32 of K follows F_R (log entry 51)
and that STEAL_MIN is written beside a refused radius (log entry 52) are the model's choices. -/
theorem budgetWrites : Obligations.BudgetWrites := by
  unfold Obligations.BudgetWrites
  exact ⟨fun b r s _ => s.limitsOk_iff b r, fun pf v _ hopen => budgetWrite_ends pf v hopen, fun pf v _ hopen => radiusWrite_ends pf v hopen⟩
end

section
/-!
PROOF. The compute fabric: what the operations on contexts, racks, anvils and hearths of Machine/Fabric.lean write and what they leave
alone (spec/05_compute_fabric.md, R140, R142, R149, R171 and R179).
-/
namespace Sys2Proof.Machine

/-! ## Contexts and anvils behind the registers -/

theorem State.ctxN_congr {s t : State} (h : t.ctx = s.ctx) (c : Nat) : t.ctxN c = s.ctxN c := by unfold State.ctxN; rw [h]

theorem State.anvN_congr {s t : State} (h : t.fab = s.fab) (f a : Nat) : t.anvN f a = s.anvN f a := by unfold State.anvN; rw [h]

theorem State.rackOf_congr {s t : State} (h : t.fab = s.fab) (f : Nat) : t.rackOf f = s.rackOf f := by unfold State.rackOf; rw [h]

section
variable (s : State) (c f a : Nat)

@[simp] theorem State.ctxN_setCtx (x : CtxSt) : (s.setCtx c x).ctxN c = x := tget_tset_self ..
@[simp] theorem State.ctxN_setAnv (y : AnvSt) : (s.setAnv f a y).ctxN c = s.ctxN c := rfl
@[simp] theorem State.ctxN_setF (x : Fld) (v : Nat) : (s.setF x v).ctxN c = s.ctxN c := State.ctxN_congr (s.setF_ctx x v) c
@[simp] theorem State.anvN_setAnv (y : AnvSt) : (s.setAnv f a y).anvN f a = y := tget_tset_self ..
@[simp] theorem State.anvN_setCtx (x : CtxSt) : (s.setCtx c x).anvN f a = s.anvN f a := rfl
@[simp] theorem State.anvN_setF (x : Fld) (v : Nat) : (s.setF x v).anvN f a = s.anvN f a := State.anvN_congr (s.setF_fab x v) f a
@[simp] theorem State.f_setCtx (x : CtxSt) (y : Fld) : (s.setCtx c x).f y = s.f y := State.f_congr (s := s.setCtx c x) (t := s) rfl y
@[simp] theorem State.f_setAnv (x : AnvSt) (y : Fld) : (s.setAnv f a x).f y = s.f y := State.f_congr (s := s.setAnv f a x) (t := s) rfl y

end

/-! ## Fields of a context entry, and of the forges -/

/-- A field that each context has in its entry. -/
abbrev CtxFld (y : Nat → Fld) : Prop := ∀ i, y i = (y 0).shift (0x200 * i)

/-- A write of a field of a context leaves another field of it alone. -/
theorem State.f_setF_ctx (s : State) (c v : Nat) (x y : Nat → Fld) (hx : CtxFld x := by intro i; rfl) (hy : CtxFld y := by intro i; rfl)
    (h : (x 0).apart (y 0) := by unfold Fld.apart; decide) : (s.setF (x c) v).f (y c) = s.f (y c) := by
  refine State.f_setF_apart _ _ _ _ ?_
  rw [hx c, hy c]
  simp only [Fld.apart, Fld.base, Fld.words, Fld.shift] at h ⊢
  omega

/-- A field of a context entry. -/
def Fld.OfContext (x : Fld) : Prop := 0x200000 ≤ x.base

/-- A field of the fabric or of a forge. -/
def Fld.OfFabric (x : Fld) : Prop := x.base + 4 * x.words ≤ 0x200000

theorem Fld.ofContext {y : Nat → Fld} (c : Nat) (hy : CtxFld y := by intro i; rfl) (h : 0x200000 ≤ (y 0).off := by decide) :
    (y c).OfContext := by
  rw [hy c]
  exact (h.trans (Nat.le_add_right ..)).trans (Nat.le_add_right ..)

theorem Fld.ofForge {off lo wd f : Nat} (hf : f < 32) (h : off + 4 * (lo / 32) + 4 * ((lo % 32 + wd + 31) / 32) ≤ 0x104000 := by decide) :
    (⟨off + 0x4000 * f, lo, wd⟩ : Fld).OfFabric := by
  simp only [Fld.OfFabric, Fld.base, Fld.words]
  omega

theorem Fld.OfContext.setF {x y : Fld} (hy : y.OfContext) (hx : x.OfFabric) (s : State) (v : Nat) : (s.setF x v).f y = s.f y :=
  State.f_setF_apart _ _ _ _ (.inl (hx.trans hy))

theorem Fld.OfFabric.setF {x y : Fld} (hy : y.OfFabric) (hx : x.OfContext) (s : State) (v : Nat) : (s.setF x v).f y = s.f y :=
  State.f_setF_apart _ _ _ _ (.inr (.inl (hy.trans hx)))

theorem State.homeOf_lt (s : State) (c : Nat) : s.homeOf c < 32 := State.f_lt s _

/-! ## Racks (R149, R171) -/

section
variable {s : State} {f : Nat} {r : List Billet} {b : Billet}

theorem State.setRack_fields (s : State) (f : Nat) (r : List Billet) :
    FieldsKept [R.FRG_STATUS_LEVEL f, R.FRG_STATUS_ABOVE_HWM f] s (s.setRack f r) :=
  ((FieldsKept.of_regs (s := s) (t := { s with fab := { s.fab with rack := tset (fun _ => []) s.fab.rack f r } }) rfl).trans
    (.setF _ _ _)).trans (.setB _ _ _)

@[simp] theorem State.rackOf_setRack (s : State) (f : Nat) (r : List Billet) : (s.setRack f r).rackOf f = r := by
  have hfab : (s.setRack f r).fab = { s.fab with rack := tset (fun _ => []) s.fab.rack f r } := by simp [State.setRack]
  rw [State.rackOf, hfab]
  exact tget_tset_self ..

/-- A rack with its status written leaves contexts, memories and messages alone. -/
theorem State.setRack_frame (s : State) (f : Nat) (r : List Billet) :
    (s.setRack f r).ctx = s.ctx ∧ (s.setRack f r).mem = s.mem ∧ (s.setRack f r).out = s.out := by
  simp [State.setRack]

theorem Fld.OfContext.setRack {y : Fld} (hy : y.OfContext) (s : State) (hf : f < 32) (r : List Billet) : (s.setRack f r).f y = s.f y := by
  refine s.setRack_fields f r y fun x hx => .inl (Nat.le_trans ?_ hy)
  rcases List.mem_pair.mp hx with rfl | rfl
  · exact Fld.ofForge (off := 0x100000) hf
  · exact Fld.ofForge (off := 0x100000) hf

/-- A billet whose home forge is in service and has room enters the rack of its home. -/
theorem State.place_home (hup : s.forgeUp b.home = true) (hroom : (s.rackOf b.home).length < 256) :
    s.place b = (s.setRack b.home (rackIns { b with stolen := false } (s.rackOf b.home)), true) := by
  have hplaced : s.placeBillet b = (s.enqueue b.home b, .done) := by simp [State.placeBillet, State.rackRoom, hup, hroom]
  unfold State.place
  rw [hplaced, State.enqueue, bne_self_eq_false]

end

/-! ## Settling a context (R142, R176, R278) -/

section
variable {s : State} {c : Nat}

theorem State.freeHearth_homeOf (s : State) (f n c : Nat) : (s.freeHearth f n).homeOf c = s.homeOf c := by
  refine State.f_setF_apart _ _ _ _ ?_
  simp only [Fld.apart, Fld.base, Fld.words, R.FRG_HEARTH_FREE_BYTES, R.CTX_ACT_HOME_ACT]
  omega

/-- The context with other allocations in its former homes. -/
def CtxSt.withOld (x : CtxSt) (old : List (Nat × Nat × Nat × Nat)) : CtxSt := { x with oldAlloc := old }

/-- A context with no publish that waits gives back hearth bytes of its former homes. -/
theorem State.homeSettle_eq (h : (s.ctxN c).waitPub = []) : s.homeSettle c = s ∨ ∃ old freed, s.homeSettle c =
    List.foldl (fun (t : State) (p : Nat × Nat × Nat × Nat) => t.freeHearth p.2.1 p.2.2.2) (s.setCtx c ((s.ctxN c).withOld old)) freed := by
  by_cases hold : (s.ctxN c).oldAlloc = []
  · exact .inl (if_pos (by rw [hold, h]; rfl))
  · refine .inr ?_
    unfold State.homeSettle
    rw [if_neg (by simp [hold])]
    simp only [h, List.filter_nil, List.foldl_nil, CtxSt.withOld]
    exact ⟨_, _, rfl⟩

/-- What that leaves alone. -/
theorem State.homeSettle_spec (h : (s.ctxN c).waitPub = []) : (∃ old, (s.homeSettle c).ctxN c = (s.ctxN c).withOld old) ∧
    (s.homeSettle c).homeOf c = s.homeOf c ∧ (s.homeSettle c).fab = s.fab ∧ (s.homeSettle c).clk = s.clk := by
  rcases State.homeSettle_eq h with he | ⟨old, freed, he⟩ <;> rw [he]
  · exact ⟨⟨(s.ctxN c).oldAlloc, rfl⟩, rfl, rfl, rfl⟩
  · refine foldl_keeps (P := fun t => (∃ old, t.ctxN c = (s.ctxN c).withOld old) ∧ t.homeOf c = s.homeOf c ∧ t.fab = s.fab ∧
      t.clk = s.clk) (fun t p _ ht => ?_) ⟨⟨old, s.ctxN_setCtx ..⟩, s.f_setCtx .., rfl, rfl⟩
    obtain ⟨⟨old', hctx⟩, hhome, hfab, hclk⟩ := ht
    exact ⟨⟨old', (State.ctxN_setF ..).trans hctx⟩, (t.freeHearth_homeOf ..).trans hhome, (State.setF_fab ..).trans hfab,
      (State.setF_clk ..).trans hclk⟩

/-- A running context without a fault, with nothing that waits for its billets, has nothing to settle. -/
theorem State.ctxSettle_running (hold : (s.ctxN c).oldAlloc = []) (hwait : (s.ctxN c).waitPub = []) (havg : (s.ctxN c).avgs = [])
    (hfault : (s.ctxN c).fault = none) (hst : s.ctxState c = 2) : s.ctxSettle c = s := by
  have home : s.homeSettle c = s := if_pos (by rw [hold, hwait]; rfl)
  have avgs : s.closeAvgs c = s := by unfold State.closeAvgs; rw [havg]; rfl
  unfold State.ctxSettle
  rw [home, avgs]
  exact if_pos (by simp [hst, hfault])

end

end Sys2Proof.Machine
end

section
/-!
PROOF. The compute fabric: the cutter, home moves and pinned segments (spec/05_compute_fabric.md, R142, R145, R169 to R171, R175, R178 and
R179).
-/
namespace Sys2Proof.Machine

/-! ## A frame is cut (R145) -/

/-- A frame of a running context falls due, its last output in the hearth, with nothing else of the context under way: the hypotheses
of a plain cut. -/
structure State.Cuts (s : State) (c first time sidx hold : Nat) (rest : List (Nat × Nat × Nat × Nat)) : Prop where
  starts : (s.ctxN c).starts = (first, time, sidx, hold) :: rest
  cutting : (s.ctxN c).cutting = true
  pend : (s.ctxN c).pend = none
  stored : first + (s.ctxN c).l ≤ (s.ctxN c).nextJ
  running : s.ctxState c = 2
  moveTo : (s.ctxN c).moveTo = none
  short : cfgLong (s.cfgNow c) = false
  fault : (s.ctxN c).fault = none
  oldAlloc : (s.ctxN c).oldAlloc = []
  waitPub : (s.ctxN c).waitPub = []
  avgs : (s.ctxN c).avgs = []

/-- The context with its oldest frame numbered and taken from those to cut. -/
def CtxSt.numbered (x : CtxSt) (rest : List (Nat × Nat × Nat × Nat)) : CtxSt := { x with starts := rest, nextSeq := x.nextSeq + 1 }

/-- The state with the oldest frame of a context numbered. -/
def State.numbered (s : State) (c : Nat) (rest : List (Nat × Nat × Nat × Nat)) : State :=
  (s.setCtx c ((s.ctxN c).numbered rest)).setF (R.CTX_NEXT_SEQ c) (((s.ctxN c).nextSeq + 1) % 2 ^ 32)

section
variable (s : State) (c : Nat) (rest : List (Nat × Nat × Nat × Nat))

@[simp] theorem State.numbered_fab : (s.numbered c rest).fab = s.fab := by rw [State.numbered, State.setF_fab]; rfl
@[simp] theorem State.numbered_fence : (s.numbered c rest).fence = s.fence := by rw [State.numbered, State.setF_fence]; rfl
@[simp] theorem State.numbered_mem : (s.numbered c rest).mem = s.mem := by rw [State.numbered, State.setF_mem]; rfl
@[simp] theorem State.numbered_out : (s.numbered c rest).out = s.out := by rw [State.numbered, State.setF_out]; rfl

@[simp] theorem State.ctxN_numbered : (s.numbered c rest).ctxN c = (s.ctxN c).numbered rest := by
  rw [State.numbered, State.ctxN_setF, State.ctxN_setCtx]

theorem State.f_numbered_seq : (s.numbered c rest).f (R.CTX_NEXT_SEQ c) = ((s.ctxN c).nextSeq + 1) % 2 ^ 32 :=
  (State.f_setF_self ..).trans (Nat.mod_mod ..)

theorem State.f_numbered_ctx (y : Nat → Fld) (hy : CtxFld y := by intro i; rfl)
    (h : (R.CTX_NEXT_SEQ 0).apart (y 0) := by unfold Fld.apart; decide) : (s.numbered c rest).f (y c) = s.f (y c) :=
  (State.f_setF_ctx _ c _ R.CTX_NEXT_SEQ y (fun _ => rfl) hy h).trans (State.f_setCtx ..)

theorem State.f_numbered_fabric {y : Fld} (hy : y.OfFabric) : (s.numbered c rest).f y = s.f y :=
  (hy.setF (Fld.ofContext (y := R.CTX_NEXT_SEQ) c) ..).trans (State.f_setCtx ..)

theorem State.cfgNow_numbered : (s.numbered c rest).cfgNow c = s.cfgNow c := by
  refine List.map_congr_left fun i hi => ?_
  have hlt := List.mem_range.mp hi
  refine (State.word_setF_out _ _ _ _ (.inl ?_)).trans (State.word_congr rfl _)
  simp only [R.CTX_NEXT_SEQ, Fld.base]
  omega

/-- Numbering a frame has no part in whether its class skips it. -/
theorem State.cutSkips_numbered (cls : Nat) (cfg : List (BitVec 32)) : (s.numbered c rest).cutSkips c cls cfg = s.cutSkips c cls cfg := by
  have hthrottle := s.f_numbered_fabric c rest (y := R.FAB_STATUS_THROTTLE) (by unfold Fld.OfFabric; decide)
  have hhwm := s.f_numbered_fabric c rest (y := R.FAB_RACK_HWM_HWM) (by unfold Fld.OfFabric; decide)
  have hfc := s.f_numbered_fabric c rest (y := R.FAB_FC) (by unfold Fld.OfFabric; decide)
  have hhome : (s.numbered c rest).homeOf c = s.homeOf c := s.f_numbered_ctx c rest R.CTX_ACT_HOME_ACT
  have hage : (s.numbered c rest).oldestAge c = s.oldestAge c := by
    simp only [State.oldestAge, State.liveOf, State.liveBillets, State.fc, hfc, State.numbered_fab]
  unfold State.cutSkips
  rw [hthrottle, hhwm, hhome, hage, State.rackOf_congr (s.numbered_fab c rest)]

end

section
variable {s : State} {c first time sidx hold : Nat} {rest : List (Nat × Nat × Nat × Nat)}

theorem State.applyMod_none (h : (s.ctxN c).pend = none) : s.applyMod c = s := by
  unfold State.applyMod
  dsimp only
  rw [h]

theorem State.homeTake_none (h : (s.ctxN c).moveTo = none) : s.homeTake c = s := by
  unfold State.homeTake
  dsimp only
  rw [h]

/-- The record data of the frame. -/
def State.frameInfo (s : State) (c first time sidx hold : Nat) : FoldInfo :=
  let x := s.ctxN c
  let last := first + x.l - 1
  { newest := x.nextSeq, oldest := x.nextSeq, time := time, sidx := sidx, flags := ctxSpanFlags x first last ||| hold,
    chEpoch := ctxSpanEpoch x last }

/-- The billet of the frame that is cut. -/
def State.cutBillet (s : State) (c first time sidx hold : Nat) (rest : List (Nat × Nat × Nat × Nat)) : Billet :=
  (s.numbered c rest).frameBillet c (s.ctxN c).nextSeq first (s.frameInfo c first time sidx hold)

/-- A plain cut numbers the frame, and skips it or places its billet. -/
theorem State.cutFrame_eq (h : s.Cuts c first time sidx hold rest) : s.cutFrame c =
    if s.cutSkips c (cfgClass (s.cfgNow c)) (s.cfgNow c) then ((s.numbered c rest).skipFrame c (cfgClass (s.cfgNow c))).ctxSettle c
    else (s.numbered c rest).cutBillets c (s.cutBillet c first time sidx hold rest) := by
  have hdue : ¬ ((!(s.ctxN c).cutting || decide ((s.ctxN c).nextJ < first + (s.ctxN c).l)) = true) := by simp [h.cutting, h.stored]
  have hstate : (s.numbered c rest).ctxState c = 2 := (s.f_numbered_ctx c rest R.CTX_STATE_STATE).trans h.running
  unfold State.cutFrame
  simp only [h.starts]
  rw [if_neg hdue, State.applyMod_none h.pend, State.homeTake_none h.moveTo]
  have hnum : (s.setCtx c { s.ctxN c with starts := rest, nextSeq := (s.ctxN c).nextSeq + 1 }).setF (R.CTX_NEXT_SEQ c)
      (((s.ctxN c).nextSeq + 1) % 2 ^ 32) = s.numbered c rest := rfl
  simp only [hnum, hstate, Nat.reduceBEq, Bool.false_eq_true, if_false, State.cutSkips_numbered, h.short, Bool.false_and]
  rfl

/-! ## The frame skipped (R169, R170) -/

/-- The context with a frame counted as thinned or shed. -/
theorem State.ctxN_skipFrame (s : State) (c cls : Nat) : ∃ e b p d,
    (s.skipFrame c cls).ctxN c = { s.ctxN c with skipE := e, skipB := b, skipPrev := p, skipShed := d } :=
  ⟨_, _, _, _, (State.ctxN_setF ..).trans (State.ctxN_setCtx ..)⟩

theorem State.f_skipFrame_shed (s : State) (c cls : Nat) : (s.skipFrame c cls).f (R.CTX_SHED c) = (s.f (R.CTX_SHED c) + 1) % 2 ^ 64 := by
  rw [State.skipFrame, State.f_addWrap_self, State.f_setCtx]
  rfl

theorem State.f_skipFrame_ctx (s : State) (c cls : Nat) (y : Nat → Fld) (hy : CtxFld y := by intro i; rfl)
    (h : (R.CTX_SHED 0).apart (y 0) := by unfold Fld.apart; decide) : (s.skipFrame c cls).f (y c) = s.f (y c) :=
  (State.f_setF_ctx _ c _ R.CTX_SHED y (fun _ => rfl) hy h).trans (State.f_setCtx ..)

theorem State.f_skipFrame_fabric (s : State) (c cls : Nat) {y : Fld} (hy : y.OfFabric) : (s.skipFrame c cls).f y = s.f y :=
  (hy.setF (Fld.ofContext (y := R.CTX_SHED) c) ..).trans (State.f_setCtx ..)

theorem State.skipFrame_fab (s : State) (c cls : Nat) : (s.skipFrame c cls).fab = s.fab := State.setF_fab ..

/-- A frame that is skipped takes its number, is counted, and enters no rack. -/
theorem State.cutFrame_skips (h : s.Cuts c first time sidx hold rest)
    (hskips : s.cutSkips c (cfgClass (s.cfgNow c)) (s.cfgNow c) = true) : let t := s.cutFrame c
    t.f (R.CTX_NEXT_SEQ c) = ((s.ctxN c).nextSeq + 1) % 2 ^ 32 ∧ t.f (R.CTX_SHED c) = (s.f (R.CTX_SHED c) + 1) % 2 ^ 64 ∧ t.fab = s.fab := by
  generalize hcls : cfgClass (s.cfgNow c) = cls at hskips
  obtain ⟨e, b, p, d, hctx⟩ := (s.numbered c rest).ctxN_skipFrame c cls
  rw [State.ctxN_numbered] at hctx
  have hstate : ((s.numbered c rest).skipFrame c cls).ctxState c = 2 :=
    (State.f_skipFrame_ctx _ c cls R.CTX_STATE_STATE).trans ((s.f_numbered_ctx c rest R.CTX_STATE_STATE).trans h.running)
  have hcut : s.cutFrame c = (s.numbered c rest).skipFrame c cls := by
    rw [State.cutFrame_eq h, hcls, if_pos hskips]
    refine State.ctxSettle_running ?_ ?_ ?_ ?_ hstate <;> rw [hctx]
    exacts [h.oldAlloc, h.waitPub, h.avgs, h.fault]
  dsimp only
  rw [hcut, State.f_skipFrame_ctx _ c cls R.CTX_NEXT_SEQ, State.f_numbered_seq, State.f_skipFrame_shed,
    s.f_numbered_ctx c rest R.CTX_SHED, State.skipFrame_fab, State.numbered_fab]
  exact ⟨rfl, rfl, rfl⟩

/-! ## The frame placed (R145, R171) -/

/-- The billet of the frame, field by field. -/
theorem State.cutBillet_spec (h : s.Cuts c first time sidx hold rest) : let b := s.cutBillet c first time sidx hold rest
    b.ctx = c ∧ b.home = s.homeOf c ∧ b.cls = cfgClass (s.cfgNow c) ∧ b.last = true ∧ b.reissue = false ∧
      b.seq = (s.ctxN c).nextSeq ∧ b.created = s.fc ∧ b.deadline = (s.fc + cfgF (s.cfgNow c) (R.CTX_DEADLINE_DEADLINE 0)) % 2 ^ 32 ∧
      b.first = first ∧ b.kentry = (s.ctxN c).kentry ∧ b.skipped = min (s.ctxN c).skipPrev 65535 := by
  have hfc : (s.numbered c rest).fc = s.fc :=
    congrArg (· % 2 ^ 32) (s.f_numbered_fabric c rest (y := R.FAB_FC) (by unfold Fld.OfFabric; decide))
  have hhome : (s.numbered c rest).homeOf c = s.homeOf c := s.f_numbered_ctx c rest R.CTX_ACT_HOME_ACT
  have hcfg := s.cfgNow_numbered c rest
  have hx := s.ctxN_numbered c rest
  refine ⟨rfl, hhome, congrArg cfgClass hcfg, ?_, rfl, rfl, hfc, ?_, rfl, Eq.trans (congrArg CtxSt.kentry hx) rfl,
    Eq.trans (congrArg (fun (x : CtxSt) => min x.skipPrev 65535) hx) rfl⟩
  · exact (congrArg (fun cfg => !cfgLong cfg) hcfg).trans (by rw [h.short]; rfl)
  · exact congrArg₂ (fun fc cfg => (fc + cfgF cfg (R.CTX_DEADLINE_DEADLINE 0)) % 2 ^ 32) hfc hcfg

/-- The context with no frames skipped since its last billet. -/
def CtxSt.unskipped (x : CtxSt) : CtxSt := { x with skipPrev := 0, skipShed := 0 }

/-- The state from which the billet of a plain cut enters its rack. -/
def State.cutClear (s : State) (c : Nat) (rest : List (Nat × Nat × Nat × Nat)) : State :=
  (s.numbered c rest).setCtx c ((s.ctxN c).numbered rest).unskipped

/-- A frame that is not skipped enters the rack of its home forge. -/
theorem State.cutFrame_places (h : s.Cuts c first time sidx hold rest)
    (hskips : s.cutSkips c (cfgClass (s.cfgNow c)) (s.cfgNow c) = false) (hup : s.forgeUp (s.homeOf c) = true)
    (hroom : (s.rackOf (s.homeOf c)).length < 256) : s.cutFrame c = (s.cutClear c rest).setRack (s.homeOf c)
      (rackIns { s.cutBillet c first time sidx hold rest with stolen := false } (s.rackOf (s.homeOf c))) := by
  obtain ⟨-, hhome, -, hlast, -⟩ := State.cutBillet_spec h
  have hfab : (s.cutClear c rest).fab = s.fab := s.numbered_fab c rest
  have hrack (g : Nat) : (s.cutClear c rest).rackOf g = s.rackOf g := State.rackOf_congr hfab g
  have hforge (g : Nat) : (s.cutClear c rest).forgeUp g = s.forgeUp g := by
    have hfence : (s.cutClear c rest).fence = s.fence := s.numbered_fence c rest
    simp only [State.forgeUp, State.isRunning, State.blk, hfence, hfab]
  generalize hb : s.cutBillet c first time sidx hold rest = b at *
  rw [← hhome] at hup hroom ⊢
  have hplace := State.place_home (s := s.cutClear c rest) (b := b) ((hforge _).trans hup) (by rw [hrack]; exact hroom)
  rw [hrack] at hplace
  rw [State.cutFrame_eq h, hb, if_neg (ne_true_of_eq_false hskips)]
  unfold State.cutBillets
  rw [State.ctxN_numbered]
  refine (if_pos hlast).trans ?_
  exact congrArg Prod.fst hplace

theorem State.cutClear_spec (s : State) (c : Nat) (rest : List (Nat × Nat × Nat × Nat)) :
    (s.cutClear c rest).f (R.CTX_NEXT_SEQ c) = ((s.ctxN c).nextSeq + 1) % 2 ^ 32 ∧
    (s.cutClear c rest).f (R.CTX_SHED c) = s.f (R.CTX_SHED c) ∧ (s.cutClear c rest).ctxN c = ((s.ctxN c).numbered rest).unskipped ∧
    (s.cutClear c rest).mem = s.mem ∧ (s.cutClear c rest).out = s.out :=
  ⟨(State.f_setCtx ..).trans (s.f_numbered_seq c rest), (State.f_setCtx ..).trans (s.f_numbered_ctx c rest R.CTX_SHED),
    State.ctxN_setCtx .., s.numbered_mem c rest, s.numbered_out c rest⟩

end

theorem frameCut_ends {c : Fin 3072} {s : State} {first time sidx hold : Nat} {rest : List (Nat × Nat × Nat × Nat)}
    (h : s.Cuts c first time sidx hold rest) :
    let cls := cfgClass (s.cfgNow c)
    let home := s.homeOf c
    let skips := s.cutSkips c cls (s.cfgNow c)
    Ends (exec (.frameCut c) s) fun t =>
      (skips = true → t.f (R.CTX_NEXT_SEQ c) = ((s.ctxN c).nextSeq + 1) % 2 ^ 32 ∧
        t.f (R.CTX_SHED c) = (s.f (R.CTX_SHED c) + 1) % 2 ^ 64 ∧ t.fab = s.fab) ∧
      (skips = false → s.forgeUp home = true → (s.rackOf home).length < 256 →
        t.f (R.CTX_NEXT_SEQ c) = ((s.ctxN c).nextSeq + 1) % 2 ^ 32 ∧ t.f (R.CTX_SHED c) = s.f (R.CTX_SHED c) ∧
        (∃ b : Billet, t.rackOf home = rackIns b (s.rackOf home) ∧ b.ctx = c ∧ b.home = home ∧ b.cls = cls ∧ b.last = true ∧
          b.stolen = false ∧ b.reissue = false ∧ b.seq = (s.ctxN c).nextSeq ∧ b.created = s.fc ∧
          b.deadline = (s.fc + cfgF (s.cfgNow c) (R.CTX_DEADLINE_DEADLINE 0)) % 2 ^ 32 ∧ b.first = first ∧
          b.kentry = (s.ctxN c).kentry ∧ b.skipped = min (s.ctxN c).skipPrev 65535) ∧
        (t.ctxN c).starts = rest ∧ (t.ctxN c).skipPrev = 0 ∧ t.mem = s.mem ∧ t.out = s.out) := by
  intro cls home skips
  refine ⟨s.cutFrame c, rfl, State.cutFrame_skips h, fun hskips hup hroom => ?_⟩
  obtain ⟨hctx, hhome, hcls, hlast, hreissue, hseq, hcreated, hdeadline, hfirst, hkentry, hskipped⟩ := State.cutBillet_spec h
  obtain ⟨hnext, hshed, hx, hmem, hout⟩ := s.cutClear_spec c rest
  rw [State.cutFrame_places h hskips hup hroom]
  obtain ⟨rctx, rmem, rout⟩ := (s.cutClear c rest).setRack_frame home
    (rackIns { s.cutBillet c first time sidx hold rest with stolen := false } (s.rackOf home))
  have hlt := s.homeOf_lt c
  refine ⟨((Fld.ofContext (y := R.CTX_NEXT_SEQ) c).setRack _ hlt _).trans hnext,
    ((Fld.ofContext (y := R.CTX_SHED) c).setRack _ hlt _).trans hshed,
    ⟨_, State.rackOf_setRack .., hctx, hhome, hcls, hlast, rfl, hreissue, hseq, hcreated, hdeadline, hfirst, hkentry, hskipped⟩,
    ?_, ?_, rmem.trans hmem, rout.trans hout⟩ <;> rw [State.ctxN_congr rctx, hx] <;> rfl

/-! ## Home moves (R142) -/

section
variable {s : State} {c f ring plane work : Nat}

/-- A home move is not made while one is under way, nor for a context that is stopped, pinned, at home there, or has a density plane, nor
where it does not fit. -/
theorem homeMove_refused (h : (s.ctxN c).cutting = false ∨ (s.ctxN c).moveTo.isSome = true ∨ s.moveFits c f = false ∨ f = s.homeOf c ∨
    cfgB (s.cfgNow c) (R.CTX_SRC_PIN 0) = true ∨ (s.ctxN c).planeLen ≠ 0 ∨
    s.hearthFit f (s.ctxN c).ringLen 0 (s.ctxN c).workLen = none) : homeMove c f s = s := by
  unfold homeMove
  dsimp only
  split
  next => rfl
  next hno =>
    split
    next => rfl
    next hfit =>
      simp only [Bool.or_eq_true, Bool.not_eq_true', beq_iff_eq, bne_iff_ne] at hno
      rw [hfit] at h
      simp only [reduceCtorEq, or_false] at h
      tauto

/-- A home move that fits reserves its space. -/
theorem homeMove_reserves (hcut : (s.ctxN c).cutting = true) (hne : f ≠ s.homeOf c) (hpin : cfgB (s.cfgNow c) (R.CTX_SRC_PIN 0) = false)
    (hplane : (s.ctxN c).planeLen = 0) (hmove : (s.ctxN c).moveTo = none) (hfits : s.moveFits c f = true)
    (hfit : s.hearthFit f (s.ctxN c).ringLen 0 (s.ctxN c).workLen = some (ring, plane, work)) : homeMove c f s =
      (s.setF (R.FRG_HEARTH_FREE_BYTES f) (s.f (R.FRG_HEARTH_FREE_BYTES f) - ((s.ctxN c).ringLen + (s.ctxN c).workLen))).setCtx c
        { s.ctxN c with moveTo := some (f, ring, work) } := by
  unfold homeMove
  dsimp only
  rw [if_neg (by simp [hcut, hmove, hne, hpin, hplane, hfits]), hfit]

end

theorem homeMove_ends {c : Fin 3072} {f : Fin 32} {s : State} {ring plane work : Nat} (hcut : (s.ctxN c).cutting = true)
    (hne : f.val ≠ s.homeOf c) (hpin : cfgB (s.cfgNow c) (R.CTX_SRC_PIN 0) = false) (hplane : (s.ctxN c).planeLen = 0)
    (hmove : (s.ctxN c).moveTo = none) (hfits : s.moveFits c f = true)
    (hfit : s.hearthFit f (s.ctxN c).ringLen 0 (s.ctxN c).workLen = some (ring, plane, work)) :
    Ends (exec (.homeMove c f) s) fun t =>
      (t.ctxN c).moveTo = some (f.val, ring, work) ∧ t.homeOf c = s.homeOf c ∧
      t.f (R.FRG_HEARTH_FREE_BYTES f) = s.f (R.FRG_HEARTH_FREE_BYTES f) - ((s.ctxN c).ringLen + (s.ctxN c).workLen) ∧
      FieldsKept [R.FRG_HEARTH_FREE_BYTES f] s t ∧ t = { s with regs := t.regs, ctx := t.ctx } := by
  refine ⟨_, congrArg Host.Outcome.next (homeMove_reserves hcut hne hpin hplane hmove hfits hfit), congrArg CtxSt.moveTo (State.ctxN_setCtx ..),
    (State.f_setCtx ..).trans ((Fld.ofContext (y := R.CTX_ACT_HOME_ACT) c).setF (Fld.ofForge (off := 0x100010) f.isLt) ..), ?_, ?_, ?_⟩
  · rw [State.f_setCtx, State.f_setF_self]
    exact Nat.mod_eq_of_lt (Nat.lt_of_le_of_lt (Nat.sub_le ..) (State.f_lt ..))
  · exact (FieldsKept.setF s _ _).trans (.of_regs rfl)
  · rw [State.setF, State.setWordsAt_eq]
    rfl

/-! ### The move made at a cut -/

/-- The context in its new home: the moves before it counted, its former places kept until its billets there are done. -/
def CtxSt.moved (x : CtxSt) (home ring work : Nat) : CtxSt :=
  { x with moveTo := none, ring := ring, work := work, gen := x.gen + 1,
           oldAlloc := x.oldAlloc ++ [(x.gen, home, x.ring, x.ringLen), (x.gen, home, x.work, x.workLen)].filter (fun p => p.2.2.2 != 0) }

/-- The ring and the work area copied to their new home, and the context moved there. -/
def State.hearthMoved (s : State) (c f ring work : Nat) : State :=
  let x := s.ctxN c
  (((s.setCtx c { x with moveTo := none }).copyHearth (s.homeOf c) x.ring f ring x.ringLen).copyHearth (s.homeOf c) x.work f work x.workLen).setCtx c
    (x.moved (s.homeOf c) ring work)

/-- The loads and the home follow. -/
def State.homeMoved (s : State) (c f ring work : Nat) : State :=
  let load := s.f (R.CTX_LOAD c)
  let cls := cfgClass (s.cfgNow c)
  (((s.hearthMoved c f ring work).dropLoad cls (s.homeOf c) load).addLoad cls f load).setF (R.CTX_ACT_HOME_ACT c) f

section
variable {s : State} {c f ring work : Nat}

theorem State.homeTake_moves (h : (s.ctxN c).moveTo = some (f, ring, work)) (hfits : s.moveFits c f = true) :
    s.homeTake c = (s.homeMoved c f ring work).homeSettle c := by
  unfold State.homeTake
  dsimp only
  rw [h]
  exact if_neg (by simp [hfits])

theorem State.dropLoad_behind (s : State) (cls home load : Nat) : (s.dropLoad cls home load).ctx = s.ctx ∧
    (s.dropLoad cls home load).fab = s.fab ∧ (s.dropLoad cls home load).clk = s.clk := by
  unfold State.dropLoad
  dsimp only
  split <;> simp

theorem State.addLoad_behind (s : State) (cls home load : Nat) : (s.addLoad cls home load).ctx = s.ctx ∧
    (s.addLoad cls home load).fab = s.fab ∧ (s.addLoad cls home load).clk = s.clk := by
  unfold State.addLoad State.addSat
  dsimp only
  split <;> simp

theorem State.homeMoved_spec (s : State) (c ring work : Nat) (hf : f < 32) : (s.homeMoved c f ring work).homeOf c = f ∧
    (s.homeMoved c f ring work).ctxN c = (s.ctxN c).moved (s.homeOf c) ring work ∧ (s.homeMoved c f ring work).fab = s.fab ∧
    (s.homeMoved c f ring work).clk = s.clk := by
  unfold State.homeMoved
  dsimp only
  generalize s.f (R.CTX_LOAD c) = load
  generalize cfgClass (s.cfgNow c) = cls
  obtain ⟨dctx, dfab, dclk⟩ := (s.hearthMoved c f ring work).dropLoad_behind cls (s.homeOf c) load
  obtain ⟨actx, afab, aclk⟩ := ((s.hearthMoved c f ring work).dropLoad cls (s.homeOf c) load).addLoad_behind cls f load
  refine ⟨(State.f_setF_self ..).trans (Nat.mod_eq_of_lt hf), ?_, ?_, ?_⟩
  · rw [State.ctxN_setF, State.ctxN_congr (actx.trans dctx)]
    exact State.ctxN_setCtx ..
  · rw [State.setF_fab, afab, dfab]
    rfl
  · rw [State.setF_clk, aclk, dclk]
    rfl

theorem State.homeTake_spec (h : (s.ctxN c).moveTo = some (f, ring, work)) (hf : f < 32) (hwait : (s.ctxN c).waitPub = [])
    (hfits : s.moveFits c f = true) : (s.homeTake c).homeOf c = f ∧ ((s.homeTake c).ctxN c).ring = ring ∧
      ((s.homeTake c).ctxN c).work = work ∧ ((s.homeTake c).ctxN c).moveTo = none ∧ ((s.homeTake c).ctxN c).gen = (s.ctxN c).gen + 1 ∧
      (s.homeTake c).fab = s.fab ∧ (s.homeTake c).clk = s.clk := by
  obtain ⟨hhome, hctx, hfab, hclk⟩ := s.homeMoved_spec c ring work hf
  obtain ⟨⟨old, sctx⟩, shome, sfab, sclk⟩ := State.homeSettle_spec (s := s.homeMoved c f ring work) (c := c) (by rw [hctx]; exact hwait)
  rw [State.homeTake_moves h hfits, sctx, hctx]
  exact ⟨shome.trans hhome, rfl, rfl, rfl, rfl, sfab.trans hfab, sclk.trans hclk⟩

end

/-! ## Pinned segments (R178, R179) -/

section
variable (x : AnvSt) (bytes : List (BitVec 8)) (b : Billet)

/-- The segments of a pinned anvil after one more, which overwrites one where 16 wait. -/
theorem AnvSt.putSeg_length : (x.segs.length < 16 → (x.putSeg bytes b).1.segs.length = x.segs.length + 1) ∧
    (16 ≤ x.segs.length → (x.putSeg bytes b).1.segs.length ≤ x.segs.length) := by
  refine ⟨fun h => ?_, fun h => ?_⟩ <;> cases hbusy : x.segBusy <;>
    simp [AnvSt.putSeg, hbusy, Nat.not_le.mpr, h] <;> omega

end

/-- The state with a segment in the area of its pinned anvil, numbered and taken from those on their way. -/
def State.segPut (s : State) (c : Nat) (bytes : List (BitVec 8)) (info : FoldInfo) (rest : List (List (BitVec 8) × FoldInfo)) : State :=
  let f := s.homeOf c
  let a := s.f (R.CTX_ACT_PIN_ANVIL c)
  let seq := (s.ctxN c).nextSeq
  let s2 := (s.setAnv f a ((s.anvN f a).putSeg bytes (s.segBillet c info)).1).setF (R.CTX_NEXT_SEQ c) ((seq + 1) % 2 ^ 32)
  s2.setCtx c { s2.ctxN c with segDue := rest, nextSeq := seq + 1, skipPrev := 0, skipShed := 0 }

/-- The state with a segment that overwrote another counted. -/
def State.segOver (s : State) (c f : Nat) (lost : Bool) : State := if lost then (s.incSat (R.FRG_PIN_OVR f)).skipFrame c 0 else s

/-- The state with a starting context shown as running. -/
def State.shownRunning (s : State) (c : Nat) : State := if s.ctxState c == 1 then s.setF (R.CTX_STATE_STATE c) 2 else s

section
variable {s : State} {c f a : Nat} {bytes : List (BitVec 8)} {info : FoldInfo} {rest : List (List (BitVec 8) × FoldInfo)}

theorem pinSegment_eq (hdue : (s.ctxN c).segDue = (bytes, info) :: rest) (hcut : (s.ctxN c).cutting = true) (hpend : (s.ctxN c).pend = none) :
    pinSegment c s = (((s.segPut c bytes info rest).segOver c (s.homeOf c)
      (decide (16 ≤ (s.anvN (s.homeOf c) (s.f (R.CTX_ACT_PIN_ANVIL c))).segs.length))).shownRunning c).pinBegin
      (s.homeOf c) (s.f (R.CTX_ACT_PIN_ANVIL c)) := by
  unfold pinSegment
  simp only [hdue]
  rw [if_neg (by simp [hcut]), State.applyMod_none hpend]
  rfl

theorem State.segPut_spec (s : State) (c : Nat) (bytes : List (BitVec 8)) (info : FoldInfo) (rest : List (List (BitVec 8) × FoldInfo)) :
    let t := s.segPut c bytes info rest
    let y := s.anvN (s.homeOf c) (s.f (R.CTX_ACT_PIN_ANVIL c))
    t.f (R.CTX_NEXT_SEQ c) = ((s.ctxN c).nextSeq + 1) % 2 ^ 32 ∧ (∀ g, g < 32 → t.f (R.FRG_PIN_OVR g) = s.f (R.FRG_PIN_OVR g)) ∧
      t.anvN (s.homeOf c) (s.f (R.CTX_ACT_PIN_ANVIL c)) = (y.putSeg bytes (s.segBillet c info)).1 ∧ (t.ctxN c).segDue = rest ∧ t.mem = s.mem := by
  refine ⟨?_, fun g hg => ?_, ?_, congrArg CtxSt.segDue (State.ctxN_setCtx ..), ?_⟩
  · exact (State.f_setCtx ..).trans ((State.f_setF_self ..).trans (Nat.mod_mod ..))
  · exact (State.f_setCtx ..).trans
      (((Fld.ofForge (off := 0x100034) hg).setF (Fld.ofContext (y := R.CTX_NEXT_SEQ) c) ..).trans (State.f_setAnv ..))
  · rw [State.segPut, State.anvN_setCtx, State.anvN_setF, State.anvN_setAnv]
  · exact State.setF_mem ..

/-- What follows the entry of a segment leaves alone: the number of the next one, those on their way, those of the anvil, and the
memories. -/
structure SegKept (c f a : Nat) (s t : State) : Prop where
  seq : t.f (R.CTX_NEXT_SEQ c) = s.f (R.CTX_NEXT_SEQ c)
  due : (t.ctxN c).segDue = (s.ctxN c).segDue
  segs : (t.anvN f a).segs = (s.anvN f a).segs
  mem : t.mem = s.mem

theorem SegKept.refl (c f a : Nat) (s : State) : SegKept c f a s s := ⟨rfl, rfl, rfl, rfl⟩

theorem SegKept.trans {t u : State} (h1 : SegKept c f a s t) (h2 : SegKept c f a t u) : SegKept c f a s u :=
  ⟨h2.seq.trans h1.seq, h2.due.trans h1.due, h2.segs.trans h1.segs, h2.mem.trans h1.mem⟩

theorem Fld.pinOvr (hf : f < 32) : (R.FRG_PIN_OVR f).OfFabric := Fld.ofForge (off := 0x100034) hf

/-- A segment that overwrote another is counted. -/
theorem SegKept.segOver (s : State) (c a : Nat) (hf : f < 32) (lost : Bool) : SegKept c f a s (s.segOver c f lost) ∧
    (s.segOver c f lost).f (R.FRG_PIN_OVR f) = if lost then min (s.f (R.FRG_PIN_OVR f) + 1) (2 ^ 32 - 1) else s.f (R.FRG_PIN_OVR f) := by
  cases lost with
  | false => exact ⟨.refl .., rfl⟩
  | true =>
    obtain ⟨e, b, p, d, hctx⟩ := (s.incSat (R.FRG_PIN_OVR f)).ctxN_skipFrame c 0
    have hinc : (s.incSat (R.FRG_PIN_OVR f)).ctxN c = s.ctxN c := State.ctxN_setF ..
    have hfab : (s.segOver c f true).fab = s.fab := (State.skipFrame_fab ..).trans (State.setF_fab ..)
    refine ⟨⟨?_, ?_, congrArg AnvSt.segs (State.anvN_congr hfab f a), (State.setF_mem ..).trans (State.setF_mem ..)⟩,
      (State.f_skipFrame_fabric _ c 0 (Fld.pinOvr hf)).trans (State.f_incSat_self ..)⟩
    · exact (State.f_skipFrame_ctx _ c 0 R.CTX_NEXT_SEQ).trans ((Fld.ofContext (y := R.CTX_NEXT_SEQ) c).setF (Fld.pinOvr hf) ..)
    · exact (congrArg CtxSt.segDue hctx).trans (by rw [hinc])

/-- A starting context is shown as running. -/
theorem SegKept.shownRunning (s : State) (c a : Nat) (hf : f < 32) : SegKept c f a s (s.shownRunning c) ∧
    (s.shownRunning c).f (R.FRG_PIN_OVR f) = s.f (R.FRG_PIN_OVR f) := by
  unfold State.shownRunning
  split
  · exact ⟨⟨State.f_setF_ctx s c 2 R.CTX_STATE_STATE R.CTX_NEXT_SEQ, by rw [State.ctxN_setF], by rw [State.anvN_setF], State.setF_mem ..⟩,
      (Fld.pinOvr hf).setF (Fld.ofContext (y := R.CTX_STATE_STATE) c) ..⟩
  · exact ⟨.refl .., rfl⟩

/-- A pinned anvil begins its oldest segment, or stays as it is. -/
theorem State.pinBegin_cases (s : State) (f a : Nat) : s.pinBegin f a = s ∨
    ∃ b n, s.pinBegin f a = (s.setAnv f a { s.anvN f a with segBusy := true }).startRun f a b n := by
  unfold State.pinBegin
  dsimp only
  split
  · split
    · exact .inl rfl
    · exact .inr ⟨_, _, rfl⟩
  · exact .inl rfl

/-- The begin of a segment writes no register, and keeps the area. -/
theorem SegKept.pinBegin (s : State) (c f a : Nat) : SegKept c f a s (s.pinBegin f a) ∧ (s.pinBegin f a).regs = s.regs := by
  rcases s.pinBegin_cases f a with h | ⟨b, n, h⟩ <;> rw [h]
  · exact ⟨.refl .., rfl⟩
  · have hregs : ((s.setAnv f a { s.anvN f a with segBusy := true }).startRun f a b n).regs = s.regs := rfl
    exact ⟨⟨State.f_congr hregs _, rfl, by simp [State.startRun], rfl⟩, hregs⟩

end

theorem pinSegment_ends {c : Fin 3072} {s : State} {seg : List (BitVec 8)} {info : FoldInfo} {rest : List (List (BitVec 8) × FoldInfo)}
    (hdue : (s.ctxN c).segDue = (seg, info) :: rest) (hcut : (s.ctxN c).cutting = true) (hpend : (s.ctxN c).pend = none) :
    let f := s.homeOf c
    let y := s.anvN f (s.f (R.CTX_ACT_PIN_ANVIL c))
    Ends (exec (.pinSegment c) s) fun t =>
      (t.ctxN c).segDue = rest ∧ t.f (R.CTX_NEXT_SEQ c) = ((s.ctxN c).nextSeq + 1) % 2 ^ 32 ∧
      (y.segs.length < 16 → t.f (R.FRG_PIN_OVR f) = s.f (R.FRG_PIN_OVR f) ∧
        (t.anvN f (s.f (R.CTX_ACT_PIN_ANVIL c))).segs.length = y.segs.length + 1) ∧
      (16 ≤ y.segs.length → t.f (R.FRG_PIN_OVR f) = min (s.f (R.FRG_PIN_OVR f) + 1) (2 ^ 32 - 1) ∧
        (t.anvN f (s.f (R.CTX_ACT_PIN_ANVIL c))).segs.length ≤ y.segs.length) ∧ t.mem = s.mem := by
  intro f y
  have hf : f < 32 := s.homeOf_lt c
  obtain ⟨hseq, hovr, hanv, hseg, hmem⟩ := s.segPut_spec c seg info rest
  obtain ⟨hgrows, hfull⟩ := y.putSeg_length seg (s.segBillet c info)
  obtain ⟨counted, hcount⟩ := SegKept.segOver (s.segPut c seg info rest) c (s.f (R.CTX_ACT_PIN_ANVIL c)) hf (decide (16 ≤ y.segs.length))
  obtain ⟨shown, hshown⟩ := SegKept.shownRunning ((s.segPut c seg info rest).segOver c f (decide (16 ≤ y.segs.length))) c
    (s.f (R.CTX_ACT_PIN_ANVIL c)) hf
  obtain ⟨begun, hregs⟩ := SegKept.pinBegin
    (((s.segPut c seg info rest).segOver c f (decide (16 ≤ y.segs.length))).shownRunning c) c f (s.f (R.CTX_ACT_PIN_ANVIL c))
  have kept := (counted.trans shown).trans begun
  have hlost := (State.f_congr hregs (R.FRG_PIN_OVR f)).trans (hshown.trans hcount)
  rw [hovr f hf] at hlost
  have hlen := (congrArg List.length kept.segs).trans (congrArg (fun y : AnvSt => y.segs.length) hanv)
  exact ⟨_, congrArg Host.Outcome.next (pinSegment_eq hdue hcut hpend), kept.due.trans hseg, kept.seq.trans hseq,
    fun hroom => ⟨hlost.trans (if_neg (by simpa using hroom)), hlen.trans (hgrows hroom)⟩,
    fun hover => ⟨hlost.trans (if_pos (decide_eq_true hover)), hlen.trans_le (hfull hover)⟩, kept.mem.trans hmem⟩

end Sys2Proof.Machine

open Sys2Proof Sys2Proof.Machine

/-- Settles O30, command by command: a plain cut numbers the frame and then skips it or enters its billet, a home move reserves its space
and is made at a cut, and a pinned segment joins the area of its anvil. The instant of a cut (log entry 50), the reservation of a home
move with its second test at the cut (log entry 145), and the numbers and places of pinned segments (log entry 56) are the model's choices. -/
theorem frameCuts : Obligations.FrameCuts := by
  unfold Obligations.FrameCuts
  refine ⟨fun c s first time sidx hold rest hstarts hcut hpend hstored hrun hmove hshort hfault hold' hwait havg =>
      frameCut_ends ⟨hstarts, hcut, hpend, hstored, hrun, hmove, hshort, hfault, hold', hwait, havg⟩,
    fun c f s h => congrArg Host.Outcome.next (homeMove_refused h),
    fun c f s ring plane work hcut hne hpin hplane hmove hfits hfit => homeMove_ends hcut hne hpin hplane hmove hfits hfit,
    fun c f s ring work hmove hwait hfits => State.homeTake_spec hmove f.isLt hwait hfits,
    fun c s seg info rest hdue hcut hpend => pinSegment_ends hdue hcut hpend⟩
end

section
/-!
PROOF. Post-modification of an address register (spec/06_anvil_programming.md, R192 to R194): the modulo rule and the bit-reversed
rule, from the reverse order of 12 bits as a sum of bits.
-/
namespace Sys2Proof.Machine

/-! ## The reverse order of 12 bits (R193) -/

/-- Bit `i` of the reverse order is bit `11 - i`. -/
theorem rev12_eq_ofBits (n : Nat) : rev12 n = Nat.ofBits (fun i : Fin 12 => n.testBit (11 - i)) := by
  have hbit : ∀ i c, (if bitOf n i then c else 0) = c * (n.testBit i).toNat := by
    intro i c
    by_cases h : n / 2 ^ i % 2 = 1 <;> simp [bitOf, Nat.testBit_eq_decide_div_mod_eq, h]
  simp only [rev12, hbit, List.range_succ, List.range_zero, Nat.ofBits, Fin.foldr, Fin.foldr.loop, List.foldl_append, List.foldl_cons,
    List.foldl_nil, List.nil_append, Nat.reducePow, Nat.reduceSub]
  omega

theorem rev12_lt (n : Nat) : rev12 n < 4096 := by
  rw [rev12_eq_ofBits]; exact Nat.ofBits_lt_two_pow _

theorem rev12_testBit {n j : Nat} (h : j < 12) : (rev12 n).testBit j = n.testBit (11 - j) := by
  rw [rev12_eq_ofBits, Nat.testBit_ofBits_lt _ _ h]

theorem rev12_rev12 {n : Nat} (h : n < 4096) : rev12 (rev12 n) = n := by
  refine Nat.eq_of_testBit_eq fun i => ?_
  by_cases hi : i < 12
  · rw [rev12_testBit hi, rev12_testBit (by omega), Nat.sub_sub_self (by omega)]
  · have hp : 4096 ≤ 2 ^ i := (by norm_num : 4096 = 2 ^ 12) ▸ Nat.pow_le_pow_right (by omega) (by omega)
    rw [Nat.testBit_lt_two_pow (lt_of_lt_of_le (rev12_lt _) hp), Nat.testBit_lt_two_pow (lt_of_lt_of_le h hp)]

/-- With BR set, the low four bits of an address stay and the 12 bits above them are the reversed sum, read in reverse order. -/
theorem postMod_reversed (a o l : Nat) :
    postMod a o l true = 16 * rev12 ((rev12 (a / 16) + rev12 (o / 16)) % 4096) + a % 16 := rfl

/-! ## The buffer of a modulo length (R192) -/

theorem ceilLog2_spec {l : Nat} (h : l ≤ 2 ^ 16) : l ≤ 2 ^ ceilLog2 l ∧ ceilLog2 l ≤ 16 := by
  have hs : ((List.range 17).find? (fun k => decide (l ≤ 2 ^ k))).isSome = true := by
    simp only [List.find?_isSome, List.mem_range, decide_eq_true_eq]
    exact ⟨16, by omega, h⟩
  obtain ⟨k, hk⟩ := Option.isSome_iff_exists.mp hs
  have hr : k < 17 := by simpa using List.mem_of_find?_eq_some hk
  have hl : l ≤ 2 ^ k := by simpa using List.find?_some hk
  simp only [ceilLog2, hk, Option.getD_some]
  exact ⟨hl, by omega⟩

/-- The `2^k` addresses from a multiple of `2^k` on do not leave 16 bits. -/
theorem buffer_le {a k : Nat} (ha : a < 2 ^ 16) (hk : k ≤ 16) : a / 2 ^ k * 2 ^ k + 2 ^ k ≤ 2 ^ 16 := by
  have hp : 2 ^ 16 = 2 ^ (16 - k) * 2 ^ k := by rw [← pow_add]; congr 1; omega
  have hq : a / 2 ^ k < 2 ^ (16 - k) := Nat.div_lt_of_lt_mul (by rw [Nat.mul_comm, ← hp]; exact ha)
  rw [hp, ← Nat.succ_mul]
  exact Nat.mul_le_mul_right _ hq

theorem wrapInt_ofNat {wd n : Nat} (h : n < 2 ^ wd) : wrapInt wd (n : Int) = n := by
  unfold wrapInt
  rw [Int.emod_eq_of_lt (by omega) (by exact_mod_cast h)]
  exact Int.toNat_natCast n

/-- One correction by the length brings a place at most one length outside the buffer back into it. -/
theorem corrected_eq_emod {r l : Int} (h0 : -l ≤ r) (h1 : r < 2 * l) :
    (if l ≤ r then r - l else if r < 0 then r + l else r) = r % l := by
  split
  case isTrue h => rw [← Int.sub_emod_right, Int.emod_eq_of_lt] <;> omega
  case isFalse h =>
    split
    case isTrue hn => rw [← Int.add_emod_right, Int.emod_eq_of_lt] <;> omega
    case isFalse hn => rw [Int.emod_eq_of_lt] <;> omega

end Sys2Proof.Machine

open Sys2Proof Sys2Proof.Machine

/-- Settles O31: a correction by the length is the remainder, and the reverse order of 12 bits is its own inverse. -/
theorem postModification : Obligations.PostModification := by
  unfold Obligations.PostModification
  refine ⟨?_, ?_, ?_⟩
  · intro a o ha ho
    simp only [postMod, wrapInt, sext, bne_self_eq_false, Bool.false_eq_true, if_false]
    split <;> omega
  · intro a o l b r ha ho hl hl2 hofs hb har hr
    obtain ⟨hle, hk⟩ := ceilLog2_spec (l := l) (by omega)
    have hroom := buffer_le ha hk
    have hm : (0 : Int) < l := by exact_mod_cast hl
    have hlo := Int.emod_nonneg ((r : Int) + sext 16 o) (by omega : (l : Int) ≠ 0)
    have hhi := Int.emod_lt_of_pos ((r : Int) + sext 16 o) hm
    have hplace : (a : Int) - b + sext 16 o = r + sext 16 o := by omega
    have hne : (l != 0) = true := by simp; omega
    simp only [postMod, Bool.false_eq_true, if_false, hne, if_true, ← hb, hplace]
    obtain ⟨q, hq⟩ := Int.eq_ofNat_of_zero_le hlo
    rw [corrected_eq_emod (by omega) (by omega), hq, ← Int.natCast_add, wrapInt_ofNat (by omega), Int.toNat_natCast]
  · intro a o l ha ho
    have hlt := rev12_lt ((rev12 (a / 16) + rev12 (o / 16)) % 4096)
    have hinv := rev12_rev12 (n := (rev12 (a / 16) + rev12 (o / 16)) % 4096) (by omega)
    rw [postMod_reversed]
    refine ⟨by omega, ?_, by omega⟩
    rw [show ∀ x y : Nat, (16 * x + y % 16) / 16 = x by omega, hinv]
    norm_num
end

section
/-!
PROOF. One execution of an anvil's instruction (spec/06_anvil_programming.md, R195, R212, R217, R222, R231): where its routine ends and
nothing waits for its boundary, the instruction changes its anvil as its body says, and nothing else.
-/
namespace Sys2Proof.Machine

/-! ## Twice the same key of a table -/

theorem tdel_tins {α : Type} (t : Tbl α) (k : Nat) (v : α) : tdel (tins t k v) k = tdel t k := by
  induction t with
  | nil => simp [tins, tdel]
  | cons x t ih =>
    obtain ⟨k', w⟩ := x
    unfold tins
    split
    · simp [tdel]
    · simp only [tdel, List.filter_cons] at ih ⊢
      rw [ih]

theorem tdel_tset {α : Type} [DecidableEq α] (d : Nat → α) (t : Tbl α) (k : Nat) (v : α) : tdel (tset d t k v) k = tdel t k := by
  unfold tset
  split
  · simp [tdel, List.filter_filter]
  · rw [tdel_tins]; simp [tdel, List.filter_filter]

/-- Of two writes of one key the later counts. -/
@[simp] theorem tset_tset {α : Type} [DecidableEq α] (d : Nat → α) (t : Tbl α) (k : Nat) (v w : α) :
    tset d (tset d t k v) k w = tset d t k w := by
  rw [tset.eq_def d (tset d t k v), tdel_tset, tset.eq_def d t k w]

@[simp] theorem State.setAnv_setAnv (s : State) (f a : Nat) (x y : AnvSt) : (s.setAnv f a x).setAnv f a y = s.setAnv f a y := by
  simp [State.setAnv]

theorem State.forgeUp_setAnv (s : State) (f a g : Nat) (x : AnvSt) : (s.setAnv f a x).forgeUp g = s.forgeUp g := rfl

theorem State.haltWaits_setAnv (s : State) (f a g b : Nat) (x : AnvSt) : (s.setAnv f a x).haltWaits g b = s.haltWaits g b := by
  exact congrArg (· != 0) (State.f_congr (by rfl) _)

/-! ## Dispatch -/

/-- The state in which an instruction's body begins: its routine's micro-PC and free values are taken. -/
def State.dispatched (s : State) (f a : Nat) : State :=
  { s.setAnv f a { s.anvN f a with upc := (s.issued f a).2.1 } with freeCtr := s.freeCtr + (s.issued f a).2.2 }

theorem State.dispatched_anvN (s : State) (f a : Nat) :
    (s.dispatched f a).anvN f a = { s.anvN f a with upc := (s.issued f a).2.1 } :=
  State.anvN_setAnv ..

theorem State.dispatched_insWord (s : State) (f a : Nat) : (s.dispatched f a).insWord f a = s.insWord f a := by
  simp [State.insWord, State.dispatched_anvN]; rfl

theorem State.dispatched_storeWord (s : State) (f a g pc : Nat) : (s.dispatched f a).storeWord g pc = s.storeWord g pc := rfl

theorem State.dispatched_dtEntry (s : State) (f a g op : Nat) : (s.dispatched f a).dtEntry g op = s.dtEntry g op := rfl

theorem State.dispatched_forgeUp (s : State) (f a g : Nat) : (s.dispatched f a).forgeUp g = s.forgeUp g := rfl

theorem State.dispatched_haltWaits (s : State) (f a g b : Nat) : (s.dispatched f a).haltWaits g b = s.haltWaits g b := by
  exact congrArg (· != 0) (State.f_congr (by rfl) _)

theorem State.dispatched_setAnv (s : State) (f a : Nat) (x : AnvSt) :
    (s.dispatched f a).setAnv f a x = { s.setAnv f a x with freeCtr := s.freeCtr + (s.issued f a).2.2 } := by
  unfold State.dispatched State.setAnv
  rw [tset_tset]

/-- An anvil that takes the instruction named, with a routine that ends, does what the instruction does. -/
theorem State.dispatch_eq {s : State} {f a op : Nat} (hr : s.anvRuns f a = true) (hop : bitsOf (s.insWord f a) 24 8 = op)
    (hi : s.Routine f a) (go : Nat → State → State) : s.dispatch f a op go = go (s.issued f a).1 (s.dispatched f a) := by
  unfold State.dispatch
  rw [hi]
  simp [hr, hop, State.dispatched]

/-! ## The end of an instruction -/

/-- With nothing waiting at the boundary and the next PC in the image, an instruction's end only counts its cycles and moves PC. -/
theorem State.endInstr_eq {s : State} {f a : Nat} {pc : Int} {x : AnvSt} (cyc : Nat)
    (hb : x.rep = 0 → x.gone = false ∧ s.forgeUp f = true ∧ s.haltWaits f a = false)
    (hlo : (x.kLo : Int) ≤ pc) (hhi : pc < x.kHi) (hk : x.kHi ≤ 16384) :
    s.endInstr f a cyc pc x = s.setAnv f a { x with cyc := x.cyc + cyc, pc := pc.toNat } := by
  obtain ⟨n, rfl⟩ := Int.eq_ofNat_of_zero_le (le_trans (Int.natCast_nonneg _) hlo)
  have hw : wrapInt 14 (n : Int) = n := wrapInt_ofNat (by omega)
  have hout : (decide ((n : Int) < (x.kLo : Int)) || decide ((x.kHi : Int) ≤ n)) = false := by simp; omega
  unfold State.endInstr
  simp only [State.forgeUp_setAnv, State.haltWaits_setAnv, hw, hout, Bool.false_eq_true, if_false, Int.toNat_natCast]
  by_cases hrep : x.rep = 0
  · obtain ⟨hg, hu, hh⟩ := hb hrep
    rw [hg, hu, hh, if_neg (by simp), if_neg (by simp)]
  · rw [if_neg (by simp [hrep]), if_neg (by simp [hrep])]

/-! ## Bodies that work on an anvil's registers -/

/-- A body that works on the registers of an anvil: the micro-PC makes no difference to it, and it leaves the anvil's cycles, code range
and withdrawal mark alone. -/
structure RegBody (b : AnvSt → AnvSt) : Prop where
  upc : ∀ x u, b { x with upc := u } = { b x with upc := u } := by intros; rfl
  cyc : ∀ x, (b x).cyc = x.cyc := by intros; rfl
  kLo : ∀ x, (b x).kLo = x.kLo := by intros; rfl
  kHi : ∀ x, (b x).kHi = x.kHi := by intros; rfl
  gone : ∀ x, (b x).gone = x.gone := by intros; rfl

/-- The ranges that `Steps` names are those that the end of the instruction asks for. -/
theorem State.Steps.endInstr {s : State} {f a op : Nat} (h : s.Steps f a op) (t : State) {y : AnvSt} {b : AnvSt → AnvSt}
    (hb : RegBody b) (hy : y = { b { s.anvN f a with upc := (s.issued f a).2.1 } with rep := (s.anvN f a).rep - 1 })
    (hfence : t.fence = s.fence) (hregs : t.regs = s.regs) (hdrain : t.fab.drain = s.fab.drain) :
    t.endInstr f a (s.issued f a).1 (if 1 < (s.anvN f a).rep then ((s.anvN f a).pc : Int) else ((s.anvN f a).pc : Int) + 1) y =
      t.setAnv f a { b (s.anvN f a) with
        pc := s.nextPc f a, rep := (s.anvN f a).rep - 1, cyc := (s.anvN f a).cyc + (s.issued f a).1, upc := (s.issued f a).2.1 } := by
  obtain ⟨-, -, -, hbound, hlo, hhi, hk⟩ := h
  have hpc : (if 1 < (s.anvN f a).rep then ((s.anvN f a).pc : Int) else ((s.anvN f a).pc : Int) + 1) = (s.nextPc f a : Nat) := by
    unfold State.nextPc; split <;> simp
  have hup : t.forgeUp f = s.forgeUp f := by simp [State.forgeUp, State.isRunning, State.blk, hfence, hdrain]
  have hhalt : t.haltWaits f a = s.haltWaits f a := by
    unfold State.haltWaits State.flag; rw [State.f_congr hregs]
  subst hy
  rw [hpc, State.endInstr_eq]
  · rw [hb.upc, hb.cyc, Int.toNat_natCast]
  · intro hrep
    obtain ⟨hu, hh, hg⟩ := hbound (by simp only at hrep; omega)
    exact ⟨by simpa [hb.gone] using hg, hup.trans hu, hhalt.trans hh⟩
  · simpa [hb.kLo] using hlo
  · simpa [hb.kHi] using hhi
  · simpa [hb.kHi] using hk

/-- One execution of an instruction that may be repeated does to its anvil what its body says. -/
theorem State.anvOp_eq {s : State} {f a op : Nat} (h : s.Steps f a op) {body : Nat → AnvSt → AnvSt} (hb : RegBody (body (s.insWord f a))) :
    s.anvOp f a op body = s.stepsTo f a (body (s.insWord f a) (s.anvN f a)) := by
  obtain ⟨hr, hop, hi, -⟩ := id h
  unfold State.anvOp
  rw [State.dispatch_eq hr hop hi]
  show (s.dispatched f a).endInstr f a _ (if 1 < ((s.dispatched f a).anvN f a).rep then _ else _)
    { body ((s.dispatched f a).insWord f a) ((s.dispatched f a).anvN f a) with rep := ((s.dispatched f a).anvN f a).rep - 1 } = _
  rw [State.dispatched_insWord, State.dispatched_anvN]
  refine (h.endInstr (s.dispatched f a) hb rfl rfl rfl rfl).trans ?_
  unfold State.stepsTo State.ranTo
  rw [State.dispatched_setAnv]

/-- The outcome of such an instruction, with the effect of its body on the anvil worked out. -/
theorem State.anvOp_next {s : State} {f a op : Nat} (h : s.Steps f a op) {body : Nat → AnvSt → AnvSt} (hb : RegBody (body (s.insWord f a)))
    {y : AnvSt} (hy : body (s.insWord f a) (s.anvN f a) = y) : (.next (s.anvOp f a op body) : Out) = .next (s.stepsTo f a y) := by
  rw [State.anvOp_eq h hb, hy]

end Sys2Proof.Machine
end

section
/-!
PROOF. The lane and complex arithmetic of an anvil (spec/06_anvil_programming.md, R196 to R198): each instruction's body is its exact
result, narrowed and saturated lane by lane.
-/
namespace Sys2Proof.Machine

/-! ## Saturation (R197) -/

theorem satS_eq_clamp (wd : Nat) (i : Int) : satS wd i = max (-(2 ^ (wd - 1))) (min (2 ^ (wd - 1) - 1) i) := by
  have hp : (0 : Int) < 2 ^ (wd - 1) := by positivity
  unfold satS
  split
  · omega
  · split <;> omega

theorem satSym_eq_clamp (wd : Nat) (i : Int) : satSym wd i = max (-(2 ^ (wd - 1) - 1)) (min (2 ^ (wd - 1) - 1) i) := by
  have hp : (0 : Int) < 2 ^ (wd - 1) := by positivity
  unfold satSym
  split
  · omega
  · split <;> omega

/-! ## The fields of MODE (Table 6-4) -/

theorem insMode_mod {w k : Nat} (h : k ≤ 10) : insMode w % 2 ^ k = bitsOf w 0 k := by
  unfold insMode bitsOf
  exact Nat.mod_mod_of_dvd _ (pow_dvd_pow 2 h)

theorem bitOf_insMode_zero (w : Nat) : bitOf (insMode w) 0 = bitOf w 0 := by
  unfold bitOf insMode bitsOf
  rw [Nat.pow_zero, Nat.div_one, Nat.div_one, Nat.mod_mod_of_dvd _ (by norm_num)]

theorem logicOp_insMode (w wd x y : Nat) : logicOp (insMode w) wd x y = logicOp (bitsOf w 0 2) wd x y := by
  have h : insMode w % 4 = bitsOf w 0 2 % 4 := by
    rw [← insMode_mod (by omega : 2 ≤ 10)]; exact (Nat.mod_mod _ 4).symm
  simp [logicOp, h]

end Sys2Proof.Machine

open Sys2Proof Sys2Proof.Machine

/-- Settles O34: each body is the lane-wise result of its exact operation, and saturation is a clamp. -/
theorem laneInstructions : Obligations.LaneInstructions := by
  unfold Obligations.LaneInstructions
  refine ⟨?_, ?_, ?_⟩
  · intro i
    have h : (sat16 i).1 = max (-32768) (min 32767 i) := satS_eq_clamp 16 i
    refine ⟨h, ?_⟩
    have hs : (sat16 i).2 = ((sat16 i).1 != i) := rfl
    rw [hs, h]; simp; omega
  · intro i
    have h : (sat40 i).1 = max (-(2 ^ 39 - 1)) (min (2 ^ 39 - 1) i) := satSym_eq_clamp 40 i
    refine ⟨h, ?_⟩
    have hs : (sat40 i).2 = ((sat40 i).1 != i) := rfl
    rw [hs, h]; simp; omega
  · intro f a s x w d va vb g lanes put acc
    have h4 : insMode w % 16 = bitsOf w 0 4 := insMode_mod (k := 4) (by omega)
    have h6 : insMode w % 64 = bitsOf w 0 6 := insMode_mod (k := 6) (by omega)
    have h3 : insMode w % 8 = bitsOf w 0 3 := insMode_mod (k := 3) (by omega)
    have hc := bitOf_insMode_zero w
    refine ⟨fun h => ?vadd, fun h => ?vsub, fun h => ?vmul, fun h => ?vmac, fun h => ?vmax, fun h => ?vmin, fun h => ?vshr,
      fun h => ?vshl, fun h => ?vlog, fun h => ?vswap, fun h => ?aclr, fun h => ?arnd, fun h => ?vbcast, fun h => ?vlane,
      fun h => ?cmul, fun h => ?cmac⟩
    case vadd => exact State.anvOp_next h {} rfl
    case vsub => exact State.anvOp_next h {} rfl
    case vmul => exact State.anvOp_next h {} rfl
    case vmac => exact State.anvOp_next h {} rfl
    case vmax => exact State.anvOp_next h {} rfl
    case vmin => exact State.anvOp_next h {} rfl
    case vshr => exact State.anvOp_next h {} (by rw [h4]; rfl)
    case vshl => exact State.anvOp_next h {} (by rw [h4]; rfl)
    case vlog => exact State.anvOp_next h {} (by simp only [logicOp_insMode]; rfl)
    case vswap => exact State.anvOp_next h {} (by rw [hc]; split <;> rfl)
    case aclr => exact State.anvOp_next h {} rfl
    case arnd => exact State.anvOp_next h {} (by rw [h6]; rfl)
    case vbcast => exact State.anvOp_next h {} rfl
    case vlane => exact State.anvOp_next h {} (by rw [h3]; rfl)
    case cmul => exact State.anvOp_next h {} (by rw [hc]; rfl)
    case cmac => exact State.anvOp_next h {} (by rw [hc]; rfl)
end

section
/-!
PROOF. The scalar and address instructions of an anvil (spec/06_anvil_programming.md, R195, R196, R212, R221 to R223): the value that each
writes, and the cycles of Table 6-5.
-/
namespace Sys2Proof.Machine

/-! ## The cycles of Table 6-5 -/

/-- The table's cycles of an instruction whose count is fixed, opcode by opcode. -/
theorem tableFc_eq {w cyc : Nat} (h : tableFc w = some cyc) :
    cyc = (if bitsOf w 24 8 = 0x48 then 8 else if bitsOf w 24 8 = 0x49 then 4 else if bitsOf w 24 8 = 0x4A then 3
      else if bitsOf w 24 8 = 0x04 ∨ bitsOf w 24 8 = 0x05 ∨ bitsOf w 24 8 = 0x06 ∨ bitsOf w 24 8 = 0x25 ∨ bitsOf w 24 8 = 0x26 ∨
        bitsOf w 24 8 = 0x69 then 2
      else if bitsOf w 24 8 = 0x50 ∧ bitOf w 9 = true then 2 else 1) := by
  unfold tableFc at h
  generalize bitsOf w 24 8 = op at h ⊢
  simp only [beq_iff_eq, List.contains_eq_mem, List.mem_cons, List.not_mem_nil, or_false, decide_eq_true_eq] at h
  split at h
  · cases h
  · refine (Option.some.inj (h.symm.trans ?_))
    by_cases hd : op = 0x50
    · subst hd; simp
    · simp only [hd, false_and, if_false]
      split_ifs <;> rfl

/-- Stores that realise the table give each instruction its cycles. -/
theorem State.issued_of_asTable {s : State} {f a : Nat} (h : s.asTable f a = true) : tableFc (s.insWord f a) = some (s.issued f a).1 := by
  unfold State.asTable at h
  unfold State.issued
  split at h
  · next cyc upc uses hi => simpa [hi] using h
  · cases h

/-! ## Values of 32 and 16 bits -/

theorem ofNat_mod_two_pow (k v : Nat) : BitVec.ofNat k (v % 2 ^ k) = BitVec.ofNat k v := BitVec.eq_of_toNat_eq (by simp)

theorem AnvSt.setS_mod (x : AnvSt) (n v : Nat) : x.setS n (v % 2 ^ 32) = x.setS n v := by
  unfold AnvSt.setS; rw [ofNat_mod_two_pow]

theorem AnvSt.setA_mod (x : AnvSt) (n v : Nat) : x.setA n (v % 2 ^ 16) = x.setA n v := by
  unfold AnvSt.setA; rw [ofNat_mod_two_pow]

theorem AnvSt.setA_index (x : AnvSt) (n v : Nat) : x.setA (n % 8) v = x.setA n v := by
  unfold AnvSt.setA; rw [Nat.mod_mod]

theorem AnvSt.s_lt (x : AnvSt) (n : Nat) : x.s_ n < 2 ^ 32 := BitVec.isLt _

theorem sub32_eq_wrapInt (x y : Nat) : sub32 x y = wrapInt 32 ((x : Int) - y) := by
  unfold sub32 wrapInt; omega

/-- A scalar written with a value that the micro-PC does not change. -/
theorem RegBody.setS (n : Nat) {g : AnvSt → Nat} (hg : ∀ x u, g { x with upc := u } = g x) : RegBody (fun x => x.setS n (g x)) where
  upc x u := by
    show AnvSt.setS { x with upc := u } n (g { x with upc := u }) = _
    rw [hg]; rfl

theorem insImm_mod (w : Nat) : insImm w % 2 ^ 16 = bitsOf w 0 16 := by
  unfold insImm bitsOf; exact Nat.mod_mod_of_dvd _ (by norm_num)

/-- SLOG by the two bits of its mode (Table 6-5). -/
theorem logicOp_cases (w : Nat) {x y : Nat} (hy : y < 2 ^ 32) :
    logicOp (insMode w) 32 x y =
      if bitsOf w 0 2 = 0 then x &&& y else if bitsOf w 0 2 = 1 then x ||| y else if bitsOf w 0 2 = 2 then x ^^^ y
      else x &&& (2 ^ 32 - 1 - y) := by
  have hm : bitsOf w 0 2 % 4 = bitsOf w 0 2 := Nat.mod_eq_of_lt (Nat.mod_lt _ (by norm_num))
  rw [logicOp_insMode, logicOp, hm, Nat.mod_eq_of_lt hy]
  simp only [beq_iff_eq]

theorem shiftKind_insMode (w : Nat) : bitsOf (insMode w) 5 2 = bitsOf w 5 2 := by
  unfold insMode bitsOf; omega

/-- SSH by the two bits of its kind and the five bits of its count (Table 6-5). -/
theorem shiftOp_cases (w v free : Nat) :
    shiftOp (insMode w) v free =
      if bitsOf w 5 2 = 0 then v * 2 ^ bitsOf w 0 5 else if bitsOf w 5 2 = 1 then v / 2 ^ bitsOf w 0 5
      else if bitsOf w 5 2 = 2 then wrapInt 32 (sext 32 v / 2 ^ bitsOf w 0 5) else free := by
  have hk : insMode w % 32 = bitsOf w 0 5 := insMode_mod (k := 5) (by omega)
  simp only [shiftOp, hk, shiftKind_insMode, beq_iff_eq]

/-- One execution of SSH: the shifted value goes into its register, and the fourth kind uses a free value up. -/
theorem ssh_eq {s : State} {f a : Nat} (h : s.Steps f a 0x0E) :
    ssh f a s =
      let t := s.stepsTo f a ((s.anvN f a).setS (insD (s.insWord f a)) (shiftOp (insMode (s.insWord f a))
        ((s.anvN f a).s_ (insA (s.insWord f a))) (Config.freeWord (s.dispatched f a).fresh).toNat))
      if bitsOf (s.insWord f a) 5 2 = 3 then t.next else t := by
  obtain ⟨hr, hop, hi, -⟩ := id h
  let b : AnvSt → AnvSt := fun x => x.setS (insD (s.insWord f a)) (shiftOp (insMode (s.insWord f a))
    (x.s_ (insA (s.insWord f a))) (Config.freeWord (s.dispatched f a).fresh).toNat)
  have hb : RegBody b := {}
  unfold ssh
  rw [State.dispatch_eq hr hop hi]
  simp only [State.dispatched_anvN, State.dispatched_insWord, shiftKind_insMode, beq_iff_eq]
  split
  · refine (h.endInstr (s.dispatched f a).next hb rfl rfl rfl rfl).trans ?_
    exact congrArg State.next (s.dispatched_setAnv f a _)
  · exact (h.endInstr (s.dispatched f a) hb rfl rfl rfl rfl).trans (s.dispatched_setAnv f a _)

end Sys2Proof.Machine

open Sys2Proof Sys2Proof.Machine

/-- Settles O32: each body writes the value of Table 6-5 into its register; the value of the fourth kind of SSH shift, to which the spec
gives none, is free by the model's choice (log entry 63). -/
theorem scalarInstructions : Obligations.ScalarInstructions := by
  unfold Obligations.ScalarInstructions
  refine ⟨fun f a s h => tableFc_eq (State.issued_of_asTable h), ?_⟩
  intro f a s x w d
  have himm := insImm_mod w
  refine ⟨fun h => ?nop, fun h => ?sli, fun h => ?slui, fun h => ?sadd, fun h => ?ssub, fun h => ?saddi, fun h => ?slog,
    fun h hk => ?ssh, fun h hk => ?sshFree, fun h => ?aimm, fun h => ?oimm, fun h => ?limm, fun h => ?amov, fun h => ?smova,
    fun h => ?rdsat⟩
  case nop => exact State.anvOp_next h {} rfl
  case sli => exact State.anvOp_next h {} rfl
  case slui => exact State.anvOp_next h {} (by rw [← himm]; rfl)
  case sadd => exact State.anvOp_next h {} (AnvSt.setS_mod ..).symm
  case ssub => exact State.anvOp_next h (.setS _ fun _ _ => congrArg₂ sub32 rfl rfl) (congrArg (AnvSt.setS _ _) (sub32_eq_wrapInt _ _))
  case saddi => exact State.anvOp_next h {} rfl
  case slog => exact State.anvOp_next h {} (by rw [logicOp_cases w (AnvSt.s_lt ..)])
  case ssh =>
    show Host.Outcome.next (ssh f a s) = _
    rw [ssh_eq h, shiftOp_cases]
    dsimp only
    rw [if_neg hk]
    congr 2
    split_ifs with h0 h1 h2
    · exact (AnvSt.setS_mod ..).symm
    · rfl
    · rfl
    · have := Nat.mod_lt (w / 2 ^ 5) (show 0 < 2 ^ 2 by norm_num)
      simp only [bitsOf] at *; omega
  case sshFree =>
    refine ⟨_, (congrArg Host.Outcome.next ((ssh_eq h).trans (if_pos hk)))⟩
  case aimm => exact State.anvOp_next h {} (by rw [← himm, AnvSt.setA_mod, AnvSt.setA_index])
  case oimm => exact State.anvOp_next h {} (by rw [← himm, ofNat_mod_two_pow])
  case limm => exact State.anvOp_next h {} (by rw [← himm, ofNat_mod_two_pow])
  case amov => exact State.anvOp_next h {} (AnvSt.setA_mod ..).symm
  case smova => exact State.anvOp_next h {} rfl
  case rdsat => exact State.anvOp_next h {} rfl
end

section
/-!
PROOF. What a publish leaves alone (spec/05_compute_fabric.md, R156 to R160; spec/07, R250 to R278): records, answers, mask hits, raster
writes and density counts change neither the clock, nor the states of the forges, nor the fabric, nor the registers of the forges, nor
the counts of completed billets and cycles, nor the heads of the command rings.
-/
namespace Sys2Proof.Machine

/-! ## The words and the parts of the state that stay -/

/-- The words that a publish keeps: those of the forges past their status, load and hearth words, the COMPLETED and CYCLES counters of
the contexts, and the head pointers of the command rings. -/
def keptWord (off : Nat) : Bool :=
  (decide (0x100000 ≤ off) && decide (off < 0x180000) && decide (0x14 ≤ off % 0x4000)) ||
  (decide (0x200000 ≤ off) && decide (off < 0x380000) &&
    ((decide (0x118 ≤ off % 0x200) && decide (off % 0x200 < 0x120)) || (decide (0x130 ≤ off % 0x200) && decide (off % 0x200 < 0x138)))) ||
  (decide (0x601000 ≤ off) && decide (off < 0x601400) && decide (off % 0x40 = 0x0C))

/-- Consecutive words without a kept one. -/
abbrev SparesWords (base n : Nat) : Prop := ∀ i, i < n → keptWord (base + 4 * i) = false

/-- A field without a kept word. -/
abbrev Fld.Spares (x : Fld) : Prop := SparesWords x.base x.words

/-- The parts of the state that a publish keeps: clock, states of the forges, fabric and the kept words. -/
def State.calm (s : State) : ClkSt × (Fin 32 → BlkState) × FabSt × (Nat → BitVec 32) :=
  (s.clk, fun f => s.blk (0x20 + f), s.fab, fun off => if keptWord off then s.word off else 0)

theorem State.calm_eq {s t : State} (hclk : t.clk = s.clk) (hblk : ∀ f : Fin 32, t.blk (0x20 + f) = s.blk (0x20 + f)) (hfab : t.fab = s.fab)
    (hwords : WordsKept (fun off => keptWord off = false) s t) : t.calm = s.calm := by
  unfold State.calm
  rw [hclk, hfab, funext hblk]
  congr 3
  funext off
  split
  · next h => exact hwords off (by simp [h])
  · rfl

theorem foldl_calm {α : Type} {f : State → α → State} {l : List α} (hf : ∀ t, ∀ x ∈ l, (f t x).calm = t.calm) (s : State) :
    (l.foldl f s).calm = s.calm := by
  induction l generalizing s with
  | nil => rfl
  | cons x l ih => exact (ih (fun t y hy => hf t y (List.mem_cons_of_mem _ hy)) _).trans (hf s x List.mem_cons_self)

/-! ## Registers, messages, logs and wakes -/

section
variable (s : State)

theorem State.calm_setWordsAt {off n : Nat} (v : Nat) (h : SparesWords off n) : (s.setWordsAt off n v).calm = s.calm :=
  State.calm_eq (by simp) (fun f => by simp [State.blk]) (by simp) (.setWordsAt s v h)

theorem State.calm_setF {x : Fld} (v : Nat) (h : x.Spares) : (s.setF x v).calm = s.calm := s.calm_setWordsAt _ h

theorem State.calm_setB {x : Fld} (b : Bool) (h : x.Spares) : (s.setB x b).calm = s.calm := by
  unfold State.setB
  split
  · exact s.calm_setF 1 h
  · exact s.calm_setF 0 h

theorem State.calm_addSat {x : Fld} (k : Nat) (h : x.Spares) : (s.addSat x k).calm = s.calm := s.calm_setF _ h

theorem State.calm_incSat {x : Fld} (h : x.Spares) : (s.incSat x).calm = s.calm := s.calm_setF _ h

theorem State.calm_addWrap {x : Fld} (k : Nat) (h : x.Spares) : (s.addWrap x k).calm = s.calm := s.calm_setF _ h

theorem State.calm_setPtimeAt {off : Nat} (t : Nat) (h : SparesWords off 4) : (s.setPtimeAt off t).calm = s.calm := s.calm_setWordsAt _ h

@[simp] theorem State.calm_emit (m : Msg) : (s.emit m).calm = s.calm := by
  unfold State.emit
  split <;> rfl

@[simp] theorem State.calm_next : s.next.calm = s.calm := rfl
@[simp] theorem State.calm_host (h : HostSt) : ({ s with host := h } : State).calm = s.calm := rfl
@[simp] theorem State.calm_rs (r : RsSt) : ({ s with rs := r } : State).calm = s.calm := rfl
@[simp] theorem State.calm_trg (x : TrgSt) : ({ s with trg := x } : State).calm = s.calm := rfl
@[simp] theorem State.calm_cl (x : ClSt) : ({ s with cl := x } : State).calm = s.calm := rfl
@[simp] theorem State.calm_tp (x : TpSt) : ({ s with tp := x } : State).calm = s.calm := rfl
@[simp] theorem State.calm_mem (x : MemSt) : ({ s with mem := x } : State).calm = s.calm := rfl

theorem LogsOnly.calm {W : Nat → Prop} {s t : State} (h : LogsOnly W s t) (hW : ∀ off, W off → keptWord off = false) : t.calm = s.calm := by
  obtain ⟨r, x, he⟩ := h.eq
  exact State.calm_eq (by rw [he]) (fun f => by rw [he]; rfl) (by rw [he]) (h.words.mono hW)

theorem keptWord_low {off : Nat} (h : off < 0x100000 ∨ 0x601400 ≤ off) : keptWord off = false := by
  unfold keptWord
  simp only [Bool.or_eq_false_iff, Bool.and_eq_false_iff, decide_eq_false_iff_not]
  omega

theorem LogWord.spared {off : Nat} (h : LogWord off) : keptWord off = false := keptWord_low (by unfold LogWord at h; omega)

@[simp] theorem State.calm_logRefused (src kind : Nat) (write : Bool) (addr : Nat) : (s.logRefused src kind write addr).calm = s.calm :=
  (s.logRefused_spec src kind write addr).1.calm fun off h => keptWord_low (by unfold RefusalWord LogWord at h; omega)

theorem State.calm_errLog_minor (type block code : Nat) (detail : List Nat) {sev : Nat} (h : sev < 2) :
    (s.errLog type sev block code detail).calm = s.calm :=
  (s.errLog_minor type block code detail h).calm fun _ => LogWord.spared

theorem State.blk_setBlk (b c : Nat) (v : BlkState) : (s.setBlk b v).blk c = if c = b then v else s.blk c := tget_tset ..

theorem State.blk_moveBlks {b : Nat} (d : Nat) (v : BlkState) (h : b ∉ domBlocks d) : (s.moveBlks d v).blk b = s.blk b := by
  unfold State.moveBlks
  generalize domBlocks d = l at h
  induction l generalizing s with
  | nil => rfl
  | cons x l ih =>
    simp only [List.mem_cons, not_or] at h
    refine (ih _ h.2).trans ?_
    dsimp only
    split
    · rfl
    · rw [State.blk_setBlk, if_neg h.1]

theorem State.blk_of_fence {s t : State} (h : t.fence = s.fence) (b : Nat) : t.blk b = s.blk b := by unfold State.blk; rw [h]

theorem State.blk_startDomain {b : Nat} (d : Nat) (h : b ∉ domBlocks d) : (s.startDomain d).blk b = s.blk b := by
  unfold State.startDomain
  split
  · exact (State.blk_moveBlks _ d _ h).trans (State.blk_of_fence (by simp [State.setDom]) b)
  · rfl

theorem State.blk_wakeDomain {b : Nat} (d : Nat) (h : b ∉ domBlocks d) : (s.wakeDomain d).blk b = s.blk b := by
  have started (p : PwrSt) : (({ s with pwr := p } : State).startDomain d).blk b = s.blk b := State.blk_startDomain _ d h
  have noted (t : State) (c n : Nat) : (t.lastWake c n).blk b = t.blk b :=
    State.blk_of_fence (by simp [State.lastWake, State.setPtimeAt]) b
  have awake (t : State) (p : PwrSt) : ({ t.setF R.PWR_STATUS_STATE 1 with pwr := p } : State).blk b = t.blk b :=
    State.blk_of_fence (by simp) b
  unfold State.wakeDomain
  dsimp only
  split_ifs
  · rfl
  · exact started _
  · exact (noted _ _ _).trans (started _)
  · exact (awake _ _).trans ((noted _ _ _).trans (started _))
  · exact started _

/-- The wake of a domain without forges. -/
theorem State.calm_wakeDomain {d : Nat} (hd : d < 96) (h : ∀ f : Fin 32, 0x20 + f.val ∉ domBlocks d) : (s.wakeDomain d).calm = s.calm := by
  have hw := WakesOnly.wakeDomain s hd
  obtain ⟨r, p, st, he⟩ := hw.eq
  refine State.calm_eq (by rw [he]) (fun f => s.blk_wakeDomain d (h f)) (by rw [he]) (hw.words.mono fun off ho => keptWord_low ?_)
  unfold PowerWord at ho; omega

@[simp] theorem State.calm_memWake : s.memWake.calm = s.calm :=
  (State.calm_wakeDomain _ (by decide) (by decide)).trans (State.calm_wakeDomain _ (by decide) (by decide))

end

end Sys2Proof.Machine
end

section
/-!
PROOF. What capture memory, stream queues, trigger units, the Trigger Port, the raster output and the command rings keep when a publish
uses them (spec/08, spec/09, spec/11 to spec/14).
-/
namespace Sys2Proof.Machine

/-- A field of an indexed register that lies between kept words. -/
theorem Fld.Spares.of_apart {x : Fld} (h : x.base + 4 * x.words ≤ 0x100000 ∨ (0x180000 ≤ x.base ∧ x.base + 4 * x.words ≤ 0x200000) ∨
    (0x380000 ≤ x.base ∧ x.base + 4 * x.words ≤ 0x601000) ∨ 0x601400 ≤ x.base) : x.Spares := by
  intro i hi
  unfold keptWord
  simp only [Bool.or_eq_false_iff, Bool.and_eq_false_iff, decide_eq_false_iff_not]
  omega

section
variable (s : State)

/-! ## Capture memory -/

@[simp] theorem State.calm_setMc (m : Nat) (c : McSt) : (s.setMc m c).calm = s.calm := rfl

@[simp] theorem State.calm_putBytes (sp a : Nat) (bs : List (BitVec 8)) : (s.putBytes sp a bs).calm = s.calm := rfl

@[simp] theorem State.calm_storeEntry (e : WqEntry) : (s.storeEntry e).calm = s.calm := by
  unfold State.storeEntry
  dsimp only
  split_ifs <;> rfl

/-- The registers of a controller. -/
theorem spares_mc {m r wd lo : Nat} (hm : m < 2) (hr : r < 0x1000) (hw : lo + wd ≤ 64) : (⟨0x501000 + r + 0x1000 * m, lo, wd⟩ : Fld).Spares :=
  .of_apart (by simp only [Fld.base, Fld.words]; omega)

theorem ctlOf_lt (sector : Nat) : ctlOf sector < 2 := Nat.mod_lt _ (by omega)

theorem State.calm_syncWq {m : Nat} (hm : m < 2) : (s.syncWq m).calm = s.calm :=
  (State.calm_setF _ _ (spares_mc (r := 0x44) hm (by omega) (by omega))).trans
    (State.calm_setF _ _ (spares_mc (r := 0x44) hm (by omega) (by omega)))

theorem State.calm_drainOne {m : Nat} (hm : m < 2) : (s.drainOne m).calm = s.calm := by
  unfold State.drainOne
  dsimp only
  split
  · rfl
  · rw [State.calm_syncWq _ hm]; simp

@[simp] theorem State.calm_wqPush (e : WqEntry) : (s.wqPush e).calm = s.calm := by
  have hm := ctlOf_lt e.sector
  have skip (t : State) : (t.incSat (R.MCM_SCRUB_SKIP (ctlOf e.sector))).calm = t.calm :=
    State.calm_incSat _ (spares_mc (r := 0x64) hm (by omega) (by omega))
  unfold State.wqPush
  dsimp only
  split_ifs <;> simp [State.calm_syncWq _ hm, State.calm_drainOne _ hm, skip]

@[simp] theorem State.calm_logMask (src sp : Nat) (write : Bool) (a : Nat) (mask : List Bool) :
    (s.logMask src sp write a mask).calm = s.calm := by
  unfold State.logMask
  split
  · simp
  · rfl

@[simp] theorem State.calm_spaceWrite (src : Nat) (secure : Bool) (sp a : Nat) (bs : List (BitVec 8)) :
    (s.spaceWrite src secure sp a bs).calm = s.calm := by
  simp [State.spaceWrite]

@[simp] theorem State.calm_useGrant (p n : Nat) : (s.useGrant p n).calm = s.calm := by
  unfold State.useGrant
  dsimp only
  split <;> rfl

theorem State.calm_portBurst {p : Nat} (hp : p < 6) (a n : Nat) : (s.portBurst p a n).calm = s.calm := by
  have bytes (t : State) : (t.addSat (R.MC_P_BYTES p) n).calm = t.calm :=
    State.calm_addSat _ _ (.of_apart (by simp only [Fld.base, Fld.words, R.MC_P_BYTES]; omega))
  have refresh (t : State) (m : Nat) : (t.incSat (R.MCM_PNR (m % 2))).calm = t.calm :=
    State.calm_incSat _ (spares_mc (r := 0x20) (Nat.mod_lt _ (by omega)) (by omega) (by omega))
  unfold State.portBurst
  dsimp only
  rw [foldl_calm]
  · split_ifs <;> simp [bytes]
  · intro t i _
    split
    · exact refresh _ _
    · rfl

theorem State.calm_mcWrite {p : Nat} (hp : p < 6) (src : Nat) (secure : Bool) (a : Nat) (bs : List (BitVec 8)) (poison : Bool) :
    (s.mcWrite p src secure a bs poison).1.calm = s.calm := by
  unfold State.mcWrite
  dsimp only
  split <;> simp [foldl_calm, State.calm_portBurst _ hp]

/-! ## Stream queues -/

@[simp] theorem State.calm_setSq (q : Nat) (x : SqSt) : (s.setSq q x).calm = s.calm := rfl

/-- The registers of a stream queue. -/
theorem spares_sq {q r lo wd : Nat} (hq : q < 32) (hr : r < 0x38) (hw : lo + wd ≤ 64) : (⟨0x584000 + r + 0x40 * q, lo, wd⟩ : Fld).Spares :=
  .of_apart (by simp only [Fld.base, Fld.words]; omega)

section
variable {q : Nat} (hq : q < 32)
include hq

theorem State.calm_syncSq : (s.syncSq q).calm = s.calm :=
  (State.calm_setF _ _ (spares_sq (r := 0x14) hq (by omega) (by omega))).trans
    (State.calm_setB _ _ (spares_sq (r := 0x08) hq (by omega) (by omega)))

theorem State.calm_sqDrop (count : Bool) : (s.sqDrop q count).calm = s.calm := by
  have dropped : ((s.setB (R.SQ_STATUS_DROP q) true).setSq q { s.sqN q with loss := true }).calm = s.calm :=
    s.calm_setB true (spares_sq (r := 0x08) hq (by omega) (by omega))
  unfold State.sqDrop
  dsimp only
  split
  · exact (State.calm_incSat _ (spares_sq (r := 0x20) hq (by omega) (by omega))).trans dropped
  · exact dropped

theorem State.calm_sqPut (src : Nat) (p : SqPkt) : (s.sqPut q src p).1.calm = s.calm := by
  have entered (x : SqSt) (n : Nat) : ((((s.setSq q x).addWrap (R.SQ_PTR_WPTR q) n).addSat (R.SQ_PKTS q) 1).syncSq q).calm = s.calm :=
    ((State.calm_syncSq _ hq).trans (State.calm_addSat _ _ (spares_sq (r := 0x18) hq (by omega) (by omega)))).trans
      (State.calm_addWrap _ _ (spares_sq (r := 0x0C) hq (by omega) (by omega)))
  unfold State.sqPut
  dsimp only
  split_ifs
  · rfl
  · exact s.calm_sqDrop hq _
  · exact entered _ _

theorem State.calm_sqRecord (bytes : List (BitVec 8)) (time flags : Nat) (poison : Bool) :
    (s.sqRecord q bytes time flags poison).1.calm = s.calm := by
  unfold State.sqRecord State.sqWrite
  split
  · rfl
  · exact s.calm_sqPut hq 0 _

end

/-! ## Trigger units, and the fires that they originate -/

@[simp] theorem State.calm_setUnit (u : Nat) (x : TrgUnit) : (s.setUnit u x).calm = s.calm := rfl

@[simp] theorem State.calm_trigPulse (o at_ : Nat) : (s.trigPulse o at_).calm = s.calm := by
  unfold State.trigPulse
  dsimp only
  split
  · rfl
  · simp

@[simp] theorem State.calm_trigSel (sel at_ : Nat) : (s.trigSel sel at_).calm = s.calm :=
  foldl_calm (fun t o _ => by split <;> simp) s

@[simp] theorem State.calm_tell (sel : Nat) (trigout : Bool) (pt : Nat) : (s.tell sel trigout pt).calm = s.calm := by
  unfold State.tell
  cases trigout
  · rfl
  · exact s.calm_trigSel _ _

/-- The result registers of a trigger unit. -/
theorem spares_trg {u r lo wd : Nat} (hu : u < 32) (hr : r < 0x20) (hw : lo + wd ≤ 64) : (⟨0x403000 + r + 0x20 * u, lo, wd⟩ : Fld).Spares :=
  .of_apart (by simp only [Fld.base, Fld.words]; omega)

theorem State.calm_report {u : Nat} (hu : u < 32) (stamp fc lat : Nat) : (s.report u stamp fc lat).1.calm = s.calm := by
  have merged (t : State) : (t.incSat (R.TRG_MERGED u)).calm = t.calm := t.calm_incSat (spares_trg (r := 4) hu (by omega) (by omega))
  have event (t : State) : (t.incSat (R.TRG_EVENTS u)).calm = t.calm := t.calm_incSat (spares_trg (r := 0) hu (by omega) (by omega))
  have overflow (t : State) : (t.incSat (R.TRG_OVERFLOW u)).calm = t.calm := t.calm_incSat (spares_trg (r := 8) hu (by omega) (by omega))
  have full (t : State) (b : Bool) : (t.setB R.TRG_STATUS_EVT_OVF b).calm = t.calm := t.calm_setB b (by decide)
  have last (t : State) (v : Nat) : (t.setF (R.TRG_LAST u) v).calm = t.calm := t.calm_setF v (spares_trg (r := 0x10) hu (by omega) (by omega))
  have frac (t : State) (v : Nat) : (t.setF (R.TRG_LAST_FRAC_FRAC u) v).calm = t.calm :=
    t.calm_setF v (spares_trg (r := 0x0C) hu (by omega) (by omega))
  unfold State.report
  dsimp only
  split_ifs <;> simp only [State.calm_tell, State.calm_trg, State.calm_setUnit, merged, event, overflow, full, last, frac]

theorem State.calm_deliverFire (pt origin num : Nat) (checkLate : Bool) : (s.deliverFire pt origin num checkLate).calm = s.calm := by
  have units (stamp fc lat : Nat) : ((List.range 32).foldl (fun (t : State) u =>
      if t.unitIs u 9 then (t.report u stamp fc lat).1 else t) s).calm = s.calm :=
    foldl_calm (fun t u hu => by
      split
      · exact t.calm_report (List.mem_range.mp hu) _ _ _
      · rfl) s
  unfold State.deliverFire
  dsimp only
  split_ifs <;> simp (disch := decide) [units, State.calm_setF, State.calm_incSat, State.calm_setB, State.calm_setPtimeAt]

@[simp] theorem State.calm_sendCtl (k type_ flags payload : Nat) : (s.sendCtl k type_ flags payload).calm = s.calm := rfl

@[simp] theorem State.calm_broadcast (type_ flags payload : Nat) : (s.broadcast type_ flags payload).calm = s.calm :=
  foldl_calm (fun t k _ => t.calm_sendCtl k type_ flags payload) s

theorem State.calm_topFire (pt origin source : Nat) : (s.topFire pt origin source).calm = s.calm := by
  unfold State.topFire
  dsimp only
  split_ifs <;> simp (disch := decide) [State.calm_deliverFire, State.calm_incSat, State.calm_setB]

theorem State.calm_originate (source pt : Nat) : (s.originate source pt).calm = s.calm := by
  unfold State.originate
  dsimp only
  split_ifs <;> simp (disch := decide) [State.calm_topFire, State.calm_incSat]

theorem State.calm_unitEvent {u : Nat} (hu : u < 32) (stamp fc lat : Nat) : (s.unitEvent u stamp fc lat).calm = s.calm := by
  unfold State.unitEvent
  dsimp only
  split <;> simp [State.calm_originate, State.calm_report _ hu]

theorem State.calm_maskEvent (ctx side idx lat : Nat) : (s.maskEvent ctx side idx lat).calm = s.calm := by
  unfold State.maskEvent
  dsimp only
  split
  · rfl
  · refine foldl_calm (fun t u hu => ?_) s
    split
    · exact t.calm_unitEvent (List.mem_range.mp hu) _ _ _
    · rfl

/-! ## Answers and the SYNTH buffer -/

@[simp] theorem State.calm_syncTpa : s.syncTpa.calm = s.calm := by
  unfold State.syncTpa
  split <;> rfl

theorem State.calm_ansFree {e : Nat} (he : e < 64) : (s.ansFree e).calm = s.calm := by
  have value (t : State) (v : Nat) : (t.setF (R.TP_ANS_VAL_VALUE e) v).calm = t.calm :=
    t.calm_setF v (.of_apart (by simp only [Fld.base, Fld.words, R.TP_ANS_VAL_VALUE]; omega))
  have number (t : State) : (t.addWrap (R.TP_ANS_VAL_SEQ e) 1).calm = t.calm :=
    t.calm_addWrap 1 (.of_apart (by simp only [Fld.base, Fld.words, R.TP_ANS_VAL_SEQ]; omega))
  unfold State.ansFree State.ansSelect
  dsimp only
  split <;> simp [value, number]

theorem State.calm_answerUpdate {e : Nat} (he : e < 64) (src value : Nat) : (answerUpdate e src value s).calm = s.calm := by
  unfold answerUpdate
  dsimp only
  split_ifs <;> simp (disch := decide) only [State.calm_ansFree _ he, State.calm_incSat, State.calm_setB, State.calm_tp]

theorem State.calm_synthRecord {n : Nat} (hn : n < 4) (xs : List (BitVec 16)) : (s.synthRecord n xs).calm = s.calm := by
  have kept (d : DacSt) : (s.setDac n d).calm = s.calm := rfl
  unfold State.synthRecord
  dsimp only
  split_ifs
  · rfl
  · exact kept _
  · rw [State.calm_setB, State.calm_addSat, kept]
    · exact .of_apart (by simp only [Fld.base, Fld.words, R.DAC_SYNTH_DROP]; omega)
    · exact .of_apart (by simp only [Fld.base, Fld.words, R.DAC_STATUS_SYNTH_OVR]; omega)

/-! ## The raster output -/

@[simp] theorem State.calm_regionLate (r : Nat) : (s.regionLate r).calm = s.calm :=
  (State.calm_setB _ _ (by decide)).trans (s.calm_incSat (.of_apart (by simp only [Fld.base, Fld.words, R.RS_REG_LATE]; omega)))

theorem State.calm_mapAdvance : s.mapAdvance.calm = s.calm := by
  have cell (t : State) (m : MapRec) (c : Nat) : (t.mapCell m c).calm = t.calm :=
    foldl_calm (fun u _ _ => foldl_calm (fun v _ _ => v.calm_putBytes _ _ _) u) t
  unfold State.mapAdvance
  split
  · rfl
  · dsimp only
    split_ifs
    · rfl
    · rfl
    · simp
    · exact (State.calm_rs _ _).trans (foldl_calm (fun t c _ => cell t _ _) s)

theorem State.calm_rsAuto : s.rsAuto.calm = s.calm := by
  unfold State.rsAuto State.rsCommit
  dsimp only
  split_ifs <;> simp (disch := decide) only [State.calm_mapAdvance, State.calm_setF, State.calm_setB, State.calm_rs]

theorem State.calm_regionDone (r : Nat) : (s.regionDone r).calm = s.calm :=
  (State.calm_rsAuto _).trans (s.calm_incSat (.of_apart (by simp only [Fld.base, Fld.words, R.RS_REG_FRAMES]; omega)))

theorem State.calm_rasterWrite (h : RasterPut) : (s.rasterWrite h).1.calm = s.calm := by
  have wakes (t : State) : (t.wakeBlk 0x6B).calm = t.calm :=
    State.calm_wakeDomain t (d := domOf 0x6B) (by decide) (by decide)
  have written : (h.data.zipIdx.foldl (fun (t : State) p => t.spaceWrite 0x6B h.secure 2 (t.regionByte h.region (h.off + p.2)) [p.1]) s).calm = s.calm :=
    foldl_calm (fun t p _ => by simp) s
  unfold State.rasterWrite
  dsimp only
  split_ifs <;> simp (disch := decide) [wakes, written, State.calm_regionDone, State.calm_incSat]

/-! ## Deferred commands -/

@[simp] theorem State.calm_raise (fn vec : Nat) : (s.raise fn vec).calm = s.calm := by
  unfold State.raise
  split <;> simp

/-- The words of a ring other than its head pointer. -/
theorem spares_ring {k r lo wd : Nat} (hr : r = 0x08 ∨ r = 0x10) (hw : lo + wd ≤ 31) : (⟨0x601000 + r + 0x40 * k, lo, wd⟩ : Fld).Spares := by
  intro i hi
  have hbase : (⟨0x601000 + r + 0x40 * k, lo, wd⟩ : Fld).base + 4 * i = 0x601000 + r + 0x40 * k := by
    simp only [Fld.base, Fld.words] at hi ⊢
    omega
  unfold keptWord
  rw [hbase]
  simp only [Bool.or_eq_false_iff, Bool.and_eq_false_iff, decide_eq_false_iff_not]
  omega

@[simp] theorem State.calm_writeCpl (k : Nat) (w : WaitCpl) : (s.writeCpl k w).calm = s.calm := by
  have tail (t : State) (v : Nat) : (t.setF (R.HI_RING_CPTR_CTAIL k) v).calm = t.calm :=
    t.calm_setF v (spares_ring (r := 0x10) (.inr rfl) (by omega))
  have phase (t : State) (v : Nat) : (t.setF (R.HI_RING_CPTR_PHASE k) v).calm = t.calm :=
    t.calm_setF v (spares_ring (r := 0x10) (.inr rfl) (by omega))
  unfold State.writeCpl
  dsimp only
  split <;> simp [tail, phase]

@[simp] theorem State.calm_complete (k : Nat) (tag : BitVec 16) (irq : Bool) (status steps result : Nat) :
    (s.complete k tag irq status steps result).calm = s.calm := by
  have full (t : State) (b : Bool) : (t.setB (R.HI_RING_STATUS_CPL_FULL k) b).calm = t.calm :=
    t.calm_setB b (spares_ring (r := 0x08) (.inl rfl) (by omega))
  unfold State.complete
  dsimp only
  split_ifs <;> simp [full]

@[simp] theorem State.calm_syncWork : s.syncWork.calm = s.calm :=
  (State.calm_setF _ _ (by decide)).trans (State.calm_setF _ _ (by decide))

@[simp] theorem State.calm_drainRing (k : Nat) : (s.drainRing k).calm = s.calm := by
  unfold State.drainRing
  split
  · exact s.calm_setF _ (spares_ring (r := 0x08) (.inl rfl) (by omega))
  · rfl

theorem State.calm_finishDefs (opcode target status result : Nat) : (s.finishDefs opcode target status result).calm = s.calm :=
  foldl_calm (fun t c _ => by
    unfold State.finishDef
    dsimp only
    split <;> simp) s

theorem State.calm_finishLong (c : LongCmd) (status result : Nat) : (s.finishLong c status result).calm = s.calm := by
  unfold State.finishLong
  dsimp only
  split <;> simp

end

end Sys2Proof.Machine
end

section
/-!
PROOF. Publish lists, records, averages and density planes change neither clock nor fabric (spec/05_compute_fabric.md, R156 to R160;
spec/07_contexts_and_products.md, R250 to R273).
-/
namespace Sys2Proof.Machine

section
variable (s : State)

/-! ## Contexts and their counters -/

@[simp] theorem State.calm_setCtx (c : Nat) (x : CtxSt) : (s.setCtx c x).calm = s.calm := rfl

/-- The state and the counters of a context, without COMPLETED and CYCLES. -/
theorem spares_ctx {c r lo wd : Nat} (hr : r = 0x100 ∨ r = 0x120 ∨ r = 0x128 ∨ r = 0x138 ∨ r = 0x140 ∨ r = 0x150) (hw : lo + wd ≤ 64) :
    (⟨0x200000 + r + 0x200 * c, lo, wd⟩ : Fld).Spares := by
  intro i hi
  obtain ⟨j, hj, hbase⟩ : ∃ j < 2, (⟨0x200000 + r + 0x200 * c, lo, wd⟩ : Fld).base + 4 * i = 0x200000 + r + 0x200 * c + 4 * j := by
    simp only [Fld.base, Fld.words] at hi ⊢
    exact ⟨lo / 32 + i, by omega, by omega⟩
  unfold keptWord
  rw [hbase]
  simp only [Bool.or_eq_false_iff, Bool.and_eq_false_iff, decide_eq_false_iff_not]
  omega

theorem State.calm_recSent (c epoch product : Nat) : (s.recSent c epoch product).calm = s.calm :=
  (State.calm_addSat _ _ (spares_ctx (r := 0x138) (by decide) (by omega))).trans (s.calm_setCtx _ _)

theorem State.calm_cmRecord (c : Nat) (cfg : List (BitVec 32)) (bytes : List (BitVec 8)) : (s.cmRecord c cfg bytes).calm = s.calm := by
  unfold State.cmRecord
  dsimp only
  split
  · rfl
  · exact (foldl_calm (fun t p _ => t.calm_mcWrite (by omega) _ _ _ _ _) _).trans (s.calm_setCtx _ _)

theorem State.calm_recQueue (c epoch product : Nat) {q : Nat} (hq : q < 32) (h : RecHead) (bytes : List (BitVec 8)) :
    (s.recQueue c epoch product q h bytes).calm = s.calm := by
  have sent := s.calm_sqRecord hq bytes h.ptime h.flags false
  unfold State.recQueue
  dsimp only
  split
  · exact (State.calm_recSent _ _ _ _).trans sent
  · exact ((State.calm_addSat _ _ (spares_ctx (r := 0x140) (by decide) (by omega))).trans (State.calm_setCtx _ _ _)).trans sent

theorem cfgF_lt (cfg : List (BitVec 32)) (x : Fld) : cfgF cfg x < 2 ^ x.wd := Nat.mod_lt _ (by positivity)

theorem State.calm_recEmit (c epoch product : Nat) (i : FoldInfo) (payload : List (BitVec 8)) (len : Nat) :
    (s.recEmit c epoch product i payload len).calm = s.calm := by
  have queue (t : State) (n : Nat) := t.calm_recQueue c epoch product (Nat.mod_lt n (show 0 < 32 by omega))
  have mon (t : State) (cfg : List (BitVec 32)) := t.calm_recQueue c epoch product (cfgF_lt cfg (R.CTX_SYNTH_MON_SQ 0))
  have synth (cfg : List (BitVec 32)) := s.calm_synthRecord (cfgF_lt cfg (R.CTX_SYNTH_SYNTH_OUT 0))
  have answer (n : Nat) := s.calm_answerUpdate (Nat.mod_lt n (show 0 < 64 by omega))
  unfold State.recEmit
  dsimp only
  split_ifs <;> simp only [queue, mon, synth, answer, State.calm_recSent, State.calm_cmRecord, State.calm_rs]

/-! ## Averages -/

@[simp] theorem State.calm_putAvg (c : Nat) (a : AvgSt) : (s.putAvg c a).calm = s.calm := rfl

@[simp] theorem State.calm_avgEmit (c : Nat) (a : AvgSt) : (s.avgEmit c a).calm = s.calm := by
  unfold State.avgEmit
  dsimp only
  split
  · rfl
  · exact s.calm_recEmit _ _ _ _ _ _

theorem State.calm_avgFold (b : Billet) (product : Nat) (i : FoldInfo) (payload : List (BitVec 8)) :
    (s.avgFold b product i payload).calm = s.calm := by
  unfold State.avgFold
  extract_lets cfg kind len nMax block found a s1
  split
  · exact (State.calm_putAvg _ _ _).trans ((State.calm_avgEmit _ _ _).trans (s.calm_putAvg _ _))
  · exact s.calm_putAvg _ _

theorem State.calm_closeAvgs (c : Nat) : (s.closeAvgs c).calm = s.calm :=
  foldl_calm (fun t a _ => by
    split
    · exact (State.calm_avgEmit _ _ _).trans (t.calm_setCtx _ _)
    · rfl) s

theorem State.calm_flushAvgs (c : Nat) : (s.flushAvgs c).calm = s.calm :=
  (foldl_calm (fun t a _ => t.calm_avgEmit c a) _).trans (s.calm_setCtx _ _)

/-! ## Density planes -/

theorem State.calm_densInc (home plane : Nat) (secure : Bool) (w : Nat) : (s.densInc home plane secure w).calm = s.calm := by
  unfold State.densInc
  split
  · rfl
  · exact s.calm_spaceWrite _ _ _ _ _

theorem State.calm_densDecay (home plane sh : Nat) : (s.densDecay home plane sh).calm = s.calm := by
  unfold State.densDecay
  generalize List.range (1024 * 256) = cells
  exact foldl_calm (fun t _ _ => t.calm_putBytes _ _ _) s

theorem State.calm_densFrame (b : Billet) (i : FoldInfo) : (s.densFrame b i).calm = s.calm := by
  unfold State.densFrame
  extract_lets c cfg x sh fi decay decays x1 s1 s2 s3 payload
  have decayed : s2.calm = s.calm := by
    simp only [s2]
    split
    · exact (State.calm_densDecay _ _ _ _).trans (s.calm_setCtx _ _)
    · exact s.calm_setCtx _ _
  clear_value payload
  split
  · exact decayed
  · exact (State.calm_recEmit _ _ _ _ _ _ _).trans ((State.calm_setCtx _ _ _).trans decayed)

/-! ## Publish lists -/

theorem State.calm_pubRecord (b : Billet) (i : FoldInfo) (payload : List (BitVec 8)) : (s.pubRecord b i payload).calm = s.calm := by
  unfold State.pubRecord
  dsimp only
  split_ifs
  · rfl
  · exact s.calm_avgFold _ _ _ _
  · exact s.calm_recEmit _ _ _ _ _ _
  · exact s.calm_recEmit _ _ _ _ _ _

theorem State.calm_rasterPut (h : RasterPut) : (s.rasterPut h).calm = s.calm := by
  unfold State.rasterPut
  dsimp only
  split_ifs <;> simp only [State.calm_recEmit, State.calm_setCtx, State.calm_rasterWrite]

theorem State.calm_pubEntry (b : Billet) (i : FoldInfo) (copy : Nat) (e : PubEntry) : (s.pubEntry b i copy e).calm = s.calm := by
  have answer := s.calm_answerUpdate (Nat.mod_lt e.target (show 0 < 64 by omega))
  have incs (ws : List Nat) : (ws.foldl (fun (t : State) w => t.densInc b.home (t.ctxN b.ctx).plane (t.ctxSecure b.ctx) w) s).calm = s.calm :=
    foldl_calm (fun t w _ => t.calm_densInc _ _ _ _) s
  unfold State.pubEntry
  dsimp only
  split_ifs <;> simp only [answer, incs, State.calm_pubRecord, State.calm_maskEvent, State.calm_rasterPut, State.calm_setCtx]

theorem State.calm_publish (w : WaitPub) : (s.publish w).calm = s.calm := by
  unfold State.publish
  dsimp only
  split
  · rfl
  · next es _ =>
    have listed (i : FoldInfo) (n : Nat) : (es.foldl (fun (t : State) e => t.pubEntry w.billet i n e) s).calm = s.calm :=
      foldl_calm (fun t e _ => t.calm_pubEntry _ _ _ _) s
    split
    · exact (State.calm_densFrame _ _ _).trans (listed _ _)
    · exact listed _ _

/-! ## The end of a run -/

theorem State.calm_endRecord (c product : Nat) (prefix_ : List (BitVec 8)) : (s.endRecord c product prefix_).calm = s.calm := by
  have queue (t : State) (n : Nat) := t.calm_recQueue c (s.cxEpoch c) product (Nat.mod_lt n (show 0 < 32 by omega))
  have mon (t : State) (cfg : List (BitVec 32)) := t.calm_recQueue c (s.cxEpoch c) product (cfgF_lt cfg (R.CTX_SYNTH_MON_SQ 0))
  unfold State.endRecord
  dsimp only
  split
  · simp only [mon, State.calm_next]
  · split
    · simp only [State.calm_recSent, State.calm_next]
    · split <;> simp only [queue, State.calm_recSent, State.calm_cmRecord, State.calm_next]

/-- The status, the class G load and the free hearth bytes of a forge. -/
theorem spares_forge {f r lo wd : Nat} (hr : r = 0x00 ∨ r = 0x08 ∨ r = 0x10) (hw : lo + wd ≤ 32 ∨ r = 0x08 ∧ lo + wd ≤ 64) :
    (⟨0x100000 + r + 0x4000 * f, lo, wd⟩ : Fld).Spares := by
  intro i hi
  obtain ⟨q, hq, hbase⟩ : ∃ q, (q = 0x00 ∨ q = 0x04 ∨ q = 0x08 ∨ q = 0x0C ∨ q = 0x10) ∧
      (⟨0x100000 + r + 0x4000 * f, lo, wd⟩ : Fld).base + 4 * i = 0x100000 + 0x4000 * f + q := by
    simp only [Fld.base, Fld.words] at hi ⊢
    exact ⟨r + 4 * (lo / 32 + i), by omega, by omega⟩
  unfold keptWord
  rw [hbase]
  simp only [Bool.or_eq_false_iff, Bool.and_eq_false_iff, decide_eq_false_iff_not]
  omega

theorem classLoad_spares (cls : Nat) : (classLoad cls).Spares := by
  unfold classLoad
  split
  · decide
  · split <;> decide

theorem State.calm_dropLoad (cls home load : Nat) : (s.dropLoad cls home load).calm = s.calm := by
  have sum (v : Nat) : (s.setF (classLoad cls) v).calm = s.calm := s.calm_setF v (classLoad_spares cls)
  unfold State.dropLoad
  dsimp only
  split
  · exact (State.calm_setF _ _ (spares_forge (r := 0x08) (by decide) (by omega))).trans (sum _)
  · exact sum _

theorem State.calm_addLoad (cls home load : Nat) : (s.addLoad cls home load).calm = s.calm := by
  have sum : (s.addSat (classLoad cls) load).calm = s.calm := s.calm_addSat load (classLoad_spares cls)
  unfold State.addLoad
  dsimp only
  split
  · exact (State.calm_addSat _ _ (spares_forge (r := 0x08) (by decide) (by omega))).trans sum
  · exact sum

theorem State.calm_freeHearth (f n : Nat) : (s.freeHearth f n).calm = s.calm :=
  s.calm_setF _ (spares_forge (r := 0x10) (by decide) (by omega))

theorem State.calm_homeSettle (c : Nat) : (s.homeSettle c).calm = s.calm := by
  unfold State.homeSettle
  dsimp only
  split
  · rfl
  · exact ((foldl_calm (fun t w _ => t.calm_publish w) _).trans (foldl_calm (fun t p _ => t.calm_freeHearth _ _) _)).trans
      (s.calm_setCtx _ _)

/-! ## Faults and pending modifications -/

theorem State.calm_reclass (c old new : Nat) : (s.reclass c old new).calm = s.calm := by
  unfold State.reclass
  dsimp only
  split
  · rfl
  · exact (State.calm_addLoad _ _ _ _).trans (s.calm_dropLoad _ _ _)

/-- The state word of a context. -/
theorem State.calm_ctxState (c v : Nat) {lo wd : Nat} (h : lo + wd ≤ 32) : (s.setF ⟨0x200100 + 0x200 * c, lo, wd⟩ v).calm = s.calm :=
  s.calm_setF v (spares_ctx (r := 0x100) (by decide) (by omega))

theorem State.calm_cancelMod (c status : Nat) : (s.cancelMod c status).calm = s.calm := by
  unfold State.cancelMod
  dsimp only
  split
  · rfl
  · exact (State.calm_finishDefs _ _ _ _ _).trans ((State.calm_ctxState _ c _ (by omega)).trans ((State.calm_reclass _ _ _ _).trans
      ((State.calm_setB _ _ (spares_ctx (r := 0x100) (by decide) (by omega))).trans (s.calm_setCtx _ _))))

end

end Sys2Proof.Machine
end

section
/-!
PROOF. What the loss of billets, a context fault and a forge that leaves service do to the fabric (spec/05_compute_fabric.md, R158, R159,
R168 to R176, R183): anvils stop and billets change racks, while the registers and the scratch of every anvil stay, no idle anvil starts,
and outside the counters of abandoned billets and of cycles the kept words stay.
-/
namespace Sys2Proof.Machine

/-! ## The parts of an anvil -/

/-- An anvil without the parts that the loss of its billet or of its segments changes. -/
def AnvSt.still (x : AnvSt) : AnvSt :=
  { x with run := none, move := none, rep := 0, cyc := 0, poison := false, gone := false, pin := none, segs := [], segBusy := false }

theorem State.anvN_setAnv_if (s : State) (f a g b : Nat) (x : AnvSt) :
    (s.setAnv f a x).anvN g b = if 32 * g + b = 32 * f + a then x else s.anvN g b := tget_tset ..

/-- An anvil starts no billet and takes no context, and keeps what lies outside its billet and segments. -/
structure AnvSt.Retires (x y : AnvSt) : Prop where
  still : y.still = x.still
  run : x.run = none → y.run = none
  pin : x.pin = none → y.pin = none

theorem AnvSt.Retires.refl (x : AnvSt) : x.Retires x := ⟨rfl, id, id⟩

theorem AnvSt.Retires.trans {x y z : AnvSt} (h1 : x.Retires y) (h2 : y.Retires z) : x.Retires z :=
  ⟨h2.still.trans h1.still, h2.run ∘ h1.run, h2.pin ∘ h1.pin⟩

/-! ## The frame of the fabric -/

/-- From `s` to `t` anvils stop and billets change racks: besides, the clock, the states of the forges and the fabric stay, and so do the
words outside `W`. -/
structure Retires (W : Nat → Prop) (s t : State) : Prop where
  clk : t.clk = s.clk
  blk : ∀ f : Fin 32, t.blk (0x20 + f) = s.blk (0x20 + f)
  fab : t.fab = { s.fab with rack := t.fab.rack, anv := t.fab.anv, drain := t.fab.drain }
  anv : ∀ g a, (s.anvN g a).Retires (t.anvN g a)
  words : WordsKept W s t

/-- The words that the settling of a context may write. -/
def SettledWord (off : Nat) : Prop := keptWord off = false

/-- The words that the loss of billets may write: besides those of settling, ABANDON of the forges and the counters of the contexts. -/
def RetiredWord (off : Nat) : Prop := keptWord off = false ∨ (0x100000 ≤ off ∧ off < 0x180000 ∧ off % 0x4000 = 0x30) ∨
  (0x200000 ≤ off ∧ off < 0x380000 ∧ off % 0x200 < 0x158)

namespace Retires
variable {W V : Nat → Prop} {s t u : State}

theorem refl (W : Nat → Prop) (s : State) : Retires W s s := ⟨rfl, fun _ => rfl, rfl, fun _ _ => .refl _, .refl W s⟩

theorem trans (h1 : Retires W s t) (h2 : Retires W t u) : Retires W s u where
  clk := h2.clk.trans h1.clk
  blk f := (h2.blk f).trans (h1.blk f)
  fab := by rw [h2.fab, h1.fab]
  anv g a := (h1.anv g a).trans (h2.anv g a)
  words := h1.words.trans h2.words

theorem mono (h : Retires V s t) (hv : ∀ off, V off → W off) : Retires W s t := ⟨h.clk, h.blk, h.fab, h.anv, h.words.mono hv⟩

theorem ite {c : Prop} [Decidable c] (h1 : Retires W s t) (h2 : Retires W s u) : Retires W s (if c then t else u) := by
  split <;> assumption

theorem foldl {α : Type} {f : State → α → State} (hf : ∀ t x, Retires W t (f t x)) (l : List α) (s : State) :
    Retires W s (l.foldl f s) := by
  induction l generalizing s with
  | nil => exact .refl W s
  | cons x l ih => exact (hf s x).trans (ih _)

/-- What is calm retires nothing. -/
theorem of_calm (h : t.calm = s.calm) : Retires SettledWord s t := by
  have hclk : t.clk = s.clk := congrArg Prod.fst h
  have hblk : ∀ f : Fin 32, t.blk (0x20 + f) = s.blk (0x20 + f) := fun f => congrFun (congrArg (fun p => p.2.1) h) f
  have hfab : t.fab = s.fab := congrArg (fun p => p.2.2.1) h
  refine ⟨hclk, hblk, by rw [hfab], fun g a => ?_, fun off ho => ?_⟩
  · rw [State.anvN_congr hfab]; exact .refl _
  · have hword := congrFun (congrArg (fun p => p.2.2.2) h) off
    have hkept : keptWord off = true := by simpa [SettledWord] using ho
    simpa [State.calm, hkept] using hword

theorem settled (h : Retires SettledWord s t) : Retires RetiredWord s t := h.mono fun _ => .inl

/-- A change of one anvil that retires it. -/
theorem setAnv (s : State) (f a : Nat) {x : AnvSt} (h : (s.anvN f a).Retires x) : Retires W s (s.setAnv f a x) where
  clk := rfl
  blk _ := rfl
  fab := rfl
  anv g b := by
    rw [State.anvN_setAnv_if]
    split
    · next he => rw [show s.anvN g b = s.anvN f a by unfold State.anvN; rw [he]]; exact h
    · exact .refl _
  words := .of_regs rfl

theorem setF (s : State) {x : Fld} (v : Nat) (h : ∀ i, i < x.words → W (x.base + 4 * i)) : Retires W s (s.setF x v) where
  clk := by simp
  blk f := State.blk_of_fence (by simp) _
  fab := by simp
  anv g a := by rw [State.anvN_congr (s.setF_fab x v)]; exact .refl _
  words := .setF s v h

theorem setB (s : State) {x : Fld} (b : Bool) (h : ∀ i, i < x.words → W (x.base + 4 * i)) : Retires W s (s.setB x b) where
  clk := by simp
  blk f := State.blk_of_fence (by simp) _
  fab := by simp
  anv g a := by rw [State.anvN_congr (s.setB_fab x b)]; exact .refl _
  words := .setB s b h

theorem setWordsAt (s : State) {off n : Nat} (v : Nat) (h : ∀ i, i < n → W (off + 4 * i)) : Retires W s (s.setWordsAt off n v) where
  clk := by simp
  blk f := State.blk_of_fence (by simp) _
  fab := by simp
  anv g a := by rw [State.anvN_congr (s.setWordsAt_fab off n v)]; exact .refl _
  words := .setWordsAt s v h

/-- A field outside `W` reads as before. -/
theorem f_eq (h : Retires W s t) {x : Fld} (hx : ∀ a, x.base ≤ a → a < x.base + 4 * x.words → ¬ W a) : t.f x = s.f x := h.words.f_eq hx

/-- The words of a forge after its free hearth stay where a context is settled. -/
theorem f_forge (h : Retires SettledWord s t) {f : Nat} (hf : f < 32) {x : Fld} (lo : 0x100014 + 0x4000 * f ≤ x.base)
    (hi : x.base + 4 * x.words ≤ 0x104000 + 0x4000 * f) : t.f x = s.f x := by
  refine h.f_eq fun a h1 h2 => ?_
  unfold SettledWord keptWord
  simp only [Bool.or_eq_false_iff, Bool.and_eq_false_iff, decide_eq_false_iff_not]
  omega

theorem f_completed (h : Retires SettledWord s t) {c : Nat} (hc : c < 3072) : t.f (R.CTX_COMPLETED c) = s.f (R.CTX_COMPLETED c) := by
  refine h.f_eq fun a h1 h2 => ?_
  simp only [R.CTX_COMPLETED, Fld.base, Fld.words] at h1 h2
  unfold SettledWord keptWord
  simp only [Bool.or_eq_false_iff, Bool.and_eq_false_iff, decide_eq_false_iff_not]
  omega

theorem f_cycles (h : Retires SettledWord s t) {c : Nat} (hc : c < 3072) : t.f (R.CTX_CYCLES c) = s.f (R.CTX_CYCLES c) := by
  refine h.f_eq fun a h1 h2 => ?_
  simp only [R.CTX_CYCLES, Fld.base, Fld.words] at h1 h2
  unfold SettledWord keptWord
  simp only [Bool.or_eq_false_iff, Bool.and_eq_false_iff, decide_eq_false_iff_not]
  omega

/-- The words of a forge after its counter of abandoned billets stay where billets are lost. -/
theorem f_forge_lost (h : Retires RetiredWord s t) {f : Nat} (hf : f < 32) {x : Fld} (lo : 0x100034 + 0x4000 * f ≤ x.base)
    (hi : x.base + 4 * x.words ≤ 0x104000 + 0x4000 * f) : t.f x = s.f x := by
  refine h.f_eq fun a h1 h2 => ?_
  unfold RetiredWord keptWord
  simp only [Bool.or_eq_false_iff, Bool.and_eq_false_iff, decide_eq_false_iff_not]
  omega

theorem reloadOf (h : Retires W s t) (f : Nat) : t.reloadOf f = s.reloadOf f := by
  have e : t.fab.reload = s.fab.reload := by rw [h.fab]
  unfold State.reloadOf; rw [e]

end Retires

/-! ## Settling a context (R176, R272, R273) -/

section
variable (s : State) (c : Nat)

theorem Retires.ctxRelease : Retires SettledWord s (s.ctxRelease c) := by
  unfold State.ctxRelease
  extract_lets x cfg home s1 s2 s3 s4 a y s5
  have freed : s4.calm = s.calm := by
    have h1 : s1.calm = s.calm := (State.calm_freeHearth _ _ _).trans (s.calm_dropLoad _ _ _)
    have h2 : s2.calm = s.calm := (foldl_calm (fun t p _ => t.calm_freeHearth _ _) _).trans h1
    have h3 : s3.calm = s.calm := by
      simp only [s3]
      split
      · exact (State.calm_freeHearth _ _ _).trans h2
      · exact h2
    exact (State.calm_setCtx _ _ _).trans h3
  refine (of_calm freed).trans (.ite (.refl _ _) ?_)
  have unpinned : Retires SettledWord s4 s5 := .setAnv s4 home a ⟨rfl, id, fun _ => rfl⟩
  exact unpinned.trans (.of_calm (s5.calm_setF _ (spares_forge (r := 0x00) (by decide) (by omega))))

theorem Retires.ctxSettle : Retires SettledWord s (s.ctxSettle c) := by
  unfold State.ctxSettle
  extract_lets s1 x st s2 next
  have closed : Retires SettledWord s s1 := .of_calm ((State.calm_closeAvgs _ c).trans (s.calm_homeSettle c))
  have ended (t : State) (v p : Nat) (l : List (BitVec 8)) :
      Retires SettledWord t ((((t.endRecord c p l).ctxRelease c).setF (R.CTX_STATE_STATE c) v).finishDefs 0x41 c stOk 0) :=
    (Retires.of_calm (t.calm_endRecord c p l)).trans ((Retires.ctxRelease _ c).trans
      (.of_calm ((State.calm_finishDefs _ _ _ _ _).trans (State.calm_ctxState _ c v (by omega)))))
  refine closed.trans (.ite (.refl _ _) ?_)
  have flushed : Retires SettledWord s1 s2 := .ite (.of_calm (s1.calm_flushAvgs c)) (.refl _ _)
  split
  · exact flushed.trans (ended _ _ _ _)
  · exact flushed.trans (ended _ _ _ _)

/-! ## Context faults (R176) -/

theorem Retires.ctxFault (cause : Nat) (detail : List Nat) : Retires SettledWord s (s.ctxFault c cause detail) := by
  have told (v home : Nat) : (((s.setF R.FAB_FAULT v).incSat R.FAB_FAULT_COUNT).errLog 0x03 1 home cause ([c, cause] ++ detail)).calm = s.calm :=
    (State.calm_errLog_minor _ _ _ _ _ (by decide)).trans ((State.calm_incSat _ (by decide)).trans (s.calm_setF v (by decide)))
  have named (t : State) (b : Bool) : (if b then t.setF (R.CTX_STATE_FAULT_CAUSE c) cause else t).calm = t.calm := by
    split
    · exact t.calm_ctxState c cause (by omega)
    · rfl
  unfold State.ctxFault
  dsimp only
  refine .ite (.refl _ _) (Retires.trans (.of_calm ?_) (Retires.ctxSettle _ c))
  exact (State.calm_cancelMod _ _ _).trans ((State.calm_setCtx _ _ _).trans ((named _ _).trans (told _ _)))

theorem Retires.loseFrame (cause : Nat) : Retires SettledWord s (s.loseFrame c cause) :=
  (Retires.of_calm (s.calm_addSat 1 (spares_ctx (r := 0x150) (by decide) (by omega)))).trans (.ctxFault _ c cause [])

theorem State.calm_skipFrame (cls : Nat) : (s.skipFrame c cls).calm = s.calm :=
  (State.calm_addWrap _ _ (spares_ctx (r := 0x128) (by decide) (by omega))).trans (s.calm_setCtx _ _)

end

/-! ## Billets that go (R158, R171, R173) -/

section
variable (s : State)

theorem RetiredWord.abandon (f i : Nat) (hi : i < (R.FRG_ABANDON f).words) : RetiredWord ((R.FRG_ABANDON f).base + 4 * i) := by
  simp only [R.FRG_ABANDON, Fld.base, Fld.words] at *
  unfold RetiredWord keptWord
  simp only [Bool.or_eq_false_iff, Bool.and_eq_false_iff, decide_eq_false_iff_not]
  omega

theorem RetiredWord.cycles (c i : Nat) (hi : i < (R.CTX_CYCLES c).words) : RetiredWord ((R.CTX_CYCLES c).base + 4 * i) := by
  simp only [R.CTX_CYCLES, Fld.base, Fld.words] at *
  unfold RetiredWord keptWord
  simp only [Bool.or_eq_false_iff, Bool.and_eq_false_iff, decide_eq_false_iff_not]
  omega

theorem AnvSt.Retires.stop (x : AnvSt) : x.Retires x.stop := ⟨rfl, fun _ => rfl, id⟩

theorem Retires.abandon (f a : Nat) : Retires RetiredWord s (s.abandon f a) := by
  unfold State.abandon
  dsimp only
  split
  · exact .refl _ _
  · exact ((Retires.setAnv s f a (.stop _)).trans (.setF _ _ (.abandon f))).trans (.setF _ _ (.cycles _))

theorem Retires.dropRun (f a : Nat) : Retires RetiredWord s (s.dropRun f a) := by
  unfold State.dropRun
  exact .ite (.setAnv s f a ⟨rfl, id, id⟩) (.abandon s f a)

theorem Retires.setRack_settled (f : Nat) (r : List Billet) : Retires SettledWord s (s.setRack f r) := by
  have racked : Retires SettledWord s { s with fab := { s.fab with rack := tset (fun _ => []) s.fab.rack f r } } :=
    ⟨rfl, fun _ => rfl, rfl, fun _ _ => .refl _, .of_regs rfl⟩
  exact racked.trans (.of_calm ((State.calm_setB _ _ (spares_forge (r := 0x00) (by decide) (by omega))).trans
    (State.calm_setF _ _ (spares_forge (r := 0x00) (by decide) (by omega)))))

theorem Retires.setRack (f : Nat) (r : List Billet) : Retires RetiredWord s (s.setRack f r) := (setRack_settled s f r).settled

theorem Retires.dropFrame (c seq : Nat) : Retires RetiredWord s (s.dropFrame c seq) := by
  unfold State.dropFrame
  extract_lets s1 s2 x
  have racks : Retires RetiredWord s s1 := .foldl (fun t f => .ite (.refl _ t) (.setRack t f _)) _ s
  have anvils : Retires RetiredWord s1 s2 := .foldl (fun t k => .dropRun t _ _) _ s1
  exact (racks.trans anvils).trans (Retires.of_calm (s2.calm_setCtx c _)).settled

/-! ## Billets that are placed (R159, R171, R184) -/

theorem Retires.enqueue (g : Nat) (b : Billet) : Retires RetiredWord s (s.enqueue g b) := .setRack s g _

theorem Retires.skipped (c seq cls : Nat) : Retires RetiredWord s ((s.dropFrame c seq).skipFrame c cls) :=
  (Retires.dropFrame s c seq).trans (Retires.of_calm (State.calm_skipFrame _ c cls)).settled

theorem Retires.lost (c seq cause : Nat) :
    Retires RetiredWord s (((s.dropFrame c seq).setB R.FAB_STATUS_G_LOST true).loseFrame c cause) :=
  (Retires.dropFrame s c seq).trans ((Retires.of_calm (State.calm_setB _ true (by decide))).trans (.loseFrame _ c cause)).settled

theorem Retires.placeBillet (b : Billet) : Retires RetiredWord s (s.placeBillet b).1 := by
  unfold State.placeBillet
  dsimp only
  split
  · split
    · exact .enqueue s _ b
    · exact .refl _ _
  · split
    · exact .enqueue s _ b
    · split
      · exact .refl _ _
      · split
        · exact ((Retires.skipped s _ _ _).trans (.enqueue _ _ b)).trans (Retires.ctxSettle _ _).settled
        · split
          · exact .enqueue s _ b
          · exact .refl _ _

theorem Retires.place (b : Billet) : Retires RetiredWord s (s.place b).1 := by
  have placed := Retires.placeBillet s b
  unfold State.place
  dsimp only
  split
  · exact placed
  · exact placed.trans ((Retires.skipped _ _ _ _).trans (Retires.ctxSettle _ _).settled)
  · exact placed.trans (.lost _ _ _ _)

theorem Retires.reissue (b : Billet) : Retires RetiredWord s (s.reissue b) := .place s _

/-! ## A forge that leaves service (R183) -/

theorem Retires.setDrain (f v : Nat) : Retires RetiredWord s (s.setDrain f v) :=
  ⟨rfl, fun _ => rfl, rfl, fun _ _ => .refl _, .of_regs rfl⟩

theorem Retires.moveEntry (f : Nat) (b : Billet) : Retires RetiredWord s (s.moveEntry f b) := by
  unfold State.moveEntry
  split
  · exact (Retires.setRack s _ _).trans (.setDrain _ f _)
  · exact .ite (.lost s _ _ _) ((Retires.skipped s _ _ _).trans (Retires.ctxSettle _ _).settled)

theorem Retires.drainRack (f n : Nat) : Retires RetiredWord s (s.drainRack f n) := by
  induction n generalizing s with
  | zero => exact .refl _ _
  | succ n ih =>
    unfold State.drainRack
    split
    · exact .refl _ _
    · exact ((Retires.setRack s f _).trans (.moveEntry _ f _)).trans (ih _)

theorem Retires.drainForge (f : Nat) : Retires RetiredWord s (s.drainForge f) := by
  unfold State.drainForge
  exact .ite (.refl _ _) (.drainRack s f _)

theorem Retires.pinPop {W : Nat → Prop} (f a : Nat) : Retires W s (s.pinPop f a) := by
  unfold State.pinPop
  exact .ite (.setAnv s f a ⟨rfl, id, id⟩) (.refl _ _)

theorem Retires.giveUp (f a : Nat) : Retires RetiredWord s (s.giveUp f a) := by
  unfold State.giveUp
  dsimp only
  split
  · exact .refl _ _
  · refine (Retires.abandon s f a).trans (.ite ?_ (.ite ?_ ?_))
    · exact (Retires.drainForge _ f).trans (Retires.ctxSettle _ _).settled
    · exact (Retires.pinPop _ f a).trans (.drainForge _ f)
    · exact (Retires.reissue _ _).trans (.drainForge _ f)

/-- An anvil that runs a billet runs none once it is abandoned. -/
theorem State.abandon_run (f a : Nat) : ((s.abandon f a).anvN f a).run = none := by
  unfold State.abandon
  dsimp only
  split
  · assumption
  · exact congrArg AnvSt.run ((State.anvN_setF ..).trans ((State.anvN_setF ..).trans (State.anvN_setAnv ..)))

end

end Sys2Proof.Machine
end

section
/-!
PROOF. A kernel fault (spec/06_anvil_programming.md, R215, R239): the anvil runs no billet, FRGf_KFAULT names the cause, the anvil and the
PC, and FRGf_KF_COUNT and FRGf_ABANDON count it.
-/
namespace Sys2Proof.Machine

/-! ## Fields of a record of several words -/

theorem State.wordsAt_add (s : State) (off m k : Nat) :
    s.wordsAt off (m + k) = s.wordsAt off m + 2 ^ (32 * m) * s.wordsAt (off + 4 * m) k := by
  induction m generalizing off with
  | zero => simp [State.wordsAt]
  | succ m ih =>
    rw [Nat.succ_add, State.wordsAt, ih, State.wordsAt, show off + 4 + 4 * m = off + 4 * (m + 1) by ring]
    ring

/-- Some words within a record are its bits there. -/
theorem State.wordsAt_part (s : State) (off : Nat) {i m n : Nat} (h : i + m ≤ n) :
    s.wordsAt (off + 4 * i) m = s.wordsAt off n / 2 ^ (32 * i) % 2 ^ (32 * m) := by
  obtain ⟨k, rfl⟩ := Nat.exists_eq_add_of_le h
  rw [Nat.add_assoc, State.wordsAt_add, Nat.add_mul_div_left _ _ (Nat.two_pow_pos _), Nat.div_eq_of_lt (s.wordsAt_lt off i), Nat.zero_add,
    State.wordsAt_add, Nat.add_mul_mod_self_left, Nat.mod_eq_of_lt (s.wordsAt_lt _ m)]

/-- A field of a record is its bits of the record. -/
theorem State.f_part (s : State) {x : Fld} (n : Nat) (h : x.lo / 32 + x.words ≤ n) : s.f x = bitsOf (s.wordsAt x.off n) x.lo x.wd := by
  unfold State.f
  rw [Fld.base, s.wordsAt_part x.off h, bitsOf_mod _ _ _ _ x.fits]
  unfold bitsOf
  rw [Nat.div_div_eq_div_mul, ← pow_add, Nat.div_add_mod]

/-- A field outside the words written reads as before. -/
theorem State.f_setWordsAt_apart (s : State) {off n : Nat} (v : Nat) {x : Fld} (h : x.base + 4 * x.words ≤ off ∨ off + 4 * n ≤ x.base) :
    (s.setWordsAt off n v).f x = s.f x := by
  unfold State.f
  rw [State.wordsAt_setWordsAt_out _ _ _ _ _ _ h]

/-! ## ABANDON -/

/-- ABANDON of forge `f` does not go down. -/
def AbandonUp (f : Nat) (s t : State) : Prop := s.f (R.FRG_ABANDON f) ≤ t.f (R.FRG_ABANDON f)

namespace AbandonUp
variable {f : Nat} {s t u : State}

theorem trans (h1 : AbandonUp f s t) (h2 : AbandonUp f t u) : AbandonUp f s u := le_trans h1 h2

theorem foldl {α : Type} {g : State → α → State} (hg : ∀ t x, AbandonUp f t (g t x)) (l : List α) (s : State) :
    AbandonUp f s (l.foldl g s) := by
  induction l generalizing s with
  | nil => exact le_refl _
  | cons x l ih => exact (hg s x).trans (ih _)

theorem of_settled (hf : f < 32) (h : Retires SettledWord s t) : AbandonUp f s t :=
  le_of_eq (h.f_forge hf (by simp only [R.FRG_ABANDON, Fld.base]; omega) (by simp only [R.FRG_ABANDON, Fld.base, Fld.words]; omega)).symm

theorem of_calm (hf : f < 32) (h : t.calm = s.calm) : AbandonUp f s t := of_settled hf (.of_calm h)

theorem of_regs (h : t.regs = s.regs) : AbandonUp f s t := le_of_eq (State.f_congr h _).symm

end AbandonUp

theorem AbandonUp.abandon {f : Nat} (s : State) (g a : Nat) : AbandonUp f s (s.abandon g a) := by
  unfold State.abandon
  extract_lets x
  split
  · exact le_refl _
  · next b hb =>
    have counted : AbandonUp f s ((s.setAnv g a x.stop).incSat (R.FRG_ABANDON g)) := by
      refine (AbandonUp.of_regs rfl : AbandonUp f s (s.setAnv g a x.stop)).trans ?_
      by_cases hfg : f = g
      · subst hfg
        unfold AbandonUp
        rw [State.f_incSat_self]
        have := (s.setAnv f a x.stop).f_lt (R.FRG_ABANDON f)
        exact le_min (by omega) (by omega)
      · refine le_of_eq (State.f_setF_apart _ _ _ _ ?_).symm
        simp only [Fld.apart, R.FRG_ABANDON, Fld.base, Fld.words]
        omega
    refine counted.trans (le_of_eq (State.f_setF_apart _ _ _ _ ?_).symm)
    simp only [Fld.apart, R.FRG_ABANDON, R.CTX_CYCLES, Fld.base, Fld.words]
    omega

theorem AbandonUp.dropFrame {f : Nat} (hf : f < 32) (s : State) (c seq : Nat) : AbandonUp f s (s.dropFrame c seq) := by
  unfold State.dropFrame
  extract_lets s1 s2 x
  have racks : AbandonUp f s s1 := .foldl (fun t g => by
    dsimp only
    split
    · exact le_refl _
    · exact .of_settled hf (.setRack_settled t g _)) _ s
  have anvils : AbandonUp f s1 s2 := .foldl (fun t k => by
    unfold State.dropRun
    dsimp only
    split
    · exact .of_regs rfl
    · exact .abandon t _ _) _ s1
  exact (racks.trans anvils).trans (.of_calm hf (s2.calm_setCtx c _))
/-! ## Kernel faults -/

/-- What a kernel fault does on anvil `a` of forge `f`. -/
structure KernelFaulted (s t : State) (f a pc cause : Nat) : Prop where
  run : (t.anvN f a).run = none
  cause : t.f (R.FRG_KFAULT_CAUSE f) = cause
  anvil : t.f (R.FRG_KFAULT_ANVIL f) = a
  pc : t.f (R.FRG_KFAULT_PC f) = pc % 2 ^ 14
  count : t.f (R.FRG_KF_COUNT f) = min (s.f (R.FRG_KF_COUNT f) + 1) (2 ^ 32 - 1)
  abandoned : min (s.f (R.FRG_ABANDON f) + 1) (2 ^ 32 - 1) ≤ t.f (R.FRG_ABANDON f)
  clk : t.clk = s.clk

theorem State.pinBegin_unpinned {s : State} {f a : Nat} (h : (s.anvN f a).pin = none) : s.pinBegin f a = s := by
  unfold State.pinBegin
  dsimp only
  rw [h]

/-- Of an anvil that is abandoned the forge counts it. -/
theorem State.abandon_counts {s : State} {f a : Nat} {b : Billet} (h : (s.anvN f a).run = some b) :
    (s.abandon f a).f (R.FRG_ABANDON f) = min (s.f (R.FRG_ABANDON f) + 1) (2 ^ 32 - 1) := by
  unfold State.abandon
  simp only [h]
  refine (State.f_setF_apart _ _ _ _ ?_).trans ((State.f_incSat_self ..).trans (by rw [State.f_setAnv]; rfl))
  simp only [Fld.apart, R.FRG_ABANDON, R.CTX_CYCLES, Fld.base, Fld.words]
  omega

theorem State.pinPop_regs (s : State) (f a : Nat) : (s.pinPop f a).regs = s.regs := by
  unfold State.pinPop
  dsimp only
  split <;> rfl

theorem State.kernelFault_faulted {s : State} {f a cause : Nat} (detail : Nat) {b : Billet} (hf : f < 32) (ha : a < 32) (hc : cause < 16)
    (hrun : (s.anvN f a).run = some b) (hpin : (s.anvN f a).pin = none) :
    KernelFaulted s (s.kernelFault f a cause detail) f a (s.anvN f a).pc cause := by
  unfold State.kernelFault
  extract_lets x
  split
  · next hnone => exact absurd (hrun.symm.trans hnone) (by simp)
  next b' hb' =>
  obtain rfl : b = b' := Option.some.inj (hrun.symm.trans hb')
  extract_lets ws s1 s2 s3
  have lost : Retires RetiredWord s s1 := ((Retires.abandon s f a).trans (.pinPop _ f a)).trans (.dropFrame _ _ _)
  have stopped : (s1.anvN f a).run = none :=
    (((Retires.pinPop _ f a).trans (.dropFrame _ b.ctx b.seq) : Retires RetiredWord (s.abandon f a) s1).anv f a).run (s.abandon_run f a)
  have up : min (s.f (R.FRG_ABANDON f) + 1) (2 ^ 32 - 1) ≤ s1.f (R.FRG_ABANDON f) := by
    rw [← State.abandon_counts hrun]
    exact (AbandonUp.of_regs (State.pinPop_regs _ f a)).trans (.dropFrame hf _ _ _)
  have told : Retires SettledWord (s2.incSat (R.FRG_KF_COUNT f)) s3 :=
    (Retires.of_calm (State.calm_addSat _ 1 (spares_ctx (r := 0x150) (by decide) (by omega)))).trans (.ctxFault _ _ _ _)
  have whole : Retires (fun _ => True) s1 s3 :=
    ((Retires.setWordsAt s1 _ fun _ _ => trivial).trans (.setF s2 _ fun _ _ => trivial)).trans (told.mono fun _ _ => trivial)
  have unpinned : (s3.anvN f a).pin = none := (whole.anv f a).pin ((lost.anv f a).pin hpin)
  have kept {y : Fld} (lo : 0x100014 + 0x4000 * f ≤ y.base) (hi : y.base + 4 * y.words ≤ 0x104000 + 0x4000 * f)
      (apart : (R.FRG_KF_COUNT f).apart y) : s3.f y = s2.f y := (told.f_forge hf lo hi).trans (State.f_setF_apart _ _ _ _ apart)
  have recorded (lo wd : Nat) (hfit : lo + wd ≤ 32) (hlo : lo < 32) :
      s3.f ⟨0x100440 + 0x4000 * f, lo, wd⟩ = bitsOf (cause + 2 ^ 4 * a + 2 ^ 9 * x.pc) lo wd := by
    have hword : s2.wordsAt (0x100440 + 0x4000 * f) 4 = ws.foldr (fun d acc => d + 2 ^ 32 * acc) 0 % 2 ^ (32 * 4) :=
      s1.wordsAt_setWordsAt_self ..
    rw [kept (by simp only [Fld.base]; omega) (by simp only [Fld.base, Fld.words]; omega)
      (.inr (.inl (by simp only [Fld.base, Fld.words, R.FRG_KF_COUNT]; omega))),
      s2.f_part 4 (by simp only [Fld.words]; omega), hword, bitsOf_mod _ _ _ _ (le_trans hfit (by decide)), ← bitsOf_mod _ _ _ _ hfit,
      ← bitsOf_mod (cause + _ + _) _ _ _ hfit]
    simp only [ws, List.foldr_cons, Nat.add_mul_mod_self_left]
  have counter (t : State) (v : Nat) : (t.setWordsAt (R.FRG_KFAULT f).off 4 v).f (R.FRG_KF_COUNT f) = t.f (R.FRG_KF_COUNT f) :=
    t.f_setWordsAt_apart v (.inr (by simp only [R.FRG_KFAULT, R.FRG_KF_COUNT, Fld.base]; omega))
  rw [State.pinBegin_unpinned unpinned]
  exact {
    run := (whole.anv f a).run stopped
    cause := (recorded 0 4 (by decide) (by decide)).trans (by unfold bitsOf; omega)
    anvil := (recorded 4 5 (by decide) (by decide)).trans (by unfold bitsOf; omega)
    pc := (recorded 9 14 (by decide) (by decide)).trans (by unfold bitsOf; simp only [x]; omega)
    count := by
      rw [told.f_forge hf (by simp only [R.FRG_KF_COUNT, Fld.base]; omega) (by simp only [R.FRG_KF_COUNT, Fld.base, Fld.words]; omega),
        State.f_incSat_self, counter,
        lost.f_forge_lost hf (by simp only [R.FRG_KF_COUNT, Fld.base]; omega) (by simp only [R.FRG_KF_COUNT, Fld.base, Fld.words]; omega)]
      rfl
    abandoned := by
      rw [kept (by simp only [R.FRG_ABANDON, Fld.base]; omega) (by simp only [R.FRG_ABANDON, Fld.base, Fld.words]; omega)
        (.inr (.inl (by simp only [R.FRG_ABANDON, R.FRG_KF_COUNT, Fld.base, Fld.words]; omega))),
        s1.f_setWordsAt_apart _ (.inl (by simp only [R.FRG_ABANDON, R.FRG_KFAULT, Fld.base, Fld.words]; omega))]
      exact up
    clk := whole.clk.trans lost.clk }

end Sys2Proof.Machine
end

section
/-!
PROOF. O36: branches, repeats, BRK and kernel faults (spec/06_anvil_programming.md, R195, R212 to R217, R236). The limit of a repeat is judged
before its dispatch entry and a BRK with its bit set is a halt request (log entries 65 and 66).
-/
namespace Sys2Proof.Machine

/-! ## Ends of instructions that move PC themselves -/

section
variable {s : State} {f a : Nat}

/-- A dispatched instruction that leaves the anvil `y`, whose next PC is in the image and whose boundary nothing waits for. -/
theorem State.dispatched_endInstr {pc : Int} {y : AnvSt} (hcyc : y.cyc = (s.anvN f a).cyc)
    (hb : y.rep = 0 → y.gone = false ∧ s.forgeUp f = true ∧ s.haltWaits f a = false)
    (hlo : (y.kLo : Int) ≤ pc) (hhi : pc < y.kHi) (hk : y.kHi ≤ 16384) :
    (s.dispatched f a).endInstr f a (s.issued f a).1 pc { y with upc := (s.issued f a).2.1 } = s.ranTo f a pc.toNat y.rep y := by
  refine (State.endInstr_eq (x := { y with upc := (s.issued f a).2.1 }) _ ?_ hlo hhi hk).trans ?_
  · rwa [State.dispatched_forgeUp, State.dispatched_haltWaits]
  · rw [State.dispatched_setAnv]
    simp only [hcyc]
    rfl

/-- A branch moves PC to where its body says and takes the registers from it. -/
theorem State.anvBranch_eq {op : Nat} {pc : Int} {body : Nat → AnvSt → AnvSt × Bool} {y : AnvSt} (hr : s.anvRuns f a = true)
    (hi : s.Routine f a) (hop : bitsOf (s.insWord f a) 24 8 = op)
    (hy : (body (s.insWord f a) { s.anvN f a with upc := (s.issued f a).2.1 }).1 = { y with upc := (s.issued f a).2.1 })
    (hpc : pc = if (body (s.insWord f a) { s.anvN f a with upc := (s.issued f a).2.1 }).2 then ((s.anvN f a).pc : Int) + insRel (s.insWord f a)
      else ((s.anvN f a).pc : Int) + 1)
    (hcyc : y.cyc = (s.anvN f a).cyc) (hb : y.rep = 0 → y.gone = false ∧ s.forgeUp f = true ∧ s.haltWaits f a = false)
    (hlo : (y.kLo : Int) ≤ pc) (hhi : pc < y.kHi) (hk : y.kHi ≤ 16384) :
    s.anvBranch f a op body = s.ranTo f a pc.toNat y.rep y := by
  unfold State.anvBranch
  rw [State.dispatch_eq hr hop hi]
  dsimp only
  rw [State.dispatched_anvN, State.dispatched_insWord, hy]
  subst hpc
  exact State.dispatched_endInstr hcyc hb hlo hhi hk

/-! ## Repeats -/

theorem State.dispatched_f (s : State) (f a : Nat) (y : Fld) : (s.dispatched f a).f y = s.f y := by exact State.f_congr (by rfl) y

theorem State.dispatched_flag (s : State) (f a : Nat) (y : Fld) : (s.dispatched f a).flag y = s.flag y := State.flag_congr (s.dispatched_f f a y)

/-- What makes the word after a repeat sound: its parity, its dispatch entry's parity, and the entry's valid bit (R212, R221). -/
abbrev State.RepeatSound (s : State) (f a : Nat) : Prop :=
  oddOnes 33 (s.storeWord f ((s.anvN f a).pc + 1)) = true ∧
    oddOnes 16 (s.dtEntry f (bitsOf (s.storeWord f ((s.anvN f a).pc + 1)) 24 8)) = true ∧
    bitOf (s.dtEntry f (bitsOf (s.storeWord f ((s.anvN f a).pc + 1)) 24 8)) 13 = true

theorem State.startRepeat_dispatched {cyc n : Nat} (hlim : n ≤ (s.anvN f a).repLimit) (h : s.RepeatSound f a) :
    (s.dispatched f a).startRepeat f a cyc n =
      if bitOf (s.dtEntry f (bitsOf (s.storeWord f ((s.anvN f a).pc + 1)) 24 8)) 14 = false then (s.dispatched f a).kernelFault f a 4 n
      else (s.dispatched f a).endInstr f a cyc (((s.anvN f a).pc : Int) + 1) { s.anvN f a with rep := n, upc := (s.issued f a).2.1 } := by
  obtain ⟨hks, hdt, hvalid⟩ := h
  unfold State.startRepeat
  simp only [State.dispatched_anvN, State.dispatched_storeWord, State.dispatched_dtEntry, hks, hdt, hvalid, Nat.not_lt.mpr hlim, if_false,
    Bool.not_true, Bool.false_eq_true, Bool.not_eq_true']

/-- A repeat within its limit, of a word that repeats, sets the count of the next word. -/
theorem State.startRepeat_ranTo {op n : Nat} (h : s.Steps f a op) (hn : 0 < n) (hrep : (s.anvN f a).rep = 0) (hlim : n ≤ (s.anvN f a).repLimit)
    (hs : s.RepeatSound f a) (hok : bitOf (s.dtEntry f (bitsOf (s.storeWord f ((s.anvN f a).pc + 1)) 24 8)) 14 = true) :
    (s.dispatched f a).startRepeat f a (s.issued f a).1 n = s.ranTo f a ((s.anvN f a).pc + 1) n (s.anvN f a) := by
  obtain ⟨-, -, -, -, hlo, hhi, hk⟩ := h
  have hnext : s.nextPc f a = (s.anvN f a).pc + 1 := by simp [State.nextPc, hrep]
  rw [hnext] at hlo hhi
  rw [State.startRepeat_dispatched hlim hs, if_neg (by simp [hok])]
  exact State.dispatched_endInstr (y := { s.anvN f a with rep := n }) rfl (fun h0 => absurd h0 (Nat.ne_of_gt hn))
    (by simp only; omega) (by simp only; omega) hk

/-! ## Faults of a dispatched instruction -/

theorem State.runs_billet (h : s.anvRuns f a = true) : ∃ b, (s.anvN f a).run = some b := by
  unfold State.anvRuns at h
  simp only [Bool.and_eq_true] at h
  exact Option.isSome_iff_exists.mp h.1.1.1

theorem State.dispatched_faulted {cause : Nat} (detail : Nat) {b : Billet} (hf : f < 32) (ha : a < 32) (hc : cause < 16)
    (hrun : (s.anvN f a).run = some b) (hpin : (s.anvN f a).pin = none) :
    KernelFaulted s ((s.dispatched f a).kernelFault f a cause detail) f a (s.anvN f a).pc cause := by
  have hx := s.dispatched_anvN f a
  have faulted := (s.dispatched f a).kernelFault_faulted (cause := cause) detail hf ha hc (b := b) (by rw [hx]; exact hrun) (by rw [hx]; exact hpin)
  exact { faulted with
    pc := by rw [faulted.pc, hx]
    count := by rw [faulted.count, State.dispatched_f]
    abandoned := by rw [← s.dispatched_f f a]; exact faulted.abandoned }

end

section
variable {s : State} {f a : Fin 32}

theorem rep_eq (hr : s.anvRuns f a = true) (hop : bitsOf (s.insWord f a) 24 8 = 0x01) (hi : s.Routine f a) :
    rep f a s = (s.dispatched f a).startRepeat f a (s.issued f a).1 (bitsOf (s.insWord f a) 0 16 + 1) := by
  unfold rep
  rw [State.dispatch_eq hr hop hi, State.dispatched_insWord]
  rfl

theorem reps_eq (hr : s.anvRuns f a = true) (hop : bitsOf (s.insWord f a) 24 8 = 0x02) (hi : s.Routine f a) :
    reps f a s =
      if (s.anvN f a).s_ (insD (s.insWord f a)) = 0 ∨ 65536 < (s.anvN f a).s_ (insD (s.insWord f a)) then
        (s.dispatched f a).kernelFault f a 3 ((s.anvN f a).s_ (insD (s.insWord f a)))
      else (s.dispatched f a).startRepeat f a (s.issued f a).1 ((s.anvN f a).s_ (insD (s.insWord f a))) := by
  unfold reps
  rw [State.dispatch_eq hr hop hi]
  dsimp only
  rw [State.dispatched_insWord, State.dispatched_anvN]
  exact if_congr ((Bool.or_eq_true ..).to_iff.trans (or_congr beq_iff_eq decide_eq_true_iff)) rfl rfl

/-! ## BRK (R236) -/

theorem State.setF_regsOnly (t : State) (x : Fld) (v : Nat) : t.setF x v = { t with regs := (t.setF x v).regs, sets := (t.setF x v).sets } := by
  rw [State.setF_sets]
  exact t.setWordsAt_eq ..

theorem regsOnly_trans {t u v : State} (h1 : u = { t with regs := u.regs, sets := u.sets }) (h2 : v = { u with regs := v.regs, sets := v.sets }) :
    v = { t with regs := v.regs, sets := v.sets } := h2.trans (by rw [h1])

/-- The last end of an instruction that is no repeat and leaves the registers as they are. -/
theorem State.Steps.dispatched_endInstr {op : Nat} (h : s.Steps f a op) (hrep : (s.anvN f a).rep = 0) :
    (s.dispatched f a).endInstr f a (s.issued f a).1 (((s.anvN f a).pc : Int) + 1) { s.anvN f a with upc := (s.issued f a).2.1 } =
      s.stepsTo f a (s.anvN f a) := by
  obtain ⟨-, -, -, hbound, hlo, hhi, hk⟩ := h
  have hnext : s.nextPc f a = (s.anvN f a).pc + 1 := by simp [State.nextPc, hrep]
  obtain ⟨hu, hh, hg⟩ := hbound (by omega)
  rw [hnext] at hlo hhi
  refine (State.dispatched_endInstr (y := s.anvN f a) rfl (fun _ => ⟨hg, hu, hh⟩) (by omega) (by omega) hk).trans ?_
  unfold State.stepsTo
  rw [hnext, hrep]
  rfl

theorem brk_clear (h : s.Steps f a 0x7F) (hrep : (s.anvN f a).rep = 0) (hbit : s.flag ((R.FRG_DBG_BRK_EN f).bit a) = false) :
    brk f a s = s.stepsTo f a (s.anvN f a) := by
  unfold brk
  rw [State.dispatch_eq h.1 h.2.1 h.2.2.1]
  simp only [State.dispatched_flag, hbit, Bool.false_eq_true, if_false]
  rw [State.dispatched_anvN]
  exact h.dispatched_endInstr hrep

theorem State.haltRequest_unpinned {t : State} (hpin : (t.anvN f a).pin = none) :
    let u := t.haltRequest f a
    u.haltWaits f a = true ∧ u.f (R.FRG_DBG_STATUS_RESULT f) = stOk ∧
      FieldsKept [(R.FRG_DBG_HALT f).bit a, R.FRG_DBG_STATUS_RESULT f] t u ∧ u = { t with regs := u.regs, sets := u.sets } := by
  have ha := a.isLt
  have hu : t.haltRequest f a = (t.setB ((R.FRG_DBG_HALT f).bit a) true).setF (R.FRG_DBG_STATUS_RESULT f) stOk := by
    unfold State.haltRequest
    rw [hpin]; rfl
  rw [hu]
  refine ⟨?_, State.f_setF_self .., (FieldsKept.setB t _ true).trans (FieldsKept.setF _ _ _), ?_⟩
  · refine (State.flag_congr (State.f_setF_apart _ _ _ _ ?_)).trans (State.flag_setB_self _ _ _ Nat.one_pos)
    simp only [Fld.apart, Fld.bit, R.FRG_DBG_STATUS_RESULT, R.FRG_DBG_HALT, Fld.base, Fld.words]
    omega
  · exact regsOnly_trans (t.setB_eq _ true) (State.setF_regsOnly _ _ _)

theorem brk_set (h : s.Steps f a 0x7F) (hrep : (s.anvN f a).rep = 0) (hpin : (s.anvN f a).pin = none)
    (hbit : s.flag ((R.FRG_DBG_BRK_EN f).bit a) = true) :
    brk f a s = { s.stepsTo f a (s.anvN f a) with
      regs := ((s.dispatched f a).haltRequest f a).regs, sets := ((s.dispatched f a).haltRequest f a).sets } := by
  obtain ⟨hr, hop, hi, hbound, hlo, hhi, hk⟩ := h
  have hnext : s.nextPc f a = (s.anvN f a).pc + 1 := by simp [State.nextPc, hrep]
  obtain ⟨hu, hh, hg⟩ := hbound (by omega)
  obtain ⟨waits, -, -, heq⟩ := State.haltRequest_unpinned (f := f) (a := a) (t := s.dispatched f a) (by rw [State.dispatched_anvN]; exact hpin)
  unfold brk
  rw [State.dispatch_eq hr hop hi]
  simp only [State.dispatched_flag, hbit, if_true]
  generalize hq : (s.dispatched f a).haltRequest f a = u at *
  have hx : u.anvN f a = { s.anvN f a with upc := (s.issued f a).2.1 } := by rw [heq]; exact s.dispatched_anvN f a
  have hup : u.forgeUp f = true := by rw [heq]; exact hu
  have hpc : wrapInt 14 (((s.anvN f a).pc : Int) + 1) = (s.anvN f a).pc + 1 := wrapInt_ofNat (n := (s.anvN f a).pc + 1) (by omega)
  have taken (y : AnvSt) : u.setAnv f a y =
      { s.setAnv f a y with freeCtr := s.freeCtr + (s.issued f a).2.2, regs := u.regs, sets := u.sets } := by
    rw [congrArg (State.setAnv · f a y) heq]
    exact congrArg (fun t : State => { t with regs := u.regs, sets := u.sets }) (s.dispatched_setAnv f a y)
  rw [hx]
  unfold State.endInstr
  simp only [State.forgeUp_setAnv, State.haltWaits_setAnv, hrep, hup, waits, hpc]
  rw [if_neg (by simp [hg]), if_pos (by simp), taken]
  unfold State.stepsTo State.ranTo
  rw [hnext, hrep]

/-! ## Branches -/

/-- What a branch needs for its end: it runs, nothing waits for its boundary, and the next PC is in the image. -/
structure Branches (s : State) (f a : Nat) (pc : Int) : Prop where
  runs : s.anvRuns f a = true
  routine : s.Routine f a
  up : s.forgeUp f = true
  halt : s.haltWaits f a = false
  gone : (s.anvN f a).gone = false
  rep : (s.anvN f a).rep = 0
  hk : (s.anvN f a).kHi ≤ 16384
  lo : ((s.anvN f a).kLo : Int) ≤ pc
  hi : pc < (s.anvN f a).kHi

theorem br_ranTo {pc : Int} (h : Branches s f a pc) (hop : bitsOf (s.insWord f a) 24 8 = 0x04)
    (hpc : pc = ((s.anvN f a).pc : Int) + insRel (s.insWord f a)) : execBr f a s = .next (s.ranTo f a pc.toNat 0 (s.anvN f a)) := by
  refine congrArg Host.Outcome.next ((State.anvBranch_eq (y := s.anvN f a) h.runs h.routine hop rfl hpc rfl
    (fun _ => ⟨h.gone, h.up, h.halt⟩) h.lo h.hi h.hk).trans (by rw [h.rep]))

theorem bnz_ranTo {pc : Int} (h : Branches s f a pc) (hop : bitsOf (s.insWord f a) 24 8 = 0x05)
    (hpc : pc = if wrapInt 32 (((s.anvN f a).s_ (insD (s.insWord f a)) : Int) - 1) ≠ 0 then ((s.anvN f a).pc : Int) + insRel (s.insWord f a)
      else ((s.anvN f a).pc : Int) + 1) :
    execBnz f a s = .next (s.ranTo f a pc.toNat 0 ((s.anvN f a).setS (insD (s.insWord f a))
      (wrapInt 32 (((s.anvN f a).s_ (insD (s.insWord f a)) : Int) - 1)))) := by
  have hsub : sub32 (({ s.anvN f a with upc := (s.issued f a).2.1 } : AnvSt).s_ (insD (s.insWord f a))) 1 =
    wrapInt 32 (((s.anvN f a).s_ (insD (s.insWord f a)) : Int) - 1) := sub32_eq_wrapInt ..
  generalize wrapInt 32 (((s.anvN f a).s_ (insD (s.insWord f a)) : Int) - 1) = v at hpc hsub ⊢
  refine congrArg Host.Outcome.next ((State.anvBranch_eq (y := (s.anvN f a).setS (insD (s.insWord f a)) v) h.runs h.routine hop ?_ ?_ rfl
    (fun _ => ⟨h.gone, h.up, h.halt⟩) h.lo h.hi h.hk).trans (by rw [show ((s.anvN f a).setS (insD (s.insWord f a)) v).rep = 0 from h.rep]))
  · simp only [hsub]
    rfl
  · refine hpc.trans ?_
    simp only [hsub]
    exact if_congr bne_iff_ne.symm rfl rfl

theorem bz_ranTo {pc : Int} (h : Branches s f a pc) (hop : bitsOf (s.insWord f a) 24 8 = 0x06)
    (hpc : pc = if (s.anvN f a).s_ (insD (s.insWord f a)) = 0 then ((s.anvN f a).pc : Int) + insRel (s.insWord f a)
      else ((s.anvN f a).pc : Int) + 1) : execBz f a s = .next (s.ranTo f a pc.toNat 0 (s.anvN f a)) := by
  refine congrArg Host.Outcome.next ((State.anvBranch_eq (y := s.anvN f a) h.runs h.routine hop rfl (hpc.trans ?_) rfl
    (fun _ => ⟨h.gone, h.up, h.halt⟩) h.lo h.hi h.hk).trans (by rw [h.rep]))
  exact if_congr beq_iff_eq.symm rfl rfl

/-! ## The faults of repeats, of an opcode without an entry and of a kernel that does not end -/

theorem rep_overLimit {b : Billet} (hr : s.anvRuns f a = true) (hop : bitsOf (s.insWord f a) 24 8 = 0x01) (hi : s.Routine f a)
    (hrun : (s.anvN f a).run = some b) (hpin : (s.anvN f a).pin = none)
    (hlim : (s.anvN f a).repLimit < bitsOf (s.insWord f a) 0 16 + 1) : KernelFaulted s (rep f a s) f a (s.anvN f a).pc 2 := by
  rw [rep_eq hr hop hi]
  unfold State.startRepeat
  simp only [State.dispatched_anvN, hlim, if_true]
  exact State.dispatched_faulted _ f.isLt a.isLt (by decide) hrun hpin

theorem rep_illegal {b : Billet} (hr : s.anvRuns f a = true) (hop : bitsOf (s.insWord f a) 24 8 = 0x01) (hi : s.Routine f a)
    (hrun : (s.anvN f a).run = some b) (hpin : (s.anvN f a).pin = none) (hlim : bitsOf (s.insWord f a) 0 16 + 1 ≤ (s.anvN f a).repLimit)
    (hs : s.RepeatSound f a) (hno : bitOf (s.dtEntry f (bitsOf (s.storeWord f ((s.anvN f a).pc + 1)) 24 8)) 14 = false) :
    KernelFaulted s (rep f a s) f a (s.anvN f a).pc 4 := by
  rw [rep_eq hr hop hi, State.startRepeat_dispatched hlim hs, if_pos hno]
  exact State.dispatched_faulted _ f.isLt a.isLt (by decide) hrun hpin

theorem reps_outOfRange {b : Billet} (hr : s.anvRuns f a = true) (hop : bitsOf (s.insWord f a) 24 8 = 0x02) (hi : s.Routine f a)
    (hrun : (s.anvN f a).run = some b) (hpin : (s.anvN f a).pin = none)
    (hn : (s.anvN f a).s_ (insD (s.insWord f a)) = 0 ∨ 65536 < (s.anvN f a).s_ (insD (s.insWord f a))) :
    KernelFaulted s (reps f a s) f a (s.anvN f a).pc 3 := by
  rw [reps_eq hr hop hi, if_pos hn]
  exact State.dispatched_faulted _ f.isLt a.isLt (by decide) hrun hpin

theorem badOpcode_faulted {b : Billet} (hr : s.anvRuns f a = true) (hrun : (s.anvN f a).run = some b) (hpin : (s.anvN f a).pin = none)
    (hrep : (s.anvN f a).rep = 0) (hks : oddOnes 33 (s.storeWord f (s.anvN f a).pc) = true)
    (hdt : oddOnes 16 (s.dtEntry f (bitsOf (s.insWord f a) 24 8)) = true)
    (hno : bitOf (s.dtEntry f (bitsOf (s.insWord f a) 24 8)) 13 = false) : KernelFaulted s (badOpcode f a s) f a (s.anvN f a).pc 1 := by
  have hbad : s.issue f a = .bad := by
    unfold State.issue
    simp [hrep, hks, hdt, hno]
  unfold badOpcode
  rw [hbad, hr, if_neg (by simp)]
  exact s.kernelFault_faulted _ f.isLt a.isLt (by decide) hrun hpin

theorem runaway_faulted {b : Billet} (hrun : (s.anvN f a).run = some b) (hmove : (s.anvN f a).move = none) (hrep : (s.anvN f a).rep = 0)
    (hpin : (s.anvN f a).pin = none) (hcyc : 2 ^ 24 ≤ (s.anvN f a).cyc) : KernelFaulted s (runaway f a s) f a (s.anvN f a).pc 7 := by
  unfold runaway
  dsimp only
  rw [hrun, hmove, hrep, if_pos (by simpa using hcyc)]
  exact s.kernelFault_faulted _ f.isLt a.isLt (by decide) hrun hpin

/-- The outcome of a command that ends in a kernel fault. -/
theorem KernelFaulted.ends {t : State} {cause pc : Nat} (h : KernelFaulted s t f a pc cause) :
    Ends (.next t) fun t =>
      (t.anvN f a).run = none ∧ t.f (R.FRG_KFAULT_CAUSE f) = cause ∧ t.f (R.FRG_KFAULT_ANVIL f) = a ∧
      t.f (R.FRG_KFAULT_PC f) = pc % 2 ^ 14 ∧ t.f (R.FRG_KF_COUNT f) = min (s.f (R.FRG_KF_COUNT f) + 1) (2 ^ 32 - 1) ∧
      min (s.f (R.FRG_ABANDON f) + 1) (2 ^ 32 - 1) ≤ t.f (R.FRG_ABANDON f) ∧ t.clk = s.clk :=
  ⟨t, rfl, h.run, h.cause, h.anvil, h.pc, h.count, h.abandoned, h.clk⟩

end

end Sys2Proof.Machine

open Sys2Proof Sys2Proof.Machine

/-- Settles O36: each instruction's routine ends, and its end is that of its branch, repeat or halt request; every fault is a kernel
fault (`State.kernelFault_faulted`). -/
theorem controlFlow : Obligations.ControlFlow := by
  unfold Obligations.ControlFlow
  intro f a s x w w2 e2 sound faults
  refine ⟨fun pc hr hi hu hh hg hrep hk hlo hhi => ?_, fun h hrep hlim hs hok => ?_, fun h hrep h0 hmax hlim hs hok => ?_, fun h hrep hbit => ?_,
    fun h hrep hpin hbit => ?_, fun hr hpin _ => ?_, fun hrun hmove hrep hpin hcyc _ => ?_⟩
  · have h : Branches s f a pc := ⟨hr, hi, hu, hh, hg, hrep, hk, hlo, hhi⟩
    exact ⟨br_ranTo h, bnz_ranTo h, bz_ranTo h⟩
  · refine congrArg Host.Outcome.next ((rep_eq h.1 h.2.1 h.2.2.1).trans ?_)
    exact State.startRepeat_ranTo h (Nat.succ_pos _) hrep hlim hs hok
  · refine congrArg Host.Outcome.next ((reps_eq h.1 h.2.1 h.2.2.1).trans ((if_neg (by simp only [x, w] at h0 hmax; omega)).trans ?_))
    exact State.startRepeat_ranTo h h0 hrep hlim hs hok
  · exact congrArg Host.Outcome.next (brk_clear h hrep hbit)
  · obtain ⟨waits, told, kept, -⟩ := State.haltRequest_unpinned (f := f) (a := a) (t := s.dispatched f a) (by rw [State.dispatched_anvN]; exact hpin)
    have heq := brk_set h hrep hpin hbit
    have hregs : (brk f a s).regs = ((s.dispatched f a).haltRequest f a).regs := by rw [heq]
    exact ⟨_, rfl, (State.flag_congr (State.f_congr hregs _)).trans waits, (State.f_congr hregs _).trans told,
      fun y hy => (State.f_congr hregs y).trans ((kept y hy).trans (s.dispatched_f f a y)), by rw [heq]⟩
  · obtain ⟨b, hrun⟩ := State.runs_billet hr
    exact ⟨fun hop hi hlim => (rep_overLimit hr hop hi hrun hpin hlim).ends, fun hop hi hlim hs hno => (rep_illegal hr hop hi hrun hpin hlim hs hno).ends,
      fun hop hi hn => (reps_outOfRange hr hop hi hrun hpin hn).ends,
      fun hrep hks hdt hno => (badOpcode_faulted hr hrun hpin hrep hks hdt hno).ends⟩
  · obtain ⟨b, hb⟩ := Option.isSome_iff_exists.mp hrun
    exact (runaway_faulted hb hmove hrep hpin hcyc).ends
end

section
/-!
PROOF. The mover (spec/06_anvil_programming.md, R206 to R208): bytes of a memory, bytes of scratch, and a transfer between the two.
-/
namespace Sys2Proof.Machine

/-! ## Runs of values in a table -/

section
variable {α : Type} {d : Nat → α}

theorem tgetN_eq_map (t : Tbl α) (k n : Nat) : tgetN d t k n = (List.range n).map (fun i => tget d t (k + i)) := by
  induction n generalizing k with
  | zero => rfl
  | succ n ih =>
    rw [tgetN, ih, List.range_succ_eq_map]
    simp [Nat.add_assoc, Nat.add_comm 1]

theorem length_tgetN (t : Tbl α) (k n : Nat) : (tgetN d t k n).length = n := by simp [tgetN_eq_map]

/-- Values written one after another read back. -/
theorem tgetN_tsetN_self [DecidableEq α] (vs : List α) (t : Tbl α) (k : Nat) : tgetN d (tsetN d t k vs) k vs.length = vs := by
  induction vs generalizing t k with
  | nil => rfl
  | cons v vs ih =>
    rw [tsetN, List.length_cons, tgetN, ih, tget_tsetN_out vs _ (k + 1) k (by omega), tget_tset_self]

end

/-! ## Bytes of a memory without a secure region (R540, R543) -/

theorem maskBytes_open (ns os : List (BitVec 8)) (h : os.length = ns.length) : maskBytes (List.replicate ns.length true) ns os = ns := by
  induction ns generalizing os with
  | nil => simp_all [maskBytes]
  | cons n ns ih =>
    obtain _ | ⟨o, os⟩ := os
    · simp at h
    · simp only [List.length_cons, List.replicate_succ, maskBytes, if_true, List.cons.injEq, true_and]
      exact ih os (by simpa using h)

section
variable {s : State} {sp : Nat}

theorem State.openMask_open (h : s.hasSecure sp = false) (secure : Bool) (a n : Nat) :
    s.openMask secure sp a n = List.replicate n true := by
  unfold State.openMask
  rw [h, if_pos (by simp)]

theorem State.logMask_open (src : Nat) (write : Bool) (a n : Nat) : s.logMask src sp write a (List.replicate n true) = s := by
  unfold State.logMask
  have hnone : (List.replicate n true).zipIdx.find? (fun p => !p.1) = none := by
    refine List.find?_eq_none.mpr fun p hp => ?_
    have := List.fst_mem_of_mem_zipIdx hp
    simp_all
  rw [hnone]

theorem State.length_bytesAt (a n : Nat) : (s.bytesAt sp a n).length = n := length_tgetN ..

theorem State.spaceWrite_open (h : s.hasSecure sp = false) (src : Nat) (secure : Bool) (a : Nat) (bs : List (BitVec 8)) :
    s.spaceWrite src secure sp a bs = s.putBytes sp a bs := by
  unfold State.spaceWrite
  dsimp only
  rw [State.openMask_open h, State.logMask_open, maskBytes_open _ _ (State.length_bytesAt ..)]

theorem State.spaceRead_open (h : s.hasSecure sp = false) (src : Nat) (secure : Bool) (a n : Nat) :
    s.spaceRead src secure sp a n = (s, s.bytesAt sp a n) := by
  unfold State.spaceRead
  dsimp only
  have hlen : (s.bytesAt sp a n).length = n := State.length_bytesAt ..
  rw [State.openMask_open h, State.logMask_open]
  refine congrArg (Prod.mk s) ?_
  have := maskBytes_open (s.bytesAt sp a n) (List.replicate n 0) (by simp [hlen])
  rwa [hlen] at this

theorem State.bytesAt_putBytes_self (s : State) (sp a : Nat) (bs : List (BitVec 8)) : (s.putBytes sp a bs).bytesAt sp a bs.length = bs :=
  tgetN_tsetN_self ..

/-- A byte outside the range written, or of another space, stays. -/
theorem State.byteAt_putBytes_out (s : State) {sp a sq k : Nat} (bs : List (BitVec 8)) (hk : k < 2 ^ 40) (ha : a + bs.length ≤ 2 ^ 40)
    (h : sq ≠ sp ∨ k < a ∨ a + bs.length ≤ k) : (s.putBytes sp a bs).byteAt sq k = s.byteAt sq k := by
  refine tget_tsetN_out bs _ _ _ ?_
  unfold memKey
  rcases Nat.lt_trichotomy sq sp with hlt | rfl | hgt
  · have := Nat.mul_le_mul_right (2 ^ 40) (Nat.succ_le_of_lt hlt)
    omega
  · omega
  · have := Nat.mul_le_mul_right (2 ^ 40) (Nat.succ_le_of_lt hgt)
    omega

end

/-! ## Bytes of scratch, wrapping (R189) -/

/-- The scratch bytes from `a` replaced one after another, as `AnvSt.setBytes` does it, the list's first byte being number `j`. -/
def wrapWrite (t : Tbl (BitVec 8)) (a j : Nat) (bs : List (BitVec 8)) : Tbl (BitVec 8) :=
  (bs.zipIdx j).foldl (fun t p => tset byteDflt t ((a + p.2) % 65536) p.1) t

theorem tget_wrapWrite_out {a k : Nat} (bs : List (BitVec 8)) (t : Tbl (BitVec 8)) (j : Nat)
    (h : ∀ i, j ≤ i → i < j + bs.length → k ≠ (a + i) % 65536) : tget byteDflt (wrapWrite t a j bs) k = tget byteDflt t k := by
  induction bs generalizing t j with
  | nil => rfl
  | cons b bs ih =>
    simp only [List.length_cons] at h
    refine (ih (tset byteDflt t ((a + j) % 65536) b) (j + 1) fun i h1 h2 => h i (by omega) (by omega)).trans ?_
    exact tget_tset_ne _ _ _ (h j (le_refl _) (by omega))

theorem tget_wrapWrite_in {a i : Nat} (bs : List (BitVec 8)) (t : Tbl (BitVec 8)) (j : Nat) (hlen : bs.length ≤ 65536) (hi : i < bs.length) :
    tget byteDflt (wrapWrite t a j bs) ((a + (j + i)) % 65536) = bs[i] := by
  induction bs generalizing t j i with
  | nil => simp at hi
  | cons b bs ih =>
    simp only [List.length_cons] at hlen hi
    obtain _ | i := i
    · refine (tget_wrapWrite_out bs (tset byteDflt t ((a + j) % 65536) b) (j + 1) fun i h1 h2 => ?_).trans (tget_tset_self ..)
      omega
    · have := ih (tset byteDflt t ((a + j) % 65536) b) (j + 1) (by omega) (show i < bs.length by omega)
      rw [show j + (i + 1) = j + 1 + i by omega]
      exact this

section
variable (x : AnvSt) (a : Nat) (bs : List (BitVec 8))

theorem AnvSt.setBytes_scratch : (x.setBytes a bs).scratch = wrapWrite x.scratch a 0 bs := rfl

theorem AnvSt.length_bytes (n : Nat) : (x.bytes a n).length = n := by simp [AnvSt.bytes]

theorem AnvSt.bytes_congr {y : AnvSt} (h : y.scratch = x.scratch) (n : Nat) : y.bytes a n = x.bytes a n := by
  unfold AnvSt.bytes; rw [h]

theorem AnvSt.bytes_setBytes_self {bs : List (BitVec 8)} (h : bs.length ≤ 65536) : (x.setBytes a bs).bytes a bs.length = bs := by
  refine List.ext_getElem (by simp [AnvSt.bytes]) fun i h1 h2 => ?_
  have := tget_wrapWrite_in (a := a) bs x.scratch 0 h h2
  simpa [AnvSt.bytes, AnvSt.setBytes_scratch] using this

theorem AnvSt.bytes_setBytes_out {i : Nat} (h1 : bs.length ≤ i) (h2 : i < 65536) :
    (x.setBytes a bs).bytes ((a + i) % 65536) 1 = x.bytes ((a + i) % 65536) 1 := by
  have := tget_wrapWrite_out (a := a) (k := ((a + i) % 65536 + 0) % 65536) bs x.scratch 0 fun j _ hj => by omega
  simp only [AnvSt.bytes, AnvSt.setBytes_scratch, List.range_one, List.map_cons, List.map_nil, this]

end

end Sys2Proof.Machine
end

section
/-!
PROOF. O37: the mover, publishing and the end of a billet (spec/06_anvil_programming.md, R206 to R211, R215). That a TLOAD which hits does not
post-modify and the cause of a bad count are log entry 65, the time of a transfer log entry 144, a BDONE with SN = 0 log entry 62.
-/
namespace Sys2Proof.Machine

/-! ## MOVE and TLOAD -/

section
variable {s : State} {f a : Fin 32} {b : Billet}

/-- A count outside R206, or a place outside R207. -/
abbrev State.badMove (s : State) (b : Billet) (m : MoveSt) : Bool :=
  m.n == 0 || m.n % 16 != 0 || 65536 < m.n || !(if m.cm then s.ltOk b m.addr m.n else s.hearthOk b m.addr m.n)

theorem State.badMove_eq_false {m : MoveSt} (h0 : 0 < m.n) (h16 : m.n % 16 = 0) (hmax : m.n ≤ 65536)
    (hplace : (if m.cm then s.ltOk b m.addr m.n else s.hearthOk b m.addr m.n) = true) : s.badMove b m = false := by
  unfold State.badMove
  rw [hplace]
  simp only [Bool.not_true, Bool.or_false, Bool.or_eq_false_iff, beq_eq_false_iff_ne, bne_eq_false_iff_eq, decide_eq_false_iff_not]
  omega

theorem State.startMove_dispatched (m : MoveSt) (hrun : (s.anvN f a).run = some b) :
    (s.dispatched f a).startMove f a m =
      if s.badMove b m then (s.dispatched f a).kernelFault f a 5 m.addr
      else { s.setAnv f a { s.anvN f a with move := some m, upc := (s.issued f a).2.1 } with freeCtr := s.freeCtr + (s.issued f a).2.2 } := by
  unfold State.startMove
  dsimp only
  rw [State.dispatched_anvN]
  simp only [hrun, State.dispatched_setAnv]
  rfl

theorem moveStart_eq (hr : s.anvRuns f a = true) (hi : s.Routine f a)
    (hop : bitsOf (s.insWord f a) 24 8 = 0x68) :
    let x := s.anvN f a
    let w := s.insWord f a
    moveStart f a s = (s.dispatched f a).startMove f a { load := false, out := bitOf w 0, cm := bitOf w 1, addr := x.s_ (insSh w), sa := x.a_ (insXp w), n := x.s_ (insSn w) } := by
  intro x w
  unfold moveStart
  rw [State.dispatch_eq hr hop hi]
  dsimp only
  rw [State.dispatched_anvN, State.dispatched_insWord]
  rfl

theorem tload_miss (hr : s.anvRuns f a = true) (hi : s.Routine f a) (hop : bitsOf (s.insWord f a) 24 8 = 0x69)
    (hmiss : ∀ t, (s.anvN f a).ttag = some t → t.1 ≠ (s.anvN f a).s_ (insSt (s.insWord f a))) :
    let x := s.anvN f a
    let w := s.insWord f a
    tload f a s = (s.dispatched f a).startMove f a { load := true, addr := x.s_ (insSh w), sa := x.a_ (insXp w), n := x.s_ (insSn w), tag := x.s_ (insSt w) } := by
  intro x w
  unfold tload
  rw [State.dispatch_eq hr hop hi]
  dsimp only
  rw [State.dispatched_anvN, State.dispatched_insWord]
  refine if_neg ?_
  cases htag : (s.anvN f a).ttag with
  | none => simp
  | some t =>
    simp only [htag, beq_iff_eq]
    exact hmiss t htag

theorem tload_hit {t : Nat × Nat} (h : s.Steps f a 0x69) (hrep : (s.anvN f a).rep = 0)
    (htag : (s.anvN f a).ttag = some ((s.anvN f a).s_ (insSt (s.insWord f a)), t)) : tload f a s = s.stepsTo f a (s.anvN f a) := by
  unfold tload
  rw [State.dispatch_eq h.1 h.2.1 h.2.2.1]
  dsimp only
  rw [State.dispatched_anvN, State.dispatched_insWord]
  refine (if_pos ?_).trans (h.dispatched_endInstr hrep)
  simp only [htag]
  exact beq_self_eq_true _

/-! ## The end of a transfer -/

/-- The anvil after its transfer, with `bytes` as what came in (R206, R208). -/
def AnvSt.moved (x : AnvSt) (m : MoveSt) (w : Nat) (bytes : List (BitVec 8)) : AnvSt :=
  if m.out then { x with move := none }.post (insXp w)
  else if m.load then { ({ x with move := none }.setBytes m.sa bytes).post (insXp w) with ttag := some (m.tag, m.sa, m.n) }
  else ({ x with move := none }.setBytes m.sa bytes).post (insXp w)

section
variable (x : AnvSt) (m : MoveSt) (w : Nat) (bytes : List (BitVec 8))

/-- What a transfer keeps of its anvil, whichever way it goes. -/
theorem AnvSt.moved_keeps : ∃ sc tag, x.moved m w bytes =
    { x with move := none, a := (x.post (insXp w)).a, scratch := sc, ttag := tag } := by
  unfold AnvSt.moved
  split_ifs
  · exact ⟨x.scratch, x.ttag, rfl⟩
  · exact ⟨_, _, rfl⟩
  · exact ⟨_, _, rfl⟩

theorem AnvSt.moved_out (h : m.out = true) : (x.moved m w bytes).scratch = x.scratch := by
  unfold AnvSt.moved
  rw [if_pos h]
  rfl

theorem AnvSt.moved_in (h : m.out = false) : (x.moved m w bytes).scratch = (x.setBytes m.sa bytes).scratch := by
  unfold AnvSt.moved
  rw [if_neg (by simp [h])]
  split <;> rfl

theorem AnvSt.moved_load (h : m.out = false) (hl : m.load = true) : (x.moved m w bytes).ttag = some (m.tag, m.sa, m.n) := by
  unfold AnvSt.moved
  rw [if_neg (by simp [h]), if_pos hl]

end

/-- Within the billet's ring nothing wraps where the transfer begins outside it. -/
theorem ringPieces_outside {addr n : Nat} (h : b.ring + b.ringLen ≤ addr ∨ addr < b.ring) : ringPieces b addr n = [(addr, n)] := by
  unfold ringPieces
  refine if_neg ?_
  simp only [Bool.and_eq_true, decide_eq_true_eq]
  omega

theorem State.moverRead_hearth (s : State) {m : MoveSt} (errs : List SecErr) (hcm : m.cm = false)
    (hring : b.ring + b.ringLen ≤ m.addr ∨ m.addr < b.ring) (hsec : s.hasSecure 1 = false) :
    s.moverRead b m errs = (s, s.bytesAt 1 (hearthAddr b.home m.addr) m.n, false) := by
  unfold State.moverRead
  dsimp only
  rw [hcm, if_neg (by simp), ringPieces_outside hring]
  simp only [List.foldl_cons, List.foldl_nil, State.spaceRead_open hsec, List.nil_append]

theorem State.moverWrite_hearth (s : State) {m : MoveSt} {x : AnvSt} (hcm : m.cm = false)
    (hring : b.ring + b.ringLen ≤ m.addr ∨ m.addr < b.ring) (hsec : s.hasSecure 1 = false) :
    s.moverWrite b m (x.bytes m.sa m.n) = s.putBytes 1 (hearthAddr b.home m.addr) (x.bytes m.sa m.n) := by
  unfold State.moverWrite
  dsimp only
  rw [hcm, if_neg (by simp), ringPieces_outside hring]
  simp only [List.foldl_cons, List.foldl_nil, State.spaceWrite_open hsec]
  rw [List.take_of_length_le (le_of_eq (x.length_bytes ..))]

/-- The state of the memories after a transfer: one out of scratch writes its bytes to the hearth. -/
def State.movedMem (s : State) (x : AnvSt) (b : Billet) (m : MoveSt) : State :=
  if m.out then s.putBytes 1 (hearthAddr b.home m.addr) (x.bytes m.sa m.n) else s

/-- A hearth transfer that begins outside the ring ends: its bytes have moved, the address register is post-modified and PC moves on. -/
theorem moveComplete_eq {m : MoveSt} (wait : Nat) (errs : List SecErr) (hrun : (s.anvN f a).run = some b) (hm : (s.anvN f a).move = some m)
    (hcm : m.cm = false) (hring : b.ring + b.ringLen ≤ m.addr ∨ m.addr < b.ring) (hsec : s.hasSecure 1 = false)
    (hgone : (s.anvN f a).gone = false) (hu : s.forgeUp f = true) (hh : s.haltWaits f a = false) (hlo : (s.anvN f a).kLo ≤ (s.anvN f a).pc + 1)
    (hhi : (s.anvN f a).pc + 1 < (s.anvN f a).kHi) (hk : (s.anvN f a).kHi ≤ 16384) :
    moveComplete f a wait errs s = (s.movedMem (s.anvN f a) b m).setAnv f a
      { (s.anvN f a).moved m (s.insWord f a) (s.bytesAt 1 (hearthAddr b.home m.addr) m.n) with
        cyc := (s.anvN f a).cyc + (4 + (m.n + 31) / 32 + 2 * ringDist f b.home + wait), pc := (s.anvN f a).pc + 1 } := by
  set x := s.anvN f a with hx
  have ended (y : AnvSt) (hy : ∃ sc tag, y = { x with move := none, a := (x.post (insXp (s.insWord f a))).a, scratch := sc, ttag := tag }) :
      (s.movedMem x b m).endInstr f a (4 + (m.n + 31) / 32 + 2 * ringDist f b.home + wait) ((x.pc : Int) + 1) y =
      (s.movedMem x b m).setAnv f a { y with cyc := x.cyc + (4 + (m.n + 31) / 32 + 2 * ringDist f b.home + wait), pc := x.pc + 1 } := by
    obtain ⟨sc, tag, rfl⟩ := hy
    have hup : (s.movedMem x b m).forgeUp f = true := by unfold State.movedMem; split <;> exact hu
    have hhalt : (s.movedMem x b m).haltWaits f a = false := by
      refine (State.flag_congr (State.f_congr ?_ _)).trans hh
      unfold State.movedMem; split <;> rfl
    exact State.endInstr_eq _ (fun _ => ⟨hgone, hup, hhalt⟩) (by simp only; omega) (by simp only; omega) hk
  rw [← ended _ (x.moved_keeps m _ _)]
  have hcyc : 4 + ceilDiv m.n 32 + (if m.cm then 0 else meshFc f b) + wait = 4 + (m.n + 31) / 32 + 2 * ringDist f b.home + wait := by
    rw [hcm]; rfl
  unfold moveComplete
  dsimp only
  rw [← hx]
  split
  case h_2 hno => exact absurd hm (hno b m hrun)
  next b' m' hb' hm' =>
  obtain rfl : b = b' := Option.some.inj (hrun.symm.trans hb')
  obtain rfl : m = m' := Option.some.inj (hm.symm.trans hm')
  rw [hcyc, if_neg (by simp [hcm]), s.moverWrite_hearth hcm hring hsec, s.moverRead_hearth errs hcm hring hsec]
  unfold State.movedMem AnvSt.moved
  cases m.out
  · simp only [Bool.false_eq_true, if_false, Bool.or_false]
  · rfl

theorem State.movedMem_regs (s : State) (x : AnvSt) (m : MoveSt) : (s.movedMem x b m).regs = s.regs := by
  unfold State.movedMem
  split <;> rfl

theorem State.movedMem_anvN (s : State) (x : AnvSt) (m : MoveSt) (g c : Nat) : (s.movedMem x b m).anvN g c = s.anvN g c := by
  unfold State.movedMem
  split <;> rfl

theorem State.movedMem_in {x : AnvSt} {m : MoveSt} (h : m.out = false) : s.movedMem x b m = s := if_neg (by simp [h])

theorem State.movedMem_out {x : AnvSt} {m : MoveSt} (h : m.out = true) :
    s.movedMem x b m = s.putBytes 1 (hearthAddr b.home m.addr) (x.bytes m.sa m.n) := if_pos h

/-! ## BDONE (R209, R210) and the end of the copy (R159) -/

/-- What the end of a billet that publishes nothing leaves: the anvil free, the billet counted. -/
structure BilletDone (s t : State) (f a : Nat) (b : Billet) (cyc : Nat) : Prop where
  run : (t.anvN f a).run = none
  copying : (t.anvN f a).copying = false
  billets : t.f (R.FRG_BILLETS f) = (s.f (R.FRG_BILLETS f) + 1) % 2 ^ 64
  completed : t.f (R.CTX_COMPLETED b.ctx) = (s.f (R.CTX_COMPLETED b.ctx) + 1) % 2 ^ 64
  cycles : t.f (R.CTX_CYCLES b.ctx) = (s.f (R.CTX_CYCLES b.ctx) + cyc) % 2 ^ 64
  clk : t.clk = s.clk

theorem State.completeBillet_done {cyc : Nat} (hctx : b.ctx < 3072) (hlast : b.last = true) (hcls : b.cls ≠ 0)
    (hpin : (s.anvN f a).pin = none) : BilletDone s (s.completeBillet f a b cyc 0 []) f a b ((s.anvN f a).cyc + cyc) := by
  unfold State.completeBillet
  extract_lets x c past late stopped s1 s2 s3 s4 run tooLate q s5 p y waits s6 s7 s8
  have calm4 : s4.calm = s3.calm := by
    simp only [s4]
    split
    · exact s3.calm_addWrap 1 (spares_ctx (r := 0x120) (by decide) (by omega))
    · rfl
  have calm5 : s5.calm = s4.calm := by
    simp only [s5, State.groupStep, hlast, if_true]
    exact (State.calm_setCtx _ _ _).trans (s4.calm_setCtx _ _)
  have same6 : s6 = s5 := if_pos rfl
  have same7 : s7 = s6 := if_neg (by simp [tooLate, hcls])
  have tail : Retires SettledWord s3 s8 := by
    simp only [s8]
    rw [same7, same6]
    exact (Retires.of_calm (calm5.trans calm4)).trans (.ctxSettle _ _)
  have e3 : s3 = s2.addWrap (R.CTX_COMPLETED c) 1 := if_pos hlast
  have counted : Retires (fun _ => True) s1 s3 := by
    rw [e3]
    exact ((Retires.setF s1 _ fun _ _ => trivial).trans (.setF _ _ fun _ _ => trivial)).trans (.setF _ _ fun _ _ => trivial)
  have freed : Retires SettledWord (s.setAnv f a { x.stop with copying := false }) s1 := .pinPop _ f a
  have whole : (AnvSt.Retires { x.stop with copying := false } (s8.anvN f a)) := by
    have := (freed.anv f a).trans ((counted.anv f a).trans (tail.anv f a))
    rwa [State.anvN_setAnv] at this
  have same (z : Fld) : s1.f z = s.f z := State.f_congr (by exact State.pinPop_regs (s.setAnv f a { x.stop with copying := false }) f a) z
  rw [if_pos (beq_self_eq_true _), State.pinBegin_unpinned (whole.pin hpin)]
  have hf := f.isLt
  have apart : (R.CTX_COMPLETED c).apart (R.FRG_BILLETS f) ∧ (R.CTX_CYCLES c).apart (R.FRG_BILLETS f) ∧
      (R.CTX_CYCLES c).apart (R.CTX_COMPLETED c) ∧ (R.FRG_BILLETS f).apart (R.CTX_COMPLETED c) ∧
      (R.CTX_COMPLETED c).apart (R.CTX_CYCLES c) ∧ (R.FRG_BILLETS f).apart (R.CTX_CYCLES c) := by
    simp only [Fld.apart, R.FRG_BILLETS, R.CTX_COMPLETED, R.CTX_CYCLES, Fld.base, Fld.words]
    omega
  obtain ⟨hcb, hyb, hyc, hbc, hcy, hby⟩ := apart
  refine { run := whole.run rfl, copying := congrArg AnvSt.copying whole.still, billets := ?_, completed := ?_, cycles := ?_,
           clk := tail.clk.trans (counted.clk.trans freed.clk) }
  · rw [tail.f_forge hf (by simp only [R.FRG_BILLETS, Fld.base]; omega) (by simp only [R.FRG_BILLETS, Fld.base, Fld.words]; omega), e3]
    refine (State.f_setF_apart _ _ _ _ hcb).trans ((State.f_setF_apart _ _ _ _ hyb).trans ((State.f_addWrap_self ..).trans ?_))
    rw [same]; rfl
  · rw [tail.f_completed hctx, e3, State.f_addWrap_self]
    refine congrArg (fun n => (n + 1) % 2 ^ 64) ((State.f_setF_apart _ _ _ _ hyc).trans ((State.f_setF_apart _ _ _ _ hbc).trans (same _)))
  · rw [tail.f_cycles hctx, e3]
    refine (State.f_setF_apart _ _ _ _ hcy).trans ((State.f_addWrap_self ..).trans ?_)
    rw [show (s1.addWrap (R.FRG_BILLETS f) 1).f (R.CTX_CYCLES c) = s.f (R.CTX_CYCLES c) from (State.f_setF_apart _ _ _ _ hby).trans (same _)]
    rfl

theorem bdone_done (hrun : (s.anvN f a).run = some b) (hctx : b.ctx < 3072) (hr : s.anvRuns f a = true) (hi : s.Routine f a)
    (hop : bitsOf (s.insWord f a) 24 8 = 0x70) (hpin : (s.anvN f a).pin = none) (hn : (s.anvN f a).s_ (insSn (s.insWord f a)) = 0)
    (hlast : b.last = true) (hcls : b.cls ≠ 0) : BilletDone s (bdone f a s) f a b ((s.anvN f a).cyc + (s.issued f a).1) := by
  have hx := s.dispatched_anvN f a
  have hsn : ((s.dispatched f a).anvN f a).s_ (insSn (s.insWord f a)) = 0 := by rw [hx]; exact hn
  have heq : bdone f a s = (s.dispatched f a).completeBillet f a b (s.issued f a).1 0 [] := by
    unfold bdone
    rw [State.dispatch_eq hr hop hi]
    dsimp only
    rw [State.dispatched_insWord, hsn]
    have hrun' : ((s.dispatched f a).anvN f a).run = some b := by rw [hx]; exact hrun
    simp only [hrun', AnvSt.bytes, List.range_zero, List.map_nil]
    exact if_neg (by simp)
  have done := State.completeBillet_done (s := s.dispatched f a) (f := f) (a := a) (b := b) (cyc := (s.issued f a).1) hctx hlast hcls
    (by rw [hx]; exact hpin)
  rw [← heq, hx] at done
  exact { done with
    billets := by rw [done.billets, State.dispatched_f]
    completed := by rw [done.completed, State.dispatched_f]
    cycles := by rw [done.cycles, State.dispatched_f] }

theorem bdone_badLength (hrun : (s.anvN f a).run = some b) (hr : s.anvRuns f a = true) (hi : s.Routine f a)
    (hop : bitsOf (s.insWord f a) 24 8 = 0x70) (hpin : (s.anvN f a).pin = none)
    (hn : (s.anvN f a).s_ (insSn (s.insWord f a)) % 16 ≠ 0 ∨ 32768 < (s.anvN f a).s_ (insSn (s.insWord f a)) ∨
      (b.last = false ∧ (s.anvN f a).s_ (insSn (s.insWord f a)) ≠ 0)) :
    KernelFaulted s (bdone f a s) f a (s.anvN f a).pc 6 := by
  have hx := s.dispatched_anvN f a
  have hrun' : ((s.dispatched f a).anvN f a).run = some b := by rw [hx]; exact hrun
  have hsn : ((s.dispatched f a).anvN f a).s_ (insSn (s.insWord f a)) = (s.anvN f a).s_ (insSn (s.insWord f a)) := by rw [hx]; rfl
  have heq : bdone f a s = (s.dispatched f a).kernelFault f a 6 0 := by
    unfold bdone
    rw [State.dispatch_eq hr hop hi]
    dsimp only
    rw [State.dispatched_insWord, hsn]
    simp only [hrun']
    refine if_pos ?_
    simpa [or_assoc] using hn
  rw [heq]
  exact State.dispatched_faulted _ f.isLt a.isLt (by decide) hrun hpin

theorem publishCopyEnd_eq {r : State} (hcopy : (r.anvN f a).copying = true) (hpin : (r.anvN f a).pin = none) :
    publishCopyEnd f a r = r.setAnv f a { r.anvN f a with copying := false } := by
  unfold publishCopyEnd
  dsimp only
  rw [hcopy, if_neg (by simp)]
  exact State.pinBegin_unpinned (by rw [State.anvN_setAnv]; exact hpin)

/-- The outcome of a command that ends in a kernel fault, where the PC is not asked for. -/
theorem KernelFaulted.ends_cause {t : State} {cause pc : Nat} (h : KernelFaulted s t f a pc cause) :
    Ends (.next t) fun t =>
      (t.anvN f a).run = none ∧ t.f (R.FRG_KFAULT_CAUSE f) = cause ∧ t.f (R.FRG_KFAULT_ANVIL f) = a ∧
      t.f (R.FRG_KF_COUNT f) = min (s.f (R.FRG_KF_COUNT f) + 1) (2 ^ 32 - 1) ∧ t.clk = s.clk :=
  ⟨t, rfl, h.run, h.cause, h.anvil, h.count, h.clk⟩

end

end Sys2Proof.Machine

open Sys2Proof Sys2Proof.Machine

/-- Settles O37: a transfer starts or faults by `State.startMove_dispatched`, ends by `moveComplete_eq`, whose bytes are those of `setBytes`
and `putBytes`, and a billet that publishes nothing completes by `State.completeBillet_done`. -/
theorem moverAndPublish : Obligations.MoverAndPublish := by
  unfold Obligations.MoverAndPublish
  intro f a s b x w n ad faults moves hrun hctx _
  refine ⟨fun hr hi hop => ⟨fun h0 h16 hmax hplace => ?_, fun hpin hcm hplace => ?_⟩, fun hr hi hop hmiss h0 h16 hmax hplace => ?_,
    fun base len h hrep htag => congrArg Host.Outcome.next (tload_hit h hrep htag), ?_, fun hr hi hop hpin => ⟨fun hn hlast hcls => ?_, fun hn => ?_⟩,
    fun r hcopy hpin => congrArg Host.Outcome.next (publishCopyEnd_eq hcopy hpin)⟩
  · refine congrArg Host.Outcome.next ((moveStart_eq hr hi hop).trans ((State.startMove_dispatched _ hrun).trans (if_neg ?_)))
    exact Bool.eq_false_iff.mp (State.badMove_eq_false h0 h16 hmax hplace)
  · have heq := (moveStart_eq hr hi hop).trans ((State.startMove_dispatched _ hrun).trans (if_pos ?_))
    · exact (heq ▸ State.dispatched_faulted _ f.isLt a.isLt (by decide) hrun hpin : KernelFaulted s (moveStart f a s) f a x.pc 5).ends_cause
    · unfold State.badMove
      simp only [show bitOf (s.insWord f a) 1 = false from hcm]
      simp [show s.hearthOk b ((s.anvN f a).s_ (insSh (s.insWord f a))) ((s.anvN f a).s_ (insSn (s.insWord f a))) = false from hplace]
  · refine congrArg Host.Outcome.next ((tload_miss hr hi hop hmiss).trans ((State.startMove_dispatched _ hrun).trans (if_neg ?_)))
    exact Bool.eq_false_iff.mp (State.badMove_eq_false h0 h16 hmax hplace)
  · intro m wait errs hm hcm hn hsa hring haddr hhome hsec hrep hgone hu hh hlo hhi hk
    have heq := moveComplete_eq wait errs hrun hm hcm hring hsec hgone hu hh hlo hhi hk
    refine ⟨_, congrArg Host.Outcome.next heq, ?_⟩
    simp only [State.anvN_setAnv]
    obtain ⟨sc, tag, hmoved⟩ := (s.anvN f a).moved_keeps m (s.insWord f a) (s.bytesAt 1 (hearthAddr b.home m.addr) m.n)
    have hread : (s.bytesAt 1 (hearthAddr b.home m.addr) m.n).length = m.n := State.length_bytesAt ..
    have hscratch : ((s.anvN f a).bytes m.sa m.n).length = m.n := AnvSt.length_bytes ..
    have hplace : hearthAddr b.home m.addr + m.n ≤ 2 ^ 40 := by unfold hearthAddr; omega
    refine ⟨by rw [hmoved], by rw [hmoved]; exact hrun, rfl, ?_, by rw [hmoved], by rw [hmoved], by rw [hmoved], by rw [hmoved],
      (s.movedMem_regs _ m : _), fun g c hg hc hne => ?_, fun hout => ⟨?_, ?_, fun i h1 h2 => ?_, fun hl => (s.anvN f a).moved_load m _ _ hout hl⟩,
      fun hout => ⟨?_, (s.anvN f a).moved_out m _ _ hout, fun sp k hk2 hap => ?_⟩⟩
    · unfold ringDist
      rw [Nat.mod_eq_of_lt hhome, Nat.mod_eq_of_lt f.isLt]
    · rw [State.anvN_setAnv_if, if_neg, State.movedMem_anvN]
      exact fun he => hne (Prod.ext (by simp only; omega) (by simp only; omega))
    · have := (s.anvN f a).bytes_setBytes_self m.sa (hread.trans_le hn)
      rw [hread] at this
      exact ((AnvSt.bytes_congr _ _ ((s.anvN f a).moved_in m _ _ hout) _).trans this : _)
    · rw [State.movedMem_in hout]
      rfl
    · exact (AnvSt.bytes_congr _ _ ((s.anvN f a).moved_in m _ _ hout) _).trans
        ((s.anvN f a).bytes_setBytes_out m.sa _ (hread.trans_le h1) h2)
    · rw [State.movedMem_out hout]
      have := s.bytesAt_putBytes_self 1 (hearthAddr b.home m.addr) ((s.anvN f a).bytes m.sa m.n)
      rw [hscratch] at this
      exact this
    · rw [State.movedMem_out hout]
      exact s.byteAt_putBytes_out _ hk2 (by rw [hscratch]; exact hplace) (by rw [hscratch]; exact hap)
  · have done := bdone_done hrun hctx hr hi hop hpin hn hlast hcls
    exact ⟨_, rfl, done.run, done.copying, done.billets, done.completed, by rw [done.cycles, Nat.add_assoc], done.clk⟩
  · exact (bdone_badLength hrun hr hi hop hpin hn).ends_cause
end

section
/-!
PROOF. A forge that leaves service and a machine check on it (spec/06_anvil_programming.md, R225, R227 to R230; spec/01, R20, R27). That the
10 s run on elapsed time is log entry 146.
-/
namespace Sys2Proof.Machine

/-! ## Leaving service (R20, R27, R183) -/

section
variable {s : State} {f : Nat}

/-- Fence entry of a forge's block writes no word of a forge. -/
theorem State.f_fenceEnter_forge (hf : f < 32) (v : BlkState) {x : Fld} (hx : 0x100000 ≤ x.base) : (s.fenceEnter (0x20 + f) v).f x = s.f x := by
  rw [State.fenceEnter_eq]
  refine (State.f_setF_apart _ _ _ _ (.inl ?_)).trans (State.f_fence s _ x)
  simp only [epochFld, Fld.base, Fld.words] at hx ⊢
  omega

theorem State.fenceEnter_fab (b : Nat) (v : BlkState) : (s.fenceEnter b v).fab = s.fab := by
  rw [State.fenceEnter_eq]
  exact State.setF_fab ..

theorem State.fenceEnter_clk (b : Nat) (v : BlkState) : (s.fenceEnter b v).clk = s.clk := by
  rw [State.fenceEnter_eq]
  exact State.setF_clk ..

/-- A forge that leaves service has entered OFFLINE and begun to drain; then billets go and move. -/
theorem Retires.forgeLeave (s : State) (f : Nat) :
    Retires RetiredWord ((s.fenceEnter (0x20 + f) .offline).setDrain f 1) (s.forgeLeave f) := by
  unfold State.forgeLeave
  exact (Retires.foldl (fun t a => .ite (.giveUp t f a) (.refl _ t)) _ _).trans (.drainForge _ f)

theorem State.forgeLeave_blk (hf : f < 32) : (s.forgeLeave f).blk (0x20 + f) = .offline := by
  have entered : ((s.fenceEnter (0x20 + f) .offline).setDrain f 1).blk (0x20 + f) = .offline := by
    refine (State.blk_of_fence rfl _).trans ((s.fenceEnter_blk ..).trans (if_pos rfl))
  exact ((Retires.forgeLeave s f).blk ⟨f, hf⟩).trans entered

theorem State.forgeLeave_clk (s : State) (f : Nat) : (s.forgeLeave f).clk = s.clk :=
  (Retires.forgeLeave s f).clk.trans (State.fenceEnter_clk ..)

theorem State.forgeLeave_anvN (s : State) (f g a : Nat) : (s.anvN g a).Retires ((s.forgeLeave f).anvN g a) := by
  have h := (Retires.forgeLeave s f).anv g a
  rwa [show ((s.fenceEnter (0x20 + f) .offline).setDrain f 1).anvN g a = s.anvN g a from State.anvN_congr (s.fenceEnter_fab ..) g a] at h

theorem State.forgeLeave_reloadOf (s : State) (f g : Nat) : (s.forgeLeave f).reloadOf g = s.reloadOf g := by
  rw [(Retires.forgeLeave s f).reloadOf]
  unfold State.reloadOf State.setDrain
  simp only [State.fenceEnter_fab]

/-- The words of a forge after its counter of abandoned billets stay when it leaves service. -/
theorem State.f_forgeLeave (hf : f < 32) {x : Fld} (lo : 0x100034 + 0x4000 * f ≤ x.base) (hi : x.base + 4 * x.words ≤ 0x104000 + 0x4000 * f) :
    (s.forgeLeave f).f x = s.f x := by
  rw [(Retires.forgeLeave s f).f_forge_lost hf lo hi, ← s.f_fenceEnter_forge hf .offline (by omega)]
  exact State.f_congr (by rfl) x

end

/-! ## Quarantine (R230) -/

section
variable (s : State) (f : Nat)

theorem State.calm_bresetEnd (b status : Nat) : (s.bresetEnd b status).calm = s.calm := by
  unfold State.bresetEnd
  split
  · exact (State.calm_setF _ _ (by decide)).trans ((State.calm_setB _ false (by decide)).trans rfl)
  · rfl

theorem State.calm_ucodePass : (s.ucodePass f).calm = s.calm := by
  unfold State.ucodePass
  split
  · split <;> rfl
  · rfl

theorem State.calm_quarantine :
    (s.quarantine f).calm =
      (((s.setReload f 0).setB (R.FRG_MC_STATUS_RELOADING f) false).setB (R.FRG_MC_STATUS_QUARANTINE f) true).calm := by
  unfold State.quarantine
  extract_lets s1 mine s2
  exact (State.calm_ucodePass _ f).trans ((State.calm_bresetEnd _ _ _).trans (foldl_calm (fun t c _ => t.calm_finishLong c _ _) s1))

theorem State.reloadOf_setReload (v : Nat) : (s.setReload f v).reloadOf f = v := tget_tset_self ..

end

/-! ## Machine checks (R227 to R229) -/

section
variable {s : State} {f a : Nat}

theorem State.pinMchk_unpinned (h : ∀ i, (s.anvN f i).pin = none) : s.pinMchk f a = s := by
  unfold State.pinMchk
  generalize List.range 32 = l
  induction l with
  | nil => rfl
  | cons i l ih =>
    rw [List.foldl_cons]
    simp only [h i]
    exact ih

theorem AnvSt.setCell_pin (x : AnvSt) (k v : Nat) : (x.setCell k v).pin = x.pin := by
  unfold AnvSt.setCell
  split_ifs <;> rfl

theorem AnvSt.partialRun_pin (x : AnvSt) (n : Nat) : (x.partialRun n).pin = x.pin := by
  have cells (l : List (Nat × Nat)) (y : AnvSt) : (l.foldl (fun (z : AnvSt) p => z.setCell p.1 p.2) y).pin = y.pin := by
    induction l generalizing y with
    | nil => rfl
    | cons p l ih => exact (ih _).trans (y.setCell_pin ..)
  have bytes (l : List (Nat × BitVec 8)) (y : AnvSt) : (l.foldl (fun (z : AnvSt) p => z.setBytes p.1 [p.2]) y).pin = y.pin := by
    induction l generalizing y with
    | nil => rfl
    | cons p l ih => exact ih _
  exact (bytes _ _).trans (cells _ _)

theorem State.abandon_drain (s : State) (f a : Nat) : (s.abandon f a).fab.drain = s.fab.drain := by
  unfold State.abandon
  dsimp only
  split
  · rfl
  · rw [State.addWrap_fab, State.incSat_fab]
    rfl

/-- The machine checks of a forge that lie within 10 s of now (log entry 146). -/
def State.nearChecks (s : State) (f : Nat) : List Nat :=
  (tget (fun _ => []) s.fab.checks f).filter (fun t => decide (s.clk.elapsed - t ≤ 10 * secUnit))

/-- The parts of the state that an anvil's stop needs: two states alike in them, and forge `f` unpinned in both. -/
structure StopsAlike (s t : State) (f : Nat) : Prop where
  fence : t.fence = s.fence
  drain : t.fab.drain = s.fab.drain
  reload : t.fab.reload = s.fab.reload
  clk : t.clk = s.clk
  pins : (∀ i, (s.anvN f i).pin = none) → ∀ i, (t.anvN f i).pin = none

theorem StopsAlike.trans {s t u : State} {f : Nat} (h1 : StopsAlike s t f) (h2 : StopsAlike t u f) : StopsAlike s u f :=
  ⟨h2.fence.trans h1.fence, h2.drain.trans h1.drain, h2.reload.trans h1.reload, h2.clk.trans h1.clk, h2.pins ∘ h1.pins⟩

/-- The record and the count of a machine check (R228). -/
def State.checkCounted (s : State) (f a rec_ : Nat) : State :=
  ((s.setF (R.FRG_MC_LOG f) rec_).incSat (R.FRG_MC_STATUS_COUNT f)).setF (R.FRG_MC_STATUS_LAST_ANVIL f) a

/-- The machine check in the error log. -/
def State.checkLogged (s : State) (f a rec_ : Nat) : State :=
  (s.checkCounted f a rec_).errLog 0x02 2 (0x20 + f) stMachineCheck ((List.range 8).map (fun i => bitsOf rec_ (32 * i) 32))

/-- A machine check of this instant noted for R230. -/
def State.noteCheck (s : State) (f : Nat) : State :=
  { s with fab := { s.fab with checks := tset (fun _ => []) s.fab.checks f (s.clk.elapsed :: s.nearChecks f) } }

theorem State.noteCheck_alike (s : State) (f : Nat) : StopsAlike s (s.noteCheck f) f := ⟨rfl, rfl, rfl, rfl, id⟩

/-- The effects of the microwords before the failing one. -/
def State.checkRan (s : State) (f a : Nat) (ran : Bool) : State :=
  if ran then (s.setAnv f a ((s.anvN f a).partialRun s.fresh)).next else s

/-- The anvil stopped, without TTAG. -/
def State.checkStopped (s : State) (f a uaddr : Nat) : State :=
  (s.abandon f a).setAnv f a { (s.abandon f a).anvN f a with ttag := none, upc := uaddr }

/-- The billet of the stopped anvil goes to another rack, and the forge drains. -/
def State.checkMoved (s : State) (f : Nat) (b : Billet) (gone : Bool) : State :=
  (if gone then s.ctxSettle b.ctx else s.reissue b).drainForge f

theorem State.noteCheck_regs (s : State) (f : Nat) : (s.noteCheck f).regs = s.regs := rfl

theorem AlarmOnly.kept {s t : State} (h : AlarmOnly s t) : t.fab = s.fab ∧ t.fence = s.fence ∧ t.clk = s.clk := by
  obtain ⟨_, _, _, _, _, he⟩ := h.eq
  rw [he]
  exact ⟨rfl, rfl, rfl⟩

theorem State.checkCounted_kept (s : State) (f a rec_ : Nat) :
    (s.checkCounted f a rec_).fab = s.fab ∧ (s.checkCounted f a rec_).fence = s.fence ∧ (s.checkCounted f a rec_).clk = s.clk := by
  simp [State.checkCounted]

theorem State.nearChecks_congr {s t : State} (hfab : t.fab = s.fab) (hclk : t.clk = s.clk) (f : Nat) : t.nearChecks f = s.nearChecks f := by
  unfold State.nearChecks
  rw [hfab, hclk]

theorem State.checkLogged_alarm (s : State) (f a rec_ : Nat) : AlarmOnly (s.checkCounted f a rec_) (s.checkLogged f a rec_) :=
  .errLog _ _ _ _ _ (le_refl 2)

theorem State.checkLogged_alike (s : State) (f a rec_ : Nat) : StopsAlike s (s.checkLogged f a rec_) f := by
  obtain ⟨fab1, fence1, clk1⟩ := s.checkCounted_kept f a rec_
  obtain ⟨fab2, fence2, clk2⟩ := (s.checkLogged_alarm f a rec_).kept
  have hfab := fab2.trans fab1
  exact ⟨fence2.trans fence1, by rw [hfab], by rw [hfab], clk2.trans clk1, fun h i => by rw [State.anvN_congr hfab]; exact h i⟩

theorem State.checkRan_alike (s : State) (f a : Nat) (ran : Bool) : StopsAlike s (s.checkRan f a ran) f := by
  unfold State.checkRan
  split
  · refine ⟨rfl, rfl, rfl, rfl, fun h i => ?_⟩
    refine (congrArg AnvSt.pin (State.anvN_setAnv_if s f a f i _)).trans ?_
    split
    · exact ((s.anvN f a).partialRun_pin _).trans (h a)
    · exact h i
  · exact ⟨rfl, rfl, rfl, rfl, id⟩

theorem State.checkRan_regs (s : State) (f a : Nat) (ran : Bool) : (s.checkRan f a ran).regs = s.regs := by
  unfold State.checkRan
  split <;> rfl

theorem State.checkStopped_retired (s : State) (f a uaddr : Nat) :
    ((s.checkStopped f a uaddr).anvN f a).run = none ∧ ((s.checkStopped f a uaddr).anvN f a).ttag = none := by
  unfold State.checkStopped
  rw [State.anvN_setAnv]
  exact ⟨s.abandon_run f a, rfl⟩

theorem State.checkStopped_forgeUp (s : State) (hf : f < 32) (uaddr : Nat) : (s.checkStopped f a uaddr).forgeUp f = s.forgeUp f := by
  have hblk : (s.abandon f a).blk (0x20 + f) = s.blk (0x20 + f) := (Retires.abandon s f a).blk ⟨f, hf⟩
  unfold State.checkStopped
  rw [State.forgeUp_setAnv]
  unfold State.forgeUp State.isRunning
  rw [hblk, State.abandon_drain]

theorem State.f_checkStopped (s : State) (hf : f < 32) (uaddr : Nat) {x : Fld} (lo : 0x100034 + 0x4000 * f ≤ x.base)
    (hi : x.base + 4 * x.words ≤ 0x104000 + 0x4000 * f) : (s.checkStopped f a uaddr).f x = s.f x := by
  unfold State.checkStopped
  rw [State.f_setAnv]
  exact (Retires.abandon s f a).f_forge_lost hf lo hi

theorem State.checkStopped_kept (s : State) (uaddr : Nat) :
    (s.checkStopped f a uaddr).reloadOf f = s.reloadOf f ∧ (s.checkStopped f a uaddr).clk = s.clk :=
  ⟨(Retires.abandon s f a).reloadOf f, (Retires.abandon s f a).clk⟩

theorem Retires.checkMoved (s : State) (f : Nat) (b : Billet) (gone : Bool) : Retires RetiredWord s (s.checkMoved f b gone) := by
  unfold State.checkMoved
  exact (Retires.ite (Retires.ctxSettle s _).settled (.reissue s b)).trans (.drainForge _ f)

/-- The state of a machine check on a forge in service before the quarantine or the reload. -/
def State.afterCheck (s : State) (f a rec_ uaddr : Nat) (ran : Bool) (b : Billet) : State :=
  (((((s.checkLogged f a rec_).noteCheck f).checkRan f a ran).checkStopped f a uaddr).forgeLeave f).checkMoved f b (s.anvN f a).gone

theorem State.checkAnvil_eq {b : Billet} (kind uaddr : Nat) (ran : Bool) (hf : f < 32) (hrun : (s.anvN f a).run = some b)
    (hpin : ∀ i, (s.anvN f i).pin = none) (hup : s.forgeUp f = true) :
    let t := s.afterCheck f a (s.mcRecordWord f a kind uaddr b) uaddr ran b
    s.checkAnvil f a kind uaddr ran =
      if 2 ≤ (s.nearChecks f).length then t.quarantine f else if t.reloadOf f == 0 then t.reloadStart f else t := by
  have alike := ((s.checkLogged_alike f a (s.mcRecordWord f a kind uaddr b)).trans (State.noteCheck_alike _ f)).trans (State.checkRan_alike _ f a ran)
  generalize ht : ((s.checkLogged f a (s.mcRecordWord f a kind uaddr b)).noteCheck f).checkRan f a ran = t5 at alike
  have up : (t5.checkStopped f a uaddr).forgeUp f = true := by
    rw [State.checkStopped_forgeUp _ hf, ← hup]
    unfold State.forgeUp State.isRunning
    rw [State.blk_of_fence alike.fence, alike.drain]
  have near : (s.checkLogged f a (s.mcRecordWord f a kind uaddr b)).nearChecks f = s.nearChecks f := by
    obtain ⟨fab1, -, clk1⟩ := s.checkCounted_kept f a (s.mcRecordWord f a kind uaddr b)
    obtain ⟨fab2, -, clk2⟩ := (s.checkLogged_alarm f a (s.mcRecordWord f a kind uaddr b)).kept
    exact State.nearChecks_congr (fab2.trans fab1) (clk2.trans clk1) f
  unfold State.checkAnvil State.afterCheck
  extract_lets r x
  split
  · next hnone => exact absurd (hrun.symm.trans hnone) (by simp)
  next b' hb' =>
  obtain rfl : b = b' := Option.some.inj (hrun.symm.trans hb')
  extract_lets rec_ s1 s2 t0 near' base s3 s4 stopped y left s6 moved s9
  have e2 : s2 = s.checkLogged f a (s.mcRecordWord f a kind uaddr b) := rfl
  clear_value s2
  have e5 : s4 = (s2.noteCheck f).checkRan f a ran := rfl
  have enear : near' = s2.nearChecks f := rfl
  clear_value near' s4
  rw [e2] at e5 enear
  rw [← e5] at ht
  subst ht
  have e6 : (s4.pinMchk f a).abandon f a = s4.abandon f a := congrArg (State.abandon · f a) (State.pinMchk_unpinned (alike.pins hpin))
  have eleft : left = s4.checkStopped f a uaddr := by
    simp only [left, y, stopped, e6]
    rfl
  clear_value left
  subst eleft
  have e7 : s6 = (s4.checkStopped f a uaddr).forgeLeave f := if_pos up
  clear_value s6
  have hpx : x.pin = none := hpin a
  have e9 : s9 = r := by
    simp only [s9, moved, r, ← e5, hpx, e7]
    rfl
  rw [near] at enear
  clear_value s9 r
  subst e9
  subst enear
  rfl

/-- The state of a machine check before the quarantine or the reload: the anvil stopped without TTAG, the forge OFFLINE, the record made. -/
structure Checked (s t : State) (f a rec_ : Nat) : Prop where
  run : (t.anvN f a).run = none
  ttag : (t.anvN f a).ttag = none
  blk : t.blk (0x20 + f) = .offline
  reload : t.reloadOf f = s.reloadOf f
  clk : t.clk = s.clk
  words : ∀ x : Fld, 0x100034 + 0x4000 * f ≤ x.base → x.base + 4 * x.words ≤ 0x104000 + 0x4000 * f → t.f x = (s.checkCounted f a rec_).f x

theorem State.afterCheck_checked (s : State) (a rec_ uaddr : Nat) (ran : Bool) (b : Billet) (hf : f < 32) :
    Checked s (s.afterCheck f a rec_ uaddr ran b) f a rec_ := by
  have alike := ((s.checkLogged_alike f a rec_).trans (State.noteCheck_alike _ f)).trans (State.checkRan_alike _ f a ran)
  have regs : (((s.checkLogged f a rec_).noteCheck f).checkRan f a ran).regs = (s.checkLogged f a rec_).regs :=
    (State.checkRan_regs ..).trans (State.noteCheck_regs ..)
  have logged := s.checkLogged_alarm f a rec_
  unfold State.afterCheck
  generalize ((s.checkLogged f a rec_).noteCheck f).checkRan f a ran = t5 at alike regs
  have stop := State.checkStopped_retired t5 f a uaddr
  have keep := State.checkStopped_kept (f := f) (a := a) t5 uaddr
  have moved := Retires.checkMoved ((t5.checkStopped f a uaddr).forgeLeave f) f b (s.anvN f a).gone
  have leave := ((t5.checkStopped f a uaddr).forgeLeave_anvN f f a).trans (moved.anv f a)
  have reload5 : t5.reloadOf f = s.reloadOf f := by unfold State.reloadOf; rw [alike.reload]
  exact {
    run := leave.run stop.1
    ttag := (congrArg AnvSt.ttag leave.still).trans stop.2
    blk := (moved.blk ⟨f, hf⟩).trans (State.forgeLeave_blk hf)
    reload := (moved.reloadOf f).trans ((State.forgeLeave_reloadOf ..).trans (keep.1.trans reload5))
    clk := moved.clk.trans ((State.forgeLeave_clk ..).trans (keep.2.trans alike.clk))
    words := fun x lo hi => by
      rw [moved.f_forge_lost hf lo hi, State.f_forgeLeave hf lo hi, State.f_checkStopped _ hf _ lo hi, State.f_congr regs]
      exact logged.f_eq x ⟨by omega, by omega⟩ }

/-! ### The record of a machine check (Table 6-12) -/

theorem State.f_checkCounted_log (s : State) (f a rec_ : Nat) {lo wd : Nat} (h : lo + wd ≤ 256) :
    (s.checkCounted f a rec_).f ⟨0x100410 + 0x4000 * f, lo, wd⟩ = bitsOf rec_ lo wd := by
  have apart (c : Nat) (hc : c = 0 ∨ c = 24) (n : Nat) (hn : n ≤ 8) :
      (⟨0x100400 + 0x4000 * f, c, n⟩ : Fld).apart ⟨0x100410 + 0x4000 * f, lo, wd⟩ := by
    simp only [Fld.apart, Fld.base, Fld.words]
    omega
  have record : (s.setF (R.FRG_MC_LOG f) rec_).wordsAt (0x100410 + 0x4000 * f) 8 = rec_ % 2 ^ 256 :=
    ((s.setF (R.FRG_MC_LOG f) rec_).f_wordsAt _ 8).symm.trans (State.f_setF_self s (R.FRG_MC_LOG f) rec_)
  refine (State.f_setF_apart _ _ _ _ (apart 0 (.inl rfl) 5 (by decide))).trans
    ((State.f_setF_apart _ _ _ _ (apart 24 (.inr rfl) 8 (by decide))).trans ?_)
  rw [State.f_part _ 8 (by simp only [Fld.words]; omega), record, bitsOf_mod _ _ _ _ h]

theorem State.f_checkCounted_count (s : State) (f a rec_ : Nat) :
    (s.checkCounted f a rec_).f (R.FRG_MC_STATUS_COUNT f) = min (s.f (R.FRG_MC_STATUS_COUNT f) + 1) 255 := by
  refine (State.f_setF_apart _ _ _ _ ?_).trans ((State.f_incSat_self ..).trans ?_)
  · simp only [Fld.apart, R.FRG_MC_STATUS_COUNT, R.FRG_MC_STATUS_LAST_ANVIL, Fld.base, Fld.words, true_and]
    omega
  · rw [State.f_setF_apart]
    · rfl
    · simp only [Fld.apart, R.FRG_MC_LOG, R.FRG_MC_STATUS_COUNT, Fld.base, Fld.words]
      omega

theorem State.f_checkCounted_last (s : State) (f rec_ : Nat) {a : Nat} (ha : a < 32) :
    (s.checkCounted f a rec_).f (R.FRG_MC_STATUS_LAST_ANVIL f) = a :=
  (State.f_setF_self ..).trans (Nat.mod_eq_of_lt ha)

theorem State.f_checkCounted_quarantine (s : State) (f a rec_ : Nat) :
    (s.checkCounted f a rec_).f (R.FRG_MC_STATUS_QUARANTINE f) = s.f (R.FRG_MC_STATUS_QUARANTINE f) := by
  refine (State.f_setF_apart _ _ _ _ ?_).trans ((State.f_setF_apart _ _ _ _ ?_).trans (State.f_setF_apart _ _ _ _ ?_))
  all_goals
    simp only [Fld.apart, R.FRG_MC_LOG, R.FRG_MC_STATUS_COUNT, R.FRG_MC_STATUS_LAST_ANVIL, R.FRG_MC_STATUS_QUARANTINE, Fld.base, Fld.words,
      true_and]
    omega

/-- The fields of the record. -/
theorem State.mcRecordWord_fields (s : State) {f a kind uaddr : Nat} {b : Billet} (ha : a < 32) (hf : f < 32) (hk : kind < 4) (hu : uaddr < 8192)
    (hc : b.ctx < 3072) :
    bitsOf (s.mcRecordWord f a kind uaddr b) 0 5 = a ∧ bitsOf (s.mcRecordWord f a kind uaddr b) 10 2 = kind ∧
      bitsOf (s.mcRecordWord f a kind uaddr b) 12 13 = uaddr ∧ bitsOf (s.mcRecordWord f a kind uaddr b) 64 12 = b.ctx := by
  have hop : bitsOf (s.insWord f a) 24 8 < 256 := bitsOf_lt ..
  unfold State.mcRecordWord
  dsimp only
  generalize bitsOf (s.insWord f a) 24 8 = op at hop
  generalize pt128 s.now = now
  generalize (s.anvN f a).pc = pc
  unfold bitsOf
  refine ⟨?_, ?_, ?_, ?_⟩ <;> omega

/-! ### What follows: the quarantine or the reload -/

/-- What the quarantine and the start of a reload keep. -/
structure CheckEnds (t u : State) (f : Nat) : Prop where
  anv : ∀ a, (t.anvN f a).Retires (u.anvN f a)
  blk : u.blk (0x20 + f) = t.blk (0x20 + f)
  clk : u.clk = t.clk
  words : ∀ x : Fld, 0x100034 + 0x4000 * f ≤ x.base → x.base + 4 * x.words ≤ 0x104000 + 0x4000 * f →
    (R.FRG_MC_STATUS_RELOADING f).apart x → (R.FRG_MC_STATUS_QUARANTINE f).apart x → u.f x = t.f x

theorem State.setReload_setB_anvN (t : State) (f v a : Nat) (x : Fld) (b : Bool) : ((t.setReload f v).setB x b).anvN f a = t.anvN f a :=
  State.anvN_congr (State.setB_fab ..) f a

theorem State.quarantine_ends (t : State) (hf : f < 32) :
    CheckEnds t (t.quarantine f) f ∧ (t.quarantine f).reloadOf f = 0 ∧ (t.quarantine f).flag (R.FRG_MC_STATUS_QUARANTINE f) = true ∧
      (t.quarantine f).flag (R.FRG_MC_STATUS_RELOADING f) = false := by
  have settled := Retires.of_calm (t.calm_quarantine f)
  set r := (t.setReload f 0).setB (R.FRG_MC_STATUS_RELOADING f) false with hr
  have hfab : (r.setB (R.FRG_MC_STATUS_QUARANTINE f) true).fab = (t.setReload f 0).fab := (State.setB_fab ..).trans (State.setB_fab ..)
  refine ⟨⟨fun a => ?_, ?_, ?_, fun x lo hi h1 h2 => ?_⟩, ?_, ?_, ?_⟩
  · have := settled.anv f a
    rwa [State.anvN_congr hfab] at this
  · refine (settled.blk ⟨f, hf⟩).trans (State.blk_of_fence ?_ _)
    exact (State.setB_fence ..).trans (State.setB_fence ..)
  · exact settled.clk.trans ((State.setB_clk ..).trans (State.setB_clk ..))
  · rw [settled.f_forge hf (by omega) hi, FieldsKept.setB _ _ _ _ (by simpa using h2), FieldsKept.setB _ _ _ _ (by simpa using h1)]
    exact State.f_congr (by rfl) x
  · rw [settled.reloadOf]
    unfold State.reloadOf
    rw [hfab]
    exact t.reloadOf_setReload f 0
  · refine (State.flag_congr (settled.f_forge hf ?_ ?_)).trans (State.flag_setB_self _ _ _ Nat.one_pos)
    all_goals
      simp only [R.FRG_MC_STATUS_QUARANTINE, Fld.base, Fld.words]
      omega
  · refine (State.flag_congr ((settled.f_forge hf ?_ ?_).trans (FieldsKept.setB _ _ _ _ ?_))).trans (State.flag_setB_self _ _ _ Nat.one_pos)
    · simp only [R.FRG_MC_STATUS_RELOADING, Fld.base]
      omega
    · simp only [R.FRG_MC_STATUS_RELOADING, Fld.base, Fld.words]
      omega
    · simp only [List.mem_singleton, forall_eq, Fld.apart, R.FRG_MC_STATUS_RELOADING, R.FRG_MC_STATUS_QUARANTINE, Fld.base, Fld.words, true_and]
      omega

theorem State.reloadStart_ends (t : State) (f : Nat) :
    CheckEnds t (t.reloadStart f) f ∧ (t.reloadStart f).reloadOf f = 15 ∧ (t.reloadStart f).flag (R.FRG_MC_STATUS_RELOADING f) = true ∧
      (t.reloadStart f).flag (R.FRG_MC_STATUS_QUARANTINE f) = t.flag (R.FRG_MC_STATUS_QUARANTINE f) := by
  unfold State.reloadStart
  refine ⟨⟨fun a => ?_, ?_, State.setB_clk .., fun x lo hi h1 h2 => ?_⟩, ?_, State.flag_setB_self _ _ _ Nat.one_pos, ?_⟩
  · rw [State.setReload_setB_anvN]
    exact .refl _
  · exact State.blk_of_fence (State.setB_fence ..) _
  · rw [FieldsKept.setB _ _ _ _ (by simpa using h1)]
    exact State.f_congr (by rfl) x
  · unfold State.reloadOf
    rw [State.setB_fab]
    exact t.reloadOf_setReload f 15
  · refine State.flag_congr ((FieldsKept.setB _ _ _ _ ?_).trans (State.f_congr (by rfl) _))
    simp only [List.mem_singleton, forall_eq, Fld.apart, R.FRG_MC_STATUS_RELOADING, R.FRG_MC_STATUS_QUARANTINE, Fld.base, Fld.words, true_and]
    omega

/-- What a machine check leaves, whichever way it ends. -/
theorem CheckEnds.outcome {t u : State} {kind uaddr : Nat} {b : Billet} (h : CheckEnds t u f) (ht : Checked s t f a (s.mcRecordWord f a kind uaddr b))
    (ha : a < 32) (hf : f < 32) (hk : kind < 4) (hu : uaddr < 8192) (hc : b.ctx < 3072) :
    (u.anvN f a).run = none ∧ (u.anvN f a).ttag = none ∧ u.blk (0x20 + f) = .offline ∧
      u.f (R.FRG_MC_STATUS_COUNT f) = min (s.f (R.FRG_MC_STATUS_COUNT f) + 1) 255 ∧ u.f (R.FRG_MC_STATUS_LAST_ANVIL f) = a ∧
      u.f (R.FRG_MC_LOG_ANVIL f) = a ∧ u.f (R.FRG_MC_LOG_KIND f) = kind ∧ u.f (R.FRG_MC_LOG_UADDR f) = uaddr ∧
      u.f (R.FRG_MC_LOG_CONTEXT f) = b.ctx := by
  obtain ⟨hA, hK, hU, hC⟩ := s.mcRecordWord_fields ha hf hk hu hc
  have both (x : Fld) (lo : 0x100034 + 0x4000 * f ≤ x.base) (hi : x.base + 4 * x.words ≤ 0x104000 + 0x4000 * f)
      (h1 : (R.FRG_MC_STATUS_RELOADING f).apart x) (h2 : (R.FRG_MC_STATUS_QUARANTINE f).apart x) :
      u.f x = (s.checkCounted f a (s.mcRecordWord f a kind uaddr b)).f x := (h.words x lo hi h1 h2).trans (ht.words x lo hi)
  have logged (lo wd : Nat) (hfit : lo + wd ≤ 256) :
      u.f ⟨0x100410 + 0x4000 * f, lo, wd⟩ = bitsOf (s.mcRecordWord f a kind uaddr b) lo wd := by
    refine (both _ ?_ ?_ (.inl ?_) (.inl ?_)).trans (s.f_checkCounted_log f a _ hfit)
    all_goals
      simp only [R.FRG_MC_STATUS_RELOADING, R.FRG_MC_STATUS_QUARANTINE, Fld.base, Fld.words]
      omega
  refine ⟨(h.anv a).run ht.run, (congrArg AnvSt.ttag (h.anv a).still).trans ht.ttag, h.blk.trans ht.blk,
    (both _ ?_ ?_ ?_ ?_).trans (s.f_checkCounted_count ..), (both _ ?_ ?_ ?_ ?_).trans (s.f_checkCounted_last _ _ ha),
    (logged 0 5 (by decide)).trans hA, (logged 10 2 (by decide)).trans hK, (logged 12 13 (by decide)).trans hU, (logged 64 12 (by decide)).trans hC⟩
  all_goals
    simp only [Fld.apart, R.FRG_MC_STATUS_COUNT, R.FRG_MC_STATUS_LAST_ANVIL, R.FRG_MC_STATUS_RELOADING, R.FRG_MC_STATUS_QUARANTINE, Fld.base,
      Fld.words, true_and]
    omega

end

end Sys2Proof.Machine
end

section
/-!
PROOF. The reload of a forge, slice by slice (spec/06_anvil_programming.md, R225; R221 for the parity of what is written). What `ok` stands
for in a step of a reload is log entry 74.
-/
namespace Sys2Proof.Machine

/-! ## The words that a reload writes -/

section
variable (s : State) (f : Nat)

/-- A microword, a dispatch entry and a kernel word read back when the store holds what the golden copy or the master gives. -/
theorem State.reloadSame_iff (i : Nat) : s.reloadSame f i = true ↔
    (i < 8192 → tget (fun _ => 0) s.fab.cs (8192 * f + i) = ucodeWord s.fab.golden i) ∧
    (8192 ≤ i → i < 8448 → tget (fun _ => 0) s.fab.dt (256 * f + (i - 8192)) = ucodeEntry s.fab.golden (i - 8192)) ∧
    (8448 ≤ i → tget ksDflt s.fab.ks (16384 * f + (i - 8448)) = ksWord (tget (fun _ => 0) s.fab.master (i - 8448))) := by
  unfold State.reloadSame
  by_cases h1 : i < 8192
  · rw [if_pos h1, beq_iff_eq]
    exact ⟨fun h => ⟨fun _ => h, fun h2 => absurd h1 (by omega), fun h2 => absurd h1 (by omega)⟩, fun h => h.1 h1⟩
  · rw [if_neg h1]
    by_cases h2 : i < 8448
    · rw [if_pos h2, beq_iff_eq]
      exact ⟨fun h => ⟨fun h3 => absurd h3 h1, fun _ _ => h, fun h3 => absurd h2 (by omega)⟩, fun h => h.2.1 (by omega) h2⟩
    · rw [if_neg h2, beq_iff_eq]
      exact ⟨fun h => ⟨fun h3 => absurd h3 h1, fun _ h3 => absurd h3 h2, fun _ => h⟩, fun h => h.2.2 (by omega)⟩

/-- One word of a store written. -/
def State.putCs (s : State) (k : Nat) (v : BitVec 41) : State := { s with fab := { s.fab with cs := tset (fun _ => 0) s.fab.cs k v } }
def State.putDt (s : State) (k : Nat) (v : BitVec 16) : State := { s with fab := { s.fab with dt := tset (fun _ => 0) s.fab.dt k v } }
def State.putKs (s : State) (k : Nat) (v : BitVec 33) : State := { s with fab := { s.fab with ks := tset ksDflt s.fab.ks k v } }

section
variable (k : Nat)

theorem State.putCs_reads (v : BitVec 41) : (s.putCs k v).fab.cs = tset (fun _ => 0) s.fab.cs k v ∧ (s.putCs k v).fab.dt = s.fab.dt ∧
    (s.putCs k v).fab.ks = s.fab.ks ∧ (s.putCs k v).fab.golden = s.fab.golden ∧ (s.putCs k v).fab.master = s.fab.master :=
  ⟨rfl, rfl, rfl, rfl, rfl⟩

theorem State.putDt_reads (v : BitVec 16) : (s.putDt k v).fab.cs = s.fab.cs ∧ (s.putDt k v).fab.dt = tset (fun _ => 0) s.fab.dt k v ∧
    (s.putDt k v).fab.ks = s.fab.ks ∧ (s.putDt k v).fab.golden = s.fab.golden ∧ (s.putDt k v).fab.master = s.fab.master :=
  ⟨rfl, rfl, rfl, rfl, rfl⟩

theorem State.putKs_reads (v : BitVec 33) : (s.putKs k v).fab.cs = s.fab.cs ∧ (s.putKs k v).fab.dt = s.fab.dt ∧
    (s.putKs k v).fab.ks = tset ksDflt s.fab.ks k v ∧ (s.putKs k v).fab.golden = s.fab.golden ∧ (s.putKs k v).fab.master = s.fab.master :=
  ⟨rfl, rfl, rfl, rfl, rfl⟩

end

theorem State.reloadWord_cs {i : Nat} (h : i < 8192) : s.reloadWord f i = s.putCs (8192 * f + i) (ucodeWord s.fab.golden i) := if_pos h

theorem State.reloadWord_dt {i : Nat} (h1 : 8192 ≤ i) (h2 : i < 8448) :
    s.reloadWord f i = s.putDt (256 * f + (i - 8192)) (ucodeEntry s.fab.golden (i - 8192)) :=
  (if_neg (by omega)).trans (if_pos h2)

theorem State.reloadWord_ks {i : Nat} (h : 8448 ≤ i) :
    s.reloadWord f i = s.putKs (16384 * f + (i - 8448)) (ksWord (tget (fun _ => 0) s.fab.master (i - 8448))) :=
  (if_neg (by omega)).trans (if_neg (by omega))

/-- Writing word `j` sets it right and leaves right what is right. -/
theorem State.reloadSame_reloadWord {i : Nat} (j : Nat) (h : i = j ∨ s.reloadSame f i = true) : (s.reloadWord f j).reloadSame f i = true := by
  rw [State.reloadSame_iff] at h ⊢
  rcases Nat.lt_or_ge j 8192 with h1 | h1
  · obtain ⟨ecs, edt, eks, eg, em⟩ := s.putCs_reads (8192 * f + j) (ucodeWord s.fab.golden j)
    rw [s.reloadWord_cs f h1, ecs, edt, eks, eg, em]
    refine ⟨fun hi => ?_, fun h3 => (h.resolve_left (by omega)).2.1 h3, fun h3 => (h.resolve_left (by omega)).2.2 h3⟩
    rw [tget_tset]
    split
    · rw [show i = j by omega]
    · exact (h.resolve_left (by omega)).1 hi
  rcases Nat.lt_or_ge j 8448 with h2 | h2
  · obtain ⟨ecs, edt, eks, eg, em⟩ := s.putDt_reads (256 * f + (j - 8192)) (ucodeEntry s.fab.golden (j - 8192))
    rw [s.reloadWord_dt f h1 h2, ecs, edt, eks, eg, em]
    refine ⟨fun hi => (h.resolve_left (by omega)).1 hi, fun h3 h4 => ?_, fun h3 => (h.resolve_left (by omega)).2.2 h3⟩
    rw [tget_tset]
    split
    · rw [show i = j by omega]
    · exact (h.resolve_left (by omega)).2.1 h3 h4
  · obtain ⟨ecs, edt, eks, eg, em⟩ := s.putKs_reads (16384 * f + (j - 8448)) (ksWord (tget (fun _ => 0) s.fab.master (j - 8448)))
    rw [s.reloadWord_ks f h2, ecs, edt, eks, eg, em]
    refine ⟨fun hi => (h.resolve_left (by omega)).1 hi, fun h3 h4 => (h.resolve_left (by omega)).2.1 h3 h4, fun h3 => ?_⟩
    rw [tget_tset]
    split
    · rw [show i = j by omega]
    · exact (h.resolve_left (by omega)).2.2 h3

theorem State.reloadWords_same (l : List Nat) : ∀ i ∈ l, (l.foldl (fun (t : State) i => t.reloadWord f i) s).reloadSame f i = true := by
  have mono (l : List Nat) (t : State) (i : Nat) (h : t.reloadSame f i = true) :
      (l.foldl (fun (t : State) i => t.reloadWord f i) t).reloadSame f i = true := by
    induction l generalizing t with
    | nil => exact h
    | cons j l ih => exact ih _ (t.reloadSame_reloadWord f j (.inr h))
  induction l generalizing s with
  | nil => simp
  | cons j l ih =>
    intro i hi
    rcases List.mem_cons.mp hi with rfl | hi
    · exact mono l _ _ (s.reloadSame_reloadWord f i (.inl rfl))
    · exact ih _ i hi

/-- A reload writes the stores alone. -/
theorem State.reloadWords_eq (l : List Nat) : ∃ cs dt ks,
    l.foldl (fun (t : State) i => t.reloadWord f i) s = { s with fab := { s.fab with cs := cs, dt := dt, ks := ks } } := by
  induction l generalizing s with
  | nil => exact ⟨_, _, _, rfl⟩
  | cons j l ih =>
    have one : ∃ cs dt ks, s.reloadWord f j = { s with fab := { s.fab with cs := cs, dt := dt, ks := ks } } := by
      unfold State.reloadWord
      split_ifs <;> exact ⟨_, _, _, rfl⟩
    obtain ⟨cs, dt, ks, h1⟩ := one
    obtain ⟨cs', dt', ks', h2⟩ := ih (s.reloadWord f j)
    refine ⟨cs', dt', ks', ?_⟩
    rw [List.foldl_cons, h2, h1]

theorem mem_sliceWords {i k : Nat} (h1 : 5120 * k ≤ i) (h2 : i < 5120 * (k + 1)) (h3 : i < 24832) : i ∈ sliceWords k :=
  List.mem_map.mpr ⟨i - 5120 * k, List.mem_range.mpr (by omega), by omega⟩

end

/-! ## The end of a reload, with no command waiting for it -/

section
variable {s : State} {f : Nat}

theorem State.reloadTell_idle (h : s.host.longs = []) (ok : Bool) : s.reloadTell f ok = s := by
  unfold State.reloadTell State.longOf
  simp only [h, List.filter_nil, List.foldl_nil, List.find?_nil]

/-- The results of a block reset stand in no word of a forge. -/
theorem bresetFlds_apart_forge {y : Fld} (hy : 0x100000 ≤ y.base) : ∀ x ∈ bresetFlds, x.apart y := by
  intro x hx
  refine .inl ?_
  have : x.base + 4 * x.words ≤ 0x100000 := by
    simp only [bresetFlds, List.mem_cons, List.not_mem_nil, or_false] at hx
    rcases hx with rfl | rfl
    · simp only [R.ID_BRESET_STATUS_BUSY, Fld.base, Fld.words]; omega
    · simp only [R.ID_BRESET_STATUS_RESULT, Fld.base, Fld.words]; omega
  omega

theorem State.bresetEnd_host (b status : Nat) : (s.bresetEnd b status).host = s.host := by
  rw [(FenceOnly.bresetEnd s b status).eq]

theorem State.bresetEnd_fab (b status : Nat) : (s.bresetEnd b status).fab = s.fab := by
  rw [(FenceOnly.bresetEnd s b status).eq]

theorem State.reloadEnd_idle (h : s.host.longs = []) :
    s.reloadEnd f true = ((s.setReload f 0).setDrain f 0).setB (R.FRG_MC_STATUS_RELOADING f) false ∧
    s.reloadEnd f false = ((((s.setReload f 0).setDrain f 0).setB (R.FRG_MC_STATUS_RELOADING f) false).setB
      (R.FRG_MC_STATUS_RELOAD_FAIL f) true).bresetEnd (0x20 + f) stMachineCheck := by
  have hset (x : Fld) (b : Bool) (t : State) : (t.setB x b).host = t.host := State.setB_host ..
  have h1 : (((s.setReload f 0).setDrain f 0).setB (R.FRG_MC_STATUS_RELOADING f) false).host.longs = [] := by rw [hset]; exact h
  refine ⟨State.reloadTell_idle h1 true, State.reloadTell_idle ?_ false⟩
  exact (congrArg HostSt.longs ((State.bresetEnd_host ..).trans (hset ..))).trans h1

/-! ## A slice -/

/-- Whether a slice with `n - 1` slices left passes its check. -/
def State.sliceGood (s : State) (f n : Nat) (ok : Bool) : Bool :=
  if n - 1 == 11 then ok && s.copiesOk
  else if n - 1 ≤ 5 then ok && (sliceWords (5 - (n - 1))).all (fun i => s.reloadSame f i)
  else true

/-- The words that a slice writes. -/
def sliceWrites (n : Nat) : List Nat := if 6 ≤ n - 1 && n - 1 ≤ 10 then sliceWords (10 - (n - 1)) else []

theorem State.forgeDrained_of_idle (hb : s.forgeBusy f = false) (hr : s.rackOf f = []) : s.forgeDrained f = true := by
  unfold State.forgeDrained
  rw [show tget (fun _ => []) s.fab.rack f = [] from hr]
  simpa [State.forgeBusy, State.anvN] using hb

/-- A slice of the reload of a drained forge that no command waits for. -/
theorem forgeReloadStep_eq {n : Nat} (ok : Bool) (hb : s.forgeBusy f = false) (hr : s.rackOf f = []) (hl : s.host.longs = [])
    (hn : s.reloadOf f = n) (h2 : 2 ≤ n) :
    forgeReloadStep f ok s =
      if s.sliceGood f n ok = false then s.reloadEnd f false
      else
        let t := ((sliceWrites n).foldl (fun (t : State) i => t.reloadWord f i) s).setReload f (n - 1)
        if 1 < n - 1 then t else ((((t.setDrain f 0).dropTags f).masterDir f).fenceLeave (0x20 + f)).reloadRun f := by
  unfold forgeReloadStep
  dsimp only
  rw [hn, State.forgeDrained_of_idle hb hr, if_neg (by simp; omega), if_neg (by simp; omega), hl]
  simp only [List.find?_nil]
  exact if_congr (Bool.not_eq_true' _).to_iff rfl rfl

theorem State.setReload_stores (t : State) (f v : Nat) : (t.setReload f v).fab.cs = t.fab.cs ∧ (t.setReload f v).fab.dt = t.fab.dt ∧
    (t.setReload f v).fab.ks = t.fab.ks ∧ (t.setReload f v).fab.golden = t.fab.golden ∧ (t.setReload f v).fab.master = t.fab.master :=
  ⟨rfl, rfl, rfl, rfl, rfl⟩

theorem State.reloadSame_setReload (t : State) (f v i : Nat) : (t.setReload f v).reloadSame f i = t.reloadSame f i := by
  obtain ⟨hcs, hdt, hks, hg, hm⟩ := t.setReload_stores f v
  unfold State.reloadSame
  rw [hcs, hdt, hks, hg, hm]

theorem State.sliceGood_of {n : Nat} (h12 : n = 12 → s.copiesOk = true) (h6 : n ≤ 6 → (sliceWords (6 - n)).all (fun i => s.reloadSame f i) = true)
    (h2 : 2 ≤ n) : s.sliceGood f n true = true := by
  unfold State.sliceGood
  by_cases hn : n = 12
  · rw [if_pos (by rw [hn]; rfl), h12 hn]
    rfl
  · rw [if_neg (by simp; omega)]
    by_cases hle : n ≤ 6
    · rw [if_pos (by omega), show 5 - (n - 1) = 6 - n by omega, h6 hle]
      rfl
    · rw [if_neg (by omega)]

theorem State.sliceGood_not {n : Nat} {ok : Bool} (h : (n = 12 ∧ (ok = false ∨ s.copiesOk = false)) ∨
    (2 ≤ n ∧ n ≤ 6 ∧ (ok = false ∨ (sliceWords (6 - n)).all (fun i => s.reloadSame f i) = false))) : s.sliceGood f n ok = false := by
  unfold State.sliceGood
  rcases h with ⟨rfl, h⟩ | ⟨h2, h6, h⟩
  · rw [if_pos (by decide), Bool.and_eq_false_iff]
    exact h
  · rw [if_neg (by simp; omega), if_pos (by omega), show 5 - (n - 1) = 6 - n by omega, Bool.and_eq_false_iff]
    exact h

section
variable {n : Nat} (hb : s.forgeBusy f = false) (hr : s.rackOf f = []) (hl : s.host.longs = []) (hn : s.reloadOf f = n)
include hb hr hl hn

/-- A slice that passes its check and is not the last writes its words and counts. -/
theorem forgeReloadStep_mid (h2 : 2 < n) (hgood : s.sliceGood f n true = true) :
    forgeReloadStep f true s = ((sliceWrites n).foldl (fun (t : State) i => t.reloadWord f i) s).setReload f (n - 1) := by
  rw [forgeReloadStep_eq true hb hr hl hn (by omega), if_neg (by simp [hgood])]
  exact if_pos (by omega)

theorem forgeReloadStep_mid_spec (h2 : 2 < n) (hgood : s.sliceGood f n true = true) :
    (forgeReloadStep f true s).reloadOf f = n - 1 ∧ (forgeReloadStep f true s).regs = s.regs ∧ (forgeReloadStep f true s).mem = s.mem ∧
    (forgeReloadStep f true s).fence = s.fence ∧ (forgeReloadStep f true s).fab.golden = s.fab.golden ∧
    (∀ i ∈ sliceWrites n, (forgeReloadStep f true s).reloadSame f i = true) ∧
    (sliceWrites n = [] → (forgeReloadStep f true s).fab.cs = s.fab.cs ∧ (forgeReloadStep f true s).fab.dt = s.fab.dt ∧
      (forgeReloadStep f true s).fab.ks = s.fab.ks) := by
  rw [forgeReloadStep_mid hb hr hl hn h2 hgood]
  refine ⟨State.reloadOf_setReload .., ?_, ?_, ?_, ?_, fun i hi => ?_, fun hnil => ?_⟩
  · obtain ⟨cs, dt, ks, he⟩ := s.reloadWords_eq f (sliceWrites n)
    rw [he]; rfl
  · obtain ⟨cs, dt, ks, he⟩ := s.reloadWords_eq f (sliceWrites n)
    rw [he]; rfl
  · obtain ⟨cs, dt, ks, he⟩ := s.reloadWords_eq f (sliceWrites n)
    rw [he]; rfl
  · obtain ⟨cs, dt, ks, he⟩ := s.reloadWords_eq f (sliceWrites n)
    rw [he]; rfl
  · rw [State.reloadSame_setReload]
    exact s.reloadWords_same f _ i hi
  · rw [hnil]
    exact ⟨rfl, rfl, rfl⟩

/-- A slice whose check fails ends the reload with RELOAD_FAIL. -/
theorem forgeReloadStep_fail {ok : Bool} (h2 : 2 ≤ n) (hbad : s.sliceGood f n ok = false) :
    let t := forgeReloadStep f ok s
    t.reloadOf f = 0 ∧ t.flag (R.FRG_MC_STATUS_RELOAD_FAIL f) = true ∧ t.flag (R.FRG_MC_STATUS_RELOADING f) = false ∧
      t.blk (0x20 + f) = s.blk (0x20 + f) ∧ t.fab.cs = s.fab.cs := by
  rw [forgeReloadStep_eq ok hb hr hl hn h2, if_pos hbad, (State.reloadEnd_idle hl).2]
  set r := (s.setReload f 0).setDrain f 0 with hr
  have fence := FenceOnly.bresetEnd ((r.setB (R.FRG_MC_STATUS_RELOADING f) false).setB (R.FRG_MC_STATUS_RELOAD_FAIL f) true) (0x20 + f) stMachineCheck
  have hfab : (((r.setB (R.FRG_MC_STATUS_RELOADING f) false).setB (R.FRG_MC_STATUS_RELOAD_FAIL f) true).bresetEnd (0x20 + f) stMachineCheck).fab = r.fab :=
    (State.bresetEnd_fab ..).trans ((State.setB_fab ..).trans (State.setB_fab ..))
  dsimp only
  refine ⟨?_, ?_, ?_, ?_, by rw [hfab]; rfl⟩
  · unfold State.reloadOf
    rw [hfab]
    exact s.reloadOf_setReload f 0
  · exact (State.flag_congr (fence.fields _ (bresetFlds_apart_forge (by simp only [R.FRG_MC_STATUS_RELOAD_FAIL, Fld.base]; omega)))).trans
      (State.flag_setB_self _ _ _ Nat.one_pos)
  · refine (State.flag_congr ((fence.fields _ (bresetFlds_apart_forge (by simp only [R.FRG_MC_STATUS_RELOADING, Fld.base]; omega))).trans
      (FieldsKept.setB _ _ _ _ ?_))).trans (State.flag_setB_self _ _ _ Nat.one_pos)
    simp only [List.mem_singleton, forall_eq, Fld.apart, R.FRG_MC_STATUS_RELOADING, R.FRG_MC_STATUS_RELOAD_FAIL, Fld.base, Fld.words, true_and]
    omega
  · obtain ⟨q, hq⟩ := State.bresetEnd_fence ((r.setB (R.FRG_MC_STATUS_RELOADING f) false).setB (R.FRG_MC_STATUS_RELOAD_FAIL f) true)
      (0x20 + f) stMachineCheck
    unfold State.blk
    rw [hq]
    simp only [State.setB_fence]
    rfl

end

/-! ## The last slice -/

/-- TTAG of every anvil of the forge becomes invalid, and nothing else changes. -/
theorem State.dropTags_spec (s : State) (f : Nat) :
    (∃ anv, s.dropTags f = { s with fab := { s.fab with anv := anv } }) ∧ ∀ a, a < 32 → ((s.dropTags f).anvN f a).ttag = none := by
  have step (l : List Nat) (t : State) : (∃ anv, l.foldl (fun (t : State) a => t.setAnv f a { t.anvN f a with ttag := none }) t =
      { t with fab := { t.fab with anv := anv } }) ∧
      ∀ a, a ∈ l ∨ (t.anvN f a).ttag = none →
        ((l.foldl (fun (t : State) a => t.setAnv f a { t.anvN f a with ttag := none }) t).anvN f a).ttag = none := by
    induction l generalizing t with
    | nil => exact ⟨⟨_, rfl⟩, fun a h => by simpa using h⟩
    | cons i l ih =>
      obtain ⟨⟨anv, he⟩, hno⟩ := ih (t.setAnv f i { t.anvN f i with ttag := none })
      refine ⟨⟨anv, he⟩, fun a ha => hno a ?_⟩
      by_cases hai : a = i
      · right
        rw [hai, State.anvN_setAnv]
      · refine ha.imp (fun h => (List.mem_cons.mp h).resolve_left hai) fun h => ?_
        rw [State.anvN_setAnv_if, if_neg (by omega)]
        exact h
  obtain ⟨heq, hno⟩ := step (List.range 32) s
  exact ⟨heq, fun a ha => hno a (.inl (List.mem_range.mpr ha))⟩

/-- The directory and the version are registers of the forge. -/
theorem State.masterDir_spec (s : State) (f : Nat) :
    (s.masterDir f).f (R.FRG_UCODE_ID f) = s.fab.ucode % 2 ^ 32 ∧ (s.masterDir f).fab = s.fab ∧ (s.masterDir f).fence = s.fence ∧
      (s.masterDir f).host = s.host ∧ WordsKept (fun a => 0x100000 ≤ a) s (s.masterDir f) := by
  have dir (w : Nat → Nat) (l : List Nat) (t : State) :
      (l.foldl (fun (t : State) j => t.setF (R.FRG_KDIR f j) (w j)) t).fab = t.fab ∧
      (l.foldl (fun (t : State) j => t.setF (R.FRG_KDIR f j) (w j)) t).fence = t.fence ∧
      (l.foldl (fun (t : State) j => t.setF (R.FRG_KDIR f j) (w j)) t).host = t.host ∧
      WordsKept (fun a => 0x100000 ≤ a) t (l.foldl (fun (t : State) j => t.setF (R.FRG_KDIR f j) (w j)) t) := by
    induction l generalizing t with
    | nil => exact ⟨rfl, rfl, rfl, .refl _ _⟩
    | cons j l ih =>
      obtain ⟨h1, h2, h3, h4⟩ := ih (t.setF (R.FRG_KDIR f j) (w j))
      refine ⟨h1.trans (State.setF_fab ..), h2.trans (State.setF_fence ..), h3.trans (State.setF_host ..), .trans (.setF t _ fun i _ => ?_) h4⟩
      simp only [R.FRG_KDIR, Fld.base]
      omega
  unfold State.masterDir
  extract_lets w
  obtain ⟨h1, h2, h3, h4⟩ := dir w (List.range 64) s
  refine ⟨State.f_setF_self .., (State.setF_fab ..).trans h1, (State.setF_fence ..).trans h2, (State.setF_host ..).trans h3,
    h4.trans (.setF _ _ fun i _ => ?_)⟩
  simp only [R.FRG_UCODE_ID, Fld.base]
  omega

theorem State.repliesOut_congr {s t : State} {b : Nat} (hb : b < 0x100) (hfence : t.fence = s.fence)
    (hw : WordsKept (fun a => 0x100000 ≤ a) s t) : t.repliesOut b = s.repliesOut b := by
  have he : t.epoch b = s.epoch b := hw.f_eq fun a h1 h2 h3 => by
    simp only [epochFld, Fld.base, Fld.words] at h1 h2
    omega
  unfold State.repliesOut
  rw [hfence, he]

/-- A forge whose replies are out runs again after the last slice of its reload, which then ends. -/
theorem forgeReloadStep_last (hf : f < 32) (hb : s.forgeBusy f = false) (hr : s.rackOf f = []) (hl : s.host.longs = []) (hn : s.reloadOf f = 2)
    (hout : s.repliesOut (0x20 + f) = false) (hgood : s.sliceGood f 2 true = true) :
    let t := forgeReloadStep f true s
    t.reloadOf f = 0 ∧ t.forgeUp f = true ∧ t.f (R.FRG_UCODE_ID f) = s.fab.ucode % 2 ^ 32 ∧
      t.flag (R.FRG_MC_STATUS_RELOADING f) = false ∧ ∀ a, a < 32 → (t.anvN f a).ttag = none := by
  rw [forgeReloadStep_eq true hb hr hl hn (le_refl 2), if_neg (by simp [hgood])]
  dsimp only
  rw [if_neg (by decide), show sliceWrites 2 = [] from rfl, List.foldl_nil]
  obtain ⟨⟨anv, hdrop⟩, htag⟩ := ((s.setReload f (2 - 1)).setDrain f 0).dropTags_spec f
  generalize ((s.setReload f (2 - 1)).setDrain f 0).dropTags f = d at hdrop htag ⊢
  have hwords : WordsKept (fun a => 0x100000 ≤ a) s d := .of_regs (by rw [hdrop]; rfl)
  have hfence : d.fence = s.fence := by rw [hdrop]; rfl
  have hhost : d.host = s.host := by rw [hdrop]; rfl
  have hucode : d.fab.ucode = s.fab.ucode := by rw [hdrop]; rfl
  obtain ⟨mid, mfab, mfence, mhost, mwords⟩ := d.masterDir_spec f
  generalize d.masterDir f = m at mid mfab mfence mhost mwords ⊢
  have mout : m.repliesOut (0x20 + f) = false := by
    rw [State.repliesOut_congr (by omega) (mfence.trans hfence) (hwords.trans mwords), hout]
  obtain ⟨runs, -, -, lfields, leq⟩ := m.fenceLeave_spec (0x20 + f)
  have lfab : (m.fenceLeave (0x20 + f)).fab = d.fab := by rw [leq]; exact mfab
  have lhost : (m.fenceLeave (0x20 + f)).host.longs = [] := by rw [leq]; exact (congrArg HostSt.longs (mhost.trans hhost)).trans hl
  have lrun := runs mout
  have lid : (m.fenceLeave (0x20 + f)).f (R.FRG_UCODE_ID f) = s.fab.ucode % 2 ^ 32 := by
    rw [lfields _ (bresetFlds_apart_forge (by simp only [R.FRG_UCODE_ID, Fld.base]; omega)), mid, hucode]
  generalize m.fenceLeave (0x20 + f) = l at lfab lhost lrun lid ⊢
  have hend : l.reloadRun f = ((l.setReload f 0).setDrain f 0).setB (R.FRG_MC_STATUS_RELOADING f) false := by
    rw [← (State.reloadEnd_idle lhost).1]
    exact if_pos (by unfold State.isRunning; rw [lrun]; rfl)
  rw [hend]
  refine ⟨?_, ?_, ?_, State.flag_setB_self _ _ _ Nat.one_pos, fun a ha => ?_⟩
  · unfold State.reloadOf
    rw [State.setB_fab]
    exact l.reloadOf_setReload f 0
  · unfold State.forgeUp State.isRunning
    rw [State.setB_fab, State.blk_of_fence (State.setB_fence ..)]
    rw [show ((l.setReload f 0).setDrain f 0).blk (0x20 + f) = .running from lrun,
      show tget (fun _ => 0) ((l.setReload f 0).setDrain f 0).fab.drain f = 0 from tget_tset_self (fun _ => 0) (l.setReload f 0).fab.drain f 0]
    rfl
  · rw [FieldsKept.setB _ _ _ _ (by
      simp only [List.mem_singleton, forall_eq, Fld.apart, R.FRG_MC_STATUS_RELOADING, R.FRG_UCODE_ID, Fld.base, Fld.words]
      omega)]
    exact (State.f_congr (by rfl) _).trans lid
  · rw [State.anvN_congr (State.setB_fab ..)]
    refine Eq.trans ?_ (htag a ha)
    rw [← State.anvN_congr lfab]
    rfl

end

end Sys2Proof.Machine
end

section
/-!
PROOF. Debug halts (spec/06_anvil_programming.md, R231, R233, R234): the host's writes of FRGf_DBG_HALT and FRGf_DBG_RELEASE, a halt at its
boundary, and the read of FRGf_DBG_SDATA.
-/
namespace Sys2Proof.Machine

/-! ## The words of the debug registers -/

/-- The three words of a forge's debug registers whose access does more than the word's own are plain words of the map. -/
theorem dbgSpec (f : Fin 32) :
    (∃ w, wordSpec (0x100500 + 0x4000 * f) = some w ∧ w.rwl = 0 ∧ w.half = 0) ∧
    (∃ w, wordSpec (0x100508 + 0x4000 * f) = some w ∧ w.rwl = 0 ∧ w.half = 0) ∧
    ∃ w, wordSpec (0x100A04 + 0x4000 * f) = some w ∧ w.half = 0 := by
  fin_cases f <;> exact ⟨⟨_, rfl, rfl, rfl⟩, ⟨_, rfl, rfl, rfl⟩, _, rfl, rfl⟩

section
variable {s : State} {pf : Fin 2} {off : Nat}

theorem writeOff_forge (h : 0x100000 ≤ off) : writeOff off = off := if_neg (by simp; omega)

/-- An unlocked word of a forge takes a write as the map says, and the write has its further effect. -/
theorem State.writeWord_forge (lo : 0x100000 ≤ off) (hi : off < 0x180000) {w : WordSpec} (hw : wordSpec off = some w) (hl : w.rwl = 0)
    (hcfg : s.cfgHolds off = false) (v : BitVec 32) : s.writeWord pf off v =
      (s.setWord off (mergeWord w 0 (s.setNow off) (s.word off) v)).wroteFabric off (s.word off).toNat v.toNat := by
  have ho := writeOff_forge lo
  have hspec : writeSpec off = some w := by simp [writeSpec, ho, hw]
  have hring : ¬ 0x601000 ≤ off := by omega
  have hfb : off ≠ 0x701000 := by omega
  have hhold : s.holdBits pf off w = 0 := by simp [State.holdBits, hl, ho, hcfg, hring, R.RS_FB_SEL, hfb]
  have hdrop : s.dropFlags off w = [] := by simp [State.dropFlags, hl, ho, hcfg]
  have heff : v &&& ~~~(0 : BitVec 32) ||| s.word off &&& 0 = v := by
    have all : v &&& 4294967295#32 = v := BitVec.and_allOnes
    simp [all]
  unfold State.writeWord
  rw [hspec]
  dsimp only
  rw [hhold, hdrop, ho, heff]
  unfold State.wrote
  rw [if_neg (by omega), if_neg (by omega), if_neg (by omega), if_pos (by omega)]
  rfl

/-- A host write of a word of a forge that meets no refusal notes its time, writes the word, and has its further effect. -/
theorem hostWrite_forge (lo : 0x100000 ≤ off) (hi : off < 0x180000) (hal : off % 4 = 0) {w : WordSpec} (hw : wordSpec off = some w)
    (hl : w.rwl = 0) (hhalf : w.half = 0) (h : s.Opens pf off) (v : BitVec 32) :
    ∃ u, WordWritten off s u ∧ hostWrite pf off v.toNat s = u.wroteFabric off (s.word off).toNat v.toNat := by
  obtain ⟨hreach, -, hcfg⟩ := h
  rw [writeOff_forge lo] at hcfg
  have hput := regWrite_word hreach hal v.toNat
  obtain ⟨-, -, hworld, hholds, hsec, hdom⟩ := hreach
  obtain ⟨l, ht⟩ := State.touch_lastUse hdom
  have hhalf1 : isHalf off 1 = false := by simp [isHalf, hw, hhalf]
  have hhalf2 : isHalf off 2 = false := by simp [isHalf, hw, hhalf]
  have hmsix : ¬ (0x608000 ≤ off ∧ off < 0x609000) := by omega
  refine ⟨_, ⟨rfl, ?_⟩, hput.trans (Eq.trans ?_ (State.writeWord_forge (s := s.used l) (pf := pf) lo hi hw hl hcfg v))⟩
  · exact (WordsKept.of_regs (s := s) (t := s.used l) rfl).trans (.setWord _ _ rfl)
  · rw [BitVec.ofNat_toNat, BitVec.setWidth_eq]
    simp [State.put4, hworld, hholds, hsec, ht, State.write4, hhalf1, hhalf2, hmsix]

theorem WordWritten.fab_mem {u : State} (h : WordWritten off s u) : u.fab = s.fab ∧ u.mem = s.mem := by
  rw [h.eq]
  exact ⟨rfl, rfl⟩

end

/-! ## Halt requests (R231, R234) -/

/-- The one bit set in a power of 2. -/
theorem setBits_two_pow (a : Fin 32) : setBits 32 (BitVec.ofNat 32 (2 ^ a.val)).toNat = [a.val] := by
  revert a
  decide

section
variable {s : State} {pf : Fin 2} {f a : Fin 32}

/-- A word written over and put back reads as before. -/
theorem WordWritten.putBack {u : State} {off : Nat} (h : WordWritten off s u) (y : Fld) :
    (u.setF ⟨off, 0, 32⟩ (s.word off).toNat).f y = s.f y := by
  refine State.f_of_words y fun b _ _ => ?_
  by_cases hb : b = off
  · subst hb
    have same : (u.setF ⟨b, 0, 32⟩ (s.word b).toNat).f ⟨b, 0, 32⟩ = s.f ⟨b, 0, 32⟩ := by
      rw [State.f_setF_self]
      have := (s.word b).isLt
      simp [State.f, State.wordsAt, Fld.words, Fld.base, bitsOf]
    have word (t : State) : t.f ⟨b, 0, 32⟩ = (t.word b).toNat := by
      have := (t.word b).isLt
      simp [State.f, State.wordsAt, Fld.words, Fld.base, bitsOf]
      omega
    rw [word, word] at same
    exact BitVec.eq_of_toNat_eq same
  · have rest : WordsKept (fun b => b = off) u (u.setF ⟨off, 0, 32⟩ (s.word off).toNat) :=
      .setF u _ fun i hi => by simp only [Fld.base, Fld.words] at hi ⊢; omega
    exact (rest b hb).trans (h.words b hb)

/-- A write of FRGf_DBG_HALT that names one anvil, which is not halted, is a halt request to it. -/
theorem debugHalt_request (h : s.Opens pf (0x100500 + 0x4000 * f)) (hh : s.anvHalted f a = false) :
    ∃ u : State, (∀ y, u.f y = s.f y) ∧ u.fab = s.fab ∧ u.mem = s.mem ∧
      exec (.debugHalt pf f (BitVec.ofNat 32 (2 ^ a.val))) s = .next (u.haltRequest f a) := by
  obtain ⟨⟨w, hw, hl, hhalf⟩, -, -⟩ := dbgSpec f
  have hf := f.isLt
  obtain ⟨u, hu, hwrite⟩ := hostWrite_forge (by omega) (by omega) (by omega) hw hl hhalf h (BitVec.ofNat 32 (2 ^ a.val))
  obtain ⟨hfab, hmem⟩ := hu.fab_mem
  have back := hu.putBack
  refine ⟨u.setF (R.FRG_DBG_HALT f) (s.word (0x100500 + 0x4000 * f)).toNat, back, (State.setF_fab ..).trans hfab,
    (State.setF_mem ..).trans hmem, congrArg Host.Outcome.next (hwrite.trans ?_)⟩
  have halted : (u.setF (R.FRG_DBG_HALT f) (s.word (0x100500 + 0x4000 * f)).toNat).anvHalted f a = false :=
    (State.flag_congr (back _)).trans hh
  have hf' : (0x100500 + 0x4000 * f.val - 0x100000) / 0x4000 = f := by omega
  have h500 : (0x100500 + 0x4000 * f.val) % 0x4000 = 0x500 := by omega
  unfold State.wroteFabric
  rw [hf', h500, if_neg (by simp; omega), if_neg (by simp; omega), if_neg (by omega), if_pos (by decide)]
  unfold dbgHaltWritten
  rw [setBits_two_pow, List.foldl_cons, List.foldl_nil, if_neg (by simp [halted])]

theorem haltBits_apart {i : Nat} (hi : i < 32) (hne : i ≠ a.val) :
    ∀ x ∈ [(R.FRG_DBG_HALT f).bit a, R.FRG_DBG_STATUS_RESULT f], x.apart ((R.FRG_DBG_HALT f).bit i) := by
  have ha := a.isLt
  simp only [List.mem_cons, List.not_mem_nil, or_false, forall_eq_or_imp, forall_eq, Fld.apart, Fld.bit, R.FRG_DBG_HALT,
    R.FRG_DBG_STATUS_RESULT, Fld.base, Fld.words]
  omega

theorem debugHalt_spec (h : s.Opens pf (0x100500 + 0x4000 * f)) (hh : s.anvHalted f a = false) :
    Ends (exec (.debugHalt pf f (BitVec.ofNat 32 (2 ^ a.val))) s) fun t =>
      ((s.anvN f a).pin = none → t.haltWaits f a = true ∧ t.f (R.FRG_DBG_STATUS_RESULT f) = 0) ∧
      ((s.anvN f a).pin ≠ none → t.haltWaits f a = s.haltWaits f a ∧ t.f (R.FRG_DBG_STATUS_RESULT f) = 0x22) ∧
      (∀ i, i < 32 → i ≠ a.val → t.haltWaits f i = s.haltWaits f i) ∧ t.fab = s.fab ∧ t.mem = s.mem := by
  obtain ⟨u, hfields, hfab, hmem, hexec⟩ := debugHalt_request h hh
  have hanv := State.anvN_congr hfab f a
  refine ⟨_, hexec, ?_⟩
  cases hpin : (s.anvN f a).pin with
  | none =>
    obtain ⟨waits, told, kept, heq⟩ := State.haltRequest_unpinned (t := u) (f := f) (a := a) (by rw [hanv, hpin])
    refine ⟨fun _ => ⟨waits, told⟩, fun hne => absurd rfl hne, fun i hi hne => ?_, ?_, ?_⟩
    · exact State.flag_congr ((kept _ (haltBits_apart hi hne)).trans (hfields _))
    · rw [heq]; exact hfab
    · rw [heq]; exact hmem
  | some p =>
    have hreq : u.haltRequest f a = u.setF (R.FRG_DBG_STATUS_RESULT f) stRefusedBusy := if_pos (by rw [hanv, hpin]; rfl)
    have kept (i : Nat) (hi : i < 32) : (u.haltRequest f a).haltWaits f i = s.haltWaits f i := by
      rw [hreq]
      refine State.flag_congr ((State.f_setF_apart _ _ _ _ ?_).trans (hfields _))
      simp only [Fld.apart, Fld.bit, R.FRG_DBG_HALT, R.FRG_DBG_STATUS_RESULT, Fld.base, Fld.words]
      omega
    refine ⟨nofun, fun _ => ⟨kept a a.isLt, by rw [hreq]; exact State.f_setF_self ..⟩, fun i hi _ => kept i hi, ?_, ?_⟩
    · rw [hreq, State.setF_fab, hfab]
    · rw [hreq, State.setF_mem, hmem]

end

/-! ## A halt at its boundary (R231) -/

section
variable {s : State} {f a : Nat}

/-- An anvil that gives its billet up runs none. -/
theorem State.giveUp_run (s : State) (f a : Nat) : ((s.giveUp f a).anvN f a).run = none := by
  unfold State.giveUp
  dsimp only
  split
  · assumption
  · next b hb =>
    have stopped := s.abandon_run f a
    generalize s.abandon f a = t at stopped ⊢
    have moved : Retires RetiredWord t (if (s.anvN f a).gone then (t.drainForge f).ctxSettle b.ctx
        else if (s.anvN f a).pin.isSome then (t.pinPop f a).drainForge f else (t.reissue b).drainForge f) :=
      .ite ((Retires.drainForge _ f).trans (Retires.ctxSettle _ _).settled)
        (.ite ((Retires.pinPop _ f a).trans (.drainForge _ f)) ((Retires.reissue _ _).trans (.drainForge _ f)))
    exact (moved.anv f a).run stopped

/-- A halted anvil before it gives its billet up: the request is answered, and the anvil halted. -/
def State.haltNoted (s : State) (f a ctx : Nat) : State :=
  let t := (s.setB ((R.FRG_DBG_HALT f).bit a) false).setB ((R.FRG_DBG_HALTED f).bit a) true
  t.setAnv f a { t.anvN f a with haltCtx := ctx, probe := 0 }

theorem haltApplied_eq (hwait : s.haltWaits f a = true) (hrep : (s.anvN f a).rep = 0) (hmove : (s.anvN f a).move = none)
    (hcopy : (s.anvN f a).copying = false) : ∃ ctx, haltApplied f a s = (s.haltNoted f a ctx).giveUp f a := by
  unfold haltApplied
  dsimp only
  rw [if_neg (by simp [hwait, hrep, hmove, hcopy])]
  exact ⟨_, rfl⟩

theorem State.haltNoted_bits (s : State) (f a ctx : Nat) :
    (s.haltNoted f a ctx).haltWaits f a = false ∧ (s.haltNoted f a ctx).anvHalted f a = true := by
  unfold State.haltNoted
  dsimp only
  refine ⟨(State.flag_congr (State.f_setAnv ..)).trans ((State.flag_congr (FieldsKept.setB _ _ _ _ ?_)).trans (State.flag_setB_self _ _ _ Nat.one_pos)),
    (State.flag_congr (State.f_setAnv ..)).trans (State.flag_setB_self _ _ _ Nat.one_pos)⟩
  simp only [List.mem_singleton, forall_eq, Fld.apart, Fld.bit, R.FRG_DBG_HALT, R.FRG_DBG_HALTED, Fld.base, Fld.words]
  omega

theorem State.haltNoted_anvN (s : State) (f a ctx : Nat) :
    (s.haltNoted f a ctx).anvN f a = { s.anvN f a with haltCtx := ctx, probe := 0 } := by
  unfold State.haltNoted
  dsimp only
  rw [State.anvN_setAnv, State.anvN_congr ((State.setB_fab ..).trans (State.setB_fab ..))]

theorem haltApplied_spec (hf : f < 32) (ha : a < 32) (hwait : s.haltWaits f a = true) (hrep : (s.anvN f a).rep = 0)
    (hmove : (s.anvN f a).move = none) (hcopy : (s.anvN f a).copying = false) :
    let t := haltApplied f a s
    t.haltWaits f a = false ∧ t.anvHalted f a = true ∧ (t.anvN f a).run = none ∧ (t.anvN f a).v = (s.anvN f a).v ∧
      (t.anvN f a).sr = (s.anvN f a).sr ∧ (t.anvN f a).scratch = (s.anvN f a).scratch ∧ t.anvReady f a = false := by
  obtain ⟨ctx, heq⟩ := haltApplied_eq hwait hrep hmove hcopy
  rw [heq]
  obtain ⟨waits, halted⟩ := s.haltNoted_bits f a ctx
  have hanv := s.haltNoted_anvN f a ctx
  generalize s.haltNoted f a ctx = u at waits halted hanv ⊢
  have retires := Retires.giveUp u f a
  have parts : ((u.giveUp f a).anvN f a).still = ({ s.anvN f a with haltCtx := ctx, probe := 0 } : AnvSt).still :=
    (retires.anv f a).still.trans (congrArg AnvSt.still hanv)
  have bit (x : Fld) (hx : x.off = 0x100500 + 0x4000 * f ∨ x.off = 0x100504 + 0x4000 * f) (hlo : x.lo = a) (hwd : x.wd = 1) :
      (u.giveUp f a).flag x = u.flag x := State.flag_congr (retires.f_forge_lost hf
        (by simp only [Fld.base, hlo]; omega) (by simp only [Fld.base, Fld.words, hlo, hwd]; omega))
  have halted' : (u.giveUp f a).anvHalted f a = true :=
    (bit ((R.FRG_DBG_HALTED f).bit a) (.inr rfl) (Nat.zero_add a) rfl).trans halted
  refine ⟨(bit ((R.FRG_DBG_HALT f).bit a) (.inl rfl) (Nat.zero_add a) rfl).trans waits, halted', u.giveUp_run f a, ?_, ?_, ?_, ?_⟩
  · simpa only [AnvSt.still] using congrArg AnvSt.v parts
  · simpa only [AnvSt.still] using congrArg AnvSt.sr parts
  · simpa only [AnvSt.still] using congrArg AnvSt.scratch parts
  · unfold State.anvReady
    simp [halted']

end

/-! ## The release (R231) -/

section
variable {s : State} {pf : Fin 2} {f a : Fin 32}

/-- The write of FRGf_DBG_RELEASE that names one halted anvil. -/
theorem debugRelease_eq (h : s.Opens pf (0x100508 + 0x4000 * f)) (hh : s.anvHalted f a = true) :
    ∃ u : State, (∀ i, i < 32 → u.anvHalted f i = s.anvHalted f i) ∧ u.fab = s.fab ∧
      exec (.debugRelease pf f (BitVec.ofNat 32 (2 ^ a.val))) s = .next
        ((u.setB ((R.FRG_DBG_HALTED f).bit a) false).setAnv f a { u.anvN f a with ttag := none, haltCtx := 0 }) := by
  obtain ⟨-, ⟨w, hw, hl, hhalf⟩, -⟩ := dbgSpec f
  have hf := f.isLt
  obtain ⟨u, hu, hwrite⟩ := hostWrite_forge (by omega) (by omega) (by omega) hw hl hhalf h (BitVec.ofNat 32 (2 ^ a.val))
  have halted (i : Nat) (hi : i < 32) : (u.setF (R.FRG_DBG_RELEASE f) 0).anvHalted f i = s.anvHalted f i := by
    refine State.flag_congr ((State.f_setF_apart _ _ _ _ ?_).trans (hu.f_eq _ ?_)) <;>
      simp only [Fld.apart, Fld.bit, R.FRG_DBG_HALTED, R.FRG_DBG_RELEASE, Fld.base, Fld.words] <;> omega
  refine ⟨_, halted, (State.setF_fab ..).trans hu.fab_mem.1, congrArg Host.Outcome.next (hwrite.trans ?_)⟩
  have hf' : (0x100508 + 0x4000 * f.val - 0x100000) / 0x4000 = f := by omega
  have h508 : (0x100508 + 0x4000 * f.val) % 0x4000 = 0x508 := by omega
  unfold State.wroteFabric
  rw [hf', h508, if_neg (by simp; omega), if_neg (by simp; omega), if_neg (by omega), if_neg (by decide), if_pos (by decide)]
  unfold dbgReleaseWritten
  rw [setBits_two_pow, List.foldl_cons, List.foldl_nil, if_neg (by simp [halted a a.isLt, hh])]

theorem debugRelease_spec (h : s.Opens pf (0x100508 + 0x4000 * f)) (hh : s.anvHalted f a = true) :
    Ends (exec (.debugRelease pf f (BitVec.ofNat 32 (2 ^ a.val))) s) fun t =>
      t.anvHalted f a = false ∧ (t.anvN f a).ttag = none ∧ (t.anvN f a).scratch = (s.anvN f a).scratch ∧
      (∀ i, i < 32 → i ≠ a.val → t.anvHalted f i = s.anvHalted f i ∧ t.anvN f i = s.anvN f i) := by
  obtain ⟨u, halted, hfab, hexec⟩ := debugRelease_eq h hh
  refine ⟨_, hexec, (State.flag_congr (State.f_setAnv ..)).trans (State.flag_setB_self _ _ _ Nat.one_pos), ?_, ?_, fun i hi hne => ⟨?_, ?_⟩⟩
  · rw [State.anvN_setAnv]
  · rw [State.anvN_setAnv, State.anvN_congr hfab]
  · refine (State.flag_congr ((State.f_setAnv ..).trans (FieldsKept.setB _ _ _ _ ?_))).trans (halted i hi)
    have ha := a.isLt
    simp only [List.mem_singleton, forall_eq, Fld.apart, Fld.bit, R.FRG_DBG_HALTED, Fld.base, Fld.words]
    omega
  · rw [State.anvN_setAnv_if, if_neg (by omega), State.anvN_congr ((State.setB_fab ..).trans hfab)]

end

/-! ## The read of a scratch word (R233) -/

section
variable {s : State} {pf : Fin 2} {f : Fin 32}

theorem State.dbgSdata_eq (t : State) (f : Nat) : t.dbgSdata f =
    (t.setF (R.FRG_DBG_SADDR_ADDR f) ((t.f (R.FRG_DBG_SADDR_ADDR f) + 1) % 2 ^ 14),
      if t.anvHalted f (t.f (R.FRG_DBG_SEL_ANVIL f)) then leNat ((t.anvN f (t.f (R.FRG_DBG_SEL_ANVIL f))).bytes (4 * t.f (R.FRG_DBG_SADDR_ADDR f)) 4)
      else 0) := rfl

/-- The read of FRGf_DBG_SDATA answers the scratch word and moves the address on. -/
theorem dbgSdataRead_eq (h : s.Opens pf (0x100A04 + 0x4000 * f)) : ∃ p, exec (.dbgSdataRead pf f) s = .next
    ((State.dbgSdata { s with pwr := p } f).1.emit (.readReply pf (0x100A04 + 0x4000 * f) 4 (State.dbgSdata { s with pwr := p } f).2)) := by
  obtain ⟨hreach, -, -⟩ := h
  obtain ⟨-, -, w, hw, hhalf⟩ := dbgSpec f
  obtain ⟨p, hserve⟩ := State.serveRead_four hreach rfl
  have hf := f.isLt
  have word : State.read4 { s with pwr := p } pf (0x100A04 + 0x4000 * f) = State.dbgSdata { s with pwr := p } f := by
    have hf' : (0x100A04 + 0x4000 * f.val - 0x100000) / 0x4000 = f := by omega
    have hA04 : (0x100A04 + 0x4000 * f.val) % 0x4000 = 0xA04 := by omega
    unfold State.read4 isHalf
    rw [hw]
    simp only [hhalf]
    rw [if_neg (by decide), if_neg (by decide)]
    unfold State.readWord
    rw [if_neg (by simp; omega), if_neg (by simp; omega), if_pos (by rw [hA04]; simp; omega), hf']
  refine ⟨p, congrArg Host.Outcome.next ((regRead_word hreach (by omega)).trans (hserve.trans ?_))⟩
  rw [word]

theorem dbgSdataRead_spec (h : s.Opens pf (0x100A04 + 0x4000 * f)) (hoff : s.hostOff = false) :
    let a := s.f (R.FRG_DBG_SEL_ANVIL f)
    let w := s.f (R.FRG_DBG_SADDR_ADDR f)
    Ends (exec (.dbgSdataRead pf f) s) fun t =>
      t.out = s.out ++ [.readReply pf (0x100A04 + 0x4000 * f) 4 (if s.anvHalted f a then leNat ((s.anvN f a).bytes (4 * w) 4) else 0)] ∧
      t.f (R.FRG_DBG_SADDR_ADDR f) = (w + 1) % 2 ^ 14 ∧ FieldsKept [R.FRG_DBG_SADDR_ADDR f] s t ∧ t.fab = s.fab ∧ t.mem = s.mem := by
  obtain ⟨p, hexec⟩ := dbgSdataRead_eq h
  have field (y : Fld) : ({ s with pwr := p } : State).f y = s.f y := State.f_congr (by rfl) y
  have halted (a : Nat) : ({ s with pwr := p } : State).anvHalted f a = s.anvHalted f a := State.flag_congr (field _)
  have anv (a : Nat) : ({ s with pwr := p } : State).anvN f a = s.anvN f a := State.anvN_congr (by rfl) f a
  have heard : ({ s with pwr := p } : State).hostOff = false := (State.hostOff_congr (by rfl)).trans hoff
  have hout : ({ s with pwr := p } : State).out = s.out := rfl
  have hfab : ({ s with pwr := p } : State).fab = s.fab := rfl
  have hmem : ({ s with pwr := p } : State).mem = s.mem := rfl
  generalize ({ s with pwr := p } : State) = t at hexec field halted anv heard hout hfab hmem
  rw [State.dbgSdata_eq, State.emit_readReply ((State.hostOff_congr (State.setF_fence ..)).trans heard)] at hexec
  refine ⟨_, hexec, ?_, ?_, ?_, (State.setF_fab ..).trans hfab, (State.setF_mem ..).trans hmem⟩
  · rw [State.setF_out, hout, field, field, halted, anv]
  · have stored : (t.setF (R.FRG_DBG_SADDR_ADDR f) ((t.f (R.FRG_DBG_SADDR_ADDR f) + 1) % 2 ^ 14)).f (R.FRG_DBG_SADDR_ADDR f) =
        (s.f (R.FRG_DBG_SADDR_ADDR f) + 1) % 2 ^ 14 := by
      rw [State.f_setF_self, field]
      exact Nat.mod_mod _ _
    exact (State.f_congr (by rfl) _).trans stored
  · exact fun y hy => (State.f_congr (by rfl) y).trans ((FieldsKept.setF t _ _ y hy).trans (field y))

end

end Sys2Proof.Machine
end

section
/-!
PROOF. The machine check and the slices of a reload put together (spec/06_anvil_programming.md, R225 to R230).
-/
namespace Sys2Proof.Machine

/-! ## A machine check -/

section
variable {s : State} {f a : Nat} {kind uaddr : Nat} {b : Billet}

theorem CheckEnds.refl (t : State) (f : Nat) : CheckEnds t t f := ⟨fun _ => .refl _, rfl, rfl, fun _ _ _ _ _ => rfl⟩

theorem Checked.quarantine {t : State} {rec_ : Nat} (h : Checked s t f a rec_) :
    t.flag (R.FRG_MC_STATUS_QUARANTINE f) = s.flag (R.FRG_MC_STATUS_QUARANTINE f) := by
  refine State.flag_congr ((h.words _ ?_ ?_).trans (s.f_checkCounted_quarantine f a rec_))
  all_goals
    simp only [R.FRG_MC_STATUS_QUARANTINE, Fld.base, Fld.words]
    omega

/-- A machine check on a forge in service without pinned anvils: what it leaves always, after a third check within 10 s, and else. -/
theorem State.checkAnvil_spec (ran : Bool) (hf : f < 32) (ha : a < 32) (hk : kind < 4) (hu : uaddr < 8192) (hrun : (s.anvN f a).run = some b)
    (hc : b.ctx < 3072) (hpin : ∀ i, (s.anvN f i).pin = none) (hup : s.forgeUp f = true) :
    let t := s.checkAnvil f a kind uaddr ran
    ((t.anvN f a).run = none ∧ (t.anvN f a).ttag = none ∧ t.blk (0x20 + f) = .offline ∧
      t.f (R.FRG_MC_STATUS_COUNT f) = min (s.f (R.FRG_MC_STATUS_COUNT f) + 1) 255 ∧ t.f (R.FRG_MC_STATUS_LAST_ANVIL f) = a ∧
      t.f (R.FRG_MC_LOG_ANVIL f) = a ∧ t.f (R.FRG_MC_LOG_KIND f) = kind ∧ t.f (R.FRG_MC_LOG_UADDR f) = uaddr ∧
      t.f (R.FRG_MC_LOG_CONTEXT f) = b.ctx) ∧
    (2 ≤ (s.nearChecks f).length → t.flag (R.FRG_MC_STATUS_QUARANTINE f) = true ∧ t.flag (R.FRG_MC_STATUS_RELOADING f) = false ∧ t.reloadOf f = 0) ∧
    ((s.nearChecks f).length < 2 → s.reloadOf f = 0 → t.flag (R.FRG_MC_STATUS_RELOADING f) = true ∧ t.reloadOf f = 15 ∧
      t.flag (R.FRG_MC_STATUS_QUARANTINE f) = s.flag (R.FRG_MC_STATUS_QUARANTINE f)) ∧ t.clk = s.clk := by
  have eq := State.checkAnvil_eq kind uaddr ran hf hrun hpin hup
  have checked := s.afterCheck_checked a (s.mcRecordWord f a kind uaddr b) uaddr ran b hf
  dsimp only at eq ⊢
  rw [eq]
  generalize s.afterCheck f a (s.mcRecordWord f a kind uaddr b) uaddr ran b = t at checked ⊢
  split
  · next hnear =>
    obtain ⟨ends, count, quarantined, still⟩ := t.quarantine_ends hf
    exact ⟨ends.outcome checked ha hf hk hu hc, fun _ => ⟨quarantined, still, count⟩, fun h => absurd hnear (by omega),
      ends.clk.trans checked.clk⟩
  next hnear =>
  split
  · next hidle =>
    obtain ⟨ends, count, reloading, kept⟩ := t.reloadStart_ends f
    exact ⟨ends.outcome checked ha hf hk hu hc, fun h => absurd h hnear, fun _ _ => ⟨reloading, count, kept.trans checked.quarantine⟩,
      ends.clk.trans checked.clk⟩
  · next hbusy =>
    refine ⟨(CheckEnds.refl t f).outcome checked ha hf hk hu hc, fun h => absurd h hnear, fun _ hzero => absurd ?_ hbusy, checked.clk⟩
    rw [checked.reload, hzero]
    rfl

end

/-! ## The slices of a reload -/

section
variable {s : State} {f n : Nat}

/-- The slices 4 to 8 write, and no other does. -/
theorem sliceWrites_of_mid (h7 : 7 ≤ n) (h11 : n ≤ 11) : sliceWrites n = sliceWords (11 - n) := by
  unfold sliceWrites
  rw [if_pos (by simp; omega), show 10 - (n - 1) = 11 - n by omega]

theorem sliceWrites_nil (h : 12 ≤ n ∨ n ≤ 6) : sliceWrites n = [] := if_neg (by simp; omega)

theorem forgeReloadStep_slice (hb : s.forgeBusy f = false) (hr : s.rackOf f = []) (hl : s.host.longs = []) (hn : s.reloadOf f = n)
    (h2 : 2 < n) (h12 : n = 12 → s.copiesOk = true) (h6 : n ≤ 6 → (sliceWords (6 - n)).all (fun i => s.reloadSame f i) = true) :
    let t := forgeReloadStep f true s
    t.reloadOf f = n - 1 ∧ t.regs = s.regs ∧ t.mem = s.mem ∧ t.fence = s.fence ∧
      (7 ≤ n → n ≤ 11 → ∀ i, 5120 * (11 - n) ≤ i → i < 5120 * (12 - n) → i < 8192 →
        tget (fun _ => 0) t.fab.cs (8192 * f + i) = ucodeWord s.fab.golden i) ∧
      (7 ≤ n → n ≤ 11 → ∀ i ∈ sliceWords (11 - n), t.reloadSame f i = true) ∧
      ((12 ≤ n ∨ n ≤ 6) → t.fab.cs = s.fab.cs ∧ t.fab.dt = s.fab.dt ∧ t.fab.ks = s.fab.ks) := by
  obtain ⟨count, regs, mem, fence, golden, same, stores⟩ :=
    forgeReloadStep_mid_spec hb hr hl hn h2 (State.sliceGood_of h12 h6 (by omega))
  have written (h7 : 7 ≤ n) (h11 : n ≤ 11) : ∀ i ∈ sliceWords (11 - n), (forgeReloadStep f true s).reloadSame f i = true :=
    fun i hi => same i (by rwa [sliceWrites_of_mid h7 h11])
  refine ⟨count, regs, mem, fence, fun h7 h11 i h1 h3 h4 => ?_, written, fun h => stores (sliceWrites_nil h)⟩
  have hi := written h7 h11 i (mem_sliceWords h1 (by omega) (by omega))
  rw [← golden]
  exact ((State.reloadSame_iff _ f i).mp hi).1 h4

end

end Sys2Proof.Machine

open Sys2Proof Sys2Proof.Machine

/-- Settles O38: by the equations of a machine check and of a slice, the frame of what billets' loss may change, and the accesses to the debug
registers. That the 10 s run on elapsed time is log entry 146, and what `ok` of a reload's step stands for is log entry 74, both the model's
choices. -/
theorem forgeService : Obligations.ForgeService := by
  unfold Obligations.ForgeService
  refine ⟨fun f a kind u s b hrun hc _ hpin hup => ?check, fun f s n hb hr hl hn => ⟨fun h2 _ h12 h6 => ?slice, fun h2 hout hsame => ?last,
    fun ok hbad => ?fails⟩, fun pf f a s h hh => debugHalt_spec h hh, fun f a s hwait hrep hmove hcopy _ => ?halt,
    fun pf f a s h hh => debugRelease_spec h hh, fun pf f s h hoff => dbgSdataRead_spec h hoff⟩
  case check =>
    obtain ⟨⟨hrun', httag, hblk, hcount, hlast, hA, hK, hU, hC⟩, hthird, hless, hclk⟩ :=
      State.checkAnvil_spec ((kind.val == 0 || kind.val == 3) && _) f.isLt a.isLt kind.isLt u.isLt hrun hc hpin hup
    exact ⟨_, rfl, hrun', httag, hblk, hcount, hlast, hA, hK, hU, hC, hthird, hless, hclk⟩
  case slice => exact ⟨_, rfl, forgeReloadStep_slice hb hr hl hn h2 h12 h6⟩
  case last =>
    subst h2
    exact ⟨_, rfl, forgeReloadStep_last f.isLt hb hr hl hn hout (State.sliceGood_of nofun (fun _ => hsame) (le_refl 2))⟩
  case fails =>
    exact ⟨_, rfl, forgeReloadStep_fail hb hr hl hn (by rcases hbad with ⟨rfl, -⟩ | ⟨h, -⟩ <;> omega) (State.sliceGood_not hbad)⟩
  case halt => exact ⟨_, rfl, haltApplied_spec f.isLt a.isLt hwait hrep hmove hcopy⟩
end

section
/-!
PROOF. The start of a command of either world: its fetch, its completion entry, and its place among the long commands
(spec/12_host_interface_and_commands.md, R429, R433, R434).
-/
namespace Sys2Proof.Machine

/-! ## What a completion entry writes and keeps -/

section
variable {s : State} {k : Nat}

/-- The fields of ring `k` that a completion entry may write. -/
def cplFlds (k : Nat) : List Fld := [R.HI_RING_CPTR_CTAIL k, R.HI_RING_CPTR_PHASE k, R.HI_RING_STATUS_CPL_FULL k]

theorem State.raise_spec (s : State) (fn vec : Nat) :
    (∃ post, (s.raise fn vec).out = s.out ++ post) ∧ (s.raise fn vec).regs = s.regs ∧ (s.raise fn vec).host.longs = s.host.longs := by
  unfold State.raise State.emit
  split_ifs
  · exact ⟨⟨[], (List.append_nil _).symm⟩, rfl, rfl⟩
  · exact ⟨⟨[], (List.append_nil _).symm⟩, rfl, rfl⟩
  · exact ⟨⟨[_], rfl⟩, rfl, rfl⟩

theorem State.emit_hostWrite (h : s.hostOff = false) (a : Nat) (bs : List (BitVec 8)) :
    s.emit (.hostWrite a bs) = { s with out := s.out ++ [.hostWrite a bs] } := if_neg (ne_true_of_eq_false h)

theorem FieldsKept.mem_cplFlds {t : State} {x : Fld} (hx : x ∈ cplFlds k) (h : FieldsKept [x] s t) : FieldsKept (cplFlds k) s t :=
  h.mono fun y hy => by rw [List.mem_singleton.mp hy]; exact hx

theorem State.writeCpl_keeps (s : State) (k : Nat) (w : WaitCpl) :
    FieldsKept (cplFlds k) s (s.writeCpl k w) ∧ (s.writeCpl k w).host.longs = s.host.longs := by
  have written (a b : Msg) (v p : Nat) :
      FieldsKept (cplFlds k) s ((((s.emit a).emit b).setF (R.HI_RING_CPTR_CTAIL k) v).setF (R.HI_RING_CPTR_PHASE k) p) := by
    have told : FieldsKept [] s ((s.emit a).emit b) := .of_regs ((State.emit_regs ..).trans (State.emit_regs ..))
    exact ((told.trans (.setF _ (R.HI_RING_CPTR_CTAIL k) v)).trans (.setF _ (R.HI_RING_CPTR_PHASE k) p)).mono
      (by simp [cplFlds])
  unfold State.writeCpl
  dsimp only
  split
  · obtain ⟨-, regs, longs⟩ := State.raise_spec
      (((((s.emit _).emit _).setF (R.HI_RING_CPTR_CTAIL k) _).setF (R.HI_RING_CPTR_PHASE k) _)) _ _
    exact ⟨fun y hy => (State.f_congr regs y).trans (written _ _ _ _ y hy), longs.trans (by simp)⟩
  · exact ⟨written _ _ _ _, by simp⟩

theorem State.complete_keeps (s : State) (k : Nat) (tag : BitVec 16) (irq : Bool) (status steps result : Nat) :
    FieldsKept (cplFlds k) s (s.complete k tag irq status steps result) ∧ (s.complete k tag irq status steps result).host.longs = s.host.longs := by
  unfold State.complete
  dsimp only
  split_ifs
  · exact ⟨fun _ _ => rfl, rfl⟩
  · exact ⟨fun _ _ => rfl, rfl⟩
  · refine ⟨.mem_cplFlds (x := R.HI_RING_STATUS_CPL_FULL k) (by simp [cplFlds]) fun y hy => (FieldsKept.setB _ _ _ y hy).trans ?_, by simp⟩
    exact State.f_congr (by rfl) y
  · exact s.writeCpl_keeps k _

theorem cplFlds_apart_head (k : Nat) : ∀ x ∈ cplFlds k, x.apart (R.HI_RING_PTR_HEAD k) := by
  simp only [cplFlds, List.mem_cons, List.not_mem_nil, or_false, forall_eq_or_imp, forall_eq, Fld.apart, R.HI_RING_CPTR_CTAIL,
    R.HI_RING_CPTR_PHASE, R.HI_RING_STATUS_CPL_FULL, R.HI_RING_PTR_HEAD, Fld.base, Fld.words]
  omega

theorem cplFlds_apart_work (k : Nat) : ∀ x ∈ cplFlds k, x.apart R.HI_WORK_LONG := by
  simp only [cplFlds, List.mem_cons, List.not_mem_nil, or_false, forall_eq_or_imp, forall_eq, Fld.apart, R.HI_RING_CPTR_CTAIL,
    R.HI_RING_CPTR_PHASE, R.HI_RING_STATUS_CPL_FULL, R.HI_WORK_LONG, Fld.base, Fld.words]
  omega

/-- A completion entry of a running ring with room leaves as its two posted writes (R429, Table 12-3). -/
theorem State.complete_out (tag : BitVec 16) (irq : Bool) (status result : Nat) (hrun : s.f (R.HI_RING_STATUS_STATE k) = ringRunning)
    (hfull : s.cplFull k = false) (hwait : ∀ w ∈ s.host.waiting, w.ring ≠ k) (hoff : s.hostOff = false) :
    ∃ post, (s.complete k tag irq status 1 result).out = s.out ++ [] ++
      [.hostWrite (s.f (R.HI_RING_CBASE k) + 16 * s.f (R.HI_RING_CPTR_CTAIL k) + 4)
         (leBytes 2 1 ++ leBytes 2 (s.f (R.HI_RING_PTR_HEAD k)) ++ leBytes 8 result),
       .hostWrite (s.f (R.HI_RING_CBASE k) + 16 * s.f (R.HI_RING_CPTR_CTAIL k))
         (leBytes 2 tag.toNat ++ leBytes 1 status ++ leBytes 1 (s.f (R.HI_RING_CPTR_PHASE k)))] ++ post := by
  have free : (s.host.waiting.any fun x => x.ring == k) = false := by simpa using hwait
  have sent (a b : Nat) (x y : List (BitVec 8)) (v p : Nat) :
      (((s.emit (.hostWrite a x)).emit (.hostWrite b y)).setF (R.HI_RING_CPTR_CTAIL k) v |>.setF (R.HI_RING_CPTR_PHASE k) p).out =
        s.out ++ [] ++ [.hostWrite a x, .hostWrite b y] := by
    rw [State.setF_out, State.setF_out, State.emit_hostWrite ((State.hostOff_congr (State.emit_fence ..)).trans hoff), State.emit_hostWrite hoff]
    simp
  unfold State.complete
  dsimp only
  rw [hrun, if_neg (by decide), hfull, free, if_neg (by decide)]
  unfold State.writeCpl
  dsimp only
  split
  · obtain ⟨⟨post, hout⟩, -, -⟩ := State.raise_spec
      (((((s.emit _).emit _).setF (R.HI_RING_CPTR_CTAIL k) _).setF (R.HI_RING_CPTR_PHASE k) _)) _ _
    exact ⟨post, hout.trans (congrArg (· ++ post) (sent ..))⟩
  · exact ⟨[], (sent ..).trans (List.append_nil _).symm⟩

end

/-! ## The fetch (R433) -/

section
variable {s : State} {k : Fin 16} {c : Fetch} {masks : List Nat} {long secure : Bool}

/-- The fetch of a command that starts moves HEAD on and does no more. -/
theorem State.Starts.fetchCmd_eq (h : s.Starts k c long secure masks) :
    s.fetchCmd k = s.setF (R.HI_RING_PTR_HEAD k) ((s.f (R.HI_RING_PTR_HEAD k) + 1) % s.cmdSize k) := by
  obtain ⟨-, -, -, -, hcancel, -⟩ := h
  unfold State.fetchCmd
  rw [hcancel]
  rfl

/-- The state after the fetch. -/
structure Fetched (s u : State) (k : Nat) : Prop where
  eq : u = { s with regs := u.regs }
  head : u.f (R.HI_RING_PTR_HEAD k) = (s.f (R.HI_RING_PTR_HEAD k) + 1) % s.cmdSize k
  kept : FieldsKept [R.HI_RING_PTR_HEAD k] s u

theorem State.Starts.fetched (h : s.Starts k c long secure masks) : Fetched s (s.fetchCmd k) k := by
  rw [h.fetchCmd_eq]
  obtain ⟨-, -, -, hsize, -⟩ := h
  have hpos : 0 < s.cmdSize k := Nat.two_pow_pos _
  refine ⟨State.setWordsAt_eq .., (State.f_setF_self ..).trans (Nat.mod_eq_of_lt ?_), .setF s _ _⟩
  exact (Nat.mod_lt _ hpos).trans_le hsize

theorem Fetched.fab {u : State} {k : Nat} (h : Fetched s u k) : u.fab = s.fab := by rw [h.eq]
theorem Fetched.fence {u : State} {k : Nat} (h : Fetched s u k) : u.fence = s.fence := by rw [h.eq]
theorem Fetched.host {u : State} {k : Nat} (h : Fetched s u k) : u.host = s.host := by rw [h.eq]
theorem Fetched.out {u : State} {k : Nat} (h : Fetched s u k) : u.out = s.out := by rw [h.eq]

/-- A field below the rings' registers reads as before. -/
theorem Fetched.f_low {u : State} {k : Nat} (h : Fetched s u k) {x : Fld} (hx : x.base + 4 * x.words ≤ 0x600000) : u.f x = s.f x := by
  refine h.kept x fun y hy => .inr (.inl ?_)
  obtain rfl := List.mem_singleton.mp hy
  simp only [R.HI_RING_PTR_HEAD, Fld.base] at hx ⊢
  omega

/-- Another field of the rings reads as before. -/
theorem Fetched.f_ring {u : State} {k : Nat} (h : Fetched s u k) {x : Fld} (hx : (R.HI_RING_PTR_HEAD k).apart x) : u.f x = s.f x :=
  h.kept x fun y hy => by rw [List.mem_singleton.mp hy]; exact hx

/-! ## A command that completes -/

/-- A command that its start completes without a further effect. -/
theorem State.Starts.completed (h : s.Starts k c true false masks) {opcode : Nat} {body : State → CmdRes} {status result : Nat}
    (hb : body (s.fetchCmd k) = resDone (s.fetchCmd k) status result) :
    Completed s (s.startCmd k c opcode true false masks body) k c status result ∧ (s.startCmd k c opcode true false masks body).fab = s.fab := by
  have fetched := h.fetched
  obtain ⟨hs, -, hc, -, -, hfull, hwait, hoff⟩ := h
  have hrun : s.f (R.HI_RING_STATUS_STATE k) = ringRunning := by
    simp only [State.canStart, Bool.and_eq_true, beq_iff_eq] at hs
    exact hs.1.1.1.1.1
  rw [startCmd_completes hs hc hb]
  generalize s.fetchCmd k = u at fetched
  have ring (x : Fld) (hx : (R.HI_RING_PTR_HEAD k).apart x) : u.f x = s.f x := fetched.f_ring hx
  have hstate : u.f (R.HI_RING_STATUS_STATE k) = s.f (R.HI_RING_STATUS_STATE k) := ring _ (.inr (.inl (by
    simp only [R.HI_RING_STATUS_STATE, R.HI_RING_PTR_HEAD, Fld.base, Fld.words]; omega)))
  have hsize : u.f (R.HI_RING_SIZE_CPL_LOG2 k) = s.f (R.HI_RING_SIZE_CPL_LOG2 k) := ring _ (.inr (.inl (by
    simp only [R.HI_RING_SIZE_CPL_LOG2, R.HI_RING_PTR_HEAD, Fld.base, Fld.words]; omega)))
  have htail : u.f (R.HI_RING_CPTR_CTAIL k) = s.f (R.HI_RING_CPTR_CTAIL k) := ring _ (.inl (by
    simp only [R.HI_RING_CPTR_CTAIL, R.HI_RING_PTR_HEAD, Fld.base, Fld.words]; omega))
  have hhead : u.f (R.HI_RING_CPTR_CHEAD k) = s.f (R.HI_RING_CPTR_CHEAD k) := ring _ (.inl (by
    simp only [R.HI_RING_CPTR_CHEAD, R.HI_RING_PTR_HEAD, Fld.base, Fld.words]; omega))
  have hphase : u.f (R.HI_RING_CPTR_PHASE k) = s.f (R.HI_RING_CPTR_PHASE k) := ring _ (.inl (by
    simp only [R.HI_RING_CPTR_PHASE, R.HI_RING_PTR_HEAD, Fld.base, Fld.words]; omega))
  have hbase : u.f (R.HI_RING_CBASE k) = s.f (R.HI_RING_CBASE k) := ring _ (.inl (by
    simp only [R.HI_RING_CBASE, R.HI_RING_PTR_HEAD, Fld.base, Fld.words]; omega))
  have room : u.cplFull k = false := by
    unfold State.cplFull State.cplSize at hfull ⊢
    rw [htail, hsize, hhead, hfull]
  obtain ⟨post, hout⟩ := State.complete_out (s := u) (k := k) c.entry.tag c.entry.irq status result (hstate.trans hrun) room
    (by rw [fetched.host]; exact hwait) ((State.hostOff_congr fetched.fence).trans hoff)
  rw [hbase, htail, hphase, fetched.head, fetched.out] at hout
  refine ⟨⟨?_, [], post, hout⟩, ?_⟩
  · rw [(u.complete_keeps k c.entry.tag c.entry.irq status 1 result).1 _ (cplFlds_apart_head k), fetched.head]
  · obtain ⟨_, _, _, _, heq⟩ := (RingsOnly.complete u k c.entry.tag c.entry.irq status 1 result).eq
    rw [heq]
    exact fetched.fab

/-! ## A command that goes on -/

/-- From `t`, which a command's own start leaves, to `u`: the command is the last of the long ones, and besides the start has written the
rings' registers alone. -/
structure LongStarted (t u : State) (k : Nat) (c : Fetch) : Prop where
  rings : RingsOnly t u
  head : u.f (R.HI_RING_PTR_HEAD k) = t.f (R.HI_RING_PTR_HEAD k)
  longs : ∃ l : LongCmd, u.host.longs = t.host.longs ++ [l] ∧ l.ring = k ∧ l.entry.tag = c.entry.tag ∧ l.reads = c.reads ∧ l.stopped = false
  work : u.f R.HI_WORK_LONG = (t.host.longs.length + 1) % 2 ^ 4

theorem State.syncWork_spec (s : State) : s.syncWork.f R.HI_WORK_LONG = s.host.longs.length % 2 ^ 4 ∧
    s.syncWork.f (R.HI_RING_PTR_HEAD k) = s.f (R.HI_RING_PTR_HEAD k) ∧ s.syncWork.host = s.host := by
  unfold State.syncWork
  refine ⟨(State.f_setF_apart _ _ _ _ ?_).trans (State.f_setF_self ..), (State.f_setF_apart _ _ _ _ (.inl ?_)).trans
    (State.f_setF_apart _ _ _ _ (.inl ?_)), (State.setF_host ..).trans (State.setF_host ..)⟩
  · exact .inr (.inr ⟨rfl, rfl, .inr (by decide)⟩)
  all_goals
    simp only [R.HI_WORK_LONG, R.HI_WORK_DEFERRED, R.HI_RING_PTR_HEAD, Fld.base, Fld.words]
    omega

theorem State.partialEntry_keeps (s : State) (l : LongCmd) :
    FieldsKept (cplFlds l.ring) s (s.partialEntry l) ∧ (s.partialEntry l).host.longs = s.host.longs := by
  unfold State.partialEntry
  split
  · exact s.complete_keeps ..
  · exact ⟨fun _ _ => rfl, rfl⟩

theorem startCmd_long (hs : s.canStart k c.entry true = true) (hc : c.entry.clean masks = true) {opcode : Nat} {body : State → CmdRes}
    (hk : (body (s.fetchCmd k)).kind = 2) :
    LongStarted (body (s.fetchCmd k)).st (s.startCmd k c opcode true false masks body) k c := by
  have hc' : ({ c.entry with opcode := BitVec.ofNat 16 opcode } : CmdEntry).clean masks = true := hc
  unfold State.startCmd
  rw [if_neg (by simp [hs])]
  dsimp only
  rw [if_neg (by simp), if_neg (by simp [hc'])]
  generalize body (s.fetchCmd k) = r at hk
  rw [hk, if_neg (by decide), if_neg (by decide)]
  generalize hl : (⟨k, { c.entry with opcode := BitVec.ofNat 16 opcode }, 1, r.phase, r.pos, r.aux, c.reads, c.env, false⟩ : LongCmd) = l
  have hring : l.ring = k := by rw [← hl]
  have htag : l.entry.tag = c.entry.tag := by rw [← hl]
  have hreads : l.reads = c.reads := by rw [← hl]
  have hstop : l.stopped = false := by rw [← hl]
  generalize r.st = t
  have placed : RingsOnly t { t with host := { t.host with longs := t.host.longs ++ [l] } } := .host t _
  have hhead : ({ t with host := { t.host with longs := t.host.longs ++ [l] } } : State).f (R.HI_RING_PTR_HEAD k) = t.f (R.HI_RING_PTR_HEAD k) :=
    State.f_congr (by rfl) _
  have hlongs : ({ t with host := { t.host with longs := t.host.longs ++ [l] } } : State).host.longs = t.host.longs ++ [l] := rfl
  generalize ({ t with host := { t.host with longs := t.host.longs ++ [l] } } : State) = v at placed hhead hlongs
  obtain ⟨work, head, host⟩ := v.syncWork_spec (k := k)
  obtain ⟨kept, longs⟩ := v.syncWork.partialEntry_keeps l
  rw [hring] at kept
  refine ⟨(placed.trans (.syncWork _)).trans (.partialEntry _ _), ?_, ⟨l, ?_, hring, htag, hreads, hstop⟩, ?_⟩
  · rw [kept _ (cplFlds_apart_head k), head, hhead]
  · rw [longs, host, hlongs]
  · rw [kept _ (cplFlds_apart_work k), work, hlongs, List.length_append]
    rfl

theorem State.Starts.goesOn (h : s.Starts k c true false masks) {opcode : Nat} {body : State → CmdRes} (hk : (body (s.fetchCmd k)).kind = 2) :
    LongStarted (body (s.fetchCmd k)).st (s.startCmd k c opcode true false masks body) k c := by
  obtain ⟨hs, -, hc, -⟩ := h
  exact startCmd_long hs hc hk

theorem State.Starts.room (h : s.Starts k c true false masks) : s.host.longs.length < 8 := by
  obtain ⟨hs, -⟩ := h
  simp only [State.canStart, Bool.and_eq_true, Bool.or_eq_true, Bool.not_true, Bool.false_eq_true, false_or, decide_eq_true_eq] at hs
  exact hs.2

/-- A command whose own start leaves HEAD and the long commands as fetched goes on. -/
theorem LongStarted.continues {t u : State} (h : LongStarted t u k c) (hlen : s.host.longs.length < 8)
    (hhead : t.f (R.HI_RING_PTR_HEAD k) = (s.f (R.HI_RING_PTR_HEAD k) + 1) % s.cmdSize k) (hlongs : t.host.longs = s.host.longs) :
    Continues s u k c := by
  obtain ⟨l, happ, rest⟩ := h.longs
  refine ⟨h.head.trans hhead, ⟨l, happ.trans (by rw [hlongs]), rest⟩, h.work.trans ?_⟩
  rw [hlongs]
  exact Nat.mod_eq_of_lt (by omega)

theorem RingsOnly.fab {s t : State} (h : RingsOnly s t) : t.fab = s.fab := by
  obtain ⟨_, _, _, _, rfl⟩ := h.eq
  rfl

theorem RingsOnly.fence {s t : State} (h : RingsOnly s t) : t.fence = s.fence := by
  obtain ⟨_, _, _, _, rfl⟩ := h.eq
  rfl

/-- A command that its start lets go on without a further effect. -/
theorem State.Starts.continues (h : s.Starts k c true false masks) {opcode : Nat} {body : State → CmdRes}
    (hk : (body (s.fetchCmd k)).kind = 2) (hst : (body (s.fetchCmd k)).st = s.fetchCmd k) :
    let t := s.startCmd k c opcode true false masks body
    Continues s t k c ∧ t.fab = s.fab ∧ t.mem = s.mem ∧ t.clk = s.clk := by
  have started := h.goesOn (opcode := opcode) hk
  have fetched := h.fetched
  rw [hst] at started
  generalize s.fetchCmd k = u at started fetched
  have whole := fetched.eq
  refine ⟨started.continues h.room fetched.head (by rw [fetched.host]), started.rings.fab.trans fetched.fab, started.rings.mem.trans ?_,
    started.rings.clk.trans ?_⟩
  · rw [whole]
  · rw [whole]

end

end Sys2Proof.Machine
end

section
/-!
PROOF. The commands KERNEL_LOAD, UCODE_LOAD, FORGE_RELOAD and FORGE_OFFLINE at their start (spec/06_anvil_programming.md, R218, R225, R226,
R605; spec/05, R181). That an OFFLINE forge enters OFFLINE again is log entry 74.
-/
namespace Sys2Proof.Machine

/-! ## The loads -/

section
variable {s : State} {image : HostRead}

theorem kernelLoadStart_goesOn (himage : image ≠ none) (hlong : ∀ l ∈ s.host.longs, l.entry.opcode ≠ 0x30 ∧ l.entry.opcode ≠ 0x31) :
    kernelLoadStart image s = { st := s, kind := 2, aux := [0] } := by
  have free : (s.host.longs.any fun c => c.entry.opcode == 0x30 || c.entry.opcode == 0x31) = false := by simpa using hlong
  unfold kernelLoadStart
  rw [free, if_neg (by decide), if_neg (by simpa using himage)]

theorem ucodeLoadStart_pinned (h : s.pinRuns = true) : ucodeLoadStart image s = resDone s stRefusedBusy := by
  unfold ucodeLoadStart
  rw [h]
  rfl

theorem ucodeLoadStart_goesOn (himage : image ≠ none) (hpin : s.pinRuns = false)
    (hlong : ∀ l ∈ s.host.longs, l.entry.opcode ≠ 0x30 ∧ l.entry.opcode ≠ 0x31 ∧ l.entry.opcode ≠ 0x32 ∧ l.entry.opcode ≠ 0x33) :
    ucodeLoadStart image s = { st := s, kind := 2, aux := [0] } := by
  have free : (s.host.longs.any fun c => [0x30, 0x31, 0x32, 0x33].contains c.entry.opcode.toNat) = false := by
    rw [List.any_eq_false]
    intro l hl hmem
    obtain ⟨h0, h1, h2, h3⟩ := hlong l hl
    have differs (n : Nat) (hn : l.entry.opcode ≠ BitVec.ofNat 16 n) (hw : n < 2 ^ 16) : l.entry.opcode.toNat ≠ n := fun he =>
      hn (BitVec.eq_of_toNat_eq (by rw [BitVec.toNat_ofNat, Nat.mod_eq_of_lt hw, he]))
    have e0 := differs 0x30 h0 (by decide)
    have e1 := differs 0x31 h1 (by decide)
    have e2 := differs 0x32 h2 (by decide)
    have e3 := differs 0x33 h3 (by decide)
    simp [e0, e1, e2, e3] at hmem
  unfold ucodeLoadStart
  rw [hpin, free, if_neg (by decide), if_neg (by simpa using himage)]

end

/-! ## FORGE_RELOAD -/

section
variable {s : State} {f : Nat}

theorem State.forgeUp_blk (h : s.forgeUp f = true) : s.blk (0x20 + f) = .running := by
  unfold State.forgeUp State.isRunning at h
  simp only [Bool.and_eq_true, beq_iff_eq] at h
  exact h.1

theorem forgeReloadStart_pinned (h : s.flag (R.FRG_STATUS_PINNED f) = true) : forgeReloadStart f s = resDone s stRefusedBusy := by
  unfold forgeReloadStart
  rw [h]
  rfl

/-- A forge out of quarantine (R230). -/
def State.unquarantined (s : State) (f : Nat) : State :=
  let t := s.setB (R.FRG_MC_STATUS_QUARANTINE f) false
  if s.flag (R.FRG_MC_STATUS_QUARANTINE f) then { t with fab := { t.fab with checks := tset (fun _ => []) t.fab.checks f [] } } else t

theorem forgeReloadStart_eq (hpin : s.flag (R.FRG_STATUS_PINNED f) = false) (hheld : s.forgeHeld f = false) (hblk : s.blk (0x20 + f) ≠ .fenced) :
    forgeReloadStart f s = { st := ((s.unquarantined f).reloadTry f).1, kind := 2, phase := if ((s.unquarantined f).reloadTry f).2 then 1 else 0 } := by
  unfold forgeReloadStart
  rw [hpin, hheld, if_neg (by decide), if_neg (by simpa using hblk)]
  rfl

/-- What the end of a quarantine changes: the flag, and the checks noted. -/
structure Unquarantined (s t : State) (f : Nat) : Prop where
  eq : ∃ checks, t = { s with regs := t.regs, sets := t.sets, fab := { s.fab with checks := checks } }
  kept : FieldsKept [R.FRG_MC_STATUS_QUARANTINE f] s t
  clear : t.flag (R.FRG_MC_STATUS_QUARANTINE f) = false
  same : s.flag (R.FRG_MC_STATUS_QUARANTINE f) = false → t.fab = s.fab

theorem State.unquarantined_spec (s : State) (f : Nat) : Unquarantined s (s.unquarantined f) f := by
  have heq := s.setB_eq (R.FRG_MC_STATUS_QUARANTINE f) false
  have hkept := FieldsKept.setB s (R.FRG_MC_STATUS_QUARANTINE f) false
  have hclear := State.flag_setB_self s (R.FRG_MC_STATUS_QUARANTINE f) false Nat.one_pos
  have hfab : (s.setB (R.FRG_MC_STATUS_QUARANTINE f) false).fab = s.fab := State.setB_fab ..
  unfold State.unquarantined
  generalize s.setB (R.FRG_MC_STATUS_QUARANTINE f) false = t at heq hkept hclear hfab
  dsimp only
  split
  · next hq =>
    refine ⟨⟨tset (fun _ => []) s.fab.checks f [], ?_⟩, fun y hy => (State.f_congr (by rfl) y).trans (hkept y hy),
      (State.flag_congr (State.f_congr (by rfl) _)).trans hclear,
      fun h => absurd (hq.symm.trans h) (by decide)⟩
    rw [heq]
  · exact ⟨⟨s.fab.checks, by rw [heq]⟩, hkept, hclear, fun _ => hfab⟩

namespace Unquarantined
variable {t : State}

theorem fence (h : Unquarantined s t f) : t.fence = s.fence := by obtain ⟨_, he⟩ := h.eq; rw [he]
theorem host (h : Unquarantined s t f) : t.host = s.host := by obtain ⟨_, he⟩ := h.eq; rw [he]
theorem reloadOf (h : Unquarantined s t f) : t.reloadOf f = s.reloadOf f := by obtain ⟨_, he⟩ := h.eq; unfold State.reloadOf; rw [he]
theorem blk (h : Unquarantined s t f) (b : Nat) : t.blk b = s.blk b := State.blk_of_fence h.fence b
theorem forgeUp (h : Unquarantined s t f) : t.forgeUp f = s.forgeUp f := by
  have hdrain : t.fab.drain = s.fab.drain := by obtain ⟨_, he⟩ := h.eq; rw [he]
  unfold State.forgeUp State.isRunning
  rw [h.blk, hdrain]

/-- A field outside the word of the machine checks reads as before. -/
theorem f_out (h : Unquarantined s t f) {x : Fld} (hx : x.base + 4 * x.words ≤ 0x100400 + 0x4000 * f ∨ 0x100404 + 0x4000 * f ≤ x.base) :
    t.f x = s.f x := by
  refine h.kept x fun y hy => ?_
  obtain rfl := List.mem_singleton.mp hy
  simp only [Fld.apart, R.FRG_MC_STATUS_QUARANTINE, Fld.base, Fld.words] at hx ⊢
  omega

end Unquarantined

theorem State.reloadTry_runs (h : s.reloadOf f ≠ 0) : s.reloadTry f = (s, true) := if_pos (by simpa using h)

theorem State.reloadTry_offline (h0 : s.reloadOf f = 0) (h : s.blk (0x20 + f) = .offline) :
    s.reloadTry f = ((s.fenceEnter (0x20 + f) .offline).reloadStart f, true) :=
  (if_neg (by simp [h0])).trans (if_pos (by simp [h]))

theorem State.reloadTry_up (h0 : s.reloadOf f = 0) (h : s.forgeUp f = true) : s.reloadTry f = ((s.forgeLeave f).reloadStart f, true) :=
  (if_neg (by simp [h0])).trans ((if_neg (by simp [State.forgeUp_blk h])).trans (if_pos h))

/-- The start of a reload writes RELOADING alone among the fields. -/
theorem State.f_reloadStart (s : State) (f : Nat) {x : Fld}
    (hx : x.base + 4 * x.words ≤ 0x100400 + 0x4000 * f ∨ 0x100404 + 0x4000 * f ≤ x.base) : (s.reloadStart f).f x = s.f x := by
  unfold State.reloadStart
  refine (FieldsKept.setB _ _ _ _ fun y hy => ?_).trans (State.f_congr (by rfl) x)
  obtain rfl := List.mem_singleton.mp hy
  simp only [Fld.apart, R.FRG_MC_STATUS_RELOADING, Fld.base, Fld.words] at hx ⊢
  omega

theorem State.reloadStart_host (s : State) (f : Nat) : (s.reloadStart f).host = s.host := (State.setB_host ..).trans rfl

theorem ringHead_out (hf : f < 32) (k : Nat) : (R.HI_RING_PTR_HEAD k).base + 4 * (R.HI_RING_PTR_HEAD k).words ≤ 0x100400 + 0x4000 * f ∨
    0x100404 + 0x4000 * f ≤ (R.HI_RING_PTR_HEAD k).base := by
  simp only [R.HI_RING_PTR_HEAD, Fld.base]
  omega

/-- A field of one word reads as before when that word does. -/
theorem State.f_of_word {s t : State} {x : Fld} (hx : x.words = 1) (h : t.word x.base = s.word x.base) : t.f x = s.f x := by
  unfold State.f
  rw [hx]
  unfold State.wordsAt
  rw [h]
  rfl

/-- A ring's HEAD stays when a forge leaves service. -/
theorem State.f_forgeLeave_head (hf : f < 32) (k : Fin 16) : (s.forgeLeave f).f (R.HI_RING_PTR_HEAD k) = s.f (R.HI_RING_PTR_HEAD k) := by
  rw [State.f_of_word (show (R.HI_RING_PTR_HEAD k).words = 1 by simp [R.HI_RING_PTR_HEAD, Fld.words]) ((Retires.forgeLeave s f).words _ ?_)]
  · refine (State.f_congr (by rfl) _).trans (s.f_fenceEnter_forge hf .offline ?_)
    simp only [R.HI_RING_PTR_HEAD, Fld.base]
    omega
  · have := k.isLt
    simp only [R.HI_RING_PTR_HEAD, Fld.base]
    unfold RetiredWord keptWord
    simp only [Bool.or_eq_false_iff, Bool.and_eq_false_iff, decide_eq_false_iff_not]
    omega

theorem State.fenceEnter_host (s : State) (b : Nat) (v : BlkState) : (s.fenceEnter b v).host = s.host := by
  rw [(FenceOnly.fenceEnter s b v).eq]

/-- The reload of an OFFLINE forge starts with the next epoch (log entry 74). -/
theorem State.reloadAgain_spec (hf : f < 32) (k : Fin 16) : let t := (s.fenceEnter (0x20 + f) .offline).reloadStart f
    t.f (R.HI_RING_PTR_HEAD k) = s.f (R.HI_RING_PTR_HEAD k) ∧ t.host = s.host ∧ t.blk (0x20 + f) = .offline ∧ t.reloadOf f = 15 ∧
      t.flag (R.FRG_MC_STATUS_RELOADING f) = true ∧ t.f (epochFld (0x20 + f)) = (s.f (epochFld (0x20 + f)) + 1) % 2 ^ 8 := by
  obtain ⟨ends, count, reloading, -⟩ := (s.fenceEnter (0x20 + f) .offline).reloadStart_ends f
  refine ⟨?_, (State.reloadStart_host ..).trans (State.fenceEnter_host ..), ends.blk.trans ((s.fenceEnter_blk ..).trans (if_pos rfl)), count,
    reloading, (State.f_reloadStart _ f (.inl ?_)).trans (s.fenceEnter_epoch ..)⟩
  · refine (State.f_reloadStart _ f (ringHead_out hf k)).trans (s.f_fenceEnter_forge hf .offline ?_)
    simp only [R.HI_RING_PTR_HEAD, Fld.base]
    omega
  · simp only [epochFld, Fld.base, Fld.words]
    omega

/-- The reload of a forge in service takes it out of service. -/
theorem State.reloadOut_spec (hf : f < 32) (k : Fin 16) : let t := (s.forgeLeave f).reloadStart f
    t.f (R.HI_RING_PTR_HEAD k) = s.f (R.HI_RING_PTR_HEAD k) ∧ t.blk (0x20 + f) = .offline ∧ t.reloadOf f = 15 ∧
      t.flag (R.FRG_MC_STATUS_RELOADING f) = true ∧ t.flag (R.FRG_MC_STATUS_QUARANTINE f) = s.flag (R.FRG_MC_STATUS_QUARANTINE f) := by
  obtain ⟨ends, count, reloading, kept⟩ := (s.forgeLeave f).reloadStart_ends f
  refine ⟨(State.f_reloadStart _ f (ringHead_out hf k)).trans (State.f_forgeLeave_head hf k), ends.blk.trans (State.forgeLeave_blk hf), count,
    reloading, kept.trans (State.flag_congr (State.f_forgeLeave hf ?_ ?_))⟩
  all_goals
    simp only [R.FRG_MC_STATUS_QUARANTINE, Fld.base, Fld.words]
    omega

end

/-! ## FORGE_OFFLINE -/

section
variable {s : State} {f : Nat}

theorem forgeOfflineStart_pinned (h : s.flag (R.FRG_STATUS_PINNED f) = true) : forgeOfflineStart f s = resDone s stRefusedBusy := by
  unfold forgeOfflineStart
  rw [h]
  rfl

section
variable (hpin : s.flag (R.FRG_STATUS_PINNED f) = false) (hheld : s.forgeHeld f = false)
include hpin hheld

theorem forgeOfflineStart_running (hblk : s.blk (0x20 + f) = .running) : forgeOfflineStart f s = { st := s, kind := 2 } := by
  unfold forgeOfflineStart
  rw [hpin, hheld, hblk]
  rfl

theorem forgeOfflineStart_offline (hblk : s.blk (0x20 + f) = .offline) (h0 : s.reloadOf f = 0) :
    forgeOfflineStart f s = resDone s stTargetOffline := by
  unfold forgeOfflineStart
  rw [hpin, hheld, hblk, h0]
  rfl

end

end

/-! ## The fetched state -/

section
variable {s u : State} {k : Nat} (h : Fetched s u k)
include h

theorem Fetched.pinned (f : Nat) (hf : f < 32) : u.flag (R.FRG_STATUS_PINNED f) = s.flag (R.FRG_STATUS_PINNED f) := by
  refine State.flag_congr (h.f_low ?_)
  simp only [R.FRG_STATUS_PINNED, Fld.base, Fld.words]
  omega

theorem Fetched.quarantined (f : Nat) (hf : f < 32) : u.flag (R.FRG_MC_STATUS_QUARANTINE f) = s.flag (R.FRG_MC_STATUS_QUARANTINE f) := by
  refine State.flag_congr (h.f_low ?_)
  simp only [R.FRG_MC_STATUS_QUARANTINE, Fld.base, Fld.words]
  omega

theorem Fetched.pinRuns : u.pinRuns = s.pinRuns := by
  unfold State.pinRuns
  rw [Bool.eq_iff_iff, List.any_eq_true, List.any_eq_true]
  refine exists_congr fun f => and_congr_right fun hf => ?_
  rw [h.pinned f (List.mem_range.mp hf)]

theorem Fetched.forgeHeld (f : Nat) : u.forgeHeld f = s.forgeHeld f := by
  unfold State.forgeHeld
  rw [h.host]

theorem Fetched.blk (b : Nat) : u.blk b = s.blk b := State.blk_of_fence h.fence b

theorem Fetched.reloadOf (f : Nat) : u.reloadOf f = s.reloadOf f := by
  unfold State.reloadOf
  rw [h.fab]

theorem Fetched.forgeUp (f : Nat) : u.forgeUp f = s.forgeUp f := by
  unfold State.forgeUp State.isRunning
  rw [h.blk, h.fab]

end

/-! ## FORGE_RELOAD as a command -/

section
variable {s : State} {k : Fin 16} {c : Fetch}

/-- FORGE_RELOAD of a forge that no command holds goes on, from what its try to start a reload leaves. -/
theorem forgeReload_started {f : Nat} (hf : f < 32) (h : s.Starts k c true false [0x1F]) (hpin : s.flag (R.FRG_STATUS_PINNED f) = false)
    (hheld : s.forgeHeld f = false) (hblk : s.blk (0x20 + f) ≠ .fenced) : ∃ u, Unquarantined (s.fetchCmd k) u f ∧
      LongStarted (u.reloadTry f).1 (s.startCmd k c 0x32 true false [0x1F] (forgeReloadStart f)) k c := by
  have fetched := h.fetched
  have eq := forgeReloadStart_eq (s := s.fetchCmd k) (f := f) ((fetched.pinned f hf).trans hpin) ((fetched.forgeHeld f).trans hheld)
    (by rw [fetched.blk]; exact hblk)
  refine ⟨_, State.unquarantined_spec _ f, ?_⟩
  have started := h.goesOn (opcode := 0x32) (body := forgeReloadStart f) (by rw [eq])
  rwa [eq] at started

theorem Unquarantined.head {s t : State} {f : Nat} (h : Unquarantined s t f) (hf : f < 32) (k : Nat) :
    t.f (R.HI_RING_PTR_HEAD k) = s.f (R.HI_RING_PTR_HEAD k) := h.f_out (ringHead_out hf k)

theorem LongStarted.f_forge {t u : State} {k f : Nat} (h : LongStarted t u k c) (hf : f < 32) {x : Fld}
    (hx : x.base + 4 * x.words ≤ 0x104000 + 0x4000 * f) : u.f x = t.f x := h.rings.f_eq (by omega)

theorem LongStarted.reloadOf {t u : State} {k : Nat} (h : LongStarted t u k c) (f : Nat) : u.reloadOf f = t.reloadOf f := by
  unfold State.reloadOf
  rw [h.rings.fab]

end

end Sys2Proof.Machine

open Sys2Proof Sys2Proof.Machine

/-- Settles O39: each command's own start in each case, then the one lemma about a start that completes and the one about a start that goes
on. That FORGE_RELOAD of an OFFLINE forge enters OFFLINE again with the next epoch is the model's choice (log entry 74). -/
theorem forgeCommands : Obligations.ForgeCommands := by
  unfold Obligations.ForgeCommands
  intro k c s f
  have hf : f < 32 := Nat.mod_lt _ (by decide)
  refine ⟨fun h himage hlong _ => ?kernel, fun h => ⟨fun himage hlong hpin => ?ucode, fun hpin => ?ucodeBusy⟩, fun h => ?forge⟩
  case kernel =>
    have eq := kernelLoadStart_goesOn (s := s.fetchCmd k) himage (by rw [h.fetched.host]; exact hlong)
    exact ⟨_, rfl, h.continues (by rw [eq]) (by rw [eq])⟩
  case ucode =>
    have eq := ucodeLoadStart_goesOn (s := s.fetchCmd k) himage (h.fetched.pinRuns.trans hpin) (by rw [h.fetched.host]; exact hlong)
    obtain ⟨goes, hfab, hmem, -⟩ := h.continues (opcode := 0x31) (body := ucodeLoadStart (c.read 0)) (by rw [eq]) (by rw [eq])
    exact ⟨_, rfl, goes, hfab, hmem⟩
  case ucodeBusy => exact ⟨_, rfl, h.completed (ucodeLoadStart_pinned (h.fetched.pinRuns.trans hpin))⟩
  case forge =>
    have fetched := h.fetched
    refine ⟨fun hpin => ?_, fun hpin hheld => ⟨fun hn hblk hq => ?joins, fun h0 hup _ _ => ?out, fun h0 hblk => ?again, fun hblk => ?goesOffline,
      fun hblk h0 => ?isOffline⟩⟩
    · have hpin' := (fetched.pinned f hf).trans hpin
      exact ⟨⟨_, rfl, h.completed (forgeReloadStart_pinned hpin')⟩, _, rfl, h.completed (forgeOfflineStart_pinned hpin')⟩
    case joins =>
      obtain ⟨u, hu, started⟩ := forgeReload_started hf h hpin hheld (by rw [hblk]; decide)
      rw [State.reloadTry_runs (by rwa [hu.reloadOf, fetched.reloadOf])] at started
      refine ⟨_, rfl, started.continues h.room ((hu.head hf k).trans fetched.head) (by rw [hu.host, fetched.host]), ?_⟩
      exact started.rings.fab.trans ((hu.same ((fetched.quarantined f hf).trans hq)).trans fetched.fab)
    case out =>
      obtain ⟨u, hu, started⟩ := forgeReload_started hf h hpin hheld (by rw [State.forgeUp_blk hup]; decide)
      rw [State.reloadTry_up (hu.reloadOf.trans ((fetched.reloadOf f).trans h0)) (hu.forgeUp.trans ((fetched.forgeUp f).trans hup))] at started
      obtain ⟨head, offline, count, reloading, kept⟩ := State.reloadOut_spec (s := u) hf k
      refine ⟨_, rfl, started.head.trans (head.trans ((hu.head hf k).trans fetched.head)), (State.blk_of_fence started.rings.fence _).trans offline,
        (started.reloadOf f).trans count, (State.flag_congr (started.f_forge hf ?_)).trans reloading,
        (State.flag_congr (started.f_forge hf ?_)).trans (kept.trans hu.clear)⟩
      · simp only [R.FRG_MC_STATUS_RELOADING, Fld.base, Fld.words]
        omega
      · simp only [R.FRG_MC_STATUS_QUARANTINE, Fld.base, Fld.words]
        omega
    case again =>
      obtain ⟨u, hu, started⟩ := forgeReload_started hf h hpin hheld (by rw [hblk]; decide)
      rw [State.reloadTry_offline (hu.reloadOf.trans ((fetched.reloadOf f).trans h0)) ((hu.blk _).trans ((fetched.blk _).trans hblk))] at started
      obtain ⟨head, host, offline, count, reloading, epoch⟩ := State.reloadAgain_spec (s := u) hf k
      have low : (epochFld (0x20 + f)).base + 4 * (epochFld (0x20 + f)).words ≤ 0x100400 := by
        simp only [epochFld, Fld.base, Fld.words]
        omega
      refine ⟨_, rfl, started.continues h.room (head.trans ((hu.head hf k).trans fetched.head)) (by rw [host, hu.host, fetched.host]),
        (State.blk_of_fence started.rings.fence _).trans offline, (started.reloadOf f).trans count,
        (State.flag_congr (started.f_forge hf ?_)).trans reloading, ?_⟩
      · simp only [R.FRG_MC_STATUS_RELOADING, Fld.base, Fld.words]
        omega
      · rw [started.f_forge hf (by omega), epoch, hu.f_out (.inl (by omega)), fetched.f_low (by omega)]
    case goesOffline =>
      have eq := forgeOfflineStart_running ((fetched.pinned f hf).trans hpin) ((fetched.forgeHeld f).trans hheld) ((fetched.blk _).trans hblk)
      obtain ⟨goes, hfab, -, -⟩ := h.continues (opcode := 0x33) (body := forgeOfflineStart f) (by rw [eq]) (by rw [eq])
      exact ⟨_, rfl, goes, hfab⟩
    case isOffline =>
      exact ⟨_, rfl, h.completed (forgeOfflineStart_offline ((fetched.pinned f hf).trans hpin) ((fetched.forgeHeld f).trans hheld)
        ((fetched.blk _).trans hblk) ((fetched.reloadOf f).trans h0))⟩
end
